-- ==== Sys2Proof/Word.lean ====
section
/-! DEFINITION. The word types of the block, and the sparse table type: no operation stands here. -/

namespace Sys2Proof

/-- A byte of memory. -/
abbrev Byte := BitVec 8

/-- A 64-bit register, record word or flit. -/
abbrev Word := BitVec 64

/-- A tile element of the Saffron unit (R308). -/
abbrev Elt := BitVec 16

/-- A status code (R16). -/
abbrev Status := BitVec 8

/-- A sparse table: (index, entry) pairs, indices strictly rising, no entry equal to the
table's reset entry. An index that is not listed holds the reset entry. The operations on it
(`Machine.tget`, `Machine.tset`) keep that form. -/
abbrev Tab (α : Type) := List (Nat × α)

end Sys2Proof
end

