-- ==== Sys2Proof/Config.lean ====
section
/-! DEFINITION. What one instance of the block fixes: the status codes (R519), the synthesis
parameters (R67, R68) as plain data, and the free values the spec leaves open. -/

namespace Sys2Proof

namespace Status
/-- R519: no other status applies. -/
def ok : Status := 0x00#8
/-- R519. -/
def empty : Status := 0x01#8
/-- R519. -/
def truncated : Status := 0x02#8
/-- R519. -/
def parked : Status := 0x03#8
/-- R519. -/
def poisoned : Status := 0x10#8
/-- R519. -/
def ownerLost : Status := 0x11#8
/-- R519. -/
def aborted : Status := 0x12#8
/-- R519. -/
def fenceCycle : Status := 0x13#8
/-- R519. -/
def privilege : Status := 0x14#8
/-- R519. -/
def format : Status := 0x15#8
/-- R519. -/
def ecc : Status := 0x16#8
/-- R519. -/
def indirectFault : Status := 0x17#8
/-- R519. -/
def mismatch : Status := 0x18#8
/-- R519. -/
def version : Status := 0x19#8
/-- R519. -/
def staleHandle : Status := 0x1A#8
/-- R519. -/
def capacity : Status := 0x1B#8
end Status

/-- Synthesis parameters of one Bead. `lane` is 0 to 23, or 255 for the local lane. -/
structure BeadParams where
  lane : Nat := 0
  slots : Nat := 40
  chnQueues : Nat := 128
  deriving DecidableEq, Repr

/-- The synthesis parameters of "Synthesis parameters" (R67, R68). -/
structure Params where
  beads : List BeadParams
  remoteLanes : Nat
  localLane : Bool
  nodeCache : Nat
  saffron : Bool
  seqTable : Bool
  links : Nat
  evTargets : Nat
  extEvents : Nat
  deriving DecidableEq, Repr

/-- The sixteen-Bead instance of the spec's worked example ("a sixteen-Bead instance"): the
instance that `State.reset` describes. DESIGN CHOICE (log 2): the spec fixes no one instance. -/
def Params.sixteenBead : Params where
  beads := (List.range 16).map fun b => { lane := b / 2 }
  remoteLanes := 8
  localLane := false
  nodeCache := 262144
  saffron := true
  seqTable := true
  links := 8
  evTargets := 24
  extEvents := 0

/-- The n-th value that the spec leaves open: no body, so nothing can be proved of it (DESIGN CHOICE, log 4). -/
opaque freeWord : Nat → Word

/-- What the rules of creations and of work lists leave open for a node of a submission: it depends on the descriptor, the node's index
and the number of the value alone, so that two runs of one setup agree (R457; DESIGN CHOICE, logs 30 and 34). -/
opaque freeCreation : List Word → Nat → Nat → Word

end Sys2Proof
end

