-- ==== Sys2Proof/Syntax.lean ====
section
/-! DEFINITION. The commands of the block: one constructor per row of spec/opcode_table.json,
with the operands that the surroundings or another part of the block supply. -/

namespace Sys2Proof

/-- What goes with a target-port access: `tp_req_priv` and `tp_req_src`. -/
structure Acc where
  priv : Bool
  src : BitVec 4
  deriving DecidableEq, Repr

/-- An error that the surroundings' memory answers during a step: any access of the step that
overlaps `[base, base + len)` gets `code` (1 POISON, 2 and 3 FAULT), and `id` is the identity of the request
that it answers. -/
structure MemErr where
  base : Nat
  len : Nat
  code : BitVec 2
  id : BitVec 8 := 0
  deriving DecidableEq, Repr

/-- What the surroundings' memory returns to the reads of one step: 64-bit words at addresses
that are multiples of 8 (little-endian, R7), and the error responses in the order of their
arrival. A word that is not listed is returned as zero (DESIGN CHOICE, log 5). -/
structure MemView where
  words : List (Nat × Word) := []
  errs : List MemErr := []
  deriving DecidableEq, Repr

/-- A packet on the link port: its 64-bit words (four to a transfer), `lp_rx_bytes` of its last
transfer, and the link it arrived on. -/
structure Packet where
  words : List Word
  lastBytes : BitVec 5
  link : BitVec 4
  deriving DecidableEq, Repr

/-- The fields of a LNK record (R81). -/
structure LnkRec where
  ack : BitVec 8
  nak : Bool
  replay : Bool
  seq : BitVec 8
  crd : BitVec 7
  deriving DecidableEq, Repr

/-- What a lane end receives in place of a record: the direction, how many records come before it, and the beats
(R80). -/
structure Garbled where
  up : Bool
  after : Nat
  beats : List (BitVec 18)
  deriving DecidableEq, Repr

/-- The answer to the read of a refill (R236): its response code, and what memory holds for what proceeds then. -/
structure RefillAnswer where
  code : BitVec 2
  view : MemView
  deriving DecidableEq, Repr

/-- The fields of a Saffron instruction of format T (bits 23:0 of its word). -/
structure TFmt where
  d : BitVec 4
  a : BitVec 4
  b : BitVec 4
  c : BitVec 4
  msel : BitVec 2
  mu : Bool
  mod : BitVec 5
  deriving DecidableEq, Repr

/-- The fields of a Saffron instruction of format I. -/
structure IFmt where
  d : BitVec 4
  a : BitVec 4
  imm : BitVec 16
  deriving DecidableEq, Repr

/-- What the row of an array in error held ("Arrays and the outcome of an uncorrectable error"). -/
inductive EccHeld where
  /-- nothing that the outcome table names -/
  | none
  /-- a Clasp node entry: submission number and node index -/
  | nodeEntry (seg index : Nat)
  /-- a Clasp edge entry of a node: submission number and node index -/
  | edgeEntry (seg index : Nat)
  /-- a fence -/
  | fence (index : Nat)
  /-- a sequence entry -/
  | sequence (index : Nat)
  /-- a held completion: completion queue and position -/
  | completion (cq pos : Nat)
  /-- data of a submission -/
  | submission (seg : Nat)
  /-- a window entry of the Bead -/
  | window (win : Nat)
  /-- a word of a receive queue of the Bead -/
  | queueWord (queue word : Nat)
  /-- an entry of a Locket ring -/
  | locket (ring entry : Nat)
  deriving DecidableEq, Repr

/-- The commands of the block, in the order of spec/opcode_table.json. -/
inductive Instr where
  | coldResetAssert
  | coldResetRelease
  | storageInitDone
  | tapReset
  | registerWrite (a : Acc) (addr : BitVec 26) (size64 : Bool) (data : Word)
  | splitReadLowerHalf (a : Acc) (addr : BitVec 26)
  | splitWriteLowerHalf (a : Acc) (addr : BitVec 26) (data : BitVec 32)
  | splitWriteUpperHalf (a : Acc) (addr : BitVec 26) (data : BitVec 32)
  | memoryReadResponse (port : Nat) (id : BitVec 8) (codes : List (BitVec 2)) (data : List Word) (m : MemView)
  | memoryWriteAck (port : Nat) (id : BitVec 8) (code : BitVec 2)
  | dispatchTransfer (bead slot : Nat)
  | engineCompletion (bead slot : Nat) (tag : BitVec 12) (status : Status) (nctr : BitVec 5)
  | counterBeat (bead slot : Nat) (idx : BitVec 5) (bytes : BitVec 48)
  | slotResetRequest (bead slot : Nat)
  | slotResetAck (bead slot : Nat) (level : Bool)
  | linkUpRise (link : BitVec 4)
  | linkUpFall (link : BitVec 4)
  | packetReceived (p : Packet)
  | packetTransmitted
  | externalEventLevel (n : Nat)
  | claspSegmentUpdate (addr : BitVec 26) (write : Bool) (data : Word)
  | beadSegmentUpdate (bead : Nat) (ring entry : BitVec 8) (word : BitVec 2)
  | lnk (lane : Nat) (up : Bool) (r : LnkRec)
  | lnkAckTimer (lane : Nat) (up : Bool)
  | nakRepeatTimer (lane : Nat) (up : Bool)
  | laneTrainDoneFall (lane : Nat) (beadEnd : Bool)
  | tokenClasp (lane : Nat) (phase : BitVec 2)
  | token (lane : Nat) (phase : BitVec 2)
  | tokenAnswer (lane : Nat) (phase : BitVec 2)
  | tokenRetryTimer (lane : Nat)
  | timeEchoRequest (lane : Nat)
  | timeEchoAnswer (lane : Nat) (beats : Nat)
  | time (lane : Nat) (t : Word)
  | timePeriodic (lane : Nat)
  | node (bead : Nat) (win : BitVec 12) (gen : BitVec 16) (w0 w1 w2 w3 : Word)
  | dec (bead : Nat) (win : BitVec 12) (gen : BitVec 16) (cnt : BitVec 16)
  | fence (bead : Nat) (win : BitVec 12) (gen : BitVec 16) (status : Status)
  | cpl (bead : Nat) (win : BitVec 12) (gen : BitVec 16) (status : Status) (m : MemView)
  | ret (bead : Nat) (seg : BitVec 16) (count : BitVec 16) (last : Bool) (nctr : BitVec 5)
  | ctr (bead : Nat) (idx : BitVec 5) (bytes : BitVec 48)
  | spawn (bead : Nat) (win : BitVec 12) (w0 w1 w2 w3 : Word) (m : MemView)
  | evt (bead : Nat) (src : BitVec 11)
  | snap (bead : Nat) (src : BitVec 8) (payload : List Word)
  | set (bead : Nat) (type scope : BitVec 8) (version : BitVec 16) (bytes : List Byte) (eccBad : Bool)
  | setr (bead : Nat) (status : Status)
  | chn (up : Bool) (bead : Nat) (queue : BitVec 7) (dbead : BitVec 6) (total : BitVec 7) (flits : List Word)
  | credit (up : Bool) (bead : Nat) (queue : BitVec 7) (words : BitVec 7)
  | ctlHalt (bead : Nat) (epoch : BitVec 32)
  | ctlResume (bead : Nat)
  | ctlClear (bead : Nat) (part : BitVec 4)
  | ctlFenceOff (bead : Nat)
  | setStart (a : Acc)
  | setAbort (a : Acc)
  | settingLoadCheck (m : MemView)
  | settingActivate
  | settingLoadFail
  | settingPatch (seg index : Nat) (m : MemView)
  | patchCommit (m : MemView)
  | patchFail (m : MemView)
  | qEnable (a : Acc) (q : Nat)
  | qDisable (a : Acc) (q : Nat)
  | qForce (a : Acc) (q : Nat)
  | qCmdInvalid (a : Acc) (q : Nat) (op : BitVec 3)
  | queueDisabled (q : Nat)
  | queueForceDone (q : Nat)
  | doorbellWrite (a : Acc) (page : BitVec 8) (word : BitVec 7) (bits : BitVec 32)
  | slotMapperBind
  | tailReadReturn (slot : Nat) (code : BitVec 2) (tail : BitVec 32)
  | descriptorArrival (slot : Nat) (codes : List (BitVec 2)) (data : List Word)
  | idleTest (slot : Nat)
  | slotRelease (slot : Nat)
  | unbind (a : Acc) (slot : Nat)
  | rcbError (q : Nat) (tailRead : Bool) (code : BitVec 2)
  | stallReport (kind : BitVec 2) (unit : Nat)
  | pop (a : Acc)
  | clrLost (a : Acc)
  | checkPass (q : Nat) (m : MemView)
  | submissionPlace (q : Nat) (seg : BitVec 16) (m : MemView)
  | nodeForward (seg index : Nat) (m : MemView)
  | windowEdgesApply (bead : Nat) (win : BitVec 12)
  | bankDecrement (bead : Nat) (bank : BitVec 5)
  | nopRetire (bead : Nat) (win : BitVec 12)
  | indirectReadReturn (bead : Nat) (win : BitVec 12) (k : Nat) (code : BitVec 2) (data : Word)
  | issueSelect (bead : Nat)
  | tileListRetire (bead : Nat) (win : BitVec 12)
  | regulatorRefill
  | waitAct (seg index : Nat) (m : MemView)
  | arrivalRead (seg index : Nat) (code : BitVec 2) (data : Word) (m : MemView)
  | arrivalRereadTimer (seg index : Nat)
  | signalAct (seg index : Nat) (m : MemView)
  | fencePoison (seg index : Nat) (m : MemView)
  | submissionComplete (seg : Nat) (m : MemView)
  | pagerRefill (seg index : Nat) (answer : RefillAnswer)
  | pagerFull
  | sweep (a : Acc)
  | sweepComplete
  | clrErr (a : Acc)
  | fncAlloc (a : Acc) (index : BitVec 16) (owner : BitVec 10)
  | fncFree (a : Acc) (index : BitVec 16)
  | fncClear (a : Acc) (index : BitVec 16)
  | fncClrCount (a : Acc)
  | fncCmdInvalid (a : Acc) (op : BitVec 4) (index : BitVec 16)
  | expandStart (bead : Nat) (win : BitVec 12) (m : MemView)
  | programStart (bead : Nat) (m : MemView)
  | routingStage (bead : Nat) (m : MemView)
  | createNodes (bead : Nat) (m : MemView)
  | expansionRetire (bead : Nat)
  | joinContribution (seg index : Nat) (m : MemView)
  | planVersion (m : MemView)
  | expCfgWrite (a : Acc) (data : BitVec 32)
  | sAnd (bead : Nat) (f : TFmt)
  | sOr (bead : Nat) (f : TFmt)
  | sXor (bead : Nat) (f : TFmt)
  | sNot (bead : Nat) (f : TFmt)
  | sShl (bead : Nat) (f : TFmt)
  | sShr (bead : Nat) (f : TFmt)
  | sSar (bead : Nat) (f : TFmt)
  | sAdd (bead : Nat) (f : TFmt)
  | sAddsu (bead : Nat) (f : TFmt)
  | sAddss (bead : Nat) (f : TFmt)
  | sSub (bead : Nat) (f : TFmt)
  | sSubsu (bead : Nat) (f : TFmt)
  | sSubss (bead : Nat) (f : TFmt)
  | sMin (bead : Nat) (f : TFmt)
  | sMax (bead : Nat) (f : TFmt)
  | sCmp (bead : Nat) (f : TFmt)
  | sSel (bead : Nat) (f : TFmt)
  | sMop (bead : Nat) (f : TFmt)
  | sOkey (bead : Nat) (f : TFmt)
  | sIota (bead : Nat) (f : IFmt)
  | sFill (bead : Nat) (f : IFmt)
  | sRmin (bead : Nat) (f : TFmt)
  | sRmax (bead : Nat) (f : TFmt)
  | sRsum (bead : Nat) (f : TFmt)
  | sTopk (bead : Nat) (f : TFmt)
  | sPsum (bead : Nat) (f : TFmt)
  | sLd (bead : Nat) (f : TFmt) (m : MemView)
  | sSt (bead : Nat) (f : TFmt)
  | sScat (bead : Nat) (f : TFmt)
  | sCand (bead : Nat) (f : TFmt)
  | sSmovi (bead : Nat) (f : IFmt)
  | sSaddi (bead : Nat) (f : IFmt)
  | sSadd (bead : Nat) (f : TFmt)
  | sSld (bead : Nat) (f : IFmt) (m : MemView)
  | sSshri (bead : Nat) (f : IFmt)
  | sLoop (bead : Nat) (f : IFmt)
  | sBz (bead : Nat) (f : IFmt)
  | sEnd (bead : Nat) (f : TFmt)
  | join (a : Acc) (ctx : BitVec 10) (prio : BitVec 8) (len : BitVec 24)
  | cancel (a : Acc) (ctx : BitVec 10)
  | sqtCmdInvalid (a : Acc) (data : Word)
  | sqtCommandApply
  | poolConfigWrite (a : Acc) (cfg : Bool) (data : Word)
  | stepBuild (seg index : Nat) (m : MemView)
  | stepRetire (seg index : Nat) (m : MemView)
  | completionDelivery (cq : Nat)
  | cqHeadReread (cq : Nat)
  | cqEnable (a : Acc) (cq : Nat)
  | cqDisable (a : Acc) (cq : Nat)
  | cqResume (a : Acc) (cq : Nat)
  | cqCmdInvalid (a : Acc) (cq : Nat) (op : BitVec 3)
  | cqCfgWrite (a : Acc) (cq : Nat) (data : BitVec 32)
  | fallbackSend (cq : Nat)
  | completion (p : Packet)
  | hello (p : Packet)
  | helloRetryTimer (peer : Nat)
  | signal (p : Packet)
  | remoteSignalAct (seg index : Nat) (m : MemView)
  | peerEntryWrite (a : Acc) (peer : Nat) (data : Word)
  | selfWrite (a : Acc) (data : Word)
  | clr (a : Acc)
  | chnTxHdr (a : Acc) (bead : Nat) (port : Nat) (flits : BitVec 7)
  | chnTxData (a : Acc) (bead : Nat) (port : Nat) (flit : Word)
  | chnMessageSend (bead : Nat)
  | chnPop (a : Acc) (bead : Nat) (queue : Nat)
  | drop (a : Acc) (bead : Nat) (queue : Nat)
  | creditReturn (bead : Nat) (queue : Nat)
  | partEnable (a : Acc) (p : BitVec 4)
  | partDisable (a : Acc) (p : BitVec 4)
  | partForce (a : Acc) (p : BitVec 4)
  | partYield (a : Acc) (p : BitVec 4)
  | partCmdInvalid (a : Acc) (p : BitVec 4) (op : BitVec 3)
  | partitionCtl (seg index : Nat) (m : MemView)
  | partitionDisabled (p : BitVec 4)
  | partitionForceDone (p : BitVec 4)
  | ctxRegister (a : Acc) (ctx : BitVec 10) (part : BitVec 4)
  | ctxRelease (a : Acc) (ctx : BitVec 10)
  | ctxReset (a : Acc) (ctx : BitVec 10)
  | ctxAck (a : Acc) (ctx : BitVec 10)
  | ctxCmdInvalid (a : Acc) (data : BitVec 32)
  | contextReg (seg index : Nat) (m : MemView)
  | quantumExpiry (p : BitVec 4)
  | switchRequest (p : BitVec 4) (m : MemView)
  | switchBoundary (p : BitVec 4) (m : MemView)
  | switchSaveDone (p : BitVec 4) (m : MemView)
  | switchRestoreDone (p : BitVec 4) (m : MemView)
  | idleHint (p : BitVec 4)
  | hintTransfer (p : BitVec 4)
  | beadEnable (a : Acc) (bead : Nat)
  | beadDisable (a : Acc) (bead : Nat)
  | beadForce (a : Acc) (bead : Nat)
  | beadCmdInvalid (a : Acc) (bead : Nat) (op : BitVec 3)
  | beadDisabled (bead : Nat)
  | eventRaise (src : BitVec 11)
  | evcTgtClaim (a : Acc) (target : Nat)
  | evcTgtComplete (a : Acc) (target : Nat) (data : BitVec 32)
  | evcSwi (a : Acc) (data : BitVec 32)
  | evcPclr (a : Acc) (data : BitVec 32)
  | evcSync (a : Acc)
  | evcPendWrite (a : Acc) (w : BitVec 5) (data : Word)
  | evcMaskWrite (a : Acc) (w : BitVec 5) (data : Word)
  | evcSrcCfgWrite (a : Acc) (src : BitVec 11) (data : BitVec 32)
  | holdoffExpiry (group : BitVec 7)
  | messageWrite (target : Nat)
  | rearmTimer (target : Nat)
  | auditDigest (seg : Nat) (m : MemView)
  | audRegionWrite (a : Acc) (size : Bool) (data : Word)
  | traceEvent
  | traceStart (a : Acc)
  | traceStop (a : Acc)
  | traceTrigger (a : Acc)
  | traceClrLost (a : Acc)
  | traceCmdInvalid (a : Acc) (op : BitVec 3)
  | traceCtl (seg index : Nat) (m : MemView)
  | traceHeadWrite (a : Acc) (data : BitVec 32)
  | latchSetClose (bead : Nat) (seg : Nat)
  | breakpointHold (bead : Nat) (win : BitVec 12)
  | stopReportSend (bead : Nat)
  | stopReport (bead : Nat)
  | stopComplete
  | halt (a : Acc) (freeze : Bool)
  | resume (a : Acc)
  | lktCmdInvalid (a : Acc) (data : BitVec 32)
  | freezeComplete
  | domainOn (a : Acc) (d : Nat)
  | domainOff (a : Acc) (d : Nat)
  | domCmdInvalid (a : Acc) (op : BitVec 2) (d : Nat)
  | domainAckHigh (d : Nat)
  | domainAckLow (d : Nat)
  | domainLoss (d : Nat) (m : MemView)
  | beadDomainReturn (bead : Nat)
  | supplyWarnRise
  | supplyFrozen
  | supplyWarnFall
  | holdExpiry
  | eccCorrectable (unit : Nat) (array : BitVec 8) (row : BitVec 24)
  | eccUncorrectable (unit : Nat) (array : BitVec 8) (row : BitVec 24) (held : EccHeld) (m : MemView)
  | scrub
  | eccClr (a : Acc)
  | fenceBead (a : Acc) (bead : Nat) (m : MemView)
  | bdErrClr (a : Acc) (bead : Nat)
  | trainDoneRise (lane : Nat) (beadEnd : Bool)
  | recordCrcError (lane : Nat) (received : Garbled)
  | unreachableRead (a : Acc) (addr : BitVec 26) (size64 : Bool)
  | segmentCapture (bead : Option Nat)
  deriving DecidableEq, Repr

end Sys2Proof
end

