-- ==== Sys2Proof/Machine/State.lean ====
section
/-! DEFINITION. The state of the block as plain data: every register, queue, buffer, counter,
mode and pin that the spec names, and the queue of commands that wait. Each structure's default
values are its reset values; a table (`Tab`) lists only the entries that differ from them. -/

namespace Sys2Proof.Machine

/-- Why the machine stops. -/
inductive Fault where
  /-- Raised by DOMAIN_LOSS of domain 0 alone: R501 says that the block's behaviour is undefined
  until cold reset. Safe: the model stops where the hardware may go on. -/
  | coreDomainLost
  deriving DecidableEq, Repr

/-- Why a command has no meaning. -/
inductive Refusal where
  /-- Raised by `exec` for a command that has no meaning yet. Safe: the model stops. -/
  | notModelled (mnemonic : String)
  deriving DecidableEq, Repr

/-! ## Target port -/

/-- Target port response codes. -/
inductive TpErr where
  | ok
  | decode
  | denied
  deriving DecidableEq, Repr

/-- A response: `tp_rsp_err` and `tp_rsp_rdata`. -/
structure Rsp where
  err : TpErr
  data : Word
  deriving DecidableEq, Repr

/-- The upper half that an initiator's lower-half read captured (R14, R42). -/
structure Capture where
  offset : Nat
  upper : BitVec 32
  deriving DecidableEq, Repr

/-- The target port: captures by `tp_req_src`, staged lower halves by register offset (R43), and
the response to the last accepted request (R39). -/
structure Tp where
  ready : Bool := false
  captures : Tab (Option Capture) := []
  staged : Tab (Option (BitVec 32)) := []
  rsp : Option Rsp := none
  deriving DecidableEq, Repr

/-- The registers that a lock guards until cold reset: SET_KEYHASH (index 4s + k), SET_KEY_CFG
(R112) and CLS_AUD_PART (R456). -/
structure Keys where
  hash : Tab Word := []
  cfg : BitVec 32 := 0
  audPart : BitVec 32 := 0
  deriving DecidableEq, Repr

/-- The registers of a Bead's IEEE 1687 segment but DATA (R481). -/
structure BeadSegment where
  ring : BitVec 8 := 0
  entry : BitVec 8 := 0
  word : BitVec 2 := 0
  go : Bool := false
  deriving DecidableEq, Repr

/-- The IEEE 1687 segments (R481): the Clasp segment's registers and read, and each Bead segment's. -/
structure Tap where
  addr : BitVec 26 := 0
  write : Bool := false
  go : Bool := false
  /-- offset of a debug read that still waits for pp_hclk -/
  waiting : Option Nat := none
  /-- value of a completed debug read that the next capture loads -/
  ready : Option Word := none
  data : Word := 0
  done : Bool := false
  /-- the debug port's own copy of LKT_SEL[13:0] -/
  lktSel : BitVec 14 := 0
  beadSegs : Tab BeadSegment := []
  beadReady : Tab (Option Word) := []
  beadData : Tab Word := []
  deriving DecidableEq, Repr

/-! ## Memory ports -/

/-- What a read request was made for. -/
inductive RPurpose where
  | tail (slot : Nat)
  | descs (slot index count : Nat)
  /-- `sub` is the submission and its generation; none for a piece of a context switch -/
  | nodeRecord (bead win gen : Nat) (sub : Option (Nat × Nat))
  | nodeParam (bead win gen : Nat) (sub : Option (Nat × Nat))
  | indirect (bead win gen k : Nat)
  | arrival (seg index : Nat)
  | cqHead (cq : Nat)
  | cqEnableHead (cq : Nat)
  | refill (seg index : Nat)
  /-- the sweep's read of a unit of the region -/
  | sweep (unit : Nat)
  | scrap
  deriving DecidableEq, Repr

/-- What a write request was made for: the rule that owns it decides what an error does (R51). -/
inductive WPurpose where
  | headOf (queue : Nat)
  | cqRecord (cq : Nat)
  | cqTail (cq : Nat)
  | cqEnableTail (cq : Nat)
  | message (target : Nat)
  | saffron (bead pc : Nat)
  | spawnParam (bead : Nat)
  | routing (bead : Nat)
  | workList (seg index : Nat)
  | linkArray (seg index : Nat)
  | traceRec (pos : Nat)
  | dump
  | savePiece (part : Nat)
  | table
  /-- an entry on its way to an audit slot (R464) -/
  | audit
  /-- node entries on their way to the pager region -/
  | spill
  /-- a unit of the region that a sweep has cleared -/
  | sweep
  /-- a write whose outcome matters no more -/
  | scrap
  deriving DecidableEq, Repr

/-- A read request. `port` is 0 to 47 for a Bead's memory port and 63 for the Clasp's. -/
structure RReq where
  port : Nat
  id : Nat
  cls : Nat
  addr : Nat
  len : Nat
  purpose : RPurpose
  deriving DecidableEq, Repr

/-- A write request with the bytes it writes, from `addr` upward. -/
structure WReq where
  port : Nat
  id : Nat
  cls : Nat
  addr : Nat
  bytes : List Byte
  purpose : WPurpose
  deriving DecidableEq, Repr

/-- The memory ports: requests presented and not answered, requests that wait for a free
identity (R46), for an acknowledge (R48) or for a Setting load (R73), and CLS_MP_ERR_ADDR and CLS_MP_ERR_INFO. -/
structure Mp where
  reads : List RReq := []
  writes : List WReq := []
  heldReads : List RReq := []
  heldWrites : List WReq := []
  /-- a Setting load has been started since cold reset: until then no request is presented (R73) -/
  opened : Bool := false
  errAddr : Word := 0
  errInfo : BitVec 32 := 0
  deriving DecidableEq, Repr

/-! ## The Setting -/

/-- An entry of the BEADS section (R105). -/
structure BeadsEntry where
  beatPs : Nat
  die : Nat
  lane : Nat
  active : Bool
  deriving DecidableEq, Repr

/-- An entry of a SLOTMAP section (R105). -/
structure SlotEntry where
  expressRes : Bool := false
  part : Nat := 0
  enabled : Bool := false
  cls : Nat := 0
  deriving DecidableEq, Repr

/-- A PARTITION section (R105). -/
structure PartEntry where
  enabled : Bool := false
  express : Bool := false
  beadMask : BitVec 48 := 0
  quantumUs : Nat := 0
  deriving DecidableEq, Repr

/-- An entry of a REGULATOR section (R105). -/
structure RegEntry where
  counter : Nat
  rate : Nat
  burst : Nat
  deriving DecidableEq, Repr

/-- An endpoint of the CHANNELS section (R105). -/
structure Endpoint where
  ep : Nat
  rank : Nat
  bead : Nat
  slot : Nat
  deriving DecidableEq, Repr

/-- A route of the CHANNELS section, with the Beads of its endpoints and its transmit port
(R384). -/
structure Route where
  srcEp : Nat
  dstEp : Nat
  queue : Nat
  thresh : Nat
  srcBead : Nat := 0
  dstBead : Nat := 0
  port : Nat := 0
  deriving DecidableEq, Repr

/-- The CHANNELS section. -/
structure Channels where
  noRank : Bool := false
  eps : List Endpoint := []
  routes : List Route := []
  deriving DecidableEq, Repr

/-- A source entry of the EVENTS section. -/
structure EvSrcEntry where
  group : Nat
  target : Nat
  prio : Nat
  deriving DecidableEq, Repr

/-- A target entry of the EVENTS section. -/
structure EvTgtEntry where
  thresh : Nat
  msg : Bool
  data : BitVec 32
  addr : Nat
  deriving DecidableEq, Repr

/-- The EVENTS section. -/
structure EventsSec where
  srcs : List EvSrcEntry
  groups : List Nat
  tgts : List EvTgtEntry
  deriving DecidableEq, Repr

/-- The TRACE section. -/
structure TraceSec where
  addr : Nat
  len : Nat
  postShare : Nat
  mask : Word
  deriving DecidableEq, Repr

/-- The EXPERTS section. -/
structure ExpertsSec where
  nexperts : Nat
  replicaSlots : Nat
  interval : Nat
  deriving DecidableEq, Repr

/-- A section as it stands in an image: type, scope, version, bytes. -/
structure SecRec where
  type : Nat
  scope : Nat
  version : Nat
  bytes : List Byte
  deriving DecidableEq, Repr

/-- The content of a Setting: what the sections of the image and of its patches say. -/
structure Setting where
  beads : List BeadsEntry := []
  affinity : List (BitVec 48) := []
  slotmap : Tab (List SlotEntry) := []
  parts : Tab PartEntry := []
  regs : Tab (List RegEntry) := []
  chan : Option Channels := none
  events : Option EventsSec := none
  trace : Option TraceSec := none
  det : Bool := false
  noDlb : Bool := false
  experts : Option ExpertsSec := none
  debug : Bool := false
  /-- version of each section, by 256 × TYPE + SCOPE -/
  versions : Tab Nat := []
  /-- the sections that go to Beads, as they stand in force (R500) -/
  raw : List SecRec := []
  deriving DecidableEq, Repr

/-- SET_STATUS.STATE. -/
inductive SetState where
  | empty
  | loading
  | active
  | patching
  deriving DecidableEq, Repr

/-- How far a load or a patch has come (R114, R130). -/
inductive LoadPhase where
  /-- no load or patch, or the checks are still to be made -/
  | idle
  /-- every check has passed; the SETRs of the sections are awaited -/
  | sections
  /-- COMMIT has been sent; its SETRs are awaited -/
  | commits
  /-- the Clasp-held sections are applied; the lanes are being turned to RUN -/
  | turning
  /-- a check failed; outstanding SETRs are awaited (R124) -/
  | failed
  deriving DecidableEq, Repr

/-- The Setting loader and its registers. -/
structure Loader where
  state : SetState := .empty
  imgAddr : Word := 0
  imgLen : BitVec 32 := 0
  capAddr : Nat := 0
  capLen : Nat := 0
  ignored : Bool := false
  code : Status := 0
  cause : Nat := 0
  errSection : Nat := 0xFFFF
  errBead : Nat := 0xFF
  errOffset : Nat := 0
  percent : Nat := 0
  position : Nat := 0
  digest : BitVec 256 := 0
  phase : LoadPhase := .idle
  /-- the failure that ends the operation: CODE and CAUSE -/
  failing : Option (Status × Nat) := none
  /-- COMMIT has been sent (R125) -/
  committed : Bool := false
  /-- SETRs awaited: Bead, and the table index and offset of the section that it answers -/
  awaited : List (Nat × Nat × Nat) := []
  /-- Beads that the operation sends COMMIT to -/
  targets : List Nat := []
  next : Setting := {}
  nextDigest : BitVec 256 := 0
  /-- the SETTING_PATCH node: submission number and index -/
  patchNode : Option (Nat × Nat) := none
  /-- partitions that R128 holds -/
  touched : List Nat := []
  /-- SETRs still to come of the Beads whose domain returns (R500) -/
  returns : Tab Nat := []
  deriving DecidableEq, Repr

/-! ## Lanes -/

/-- A record on a lane: its header, and the raw records of its message (R81). -/
structure Rec where
  header : Word
  raws : List Word := []
  deriving DecidableEq, Repr

/-- One record on a lane: its 64 bits and its CONT bit (R80). The bits of a `timed` record, the raw record
of a TIME, are fixed when it is driven (R97). -/
structure LaneRec where
  bits : Word
  cont : Bool := false
  timed : Bool := false
  /-- the last flit of a message: the Bead on the lane and the staging words that it frees (R388) -/
  frees : Option (Nat × Nat) := none
  deriving DecidableEq, Repr

/-- One end of a lane, as sender of one direction and receiver of the other (R84 to R88). -/
structure LaneEnd where
  trained : Bool := false
  phase : Nat := 1
  /-- records that wait to be driven: the crossing, and behind it what its writer holds (R66) -/
  queue : List LaneRec := []
  /-- numbered records sent and not acknowledged, oldest first -/
  replay : List LaneRec := []
  credits : Nat := 64
  txSeq : Nat := 0
  /-- records driven, link records among them, that the far end has not received, oldest first -/
  wire : List LaneRec := []
  /-- the receive buffer (R85) -/
  rx : List LaneRec := []
  /-- the message that the reader has open: its header and the raw records that have left the receive
  buffer -/
  msg : List LaneRec := []
  /-- raw records of that message that have been passed on already -/
  msgUsed : Nat := 0
  /-- the messages of a section whose final message is still to come (R93) -/
  sect : List LaneRec := []
  rxNext : Nat := 0
  rxUnacked : Nat := 0
  rxFreed : Nat := 0
  discarding : Bool := false
  /-- records of a second replay that are already accepted (R84) -/
  rxSkip : Nat := 0
  /-- sequence number of the last NAK received, and how many named it in a row -/
  nakSeq : Nat := 0
  nakRun : Nat := 0
  /-- the link record (LNK, TOKEN) that the end sent last -/
  link : Option Word := none
  /-- a phase turn in progress: the new phase -/
  turn : Option Nat := none
  /-- TOKEN attempts of the turn in progress -/
  tokens : Nat := 0
  deriving DecidableEq, Repr

/-- A lane: its two ends, and what CLS_FL_STATUS, CLS_FL_ERRCNT and CLS_FL_CFG show. -/
structure Lane where
  clasp : LaneEnd := {}
  bead : LaneEnd := {}
  failed : Bool := false
  /-- a Setting load has been started since cold reset (R93) -/
  started : Bool := false
  /-- downstream messages that have entered the crossing, and those that a Bead has taken (R529) -/
  queued : Nat := 0
  consumed : Nat := 0
  /-- the phase that the Clasp is to turn the lane to -/
  want : Option Nat := none
  /-- a latency has been measured since cold reset -/
  latKnown : Bool := false
  lat : Nat := 0
  /-- a latency request is out, and a NAK has come since (R97) -/
  echoOut : Bool := false
  echoNak : Bool := false
  timeSent : Bool := false
  nakRx : Nat := 0
  nakTx : Nat := 0
  beatPs : Nat := 0
  /-- the die's copy of global time, less the Clasp's, and the value and time from which it advances
  at half rate (R98) -/
  dieOff : Int := 0
  dieBase : Nat := 0
  dieAt : Nat := 0
  snapDone : Bool := false
  deriving DecidableEq, Repr

/-! ## Queues -/

/-- CLS_Q_STATUS.STATE. -/
inductive QState where
  | disabled
  | idle
  | wait
  | active
  | stopping
  | halted
  | forcing
  deriving DecidableEq, Repr

/-- A descriptor taken in and not yet checked, or checked and not yet placed. -/
structure Fetched where
  ringIdx : Nat
  desc : List Word
  /-- status of the fetch itself: OK, or what R51 gives -/
  code : Status
  /-- the status with which it is abandoned before placement; OK = not abandoned -/
  abort : Status := 0
  tFetch : Nat
  passed : Bool := false
  /-- a context reset abandoned it (R414) -/
  noSave : Bool := false
  deriving DecidableEq, Repr

/-- A software queue. -/
structure Queue where
  ring : Word := 0
  rcb : Word := 0
  cfg : Word := 0
  headInit : BitVec 32 := 0
  state : QState := .disabled
  pend : Bool := false
  bound : Option Nat := none
  cmdRej : Bool := false
  err : Nat := 0
  inflight : Nat := 0
  head : BitVec 32 := 0
  tailSeen : BitVec 32 := 0
  fetched : Nat := 0
  done : Nat := 0
  waiting : List Fetched := []
  /-- descriptors fetched since HEAD was last written (R149) -/
  sinceHead : Nat := 0
  /-- engine slots whose reset a FORCE awaits (R168) -/
  resets : List (Nat × Nat) := []
  deriving DecidableEq, Repr

/-- A hardware slot. `requested` counts descriptors whose reads are outstanding, `tail` is the
TAIL of the current loop of R160. -/
structure Hws where
  reserved : Bool := false
  queue : Option Nat := none
  count : Nat := 0
  requested : Nat := 0
  tail : BitVec 32 := 0
  tailDue : Bool := false
  /-- UNBIND has been written -/
  releasing : Bool := false
  /-- the fetch loop has found that a release applies, and fetches no more (R160) -/
  going : Bool := false
  /-- descriptors returned ahead of an earlier read -/
  early : List Fetched := []
  deriving DecidableEq, Repr

/-- A report of the stall monitor (R173). -/
structure Stall where
  kind : Nat
  unit : Nat
  sinceUs : Nat
  deriving DecidableEq, Repr

/-- The submission front end, the slot mapper and the stall monitor. -/
structure Front where
  queues : Tab Queue := []
  hws : Tab Hws := []
  mapLast : Nat := 0
  /-- last queue bound at each PRIO (R156) -/
  prioLast : Tab Nat := []
  dbRej : BitVec 32 := 0
  window : Tab (BitVec 32) := []
  stalls : List Stall := []
  lost : Nat := 0
  /-- when a unit's counter last moved, by 2^13 × KIND + UNIT, and whether it was reported -/
  moved : Tab (Nat × Bool) := []
  /-- since when a unit has been busy without a break, by the same number -/
  busy : Tab (Option Nat) := []
  issued : Tab Nat := []
  retired : Tab Nat := []
  deriving DecidableEq, Repr

/-! ## The graph -/

/-- Node states (R215). -/
inductive NodeState where
  | pending
  | ready
  | acting
  | forwarded
  deriving DecidableEq, Repr

/-- A node as the Clasp knows it, from its first touch to its retirement. -/
structure Node where
  used : Bool := false
  state : NodeState := .pending
  kind : Nat := 0
  tolerant : Bool := false
  brk : Bool := false
  brkPassed : Bool := false
  brkHeld : Bool := false
  tgtV : Bool := false
  cls : Nat := 0
  slot : Nat := 0
  indirect : Nat := 0
  pstatus : Status := 0
  count : Nat := 0
  /-- address of the record that gives the kind-specific fields -/
  record : Nat := 0
  param : Nat := 0
  bead : Option Nat := none
  /-- window entry and its generation while the node is forwarded -/
  win : Nat := 0
  gen : Nat := 0
  depth : Nat := 0
  /-- Clasp edges, in list order, once the list has been read -/
  edges : List Nat := []
  resolved : Bool := false
  /-- window entries that the node's window edges name -/
  wedges : List Nat := []
  /-- the expansion or STEP that created it -/
  parent : Option Nat := none
  noPlace : Bool := false
  /-- WAIT and SIGNAL: the outcome recorded; WAIT: the quantity of the signal that ended its
  generation while it was registered (R279), the poll interval (R280); `busy` is an outstanding arrival
  read, or a packet in the transmit queue -/
  outcome : Option Status := none
  quantity : Option Nat := none
  interval : Nat := 0
  busy : Bool := false
  /-- SIGNAL: FENCE, and PEER when REMOTE = 1 -/
  handle : BitVec 32 := 0
  remote : Option Nat := none
  /-- SIGNAL with REMOTE = 1 that has acted: its peer -/
  peer : Option Nat := none
  /-- WAIT with ARRIVAL_V = 1 that reads: ARRIVAL -/
  arrival : Nat := 0
  /-- the node's entries stand in the pager region, in the entries `slots` of it; `seen` is when they were last touched -/
  spilled : Bool := false
  slots : List Nat := []
  seen : Nat := 0
  /-- its place among the nodes that have become READY (R228) -/
  order : Nat := 0
  /-- STEP: its own status once the build has ended, and tasks still to retire -/
  own : Option Status := none
  left : Nat := 0
  /-- STEP whose build waits for its writes: its own status and the tasks to create; its work list once
  the header is written: address and entries -/
  built : Option (Status × Nat) := none
  wl : Option (Nat × Nat) := none
  deriving DecidableEq, Repr

/-- The contribution of an expansion to its join (R294). -/
structure Contribution where
  used : Bool := false
  left : Nat := 0
  retired : Bool := false
  status : Status := 0
  deriving DecidableEq, Repr

/-- An entry of an audit slot (R464). -/
structure AuditEntry where
  index : Nat
  tile : Nat
  role : Bool
  digest : BitVec 256
  deriving DecidableEq, Repr

/-- A placed submission. -/
structure Sub where
  live : Bool := false
  queue : Nat := 0
  ringIdx : Nat := 0
  ctx : Nat := 0
  part : Nat := 0
  kernel : Bool := false
  urgent : Bool := false
  desc : List Word := []
  nnodes : Nat := 0
  nblk : Nat := 0
  nparam : Nat := 0
  graphKey : Word := 0
  known : Nat := 0
  done : Nat := 0
  /-- nodes that have retired or been released, each once (R234) -/
  ended : List Nat := []
  nreleased : Nat := 0
  nodes : Tab Node := []
  contribs : Tab Contribution := []
  /-- Beads that hold or held a node, and those whose closing RET has come (R227) -/
  beads : List Nat := []
  started : Bool := false
  order : Nat := 0
  abandoned : Option Status := none
  fail : Option (Status × Nat) := none
  waits : List (Nat × Nat) := []
  signals : List (Nat × Nat) := []
  acted : List Nat := []
  /-- nodes that an uncorrectable error has released: their later decrements have no effect (R238) -/
  gone : List Nat := []
  /-- EXPAND nodes whose contribution under R303 has been made -/
  tracked : List Nat := []
  /-- AFF of created nodes on their way to the Clasp, by node index (R288) -/
  affs : Tab (Option Nat) := []
  bytes : Tab Nat := []
  tFetch : Nat := 0
  tDone : Nat := 0
  /-- the table that it is bound to: its version and its address (R304, R307) -/
  version : Nat := 0
  table : Nat := 0
  audited : Bool := false
  audit : List AuditEntry := []
  /-- its slot of the audit region (R465), and PD once the segment has been read for it (R467) -/
  auditSlot : Nat := 0
  pd : Option (BitVec 256) := none
  digest : Option (BitVec 256) := none
  kd : BitVec 256 := 0
  /-- a context reset abandoned it (R414) -/
  noSave : Bool := false
  /-- met R227 and handed to its completion queue -/
  complete : Bool := false
  deriving DecidableEq, Repr

/-- A Clasp edge on its way to its successor: submission and its SGEN, node, final status of the predecessor. -/
structure Edge where
  seg : Nat
  sgen : Nat
  index : Nat
  status : Status
  deriving DecidableEq, Repr

/-- A window entry as the Clasp allocates it (R219). -/
structure CWin where
  gen : Nat := 0
  holder : Option (Nat × Nat) := none
  /-- window entries of the Bead whose window edges name this one and whose CPL is to come -/
  namers : List Nat := []
  /-- a piece of a context switch: partition and piece -/
  piece : Option (Nat × Nat) := none
  deriving DecidableEq, Repr

/-- The graph pager, submission numbers and the cross-Bead edge router. -/
structure Graph where
  subs : Tab Sub := []
  cwin : Tab (Tab CWin) := []
  order : Nat := 0
  /-- submissions that have met R227 and are not handed to their completion queues, in that order (R361) -/
  met : List Nat := []
  /-- counter records that a closing RET announced: submission and how many are left, by Bead -/
  ctrDue : Tab (Nat × Nat) := []
  /-- the Clasp edges that wait for an entry, oldest first (R236, R237) -/
  router : List Edge := []
  /-- accesses to node entries so far -/
  clock : Nat := 0
  /-- entries of the region that hold those of abandoned submissions (R240) -/
  staleSlots : List Nat := []
  /-- the next place among the nodes that become READY (R228) -/
  readyNext : Nat := 0
  pgBase : Word := 0
  pgSize : BitVec 32 := 0
  full : Bool := false
  sweepReq : Bool := false
  sweepBusy : Bool := false
  stale : Nat := 0
  underflow : Nat := 0
  sweepPercent : Nat := 0
  sweepPos : Nat := 0
  sgen : Tab Nat := []
  /-- advances of a submission number since the start of the last completed sweep, and since the
  start of the sweep that runs -/
  adv : Tab Nat := []
  advNew : Tab Nat := []
  deriving DecidableEq, Repr

/-! ## Fences -/

/-- FNC_ENTRY.STATE. -/
inductive FState where
  | free
  | active
  | poisoned
  deriving DecidableEq, Repr

/-- A fence (R242, R278). WAITERS is the number of registrations and turns that name it. -/
structure Fence where
  state : FState := .free
  gen : BitVec 16 := 0
  owner : BitVec 10 := 0
  pstatus : Status := 0
  pgen : BitVec 16 := 0
  quantity : Nat := 0
  unit : Bool := false
  deriving DecidableEq, Repr

/-- A registered WAIT: fence, generation, submission, node. -/
structure Wait where
  fence : Nat
  gen : BitVec 16
  seg : Nat
  index : Nat
  deriving DecidableEq, Repr

/-- Who waits its turn under R247: a SIGNAL node, the DONE_FENCE of a delivered submission, or a
signal of a peer. -/
inductive TurnBy where
  | node (seg index : Nat)
  | done
  | remote (quantity : Nat) (unit : Bool)
  deriving DecidableEq, Repr

/-- A signal that waits its turn. -/
structure Turn where
  fence : Nat
  gen : BitVec 16
  by' : TurnBy
  deriving DecidableEq, Repr

/-- The fence table and its registers. -/
structure Fences where
  table : Tab Fence := []
  waits : List Wait := []
  turns : List Turn := []
  cmdRej : Bool := false
  cmdIndex : Nat := 0
  unchecked : Nat := 0
  rejected : Nat := 0
  deriving DecidableEq, Repr

/-! ## Beads -/

/-- A dispatch presented on ep_dsp and not yet transferred. -/
structure Dispatch where
  win : Nat
  tile : Option Nat
  words : List Word
  charges : List (Nat × Nat) := []
  deriving DecidableEq, Repr

/-- A task that a slot holds. -/
structure HeldTask where
  win : Nat
  tile : Option Nat
  deriving DecidableEq, Repr

/-- An engine slot. -/
structure Slot where
  cfg : SlotEntry := {}
  held : List HeldTask := []
  presented : Option Dispatch := none
  /-- a rule asks for a reset that has not risen yet, and the forced queue that it serves (R169) -/
  resetDue : Bool := false
  resetBy : Option Nat := none
  resetReq : Bool := false
  /-- ep_reset_req has been lowered and ep_reset_ack not yet sampled low (R57) -/
  resetWait : Bool := false
  done : Nat := 0
  /-- counter beats still to come and the submission they belong to (none for a piece) -/
  beats : List (Option Nat × Nat) := []
  deriving DecidableEq, Repr

/-- Where a node in a window stands (R215). -/
inductive WinState where
  | window
  | wready
  | issued
  /-- final status known; its window edges and CPL are still to be sent -/
  | leaving
  deriving DecidableEq, Repr

/-- A node in the issue window of a Bead. -/
structure WinEntry where
  used : Bool := false
  gen : Nat := 0
  seg : Nat := 0
  sgen : Nat := 0
  index : Nat := 0
  state : WinState := .window
  kind : Nat := 0
  tolerant : Bool := false
  brk : Bool := false
  brkPassed : Bool := false
  brkHeld : Bool := false
  /-- it stood in WREADY when the Bead sent its stop report (R491) -/
  brkReported : Bool := false
  tgtV : Bool := false
  cls : Nat := 0
  slot : Nat := 0
  indirect : Nat := 0
  pstatus : Status := 0
  count : Nat := 0
  next : Nat := 0
  forms : Nat := 0
  edges : List Nat := []
  record : List Word := []
  param : List Word := []
  recordDue : Bool := false
  paramDue : Bool := false
  recordAddr : Nat := 0
  paramAddr : Nat := 0
  indirectDue : List Nat := []
  indirectAsked : Bool := false
  /-- failures of its indirect words: word, status (R206) -/
  indirectFail : List (Nat × Status) := []
  order : Nat := 0
  fixed : List Nat := []
  final : Status := 0
  released : Bool := false
  piece : Bool := false
  /-- a FENCE with ABORTED has reached it -/
  fenced : Bool := false
  /-- issued when its row met an uncorrectable error: its final status is ECC_UNCORRECTABLE (R513) -/
  eccBad : Bool := false
  deriving DecidableEq, Repr

/-- A token bucket (R273 to R275): LEVEL in thousandths of a byte. -/
structure Bucket where
  counter : Nat
  rate : Nat
  burst : Nat
  level : Int
  deriving DecidableEq, Repr

/-- A BD_TILE counter (R269 to R271). -/
structure Tile where
  used : Bool := false
  win : Nat := 0
  n : Nat := 0
  next : Nat := 0
  done : Nat := 0
  failed : Status := 0
  /-- tiles withdrawn under R530 and not the last fetched: they go out again before NEXT -/
  back : List Nat := []
  deriving DecidableEq, Repr

/-- A latch set (R484). -/
structure Latch where
  seg : Nat
  sgen : Nat
  sums : Tab Nat := []
  deriving DecidableEq, Repr

/-- A stored word of a receive queue with its tag (R390). -/
structure ChnWord where
  quarters : List Word := []
  first : Bool := false
  last : Bool := false
  vb : Nat := 0
  mwords : Nat := 0
  bad : Bool := false
  deriving DecidableEq, Repr

/-- A receive queue (R390, R391). -/
structure RxQueue where
  routeV : Bool := false
  sbead : Nat := 0
  sport : Nat := 0
  thresh : Nat := 0
  words : Tab ChnWord := []
  rp : Nat := 0
  wp : Nat := 0
  vp : Nat := 0
  captured : ChnWord := {}
  everCaptured : Bool := false
  underrun : Bool := false
  overrun : Bool := false
  drain : Bool := false
  unreturned : Nat := 0
  /-- the open message: its flits (0: none is open), those that have come, its start, the flits of the word
  in progress; whether the captured word belongs to it -/
  openF : Nat := 0
  got : Nat := 0
  mstart : Nat := 0
  part : List Word := []
  capOpen : Bool := false
  /-- flits of a discarded message that are still to arrive (R393) -/
  discard : Nat := 0
  deriving DecidableEq, Repr

/-- A transmit port (R386, R397). -/
structure TxPort where
  routeV : Bool := false
  dbead : Nat := 0
  dqueue : Nat := 0
  opened : Bool := false
  refused : Bool := false
  busy : Bool := false
  seqerr : Bool := false
  cwait : Bool := false
  left : Nat := 0
  credit : Nat := 0
  flits : List Word := []
  deriving DecidableEq, Repr

/-- A closed message in the staging store (R388). -/
structure Staged where
  port : Nat
  flits : List Word
  deriving DecidableEq, Repr

/-- The argument block of an expansion (R284). -/
structure ArgBlock where
  mode : Nat := 0
  k : Nat := 0
  track : Bool := false
  loadSrc : Bool := false
  ntok : Nat := 0
  nexp : Nat := 0
  npeer : Nat := 0
  scores : Nat := 0
  cap : Nat := 0
  tokrec : Nat := 0
  exprec : Nat := 0
  locnt : Nat := 0
  peers : Nat := 0
  send : Nat := 0
  sendStride : Nat := 0
  paramOut : Nat := 0
  clist : Nat := 0
  loadAddr : Nat := 0
  rules : List (Nat × Nat) := []
  deriving DecidableEq, Repr

/-- One creation of an expansion (R287, R290). -/
structure Creation where
  tsel : Nat
  p0 : Word
  /-- P0 is the entry's own (mode 0); otherwise bits 47:32 come from the template -/
  whole : Bool
  ord : Nat
  tileV : Bool
  n : Nat
  aff : Option Nat
  deriving DecidableEq, Repr

/-- A valid instance of an expert (R306). -/
structure Inst where
  aff : Nat
  pos : Nat
  peer : Nat
  deriving DecidableEq, Repr

/-- What routing works on: instances by expert, limits, peers, the send list room and the mode. -/
structure RouteTables where
  insts : List (List Inst)
  limits : List Nat
  peers : List Nat
  room : Nat
  strict : Bool
  deriving DecidableEq, Repr

/-- The state of the routing pseudocode: tokens used by expert, send lists newest entry first (token,
bitmap), outputs not yet written, newest first, whether a token was truncated, accepted choices. -/
structure RouteState where
  used : Tab Nat := []
  sends : Tab (List (Nat × Nat)) := []
  out : List (Nat × List Word) := []
  trunc : Bool := false
  total : Nat := 0
  full : Bool := false
  deriving DecidableEq, Repr

/-- How far an expansion has come. -/
inductive ExpStage where
  | args
  | program
  | running
  | routing
  | creating
  | retiring
  deriving DecidableEq, Repr

/-- The expansion that runs on a Bead's Saffron unit. -/
structure Expansion where
  arg : ArgBlock := {}
  stage : ExpStage := .args
  fail : Option Status := none
  progAddr : Nat := 0
  argsAddr : Nat := 0
  tmpl : Nat := 0
  join : Nat := 0
  maxCreate : Nat := 0
  /-- EXPAND records of the segment with a lower index (R288) -/
  below : Nat := 0
  ntmpl : Nat := 0
  prog : List (BitVec 32) := []
  /-- the routing stage's queue (R333), oldest first: the candidates of a token, as (key, index) pairs -/
  cands : List (List (Elt × Elt)) := []
  /-- the tables of the routing stage once it has read them, the tokens it has taken, and what it keeps -/
  tables : Option RouteTables := none
  routed : Nat := 0
  route : RouteState := {}
  nlist : Nat := 0
  /-- mode 0: the creation list has been read -/
  listRead : Bool := false
  /-- the parameter blocks of its templates by TSEL, once they and the load vector have been read (R290) -/
  prepared : Bool := false
  params : Tab (List Word) := []
  trunc : Bool := false
  creations : List Creation := []
  created : Nat := 0
  /-- the parameter block of the next creation has been written -/
  acked : Bool := false
  counts : Tab Nat := []
  deriving DecidableEq, Repr

/-- The Saffron unit (R308) and its registers. A tile or mask is listed row by row; elements
beyond the list are zero. -/
structure Saffron where
  busy : Bool := false
  sat : Bool := false
  nan : Bool := false
  mode : Nat := 0
  win : Nat := 0
  pc : Nat := 0
  instr : Nat := 0
  curtok : Nat := 0
  aluBc : Nat := 0
  beats : Nat := 0
  errV : Bool := false
  errCause : Nat := 0
  errPc : Nat := 0
  tiles : Tab (List Elt) := []
  masks : Tab (List Bool) := []
  scalars : Tab Word := []
  exp : Option Expansion := none
  deriving DecidableEq, Repr

/-- RUN, STOPPING or STOPPED (R487, R488). -/
inductive StopMode where
  | run
  | stopping
  | stopped
  deriving DecidableEq, Repr

/-- A Bead: what stands on its side of the crossing. -/
structure Bead where
  mode : StopMode := .run
  epoch : Nat := 0
  fencedOff : Bool := false
  det : Bool := false
  noDlb : Bool := false
  win : Tab WinEntry := []
  orderNext : Nat := 0
  slots : Tab Slot := []
  buckets : List Bucket := []
  tiles : Tab Tile := []
  /-- window-edge decrements that wait for their counter bank: the window entry of the node that
  left, the successor's, its status, and the edge's place among the ready nodes (R34, R228) -/
  bank : List (Nat × Nat × Status × Nat) := []
  proto : Nat := 0
  retCount : Tab Nat := []
  ctrRun : Tab Nat := []
  latches : List Latch := []
  overflow : List Nat := []
  unattr : Nat := 0
  lastSeg : Nat := 0
  lastSgen : Nat := 0
  lastNctr : Nat := 0
  lastSums : Tab Nat := []
  trace : List (List Word) := []
  staged : List SecRec := []
  /-- the sections that a patch's COMMIT has named and that take effect with its last (R130) -/
  ready : List SecRec := []
  sections : List SecRec := []
  deriving DecidableEq, Repr

/-- The message-channel SRAM of a Bead. -/
structure Chan where
  rx : Tab RxQueue := []
  tx : Tab TxPort := []
  staging : List Staged := []
  deriving DecidableEq, Repr

/-! ## Sequence table -/

/-- Sequence states (R340). -/
inductive SeqState where
  | free
  | joining
  | running
  | leaving
  | parked
  deriving DecidableEq, Repr

/-- A sequence entry. `pages` lists the chain from HEAD to TAIL. -/
structure Seq where
  state : SeqState := .free
  ctx : Nat := 0
  prio : Nat := 0
  seqId : Nat := 0
  ord : Nat := 0
  len : Nat := 0
  pages : List Nat := []
  pend : Nat := 0
  lpV : Bool := false
  lastPos : Nat := 0
  eccBad : Bool := false
  deriving DecidableEq, Repr

/-- A context's side of the sequence table. -/
structure SeqCtx where
  limit : Nat := 0
  used : Nat := 0
  nextOrd : Nat := 0
  lastN : Nat := 0
  lastWl : Nat := 0
  /-- pages of entries that were dropped under R354 -/
  leaked : List (List Nat) := []
  deriving DecidableEq, Repr

/-- A queued sequence-table command. -/
inductive SeqCmd where
  | join (ctx prio len seqId : Nat)
  | cancel (ctx index : Nat)
  deriving DecidableEq, Repr

/-- The sequence table and the page pool. -/
structure SeqTable where
  seqs : Tab Seq := []
  ctxs : Tab SeqCtx := []
  base : Word := 0
  size : Nat := 0
  log2tpp : Nat := 0
  defTok : Nat := 0
  /-- R344: FAULT, with the status that builds fail with -/
  fault : Option Status := none
  freeChain : List Nat := []
  hwm : Nat := 0
  arg : Word := 0
  cmds : List SeqCmd := []
  /-- the builds that have reached the table and not started, oldest first: node, and queued commands ahead of it -/
  line : List (Nat × Nat × Nat) := []
  rej : Bool := false
  lastJoin : Nat := 0
  deriving DecidableEq, Repr

/-! ## Completions and the link port -/

/-- A completion that is complete for delivery and not yet delivered. -/
structure Comp where
  seg : Option Nat
  queue : Nat
  ringIdx : Nat
  status : Status
  failIndex : Nat
  desc : List Word
  tFetch : Nat
  tDone : Nat
  nreleased : Nat
  nretired : Nat
  bytes : List Nat
  audit : Bool
  digest : BitVec 256
  ctx : Nat
  doneV : Bool
  save : Bool
  /-- a FOREIGN record: the words as received -/
  foreign : Option (List Word) := none
  /-- an uncorrectable error of the hold store: every word but 0 to 2 reads zero (R513) -/
  eccBad : Bool := false
  /-- its context was reset while it was in flight, so it leaves the save record alone (R414) -/
  noSave : Bool := false
  deriving DecidableEq, Repr

/-- LNK_CQ_STATUS.STATE. -/
inductive CqState where
  | disabled
  | active
  | wait
  | fallback
  | fault
  deriving DecidableEq, Repr

/-- The delivery in progress on a completion queue (R360). -/
inductive CqStage where
  | idle
  /-- HEAD is being read -/
  | headRead
  /-- records written, units to cover, writes still to be acknowledged -/
  | records (units left : Nat)
  /-- TAIL written -/
  | tailWrite (units : Nat)
  /-- the first held completion stands in the transmit queue (R367) -/
  | sending
  /-- ENABLE in progress (R365) -/
  | enabling
  deriving DecidableEq, Repr

/-- A completion queue. -/
structure CQueue where
  ring : Word := 0
  ccb : Word := 0
  cfg : BitVec 32 := 0
  state : CqState := .disabled
  err : Nat := 0
  cmdRej : Bool := false
  fbcnt : Nat := 0
  cseq : Nat := 0
  head : Nat := 0
  tail : Nat := 0
  stage : CqStage := .idle
  /-- HEAD has been read for the record that stands first (R359) -/
  freshHead : Bool := false
  /-- the HEAD read of a RESUME is outstanding (R364) -/
  resuming : Bool := false
  interval : Nat := 0
  reason : Nat := 0
  held : List Comp := []
  deriving DecidableEq, Repr

/-- LNK_PEER.STATE. -/
inductive PeerState where
  | down
  | helloSent
  | up
  | incompat
  deriving DecidableEq, Repr

/-- A peer entry. -/
structure Peer where
  valid : Bool := false
  accept : Bool := false
  state : PeerState := .down
  rev : Nat := 0
  link : Nat := 0
  peer : Nat := 0
  tx : Nat := 0
  rx : Nat := 0
  deriving DecidableEq, Repr

/-- What a packet in the transmit queue carries: the signal of a node of a submission, by its number and its SGEN, so
that a later submission of the number is not taken for it (R240). -/
inductive TxBy where
  | signalNode (seg sgen index : Nat)
  | poison
  | completion (cq : Nat)
  | hello
  deriving DecidableEq, Repr

/-- A packet in the transmit queue: words, link, peer entry. -/
structure TxPacket where
  words : List Word
  link : Nat
  peer : Nat
  by' : TxBy
  deriving DecidableEq, Repr

/-- The link port packet engine. -/
structure Link where
  en : Bool := false
  fbCq : Nat := 0
  self : Nat := 0
  rxBad : Nat := 0
  denied : Nat := 0
  stale : Nat := 0
  fbLost : Nat := 0
  cut : Nat := 0
  up : BitVec 16 := 0
  peers : Tab Peer := []
  txq : List TxPacket := []
  hellos : List TxPacket := []
  /-- the packet that the port has started, and its link (R60, R493) -/
  sending : Option (TxPacket × Nat) := none
  /-- a Setting image has been active since cold reset (R74) -/
  opened : Bool := false
  /-- poisons of released remote SIGNALs that wait for their peer or for room: peer ID, fence handle,
  status -/
  poisons : List (Nat × BitVec 32 × Status) := []
  deriving DecidableEq, Repr

/-! ## Partitions and contexts -/

/-- CLS_PART_STATUS.STATE. -/
inductive PState where
  | disabled
  | enabled
  | stopping
  | forcing
  deriving DecidableEq, Repr

/-- CLS_PART_STATUS.PHASE. -/
inductive Phase where
  | run
  | pending
  | saving
  | clearing
  | restoring
  | idle
  deriving DecidableEq, Repr

/-- A piece of a context switch (R416): piece `num` of context `ctx`, its range, its data in the save
area, and its length. -/
structure Piece where
  ctx : Nat
  num : Nat
  bead : Nat
  addr : Nat
  area : Nat
  len : Nat
  restore : Bool
  sent : Bool := false
  deriving DecidableEq, Repr

/-- A partition. -/
structure Part where
  state : PState := .disabled
  phase : Phase := .run
  reason : Nat := 0
  resident : Option Nat := none
  rej : Bool := false
  percent : Nat := 0
  count : Nat := 0
  position : Nat := 0
  total : Nat := 0
  outgoing : Option Nat := none
  incoming : Option Nat := none
  since : Nat := 0
  pieces : List Piece := []
  /-- pieces whose CPL is to come -/
  waiting : List Nat := []
  /-- the failure of the half in progress, and what the incoming context's list has failed with -/
  pieceFail : Option Status := none
  listFail : Option Status := none
  /-- since when the partition stands stopped and its quantum pauses (R490) -/
  paused : Option Nat := none
  idle : Bool := false
  idleSince : Nat := 0
  idlePeriods : List Nat := []
  hintWait : Nat := 0
  hintOut : Option Nat := none
  resets : List (Nat × Nat) := []
  deriving DecidableEq, Repr

/-- CLS_PART_CTX.STATE. -/
inductive CState where
  | free
  | swapped
  | restoring
  | resident
  | outgoing
  | saving
  deriving DecidableEq, Repr

/-- A context. -/
structure Ctx where
  state : CState := .free
  part : Nat := 0
  atSp : Bool := false
  recV : Bool := false
  liveAddr : Nat := 0
  liveCount : Nat := 0
  saveCost : Nat := 0
  area : Nat := 0
  cause : Status := 0
  deriving DecidableEq, Repr

/-- CLS_PART_BEAD.STATE. -/
inductive BState where
  | enabled
  | stopping
  | forcing
  | disabled
  | fenced
  deriving DecidableEq, Repr

/-- The Clasp's record of a Bead: CLS_PART_BEAD, PWR_FENCE and the stop state of R490. -/
structure PBead where
  state : BState := .disabled
  rej : Bool := false
  resets : List Nat := []
  fence : Nat := 0
  cause : Nat := 0
  /-- 0 RUN, 1 HALT_SENT, 2 STOPPED (R490) -/
  stop : Nat := 0
  /-- raw records of the SNAP source in progress that have come: SRC and count (R495) -/
  snapSrc : Nat := 0
  snapGot : Nat := 0
  /-- the last change of resident context that was written for the Bead: the context, and how many downstream messages
  of the lane stood before it (R529) -/
  change : Option (Nat × Nat) := none
  /-- outgoing contexts of the CTL CLEARs on their way to the Bead, oldest first (R426) -/
  clears : List Nat := []
  /-- held by a supply freeze, and whether its supply report has come (R506, R508) -/
  frozen : Bool := false
  reported : Bool := false
  deriving DecidableEq, Repr

/-- Partitions, contexts and the Clasp's record of the Beads. -/
structure Parts where
  parts : Tab Part := []
  ctxs : Tab Ctx := []
  beads : Tab PBead := []
  ctxSel : BitVec 32 := 0
  ctxArg : Word := 0
  ctxRej : Bool := false
  deriving DecidableEq, Repr

/-! ## Event Controller -/

/-- EVC_SRC_CFG of a source, and the target and priority of its claim while it is active. -/
structure EvSrc where
  automask : Bool := false
  group : BitVec 7 := 0
  target : BitVec 6 := 0
  prio : BitVec 5 := 0
  owner : Nat := 0
  aprio : Nat := 0
  deriving DecidableEq, Repr

/-- A hold-off group: its time, and when its running hold-off ends. -/
structure EvGroup where
  holdoffNs : BitVec 32 := 0
  ends : Option Nat := none
  deriving DecidableEq, Repr

/-- A target. -/
structure EvTarget where
  msg : Bool := false
  thresh : BitVec 5 := 0
  armed : Bool := true
  cerr : Bool := false
  msgAddr : Word := 0
  msgData : BitVec 32 := 0
  /-- re-armings still to come, one for each error response (R446) -/
  rearm : Nat := 0
  deriving DecidableEq, Repr

/-- The Event Controller. -/
structure Evc where
  srcs : Tab EvSrc := []
  pend : BitVec 2048 := 0
  mask : BitVec 2048 := 0
  active : BitVec 2048 := 0
  groups : Tab EvGroup := []
  targets : Tab EvTarget := []
  rej : Bool := false
  deriving DecidableEq, Repr

/-! ## Experts, audit, trace, Locket rings, stops -/

/-- The expert load tracker and placement planner. -/
structure Experts where
  base : Word := 0
  held : Bool := false
  waitLoad : Bool := false
  perStep : Nat := 0
  enable : Bool := false
  /-- the table of the next version is being written -/
  planning : Bool := false
  start : BitVec 32 := 0
  planStep : Nat := 0
  version : Nat := 0
  late : Nat := 0
  rpos : Tab Word := []
  /-- accumulator a, expert e, at 4096 a + e -/
  acc : Tab Nat := []
  /-- contributions received by the interval of each accumulator -/
  got : Tab Nat := []
  deriving DecidableEq, Repr

/-- The audit digest engine's registers. -/
structure Audit where
  prof : Word := 0
  base : Word := 0
  size : BitVec 32 := 0
  deriving DecidableEq, Repr

/-- An event of the trace writer's queue: the record's words and its class. -/
structure TraceEv where
  cls : Nat
  words : List Word
  deriving DecidableEq, Repr

/-- TRC_STATUS.STATE. -/
inductive TrState where
  | off
  | armed
  | triggered
  | stopped
  deriving DecidableEq, Repr

/-- A pending LOSS record: count, first and last time (R476). -/
structure Loss where
  count : Nat
  first : Nat
  last : Nat
  deriving DecidableEq, Repr

/-- A record written to the trace ring and not yet covered by TAIL: position, units, writes still to be
acknowledged, and whether it is the TRIGGER record. -/
structure TraceWrite where
  pos : Nat
  units : Nat
  left : Nat
  trig : Bool := false
  deriving DecidableEq, Repr

/-- The trace writer. -/
structure Trace where
  state : TrState := .off
  addr : Nat := 0
  nu : Nat := 0
  post : Nat := 0
  rej : Bool := false
  head : Nat := 0
  tail : Nat := 0
  /-- records written and not yet covered by TAIL, oldest first -/
  unacked : List TraceWrite := []
  trigPos : Nat := 0
  /-- triggered since the last START: the limit of R470 is NU -/
  fired : Bool := false
  /-- the TRIGGER record waits for acknowledges (R475): CAUSE, CLASS and the trigger's time -/
  trigDue : Option (Nat × Nat × Word) := none
  lost : Nat := 0
  loss : Option Loss := none
  mask : Word := 0
  trig : Word := 0
  progSel : BitVec 12 := 0
  queue : List TraceEv := []
  deriving DecidableEq, Repr

/-- A Locket ring: its last 64 entries, oldest first, and the events ever written (R479). -/
structure Ring where
  entries : List (Word × Word) := []
  total : Nat := 0
  deriving DecidableEq, Repr

/-- LKT_STOP.STATE. -/
inductive StopState where
  | run
  | stopping
  | stopped
  | frozen
  deriving DecidableEq, Repr

/-- The debug unit: LKT_ registers and the stop in progress. -/
structure Debug where
  state : StopState := .run
  kind : Nat := 0
  rej : Bool := false
  breakV : Bool := false
  first : Nat := 0
  pmask : BitVec 16 := 0
  epoch : Nat := 0
  freeze : Bool := false
  /-- a RESUME waits for the stop to complete; a RESUME waits for frozen lanes to reach RUN -/
  resumeDue : Bool := false
  resuming : Bool := false
  /-- stops that a RESUME has ended: partition, start, end (R172) -/
  stops : List (Nat × Nat × Nat) := []
  dumpBase : Word := 0
  sel : BitVec 14 := 0
  rings : Tab Ring := []
  deriving DecidableEq, Repr

/-! ## Power -/

/-- PWR_DOM.STATE. -/
inductive DState where
  | on
  | goingOff
  | off
  | goingOn
  deriving DecidableEq, Repr

/-- A power domain. -/
structure Domain where
  state : DState := .on
  req : Bool := true
  waiting : Bool := false
  lost : Bool := false
  rej : Bool := false
  offcnt : Nat := 0
  /-- powered and initialised, while its Bead's sections are sent (R500) -/
  up : Bool := false
  deriving DecidableEq, Repr

/-- PWR_WARN.STATE. -/
inductive WState where
  | normal
  | freezing
  | frozen
  | resuming
  deriving DecidableEq, Repr

/-- Power domains, supply warning and error correction. -/
structure Power where
  doms : Tab Domain := []
  warn : WState := .normal
  warnIn : Bool := false
  expired : Bool := false
  episodes : Nat := 0
  durUs : Nat := 0
  holdUs : BitVec 32 := 0x3E8
  t0 : Nat := 0
  uncorr : Nat := 0
  corr : Nat := 0
  eccLog : Word := 0
  corrEv : Bool := true
  scrubMs : BitVec 16 := 0
  deriving DecidableEq, Repr

/-! ## The block -/

/-- The block, but for the target port front, the locked registers and the debug port. -/
structure Block where
  /-- global time in ns -/
  now : Nat := 0
  /-- pp_cold_rst_n is low -/
  inReset : Bool := false
  /-- values that the spec leaves open and that have been drawn -/
  free : Nat := 0
  /-- global time of the last refill of the regulators (R275) -/
  refilled : Nat := 0
  /-- the Beads and slots whose ep_prefetch was 1 at the end of cold reset (R53) -/
  prefetch : List (Nat × Nat) := []
  tpStatus : BitVec 32 := 0
  mp : Mp := {}
  loader : Loader := {}
  setting : Setting := {}
  lanes : Tab Lane := []
  front : Front := {}
  graph : Graph := {}
  fences : Fences := {}
  beads : Tab Bead := []
  chans : Tab Chan := []
  saffron : Tab Saffron := []
  seq : SeqTable := {}
  cqs : Tab CQueue := []
  link : Link := {}
  parts : Parts := {}
  evc : Evc := {}
  experts : Experts := {}
  audit : Audit := {}
  trace : Trace := {}
  lkt : Debug := {}
  power : Power := {}
  deriving DecidableEq, Repr

/-- The machine: the instance's parameters, the waiting commands, the target port front, the
registers under a lock, the debug port, and the block. -/
structure State where
  params : Params
  pending : List Instr
  tp : Tp
  keys : Keys
  tap : Tap
  blk : Block
  deriving DecidableEq, Repr

/-- The machine right after reset: pp_cold_rst_n has risen and storage is not yet initialised. (DESIGN CHOICE, log 1) -/
def State.reset : State where
  params := .sixteenBead
  pending := []
  tp := {}
  keys := {}
  tap := {}
  blk := {}

end Sys2Proof.Machine
end

