-- ==== Sys2Proof/Machine/Ops.lean ====
section
/-! DEFINITION. The named operations that every family shares: sparse tables, bit fields, status
precedence, memory views, event sources, trace events, Locket rings and the memory ports. -/

namespace Sys2Proof

namespace Machine

/-! ## Sparse tables -/

/-- The entry at index `i`; `d` is the reset entry. -/
def tget {α : Type} (d : α) : Tab α → Nat → α
  | [], _ => d
  | (j, a) :: t, i => if j = i then a else tget d t i

/-- The table with entry `a` at index `i`, in canonical form: rising indices, no reset entry. What it
holds at an index is right of every table, in that form or not. -/
def tset {α : Type} [DecidableEq α] (d : α) : Tab α → Nat → α → Tab α
  | [], i, a => if a = d then [] else [(i, a)]
  | (j, b) :: t, i, a =>
      if j < i then (j, b) :: tset d t i a
      else if j = i then (if a = d then tset d t i a else (i, a) :: t)
      else if a = d then (j, b) :: tset d t i a else (i, a) :: (j, b) :: t

/-- Changes the entry at index `i`. -/
def tmod {α : Type} [DecidableEq α] (d : α) (t : Tab α) (i : Nat) (f : α → α) : Tab α :=
  tset d t i (f (tget d t i))

/-- The canonical form of a table: indices strictly rising, no reset entry. -/
def Tab.wf {α : Type} [DecidableEq α] (d : α) : Tab α → Bool
  | [] => true
  | (i, a) :: t => decide (a ≠ d) && t.all (fun p => decide (i < p.1)) && Tab.wf d t

/-! ## Fields and counters -/

/-- Bits `hi`:`lo` of a value. -/
def bits (w hi lo : Nat) : Nat := w / 2 ^ lo % 2 ^ (hi + 1 - lo)

/-- Bits `hi`:`lo` of a word. -/
def fld (w : Word) (hi lo : Nat) : Nat := bits w.toNat hi lo

/-- Bit `i` of a word. -/
def bit (w : Word) (i : Nat) : Bool := fld w i i == 1

/-- A Bool as the value of a one-bit field. -/
def b2n (b : Bool) : Nat := if b then 1 else 0

/-- A word made of fields: (value, width, lowest bit); a value is cut to its width. -/
def pack : List (Nat × Nat × Nat) → Nat
  | [] => 0
  | (v, w, lo) :: fs => v % 2 ^ w * 2 ^ lo + pack fs

/-- `pack` as a 64-bit word. -/
def packW (fs : List (Nat × Nat × Nat)) : Word := BitVec.ofNat 64 (pack fs)

/-- A counter that saturates at 2^w − 1 (R522). -/
def satAdd (w n k : Nat) : Nat := min (n + k) (2 ^ w - 1)

/-- A counter that wraps at 2^w (R522). -/
def wrapAdd (w n k : Nat) : Nat := (n + k) % 2 ^ w

/-- (a − b) modulo m. -/
def subMod (m a b : Nat) : Nat := (a + (m - b % m)) % m

/-! ## Status codes (R16, R17) -/

/-- R16: 0x10 and above is a failure. -/
def isFailure (s : Status) : Bool := 0x10 ≤ s.toNat

/-- R17: a failure outranks any code that is not one, and the first failure stays; of two codes that
are no failures the first other than OK stays (DEDUCED, log 6). -/
def mergeStatus (old new : Status) : Status :=
  if isFailure old then old else if isFailure new then new
  else if old = Status.ok then new else old

/-- R17, R525: of the failures found in one check, the numerically lowest. -/
def lowestStatus : List Status → Status
  | [] => Status.ok
  | s :: ss =>
      let r := lowestStatus ss
      if isFailure s then (if isFailure r then (if s.toNat ≤ r.toNat then s else r) else s) else r

/-- The poison half of a decrement (R230): a failure, or OK. -/
def poisonOf (s : Status) : Status := if isFailure s then s else Status.ok

/-! ## Memory words (R7) and views -/

/-- The low `n` bytes of a value, lowest-addressed first. -/
def leBytes : Nat → Nat → List Byte
  | 0, _ => []
  | n + 1, v => BitVec.ofNat 8 v :: leBytes n (v / 256)

/-- The little-endian value of bytes. -/
def leNat : List Byte → Nat
  | [] => 0
  | b :: bs => b.toNat + 256 * leNat bs

/-- The bytes of a list of words. -/
def wordsBytes (ws : List Word) : List Byte := ws.flatMap fun w => leBytes 8 w.toNat

/-- R51: the status that a response code gives; `fault` is the row's status for FAULT. -/
def codeStatus (fault : Status) (c : BitVec 2) : Status :=
  if c = 0#2 then Status.ok else if c = 1#2 then Status.ecc else fault

/-- R51, R525: the outcome of a read of one item. -/
def codesStatus (fault : Status) (cs : List (BitVec 2)) : Status :=
  lowestStatus (cs.map (codeStatus fault))

end Machine

/-- The word at a multiple of 8. -/
def MemView.word (m : MemView) (a : Nat) : Word :=
  match m.words.find? (fun p => p.1 = a) with
  | some p => p.2
  | none => 0

/-- `n` words from a multiple of 8 upward. -/
def MemView.wordsAt (m : MemView) (a n : Nat) : List Word :=
  (List.range n).map fun i => m.word (a + 8 * i)

/-- The byte at any address. -/
def MemView.byte (m : MemView) (a : Nat) : Nat :=
  Machine.bits (m.word (a / 8 * 8)).toNat (8 * (a % 8) + 7) (8 * (a % 8))

/-- The 16-bit value at a multiple of 2. -/
def MemView.u16 (m : MemView) (a : Nat) : Nat :=
  Machine.bits (m.word (a / 8 * 8)).toNat (8 * (a % 8) + 15) (8 * (a % 8))

/-- The 32-bit value at a multiple of 4. -/
def MemView.u32 (m : MemView) (a : Nat) : Nat :=
  Machine.bits (m.word (a / 8 * 8)).toNat (8 * (a % 8) + 31) (8 * (a % 8))

/-- The bytes of an area. -/
def MemView.bytes (m : MemView) (a n : Nat) : List Byte :=
  (List.range n).map fun i => BitVec.ofNat 8 (m.byte (a + i))

/-- The error codes that reads of `[a, a + n)` meet, in the order of their arrival. -/
def MemView.codes (m : MemView) (a n : Nat) : List (BitVec 2) :=
  (m.errs.filter fun e => e.base < a + n && a < e.base + e.len && e.code ≠ 0).map (·.code)

/-- The first byte of `[a, a + n)` that an error response concerns. -/
def MemView.firstBad (m : MemView) (a n : Nat) : Option Nat :=
  ((m.errs.filter fun e => e.base < a + n && a < e.base + e.len && e.code ≠ 0).map fun e => max a e.base).min?

/-- R51, R525: the outcome of a read of `[a, a + n)`. -/
def MemView.status (m : MemView) (fault : Status) (a n : Nat) : Status :=
  Machine.codesStatus fault (m.codes a n)

/-- R191: the reserved bytes of a parameter block are zero. -/
def reservedZero (ws : List Word) : Bool := (ws[6]?).getD 0 == 0 && (ws[7]?).getD 0 == 0

/-- The synthesis parameters of Bead `n`. -/
def Params.bead (p : Params) (n : Nat) : BeadParams := (p.beads[n]?).getD { slots := 0, chnQueues := 0 }
/-- P_BEADS. -/
def Params.nBeads (p : Params) : Nat := p.beads.length

namespace Machine

/-! ## Trace events -/

/-- Word 0 of a trace record (R471). -/
def traceWord0 (cls units srcu arg : Nat) : Word :=
  packW [(cls, 6, 58), (units - 1, 2, 56), (srcu, 8, 48), (arg, 48, 0)]

/-- R472: whether the writer records an event of a class now. -/
def Trace.records (t : Trace) (cls : Nat) : Bool :=
  (t.state == .armed || t.state == .triggered) && bit t.mask cls

/-- R476: a record is lost. -/
def Trace.lose (t : Trace) (now : Nat) : Trace :=
  { t with
    lost := satAdd 32 t.lost 1
    loss := some (match t.loss with
      | none => { count := 1, first := now, last := now }
      | some l => { l with count := satAdd 32 l.count 1, last := now }) }

/-- Sets PEND of a source (R439). Source 0 never becomes pending (R438). -/
def Block.pendSource (b : Block) (src : Nat) : Block :=
  if src = 0 then b
  else { b with evc := { b.evc with pend := b.evc.pend ||| BitVec.ofNat 2048 (2 ^ src) } }

/-- R472: an event enters the queue behind the others; those of one global time stand in ascending CLASS order (DEDUCED,
log 135). -/
def Trace.insert (q : List TraceEv) (e : TraceEv) : List TraceEv :=
  let k := (q.reverse.takeWhile fun x => x.words[1]? == e.words[1]? && decide (e.cls < x.cls)).length
  q.take (q.length - k) ++ e :: q.drop (q.length - k)

/-- R472: an event enters the writer's queue of 64. Where that is full, the last of what has been raised is lost: the
event, or one of its time and of a higher CLASS that stands behind it. The source 11 of such a loss writes no ERROR
event: it would find the queue full as well (DEDUCED, log 7). -/
def Block.traceEvent (b : Block) (cls units arg : Nat) (rest : List Word) : Block :=
  if !b.trace.records cls then b
  else
    let q := Trace.insert b.trace.queue
      { cls := cls, words := traceWord0 cls units 0xFF arg :: BitVec.ofNat 64 b.now :: rest }
    if b.trace.queue.length < 64 then { b with trace := { b.trace with queue := q } }
    else Block.pendSource { b with trace := { (b.trace.lose b.now) with queue := q.take 64 } } 11

/-- R471: the sources whose raising is an event of class ERROR. -/
def tracedSource (src : Nat) : Bool := (1 ≤ src && src ≤ 15) || (64 ≤ src && src ≤ 319)

/-- Raises a source (R438, R439), with its trace event of class ERROR (R471). -/
def Block.raise (b : Block) (src : Nat) : Block :=
  let b := b.pendSource src
  if tracedSource src then b.traceEvent 12 1 src [] else b

/-! ## Locket rings -/

/-- R479: a ring holds the last 64 events of its unit and counts all of them. -/
def Ring.push (r : Ring) (w0 w1 : Word) : Ring :=
  let es := r.entries ++ [(w0, w1)]
  { entries := es.drop (es.length - 64), total := wrapAdd 32 r.total 1 }

/-- R479: an event into the ring `ring` of a Bead, or of the Clasp (unit 63). -/
def Block.locket (b : Block) (unit ring code arg : Nat) : Block :=
  { b with lkt := { b.lkt with
      rings := tmod {} b.lkt.rings (256 * unit + ring) fun r =>
        r.push (packW [(code, 8, 56), (arg, 56, 0)]) (BitVec.ofNat 64 b.now) } }

/-- An event of the Clasp's ring. -/
def Block.claspLocket (b : Block) (code arg : Nat) : Block := b.locket 63 0 code arg

/-! ## Memory ports -/

/-- Identities of a port: 256 on the Clasp port (63), 64 on a Bead's. -/
def portIds (port : Nat) : Nat := if port = 63 then 256 else 64

/-- R46: the lowest identity of a port that no outstanding read uses. (DESIGN CHOICE, log 56) -/
def Mp.freeRead (m : Mp) (port : Nat) : Option Nat :=
  (List.range (portIds port)).find? fun i => !m.reads.any fun r => r.port == port && r.id == i

/-- R46, for writes. -/
def Mp.freeWrite (m : Mp) (port : Nat) : Option Nat :=
  (List.range (portIds port)).find? fun i => !m.writes.any fun r => r.port == port && r.id == i

/-- R48: an unacknowledged write of the block may have changed bytes of `[a, a + n)`. -/
def Mp.pendingWrite (x : Mp) (a n : Nat) : Bool :=
  (x.writes ++ x.heldWrites).any fun w => w.addr < a + n && a < w.addr + w.bytes.length

/-- The identity with which a read of `[a, a + n)` may be presented: none while R46, R48 or R73 holds it. -/
def Mp.readId (m : Mp) (port a n : Nat) : Option Nat :=
  if m.opened && !m.pendingWrite a n then m.freeRead port else none

/-- The identity with which a write may be presented (R46, R73). -/
def Mp.writeId (m : Mp) (port : Nat) : Option Nat := if m.opened then m.freeWrite port else none

/-- Presents a read request, or holds it until it may be presented. -/
def Mp.ask (m : Mp) (port cls addr len : Nat) (purpose : RPurpose) : Mp :=
  match m.readId port addr len with
  | some i => { m with reads := m.reads ++ [{ port := port, id := i, cls := cls, addr := addr, len := len, purpose := purpose }] }
  | none => { m with heldReads := m.heldReads ++ [{ port := port, id := 0, cls := cls, addr := addr, len := len, purpose := purpose }] }

/-- Presents a write request, or holds it until it may be presented. -/
def Mp.put (m : Mp) (port cls addr : Nat) (bytes : List Byte) (purpose : WPurpose) : Mp :=
  match m.writeId port with
  | some i => { m with writes := m.writes ++ [{ port := port, id := i, cls := cls, addr := addr, bytes := bytes, purpose := purpose }] }
  | none => { m with heldWrites := m.heldWrites ++ [{ port := port, id := 0, cls := cls, addr := addr, bytes := bytes, purpose := purpose }] }

/-- After an answer has freed an identity, the oldest request that the port holds and may present is presented. -/
def Mp.promoteRead (m : Mp) (port : Nat) : Mp :=
  match m.heldReads.find? fun r => r.port == port && (m.readId port r.addr r.len).isSome with
  | none => m
  | some r => Mp.ask { m with heldReads := m.heldReads.erase r } port r.cls r.addr r.len r.purpose

/-- `promoteRead` for writes. -/
def Mp.promoteWrite (m : Mp) (port : Nat) : Mp :=
  match m.heldWrites.find? (·.port == port) with
  | none => m
  | some r => Mp.put { m with heldWrites := m.heldWrites.erase r } port r.cls r.addr r.bytes r.purpose

/-- R48: after an acknowledge, the held reads that may then be presented are presented, oldest first. -/
def Mp.promoteReads (m : Mp) : Mp := m.heldReads.foldl (fun m r => m.promoteRead r.port) m

/-- R73: a Setting load has been started, and what has been held for it is presented. -/
def Mp.open (m : Mp) : Mp :=
  let m := { m with opened := true }
  (m.heldWrites.foldl (fun m r => m.promoteWrite r.port) m).promoteReads

/-- Issues a read on the Clasp's port (63) or a Bead's. -/
def Block.ask (b : Block) (port cls addr len : Nat) (purpose : RPurpose) : Block :=
  { b with mp := b.mp.ask port cls addr len purpose }

/-- A write made for `f` waits for its acknowledge, or to be issued. -/
def Mp.writesFor (x : Mp) (f : WPurpose → Bool) : Bool := (x.writes ++ x.heldWrites).any fun w => f w.purpose

/-- The area `[a, a + n)` cut at 256-byte boundaries (R45). -/
def splitRead : Nat → Nat → Nat → List (Nat × Nat)
  | 0, _, _ => []
  | f + 1, a, n => if n = 0 then [] else
      let k := min n (256 - a % 256)
      (a, k) :: splitRead f (a + k) (n - k)

/-- The bytes of a write cut at 256-byte boundaries (R45). -/
def splitWrite : Nat → Nat → List Byte → List (Nat × List Byte)
  | 0, _, _ => []
  | n + 1, a, bs =>
      if bs.isEmpty then []
      else
        let k := 256 - a % 256
        (a, bs.take k) :: splitWrite n (a + k) (bs.drop k)

/-- Issues a write. -/
def Block.put (b : Block) (port cls addr : Nat) (bytes : List Byte) (purpose : WPurpose) : Block :=
  { b with
    mp := (splitWrite (bytes.length + 1) addr bytes).foldl
      (fun m p => m.put port cls p.1 p.2 purpose) b.mp }

/-- CLS_MP_ERR_INFO of an error (R51). -/
def mpErrInfo (port : Nat) (write : Bool) (cls : Nat) (code : BitVec 2) (id : Nat) : BitVec 32 :=
  BitVec.ofNat 32 (pack [(1, 1, 31), (port, 6, 16), (b2n write, 1, 15), (cls, 3, 12),
    (code.toNat, 2, 10), (id, 8, 0)])

/-- R51: the first error response since the last clear is recorded, a later one sets MORE; source 1
is raised when VALID or MORE is set (R438). A request begins at a multiple of 64, and code 3 is FAULT (DESIGN CHOICE, log 8). CODE
shows the code that came, also POISON of a write, which acts as FAULT (DESIGN CHOICE, log 148). -/
def Block.mpError (b : Block) (port : Nat) (write : Bool) (cls addr : Nat) (code : BitVec 2)
    (id : Nat) : Block :=
  let m := b.mp
  let code := if code = 3#2 then 2#2 else code
  if m.errInfo.toNat < 2 ^ 31 then
    Block.raise { b with mp := { m with
        errAddr := BitVec.ofNat 64 (addr / 64 * 64 % 2 ^ 56)
        errInfo := mpErrInfo port write cls code id ||| (m.errInfo &&& 0x40000000#32) } } 1
  else Block.raise { b with mp := { m with errInfo := m.errInfo ||| 0x40000000#32 } } 1

/-- R51, R525: the errors that a whole-step read of `[a, a + n)` meets are recorded in the order of
their arrival, with the identity that the view names; the requests of the read are as long as R45 lets them
be (DESIGN CHOICE, log 8). -/
def Block.viewErrors (b : Block) (port cls : Nat) (m : MemView) (a n : Nat) : Block :=
  (m.errs.filter fun e => e.base < a + n && a < e.base + e.len && e.code ≠ 0).foldl
    (fun b e => b.mpError port false cls (max a (max a e.base / 256 * 256)) e.code (e.id.toNat % portIds port)) b

/-- R17: of a node's failure `st` and the poison it took before, the one detected first. (DEDUCED, log 131) -/
def firstFailure (poison st : Status) : Status := if isFailure st && isFailure poison then poison else st

/-! ## Free values -/

/-- The next value that the spec leaves open, and the block that has drawn it (DESIGN CHOICE, log 4). -/
def Block.draw (b : Block) : Word × Block := (freeWord b.free, { b with free := b.free + 1 })

/-- `k` free values. -/
def Block.drawWords (b : Block) (k : Nat) : List Word × Block :=
  ((List.range k).map fun i => freeWord (b.free + i), { b with free := b.free + k })

/-! ## Entries of the block's tables -/

/-- Queue `q`. -/
def Block.queue (b : Block) (q : Nat) : Queue := tget {} b.front.queues q
/-- Changes queue `q`. -/
def Block.modQueue (b : Block) (q : Nat) (f : Queue → Queue) : Block :=
  { b with front := { b.front with queues := tmod {} b.front.queues q f } }
/-- Hardware slot `i`. -/
def Block.hws (b : Block) (i : Nat) : Hws := tget {} b.front.hws i
/-- Changes hardware slot `i`. -/
def Block.modHws (b : Block) (i : Nat) (f : Hws → Hws) : Block :=
  { b with front := { b.front with hws := tmod {} b.front.hws i f } }
/-- Submission `seg`. -/
def Block.sub (b : Block) (seg : Nat) : Sub := tget {} b.graph.subs seg
/-- Changes submission `seg`. -/
def Block.modSub (b : Block) (seg : Nat) (f : Sub → Sub) : Block :=
  { b with graph := { b.graph with subs := tmod {} b.graph.subs seg f } }
/-- Node `index` of submission `seg`. -/
def Block.node (b : Block) (seg index : Nat) : Node := tget {} (b.sub seg).nodes index
/-- Changes node `index` of submission `seg`. -/
def Block.modNode (b : Block) (seg index : Nat) (f : Node → Node) : Block :=
  b.modSub seg fun s => { s with nodes := tmod {} s.nodes index f }
/-- The Clasp's record of a window entry. -/
def Block.cwin (b : Block) (bead win : Nat) : CWin := tget {} (tget [] b.graph.cwin bead) win
/-- Changes the Clasp's record of a window entry. -/
def Block.modCwin (b : Block) (bead win : Nat) (f : CWin → CWin) : Block :=
  { b with graph := { b.graph with cwin := tmod [] b.graph.cwin bead fun t => tmod {} t win f } }
/-- Fence `i`. -/
def Block.fence (b : Block) (i : Nat) : Fence := tget {} b.fences.table i
/-- Changes fence `i`. -/
def Block.modFence (b : Block) (i : Nat) (f : Fence → Fence) : Block :=
  { b with fences := { b.fences with table := tmod {} b.fences.table i f } }
/-- Bead `n`. -/
def Block.bead (b : Block) (n : Nat) : Bead := tget {} b.beads n
/-- Changes Bead `n`. -/
def Block.modBead (b : Block) (n : Nat) (f : Bead → Bead) : Block :=
  { b with beads := tmod {} b.beads n f }
/-- Window entry `w` of Bead `n`. -/
def Block.win (b : Block) (n w : Nat) : WinEntry := tget {} (b.bead n).win w
/-- Changes window entry `w` of Bead `n`. -/
def Block.modWin (b : Block) (n w : Nat) (f : WinEntry → WinEntry) : Block :=
  b.modBead n fun d => { d with win := tmod {} d.win w f }
/-- Engine slot `s` of Bead `n`. -/
def Block.slot (b : Block) (n s : Nat) : Slot := tget {} (b.bead n).slots s
/-- Changes engine slot `s` of Bead `n`. -/
def Block.modSlot (b : Block) (n s : Nat) (f : Slot → Slot) : Block :=
  b.modBead n fun d => { d with slots := tmod {} d.slots s f }
/-- The message-channel SRAM of Bead `n`. -/
def Block.chan (b : Block) (n : Nat) : Chan := tget {} b.chans n
/-- Changes the message-channel SRAM of Bead `n`. -/
def Block.modChan (b : Block) (n : Nat) (f : Chan → Chan) : Block :=
  { b with chans := tmod {} b.chans n f }
/-- Receive queue `q` of Bead `n`. -/
def Block.rx (b : Block) (n q : Nat) : RxQueue := tget {} (b.chan n).rx q
/-- Changes receive queue `q` of Bead `n`. -/
def Block.modRx (b : Block) (n q : Nat) (f : RxQueue → RxQueue) : Block :=
  b.modChan n fun c => { c with rx := tmod {} c.rx q f }
/-- Transmit port `q` of Bead `n`. -/
def Block.tx (b : Block) (n q : Nat) : TxPort := tget {} (b.chan n).tx q
/-- Changes transmit port `q` of Bead `n`. -/
def Block.modTx (b : Block) (n q : Nat) (f : TxPort → TxPort) : Block :=
  b.modChan n fun c => { c with tx := tmod {} c.tx q f }
/-- The Saffron unit of Bead `n`. -/
def Block.saf (b : Block) (n : Nat) : Saffron := tget {} b.saffron n
/-- Changes the Saffron unit of Bead `n`. -/
def Block.modSaf (b : Block) (n : Nat) (f : Saffron → Saffron) : Block :=
  { b with saffron := tmod {} b.saffron n f }
/-- Sequence entry `i`. -/
def Block.seqEntry (b : Block) (i : Nat) : Seq := tget {} b.seq.seqs i
/-- Changes sequence entry `i`. -/
def Block.modSeq (b : Block) (i : Nat) (f : Seq → Seq) : Block :=
  { b with seq := { b.seq with seqs := tmod {} b.seq.seqs i f } }
/-- A context's side of the sequence table. -/
def Block.seqCtx (b : Block) (c : Nat) : SeqCtx := tget {} b.seq.ctxs c
/-- Changes a context's side of the sequence table. -/
def Block.modSeqCtx (b : Block) (c : Nat) (f : SeqCtx → SeqCtx) : Block :=
  { b with seq := { b.seq with ctxs := tmod {} b.seq.ctxs c f } }
/-- Completion queue `c`. -/
def Block.cq (b : Block) (c : Nat) : CQueue := tget {} b.cqs c
/-- Changes completion queue `c`. -/
def Block.modCq (b : Block) (c : Nat) (f : CQueue → CQueue) : Block :=
  { b with cqs := tmod {} b.cqs c f }
/-- Peer entry `p`. -/
def Block.peer (b : Block) (p : Nat) : Peer := tget {} b.link.peers p
/-- Changes peer entry `p`. -/
def Block.modPeer (b : Block) (p : Nat) (f : Peer → Peer) : Block :=
  { b with link := { b.link with peers := tmod {} b.link.peers p f } }
/-- Partition `p`. -/
def Block.part (b : Block) (p : Nat) : Part := tget {} b.parts.parts p
/-- Changes partition `p`. -/
def Block.modPart (b : Block) (p : Nat) (f : Part → Part) : Block :=
  { b with parts := { b.parts with parts := tmod {} b.parts.parts p f } }
/-- Context `c`. -/
def Block.ctx (b : Block) (c : Nat) : Ctx := tget {} b.parts.ctxs c
/-- Changes context `c`. -/
def Block.modCtx (b : Block) (c : Nat) (f : Ctx → Ctx) : Block :=
  { b with parts := { b.parts with ctxs := tmod {} b.parts.ctxs c f } }
/-- The Clasp's record of Bead `n`. -/
def Block.pbead (b : Block) (n : Nat) : PBead := tget {} b.parts.beads n
/-- Changes the Clasp's record of Bead `n`. -/
def Block.modPbead (b : Block) (n : Nat) (f : PBead → PBead) : Block :=
  { b with parts := { b.parts with beads := tmod {} b.parts.beads n f } }
/-- Lane `n` (255 is the local lane). -/
def Block.lane (b : Block) (n : Nat) : Lane := tget {} b.lanes n
/-- Changes lane `n`. -/
def Block.modLane (b : Block) (n : Nat) (f : Lane → Lane) : Block :=
  { b with lanes := tmod {} b.lanes n f }
/-- Event source `s`. -/
def Block.evSrc (b : Block) (s : Nat) : EvSrc := tget {} b.evc.srcs s
/-- Changes event source `s`. -/
def Block.modEvSrc (b : Block) (s : Nat) (f : EvSrc → EvSrc) : Block :=
  { b with evc := { b.evc with srcs := tmod {} b.evc.srcs s f } }
/-- Hold-off group `g`. -/
def Block.evGroup (b : Block) (g : Nat) : EvGroup := tget {} b.evc.groups g
/-- Changes hold-off group `g`. -/
def Block.modEvGroup (b : Block) (g : Nat) (f : EvGroup → EvGroup) : Block :=
  { b with evc := { b.evc with groups := tmod {} b.evc.groups g f } }
/-- Event target `t`. -/
def Block.evTarget (b : Block) (t : Nat) : EvTarget := tget {} b.evc.targets t
/-- Changes event target `t`. -/
def Block.modEvTarget (b : Block) (t : Nat) (f : EvTarget → EvTarget) : Block :=
  { b with evc := { b.evc with targets := tmod {} b.evc.targets t f } }
/-- Power domain `d`. -/
def Block.dom (b : Block) (d : Nat) : Domain := tget {} b.power.doms d
/-- Changes power domain `d`. -/
def Block.modDom (b : Block) (d : Nat) (f : Domain → Domain) : Block :=
  { b with power := { b.power with doms := tmod {} b.power.doms d f } }

/-- An input of the surroundings acts on the block unless cold reset holds it (R70). (DESIGN CHOICE, log 55) -/
def State.input (s : State) (f : Block → Block) : State :=
  if s.blk.inReset then s else { s with blk := f s.blk }

/-! ## Progress counters -/

/-- The index of a unit in the monitor. -/
def stallUnit (kind unit : Nat) : Nat := 8192 * kind + unit

/-- R172: the progress counter of a unit moves. -/
def Block.progress (b : Block) (kind unit : Nat) : Block :=
  { b with front := { b.front with moved := tset (0, false) b.front.moved (stallUnit kind unit) (b.now, false) } }

end Machine

end Sys2Proof
end

