-- ==== Sys2Proof/Machine/Operands.lean ====
section
/-! DEFINITION. Operand forms: the registers of the window and their offsets (R133 to R136), the
judgement of an access (R526), the response to it, and split 64-bit accesses (R13, R14, R42, R43). -/

namespace Sys2Proof.Machine

/-- The registers of the window (R133), each with the index that its offset line names. -/
inductive Reg where
  | mpErrAddr | mpErrInfo | tpStatus | flStatus (i : Nat) | flErrcnt (i : Nat) | flCfg (i : Nat)
  | pgBase | pgSize | pgStatus | pgOcc | pgCmd | pgErr | pgSweep | partStatus (i : Nat)
  | partCmd (i : Nat) | partSwitch (i : Nat) | partHint (i : Nat) | partBead (i : Nat) | ctxSel
  | ctxReg | ctxLive | ctxArea | ctxCmd | ctxArg | expBase | expCfg | expStart | expStatus
  | expLate | expRpos (i : Nat) | audPart | audProf | audBase | audSize | audStatus
  | audKd (i : Nat) | prgWindow (i : Nat) | prgStall | prgStatus | prgPop | prgBead (i : Nat)
  | hwsCfg (i : Nat) | hwsStatus (i : Nat) | hwsCmd (i : Nat) | hwsMap | hwsDbrej
  | qRing (i : Nat) | qRcb (i : Nat) | qCfg (i : Nat) | qCmd (i : Nat) | qStatus (i : Nat)
  | qHead (i : Nat) | qTailSeen (i : Nat) | qProg (i : Nat) | qHeadInit (i : Nat)
  | fncEntry (i : Nat) | fncCmd | fncCmdStatus | fncCycle | seqId (i : Nat) | seqLen (i : Nat)
  | seqPages (i : Nat) | seqTail (i : Nat) | sqtCtxPages (i : Nat) | sqtCtxStep (i : Nat)
  | poolBase | poolCfg | poolStatus | sqtCmdArg | sqtCmd | sqtCmdStatus | trcStatus | trcHead
  | trcPos | trcLost | trcCmd | trcMask | trcTrig | trcProgSel | trcProg | cqRing (i : Nat)
  | cqCcb (i : Nat) | cqCfg (i : Nat) | cqCmd (i : Nat) | cqStatus (i : Nat) | lnkSelf
  | lnkStatus | lnkTxstat | lnkPeer (i : Nat) | pwrDom (i : Nat) | pwrDomCmd | pwrWarn
  | pwrWarnCfg | pwrWarnT0 | pwrEccCnt | pwrEccLog | pwrEccCtl | pwrFence (i : Nat)
  | evcSrcCfg (i : Nat) | evcPend (i : Nat) | evcMask (i : Nat) | evcActive (i : Nat)
  | evcGrp (i : Nat) | evcSwi | evcPclr | evcSync | evcStatus | tgtClaim (i : Nat)
  | tgtComplete (i : Nat) | tgtThresh (i : Nat) | tgtStatus (i : Nat) | tgtMsgaddr (i : Nat)
  | tgtMsgdata (i : Nat) | setId | setIfrev | setFmtrev | setParam | setFeature
  | setBeadParam (i : Nat) | imgAddr | imgLen | setCtl | setStatus | setErr | setProgress
  | setDigest (i : Nat) | keyhash (i : Nat) | keyCfg | lktStop | lktBeads | lktCmd | lktDumpBase
  | lktSel | lktEntry (i : Nat) | lktBreak (i : Nat) | lktPeerCnt (i : Nat)
  | dbWord (page word : Nat) | bdStatus (bead : Nat) | bdErr (bead : Nat)
  | bdSlot (bead i : Nat) | bdReg (bead i : Nat) | bdTile (bead i : Nat) | ctrRun (bead i : Nat)
  | ctrLastHdr (bead : Nat) | ctrLast (bead i : Nat) | safStatus (bead : Nat)
  | safCnt (bead : Nat) | safCyc (bead : Nat) | safErr (bead : Nat) | chnRd (bead queue i : Nat)
  | chnRtag (bead queue : Nat) | chnCount (bead queue : Nat) | chnCmd (bead queue : Nat)
  | chnCfg (bead queue : Nat) | chnTxHdr (bead queue : Nat) | chnTxData (bead queue : Nat)
  | chnTxStatus (bead queue : Nat) | chnTxCfg (bead queue : Nat)
  deriving DecidableEq, Repr

/-- The offset of a register in the window. -/
def Reg.offset : Reg → Nat
  | .mpErrAddr => 0xE00
  | .mpErrInfo => 0xE08
  | .tpStatus => 0xE10
  | .flStatus i => 0x1000 + i * 0x40
  | .flErrcnt i => 0x1008 + i * 0x40
  | .flCfg i => 0x1010 + i * 0x40
  | .pgBase => 0x2000
  | .pgSize => 0x2008
  | .pgStatus => 0x200C
  | .pgOcc => 0x2010
  | .pgCmd => 0x2018
  | .pgErr => 0x2020
  | .pgSweep => 0x2028
  | .partStatus i => 0x3000 + i * 0x20
  | .partCmd i => 0x3008 + i * 0x20
  | .partSwitch i => 0x3010 + i * 0x20
  | .partHint i => 0x3018 + i * 0x20
  | .partBead i => 0x3200 + i * 0x8
  | .ctxSel => 0x3400
  | .ctxReg => 0x3408
  | .ctxLive => 0x3410
  | .ctxArea => 0x3418
  | .ctxCmd => 0x3420
  | .ctxArg => 0x3428
  | .expBase => 0x4000
  | .expCfg => 0x4008
  | .expStart => 0x4010
  | .expStatus => 0x4018
  | .expLate => 0x4020
  | .expRpos i => 0x4800 + i * 0x8
  | .audPart => 0x5000
  | .audProf => 0x5008
  | .audBase => 0x5010
  | .audSize => 0x5018
  | .audStatus => 0x5020
  | .audKd i => 0x5040 + i * 0x8
  | .prgWindow i => 0x6000 + i * 0x4
  | .prgStall => 0x6010
  | .prgStatus => 0x6018
  | .prgPop => 0x601C
  | .prgBead i => 0x6100 + i * 0x8
  | .hwsCfg i => 0x8000 + i * 0x20
  | .hwsStatus i => 0x8004 + i * 0x20
  | .hwsCmd i => 0x8008 + i * 0x20
  | .hwsMap => 0x8800
  | .hwsDbrej => 0x8808
  | .qRing i => 0x40000 + i * 0x40
  | .qRcb i => 0x40008 + i * 0x40
  | .qCfg i => 0x40010 + i * 0x40
  | .qCmd i => 0x40018 + i * 0x40
  | .qStatus i => 0x4001C + i * 0x40
  | .qHead i => 0x40020 + i * 0x40
  | .qTailSeen i => 0x40024 + i * 0x40
  | .qProg i => 0x40028 + i * 0x40
  | .qHeadInit i => 0x40030 + i * 0x40
  | .fncEntry i => 0x200000 + i * 0x8
  | .fncCmd => 0x280000
  | .fncCmdStatus => 0x280008
  | .fncCycle => 0x280010
  | .seqId i => 0x300000 + i * 0x20
  | .seqLen i => 0x300008 + i * 0x20
  | .seqPages i => 0x300010 + i * 0x20
  | .seqTail i => 0x300018 + i * 0x20
  | .sqtCtxPages i => 0x380000 + i * 0x10
  | .sqtCtxStep i => 0x380008 + i * 0x10
  | .poolBase => 0x3C0000
  | .poolCfg => 0x3C0008
  | .poolStatus => 0x3C0010
  | .sqtCmdArg => 0x3C0018
  | .sqtCmd => 0x3C0020
  | .sqtCmdStatus => 0x3C0028
  | .trcStatus => 0x400000
  | .trcHead => 0x400004
  | .trcPos => 0x400008
  | .trcLost => 0x400010
  | .trcCmd => 0x400014
  | .trcMask => 0x400018
  | .trcTrig => 0x400020
  | .trcProgSel => 0x400028
  | .trcProg => 0x400030
  | .cqRing i => 0x500000 + i * 0x20
  | .cqCcb i => 0x500008 + i * 0x20
  | .cqCfg i => 0x500010 + i * 0x20
  | .cqCmd i => 0x500014 + i * 0x20
  | .cqStatus i => 0x500018 + i * 0x20
  | .lnkSelf => 0x580000
  | .lnkStatus => 0x580008
  | .lnkTxstat => 0x580010
  | .lnkPeer i => 0x581000 + i * 0x8
  | .pwrDom i => 0x600000 + i * 0x8
  | .pwrDomCmd => 0x600400
  | .pwrWarn => 0x601000
  | .pwrWarnCfg => 0x601008
  | .pwrWarnT0 => 0x601010
  | .pwrEccCnt => 0x602000
  | .pwrEccLog => 0x602008
  | .pwrEccCtl => 0x602010
  | .pwrFence i => 0x603000 + i * 0x8
  | .evcSrcCfg i => 0x1000000 + i * 0x8
  | .evcPend i => 0x1010000 + i * 0x8
  | .evcMask i => 0x1010100 + i * 0x8
  | .evcActive i => 0x1010200 + i * 0x8
  | .evcGrp i => 0x1011000 + i * 0x8
  | .evcSwi => 0x1012000
  | .evcPclr => 0x1012008
  | .evcSync => 0x1012010
  | .evcStatus => 0x1012018
  | .tgtClaim i => 0x1100000 + i * 0x1000
  | .tgtComplete i => 0x1100004 + i * 0x1000
  | .tgtThresh i => 0x1100008 + i * 0x1000
  | .tgtStatus i => 0x1100010 + i * 0x1000
  | .tgtMsgaddr i => 0x1100018 + i * 0x1000
  | .tgtMsgdata i => 0x1100020 + i * 0x1000
  | .setId => 0x3000000
  | .setIfrev => 0x3000008
  | .setFmtrev => 0x3000010
  | .setParam => 0x3000018
  | .setFeature => 0x3000020
  | .setBeadParam i => 0x3000100 + i * 0x8
  | .imgAddr => 0x3001000
  | .imgLen => 0x3001008
  | .setCtl => 0x300100C
  | .setStatus => 0x3001010
  | .setErr => 0x3001018
  | .setProgress => 0x3001020
  | .setDigest i => 0x3001040 + i * 0x8
  | .keyhash i => 0x3001100 + i * 0x8
  | .keyCfg => 0x3001140
  | .lktStop => 0x3800000
  | .lktBeads => 0x3800008
  | .lktCmd => 0x3800010
  | .lktDumpBase => 0x3800018
  | .lktSel => 0x3800020
  | .lktEntry i => 0x3800400 + i * 0x8
  | .lktBreak i => 0x3800800 + i * 0x8
  | .lktPeerCnt i => 0x3802000 + i * 0x8
  | .dbWord page word => 0x100000 + page * 0x1000 + word * 4
  | .bdStatus bead => 0x2000000 + bead * 0x40000 + 0x0
  | .bdErr bead => 0x2000000 + bead * 0x40000 + 0x8
  | .bdSlot bead i => 0x2000000 + bead * 0x40000 + (0x1000 + i * 0x10)
  | .bdReg bead i => 0x2000000 + bead * 0x40000 + (0x2000 + i * 0x10)
  | .bdTile bead i => 0x2000000 + bead * 0x40000 + (0x3000 + i * 0x10)
  | .ctrRun bead i => 0x2000000 + bead * 0x40000 + (0x8000 + i * 0x8)
  | .ctrLastHdr bead => 0x2000000 + bead * 0x40000 + 0x8100
  | .ctrLast bead i => 0x2000000 + bead * 0x40000 + (0x8200 + i * 0x8)
  | .safStatus bead => 0x2000000 + bead * 0x40000 + 0x20000
  | .safCnt bead => 0x2000000 + bead * 0x40000 + 0x20008
  | .safCyc bead => 0x2000000 + bead * 0x40000 + 0x20010
  | .safErr bead => 0x2000000 + bead * 0x40000 + 0x20018
  | .chnRd bead queue i => 0x2000000 + bead * 0x40000 + (0x10000 + queue * 0x200 + 0x0 + i * 8)
  | .chnRtag bead queue => 0x2000000 + bead * 0x40000 + (0x10000 + queue * 0x200 + 0x20)
  | .chnCount bead queue => 0x2000000 + bead * 0x40000 + (0x10000 + queue * 0x200 + 0x28)
  | .chnCmd bead queue => 0x2000000 + bead * 0x40000 + (0x10000 + queue * 0x200 + 0x30)
  | .chnCfg bead queue => 0x2000000 + bead * 0x40000 + (0x10000 + queue * 0x200 + 0x38)
  | .chnTxHdr bead queue => 0x2000000 + bead * 0x40000 + (0x10000 + queue * 0x200 + 0x100)
  | .chnTxData bead queue => 0x2000000 + bead * 0x40000 + (0x10000 + queue * 0x200 + 0x108)
  | .chnTxStatus bead queue => 0x2000000 + bead * 0x40000 + (0x10000 + queue * 0x200 + 0x110)
  | .chnTxCfg bead queue => 0x2000000 + bead * 0x40000 + (0x10000 + queue * 0x200 + 0x118)

/-- A 64-bit register. -/
def Reg.is64 : Reg → Bool
  | .mpErrInfo | .tpStatus | .flStatus _ | .flErrcnt _ | .flCfg _ | .pgSize | .pgStatus
  | .pgCmd | .pgErr | .partCmd _ | .partBead _ | .ctxSel | .ctxCmd | .expCfg | .expStart
  | .expLate | .audPart | .audSize | .audStatus | .prgWindow _ | .prgStatus | .prgPop
  | .hwsCfg _ | .hwsStatus _ | .hwsCmd _ | .hwsMap | .hwsDbrej | .qCmd _ | .qStatus _
  | .qHead _ | .qTailSeen _ | .qHeadInit _ | .fncCmdStatus | .fncCycle | .sqtCmdStatus
  | .trcStatus | .trcHead | .trcLost | .trcCmd | .trcProgSel | .cqCfg _ | .cqCmd _
  | .lnkTxstat | .pwrDom _ | .pwrDomCmd | .pwrWarnCfg | .pwrEccCtl | .pwrFence _
  | .evcSrcCfg _ | .evcSwi | .evcPclr | .evcSync | .evcStatus | .tgtClaim _ | .tgtComplete _
  | .tgtThresh _ | .tgtMsgdata _ | .setFmtrev | .setBeadParam _ | .imgLen | .setCtl
  | .setStatus | .keyCfg | .lktCmd | .dbWord _ _ | .bdStatus _ | .bdErr _ | .safStatus _
  | .safErr _ | .chnRtag _ _ | .chnCount _ _ | .chnCmd _ _ | .chnCfg _ _ | .chnTxHdr _ _
  | .chnTxStatus _ _ | .chnTxCfg _ _ => false
  | _ => true

/-- R134: the register stands in the instance. -/
def Reg.mapped (p : Params) : Reg → Bool
  | .flStatus i => i < 24 && i < p.remoteLanes
  | .flErrcnt i => i < 24 && i < p.remoteLanes
  | .flCfg i => i < 24 && i < p.remoteLanes
  | .partStatus i => i < 16
  | .partCmd i => i < 16
  | .partSwitch i => i < 16
  | .partHint i => i < 16
  | .partBead i => i < 48
  | .expRpos i => i < 256
  | .audKd i => i < 4
  | .prgWindow i => i < 4
  | .prgBead i => i < 48
  | .hwsCfg i => i < 64
  | .hwsStatus i => i < 64
  | .hwsCmd i => i < 64
  | .qRing i => i < 4096
  | .qRcb i => i < 4096
  | .qCfg i => i < 4096
  | .qCmd i => i < 4096
  | .qStatus i => i < 4096
  | .qHead i => i < 4096
  | .qTailSeen i => i < 4096
  | .qProg i => i < 4096
  | .qHeadInit i => i < 4096
  | .fncEntry i => i < 65536
  | .seqId i => p.seqTable && i < 16384
  | .seqLen i => p.seqTable && i < 16384
  | .seqPages i => p.seqTable && i < 16384
  | .seqTail i => p.seqTable && i < 16384
  | .sqtCtxPages i => p.seqTable && i < 1024
  | .sqtCtxStep i => p.seqTable && i < 1024
  | .cqRing i => i < 4096
  | .cqCcb i => i < 4096
  | .cqCfg i => i < 4096
  | .cqCmd i => i < 4096
  | .cqStatus i => i < 4096
  | .lnkPeer i => p.links != 0 && i < 1024
  | .pwrDom i => i < 104 && i < 8 + 2 * p.nBeads
  | .pwrFence i => i < 48 && i < p.nBeads
  | .evcSrcCfg i => i < 2048
  | .evcPend i => i < 32
  | .evcMask i => i < 32
  | .evcActive i => i < 32
  | .evcGrp i => i < 128
  | .tgtClaim i => i < 64 && i < p.evTargets
  | .tgtComplete i => i < 64 && i < p.evTargets
  | .tgtThresh i => i < 64 && i < p.evTargets
  | .tgtStatus i => i < 64 && i < p.evTargets
  | .tgtMsgaddr i => i < 64 && i < p.evTargets
  | .tgtMsgdata i => i < 64 && i < p.evTargets
  | .setBeadParam i => i < 48
  | .setDigest i => i < 4
  | .keyhash i => i < 8
  | .lktEntry i => i < 128
  | .lktBreak i => i < 48
  | .lktPeerCnt i => i < 1024
  | .poolBase | .poolCfg | .poolStatus | .sqtCmdArg | .sqtCmd | .sqtCmdStatus => p.seqTable
  | .lnkSelf | .lnkStatus | .lnkTxstat => p.links != 0
  | .dbWord page word => page < 256 && word < 128
  | .bdStatus bead => bead < 48 && bead < p.nBeads
  | .bdErr bead => bead < 48 && bead < p.nBeads
  | .bdSlot bead i => bead < 48 && bead < p.nBeads && i < 64
  | .bdReg bead i => bead < 48 && bead < p.nBeads && i < 20
  | .bdTile bead i => bead < 48 && bead < p.nBeads && i < 32
  | .ctrRun bead i => bead < 48 && bead < p.nBeads && i < 20
  | .ctrLastHdr bead => bead < 48 && bead < p.nBeads
  | .ctrLast bead i => bead < 48 && bead < p.nBeads && i < 20
  | .safStatus bead => p.saffron && bead < 48 && bead < p.nBeads
  | .safCnt bead => p.saffron && bead < 48 && bead < p.nBeads
  | .safCyc bead => p.saffron && bead < 48 && bead < p.nBeads
  | .safErr bead => p.saffron && bead < 48 && bead < p.nBeads
  | .chnRd bead queue i => bead < 48 && bead < p.nBeads && queue < 128 && queue < (p.bead bead).chnQueues && i < 4
  | .chnRtag bead queue => bead < 48 && bead < p.nBeads && queue < 128 && queue < (p.bead bead).chnQueues
  | .chnCount bead queue => bead < 48 && bead < p.nBeads && queue < 128 && queue < (p.bead bead).chnQueues
  | .chnCmd bead queue => bead < 48 && bead < p.nBeads && queue < 128 && queue < (p.bead bead).chnQueues
  | .chnCfg bead queue => bead < 48 && bead < p.nBeads && queue < 128 && queue < (p.bead bead).chnQueues
  | .chnTxHdr bead queue => bead < 48 && bead < p.nBeads && queue < 128 && queue < (p.bead bead).chnQueues
  | .chnTxData bead queue => bead < 48 && bead < p.nBeads && queue < 128 && queue < (p.bead bead).chnQueues
  | .chnTxStatus bead queue => bead < 48 && bead < p.nBeads && queue < 128 && queue < (p.bead bead).chnQueues
  | .chnTxCfg bead queue => bead < 48 && bead < p.nBeads && queue < 128 && queue < (p.bead bead).chnQueues
  | _ => true

/-- The register at offset `o` of the block of receive queue and transmit port `q` of a Bead. -/
def chnRegAt (bead q o : Nat) : Option Reg :=
  match o with
  | 0x0 => some (.chnRd bead q 0)
  | 0x8 => some (.chnRd bead q 1)
  | 0x10 => some (.chnRd bead q 2)
  | 0x18 => some (.chnRd bead q 3)
  | 0x20 => some (.chnRtag bead q)
  | 0x28 => some (.chnCount bead q)
  | 0x30 => some (.chnCmd bead q)
  | 0x38 => some (.chnCfg bead q)
  | 0x100 => some (.chnTxHdr bead q)
  | 0x108 => some (.chnTxData bead q)
  | 0x110 => some (.chnTxStatus bead q)
  | 0x118 => some (.chnTxCfg bead q)
  | _ => none

/-- The Bead register at offset `o` of the range of Bead `bead`. -/
def beadRegAt (bead o : Nat) : Option Reg :=
  if o < 0x1000 then
    (match o with
      | 0x0 => some (.bdStatus bead)
      | 0x8 => some (.bdErr bead)
      | _ => none) else
  if o < 0x1400 then
    (if (o - 0x1000) % 0x10 = 0 then some (.bdSlot bead ((o - 0x1000) / 0x10)) else none) else
  if o < 0x2000 then none else
  if o < 0x2140 then
    (if (o - 0x2000) % 0x10 = 0 then some (.bdReg bead ((o - 0x2000) / 0x10)) else none) else
  if o < 0x3000 then none else
  if o < 0x3200 then
    (if (o - 0x3000) % 0x10 = 0 then some (.bdTile bead ((o - 0x3000) / 0x10)) else none) else
  if o < 0x8000 then none else
  if o < 0x80A0 then
    (if (o - 0x8000) % 0x8 = 0 then some (.ctrRun bead ((o - 0x8000) / 0x8)) else none) else
  if o < 0x8200 then
    (match o with
      | 0x8100 => some (.ctrLastHdr bead)
      | _ => none) else
  if o < 0x82A0 then
    (if (o - 0x8200) % 0x8 = 0 then some (.ctrLast bead ((o - 0x8200) / 0x8)) else none) else
  if o < 0x10000 then none else
  if o < 0x20000 then
    chnRegAt bead ((o - 0x10000) / 0x200) ((o - 0x10000) % 0x200) else
  if o < 0x40000 then
    (match o with
      | 0x20000 => some (.safStatus bead)
      | 0x20008 => some (.safCnt bead)
      | 0x20010 => some (.safCyc bead)
      | 0x20018 => some (.safErr bead)
      | _ => none) else
  none

/-- The register at an offset, before the instance's own numbers are looked at (R133). -/
def offsetReg (off : Nat) : Option Reg :=
  if off < 0x1000 then
    (match off with
      | 0xE00 => some .mpErrAddr
      | 0xE08 => some .mpErrInfo
      | 0xE10 => some .tpStatus
      | _ => none) else
  if off < 0x1600 then
    (match (off - 0x1000) % 0x40 with
      | 0x0 => some (.flStatus ((off - 0x1000) / 0x40))
      | 0x8 => some (.flErrcnt ((off - 0x1000) / 0x40))
      | 0x10 => some (.flCfg ((off - 0x1000) / 0x40))
      | _ => none) else
  if off < 0x3000 then
    (match off with
      | 0x2000 => some .pgBase
      | 0x2008 => some .pgSize
      | 0x200C => some .pgStatus
      | 0x2010 => some .pgOcc
      | 0x2018 => some .pgCmd
      | 0x2020 => some .pgErr
      | 0x2028 => some .pgSweep
      | _ => none) else
  if off < 0x3200 then
    (match (off - 0x3000) % 0x20 with
      | 0x0 => some (.partStatus ((off - 0x3000) / 0x20))
      | 0x8 => some (.partCmd ((off - 0x3000) / 0x20))
      | 0x10 => some (.partSwitch ((off - 0x3000) / 0x20))
      | 0x18 => some (.partHint ((off - 0x3000) / 0x20))
      | _ => none) else
  if off < 0x3380 then
    (if (off - 0x3200) % 0x8 = 0 then some (.partBead ((off - 0x3200) / 0x8)) else none) else
  if off < 0x4800 then
    (match off with
      | 0x3400 => some .ctxSel
      | 0x3408 => some .ctxReg
      | 0x3410 => some .ctxLive
      | 0x3418 => some .ctxArea
      | 0x3420 => some .ctxCmd
      | 0x3428 => some .ctxArg
      | 0x4000 => some .expBase
      | 0x4008 => some .expCfg
      | 0x4010 => some .expStart
      | 0x4018 => some .expStatus
      | 0x4020 => some .expLate
      | _ => none) else
  if off < 0x5000 then
    (if (off - 0x4800) % 0x8 = 0 then some (.expRpos ((off - 0x4800) / 0x8)) else none) else
  if off < 0x5040 then
    (match off with
      | 0x5000 => some .audPart
      | 0x5008 => some .audProf
      | 0x5010 => some .audBase
      | 0x5018 => some .audSize
      | 0x5020 => some .audStatus
      | _ => none) else
  if off < 0x5060 then
    (if (off - 0x5040) % 0x8 = 0 then some (.audKd ((off - 0x5040) / 0x8)) else none) else
  if off < 0x6000 then none else
  if off < 0x6010 then
    (if (off - 0x6000) % 0x4 = 0 then some (.prgWindow ((off - 0x6000) / 0x4)) else none) else
  if off < 0x6100 then
    (match off with
      | 0x6010 => some .prgStall
      | 0x6018 => some .prgStatus
      | 0x601C => some .prgPop
      | _ => none) else
  if off < 0x6280 then
    (if (off - 0x6100) % 0x8 = 0 then some (.prgBead ((off - 0x6100) / 0x8)) else none) else
  if off < 0x8000 then none else
  if off < 0x8800 then
    (match (off - 0x8000) % 0x20 with
      | 0x0 => some (.hwsCfg ((off - 0x8000) / 0x20))
      | 0x4 => some (.hwsStatus ((off - 0x8000) / 0x20))
      | 0x8 => some (.hwsCmd ((off - 0x8000) / 0x20))
      | _ => none) else
  if off < 0x40000 then
    (match off with
      | 0x8800 => some .hwsMap
      | 0x8808 => some .hwsDbrej
      | _ => none) else
  if off < 0x80000 then
    (match (off - 0x40000) % 0x40 with
      | 0x0 => some (.qRing ((off - 0x40000) / 0x40))
      | 0x8 => some (.qRcb ((off - 0x40000) / 0x40))
      | 0x10 => some (.qCfg ((off - 0x40000) / 0x40))
      | 0x18 => some (.qCmd ((off - 0x40000) / 0x40))
      | 0x1C => some (.qStatus ((off - 0x40000) / 0x40))
      | 0x20 => some (.qHead ((off - 0x40000) / 0x40))
      | 0x24 => some (.qTailSeen ((off - 0x40000) / 0x40))
      | 0x28 => some (.qProg ((off - 0x40000) / 0x40))
      | 0x30 => some (.qHeadInit ((off - 0x40000) / 0x40))
      | _ => none) else
  if off < 0x100000 then none else
  if off < 0x200000 then
    (if (off - 0x100000) % 0x1000 < 0x200 && off % 4 == 0 then
        some (.dbWord ((off - 0x100000) / 0x1000) ((off - 0x100000) % 0x1000 / 4)) else none) else
  if off < 0x280000 then
    (if (off - 0x200000) % 0x8 = 0 then some (.fncEntry ((off - 0x200000) / 0x8)) else none) else
  if off < 0x300000 then
    (match off with
      | 0x280000 => some .fncCmd
      | 0x280008 => some .fncCmdStatus
      | 0x280010 => some .fncCycle
      | _ => none) else
  if off < 0x380000 then
    (match (off - 0x300000) % 0x20 with
      | 0x0 => some (.seqId ((off - 0x300000) / 0x20))
      | 0x8 => some (.seqLen ((off - 0x300000) / 0x20))
      | 0x10 => some (.seqPages ((off - 0x300000) / 0x20))
      | 0x18 => some (.seqTail ((off - 0x300000) / 0x20))
      | _ => none) else
  if off < 0x384000 then
    (match (off - 0x380000) % 0x10 with
      | 0x0 => some (.sqtCtxPages ((off - 0x380000) / 0x10))
      | 0x8 => some (.sqtCtxStep ((off - 0x380000) / 0x10))
      | _ => none) else
  if off < 0x500000 then
    (match off with
      | 0x3C0000 => some .poolBase
      | 0x3C0008 => some .poolCfg
      | 0x3C0010 => some .poolStatus
      | 0x3C0018 => some .sqtCmdArg
      | 0x3C0020 => some .sqtCmd
      | 0x3C0028 => some .sqtCmdStatus
      | 0x400000 => some .trcStatus
      | 0x400004 => some .trcHead
      | 0x400008 => some .trcPos
      | 0x400010 => some .trcLost
      | 0x400014 => some .trcCmd
      | 0x400018 => some .trcMask
      | 0x400020 => some .trcTrig
      | 0x400028 => some .trcProgSel
      | 0x400030 => some .trcProg
      | _ => none) else
  if off < 0x520000 then
    (match (off - 0x500000) % 0x20 with
      | 0x0 => some (.cqRing ((off - 0x500000) / 0x20))
      | 0x8 => some (.cqCcb ((off - 0x500000) / 0x20))
      | 0x10 => some (.cqCfg ((off - 0x500000) / 0x20))
      | 0x14 => some (.cqCmd ((off - 0x500000) / 0x20))
      | 0x18 => some (.cqStatus ((off - 0x500000) / 0x20))
      | _ => none) else
  if off < 0x581000 then
    (match off with
      | 0x580000 => some .lnkSelf
      | 0x580008 => some .lnkStatus
      | 0x580010 => some .lnkTxstat
      | _ => none) else
  if off < 0x583000 then
    (if (off - 0x581000) % 0x8 = 0 then some (.lnkPeer ((off - 0x581000) / 0x8)) else none) else
  if off < 0x600000 then none else
  if off < 0x600340 then
    (if (off - 0x600000) % 0x8 = 0 then some (.pwrDom ((off - 0x600000) / 0x8)) else none) else
  if off < 0x603000 then
    (match off with
      | 0x600400 => some .pwrDomCmd
      | 0x601000 => some .pwrWarn
      | 0x601008 => some .pwrWarnCfg
      | 0x601010 => some .pwrWarnT0
      | 0x602000 => some .pwrEccCnt
      | 0x602008 => some .pwrEccLog
      | 0x602010 => some .pwrEccCtl
      | _ => none) else
  if off < 0x603180 then
    (if (off - 0x603000) % 0x8 = 0 then some (.pwrFence ((off - 0x603000) / 0x8)) else none) else
  if off < 0x1000000 then none else
  if off < 0x1004000 then
    (if (off - 0x1000000) % 0x8 = 0 then some (.evcSrcCfg ((off - 0x1000000) / 0x8)) else none) else
  if off < 0x1010000 then none else
  if off < 0x1010100 then
    (if (off - 0x1010000) % 0x8 = 0 then some (.evcPend ((off - 0x1010000) / 0x8)) else none) else
  if off < 0x1010200 then
    (if (off - 0x1010100) % 0x8 = 0 then some (.evcMask ((off - 0x1010100) / 0x8)) else none) else
  if off < 0x1010300 then
    (if (off - 0x1010200) % 0x8 = 0 then some (.evcActive ((off - 0x1010200) / 0x8)) else none) else
  if off < 0x1011000 then none else
  if off < 0x1011400 then
    (if (off - 0x1011000) % 0x8 = 0 then some (.evcGrp ((off - 0x1011000) / 0x8)) else none) else
  if off < 0x1100000 then
    (match off with
      | 0x1012000 => some .evcSwi
      | 0x1012008 => some .evcPclr
      | 0x1012010 => some .evcSync
      | 0x1012018 => some .evcStatus
      | _ => none) else
  if off < 0x1140000 then
    (match (off - 0x1100000) % 0x1000 with
      | 0x0 => some (.tgtClaim ((off - 0x1100000) / 0x1000))
      | 0x4 => some (.tgtComplete ((off - 0x1100000) / 0x1000))
      | 0x8 => some (.tgtThresh ((off - 0x1100000) / 0x1000))
      | 0x10 => some (.tgtStatus ((off - 0x1100000) / 0x1000))
      | 0x18 => some (.tgtMsgaddr ((off - 0x1100000) / 0x1000))
      | 0x20 => some (.tgtMsgdata ((off - 0x1100000) / 0x1000))
      | _ => none) else
  if off < 0x2000000 then none else
  if off < 0x2C00000 then
    (beadRegAt ((off - 0x2000000) / 0x40000) ((off - 0x2000000) % 0x40000)) else
  if off < 0x3000100 then
    (match off with
      | 0x3000000 => some .setId
      | 0x3000008 => some .setIfrev
      | 0x3000010 => some .setFmtrev
      | 0x3000018 => some .setParam
      | 0x3000020 => some .setFeature
      | _ => none) else
  if off < 0x3000280 then
    (if (off - 0x3000100) % 0x8 = 0 then some (.setBeadParam ((off - 0x3000100) / 0x8)) else none) else
  if off < 0x3001040 then
    (match off with
      | 0x3001000 => some .imgAddr
      | 0x3001008 => some .imgLen
      | 0x300100C => some .setCtl
      | 0x3001010 => some .setStatus
      | 0x3001018 => some .setErr
      | 0x3001020 => some .setProgress
      | _ => none) else
  if off < 0x3001060 then
    (if (off - 0x3001040) % 0x8 = 0 then some (.setDigest ((off - 0x3001040) / 0x8)) else none) else
  if off < 0x3001100 then none else
  if off < 0x3001140 then
    (if (off - 0x3001100) % 0x8 = 0 then some (.keyhash ((off - 0x3001100) / 0x8)) else none) else
  if off < 0x3800400 then
    (match off with
      | 0x3001140 => some .keyCfg
      | 0x3800000 => some .lktStop
      | 0x3800008 => some .lktBeads
      | 0x3800010 => some .lktCmd
      | 0x3800018 => some .lktDumpBase
      | 0x3800020 => some .lktSel
      | _ => none) else
  if off < 0x3800800 then
    (if (off - 0x3800400) % 0x8 = 0 then some (.lktEntry ((off - 0x3800400) / 0x8)) else none) else
  if off < 0x3800980 then
    (if (off - 0x3800800) % 0x8 = 0 then some (.lktBreak ((off - 0x3800800) / 0x8)) else none) else
  if off < 0x3802000 then none else
  if off < 0x3804000 then
    (if (off - 0x3802000) % 0x8 = 0 then some (.lktPeerCnt ((off - 0x3802000) / 0x8)) else none) else
  none
/-- R134, R135: the register that an access reaches, and whether it is its upper half. -/
def decodeReg (p : Params) (off : Nat) (size64 : Bool) : Option (Reg × Bool) :=
  let ok (r : Reg) : Bool := r.mapped p
  if size64 then
    if off % 8 = 0 then
      match offsetReg off with
      | some r => if r.is64 && ok r then some (r, false) else none
      | none => none
    else none
  else if off % 4 = 0 then
    match offsetReg off with
    | some r => if ok r then some (r, false) else none
    | none =>
        if off % 8 = 4 then
          match offsetReg (off - 4) with
          | some r => if r.is64 && ok r then some (r, true) else none
          | none => none
        else none
  else none

/-- R136: the accesses open to user privilege, as each register's own chapter says. -/
def Reg.userOpen (write : Bool) : Reg → Bool
  | .setId | .setIfrev | .setFmtrev | .setParam | .setFeature | .setBeadParam _ => true
  | .dbWord _ _ => true
  | .setStatus | .setErr | .setProgress | .setDigest _ => !write
  | .qStatus _ | .qHead _ | .qTailSeen _ | .qProg _ => !write
  | .tgtClaim _ | .tgtComplete _ | .tgtStatus _ => true
  | .chnRd _ _ _ | .chnRtag _ _ | .chnCount _ _ | .chnCmd _ _ => true
  | .chnTxHdr _ _ | .chnTxData _ _ | .chnTxStatus _ _ => true
  | _ => false

/-- The Bead whose range holds a register. -/
def Reg.beadOf : Reg → Option Nat
  | .bdStatus b | .bdErr b | .bdSlot b _ | .bdReg b _ | .bdTile b _ | .ctrRun b _ | .ctrLastHdr b
  | .ctrLast b _ | .safStatus b | .safCnt b | .safCyc b | .safErr b | .chnRd b _ _ | .chnRtag b _
  | .chnCount b _ | .chnCmd b _ | .chnCfg b _ | .chnTxHdr b _ | .chnTxData b _ | .chnTxStatus b _
  | .chnTxCfg b _ => some b
  | _ => none

/-- R497: the domain, other than a Bead's core, whose state a register's range follows. (DEDUCED, log 89) -/
def Reg.domainOf : Reg → Option Nat
  | .fncEntry _ | .fncCmd | .fncCmdStatus | .fncCycle => some 2
  | .seqId _ | .seqLen _ | .seqPages _ | .seqTail _ | .sqtCtxPages _ | .sqtCtxStep _ | .poolBase
  | .poolCfg | .poolStatus | .sqtCmdArg | .sqtCmd | .sqtCmdStatus => some 3
  | .trcStatus | .trcHead | .trcPos | .trcLost | .trcCmd | .trcMask | .trcTrig | .trcProgSel
  | .trcProg => some 5
  | .safStatus b | .safCnt b | .safCyc b | .safErr b | .chnRd b _ _ | .chnRtag b _
  | .chnCount b _ | .chnCmd b _ | .chnCfg b _ | .chnTxHdr b _ | .chnTxData b _ | .chnTxStatus b _
  | .chnTxCfg b _ => some (9 + 2 * b)
  | _ => none

/-- The Setting makes Bead `n` active. -/
def Block.beadActive (b : Block) (n : Nat) : Bool :=
  match b.setting.beads[n]? with
  | some e => e.active
  | none => false

/-- R137, R516: a Bead can be reached: active, its lane in RUN and not failed, its core domain ON, not
fenced off. -/
def Block.beadReachable (p : Params) (b : Block) (n : Nat) : Bool :=
  let l := b.lane (p.bead n).lane
  b.beadActive n && l.clasp.phase == 0 && !l.failed && (b.dom (8 + 2 * n)).state == .on
    && (b.pbead n).state != .fenced

/-- The Bead that an access needs: that of the register's range or, for a read of LKT_ENTRY, that of the ring which
LKT_SEL names (R480). -/
def Block.placeOf (p : Params) (b : Block) (r : Reg) (write : Bool) : Option Nat :=
  match r with
  | .lktEntry _ =>
      let u := bits b.lkt.sel.toNat 13 8
      if u < p.nBeads && !write then some u else none
  | _ => r.beadOf

/-- R137: the place of a register can be reached. -/
def Block.reachable (p : Params) (b : Block) (r : Reg) (write : Bool) : Bool :=
  (match b.placeOf p r write with
    | some n => b.beadReachable p n
    | none => true) &&
  (match r.domainOf with
    | some d => (b.dom d).state == .on
    | none => true)

/-- The four outcomes of R526. -/
inductive Verdict where
  | decode
  | denied
  | unreachable (unit : Nat)
  | perform
  deriving DecidableEq, Repr

/-- R526, from the register that the offset names. -/
def judge (p : Params) (b : Block) (a : Acc) (r : Reg) (write : Bool) : Verdict :=
  if !r.mapped p then .decode
  else if !a.priv && !r.userOpen write then .denied
  else if !b.reachable p r write then .unreachable ((b.placeOf p r write).getD 63)
  else .perform

/-- R137: an access that cannot reach its place is recorded in CLS_TP_STATUS; source 2. -/
def Block.recordUnreachable (b : Block) (unit : Nat) (write : Bool) : Block :=
  if b.tpStatus.toNat < 2 ^ 31 then
    Block.raise { b with
      tpStatus := BitVec.ofNat 32 (pack [(1, 1, 31), (unit, 6, 16), (b2n write, 1, 15)])
        ||| (b.tpStatus &&& 0x40000000#32) } 2
  else Block.raise { b with tpStatus := b.tpStatus ||| 0x40000000#32 } 2

/-- The response to the accepted request (R39). -/
def State.respond (s : State) (e : TpErr) (d : Word) : State :=
  { s with tp := { s.tp with rsp := some { err := e, data := d } } }

/-- R526 and R39: an accepted access is judged, performed by `f` where the judgement says so, and
answered. A request presented while `tp_req_ready` is low is not accepted (R36). -/
def State.access (s : State) (a : Acc) (r : Reg) (write : Bool) (f : State → State × Word) : State :=
  if !s.tp.ready then s
  else match judge s.params s.blk a r write with
    | .decode => s.respond .decode 0
    | .denied => s.respond .denied 0
    | .unreachable u =>
        State.respond { s with blk := s.blk.recordUnreachable u write } .ok 0
    | .perform =>
        let t := f s
        t.1.respond .ok t.2

/-- R43: a single write of a 64-bit register discards the lower half staged for it. -/
def State.unstage (s : State) (r : Reg) : State :=
  { s with tp := { s.tp with staged := tset none s.tp.staged r.offset none } }

/-- A write command of one register whose effect is on the block alone. -/
def State.command (s : State) (a : Acc) (r : Reg) (f : Params → Block → Block) : State :=
  s.access a r true fun s =>
    ({ s.unstage r with blk := f s.params s.blk }, 0)

/-- R42: the capture that a lower-half read of a 64-bit register leaves. -/
def State.capture (s : State) (a : Acc) (r : Reg) (w : Word) : State :=
  { s with tp := { s.tp with
      captures := tset none s.tp.captures a.src.toNat
        (some { offset := r.offset, upper := BitVec.ofNat 32 (fld w 63 32) }) } }

/-- R14: what the upper half of `r` reads for an initiator; `w` is the register's current value. -/
def State.upperHalf (s : State) (a : Acc) (r : Reg) (w : Word) : Nat :=
  match tget none s.tp.captures a.src.toNat with
  | some c => if c.offset = r.offset then c.upper.toNat else fld w 63 32
  | none => fld w 63 32

/-- R43: the lower half that completes a write of the upper half; `cur` is the register's current
value. -/
def State.lowerHalf (s : State) (r : Reg) (cur : Word) : Nat :=
  match tget none s.tp.staged r.offset with
  | some l => l.toNat
  | none => fld cur 31 0

end Sys2Proof.Machine
end

