-- ==== Sys2Proof/Machine/Flags.lean ====
section
/-! DEFINITION. Flag computations: the Event Controller's hold-off, effective threshold,
eligibility, winner and line (R440, R444, R445), and the pending, mask and active bits. -/

namespace Sys2Proof.Machine

/-- R9: a Setting is in force, so the fields that it gives hold its values and software may write them. -/
def Loader.inForce (l : Loader) : Bool := l.state == .active || l.state == .patching

/-- PEND(s). -/
def Evc.pends (e : Evc) (s : Nat) : Bool := e.pend.getLsbD s
/-- MASK(s). -/
def Evc.masked (e : Evc) (s : Nat) : Bool := e.mask.getLsbD s
/-- ACTIVE(s). -/
def Evc.isActive (e : Evc) (s : Nat) : Bool := e.active.getLsbD s

/-- A bit set in a source vector. -/
def setBit (v : BitVec 2048) (s : Nat) : BitVec 2048 := v ||| BitVec.ofNat 2048 (2 ^ s)
/-- A bit cleared in a source vector. -/
def clearBit (v : BitVec 2048) (s : Nat) : BitVec 2048 := v &&& ~~~(BitVec.ofNat 2048 (2 ^ s))
/-- Word `w` of a source vector. -/
def srcWord (v : BitVec 2048) (w : Nat) : Word := BitVec.ofNat 64 (v.toNat / 2 ^ (64 * w))
/-- A source vector with word `w` replaced (R451). -/
def setSrcWord (v : BitVec 2048) (w : Nat) (x : Word) : BitVec 2048 :=
  BitVec.ofNat 2048 (v.toNat - (srcWord v w).toNat * 2 ^ (64 * w) + x.toNat * 2 ^ (64 * w))

/-- R444: the hold-off of group `g` runs. -/
def Block.inHoldoff (b : Block) (g : Nat) : Bool :=
  match (b.evGroup g).ends with
  | some t => b.now < t
  | none => false

/-- The sources active with owner `t`. -/
def Evc.owned (e : Evc) (t : Nat) : List Nat :=
  (e.srcs.filter fun p => e.isActive p.1 && p.2.owner == t).map (·.1)

/-- The number of sources active with owner `t`. -/
def Evc.depth (e : Evc) (t : Nat) : Nat := (e.owned t).length

/-- R440: eff(t). -/
def Evc.eff (e : Evc) (t : Nat) : Nat :=
  (e.owned t).foldl (fun m s => max m (tget {} e.srcs s).aprio) (tget {} e.targets t).thresh.toNat

/-- R440: eligible(s, t). -/
def Block.eligible (b : Block) (s t : Nat) : Bool :=
  let c := b.evSrc s
  b.evc.pends s && !b.evc.masked s && !b.evc.isActive s && c.target.toNat == t
    && decide (b.evc.eff t < c.prio.toNat) && !b.inHoldoff c.group.toNat

/-- Of two sources the one of greater priority, ties to the lower: `w` is the earlier. -/
def Block.better (b : Block) (w s : Nat) : Nat :=
  if w = 0 then s
  else if (b.evSrc w).prio.toNat < (b.evSrc s).prio.toNat then s else w

/-- R440: winner(t); 0 when no source is eligible. Only a source with a configuration of its own can
be eligible: the reset entry has priority 0. -/
def Block.winner (b : Block) (t : Nat) : Nat :=
  ((b.evc.srcs.map (·.1)).filter fun s => s != 0 && b.eligible s t).foldl b.better 0

/-- R445: ev_irq[t]. -/
def Block.irqLine (b : Block) (t : Nat) : Bool := !(b.evTarget t).msg && b.winner t != 0

/-- The active source of highest APRIO owned by `t`; 0 when there is none. -/
def Evc.top (e : Evc) (t : Nat) : Nat :=
  (e.owned t).foldl
    (fun w s => if w = 0 || (tget {} e.srcs w).aprio < (tget {} e.srcs s).aprio then s else w) 0

end Sys2Proof.Machine
end

