-- ==== Sys2Proof/Machine/Lanes.lean ====
section
/-! DEFINITION. The Filigree lane: records (R80, R81), sending and receiving numbered records
(R84 to R88), global time on the dies (R96 to R98), and the rows of lane upkeep that touch nothing
but the lane. -/

namespace Sys2Proof

namespace Machine

/-! ## Records -/

/-- One step of the CRC-6 of x⁶ + x + 1 (R80). -/
def crcStep (c : Nat) (d : Bool) : Nat :=
  let top := c / 32 % 2
  let s := c * 2 % 64
  if (top == 1) != d then s ^^^ 3 else s

/-- R80: the CRC-6 over 64 data bits from bit 63 down, then CONT. -/
def crc6 (w : Word) (cont : Bool) : Nat :=
  crcStep ((List.range 64).foldl (fun c i => crcStep c (bit w (63 - i))) 0) cont

/-- A beat: the data wires, C0 on bit 16 and C1 on bit 17. -/
def beat (data c0 c1 : Nat) : BitVec 18 := BitVec.ofNat 18 (pack [(data, 16, 0), (c0, 1, 16), (c1, 1, 17)])

/-- R80: the four beats of a record. -/
def recBeats (w : Word) (cont : Bool) : List (BitVec 18) :=
  let c := crc6 w cont
  [beat (fld w 63 48) 1 (bits c 5 5), beat (fld w 47 32) (b2n cont) (bits c 4 4),
    beat (fld w 31 16) (bits c 1 1) (bits c 3 3), beat (fld w 15 0) (bits c 0 0) (bits c 2 2)]

/-- R80: the first record among received beats, with its CONT bit: a receiver that is not inside a record
takes the next beat with C0 = 1 as beat 0 of one. None where a check fails. -/
def recordOf : List (BitVec 18) → Option (Word × Bool)
  | [] => none
  | b :: bs =>
      if bits b.toNat 16 16 = 0 then recordOf bs
      else
        let at' (k : Nat) : Nat := ((b :: bs)[k]?.getD 0).toNat
        let w : Word := packW ((List.range 4).map fun k => (bits (at' k) 15 0, 16, 48 - 16 * k))
        let cont := bits (at' 1) 16 16 == 1
        if 3 ≤ bs.length && recBeats w cont == (b :: bs).take 4 then some (w, cont) else none

/-- R79: whether a phase gives a beat position of the 16-beat group to the upstream direction. A phase code
outside the table gives it to neither. -/
def beatUp (phase pos : Nat) : Option Bool :=
  match phase with
  | 0 => some (pos % 2 == 1)
  | 1 => some (pos == 15)
  | 2 => some (pos != 0)
  | _ => none

/-- R79: the beat positions of a direction in a phase. -/
def schedule (up : Bool) (phase : Nat) : List Nat := (List.range 16).filter fun k => beatUp phase k == some up

/-- TYPE of a header record (R81). -/
def recType (h : Word) : Nat := fld h 63 60

/-- R81: the types that a direction defines. -/
def typeDefined (up : Bool) (t : Nat) : Bool :=
  if up then t == 0 || (4 ≤ t && t ≤ 6) || 8 ≤ t else t ≤ 9

/-- R81: the raw records that a header announces. -/
def announced (up : Bool) (h : Word) : Nat :=
  let t := recType h
  if t = 5 then fld h 44 39 + 1
  else if up then (if t = 0xD then 4 else if t = 0xE then fld h 49 38 else 0)
  else if t = 1 then 4
  else if t = 6 then 1 - fld h 59 59
  else if t = 8 then fld h 55 50 + 1
  else 0

/-- A link record: LNK or TOKEN. Every other record is numbered. -/
def LaneRec.isLink (r : LaneRec) : Bool := !r.cont && (recType r.bits == 0 || recType r.bits == 9)

/-- R80: a record begins among received beats: one of them has C0 = 1. -/
def beginsRecord (beats : List (BitVec 18)) : Bool := beats.any fun b => bits b.toNat 16 16 == 1

/-- R86: a record that begins among received beats is discarded: it fails its check, or it is a header of a type
that its direction does not define (R81). -/
def badRecord (up : Bool) (beats : List (BitVec 18)) : Bool :=
  match recordOf beats with
  | some (w, cont) => !cont && !typeDefined up (recType w)
  | none => beginsRecord beats

end Machine

/-- The position of a Bead among those of its lane, in synthesis order (R81, R143). -/
def Params.beadOnLane (p : Params) (n : Nat) : Nat :=
  ((p.beads.take n).filter fun b => b.lane == (p.bead n).lane).length

/-- The Beads of a lane, in synthesis order. -/
def Params.laneBeads (p : Params) (l : Nat) : List Nat :=
  (List.range p.nBeads).filter fun n => (p.bead n).lane == l

/-- The lane of a Bead. -/
def Params.laneOf (p : Params) (n : Nat) : Nat := (p.bead n).lane

namespace Machine

/-- A header record: TYPE[63:60] and further fields (R81). -/
def header (type : Nat) (fs : List (Nat × Nat × Nat)) : Word := packW ((type, 4, 60) :: fs)

/-- A header record of a Bead: BEAD[59:58]. -/
def beadHeader (p : Params) (n type : Nat) (fs : List (Nat × Nat × Nat)) : Word :=
  header type ((p.beadOnLane n, 2, 58) :: fs)

/-- LNK (R81). -/
def lnkHeader (r : LnkRec) : Word :=
  header 0 [(r.ack.toNat, 8, 52), (b2n r.nak, 1, 51), (b2n r.replay, 1, 50), (r.seq.toNat, 8, 42),
    (r.crd.toNat, 7, 35)]

/-- TOKEN (R81). -/
def tokenHeader (phase : Nat) : Word := header 9 [(phase, 2, 58)]

/-- TIME downstream (R81). -/
def timeHeader (echo : Bool) : Word := header 6 [(b2n echo, 1, 59)]

/-- NODE (R81), with its entry. -/
def nodeRec (p : Params) (n win gen : Nat) (entry : List Word) : Rec :=
  { header := beadHeader p n 1 [(win, 12, 46), (gen, 16, 30)], raws := entry }

/-- DEC (R81). -/
def decRec (p : Params) (n win gen cnt : Nat) : Rec :=
  { header := beadHeader p n 2 [(win, 12, 46), (gen, 16, 30), (cnt, 16, 14)] }

/-- FENCE (R81). -/
def fenceRec (p : Params) (n win gen : Nat) (st : Status) : Rec :=
  { header := beadHeader p n 3 [(win, 12, 46), (gen, 16, 30), (st.toNat, 8, 22)] }

/-- CREDIT (R81). -/
def creditRec (p : Params) (n queue words : Nat) : Rec :=
  { header := beadHeader p n 4 [(queue, 7, 51), (words, 7, 44)] }

/-- CHN (R81); `dbead` stands upstream only. -/
def chnRec (p : Params) (n queue dbead : Nat) (flits : List Word) : Rec :=
  { header := beadHeader p n 5 [(queue, 7, 51), (dbead, 6, 45), (flits.length - 1, 6, 39)]
    raws := flits }

/-- CTL (R81). -/
def ctlRec (p : Params) (n op arg : Nat) : Rec :=
  { header := beadHeader p n 7 [(op, 8, 50), (arg, 50, 0)] }

/-- SETR (R81). -/
def setrRec (p : Params) (n : Nat) (st : Status) : Rec :=
  { header := beadHeader p n 8 [(st.toNat, 8, 50)] }

/-- CPL (R81). -/
def cplRec (p : Params) (n win gen : Nat) (st : Status) : Rec :=
  { header := beadHeader p n 0xA [(win, 12, 46), (gen, 16, 30), (st.toNat, 8, 22)] }

/-- RET (R81). -/
def retRec (p : Params) (n seg count : Nat) (last : Bool) (nctr : Nat) : Rec :=
  { header := beadHeader p n 0xB
      [(seg, 16, 42), (count, 16, 26), (b2n last, 1, 25), (nctr, 5, 20)] }

/-- CTR (R81). -/
def ctrRec (p : Params) (n idx bytes : Nat) : Rec :=
  { header := beadHeader p n 0xC [(idx, 5, 53), (bytes, 48, 0)] }

/-- SPAWN (R81), with its entry. -/
def spawnRec (p : Params) (n win : Nat) (entry : List Word) : Rec :=
  { header := beadHeader p n 0xD [(win, 12, 46)], raws := entry }

/-- SNAP (R81). -/
def snapRec (p : Params) (n src : Nat) (payload : List Word) : Rec :=
  { header := beadHeader p n 0xE [(src, 8, 50), (payload.length, 12, 38)], raws := payload }

/-- EVT (R81). -/
def evtRec (p : Params) (n src : Nat) : Rec := { header := beadHeader p n 0xF [(src, 11, 47)] }

/-- W: the words of a message of `f` flits. -/
def chnWords (f : Nat) : Nat := (f + 3) / 4

/-- R388: what the last of the flits `raws` frees, in a message of header `h`: the words of its Bead's staging store. -/
def freedBy (h : Word) (flits : Nat) (raws : List Word) : Option (Nat × Nat) :=
  if recType h = 5 && raws.length == 1 then some (fld h 59 58, chnWords flits) else none

/-- The raw records of a message of header `h` and `flits` raw records: those of a TIME are timed (R97). -/
def rawRecs (h : Word) (flits : Nat) : List Word → List LaneRec
  | [] => []
  | w :: ws =>
      { bits := w, cont := true, timed := h == timeHeader false, frees := freedBy h flits (w :: ws) } ::
        rawRecs h flits ws

/-- The records of a message: its header, then its raw records. -/
def Rec.flat (r : Rec) : List LaneRec := { bits := r.header } :: rawRecs r.header r.raws.length r.raws

/-- The SET messages that carry raw records: at most 64 in a message, LAST on the final one
(R93, R115). -/
def setMessages (p : Params) (n : Nat) : Nat → List Word → List Rec
  | 0, _ => []
  | k + 1, ws =>
      if ws.length ≤ 64 then
        [{ header := beadHeader p n 8 [(1, 1, 57), (ws.length - 1, 6, 50)], raws := ws }]
      else
        { header := beadHeader p n 8 [(63, 6, 50)], raws := ws.take 64 } ::
          setMessages p n k (ws.drop 64)

/-! ## One end of a lane

`ok` says that the end may drive what it is to send; `up` is the direction in which records arrive. -/

/-- The entries of the crossing that an end reads from: 32 from the Clasp, and to and from the local lane; 16
from a remote Bead. -/
def crossDepth (up : Bool) (n : Nat) : Nat := if up && n != 255 then 16 else 32

/-- R66: the records that stand in the crossing; a full crossing holds its writer. -/
def LaneEnd.crossing (up : Bool) (n : Nat) (e : LaneEnd) : List LaneRec := e.queue.take (crossDepth up n)

/-- R66: the records that the writer holds. -/
def LaneEnd.held (up : Bool) (n : Nat) (e : LaneEnd) : List LaneRec := e.queue.drop (crossDepth up n)

/-- R66: the crossing is not full, and holds no writer. -/
def LaneEnd.room (up : Bool) (n : Nat) (e : LaneEnd) : Bool := decide (e.queue.length < crossDepth up n)

/-- The words of the staging store of the Bead at `pos` whose flits the writer holds (R388). -/
def LaneEnd.staged (n pos : Nat) (e : LaneEnd) : Nat :=
  ((e.held true n).map fun r => match r.frees with | some (k, w) => if k = pos then w else 0 | none => 0).sum

/-- R97: a TIME's raw record is driven with the time at which it reaches the far end. -/
def LaneRec.stamped (t : Word) (r : LaneRec) : LaneRec := if r.timed then { r with bits := t } else r

/-- R85, R89: an end drives the numbered records that its credits and its replay buffer admit. (DESIGN CHOICE, log 9) -/
def LaneEnd.pump (ok : Bool) (t : Word) (e : LaneEnd) : LaneEnd :=
  if !ok then e
  else
    let n := min e.queue.length (min e.credits (64 - e.replay.length))
    let rs := (e.queue.take n).map (LaneRec.stamped t)
    { e with
      queue := e.queue.drop n
      replay := e.replay ++ rs
      wire := e.wire ++ rs
      credits := e.credits - n
      txSeq := wrapAdd 8 e.txSeq n }

/-- A link record is driven. -/
def LaneEnd.drive (e : LaneEnd) (w : Word) : LaneEnd := { e with wire := e.wire ++ [{ bits := w }], link := some w }

/-- The LNK that acknowledges what an end has received and returns credits (R85). -/
def LaneEnd.ackRec (e : LaneEnd) : LnkRec :=
  { ack := BitVec.ofNat 8 e.rxNext, nak := false, replay := false, seq := 0
    crd := BitVec.ofNat 7 (min 127 e.rxFreed) }

/-- R85: an end sends an LNK. -/
def LaneEnd.sendAck (ok : Bool) (e : LaneEnd) : LaneEnd :=
  if ok then { (e.drive (lnkHeader e.ackRec)) with rxUnacked := 0, rxFreed := e.rxFreed - 127 } else e

/-- R86: an end sends a NAK. -/
def LaneEnd.sendNak (ok : Bool) (e : LaneEnd) : LaneEnd :=
  if ok then e.drive (lnkHeader
    { ack := BitVec.ofNat 8 e.rxNext, nak := true, replay := false, seq := 0, crd := 0 })
  else e

/-- The reader's open message is complete. -/
def LaneEnd.complete (up : Bool) (e : LaneEnd) : Bool :=
  match e.msg with
  | [] => false
  | h :: rs => announced up h.bits ≤ e.msgUsed + rs.length

/-- A SET message that is not the last of its section (R93). -/
def setGoesOn (up : Bool) (h : Word) : Bool := !up && recType h == 8 && fld h 57 57 == 0

/-- A complete message that other messages of its section follow waits for them. -/
def LaneEnd.gather (up : Bool) (e : LaneEnd) : LaneEnd :=
  match e.msg with
  | [] => e
  | h :: _ => if e.complete up && setGoesOn up h.bits then { e with sect := e.sect ++ e.msg, msg := [] } else e

/-- R85: records leave the receive buffer for the reader, whose message is open until it is complete and
acted upon (R83). -/
def LaneEnd.read (up : Bool) : Nat → LaneEnd → LaneEnd
  | 0, e => e
  | k + 1, e =>
      if e.complete up then e
      else match e.rx with
      | [] => e
      | r :: rs => LaneEnd.read up k ((({ e with rx := rs, msg := e.msg ++ [r], rxFreed := e.rxFreed + 1 } : LaneEnd)).gather up)

/-- R84 to R86: a numbered record reaches the end. It is discarded while the end discards, and when it has
been accepted before; else it is accepted, and after 32 the end acknowledges (R85). -/
def LaneEnd.accept (up ok : Bool) (e : LaneEnd) (r : LaneRec) : LaneEnd :=
  if e.discarding then e
  else if e.rxSkip ≠ 0 then { e with rxSkip := e.rxSkip - 1 }
  else
    let e := { e with rx := e.rx ++ [r], rxNext := wrapAdd 8 e.rxNext 1, rxUnacked := e.rxUnacked + 1 }
    let e := LaneEnd.read up e.rx.length e
    if 32 ≤ e.rxUnacked then e.sendAck ok else e

/-- The reader has acted on its message. -/
def LaneEnd.taken (up : Bool) (e : LaneEnd) : LaneEnd :=
  LaneEnd.read up e.rx.length { e with msg := [], msgUsed := 0, sect := [] }

/-- R85: ACK frees the records that it names, and CRD returns credits. -/
def LaneEnd.onAck (e : LaneEnd) (r : LnkRec) : LaneEnd :=
  let oldest := subMod 256 e.txSeq e.replay.length
  let n := subMod 256 r.ack.toNat oldest
  { e with
    replay := if n ≤ e.replay.length then e.replay.drop n else e.replay
    credits := min 64 (e.credits + r.crd.toNat) }

/-- R86: a REPLAY for the record that a discarding end expects ends the discarding. One that an end which is
not discarding receives repeats records that it has accepted: they are discarded (R84). (DEDUCED, log 123) -/
def LaneEnd.onReplay (e : LaneEnd) (r : LnkRec) : LaneEnd :=
  if !r.replay then e
  else if e.discarding then (if r.seq.toNat = e.rxNext then { e with discarding := false, rxSkip := 0 } else e)
  else { e with rxSkip := subMod 256 e.rxNext r.seq.toNat }

/-- R87: an end that receives a NAK sends a REPLAY and then its replay buffer again, and counts the NAKs that
name one record in a row (R100). -/
def LaneEnd.onNak (ok : Bool) (t : Word) (e : LaneEnd) (r : LnkRec) : LaneEnd :=
  if !r.nak then e
  else
    let e := { e with
      nakSeq := r.ack.toNat
      nakRun := if e.nakRun ≠ 0 && e.nakSeq == r.ack.toNat then e.nakRun + 1 else 1 }
    if !ok then e
    else
      let e := e.drive (lnkHeader { ack := BitVec.ofNat 8 e.rxNext, nak := false, replay := true, seq := r.ack, crd := 0 })
      let rs := e.replay.map (LaneRec.stamped t)
      { e with replay := rs, wire := e.wire ++ rs }

/-- What an LNK does to the end that receives it; `num` says that the end may drive numbered records that it
has not sent before. -/
def LaneEnd.onLnk (ok num : Bool) (t : Word) (e : LaneEnd) (r : LnkRec) : LaneEnd :=
  (((e.onAck r).onReplay r).onNak ok t r).pump num t

/-- R91: an end enters a phase and numbers its records from zero. Credits, and records freed and not yet
returned, keep their counts (DEDUCED, log 124). An end that discards goes on, as R86 ends that by a REPLAY alone, so
that what the far end drove behind a TOKEN that was garbled comes again (R84). -/
def LaneEnd.enter (e : LaneEnd) (phase : Nat) : LaneEnd :=
  { e with
    phase := phase, turn := none, tokens := 0, replay := [], txSeq := 0, rxNext := 0, rxUnacked := 0, rxSkip := 0
    nakRun := 0 }

/-- R78: an end drives only while its PHY is trained and its schedule gives it beats (R79). The local lane has
no PHY (R99). -/
def LaneEnd.wired (up : Bool) (n : Nat) (e : LaneEnd) : Bool :=
  (e.trained || n == 255) && !(schedule up e.phase).isEmpty

/-! ## A lane -/

/-- R89, R93, R100: the Clasp end of lane `n` drives. -/
def Lane.claspMay (n : Nat) (x : Lane) : Bool :=
  x.started && !x.failed && x.clasp.wired false n && x.clasp.turn.isNone

/-- The Bead end of lane `n` drives. -/
def Lane.beadMay (n : Nat) (x : Lane) : Bool := x.started && x.bead.wired true n

/-- R97: the time, in ns, at which a record driven at `now` reaches the Bead end. -/
def Lane.stamp (now : Nat) (x : Lane) : Word := BitVec.ofNat 64 (now + x.lat * x.beatPs / 1000)

/-- R89: the Clasp end sends numbered records, unless a turn is wanted or in progress. -/
def Lane.pumpClasp (n now : Nat) (x : Lane) : Lane :=
  { x with clasp := x.clasp.pump (x.claspMay n && x.want.isNone) (x.stamp now) }

/-- R90: the Bead end sends numbered records, unless it has received a TOKEN that it has not answered. -/
def Lane.pumpBead (n now : Nat) (x : Lane) : Lane :=
  { x with bead := x.bead.pump (x.beadMay n && x.bead.turn.isNone) (x.stamp now) }

/-- A message enters the crossing at the Clasp end. -/
def Lane.sendDown (n now : Nat) (x : Lane) (r : Rec) : Lane :=
  Lane.pumpClasp n now { x with queued := x.queued + 1, clasp := { x.clasp with queue := x.clasp.queue ++ r.flat } }

/-- A message enters the crossing at the Bead end. -/
def Lane.sendUp (n now : Nat) (x : Lane) (r : Rec) : Lane :=
  Lane.pumpBead n now { x with bead := { x.bead with queue := x.bead.queue ++ r.flat } }

/-- The Clasp end sends a NAK and counts it in NAK_TX. -/
def Lane.claspNak (n : Nat) (x : Lane) : Lane :=
  if x.claspMay n then { x with clasp := x.clasp.sendNak true, nakTx := satAdd 16 x.nakTx 1, echoNak := true }
  else x

/-- R86: the receiver of direction `up` discards from now on, and sends a NAK. -/
def Lane.reject (n : Nat) (up : Bool) (x : Lane) : Lane :=
  if up then
    if x.clasp.discarding then x else Lane.claspNak n { x with clasp := { x.clasp with discarding := true, rxSkip := 0 } }
  else if x.bead.discarding then x
  else { x with bead := LaneEnd.sendNak (x.beadMay n) { x.bead with discarding := true, rxSkip := 0 } }

/-- The end that sends in direction `up`. -/
def Lane.sender (up : Bool) (x : Lane) : LaneEnd := if up then x.bead else x.clasp

/-- The end that receives in direction `up`. -/
def Lane.receiver (up : Bool) (x : Lane) : LaneEnd := if up then x.clasp else x.bead

/-- The first record on the wire of direction `up` has arrived or is lost. -/
def Lane.dropWire (up : Bool) (x : Lane) : Lane :=
  if up then { x with bead := { x.bead with wire := x.bead.wire.drop 1 } }
  else { x with clasp := { x.clasp with wire := x.clasp.wire.drop 1 } }

/-- A record reaches the receiver of direction `up`: a header of a type that the direction does not define
counts as a record that fails its CRC (R81). -/
def Lane.accept (n : Nat) (up : Bool) (x : Lane) (r : LaneRec) : Lane :=
  if !r.cont && !typeDefined up (recType r.bits) then x.reject n up
  else if up then { x with clasp := x.clasp.accept true (x.claspMay n) r }
  else { x with bead := x.bead.accept false (x.beadMay n) r }

/-- At most `k` numbered records of direction `up` arrive, in the order driven (R84), while `more` asks for
them; a link record waits for its own command. -/
def Lane.arrive (n : Nat) (up : Bool) (more : LaneEnd → Bool) : Nat → Lane → Lane
  | 0, x => x
  | k + 1, x =>
      match (x.sender up).wire with
      | [] => x
      | r :: _ =>
          if r.isLink || !more (x.receiver up) then x
          else Lane.arrive n up more k ((x.dropWire up).accept n up r)

/-- Every numbered record before the first link record on the wire arrives. -/
def Lane.arriveAll (n : Nat) (up : Bool) (x : Lane) : Lane := x.arrive n up (fun _ => true) (x.sender up).wire.length

/-- R84: the messages `rs` reach the reader of direction `up` of lane `n`: they are what it has read, or reads
as the records on the wire arrive. The lane after it; none where they are not. -/
def Lane.take (n : Nat) (up : Bool) (rs : List Rec) (x : Lane) : Option Lane :=
  let x := x.arrive n up (fun e => !e.complete up) (x.sender up).wire.length
  let e := x.receiver up
  if e.complete up && e.msgUsed == 0 && e.sect ++ e.msg == rs.flatMap Rec.flat then
    some (if up then { x with clasp := e.taken up } else { x with consumed := x.consumed + rs.length, bead := e.taken up })
  else none

/-- The next `flits` of a message with header `h` reach the reader of direction `up`; `first` says that the
header comes with them. -/
def Lane.takePart (n : Nat) (up first : Bool) (h : Word → Bool) (flits : List Word) (x : Lane) : Option Lane :=
  let x := x.arrive n up (fun e => e.msg.length ≤ flits.length) (x.sender up).wire.length
  let e := x.receiver up
  match e.msg with
  | [] => none
  | hd :: rs =>
      if h hd.bits && first == (e.msgUsed == 0) && (rs.take flits.length).map (·.bits) == flits then
        let e' := { e with msg := hd :: rs.drop flits.length, msgUsed := e.msgUsed + flits.length }
        let last := decide (announced up hd.bits ≤ e'.msgUsed)
        let e' := if last then e'.taken up else e'
        some (if up then { x with clasp := e' } else { x with consumed := x.consumed + b2n last, bead := e' })
      else none

/-- The first record on the wire of direction `up`, once the numbered records before it have arrived, is the
link record `w`: the lane without it. -/
def Lane.takeLink (n : Nat) (up : Bool) (w : Word) (x : Lane) : Option Lane :=
  let x := x.arriveAll n up
  match (x.sender up).wire with
  | r :: _ => if r.isLink && r.bits == w then some (x.dropWire up) else none
  | [] => none

/-- A message to Bead `n`, unless its lane has failed (R100) or the Bead is fenced off (R516). -/
def Block.sendDown (p : Params) (b : Block) (n : Nat) (r : Rec) : Block :=
  if (b.pbead n).state == .fenced then b
  else b.modLane (p.laneOf n) fun l => if l.failed then l else l.sendDown (p.laneOf n) b.now r

/-- A message of Bead `n` to the Clasp. -/
def Block.sendUp (p : Params) (b : Block) (n : Nat) (r : Rec) : Block :=
  b.modLane (p.laneOf n) fun l => l.sendUp (p.laneOf n) b.now r

/-- R66: the crossing to the lane of Bead `n` is not full; a record to a Bead that is fenced off enters none (R516). -/
def Block.roomDown (p : Params) (b : Block) (n : Nat) : Bool :=
  let l := b.lane (p.laneOf n)
  (b.pbead n).state == .fenced || l.failed || l.clasp.room false (p.laneOf n)

/-- R66: the crossing from Bead `n` is not full. -/
def Block.roomUp (p : Params) (b : Block) (n : Nat) : Bool := (b.lane (p.laneOf n)).bead.room true (p.laneOf n)

/-- R93: a Setting load starts: the lanes, which have driven nothing since cold reset, may drive. -/
def Block.startLanes (b : Block) : Block :=
  (List.range 24 ++ [255]).foldl (fun b n =>
    b.modLane n fun l => Lane.pumpBead n b.now (Lane.pumpClasp n b.now { l with started := true })) b

/-- R84: the messages `rs` reach the reader of direction `up` of lane `l` and act; where they are not what
the far end has sent next, nothing happens. -/
def Block.onLane (b : Block) (l : Nat) (up : Bool) (rs : List Rec) (f : Block → Block) : Block :=
  match (b.lane l).take l up rs with
  | some x => f (b.modLane l fun _ => x)
  | none => b

/-- A message reaches the Bead end of the lane of Bead `n`. -/
def Block.onDown (p : Params) (b : Block) (n : Nat) (r : Rec) (f : Block → Block) : Block :=
  b.onLane (p.laneOf n) false [r] f

/-- A message of Bead `n` reaches the Clasp end of its lane. The Clasp discards every record of a Bead that is
fenced off (R516). -/
def Block.onUp (p : Params) (b : Block) (n : Nat) (r : Rec) (f : Block → Block) : Block :=
  b.onLane (p.laneOf n) true [r] fun b => if (b.pbead n).state == .fenced then b else f b

/-! ## Global time on a die -/

/-- R98: global time as Bead `n` reads it; the local lane's Beads read the Clasp's (R99). Until a TIME has been loaded
a die's copy agrees with the Clasp's time (DESIGN CHOICE, log 150). -/
def Block.dieTime (p : Params) (b : Block) (n : Nat) : Nat :=
  if p.laneOf n = 255 then b.now
  else
    let l := b.lane (p.laneOf n)
    max ((b.now : Int) + l.dieOff).toNat (l.dieBase + (b.now - l.dieAt) / 2)

/-- R479: an event into a ring of Bead `n`, at the die's time. -/
def Block.beadLocket (p : Params) (b : Block) (n ring code arg : Nat) : Block :=
  { b with lkt := { b.lkt with
      rings := tmod {} b.lkt.rings (256 * n + ring) fun r =>
        r.push (packW [(code, 8, 56), (arg, 56, 0)]) (BitVec.ofNat 64 (b.dieTime p n)) } }

/-- R478: a record into the trace buffer of Bead `n`, which holds the last 256. -/
def Block.beadTrace (p : Params) (b : Block) (n cls units arg : Nat) (rest : List Word) : Block :=
  let r := traceWord0 cls units n arg :: BitVec.ofNat 64 (b.dieTime p n) :: rest
  b.modBead n fun d =>
    let t := d.trace ++ [r ++ List.replicate (4 - r.length) 0]
    { d with trace := t.drop (t.length - 256) }

/-- R97: the TIME with ECHO = 0 that the Clasp sends; its raw record takes its value when it is driven. -/
def Block.sendTime (b : Block) (n : Nat) : Block :=
  b.modLane n fun l => { (l.sendDown n b.now { header := timeHeader false, raws := [0] }) with timeSent := true }

/-- The Clasp asks for the latency (R96). -/
def Block.sendEcho (b : Block) (n : Nat) : Block :=
  b.modLane n fun l =>
    { (l.sendDown n b.now { header := timeHeader true }) with echoOut := true, echoNak := false }

/-! ## Rows of lane upkeep -/

/-- R94, R99: what follows once the Clasp end has entered RUN on a remote lane. -/
def Block.enteredRun (b : Block) (n : Nat) : Block :=
  if n = 255 then b
  else if (b.lane n).latKnown then b.sendTime n else b.sendEcho n

/-- R89: the Clasp end's TOKEN. Before it, what has arrived is acknowledged, since the end then drives nothing
else (DEDUCED, log 125). -/
def Lane.startTurn (n phase : Nat) (x : Lane) : Lane :=
  let x := x.arriveAll n true
  let e := if x.clasp.rxUnacked = 0 then x.clasp else x.clasp.sendAck true
  { x with timeSent := false, clasp := { (e.drive (tokenHeader phase)) with turn := some phase, tokens := 1 } }

/-- R89: a turn starts once the replay buffer is empty. -/
def tokenClasp (n phase : Nat) (b : Block) : Block :=
  let l := b.lane n
  if l.want = some phase && l.claspMay n && l.clasp.replay.isEmpty then b.modLane n (Lane.startTurn n phase) else b

/-- TOKEN_CLASP (R89). -/
def execTokenClasp (lane : Nat) (phase : BitVec 2) (s : State) : Host.Outcome State Fault Refusal :=
  .next { s with blk := tokenClasp lane phase.toNat s.blk }

/-- R90: the Bead end answers a TOKEN once its replay buffer is empty, and enters the phase. -/
def Lane.answerToken (n now : Nat) (x : Lane) : Lane :=
  match x.bead.turn with
  | some ph =>
      if x.bead.replay.isEmpty && x.beadMay n then
        Lane.pumpBead n now { x with bead := (x.bead.drive (tokenHeader ph)).enter ph }
      else x
  | none => x

/-- R90, R92: a TOKEN reaches the Bead end. -/
def Lane.onToken (n now phase : Nat) (x : Lane) : Lane :=
  if x.bead.phase = phase then (if x.beadMay n then { x with bead := x.bead.drive (tokenHeader phase) } else x)
  else Lane.answerToken n now { x with bead := { x.bead with turn := some phase } }

/-- R96: the Bead end answers a latency request. -/
def timeEchoRequest (n : Nat) (b : Block) : Block :=
  b.onLane n false [{ header := timeHeader true }] fun b =>
    b.modLane n fun l => l.sendUp n b.now { header := header 6 [] }

/-- TIME_ECHO_REQUEST (R96). -/
def execTimeEchoRequest (lane : Nat) (s : State) : Host.Outcome State Fault Refusal :=
  .next { s with blk := timeEchoRequest lane s.blk }

/-- R96, R97: the answer gives LAT, unless a NAK has come since the request: then the Clasp measures
again. -/
def Block.echoed (b : Block) (n beats : Nat) : Block :=
  let l := b.lane n
  if !l.echoOut then b
  else
    let b := b.modLane n fun l => { l with echoOut := false }
    if l.echoNak then b.sendEcho n
    else
      let b := b.modLane n fun l => { l with lat := (beats - 33) / 2 % 4096, latKnown := true }
      if l.timeSent then b else b.sendTime n

/-- R96: a TIME reaches the Clasp end, `beats` after the request's first beat was driven. -/
def timeEchoAnswer (n beats : Nat) (b : Block) : Block :=
  b.onLane n true [{ header := header 6 [] }] fun b => b.echoed n beats

/-- TIME_ECHO_ANSWER (R96). -/
def execTimeEchoAnswer (lane beats : Nat) (s : State) : Host.Outcome State Fault Refusal :=
  .next { s with blk := timeEchoAnswer lane beats s.blk }

/-- R98: the die's time becomes `t`, or advances at half rate until the two meet. -/
def Lane.loadTime (now t : Nat) (l : Lane) : Lane :=
  let cur := max ((now : Int) + l.dieOff).toNat (l.dieBase + (now - l.dieAt) / 2)
  { l with
    dieOff := (t : Int) - now
    dieBase := if cur ≤ t then 0 else cur
    dieAt := now }

/-- R97, R98: a TIME with ECHO = 0 reaches the Bead end. -/
def timeLoad (n : Nat) (t : Word) (b : Block) : Block :=
  b.onLane n false [{ header := timeHeader false, raws := [t] }] fun b => b.modLane n (Lane.loadTime b.now t.toNat)

/-- TIME (R97, R98). -/
def execTime (lane : Nat) (t : Word) (s : State) : Host.Outcome State Fault Refusal :=
  .next { s with blk := timeLoad lane t s.blk }

/-- R97: in RUN the Clasp sends a TIME at least once every 1,024 groups, as far as the crossing has room (R66). -/
def timePeriodic (n : Nat) (b : Block) : Block :=
  let l := b.lane n
  if n ≠ 255 && l.clasp.phase == 0 && l.latKnown && !l.failed && l.clasp.turn.isNone && l.clasp.room false n then
    b.sendTime n
  else b

/-- TIME_PERIODIC (R97). -/
def execTimePeriodic (lane : Nat) (s : State) : Host.Outcome State Fault Refusal :=
  .next { s with blk := timePeriodic lane s.blk }

/-- R85: 64 lane cycles after an unacknowledged record; `up` names the direction of the LNK. -/
def lnkAckTimer (n : Nat) (up : Bool) (b : Block) : Block :=
  b.modLane n fun l =>
    if up then { l with bead := if l.bead.rxUnacked = 0 then l.bead else l.bead.sendAck (l.beadMay n) }
    else { l with clasp := if l.clasp.rxUnacked = 0 then l.clasp else l.clasp.sendAck (l.claspMay n) }

/-- LNK_ACK_TIMER (R85). -/
def execLnkAckTimer (lane : Nat) (up : Bool) (s : State) : Host.Outcome State Fault Refusal :=
  .next { s with blk := lnkAckTimer lane up s.blk }

/-- R88: `up` names the direction of the NAK. -/
def nakRepeat (n : Nat) (up : Bool) (b : Block) : Block :=
  b.modLane n fun l =>
    if up then (if l.bead.discarding then { l with bead := l.bead.sendNak (l.beadMay n) } else l)
    else if l.clasp.discarding then l.claspNak n else l

/-- NAK_REPEAT_TIMER (R88). -/
def execNakRepeatTimer (lane : Nat) (up : Bool) (s : State) : Host.Outcome State Fault Refusal :=
  .next { s with blk := nakRepeat lane up s.blk }

/-- R80, R86: what is received in direction `up` at the place of the record after the next `k` is `beats`,
among which a record begins that is not good: the receiver discards it and what follows, and sends a NAK. The beats
of an idle lane, altered on their way, can hold such a record too. The local lane has no CRC failures (R99). -/
def recordCrcError (n : Nat) (up : Bool) (k : Nat) (beats : List (BitVec 18)) (b : Block) : Block :=
  if n = 255 || !badRecord up beats then b
  else b.modLane n fun l => ((l.arrive n up (fun _ => true) k).dropWire up).reject n up

/-- RECORD_CRC_ERROR (R86). -/
def execRecordCrcError (lane : Nat) (x : Garbled) (s : State) : Host.Outcome State Fault Refusal :=
  .next { s with blk := recordCrcError lane x.up x.after x.beats s.blk }

/-- R78: fl_train_done rises at an end, which may drive what has waited. -/
def trainDoneRise (n : Nat) (beadEnd : Bool) (b : Block) : Block :=
  b.modLane n fun l =>
    if beadEnd then Lane.pumpBead n b.now { l with bead := { l.bead with trained := true } }
    else Lane.pumpClasp n b.now { l with clasp := { l.clasp with trained := true } }

/-- TRAIN_DONE_RISE (R78). -/
def execTrainDoneRise (lane : Nat) (beadEnd : Bool) (s : State) : Host.Outcome State Fault Refusal :=
  .next { s with blk := trainDoneRise lane beadEnd s.blk }

end Machine

end Sys2Proof
end

