-- ==== Sys2Proof/Machine/Fences.lean ====
section
/-! DEFINITION. Fences (R242 to R253): generations, handle checks, signals, poisoning, the cycle
search and the fence commands. -/

namespace Sys2Proof.Machine

/-- Generation `a` is serially after `b`. -/
def genAfter (a b : BitVec 16) : Bool := 0 < (a - b).toNat && (a - b).toNat < 2 ^ 15

/-- R243: generation `h` has ended. -/
def Fence.ended (f : Fence) (h : BitVec 16) : Bool :=
  !genAfter h f.gen || (f.state == .poisoned && !genAfter f.pgen h)

/-- R243: the outcome of an ended generation. -/
def Fence.outcome (f : Fence) (h : BitVec 16) : Status :=
  if f.state == .poisoned && !genAfter f.pgen h then f.pstatus else Status.ok

/-- A fence handle (R176). -/
abbrev Handle := BitVec 32

/-- INDEX of a handle. -/
def handleIndex (h : Handle) : Nat := bits h.toNat 15 0
/-- GEN of a handle. -/
def handleGen (h : Handle) : BitVec 16 := BitVec.ofNat 16 (bits h.toNat 31 16)

/-- R245: a fence handle passes its check. `signal` is the use, `kernel` and `ctx` those of the
queue. -/
def handleOk (f : Fence) (gen : BitVec 16) (signal kernel : Bool) (ctx : Nat) : Bool :=
  let d := (gen - f.gen).toNat
  if f.state == .free then false
  else if signal && !kernel && f.owner.toNat != ctx then false
  else if 1 ≤ d && d ≤ 16384 then true
  else if d = 0 || 49153 ≤ d then !signal
  else false

/-- WAITERS (R242): registered waits, and signals that wait their turn. -/
def Fences.waiters (x : Fences) (i : Nat) : Nat :=
  (x.waits.filter (·.fence == i)).length + (x.turns.filter (·.fence == i)).length

/-- The trace event of a generation that ends or is poisoned (R471). -/
def Block.traceFence (b : Block) (i : Nat) (gen : BitVec 16) (st : Status) : Block :=
  b.traceEvent 6 1 (pack [(i, 16, 0), (gen.toNat, 16, 16), (st.toNat, 8, 32)]) []

/-- Waits of `ws` get the outcome of their generation; one whose generation ends now takes the
quantity of its signal (R279). -/
def Block.giveOutcome (b : Block) (w : Wait) (st : Status) (quantity : Option Nat) : Block :=
  b.modNode w.seg w.index fun n => { n with outcome := some st, quantity := quantity }

/-- A signal that waits its turn leaves the line: `acted` when it has ended its generation itself. A
received signal that has not is discarded and counted (R378). -/
def Block.giveTurn (b : Block) (t : Turn) (acted : Bool) (st : Status) : Block :=
  match t.by' with
  | .node seg index => b.modNode seg index fun n => { n with outcome := some st }
  | .done => b
  | .remote _ _ =>
      if acted then b else { b with link := { b.link with stale := satAdd 16 b.link.stale 1 } }

/-- R247: generation `h` ends; registered waits on it are released with its outcome. Signals that
waited to end the same generation find it ended. (DEDUCED, log 58) -/
def Block.endGen (b : Block) (i : Nat) (h : BitVec 16) (quantity : Nat) (unit : Bool) : Block :=
  let b := b.modFence i fun f => { f with gen := h, quantity := quantity, unit := unit }
  let st := (b.fence i).outcome h
  let mine (w : Wait) : Bool := w.fence == i && w.gen == h
  let late (t : Turn) : Bool := t.fence == i && t.gen == h
  let ws := b.fences.waits.filter mine
  let ts := b.fences.turns.filter late
  let b := { b with fences := { b.fences with
    waits := b.fences.waits.filter (fun w => !mine w)
    turns := b.fences.turns.filter (fun t => !late t) } }
  let b := ws.foldl (fun b w => b.giveOutcome w st (some quantity)) b
  let b := ts.foldl (fun b t => b.giveTurn t false Status.staleHandle) b
  b.traceFence i h st

/-- The quantity and unit that a waiting signal carries (R278). -/
def TurnBy.quantity : TurnBy → Nat × Bool
  | .remote q u => (q, u)
  | _ => (0, false)

/-- R247: signals whose turn has come act, one after the other. -/
def Block.runTurns : Nat → Block → Nat → Block
  | 0, b, _ => b
  | k + 1, b, i =>
      match b.fences.turns.find? (fun t => t.fence == i && t.gen == (b.fence i).gen + 1) with
      | none => b
      | some t =>
          let b := { b with fences := { b.fences with turns := b.fences.turns.erase t } }
          let b := b.giveTurn t true Status.ok
          let b := b.endGen i t.gen t.by'.quantity.1 t.by'.quantity.2
          Block.runTurns k b i

/-- What a signal does (R247). -/
inductive SignalResult where
  | ended
  | waits
  | stale
  deriving DecidableEq, Repr

/-- R247: a signal of generation `h` of fence `i` acts. -/
def Block.signalFence (b : Block) (i : Nat) (h : BitVec 16) (kernel : Bool) (ctx : Nat) (by' : TurnBy) :
    SignalResult × Block :=
  let f := b.fence i
  if !handleOk f h true kernel ctx || f.ended h then (.stale, b)
  else if f.gen + 1 == h then
    let b := b.endGen i h by'.quantity.1 by'.quantity.2
    (.ended, Block.runTurns b.fences.turns.length b i)
  else
    (.waits, { b with fences := { b.fences with
      turns := b.fences.turns ++ [{ fence := i, gen := h, by' := by' }] } })

/-- R244: what has ended by a poisoning is released with its outcome. -/
def Block.releaseEnded (b : Block) (i : Nat) : Block :=
  let f := b.fence i
  let wDone (w : Wait) : Bool := w.fence == i && f.ended w.gen
  let tDone (t : Turn) : Bool := t.fence == i && f.ended t.gen
  let ws := b.fences.waits.filter wDone
  let ts := b.fences.turns.filter tDone
  let b := { b with fences := { b.fences with
    waits := b.fences.waits.filter (fun w => !wDone w)
    turns := b.fences.turns.filter (fun t => !tDone t) } }
  let b := ws.foldl (fun b w => b.giveOutcome w (f.outcome w.gen) none) b
  ts.foldl (fun b t => b.giveTurn t false (f.outcome t.gen)) b

/-- Poisons generation `h` of an ACTIVE fence; a POISONED or FREE one stays as it is (R244, R253). A local poison
changes neither QUANTITY nor UNIT (DESIGN CHOICE, log 166). -/
def Block.poisonGen (b : Block) (i : Nat) (h : BitVec 16) (st : Status) : Block :=
  if (b.fence i).state == .active then
    let b := b.modFence i fun f => { f with state := .poisoned, pgen := h, pstatus := st }
    (b.releaseEnded i).traceFence i h st
  else b

/-- R244: poisoning through a handle; the Bool says whether the handle stood. -/
def Block.poisonHandle (b : Block) (hd : Handle) (st : Status) (kernel : Bool) (ctx : Nat) : Bool × Block :=
  let i := handleIndex hd
  let h := handleGen hd
  let f := b.fence i
  if !handleOk f h true kernel ctx || f.ended h then (false, b) else (true, b.poisonGen i h st)

/-- R248: the fences of a context are poisoned with OWNER_LOST. -/
def Block.poisonOwned (b : Block) (ctx : Nat) : Block :=
  let own := b.fences.table.filter fun p => p.2.state == .active && p.2.owner.toNat == ctx
  own.foldl (fun b p => b.poisonGen p.1 (p.2.gen + 1) Status.ownerLost) b

/-- R246: a WAIT registers, or records the outcome of a generation that has ended. -/
def Block.registerWait (b : Block) (hd : Handle) (seg index : Nat) : Option Status × Block :=
  let i := handleIndex hd
  let h := handleGen hd
  let f := b.fence i
  if f.ended h then (some (f.outcome h), b)
  else (none, { b with fences := { b.fences with
    waits := b.fences.waits ++ [{ fence := i, gen := h, seg := seg, index := index }] } })

/-- R246: the registrations and turns of a node are withdrawn. -/
def Block.withdraw (b : Block) (seg index : Nat) : Block :=
  { b with fences := { b.fences with
    waits := b.fences.waits.filter (fun w => !(w.seg == seg && w.index == index))
    turns := b.fences.turns.filter (fun t => t.by' != .node seg index) } }

/-- R246, R233: the registrations and turns of all nodes of a submission are withdrawn. -/
def Block.withdrawSub (b : Block) (seg : Nat) : Block :=
  { b with fences := { b.fences with
    waits := b.fences.waits.filter (fun w => !(w.seg == seg))
    turns := b.fences.turns.filter (fun t => match t.by' with | .node s _ => s != seg | _ => true) } }

/-! ## Cycles (R250, R251) -/

/-- A generation of a fence: index and GEN. -/
abbrev FGen := Nat × Nat

/-- A generation is pending. -/
def Block.genPending (b : Block) (g : FGen) : Bool := !(b.fence g.1).ended (BitVec.ofNat 16 g.2)

/-- The generations that one link leads to: from a wait of a placed submission to each of its
signals, and from a generation to every later pending generation of its fence that a submission
names. -/
def cycleLinks (b : Block) (subs : List (List FGen × List FGen)) (named : List FGen) (g : FGen) : List FGen :=
  (subs.flatMap fun s => if s.1.contains g then s.2 else []) ++
    named.filter fun n => n.1 == g.1 && b.genPending n
      && genAfter (BitVec.ofNat 16 n.2) (BitVec.ofNat 16 g.2)

/-- Searches from a frontier: `some true` when a target is reached, `none` when the search stops
after 4,096 generations (R251). -/
def cycleSearch (next : FGen → List FGen) (target : List FGen) : Nat → List FGen → List FGen → Option Bool
  | _, [], _ => some false
  | 0, _ :: _, _ => none
  | k + 1, g :: front, seen =>
      if target.contains g then some true
      else
        let new := (next g).eraseDups.filter fun x => !seen.contains x && !front.contains x && x != g
        cycleSearch next target k (front ++ new) (g :: seen)

/-- R250: the outcome of the test: `some true` closes a cycle, `none` is a search that R251 stops. -/
def Block.closesCycle (b : Block) (waits signals : List FGen) : Option Bool :=
  let placed := b.graph.subs.filter fun p => p.2.live
  let subs := (placed.map fun p => (p.2.waits, p.2.signals))
  let named := (subs.flatMap fun s => s.1 ++ s.2) ++ waits ++ signals
  let w := waits.filter b.genPending
  cycleSearch (cycleLinks b subs named.eraseDups) w 4096 signals.eraseDups []

/-! ## Fence commands (R252) -/

/-- CLS FNC_CMD: a command that is not accepted sets REJ; INDEX is that of the last command. -/
def fncReject (i : Nat) (b : Block) : Block :=
  { b with fences := { b.fences with cmdRej := true, cmdIndex := i } }

/-- An accepted command clears REJ. -/
def fncAccept (i : Nat) (b : Block) : Block :=
  { b with fences := { b.fences with cmdRej := false, cmdIndex := i } }

/-- R252: ALLOC. QUANTITY and UNIT stay as they are (DESIGN CHOICE, log 166). -/
def fncAlloc (i owner : Nat) (b : Block) : Block :=
  if (b.fence i).state == .free && (b.ctx owner).state != .free then
    (fncAccept i b).modFence i fun f =>
      { f with state := .active, owner := BitVec.ofNat 10 owner, gen := f.gen + 32768 }
  else fncReject i b

/-- R252: FREE. The entry keeps GEN, so that old handles stay stale. -/
def fncFree (i : Nat) (b : Block) : Block :=
  if (b.fence i).state != .free && b.fences.waiters i == 0 then
    (fncAccept i b).modFence i fun f => { f with state := .free }
  else fncReject i b

/-- R252: CLEAR. QUANTITY and UNIT stay as they are (DESIGN CHOICE, log 166). -/
def fncClear (i : Nat) (b : Block) : Block :=
  if (b.fence i).state == .poisoned && b.fences.waiters i == 0 then
    (fncAccept i b).modFence i fun f =>
      { f with state := .active, gen := f.gen + 32768, pgen := 0, pstatus := 0 }
  else fncReject i b

/-- R252: CLR_COUNT. -/
def fncClrCount (b : Block) : Block :=
  { b with fences := { b.fences with unchecked := 0, rejected := 0, cmdRej := false, cmdIndex := 0 } }

/-- A write of FNC_CMD. -/
def fncWrite (w : Word) (b : Block) : Block :=
  let i := fld w 15 0
  match fld w 63 60 with
  | 1 => fncAlloc i (fld w 59 50) b
  | 2 => fncFree i b
  | 3 => fncClear i b
  | 4 => { fncClrCount b with fences := { (fncClrCount b).fences with cmdIndex := i } }
  | _ => fncReject i b

/-- ALLOC (R252). -/
def execFncAlloc (a : Acc) (index : BitVec 16) (owner : BitVec 10) (s : State) : Host.Outcome State Fault Refusal :=
  .next (s.command a .fncCmd fun _ b => fncAlloc index.toNat owner.toNat b)

/-- FREE (R252). -/
def execFncFree (a : Acc) (index : BitVec 16) (s : State) : Host.Outcome State Fault Refusal :=
  .next (s.command a .fncCmd fun _ b => fncFree index.toNat b)

/-- CLEAR (R252). -/
def execFncClear (a : Acc) (index : BitVec 16) (s : State) : Host.Outcome State Fault Refusal :=
  .next (s.command a .fncCmd fun _ b => fncClear index.toNat b)

/-- CLR_COUNT (R252). -/
def execFncClrCount (a : Acc) (s : State) : Host.Outcome State Fault Refusal :=
  .next (s.command a .fncCmd fun _ b => fncClrCount b)

/-- FNC_CMD_INVALID (R252): an FNC_CMD write, which sets REJ when it is not accepted. -/
def execFncCmdInvalid (a : Acc) (op : BitVec 4) (index : BitVec 16) (s : State) :
    Host.Outcome State Fault Refusal :=
  .next (s.command a .fncCmd fun _ b =>
    fncWrite (packW [(op.toNat, 4, 60), (index.toNat, 16, 0)]) b)

end Sys2Proof.Machine
end

