-- ==== Sys2Proof/Machine/LinkPort.lean ====
section
/-! DEFINITION. The link port's packets and transmit queue (R370 to R377): what other families send
through it. -/

namespace Sys2Proof.Machine

/-- SET_IFREV.LP: the highest link revision that the block offers (R141). -/
def lpRev (p : Params) : Nat := if p.links = 0 then 0 else 0x12

/-- R371: the lowest-numbered VALID entry for a peer. -/
def Block.peerFor (b : Block) (x : Nat) : Option Nat :=
  (b.link.peers.find? fun p => p.2.valid && p.2.peer == x).map (·.1)

/-- R377: every VALID entry for a peer is INCOMPAT. -/
def Block.onlyIncompat (b : Block) (x : Nat) : Bool :=
  b.link.peers.all fun p => !(p.2.valid && p.2.peer == x) || p.2.state == .incompat

/-- Word 0 of a packet's header (R375). -/
def packetWord0 (type len rev dst src : Nat) : Word :=
  packW [(type, 8, 56), (len, 4, 52), (rev, 8, 44), (dst, 20, 20), (src, 20, 0)]

/-- A SIGNAL packet (R375); UNIT is sent as zero below revision 1.1 (R374). -/
def signalPacket (rev dst src : Nat) (h : BitVec 32) (st : Status) (unit : Bool) (q : Nat) : List Word :=
  [packetWord0 1 1 rev dst src,
   packW [(h.toNat, 32, 0), (st.toNat, 8, 32), (b2n (unit && 0x11 ≤ rev), 1, 40)],
   packW [(q, 48, 0)], 0]

/-- A HELLO packet: formed at 0x10 (R374), with MIN 0x10 and MAX of R372. -/
def helloPacket (p : Params) (dst src : Nat) (ack : Bool) : List Word :=
  [packetWord0 3 1 0x10 dst src, packW [(lpRev p, 8, 0), (0x10, 8, 8), (b2n ack, 1, 16)], 0, 0]

/-- A COMPLETION packet: header transfer and record; REASON is zero below revision 1.2 (R374). -/
def completionPacket (rev dst src cq reason : Nat) (rec : List Word) : List Word :=
  [packetWord0 2 (1 + rec.length / 4) rev dst src,
   packW [(cq, 12, 0), (if 0x12 ≤ rev then reason else 0, 4, 16)], 0, 0] ++ rec

/-- R492: fetch, check and placement stand still in a halt wave. -/
def Block.halted (b : Block) : Bool := b.lkt.state != .run && b.lkt.kind == 2

/-- lp_link_up of a link. -/
def Block.linkIsUp (b : Block) (l : Nat) : Bool := b.link.up.getLsbD l

/-- R371: a queued packet's peer has UP its lowest-numbered VALID entry, whose link it takes. -/
def Block.txEntry (b : Block) (x : TxPacket) : Option Nat := b.peerFor (fld ((x.words[0]?).getD 0) 39 20)

/-- R60, R371: a queued packet can be transmitted. -/
def Block.txReady (b : Block) (x : TxPacket) : Bool :=
  match b.txEntry x with
  | some e => (b.peer e).state == .up && b.linkIsUp (b.peer e).link
  | none => false

/-- The link that a packet is transmitted on: a HELLO's own, else its peer's (R371). -/
def Block.txLink (b : Block) (x : TxPacket) : Nat :=
  match x.by' with
  | .hello => x.link
  | _ => match b.txEntry x with | some e => (b.peer e).link | none => x.link

/-- R60, R74, R370, R371, R493, R497: the packet that the link port can start: the oldest HELLO, else the oldest packet
whose peer entry is UP, on a link that is up. -/
def Block.nextPacket (b : Block) : Option TxPacket :=
  if !b.link.en || b.halted || !b.link.opened || (b.dom 6).state != .on then none
  else match b.link.hellos.find? fun x => b.linkIsUp x.link with
  | some x => some x
  | none => b.link.txq.find? b.txReady

/-- The link port starts a packet when it sends none. (DEDUCED, log 137) -/
def Block.txStart (b : Block) : Block :=
  if b.link.sending.isSome then b
  else { b with link := { b.link with sending := b.nextPacket.map fun x => (x, b.txLink x) } }

/-- A packet enters the transmit queue. -/
def Block.txPut (b : Block) (x : TxPacket) : Block :=
  Block.txStart { b with link := { b.link with txq := b.link.txq ++ [x] } }

/-- The transmit queue of 64 has room (R377). It takes nothing in while the link domain is not ON (DEDUCED, log 138). -/
def Block.txRoom (b : Block) : Bool := b.link.txq.length < 64 && (b.dom 6).state == .on

/-- Queues the SIGNAL packet of a released remote SIGNAL where its peer is UP and there is room. -/
def Block.tryPoison (b : Block) (x : Nat) (h : BitVec 32) (st : Status) : Option Block :=
  match b.peerFor x with
  | none => none
  | some e =>
      let pe := b.peer e
      if b.link.en && pe.state == .up && b.txRoom then
        some (b.txPut { words := signalPacket pe.rev x b.link.self h st false 0, link := pe.link, peer := e
                        by' := .poison })
      else none

/-- R377: a released remote SIGNAL sends a SIGNAL packet with its status. It waits for its peer or for room; with EN 0 or no VALID entry there is no way to send it, and it is dropped (DESIGN CHOICE, log 12). -/
def Block.remotePoison (b : Block) (x : Nat) (h : BitVec 32) (st : Status) : Block :=
  if !b.link.en || (b.peerFor x).isNone then b
  else match b.tryPoison x h st with
    | some b => b
    | none => { b with link := { b.link with poisons := b.link.poisons ++ [(x, h, st)] } }

/-- Poisons that waited are queued as far as they now can be. -/
def Block.flushPoisons (b : Block) : Block :=
  let ps := b.link.poisons
  ps.foldl (fun b q =>
      match b.tryPoison q.1 q.2.1 q.2.2 with
      | some b => b
      | none => { b with link := { b.link with poisons := b.link.poisons ++ [q] } })
    { b with link := { b.link with poisons := [] } }

end Sys2Proof.Machine
end

