-- ==== Sys2Proof/Machine/Crypto.lean ====
section
/-! DEFINITION. SHA3-256, SHA-384 and ECDSA P-384 verification, which R107 to R110 and R466 name by
their FIPS standards. PRESUMED (log 10): the algorithms are those of FIPS 202, 180-4 and 186-5, which
the spec names and does not repeat. -/

namespace Sys2Proof.Machine

/-! ## SHA3-256 -/

/-- The outputs of the shift register of Keccak's round constants, from the contents `r` on: the bit that leaves at the
top comes back at places 0, 4, 5 and 6. -/
def rcOutputs : Nat → Nat → List Bool
  | 0, _ => []
  | k + 1, r => (r % 2 == 1) :: rcOutputs k (if r < 128 then 2 * r else (2 * r) ^^^ 0x171)

/-- Round constants of Keccak-f[1600]: seven outputs for each round, the j-th at bit 2^j - 1. -/
def keccakRc : List Word :=
  let out := rcOutputs 168 1
  (List.range 24).map fun round =>
    BitVec.ofNat 64 ((List.range 7).foldl (fun v j => if (out.drop (7 * round + j)).headD false then v + 2 ^ (2 ^ j - 1) else v) 0)

/-- The walk over the lanes that gives their rotations: lane number, and offset after `t` steps. -/
def rotWalk : Nat → Nat → Nat → Nat → List (Nat × Nat)
  | 0, _, _, _ => []
  | k + 1, t, x, y => (x + 5 * y, (t + 1) * (t + 2) / 2 % 64) :: rotWalk k (t + 1) y ((2 * x + 3 * y) % 5)

/-- Rotation offset of a lane; lane 0 does not turn. -/
def keccakRot (i : Nat) : Nat := tget 0 (rotWalk 24 0 1 0) i

/-- Lane `i` of a Keccak state. -/
def lane25 (a : List Word) (i : Nat) : Word := a.getD i 0

/-- One round of Keccak-f[1600]. -/
def keccakRound (a : List Word) (rc : Word) : List Word :=
  let c := (List.range 5).map fun x =>
    lane25 a x ^^^ lane25 a (x + 5) ^^^ lane25 a (x + 10) ^^^ lane25 a (x + 15) ^^^ lane25 a (x + 20)
  let d := (List.range 5).map fun x => lane25 c ((x + 4) % 5) ^^^ (lane25 c ((x + 1) % 5)).rotateLeft 1
  let t := (List.range 25).map fun i => lane25 a i ^^^ lane25 d (i % 5)
  -- pi and rho: lane (x, y) comes from lane ((x + 3y) mod 5, x)
  let r := (List.range 25).map fun i =>
    let j := (i % 5 + 3 * (i / 5)) % 5 + 5 * (i % 5)
    (lane25 t j).rotateLeft (keccakRot j)
  let e := (List.range 25).map fun i =>
    let y := i / 5 * 5
    lane25 r i ^^^ (~~~(lane25 r (y + (i + 1) % 5)) &&& lane25 r (y + (i + 2) % 5))
  match e with
  | [] => []
  | h :: t => (h ^^^ rc) :: t

/-- Keccak-f[1600]. -/
def keccakF (a : List Word) : List Word := keccakRc.foldl keccakRound a

/-- Little-endian words of bytes; the last word is filled with zeros. -/
def bytesWords : Nat → List Byte → List Word
  | 0, _ => []
  | n + 1, bs => if bs.isEmpty then [] else BitVec.ofNat 64 (leNat (bs.take 8)) :: bytesWords n (bs.drop 8)

/-- Absorbs blocks of 17 lanes. -/
def absorb : Nat → List Word → List Word → List Word
  | 0, _, a => a
  | n + 1, ws, a =>
      if ws.isEmpty then a
      else
        let blk := ws.take 17
        absorb n (ws.drop 17) (keccakF ((List.range 25).map fun i => lane25 a i ^^^ blk.getD i 0))

/-- SHA3-256: 32 bytes, in output order. -/
def sha3 (bs : List Byte) : List Byte :=
  let padLen := 136 - bs.length % 136
  let pad : List Byte :=
    if padLen = 1 then [0x86#8] else 0x06#8 :: (List.replicate (padLen - 2) 0#8 ++ [0x80#8])
  let ws := bytesWords (bs.length + 137) (bs ++ pad)
  wordsBytes ((absorb ws.length ws (List.replicate 25 0)).take 4)

/-- A digest as a 256-bit value: byte i in bits 8i + 7 to 8i (R109). -/
def digestValue (bs : List Byte) : BitVec 256 := BitVec.ofNat 256 (leNat bs)

/-- The bytes of a digest in output order. -/
def digestBytes (d : BitVec 256) : List Byte := leBytes 32 d.toNat

/-! ## SHA-384 -/

/-- Round constants of SHA-512 and SHA-384. -/
def shaK : List Word :=
  [
    0x428A2F98D728AE22, 0x7137449123EF65CD, 0xB5C0FBCFEC4D3B2F, 0xE9B5DBA58189DBBC,
    0x3956C25BF348B538, 0x59F111F1B605D019, 0x923F82A4AF194F9B, 0xAB1C5ED5DA6D8118,
    0xD807AA98A3030242, 0x12835B0145706FBE, 0x243185BE4EE4B28C, 0x550C7DC3D5FFB4E2,
    0x72BE5D74F27B896F, 0x80DEB1FE3B1696B1, 0x9BDC06A725C71235, 0xC19BF174CF692694] ++
  [
    0xE49B69C19EF14AD2, 0xEFBE4786384F25E3, 0x0FC19DC68B8CD5B5, 0x240CA1CC77AC9C65,
    0x2DE92C6F592B0275, 0x4A7484AA6EA6E483, 0x5CB0A9DCBD41FBD4, 0x76F988DA831153B5,
    0x983E5152EE66DFAB, 0xA831C66D2DB43210, 0xB00327C898FB213F, 0xBF597FC7BEEF0EE4,
    0xC6E00BF33DA88FC2, 0xD5A79147930AA725, 0x06CA6351E003826F, 0x142929670A0E6E70] ++
  [
    0x27B70A8546D22FFC, 0x2E1B21385C26C926, 0x4D2C6DFC5AC42AED, 0x53380D139D95B3DF,
    0x650A73548BAF63DE, 0x766A0ABB3C77B2A8, 0x81C2C92E47EDAEE6, 0x92722C851482353B,
    0xA2BFE8A14CF10364, 0xA81A664BBC423001, 0xC24B8B70D0F89791, 0xC76C51A30654BE30,
    0xD192E819D6EF5218, 0xD69906245565A910, 0xF40E35855771202A, 0x106AA07032BBD1B8] ++
  [
    0x19A4C116B8D2D0C8, 0x1E376C085141AB53, 0x2748774CDF8EEB99, 0x34B0BCB5E19B48A8,
    0x391C0CB3C5C95A63, 0x4ED8AA4AE3418ACB, 0x5B9CCA4F7763E373, 0x682E6FF3D6B2B8A3,
    0x748F82EE5DEFB2FC, 0x78A5636F43172F60, 0x84C87814A1F0AB72, 0x8CC702081A6439EC,
    0x90BEFFFA23631E28, 0xA4506CEBDE82BDE9, 0xBEF9A3F7B2C67915, 0xC67178F2E372532B] ++
  [
    0xCA273ECEEA26619C, 0xD186B8C721C0C207, 0xEADA7DD6CDE0EB1E, 0xF57D4F7FEE6ED178,
    0x06F067AA72176FBA, 0x0A637DC5A2C898A6, 0x113F9804BEF90DAE, 0x1B710B35131C471B,
    0x28DB77F523047D84, 0x32CAAB7B40C72493, 0x3C9EBE0A15C9BEBC, 0x431D67C49C100D4C,
    0x4CC5D4BECB3E42B6, 0x597F299CFC657E2A, 0x5FCB6FAB3AD6FAEC, 0x6C44198C4A475817]

/-- Initial value of SHA-384. -/
def shaIv : List Word :=
  [
    0xCBBB9D5DC1059ED8, 0x629A292A367CD507, 0x9159015A3070DD17, 0x152FECD8F70E5939,
    0x67332667FFC00B31, 0x8EB44A8768581511, 0xDB0C2E0D64F98FA7, 0x47B5481DBEFA4FA4]

/-- A big-endian value of bytes. -/
def beNat (bs : List Byte) : Nat := bs.foldl (fun v b => v * 256 + b.toNat) 0

/-- Big-endian words of bytes. -/
def beWords : Nat → List Byte → List Word
  | 0, _ => []
  | n + 1, bs => if bs.isEmpty then [] else BitVec.ofNat 64 (beNat (bs.take 8)) :: beWords n (bs.drop 8)

/-- The message schedule, newest word first. -/
def shaSchedule : Nat → List Word → List Word
  | 0, w => w
  | n + 1, w =>
      let a := w.getD 14 0
      let b := w.getD 1 0
      let s0 := a.rotateRight 1 ^^^ a.rotateRight 8 ^^^ (a >>> 7)
      let s1 := b.rotateRight 19 ^^^ b.rotateRight 61 ^^^ (b >>> 6)
      shaSchedule n ((w.getD 15 0 + s0 + w.getD 6 0 + s1) :: w)

/-- One round: state a to h. -/
def shaRound (s : List Word) (kw : Word × Word) : List Word :=
  let g (i : Nat) : Word := s.getD i 0
  let e := g 4
  let a := g 0
  let t1 := g 7 + (e.rotateRight 14 ^^^ e.rotateRight 18 ^^^ e.rotateRight 41)
    + ((e &&& g 5) ^^^ (~~~e &&& g 6)) + kw.1 + kw.2
  let t2 := (a.rotateRight 28 ^^^ a.rotateRight 34 ^^^ a.rotateRight 39)
    + ((a &&& g 1) ^^^ (a &&& g 2) ^^^ (g 1 &&& g 2))
  [t1 + t2, a, g 1, g 2, g 3 + t1, e, g 5, g 6]

/-- The hash of blocks of 16 words. -/
def shaBlocks : Nat → List Word → List Word → List Word
  | 0, _, h => h
  | n + 1, ws, h =>
      if ws.isEmpty then h
      else
        let sched := (shaSchedule 64 (ws.take 16).reverse).reverse
        let s := (shaK.zip sched).foldl shaRound h
        shaBlocks n (ws.drop 16) (List.zipWith (· + ·) h s)

/-- SHA-384 as an integer, its first output byte most significant. -/
def sha384 (bs : List Byte) : Nat :=
  let zeros := (112 + 128 - (bs.length + 1) % 128) % 128
  let len : List Byte := (leBytes 16 (8 * bs.length)).reverse
  let ws := beWords (bs.length + 300) (bs ++ 0x80#8 :: (List.replicate zeros 0#8 ++ len))
  ((shaBlocks ws.length ws shaIv).take 6).foldl (fun v w => v * 2 ^ 64 + w.toNat) 0

/-! ## ECDSA on P-384 -/

/-- P-384. The field prime. -/
def p384 : Nat :=
  0xFFFFFFFFFFFFFFFFFFFFFFFFFFFFFFFFFFFFFFFFFFFFFFFFFFFFFFFFFFFFFFFEFFFFFFFF0000000000000000FFFFFFFF

/-- P-384. The order of the base point. -/
def n384 : Nat :=
  0xFFFFFFFFFFFFFFFFFFFFFFFFFFFFFFFFFFFFFFFFFFFFFFFFC7634D81F4372DDF581A0DB248B0A77AECEC196ACCC52973

/-- P-384. The coefficient b. -/
def b384 : Nat :=
  0xB3312FA7E23EE7E4988E056BE3F82D19181D9C6EFE8141120314088F5013875AC656398D8A2ED19D2A85C8EDD3EC2AEF

/-- P-384. The base point. -/
def gx384 : Nat :=
  0xAA87CA22BE8B05378EB1C71EF320AD746E1D3B628BA79B9859F741E082542A385502F25DBF55296C3A545E3872760AB7

/-- P-384. The base point. -/
def gy384 : Nat :=
  0x3617DE4A96262C6F5D9E98BF9292DC29F8F41DBD289A147CE9DA3113B5F0B8C00A60B1CE1D7E819D7A431D7C90EA0E5F

/-- a − b in the field. -/
def fsub (a b : Nat) : Nat := (a + p384 - b % p384) % p384
/-- a × b in the field. -/
def fmul (a b : Nat) : Nat := a * b % p384

/-- a^e modulo m, over `k` bits of e. -/
def powMod (m : Nat) : Nat → Nat → Nat → Nat
  | 0, _, _ => 1 % m
  | k + 1, a, e =>
      let r := powMod m k (a * a % m) (e / 2)
      if e % 2 = 1 then r * a % m else r

/-- A point in Jacobian coordinates; z = 0 is the point at infinity. -/
abbrev JPoint := Nat × Nat × Nat

/-- Twice a point (a = −3). -/
def jdouble (q : JPoint) : JPoint :=
  let (x, y, z) := q
  if z = 0 || y = 0 then (1, 1, 0)
  else
    let delta := fmul z z
    let gamma := fmul y y
    let beta := fmul x gamma
    let alpha := fmul 3 (fmul (fsub x delta) (x + delta))
    let x3 := fsub (fmul alpha alpha) (8 * beta)
    let z3 := fsub (fsub (fmul (y + z) (y + z)) gamma) delta
    (x3, fsub (fmul alpha (fsub (4 * beta) x3)) (8 * fmul gamma gamma), z3)

/-- The sum of two points. -/
def jadd (q r : JPoint) : JPoint :=
  let (x1, y1, z1) := q
  let (x2, y2, z2) := r
  if z1 = 0 then r
  else if z2 = 0 then q
  else
    let z1z1 := fmul z1 z1
    let z2z2 := fmul z2 z2
    let u1 := fmul x1 z2z2
    let u2 := fmul x2 z1z1
    let s1 := fmul y1 (fmul z2 z2z2)
    let s2 := fmul y2 (fmul z1 z1z1)
    let h := fsub u2 u1
    let d := fsub s2 s1
    if h = 0 then (if d = 0 then jdouble q else (1, 1, 0))
    else
      let hh := fmul h h
      let hhh := fmul h hh
      let v := fmul u1 hh
      let x3 := fsub (fsub (fmul d d) hhh) (2 * v)
      (x3, fsub (fmul d (fsub v x3)) (fmul s1 hhh), fmul h (fmul z1 z2))

/-- e times a point, over `k` bits of e. -/
def jmul : Nat → Nat → JPoint → JPoint
  | 0, _, _ => (1, 1, 0)
  | k + 1, e, q =>
      let r := jmul k (e / 2) (jdouble q)
      if e % 2 = 1 then jadd r q else r

/-- ECDSA verification (R107): `hash` is the SHA-384 value, (x, y) the signer's key. -/
def ecdsaVerify (x y r s hash : Nat) : Bool :=
  if x < p384 && y < p384 && fmul y y == fsub (fmul x (fmul x x) + b384) (3 * x) &&
      0 < r && r < n384 && 0 < s && s < n384 then
    let w := powMod n384 384 s (n384 - 2)
    let q := jadd (jmul 384 (hash * w % n384) (gx384, gy384, 1)) (jmul 384 (r * w % n384) (x, y, 1))
    let (qx, _, qz) := q
    if qz = 0 then false
    else
      let zi := powMod p384 384 qz (p384 - 2)
      fmul qx (fmul zi zi) % n384 == r
  else false

end Sys2Proof.Machine
end

