-- ==== Sys2Proof/Machine/Setting.lean ====
section
/-! DEFINITION. The Setting image (R101 to R110, R119 to R122): its layout, and the loader's checks
in the order of R114. Nothing here changes the block. -/

namespace Sys2Proof.Machine

/-- Why a load or patch fails: CAUSE and CODE of R122, and what SET_ERR records. -/
structure LoadFail where
  cause : Nat
  code : Status
  sect : Nat := 0xFFFF
  bead : Nat := 0xFF
  offset : Nat := 0
  deriving DecidableEq, Repr

/-- R122: the CODE of a CAUSE whose code is fixed. -/
def causeCode (cause : Nat) : Status :=
  if cause = 0x04 then Status.version
  else if cause ∈ [0x05, 0x06, 0x0A, 0x10, 0x11, 0x12, 0x14, 0x16] then Status.mismatch
  else if cause = 0x15 then Status.aborted
  else Status.format

/-- A failure at an image offset. -/
def failAt (cause sect offset : Nat) : LoadFail :=
  { cause := cause, code := causeCode cause, sect := sect, offset := offset }

/-- A check. -/
def require (ok : Bool) (f : LoadFail) : Except LoadFail Unit := if ok then .ok () else .error f

/-- An image read that meets an error response fails with cause MEMORY (R122); CODE is the lowest status of the whole
read (R525). -/
def readOk (m : MemView) (base off len sect : Nat) : Except LoadFail Unit :=
  match m.firstBad (base + off) len with
  | some a => .error { cause := 0x0E, code := m.status Status.format (base + off) len, sect := sect, offset := a - base }
  | none => .ok ()

/-- The fields of an image header that later checks use (R102). -/
structure ImgHeader where
  sections : Nat
  keySlot : Nat
  debug : Bool
  deriving DecidableEq, Repr

/-- A section table entry (R103). -/
structure TabEntry where
  type : Nat
  scope : Nat
  version : Nat
  offset : Nat
  length : Nat
  reserved : Nat
  digest : BitVec 256
  deriving DecidableEq, Repr

/-- A 256-bit value at a multiple of 8. -/
def MemView256 (m : MemView) (a : Nat) : BitVec 256 :=
  BitVec.ofNat 256 ((m.word a).toNat + (m.word (a + 8)).toNat * 2 ^ 64
    + (m.word (a + 16)).toNat * 2 ^ 128 + (m.word (a + 24)).toNat * 2 ^ 192)

/-- A 384-bit value at a multiple of 8. -/
def MemView384 (m : MemView) (a : Nat) : Nat :=
  (MemView256 m a).toNat + ((m.word (a + 32)).toNat + (m.word (a + 40)).toNat * 2 ^ 64) * 2 ^ 256

/-- Entry `i` of the section table. -/
def tabEntry (m : MemView) (base i : Nat) : TabEntry :=
  let a := base + 0x40 + 48 * i
  let w := (m.word a).toNat
  let v := (m.word (a + 8)).toNat
  { type := bits w 7 0, scope := bits w 15 8, version := bits w 31 16, offset := bits w 63 32
    length := bits v 31 0, reserved := bits v 63 32, digest := MemView256 m (a + 16) }

/-- R102, R114, R122: the header checks, in order. `kind` is 0 for a load and 1 for a patch, whose
BASE_DIGEST must equal the Setting digest (R130). -/
def checkHeader (m : MemView) (base len kind : Nat) (digest : BitVec 256) :
    Except LoadFail ImgHeader := do
  let w0 := (m.word base).toNat
  let w1 := (m.word (base + 8)).toNat
  let n := bits w1 31 16
  let imgLen := bits w1 63 32
  require (bits w0 31 0 == 0x54535844) (failAt 0x01 0xFFFF 0)
  require (bits w1 7 0 == kind) (failAt 0x03 0xFFFF 8)
  require (len ≤ 2 ^ 26 && imgLen ≤ 2 ^ 26 && imgLen == len && imgLen % 64 == 0
    && 0x40 + 48 * n + 256 ≤ imgLen) (failAt 0x02 0xFFFF 0xC)
  require (bits w0 39 32 ≤ 1) (failAt 0x04 0xFFFF 4)
  require (bits w0 47 40 == 1) (failAt 0x04 0xFFFF 5)
  require (bits w0 55 48 == 1) (failAt 0x04 0xFFFF 6)
  require (bits w0 63 56 ≤ 2) (failAt 0x04 0xFFFF 7)
  require (bits w1 15 10 == 0) (failAt 0x03 0xFFFF 9)
  require (1 ≤ n && n ≤ 1024) (failAt 0x03 0xFFFF 0xA)
  require ((m.word (base + 0x18)).toNat == 0) (failAt 0x03 0xFFFF 0x18)
  let bd := MemView256 m (base + 0x20)
  if kind = 0 then require (bd == 0) (failAt 0x03 0xFFFF 0x20)
  else require (bd == digest) (failAt 0x11 0xFFFF 0x20)
  return { sections := n, keySlot := bits w1 8 8, debug := bits w1 9 9 == 1 }

/-- The signed bytes: header and section table (R107). -/
def signedBytes (m : MemView) (base n : Nat) : List Byte := m.bytes base (0x40 + 48 * n)

/-- R108, R121: key slot, key hash, debug permission, signature. The reserved bytes 0xC0 to 0xFF of the signature block
are ignored (DESIGN CHOICE, log 162), and OFFSET is that of the key slot's byte, the key or r (DESIGN CHOICE, log 163). -/
def checkKey (k : Keys) (m : MemView) (base len : Nat) (h : ImgHeader) : Except LoadFail Unit := do
  let sig := base + len - 256
  let cfg := k.cfg.toNat
  require (bits cfg h.keySlot h.keySlot == 1) (failAt 0x05 0xFFFF 9)
  let hash := digestValue (sha3 (m.bytes sig 96))
  let want := (List.range 4).foldl
    (fun v i => v + (tget 0 k.hash (4 * h.keySlot + i)).toNat * 2 ^ (64 * i)) 0
  require (hash.toNat == want) (failAt 0x05 0xFFFF (len - 256))
  require (!h.debug || bits cfg (2 + h.keySlot) (2 + h.keySlot) == 1) (failAt 0x16 0xFFFF 9)
  require (ecdsaVerify (MemView384 m sig) (MemView384 m (sig + 0x30)) (MemView384 m (sig + 0x60))
    (MemView384 m (sig + 0x90)) (sha384 (signedBytes m base h.sections)))
    (failAt 0x06 0xFFFF (len - 256 + 0x60))

/-- R103, R104: the SCOPE that a type admits. -/
def scopeOk (type scope : Nat) : Bool :=
  if type = 3 then true else if type = 4 || type = 5 then scope < 16 else scope == 0

/-- R101, R103, R104: the table checks over the entries that are left; `lim` is the least offset of
the next section, `prev` the previous (TYPE, SCOPE). -/
def checkTable (len : Nat) : Nat → Nat → Option (Nat × Nat) → List TabEntry → Except LoadFail Unit
  | _, _, _, [] => .ok ()
  | i, lim, prev, e :: es => do
      let f := failAt 0x07 i (0x40 + 48 * i)
      require (1 ≤ e.type && e.type ≤ 10 && scopeOk e.type e.scope && e.version != 0
        && e.reserved == 0) f
      require (match prev with
        | some (t, s) => t < e.type || (t == e.type && s < e.scope)
        | none => true) f
      require (e.offset % 64 == 0 && lim ≤ e.offset && e.length ≤ 2 ^ 24
        && e.offset + e.length + 256 ≤ len) f
      checkTable len (i + 1) (max (e.offset + e.length) (e.offset + 1)) (some (e.type, e.scope)) es

/-! ## Section contents (R105, R106, R69)

Each section is checked in the order of R114: its layout, the content rules of R106, its parameters under R69.
Where R106 and R69 are both broken, the content rule therefore decides (DEDUCED, log 127). -/

/-- The failure of a section's content: CAUSE and the offset in the section. -/
abbrev SectFail := Nat × Nat

/-- A content check. -/
def need (ok : Bool) (cause off : Nat) : Except SectFail Unit := if ok then .ok () else .error (cause, off)

/-- Checks entries one after the other. -/
def eachEntry (n : Nat) (f : Nat → Except SectFail Unit) : Except SectFail Unit :=
  (List.range n).foldl (fun r i => match r with | .ok _ => f i | e => e) (.ok ())

/-- The Beads that a mask names are active (R106). -/
def maskActive (beads : List BeadsEntry) (mask : Nat) : Bool :=
  (List.range 48).all fun b => bits mask b b == 0 ||
    (match beads[b]? with | some e => e.active | none => false)

/-- A BEADS entry. -/
def beadsEntry (w : Nat) : BeadsEntry :=
  { beatPs := bits w 63 48, die := bits w 31 24, lane := bits w 23 16, active := bits w 0 0 == 1 }

/-- BEADS. -/
def checkBeads (p : Params) (w : Nat → Nat) (len : Nat) : Except SectFail (List BeadsEntry) := do
  need (len == 8 * p.nBeads) 9 0
  let es := (List.range p.nBeads).map fun i => beadsEntry (w i)
  eachEntry p.nBeads fun i =>
    let v := w i
    let e := beadsEntry v
    need (bits v 47 32 == 0 && bits v 7 1 == 0 && bits v 15 8 == i && 250 ≤ e.beatPs && e.die < 24
      && (es.take i).all fun x => x.lane != e.lane || x.beatPs == e.beatPs) 9 (8 * i)
  eachEntry p.nBeads fun i =>
    let e := beadsEntry (w i)
    need ((es.take i).all fun x => (x.lane == e.lane) == (x.die == e.die)) 9 (8 * i)
  eachEntry p.nBeads fun i => need ((beadsEntry (w i)).lane == p.laneOf i) 0x0A (8 * i)
  return es

/-- AFFINITY. -/
def checkAffinity (beads : List BeadsEntry) (w : Nat → Nat) (len : Nat) :
    Except SectFail (List (BitVec 48)) := do
  need (len % 8 == 0 && 8 ≤ len && len ≤ 8 * 4096) 9 0
  eachEntry (len / 8) fun i => need (bits (w i) 63 48 == 0) 9 (8 * i)
  eachEntry (len / 8) fun i => need (maskActive beads (bits (w i) 47 0)) 9 (8 * i)
  return (List.range (len / 8)).map fun i => BitVec.ofNat 48 (w i)

/-- A 4-byte entry. -/
def half (w : Nat → Nat) (i : Nat) : Nat := if i % 2 = 0 then bits (w (i / 2)) 31 0 else bits (w (i / 2)) 63 32

/-- A SLOTMAP entry. -/
def slotEntry (v : Nat) : SlotEntry :=
  { expressRes := bits v 11 11 == 1, part := bits v 7 4, enabled := bits v 3 3 == 1, cls := bits v 2 0 }

/-- The entries of a SLOTMAP section. -/
def slotmapOf (w : Nat → Nat) (n : Nat) : List SlotEntry := (List.range n).map fun i => slotEntry (half w i)

/-- SLOTMAP of a Bead. A SCOPE beyond synthesis has no slots to lay out, and names no active Bead. -/
def checkSlotmap (p : Params) (beads : List BeadsEntry) (scope : Nat) (w : Nat → Nat) (len : Nat) :
    Except SectFail (List SlotEntry) := do
  let n := (p.bead scope).slots
  need (p.nBeads ≤ scope || len == 4 * n) 9 0
  eachEntry (if p.nBeads ≤ scope then 0 else n) fun i =>
    let v := half w i
    let e := slotEntry v
    need (bits v 31 12 == 0 && bits v 10 8 == 0 && (!e.enabled || e.cls < 5)) 9 (4 * i)
  need (match beads[scope]? with | some e => e.active | none => false) 9 0
  return slotmapOf w n

/-- PARTITION. -/
def checkPartition (beads : List BeadsEntry) (w : Nat → Nat) (len : Nat) : Except SectFail PartEntry := do
  need (len == 16) 9 0
  let a := w 0
  let e : PartEntry :=
    { enabled := bits a 63 63 == 1, express := bits a 62 62 == 1
      beadMask := BitVec.ofNat 48 a, quantumUs := bits (w 1) 31 0 }
  need (bits a 61 48 == 0) 9 0
  need (bits (w 1) 63 32 == 0 && (e.express || e.quantumUs != 0)) 9 8
  need (maskActive beads e.beadMask.toNat) 9 0
  return e

/-- A REGULATOR entry. -/
def regOf (w : Nat → Nat) (i : Nat) : RegEntry :=
  { counter := bits (w (2 * i)) 4 0, rate := bits (w (2 * i)) 63 32, burst := bits (w (2 * i + 1)) 31 0 }

/-- The entries of a REGULATOR section. -/
def regsOf (w : Nat → Nat) (len : Nat) : List RegEntry := (List.range (len / 16)).map (regOf w)

/-- REGULATOR. -/
def checkRegulator (p : Params) (w : Nat → Nat) (len : Nat) : Except SectFail (List RegEntry) := do
  need (len % 16 == 0 && 16 ≤ len && len ≤ 320) 9 0
  eachEntry (len / 16) fun i =>
    let e := regOf w i
    need (bits (w (2 * i)) 31 5 == 0 && bits (w (2 * i + 1)) 63 32 == 0 && e.counter < 20
      && e.rate != 0 && e.burst != 0) 9 (16 * i)
  eachEntry (len / 16) fun i => need ((regOf w i).counter < 4 + p.links) 0x0A (16 * i)
  return regsOf w len

/-- A CHANNELS endpoint. -/
def endpoint (v : Nat) : Endpoint :=
  { ep := bits v 63 48, rank := bits v 47 32, bead := bits v 31 24, slot := bits v 23 16 }

/-- R106: an endpoint that may receive: the Bead itself, or a CC slot, which must be enabled (DESIGN CHOICE, log 161). -/
def receives (s : Setting) (e : Endpoint) : Bool :=
  e.slot == 255 ||
    (match (tget [] s.slotmap e.bead)[e.slot]? with | some x => x.enabled && x.cls == 4 | none => false)

/-- R106: after a patch's SLOTMAP of Bead `scope`, as before it, every slot of the Bead that a route of the Setting
in force names as its DST_EP is a CC slot. A full image has no CHANNELS section in force at its SLOTMAP sections. -/
def checkDstSlots (s : Setting) (scope n : Nat) : Except SectFail Unit :=
  match s.chan with
  | none => .ok ()
  | some c =>
      let named (i : Nat) : Bool := c.routes.any fun r =>
        c.eps.any fun d => d.ep == r.dstEp && d.bead == scope && d.slot == i && !receives s d
      eachEntry n fun i => need (!named i) 9 (4 * i)

/-- R384: the transmit port of each route: the count of earlier routes from the same Bead. -/
def numberPorts : List Route → List Route → List Route
  | _, [] => []
  | done, r :: rs =>
      let r' := { r with port := (done.filter fun x => x.srcBead == r.srcBead).length }
      r' :: numberPorts (done ++ [r']) rs

/-- What a CHANNELS section says. -/
def channelsOf (w : Nat → Nat) : Channels :=
  let nr := bits (w 0) 47 32
  let ne := bits (w 0) 31 16
  let eps := (List.range ne).map fun i => endpoint (w (1 + i))
  let beadOf (k : Nat) : Nat := match eps.find? fun e => e.ep == k with | some e => e.bead | none => 0
  let route (i : Nat) : Route :=
    let v := w (1 + ne + i)
    { srcEp := bits v 63 48, dstEp := bits v 47 32, queue := bits v 31 24, thresh := bits v 17 12
      srcBead := beadOf (bits v 63 48), dstBead := beadOf (bits v 47 32) }
  { noRank := bits (w 0) 0 0 == 1, eps := eps, routes := numberPorts [] ((List.range nr).map route) }

/-- CHANNELS (R69, R105, R106, R119 to R121, R384). NO_RANK is met with the header, before the entries; ROUTE and then
RANK route by route, after the content rules and before the parameters (DESIGN CHOICE, log 127). -/
def checkChannels (p : Params) (s : Setting) (debug : Bool) (w : Nat → Nat) (len : Nat) :
    Except SectFail Channels := do
  let nr := bits (w 0) 47 32
  let ne := bits (w 0) 31 16
  let noRank := bits (w 0) 0 0 == 1
  need (8 ≤ len && len == 8 + 8 * (ne + nr) && bits (w 0) 63 48 == 0 && bits (w 0) 15 1 == 0) 9 0
  need (!noRank || debug) 0x16 0
  let eps := (List.range ne).map fun i => endpoint (w (1 + i))
  let find (k : Nat) : Option Endpoint := eps.find? fun e => e.ep == k
  let c := channelsOf w
  let route (i : Nat) : Nat := w (1 + ne + i)
  let off (i : Nat) : Nat := 8 + 8 * (ne + i)
  eachEntry ne fun i =>
    need (bits (w (1 + i)) 15 0 == 0 && (eps.take i).all (fun x => x.ep != (endpoint (w (1 + i))).ep)) 9 (8 + 8 * i)
  eachEntry nr fun i => need (bits (route i) 23 18 == 0 && bits (route i) 11 0 == 0) 9 (off i)
  eachEntry ne fun i =>
    need (match s.beads[(endpoint (w (1 + i))).bead]? with | some b => b.active | none => false) 9 (8 + 8 * i)
  eachEntry nr fun i =>
    match find (bits (route i) 47 32) with
    | some d => need (receives s d && bits (route i) 31 24 < (p.bead d.bead).chnQueues) 9 (off i)
    | none => .ok ()
  eachEntry nr fun i => do
    match c.routes[i]?, find (bits (route i) 63 48), find (bits (route i) 47 32) with
    | some r, some a, some d =>
        need (r.srcEp != r.dstEp
          && (c.routes.take i).all (fun x => !(x.dstBead == r.dstBead && x.queue == r.queue))) 0x0C (off i)
        need (noRank || a.rank < d.rank) 0x0B (off i)
    | _, _, _ => need false 0x0C (off i)
  eachEntry ne fun i =>
    let e := endpoint (w (1 + i))
    need (e.slot == 255 || e.slot < (p.bead e.bead).slots) 0x0A (8 + 8 * i)
  eachEntry nr fun i =>
    match c.routes[i]?, find (bits (route i) 63 48) with
    | some r, some a => need (r.port < (p.bead a.bead).chnQueues) 0x0A (off i)
    | _, _ => .ok ()
  return c

/-- An event source number of the external range that is not synthesised (R438). -/
def beyondExternal (p : Params) (s : Nat) : Bool := 1792 ≤ s && s < 2048 - p.extEvents

/-- EVENTS. What refers to a target or an external source beyond synthesis breaks R69: a TARGET, the entry of a
target, or an external source that an entry gives a priority. A priority of source 64 + n or 128 + 4b of a lane or Bead
that is not synthesised refers to none of them (DEDUCED, log 128). -/
def checkEvents (p : Params) (w : Nat → Nat) (len : Nat) : Except SectFail EventsSec := do
  need (len == 9728) 9 0
  eachEntry 2048 fun i => need (bits (half w i) 31 21 == 0 && bits (half w i) 7 5 == 0) 9 (4 * i)
  let tgt (i : Nat) : Nat := w (1088 + 2 * i)
  let tga (i : Nat) : Nat := w (1089 + 2 * i)
  eachEntry 64 fun i =>
    need (bits (tgt i) 31 13 == 0 && bits (tgt i) 7 1 == 0 && bits (tga i) 63 56 == 0) 9 (8704 + 16 * i)
  eachEntry 2048 fun i =>
    need (bits (half w i) 4 0 == 0 || bits (half w i) 13 8 < p.evTargets) 9 (4 * i)
  eachEntry 2048 fun i =>
    need (bits (half w i) 13 8 < p.evTargets && (bits (half w i) 4 0 == 0 || !beyondExternal p i)) 0x0A (4 * i)
  eachEntry 64 fun i =>
    need (i < p.evTargets || (tgt i == 0 && tga i == 0)) 0x0A (8704 + 16 * i)
  return {
    srcs := (List.range 2048).map fun i =>
      { group := bits (half w i) 20 14, target := bits (half w i) 13 8, prio := bits (half w i) 4 0 }
    groups := (List.range 128).map fun i => half w (2048 + i)
    tgts := (List.range 64).map fun i =>
      { thresh := bits (tgt i) 12 8, msg := bits (tgt i) 0 0 == 1
        data := BitVec.ofNat 32 (bits (tgt i) 63 32), addr := bits (tga i) 55 2 * 4 } }

/-- TRACE. -/
def checkTrace (w : Nat → Nat) (len : Nat) : Except SectFail TraceSec := do
  need (len == 32) 9 0
  need (bits (w 0) 63 56 == 0 && w 0 % 64 == 0) 9 0
  need (bits (w 1) 31 0 % 64 == 0) 9 8
  need (bits (w 1) 39 32 ≤ 100 && bits (w 1) 63 40 == 0) 9 12
  need (w 3 == 0) 9 24
  return { addr := bits (w 0) 55 0, len := bits (w 1) 31 0, postShare := bits (w 1) 39 32
           mask := BitVec.ofNat 64 (w 2) }

/-- DETERMINISM. -/
def checkDet (w : Nat → Nat) (len : Nat) : Except SectFail (Bool × Bool) := do
  need (len == 8) 9 0
  need (bits (w 0) 63 2 == 0) 9 0
  return (bits (w 0) 0 0 == 1, bits (w 0) 1 1 == 1)

/-- EXPERTS. -/
def checkExperts (w : Nat → Nat) (len : Nat) : Except SectFail ExpertsSec := do
  need (len == 16) 9 0
  let e : ExpertsSec := { nexperts := bits (w 0) 31 0, replicaSlots := bits (w 0) 63 32, interval := bits (w 1) 31 0 }
  need (e.nexperts ≤ 4096) 9 0
  need ((e.replicaSlots == 0 || e.interval != 0) && bits (w 1) 63 32 == 0) 9 8
  return e

/-- A section's content, checked and taken into the Setting. `w i` is word `i` of the section. -/
def takeSection (p : Params) (debug : Bool) (s : Setting) (e : TabEntry) (w : Nat → Nat) :
    Except SectFail Setting := do
  let s := { s with versions := tset 0 s.versions (256 * e.type + e.scope) e.version }
  match e.type with
  | 1 =>
      let es ← checkBeads p w e.length
      return { s with
        beads := es
        slotmap := s.slotmap.filter fun t => match es[t.1]? with | some x => x.active | none => false }
  | 2 => return { s with affinity := ← checkAffinity s.beads w e.length }
  | 3 =>
      let s := { s with slotmap := tset [] s.slotmap e.scope (← checkSlotmap p s.beads e.scope w e.length) }
      checkDstSlots s e.scope (p.bead e.scope).slots
      return s
  | 4 => return { s with parts := tset {} s.parts e.scope (← checkPartition s.beads w e.length) }
  | 5 => return { s with regs := tset [] s.regs e.scope (← checkRegulator p w e.length) }
  | 6 => return { s with chan := some (← checkChannels p s debug w e.length) }
  | 7 => return { s with events := some (← checkEvents p w e.length) }
  | 8 => return { s with trace := some (← checkTrace w e.length) }
  | 9 =>
      let d ← checkDet w e.length
      return { s with det := d.1, noDlb := d.2 }
  | _ => return { s with experts := some (← checkExperts w e.length) }

/-- What the loader knows once a check has ended it, or all have passed. -/
structure LoadCheck where
  fail : Option LoadFail
  position : Nat
  next : Setting
  /-- sections accepted, in table order, with their offsets -/
  accepted : List (SecRec × Nat)
  /-- the sections are read -/
  started : Bool := false
  digest : BitVec 256
  debug : Bool := false
  deriving DecidableEq, Repr

/-- R127: what the content of a patch's section must meet besides: a BEADS section clears ACTIVE of
failed Beads and changes nothing else. -/
def patchAllows (base : Setting) (failedBead : Nat → Bool) (next : Setting) (e : TabEntry) : Bool :=
  e.type ≠ 1 || (decide (next.beads.length = base.beads.length) && (List.range base.beads.length).all fun i =>
    match base.beads[i]?, next.beads[i]? with
    | some a, some b => a == b || (b == { a with active := false } && failedBead i)
    | _, _ => false)

/-- The active Beads of a Setting. -/
def Setting.activeBeads (s : Setting) : List Nat :=
  (List.range s.beads.length).filter fun b =>
    match s.beads[b]? with | some e => e.active | none => false

/-- R104: the Beads that a section goes to. CHANNELS goes whole to each Bead with an endpoint (log
11). (DESIGN CHOICE, log 11) (DEDUCED, log 78) -/
def sectionBeads (s : Setting) (r : SecRec) : List Nat :=
  if r.type = 3 then [r.scope]
  else if r.type = 5 then s.activeBeads.filter fun b => (tget {} s.parts r.scope).beadMask.getLsbD b
  else if r.type = 6 then
    s.activeBeads.filter fun b => match s.chan with | some c => c.eps.any (fun e => e.bead == b) | none => false
  else if r.type = 9 then s.activeBeads
  else []

/-- The section takes its place among those that Beads hold. -/
def takeRaw (l : List SecRec) (r : SecRec) : List SecRec :=
  l.filter (fun x => !(x.type == r.type && x.scope == r.scope)) ++ [r]

/-- A section's content, its own checks and those of R122 that follow: LANE, and a patch's. -/
def checkSection (p : Params) (m : MemView) (base : Nat) (patch : Option (Setting × (Nat → Bool)))
    (laneFailed : Nat → Bool) (debug : Bool) (i : Nat) (e : TabEntry) (s : Setting) :
    Except LoadFail (Setting × SecRec) := do
  readOk m base e.offset e.length i
  let bytes := m.bytes (base + e.offset) e.length
  require (digestValue (sha3 bytes) == e.digest) (failAt 0x08 i e.offset)
  match takeSection p debug s e (fun k => (m.word (base + e.offset + 8 * k)).toNat) with
  | .error (c, o) => .error (failAt c i (e.offset + o))
  | .ok s' =>
      let r : SecRec := { type := e.type, scope := e.scope, version := e.version, bytes := bytes }
      let s' := if e.type ∈ [3, 5, 6, 9] then { s' with raw := takeRaw s'.raw r } else s'
      match patch with
      | some (b, fb) =>
          require (patchAllows b fb s' e) (failAt 0x13 i e.offset)
      | none => .ok ()
      require (!(s'.activeBeads.any fun n => laneFailed (p.laneOf n))) (failAt 0x10 i e.offset)
      return (s', r)

/-- Reads and checks sections one after the other (R114). -/
def checkSections (p : Params) (m : MemView) (base : Nat) (patch : Option (Setting × (Nat → Bool)))
    (laneFailed : Nat → Bool) (debug : Bool) :
    Nat → List TabEntry → Setting → Nat → List (SecRec × Nat) → LoadCheck
  | _, [], s, pos, acc => { fail := none, position := pos, next := s, accepted := acc.reverse, started := true, digest := 0 }
  | i, e :: es, s, pos, acc =>
      match checkSection p m base patch laneFailed debug i e s with
      | .error f => { fail := some f, position := pos, next := s, accepted := acc.reverse, started := true, digest := 0 }
      | .ok t =>
          let pos' := match es with | n :: _ => n.offset | [] => e.offset + e.length
          checkSections p m base patch laneFailed debug (i + 1) es t.1 pos' ((t.2, e.offset) :: acc)

/-- R104: the required sections stand. -/
def requiredOk (s : Setting) : Bool :=
  tget 0 s.versions 0x100 != 0 && tget 0 s.versions 0x200 != 0 && !s.parts.isEmpty &&
    (List.range s.beads.length).all fun b =>
      match s.beads[b]? with
      | some e => !e.active || tget 0 s.versions (0x300 + b) != 0
      | none => true

/-- R106: the ownership rules for one slot: the first for an enabled one, the second for each. -/
def slotOwned (s : Setting) (bead : Nat) (e : SlotEntry) : Bool :=
  let pt := tget {} s.parts e.part
  (!e.enabled || (pt.enabled && pt.beadMask.getLsbD bead)) && (!e.expressRes || pt.express)

/-- R106: the first SLOTMAP entry that breaks an ownership rule, as Bead and slot. -/
def ownershipFault (s : Setting) : Option (Nat × Nat) :=
  s.slotmap.findSome? fun t =>
    (List.range t.2.length).findSome? fun i =>
      match t.2[i]? with
      | some e => if slotOwned s t.1 e then none else some (t.1, i)
      | none => none

/-- R106: two PARTITION sections share a Bead: the second of them. -/
def sharedBead (s : Setting) : Option Nat :=
  s.parts.findSome? fun t =>
    if s.parts.any (fun u => u.1 < t.1 && (u.2.beadMask &&& t.2.beadMask) != 0) then some t.1 else none

/-- Table index and offset of a section. -/
def sectionAt (es : List TabEntry) (type scope : Nat) : Nat × Nat :=
  match es.findIdx? (fun e => e.type == type && e.scope == scope) with
  | some i => (i, match es[i]? with | some e => e.offset | none => 0)
  | none => (0xFFFF, 0)

/-- R106: a PARTITION section in force names an inactive Bead. -/
def idlePart (s : Setting) : Option Nat :=
  (s.parts.find? fun t => !maskActive s.beads t.2.beadMask.toNat).map (·.1)

/-- R106, R114: the whole-image rules, and a patch's active-Bead rule over the PARTITION sections in
force. MISSING has OFFSET 0 (DESIGN CHOICE, log 163). -/
def checkWhole (es : List TabEntry) (s : Setting) : Except LoadFail Unit := do
  require (requiredOk s) (failAt 0x0D 0xFFFF 0)
  match idlePart s with
  | some q =>
      let (k, o) := if (sectionAt es 4 q).1 = 0xFFFF then sectionAt es 1 0 else sectionAt es 4 q
      require false (failAt 0x09 k o)
  | none => .ok ()
  match ownershipFault s with
  | some (b, i) =>
      let (k, o) := sectionAt es 3 b
      require false (failAt 0x17 k (if k = 0xFFFF then 0 else o + 4 * i))
  | none => .ok ()
  match sharedBead s with
  | some q =>
      let (k, o) := sectionAt es 4 q
      require false (failAt 0x17 k o)
  | none => .ok ()

/-- The memory reads that precede the header checks (R114): the header, the section table as far as
the captured length reaches, and the signature block. -/
def readFront (m : MemView) (base len : Nat) : Except LoadFail Unit := do
  readOk m base 0 64 0xFFFF
  let n := bits (m.word (base + 8)).toNat 31 16
  let n := if n ≤ 1024 && 0x40 + 48 * n ≤ len then n else 0
  readOk m base 0x40 (48 * n) 0xFFFF
  if 256 ≤ len then readOk m base (len - 256) 256 0xFFFF else .ok ()

/-- The entries of a section table. -/
def tableOf (m : MemView) (base n : Nat) : List TabEntry := (List.range n).map (tabEntry m base)

/-- R114: header, key, signature and table; the digest of the signed bytes comes with them. -/
def checkFront (k : Keys) (m : MemView) (base len kind : Nat) (digest : BitVec 256) :
    Except LoadFail (ImgHeader × List TabEntry × BitVec 256) := do
  readFront m base len
  let h ← checkHeader m base len kind digest
  checkKey k m base len h
  let es := tableOf m base h.sections
  checkTable len 0 (0x40 + 48 * h.sections) none es
  return (h, es, digestValue (sha3 (signedBytes m base h.sections)))

/-- R114: a full load's checks. -/
def checkLoad (p : Params) (k : Keys) (laneFailed : Nat → Bool) (m : MemView) (base len : Nat) : LoadCheck :=
  match checkFront k m base len 0 0 with
  | .error f => { fail := some f, position := 0, next := {}, accepted := [], digest := 0 }
  | .ok (h, es, d) =>
      let r := checkSections p m base none laneFailed h.debug 0 es { debug := h.debug } 0 []
      match r.fail with
      | some _ => { r with debug := h.debug }
      | none =>
          match checkWhole es r.next with
          | .error f => { r with fail := some f, debug := h.debug }
          | .ok _ => { r with position := len, digest := d, debug := h.debug }

/-- R110: the Setting digest after a patch. -/
def chainDigest (old table : BitVec 256) : BitVec 256 :=
  digestValue (sha3 (digestBytes old ++ digestBytes table))

/-- R127, R129: what a patch's section table must meet besides: the types that a patch may hold, and
rising versions. -/
def checkPatchTable (base : Setting) : Nat → List TabEntry → Except LoadFail Unit
  | _, [] => .ok ()
  | i, e :: es => do
      let active := match base.beads[e.scope]? with | some x => x.active | none => false
      require (e.type ∈ [1, 4, 5] || (e.type = 3 && active)) (failAt 0x13 i (0x40 + 48 * i))
      require (tget 0 base.versions (256 * e.type + e.scope) < e.version) (failAt 0x14 i (0x40 + 48 * i))
      checkPatchTable base (i + 1) es

/-- R128: the partitions that a patch touches. A slot that is not enabled has no owner (DESIGN CHOICE, log 129). -/
def touchedParts (p : Params) (base : Setting) (m : MemView) (addr : Nat) (es : List TabEntry) : List Nat :=
  let owners (l : List SlotEntry) : List Nat := (l.filter (·.enabled)).map (·.part)
  (es.flatMap fun e =>
    if e.type = 4 ∨ e.type = 5 then [e.scope]
    else if e.type = 3 then
      owners (tget [] base.slotmap e.scope) ++
        owners (slotmapOf (fun k => (m.word (addr + e.offset + 8 * k)).toNat) (p.bead e.scope).slots)
    else []).eraseDups

/-- R128, R130: a patch's checks. The Setting stays a debug Setting or none, whatever the patch's DEBUG says (DESIGN
CHOICE, log 130); with them the partitions that it holds from the quiescence test on. (DEDUCED, log 80) (DEDUCED, log 81) QUIESCE
has OFFSET 0 (DESIGN CHOICE, log 163). -/
def checkPatch (p : Params) (k : Keys) (base : Setting) (failedBead laneFailed quiet : Nat → Bool) (m : MemView)
    (addr len : Nat) (old : BitVec 256) : LoadCheck × List Nat :=
  let none' (f : LoadFail) : LoadCheck := { fail := some f, position := 0, next := base, accepted := [], digest := 0 }
  match checkFront k m addr len 1 old with
  | .error f => (none' f, [])
  | .ok (h, es, d) =>
      match checkPatchTable base 0 es with
      | .error f => (none' f, [])
      | .ok _ =>
          let touched := touchedParts p base m addr es
          if touched.any fun q => !quiet q then (none' (failAt 0x12 0xFFFF 0), touched)
          else
            let r := checkSections p m addr (some (base, failedBead)) laneFailed base.debug 0 es base 0 []
            match r.fail with
            | some _ => (r, touched)
            | none =>
                match checkWhole es r.next with
                | .error f => ({ r with fail := some f, debug := h.debug }, touched)
                | .ok _ => ({ r with position := len, digest := chainDigest old d }, touched)

/-- R118: PERCENT while a load or patch runs. (DEDUCED, log 82) -/
def loadPercent (position len : Nat) : Nat := if len = 0 then 0 else min 99 (100 * position / len)

/-! ## Sections on the lane -/

/-- The raw records of a section (R115): its section record, then its bytes. -/
def sectionWords (r : SecRec) : List Word :=
  packW [(r.type, 8, 56), (r.scope, 8, 48), (r.version, 16, 32), (r.bytes.length, 32, 0)] ::
    bytesWords (r.bytes.length + 1) r.bytes

/-- The pseudo-section START (R115). -/
def startRec : SecRec := { type := 0, scope := 0, version := 0, bytes := [] }
/-- The pseudo-section COMMIT (R115). -/
def commitRec : SecRec := { type := 0xFF, scope := 0, version := 0, bytes := [] }

/-- A section as SET messages to Bead `n` (R93). -/
def sectionMessages (p : Params) (n : Nat) (r : SecRec) : List Rec :=
  let ws := sectionWords r
  setMessages p n (ws.length + 1) ws

/-- Sends a section to a Bead as SET messages. -/
def Block.sendSection (p : Params) (b : Block) (n : Nat) (r : SecRec) : Block :=
  (sectionMessages p n r).foldl (fun b x => b.sendDown p n x) b

end Sys2Proof.Machine
end

