-- ==== Sys2Proof/Machine/Check.lean ====
section
/-! DEFINITION. The check pass (R164, R174 to R212, R245): descriptor, segment header, node records
and fence handles, in the order of R207. Nothing here changes the block. -/

namespace Sys2Proof.Machine

/-- Word `i` of a descriptor, as a number. -/
def descW (d : List Word) (i : Nat) : Nat := ((d[i]?).getD 0).toNat

/-- DONE_V (R174). -/
def descDoneV (d : List Word) : Bool := bits (descW d 0) 17 17 == 1
/-- AUDIT (R174). -/
def descAudit (d : List Word) : Bool := bits (descW d 0) 16 16 == 1
/-- SAVE_V (R174). -/
def descSaveV (d : List Word) : Bool := bits (descW d 0) 18 18 == 1
/-- DONE_FENCE (R174). -/
def descDoneFence (d : List Word) : Handle := BitVec.ofNat 32 (bits (descW d 0) 63 32)
/-- SEG_ADDR (R174). -/
def descSeg (d : List Word) : Nat := bits (descW d 1) 55 0
/-- LIVE_ADDR (R174). -/
def descLiveAddr (d : List Word) : Nat := bits (descW d 4) 55 0

/-- R208: the descriptor shows its bits 16 to 63 of word 0: a supported FMT_REV and KIND GRAPH. -/
def descShown (d : List Word) : Bool := bits (descW d 0) 15 8 ≤ 1 && bits (descW d 0) 7 0 == 1

/-- An address field: bits 63:56 zero (R8) and aligned. -/
def addrOk (w align : Nat) : Bool := bits w 63 56 == 0 && w % align == 0

/-- R174, R175: the reserved bits of a descriptor are zero. -/
def descReserved (d : List Word) : Bool :=
  bits (descW d 0) 31 19 == 0 && bits (descW d 3) 63 32 == 0 && descW d 6 == 0 && descW d 7 == 0
    && (descSaveV d || (descW d 4 == 0 && descW d 5 == 0))

/-- A segment header (R179). -/
structure SegHdr where
  nnodes : Nat
  nblk : Nat
  nparam : Nat
  key : Word
  deriving DecidableEq, Repr

/-- What a check is made for: the queue's KERNEL, CTX and PART. -/
structure CheckFor where
  kernel : Bool
  ctx : Nat
  part : Nat
  deriving DecidableEq, Repr

/-- The header at an address. -/
def readHdr (m : MemView) (seg : Nat) : SegHdr :=
  { nnodes := bits (m.word seg).toNat 63 32
    nblk := bits (m.word (seg + 8)).toNat 31 0
    nparam := bits (m.word (seg + 8)).toNat 63 32
    key := m.word (seg + 16) }

/-- R178: the segment's length. -/
def SegHdr.size (h : SegHdr) : Nat := 0x40 + 64 * (h.nnodes + h.nblk + h.nparam)

/-- R208: the header is valid. -/
def hdrValid (m : MemView) (seg : Nat) : Bool :=
  let w := (m.word seg).toNat
  let h := readHdr m seg
  m.status Status.format seg 64 == Status.ok && bits w 15 0 == 0x4753 && bits w 23 16 ≤ 1
    && 1 ≤ h.nnodes && h.nnodes ≤ 0xFFFFFFFE && seg + h.size ≤ 2 ^ 56

/-- R179: the reserved bits of a header, NNODES_HI among them (R212). -/
def hdrReserved (m : MemView) (seg : Nat) : Bool :=
  bits (m.word seg).toNat 31 24 == 0 &&
    [3, 4, 5, 6, 7].all fun i => (m.word (seg + 8 * i)).toNat == 0

/-- Address of node record `n`. -/
def recAddr (seg n : Nat) : Nat := seg + 0x40 + 64 * n

/-- Word `i` of a record, as a number. -/
def recW (m : MemView) (a i : Nat) : Nat := (m.word (a + 8 * i)).toNat

/-- KIND of a record (R183). -/
def recKind (m : MemView) (a : Nat) : Nat := bits (recW m a 0) 3 0
/-- TEMPLATE of a record. -/
def recTemplate (m : MemView) (a : Nat) : Bool := bits (recW m a 0) 10 10 == 1
/-- CLASS of a record. -/
def recClass (m : MemView) (a : Nat) : Nat := bits (recW m a 0) 50 48
/-- NSUCC of a record. -/
def recNsucc (m : MemView) (a : Nat) : Nat := bits (recW m a 1) 52 32
/-- TGT_V of a TASK or COLL record. -/
def recTgtV (m : MemView) (a : Nat) : Bool := bits (recW m a 3) 15 15 == 1
/-- BEAD of a targeted slot. -/
def recBead (m : MemView) (a : Nat) : Nat := bits (recW m a 3) 13 8
/-- SLOT of a targeted slot. -/
def recSlot (m : MemView) (a : Nat) : Nat := bits (recW m a 3) 5 0

/-- The SLOTMAP entry of a slot in the active Setting. -/
def Setting.slot (s : Setting) (bead slot : Nat) : SlotEntry :=
  ((tget [] s.slotmap bead)[slot]?).getD {}

/-- R183, R186: the common header of a record. -/
def headerOk (s : Setting) (h : SegHdr) (m : MemView) (a : Nat) : Bool :=
  let w0 := recW m a 0
  let w1 := recW m a 1
  let n := recNsucc m a
  bits w0 7 4 == 0 && bits w0 15 11 == 0 && bits w0 47 44 == 0 && bits w0 55 51 == 0
    && bits w0 63 62 == 0 && bits w1 63 53 == 0 && n ≤ 1048576
    && (n == 0 || bits w1 31 0 < h.nblk)
    && bits w0 43 32 < s.affinity.length
    && (!recTemplate m a || (recKind m a ∈ [0, 1, 6] && bits w0 31 16 == 0 && n == 0))

/-- R184: the values that a kind gives to CLASS, AFF and INDIRECT. -/
def kindFieldsOk (m : MemView) (a : Nat) : Bool :=
  let c := recClass m a
  let aff := bits (recW m a 0) 43 32
  let ind := bits (recW m a 0) 61 56
  match recKind m a with
  | 0 => c ≤ 4
  | 1 | 2 => c == 0 && ind == 0
  | 3 | 4 | 5 | 7 => c == 0 && aff == 0 && ind == 0
  | 6 => c == 3
  | _ => false

/-- Words `i` to 7 of a record are zero. -/
def restZero (m : MemView) (a i : Nat) : Bool := (List.range (8 - i)).all fun k => recW m a (i + k) == 0

/-- R190, R194: TASK and COLL. -/
def taskOk (p : Params) (s : Setting) (h : SegHdr) (q : CheckFor) (m : MemView) (a : Nat) : Bool :=
  let w2 := recW m a 2
  let w3 := recW m a 3
  let e := s.slot (recBead m a) (recSlot m a)
  (bits w2 26 0 == 0 || bits w2 31 27 < 20) && (bits w2 58 32 == 0 || bits w2 63 59 < 20)
    && bits w3 7 6 == 0 && bits w3 14 14 == 0 && bits w3 31 16 == 0 && bits w3 63 32 < h.nparam
    && restZero m a 4
    && (!recTgtV m a || (recBead m a < p.nBeads && recSlot m a < (p.bead (recBead m a)).slots
        && e.enabled && e.cls == recClass m a
        && (match s.beads[recBead m a]? with | some b => b.active | none => false)
        && (e.part == q.part || recClass m a == 4)))

/-- R195, R196 but for what the records that it names hold. -/
def expandOk (h : SegHdr) (m : MemView) (a n : Nat) : Bool :=
  let w4 := recW m a 4
  let w5 := recW m a 5
  addrOk (recW m a 2) 64 && addrOk (recW m a 3) 64 && bits w5 63 20 == 0 && bits w5 16 0 ≤ 65536
    && restZero m a 6 && bits w4 31 0 + bits w5 19 17 < h.nnodes
    && bits w4 63 32 < h.nnodes && bits w4 63 32 != n

/-- R200. -/
def privOk (m : MemView) (a : Nat) : Bool :=
  let w3 := recW m a 3
  let w4 := recW m a 4
  bits (recW m a 2) 63 8 == 0 &&
    match bits (recW m a 2) 7 0 with
    | 1 => addrOk w3 64 && bits w4 63 32 == 0 && restZero m a 5
    | 2 => bits w3 7 4 == 0 && bits w3 63 12 == 0 && 1 ≤ bits w3 11 8 && bits w3 11 8 ≤ 4
        && restZero m a 4
    | 3 => bits w3 11 10 == 0 && bits w3 63 17 == 0 && restZero m a 5
        && (if bits w3 16 16 == 1 then addrOk w4 64 else w4 == 0)
    | 4 => bits w3 63 40 == 0 && 0x10 ≤ bits w3 39 32 && bits w3 39 32 ≤ 0x7F && restZero m a 4
    | 5 => bits w3 63 8 == 0 && 1 ≤ bits w3 7 0 && bits w3 7 0 ≤ 4 && restZero m a 5
        && (bits w3 7 0 == 4 || w4 == 0)
    | _ => false

/-- R195 to R200: the kind-specific fields, but for what the records that they name hold. The alignment of ARRIVAL is
checked where ARRIVAL_V = 1, for only then is there an arrival word (DEDUCED, log 151). -/
def bodyOk (p : Params) (s : Setting) (h : SegHdr) (q : CheckFor) (m : MemView) (a n : Nat) : Bool :=
  let w2 := recW m a 2
  let w3 := recW m a 3
  match recKind m a with
  | 0 | 6 => taskOk p s h q m a
  | 1 => restZero m a 2
  | 2 => expandOk h m a n
  | 3 => bits w2 63 33 == 0 && restZero m a 4 && bits w3 63 56 == 0
      && (bits w2 32 32 == 0 || w3 % 8 == 0)
  | 4 => bits w2 55 52 == 0 && bits w2 63 58 == 0 && bits w3 63 48 == 0 && restZero m a 4
      && (bits w2 56 56 == 1 || w3 == 0)
  | 5 => addrOk w2 64 && 1 ≤ bits w3 31 0 && bits w3 31 0 ≤ 16384 && bits w3 63 32 < h.nnodes
      && restZero m a 4
  | _ => privOk m a

/-- The records that a record names and that its check reads ahead. -/
def namedRecs (m : MemView) (seg a : Nat) : List Nat :=
  match recKind m a with
  | 2 =>
      let t := bits (recW m a 4) 31 0
      ((List.range (bits (recW m a 5) 19 17 + 1)).map fun k => recAddr seg (t + k)) ++
        [recAddr seg (bits (recW m a 4) 63 32)]
  | 5 => [recAddr seg (bits (recW m a 3) 63 32)]
  | _ => []

/-- R196, R198: what the named records must hold. -/
def namedOk (m : MemView) (seg a : Nat) : Bool :=
  match recKind m a with
  | 2 =>
      let t := bits (recW m a 4) 31 0
      ((List.range (bits (recW m a 5) 19 17 + 1)).all fun k => recTemplate m (recAddr seg (t + k))) &&
        !recTemplate m (recAddr seg (bits (recW m a 4) 63 32))
  | 5 =>
      let t := recAddr seg (bits (recW m a 3) 63 32)
      recKind m t == 0 && recTemplate m t && recClass m t == 2
  | _ => true

/-- R199: the record needs a feature that is absent. -/
def needsAbsent (p : Params) (m : MemView) (a : Nat) : Bool :=
  match recKind m a with
  | 2 => !p.saffron
  | 5 => !p.seqTable
  | 4 => bits (recW m a 2) 56 56 == 1 && p.links == 0
  | _ => false

/-- R202: the record is privileged content. -/
def privileged (s : Setting) (q : CheckFor) (m : MemView) (a : Nat) : Bool :=
  match recKind m a with
  | 7 => true
  | 0 | 6 => recTgtV m a && recClass m a == 4 && (s.slot (recBead m a) (recSlot m a)).part != q.part
  | _ => false

/-- The local fence handle of a record, and whether it is used as a signal (R245). -/
def recHandle (m : MemView) (a : Nat) : Option (Handle × Bool) :=
  match recKind m a with
  | 3 => some (BitVec.ofNat 32 (bits (recW m a 2) 31 0), false)
  | 4 => if bits (recW m a 2) 56 56 == 1 then none else some (BitVec.ofNat 32 (bits (recW m a 2) 31 0), true)
  | 7 => if bits (recW m a 2) 7 0 == 4 then some (BitVec.ofNat 32 (bits (recW m a 3) 31 0), true) else none
  | _ => none

/-- R245: a handle passes for a queue. -/
def handlePasses (fences : Tab Fence) (q : CheckFor) (h : Handle) (signal : Bool) : Bool :=
  handleOk (tget {} fences (handleIndex h)) (handleGen h) signal q.kernel q.ctx

/-- R207: the check of node record `n`. The records that it names are read before any of them is checked, and the lowest
status of those reads counts (DESIGN CHOICE, log 152). -/
def checkRecord (p : Params) (b : Block) (q : CheckFor) (m : MemView) (seg : Nat) (h : SegHdr) (n : Nat) :
    Status :=
  let a := recAddr seg n
  let st := m.status Status.format a 64
  let ahead := lowestStatus ((namedRecs m seg a).map fun x => m.status Status.format x 64)
  if st ≠ Status.ok then st
  else if !(headerOk b.setting h m a && kindFieldsOk m a && bodyOk p b.setting h q m a n) then Status.format
  else if ahead ≠ Status.ok then ahead
  else if !namedOk m seg a then Status.format
  else if needsAbsent p m a then Status.version
  else if privileged b.setting q m a && !q.kernel then Status.privilege
  else match recHandle m a with
    | some (hd, sig) => if handlePasses b.fences.table q hd sig then Status.ok else Status.staleHandle
    | none => Status.ok

/-- The first failing record from `n` on. -/
def checkRecords (p : Params) (b : Block) (q : CheckFor) (m : MemView) (seg : Nat) (h : SegHdr) :
    Nat → Nat → Status
  | 0, _ => Status.ok
  | k + 1, n =>
      let st := checkRecord p b q m seg h n
      if st = Status.ok then checkRecords p b q m seg h k (n + 1) else st

/-- R207: the descriptor's own checks, before the header is read. -/
def checkDesc (b : Block) (q : CheckFor) (d : List Word) : Status :=
  if 1 < bits (descW d 0) 15 8 then Status.version
  else if bits (descW d 0) 7 0 ≠ 1 || !descReserved d then Status.format
  else if !addrOk (descW d 1) 64 || (descSaveV d && !addrOk (descW d 4) 64) then Status.format
  else if descDoneV d && !handlePasses b.fences.table q (descDoneFence d) true then Status.staleHandle
  else Status.ok

/-- R207: header and records. -/
def checkSegment (p : Params) (b : Block) (q : CheckFor) (m : MemView) (seg : Nat) : Status :=
  let w := (m.word seg).toNat
  let st := m.status Status.format seg 64
  let h := readHdr m seg
  if st ≠ Status.ok then st
  else if bits w 15 0 ≠ 0x4753 then Status.format
  else if 1 < bits w 23 16 then Status.version
  else if !hdrReserved m seg || h.nnodes == 0 || h.nnodes == 0xFFFFFFFF || 2 ^ 56 < seg + h.size then
    Status.format
  else checkRecords p b q m seg h h.nnodes 0

/-- R207: the whole pass over a descriptor whose own fetch gave `fetched`. -/
def checkPassStatus (p : Params) (b : Block) (q : CheckFor) (m : MemView) (fetched : Status) (d : List Word) :
    Status :=
  if fetched ≠ Status.ok then fetched
  else
    let st := checkDesc b q d
    if st ≠ Status.ok then st else checkSegment p b q m (descSeg d)

/-- The memory errors of the reads that a pass makes are recorded: the header once the descriptor has
passed, and the node table once the header is valid (R207, R208). -/
def Block.checkErrors (b : Block) (q : CheckFor) (m : MemView) (fetched : Status) (d : List Word) : Block :=
  if fetched ≠ Status.ok || checkDesc b q d ≠ Status.ok then b
  else
    let seg := descSeg d
    let b := b.viewErrors 63 0 m seg 64
    if hdrValid m seg then b.viewErrors 63 0 m (seg + 0x40) (64 * (readHdr m seg).nnodes) else b

/-- R208, R233: one SIGNAL record that never acts: a local fence is poisoned, a remote one is sent the
status. A record whose read met an error is not a SIGNAL record that the Clasp can find. -/
def Block.poisonSignal (b : Block) (kernel : Bool) (ctx : Nat) (m : MemView) (a : Nat) (st : Status) : Block :=
  if m.status Status.format a 64 ≠ Status.ok || recKind m a ≠ 4 then b
  else
    let w2 := recW m a 2
    let h : Handle := BitVec.ofNat 32 (bits w2 31 0)
    if bits w2 56 56 = 1 then b.remotePoison (bits w2 51 32) h st
    else (b.poisonHandle h st kernel ctx).2

/-- R208: the SIGNAL records of a segment whose pass has failed. (DEDUCED, log 63) -/
def Block.poisonSignals (b : Block) (kernel : Bool) (ctx : Nat) (m : MemView) (seg nnodes : Nat) (st : Status) :
    Block :=
  (List.range nnodes).foldl (fun b n => b.poisonSignal kernel ctx m (recAddr seg n) st) b

end Sys2Proof.Machine
end

