-- ==== Sys2Proof/Machine/Halt.lean ====
section
/-! DEFINITION. Who belongs to a partition, which contexts may act (R409, R421, R429), and the start of
a breakpoint stop (R489, R490). -/

namespace Sys2Proof.Machine

/-! ## Queue configuration (CLS_Q_CFG) -/

/-- KERNEL. -/
def Queue.kernel (q : Queue) : Bool := bit q.cfg 63
/-- PIN. -/
def Queue.pin (q : Queue) : Bool := bit q.cfg 62
/-- PRIO. -/
def Queue.prio (q : Queue) : Nat := fld q.cfg 61 60
/-- PART. -/
def Queue.part (q : Queue) : Nat := fld q.cfg 59 56
/-- HWS. -/
def Queue.hwsPin (q : Queue) : Nat := fld q.cfg 53 48
/-- DB_PAGE. -/
def Queue.dbPage (q : Queue) : Nat := fld q.cfg 47 40
/-- CQ. -/
def Queue.cq (q : Queue) : Nat := fld q.cfg 39 28
/-- CTX. -/
def Queue.ctx (q : Queue) : Nat := fld q.cfg 25 16
/-- QUOTA. -/
def Queue.quota (q : Queue) : Nat := fld q.cfg 15 0
/-- LOG2SZ of CLS_Q_RING. -/
def Queue.log2sz (q : Queue) : Nat := fld q.ring 4 0

/-- Partition `q` of the active Setting. -/
def Block.partSec (b : Block) (q : Nat) : PartEntry := tget {} b.setting.parts q

/-- The active Beads of a partition. -/
def Block.partBeads (b : Block) (q : Nat) : List Nat :=
  b.setting.activeBeads.filter fun n => (b.partSec q).beadMask.getLsbD n

/-- The partition that owns a Bead. -/
def Block.partOfBead (b : Block) (n : Nat) : Option Nat :=
  (b.setting.parts.find? fun t => t.2.beadMask.getLsbD n).map (·.1)

/-- The queues of a context. -/
def Block.ctxQueues (b : Block) (c : Nat) : List Nat :=
  (b.front.queues.filter fun t => t.2.state != .disabled && t.2.ctx == c).map (·.1)

/-- The placed submissions of a context that are not yet complete for delivery. -/
def Block.ctxSubs (b : Block) (c : Nat) : List Nat :=
  (b.graph.subs.filter fun t => t.2.live && !t.2.complete && t.2.ctx == c).map (·.1)

/-- A context has a submission in flight: fetched and not yet delivered. -/
def Block.ctxInFlight (b : Block) (c : Nat) : Bool :=
  b.front.queues.any fun t => t.2.inflight != 0 && t.2.ctx == c

/-- A started submission of a context is in flight. -/
def Block.ctxStarted (b : Block) (c : Nat) : Bool :=
  b.graph.subs.any fun t => t.2.live && t.2.started && t.2.ctx == c

/-- R421: an unstarted submission may start while a switch of its partition is pending. -/
def Block.mayStart (b : Block) (seg : Nat) : Bool :=
  let s := b.sub seg
  !b.ctxStarted s.ctx && !(b.ctx s.ctx).atSp &&
    (b.graph.subs.all fun t => !(t.2.live && !t.2.complete && t.2.ctx == s.ctx && t.2.order < s.order))

/-- R409: context `c` is the resident context of partition `q`: RESIDENT, or OUTGOING on its way to its
boundary. -/
def Block.isResident (b : Block) (q c : Nat) : Bool :=
  (b.part q).resident == some c && ((b.ctx c).state == .resident || (b.ctx c).state == .outgoing)

/-- R409, R421, R429, R490, R492: a node of submission `seg` may act, issue or start an expansion now.
`starts` says that its kind starts a submission. (DEDUCED, log 108) -/
def Block.mayAct (b : Block) (seg : Nat) (starts : Bool) : Bool :=
  let s := b.sub seg
  let express := (b.partSec s.part).express
  let out := (b.ctx s.ctx).state == .outgoing
  b.isResident s.part s.ctx
    && !(express && out)
    && !(!express && out && starts && !s.started && !b.mayStart seg)

/-- R529: the change that makes context `c` resident, where one was written for Bead `n`, has reached the Bead in order with
every other downstream record. -/
def Block.changeCame (p : Params) (b : Block) (n c : Nat) : Bool :=
  match (b.pbead n).change with
  | some (c', k) => c' != c || decide (k ≤ (b.lane (p.laneOf n)).consumed)
  | none => true

/-- R490, R492: the Clasp acts no Clasp-kind node of a stopped partition. -/
def Block.claspHeld (b : Block) (part : Nat) : Bool := b.lkt.state != .run && b.lkt.pmask.getLsbD part

/-- R490, R511: a CTL HALT to a Bead in RUN; one that a supply freeze has stopped is STOPPED at once. -/
def Block.haltBead (p : Params) (b : Block) (n : Nat) : Block :=
  if (b.pbead n).stop = 0 && (b.pbead n).state != .fenced then
    (b.sendDown p n (ctlRec p n 1 b.lkt.epoch)).modPbead n fun x =>
      { x with stop := if x.frozen && x.reported then 2 else 1 }
  else b

/-- R490: a breakpoint stop of partition `q`; `who` is the Bead, or 63 for the Clasp. -/
def Block.breakpointStop (p : Params) (b : Block) (q who : Nat) : Block :=
  let b := { b with lkt := { b.lkt with
    state := if b.lkt.state = StopState.run ∨ b.lkt.state = StopState.stopped then .stopping else b.lkt.state
    kind := if b.lkt.kind = 0 then 1 else b.lkt.kind
    breakV := true
    first := if b.lkt.breakV then b.lkt.first else who
    pmask := b.lkt.pmask ||| BitVec.ofNat 16 (2 ^ q) } }
  let b := b.modPart q fun x => { x with paused := some (x.paused.getD b.now) }
  let b := if who = 63 then b else b.modPbead who fun x => { x with stop := 2 }
  ((b.partBeads q).filter (· != who)).foldl (Block.haltBead p) b

end Sys2Proof.Machine
end

