-- ==== Sys2Proof/Machine/Graph.lean ====
section
/-! DEFINITION. The Clasp's side of the graph (R213 to R241, R259 to R264): node entries, placement,
successor lists, forwarding with adoptions, decrements, retirement, abandonment, and the expert load
contributions of R303. A node that becomes ready waits for the command that acts on it, so no operation
here runs on from one node to the next. -/

namespace Sys2Proof.Machine

/-! ## Nodes -/

/-- Bead kinds: TASK, NOP, EXPAND, COLL. -/
def beadKind (k : Nat) : Bool := k == 0 || k == 1 || k == 2 || k == 6

/-- Kinds that start a submission when they act or are selected: all but NOP, WAIT and SIGNAL. -/
def startsKind (k : Nat) : Bool := k == 0 || k == 2 || k == 5 || k == 6 || k == 7

/-- The address of node record `n` of a submission. -/
def Sub.record (s : Sub) (n : Nat) : Nat := recAddr (descSeg s.desc) n

/-- The address of successor block `k` of a submission. -/
def Sub.block (s : Sub) (k : Nat) : Nat := descSeg s.desc + 0x40 + 64 * (s.nnodes + k)

/-- The address of parameter block `k` of a submission. -/
def Sub.param (s : Sub) (k : Nat) : Nat := descSeg s.desc + 0x40 + 64 * (s.nnodes + s.nblk + k)

/-- A failure of a submission: the first one detected stands (R17, R524). -/
def Sub.noteFail (s : Sub) (st : Status) (index : Nat) : Sub :=
  if isFailure st && s.fail.isNone then { s with fail := some (st, index) } else s

/-- The node that a record describes, but for its placement. -/
def nodeOfRecord (s : Sub) (m : MemView) (a : Nat) : Node :=
  let w0 := recW m a 0
  let k := recKind m a
  let tc := k == 0 || k == 6
  { used := true
    kind := k
    tolerant := bits w0 9 9 == 1
    brk := bits w0 8 8 == 1
    tgtV := tc && recTgtV m a
    cls := recClass m a
    slot := if tc then recSlot m a else 0
    indirect := bits w0 61 56
    count := bits w0 31 16
    record := a
    handle := if k = 4 then BitVec.ofNat 32 (bits (recW m a 2) 31 0) else 0
    remote := if k = 4 && bits (recW m a 2) 56 56 == 1 then some (bits (recW m a 2) 51 32) else none
    param := if tc then s.param (bits (recW m a 3) 63 32) else 0 }

/-- The words of a form 0 entry (R213). -/
def nodeEntry (seg index sgen state next : Nat) (n : Node) : List Word :=
  [packW [(n.kind, 4, 58), (b2n n.tolerant, 1, 57), (b2n n.brk, 1, 56), (b2n n.tgtV, 1, 55),
     (n.cls, 3, 52), (n.slot, 6, 46), (n.indirect, 6, 40), (n.pstatus.toNat, 8, 32), (n.count, 16, 16),
     (seg, 16, 0)],
   packW [(index, 32, 32), (sgen, 16, 16), (state, 4, 12), (next, 9, 0)],
   packW [(n.record, 56, 0)], packW [(n.param, 56, 0)]]

/-- Word `w` (1 to 3) of a form 1 entry that carries the window indices `es`. -/
def form1Word (es : List Nat) (w : Nat) : Word :=
  packW ((List.range 4).map fun j => ((es[4 * (w - 1) + j]?).getD 0, 12, 16 * j))

/-- The words of a form 1 entry. -/
def form1Entry (es : List Nat) : List Word :=
  [packW [(1, 2, 62), (es.length, 4, 58)], form1Word es 1, form1Word es 2, form1Word es 3]

/-- A list of window indices cut into form 1 entries of 12 (R213). -/
def chunk12 : Nat → List Nat → List (List Nat)
  | 0, _ => []
  | _, [] => []
  | k + 1, es => es.take 12 :: chunk12 k (es.drop 12)

/-! ## Entries of the cache and the region (R235 to R237) -/

/-- The entries that a node takes: its own and those of its Clasp edges, 12 to an entry (DEDUCED, log 13). -/
def Node.entries (n : Node) : Nat := 1 + (n.edges.length + 11) / 12

/-- The entries in use. -/
def Block.pgEntries (b : Block) : Nat :=
  b.graph.subs.foldl (fun k t => t.2.nodes.foldl (fun k n => if n.2.used then k + n.2.entries else k) k) 0

/-- The entries that stand in the region. -/
def Block.pgSpilled (b : Block) : Nat :=
  b.graph.subs.foldl (fun k t => t.2.nodes.foldl (fun k n =>
    if n.2.used && n.2.spilled then k + n.2.entries else k) k) 0

/-- The entries that stand in the cache. -/
def Block.pgCached (b : Block) : Nat := b.pgEntries - b.pgSpilled

/-- The entries that cache and region hold together. -/
def Block.pgCapacity (p : Params) (b : Block) : Nat := p.nodeCache + b.graph.pgSize.toNat * 32768

/-- R237: no entry can be freed, in the cache or in the region. -/
def Block.pgFull (p : Params) (b : Block) : Bool := b.pgCapacity p ≤ b.pgEntries

/-- R237: FULL rises, with source 4, when work waits for an entry that cannot be freed; it falls when one frees. -/
def Block.pgCheck (p : Params) (b : Block) (waits : Bool) : Block :=
  if waits && b.pgFull p && !b.graph.full then Block.raise { b with graph := { b.graph with full := true } } 4
  else if b.graph.full && !b.pgFull p then { b with graph := { b.graph with full := false } }
  else b

/-- The units of 64 bytes in which the sweep passes over the region: two 32-byte entries to a unit. -/
def Block.pgUnits (b : Block) : Nat := b.graph.pgSize.toNat * 16384

/-- The entries that the region holds (R235). -/
def Block.pgSlots (b : Block) : Nat := b.graph.pgSize.toNat * 32768

/-- The address of entry `k` of the region. -/
def Block.slotAddr (b : Block) (k : Nat) : Nat := fld b.graph.pgBase 55 21 * 2097152 + 32 * k

/-- The entries of the region that spilled nodes take. -/
def Block.takenSlots (b : Block) : List Nat :=
  b.graph.subs.flatMap fun t => (t.2.nodes.filter fun n => n.2.used && n.2.spilled).flatMap fun n => n.2.slots

/-- The first `k` entries, from `c` on and cyclically among `total`, that are not taken. -/
def freeSlots (taken : List Nat) (total : Nat) : Nat → Nat → Nat → List Nat
  | 0, _, _ => []
  | f + 1, k, c =>
      let i := if c < total then c else 0
      if k = 0 then []
      else if taken.contains i then freeSlots taken total f k (i + 1)
      else i :: freeSlots taken total f (k - 1) (i + 1)

/-- Node `index` is touched. (DEDUCED, log 143) -/
def Block.seen (b : Block) (seg index : Nat) : Block :=
  let t := b.graph.clock + 1
  Block.modNode { b with graph := { b.graph with clock := t } } seg index fun n => if n.used then { n with seen := t } else n

/-- R236: of the entries in the cache with no access in progress, those touched least recently: submission, index and
node. -/
def Block.spillVictim (b : Block) : Option (Nat × Nat × Node) :=
  (b.graph.subs.flatMap fun t => (t.2.nodes.filter fun n => n.2.used && !n.2.spilled && n.2.state != .acting).map fun n =>
    (t.1, n.1, n.2)).foldl (fun w x => match w with
      | some y => if x.2.2.seen < y.2.2.seen then some x else w
      | none => some x) none

/-- R235, R236: node entries go to the region. Where they stand there, and the bytes that stand for them, are the
block's own: both are drawn (DESIGN CHOICE, log 17). -/
def Block.spill (b : Block) (seg index : Nat) (n : Node) : Block :=
  let d := b.draw
  let taken := b.takenSlots
  if b.pgSlots < taken.length + n.entries then b
  else
    let ks := freeSlots taken b.pgSlots (taken.length + n.entries) n.entries (d.1.toNat % max 1 b.pgSlots)
    let b := ks.foldl (fun b k =>
      let ws := b.drawWords 4
      ws.2.put 63 1 (b.slotAddr k) (wordsBytes ws.1) .spill) d.2
    let b := { b with graph := { b.graph with staleSlots := b.graph.staleSlots.filter fun k => !ks.contains k } }
    b.modNode seg index fun n => { n with spilled := true, slots := ks }

/-- R236: the cache holds no more entries than it has: the pager spills those touched least recently. -/
def Block.pgSpill (p : Params) : Nat → Block → Block
  | 0, b => b
  | k + 1, b =>
      if b.pgCached ≤ p.nodeCache then b
      else match b.spillVictim with
      | none => b
      | some (seg, index, n) => Block.pgSpill p k (b.spill seg index n)

/-- The pager makes room in the cache. -/
def Block.pgSettle (p : Params) (b : Block) : Block := Block.pgSpill p (b.pgCached - p.nodeCache) b

/-- R236: the pager refills a spilled entry; R48: once the writes that spilled it are acknowledged. -/
def Block.wantEntry (b : Block) (seg index : Nat) : Block :=
  let n := b.node seg index
  if !n.spilled || n.slots.any (fun k => b.mp.pendingWrite (b.slotAddr k) 32)
      || (b.mp.reads ++ b.mp.heldReads).any (·.purpose == .refill seg index)
  then b
  else n.slots.foldl (fun b k => b.ask 63 1 (b.slotAddr k) 32 (.refill seg index)) b

/-- The spilled entries among the nodes `is` of a submission. -/
def Block.spilledOf (b : Block) (seg : Nat) (is : List Nat) : List Nat := is.filter fun i => (b.node seg i).spilled

/-! ## Placement (R259 to R264) -/

/-- R259: the slots of a Bead that a TASK or COLL node may use. -/
def Block.usableSlots (b : Block) (bead cls part : Nat) (urgent : Bool) : List Nat :=
  let es := tget [] b.setting.slotmap bead
  (List.range es.length).filter fun i =>
    let e := (es[i]?).getD {}
    e.enabled && e.cls == cls && e.part == part && (!e.expressRes || urgent)

/-- A Bead that may receive nodes: active, and ENABLED (R260, R436). -/
def Block.beadOpen (b : Block) (n : Nat) : Bool := b.beadActive n && (b.pbead n).state == .enabled

/-- R260: the eligible Beads of a node, in ascending order. -/
def Block.eligibleBeads (p : Params) (b : Block) (part : Nat) (urgent : Bool) (kind cls aff : Nat) : List Nat :=
  (List.range p.nBeads).filter fun n =>
    ((b.setting.affinity[aff]?).getD 0).getLsbD n && (b.partSec part).beadMask.getLsbD n && b.beadOpen n
      && ((kind != 0 && kind != 6) || !(b.usableSlots n cls part urgent).isEmpty)

/-- R263: nodes count together by CLASS for TASK and COLL, and by KIND for NOP and EXPAND. -/
def loadGroup (kind cls : Nat) : Nat := if kind = 0 ∨ kind = 6 then cls else 8 + kind

/-- R263: L(b). -/
def Block.loadOn (b : Block) (bead group : Nat) : Nat :=
  b.graph.subs.foldl (fun k t => t.2.nodes.foldl (fun k n =>
    if n.2.bead = some bead && beadKind n.2.kind && loadGroup n.2.kind n.2.cls == group then k + 1 else k) k) 0

/-- R263: of the Beads, each with L and S, the one of lowest L ÷ S; the earlier wins a tie. -/
def leastLoaded : List (Nat × Nat × Nat) → Option (Nat × Nat × Nat)
  | [] => none
  | x :: xs =>
      match leastLoaded xs with
      | none => some x
      | some y => if y.2.1 * x.2.2 < x.2.1 * y.2.2 then some y else some x

/-- R261 to R264: the Bead of a Bead-kind node; none when R262 releases it. -/
def Block.chooseBead (p : Params) (b : Block) (part : Nat) (urgent : Bool) (kind cls aff index : Nat)
    (target : Option Nat) : Option Nat :=
  match target with
  | some t => if b.beadOpen t then some t else none
  | none =>
      let es := b.eligibleBeads p part urgent kind cls aff
      if b.setting.det || b.setting.noDlb then es[index % es.length]?
      else
        (leastLoaded (es.map fun n =>
          (n, b.loadOn n (loadGroup kind cls),
            if kind = 0 ∨ kind = 6 then (b.usableSlots n cls part urgent).length else 1))).map (·.1)

/-- Places a node whose AFF is `aff` and whose targeted Bead is `target`. -/
def Block.placed (p : Params) (b : Block) (s : Sub) (n : Node) (index aff : Nat) (target : Nat) : Node :=
  if beadKind n.kind then
    let c := b.chooseBead p s.part s.urgent n.kind n.cls aff index (if n.tgtV then some target else none)
    { n with bead := c, noPlace := c.isNone }
  else n

/-- R228: a node that has become READY joins those that became READY before it. -/
def Block.joinReady (b : Block) (seg index : Nat) : Block :=
  let b := b.modNode seg index fun n => { n with order := b.graph.readyNext }
  { b with graph := { b.graph with readyNext := b.graph.readyNext + 1 } }

/-- R217: the entry of an UNTOUCHED node: its record is read and its placement fixed. A node whose
NPRED is 0 gets no entry here: it is a root (R215). (DEDUCED, log 61) -/
def Block.touch (p : Params) (b : Block) (m : MemView) (seg index : Nat) : Block :=
  let s := b.sub seg
  if (b.node seg index).used || s.gone.contains index then b
  else
    let a := s.record index
    let n := nodeOfRecord s m a
    if n.count = 0 then b
    else b.modNode seg index fun x =>
      { b.placed p s n index (bits (recW m a 0) 43 32) (recBead m a) with
        outcome := x.outcome, quantity := x.quantity }

/-- R217, R237: the entry of a successor, when its predecessor's list is resolved. While no entry can be freed the
successor stays UNTOUCHED, and the decrement that needs its entry waits for it. -/
def Block.touchRoom (p : Params) (b : Block) (m : MemView) (seg index : Nat) : Block :=
  if b.pgFull p then b else b.touch p m seg index

/-! ## Leaving the graph -/

/-- The trace event of class NODE (R471). `bead` is 63 for the Clasp. -/
def Block.traceNode (b : Block) (seg index kind bead : Nat) (st : Status) : Block :=
  b.traceEvent 5 2 (pack [(seg, 16, 0), (st.toNat, 8, 16), (kind, 4, 24), (bead, 6, 32)])
    [BitVec.ofNat 64 index]

/-- R294: what the end of node `index` does to the contributions of its submission. -/
def Sub.contribute (s : Sub) (index kind : Nat) (parent : Option Nat) (st : Status) : Sub :=
  let merge (c : Contribution) : Status := if isFailure c.status then c.status else poisonOf st
  let s :=
    if kind = 2 then
      { s with contribs := tmod {} s.contribs index fun c =>
          { c with used := true, retired := true, status := merge c } }
    else s
  match parent with
  | some e =>
      { s with contribs := tmod {} s.contribs e fun c =>
          if c.used then { c with left := c.left - 1, status := merge c } else c }
  | none => s

/-- R227: every node has retired or been released, and every Bead's closing RET and the counter records
it announced have come. A node that a miscount runs again counts once (R234). (DEDUCED, log 65) -/
def Block.over (b : Block) (seg : Nat) : Bool :=
  let s := b.sub seg
  s.live && (s.abandoned.isSome || decide (s.known ≤ s.ended.length)) && !(s.nodes.any fun t => t.2.used)
    && s.beads.isEmpty && !(b.graph.ctrDue.any fun t => t.2.1 == seg)

/-- R227, of a submission that has not been handed over. -/
def Block.quiet (b : Block) (seg : Nat) : Bool := b.over seg && !(b.sub seg).complete

/-- A submission's place among those that meet R227 together: queue number, then ring index (R361). -/
def Block.metInsert (b : Block) (seg : Nat) : List Nat → List Nat
  | [] => [seg]
  | x :: xs =>
      let s := b.sub seg
      let y := b.sub x
      if s.queue < y.queue || (s.queue == y.queue && decide (s.ringIdx < y.ringIdx)) then seg :: x :: xs
      else x :: b.metInsert seg xs

/-- R361: the submissions that now meet R227 stand behind those that met it before. (DEDUCED, log 139) -/
def Block.noteMet (b : Block) : Block :=
  let new := (b.graph.subs.map (·.1)).filter fun seg => b.quiet seg && !b.graph.met.contains seg
  { b with graph := { b.graph with met := b.graph.met ++ new.foldl (fun l seg => b.metInsert seg l) [] } }

/-- A node has retired or been released, as the Clasp sees it: it is counted, its final status reaches
the submission, and its entry is freed. A STEP counts its own tasks that are still to retire (R352). -/
def Block.nodeDone (b : Block) (seg index : Nat) (st : Status) (released : Bool) : Block :=
  let n := b.node seg index
  let b := b.traceNode seg index n.kind (n.bead.getD 63) st
  let b := b.modSub seg fun s =>
    let s := Sub.contribute s index n.kind n.parent st
    let s := s.noteFail st index
    { s with
      done := s.done + 1
      ended := if s.ended.contains index then s.ended else index :: s.ended
      nreleased := if released then s.nreleased + 1 else s.nreleased
      tDone := b.now
      nodes := tset {} s.nodes index {} }
  let b := match n.parent with
    | some e =>
        if (b.node seg e).kind = 5 && (b.node seg e).used then
          b.modNode seg e fun x =>
            { x with left := x.left - 1, outcome := some (mergeStatus (x.outcome.getD 0) (poisonOf st)) }
        else b
    | none => b
  b.noteMet

/-- R234: a decrement is discarded: UNDERFLOW and source 5. -/
def Block.underflow (b : Block) : Block :=
  Block.raise { b with graph := { b.graph with underflow := satAdd 16 b.graph.underflow 1 } } 5

/-- R226: a record is discarded: STALE. -/
def Block.countStale (b : Block) : Block :=
  { b with graph := { b.graph with stale := satAdd 16 b.graph.stale 1 } }

/-- R224, R230: one Clasp edge of a node that ended with `st` reaches node `index`. (DEDUCED, log 62) -/
def Block.decrement (p : Params) (b : Block) (m : MemView) (seg index : Nat) (st : Status) : Block :=
  let s := b.sub seg
  if !s.live || s.abandoned.isSome || s.gone.contains index then b
  else if b.over seg then b.underflow
  else
    let b := (b.touch p m seg index).seen seg index
    let n := b.node seg index
    if !n.used then b.underflow
    else match n.state, n.bead with
    | .forwarded, some a =>
        let b := if isFailure st then b.sendDown p a (fenceRec p a n.win n.gen st) else b
        b.sendDown p a (decRec p a n.win n.gen 1)
    | _, _ =>
        if n.count = 0 then b.underflow
        else
          let b := b.modNode seg index fun x =>
            { x with
              pstatus := if x.pstatus = 0 then poisonOf st else x.pstatus
              count := x.count - 1
              state := if x.count = 1 then .ready else x.state }
          if n.count = 1 then b.joinReady seg index else b

/-- An edge whose decrement has no effect: its submission is abandoned or its number is another's. -/
def Block.edgeDead (b : Block) (e : Edge) : Bool :=
  let s := b.sub e.seg
  !s.live || tget 0 b.graph.sgen e.seg != e.sgen || s.abandoned.isSome || s.gone.contains e.index

/-- R237: the decrement needs a new entry. -/
def Block.edgeNew (b : Block) (e : Edge) : Bool := !(b.node e.seg e.index).used && !b.over e.seg

/-- R224, R236, R237: the edges of the router are applied in order. One whose entry is spilled waits for its refill,
and one that needs an entry while none can be freed waits for one; those behind it wait with it. -/
def Block.route (p : Params) (m : MemView) : Nat → Block → Block
  | 0, b => b
  | k + 1, b =>
      match b.graph.router with
      | [] => b
      | e :: es =>
          let next : Block := { b with graph := { b.graph with router := es } }
          if b.edgeDead e then Block.route p m k next
          else if (b.node e.seg e.index).spilled then b.wantEntry e.seg e.index
          else if b.edgeNew e && b.pgFull p then b.pgCheck p true
          else Block.route p m k (next.decrement p m e.seg e.index e.status)

/-- R48: once the write of a spilled entry is acknowledged, an edge that waits for the entry asks for it. -/
def Block.spillAcked (b : Block) : Block :=
  match b.graph.router with
  | e :: _ => if (b.node e.seg e.index).spilled then b.wantEntry e.seg e.index else b
  | [] => b

/-- R236, R237: what the pager does once entries have been freed, refilled or made: FULL falls, edges that waited are
applied, and the cache makes room. -/
def Block.pgStep (p : Params) (b : Block) (m : MemView) : Block :=
  ((b.pgCheck p false).route p m b.graph.router.length).pgSettle p

/-- R224: Clasp edges are applied in list order. -/
def Block.applyEdges (p : Params) (b : Block) (m : MemView) (seg : Nat) (es : List Nat) (st : Status) : Block :=
  let g := tget 0 b.graph.sgen seg
  Block.pgStep p { b with graph := { b.graph with
    router := b.graph.router ++ es.map fun i => { seg := seg, sgen := g, index := i, status := st } } } m

/-- Address of the table region of the planner (CLS_EXP_BASE). -/
def Experts.baseAddr (x : Experts) : Nat := fld x.base 55 21 * 2097152

/-- Address of accumulator `a`, expert `e` (R306). -/
def Experts.accAddr (x : Experts) (a e : Nat) : Nat := x.baseAddr + 0xC0000 + 0x4000 * a + 4 * e

/-- R303, R306: accumulator `a` takes `k` for expert `e`; sums saturate, and stand in the table region. -/
def Block.accumulate (a : Nat) (b : Block) (t : Nat × Nat) : Block :=
  let x := b.experts
  let v := satAdd 32 (tget 0 x.acc (4096 * a + t.1)) t.2
  let b := { b with experts := { x with acc := tset 0 x.acc (4096 * a + t.1) v } }
  b.put 63 2 (x.accAddr a t.1) (leBytes 4 v) .scrap

/-- R303: the accumulator of an interval takes a contribution, unless the plan of its interval is made. -/
def Block.addLoad (b : Block) (stepNum : Nat) (counts : List (Nat × Nat)) : Block :=
  let x := b.experts
  let i := match b.setting.experts with | some e => e.interval | none => 0
  if !x.enable || stepNum < x.start.toNat || i = 0 then b
  else
    let n := (stepNum - x.start.toNat) / i
    if n < x.version + b2n x.planning then { b with experts := { x with late := satAdd 16 x.late 1 } }
    else
      let b := counts.foldl (Block.accumulate (n % 3)) b
      { b with experts := { b.experts with got := tmod 0 b.experts.got (n % 3) (· + 1) } }

/-- STEP_NUM of a submission. -/
def Sub.stepNum (s : Sub) : Nat := bits (descW s.desc 3) 31 0

/-- R303: an EXPAND node that was released, or whose run made no contribution, contributes zero when
its argument block has TRACK = 1. `a` is its record. -/
def Block.zeroLoad (b : Block) (m : MemView) (seg index a : Nat) : Block :=
  let s := b.sub seg
  if s.tracked.contains index then b
  else
    let args := bits (recW m a 3) 55 0
    let b := b.modSub seg fun s => { s with tracked := s.tracked ++ [index] }
    if bits (m.word args).toNat 16 16 = 1 then b.addLoad s.stepNum [] else b

/-! ## Abandonment (R233) -/

/-- The nodes of a submission that stand in windows. -/
def Sub.windowNodes (s : Sub) : Tab Node := s.nodes.filter fun t => t.2.state == .forwarded
/-- The nodes of a submission homed in the Clasp. -/
def Sub.claspNodes (s : Sub) : Tab Node := s.nodes.filter fun t => t.2.used && t.2.state != .forwarded

/-- Stage 2: the FENCE records for one node in a window. -/
def Block.fenceNode (p : Params) (x : Status) (b : Block) (t : Nat × Node) : Block :=
  match t.2.bead with
  | none => b
  | some a =>
      let b := if x = Status.aborted then b else b.sendDown p a (fenceRec p a t.2.win t.2.gen x)
      b.sendDown p a (fenceRec p a t.2.win t.2.gen Status.aborted)

/-- R231, R244, R377: the fence generation of a SIGNAL node that is released without running is poisoned with
its status, or its peer is told. (DEDUCED, log 76) -/
def Block.signalPoison (s : Sub) (b : Block) (n : Node) (st : Status) : Block :=
  match n.remote with
  | some x => b.remotePoison x n.handle st
  | none => (b.poisonHandle n.handle st s.kernel s.ctx).2

/-- The status with which an abandonment with `x` releases a node (R233). -/
def Node.abandonedWith (n : Node) (x : Status) : Status := if isFailure n.pstatus then n.pstatus else x

/-- The SIGNAL nodes homed in the Clasp that have not acted, those that wait their turn among them (R247). -/
def Block.idleSignals (b : Block) (seg : Nat) : Tab Node :=
  let s := b.sub seg
  s.claspNodes.filter fun t => t.2.kind == 4 &&
    (!s.acted.contains t.1 || b.fences.turns.any fun u => u.by' == .node seg t.1)

/-- R353: the tasks that the builds in progress of a submission are still to create. -/
def Sub.tasksToCome (s : Sub) : Nat :=
  (s.claspNodes.map fun t => match t.2.built with | some (_, k) => k | none => 0).sum

/-- R233, stages 1 and 2. `who` is the node whose final status abandons the submission; for any other
abandonment the spec gives FAIL_INDEX no value, and it is drawn (DESIGN CHOICE, log 14). -/
def Block.abandon (p : Params) (b : Block) (seg : Nat) (x : Status) (who : Option Nat) : Block :=
  let s := b.sub seg
  if !s.live || b.over seg || s.abandoned.isSome then b
  else
    let drawn := b.draw
    let index := match who with | some i => i | none => fld drawn.1 31 0
    let b := if who.isSome then b else drawn.2
    let win := s.windowNodes
    let b := s.claspNodes.foldl (fun b t =>
      b.traceNode seg t.1 t.2.kind 63 (t.2.abandonedWith x)) b
    let stale := (s.claspNodes.filter fun t => t.2.spilled).flatMap fun t => t.2.slots
    let b := { b with graph := { b.graph with staleSlots := b.graph.staleSlots ++ stale } }
    let sigs := b.idleSignals seg
    let b := b.withdrawSub seg
    let b := b.modSub seg fun s =>
      let s := s.noteFail x index
      let s := { s with known := s.known + s.tasksToCome }
      { s with
        abandoned := some x
        nreleased := s.nreleased + (s.known - win.length - s.done)
        done := max s.done (s.known - win.length)
        tDone := b.now
        nodes := win
        acted := s.acted ++ sigs.map (·.1)
        contribs := [] }
    let b := sigs.foldl (fun b t => b.signalPoison s t.2 (t.2.abandonedWith x)) b
    (win.foldl (Block.fenceNode p x) b).noteMet

/-! ## Successor lists (R187, R209, R216) -/

/-- What the reading of a successor list gives: the failure found, the entries, and the addresses of
the blocks read. -/
structure SuccList where
  status : Status
  entries : List Nat
  blocks : List Nat
  deriving DecidableEq, Repr

/-- Entry `j` of a successor block. -/
def succWord (m : MemView) (a j : Nat) : Nat := m.u32 (a + 4 * j)

/-- Walks the blocks of a list: `left` entries are still to be read from block `k`. -/
def readBlocks (s : Sub) (m : MemView) : Nat → Nat → Nat → SuccList
  | 0, _, _ => { status := Status.ok, entries := [], blocks := [] }
  | f + 1, left, k =>
      if left = 0 then { status := Status.ok, entries := [], blocks := [] }
      else if s.nblk ≤ k then { status := Status.format, entries := [], blocks := [] }
      else
        let a := s.block k
        let st := m.status Status.format a 64
        let n := min left 15
        let es := (List.range n).map (succWord m a)
        if st ≠ Status.ok then { status := st, entries := [], blocks := [a] }
        else
          let r := readBlocks s m f (left - n) (succWord m a 15)
          { status := r.status, entries := es ++ r.entries, blocks := a :: r.blocks }

/-- R188: an entry names a node of the segment other than the node itself, and no template. -/
def succOk (s : Sub) (m : MemView) (own i : Nat) : Bool :=
  i < s.nnodes && i != own && !recTemplate m (s.record i)

/-- R209, R525: the list of node `index`, read and checked as one item. A created node has no list
(R288). -/
def readSuccs (b : Block) (m : MemView) (seg index : Nat) : SuccList :=
  let s := b.sub seg
  if s.nnodes ≤ index then { status := Status.ok, entries := [], blocks := [] }
  else
    let a := s.record index
    let n := recNsucc m a
    let r := readBlocks s m (n / 15 + 1) n (bits (recW m a 1) 31 0)
    let recs := (r.entries.filter fun i => i < s.nnodes && !(b.node seg i).used).map fun i =>
      m.status Status.format (s.record i) 64
    let bad := if r.entries.all (succOk s m index) then Status.ok else Status.format
    { r with status := lowestStatus (r.status :: bad :: recs) }

/-- The memory errors of reading a list are recorded. -/
def Block.listErrors (b : Block) (m : MemView) (seg : Nat) (r : SuccList) : Block :=
  let s := b.sub seg
  let b := r.blocks.foldl (fun b a => b.viewErrors 63 0 m a 64) b
  (r.entries.filter fun i => i < s.nnodes && !(b.node seg i).used).foldl
    (fun b i => b.viewErrors 63 0 m (s.record i) 64) b

/-- A Clasp-kind node, or one that is released in the Clasp, reads its list: every edge is a Clasp
edge, and its UNTOUCHED successors get entries (R216, R217), while one can be freed (R237). -/
def Block.claspList (p : Params) (b : Block) (m : MemView) (seg index : Nat) : Status × Block :=
  let n := b.node seg index
  if n.resolved then (Status.ok, b)
  else
    let r := readSuccs b m seg index
    let b := b.listErrors m seg r
    if r.status ≠ Status.ok then (r.status, b)
    else
      let b := (b.spilledOf seg r.entries).foldl (fun b i => b.wantEntry seg i) b
      let b := r.entries.foldl (fun b i => b.touchRoom p m seg i) b
      (Status.ok, b.modNode seg index fun x => { x with edges := r.entries, resolved := true })

/-! ## Retirement and release in the Clasp -/

/-- The fence of a SIGNAL node that is released is poisoned, or the peer is told (R231, R377). -/
def Block.signalReleased (b : Block) (seg index : Nat) (st : Status) : Block :=
  let n := b.node seg index
  if n.kind ≠ 4 then b
  else
    let s := b.sub seg
    let b := b.modSub seg fun s => { s with acted := s.acted ++ [index] }
    b.signalPoison s n st

/-- A node homed in the Clasp retires or is released with `st`: its Clasp edges are applied in list
order (R224); ABORTED abandons the submission (R232), as a fault of its list does (R209). -/
def Block.claspLeave (p : Params) (b : Block) (m : MemView) (seg index : Nat) (st : Status) (released : Bool) :
    Block :=
  let r := b.claspList p m seg index
  let b := r.2
  if r.1 ≠ Status.ok then b.abandon p seg r.1 none
  else
    let n := b.node seg index
    let b := b.withdraw seg index
    let b := if released then b.signalReleased seg index st else b
    let b := if n.kind = 2 then b.zeroLoad m seg index n.record else b
    let b := b.nodeDone seg index st released
    if st = Status.aborted then b.abandon p seg st (some index)
    else b.applyEdges p m seg n.edges st

/-- R230, R262: the status with which a node whose counter has reached zero is released. Its placement was fixed when its
entry was created (R217), before any decrement, so of the two failures R17 gives that of the placement (DEDUCED,
log 66). -/
def Node.releaseWith (n : Node) : Option Status :=
  if n.noPlace then some Status.mismatch
  else if isFailure n.pstatus && (!n.tolerant || n.pstatus = Status.aborted) then some n.pstatus
  else none

/-! ## Window entries (R219) -/

/-- A window entry is free for allocation. -/
def CWin.free (c : CWin) : Bool := c.holder.isNone && c.namers.isEmpty && c.piece.isNone

/-- The window entries of a Bead that are not free. -/
def Block.takenWins (b : Block) (a : Nat) : List Nat :=
  ((tget [] b.graph.cwin a).filter fun t => !t.2.free).map (·.1)

/-- The lowest number, from `i` on, that is not taken. -/
def firstFree (taken : List Nat) : Nat → Nat → Option Nat
  | 0, _ => none
  | k + 1, i => if taken.contains i then firstFree taken k (i + 1) else some i

/-- R219: the lowest-numbered free entry of the window of Bead `a`. -/
def Block.freeWin (b : Block) (a : Nat) : Option Nat := firstFree (b.takenWins a) 4096 0

/-- The number of free entries. -/
def Block.freeWins (b : Block) (a : Nat) : Nat := 4096 - (b.takenWins a).length

/-- R219: node `index` takes window entry `w` of Bead `a`; `d` is its distance in adoptions from a
node forwarded READY. -/
def Block.takeWin (b : Block) (a w seg index d : Nat) : Block :=
  let gen := wrapAdd 16 (b.cwin a w).gen 1
  let b := b.modCwin a w fun c => { c with gen := gen, holder := some (seg, index) }
  let b := b.modSub seg fun s => if s.beads.contains a then s else { s with beads := s.beads ++ [a] }
  b.modNode seg index fun n =>
    { n with state := .forwarded, win := w, gen := gen, depth := d }

/-! ## Forwarding (R216 to R220) -/

/-- What a resolution has found so far for one node P. -/
structure Resolving where
  blk : Block
  /-- Clasp edges and window edges of P, newest first -/
  edges : List Nat := []
  wins : List Nat := []
  /-- nodes adopted, newest first -/
  adopted : List Nat := []
  deriving DecidableEq, Repr

/-- R216 to R218: one edge from P, which stands at window entry `w` of Bead `a` at distance `d`, to
successor `i`. -/
def resolveEdge (p : Params) (m : MemView) (seg a w d : Nat) (r : Resolving) (i : Nat) : Resolving :=
  let b := (r.blk.touchRoom p m seg i).seen seg i
  let n := b.node seg i
  let clasp : Resolving := { r with blk := b, edges := i :: r.edges }
  let window (b : Block) (e : Nat) (ad : List Nat) : Resolving :=
    { blk := b.modCwin a e fun c => { c with namers := if c.namers.contains w then c.namers else w :: c.namers }
      edges := r.edges, wins := e :: r.wins, adopted := ad }
  if !(beadKind n.kind && n.bead == some a) || 4096 ≤ r.wins.length then clasp
  else if n.state == .forwarded then window b n.win r.adopted
  else if n.used && n.state == .pending && d ≤ 3 && 1025 ≤ b.freeWins a then
    match b.freeWin a with
    | some e => window (b.takeWin a e seg i (d + 1)) e (i :: r.adopted)
    | none => clasp
  else clasp

/-- Reads the lists of the nodes of `front`, oldest first, and of the nodes adopted meanwhile: the
nodes forwarded, in order, or the failure of a list. -/
def resolveAll (p : Params) (m : MemView) (seg a : Nat) : Nat → List Nat → List Nat → Block →
    Status × List Nat × Block
  | 0, _, done, b => (Status.ok, done.reverse, b)
  | _, [], done, b => (Status.ok, done.reverse, b)
  | f + 1, i :: front, done, b =>
      let l := readSuccs b m seg i
      let b := b.listErrors m seg l
      if l.status ≠ Status.ok then (l.status, [], b)
      else
        let n := b.node seg i
        let r := l.entries.foldl (resolveEdge p m seg a n.win n.depth) { blk := b }
        let b := r.blk.modNode seg i fun x =>
          { x with edges := r.edges.reverse, wedges := r.wins.reverse, resolved := true }
        resolveAll p m seg a f (front ++ r.adopted.reverse) (i :: done) b

/-- R220: the form 0 entry of a node forwarded; STATE is WREADY, or WINDOW for one that was adopted
(DESIGN CHOICE, log 15). -/
def Block.sendForm0 (p : Params) (seg a : Nat) (b : Block) (i : Nat) : Block :=
  let n := b.node seg i
  b.sendDown p a (nodeRec p a n.win n.gen
    (nodeEntry seg i (tget 0 b.graph.sgen seg) (if n.count = 0 then 5 else 4) ((n.wedges.length + 11) / 12) n))

/-- R220: the form 1 entries of a node, in list order. -/
def Block.sendForm1 (p : Params) (seg a : Nat) (b : Block) (i : Nat) : Block :=
  let n := b.node seg i
  (chunk12 (n.wedges.length + 1) n.wedges).foldl
    (fun b es => b.sendDown p a (nodeRec p a n.win n.gen (form1Entry es))) b

/-- R94, R97: NODE may be sent on the lane of Bead `a`: in RUN, and a TIME has been sent (the local
lane needs none, R99). -/
def Block.laneOpen (p : Params) (b : Block) (a : Nat) : Bool :=
  let l := b.lane (p.laneOf a)
  !l.failed && l.clasp.phase == 0 && l.clasp.turn.isNone && (p.laneOf a == 255 || l.timeSent)

/-- R228: a node that is to go to Bead `a` became READY before this one. -/
def Block.readyAhead (b : Block) (seg index a : Nat) : Bool :=
  b.graph.subs.any fun t => t.2.live && t.2.abandoned.isNone && t.2.nodes.any fun u =>
    u.2.used && u.2.state == .ready && u.2.bead == some a && u.2.releaseWith.isNone
      && decide (u.2.order < (b.node seg index).order)

/-- R236: the spilled successors of the nodes that a resolution forwards. -/
def Block.farSuccs (b : Block) (m : MemView) (seg : Nat) (order : List Nat) : List Nat :=
  order.flatMap fun i => b.spilledOf seg (readSuccs b m seg i).entries

/-- R218, R220: a READY Bead-kind node takes a window entry and is sent with what its resolution
adopts. It waits while its window is full, its lane is not open, the crossing to the lane is full (R66), its Clasp edges
need entries that cannot be freed (R237), or the pager refills successors of it or of what it adopts (R236). (DEDUCED,
log 157) -/
def Block.forward (p : Params) (b : Block) (m : MemView) (seg index a : Nat) : Block :=
  if !b.laneOpen p a || !b.roomDown p a then b
  else match b.freeWin a with
  | none => b
  | some w =>
      match resolveAll p m seg a 4097 [index] [] (b.takeWin a w seg index 0) with
      | (st, order, b') =>
          let far := b.farSuccs m seg order
          if st ≠ Status.ok then Block.abandon p { b with mp := b'.mp, evc := b'.evc, trace := b'.trace } seg st none
          else if !far.isEmpty then far.foldl (fun b i => b.wantEntry seg i) b
          else if b.pgCapacity p < b'.pgEntries && b.pgEntries < b'.pgEntries then b.pgCheck p true
          else
            let b' := order.foldl (Block.sendForm0 p seg a) b'
            (order.foldl (Block.sendForm1 p seg a) b').pgSettle p

/-- R220, R230, R262: a READY node is released, or forwarded in the order in which the nodes for its Bead became READY
(R228). (DEDUCED, log 66) (DEDUCED, log 158) -/
def nodeForward (p : Params) (seg index : Nat) (m : MemView) (b : Block) : Block :=
  let s := b.sub seg
  let n := b.node seg index
  if !s.live || s.abandoned.isSome || !n.used || n.state != .ready then b
  else if n.spilled then b.wantEntry seg index
  else match n.releaseWith with
  | some st => b.claspLeave p m seg index st true
  | none =>
      match n.bead with
      | some a => if b.readyAhead seg index a then b else b.forward p m seg index a
      | none => b

/-- NODE_FORWARD (R220): a READY node is forwarded, or released where R230 or R262 says so. -/
def execNodeForward (seg index : Nat) (m : MemView) (s : State) : Host.Outcome State Fault Refusal :=
  .next { s with blk := nodeForward s.params seg index m s.blk }

end Sys2Proof.Machine
end

