-- ==== Sys2Proof/Machine/Submit.lean ====
section
/-! DEFINITION. Submissions (R207, R208, R227, R240, R250, R455, R465 to R467): check pass, placement,
the records CPL, RET, CTR and SPAWN as the Clasp takes them, the audit digest, and the end of a
submission. -/

namespace Sys2Proof.Machine

/-! ## Completions that wait for delivery -/

/-- R366: undelivered completions across all completion queues; a FOREIGN record is another block's. -/
def Block.heldCount (b : Block) : Nat :=
  b.cqs.foldl (fun k t => k + (t.2.held.filter fun y => y.foreign.isNone).length) 0

/-- R366: a completion can be added. -/
def Block.holdRoom (b : Block) : Bool := b.heldCount < 1024

/-- R361: the first of the submissions that have met R227 and report to completion queue `c`. -/
def Block.metFirst (b : Block) (c : Nat) : Option Nat := b.graph.met.find? fun x => (b.queue (b.sub x).queue).cq == c

/-- R361, R366: a failed check of queue `q` can be reported: there is room, and no submission that met R227 before goes
to the same completion queue. -/
def Block.canReport (b : Block) (q : Nat) : Bool := b.holdRoom && (b.metFirst (b.queue q).cq).isNone

/-- A completion joins those of its queue's completion queue (R361). -/
def Block.hold (b : Block) (x : Comp) : Block :=
  b.modCq (b.queue x.queue).cq fun c => { c with held := c.held ++ [x] }

/-- What a check is made for on queue `q`. -/
def Queue.checkFor (q : Queue) : CheckFor := { kernel := q.kernel, ctx := q.ctx, part := q.part }

/-! ## Table versions (R304 to R307) -/

/-- R304: the table version that a STEP_NUM is bound to. -/
def Block.versionOf (b : Block) (stepNum : Nat) : Nat :=
  let x := b.experts
  let i := match b.setting.experts with | some e => e.interval | none => 0
  if !x.enable || i = 0 || stepNum < x.start.toNat + 2 * i then 0
  else (stepNum - x.start.toNat) / i - 1

/-- R306: the offset of the table of a version. -/
def tableOffset (v : Nat) : Nat := if v = 0 then 0 else if v % 2 = 1 then 0x40000 else 0x80000

/-- The versions that the submissions at the head of their queues, which passed their check, wait for. -/
def Block.waitingVersions (b : Block) : List Nat :=
  b.front.queues.filterMap fun q =>
    match q.2.waiting with
    | f :: _ => if f.passed then some (b.versionOf (bits (descW f.desc 3) 31 0)) else none
    | [] => none

/-- A placement waits under R304. -/
def Block.stillHeld (b : Block) : Bool := b.waitingVersions.any fun v => b.experts.version < v

/-- HELD falls once no placement waits under R304, and WAITLOAD once none waits for the version to be planned next. -/
def Block.unhold (b : Block) : Block :=
  { b with experts := { b.experts with
    held := b.experts.held && b.stillHeld
    waitLoad := b.experts.waitLoad && b.waitingVersions.contains (b.experts.version + 1) } }

/-! ## The check pass -/

/-- R208: a check has failed with `st`: the segment's fences are poisoned when its header was read and
valid, and the submission is complete. -/
def Block.failCheck (b : Block) (q : Nat) (f : Fetched) (st : Status) (m : MemView) : Block :=
  let cfg := (b.queue q).checkFor
  let read := f.passed || (f.code = Status.ok && checkDesc b cfg f.desc = Status.ok && hdrValid m (descSeg f.desc))
  let b := if read then
      b.poisonSignals cfg.kernel cfg.ctx m (descSeg f.desc) (readHdr m (descSeg f.desc)).nnodes st
    else b
  let shown := f.code = Status.ok && descShown f.desc
  let drawn := b.draw
  let b := if f.abort = Status.ok then b else drawn.2
  let b := (b.modQueue q fun x => { x with waiting := x.waiting.drop 1 }).unhold
  b.hold {
    seg := none, queue := q, ringIdx := f.ringIdx, status := st
    failIndex := if f.abort = Status.ok then 0xFFFFFFFF else fld drawn.1 31 0
    desc := f.desc, tFetch := f.tFetch, tDone := b.now, nreleased := 0, nretired := 0, bytes := []
    audit := shown && descAudit f.desc, digest := 0, ctx := cfg.ctx
    doneV := shown && descDoneV f.desc, save := shown && descSaveV f.desc, noSave := f.noSave }

/-- R48: the segment may hold bytes that an unacknowledged write of the block changes. -/
def Block.segDirty (b : Block) (m : MemView) (f : Fetched) : Bool :=
  let a := descSeg f.desc
  f.code == Status.ok && (b.mp.pendingWrite a 64 || b.mp.pendingWrite a (64 * (1 + (readHdr m a).nnodes)))

/-- R207, R208: the check of the oldest descriptor of queue `q` that is not yet placed. (DEDUCED, log 60) -/
def checkPass (p : Params) (q : Nat) (m : MemView) (b : Block) : Block :=
  match (b.queue q).waiting with
  | [] => b
  | f :: _ =>
      if f.passed || b.halted || b.segDirty m f then b
      else
        let cfg := (b.queue q).checkFor
        let st := mergeStatus f.abort (checkPassStatus p b cfg m f.code f.desc)
        if st = Status.ok then
          (b.checkErrors cfg m f.code f.desc).modQueue q fun x =>
            { x with waiting := { f with passed := true } :: x.waiting.drop 1 }
        else if !b.canReport q then b
        else (b.checkErrors cfg m f.code f.desc).failCheck q f st m

/-- CHECK_PASS (R207, R208). -/
def execCheckPass (q : Nat) (m : MemView) (s : State) : Host.Outcome State Fault Refusal :=
  .next { s with blk := checkPass s.params q m s.blk }

/-! ## Placement -/

/-- R240: a submission number is free. -/
def Block.segFree (b : Block) (seg : Nat) : Bool := !(b.sub seg).live

/-- R241: a number may be given out: its SGEN has advanced fewer than 16,384 times since the start of
the last completed sweep. -/
def Block.segOpen (b : Block) (seg : Nat) : Bool := tget 0 b.graph.adv seg < 16384

/-- R241, SEG_HELD: a free number waits for a sweep. -/
def Block.segHeld (b : Block) : Bool := b.graph.adv.any fun t => 16384 ≤ t.2 && b.segFree t.1

/-- R240, R241: a number is given out. SWEEP_REQ raises source 6 when it rises. -/
def Block.giveSeg (b : Block) (seg : Nat) : Block :=
  let g := b.graph
  let adv := tget 0 g.adv seg + 1
  let b := { b with graph := { g with
    sgen := tmod 0 g.sgen seg fun x => wrapAdd 16 x 1
    adv := tset 0 g.adv seg adv
    advNew := if g.sweepBusy then tmod 0 g.advNew seg (· + 1) else g.advNew
    sweepReq := g.sweepReq || decide (8192 ≤ adv) } }
  if !g.sweepReq && 8192 ≤ adv then b.raise 6 else b

/-- The node records of a segment. -/
def segRecords (m : MemView) (seg nnodes : Nat) : List (Nat × Nat) :=
  (List.range nnodes).map fun n => (n, recAddr seg n)

/-- R250: the pending generations that WAIT nodes name. -/
def segWaits (b : Block) (m : MemView) (seg nnodes : Nat) : List FGen :=
  (segRecords m seg nnodes).filterMap fun t =>
    if recKind m t.2 = 3 then
      let h : Handle := BitVec.ofNat 32 (bits (recW m t.2 2) 31 0)
      let g : FGen := (handleIndex h, (handleGen h).toNat)
      if b.genPending g then some g else none
    else none

/-- R250: the generations that local SIGNAL nodes and DONE_FENCE would end. -/
def segSignals (m : MemView) (seg nnodes : Nat) (desc : List Word) : List FGen :=
  ((segRecords m seg nnodes).filterMap fun t =>
    if recKind m t.2 = 4 && bits (recW m t.2 2) 56 56 == 0 then
      let h : Handle := BitVec.ofNat 32 (bits (recW m t.2 2) 31 0)
      some (handleIndex h, (handleGen h).toNat)
    else none) ++
  (if descDoneV desc then [(handleIndex (descDoneFence desc), (handleGen (descDoneFence desc)).toNat)] else [])

/-- SET_ID (R1). -/
def setIdWord : Word := 0x57310D0A01010200#64

/-- R455: the key record. -/
def keyRecord (audPart : BitVec 32) (b : Block) : List Word :=
  [packW [(0x5731, 16, 0), (0x0D0A, 16, 16), (1, 8, 32), (1, 8, 40), (2, 8, 48)],
   packW [(audPart.toNat, 16, 0), (fld b.audit.prof 15 0, 16, 16), (fld b.audit.prof 31 16, 16, 32)],
   packW [(fld b.audit.prof 51 32, 20, 0)], 0] ++
    ((List.range 4).map fun i => BitVec.ofNat 64 (b.loader.digest.toNat / 2 ^ (64 * i))) 

/-- R455: KD. -/
def keyDigest (audPart : BitVec 32) (b : Block) : BitVec 256 :=
  digestValue (sha3 (wordsBytes (keyRecord audPart b)))

/-- R465: audit slots, and those in use. -/
def Block.auditSlots (b : Block) : Nat := b.audit.size.toNat * 4
/-- Audit slots in use. -/
def Block.auditUsed (b : Block) : Nat := (b.graph.subs.filter fun t => t.2.live && t.2.audited).length

/-- R465: the lowest audit slot that no submission holds. Which one is given is the model's choice (DESIGN CHOICE,
log 136). -/
def Block.freeAuditSlot (b : Block) : Nat :=
  let used := (b.graph.subs.filter fun t => t.2.live && t.2.audited).map fun t => t.2.auditSlot
  ((List.range (used.length + 1)).find? fun i => !used.contains i).getD 0

/-- R465, HELD: a placement waits for an audit slot. -/
def Block.auditHeld (b : Block) : Bool :=
  b.audit.size != 0 && decide (b.auditSlots ≤ b.auditUsed) && b.front.queues.any fun t =>
    match t.2.waiting with
    | f :: _ => f.passed && descAudit f.desc
    | [] => false

/-- R215: the roots of a placed submission become READY, in index order. (DEDUCED, log 59) -/
def Block.scanRoots (p : Params) (m : MemView) (seg nnodes : Nat) (b : Block) : Block :=
  let s := b.sub seg
  (segRecords m (descSeg s.desc) nnodes).foldl (fun b t =>
    if recTemplate m t.2 || bits (recW m t.2 0) 31 16 != 0 then b
    else (b.modNode seg t.1 fun _ =>
      { b.placed p s (nodeOfRecord s m t.2) t.1 (bits (recW m t.2 0) 43 32) (recBead m t.2) with
        state := .ready }).joinReady seg t.1) b

/-- R246: the WAIT nodes of a placed submission register, or record the outcome. -/
def Block.registerWaits (m : MemView) (seg nnodes : Nat) (b : Block) : Block :=
  (segRecords m (descSeg (b.sub seg).desc) nnodes).foldl (fun b t =>
    if recKind m t.2 = 3 then
      let r := b.registerWait (BitVec.ofNat 32 (bits (recW m t.2 2) 31 0)) seg t.1
      match r.1 with
      | some st => r.2.modNode seg t.1 fun n => { n with outcome := some st }
      | none => r.2
    else b) b

/-- The placement itself (R240): the submission gets its number, its roots become READY and its WAIT
nodes register. One whose segment holds templates alone meets R227 at once. (DEDUCED, log 115) -/
def Block.place (p : Params) (audPart : BitVec 32) (q seg : Nat) (f : Fetched) (m : MemView) (b : Block) : Block :=
  let cfg := b.queue q
  let a := descSeg f.desc
  let h := readHdr m a
  let recs := segRecords m a h.nnodes
  let s : Sub :=
    { live := true, queue := q, ringIdx := f.ringIdx, ctx := cfg.ctx, part := cfg.part, kernel := cfg.kernel
      urgent := (b.partSec cfg.part).express && cfg.prio == 3
      desc := f.desc, nnodes := h.nnodes, nblk := h.nblk, nparam := h.nparam, graphKey := h.key
      known := (recs.filter fun t => !recTemplate m t.2).length
      order := b.graph.order
      waits := segWaits b m a h.nnodes, signals := segSignals m a h.nnodes f.desc
      tFetch := f.tFetch, tDone := b.now, version := b.versionOf (bits (descW f.desc 3) 31 0)
      table := b.experts.baseAddr + tableOffset (b.versionOf (bits (descW f.desc 3) 31 0))
      audited := descAudit f.desc, auditSlot := if descAudit f.desc then b.freeAuditSlot else 0, kd := if descAudit f.desc then keyDigest audPart b else 0
      contribs := recs.foldl (fun t r =>
        if recKind m r.2 = 2 then tset {} t r.1 { used := true } else t) [] }
  let b := b.giveSeg seg
  let b := (b.modQueue q fun x => { x with waiting := x.waiting.drop 1 }).unhold
  let b := b.modSub seg fun _ => s
  let b := { b with graph := { b.graph with order := b.graph.order + 1 } }
  let b := b.scanRoots p m seg h.nnodes
  let b := ((b.registerWaits m seg h.nnodes).pgSettle p).noteMet
  b.traceEvent 3 2 (pack [(q, 12, 0), (seg, 16, 16)]) [BitVec.ofNat 64 f.ringIdx]

/-- R502: work waits for a domain. -/
def Block.waitDomain (b : Block) (d : Nat) : Block := b.modDom d fun x => { x with waiting := true }

/-- The Clasp domains that a placement waits for (R497). -/
def Block.placeDomains (b : Block) (audited : Bool) : List Nat :=
  (if audited then [1, 2, 4] else [1, 2]).filter fun d => (b.dom d).state != .on

/-- R237, R240, R128, R492: a placement waits for nothing but what R304, R465 and R497 name. -/
def Block.placeReady (p : Params) (b : Block) (part seg : Nat) : Bool :=
  !b.halted && !b.pgFull p && b.segFree seg && b.segOpen seg && !b.loader.touched.contains part

/-- R304: HELD, with source 15 when it rises. -/
def Block.holdVersion (b : Block) : Block :=
  let b' := { b with experts := { b.experts with held := true } }
  if b.experts.held then b else b'.raise 15

/-- R240, R250, R251, R304, R465: placement of the oldest descriptor of queue `q`, with the free
submission number `seg`. -/
def submissionPlace (p : Params) (audPart : BitVec 32) (q seg : Nat) (m : MemView) (b : Block) : Block :=
  match (b.queue q).waiting with
  | [] => b
  | f :: _ =>
      if !f.passed || !b.placeReady p (b.queue q).part seg then b.pgCheck p f.passed
      else match b.placeDomains (descAudit f.desc) with
      | d :: ds => (d :: ds).foldl Block.waitDomain b
      | [] =>
          let a := descSeg f.desc
          let h := readHdr m a
          let cycle := b.closesCycle (segWaits b m a h.nnodes) (segSignals m a h.nnodes f.desc)
          let stopped := { b with fences := { b.fences with unchecked := satAdd 16 b.fences.unchecked 1 } }
          let closed := { b with fences := { b.fences with rejected := satAdd 16 b.fences.rejected 1 } }
          if cycle = some true then
            (if b.canReport q then closed.failCheck q f Status.fenceCycle m else b)
          else if descAudit f.desc && b.audit.size = 0 then
            (if b.canReport q then b.failCheck q f Status.capacity m else b)
          else if descAudit f.desc && b.auditSlots ≤ b.auditUsed then
            b
          else if b.experts.version < b.versionOf (bits (descW f.desc 3) 31 0) then b.holdVersion
          else Block.place p audPart q seg f m (if cycle = none then stopped else b)

/-- SUBMISSION_PLACE (R240). The operand names the free number that the Clasp gives: the spec leaves
which one open. -/
def execSubmissionPlace (q : Nat) (seg : BitVec 16) (m : MemView) (s : State) :
    Host.Outcome State Fault Refusal :=
  .next { s with blk := submissionPlace s.params s.keys.audPart q seg.toNat m s.blk }

/-! ## CPL -/

/-- R219: a node's window entry is given up, and the entries that its window edges name. -/
def Block.releaseWin (b : Block) (a win : Nat) (wedges : List Nat) : Block :=
  let b := b.modCwin a win fun c => { c with holder := none }
  wedges.foldl (fun b e => b.modCwin a e fun c => { c with namers := c.namers.filter (· != win) }) b

/-- R428: PERCENT while a switch runs. -/
def Part.progress (x : Part) : Nat := if x.total = 0 then 100 else min 99 (100 * x.position / x.total)

/-- R428: a piece's CPL: POSITION rises by its length in KiB, rounded up; the first failure is kept
(R17). A piece of a switch that a FORCE has ended counts no more. -/
def Part.pieceEnds (x : Part) (k : Nat) (st : Status) : Part :=
  if !x.waiting.contains k then x
  else
    let len := match x.pieces[k]? with | some c => c.len | none => 0
    let y := { x with
      waiting := x.waiting.filter (· != k)
      position := x.position + (len + 1023) / 1024
      pieceFail := match x.pieceFail with
        | some f => some f
        | none => if isFailure st then some st else none }
    { y with percent := y.progress }

/-- The CPL of piece `k` of partition `part`. -/
def Block.pieceDone (b : Block) (part k : Nat) (st : Status) : Block :=
  b.modPart part fun x => x.pieceEnds k st

/-- R462: whether a TASK of class DM of an audited submission reports, with its ROLE, the address of its
digest slot and its tile count when it is a tile list. `param` is its parameter block. -/
def auditReport (m : MemView) (param : Nat) : Option (Bool × Nat × Option Nat) :=
  let p5 := (m.word (param + 40)).toNat
  let tile := (m.word (param + 48)).toNat
  if bits p5 63 63 = 1 then
    some (bits p5 62 62 == 1, (m.word (param + 32)).toNat % 2 ^ 56,
      if bits tile 63 63 = 1 then some (bits tile 16 0) else none)
  else none

/-- R464, R465: entry `k` of a submission is written to its audit slot; its layout there and its traffic class are the
block's own (DESIGN CHOICE, log 136). -/
def Block.storeAudit (b : Block) (slot k : Nat) : Block :=
  let d := b.drawWords 8
  d.2.put 63 4 (fld b.audit.base 55 21 * 2097152 + 262144 * slot + 64 * k) (wordsBytes d.1) .audit

/-- R464, R465: one digest slot is read and its entry stored. No node gives the submission the status of
a failed read, and FAIL_INDEX is drawn (DESIGN CHOICE, log 14); R356 gives the one of R465. -/
def Block.auditEntry (p : Params) (m : MemView) (seg index : Nat) (role : Bool) (b : Block) (t : Nat × Nat) : Block :=
  let st := m.status Status.indirectFault t.2 32
  let b := b.viewErrors 63 4 m t.2 32
  let drawn := b.draw
  if st ≠ Status.ok then drawn.2.modSub seg fun s => s.noteFail st (fld drawn.1 31 0)
  else if 4096 ≤ (b.sub seg).audit.length then b.abandon p seg Status.capacity (some 0xFFFFFFFF)
  else (b.storeAudit (b.sub seg).auditSlot (b.sub seg).audit.length).modSub seg fun s =>
    { s with audit := s.audit ++ [{ index := index, tile := t.1, role := role, digest := MemView256 m t.2 }] }

/-- R462, R464: the buffer digests that a task reported are read when its CPL is consumed. An error of the read of its
parameter block is one of a segment fetch (DEDUCED, log 20). -/
def Block.auditNode (p : Params) (m : MemView) (seg index : Nat) (n : Node) (b : Block) : Block :=
  if !(b.sub seg).audited || n.kind ≠ 0 || n.cls ≠ 2 then b
  else
  let st := m.status Status.format n.param 64
  let b := b.viewErrors 63 0 m n.param 64
  if st ≠ Status.ok then b.abandon p seg st none
  else match auditReport m n.param with
  | none => b
  | some (role, slot, none) => b.auditEntry p m seg index role (0xFFFFFFFF, slot)
  | some (role, slot, some k) =>
      ((List.range k).map fun t => (t, slot + 32 * t)).foldl (Block.auditEntry p m seg index role) b

/-- R224, R226, R232: the Clasp consumes a CPL. Whether the node retired or was released without running
is known once its Bead's RET counts it: until then it counts as released. -/
def Block.consumeCpl (p : Params) (a win gen : Nat) (st : Status) (m : MemView) (b : Block) : Block :=
  let c := b.cwin a win
  if c.gen ≠ gen then b.countStale
  else match c.holder, c.piece with
  | some (seg, index), _ =>
      let n := b.node seg index
      let b := b.releaseWin a win n.wedges
      let b := if n.kind = 2 then b.zeroLoad m seg index n.record else b
      let b := if st = Status.ok then b.auditNode p m seg index n else b
      let b := b.nodeDone seg index st true
      if st = Status.aborted then b.abandon p seg st (some index)
      else b.applyEdges p m seg n.edges st
  | none, some (q, k) =>
      let b := b.modCwin a win fun c => { c with piece := none }
      b.pieceDone q k st
  | none, none => b.countStale

/-- CPL (R224, R226). A record of a Bead that is fenced off is discarded (R516). One of a node whose entries are
spilled stays on its lane while they are refilled (R236). -/
def cpl (p : Params) (bead win gen : Nat) (st : Status) (m : MemView) (b : Block) : Block :=
  match (b.cwin bead win).holder with
  | some (seg, index) =>
      if (b.node seg index).spilled && (b.cwin bead win).gen == gen then b.wantEntry seg index
      else b.onUp p bead (cplRec p bead win gen st) fun b => b.consumeCpl p bead win gen st m
  | none => b.onUp p bead (cplRec p bead win gen st) fun b => b.consumeCpl p bead win gen st m

/-- CPL. -/
def execCpl (bead : Nat) (win : BitVec 12) (gen : BitVec 16) (status : Status) (m : MemView) (s : State) :
    Host.Outcome State Fault Refusal :=
  .next { s with blk := cpl s.params bead win.toNat gen.toNat status m s.blk }

/-! ## RET and CTR -/

/-- Nodes of a submission that the Clasp holds forwarded to a Bead. -/
def Sub.onBead (s : Sub) (a : Nat) : Bool :=
  s.nodes.any fun t => t.2.state == .forwarded && t.2.bead == some a

/-- R227: COUNT nodes have retired; END closes the Bead's part unless a node is still on its way. -/
def ret (p : Params) (bead seg count : Nat) (last : Bool) (nctr : Nat) (b : Block) : Block :=
  b.onUp p bead (retRec p bead seg count last nctr) fun b =>
    if !(b.sub seg).live then b
    else
      let b := b.modSub seg fun s =>
        { s with
          nreleased := s.nreleased - count
          beads := if last && !s.onBead bead then s.beads.filter (· != bead) else s.beads }
      if last && nctr != 0 then
        { b with graph := { b.graph with ctrDue := tset (0, 0) b.graph.ctrDue bead (seg, nctr) } }
      else b.noteMet

/-- RET (R227). -/
def execRet (bead : Nat) (seg count : BitVec 16) (last : Bool) (nctr : BitVec 5) (s : State) :
    Host.Outcome State Fault Refusal :=
  .next { s with blk := ret s.params bead seg.toNat count.toNat last nctr.toNat s.blk }

/-- R82, R356: a counter record adds to the byte sums of the submission that the closing RET named. -/
def ctr (p : Params) (bead idx bytes : Nat) (b : Block) : Block :=
  b.onUp p bead (ctrRec p bead idx bytes) fun b =>
    let d := tget (0, 0) b.graph.ctrDue bead
    if d.2 = 0 then b
    else
      let left := d.2 - 1
      let b := b.modSub d.1 fun s =>
        if s.live && idx < 20 then { s with bytes := tmod 0 s.bytes idx fun x => satAdd 48 x bytes } else s
      Block.noteMet { b with graph := { b.graph with
        ctrDue := tset (0, 0) b.graph.ctrDue bead (if left = 0 then (0, 0) else (d.1, left)) } }

/-- CTR (R82). -/
def execCtr (bead : Nat) (idx : BitVec 5) (bytes : BitVec 48) (s : State) : Host.Outcome State Fault Refusal :=
  .next { s with blk := ctr s.params bead idx.toNat bytes.toNat s.blk }

/-! ## The audit digest -/

/-- The 40 bytes of an entry. -/
def AuditEntry.bytes (e : AuditEntry) : List Byte := leBytes 4 e.index ++ leBytes 4 e.tile ++ digestBytes e.digest

/-- An entry's place among those sorted by INDEX, then TILE. -/
def auditInsert (e : AuditEntry) : List AuditEntry → List AuditEntry
  | [] => [e]
  | x :: xs =>
      if e.index < x.index ∨ (e.index = x.index ∧ e.tile < x.tile) then e :: x :: xs
      else x :: auditInsert e xs

/-- R466: WD and ID. -/
def auditPart (es : List AuditEntry) (role : Bool) : BitVec 256 :=
  digestValue (sha3 ((((es.filter fun e => e.role == role).foldl (fun t e => auditInsert e t) []).flatMap
    AuditEntry.bytes)))

/-- R466: PD. -/
def programDigest (desc : List Word) (m : MemView) (seg size : Nat) : BitVec 256 :=
  digestValue (sha3 (wordsBytes (desc.take 2 ++ [0] ++ desc.drop 3) ++ m.bytes seg size))

/-- The size of a submission's segment. -/
def Sub.size (s : Sub) : Nat := 0x40 + 64 * (s.nnodes + s.nblk + s.nparam)

/-- R466: the audit digest of a submission. -/
def Sub.auditDigest (s : Sub) : BitVec 256 :=
  digestValue (sha3 (digestBytes (s.pd.getD 0)
    ++ digestBytes (auditPart s.audit true) ++ digestBytes (auditPart s.audit false) ++ digestBytes s.kd))

/-- R467: the digest engine reads the segment for PD, once, while the submission's nodes run or behind them. An
error of the read fails the submission; no node gave it its status, and FAIL_INDEX is drawn (DESIGN CHOICE, log 14). -/
def Block.auditSegment (b : Block) (m : MemView) (seg : Nat) : Block :=
  let s := b.sub seg
  if s.pd.isSome then b
  else
    let st := m.status Status.format (descSeg s.desc) s.size
    let b := b.viewErrors 63 0 m (descSeg s.desc) s.size
    let drawn := b.draw
    if st ≠ Status.ok then drawn.2.modSub seg fun s => { s.noteFail st (fld drawn.1 31 0) with pd := some 0 }
    else b.modSub seg fun s => { s with pd := some (programDigest s.desc m (descSeg s.desc) s.size) }

/-- R466, R467: the digest engine reads the segment of an audited submission, and finishes the digest once every node is
done. (DEDUCED, log 140) -/
def auditDigest (seg : Nat) (m : MemView) (b : Block) : Block :=
  let s := b.sub seg
  if !s.live || s.complete || !s.audited || s.digest.isSome then b
  else
    let b := b.auditSegment m seg
    if !b.quiet seg then b
    else b.modSub seg fun s => { s with digest := some (if s.fail.isSome then 0 else s.auditDigest) }

/-- AUDIT_DIGEST (R466, R467). -/
def execAuditDigest (seg : Nat) (m : MemView) (s : State) : Host.Outcome State Fault Refusal :=
  .next { s with blk := auditDigest seg m s.blk }

/-! ## The end of a submission -/

/-- R233, stage 6: the SIGNAL records of an abandoned submission that never acted, and the load
contributions of its EXPAND nodes that made none (R303). (DEDUCED, log 64) -/
def Block.abandonedEnd (b : Block) (seg : Nat) (st : Status) (m : MemView) : Block :=
  let s := b.sub seg
  let recs := segRecords m (descSeg s.desc) s.nnodes
  let b := b.viewErrors 63 0 m (descSeg s.desc + 0x40) (64 * s.nnodes)
  let b := recs.foldl (fun b t =>
    if s.acted.contains t.1 then b else b.poisonSignal s.kernel s.ctx m t.2 st) b
  recs.foldl (fun b t => if recKind m t.2 = 2 then b.zeroLoad m seg t.1 t.2 else b) b

/-- The completion of a submission (R356, R524); one that failed carries a zero digest (R466). -/
def Block.compOf (b : Block) (seg : Nat) : Comp :=
  let s := b.sub seg
  let f := s.fail.getD (Status.ok, 0xFFFFFFFF)
  { seg := some seg, queue := s.queue, ringIdx := s.ringIdx, status := f.1, failIndex := f.2, desc := s.desc
    tFetch := s.tFetch, tDone := s.tDone, nreleased := s.nreleased, nretired := s.done - s.nreleased
    bytes := (List.range 20).map (tget 0 s.bytes), audit := s.audited
    digest := if isFailure f.1 then 0 else s.digest.getD 0, ctx := s.ctx
    doneV := descDoneV s.desc, save := descSaveV s.desc, noSave := s.noSave }

/-- R227, R361, R366: a submission is handed to its completion queue, behind those that met R227 before it. -/
def submissionComplete (p : Params) (seg : Nat) (m : MemView) (b : Block) : Block :=
  let s := b.sub seg
  if !b.quiet seg || !b.holdRoom || (s.audited && s.digest.isNone)
      || (b.graph.met.contains seg && b.metFirst (b.queue s.queue).cq != some seg) then b
  else
    let b := if s.abandoned.isSome then b.abandonedEnd seg (s.fail.getD (Status.aborted, 0)).1 m else b
    let b := b.hold (b.compOf seg)
    let b := { b with graph := { b.graph with met := b.graph.met.filter (· != seg) } }
    (b.modSub seg fun s => { s with complete := true }).pgStep p m

/-- SUBMISSION_COMPLETE (R227). -/
def execSubmissionComplete (seg : Nat) (m : MemView) (s : State) : Host.Outcome State Fault Refusal :=
  .next { s with blk := submissionComplete s.params seg m s.blk }

end Sys2Proof.Machine
end

