-- ==== Sys2Proof/Machine/Nodes.lean ====
section
/-! DEFINITION. Clasp-kind nodes that touch fences and peers (R197, R231, R246, R247, R279, R280, R377),
FENCE_POISON, the join of expansions (R294), SPAWN (R291), and the graph pager's commands. -/

namespace Sys2Proof.Machine

/-! ## Whether a node may act -/

/-- What stands in the way of a READY Clasp-kind node. -/
inductive Gate where
  /-- nothing: it acts -/
  | act
  /-- it is released with this status (R230, R262) -/
  | release (st : Status)
  /-- its breakpoint holds it (R489) -/
  | brk
  /-- it waits, or there is no such node -/
  | wait
  deriving DecidableEq, Repr

/-- R230, R409, R421, R429, R489, R490, R492. -/
def Block.gate (b : Block) (seg index : Nat) : Gate :=
  let s := b.sub seg
  let n := b.node seg index
  if !s.live || s.abandoned.isSome || !n.used || n.state != .ready then .wait
  else match n.releaseWith with
  | some st => .release st
  | none =>
      if b.claspHeld s.part then .wait
      else if n.brk && !n.brkPassed then .brk
      else if !b.mayAct seg (startsKind n.kind) then .wait
      else .act

/-- R489: a breakpoint holds the node and stops its partition. -/
def Block.breakNode (p : Params) (b : Block) (seg index : Nat) : Block :=
  if (b.node seg index).brkHeld then b
  else (b.modNode seg index fun n => { n with brkHeld := true }).breakpointStop p (b.sub seg).part 63

/-- A Clasp-kind node starts to act: its list is read (R216), and its submission has started where its
kind says so. -/
def Block.startAct (p : Params) (b : Block) (m : MemView) (seg index : Nat) : Status × Block :=
  let r := b.claspList p m seg index
  let k := (b.node seg index).kind
  if r.1 ≠ Status.ok then (r.1, r.2.abandon p seg r.1 none)
  else
    (Status.ok, (r.2.modSub seg fun s => { s with started := s.started || startsKind k }).modNode seg index
      fun n => { n with state := .acting })

/-- Runs `f` on a node that the gate lets act; releases or holds it where the gate says so. -/
def Block.tryAct (p : Params) (b : Block) (m : MemView) (seg index : Nat) (f : Block → Block) : Block :=
  if (b.node seg index).spilled then b.wantEntry seg index
  else match b.gate seg index with
  | .wait => b
  | .release st => b.claspLeave p m seg index st true
  | .brk => b.breakNode p seg index
  | .act =>
      let r := b.startAct p m seg index
      if r.1 ≠ Status.ok then r.2 else f r.2

/-- An acting node of kind `k`. -/
def Block.acting (b : Block) (seg index k : Nat) : Bool :=
  let s := b.sub seg
  let n := b.node seg index
  s.live && s.abandoned.isNone && n.used && n.state == .acting && n.kind == k

/-! ## WAIT -/

/-- The handle of a WAIT or SIGNAL record. -/
def recFence (m : MemView) (a : Nat) : Handle := BitVec.ofNat 32 (bits (recW m a 2) 31 0)

/-- R280: an arrival counter is read. -/
def Block.arrivalAsk (b : Block) (m : MemView) (seg index : Nat) : Block :=
  let a := bits (recW m (b.node seg index).record 3) 55 0
  (b.ask 63 4 a 8 (.arrival seg index)).modNode seg index fun n => { n with busy := true, arrival := a }

/-- R246, R279: a WAIT whose outcome is known: it is released with a failure; it retires with OK, or
starts to read its arrival counter. -/
def Block.waitEnds (p : Params) (b : Block) (m : MemView) (seg index : Nat) (st : Status) : Block :=
  let s := b.sub seg
  let n := b.node seg index
  if isFailure st then b.claspLeave p m seg index st true
  else if b.claspHeld s.part || !b.mayAct seg false || n.busy || n.interval != 0 then b
  else if bits (recW m n.record 2) 32 32 = 0 then b.claspLeave p m seg index Status.ok false
  else
    let q := n.quantity.getD (b.fence (handleIndex (recFence m n.record))).quantity
    (b.modNode seg index fun n => { n with quantity := some q }).arrivalAsk m seg index

/-- R246: a WAIT that acts or waits. One that is not registered (it ran before, R234) registers now. -/
def Block.waitStep (p : Params) (m : MemView) (seg index : Nat) (b : Block) : Block :=
  let n := b.node seg index
  match n.outcome with
  | some st => b.waitEnds p m seg index st
  | none =>
      if b.fences.waits.any fun w => w.seg == seg && w.index == index then b
      else
        let r := b.registerWait (recFence m n.record) seg index
        match r.1 with
        | some st =>
            (r.2.modNode seg index fun n => { n with outcome := some st }).waitEnds p m seg index st
        | none => r.2

/-- R246: a WAIT acts; one that waits goes on when its outcome is known. -/
def waitAct (p : Params) (seg index : Nat) (m : MemView) (b : Block) : Block :=
  if b.acting seg index 3 then b.waitStep p m seg index
  else if (b.node seg index).kind != 3 then b
  else b.tryAct p m seg index (Block.waitStep p m seg index)

/-- WAIT_ACT (R246). -/
def execWaitAct (seg index : Nat) (m : MemView) (s : State) : Host.Outcome State Fault Refusal :=
  .next { s with blk := waitAct s.params seg index m s.blk }

/-- A read request that was made for `w`, if one is outstanding. -/
def Mp.readFor (x : Mp) (w : RPurpose) : Option RReq := x.reads.find? fun r => r.purpose == w

/-- The answer to a read takes it from those outstanding; an error is recorded (R51). -/
def Block.answerRead (b : Block) (r : RReq) (code : BitVec 2) : Block :=
  let b := { b with mp := Mp.promoteRead { b.mp with reads := b.mp.reads.erase r } r.port }
  if code = 0#2 then b else b.mpError r.port false r.cls r.addr code r.id

/-- R280: the condition of an arrival read. -/
def arrived (a q : Nat) : Bool := subMod (2 ^ 48) (a % 2 ^ 48) (q % 2 ^ 48) < 2 ^ 47

/-- R280, R51: what an arrival read gives. -/
def Block.arrivalResult (p : Params) (seg index : Nat) (code : BitVec 2) (data : Word) (m : MemView) (b : Block) :
    Block :=
  if !b.acting seg index 3 then b
  else
    let n := b.node seg index
    let st := codeStatus Status.indirectFault code
    if st ≠ Status.ok then b.claspLeave p m seg index st true
    else if arrived (fld data 47 0) (n.quantity.getD 0) then b.claspLeave p m seg index Status.ok false
    else b.modNode seg index fun n =>
      { n with busy := false, interval := if n.interval = 0 then 64 else min 4096 (2 * n.interval) }

/-- R280. -/
def arrivalRead (p : Params) (seg index : Nat) (code : BitVec 2) (data : Word) (m : MemView) (b : Block) : Block :=
  match b.mp.readFor (.arrival seg index) with
  | none => b
  | some r => (b.answerRead r code).arrivalResult p seg index code data m

/-- ARRIVAL_READ (R280). -/
def execArrivalRead (seg index : Nat) (code : BitVec 2) (data : Word) (m : MemView) (s : State) :
    Host.Outcome State Fault Refusal :=
  .next { s with blk := arrivalRead s.params seg index code data m s.blk }

/-- R280: the interval has passed. -/
def arrivalReread (seg index addr : Nat) (b : Block) : Block :=
  let n := b.node seg index
  if !b.acting seg index 3 || n.busy || n.interval = 0 || b.claspHeld (b.sub seg).part then b
  else (b.ask 63 4 addr 8 (.arrival seg index)).modNode seg index fun n => { n with busy := true }

/-- ARRIVAL_REREAD_TIMER (R280): the counter is read again at the address ARRIVAL, which the node
holds. -/
def execArrivalRereadTimer (seg index : Nat) (s : State) : Host.Outcome State Fault Refusal :=
  .next { s with blk := arrivalReread seg index (s.blk.node seg index).arrival s.blk }

/-! ## SIGNAL -/

/-- R247: a local SIGNAL acts on its generation. -/
def Block.signalStep (p : Params) (m : MemView) (seg index : Nat) (b : Block) : Block :=
  let s := b.sub seg
  let h := recFence m (b.node seg index).record
  let b := b.modSub seg fun s => { s with acted := s.acted ++ [index] }
  let r := b.signalFence (handleIndex h) (handleGen h) s.kernel s.ctx (.node seg index)
  match r.1 with
  | .ended => r.2.claspLeave p m seg index Status.ok false
  | .stale => r.2.claspLeave p m seg index Status.staleHandle false
  | .waits => r.2

/-- R247, R244: a local SIGNAL acts; one that waited its turn retires once it has an outcome. -/
def signalAct (p : Params) (seg index : Nat) (m : MemView) (b : Block) : Block :=
  let n := b.node seg index
  if n.kind != 4 || bits (recW m n.record 2) 56 56 = 1 then b
  else if b.acting seg index 4 then
    match n.outcome with
    | some st => b.claspLeave p m seg index st false
    | none => b
  else b.tryAct p m seg index (Block.signalStep p m seg index)

/-- SIGNAL_ACT (R247). -/
def execSignalAct (seg index : Nat) (m : MemView) (s : State) : Host.Outcome State Fault Refusal :=
  .next { s with blk := signalAct s.params seg index m s.blk }

/-- R377: a remote SIGNAL that acts is released, waits, or is queued. -/
def Block.remoteStep (p : Params) (m : MemView) (seg index : Nat) (b : Block) : Block :=
  let n := b.node seg index
  let w2 := recW m n.record 2
  let x := bits w2 51 32
  let b := b.modNode seg index fun n => { n with peer := some x }
  match b.peerFor x with
  | none => b.claspLeave p m seg index Status.mismatch true
  | some e =>
      let pe := b.peer e
      if !b.link.en || b.onlyIncompat x then b.claspLeave p m seg index Status.mismatch true
      else if pe.state != .up || !b.txRoom then b
      else
        let b := b.modSub seg fun s => { s with acted := s.acted ++ [index] }
        let b := b.txPut {
          words := signalPacket pe.rev x b.link.self (recFence m n.record) Status.ok (bits w2 57 57 == 1)
            (bits (recW m n.record 3) 47 0)
          link := pe.link, peer := e, by' := .signalNode seg (tget 0 b.graph.sgen seg) index }
        b.modNode seg index fun n => { n with busy := true }

/-- R377, R373: a remote SIGNAL acts; one that waited goes on, but for a stop (R490, R492), and one whose packet has been
transmitted retires. -/
def remoteSignalAct (p : Params) (seg index : Nat) (m : MemView) (b : Block) : Block :=
  let n := b.node seg index
  if n.kind != 4 || bits (recW m n.record 2) 56 56 = 0 then b
  else if b.acting seg index 4 then
    match n.outcome with
    | some st => b.claspLeave p m seg index st (isFailure st)
    | none => if n.busy || b.claspHeld (b.sub seg).part then b else b.remoteStep p m seg index
  else b.tryAct p m seg index (Block.remoteStep p m seg index)

/-- REMOTE_SIGNAL_ACT (R377). -/
def execRemoteSignalAct (seg index : Nat) (m : MemView) (s : State) : Host.Outcome State Fault Refusal :=
  .next { s with blk := remoteSignalAct s.params seg index m s.blk }

/-! ## PRIV -/

/-- OP of a PRIV record. -/
def privOp (m : MemView) (a : Nat) : Nat := bits (recW m a 2) 7 0

/-- R201: a PRIV node with operation `op` acts: `f` performs it and gives its status. -/
def Block.privAct (p : Params) (b : Block) (m : MemView) (seg index op : Nat) (f : Nat → Block → Status × Block) :
    Block :=
  let n := b.node seg index
  if n.kind != 7 || privOp m n.record != op then b
  else b.tryAct p m seg index fun b =>
    let r := f n.record b
    r.2.claspLeave p m seg index r.1 false

/-- R244: the operation FENCE_POISON. -/
def fencePoisonOp (m : MemView) (kernel : Bool) (ctx a : Nat) (b : Block) : Status × Block :=
  let w3 := recW m a 3
  let r := b.poisonHandle (BitVec.ofNat 32 (bits w3 31 0)) (BitVec.ofNat 8 (bits w3 39 32)) kernel ctx
  (if r.1 then Status.ok else Status.staleHandle, r.2)

/-- FENCE_POISON (R244). -/
def execFencePoison (seg index : Nat) (m : MemView) (s : State) : Host.Outcome State Fault Refusal :=
  let x := s.blk.sub seg
  .next { s with blk := s.blk.privAct s.params m seg index 4 (fencePoisonOp m x.kernel x.ctx) }

/-! ## Expansions -/

/-- R294: the contribution of expansion `index` to its join: one Clasp edge, behind those that the router holds. -/
def joinContribution (p : Params) (seg index : Nat) (m : MemView) (b : Block) : Block :=
  let s := b.sub seg
  let c := tget {} s.contribs index
  if !s.live || !c.used || !c.retired || c.left != 0 then b
  else
    let b := b.modSub seg fun s => { s with contribs := tset {} s.contribs index {} }
    b.applyEdges p m seg [bits (recW m (s.record index) 4) 63 32] c.status

/-- JOIN_CONTRIBUTION (R294). -/
def execJoinContribution (seg index : Nat) (m : MemView) (s : State) : Host.Outcome State Fault Refusal :=
  .next { s with blk := joinContribution s.params seg index m s.blk }

/-- R288: the number of EXPAND records with a lower index. -/
def expandsBelow (m : MemView) (s : Sub) (index : Nat) : Nat :=
  ((List.range index).filter fun i => recKind m (s.record i) == 2).length

/-- The node that a form 0 entry describes (R213), in the Clasp. -/
def nodeOfEntry (w0 w2 w3 : Word) : Node :=
  { used := true, kind := fld w0 61 58, tolerant := bit w0 57, brk := bit w0 56, tgtV := bit w0 55
    cls := fld w0 54 52, slot := fld w0 51 46, indirect := fld w0 45 40
    record := fld w2 55 0, param := fld w3 55 0, state := .ready }

/-- R288, R291: a created node is placed and forwarded. A node that an expansion creates again, as it runs again (R234),
counts once. The entry carries no AFF: the Clasp
takes the one that the expansion gave (DESIGN CHOICE, log 16). -/
def Block.spawnNode (p : Params) (b : Block) (m : MemView) (seg e : Nat) (w0 w1 w2 w3 : Word) : Block :=
  let s := b.sub seg
  let k := fld w1 63 32
  let index := s.nnodes + 65536 * expandsBelow m s e + k
  let aff := (tget none s.affs index).getD (bits (recW m (fld w2 55 0) 0) 43 32)
  let n := { nodeOfEntry w0 w2 w3 with parent := some e }
  let again := s.ended.contains index || (b.node seg index).used
  let b := (b.modNode seg index fun _ => b.placed p s n index aff (recBead m (fld w2 55 0))).joinReady seg index
  let b := b.modSub seg fun s =>
    { s with
      known := if again then s.known else s.known + 1
      affs := tset none s.affs index none
      contribs := tmod {} s.contribs e fun c => { c with left := c.left + 1 } }
  nodeForward p seg index m b

/-- SPAWN (R291). A SPAWN of an abandoned submission is discarded (R233); one that the pager holds back
stays on its lane (R237). -/
def spawn (p : Params) (bead win : Nat) (w0 w1 w2 w3 : Word) (m : MemView) (b : Block) : Block :=
  let come := (b.lane (p.laneOf bead)).take (p.laneOf bead) true [spawnRec p bead win [w0, w1, w2, w3]]
  if b.pgFull p then b.pgCheck p (come.isSome && (b.pbead bead).state != .fenced)
  else b.onUp p bead (spawnRec p bead win [w0, w1, w2, w3]) fun b =>
    match (b.cwin bead win).holder with
    | none => b
    | some (seg, e) =>
        let s := b.sub seg
        if !s.live || s.abandoned.isSome || fld w0 15 0 != seg
            || fld w1 31 16 != tget 0 b.graph.sgen seg then b
        else b.spawnNode p m seg e w0 w1 w2 w3

/-- SPAWN (R291). -/
def execSpawn (bead : Nat) (win : BitVec 12) (w0 w1 w2 w3 : Word) (m : MemView) (s : State) :
    Host.Outcome State Fault Refusal :=
  .next { s with blk := spawn s.params bead win.toNat w0 w1 w2 w3 m s.blk }

/-! ## The graph pager -/

/-- R236, R51: part of a spilled node's entries returns; with the last part they stand in the cache again, and what
waited for them proceeds. An error poisons the node. -/
def Block.entryBack (p : Params) (m : MemView) (seg index : Nat) (code : BitVec 2) (b : Block) : Block :=
  let n := b.node seg index
  if !n.used || !n.spilled then b
  else
    let b := if code = 0#2 then b else b.modNode seg index fun n =>
      { n with pstatus := if n.pstatus = 0 then Status.ecc else n.pstatus }
    if (b.mp.reads ++ b.mp.heldReads).any (·.purpose == .refill seg index) then b
    else ((b.modNode seg index fun n => { n with spilled := false }).seen seg index).pgStep p m

/-- R236: the answer to a refill's read. -/
def pagerRefill (p : Params) (seg index : Nat) (code : BitVec 2) (m : MemView) (b : Block) : Block :=
  match b.mp.readFor (.refill seg index) with
  | none => b
  | some r => (b.answerRead r code).entryBack p m seg index code

/-- PAGER_REFILL (R236). -/
def execPagerRefill (seg index : Nat) (answer : RefillAnswer) (s : State) : Host.Outcome State Fault Refusal :=
  .next { s with blk := pagerRefill s.params seg index answer.code answer.view s.blk }

/-- R237: no entry can be freed in cache or region. -/
def pagerFull (p : Params) (b : Block) : Block := b.pgCheck p true

/-- PAGER_FULL (R237). -/
def execPagerFull (s : State) : Host.Outcome State Fault Refusal :=
  .next { s with blk := pagerFull s.params s.blk }

/-- R241: the sweep reads the next unit of the region, if one is left, once the write that a spill made there is
acknowledged (R48); before a Setting load no request goes out (R73). (DEDUCED, log 144) -/
def Block.sweepNext (b : Block) : Block :=
  let k := b.graph.sweepPos
  if k < b.pgUnits then b.ask 63 1 (b.slotAddr (2 * k)) 64 (.sweep k) else b

/-- R241: unit `k` has been read: it is written back if it held stale entries, with bytes that are the block's own
(DESIGN CHOICE, log 17), and the sweep goes on. -/
def Block.swept (b : Block) (k : Nat) : Block :=
  if !b.graph.sweepBusy || b.graph.sweepPos ≠ k then b
  else
    let b :=
      if b.graph.staleSlots.any (· / 2 == k) then
        let ws := b.drawWords 8
        Block.put { ws.2 with graph := { ws.2.graph with staleSlots := ws.2.graph.staleSlots.filter (· / 2 != k) } } 63 1
          (b.slotAddr (2 * k)) (wordsBytes ws.1) .sweep
      else b
    Block.sweepNext { b with graph := { b.graph with
      sweepPos := k + 1, sweepPercent := min 99 (100 * (k + 1) / b.pgUnits) } }

/-- R241: a sweep starts, and passes over the cache. -/
def sweepStart (b : Block) : Block :=
  if b.graph.sweepBusy then b
  else Block.sweepNext { b with graph := { b.graph with sweepBusy := true, sweepPercent := 0, sweepPos := 0, advNew := [] } }

/-- R238: CLR_ERR. -/
def pgClearErr (b : Block) : Block := { b with graph := { b.graph with stale := 0, underflow := 0 } }

/-- A write of CLS_PG_CMD. -/
def pgCommand (d : Word) (b : Block) : Block :=
  let b := if bit d 1 then pgClearErr b else b
  if bit d 0 then sweepStart b else b

/-- SWEEP (R241). -/
def execSweep (a : Acc) (s : State) : Host.Outcome State Fault Refusal :=
  .next (s.command a .pgCmd fun _ b => sweepStart b)

/-- CLR_ERR (R238). -/
def execClrErr (a : Acc) (s : State) : Host.Outcome State Fault Refusal :=
  .next (s.command a .pgCmd fun _ b => pgClearErr b)

/-- R241: the sweep that runs completes once it has passed the region; SWEEP_REQ is evaluated against the counts from its start. -/
def sweepComplete (b : Block) : Block :=
  let g := b.graph
  if !g.sweepBusy || g.sweepPos < b.pgUnits || b.mp.writesFor (· == .sweep) then b
  else { b with graph := { g with
    sweepBusy := false
    sweepPercent := 100
    adv := g.advNew
    advNew := []
    sweepReq := g.advNew.any fun t => 8192 ≤ t.2 } }

/-- SWEEP_COMPLETE (R241). -/
def execSweepComplete (s : State) : Host.Outcome State Fault Refusal :=
  .next { s with blk := sweepComplete s.blk }

end Sys2Proof.Machine
end

