-- ==== Sys2Proof/Machine/Bead.lean ====
section
/-! DEFINITION. The Bead: its issue window (R213, R214, R221 to R230), indirect parameters (R203, R206,
R462), the order of issue and the choice of slots (R265 to R272, R423, R461, R518, R530), the regulators
(R273 to R277), the engine port (R254 to R258), byte counters (R483 to R485) and Bead stops (R487 to
R491). -/

namespace Sys2Proof.Machine

/-! ## The node in a window -/

/-- The partition of the node at a window entry. -/
def Block.winPart (b : Block) (n w : Nat) : Nat :=
  let e := b.win n w
  if e.piece then (match (b.cwin n w).piece with | some (q, _) => q | none => 0) else (b.sub e.seg).part

/-- The node is urgent. -/
def Block.winUrgent (b : Block) (n w : Nat) : Bool :=
  let e := b.win n w
  !e.piece && (b.sub e.seg).urgent

/-- R191: the tile word of a TASK that is a common tile list: N. -/
def WinEntry.tiles (e : WinEntry) : Option Nat :=
  let t := (e.param[6]?).getD 0
  if e.kind = 0 && !e.piece && bit t 63 then some (fld t 16 0) else none

/-- TASK or COLL. -/
def WinEntry.engine (e : WinEntry) : Bool := e.kind == 0 || e.kind == 6

/-- R203, R214: every read of the node has returned. -/
def WinEntry.readsDone (e : WinEntry) : Bool :=
  !e.recordDue && !e.paramDue && e.indirectDue.isEmpty && (e.indirect == 0 || e.indirectAsked || !e.engine)

/-- R489: a breakpoint holds the node. -/
def WinEntry.broken (e : WinEntry) : Bool := e.brk && !e.brkPassed

/-- The counter of a tile list that has dispatched a tile: its place among the 32. -/
def Bead.tileOf (d : Bead) (w : Nat) : Option (Nat × Tile) :=
  d.tiles.find? fun t => t.2.used && t.2.win == w

/-- The lowest free tile counter (R269). -/
def Bead.freeTile (d : Bead) : Option Nat := (List.range 32).find? fun i => !(tget {} d.tiles i).used

/-- Changes tile counter `i` of Bead `n`. -/
def Block.modTile (b : Block) (n i : Nat) (f : Tile → Tile) : Block :=
  b.modBead n fun d => { d with tiles := tmod {} d.tiles i f }

/-- `k` upstream EVT records with SRC `src`. -/
def Block.sendEvts (p : Params) (n src : Nat) : Nat → Block → Block
  | 0, b => b
  | k + 1, b => Block.sendEvts p n src k (b.sendUp p n (evtRec p n src))

/-- The final status of a node in a window is known; its window edges and its CPL are still to go out. -/
def Block.winEnds (b : Block) (n w : Nat) (st : Status) (released : Bool) : Block :=
  let b := match (b.bead n).tileOf w with
    | some t => b.modTile n t.1 fun _ => {}
    | none => b
  b.modWin n w fun e =>
    { e with state := .leaving, final := if e.eccBad then Status.ecc else st, released := released }

/-! ## Indirect parameters -/

/-- The words that INDIRECT names. -/
def indirectWords (ind : Nat) : List Nat := (List.range 6).filter fun k => bits ind k k == 1

/-- R462: a reporting task whose P4 or P5 is indirect. -/
def Block.badReport (b : Block) (e : WinEntry) : Bool :=
  !e.piece && (b.sub e.seg).audited && e.kind == 0 && e.cls == 2 && bits e.indirect 5 4 != 0
    && bit ((e.param[5]?).getD 0) 63

/-- R206, R462: all indirect words have returned: the lowest-numbered failure releases the node. A poison that a
TOLERANT node took before is the failure detected first (R17). -/
def Block.indirectEnds (b : Block) (n w : Nat) : Block :=
  let e := b.win n w
  if e.state != .wready || !e.indirectAsked || !e.indirectDue.isEmpty then b
  else match (List.range 6).find? fun k => e.indirectFail.any fun t => t.1 == k with
  | some k =>
      let st := match e.indirectFail.find? (fun t => t.1 == k) with | some t => t.2 | none => Status.format
      b.winEnds n w (firstFailure e.pstatus st) true
  | none => if b.badReport e then b.winEnds n w (firstFailure e.pstatus Status.format) true else b

/-- R203, R204: one indirect word is asked for, or found ill-formed. -/
def Block.askIndirect (n w : Nat) (b : Block) (k : Nat) : Block :=
  let e := b.win n w
  let a := ((e.param[k]?).getD 0).toNat
  if addrOk a 8 then
    (b.ask n 4 a 8 (.indirect n w e.gen k)).modWin n w fun e => { e with indirectDue := e.indirectDue ++ [k] }
  else b.modWin n w fun e => { e with indirectFail := e.indirectFail ++ [(k, Status.format)] }

/-- R203: a TASK or COLL node that is WREADY and whose parameters have returned reads its indirect
words. -/
def Block.startIndirect (b : Block) (n w : Nat) : Block :=
  let e := b.win n w
  if e.state == .wready && e.engine && e.indirect != 0 && !e.paramDue && !e.indirectAsked then
    let b := (indirectWords e.indirect).foldl (Block.askIndirect n w) b
    (b.modWin n w fun e => { e with indirectAsked := true }).indirectEnds n w
  else b

/-- R203, R206: an indirect word returns. -/
def Block.indirectReturn (n w gen k : Nat) (code : BitVec 2) (data : Word) (b : Block) : Block :=
  let e := b.win n w
  if !e.used || e.gen ≠ gen || !e.indirectDue.contains k then b
  else
    let st := codeStatus Status.indirectFault code
    let b := b.modWin n w fun e =>
      if st = Status.ok then { e with indirectDue := e.indirectDue.erase k, param := e.param.set k data }
      else { e with indirectDue := e.indirectDue.erase k, indirectFail := e.indirectFail ++ [(k, st)] }
    b.indirectEnds n w

/-- R203. -/
def indirectReadReturn (n w k : Nat) (code : BitVec 2) (data : Word) (b : Block) : Block :=
  let gen := (b.win n w).gen
  match b.mp.readFor (.indirect n w gen k) with
  | none => b
  | some r => (b.answerRead r code).indirectReturn n w gen k code data

/-- INDIRECT_READ_RETURN (R203, R206). -/
def execIndirectReadReturn (bead : Nat) (win : BitVec 12) (k : Nat) (code : BitVec 2) (data : Word) (s : State) :
    Host.Outcome State Fault Refusal :=
  .next { s with blk := indirectReadReturn bead win.toNat k code data s.blk }

/-! ## Decrements in a window -/

/-- The next place in the order in which the nodes of Bead `n` become ready. -/
def Block.nextOrder (b : Block) (n : Nat) : Nat := (b.bead n).orderNext

/-- R215, R230: the counter of a node in a window has reached zero: it takes place `o` among the ready nodes. -/
def Block.winReady (b : Block) (n w o : Nat) : Block :=
  let e := b.win n w
  if isFailure e.pstatus && (!e.tolerant || e.pstatus = Status.aborted) then b.winEnds n w e.pstatus true
  else
    let b := b.modBead n fun d => { d with orderNext := max d.orderNext (o + 1) }
    (b.modWin n w fun e => { e with state := .wready, order := o }).startIndirect n w

/-- R230, R234: `cnt` decrements of the node at entry `w`, by a node or a record of submission `seg`,
with the poison `st`; a node that becomes ready takes place `o`. What finds no counter to lower is discarded and reported, but for a node that an
abandonment has released (R233). (DEDUCED, log 77) -/
def Block.winDec (p : Params) (n w cnt seg : Nat) (st : Status) (o : Nat) (b : Block) : Block :=
  let e := b.win n w
  if !e.used || e.state == .leaving then
    if (b.sub seg).abandoned.isSome then b else b.sendEvts p n 5 cnt
  else
    let k := min cnt e.count
    let b := b.sendEvts p n 5 (cnt - k)
    if k = 0 then b
    else
      let b := b.modWin n w fun e =>
        { e with pstatus := if e.pstatus = 0 then poisonOf st else e.pstatus, count := e.count - k }
      if k = e.count then b.winReady n w o else b

/-- R226: a record for entry `w` is discarded. -/
def Block.staleRecord (p : Params) (n w type : Nat) (b : Block) : Block :=
  b.countStale.beadLocket p n 64 0x18 (pack [(w, 12, 0), (type, 4, 12)])

/-- A record reaches Bead `n`: one that has been fenced off discards it (R517). -/
def Block.atBead (p : Params) (b : Block) (n : Nat) (r : Rec) (f : Block → Block) : Block :=
  b.onDown p n r fun b => if (b.bead n).fencedOff then b else f b

/-- DEC (R226, R234). -/
def decArrive (p : Params) (n w gen cnt : Nat) (b : Block) : Block :=
  b.atBead p n (decRec p n w gen cnt) fun b =>
    let e := b.win n w
    if !e.used || e.gen ≠ gen then b.staleRecord p n w 2 else b.winDec p n w cnt e.seg Status.ok (b.nextOrder n)

/-- DEC (R226). -/
def execDec (bead : Nat) (win : BitVec 12) (gen cnt : BitVec 16) (s : State) : Host.Outcome State Fault Refusal :=
  .next { s with blk := decArrive s.params bead win.toNat gen.toNat cnt.toNat s.blk }

/-- R233: a FENCE with ABORTED releases a node that has not issued; a tile list that has dispatched
tiles dispatches no more. -/
def Block.winAbort (b : Block) (n w : Nat) : Block :=
  let b := b.modWin n w fun e => { e with fenced := true }
  let e := b.win n w
  if e.state != .window && e.state != .wready then b
  else match (b.bead n).tileOf w with
  | some t => b.modTile n t.1 fun x => { x with failed := if x.failed = 0 then e.pstatus else x.failed }
  | none => b.winEnds n w e.pstatus true

/-- FENCE (R226, R230, R233). -/
def fenceArrive (p : Params) (n w gen : Nat) (st : Status) (b : Block) : Block :=
  b.atBead p n (fenceRec p n w gen st) fun b =>
    let e := b.win n w
    if !e.used || e.gen ≠ gen then b.staleRecord p n w 3
    else if e.state == .leaving then b
    else
      let b := b.modWin n w fun e => { e with pstatus := if e.pstatus = 0 then st else e.pstatus }
      if st = Status.aborted then b.winAbort n w else b

/-- FENCE (R226). -/
def execFence (bead : Nat) (win : BitVec 12) (gen : BitVec 16) (status : Status) (s : State) :
    Host.Outcome State Fault Refusal :=
  .next { s with blk := fenceArrive s.params bead win.toNat gen.toNat status s.blk }

/-! ## NODE -/

/-- R259: the slots of a Bead, as its Setting stands there, that a TASK or COLL node may use. -/
def Block.slotsFor (p : Params) (b : Block) (n cls part : Nat) (urgent : Bool) : List Nat :=
  (List.range (p.bead n).slots).filter fun i =>
    let c := (b.slot n i).cfg
    c.enabled && c.cls == cls && c.part == part && (!c.expressRes || urgent)

/-- The window entry that a form 0 entry describes (R213). -/
def entryOf (gen : Nat) (w0 w1 w2 w3 : Word) : WinEntry :=
  let k := fld w0 61 58
  { used := true, gen := gen, seg := fld w0 15 0, sgen := fld w1 31 16, index := fld w1 63 32
    kind := k, tolerant := bit w0 57, brk := bit w0 56, tgtV := bit w0 55, cls := fld w0 54 52
    slot := fld w0 51 46, indirect := fld w0 45 40, pstatus := BitVec.ofNat 8 (fld w0 39 32)
    count := fld w0 31 16, next := fld w1 8 0, forms := fld w1 8 0
    recordDue := k != 1, paramDue := k != 1 && fld w3 55 0 != 0
    recordAddr := fld w2 55 0, paramAddr := fld w3 55 0, piece := fld w1 63 32 == 0xFFFFFFFF }

/-- R484, R485: a submission enters a window. -/
def Bead.openLatch (d : Bead) (seg sgen : Nat) : Bead :=
  if d.latches.any (·.seg == seg) || d.overflow.contains seg then d
  else if d.latches.length < 64 then { d with latches := d.latches ++ [{ seg := seg, sgen := sgen }] }
  else { d with overflow := d.overflow ++ [seg], unattr := satAdd 16 d.unattr 1 }

/-- R214, R268: a form 0 entry takes window entry `w`. -/
def Block.nodeEnters (p : Params) (n w : Nat) (e : WinEntry) (b : Block) : Block :=
  let b := b.modWin n w fun _ => e
  let b := b.modWin n w fun e =>
    if (b.bead n).det && e.engine && !e.tgtV && !e.piece then
      { e with fixed := b.slotsFor p n e.cls (b.winPart n w) (b.winUrgent n w) }
    else e
  let b := if e.piece then b else b.modBead n fun d => d.openLatch e.seg e.sgen
  let b := b.beadLocket p n 64 0x10 (pack [(w, 12, 0), (e.seg, 16, 12)])
  let sub := if e.piece then none else some (e.seg, e.sgen)
  let b := if e.recordDue then b.ask n 0 e.recordAddr 64 (.nodeRecord n w e.gen sub) else b
  let b := if e.paramDue then b.ask n 0 e.paramAddr 64 (.nodeParam n w e.gen sub) else b
  if e.count = 0 then b.winReady n w (b.nextOrder n) else b

/-- The window indices of a form 1 entry. -/
def form1Edges (w0 w1 w2 w3 : Word) : List Nat :=
  (List.range (fld w0 61 58)).map fun i =>
    let w := if i < 4 then w1 else if i < 8 then w2 else w3
    fld w (16 * (i % 4) + 11) (16 * (i % 4))

/-- NODE (R213, R214, R226). A record of another form is never sent. -/
def nodeArrive (p : Params) (n w gen : Nat) (w0 w1 w2 w3 : Word) (b : Block) : Block :=
  b.atBead p n (nodeRec p n w gen [w0, w1, w2, w3]) fun b =>
    let e := b.win n w
    if fld w0 63 62 = 0 then b.nodeEnters p n w (entryOf gen w0 w1 w2 w3)
    else if fld w0 63 62 = 1 then
      if !e.used || e.gen ≠ gen then b.staleRecord p n w 1
      else b.modWin n w fun e => { e with edges := e.edges ++ form1Edges w0 w1 w2 w3, forms := e.forms - 1 }
    else b

/-- NODE (R214). -/
def execNode (bead : Nat) (win : BitVec 12) (gen : BitVec 16) (w0 w1 w2 w3 : Word) (s : State) :
    Host.Outcome State Fault Refusal :=
  .next { s with blk := nodeArrive s.params bead win.toNat gen.toNat w0 w1 w2 w3 s.blk }

/-- R5, R191: the reserved bytes of a parameter block of the segment are zero. The block of a created node holds its
tile word there (R290). -/
def Block.paramOk (b : Block) (e : WinEntry) (ws : List Word) : Bool :=
  e.piece || decide ((b.sub e.seg).nnodes ≤ e.index) || reservedZero ws

/-- R214, R191: a read of a node's record or parameters returns. An error, or a reserved byte that is set, abandons the
submission, also where the node has been released meanwhile (DEDUCED, log 20); a piece of a context switch fails. -/
def Block.nodeRead (p : Params) (n w gen : Nat) (sub : Option (Nat × Nat)) (param : Bool) (st : Status) (ws : List Word)
    (b : Block) : Block :=
  let e := b.win n w
  let here := e.used && e.gen == gen
  let st := if st = Status.ok && here && param && !b.paramOk e ws then Status.format else st
  if st ≠ Status.ok then
    match sub with
    | some (seg, sgen) => if tget 0 b.graph.sgen seg = sgen then b.abandon p seg st none else b
    | none => if here && e.state != .leaving then b.winEnds n w st true else b
  else if !here then b
  else
    let b := b.modWin n w fun e =>
      if param then { e with param := ws, paramDue := false } else { e with record := ws, recordDue := false }
    b.startIndirect n w

/-! ## Leaving the window -/

/-- R223: the CPL of a node whose window edges have all been applied; its window entry is free on the
Bead. (DEDUCED, log 19) -/
def Block.sendCpl (p : Params) (n w : Nat) (b : Block) : Block :=
  let e := b.win n w
  let b := b.modWin n w fun _ => {}
  let b := b.sendUp p n (cplRec p n w e.gen e.final)
  let b := b.beadLocket p n 64 0x11 (pack [(w, 12, 0), (e.final.toNat, 8, 12)])
  if e.released then b
  else
    let b := b.progress 2 n
    let b := { b with front := { b.front with retired := tmod 0 b.front.retired n fun k => wrapAdd 32 k 1 } }
    if e.piece then b
    else
      let c := tget 0 (b.bead n).retCount e.seg + 1
      if c = 65535 then
        (b.sendUp p n (retRec p n e.seg c false 0)).modBead n fun d => { d with retCount := tset 0 d.retCount e.seg 0 }
      else b.modBead n fun d => { d with retCount := tset 0 d.retCount e.seg c }

/-- R34, R228: the first window edges of each bank, 16 at most, are applied at once, the others wait; `used` lists the
banks that have taken one. Each edge has its place, in list order, among the nodes that become ready, so one that
waited for its bank joins where its edge stands. (DEDUCED, log 132) -/
def Block.applyBanks (p : Params) (n w seg : Nat) (st : Status) : List Nat → Nat → List Nat → Block → Block
  | _, o, [], b => b.modBead n fun d => { d with orderNext := max d.orderNext o }
  | used, o, x :: xs, b =>
      let k := x % 32
      if 16 ≤ used.length || used.contains k || (b.bead n).bank.any (fun t => t.2.1 % 32 == k) then
        Block.applyBanks p n w seg st used (o + 1) xs
          (b.modBead n fun d => { d with bank := d.bank ++ [(w, x, st, o)] })
      else Block.applyBanks p n w seg st (k :: used) (o + 1) xs (b.winDec p n x 1 seg st o)

/-- R223: a node leaves its window once all its form 1 entries have come (R221) and the crossing has room for its CPL
(R66). -/
def windowEdgesApply (p : Params) (n w : Nat) (b : Block) : Block :=
  let e := b.win n w
  if !e.used || e.state != .leaving || e.forms ≠ 0 || (b.bead n).bank.any (fun t => t.1 == w) || !b.roomUp p n then b
  else
    let b := b.applyBanks p n w e.seg e.final [] (b.nextOrder n) e.edges
    if (b.bead n).bank.any fun t => t.1 == w then b else b.sendCpl p n w

/-- WINDOW_EDGES_APPLY (R223). -/
def execWindowEdgesApply (bead : Nat) (win : BitVec 12) (s : State) : Host.Outcome State Fault Refusal :=
  .next { s with blk := windowEdgesApply s.params bead win.toNat s.blk }

/-- R34: the bank takes the oldest decrement that waits for it. The last one of a node waits until the crossing has room
for the CPL that follows it (R66). -/
def bankDecrement (p : Params) (n k : Nat) (b : Block) : Block :=
  match (b.bead n).bank.find? fun t => t.2.1 % 32 == k with
  | none => b
  | some t =>
      if !((b.bead n).bank.erase t).any (fun u => u.1 == t.1) && !b.roomUp p n then b
      else
      let seg := (b.win n t.1).seg
      let b := b.modBead n fun d => { d with bank := d.bank.erase t }
      let b := b.winDec p n t.2.1 1 seg t.2.2.1 t.2.2.2
      if (b.bead n).bank.any fun u => u.1 == t.1 then b else b.sendCpl p n t.1

/-- BANK_DECREMENT (R34). -/
def execBankDecrement (bead : Nat) (bank : BitVec 5) (s : State) : Host.Outcome State Fault Refusal :=
  .next { s with blk := bankDecrement s.params bead bank.toNat s.blk }

/-- R215: a NOP that is WREADY and not held by a breakpoint retires with OK. (DEDUCED, log 67) -/
def nopRetire (n w : Nat) (b : Block) : Block :=
  let e := b.win n w
  if e.used && e.kind == 1 && e.state == .wready && !e.broken && !(b.bead n).fencedOff then
    b.winEnds n w Status.ok false
  else b

/-- NOP_RETIRE (R215). -/
def execNopRetire (bead : Nat) (win : BitVec 12) (s : State) : Host.Outcome State Fault Refusal :=
  .next { s with blk := nopRetire bead win.toNat s.blk }

/-- A dispatch of the node at `w` is presented and not transferred. -/
def Bead.presents (d : Bead) (w : Nat) : Bool :=
  d.slots.any fun t => match t.2.presented with | some x => x.win == w | none => false

/-- R271: the tile list at window entry `w` has nothing more to run: its tiles have all completed, or none is left that
may be dispatched. -/
def Bead.listOver (d : Bead) (w : Nat) (e : WinEntry) : Bool :=
  match e.tiles, d.tileOf w with
  | some k, some (_, t) =>
      t.done == t.next - t.back.length && !d.presents w && ((t.next == k && t.back.isEmpty) || t.failed != 0)
  | _, _ => false

/-- R271: a tile list retires. (DEDUCED, log 68) -/
def tileListRetire (n w : Nat) (b : Block) : Block :=
  let e := b.win n w
  let d := b.bead n
  if !e.used || d.fencedOff || (e.state != .wready && e.state != .issued) then b
  else match e.tiles, d.tileOf w with
  | some k, none =>
      if k = 0 && e.state == .wready && e.readsDone && !e.broken then b.winEnds n w Status.empty false else b
  | some _, some (_, t) =>
      if d.listOver w e then b.winEnds n w t.failed false else b
  | none, _ => b

/-- TILE_LIST_RETIRE (R271). -/
def execTileListRetire (bead : Nat) (win : BitVec 12) (s : State) : Host.Outcome State Fault Refusal :=
  .next { s with blk := tileListRetire bead win.toNat s.blk }

/-! ## Regulators -/

/-- R276: the declarations of a node, (counter, KiB), from its record. -/
def WinEntry.declared (e : WinEntry) : List (Nat × Nat) :=
  let w := (e.record[2]?).getD 0
  if e.piece then []
  else [(fld w 31 27, fld w 26 0), (fld w 63 59, fld w 58 32)].filter fun t => t.2 != 0

/-- R277: what a dispatch charges to a bucket, in thousandths of a byte. -/
def chargeOf (decls : List (Nat × Nat)) (counter : Nat) : Nat :=
  (decls.filter fun t => t.1 == counter).foldl (fun k t => k + t.2 * 1024000) 0

/-- R277: the regulators admit the node. -/
def Bead.admits (d : Bead) (decls : List (Nat × Nat)) : Bool :=
  d.buckets.all fun u => chargeOf decls u.counter == 0 || decide (0 < u.level)

/-- R277: the charges of a dispatch. -/
def Bead.charge (d : Bead) (decls : List (Nat × Nat)) : Bead :=
  { d with buckets := d.buckets.map fun u => { u with level := u.level - (chargeOf decls u.counter : Int) } }

/-- R275: a bucket gains `x` thousandths of a byte; LEVEL never exceeds BURST × 1,024. -/
def Bucket.gain (u : Bucket) (x : Nat) : Bucket := { u with level := min (u.level + (x : Int)) (u.burst * 1024000 : Nat) }

/-- R530: the charges of a withdrawn dispatch are returned. -/
def Bead.refund (d : Bead) (decls : List (Nat × Nat)) : Bead :=
  { d with buckets := d.buckets.map fun u => u.gain (chargeOf decls u.counter) }

/-- R275: the gain of `k` periods of 64 ns. -/
def Bucket.refill (k : Nat) (u : Bucket) : Bucket := u.gain (k * (u.rate * 64))

/-- R275: every bucket gains once for each multiple of 64 ns that global time has reached since the last refill.
(DEDUCED, log 69) -/
def regulatorRefill (b : Block) : Block :=
  let k := b.now / 64 - b.refilled / 64
  if k = 0 then b
  else
    let b := (b.beads.map (·.1)).foldl
      (fun b n => b.modBead n fun d => { d with buckets := d.buckets.map (Bucket.refill k) }) b
    { b with refilled := b.now }

/-- REGULATOR_REFILL (R275). -/
def execRegulatorRefill (s : State) : Host.Outcome State Fault Refusal :=
  .next { s with blk := regulatorRefill s.blk }

/-! ## The choice of a slot -/

/-- R24, R57, R267: slot `i` can take a dispatch. -/
def Block.canTake (b : Block) (n i : Nat) : Bool :=
  let s := b.slot n i
  decide (s.held.length < if b.prefetch.contains (n, i) then 2 else 1) && s.presented.isNone
    && !s.resetDue && !s.resetReq && !s.resetWait

/-- R267: the lowest-numbered slot of `l` that holds no task, else the lowest that holds one and
declares a prefetch stage. One that holds none and cannot take a dispatch is passed over (DESIGN CHOICE, log 165). -/
def Block.freeChoice (b : Block) (n : Nat) (l : List Nat) : Option Nat :=
  match l.find? fun i => b.canTake n i && (b.slot n i).held.isEmpty with
  | some i => some i
  | none => l.find? fun i => b.canTake n i

/-- R270: the tile that a tile list dispatches next. -/
def Bead.nextTile (d : Bead) (w : Nat) : Nat :=
  match d.tileOf w with
  | some (_, t) => match t.back with | x :: _ => x | [] => t.next
  | none => 0

/-- R268, R270: the fixed slot of a node in deterministic mode. -/
def Block.fixedSlot (b : Block) (n w : Nat) : Option Nat :=
  let e := b.win n w
  let i := match e.tiles with | some _ => (b.bead n).nextTile w | none => e.index
  e.fixed[i % e.fixed.length]?

/-- R518: no slot is left that the node may use. -/
def Block.slotLost (p : Params) (b : Block) (n w : Nat) : Bool :=
  let e := b.win n w
  if e.piece then false
  else if e.tgtV then !((b.slot n e.slot).cfg.enabled && (b.slot n e.slot).cfg.cls == e.cls)
  else
    let l := b.slotsFor p n e.cls (b.winPart n w) (b.winUrgent n w)
    if (b.bead n).det then (match b.fixedSlot n w with | some i => !l.contains i | none => true)
    else l.isEmpty

/-- R261, R267, R268, R270, R423: the slot that the node would be dispatched to now. -/
def Block.chooseSlot (p : Params) (b : Block) (n w : Nat) : Option Nat :=
  let e := b.win n w
  if e.piece then
    b.freeChoice n ((List.range (p.bead n).slots).filter fun i =>
      let c := (b.slot n i).cfg
      c.enabled && c.cls == 2 && c.part == b.winPart n w)
  else if e.tgtV then (if b.canTake n e.slot then some e.slot else none)
  else if (b.bead n).det then
    match b.fixedSlot n w with
    | some i => if b.canTake n i then some i else none
    | none => none
  else b.freeChoice n (b.slotsFor p n e.cls (b.winPart n w) (b.winUrgent n w))

/-- R518, R17: nodes of Bead `n` that have lost their slots are released; a tile list that has dispatched
tiles dispatches no further. -/
def Block.releaseLost (p : Params) (b : Block) (n : Nat) : Block :=
  (((b.bead n).win.filter fun t => t.2.used && t.2.engine && (t.2.state == .window || t.2.state == .wready)).map
    (·.1)).foldl (fun b w =>
      if !b.slotLost p n w then b
      else
        let st := firstFailure (b.win n w).pstatus Status.mismatch
        match (b.bead n).tileOf w with
        | some t => b.modTile n t.1 fun x => { x with failed := if x.failed = 0 then st else x.failed }
        | none => b.winEnds n w st true) b

/-- R269, R271: a tile list has a tile left to dispatch and a counter. -/
def Block.tileOpen (b : Block) (n w : Nat) : Bool :=
  match (b.win n w).tiles, (b.bead n).tileOf w with
  | none, _ => true
  | some k, some (_, t) => t.failed == 0 && (t.next < k || !t.back.isEmpty)
  | some k, none => k != 0 && (b.bead n).freeTile.isSome

/-- R286, R497: the Saffron unit can take an expansion. -/
def Block.saffronOpen (p : Params) (b : Block) (n : Nat) : Bool :=
  p.saffron && !(b.saf n).busy && (b.dom (9 + 2 * n)).state == .on

/-- R266: the node at entry `w` can be selected. -/
def Block.selectable (p : Params) (b : Block) (n w : Nat) : Bool :=
  let e := b.win n w
  e.used && e.state == .wready && e.readsDone && !e.broken
    && (e.piece || b.mayAct e.seg (startsKind e.kind) && b.changeCame p n (b.sub e.seg).ctx)
    && (if e.kind = 2 then b.saffronOpen p n
        else e.engine && b.tileOpen n w && (b.chooseSlot p n w).isSome && (b.bead n).admits e.declared)

/-- R265: of two nodes, the one that stands earlier. -/
def Block.earlier (b : Block) (n : Nat) (x : Option Nat) (w : Nat) : Option Nat :=
  match x with
  | none => some w
  | some v =>
      let uv := b.winUrgent n v
      let uw := b.winUrgent n w
      if (uw && !uv) || (uw == uv && decide ((b.win n w).order < (b.win n v).order)) then some w else some v

/-- R266: the node that the Bead selects. -/
def Block.selection (p : Params) (b : Block) (n : Nat) : Option Nat :=
  (((b.bead n).win.map (·.1)).filter (b.selectable p n)).foldl (b.earlier n) none

/-! ## Dispatch -/

/-- R461: mix. -/
def mixSeed (z : Word) : Word :=
  let z := z + 0x9E3779B97F4A7C15#64
  let z := (z ^^^ (z >>> 30)) * 0xBF58476D1CE4E5B9#64
  let z := (z ^^^ (z >>> 27)) * 0x94D049BB133111EB#64
  z ^^^ (z >>> 31)

/-- R461: seed. -/
def seedOf (g : Word) (stepNum index u : Nat) : Word :=
  mixSeed (g ^^^ mixSeed (BitVec.ofNat 64 (stepNum * 2 ^ 32 + index)) ^^^ mixSeed (BitVec.ofNat 64 u))

/-- R255: the dispatch record. -/
def Block.dispatchWords (b : Block) (n w : Nat) (tile : Option Nat) : List Word :=
  let e := b.win n w
  let s := b.sub e.seg
  let ctx := if e.piece then fld ((e.param[3]?).getD 0) 41 32 else s.ctx
  let seed := if e.piece then 0 else seedOf s.graphKey s.stepNum e.index (match tile with | some t => t + 1 | none => 0)
  (List.range 6).map (fun i => (e.param[i]?).getD 0) ++
    [seed, packW [(b.winPart n w, 4, 60), (ctx, 10, 50), (b2n tile.isSome, 1, 49), (tile.getD 0, 16, 32),
      (e.index, 32, 0)]]

/-- R270: a tile list fetches the tile that it dispatches. -/
def Block.fetchTile (b : Block) (n w k : Nat) : Block :=
  match (b.bead n).tileOf w with
  | some (i, _) => b.modTile n i fun t =>
      match t.back with
      | _ :: r => { t with back := r }
      | [] => { t with next := t.next + 1 }
  | none =>
      match (b.bead n).freeTile with
      | some i => b.modTile n i fun _ => { used := true, win := w, n := k, next := 1 }
      | none => b

/-- R266: the dispatch of the selected node is presented on `slot`. -/
def Block.present (b : Block) (n w slot : Nat) : Block :=
  let e := b.win n w
  let tile := match e.tiles with | some _ => some ((b.bead n).nextTile w) | none => none
  let words := b.dispatchWords n w tile
  let b := b.modBead n fun d => d.charge e.declared
  let b := b.modSlot n slot fun s =>
    { s with presented := some { win := w, tile := tile, words := words, charges := e.declared } }
  let b := match e.tiles with | some k => b.fetchTile n w k | none => b
  b.modWin n w fun e => { e with state := if b.tileOpen n w && e.tiles.isSome then .wready else .issued }

/-- R266, R286: one selection. -/
def Block.select (p : Params) (b : Block) (n : Nat) : Block :=
  match b.selection p n with
  | none => b
  | some w =>
      let e := b.win n w
      let b := if e.piece then b else b.modSub e.seg fun s => { s with started := true }
      if e.kind = 2 then
        (b.modSaf n fun u => { u with busy := true, win := w }).modWin n w fun e => { e with state := .issued }
      else match b.chooseSlot p n w with
        | some i => b.present n w i
        | none => b

/-- R502: an EXPAND node waits for the Saffron domain. -/
def Block.expandWaits (b : Block) (n : Nat) : Block :=
  if (b.dom (9 + 2 * n)).state != .on && ((b.bead n).win.any fun t => t.2.kind == 2 && t.2.state == .wready) then
    b.waitDomain (9 + 2 * n)
  else b

/-- R266, R275, R518: up to two nodes are selected in a bc, once the buckets hold what they have gained until now. -/
def issueSelect (p : Params) (n : Nat) (b : Block) : Block :=
  let d := b.bead n
  if d.fencedOff then b
  else
    let b := regulatorRefill b
    let b := b.releaseLost p n
    if d.mode != .run then b
    else ((b.expandWaits n).select p n).select p n

/-- ISSUE_SELECT (R266). -/
def execIssueSelect (bead : Nat) (s : State) : Host.Outcome State Fault Refusal :=
  .next { s with blk := issueSelect s.params bead s.blk }

/-! ## The engine port -/

/-- R254, R487, R493, R517: the presented dispatch transfers; a Bead that stops, has stopped or is fenced off lets none
through until it is in RUN again (DEDUCED, log 133). -/
def dispatchTransfer (p : Params) (n i : Nat) (b : Block) : Block :=
  if (b.bead n).mode != .run || (b.bead n).fencedOff then b
  else match (b.slot n i).presented with
  | none => b
  | some x =>
      let t := x.tile.getD 0
      let v := b2n x.tile.isSome
      let b := b.modSlot n i fun s => { s with held := s.held ++ [{ win := x.win, tile := x.tile }], presented := none }
      let b := { b with front := { b.front with issued := tmod 0 b.front.issued n fun k => wrapAdd 32 k 1 } }
      let b := b.progress 2 n
      let b := b.beadLocket p n i 0x01 (pack [(x.win, 12, 0), (v, 1, 12), (t, 16, 16)])
      b.beadTrace p n 16 2 (pack [(i, 6, 0), (x.win, 12, 6), (v, 1, 18)])
        [packW [((b.win n x.win).index, 32, 0), (t, 16, 32)]]

/-- DISPATCH_TRANSFER (R254). -/
def execDispatchTransfer (bead slot : Nat) (s : State) : Host.Outcome State Fault Refusal :=
  .next { s with blk := dispatchTransfer s.params bead slot s.blk }

/-- The task at the node `w`, or one tile of it, has ended with `st`. -/
def Block.taskEnds (b : Block) (n : Nat) (h : HeldTask) (st : Status) : Block :=
  match h.tile, (b.bead n).tileOf h.win with
  | some _, some (i, _) => b.modTile n i fun t =>
      { t with done := t.done + 1, failed := if t.failed = 0 && isFailure st then st else t.failed }
  | some _, none => b
  | none, _ => b.winEnds n h.win st false

/-- R257: the status that the Bead takes. -/
def takenStatus (st : Status) : Status := if 0x80 ≤ st.toNat then Status.poisoned else st

/-- R58, R256: a completion is discarded. -/
def Block.discardCompletion (p : Params) (b : Block) (n i tag : Nat) : Block :=
  let b := b.modBead n fun d => { d with proto := satAdd 16 d.proto 1 }
  let b := b.beadLocket p n i 0x03 (pack [(tag, 12, 0)])
  b.sendUp p n (evtRec p n (128 + 4 * n))

/-- R256, R257, R484: the slot's oldest task completes. -/
def Block.completeTask (p : Params) (b : Block) (n i : Nat) (h : HeldTask) (raw : Status) (nctr : Nat) : Block :=
  let st := takenStatus raw
  let e := b.win n h.win
  let b := b.modSlot n i fun s =>
    { s with
      held := s.held.drop 1
      done := wrapAdd 32 s.done 1
      beats := if nctr = 0 then s.beats else s.beats ++ [(if e.piece then none else some e.seg, nctr)] }
  let b := b.progress 1 (64 * n + i)
  let b := b.beadLocket p n i 0x02 (pack [(h.win, 12, 0), (st.toNat, 8, 12), (nctr, 5, 20)])
  let b := if st = raw then b else b.beadLocket p n i 0x04 (pack [(h.win, 12, 0), (raw.toNat, 8, 12)])
  let b := b.beadTrace p n 17 1 (pack [(i, 6, 0), (h.win, 12, 6), (st.toNat, 8, 18)]) []
  b.taskEnds n h st

/-- R56, R58, R256: a completion reaches the Bead. -/
def engineCompletion (p : Params) (n i tag : Nat) (st : Status) (nctr : Nat) (b : Block) : Block :=
  let s := b.slot n i
  if s.resetReq || (b.bead n).fencedOff then b
  else match s.held with
  | h :: _ => if h.win = tag then b.completeTask p n i h st nctr else b.discardCompletion p n i tag
  | [] => b.discardCompletion p n i tag

/-- ENGINE_COMPLETION (R256). -/
def execEngineCompletion (bead slot : Nat) (tag : BitVec 12) (status : Status) (nctr : BitVec 5) (s : State) :
    Host.Outcome State Fault Refusal :=
  .next (s.input (engineCompletion s.params bead slot tag.toNat status nctr.toNat))

/-- R484: a beat is added to a latch set; the spec gives no sum at 2^48 and above, and it is drawn
(DESIGN CHOICE, log 21). -/
def Block.addBeat (b : Block) (n seg idx bytes : Nat) : Block :=
  match (b.bead n).latches.find? (·.seg == seg) with
  | none => b
  | some l =>
      let sum := tget 0 l.sums idx + bytes
      let r : Nat × Block := if sum < 2 ^ 48 then (sum, b) else (fld b.draw.1 47 0, b.draw.2)
      r.2.modBead n fun d => { d with latches := d.latches.map fun x =>
        if x.seg = seg then { x with sums := tset 0 x.sums idx r.1 } else x }

/-- R54, R56, R483, R484: a counter beat is accepted. -/
def counterBeat (n i idx bytes : Nat) (b : Block) : Block :=
  let s := b.slot n i
  match s.beats with
  | [] => b
  | (seg, k) :: r =>
      if s.resetReq || 20 ≤ idx then b
      else
        let b := b.modSlot n i fun s => { s with beats := if k ≤ 1 then r else (seg, k - 1) :: r }
        let b := b.modBead n fun d => { d with ctrRun := tmod 0 d.ctrRun idx fun x => wrapAdd 48 x bytes }
        match seg with
        | some g => b.addBeat n g idx bytes
        | none => b

/-- COUNTER_BEAT (R483). -/
def execCounterBeat (bead slot : Nat) (idx : BitVec 5) (bytes : BitVec 48) (s : State) :
    Host.Outcome State Fault Refusal :=
  .next { s with blk := counterBeat bead slot idx.toNat bytes.toNat s.blk }

/-- The queue of the task at a window entry. -/
def Block.queueOfWin (b : Block) (n w : Nat) : Option Nat :=
  let e := b.win n w
  if e.piece then none else some (b.sub e.seg).queue

/-- R168, R436, R530: the cause of the reset of slot `i` releases the node at `w`: it is a FORCE of the Bead, or of the
node's queue. -/
def Block.resetReleases (b : Block) (n i w : Nat) : Bool :=
  (b.pbead n).state == .forcing || ((b.slot n i).resetBy.isSome && (b.slot n i).resetBy == b.queueOfWin n w)

/-- R530: a presented dispatch is withdrawn; a node that the cause of the reset releases is released. A tile that is not
the last one fetched stands in the list of those to be dispatched first, and NEXT stays (DESIGN CHOICE, log 159). -/
def Block.withdrawDispatch (b : Block) (n i : Nat) : Block :=
  match (b.slot n i).presented with
  | none => b
  | some x =>
      let b := (regulatorRefill b).modSlot n i fun s => { s with presented := none }
      let b := b.modBead n fun d => d.refund x.charges
      let b := match x.tile, (b.bead n).tileOf x.win with
        | some t, some (k, _) => b.modTile n k fun u =>
            if u.next = t + 1 then { u with next := t } else { u with back := u.back ++ [t] }
        | _, _ => b
      let b := b.modWin n x.win fun e => { e with state := .wready }
      if (b.win n x.win).fenced then b.winAbort n x.win
      else if b.resetReleases n i x.win then
        (b.modWin n x.win fun e => { e with pstatus := if e.pstatus = 0 then Status.aborted else e.pstatus }).winAbort n x.win
      else b

/-- R169: a task of another queue is aborted with the slot, whether it runs or waits in the prefetch stage (DESIGN
CHOICE, log 134). -/
def Block.locketAborted (p : Params) (n i : Nat) (b : Block) (h : HeldTask) : Block :=
  match (b.slot n i).resetBy, b.queueOfWin n h.win with
  | some f, some q => if f = q then b else b.beadLocket p n i 0x07 (pack [(f, 12, 0), (q, 12, 16)])
  | _, _ => b

/-- R56, R169, R530: ep_reset_req rises on a slot for which a rule asks for it: its tasks end with
ABORTED, and the counter beats still to come are discarded (DEDUCED, log 18). -/
def slotResetRequest (p : Params) (n i : Nat) (b : Block) : Block :=
  let s := b.slot n i
  if !s.resetDue || s.resetReq || s.resetWait then b
  else
    let b := s.held.foldl (Block.locketAborted p n i) (b.beadLocket p n i 0x05 0)
    let b := s.held.foldl (fun b h => b.taskEnds n h Status.aborted) b
    let b := b.withdrawDispatch n i
    b.modSlot n i fun s =>
      { s with held := [], beats := [], resetDue := false, resetBy := none, resetReq := true }

/-- SLOT_RESET_REQUEST (R56). -/
def execSlotResetRequest (bead slot : Nat) (s : State) : Host.Outcome State Fault Refusal :=
  .next { s with blk := slotResetRequest s.params bead slot s.blk }

/-- R57: the reset of a slot is complete; what waits for it waits no longer. -/
def Block.resetComplete (b : Block) (n i : Nat) : Block :=
  let b := b.modSlot n i fun s => { s with resetWait := false }
  let gone (l : List (Nat × Nat)) : List (Nat × Nat) := l.filter fun t => t != (n, i)
  let b := (b.front.queues.map (·.1)).foldl (fun b q => b.modQueue q fun x => { x with resets := gone x.resets }) b
  let b := (b.parts.parts.map (·.1)).foldl (fun b q => b.modPart q fun x => { x with resets := gone x.resets }) b
  b.modPbead n fun x => { x with resets := x.resets.filter (· != i) }

/-- R57: ep_reset_ack is sampled. -/
def slotResetAck (p : Params) (n i : Nat) (level : Bool) (b : Block) : Block :=
  let s := b.slot n i
  if level && s.resetReq then
    (b.modSlot n i fun s => { s with resetReq := false, resetWait := true }).beadLocket p n i 0x06 0
  else if !level && s.resetWait then b.resetComplete n i
  else b

/-- SLOT_RESET_ACK (R57). -/
def execSlotResetAck (bead slot : Nat) (level : Bool) (s : State) : Host.Outcome State Fault Refusal :=
  .next { s with blk := slotResetAck s.params bead slot level s.blk }

/-- A rule asks for the reset of slot `i` of Bead `n`, for forced queue `by'` where there is one. -/
def Block.askReset (b : Block) (n i : Nat) (by' : Option Nat) : Block :=
  let s := b.slot n i
  if s.resetDue || s.resetReq || s.resetWait then b
  else b.modSlot n i fun s => { s with resetDue := true, resetBy := by' }

/-- The slots of a Bead that hold a task. -/
def Bead.busySlots (d : Bead) : List Nat := (d.slots.filter fun t => !t.2.held.isEmpty).map (·.1)

/-! ## Latch sets -/

/-- R484: the window holds no node of the submission and every announced beat has been accepted. -/
def Bead.latchDone (d : Bead) (seg : Nat) : Bool :=
  !(d.win.any fun t => t.2.used && !t.2.piece && t.2.seg == seg)
    && !(d.slots.any fun t => t.2.beats.any fun x => x.1 == some seg)

/-- R82, R484, R485: the closing RET of a submission, and its counter records, once the crossing has room (R66). -/
def latchSetClose (p : Params) (n seg : Nat) (b : Block) : Block :=
  let d := b.bead n
  if !d.latchDone seg || d.fencedOff || !b.roomUp p n then b
  else
    let count := tget 0 d.retCount seg
    let b := b.modBead n fun d => { d with retCount := tset 0 d.retCount seg 0 }
    match d.latches.find? (·.seg == seg) with
    | some l =>
        let b := b.sendUp p n (retRec p n seg count true l.sums.length)
        let b := l.sums.foldl (fun b t => b.sendUp p n (ctrRec p n t.1 t.2)) b
        b.modBead n fun d =>
          { d with
            latches := d.latches.filter (·.seg != seg)
            lastSeg := l.seg, lastSgen := l.sgen, lastNctr := l.sums.length, lastSums := l.sums }
    | none =>
        if d.overflow.contains seg then
          (b.sendUp p n (retRec p n seg count true 0)).modBead n fun d =>
            { d with overflow := d.overflow.filter (· != seg) }
        else b

/-- LATCH_SET_CLOSE (R484). -/
def execLatchSetClose (bead seg : Nat) (s : State) : Host.Outcome State Fault Refusal :=
  .next { s with blk := latchSetClose s.params bead seg s.blk }

/-! ## Stops -/

/-- R488, R489: a node with BREAK = 1 that has not been passed is held in WREADY and stops the Bead. -/
def breakpointHold (p : Params) (n w : Nat) (b : Block) : Block :=
  let e := b.win n w
  let d := b.bead n
  if !e.used || e.state != .wready || !e.broken || e.brkHeld || d.fencedOff then b
  else
    let b := b.modWin n w fun e => { e with brkHeld := true }
    let b := b.modBead n fun d => { d with mode := if d.mode == .run then .stopping else d.mode }
    b.beadLocket p n 64 0x16 (pack [(w, 12, 0)])

/-- BREAKPOINT_HOLD on a Bead (R489). -/
def execBreakpointHold (bead : Nat) (win : BitVec 12) (s : State) : Host.Outcome State Fault Refusal :=
  .next { s with blk := breakpointHold s.params bead win.toNat s.blk }

/-- R487: nothing runs on the Bead. -/
def Block.beadQuiet (b : Block) (n : Nat) : Bool :=
  (b.bead n).slots.all (fun t => t.2.held.isEmpty && t.2.beats.isEmpty) && !(b.saf n).busy

/-- R493: the nodes that have ended have left the window with their edges and CPL, a tile list whose last tile has
completed among them, and what was to close has sent its RET and counter records. -/
def Bead.drained (d : Bead) : Bool :=
  !(d.win.any fun t => t.2.used && (t.2.state == .leaving || d.listOver t.1 t.2)) && d.bank.isEmpty
    && !(d.latches.any fun l => d.latchDone l.seg) && !(d.overflow.any d.latchDone)

/-- R487, R491, R493: a stopping Bead that has drained sends its stop report, behind the records of the tasks that have
completed (DEDUCED, log 133). -/
def stopReportSend (p : Params) (n : Nat) (b : Block) : Block :=
  let d := b.bead n
  if d.mode != .stopping || d.fencedOff || !b.beadQuiet n || !d.drained || !b.roomUp p n then b
  else
    let b := b.sendUp p n (evtRec p n 12)
    let b := b.modBead n fun d =>
      { d with
        mode := .stopped
        win := d.win.map fun t =>
          if t.2.state == .wready && t.2.broken then (t.1, { t.2 with brkReported := true }) else t }
    b.beadLocket p n 64 0x17 0

/-- STOP_REPORT_SEND (R487). -/
def execStopReportSend (bead : Nat) (s : State) : Host.Outcome State Fault Refusal :=
  .next { s with blk := stopReportSend s.params bead s.blk }

/-- R488: CTL HALT. -/
def ctlHalt (p : Params) (n epoch : Nat) (b : Block) : Block :=
  b.atBead p n (ctlRec p n 1 epoch) fun b =>
    let b := b.modBead n fun d => { d with epoch := epoch, mode := if d.mode == .run then .stopping else d.mode }
    b.beadLocket p n 64 0x12 (pack [(epoch, 32, 0)])

/-- CTL_HALT (R488). -/
def execCtlHalt (bead : Nat) (epoch : BitVec 32) (s : State) : Host.Outcome State Fault Refusal :=
  .next { s with blk := ctlHalt s.params bead epoch.toNat s.blk }

/-- R491: a node passes its breakpoint at a RESUME when it stood in WREADY at the stop report; another
is held anew. -/
def WinEntry.resume (e : WinEntry) : WinEntry :=
  { e with brkPassed := e.brkPassed || e.brkReported, brkReported := false, brkHeld := false }

/-- R488, R491: CTL RESUME. -/
def ctlResume (p : Params) (n : Nat) (b : Block) : Block :=
  b.atBead p n (ctlRec p n 2 0) fun b =>
    let b := b.modBead n fun d =>
      { d with mode := .run, win := d.win.map fun t => (t.1, t.2.resume) }
    b.beadLocket p n 64 0x13 0

/-- CTL_RESUME (R491). -/
def execCtlResume (bead : Nat) (s : State) : Host.Outcome State Fault Refusal :=
  .next { s with blk := ctlResume s.params bead s.blk }

/-- R517: a Bead fences itself off: it dispatches nothing further and resets its busy slots. -/
def Block.fenceSelf (p : Params) (b : Block) (n : Nat) : Block :=
  let b := (b.bead n).busySlots.foldl (fun b i => b.askReset n i none) b
  let b := b.modBead n fun d => { d with fencedOff := true }
  b.beadLocket p n 64 0x15 0

/-- CTL FENCE_OFF (R517). -/
def ctlFenceOff (p : Params) (n : Nat) (b : Block) : Block :=
  b.atBead p n (ctlRec p n 4 0) fun b => b.fenceSelf p n

/-- CTL_FENCE_OFF (R517). -/
def execCtlFenceOff (bead : Nat) (s : State) : Host.Outcome State Fault Refusal :=
  .next { s with blk := ctlFenceOff s.params bead s.blk }

end Sys2Proof.Machine
end

