-- ==== Sys2Proof/Machine/Queues.lean ====
section
/-! DEFINITION. Software queues (R144 to R153, R166 to R168), doorbells (R154, R155, R159), the slot
mapper (R156, R157), the fetch loop (R158, R160, R161, R163), and the stall monitor (R172, R173). -/

namespace Sys2Proof.Machine

/-! ## Answers of the memory ports -/

/-- A read of several beats is answered: it leaves those outstanding, and its errors are recorded. -/
def Block.answerBeats (b : Block) (r : RReq) (codes : List (BitVec 2)) : Block :=
  let b := { b with mp := Mp.promoteRead { b.mp with reads := b.mp.reads.erase r } r.port }
  codes.foldl (fun b c => if c = 0#2 then b else b.mpError r.port false r.cls r.addr c r.id) b

/-- A write is answered: it leaves those outstanding, reads that waited for it go out (R48), and an error is recorded
(R51). -/
def Block.answerWrite (b : Block) (r : WReq) (code : BitVec 2) : Block :=
  let b := { b with mp := (Mp.promoteWrite { b.mp with writes := b.mp.writes.erase r } r.port).promoteReads }
  if code = 0#2 then b else b.mpError r.port true r.cls r.addr code r.id

/-- What a discarded read was made for is forgotten: its answer changes nothing but the error record. -/
def Mp.scrapSlot (x : Mp) (slot : Nat) : Mp :=
  let f (r : RReq) : RReq := match r.purpose with
    | .tail s => if s = slot then { r with purpose := .scrap } else r
    | .descs s _ _ => if s = slot then { r with purpose := .scrap } else r
    | _ => r
  { x with reads := x.reads.map f, heldReads := x.heldReads.map f }

/-! ## The stall monitor -/

/-- The routes on which a sender waits for the credit of receive queue `q` of Bead `n`. -/
def Block.creditAwaited (b : Block) (n q : Nat) : Bool :=
  b.chans.any fun c => c.2.tx.any fun t =>
    t.2.routeV && t.2.dbead == n && t.2.dqueue == q && t.2.cwait

/-- "Progress and busy conditions": the unit is busy. -/
def Block.unitBusy (b : Block) (kind unit : Nat) : Bool :=
  match kind with
  | 0 =>
      let q := b.queue unit
      ((q.state == .wait || q.state == .active) && b.isResident q.part q.ctx) || q.inflight != 0
  | 1 => !(b.slot (unit / 64) (unit % 64)).held.isEmpty
  | 2 => (b.bead unit).win.any fun t => t.2.used
  | _ => b.creditAwaited (unit / 128) (unit % 128)

/-- The partition of a unit. -/
def Block.unitPart (b : Block) (kind unit : Nat) : Option Nat :=
  match kind with
  | 0 => some (b.queue unit).part
  | 1 => b.partOfBead (unit / 64)
  | 2 => b.partOfBead unit
  | _ => b.partOfBead (unit / 128)

/-- R172: the unit's partition stands stopped. -/
def Block.unitStopped (b : Block) (kind unit : Nat) : Bool :=
  match b.unitPart kind unit with
  | some q => b.claspHeld q
  | none => false

/-- R172: of the time since `since`, what the unit's partition stood stopped. -/
def Block.stoppedTime (b : Block) (kind unit since : Nat) : Nat :=
  match b.unitPart kind unit with
  | none => 0
  | some q => (b.lkt.stops.map fun t => if t.1 = q then t.2.2 - max t.2.1 since else 0).sum

/-- The units that are busy, by 2^13 × KIND + UNIT. -/
def Block.busyUnits (b : Block) : List Nat :=
  ((b.front.queues.map (·.1)).filter (b.unitBusy 0)).map (stallUnit 0) ++
    (b.beads.flatMap fun d => ((d.2.slots.map fun t => 64 * d.1 + t.1).filter (b.unitBusy 1)).map (stallUnit 1)) ++
    ((b.beads.map (·.1)).filter (b.unitBusy 2)).map (stallUnit 2) ++
    b.chans.flatMap fun c => (c.2.tx.filter fun t => t.2.routeV && t.2.cwait).map fun t =>
      stallUnit 3 (128 * t.2.dbead + t.2.dqueue)

/-- A tick of global time: the monitor notes which units are busy, and since when without a break (R172). -/
def Block.tick (b : Block) : Block :=
  let t := b.busyUnits.foldl (fun t k => tset none t k (some ((tget none b.front.busy k).getD b.now))) []
  { b with now := b.now + 1, front := { b.front with busy := t } }

/-- R172, R173: the monitor reports a unit that has stayed busy and whose counter has not moved for the window of
its KIND. (DEDUCED, log 22) -/
def stallReport (kind unit : Nat) (b : Block) : Block :=
  let f := b.front
  let us := (tget 0 f.window kind).toNat
  let last := tget (0, false) f.moved (stallUnit kind unit)
  let since := max last.1 ((tget none f.busy (stallUnit kind unit)).getD b.now)
  if us = 0 || last.2 || !b.unitBusy kind unit || b.unitStopped kind unit
      || b.now < since + 1000 * us + b.stoppedTime kind unit since then b
  else
    let f := { f with moved := tset (0, false) f.moved (stallUnit kind unit) (last.1, true) }
    if f.stalls.length < 32 then
      (Block.traceEvent { b with front := { f with
        stalls := f.stalls ++ [{ kind := kind, unit := unit, sinceUs := last.1 / 1000 }] } } 10 1
        (pack [(unit, 13, 0), (kind, 2, 16)]) []).raise 3
    else { b with front := { f with lost := satAdd 16 f.lost 1 } }

/-- STALL_REPORT (R173). -/
def execStallReport (kind : BitVec 2) (unit : Nat) (s : State) : Host.Outcome State Fault Refusal :=
  .next { s with blk := stallReport kind.toNat unit s.blk }

/-- A write of CLS_PRG_POP. -/
def popWrite (pop clr : Bool) (b : Block) : Block :=
  let f := b.front
  { b with front := { f with
    stalls := if pop then f.stalls.drop 1 else f.stalls
    lost := if clr then 0 else f.lost } }

/-- POP (R173): the oldest report is removed. -/
def execPop (a : Acc) (s : State) : Host.Outcome State Fault Refusal :=
  .next (s.command a .prgPop fun _ b => popWrite true false b)

/-- CLR_LOST (R173). -/
def execClrLost (a : Acc) (s : State) : Host.Outcome State Fault Refusal :=
  .next (s.command a .prgPop fun _ b => popWrite false true b)

/-! ## HEAD -/

/-- The ring control block's address. -/
def Queue.rcbAddr (q : Queue) : Nat := fld q.rcb 55 6 * 64
/-- The address of ring index `i` (R144). -/
def Queue.descAddr (q : Queue) (i : BitVec 32) : Nat := fld q.ring 55 12 * 4096 + 64 * (i.toNat % 2 ^ q.log2sz)

/-- R146, R149: HEAD is written to the ring control block. -/
def Block.writeHead (b : Block) (q : Nat) : Block :=
  let x := b.queue q
  (b.put 63 2 (x.rcbAddr + 0x20) (leBytes 4 x.head.toNat) (.headOf q)).modQueue q fun x => { x with sinceHead := 0 }

/-! ## Hardware slots -/

/-- A slot lets go of its queue; what it still has requested is discarded. -/
def Block.freeSlot (b : Block) (slot : Nat) : Block :=
  let q := (b.hws slot).queue
  let b := { b with mp := b.mp.scrapSlot slot }
  let b := b.modHws slot fun x => { reserved := x.reserved }
  match q with
  | some q => b.modQueue q fun x => { x with bound := none }
  | none => b

/-- The bound slot of a queue, if any, lets go of it. -/
def Block.unbindQueue (b : Block) (q : Nat) : Block :=
  match (b.queue q).bound with
  | some slot => b.freeSlot slot
  | none => b

/-- R150, R163, R166: the queue enters HALTED with `err`: source 768 + ⌊q ÷ 64⌋ and a Locket event. -/
def Block.haltQueue (b : Block) (q err : Nat) : Block :=
  let b := b.unbindQueue q
  let b := b.modQueue q fun x => { x with state := .halted, err := err }
  let b := (b.writeHead q).raise (768 + q / 64)
  b.claspLocket 0x32 (pack [(q, 12, 0)])

/-- R166: a queue reaches DISABLED; `event` when it comes from STOPPING or FORCING. -/
def Block.disableQueue (b : Block) (q : Nat) (event : Bool) : Block :=
  let b := b.unbindQueue q
  let b := b.modQueue q fun x => { x with state := .disabled }
  let b := b.writeHead q
  if event then b.raise (832 + q / 64) else b

/-- R421: the queue's context is outgoing in a partition that is not express. -/
def Block.queueOutgoing (b : Block) (x : Queue) : Bool :=
  (b.ctx x.ctx).state == .outgoing && !(b.partSec x.part).express

/-- The queue's context is resident in its partition. -/
def Block.queueResident (b : Block) (x : Queue) : Bool := b.isResident x.part x.ctx

/-- R128: the queue that carries the patch in progress. -/
def Block.patchQueue (b : Block) : Option Nat := b.loader.patchNode.map fun t => (b.sub t.1).queue

/-- R128: a patch holds the queue. -/
def Block.queueHeld (b : Block) (q : Nat) : Bool :=
  b.loader.touched.contains (b.queue q).part && b.patchQueue != some q

/-- The queue wants a hardware slot (R128, R421). -/
def Block.wantsSlot (b : Block) (q : Nat) : Bool :=
  let x := b.queue q
  x.state == .wait && b.queueResident x && decide (x.inflight < 65535) && !b.queueHeld q
    && (!b.queueOutgoing x || !b.ctxInFlight x.ctx)

/-- The queues that want a slot. -/
def Block.wanting (b : Block) : List Nat := (b.front.queues.map (·.1)).filter b.wantsSlot

/-- R156: the lowest-numbered free slot that is not reserved. -/
def Block.openSlot (b : Block) : Option Nat :=
  (List.range 64).find? fun i => (b.hws i).queue.isNone && !(b.hws i).reserved

/-- R156: the eligible slot of a queue, if it is free. -/
def Block.eligibleSlot (b : Block) (q : Nat) : Option Nat :=
  let x := b.queue q
  if x.pin then (if (b.hws x.hwsPin).queue.isNone then some x.hwsPin else none) else b.openSlot

/-- R156: the distance of queue `q` above the last queue bound at its PRIO. -/
def Block.mapDistance (b : Block) (q : Nat) : Nat :=
  subMod 4096 q (tget 4095 b.front.prioLast (b.queue q).prio + 1)

/-- R156: of two queues, the one that the mapper prefers. -/
def Block.mapBetter (b : Block) (x : Option Nat) (q : Nat) : Option Nat :=
  match x with
  | none => some q
  | some w =>
      let pw := (b.queue w).prio
      let pq := (b.queue q).prio
      if pw < pq || (pw == pq && decide (b.mapDistance q < b.mapDistance w)) then some q else some w

/-- R160: a slot clears PENDING and reads TAIL. -/
def Block.readTail (b : Block) (slot q : Nat) : Block :=
  let b := b.modQueue q fun x => { x with pend := false }
  let b := b.modHws slot fun x => { x with tailDue := true }
  b.ask 63 0 (b.queue q).rcbAddr 4 (.tail slot)

/-- R156: the mapper binds a queue. -/
def Block.bindQueue (b : Block) (slot q : Nat) : Block :=
  let k := (b.queue q).prio
  let b := b.modHws slot fun x => { reserved := x.reserved, queue := some q }
  let b := b.modQueue q fun x => { x with state := .active, bound := some slot }
  let b := { b with front := { b.front with mapLast := q, prioLast := tset 4095 b.front.prioLast k q } }
  b.readTail slot q

/-- R156. -/
def slotMapperBind (b : Block) : Block :=
  if b.halted then b
  else match (b.wanting.filter fun q => (b.eligibleSlot q).isSome).foldl b.mapBetter none with
  | none => b
  | some q =>
      match b.eligibleSlot q with
      | some slot => b.bindQueue slot q
      | none => b

/-- SLOT_MAPPER_BIND (R156). -/
def execSlotMapperBind (s : State) : Host.Outcome State Fault Refusal :=
  .next { s with blk := slotMapperBind s.blk }

/-! ## The fetch loop -/

/-- R157, R421: a release of the bound queue applies. -/
def Block.releaseApplies (b : Block) (slot q : Nat) : Bool :=
  let x := b.queue q
  let h := b.hws slot
  h.releasing || !b.queueResident x
    || (x.quota != 0 && decide (x.quota ≤ h.count) && b.wanting.any (· != q))
    || decide (65535 ≤ x.inflight + h.requested + h.early.length)
    || (b.queueOutgoing x && h.count + h.requested + h.early.length != 0)

/-- Descriptor reads that a slot has outstanding. -/
def Mp.slotReads (x : Mp) (slot : Nat) : Nat :=
  ((x.reads ++ x.heldReads).filter fun r => match r.purpose with | .descs s _ _ => s == slot | _ => false).length

/-- The next ring index to request. -/
def Block.nextIndex (b : Block) (slot q : Nat) : BitVec 32 :=
  (b.queue q).head + BitVec.ofNat 32 ((b.hws slot).requested + (b.hws slot).early.length)

/-- R157, R160: the loop runs while HEAD, which moves as descriptors arrive, is not TAIL; where a release applies then,
the loop is bound to it (DEDUCED, log 156). -/
def Block.noteRelease (b : Block) (slot : Nat) : Block :=
  let h := b.hws slot
  match h.queue with
  | none => b
  | some q =>
      let x := b.queue q
      if x.state == .active && !h.tailDue && x.head != h.tail && b.releaseApplies slot q then
        b.modHws slot fun h => { h with going := true }
      else b

/-- R158, R160: one descriptor read of up to four descriptors is requested where one may be and no release applies. The
test is made until HEAD, which moves on arrival, meets TAIL (DEDUCED, log 156). -/
def Block.requestOne (b : Block) (slot : Nat) : Block :=
  let h := b.hws slot
  match h.queue with
  | none => b
  | some q =>
      let x := b.queue q
      let i := b.nextIndex slot q
      let left := (h.tail - i).toNat
      if x.state != .active || h.tailDue || b.halted || h.going || x.head = h.tail then b
      else if b.releaseApplies slot q then b.noteRelease slot
      else if left = 0 || 4 ≤ b.mp.slotReads slot then b
      else
        let n := min (min left (4 - i.toNat % 4)) (65535 - x.inflight - h.requested - h.early.length)
        let n := if b.queueOutgoing x then 1 else n
        (b.ask 63 0 (x.descAddr i) (64 * n) (.descs slot i.toNat n)).modHws slot fun h =>
          { h with requested := h.requested + n }

/-- R158: at most four reads are outstanding. After the last of them the loop tests for a release again. -/
def Block.requestMore (b : Block) (slot : Nat) : Block :=
  ((((b.requestOne slot).requestOne slot).requestOne slot).requestOne slot).requestOne slot

/-- R150, R160, R163: TAIL returns to the slot's queue. -/
def Block.tailReturn (slot : Nat) (code : BitVec 2) (tail : BitVec 32) (b : Block) : Block :=
  let h := b.hws slot
  match h.queue with
  | none => b
  | some q =>
      if !h.tailDue then b
      else if code ≠ 0#2 then b.haltQueue q 2
      else
        let b := b.modQueue q fun x => { x with tailSeen := tail }
        let x := b.queue q
        if 2 ^ x.log2sz < (tail - x.head).toNat then b.haltQueue q 1
        else (b.modHws slot fun h => { h with tail := tail, tailDue := false }).requestMore slot

/-- R160. -/
def tailReadReturn (slot : Nat) (code : BitVec 2) (tail : BitVec 32) (b : Block) : Block :=
  match b.mp.readFor (.tail slot) with
  | none => b
  | some r => (b.answerRead r code).tailReturn slot code tail

/-- TAIL_READ_RETURN (R150, R160, R163). -/
def execTailReadReturn (slot : Nat) (code : BitVec 2) (tail : BitVec 32) (s : State) :
    Host.Outcome State Fault Refusal :=
  .next { s with blk := tailReadReturn slot code tail s.blk }

/-- R160: descriptors that stand at HEAD are taken in, in ring index order. -/
def Block.takeIn : Nat → Block → Nat → Nat → Block
  | 0, b, _, _ => b
  | k + 1, b, slot, q =>
      match (b.hws slot).early.find? fun f => f.ringIdx == (b.queue q).head.toNat with
      | none => b
      | some f =>
          let b := b.modHws slot fun h => { h with early := h.early.erase f, count := satAdd 16 h.count 1 }
          let b := b.modQueue q fun x =>
            { x with
              head := x.head + 1, fetched := wrapAdd 32 x.fetched 1, inflight := x.inflight + 1
              sinceHead := x.sinceHead + 1, waiting := x.waiting ++ [f] }
          let b := b.progress 0 q
          let b := if 16 ≤ (b.queue q).sinceHead then b.writeHead q else b
          Block.takeIn k b slot q

/-- R160: what follows once descriptors have been taken in: a stopping queue's slot frees itself, another
slot requests more. -/
def Block.afterArrival (b : Block) (slot q : Nat) : Block :=
  if (b.queue q).state == .stopping then
    (if (b.hws slot).requested = 0 then b.freeSlot slot else b)
  else b.requestMore slot

/-- The descriptors of a read from ring index `index`. -/
def fetchedOf (now index count : Nat) (codes : List (BitVec 2)) (data : List Word) : List Fetched :=
  (List.range count).map fun k =>
    { ringIdx := (index + k) % 2 ^ 32
      desc := (List.range 8).map fun j => (data[8 * k + j]?).getD 0
      code := codeStatus Status.format ((codes[k]?).getD 0)
      tFetch := now }

/-- R158, R160: a descriptor read returns. -/
def Block.descsReturn (slot index count : Nat) (codes : List (BitVec 2)) (data : List Word) (b : Block) : Block :=
  match (b.hws slot).queue with
  | none => b
  | some q =>
      let b := (b.noteRelease slot).modHws slot fun h =>
        { h with early := h.early ++ fetchedOf b.now index count codes data, requested := h.requested - count }
      (Block.takeIn (b.hws slot).early.length b slot q).afterArrival slot q

/-- The oldest descriptor read that a slot has outstanding. -/
def Mp.slotRead (x : Mp) (slot : Nat) : Option RReq :=
  x.reads.find? fun r => match r.purpose with | .descs s _ _ => s == slot | _ => false

/-- R158, R160: the slot's oldest descriptor read returns. -/
def descriptorArrival (slot : Nat) (codes : List (BitVec 2)) (data : List Word) (b : Block) : Block :=
  match b.mp.slotRead slot with
  | none => b
  | some r =>
      match r.purpose with
      | .descs _ index count => (b.answerBeats r codes).descsReturn slot index count codes data
      | _ => b

/-- DESCRIPTOR_ARRIVAL (R160). -/
def execDescriptorArrival (slot : Nat) (codes : List (BitVec 2)) (data : List Word) (s : State) :
    Host.Outcome State Fault Refusal :=
  .next { s with blk := descriptorArrival slot codes data s.blk }

/-- A bound slot has taken in all that it requested. -/
def Block.slotIdle (b : Block) (slot : Nat) : Bool :=
  let h := b.hws slot
  !h.tailDue && h.requested == 0 && h.early.isEmpty

/-- R160, R161: PENDING is tested and the queue moves to IDLE in one hc, or TAIL is read again. -/
def idleTest (slot : Nat) (b : Block) : Block :=
  match (b.hws slot).queue with
  | none => b
  | some q =>
      let x := b.queue q
      if x.state != .active || !b.slotIdle slot || (b.hws slot).going || x.head ≠ (b.hws slot).tail || b.halted then b
      else if x.pend then b.readTail slot q
      else ((b.freeSlot slot).modQueue q fun x => { x with state := .idle }).writeHead q

/-- IDLE_TEST (R161). -/
def execIdleTest (slot : Nat) (s : State) : Host.Outcome State Fault Refusal :=
  .next { s with blk := idleTest slot s.blk }

/-- R157: a bound slot releases its queue. -/
def slotRelease (slot : Nat) (b : Block) : Block :=
  match (b.hws slot).queue with
  | none => b
  | some q =>
      let x := b.queue q
      let goes := (b.hws slot).going || (x.head ≠ (b.hws slot).tail && b.releaseApplies slot q)
      if x.state != .active || !b.slotIdle slot || !goes then b
      else ((b.freeSlot slot).modQueue q fun x => { x with state := .wait, pend := true }).writeHead q

/-- SLOT_RELEASE (R157). -/
def execSlotRelease (slot : Nat) (s : State) : Host.Outcome State Fault Refusal :=
  .next { s with blk := slotRelease slot s.blk }

/-- CLS_HWS_CMD.UNBIND (R157). -/
def unbindWrite (slot : Nat) (b : Block) : Block :=
  if (b.hws slot).queue.isSome then b.modHws slot fun h => { h with releasing := true } else b

/-- UNBIND (R157). -/
def execUnbind (a : Acc) (slot : Nat) (s : State) : Host.Outcome State Fault Refusal :=
  .next (s.command a (.hwsCmd slot) fun _ b => unbindWrite slot b)

/-- R163: an error response to a HEAD write. -/
def Block.headError (q : Nat) (b : Block) : Block :=
  let x := b.queue q
  if x.state == .idle || x.state == .wait || x.state == .active then b.haltQueue q 2
  else b.modQueue q fun x => { x with err := 2 }

/-- R163: an error response to an access to a ring control block. -/
def rcbError (q : Nat) (tailRead : Bool) (code : BitVec 2) (b : Block) : Block :=
  if code = 0#2 then b
  else if tailRead then
    match (b.queue q).bound with
    | some slot => tailReadReturn slot code 0 b
    | none => b
  else match b.mp.writes.find? fun r => r.purpose == .headOf q with
  | none => b
  | some r => (b.answerWrite r code).headError q

/-- RCB_ERROR (R163). -/
def execRcbError (q : Nat) (tailRead : Bool) (code : BitVec 2) (s : State) : Host.Outcome State Fault Refusal :=
  .next { s with blk := rcbError q tailRead code s.blk }

/-! ## Doorbells -/

/-- R154: the queue can be rung. -/
def Queue.ringable (x : Queue) : Bool := x.state == .idle || x.state == .wait || x.state == .active

/-- R154, R166: a doorbell bit rings queue `q`; HEAD is written when it enters WAIT (R149). -/
def Block.ring (b : Block) (q : Nat) : Block :=
  if (b.queue q).state == .idle then (b.modQueue q fun x => { x with pend := true, state := .wait }).writeHead q
  else b.modQueue q fun x => { x with pend := true }

/-- R154: the doorbell page rings the queue. -/
def Block.rings (b : Block) (page q : Nat) : Bool := (b.queue q).dbPage == page && (b.queue q).ringable

/-- R154, R159: the ignored bits of one write are recorded; source 9 (R438). -/
def Block.doorbellReject (b : Block) (page : Nat) (bad : List Nat) : Block :=
  match bad with
  | [] => b
  | q :: more =>
      let r := b.front.dbRej
      let reason := if (b.queue q).dbPage = page then 1 else 0
      let v := if r.toNat < 2 ^ 31 then
          BitVec.ofNat 32 (pack [(1, 1, 31), (b2n (!more.isEmpty), 1, 30), (reason, 2, 28), (page, 8, 20), (q, 12, 0)])
            ||| (r &&& 0x40000000#32)
        else r ||| 0x40000000#32
      Block.raise { b with front := { b.front with dbRej := v } } 9

/-- R154, R155, R159: a write of doorbell word `w` of page `page`. -/
def doorbellWrite (page w : Nat) (bits : BitVec 32) (b : Block) : Block :=
  let qs := ((List.range 32).filter fun i => bits.getLsbD i).map fun i => 32 * w + i
  let good := qs.filter (b.rings page)
  let bad := qs.filter fun q => !b.rings page q
  (good.foldl Block.ring b).doorbellReject page bad

/-- DOORBELL_WRITE (R154). -/
def execDoorbellWrite (a : Acc) (page : BitVec 8) (word : BitVec 7) (bits : BitVec 32) (s : State) :
    Host.Outcome State Fault Refusal :=
  .next (s.command a (.dbWord page.toNat word.toNat) fun _ b => doorbellWrite page.toNat word.toNat bits b)

/-! ## Queue commands -/

/-- An ignored command or write sets CMD_REJ. -/
def Block.rejQueue (b : Block) (q : Nat) : Block := b.modQueue q fun x => { x with cmdRej := true }
/-- An accepted command clears CMD_REJ. -/
def Block.accQueue (b : Block) (q : Nat) : Block := b.modQueue q fun x => { x with cmdRej := false }

/-- R152, R407: ENABLE is accepted. -/
def Block.enableOk (b : Block) (q : Nat) : Bool :=
  let x := b.queue q
  b.loader.state == .active && decide (6 ≤ x.log2sz) && decide (x.log2sz ≤ 20) && (b.partSec x.part).enabled
    && (b.cq x.cq).state != .disabled && (b.ctx x.ctx).state != .free && (b.ctx x.ctx).part == x.part
    && x.state == .disabled && (b.part x.part).state == .enabled

/-- R153. The clearing of CLS_Q_PROG is no move of the queue's counter for R172 (DESIGN CHOICE, log 164). -/
def qEnable (q : Nat) (b : Block) : Block :=
  if !b.enableOk q then b.rejQueue q
  else
    let b := b.modQueue q fun x =>
      { x with
        head := x.headInit, fetched := 0, done := 0, err := 0, inflight := 0
        pend := true, state := .wait, cmdRej := false }
    b.writeHead q

/-- R166, R167: DISABLE. -/
def qDisable (q : Nat) (b : Block) : Block :=
  let x := b.queue q
  let b := b.accQueue q
  if x.state == .disabled || x.state == .stopping || x.state == .forcing then b
  else
    let out := match x.bound with
      | some slot => (b.hws slot).requested
      | none => 0
    let b := if out = 0 then b.unbindQueue q else b
    if x.inflight = 0 ∧ out = 0 then b.disableQueue q false
    else b.modQueue q fun x => { x with state := .stopping }

/-- The submissions of a queue that are placed and not yet complete for delivery. -/
def Block.queueSubs (b : Block) (q : Nat) : List Nat :=
  (b.graph.subs.filter fun t => t.2.live && !b.over t.1 && t.2.queue == q).map (·.1)

/-- The slots, of Beads that are not fenced off, that hold a task for which `f` holds. -/
def Block.slotsHolding (b : Block) (f : Nat → HeldTask → Bool) : List (Nat × Nat) :=
  (b.beads.filter fun d => (b.pbead d.1).state != .fenced).flatMap fun d =>
    (d.2.slots.filter fun t => t.2.held.any (f d.1)).map fun t => (d.1, t.1)

/-- R168, R434: a queue that is not DISABLED is forced. A descriptor whose read has failed keeps that failure (R17). -/
def Block.forceQueue (p : Params) (b : Block) (q : Nat) : Block :=
  let b := b.unbindQueue q
  let b := b.modQueue q fun x =>
    { x with
      state := .forcing
      waiting := x.waiting.map fun f =>
        { f with abort := if f.abort = 0 && f.code = 0 then Status.aborted else f.abort, passed := false } }
  let slots := b.slotsHolding fun n h => b.queueOfWin n h.win == some q
  let b := (b.queueSubs q).foldl (fun b seg => b.abandon p seg Status.aborted none) b
  let b := slots.foldl (fun b t => b.askReset t.1 t.2 (some q)) b
  (b.modQueue q fun x => { x with resets := slots }).unhold

/-- R166, R168: FORCE. -/
def qForce (p : Params) (q : Nat) (b : Block) : Block :=
  let x := b.queue q
  let b := b.accQueue q
  if x.state == .disabled || x.state == .forcing then b else b.forceQueue p q

/-- A write of CLS_Q_CMD. -/
def queueCommand (p : Params) (q op : Nat) (b : Block) : Block :=
  match op with
  | 1 => qEnable q b
  | 2 => qDisable q b
  | 3 => qForce p q b
  | _ => b.rejQueue q

/-- Q_ENABLE (R152, R153). -/
def execQEnable (a : Acc) (q : Nat) (s : State) : Host.Outcome State Fault Refusal :=
  .next (s.command a (.qCmd q) fun _ b => qEnable q b)

/-- Q_DISABLE (R167). -/
def execQDisable (a : Acc) (q : Nat) (s : State) : Host.Outcome State Fault Refusal :=
  .next (s.command a (.qCmd q) fun _ b => qDisable q b)

/-- Q_FORCE (R168). -/
def execQForce (a : Acc) (q : Nat) (s : State) : Host.Outcome State Fault Refusal :=
  .next (s.command a (.qCmd q) fun p b => qForce p q b)

/-- Q_CMD_INVALID (R166): a CLS_Q_CMD write, which sets CMD_REJ when its OP is none of the three. -/
def execQCmdInvalid (a : Acc) (q : Nat) (op : BitVec 3) (s : State) : Host.Outcome State Fault Refusal :=
  .next (s.command a (.qCmd q) fun p b => queueCommand p q op.toNat b)

/-- R167: a stopping queue has drained. -/
def queueDisabled (q : Nat) (b : Block) : Block :=
  let x := b.queue q
  if x.state == .stopping && x.inflight == 0 && x.bound.isNone then b.disableQueue q true else b

/-- QUEUE_DISABLED (R167). -/
def execQueueDisabled (q : Nat) (s : State) : Host.Outcome State Fault Refusal :=
  .next { s with blk := queueDisabled q s.blk }

/-- R168: every step of the forced sequence is done. -/
def queueForceDone (q : Nat) (b : Block) : Block :=
  let x := b.queue q
  if x.state == .forcing && x.inflight == 0 && x.resets.isEmpty then b.disableQueue q true else b

/-- QUEUE_FORCE_DONE (R168). -/
def execQueueForceDone (q : Nat) (s : State) : Host.Outcome State Fault Refusal :=
  .next { s with blk := queueForceDone q s.blk }

end Sys2Proof.Machine
end

