-- ==== Sys2Proof/Machine/Completion.lean ====
section
/-! DEFINITION. Completion records (R356), completion queues (R357 to R366), delivery (R360, R177, R414)
and fall-back delivery (R367, R368). -/

namespace Sys2Proof.Machine

/-! ## Records -/

/-- UNITS of a record. -/
def Comp.units (x : Comp) : Nat :=
  match x.foreign with
  | some ws => fld (ws[0]?.getD 0) 59 52
  | none => if x.audit then 3 else 2

/-- Byte sums added, saturating at 2^48 − 1. -/
def sumBytes (l : List Nat) : Nat := l.foldl (satAdd 48) 0

/-- The words of a 256-bit digest, in the byte order of R109. -/
def digestWords (d : BitVec 256) : List Word :=
  let bs := digestBytes d
  (List.range 4).map fun i => BitVec.ofNat 64 (leNat ((bs.drop (8 * i)).take 8))

/-- R513: a FOREIGN record after an uncorrectable error of the hold store: STATUS is ECC_UNCORRECTABLE, words 0 to 2 are
kept, and every other word is zero. -/
def foreignLost (ws : List Word) : List Word :=
  let w (i : Nat) : Word := (ws[i]?).getD 0
  [packW [(fld (w 0) 63 48, 16, 48), (Status.ecc.toNat, 8, 40), (fld (w 0) 39 0, 40, 0)], w 1, w 2]
    ++ List.replicate (ws.length - 3) 0

/-- R356: the words of a record that carries `cseq`; R513: after an uncorrectable error of the hold store
only words 0 to 2 are known. (DEDUCED, log 24) -/
def Comp.record (x : Comp) (cseq : Nat) : List Word :=
  match x.foreign with
  | some ws => if x.eccBad then foreignLost ws else ws
  | none =>
      let byte (i : Nat) : Nat := (x.bytes[i]?).getD 0
      let w012 : List Word :=
        [packW [(if x.audit then 2 else 1, 4, 60), (x.units, 8, 52), (x.status.toNat, 8, 40), (x.queue, 12, 28)],
         packW [(x.ringIdx, 32, 32), (cseq, 32, 0)], BitVec.ofNat 64 (descW x.desc 2)]
      if x.eccBad then w012 ++ List.replicate (8 * x.units - 3) 0
      else
        w012 ++
          [BitVec.ofNat 64 x.tFetch, BitVec.ofNat 64 x.tDone,
           packW [(min x.nreleased (2 ^ 32 - 1), 32, 32), (min x.nretired (2 ^ 32 - 1), 32, 0)],
           packW [(x.failIndex, 32, 32), (descW x.desc 3, 32, 0)], 0,
           BitVec.ofNat 64 (byte 0), BitVec.ofNat 64 (byte 1), BitVec.ofNat 64 (byte 2), BitVec.ofNat 64 (byte 3),
           BitVec.ofNat 64 (sumBytes ((List.range 16).map fun i => byte (4 + i))), 0, 0, 0] ++
          (if x.audit then digestWords x.digest ++ [0, 0, 0, 0] else [])

/-- R358: word 0 of a PAD record of a completion queue. -/
def padWord (units : Nat) : Word := packW [(0xF, 4, 60), (units, 8, 52)]

/-! ## Rings -/

/-- LOG2SZ of LNK_CQ_RING. -/
def CQueue.log2sz (c : CQueue) : Nat := fld c.ring 4 0
/-- The ring's address. -/
def CQueue.ringAddr (c : CQueue) : Nat := fld c.ring 55 12 * 4096
/-- The control block's address. -/
def CQueue.ccbAddr (c : CQueue) : Nat := fld c.ccb 55 6 * 64
/-- IEN. -/
def CQueue.ien (c : CQueue) : Bool := c.cfg.getLsbD 31
/-- FB_EN. -/
def CQueue.fbEn (c : CQueue) : Bool := c.cfg.getLsbD 30
/-- HOST_DOWN. -/
def CQueue.hostDown (c : CQueue) : Bool := c.cfg.getLsbD 29
/-- FB_PEER. -/
def CQueue.fbPeer (c : CQueue) : Nat := bits c.cfg.toNat 28 19
/-- NOTIFY. -/
def CQueue.notify (c : CQueue) : Nat := bits c.cfg.toNat 15 8
/-- The ring's units. -/
def CQueue.size (c : CQueue) : Nat := 2 ^ c.log2sz
/-- Units used: (TAIL − HEAD) mod 2^32. -/
def CQueue.used (c : CQueue) : Nat := subMod (2 ^ 32) c.tail c.head
/-- R359: HEAD is bad. -/
def CQueue.headBad (c : CQueue) : Bool := c.size < c.used
/-- R358: the pad that a record of `u` units needs. -/
def CQueue.pad (c : CQueue) (u : Nat) : Nat :=
  let at' := c.tail % c.size
  if c.size < at' + u then c.size - at' else 0
/-- R358, R359: a record of `u` units fits. -/
def CQueue.fits (c : CQueue) (u : Nat) : Bool := u + c.pad u + c.used ≤ c.size

/-! ## States -/

/-- Writes and reads that a delivery attempt leaves behind matter no more. -/
def Mp.scrapCq (x : Mp) (c : Nat) : Mp :=
  let fw (r : WReq) : WReq :=
    if r.purpose = .cqRecord c ∨ r.purpose = .cqTail c then { r with purpose := .scrap } else r
  let fr (r : RReq) : RReq := if r.purpose = .cqHead c then { r with purpose := .scrap } else r
  { x with
    writes := x.writes.map fw, heldWrites := x.heldWrites.map fw
    reads := x.reads.map fr, heldReads := x.heldReads.map fr }

/-- R369: the first held completion is a FOREIGN record. -/
def CQueue.foreignFirst (c : CQueue) : Bool :=
  match c.held with
  | x :: _ => x.foreign.isSome
  | [] => false

/-- R369: the FOREIGN record that stands first is discarded: FB_LOST and source 8. -/
def Block.dropForeign (b : Block) (c : Nat) : Block :=
  let b := b.modCq c fun x => { x with held := x.held.drop 1, stage := .idle, freshHead := false }
  Block.raise { b with link := { b.link with fbLost := satAdd 16 b.link.fbLost 1 } } 8

/-- R369: a queue that leaves ACTIVE discards the FOREIGN records that it holds. -/
def Block.dropForeigns (b : Block) (c : Nat) : Block :=
  let k := ((b.cq c).held.filter fun y => y.foreign.isSome).length
  if k = 0 then b
  else
    let b := b.modCq c fun x => { x with held := x.held.filter fun y => y.foreign.isNone }
    Block.raise { b with link := { b.link with fbLost := satAdd 16 b.link.fbLost k } } 8

/-- R363, R364: the queue is unreachable; `err` is ERR. A fall-back packet on its way stays on its way (R376). -/
def Block.cqUnreachable (b : Block) (c err : Nat) : Block :=
  let x := b.cq c
  let b := Block.dropForeigns { b with mp := b.mp.scrapCq c } c
  let b := b.modCq c fun y =>
    { y with stage := if y.stage = CqStage.sending then .sending else .idle, freshHead := false, resuming := false
             err := err, reason := 2, state := if y.fbEn then .fallback else .fault }
  if x.fbEn then b else (b.raise (896 + c / 64)).claspLocket 0x33 (pack [(c, 12, 0)])

/-- R364, R369: no room. -/
def Block.cqNoRoom (b : Block) (c : Nat) : Block :=
  let x := b.cq c
  if x.foreignFirst then b.dropForeign c
  else (b.dropForeigns c).modCq c fun y =>
    { y with freshHead := false, reason := if y.fbEn then 1 else y.reason
             state := if y.fbEn then .fallback else .wait
             interval := if y.fbEn then y.interval else if y.state = CqState.wait then min 4096 (2 * y.interval) else 64 }

/-- HEAD is read (R359). -/
def Block.cqReadHead (b : Block) (c : Nat) : Block :=
  (b.ask 63 2 (b.cq c).ccbAddr 4 (.cqHead c)).modCq c fun x => { x with stage := .headRead }

/-- R358, R360: the first held completion, and the PAD that it needs, are written to the ring. -/
def Block.cqWrite (b : Block) (c : Nat) (y : Comp) : Block :=
  let x := b.cq c
  let u := y.units
  let k := x.pad u
  let addr (i : Nat) : Nat := x.ringAddr + 64 * (i % x.size)
  let b1 := if k = 0 then b
    else b.put 63 2 (addr x.tail) (wordsBytes (padWord k :: List.replicate (8 * k - 1) 0)) (.cqRecord c)
  let b2 := b1.put 63 2 (addr (x.tail + k)) (wordsBytes (y.record x.cseq)) (.cqRecord c)
  let n := (b2.mp.writes ++ b2.mp.heldWrites).filter fun r => r.purpose == .cqRecord c
  b2.modCq c fun x => { x with stage := .records (u + k) n.length }

/-- R359, R360, R363: one step of delivery of a completion queue with a held completion. -/
def Block.cqDeliver (b : Block) (c : Nat) (y : Comp) : Block :=
  let x := b.cq c
  if x.hostDown then b.cqUnreachable c 3
  else if x.headBad then b.cqUnreachable c 2
  else if x.fits y.units then b.cqWrite c y
  else if x.freshHead then b.cqNoRoom c
  else b.cqReadHead c

/-- R360: delivery goes on in a queue in ACTIVE that has no step outstanding. A FOREIGN record is
written in ACTIVE alone (R369). (DEDUCED, log 71) -/
def completionDelivery (c : Nat) (b : Block) : Block :=
  let x := b.cq c
  match x.held with
  | [] => b
  | y :: _ =>
      if x.stage != .idle || x.resuming then b
      else if x.state == .active then b.cqDeliver c y
      else if y.foreign.isSome then b.dropForeign c
      else b

/-- COMPLETION_DELIVERY (R360). -/
def execCompletionDelivery (cq : Nat) (s : State) : Host.Outcome State Fault Refusal :=
  .next { s with blk := completionDelivery cq s.blk }

/-- R364: a queue in WAIT reads HEAD again. (DESIGN CHOICE, log 120) -/
def cqHeadReread (c : Nat) (b : Block) : Block :=
  let x := b.cq c
  if x.state == .wait && x.stage == .idle then
    (if x.hostDown then b.cqUnreachable c 3 else b.cqReadHead c)
  else b

/-- CQ_HEAD_REREAD (R364). -/
def execCqHeadReread (cq : Nat) (s : State) : Host.Outcome State Fault Refusal :=
  .next { s with blk := cqHeadReread cq s.blk }

/-- R359, R363, R364: HEAD returns. The read of a RESUME is not the one that R359 makes for a record. -/
def Block.cqHeadReturn (c : Nat) (code : BitVec 2) (v : BitVec 32) (b : Block) : Block :=
  let x := b.cq c
  if x.stage != .headRead && !x.resuming then b
  else
    let b := b.modCq c fun x =>
      { x with stage := if x.stage = CqStage.headRead then .idle else x.stage, resuming := false }
    if code ≠ 0#2 then b.cqUnreachable c 1
    else
      let b := b.modCq c fun y => { y with head := v.toNat, freshHead := !x.resuming }
      if x.state != .wait then b
      else if (b.cq c).headBad then b.cqUnreachable c 2
      else match x.held with
        | y :: _ => if (b.cq c).fits y.units then b.modCq c fun x => { x with state := .active } else b.cqNoRoom c
        | [] => b

/-! ## After delivery -/

/-- R177: DONE_FENCE is signalled or poisoned. -/
def Block.doneFence (b : Block) (y : Comp) : Block :=
  if !y.doneV then b
  else
    let h := descDoneFence y.desc
    let kernel := (b.queue y.queue).kernel
    if isFailure y.status then (b.poisonHandle h y.status kernel y.ctx).2
    else (b.signalFence (handleIndex h) (handleGen h) kernel y.ctx .done).2

/-- R414: the save record; an express partition keeps none (R429). -/
def Block.saveRecord (b : Block) (y : Comp) : Block :=
  if y.noSave then b
  else if !y.save then b.modCtx y.ctx fun x => { x with atSp := false }
  else if (b.partSec (b.ctx y.ctx).part).express then b.modCtx y.ctx fun x => { x with atSp := true }
  else b.modCtx y.ctx fun x =>
    { x with
      atSp := true, recV := true, liveAddr := descLiveAddr y.desc
      liveCount := bits (descW y.desc 5) 31 0, saveCost := bits (descW y.desc 5) 63 32 }

/-- R360, R177, R414: what follows a delivery, in this order: the notification source, DONE_FENCE, the
context's save record; the submission is no longer in flight and its number is free. -/
def Block.delivered (b : Block) (c : Nat) (y : Comp) : Block :=
  let x := b.cq c
  let b := if x.ien then b.raise (512 + x.notify) else b
  if y.foreign.isSome then b
  else
    let b := b.doneFence y
    let b := b.saveRecord y
    let b := b.modQueue y.queue fun q => { q with inflight := q.inflight - 1, done := wrapAdd 32 q.done 1 }
    let b := b.progress 0 y.queue
    match y.seg with
    | some seg => b.modSub seg fun _ => {}
    | none => b

/-- The trace event of class COMPLETE (R471); a FOREIGN record is none of the block's queues'. -/
def Block.traceComplete (b : Block) (y : Comp) (cseq : Nat) (fallback : Bool) : Block :=
  if y.foreign.isSome then b
  else b.traceEvent 4 2 (pack [(y.queue, 12, 0), (y.status.toNat, 8, 16), (b2n fallback, 1, 24)])
    [BitVec.ofNat 64 y.ringIdx, BitVec.ofNat 64 cseq]

/-- The first held completion has been delivered, by fall-back or in the ring. -/
def Block.cqDone (b : Block) (c : Nat) (fallback : Bool) : Block :=
  match (b.cq c).held with
  | [] => b
  | y :: r =>
      let b := b.traceComplete y (b.cq c).cseq fallback
      (b.modCq c fun x =>
        { x with held := r, stage := .idle, freshHead := false
                 cseq := if y.foreign.isSome then x.cseq else wrapAdd 32 x.cseq 1 }).delivered c y

/-- R360: the acknowledge of a write of the ring. -/
def Block.cqRecordAck (c : Nat) (code : BitVec 2) (b : Block) : Block :=
  match (b.cq c).stage with
  | .records u n =>
      if code ≠ 0#2 then b.cqUnreachable c 1
      else if 1 < n then b.modCq c fun x => { x with stage := .records u (n - 1) }
      else
        let t := wrapAdd 32 (b.cq c).tail u
        (b.put 63 2 ((b.cq c).ccbAddr + 0x20) (leBytes 4 t) (.cqTail c)).modCq c fun x => { x with stage := .tailWrite u }
  | _ => b

/-- R360: the acknowledge of a TAIL write that covers the record. -/
def Block.cqTailAck (c : Nat) (code : BitVec 2) (b : Block) : Block :=
  match (b.cq c).stage with
  | .tailWrite u =>
      if code ≠ 0#2 then b.cqUnreachable c 1
      else (b.modCq c fun x => { x with tail := wrapAdd 32 x.tail u }).cqDone c false
  | _ => b

/-! ## Commands -/

/-- An ignored command or write sets CMD_REJ. -/
def Block.rejCq (b : Block) (c : Nat) : Block := b.modCq c fun x => { x with cmdRej := true }

/-- R365: ENABLE. -/
def cqEnable (c : Nat) (b : Block) : Block :=
  let x := b.cq c
  if (b.loader.state == .active || b.loader.state == .patching) && x.state == .disabled && 6 ≤ x.log2sz
      && x.log2sz ≤ 20 && x.stage != .enabling then
    (b.ask 63 2 x.ccbAddr 4 (.cqEnableHead c)).modCq c fun x => { x with stage := .enabling, cmdRej := false }
  else b.rejCq c

/-- R365: an error during ENABLE leaves the queue DISABLED. -/
def Block.cqEnableFails (b : Block) (c : Nat) : Block :=
  b.modCq c fun x => { x with stage := .idle, cmdRej := true }

/-- R364, R365: HEAD returns to an ENABLE; TAIL is set to it and written. -/
def Block.cqEnableHead (c : Nat) (code : BitVec 2) (v : BitVec 32) (b : Block) : Block :=
  if (b.cq c).stage != .enabling then b
  else if code ≠ 0#2 then b.cqEnableFails c
  else
    (b.put 63 2 ((b.cq c).ccbAddr + 0x20) (leBytes 4 v.toNat) (.cqEnableTail c)).modCq c fun x =>
      { x with head := v.toNat, tail := v.toNat, cseq := 0 }

/-- R364, R365: the TAIL write of an ENABLE is acknowledged. -/
def Block.cqEnableTail (c : Nat) (code : BitVec 2) (b : Block) : Block :=
  if (b.cq c).stage != .enabling then b
  else if code ≠ 0#2 then b.cqEnableFails c
  else b.modCq c fun x => { x with stage := .idle, state := .active, freshHead := false }

/-- R365: DISABLE. (DEDUCED, log 23) -/
def cqDisable (c : Nat) (b : Block) : Block :=
  let x := b.cq c
  if x.stage != .enabling && x.held.isEmpty
      && b.front.queues.all (fun t => t.2.cq != c || t.2.state == .disabled) then
    Block.modCq { b with mp := b.mp.scrapCq c } c fun x =>
      { x with state := .disabled, stage := .idle, resuming := false, cmdRej := false }
  else b.rejCq c

/-- R364, R365, R368: RESUME. -/
def cqResume (c : Nat) (b : Block) : Block :=
  let x := b.cq c
  if (x.state == .fallback || x.state == .fault) && !x.hostDown then
    (b.ask 63 2 x.ccbAddr 4 (.cqHead c)).modCq c fun x =>
      { x with
        state := .active, err := 0, cmdRej := false, resuming := true }
  else b.rejCq c

/-- A write of LNK_CQ_CMD. -/
def cqCommand (c op : Nat) (b : Block) : Block :=
  match op with
  | 1 => cqEnable c b
  | 2 => cqDisable c b
  | 3 => cqResume c b
  | _ => b.rejCq c

/-- CQ_ENABLE (R365). -/
def execCqEnable (a : Acc) (cq : Nat) (s : State) : Host.Outcome State Fault Refusal :=
  .next (s.command a (.cqCmd cq) fun _ b => cqEnable cq b)

/-- CQ_DISABLE (R365). -/
def execCqDisable (a : Acc) (cq : Nat) (s : State) : Host.Outcome State Fault Refusal :=
  .next (s.command a (.cqCmd cq) fun _ b => cqDisable cq b)

/-- CQ_RESUME (R365). -/
def execCqResume (a : Acc) (cq : Nat) (s : State) : Host.Outcome State Fault Refusal :=
  .next (s.command a (.cqCmd cq) fun _ b => cqResume cq b)

/-- CQ_CMD_INVALID (R365): an LNK_CQ_CMD write, which sets CMD_REJ when its OP is none of the three. -/
def execCqCmdInvalid (a : Acc) (cq : Nat) (op : BitVec 3) (s : State) : Host.Outcome State Fault Refusal :=
  .next (s.command a (.cqCmd cq) fun _ b => cqCommand cq op.toNat b)

/-- R382: the queue's registers stand under its state. -/
def CQueue.guarded (c : CQueue) : Bool := c.state != .disabled || c.stage == .enabling

/-- The writable bits of LNK_CQ_CFG. -/
def cqCfgMask : BitVec 32 := 0xFFF8FF00#32

/-- R382: a write of LNK_CQ_CFG. -/
def cqCfgWrite (c : Nat) (d : BitVec 32) (b : Block) : Block :=
  let v := d &&& cqCfgMask
  let x := b.cq c
  if x.guarded then
    let down := (x.cfg &&& ~~~0x20000000#32) ||| (v &&& 0x20000000#32)
    b.modCq c fun x => { x with cfg := down, cmdRej := x.cmdRej || down != v }
  else b.modCq c fun x => { x with cfg := v }

/-- CQ_CFG_WRITE (R382). -/
def execCqCfgWrite (a : Acc) (cq : Nat) (data : BitVec 32) (s : State) : Host.Outcome State Fault Refusal :=
  .next (s.command a (.cqCfg cq) fun _ b => cqCfgWrite cq data b)

/-- R367, R371, R376: the first held completion of a queue in FALLBACK is queued as a COMPLETION packet to
the peer that FB_PEER's entry names, while that entry and the peer's lowest-numbered VALID entry are UP. (DEDUCED, log 117) -/
def fallbackSend (c : Nat) (b : Block) : Block :=
  let x := b.cq c
  let f := b.peer x.fbPeer
  let k := (b.peerFor f.peer).getD x.fbPeer
  let e := b.peer k
  match x.held with
  | [] => b
  | y :: _ =>
      if x.state != .fallback || x.stage != .idle then b
      else if y.foreign.isSome then b.dropForeign c
      else if !b.link.en || !f.valid || f.state != .up || e.state != .up || !b.txRoom then b
      else
        (b.txPut {
          words := completionPacket e.rev e.peer b.link.self c x.reason (y.record x.cseq)
          link := e.link, peer := k, by' := .completion c }).modCq c fun x => { x with stage := .sending }

/-- FALLBACK_SEND (R367). -/
def execFallbackSend (cq : Nat) (s : State) : Host.Outcome State Fault Refusal :=
  .next { s with blk := fallbackSend cq s.blk }

/-- R367: the packet's last transfer has been accepted on lp_tx. -/
def Block.cqSent (b : Block) (c : Nat) : Block :=
  if (b.cq c).stage = CqStage.sending then
    (b.modCq c fun x => { x with fbcnt := satAdd 16 x.fbcnt 1 }).cqDone c true
  else b

end Sys2Proof.Machine
end

