-- ==== Sys2Proof/Machine/Link.lean ====
section
/-! DEFINITION. The link port (R370 to R380): peers and revisions, packets in and out, received signals,
FOREIGN records, and the LNK_ registers. -/

namespace Sys2Proof

namespace Machine

/-! ## Peers -/

/-- The peer entries on a link that are VALID. -/
def Block.entriesOn (b : Block) (link : Nat) : List Nat :=
  (b.link.peers.filter fun t => t.2.valid && t.2.link == link).map (·.1)

/-- The VALID entries for a peer. -/
def Block.entriesFor (b : Block) (x : Nat) : List Nat :=
  (b.link.peers.filter fun t => t.2.valid && t.2.peer == x).map (·.1)

/-- A HELLO to be sent on a link. -/
def Block.sendHello (p : Params) (b : Block) (link entry x : Nat) (ack : Bool) : Block :=
  Block.txStart { b with link := { b.link with hellos := b.link.hellos ++
      [{ words := helloPacket p x b.link.self ack, link := link, peer := entry, by' := .hello }] } }

/-- R373: a VALID entry whose link has come up says HELLO. -/
def Block.greet (p : Params) (b : Block) (e : Nat) : Block :=
  let x := b.peer e
  (b.modPeer e fun x => { x with state := .helloSent }).sendHello p x.link e x.peer false

/-- R373: lp_link_up rises on a link. -/
def linkUpRise (p : Params) (l : Nat) (b : Block) : Block :=
  if b.linkIsUp l || p.links ≤ l then b
  else
    let b := { b with link := { b.link with up := b.link.up ||| BitVec.ofNat 16 (2 ^ l) } }
    Block.txStart (if b.link.en then (b.entriesOn l).foldl (Block.greet p) b else b)

/-- LINK_UP_RISE (R373). -/
def execLinkUpRise (link : BitVec 4) (s : State) : Host.Outcome State Fault Refusal :=
  .next { s with blk := linkUpRise s.params link.toNat s.blk }

/-- R60, R373, R376: lp_link_up falls on a link: its entries go DOWN. Whether a transfer of the packet that the port has
started on the link had been accepted, so that it is cut and counts in CUT, the spec leaves to the surroundings: it is
drawn (DESIGN CHOICE, log 25). The packet, a HELLO too, keeps its place and is sent again in full. -/
def linkUpFall (l : Nat) (b : Block) : Block :=
  if !b.linkIsUp l then b
  else
    let b := if (match b.link.sending with | some x => x.2 == l | none => false) then
        (let d := b.draw
         { d.2 with link := { d.2.link with
            sending := none, cut := if bit d.1 0 then satAdd 16 d.2.link.cut 1 else d.2.link.cut } })
      else b
    let b := { b with link := { b.link with up := b.link.up &&& ~~~(BitVec.ofNat 16 (2 ^ l)) } }
    Block.txStart ((b.entriesOn l).foldl (fun b e => b.modPeer e fun x => { x with state := .down }) b)

/-- LINK_UP_FALL (R373). -/
def execLinkUpFall (link : BitVec 4) (s : State) : Host.Outcome State Fault Refusal :=
  .next { s with blk := linkUpFall link.toNat s.blk }

/-- R373: an entry in HELLO_SENT says HELLO again. -/
def helloRetry (p : Params) (e : Nat) (b : Block) : Block :=
  let x := b.peer e
  if x.valid && x.state == .helloSent && b.link.en && b.linkIsUp x.link then b.sendHello p x.link e x.peer false
  else b

/-- HELLO_RETRY_TIMER (R373). -/
def execHelloRetryTimer (peer : Nat) (s : State) : Host.Outcome State Fault Refusal :=
  .next { s with blk := helloRetry s.params peer s.blk }

/-! ## Packets out -/

/-- LKT_PEER_CNT.TX counts SIGNAL and COMPLETION packets (R494). -/
def Block.countTx (b : Block) (x : TxPacket) : Block :=
  match x.by' with
  | .hello => b
  | _ =>
      match b.txEntry x with
      | some e => b.modPeer e fun e => { e with tx := wrapAdd 32 e.tx 1 }
      | none => b

/-- What follows once a packet has been transmitted (R367, R377). The packet of a submission that has ended acts on no
later one of its number. -/
def Block.afterTx (b : Block) (x : TxPacket) : Block :=
  match x.by' with
  | .signalNode seg g index =>
      if tget 0 b.graph.sgen seg = g then
        b.modNode seg index fun n => { n with outcome := some Status.ok, busy := false }
      else b
  | .completion c => b.cqSent c
  | .poison => b
  | .hello => b

/-- The trace event of class LINK (R471). -/
def Block.traceLink (b : Block) (type : Nat) (rx : Bool) (peer : Nat) (word1 : Word) : Block :=
  b.traceEvent 7 2 (pack [(type, 8, 0), (b2n rx, 1, 8), (peer, 20, 20)]) [word1]

/-- R376: all transfers of the packet have been accepted on lp_tx without a cut. -/
def packetTransmitted (b : Block) : Block :=
  match b.txStart.link.sending with
  | none => b
  | some (x, _) =>
      let b := { b with link := { b.link with
        sending := none, txq := b.link.txq.erase x, hellos := b.link.hellos.erase x } }
      let w (i : Nat) : Word := (x.words[i]?).getD 0
      let b := b.traceLink (fld (w 0) 63 56) false (fld (w 0) 39 20) (w 1)
      ((b.countTx x).afterTx x).flushPoisons.txStart

/-- PACKET_TRANSMITTED (R376). -/
def execPacketTransmitted (s : State) : Host.Outcome State Fault Refusal :=
  .next { s with blk := packetTransmitted s.blk }

/-! ## Packets in -/

end Machine

/-- Word `i` of a packet. -/
def Packet.w (x : Packet) (i : Nat) : Word := (x.words[i]?).getD 0
/-- TYPE. -/
def Packet.type (x : Packet) : Nat := Machine.fld (x.w 0) 63 56
/-- LEN. -/
def Packet.len (x : Packet) : Nat := Machine.fld (x.w 0) 55 52
/-- REV. -/
def Packet.rev (x : Packet) : Nat := Machine.fld (x.w 0) 51 44
/-- DST. -/
def Packet.dst (x : Packet) : Nat := Machine.fld (x.w 0) 39 20
/-- SRC. -/
def Packet.src (x : Packet) : Nat := Machine.fld (x.w 0) 19 0

/-- R375: LEN fits the type, and for a COMPLETION its record. -/
def Packet.lenOk (x : Packet) : Bool :=
  match x.type with
  | 1 => x.len == 1
  | 2 =>
      let t := Machine.fld (x.w 4) 63 60
      let u := Machine.fld (x.w 4) 59 52
      (t == 1 && u == 2 && x.len == 5) || (t == 2 && u == 3 && x.len == 7)
  | 3 => x.len == 1
  | _ => false

/-- R374, R375: no reserved bit of the header is set at REV. -/
def Packet.reservedOk (x : Packet) : Bool :=
  Machine.fld (x.w 0) 43 40 == 0 && x.w 3 == 0 &&
  match x.type with
  | 1 => Machine.fld (x.w 1) 63 41 == 0 && (Machine.fld (x.w 1) 40 40 == 0 || 0x11 ≤ x.rev) && Machine.fld (x.w 2) 63 48 == 0
  | 2 => Machine.fld (x.w 1) 63 20 == 0 && Machine.fld (x.w 1) 15 12 == 0 && (Machine.fld (x.w 1) 19 16 == 0 || 0x12 ≤ x.rev) && x.w 2 == 0
  | 3 => Machine.fld (x.w 1) 63 17 == 0 && x.w 2 == 0
  | _ => false

/-- R375: the packet is accepted. -/
def Packet.valid (p : Params) (self : Nat) (x : Packet) : Bool :=
  x.dst == self && 0x10 ≤ x.rev && x.rev ≤ Machine.lpRev p && (x.words.length + 3) / 4 == x.len
    && x.lastBytes.toNat == 31 && x.lenOk && x.reservedOk

namespace Machine

/-- R372: a HELLO from a peer. -/
def Block.helloIn (p : Params) (x : Packet) (b : Block) : Block :=
  let c := min (lpRev p) (fld (x.w 1) 7 0)
  let ok := max 0x10 (fld (x.w 1) 15 8) ≤ c
  let b := (b.entriesFor x.src).foldl (fun b e => b.modPeer e fun y =>
    if ok then { y with rev := c, state := .up } else { y with state := .incompat }) b
  let b := if bit (x.w 1) 16 then b else b.sendHello p x.link.toNat ((b.peerFor x.src).getD 0) x.src true
  b.flushPoisons.txStart

/-- R378: a received SIGNAL is counted as stale. -/
def Block.staleSignal (b : Block) : Block := { b with link := { b.link with stale := satAdd 16 b.link.stale 1 } }

/-- R244, R278, R378: a received poison. -/
def Block.poisonIn (b : Block) (h : Handle) (st : Status) (q : Nat) (u : Bool) : Block :=
  let was := (b.fence (handleIndex h)).state
  let r := b.poisonHandle h st true 0
  if !r.1 then r.2.staleSignal
  else if was == .active then r.2.modFence (handleIndex h) fun f => { f with quantity := q, unit := u }
  else r.2

/-- R378: a SIGNAL from a peer. -/
def Block.signalIn (x : Packet) (b : Block) : Block :=
  if !((b.entriesFor x.src).any fun e => (b.peer e).accept) then
    { b with link := { b.link with denied := satAdd 16 b.link.denied 1 } }
  else
    let h : Handle := BitVec.ofNat 32 (fld (x.w 1) 31 0)
    let st : Status := BitVec.ofNat 8 (fld (x.w 1) 39 32)
    let q := fld (x.w 2) 47 0
    let u := bit (x.w 1) 40
    if st = 0 then
      let r := b.signalFence (handleIndex h) (handleGen h) true 0 (.remote q u)
      (match r.1 with | .stale => r.2.staleSignal | _ => r.2)
    else if st.toNat < 0x10 ∨ 0x7F < st.toNat then b.staleSignal
    else b.poisonIn h st q u

/-- R369: the FOREIGN record of a COMPLETION packet: TYPE changed and word 7 filled. -/
def foreignRecord (x : Packet) : List Word :=
  let ws := x.words.drop 4
  let w0 := (ws[0]?).getD 0
  let w7 := (ws[7]?).getD 0
  let filled := packW [(fld w7 63 52, 12, 52), (fld (x.w 1) 19 16, 4, 48), (fld w7 47 44, 4, 44),
    (fld (x.w 1) 11 0, 12, 32), (fld w7 31 20, 12, 20), (x.src, 20, 0)]
  (ws.set 0 (packW [(3, 4, 60), (fld w0 59 0, 60, 0)])).set 7 filled

/-- R369: a COMPLETION from a peer: its record stands behind the held completions of FB_CQ, and is discarded where that
queue is not ACTIVE, or leaves ACTIVE or has no room for it when its turn comes. (DEDUCED, log 141) -/
def Block.completionIn (x : Packet) (b : Block) : Block :=
  let c := b.link.fbCq
  if (b.cq c).state != .active then
    Block.raise { b with link := { b.link with fbLost := satAdd 16 b.link.fbLost 1 } } 8
  else b.modCq c fun y => { y with held := y.held ++ [{
    seg := none, queue := 0, ringIdx := 0, status := 0, failIndex := 0, desc := [], tFetch := 0, tDone := 0
    nreleased := 0, nretired := 0, bytes := [], audit := false, digest := 0, ctx := 0, doneV := false
    save := false, foreign := some (foreignRecord x) }] }

/-- R494: LKT_PEER_CNT.RX. -/
def Block.countRx (b : Block) (x : Nat) : Block :=
  match b.peerFor x with
  | some e => b.modPeer e fun y => { y with rx := wrapAdd 32 y.rx 1 }
  | none => b

/-- R379: received signals that wait their turn. -/
def Block.remoteTurns (b : Block) : Nat :=
  (b.fences.turns.filter fun t => match t.by' with | .remote _ _ => true | _ => false).length

/-- R370, R375, R379, R493, R497: a packet reaches the link port. While `lp_rx_ready` is low none is
accepted; while EN is 0 or the engine's domain is off it is discarded. `only` limits the types that the
command speaks of. (DEDUCED, log 119) -/
def packetIn (p : Params) (only : Nat → Bool) (x : Packet) (b : Block) : Block :=
  if b.halted || 256 ≤ b.remoteTurns || !only x.type || !b.link.en || (b.dom 6).state != .on then b
  else if !x.valid p b.link.self then { b with link := { b.link with rxBad := satAdd 16 b.link.rxBad 1 } }
  else
    let b := b.traceLink x.type true x.src (x.w 1)
    match x.type with
    | 1 => (b.countRx x.src).signalIn x
    | 2 => (b.countRx x.src).completionIn x
    | _ => b.helloIn p x

/-- PACKET_RECEIVED (R375). -/
def execPacketReceived (p : Packet) (s : State) : Host.Outcome State Fault Refusal :=
  .next { s with blk := packetIn s.params (fun _ => true) p s.blk }

/-- COMPLETION (R369): a received COMPLETION packet. -/
def execCompletion (p : Packet) (s : State) : Host.Outcome State Fault Refusal :=
  .next { s with blk := packetIn s.params (· == 2) p s.blk }

/-- HELLO (R372): a received HELLO packet. -/
def execHello (p : Packet) (s : State) : Host.Outcome State Fault Refusal :=
  .next { s with blk := packetIn s.params (· == 3) p s.blk }

/-- SIGNAL (R378): a received SIGNAL packet. -/
def execSignal (p : Packet) (s : State) : Host.Outcome State Fault Refusal :=
  .next { s with blk := packetIn s.params (· == 1) p s.blk }

/-! ## Registers -/

/-- R373: SIGNAL nodes that wait for peer `x` are to be released with SETTING_MISMATCH. -/
def Block.dropPeer (b : Block) (x : Nat) : Block :=
  { b with graph := { b.graph with subs := b.graph.subs.map fun s =>
      (s.1, { s.2 with nodes := s.2.nodes.map fun t =>
        if t.2.kind = 4 ∧ t.2.state = NodeState.acting ∧ t.2.peer = some x ∧ !t.2.busy then
          (t.1, { t.2 with outcome := some Status.mismatch })
        else t }) } }

/-- R373: a write of LNK_PEER. (DEDUCED, log 26) -/
def peerEntryWrite (p : Params) (e : Nat) (d : Word) (b : Block) : Block :=
  let old := b.peer e
  let b := b.modPeer e fun x =>
    { x with
      valid := bit d 63, accept := bit d 62, link := fld d 35 32, peer := fld d 19 0, state := .down }
  let b := if old.valid && !bit d 63 then (b.dropPeer old.peer).flushPoisons else b
  let x := b.peer e
  if x.valid && b.link.en && b.linkIsUp x.link then b.greet p e else b

/-- PEER_ENTRY_WRITE (R373). -/
def execPeerEntryWrite (a : Acc) (peer : Nat) (data : Word) (s : State) : Host.Outcome State Fault Refusal :=
  .next (s.command a (.lnkPeer peer) fun p b => peerEntryWrite p peer data b)

/-- R370, R497: a write of LNK_SELF. While the engine's domain is off, one that sets EN is ignored. -/
def selfWrite (d : Word) (b : Block) : Block :=
  if (b.dom 6).state != .on && bit d 63 then b
  else Block.txStart { b with link := { b.link with
    en := bit d 63, sending := if bit d 63 then b.link.sending else none, fbCq := fld d 43 32
    self := if b.link.en then b.link.self else fld d 19 0 } }

/-- SELF_WRITE (R370). -/
def execSelfWrite (a : Acc) (data : Word) (s : State) : Host.Outcome State Fault Refusal :=
  .next (s.command a .lnkSelf fun _ b => selfWrite data b)

/-- LNK_TXSTAT.CLR: CUT and LNK_STATUS are cleared. -/
def linkClear (b : Block) : Block :=
  { b with link := { b.link with cut := 0, rxBad := 0, denied := 0, stale := 0, fbLost := 0 } }

/-- CLR (LNK_TXSTAT). -/
def execClr (a : Acc) (s : State) : Host.Outcome State Fault Refusal :=
  .next (s.command a .lnkTxstat fun _ b => linkClear b)

end Machine

end Sys2Proof
end

