-- ==== Sys2Proof/Machine/Saffron.lean ====
section
/-! DEFINITION. The Saffron unit (R308 to R338): its registers, the operations of its program, and how a
program ends or fails. An instruction command acts when its word is the one at PC. -/

namespace Sys2Proof

/-- Bits 23:0 of a word of format T (R312's table of formats). -/
def TFmt.enc (f : TFmt) : Nat :=
  Machine.pack [(f.d.toNat, 4, 20), (f.a.toNat, 4, 16), (f.b.toNat, 4, 12), (f.c.toNat, 4, 8),
    (f.msel.toNat, 2, 6), (Machine.b2n f.mu, 1, 5), (f.mod.toNat, 5, 0)]

/-- Bits 23:0 of a word of format I. -/
def IFmt.enc (f : IFmt) : Nat :=
  Machine.pack [(f.d.toNat, 4, 20), (f.a.toNat, 4, 16), (f.imm.toNat, 16, 0)]

/-- MSEL and MU unused. -/
def TFmt.noMask (f : TFmt) : Bool := f.msel == 0 && !f.mu

namespace Machine

/-! ## Registers -/

/-- Elements of a tile or mask. -/
def tileSize : Nat := 1024

/-- Tile `t`, row by row. -/
def Saffron.tile (u : Saffron) (t : Nat) : List Elt :=
  let l := tget [] u.tiles t
  l ++ List.replicate (tileSize - l.length) 0

/-- Mask `k`, row by row. -/
def Saffron.mask (u : Saffron) (k : Nat) : List Bool :=
  let l := tget [] u.masks k
  l ++ List.replicate (tileSize - l.length) false

/-- Scalar `i`. -/
def Saffron.scalar (u : Saffron) (i : Nat) : Word := tget 0 u.scalars i

/-- Tile `t` is written. -/
def Saffron.setTile (u : Saffron) (t : Nat) (v : List Elt) : Saffron := { u with tiles := tset [] u.tiles t v }

/-- Mask `k` is written. -/
def Saffron.setMask (u : Saffron) (k : Nat) (v : List Bool) : Saffron := { u with masks := tset [] u.masks k v }

/-- Scalar `i` is written. -/
def Saffron.setScalar (u : Saffron) (i : Nat) (v : Word) : Saffron := { u with scalars := tset 0 u.scalars i v }

/-- The mask that MU and MSEL choose: every element when MU = 0. -/
def Saffron.chosen (u : Saffron) (f : TFmt) : List Bool :=
  if f.mu then u.mask f.msel.toNat else List.replicate tileSize true

/-- R316: `new` where the mask is set, the old element elsewhere. -/
def mergeMask {α : Type} : List Bool → List α → List α → List α
  | m :: ms, x :: xs, o :: os => (if m then x else o) :: mergeMask ms xs os
  | _, _, _ => []

/-- R316: elements of tile D are written. -/
def Saffron.writeD (u : Saffron) (f : TFmt) (v : List Elt) : Saffron :=
  u.setTile f.d.toNat (mergeMask (u.chosen f) v (u.tile f.d.toNat))

/-- Sets SAT or NAN where `flags` holds for an element that is written. -/
def anyChosen (ms : List Bool) (flags : List Bool) : Bool := (List.zipWith (· && ·) ms flags).any id

/-! ## Failure and progress of a program -/

/-- The expansion that runs on Bead `n`. -/
def Block.modExp (b : Block) (n : Nat) (f : Expansion → Expansion) : Block :=
  b.modSaf n fun u => { u with exp := u.exp.map f }

/-- An expansion fails outside its program: it completes with `st` and creates no node. -/
def Block.expFail (b : Block) (n : Nat) (st : Status) : Block :=
  b.modExp n fun x =>
    { x with fail := match x.fail with | some s => some s | none => some st, stage := .retiring }

/-- R336: the program fails at instruction `pc`. -/
def Block.progFail (b : Block) (n pc cause : Nat) (st : Status) : Block :=
  (b.modSaf n fun u => { u with errV := true, errCause := cause, errPc := pc % 4096 }).expFail n st

/-- The operations of R313. -/
def knownOp (op : Nat) : Bool :=
  (1 ≤ op && op ≤ 0x12) || (0x14 ≤ op && op ≤ 0x16) || (0x20 ≤ op && op ≤ 0x24) || (0x30 ≤ op && op ≤ 0x33)
    || (0x40 ≤ op && op ≤ 0x44) || op == 0x48 || op == 0x49 || op == 0x4F

/-- R313: a word of no operation has no command of its own: it fails when PC reaches it (DEDUCED, log 28). (DEDUCED, log 75) -/
def Block.meetInstr (b : Block) (n : Nat) : Block :=
  let u := b.saf n
  match u.exp with
  | none => b
  | some x =>
      match x.prog[u.pc]? with
      | none => b
      | some w => if knownOp (w.toNat / 2 ^ 24) then b else b.progFail n u.pc 3 Status.format

/-- An instruction that occupied the datapath for `alu` bc is done; PC moves to `next` (R334). -/
def Block.advance (b : Block) (n alu next : Nat) : Block :=
  let u := b.saf n
  let ninstr := match u.exp with | some x => x.prog.length | none => 0
  let b := b.modSaf n fun u => { u with instr := u.instr + 1, aluBc := u.aluBc + alu }
  if ninstr ≤ next then b.progFail n u.pc 4 Status.format
  else (b.modSaf n fun u => { u with pc := next }).meetInstr n

/-- The word at PC while a program runs. -/
def Block.current (b : Block) (n : Nat) : Option Nat :=
  let u := b.saf n
  match u.exp with
  | none => none
  | some x => if u.busy && x.stage == .running && x.fail.isNone then (x.prog[u.pc]?).map (·.toNat) else none

/-- R312. -/
def instrBudget : Nat := 16777216

/-- R312, R313, R336: the instruction `word` runs when it stands at PC; `legal` says that its encoding is
one that R313, R314, R319, R323, R324, R328 and R329 allow. (DEDUCED, log 27) (DEDUCED, log 73) -/
def Block.instr (b : Block) (n word : Nat) (legal : Bool) (run : Block → Block) : Block :=
  if b.current n ≠ some word then b
  else if !legal then b.progFail n (b.saf n).pc 3 Status.format
  else if instrBudget ≤ (b.saf n).instr then b.progFail n (b.saf n).pc 8 Status.capacity
  else run b

/-- An instruction that changes registers of the unit alone. -/
def Block.instrAlu (b : Block) (n op alu : Nat) (f : TFmt) (legal : Bool) (run : Saffron → Saffron) : Block :=
  b.instr n (op * 2 ^ 24 + f.enc) legal fun b => (b.modSaf n run).advance n alu ((b.saf n).pc + 1)

/-- `instrAlu` for format I. -/
def Block.instrImm (b : Block) (n op alu : Nat) (f : IFmt) (legal : Bool) (run : Saffron → Saffron) : Block :=
  b.instr n (op * 2 ^ 24 + f.enc) legal fun b => (b.modSaf n run).advance n alu ((b.saf n).pc + 1)

/-- A scalar number. -/
def scalarOk (v : BitVec 4) : Bool := v.toNat < 8

/-! ## Element operations (R316 to R320) -/

/-- An operation on A and B, C and MOD unused. -/
def Block.elem2 (b : Block) (n op : Nat) (f : TFmt) (g : Elt → Elt → Elt) : Block :=
  b.instrAlu n op 2 f (f.c == 0 && f.mod == 0) fun u =>
    u.writeD f (List.zipWith g (u.tile f.a.toNat) (u.tile f.b.toNat))

/-- R317: a saturating operation; `g` gives the exact result, kept in `lo` to `hi`. -/
def Block.elemSat (b : Block) (n op : Nat) (f : TFmt) (lo hi : Int) (g : Elt → Elt → Int) : Block :=
  b.instrAlu n op 2 f (f.c == 0 && f.mod == 0) fun u =>
    let e := List.zipWith g (u.tile f.a.toNat) (u.tile f.b.toNat)
    let u' := u.writeD f (e.map fun x => BitVec.ofInt 16 (max lo (min hi x)))
    { u' with sat := u.sat || anyChosen (u.chosen f) (e.map fun x => decide (x < lo) || decide (hi < x)) }

/-- R318: a shift of A by MOD. -/
def Block.elemShift (b : Block) (n op : Nat) (f : TFmt) (g : Elt → Nat → Elt) : Block :=
  b.instrAlu n op 2 f (f.b == 0 && f.c == 0) fun u => u.writeD f ((u.tile f.a.toNat).map fun x => g x f.mod.toNat)

/-- Element order, unsigned or signed. -/
def eltLe (signed : Bool) (x y : Elt) : Bool := if signed then decide (x.toInt ≤ y.toInt) else decide (x.toNat ≤ y.toNat)

/-- MIN and MAX. -/
def Block.elemMinMax (b : Block) (n op : Nat) (f : TFmt) (small : Bool) : Block :=
  let signed := f.mod == 1
  b.instrAlu n op 2 f (f.c == 0 && f.mod.toNat < 2) fun u =>
    u.writeD f (List.zipWith (fun x y => if eltLe signed x y == small then x else y)
      (u.tile f.a.toNat) (u.tile f.b.toNat))

/-- AND (R313). -/
def execSAnd (bead : Nat) (f : TFmt) (s : State) : Host.Outcome State Fault Refusal :=
  .next { s with blk := s.blk.elem2 bead 0x01 f (· &&& ·) }
/-- OR (R313). -/
def execSOr (bead : Nat) (f : TFmt) (s : State) : Host.Outcome State Fault Refusal :=
  .next { s with blk := s.blk.elem2 bead 0x02 f (· ||| ·) }
/-- XOR (R313). -/
def execSXor (bead : Nat) (f : TFmt) (s : State) : Host.Outcome State Fault Refusal :=
  .next { s with blk := s.blk.elem2 bead 0x03 f (· ^^^ ·) }

/-- NOT (R313): B, C and MOD unused. -/
def Block.elemNot (b : Block) (n : Nat) (f : TFmt) : Block :=
  b.instrAlu n 0x04 2 f (f.b == 0 && f.c == 0 && f.mod == 0) fun u => u.writeD f ((u.tile f.a.toNat).map (~~~ ·))

/-- NOT (R313). -/
def execSNot (bead : Nat) (f : TFmt) (s : State) : Host.Outcome State Fault Refusal :=
  .next { s with blk := s.blk.elemNot bead f }
/-- SHL (R313, R318). -/
def execSShl (bead : Nat) (f : TFmt) (s : State) : Host.Outcome State Fault Refusal :=
  .next { s with blk := s.blk.elemShift bead 0x05 f fun x k => x <<< k }
/-- SHR (R313, R318). -/
def execSShr (bead : Nat) (f : TFmt) (s : State) : Host.Outcome State Fault Refusal :=
  .next { s with blk := s.blk.elemShift bead 0x06 f fun x k => x >>> k }
/-- SAR (R313, R318). -/
def execSSar (bead : Nat) (f : TFmt) (s : State) : Host.Outcome State Fault Refusal :=
  .next { s with blk := s.blk.elemShift bead 0x07 f fun x k => x.sshiftRight k }
/-- ADD (R313). -/
def execSAdd (bead : Nat) (f : TFmt) (s : State) : Host.Outcome State Fault Refusal :=
  .next { s with blk := s.blk.elem2 bead 0x08 f (· + ·) }
/-- ADDSU (R313, R317). -/
def execSAddsu (bead : Nat) (f : TFmt) (s : State) : Host.Outcome State Fault Refusal :=
  .next { s with blk := s.blk.elemSat bead 0x09 f 0 0xFFFF fun x y => (x.toNat : Int) + y.toNat }
/-- ADDSS (R313, R317). -/
def execSAddss (bead : Nat) (f : TFmt) (s : State) : Host.Outcome State Fault Refusal :=
  .next { s with blk := s.blk.elemSat bead 0x0A f (-32768) 32767 fun x y => x.toInt + y.toInt }
/-- SUB (R313). -/
def execSSub (bead : Nat) (f : TFmt) (s : State) : Host.Outcome State Fault Refusal :=
  .next { s with blk := s.blk.elem2 bead 0x0B f (· - ·) }
/-- SUBSU (R313, R317). -/
def execSSubsu (bead : Nat) (f : TFmt) (s : State) : Host.Outcome State Fault Refusal :=
  .next { s with blk := s.blk.elemSat bead 0x0C f 0 0xFFFF fun x y => (x.toNat : Int) - y.toNat }
/-- SUBSS (R313, R317). -/
def execSSubss (bead : Nat) (f : TFmt) (s : State) : Host.Outcome State Fault Refusal :=
  .next { s with blk := s.blk.elemSat bead 0x0D f (-32768) 32767 fun x y => x.toInt - y.toInt }
/-- MIN (R313). -/
def execSMin (bead : Nat) (f : TFmt) (s : State) : Host.Outcome State Fault Refusal :=
  .next { s with blk := s.blk.elemMinMax bead 0x0E f true }
/-- MAX (R313). -/
def execSMax (bead : Nat) (f : TFmt) (s : State) : Host.Outcome State Fault Refusal :=
  .next { s with blk := s.blk.elemMinMax bead 0x0F f false }

/-- R319: the condition of CMP. -/
def cmpHolds (c : Nat) (x y : Elt) : Bool :=
  match c with
  | 0 => x == y
  | 1 => x != y
  | 2 => decide (x.toNat < y.toNat)
  | 3 => decide (x.toNat ≤ y.toNat)
  | 4 => decide (x.toInt < y.toInt)
  | _ => decide (x.toInt ≤ y.toInt)

/-- CMP (R319): an element whose mask bit is 0 receives 0. -/
def Block.elemCmp (b : Block) (n : Nat) (f : TFmt) : Block :=
  b.instrAlu n 0x10 2 f (f.c == 0 && f.d.toNat < 4 && f.mod.toNat < 6) fun u =>
    u.setMask f.d.toNat (List.zipWith (· && ·) (u.chosen f)
      (List.zipWith (cmpHolds f.mod.toNat) (u.tile f.a.toNat) (u.tile f.b.toNat)))

/-- CMP (R319). -/
def execSCmp (bead : Nat) (f : TFmt) (s : State) : Host.Outcome State Fault Refusal :=
  .next { s with blk := s.blk.elemCmp bead f }

/-- SEL (R316): M[MSEL] is read whatever MU is, and MU must be 0. -/
def Block.elemSel (b : Block) (n : Nat) (f : TFmt) : Block :=
  b.instrAlu n 0x11 2 f (f.c == 0 && f.mod == 0 && !f.mu) fun u =>
    u.setTile f.d.toNat (mergeMask (u.mask f.msel.toNat) (u.tile f.a.toNat) (u.tile f.b.toNat))

/-- SEL (R316). -/
def execSSel (bead : Nat) (f : TFmt) (s : State) : Host.Outcome State Fault Refusal :=
  .next { s with blk := s.blk.elemSel bead f }

/-- MOP (R319): masks are named by the low two bits; NOT ignores B. -/
def Block.maskOp (b : Block) (n : Nat) (f : TFmt) : Block :=
  let not := f.mod == 3
  b.instrAlu n 0x12 1 f
    (f.c == 0 && f.mod.toNat < 4 && f.d.toNat < 4 && f.a.toNat < 4 && (f.b.toNat < 4 || not) && f.noMask) fun u =>
    let x := u.mask f.a.toNat
    let y := u.mask (f.b.toNat % 4)
    u.setMask f.d.toNat (match f.mod.toNat with
      | 0 => List.zipWith (· && ·) x y
      | 1 => List.zipWith (· || ·) x y
      | 2 => List.zipWith (fun p q => p && !q) x y
      | _ => x.map (!·))

/-- MOP (R319). -/
def execSMop (bead : Nat) (f : TFmt) (s : State) : Host.Outcome State Fault Refusal :=
  .next { s with blk := s.blk.maskOp bead f }

/-- R320: the element is a NaN of binary16, or of bfloat16 when `bf`. -/
def isNan (bf : Bool) (x : Elt) : Bool :=
  if bf then (x &&& 0x7F80#16) == 0x7F80#16 && (x &&& 0x7F#16) != 0
  else (x &&& 0x7C00#16) == 0x7C00#16 && (x &&& 0x3FF#16) != 0

/-- R320: okey. -/
def okey (bf : Bool) (x : Elt) : Elt :=
  if isNan bf x then 0
  else
    let x := if x = 0x8000#16 then 0#16 else x
    if x.getLsbD 15 then ~~~x else x ^^^ 0x8000#16

/-- OKEY (R320). -/
def Block.elemOkey (b : Block) (n : Nat) (f : TFmt) : Block :=
  let bf := f.mod == 1
  b.instrAlu n 0x14 2 f (f.b == 0 && f.c == 0 && f.mod.toNat < 2) fun u =>
    let a := u.tile f.a.toNat
    let u' := u.writeD f (a.map (okey bf))
    { u' with nan := u.nan || anyChosen (u.chosen f) (a.map (isNan bf)) }

/-- OKEY (R320). -/
def execSOkey (bead : Nat) (f : TFmt) (s : State) : Host.Outcome State Fault Refusal :=
  .next { s with blk := s.blk.elemOkey bead f }

/-- IOTA (R313). -/
def Block.iota (b : Block) (n : Nat) (f : IFmt) : Block :=
  b.instrImm n 0x15 2 f (f.a == 0) fun u =>
    u.setTile f.d.toNat ((List.range tileSize).map fun i => f.imm + BitVec.ofNat 16 (i % 32))

/-- IOTA (R313). -/
def execSIota (bead : Nat) (f : IFmt) (s : State) : Host.Outcome State Fault Refusal :=
  .next { s with blk := s.blk.iota bead f }

/-- FILL (R313). -/
def Block.fill (b : Block) (n : Nat) (f : IFmt) : Block :=
  b.instrImm n 0x16 2 f (f.a == 0) fun u =>
    u.setTile f.d.toNat (List.replicate tileSize f.imm)

/-- FILL (R313). -/
def execSFill (bead : Nat) (f : IFmt) (s : State) : Host.Outcome State Fault Refusal :=
  .next { s with blk := s.blk.fill bead f }

/-! ## Row operations (R321 to R325) -/

/-- The 32 rows of a list of elements. -/
def rowsOf {α : Type} (l : List α) : List (List α) := (List.range 32).map fun r => (l.drop (32 * r)).take 32

/-- A row with the given first columns and zeros after. -/
def padRow (fill : Elt) (l : List Elt) : List Elt := l ++ List.replicate (32 - l.length) fill

/-- The elements of a row that are considered, with their columns. -/
def considered (ms : List Bool) (row : List Elt) : List (Elt × Nat) :=
  ((List.zip ms (List.zip row (List.range 32))).filter (·.1)).map (·.2)

/-- The extreme of a row: the lowest column that holds it. -/
def extreme (small signed : Bool) : List (Elt × Nat) → Option (Elt × Nat)
  | [] => none
  | x :: xs =>
      match extreme small signed xs with
      | none => some x
      | some y => if (if small then eltLe signed x.1 y.1 else eltLe signed y.1 x.1) then some x else some y

/-- R321, R322: one row of RMIN or RMAX. -/
def rowExtreme (small signed : Bool) (ms : List Bool) (row : List Elt) : List Elt :=
  match extreme small signed (considered ms row) with
  | some (v, c) => padRow 0 [v, BitVec.ofNat 16 c]
  | none =>
      padRow 0 [if small then (if signed then 0x7FFF#16 else 0xFFFF#16) else (if signed then 0x8000#16 else 0),
        0xFFFF#16]

/-- RMIN and RMAX (R321, R322). -/
def Block.rowMinMax (b : Block) (n op : Nat) (f : TFmt) (small : Bool) : Block :=
  let signed := f.mod == 1
  b.instrAlu n op 2 f (f.b == 0 && f.c == 0 && f.mod.toNat < 2) fun u =>
    u.setTile f.d.toNat (List.zipWith (rowExtreme small signed) (rowsOf (u.chosen f)) (rowsOf (u.tile f.a.toNat))).flatten

/-- RMIN (R321). -/
def execSRmin (bead : Nat) (f : TFmt) (s : State) : Host.Outcome State Fault Refusal :=
  .next { s with blk := s.blk.rowMinMax bead 0x20 f true }
/-- RMAX (R321). -/
def execSRmax (bead : Nat) (f : TFmt) (s : State) : Host.Outcome State Fault Refusal :=
  .next { s with blk := s.blk.rowMinMax bead 0x21 f false }

/-- The exact sum of the considered elements of a row. -/
def rowSum (ms : List Bool) (row : List Elt) : Nat := (considered ms row).foldl (fun k t => k + t.1.toNat) 0

/-- RSUM (R321, R322, R317). -/
def Block.rowSums (b : Block) (n : Nat) (f : TFmt) : Block :=
  b.instrAlu n 0x22 2 f (f.b == 0 && f.c == 0 && f.mod == 0) fun u =>
    let sums := List.zipWith rowSum (rowsOf (u.chosen f)) (rowsOf (u.tile f.a.toNat))
    let u' := u.setTile f.d.toNat (sums.map fun k => padRow 0 [BitVec.ofNat 16 (min k 0xFFFF)]).flatten
    { u' with sat := u.sat || sums.any (0xFFFF < ·) }

/-- RSUM (R321). -/
def execSRsum (bead : Nat) (f : TFmt) (s : State) : Host.Outcome State Fault Refusal :=
  .next { s with blk := s.blk.rowSums bead f }

/-- R325: entry `x`, (key, index), ranks above `y`. -/
def ranksAbove (x y : Elt × Elt) : Bool :=
  if x.2 ≠ 0xFFFF#16 ∧ y.2 = 0xFFFF#16 then true
  else if x.2 = 0xFFFF#16 ∧ y.2 ≠ 0xFFFF#16 then false
  else decide (y.1.toNat < x.1.toNat) || (x.1 == y.1 && decide (x.2.toNat < y.2.toNat))

/-- R325: an entry takes its place behind every entry that it does not rank above. -/
def rankInsert (x : Elt × Elt) : List (Elt × Elt) → List (Elt × Elt)
  | [] => [x]
  | y :: ys => if ranksAbove x y then x :: y :: ys else y :: rankInsert x ys

/-- R324: one row of TOPK. `old` are the K entries that stand, `new` the candidates. -/
def topkRow (k : Nat) (init : Bool) (old new : List (Elt × Elt)) : List (Elt × Elt) :=
  let all := if init then new else old.take k ++ new
  let best := (all.foldl (fun l x => rankInsert x l) []).take k
  best ++ List.replicate (32 - best.length) (0, 0xFFFF#16)

/-- The new candidates of a row: keys and indices whose mask bit is set. -/
def newCands (ms : List Bool) (keys idxs : List Elt) : List (Elt × Elt) :=
  ((List.zip ms (List.zip keys idxs)).filter (·.1)).map (·.2)

/-- R324, R325: TOPK row by row. With INIT = 0, a row whose candidates are all masked is left as it is. -/
def topkRows (k : Nat) (init : Bool) : List (List Bool) → List (List Elt) → List (List Elt) → List (List Elt) →
    List (List Elt) → List (List (Elt × Elt))
  | m :: ms, a :: as, i :: is, d :: ds, e :: es =>
      let new := newCands m a i
      let old := List.zip d e
      (if new.isEmpty && !init then old else topkRow k init old new) :: topkRows k init ms as is ds es
  | _, _, _, _, _ => []

/-- TOPK (R324, R325). With KEYF = 1 every element of A is taken through the order key, a masked one too, so NAN is
raised by each (R320). -/
def Block.topk (b : Block) (n : Nat) (f : TFmt) : Block :=
  let k := f.mod.toNat % 8 + 1
  let keyf := f.mod.getLsbD 3
  let bf := f.mod.getLsbD 4
  let d := f.d.toNat
  b.instrAlu n 0x23 2 f
    (d % 2 == 0 && f.a.toNat != d && f.a.toNat != d + 1 && f.b.toNat != d && f.b.toNat != d + 1 && f.c.toNat < 2)
    fun u =>
      let a := u.tile f.a.toNat
      let keys := if keyf then a.map (okey bf) else a
      let rows := topkRows k (f.c == 1) (rowsOf (u.chosen f)) (rowsOf keys) (rowsOf (u.tile f.b.toNat))
        (rowsOf (u.tile d)) (rowsOf (u.tile (d + 1)))
      let u' := (u.setTile d (rows.flatten.map (·.1))).setTile (d + 1) (rows.flatten.map (·.2))
      { u' with nan := u.nan || (keyf && a.any (isNan bf)) }

/-- TOPK (R324). -/
def execSTopk (bead : Nat) (f : TFmt) (s : State) : Host.Outcome State Fault Refusal :=
  .next { s with blk := s.blk.topk bead f }

/-- R323: unsigned saturating sums of the elements so far, from `acc`. -/
def prefixSums : Nat → List Elt → List Elt × Nat × Bool
  | acc, [] => ([], acc, false)
  | acc, x :: xs =>
      let s := acc + x.toNat
      let r := prefixSums (min s 0xFFFF) xs
      (BitVec.ofNat 16 (min s 0xFFFF) :: r.1, r.2.1, r.2.2 || decide (0xFFFF < s))

/-- PSUM (R323). -/
def Block.psum (b : Block) (n : Nat) (f : TFmt) : Block :=
  let chain := f.mod == 1
  b.instrAlu n 0x24 2 f (f.b == 0 && f.mod.toNat < 2 && (if chain then scalarOk f.c else f.c == 0)) fun u =>
    let a := List.zipWith (fun m x => if m then x else (0 : Elt)) (u.chosen f) (u.tile f.a.toNat)
    if chain then
      let r := prefixSums (fld (u.scalar f.c.toNat) 15 0) a
      let u' := (u.setTile f.d.toNat r.1).setScalar f.c.toNat (BitVec.ofNat 64 r.2.1)
      { u' with sat := u.sat || r.2.2 }
    else
      let rs := (rowsOf a).map (prefixSums 0)
      let u' := u.setTile f.d.toNat (rs.map (·.1)).flatten
      { u' with sat := u.sat || rs.any (·.2.2) }

/-- PSUM (R323). -/
def execSPsum (bead : Nat) (f : TFmt) (s : State) : Host.Outcome State Fault Refusal :=
  .next { s with blk := s.blk.psum bead f }

/-! ## Memory operations (R326 to R330) -/

/-- The 64-byte beats that areas (address, length) touch (R338). -/
def beatsOf (areas : List (Nat × Nat)) : Nat :=
  ((areas.flatMap fun t => (List.range ((t.1 + t.2 - 1) / 64 + 1 - t.1 / 64)).map fun i => t.1 / 64 + i).eraseDups).length

/-- R326: the shape in a scalar: ROWS, COLS and STRIDE, when it is legal. -/
def shapeOf (w : Word) : Option (Nat × Nat × Nat) :=
  let rows := fld w 37 32
  let cols := fld w 45 40
  if fld w 63 46 = 0 ∧ fld w 39 38 = 0 ∧ 1 ≤ rows ∧ rows ≤ 32 ∧ 1 ≤ cols ∧ cols ≤ 32 ∧ fld w 31 0 % 2 = 0 then
    some (rows, cols, fld w 31 0)
  else none

/-- The areas of the rows of a transfer. -/
def rowAreas (base : Nat) (shape : Nat × Nat × Nat) : List (Nat × Nat) :=
  (List.range shape.1).map fun r => (base + r * shape.2.2, 2 * shape.2.1)

/-- R8: areas that end within the device address space. -/
def areasOk (l : List (Nat × Nat)) : Bool := l.all fun t => decide (t.1 + t.2 ≤ 2 ^ 56)

/-- Adds beats. -/
def Block.addBeats (b : Block) (n k : Nat) : Block := b.modSaf n fun u => { u with beats := u.beats + k }

/-- R330, R51: the outcome of reading areas. -/
def MemView_areas (m : MemView) (l : List (Nat × Nat)) : Status :=
  lowestStatus (l.map fun t => m.status Status.indirectFault t.1 t.2)

/-- The memory errors of reading areas through a Bead's port are recorded. -/
def Block.areaErrors (b : Block) (n : Nat) (m : MemView) (l : List (Nat × Nat)) : Block :=
  l.foldl (fun b t => b.viewErrors n 4 m t.1 t.2) b

/-- R327: LD. -/
def Block.load (b : Block) (n : Nat) (f : TFmt) (m : MemView) : Block :=
  b.instr n (0x30 * 2 ^ 24 + f.enc) (scalarOk f.a && scalarOk f.b && f.c == 0 && f.mod == 0) fun b =>
    let u := b.saf n
    let base := (u.scalar f.a.toNat).toNat
    match shapeOf (u.scalar f.b.toNat) with
    | none => b.progFail n u.pc 5 Status.format
    | some sh =>
        let areas := rowAreas base sh
        if base % 2 = 1 ∨ !areasOk areas then b.progFail n u.pc 5 Status.format
        else if areas.any fun t => b.mp.pendingWrite t.1 t.2 then b
        else
          let b := (b.areaErrors n m areas).addBeats n (beatsOf areas)
          let st := MemView_areas m areas
          if st ≠ Status.ok then b.progFail n u.pc 9 st
          else
            let got (i : Nat) : Bool := decide (i / 32 < sh.1 ∧ i % 32 < sh.2.1)
            let tile := (List.range tileSize).map fun i =>
              if got i then BitVec.ofNat 16 (m.u16 (base + (i / 32) * sh.2.2 + 2 * (i % 32))) else (0 : Elt)
            let b := b.modSaf n fun u =>
              let u := u.setTile f.d.toNat tile
              if f.mu then u.setMask f.msel.toNat ((List.range tileSize).map got) else u
            b.advance n 0 (u.pc + 1)

/-- LD (R327). -/
def execSLd (bead : Nat) (f : TFmt) (m : MemView) (s : State) : Host.Outcome State Fault Refusal :=
  .next { s with blk := s.blk.load bead f m }

/-- R328: the runs of bytes that a row of ST writes: elements whose bit is 1, joined where they follow
one another. -/
def storeRuns : Nat → List (Bool × Elt) → List (Nat × List Byte)
  | _, [] => []
  | a, (false, _) :: r => storeRuns (a + 2) r
  | a, (true, x) :: r =>
      match storeRuns (a + 2) r with
      | (a', bs) :: t => if a' = a + 2 then (a, leBytes 2 x.toNat ++ bs) :: t else (a, leBytes 2 x.toNat) :: (a', bs) :: t
      | [] => [(a, leBytes 2 x.toNat)]

/-- R328: ST. -/
def Block.store (b : Block) (n : Nat) (f : TFmt) : Block :=
  b.instr n (0x31 * 2 ^ 24 + f.enc) (f.d == 0 && scalarOk f.b && scalarOk f.c && f.mod == 0) fun b =>
    let u := b.saf n
    let base := (u.scalar f.c.toNat).toNat
    match shapeOf (u.scalar f.b.toNat) with
    | none => b.progFail n u.pc 5 Status.format
    | some sh =>
        let areas := rowAreas base sh
        if !areasOk areas then b.progFail n u.pc 5 Status.format
        else
          let cells := List.zip (u.chosen f) (u.tile f.a.toNat)
          let runs := (List.range sh.1).flatMap fun r =>
            storeRuns (base + r * sh.2.2) ((cells.drop (32 * r)).take sh.2.1)
          let b := runs.foldl (fun b t => b.put n 4 t.1 t.2 (.saffron n u.pc)) (b.addBeats n (beatsOf areas))
          b.advance n 0 (u.pc + 1)

/-- ST (R328). (DEDUCED, log 74) -/
def execSSt (bead : Nat) (f : TFmt) (s : State) : Host.Outcome State Fault Refusal :=
  .next { s with blk := s.blk.store bead f }

/-- R329: the records that SCAT appends. Scalar D advances after each of them, also as word 1. -/
def scatWords (u : Saffron) (f : TFmt) : List Word :=
  let ms := u.mask f.msel.toNat
  let a := u.tile f.a.toNat
  let x := u.tile f.b.toNat
  let c := u.tile f.c.toNat
  let els := List.zip (List.zip ms (List.range tileSize)) (List.zip a (List.zip x c))
  let s := f.mod.toNat / 2 % 8
  let chosen := els.filter (·.1.1)
  (List.zip (List.range chosen.length) chosen).flatMap fun e =>
    let t := e.2
    packW [(t.2.2.2.toNat, 16, 48), (t.1.2, 16, 32), (t.2.2.1.toNat, 16, 16), (t.2.1.toNat, 16, 0)] ::
      (if f.mod.getLsbD 0 then [u.scalar s + (if s = f.d.toNat then BitVec.ofNat 64 (16 * e.1) else 0)] else [])

/-- R329: SCAT. -/
def Block.scatter (b : Block) (n : Nat) (f : TFmt) : Block :=
  let long := f.mod.getLsbD 0
  b.instr n (0x32 * 2 ^ 24 + f.enc) (scalarOk f.d && !f.mu && f.mod.toNat < 16 && (long || f.mod == 0)) fun b =>
    let u := b.saf n
    let base := (u.scalar f.d.toNat).toNat
    let bs := wordsBytes (scatWords u f)
    if base % (if long then 16 else 8) ≠ 0 ∨ 2 ^ 56 < base + bs.length then b.progFail n u.pc 5 Status.format
    else
      let b := if bs.isEmpty then b
        else (b.put n 4 base bs (.saffron n u.pc)).addBeats n (beatsOf [(base, bs.length)])
      let b := b.modSaf n fun u => u.setScalar f.d.toNat (BitVec.ofNat 64 (base + bs.length))
      b.advance n 0 (u.pc + 1)

/-- SCAT (R329). -/
def execSScat (bead : Nat) (f : TFmt) (s : State) : Host.Outcome State Fault Refusal :=
  .next { s with blk := s.blk.scatter bead f }

/-- R330: a write of the program is acknowledged with an error while the expansion runs. -/
def Block.saffronWriteError (b : Block) (n pc : Nat) : Block :=
  match (b.saf n).exp with
  | some x => if x.stage == .running && x.fail.isNone then b.progFail n pc 9 Status.indirectFault else b
  | none => b

/-! ## Candidates and the end (R331 to R335) -/

/-- R332: the candidates of one token. -/
def candsOk (nexp : Nat) : List (Elt × Elt) → Bool
  | [] => true
  | x :: xs =>
      decide (x.2.toNat < nexp) && xs.all (fun y => y.2 != x.2) && candsOk nexp xs &&
        (match xs with
          | y :: _ => decide (y.1.toNat < x.1.toNat) || (x.1 == y.1 && decide (x.2.toNat < y.2.toNat))
          | [] => true)

/-- R333: tokens that the queue of the routing stage holds. -/
def routeQueue : Nat := 64

/-- R331, R332, R333: CAND; one that would overfill the queue waits. -/
def Block.cand (b : Block) (n : Nat) (f : TFmt) : Block :=
  b.instr n (0x33 * 2 ^ 24 + f.enc) (f.d == 0 && f.c == 0 && f.mod == 0 && f.noMask) fun b =>
    let u := b.saf n
    match u.exp with
    | none => b
    | some x =>
        if (x.arg.mode ≠ 1 ∧ x.arg.mode ≠ 2) ∨ x.arg.ntok ≤ u.curtok then b.progFail n u.pc 7 Status.format
        else
          let k := min 32 (x.arg.ntok - u.curtok)
          let rows := List.zip (rowsOf (u.tile f.a.toNat)) (rowsOf (u.tile f.b.toNat))
          let new := (rows.take k).map fun t => (List.zip t.1 t.2).take x.arg.k
          if !new.all (candsOk x.arg.nexp) then b.progFail n u.pc 6 Status.format
          else if routeQueue < x.cands.length + k then b
          else
            let b := b.modExp n fun x => { x with cands := x.cands ++ new }
            (b.modSaf n fun u => { u with curtok := u.curtok + k }).advance n 0 (u.pc + 1)

/-- CAND (R331). -/
def execSCand (bead : Nat) (f : TFmt) (s : State) : Host.Outcome State Fault Refusal :=
  .next { s with blk := s.blk.cand bead f }

/-- Writes of a Bead's program that are not acknowledged. -/
def Mp.programWrites (x : Mp) (n : Nat) : Bool :=
  (x.writes ++ x.heldWrites).any fun w => match w.purpose with | .saffron b _ => b == n | _ => false

/-- The MODE of the expansion that runs on Bead `n`. -/
def Block.expMode (b : Block) (n : Nat) : Nat := match (b.saf n).exp with | some x => x.arg.mode | none => 0

/-- R335: END waits for the acknowledges of the program's writes. In modes 1 and 2, D is ignored. -/
def Block.endProgram (b : Block) (n : Nat) (f : TFmt) : Block :=
  b.instr n (0x4F * 2 ^ 24 + f.enc) ((scalarOk f.d || b.expMode n != 0) && f.a == 0 && f.b == 0 && f.c == 0 && f.mod == 0 && f.noMask) fun b =>
    let u := b.saf n
    match u.exp with
    | none => b
    | some x =>
        if b.mp.programWrites n then b
        else if x.arg.mode ≠ 0 ∧ u.curtok < x.arg.ntok then b.progFail n u.pc 7 Status.format
        else
          let b := b.modSaf n fun u => { u with instr := u.instr + 1 }
          if x.arg.mode = 0 then
            b.modExp n fun x => { x with stage := .creating, nlist := fld (u.scalar f.d.toNat) 31 0 }
          else b.modExp n fun x => { x with stage := .routing }

/-- END (R335). -/
def execSEnd (bead : Nat) (f : TFmt) (s : State) : Host.Outcome State Fault Refusal :=
  .next { s with blk := s.blk.endProgram bead f }

/-! ## Scalars and control (R313, R314, R334) -/

/-- R314: part `h` of a scalar is set. -/
def setPart (h : Nat) (imm : BitVec 16) (old : Word) : Word :=
  if h = 0 then imm.setWidth 64
  else (old &&& ~~~(0xFFFF#64 <<< (16 * h))) ||| (imm.setWidth 64 <<< (16 * h))

/-- SMOVI (R314). -/
def Block.movImm (b : Block) (n : Nat) (f : IFmt) : Block :=
  b.instrImm n 0x40 0 f (scalarOk f.d && f.a.toNat < 4) fun u =>
    u.setScalar f.d.toNat (setPart f.a.toNat f.imm (u.scalar f.d.toNat))

/-- SMOVI (R314). -/
def execSSmovi (bead : Nat) (f : IFmt) (s : State) : Host.Outcome State Fault Refusal :=
  .next { s with blk := s.blk.movImm bead f }

/-- SADDI (R313). -/
def Block.addImm (b : Block) (n : Nat) (f : IFmt) : Block :=
  b.instrImm n 0x41 0 f (scalarOk f.d && scalarOk f.a) fun u =>
    u.setScalar f.d.toNat (u.scalar f.a.toNat + f.imm.signExtend 64)

/-- SADDI (R313). -/
def execSSaddi (bead : Nat) (f : IFmt) (s : State) : Host.Outcome State Fault Refusal :=
  .next { s with blk := s.blk.addImm bead f }

/-- SADD (R313). -/
def Block.addScalar (b : Block) (n : Nat) (f : TFmt) : Block :=
  b.instrAlu n 0x42 0 f
      (scalarOk f.d && scalarOk f.a && scalarOk f.b && f.c == 0 && f.mod == 0 && f.noMask) fun u =>
      u.setScalar f.d.toNat (u.scalar f.a.toNat + u.scalar f.b.toNat)

/-- SADD (R313). -/
def execSSadd (bead : Nat) (f : TFmt) (s : State) : Host.Outcome State Fault Refusal :=
  .next { s with blk := s.blk.addScalar bead f }

/-- SLD (R313, R326, R330). -/
def Block.scalarLoad (b : Block) (n : Nat) (f : IFmt) (m : MemView) : Block :=
  b.instr n (0x43 * 2 ^ 24 + f.enc) (scalarOk f.d && scalarOk f.a) fun b =>
    let u := b.saf n
    let a := (u.scalar f.a.toNat + f.imm.signExtend 64).toNat
    if a % 8 ≠ 0 ∨ 2 ^ 56 < a + 8 then b.progFail n u.pc 5 Status.format
    else if b.mp.pendingWrite a 8 then b
    else
      let b := (b.areaErrors n m [(a, 8)]).addBeats n 1
      let st := m.status Status.indirectFault a 8
      if st ≠ Status.ok then b.progFail n u.pc 9 st
      else (b.modSaf n fun u => u.setScalar f.d.toNat (m.word a)).advance n 0 (u.pc + 1)

/-- SLD (R313). -/
def execSSld (bead : Nat) (f : IFmt) (m : MemView) (s : State) : Host.Outcome State Fault Refusal :=
  .next { s with blk := s.blk.scalarLoad bead f m }

/-- SSHRI (R313). -/
def Block.shiftScalar (b : Block) (n : Nat) (f : IFmt) : Block :=
  b.instrImm n 0x44 0 f (scalarOk f.d && scalarOk f.a) fun u =>
    u.setScalar f.d.toNat (u.scalar f.a.toNat >>> (f.imm.toNat % 64))

/-- SSHRI (R313). -/
def execSSshri (bead : Nat) (f : IFmt) (s : State) : Host.Outcome State Fault Refusal :=
  .next { s with blk := s.blk.shiftScalar bead f }

/-- LOOP (R313, R334): the target is checked whether or not the branch is taken. -/
def Block.loopBack (b : Block) (n : Nat) (f : IFmt) : Block :=
  b.instr n (0x48 * 2 ^ 24 + f.enc) (scalarOk f.d && f.a == 0) fun b =>
    let u := b.saf n
    if u.pc < f.imm.toNat then b.progFail n u.pc 4 Status.format
    else
      let v := u.scalar f.d.toNat - 1
      (b.modSaf n fun u => u.setScalar f.d.toNat v).advance n 0 (if v = 0 then u.pc + 1 else f.imm.toNat)

/-- LOOP (R334). -/
def execSLoop (bead : Nat) (f : IFmt) (s : State) : Host.Outcome State Fault Refusal :=
  .next { s with blk := s.blk.loopBack bead f }

/-- BZ (R313, R334). -/
def Block.branchZero (b : Block) (n : Nat) (f : IFmt) : Block :=
  b.instr n (0x49 * 2 ^ 24 + f.enc) (scalarOk f.d && f.a == 0) fun b =>
    let u := b.saf n
    let ninstr := match u.exp with | some x => x.prog.length | none => 0
    if f.imm.toNat ≤ u.pc ∨ ninstr ≤ f.imm.toNat then b.progFail n u.pc 4 Status.format
    else b.advance n 0 (if u.scalar f.d.toNat = 0 then f.imm.toNat else u.pc + 1)

/-- BZ (R334). -/
def execSBz (bead : Nat) (f : IFmt) (s : State) : Host.Outcome State Fault Refusal :=
  .next { s with blk := s.blk.branchZero bead f }

end Machine

end Sys2Proof
end

