-- ==== Sys2Proof/Machine/Expansion.lean ====
section
/-! DEFINITION. Expansions (R284 to R298, R528): the argument block, the start of the program, the routing
stage, the nodes created, retirement; and the planner of replicas (R303 to R307). -/

namespace Sys2Proof.Machine

/-! ## The argument block -/

/-- The argument block at an address (R284). -/
def readArgs (m : MemView) (a : Nat) : ArgBlock :=
  let w (i : Nat) : Nat := (m.word (a + 8 * i)).toNat
  let adr (i : Nat) : Nat := bits (w i) 55 0
  { mode := bits (w 0) 3 0, k := bits (w 0) 11 8, track := bits (w 0) 16 16 == 1, loadSrc := bits (w 0) 17 17 == 1
    ntok := bits (w 0) 63 32, nexp := bits (w 1) 15 0, npeer := bits (w 1) 23 16
    scores := adr 2, cap := adr 3, tokrec := adr 4, exprec := adr 5, locnt := adr 6, peers := adr 7, send := adr 8
    sendStride := bits (w 9) 31 0, paramOut := adr 10, clist := adr 11, loadAddr := adr 12
    rules := (List.range 8).map fun t =>
      let v := w (13 + t / 4)
      (bits v (16 * (t % 4) + 3) (16 * (t % 4)), bits v (16 * (t % 4) + 11) (16 * (t % 4) + 8)) }

/-- R284: every bit that the table does not show is zero. -/
def argsReserved (m : MemView) (a : Nat) : Bool :=
  let w (i : Nat) : Nat := (m.word (a + 8 * i)).toNat
  bits (w 0) 7 4 == 0 && bits (w 0) 15 12 == 0 && bits (w 0) 31 18 == 0 && bits (w 1) 63 24 == 0
    && ([2, 3, 4, 5, 6, 7, 8, 10, 11, 12].all fun i => bits (w i) 63 56 == 0)
    && bits (w 9) 63 32 == 0 && w 15 == 0
    && ([13, 14].all fun i => (List.range 4).all fun j =>
      bits (w i) (16 * j + 7) (16 * j + 4) == 0 && bits (w i) (16 * j + 15) (16 * j + 12) == 0)

/-- RULE(t) and TSHIFT(t). -/
def ArgBlock.rule (x : ArgBlock) (t : Nat) : Nat × Nat := (x.rules[t]?).getD (0, 0)

/-- The routing modes. -/
def ArgBlock.routes (x : ArgBlock) : Bool := x.mode == 1 || x.mode == 2

/-- The addresses that an expansion uses; `params` says that a template of it is a TASK or COLL. -/
def ArgBlock.addrs (x : ArgBlock) (params : Bool) : List Nat :=
  (match x.mode with
    | 0 => [x.clist]
    | 3 => [x.locnt]
    | _ => [x.scores, x.cap, x.tokrec, x.exprec, x.locnt, x.peers, x.send]) ++
  (if params then [x.paramOut] else []) ++ (if x.track && x.loadSrc then [x.loadAddr] else [])

/-- The areas, as far as the argument block gives their lengths, that an expansion uses (R284): (address, bytes). -/
def ArgBlock.areas (x : ArgBlock) : List (Nat × Nat) :=
  (match x.mode with
    | 0 => []
    | 3 => [(x.locnt, 1024)]
    | _ => [(x.cap, 4 * x.nexp), (x.tokrec, 32 * x.ntok), (x.exprec, 8 * x.nexp), (x.locnt, 1024),
        (x.peers, 4 * x.npeer), (x.send, x.npeer * x.sendStride)]) ++
  (if x.track && x.loadSrc then [(x.loadAddr, 4 * x.nexp)] else [])

/-- R285: the ranges of the fields that the mode uses, and NEXP. -/
def ArgBlock.rangesOk (x : ArgBlock) (experts : Option ExpertsSec) : Bool :=
  x.mode ≤ 3 && x.nexp ≤ 4096 && (match experts with | some e => x.nexp ≤ e.nexperts | none => true) &&
    (!x.routes || (1 ≤ x.k && x.k ≤ 8 && 1 ≤ x.ntok && x.ntok ≤ 1048576 && 1 ≤ x.nexp && 1 ≤ x.npeer
      && x.npeer ≤ 64 && x.sendStride % 64 == 0 && 64 ≤ x.sendStride))

/-- R285, R286: RULE(t) is legal; `tasks` says that template `t` is a TASK. -/
def ArgBlock.ruleOk (x : ArgBlock) (ntmpl t : Nat) (task : Bool) : Bool :=
  let r := (x.rule t).1
  if ntmpl < t || x.mode = 0 then r == 0
  else r ≤ 4 && !(r == 3 && x.mode == 3) && !(r == 4 && !task)

/-! ## Starting -/

/-- The submission and node that the expansion of Bead `n` belongs to. -/
def Block.expNode (b : Block) (n : Nat) : Nat × Nat :=
  let e := b.win n (b.saf n).win
  (e.seg, e.index)

/-- The address of template `t` of the expansion of Bead `n`. -/
def Block.tmplAddr (b : Block) (n : Nat) (x : Expansion) (t : Nat) : Nat :=
  (b.sub (b.expNode n).1).record (x.tmpl + t)

/-- KIND TASK or COLL. -/
def engineKind (k : Nat) : Bool := k == 0 || k == 6

/-- R285, R8, R289: the checks of an argument block that need no other read. -/
def Block.blockOk (b : Block) (n : Nat) (x : Expansion) (m : MemView) : Bool :=
  argsReserved m x.argsAddr && x.arg.rangesOk b.setting.experts
    && (x.arg.addrs false).all (fun d => d % 64 == 0) && areasOk x.arg.areas
    && decide ((b.sub (b.expNode n).1).nnodes + 65536 * x.below + 65535 ≤ 0xFFFFFFFE)

/-- The records of the templates. -/
def Block.tmplAreas (b : Block) (n : Nat) (x : Expansion) : List (Nat × Nat) :=
  (List.range (x.ntmpl + 1)).map fun t => (b.tmplAddr n x t, 64)

/-- R285: the checks that the templates' records decide. -/
def Block.argsOk (b : Block) (n : Nat) (x : Expansion) (m : MemView) : Bool :=
  let a := x.arg
  let ts := List.range (x.ntmpl + 1)
  let kind (t : Nat) : Nat := recKind m (b.tmplAddr n x t)
  (List.range 8).all (fun t => a.ruleOk x.ntmpl t (kind t == 0))
    && ts.all (fun t =>
      let i := bits (recW m (b.tmplAddr n x t) 0) 61 56
      bits i 0 0 == 0 && bits i 5 5 == 0)
    && (!(ts.any fun t => engineKind (kind t)) || a.paramOut % 64 == 0)

/-- The expansion that an EXPAND record describes (R195). -/
def Block.expansionOf (b : Block) (n w : Nat) (m : MemView) : Expansion :=
  let e := b.win n w
  let r (i : Nat) : Nat := ((e.record[i]?).getD 0).toNat
  { progAddr := bits (r 2) 55 0, argsAddr := bits (r 3) 55 0, tmpl := bits (r 4) 31 0, join := bits (r 4) 63 32
    maxCreate := bits (r 5) 16 0, ntmpl := bits (r 5) 19 17
    below := expandsBelow m (b.sub e.seg) e.index, arg := readArgs m (bits (r 3) 55 0) }

/-- The records of class EXPAND of a Bead (R471, R478). -/
def Block.traceExpand (p : Params) (b : Block) (n w : Nat) (last : Bool) (st : Status) : Block :=
  b.beadTrace p n 18 1 (pack [(w, 12, 6), (b2n last, 1, 18), (st.toNat, 8, 19)]) []

/-! ## Creations (R286, R287) -/

/-- A valid entry of a local count vector: position, AFF, EXPERT, COUNT. -/
structure LocEntry where
  pos : Nat
  aff : Nat
  expert : Nat
  count : Nat
  deriving DecidableEq, Repr

/-- The valid entries of a local count vector in memory, by position. -/
def readLocnt (m : MemView) (a : Nat) : List LocEntry :=
  ((List.range 128).filter fun i => bit (m.word (a + 8 * i)) 63).map fun i =>
    let w := m.word (a + 8 * i)
    { pos := i, aff := fld w 59 48, expert := fld w 43 32, count := fld w 31 0 }

/-- P0 of a created node, but for the template's bits. -/
def p0Of (count expert : Nat) : Word := packW [(count, 32, 0), (expert, 16, 48)]

/-- The creation of a per-instance rule. -/
def instCreation (t : Nat) (e : LocEntry) : Creation :=
  { tsel := t, p0 := p0Of e.count e.expert, whole := false, ord := e.pos, tileV := false, n := 0, aff := some e.aff }

/-- ⌈COUNT ÷ 2^TSHIFT⌉ tiles. The spec gives a list of more than 65,536 tiles no word: it is `open'`
(DESIGN CHOICE, log 30). -/
def tilesOf (count shift open' : Nat) : Nat :=
  let n := (count + 2 ^ shift - 1) / 2 ^ shift
  if n ≤ 65536 then n else open' % 65537

/-- What RULE(t) creates (R286). `total` is the COUNT of ONCE, `peers` the entries of each send list.
`open'` gives the values that the spec leaves open (DESIGN CHOICE, log 30): the ORD of a ONCE node and the tiles of too
long a list. -/
def ruleCreations (t : Nat) (rule : Nat × Nat) (total : Nat) (locs : List LocEntry) (peers : List Nat)
    (open' : Nat → Nat) : List Creation :=
  match rule.1 with
  | 0 => [{ tsel := t, p0 := p0Of total 0xFFFF, whole := false, ord := open' t % 65536, tileV := false, n := 0
            aff := none }]
  | 1 => (locs.filter fun e => e.count != 0).map (instCreation t)
  | 2 => locs.map (instCreation t)
  | 3 => (List.zip (List.range peers.length) peers).map fun e =>
      { tsel := t, p0 := p0Of e.2 0xFFFF, whole := false, ord := e.1, tileV := false, n := 0, aff := none }
  | _ => (locs.filter fun e => e.count != 0).map fun e =>
      { instCreation t e with tileV := true, n := tilesOf e.count rule.2 (open' (8 + 128 * t + e.pos)) }

/-- R287: the creations of modes 1 to 3, in order. -/
def ArgBlock.creations (x : ArgBlock) (ntmpl total : Nat) (locs : List LocEntry) (peers : List Nat)
    (open' : Nat → Nat) : List Creation :=
  (List.range (ntmpl + 1)).flatMap fun t => ruleCreations t (x.rule t) total locs peers open'

/-- R528: the AFF that a created node takes lies in the AFFINITY section. -/
def Block.affOk (b : Block) (n : Nat) (x : Expansion) (m : MemView) (c : Creation) : Bool :=
  let tag := c.aff.getD (bits (recW m (b.tmplAddr n x c.tsel) 0) 43 32)
  decide (tag < b.setting.affinity.length)

/-- R8: the parameter block of creation `k` ends within the address space; a NOP has none. -/
def Block.blockFits (b : Block) (n : Nat) (x : Expansion) (m : MemView) (k : Nat) (c : Creation) : Bool :=
  !engineKind (recKind m (b.tmplAddr n x c.tsel)) || decide (x.arg.paramOut + 64 * (k + 1) ≤ 2 ^ 56)

/-- R287, R528: the creations that the expansion would make are checked and cut at MAX_CREATE. -/
def Block.setCreations (b : Block) (n : Nat) (x : Expansion) (m : MemView) (cs : List Creation) : Block :=
  let kept := cs.take x.maxCreate
  if kept.all (b.affOk n x m) && (List.zip (List.range kept.length) kept).all fun e => b.blockFits n x m e.1 e.2 then
    b.modExp n fun x =>
      { x with creations := kept, trunc := x.trunc || decide (x.maxCreate < cs.length), stage := .creating }
  else b.expFail n Status.format

/-- The values that the rules leave open for the expansion of Bead `n`. They are the same in every run of one setup
(R457): neither the time nor another expansion moves them. -/
def Block.openValue (b : Block) (n i : Nat) : Nat :=
  (freeCreation (b.sub (b.expNode n).1).desc (b.expNode n).2 i).toNat

/-- R298: mode 3 reads the count vector. A sum of counts of 2^32 or more is open (DESIGN CHOICE, log 30). -/
def Block.countsMode (b : Block) (n : Nat) (x : Expansion) (m : MemView) : Block :=
  let areas := [(x.arg.locnt, 1024)]
  let b := b.areaErrors n m areas
  let st := MemView_areas m areas
  if st ≠ Status.ok then b.expFail n st
  else
    let locs := readLocnt m x.arg.locnt
    let sum : Nat := (locs.map (·.count)).sum
    let total := if sum < 2 ^ 32 then sum else b.openValue n 2047 % 2 ^ 32
    b.setCreations n x m (x.arg.creations x.ntmpl total locs [] (b.openValue n))

/-- R284 to R289, R298: a selected EXPAND node starts. -/
def expandStart (p : Params) (n w : Nat) (m : MemView) (b : Block) : Block :=
  let u := b.saf n
  let e := b.win n w
  if !u.busy || u.win ≠ w || u.exp.isSome || !e.used || e.kind ≠ 2 || e.state != .issued then b
  else
    let x := b.expansionOf n w m
    if ((x.argsAddr, 128) :: b.tmplAreas n x).any fun t => b.mp.pendingWrite t.1 t.2 then b
    else
      let b := b.traceExpand p n w false 0
      let areas := [(x.argsAddr, 128)]
      let b := b.areaErrors n m areas
      let st := MemView_areas m areas
      let b := b.modSaf n fun _ => { busy := true, win := w, mode := x.arg.mode, exp := some x }
      if st ≠ Status.ok then b.expFail n st
      else if !b.blockOk n x m then b.expFail n Status.format
      else
      let b := (b.tmplAreas n x).foldl (fun b t => b.viewErrors n 0 m t.1 t.2) b
      let st := MemView_areas m (b.tmplAreas n x)
      if st ≠ Status.ok then b.expFail n st
      else if !b.argsOk n x m then b.expFail n Status.format
      else if x.arg.mode = 3 then b.countsMode n x m
      else b.modExp n fun x => { x with stage := .program }

/-- EXPAND_START (R284). -/
def execExpandStart (bead : Nat) (win : BitVec 12) (m : MemView) (s : State) : Host.Outcome State Fault Refusal :=
  .next { s with blk := expandStart s.params bead win.toNat m s.blk }

/-! ## The program -/

/-- R310: the header's outcome: CAUSE and status of R336, or NINSTR. -/
def programHeader (m : MemView) (a : Nat) : Except (Nat × Status) Nat :=
  let w := (m.word a).toNat
  let n := bits w 47 32
  let zero := bits w 31 24 == 0 && bits w 63 48 == 0 && (List.range 7).all fun i => (m.word (a + 8 + 8 * i)).toNat == 0
  let head := bits w 15 0 == 0x4653 && 1 ≤ n && n ≤ 4096 && zero
  if !head then .error (1, Status.format)
  else if 1 < bits w 23 16 then .error (2, Status.version)
  else .ok n

/-- The instruction words of a program. -/
def programWords (m : MemView) (a n : Nat) : List (BitVec 32) :=
  (List.range n).map fun i => BitVec.ofNat 32 (m.u32 (a + 0x40 + 4 * i))

/-- The scalars at the start of a program. -/
def startScalars (x : Expansion) : Tab Word :=
  let a := x.arg
  ((List.zip (List.range 7) [x.argsAddr, a.scores, a.ntok, a.nexp, a.k, a.clist, x.maxCreate]).foldl
    (fun t v => tset 0 t v.1 (BitVec.ofNat 64 v.2)) [])

/-- R311: header and instruction words arrive, and execution starts at instruction 0. -/
def programStart (n : Nat) (m : MemView) (b : Block) : Block :=
  match (b.saf n).exp with
  | none => b
  | some x =>
      if x.stage != .program || b.mp.pendingWrite x.progAddr (64 + 4 * bits (m.word x.progAddr).toNat 47 32) then b
      else
        let a := x.progAddr
        let b := b.viewErrors n 0 m a 64
        let st := m.status Status.indirectFault a 64
        if st ≠ Status.ok then b.progFail n 0 9 st
        else match programHeader m a with
        | .error (c, st) => b.progFail n 0 c st
        | .ok k =>
            let b := b.viewErrors n 0 m (a + 0x40) (4 * k)
            let st := m.status Status.indirectFault (a + 0x40) (4 * k)
            if st ≠ Status.ok then b.progFail n 0 9 st
            else
              let b := b.modSaf n fun u =>
                { u with
                  pc := 0, tiles := [], masks := [], scalars := startScalars x
                  exp := some { x with prog := programWords m a k, stage := .running } }
              b.meetInstr n

/-- PROGRAM_START (R311). -/
def execProgramStart (bead : Nat) (m : MemView) (s : State) : Host.Outcome State Fault Refusal :=
  .next { s with blk := programStart bead m s.blk }

/-! ## Routing (R295 to R297) -/

/-- The instances of an entry: those that are valid from 0 upward. -/
def readInsts (m : MemView) (a : Nat) : Nat → Nat → List Inst
  | 0, _ => []
  | k + 1, i =>
      let w := m.word (a + 8 * i)
      if bit w 63 then { aff := fld w 43 32, pos := fld w 26 20, peer := fld w 19 0 } :: readInsts m a k (i + 1) else []

/-- R295: the failing conditions of a table. -/
def RouteTables.ok (t : RouteTables) (self : Nat) : Bool :=
  let own := (t.insts.flatten.filter fun i => i.peer == self).map (·.pos)
  t.insts.all (fun l => !l.isEmpty && l.all fun i => t.peers.contains i.peer) && own.eraseDups.length == own.length

/-- The choices of one token: accepted (expert, instance), oldest first; whether one was passed over;
the counters. -/
def routeToken (t : RouteTables) : List Nat → Tab Nat → List (Nat × Inst) × Bool × Tab Nat
  | [], used => ([], false, used)
  | e :: es, used =>
      let u := tget 0 used e
      let is := (t.insts[e]?).getD []
      if (t.limits[e]?).getD 0 ≤ u then
        (if t.strict then ([], true, used)
         else
          let r := routeToken t es used
          (r.1, true, r.2.2))
      else match is[u % is.length]? with
      | none => ([], true, used)
      | some i =>
          let r := routeToken t es (tset 0 used e (u + 1))
          ((e, i) :: r.1, r.2.1, r.2.2)

/-- The token record (R295). -/
def tokenRecord (acc : List (Nat × Inst)) (trunc : Bool) : List Word :=
  let ex (j : Nat) : Nat := match acc[j]? with | some a => a.1 | none => 0xFFFF
  let pos (j : Nat) : Nat := match acc[j]? with | some a => a.2.pos | none => 0xFF
  [packW ((List.range 4).map fun j => (ex j, 16, 16 * j)), packW ((List.range 4).map fun j => (ex (4 + j), 16, 16 * j)),
   packW [(acc.length, 4, 0), (b2n trunc, 1, 4)], packW ((List.range 8).map fun j => (pos j, 8, 8 * j))]

/-- The bitmap of a token's accepted positions on a peer. -/
def peerBitmap (acc : List (Nat × Inst)) (peer : Nat) : Nat :=
  ((acc.filter fun a => a.2.peer == peer).map (·.2.pos)).eraseDups.foldl (fun v q => v + 2 ^ q) 0

/-- The bits that are set in a bitmap. -/
def popCount (v : Nat) : Nat := ((List.range 128).filter fun i => bits v i i == 1).length

/-- A send list entry (R295). -/
def sendEntry (tok bitmap : Nat) : List Word :=
  [packW [(tok, 32, 0), (popCount bitmap, 4, 32)], 0, packW [(bitmap, 64, 0)], BitVec.ofNat 64 (bitmap / 2 ^ 64)]

/-- One token reaches its peers, in ascending ordinal; a full list stops the routing (R297). -/
def appendSends (x : ArgBlock) (t : RouteTables) (tok : Nat) (acc : List (Nat × Inst)) : List (Nat × Nat) →
    RouteState → RouteState
  | [], s => s
  | (q, peer) :: qs, s =>
      let v := peerBitmap acc peer
      let l := tget [] s.sends q
      if v = 0 || t.peers.idxOf peer ≠ q then appendSends x t tok acc qs s
      else if t.room ≤ l.length then { s with full := true }
      else appendSends x t tok acc qs { s with
        sends := tset [] s.sends q ((tok, v) :: l)
        out := (x.send + q * x.sendStride + 0x20 + 32 * l.length, sendEntry tok v) :: s.out }

/-- The tokens of an expansion, from number `tok` on. -/
def routeAll (x : ArgBlock) (t : RouteTables) : Nat → List (List (Elt × Elt)) → RouteState → RouteState
  | _, [], s => s
  | tok, c :: cs, s =>
      if s.full then s
      else
        let r := routeToken t (c.map (·.2.toNat)) s.used
        let s := { s with
          used := r.2.2, trunc := s.trunc || r.2.1, total := s.total + r.1.length
          out := (x.tokrec + 32 * tok, tokenRecord r.1 r.2.1) :: s.out }
        routeAll x t (tok + 1) cs (appendSends x t tok r.1 (List.zip (List.range t.peers.length) t.peers) s)

/-- Tokens of an expert of `used` tokens that went to instance `i` of `k`. -/
def instCount (used k i : Nat) : Nat := (used + k - 1 - i) / k

/-- The local count vector: the instances on the block's own chip, by position. -/
def localCounts (t : RouteTables) (used : Tab Nat) (self : Nat) : List LocEntry :=
  let all := (List.zip (List.range t.insts.length) t.insts).flatMap fun e =>
    ((List.zip (List.range e.2.length) e.2).filter fun i => i.2.peer == self).map fun i =>
      ({ pos := i.2.pos, aff := i.2.aff, expert := e.1, count := instCount (tget 0 used e.1) e.2.length i.1 } : LocEntry)
  (List.range 128).filterMap fun q => all.find? fun l => l.pos == q

/-- A local count vector entry (R295). -/
def locWord (ls : List LocEntry) (q : Nat) : Word :=
  match ls.find? fun l => l.pos == q with
  | some l => packW [(1, 1, 63), (l.aff, 12, 48), (l.expert, 12, 32), (l.count, 32, 0)]
  | none => 0

/-- An expert record (R295). -/
def expertRecord (n : Nat) : Word := packW [(if n = 0 then 1 else 0, 8, 32), (n, 32, 0)]

/-- A send list's header; its bytes that no field names are written as zero (DEDUCED, log 32). -/
def sendHeader (count peer : Nat) : List Word := [packW [(count, 32, 0), (peer, 20, 32)], 0, 0, 0]

/-- The tables that the routing of Bead `n` reads (R295, R306). -/
def Block.routeTables (b : Block) (n : Nat) (x : ArgBlock) (m : MemView) : RouteTables :=
  let base := (b.sub (b.expNode n).1).table
  let insts := (List.range x.nexp).map fun e => readInsts m (base + 64 * e) 8 0
  { insts := insts
    limits := (List.zip (List.range x.nexp) insts).map fun e => m.u32 (x.cap + 4 * e.1) * e.2.length
    peers := (List.range x.npeer).map fun q => m.u32 (x.peers + 4 * q) % 2 ^ 20
    room := (x.sendStride - 32) / 32, strict := x.mode == 2 }

/-- The areas that routing reads. -/
def Block.routeAreas (b : Block) (n : Nat) (x : ArgBlock) : List (Nat × Nat) :=
  [((b.sub (b.expNode n).1).table, 64 * x.nexp), (x.cap, 4 * x.nexp),
   (x.peers, 4 * x.npeer)]

/-- Writes of the routing stage, oldest first. -/
def Block.routeWrites (b : Block) (n : Nat) (l : List (Nat × List Word)) : Block :=
  l.foldl (fun b w => b.put n 4 w.1 (wordsBytes w.2) (.routing n)) b

/-- The outputs that follow the last token. -/
def routeOutputs (x : ArgBlock) (t : RouteTables) (s : RouteState) (locs : List LocEntry) : List (Nat × List Word) :=
  ((List.zip (List.range t.peers.length) t.peers).map fun q =>
      (x.send + q.1 * x.sendStride, sendHeader (tget [] s.sends q.1).length q.2)) ++
    [(x.exprec, (List.range x.nexp).map fun e => expertRecord (tget 0 s.used e)),
     (x.locnt, (List.range 128).map (locWord locs))]

/-- R295: the routing stage reads its tables, and fails the expansion that they break. -/
def Block.readTables (b : Block) (n : Nat) (x : Expansion) (m : MemView) : Block :=
  let areas := b.routeAreas n x.arg
  let b := b.areaErrors n m areas
  let st := MemView_areas m areas
  let t := b.routeTables n x.arg m
  if st ≠ Status.ok then b.expFail n st
  else if !t.ok b.link.self then b.expFail n Status.format
  else b.modExp n fun x => { x with tables := some t }

/-- R295, R297, R301: the tokens that stand in the queue are routed. A full send list fails the expansion. -/
def Block.routeTokens (b : Block) (n : Nat) (x : Expansion) (t : RouteTables) : Block :=
  let r := routeAll x.arg t x.routed x.cands x.route
  let b := b.routeWrites n r.out.reverse
  let b := b.modExp n fun y => { y with cands := [], routed := y.routed + x.cands.length, route := { r with out := [] } }
  if r.full then b.expFail n Status.capacity else b

/-- R295, R287: after the last token, the expert records, the local counts and the send lists' headers are written, and
the creations are known. -/
def Block.routeEnds (b : Block) (n : Nat) (x : Expansion) (t : RouteTables) (m : MemView) : Block :=
  let r := x.route
  let locs := localCounts t r.used b.link.self
  let b := b.routeWrites n (routeOutputs x.arg t r locs)
  let cs := x.arg.creations x.ntmpl r.total locs
    ((List.range t.peers.length).map fun q => (tget [] r.sends q).length) (b.openValue n)
  let b := b.modExp n fun x => { x with counts := r.used, trunc := x.trunc || r.trunc }
  b.setCreations n x m cs

/-- The expansion takes part in routing: its program runs, or has ended, in mode 1 or 2. -/
def Expansion.mayRoute (x : Expansion) : Bool := x.arg.routes && (x.stage == .running || x.stage == .routing)

/-- R295 to R297, R301: the stage first reads its tables; then it takes the tokens of its queue, beside the program's
pass, and writes what follows the last of them once the program has ended. (DEDUCED, log 29) -/
def routingStage (n : Nat) (m : MemView) (b : Block) : Block :=
  match (b.saf n).exp with
  | none => b
  | some x =>
      if !x.mayRoute then b
      else match x.tables with
      | none => if (b.routeAreas n x.arg).any fun t => b.mp.pendingWrite t.1 t.2 then b else b.readTables n x m
      | some t =>
          let b := b.routeTokens n x t
          match (b.saf n).exp with
          | some y => if y.stage == .routing then b.routeEnds n y t m else b
          | none => b

/-- ROUTING_STAGE (R295). -/
def execRoutingStage (bead : Nat) (m : MemView) (s : State) : Host.Outcome State Fault Refusal :=
  .next { s with blk := routingStage bead m s.blk }

/-! ## Creating (R287 to R291) -/

/-- A creation entry of mode 0. -/
def readCreation (m : MemView) (a pos : Nat) : Creation :=
  let w := (m.word (a + 8)).toNat
  { tsel := bits w 2 0, p0 := m.word a, whole := true, ord := pos, tileV := bits w 3 3 == 1, n := bits w 20 4
    aff := if bits w 31 31 = 1 then some (bits w 43 32) else none }

/-- R285: the checks of a creation entry; `task` says that its template is a TASK. -/
def creationOk (m : MemView) (a ntmpl : Nat) (task : Bool) : Bool :=
  let w := (m.word (a + 8)).toNat
  let c := readCreation m a 0
  bits w 30 21 == 0 && bits w 63 44 == 0 && c.tsel ≤ ntmpl && (!c.tileV || (task && c.n ≤ 65536))

/-- The area of the creation list that mode 0 reads. -/
def Expansion.listArea (x : Expansion) : List (Nat × Nat) :=
  if x.arg.mode ≠ 0 ∨ x.nlist = 0 then [] else [(x.arg.clist, 16 * x.nlist)]

/-- The area of the load vector that it reads (R303). -/
def Expansion.loadArea (x : Expansion) : List (Nat × Nat) :=
  if x.arg.track && x.arg.loadSrc && x.arg.nexp != 0 then [(x.arg.loadAddr, 4 * x.arg.nexp)] else []

/-- R335, R285: mode 0 reads its creation list and checks every entry of it. -/
def Block.readList (b : Block) (n : Nat) (x : Expansion) (m : MemView) : Block :=
  let areas := x.listArea
  if !areasOk areas then b.expFail n Status.format
  else
    let b := b.areaErrors n m areas
    let st := MemView_areas m areas
    if st ≠ Status.ok then b.expFail n st
    else
      let es := List.range x.nlist
      let at' (i : Nat) : Nat := x.arg.clist + 16 * i
      let good := es.all fun i =>
        creationOk m (at' i) x.ntmpl (recKind m (b.tmplAddr n x (readCreation m (at' i) 0).tsel) == 0)
      if !good then b.expFail n Status.format
      else
        let b := b.modExp n fun x => { x with listRead := true }
        b.setCreations n x m (es.map fun i => readCreation m (at' i) i)

/-- The parameter block of the template of a creation; none for a NOP. -/
def Block.tmplParam (b : Block) (n : Nat) (x : Expansion) (m : MemView) (t : Nat) : Option Nat :=
  let a := b.tmplAddr n x t
  if engineKind (recKind m a) then some ((b.sub (b.expNode n).1).param (bits (recW m a 3) 63 32)) else none

/-- R290, R303: before its first creation the expansion reads its templates' parameter blocks, and the
load vector that it will contribute; an error, or a reserved byte of a block that is set (R5, R191), fails it. -/
def Block.prepare (b : Block) (n : Nat) (x : Expansion) (m : MemView) : Block :=
  let tmpls := (x.creations.map (·.tsel)).eraseDups.filterMap fun t => (b.tmplParam n x m t).map fun a => (t, a)
  let blocks := tmpls.map fun t => (t.2, 64)
  let load := x.loadArea
  if (blocks ++ load).any fun t => b.mp.pendingWrite t.1 t.2 then b
  else
  let b := blocks.foldl (fun b t => b.viewErrors n 0 m t.1 t.2) b
  let b := b.areaErrors n m load
  let st := MemView_areas m (blocks ++ load)
  let st := if st = Status.ok && !blocks.all (fun t => reservedZero (m.wordsAt t.1 8)) then Status.format else st
  if st ≠ Status.ok then b.expFail n st
  else b.modExp n fun x =>
    { x with
      prepared := true
      params := tmpls.foldl (fun t e => tset [] t e.1 (m.wordsAt e.2 8)) []
      counts := if load.isEmpty then x.counts
        else (List.range x.arg.nexp).foldl (fun t e => tset 0 t e (m.u32 (x.arg.loadAddr + 4 * e))) [] }

/-- R290: the words of the parameter block of creation `k`; `ps` are those of its template's block. -/
def paramWords (ps : List Word) (c : Creation) (k : Nat) : List Word :=
  let w (i : Nat) : Word := (ps[i]?).getD 0
  let p0 := if c.whole then c.p0 else c.p0 ||| packW [(fld (w 0) 47 32, 16, 32)]
  [p0, w 1, w 2, w 3, w 4,
   packW [(c.ord, 16, 0), (c.tsel, 3, 16), (k, 16, 32)],
   packW [(b2n c.tileV, 1, 63), (if c.tileV then c.n else 0, 17, 0)], 0]

/-- R288, R291: the SPAWN of creation `k`; its AFF goes to the Clasp beside it (DESIGN CHOICE, log 16). -/
def Block.sendSpawn (p : Params) (b : Block) (n : Nat) (x : Expansion) (m : MemView) (k : Nat) (c : Creation) : Block :=
  let seg := (b.expNode n).1
  let s := b.sub seg
  let a := b.tmplAddr n x c.tsel
  let engine := engineKind (recKind m a)
  let node := { nodeOfRecord s m a with param := if engine then x.arg.paramOut + 64 * k else 0, count := 0 }
  let b := if s.live && s.abandoned.isNone then
      b.modSub seg fun s => { s with affs := tset none s.affs (s.nnodes + 65536 * x.below + k) c.aff }
    else b
  let e := b.win n (b.saf n).win
  let b := b.sendUp p n (spawnRec p n (b.saf n).win (nodeEntry seg k e.sgen 2 0 node))
  b.modExp n fun x =>
    { x with created := k + 1, stage := if x.creations.length ≤ k + 1 then .retiring else x.stage }

/-- One creation (R287 to R291): a NOP's SPAWN goes out at once, another node's once its parameter block
has been written. -/
def Block.createOne (p : Params) (b : Block) (n : Nat) (x : Expansion) (m : MemView) : Block :=
  let k := x.created
  match x.creations[k]? with
  | none => b.modExp n fun x => { x with stage := .retiring }
  | some c =>
      match b.tmplParam n x m c.tsel with
      | none => if b.roomUp p n then b.sendSpawn p n x m k c else b
      | some _ =>
          b.put n 4 (x.arg.paramOut + 64 * k) (wordsBytes (paramWords (tget [] x.params c.tsel) c k)) (.spawnParam n)

/-- R287 to R291. A parameter block is written once the routing outputs stand, one at a time; the SPAWN of a
written block is sent by the command after its acknowledge. A SPAWN waits while the crossing is full (R66). -/
def createNodes (p : Params) (n : Nat) (m : MemView) (b : Block) : Block :=
  match (b.saf n).exp with
  | none => b
  | some x =>
      if x.stage != .creating || b.mp.writesFor (fun w => w == .routing n || w == .spawnParam n) then b
      else if !x.prepared then
        let b := if x.arg.mode ≠ 0 || x.listRead || x.listArea.any fun t => b.mp.pendingWrite t.1 t.2 then b
          else b.readList n x m
        match (b.saf n).exp with
        | some y => if y.stage == .creating && (y.arg.mode != 0 || y.listRead) then b.prepare n y m else b
        | none => b
      else if x.acked then
        match x.creations[x.created]? with
        | some c =>
            if b.roomUp p n then (b.modExp n fun x => { x with acked := false }).sendSpawn p n x m x.created c else b
        | none => b
      else b.createOne p n x m

/-- CREATE_NODES (R290). -/
def execCreateNodes (bead : Nat) (m : MemView) (s : State) : Host.Outcome State Fault Refusal :=
  .next { s with blk := createNodes s.params bead m s.blk }

/-- R291: the write of a created node's parameter block is acknowledged. -/
def Block.spawnParamAck (b : Block) (n : Nat) : Block := b.modExp n fun x => { x with acked := true }

/-! ## Retirement -/

/-- R292: the final status. -/
def Expansion.final (x : Expansion) : Status :=
  match x.fail with
  | some st => st
  | none => if x.trunc then Status.truncated else if x.created = 0 then Status.empty else Status.ok

/-- R292, R303: the expansion retires once its outputs stand. -/
def expansionRetire (p : Params) (n : Nat) (b : Block) : Block :=
  let u := b.saf n
  match u.exp with
  | none => b
  | some x =>
      if x.stage != .retiring || b.mp.writesFor (fun w => w == .routing n || w == .spawnParam n) || b.mp.programWrites n
      then b
      else
        let st := x.final
        let t := b.expNode n
        let s := b.sub t.1
        let b := if !isFailure st && x.arg.track && s.live then
            (b.modSub t.1 fun s => { s with tracked := s.tracked ++ [t.2] }).addLoad s.stepNum x.counts
          else b
        let b := b.traceExpand p n u.win true st
        let b := b.winEnds n u.win st false
        b.modSaf n fun u => { u with busy := false, exp := none }

/-- EXPANSION_RETIRE (R292). -/
def execExpansionRetire (bead : Nat) (s : State) : Host.Outcome State Fault Refusal :=
  .next { s with blk := expansionRetire s.params bead s.blk }

/-! ## The planner (R303 to R307) -/

/-- R305: interval v − 1 is complete. -/
def Block.intervalDone (b : Block) (v : Nat) : Bool :=
  match b.setting.experts with
  | some e => decide (b.experts.perStep * e.interval ≤ tget 0 b.experts.got ((v - 1) % 3))
  | none => false

/-- An instance word. -/
def instWord (w : Word) : Word := packW [(fld w 63 63, 1, 63), (fld w 43 32, 12, 32), (fld w 26 20, 7, 20), (fld w 19 0, 20, 0)]

/-- R305: of the experts with fewer than 8 instances, the one of greatest load per instance, ties to the
lower; entries are (expert, load, instances). -/
def hottest : List (Nat × Nat × Nat) → Option (Nat × Nat × Nat)
  | [] => none
  | x :: xs =>
      match hottest xs with
      | none => if x.2.2 < 8 then some x else none
      | some y => if x.2.2 < 8 && decide (y.2.1 * x.2.2 ≤ x.2.1 * y.2.2) then some x else some y

/-- R305: the loop over replica positions: `k` positions are left, from `r` on; `ns` lists (expert, load,
instances), and the result (expert, position word) pairs in the order made. -/
def planLoop (rpos : Tab Word) : Nat → Nat → List (Nat × Nat × Nat) → List (Nat × Word)
  | 0, _, _ => []
  | k + 1, r, ns =>
      let w := tget 0 rpos r
      if !bit w 63 then []
      else match hottest ns with
      | none => []
      | some x =>
          if x.2.1 = 0 then []
          else (x.1, instWord w) ::
            planLoop rpos k (r + 1) (ns.map fun y => if y.1 = x.1 then (y.1, y.2.1, y.2.2 + 1) else y)

/-- R305: the words of a new table. `base` gives instance 0 of each expert. -/
def planTable (nexp slots : Nat) (load : Nat → Nat) (rpos : Tab Word) (base : Nat → Word) : List (List Word) :=
  let made := planLoop rpos (min slots 256) 0 ((List.range nexp).map fun e => (e, load e, 1))
  (List.range nexp).map fun e =>
    let is := base e :: ((made.filter fun t => t.1 == e).map (·.2))
    is ++ List.replicate (8 - is.length) 0

/-- R305, R306: the new table is built and written. The spec gives no outcome to an error of reading the base
table: the words read are drawn (DESIGN CHOICE, log 31). -/
def Block.planWrite (b : Block) (m : MemView) (v : Nat) (e : ExpertsSec) : Block :=
  let x := b.experts
  let b := b.viewErrors 63 4 m x.baseAddr (64 * e.nexperts)
  let base (i : Nat) : Word :=
    if m.status Status.format (x.baseAddr + 64 * i) 8 = Status.ok then m.word (x.baseAddr + 64 * i)
    else freeWord (b.free + i)
  let rows := planTable e.nexperts e.replicaSlots (fun i => tget 0 x.acc (4096 * ((v - 1) % 3) + i)) x.rpos base
  let b := { b with free := b.free + e.nexperts, experts := { b.experts with planning := true, waitLoad := false } }
  b.put 63 2 (x.baseAddr + tableOffset v) (wordsBytes rows.flatten) .table

/-- Accumulator `a` is cleared, in the table region too (R306). -/
def Block.clearAcc (b : Block) (a : Nat) : Block :=
  let n := match b.setting.experts with | some e => e.nexperts | none => 0
  let x := b.experts
  let b := { b with experts := { x with
    acc := x.acc.filter fun t => t.1 / 4096 != a, got := tset 0 x.got a 0 } }
  if n = 0 then b else b.put 63 2 (x.accAddr a 0) (List.replicate (4 * n) 0) .scrap

/-- R305: the version is published once its table stands. -/
def Block.publish (b : Block) (v : Nat) (e : ExpertsSec) : Block :=
  let b := b.clearAcc ((v - 1) % 3)
  let b := { b with experts := { b.experts with
    planning := false, version := v
    planStep := (b.experts.start.toNat + (v + 2) * e.interval) % 2 ^ 32 } }
  b.unhold

/-- R305, R307: a submission in flight is bound to v − 2, or to a table that stood where v is to stand when it was
placed (DEDUCED, log 145). -/
def Block.tableBound (b : Block) (v : Nat) : Bool :=
  b.graph.subs.any fun t =>
    t.2.live && ((decide (3 ≤ v) && t.2.version == v - 2) || t.2.table == b.experts.baseAddr + tableOffset v)

/-- R305. -/
def planVersion (m : MemView) (b : Block) : Block :=
  let v := b.experts.version + 1
  match b.setting.experts with
  | none => b
  | some e =>
      if b.experts.planning then
        (if b.mp.writesFor (· == .table) then b else b.publish v e)
      else if !b.experts.enable || !b.waitingVersions.contains v || b.tableBound v then b
      else if !b.intervalDone v then { b with experts := { b.experts with waitLoad := true } }
      else if b.mp.pendingWrite b.experts.baseAddr (64 * e.nexperts) then b
      else b.planWrite m v e

/-- PLAN_VERSION (R305). -/
def execPlanVersion (m : MemView) (s : State) : Host.Outcome State Fault Refusal :=
  .next { s with blk := planVersion m s.blk }

/-- R307, R497: a write of CLS_EXP_CFG. -/
def expCfgWrite (d : BitVec 32) (b : Block) : Block :=
  let x := b.experts
  let on := d.getLsbD 0
  if x.enable then
    if on then b
    else { b with experts := { x with enable := false, held := false, waitLoad := false, planning := false } }
  else if on && (b.dom 4).state != .on then b
  else
    let x := { x with perStep := bits d.toNat 16 1, enable := on }
    let b := { b with experts := x }
    if !on then b
    else
      let i := match b.setting.experts with | some e => e.interval | none => 0
      let b := (List.range 3).foldl Block.clearAcc b
      { b with experts := { b.experts with
        version := 0, late := 0, planStep := (x.start.toNat + 2 * i) % 2 ^ 32 } }

/-- EXP_CFG_WRITE (R307). -/
def execExpCfgWrite (a : Acc) (data : BitVec 32) (s : State) : Host.Outcome State Fault Refusal :=
  .next (s.command a .expCfg fun _ b => expCfgWrite data b)

end Sys2Proof.Machine
end

