-- ==== Sys2Proof/Machine/Sequence.lean ====
section
/-! DEFINITION. The sequence table and the batch-step builder (R339 to R355). -/

namespace Sys2Proof.Machine

/-! ## Entries and the pool -/

/-- The entries of a context in one of the given states. -/
def SeqTable.entries (x : SeqTable) (c : Nat) (f : SeqState → Bool) : List (Nat × Seq) :=
  x.seqs.filter fun t => t.2.ctx == c && f t.2.state

/-- An entry is not FREE. -/
def SeqTable.busy (x : SeqTable) : Bool := x.seqs.any fun t => t.2.state != .free

/-- R521: the pages of the pool; a SIZE above the limit of pages counts as the limit (DEDUCED, log 146). -/
def SeqTable.pages (x : SeqTable) : Nat := min x.size 4194304

/-- FREE of SQT_POOL_STATUS: SIZE minus the pages held (R354). -/
def SeqTable.freePages (x : SeqTable) : Nat := x.pages - (x.ctxs.map (·.2.used)).sum

/-- The link array's address. -/
def SeqTable.linkAddr (x : SeqTable) (page : Nat) : Nat := fld x.base 55 12 * 4096 + 4 * page

/-- A link array word (R341): NEXT, or END. -/
def linkWord (next : Option Nat) : Nat := match next with | some p => p | none => 2 ^ 31

/-- ⌈tokens ÷ TPP⌉. -/
def pagesFor (log2tpp tokens : Nat) : Nat := (tokens + 2 ^ log2tpp - 1) / 2 ^ log2tpp

/-! ## A build in progress (R349) -/

/-- What a build has done so far. Lists stand newest first. -/
structure Build where
  seqs : Tab Seq
  /-- pages held, and those available -/
  used : Nat
  avail : Int
  freeChain : List Nat
  hwm : Nat
  leaked : List (List Nat) := []
  /-- link array writes: page and word -/
  links : List (Nat × Nat) := []
  /-- link array reads: pages -/
  reads : List Nat := []
  /-- work list entries -/
  entries : List (List Word) := []
  /-- parks and rejoins: entry position, DIR, pages -/
  tasks : List (Nat × Nat × List Nat) := []
  /-- 64-byte units of the page vectors so far -/
  vecs : Nat := 0
  /-- runnable entries: table entry and position -/
  runs : List (Nat × Nat) := []
  nleave : Nat := 0
  npark : Nat := 0
  njoin : Nat := 0
  ndrop : Nat := 0
  drop : Option Status := none
  admitting : Bool := true
  capped : Bool := false
  moved : Bool := false
  fail : Option Status := none
  /-- the values that the rules leave open: of this descriptor and node, the number taken so far -/
  desc : List Word := []
  node : Nat := 0
  free : Nat := 0
  deriving DecidableEq, Repr

/-- What a build works with: context, LIMIT, WL_CAP, LOG2_TPP, DEF_TOK, and the errors that link array
reads meet. -/
structure BuildEnv where
  ctx : Nat
  limit : Nat
  cap : Nat
  log2tpp : Nat
  defTok : Nat
  linkStatus : Nat → Status

/-- Entry `i` is changed. -/
def Build.setSeq (x : Build) (i : Nat) (s : Seq) : Build := { x with seqs := tset {} x.seqs i s }

/-- N. -/
def Build.n (x : Build) : Nat := x.entries.length

/-- A value that the spec leaves open. It is the same in every run of one setup (R457): the time does not move it. -/
def Build.openValue (x : Build) : Nat × Build :=
  ((freeCreation x.desc x.node x.free).toNat, { x with free := x.free + 1 })

/-- R344: link array reads; the first that meets an error ends the build. -/
def Build.readLinks (x : Build) (e : BuildEnv) (pages : List Nat) : Build :=
  match pages.find? fun p => e.linkStatus p != Status.ok with
  | some p => { x with reads := pages.reverse ++ x.reads, fail := some (e.linkStatus p) }
  | none => { x with reads := pages.reverse ++ x.reads }

/-- R342: a whole chain is freed with one link write. -/
def Build.freePages (x : Build) (pages : List Nat) : Build :=
  match pages.getLast? with
  | none => x
  | some t =>
      { x with
        links := (t, linkWord x.freeChain.head?) :: x.links, freeChain := pages ++ x.freeChain
        used := x.used - pages.length, avail := x.avail + pages.length, moved := true }

/-- The links of a chain's new pages: each to the next, the last END. -/
def chainLinks : List Nat → List (Nat × Nat)
  | [] => []
  | [p] => [(p, linkWord none)]
  | p :: q :: ps => (p, linkWord (some q)) :: chainLinks (q :: ps)

/-- R342: `k` pages are allocated and linked after the chain of entry `i`. One link is read for each page
that comes from the free chain (R355). -/
def Build.allocate (x : Build) (e : BuildEnv) (i k : Nat) : Build :=
  if k = 0 then x
  else
    let old := x.freeChain.take k
    let x := x.readLinks e old
    if x.fail.isSome then x
    else
      let pages := old ++ (List.range (k - old.length)).map (x.hwm + ·)
      let s := tget {} x.seqs i
      let fresh := chainLinks pages
      let tie := match s.pages.getLast? with | some t => [(t, linkWord pages.head?)] | none => []
      { x with
        seqs := tset {} x.seqs i { s with pages := s.pages ++ pages }
        freeChain := x.freeChain.drop k, hwm := x.hwm + (k - old.length)
        links := (tie ++ fresh).reverse ++ x.links
        used := x.used + k, avail := x.avail - k, moved := true }

/-- A work list entry (R347). -/
def wlEntry (kind : Nat) (st : Status) (i vec tok pages head : Nat) (result : Nat) (s : Seq) : List Word :=
  [packW [(kind, 4, 60), (st.toNat, 8, 52), (i, 14, 32), (s.seqId, 32, 0)],
   packW [(vec, 24, 40), (tok, 16, 24), (s.len, 24, 0)], packW [(pages, 23, 32), (head, 22, 0)],
   packW [(result, 16, 0)]]

/-- A LEAVE entry (R340). -/
def Build.leave (x : Build) (t : Nat × Seq) : Build :=
  let s := t.2
  let x := x.freePages s.pages
  let x := x.setSeq t.1 { s with state := .free, pages := [] }
  { x with entries := wlEntry 4 0 t.1 0 0 0 0 0 s :: x.entries, nleave := x.nleave + 1 }

/-- A DROP entry. -/
def Build.dropSeq (x : Build) (i : Nat) (s : Seq) (st : Status) : Build :=
  { x with
    entries := wlEntry 6 st i 0 0 0 0 0 s :: x.entries, ndrop := x.ndrop + 1
    drop := match x.drop with | some d => some d | none => some st }

/-- R340: a sequence whose need exceeds LIMIT is dropped, its pages freed. -/
def Build.dropFull (x : Build) (i : Nat) (s : Seq) : Build :=
  ((x.freePages s.pages).setSeq i { s with state := .free, pages := [] }).dropSeq i s Status.capacity

/-- The offset of the next page vector in 64-byte units (R347). -/
def Build.vecAt (x : Build) (e : BuildEnv) : Nat := (64 + 96 * e.cap) / 64 + x.vecs

/-- A park or rejoin task with its page vector. -/
def Build.addTask (x : Build) (pos dir : Nat) (pages : List Nat) : Build :=
  { x with tasks := (pos, dir, pages) :: x.tasks, vecs := x.vecs + (4 * pages.length + 63) / 64 }

/-- R349: the running entry of greatest ORD parks. Its chain is read for its page vector. -/
def Build.park (x : Build) (e : BuildEnv) (i : Nat) (s : Seq) : Build :=
  let x := x.readLinks e s.pages.dropLast
  if x.fail.isSome then x
  else
    let pos := x.n
    let w := wlEntry 5 0 i (x.vecAt e) 0 s.pages.length (s.pages.head?.getD 0) 0 s
    let x := x.freePages s.pages
    let x := x.setSeq i { s with state := .parked, pages := [] }
    let x := x.addTask pos 0 s.pages
    { x with entries := w :: x.entries, npark := x.npark + 1, admitting := false }

/-- The entry of greatest ORD. -/
def youngest : List (Nat × Seq) → Option (Nat × Seq)
  | [] => none
  | t :: ts =>
      match youngest ts with
      | none => some t
      | some u => if u.2.ord < t.2.ord then some t else some u

/-- R349: sequences park until `need` pages are available or `i` itself has parked. -/
def Build.makeRoom (e : BuildEnv) (i : Nat) (need : Int) : Nat → Build → Build
  | 0, x => x
  | k + 1, x =>
      if x.fail.isSome || need ≤ x.avail then x
      else match youngest (x.seqs.filter fun t => t.2.ctx == e.ctx && t.2.state == .running) with
      | none => x
      | some y =>
          let x := x.park e y.1 y.2
          if y.1 = i then x else Build.makeRoom e i need k x

/-- LEN of a grown sequence; beyond the field's 24 bits the spec states no value (DESIGN CHOICE, log 34). -/
def Build.grownLen (x : Build) (s : Seq) : Nat × Build :=
  let v := s.len + s.pend
  if v < 2 ^ 24 then (v, x) else (x.openValue.1 % 2 ^ 24, x.openValue.2)

/-- The TOK of a JOIN; LEN beyond the field's 16 bits has no stated value (DESIGN CHOICE, log 34). -/
def Build.joinTok (x : Build) (len : Nat) : Nat × Build :=
  if len < 2 ^ 16 then (len, x) else (x.openValue.1 % 2 ^ 16, x.openValue.2)

/-- A runnable entry: `kind` 1 RUN, 2 JOIN, 3 REJOIN. -/
def Build.run (x : Build) (e : BuildEnv) (i kind need : Nat) : Build :=
  let s0 := tget {} x.seqs i
  let x := x.allocate e i need
  if x.fail.isSome then x
  else
    let l := x.grownLen s0
    let s := { tget {} l.2.seqs i with len := l.1, state := .running }
    let x := l.2.setSeq i s
    let tok := if kind = 2 then x.joinTok s0.len else (s0.pend, x)
    let x := tok.2
    let pos := x.n
    let w := wlEntry kind 0 i (if kind = 3 then x.vecAt e else 0) tok.1 s.pages.length (s.pages.head?.getD 0) e.defTok s
    let x := if kind = 3 then x.addTask pos 1 s.pages else x
    { x with entries := w :: x.entries, runs := (i, pos) :: x.runs, njoin := if kind = 1 then x.njoin else x.njoin + 1 }

/-- R349: the grow phase for one entry. -/
def Build.grow (e : BuildEnv) (x : Build) (i : Nat) : Build :=
  let s := tget {} x.seqs i
  if x.fail.isSome || s.state != .running then x
  else
    let need : Int := (pagesFor e.log2tpp (s.len + s.pend) : Int) - s.pages.length
    if (e.limit : Int) < s.pages.length + need then x.dropFull i s
    else
      let x := Build.makeRoom e i need (x.seqs.length + 1) x
      if x.fail.isSome || (tget {} x.seqs i).state != .running then x else x.run e i 1 need.toNat

/-- R349, R350: the join phase for one entry. -/
def Build.join (e : BuildEnv) (x : Build) (i : Nat) : Build :=
  let s := tget {} x.seqs i
  if x.fail.isSome then x
  else
    let need := pagesFor e.log2tpp (s.len + s.pend)
    if e.limit < need then x.dropFull i s
    else if !x.admitting then x
    else if x.avail < need then { x with admitting := false }
    else if e.cap ≤ x.n then { x with admitting := false, capped := true }
    else x.run e i (if s.state = SeqState.joining then 2 else 3) need

/-- R354: an entry in error is dropped; its identity and length are not known, and are drawn. -/
def Build.dropBad (x : Build) (t : Nat × Seq) : Build :=
  let a := x.openValue
  let c := a.2.openValue
  let x := { c.2 with leaked := c.2.leaked ++ [t.2.pages] }
  let x := x.setSeq t.1 { t.2 with state := .free, pages := [], eccBad := false }
  x.dropSeq t.1 { t.2 with seqId := a.1 % 2 ^ 32, len := c.1 % 2 ^ 24 } Status.ecc

/-- Entries by ascending ORD. -/
def byOrd (l : List (Nat × Seq)) : List (Nat × Seq) := l.mergeSort fun a b => decide (a.2.ord ≤ b.2.ord)

/-- Candidates by descending PRIO, then ascending ORD. -/
def byPrio (l : List (Nat × Seq)) : List (Nat × Seq) :=
  l.mergeSort fun a b => decide (b.2.prio < a.2.prio) || (a.2.prio == b.2.prio && decide (a.2.ord ≤ b.2.ord))

/-- The phases of a build, from the entries as the result words have left them. An entry that is in
error is dropped first (DEDUCED, log 35). -/
def Build.phases (e : BuildEnv) (x : Build) : Build :=
  let mine (x : Build) (f : SeqState → Bool) : List (Nat × Seq) := x.seqs.filter fun t => t.2.ctx == e.ctx && f t.2.state
  let bad := x.seqs.filter fun t => t.2.ctx == e.ctx && t.2.state != .free && t.2.eccBad
  let x := bad.foldl Build.dropBad x
  let x := (byOrd (mine x (· == .leaving))).foldl Build.leave x
  let x := ((byOrd (mine x (· == .running))).map (·.1)).foldl (Build.grow e) x
  ((byPrio (mine x fun s => s == .joining || s == .parked)).map (·.1)).foldl (Build.join e) x

/-- R352: the STEP's own status. A link error ends the build, so a DROP came before it (R17). -/
def Build.status (x : Build) : Status :=
  match x.drop, x.fail with
  | some st, _ => st
  | none, some st => st
  | none, none =>
      if x.npark ≠ 0 then Status.parked
      else if x.capped then Status.truncated
      else if x.runs.isEmpty then Status.empty
      else Status.ok

/-- LP_V and LASTPOS after a build. -/
def Build.marked (x : Build) (c : Nat) : Tab Seq :=
  x.seqs.filterMap fun t =>
    let s := if t.2.ctx ≠ c then t.2
      else match x.runs.find? fun r => r.1 == t.1 with
        | some r => { t.2 with lpV := true, lastPos := r.2 }
        | none => { t.2 with lpV := false, lastPos := 0 }
    if s = {} then none else some (t.1, s)

/-! ## The STEP node -/

/-- The fields of a STEP record (R198). -/
structure StepRec where
  wl : Nat
  cap : Nat
  tmpl : Nat
  deriving DecidableEq, Repr

/-- The STEP record at an address. -/
def readStep (m : MemView) (a : Nat) : StepRec :=
  { wl := bits (recW m a 2) 55 0, cap := bits (recW m a 3) 31 0, tmpl := bits (recW m a 3) 63 32 }

/-- The number of records of a kind in a segment, below node `k`. -/
def kindBelow (m : MemView) (s : Sub) (kind k : Nat) : Nat :=
  ((List.range k).filter fun i => recKind m (s.record i) == kind).length

/-- R351: the INDEX of task 0 of a STEP. -/
def stepIndex (m : MemView) (s : Sub) (index : Nat) : Nat := 0xFFFFFFFE - 16384 * kindBelow m s 5 index

/-- R351: the INDEX range reaches the indices of expansions. -/
def stepRangeBad (m : MemView) (s : Sub) (index : Nat) : Bool :=
  decide (0xFFFFFFFE ≤ 16384 * kindBelow m s 5 index + 16383 + (s.nnodes + 65536 * kindBelow m s 2 s.nnodes))

/-- The address of the result word of an entry. -/
def resultAddr (wl pos : Nat) : Nat := wl + 64 + 32 * pos + 24

/-- R349: one result word acts on its entry. -/
def takeResult (m : MemView) (wl : Nat) (t : Tab Seq) (e : Nat × Seq) : Tab Seq :=
  let r := m.word (resultAddr wl e.2.lastPos)
  if e.2.state ≠ .running then t
  else tset {} t e.1 (if bit r 63 then { e.2 with state := .leaving } else { e.2 with pend := fld r 15 0 })

/-- The build of a STEP of its context (R349), worked out on a copy of the table. -/
def Block.buildRun (b : Block) (m : MemView) (seg index : Nat) (r : StepRec) : Build :=
  let c := (b.sub seg).ctx
  let q := b.seq
  let x := b.seqCtx c
  let marked := q.seqs.filter fun t => t.2.ctx == c && t.2.lpV
  let st := lowestStatus (marked.map fun t => m.status Status.indirectFault (resultAddr x.lastWl t.2.lastPos) 8)
  let seqs := marked.foldl (takeResult m x.lastWl) q.seqs
  let start : Build :=
    { seqs := seqs, used := x.used, avail := min ((x.limit : Int) - x.used) q.freePages
      freeChain := q.freeChain, hwm := q.hwm, desc := (b.sub seg).desc, node := index }
  let n := (seqs.filter fun t => t.2.ctx == c && !t.2.eccBad && (t.2.state == .leaving || t.2.state == .running)).length
  if 16 < q.log2tpp then { start with fail := some Status.format }
  else if st ≠ Status.ok then { start with fail := some st }
  else if r.cap < n then { start with fail := some Status.capacity }
  else Build.phases
    { ctx := c, limit := x.limit, cap := r.cap, log2tpp := q.log2tpp, defTok := q.defTok
      linkStatus := fun p => m.status Status.indirectFault (q.linkAddr p) 4 } start

/-- The pool is used: a link was read or written. -/
def Build.usesPool (x : Build) : Bool := x.moved || !x.reads.isEmpty

/-- The status of a build that changes nothing: one that R344's FAULT stops, or one that has failed before it
read or wrote a link. -/
def Build.blocked (x : Build) (fault : Option Status) : Option Status :=
  match fault with
  | some st => if x.usesPool then some st else x.fail
  | none => if x.usesPool then none else x.fail

/-- The work list header (R347). A negative AVAIL has no stated value (DESIGN CHOICE, log 34). -/
def Build.header (x : Build) (stepNum : Nat) (openAvail : Nat) : List Word :=
  [packW [(stepNum, 32, 32), (x.status.toNat, 8, 16), (x.n, 15, 0)],
   packW [(x.nleave, 16, 0), (x.npark, 16, 16), (x.njoin, 16, 32), (x.ndrop, 16, 48)],
   packW [(x.runs.length, 16, 0), (if x.avail < 0 then openAvail else x.avail.toNat, 23, 32)],
   packW [(x.tasks.length, 16, 0)], 0, 0, 0, 0]

/-- R351: the parameter block of task `k`; `ps` are the words of the template's block. -/
def taskBlock (ps : List Word) (wl pos dir k : Nat) : List Word :=
  let w (i : Nat) : Word := (ps[i]?).getD 0
  [BitVec.ofNat 64 (wl + 64 + 32 * pos), w 1, w 2, w 3, w 4,
   packW [(dir, 1, 0), (k, 16, 16)], 0, 0]

/-- The bytes of a page vector, padded to 64. -/
def vecBytes (pages : List Nat) : List Byte :=
  let bs := pages.flatMap (leBytes 4)
  bs ++ List.replicate ((64 - bs.length % 64) % 64) 0

/-- R347: the writes of a work list: header, entries, parameter blocks and page vectors. -/
def Build.writes (x : Build) (r : StepRec) (ps : List Word) (head : List Word) : List (Nat × List Byte) :=
  let ts := x.tasks.reverse
  let list := (r.wl, wordsBytes (head ++ x.entries.reverse.flatten))
  let blocks := (List.zip (List.range ts.length) ts).map fun t =>
    (r.wl + 64 + 32 * r.cap + 64 * t.1, wordsBytes (taskBlock ps r.wl t.2.1 t.2.2.1 t.1))
  let vecs := vecBytes' ts
  list :: blocks ++ (if vecs.isEmpty then [] else [(r.wl + 64 + 96 * r.cap, vecs)])
where
  /-- all page vectors, in k order -/
  vecBytes' (ts : List (Nat × Nat × List Nat)) : List Byte := ts.flatMap fun t => vecBytes t.2.2

/-- The build's link writes go out, oldest first. -/
def Block.linkWrites (b : Block) (seg index : Nat) (l : List (Nat × Nat)) : Block :=
  l.foldl (fun b t => b.put 63 4 (b.seq.linkAddr t.1) (leBytes 4 t.2) (.linkArray seg index)) b

/-- The trace event of class STEP (R471), at the end of a build (DEDUCED, log 37). -/
def Block.traceStep (b : Block) (c : Nat) (st : Status) (words : List Word) : Block :=
  b.traceEvent 9 2 (pack [(c, 10, 0), (st.toNat, 8, 16)]) words

/-- What a build has changed is taken over. A build that a link array error has ended stands as far as it
came, and writes no work list (DEDUCED, log 33). -/
def Block.takeBuild (b : Block) (m : MemView) (seg index : Nat) (x : Build) (r : StepRec) (ps : List Word) : Block :=
  let s := b.sub seg
  let b := x.reads.reverse.foldl (fun b p => b.viewErrors 63 4 m (b.seq.linkAddr p) 4) b
  let b := { b with
    seq := { b.seq with
      seqs := if x.fail.isSome then x.seqs else x.marked s.ctx
      freeChain := x.freeChain, hwm := x.hwm
      fault := match b.seq.fault, x.fail with | some f, _ => some f | none, f => f } }
  let b := b.modSeqCtx s.ctx fun c => { c with used := x.used, leaked := c.leaked ++ x.leaked }
  let b := b.linkWrites seg index x.links.reverse
  if x.fail.isSome then
    (b.traceStep s.ctx x.status []).modNode seg index fun n =>
      { n with built := some (x.status, 0), wl := some (r.wl, (b.seqCtx s.ctx).lastN) }
  else
    let head := x.header s.stepNum x.openValue.1
    let b := b.traceStep s.ctx x.status ((head.drop 1).take 2)
    let b := (x.writes r ps head).foldl (fun b w => b.put 63 4 w.1 w.2 (.workList seg index)) b
    b.modNode seg index fun n => { n with built := some (x.status, x.tasks.length), wl := some (r.wl, x.n) }

/-- R351: the parameter block of a STEP's PARK_TMPL. -/
def Block.parkParam (b : Block) (m : MemView) (seg index : Nat) : Nat :=
  let s := b.sub seg
  s.param (bits (recW m (s.record (readStep m (b.node seg index).record).tmpl) 3) 63 32)

/-- R48: the build would read words that an unacknowledged write of the block changes. -/
def Block.stepDirty (b : Block) (m : MemView) (seg index : Nat) : Bool :=
  let s := b.sub seg
  let x := b.buildRun m seg index (readStep m (b.node seg index).record)
  x.reads.any (fun p => b.mp.pendingWrite (b.seq.linkAddr p) 4)
    || (!x.tasks.isEmpty && b.mp.pendingWrite (b.parkParam m seg index) 64)

/-- R349: the builder runs. An error of the read of PARK_TMPL's parameter block, or a reserved byte of it that is set
(R191), abandons the submission (R209), and the build still completes (R353); the words it copies are then drawn (DESIGN CHOICE, log 147). -/
def Block.stepStart (p : Params) (m : MemView) (seg index : Nat) (b : Block) : Block :=
  let s := b.sub seg
  let a := (b.node seg index).record
  let r := readStep m a
  let fails (b : Block) (st : Status) : Block := (b.traceStep s.ctx st []).modNode seg index fun n =>
    { n with built := some (st, 0), wl := some (r.wl, (b.seqCtx s.ctx).lastN) }
  if stepRangeBad m s index then fails b Status.format
  else
    let marked := b.seq.seqs.filter fun t => t.2.ctx == s.ctx && t.2.lpV
    let b := if b.seq.log2tpp ≤ 16 then
        marked.foldl (fun b t => b.viewErrors 63 4 m (resultAddr (b.seqCtx s.ctx).lastWl t.2.lastPos) 8) b
      else b
    let x := b.buildRun m seg index r
    match x.blocked b.seq.fault with
    | some st => fails b st
    | none =>
        let tmpl := b.parkParam m seg index
        let st := if x.tasks.isEmpty then Status.ok else m.status Status.format tmpl 64
        let b := if x.tasks.isEmpty then b else b.viewErrors 63 0 m tmpl 64
        let ws := m.wordsAt tmpl 8
        if st = Status.ok then
          let b := b.takeBuild m seg index x r ws
          if x.tasks.isEmpty || reservedZero ws then b else b.abandon p seg Status.format none
        else
          let d := b.drawWords 8
          (d.2.takeBuild m seg index x r d.1).abandon p seg st none

/-- R351: task `k` of a STEP is created READY; a task that a STEP creates again, as it runs again (R234), counts once. -/
def Block.createTask (p : Params) (m : MemView) (seg index : Nat) (b : Block) (k : Nat) : Block :=
  let s := b.sub seg
  let r := readStep m (b.node seg index).record
  let t := s.record r.tmpl
  let i := stepIndex m s index - k
  let n := { nodeOfRecord s m t with
    param := r.wl + 64 + 32 * r.cap + 64 * k, parent := some index, state := .ready, count := 0 }
  let again := s.ended.contains i || (b.node seg i).used
  let b := (b.modNode seg i fun _ => b.placed p s n i (bits (recW m t 0) 43 32) (recBead m t)).joinReady seg i
  if again then b else b.modSub seg fun s => { s with known := s.known + 1 }

/-- R349: once the build's writes are acknowledged, its tasks are created and the build has ended. -/
def Block.stepTasks (p : Params) (m : MemView) (seg index : Nat) (b : Block) : Block :=
  match (b.node seg index).built with
  | none => b
  | some (st, k) =>
      if b.mp.writesFor (fun w => w == .workList seg index || w == .linkArray seg index) || b.pgFull p then b
      else
        let b := (List.range k).foldl (Block.createTask p m seg index) b
        b.modNode seg index fun n => { n with built := none, own := some st, left := k }

/-- R349: a STEP of the context acts. -/
def Block.stepActs (b : Block) (c : Nat) : Bool :=
  b.graph.subs.any fun t => t.2.live && t.2.ctx == c && t.2.nodes.any fun n => n.2.kind == 5 && n.2.state == .acting

/-- R346: a build has started and not ended. -/
def Block.building (b : Block) : Bool :=
  b.graph.subs.any fun t => t.2.live && t.2.nodes.any fun n => n.2.kind == 5 && n.2.state == .acting && n.2.own.isNone

/-- R346: the builds that stand in line at the table; one that may no longer act has left it. -/
def Block.buildLine (b : Block) : List (Nat × Nat × Nat) :=
  b.seq.line.filter fun e => (b.node e.1 e.2.1).kind == 5 && b.gate e.1 e.2.1 == .act

/-- R349: another STEP of the context stands in line at the table, and acts before this one. -/
def Block.stepStands (b : Block) (seg index : Nat) : Bool :=
  b.buildLine.any fun e => (e.1 != seg || e.2.1 != index) && (b.sub e.1).ctx == (b.sub seg).ctx

/-- R346: the build of a STEP reaches the sequence table, behind the commands that are queued. -/
def Block.reachTable (b : Block) (seg index : Nat) : Block :=
  let l := b.buildLine
  let l := if l.any fun e => e.1 == seg && e.2.1 == index then l else l ++ [(seg, index, b.seq.cmds.length)]
  { b with seq := { b.seq with line := l } }

/-- R346: the build's turn has come: it stands first, with no command before it, and no build runs. -/
def Block.buildTurn (b : Block) (seg index : Nat) : Bool := !b.building && b.seq.line.head? == some (seg, index, 0)

/-- R346, R349, R502: a STEP acts, or its build goes on. (DEDUCED, log 72) (DEDUCED, log 154) -/
def stepBuild (p : Params) (seg index : Nat) (m : MemView) (b : Block) : Block :=
  let n := b.node seg index
  if n.kind ≠ 5 then b
  else if b.acting seg index 5 then b.stepTasks p m seg index
  else match b.gate seg index with
  | .act =>
      if (b.dom 3).state != .on then b.waitDomain 3
      else if b.stepActs (b.sub seg).ctx || b.stepStands seg index then b
      else
        let b := b.reachTable seg index
        if !b.buildTurn seg index || b.stepDirty m seg index then b
        else { b with seq := { b.seq with line := b.seq.line.drop 1 } }.tryAct p m seg index (Block.stepStart p m seg index)
  | _ => b.tryAct p m seg index (Block.stepStart p m seg index)

/-- STEP_BUILD (R349). -/
def execStepBuild (seg index : Nat) (m : MemView) (s : State) : Host.Outcome State Fault Refusal :=
  .next { s with blk := stepBuild s.params seg index m s.blk }

/-- R344: a link array write is answered with an error. -/
def Block.linkError (b : Block) (seg index : Nat) : Block :=
  let b := { b with seq := { b.seq with fault := some (b.seq.fault.getD Status.indirectFault) } }
  b.modNode seg index fun n =>
    { n with built := n.built.map fun t => (if isFailure t.1 then t.1 else Status.indirectFault, 0) }

/-- R352: the STEP's final status. -/
def Node.stepFinal (n : Node) (own : Status) : Status :=
  if isFailure own then own else if isFailure (n.outcome.getD 0) then n.outcome.getD 0 else own

/-- R352. The context's last work-list address is that of its last retired STEP (SQT_CTX_STEP); LAST_N stays where
its build wrote no list (DEDUCED, log 36). -/
def stepRetire (p : Params) (seg index : Nat) (m : MemView) (b : Block) : Block :=
  let n := b.node seg index
  match n.own with
  | none => b
  | some own =>
      if !b.acting seg index 5 || n.left != 0 then b
      else
        let b := match n.wl with
          | some (wl, k) => b.modSeqCtx (b.sub seg).ctx fun c => { c with lastWl := wl, lastN := k }
          | none => b
        b.claspLeave p m seg index (n.stepFinal own) false

/-- STEP_RETIRE (R352). -/
def execStepRetire (seg index : Nat) (m : MemView) (s : State) : Host.Outcome State Fault Refusal :=
  .next { s with blk := stepRetire s.params seg index m s.blk }

/-! ## Commands (R345, R346) -/

/-- REJ of SQT_CMD_STATUS. -/
def Block.rejSeq (b : Block) : Block := { b with seq := { b.seq with rej := true } }

/-- R346: a command enters the queue of 16. -/
def Block.queueSeq (b : Block) (c : SeqCmd) : Block :=
  if 16 ≤ b.seq.cmds.length then b.rejSeq else { b with seq := { b.seq with cmds := b.seq.cmds ++ [c] } }

/-- A write of SQT_CMD. -/
def sqtWrite (w : Word) (b : Block) : Block :=
  match fld w 63 60 with
  | 1 => b.queueSeq (.join (fld w 57 48) (fld w 47 40) (fld w 23 0) (fld b.seq.arg 31 0))
  | 2 => b.queueSeq (.cancel (fld w 57 48) (fld b.seq.arg 45 32))
  | _ => b.rejSeq

/-- JOIN (R346). -/
def execJoin (a : Acc) (ctx : BitVec 10) (prio : BitVec 8) (len : BitVec 24) (s : State) :
    Host.Outcome State Fault Refusal :=
  .next (s.command a .sqtCmd fun _ b =>
    sqtWrite (packW [(1, 4, 60), (ctx.toNat, 10, 48), (prio.toNat, 8, 40), (len.toNat, 24, 0)]) b)

/-- CANCEL (R346). -/
def execCancel (a : Acc) (ctx : BitVec 10) (s : State) : Host.Outcome State Fault Refusal :=
  .next (s.command a .sqtCmd fun _ b => sqtWrite (packW [(2, 4, 60), (ctx.toNat, 10, 48)]) b)

/-- SQT_CMD_INVALID (R346): an SQT_CMD write, which sets REJ when OP is neither or the queue is full. -/
def execSqtCmdInvalid (a : Acc) (data : Word) (s : State) : Host.Outcome State Fault Refusal :=
  .next (s.command a .sqtCmd fun _ b => sqtWrite data b)

/-- The lowest-numbered FREE entry. -/
def SeqTable.freeEntry (x : SeqTable) : Option Nat :=
  firstFree ((x.seqs.filter fun t => t.2.state != .free).map (·.1)) 16384 0

/-- R346: a JOIN is applied. -/
def applyJoin (c prio len seqId : Nat) (b : Block) : Block :=
  let x := b.seqCtx c
  match b.seq.freeEntry with
  | none => b.rejSeq
  | some i =>
      if len = 0 || x.nextOrd = 0xFFFFFFFF then b.rejSeq
      else
        let b := b.modSeq i fun _ =>
          { state := .joining, ctx := c, prio := prio, seqId := seqId, ord := x.nextOrd, len := len }
        let b := b.modSeqCtx c fun y => { y with nextOrd := y.nextOrd + 1 }
        { b with seq := { b.seq with lastJoin := i } }

/-- R340, R346: a CANCEL is applied. -/
def applyCancel (c i : Nat) (b : Block) : Block :=
  let s := b.seqEntry i
  if s.ctx ≠ c then b.rejSeq
  else match s.state with
  | .free => b.rejSeq
  | .joining | .parked => b.modSeq i fun s => { s with state := .free }
  | .running => b.modSeq i fun s => { s with state := .leaving }
  | .leaving => b

/-- R346: the oldest queued command is applied, between builds and behind the builds that reached the table before
it. -/
def sqtApply (b : Block) : Block :=
  let l := b.buildLine
  if b.building || l.any (fun e => e.2.2 == 0) then b
  else match b.seq.cmds with
  | [] => b
  | c :: r =>
      let b := { b with seq := { b.seq with cmds := r, line := l.map fun e => (e.1, e.2.1, e.2.2 - 1) } }
      match c with
      | .join ctx prio len seqId => applyJoin ctx prio len seqId b
      | .cancel ctx i => applyCancel ctx i b

/-- SQT_COMMAND_APPLY (R346). -/
def execSqtCommandApply (s : State) : Host.Outcome State Fault Refusal :=
  .next { s with blk := sqtApply s.blk }

/-- R345: a write of SQT_POOL_CFG (`cfg`) or SQT_POOL_BASE. -/
def poolConfigWrite (cfg : Bool) (d : Word) (b : Block) : Block :=
  if b.seq.busy then b.rejSeq
  else
    let q := { b.seq with freeChain := [], hwm := 0, fault := none }
    { b with seq :=
        if cfg then { q with size := fld d 54 32, log2tpp := fld d 20 16, defTok := fld d 15 0 }
        else { q with base := packW [(fld d 55 12, 44, 12)] } }

/-- POOL_CONFIG_WRITE (R345). -/
def execPoolConfigWrite (a : Acc) (cfg : Bool) (data : Word) (s : State) : Host.Outcome State Fault Refusal :=
  .next (s.command a (if cfg then .poolCfg else .poolBase) fun _ b => poolConfigWrite cfg data b)

/-- R340: a context is reset or released: its entries are FREE, its pages return to the pool in the order of
the table (DEDUCED, log 35), and NEXT_ORD is cleared. -/
def Block.clearSeqs (b : Block) (c : Nat) : Block :=
  let x : Build :=
    { seqs := b.seq.seqs, used := (b.seqCtx c).used, avail := 0, freeChain := b.seq.freeChain
      hwm := b.seq.hwm }
  let mine := b.seq.seqs.filter fun t => t.2.ctx == c && t.2.state != .free
  let x := mine.foldl (fun x t =>
    (x.freePages t.2.pages).setSeq t.1 { t.2 with state := .free, pages := [], lpV := false, lastPos := 0, eccBad := false }) x
  let x := (b.seqCtx c).leaked.foldl Build.freePages x
  let b := { b with seq := { b.seq with seqs := x.seqs, freeChain := x.freeChain } }
  let b := b.modSeqCtx c fun y => { y with used := 0, nextOrd := 0, leaked := [] }
  b.linkWrites 65536 0 x.links.reverse

end Sys2Proof.Machine
end

