-- ==== Sys2Proof/Machine/Channels.lean ====
section
/-! DEFINITION. Message channels (R383 to R403): transmit ports, the staging store, receive queues, credits,
and CTL CLEAR (R400, R426). -/

namespace Sys2Proof.Machine

/-! ## Receive queues -/

/-- words(a, b) of R391. -/
def ptrDiff (a b : Nat) : Nat := subMod 128 a b

/-- STORED. -/
def RxQueue.stored (q : RxQueue) : Nat := ptrDiff q.wp q.rp
/-- COUNT. -/
def RxQueue.count (q : RxQueue) : Nat := ptrDiff q.vp q.rp
/-- The word at a pointer. -/
def RxQueue.word (q : RxQueue) (p : Nat) : ChnWord := tget {} q.words (p % 64)

/-- R391: the header of a message of `f` flits. -/
def RxQueue.header (q : RxQueue) (f : Nat) : RxQueue :=
  if 64 - q.stored < chnWords f then { q with overrun := true, discard := f }
  else { q with openF := f, got := 0, mstart := q.wp, part := [] }

/-- The word that the last flits of the open message complete. -/
def RxQueue.full (q : RxQueue) (part : List Word) (got : Nat) : ChnWord :=
  { quarters := part ++ List.replicate (4 - part.length) 0
    first := q.wp == q.mstart, last := got == q.openF, vb := 8 * part.length, mwords := chnWords q.openF }

/-- R391: a flit of the open message, or of one that is discarded; the Bool says that a word was drained. -/
def RxQueue.flit (q : RxQueue) (x : Word) : RxQueue × Bool :=
  if q.discard ≠ 0 then ({ q with discard := q.discard - 1 }, false)
  else if q.openF = 0 then (q, false)
  else
    let part := q.part ++ [x]
    let got := q.got + 1
    let last := got == q.openF
    if part.length < 4 && !last then ({ q with part := part, got := got }, false)
    else if q.drain then
      ({ q with
        part := [], got := got, unreturned := q.unreturned + 1
        drain := !last, openF := if last then 0 else q.openF, capOpen := q.capOpen && !last }, true)
    else
      let wp := (q.wp + 1) % 128
      let seen := last || (q.thresh != 0 && decide (q.thresh ≤ ptrDiff wp q.mstart))
      ({ q with
        words := tset {} q.words (q.wp % 64) (q.full part got), wp := wp, part := [], got := got
        vp := if seen then wp else q.vp, openF := if last then 0 else q.openF, capOpen := q.capOpen && !last }, false)

/-- R391, R402: a pop of a queue that has a readable word. -/
def RxQueue.pop (q : RxQueue) : RxQueue :=
  let w := q.word q.rp
  { q with
    captured := if w.bad then { w with quarters := [0, 0, 0, 0] } else w
    everCaptured := true, rp := (q.rp + 1) % 128, unreturned := q.unreturned + 1
    capOpen := q.openF != 0 && decide (ptrDiff q.rp q.mstart < ptrDiff q.wp q.mstart) }

/-- The stored words from pointer `p` on, `k` at most, that belong to the message there; `start` says that
the word at `p` itself may be a first word. The Bool says that the message's last word was met. -/
def RxQueue.run (q : RxQueue) (start : Bool) : Nat → Nat → Nat × Bool
  | 0, _ => (0, false)
  | k + 1, p =>
      let w := q.word p
      if w.first && !start then (0, false)
      else if w.last then (1, true)
      else
        let r := q.run false k ((p + 1) % 128)
        (r.1 + 1, r.2)

/-- `n` words are freed from the read pointer on. -/
def RxQueue.release (q : RxQueue) (n : Nat) : RxQueue :=
  let rp := (q.rp + n) % 128
  { q with rp := rp, vp := if q.count < n then rp else q.vp, unreturned := q.unreturned + n }

/-- R391, R396: a drop; none when it has no effect. -/
def RxQueue.drop (q : RxQueue) : Option RxQueue :=
  if q.everCaptured && !q.captured.last then
    let r := q.run false q.stored q.rp
    let q' := q.release r.1
    some { q' with drain := q.drain || q.capOpen }
  else if q.stored ≠ 0 ∨ q.openF ≠ 0 then
    let r := q.run true q.stored q.rp
    let q' := q.release r.1
    some { q' with drain := q.drain || (q.openF != 0 && !r.2) }
  else none

/-- R400: a receive queue is cleared. -/
def RxQueue.clear (q : RxQueue) : RxQueue :=
  { q with
    rp := q.wp, vp := q.wp, unreturned := q.unreturned + q.stored, drain := q.drain || q.openF != 0
    captured := {}, everCaptured := false, capOpen := false, underrun := false, overrun := false }

/-- R479: an event of receive queue `k` of Bead `n`; its ARG shows RP, and WP where the table has it, after
the event (DEDUCED, log 38). -/
def Block.rxLocket (p : Params) (b : Block) (n k code : Nat) (wp : Bool) : Block :=
  let q := b.rx n k
  b.beadLocket p n (65 + k) code (pack [(q.rp, 7, 0), (if wp then q.wp else 0, 7, 8)])

/-- R399: the progress counter of a receive queue moves. -/
def Block.rxProgress (b : Block) (n k : Nat) : Block := b.progress 3 (128 * n + k)

/-- One flit reaches a receive queue. -/
def Block.rxFlit (p : Params) (n k : Nat) (b : Block) (x : Word) : Block :=
  let q := b.rx n k
  let r := q.flit x
  let b := b.modRx n k fun _ => r.1
  let b := if r.2 then b.rxProgress n k else b
  if q.openF ≠ 0 ∧ r.1.openF = 0 ∧ !r.2 ∧ q.discard = 0 then b.beadLocket p n (65 + k) 0x20 (pack [(q.openF, 7, 0)])
  else b

/-- R391, R393: flits reach receive queue `k` of Bead `n`: with `total` ≠ 0 behind the header of a message of
`total` flits, else as the next flits of the message that is open there. -/
def Block.rxArrive (p : Params) (b : Block) (n k total : Nat) (flits : List Word) : Block :=
  let q := b.rx n k
  if total ≠ 0 ∧ (q.openF ≠ 0 ∨ q.discard ≠ 0) then b
  else
    let b := if total = 0 then b else b.modRx n k (·.header total)
    let b := if total ≠ 0 ∧ (b.rx n k).discard ≠ 0 then b.rxLocket p n k 0x23 true else b
    flits.foldl (Block.rxFlit p n k) b

/-! ## The lane and the Clasp -/

/-- R401: the Clasp discards a message to a Bead that is fenced off or whose lane has failed. -/
def Block.chnDown (p : Params) (b : Block) (d k : Nat) (flits : List Word) : Block :=
  if (b.pbead d).state == .fenced || (b.lane (p.laneOf d)).failed then b
  else b.sendDown p d (chnRec p d k 0 flits)

/-- The header of a CHN message to queue `k` of Bead `n`: of `total` flits, where that is known. -/
def chnHeader (p : Params) (n k total : Nat) (h : Word) : Bool :=
  recType h == 5 && fld h 59 58 == p.beadOnLane n && fld h 57 51 == k && (total == 0 || announced false h == total)

/-- R388, R391: a CHN message at the Clasp, which forwards it, or at its Bead; a message may reach its
Bead in pieces, of which the first names the flits of the whole. One that the Clasp cannot forward, as the crossing is
full (R66), stays where it is. (DESIGN CHOICE, log 70) -/
def chn (p : Params) (up : Bool) (n k d total : Nat) (flits : List Word) (b : Block) : Block :=
  if up then
    if b.roomDown p d then b.onUp p n (chnRec p n k d flits) fun b => b.chnDown p d k flits else b
  else match (b.lane (p.laneOf n)).takePart (p.laneOf n) false (total != 0) (chnHeader p n k total) flits with
  | none => b
  | some x =>
      let b := b.modLane (p.laneOf n) fun _ => x
      if (b.bead n).fencedOff then b else b.rxArrive p n k total flits

/-- CHN (R391). -/
def execChn (up : Bool) (bead : Nat) (queue : BitVec 7) (dbead : BitVec 6) (total : BitVec 7) (flits : List Word)
    (s : State) : Host.Outcome State Fault Refusal :=
  .next { s with blk := chn s.params up bead queue.toNat dbead.toNat total.toNat flits s.blk }

/-- R397: a port takes credit. The OVERRUN that it sets stands in its block's CHN_COUNT. -/
def Block.addCredit (b : Block) (n k words : Nat) : Block :=
  let c := (b.tx n k).credit + words
  let b := b.modTx n k fun t => { t with credit := min 64 c }
  if 64 < c then b.modRx n k fun q => { q with overrun := true } else b

/-- The route of the active Setting that ends at queue `k` of Bead `n`. -/
def Setting.routeTo (s : Setting) (n k : Nat) : Option Route :=
  match s.chan with
  | some c => c.routes.find? fun r => r.dstBead == n && r.queue == k
  | none => none

/-- R66: the crossing to the Bead whose port a CREDIT for queue `k` of Bead `n` goes to is not full. -/
def Block.creditRoom (p : Params) (b : Block) (n k : Nat) : Bool :=
  match b.setting.routeTo n k with
  | some r => b.roomDown p r.srcBead
  | none => true

/-- R398: a CREDIT at the Clasp, which forwards it to the sending Bead's port, or at that Bead. -/
def credit (p : Params) (up : Bool) (n k words : Nat) (b : Block) : Block :=
  if up then
    if b.creditRoom p n k then b.onUp p n (creditRec p n k words) fun b =>
      match b.setting.routeTo n k with
      | some r => b.sendDown p r.srcBead (creditRec p r.srcBead r.port words)
      | none => b
    else b
  else b.atBead p n (creditRec p n k words) fun b => b.addCredit n k words

/-- CREDIT (R398). -/
def execCredit (up : Bool) (bead : Nat) (queue words : BitVec 7) (s : State) : Host.Outcome State Fault Refusal :=
  .next { s with blk := credit s.params up bead queue.toNat words.toNat s.blk }

/-- R398: a receive queue returns its unreturned words: at 8, and 64 bc after the first; to another Bead, once the
crossing has room (R66). -/
def creditReturn (p : Params) (n k : Nat) (b : Block) : Block :=
  let q := b.rx n k
  if q.unreturned = 0 ∨ !q.routeV ∨ (q.sbead ≠ n ∧ !b.roomUp p n) then b
  else
    let b := (b.modRx n k fun q => { q with unreturned := 0 }).rxProgress n k
    if q.sbead = n then b.addCredit n q.sport q.unreturned
    else b.sendUp p n (creditRec p n k q.unreturned)

/-- CREDIT_RETURN (R398). -/
def execCreditReturn (bead queue : Nat) (s : State) : Host.Outcome State Fault Refusal :=
  .next { s with blk := creditReturn s.params bead queue s.blk }

/-! ## Sending -/

/-- Staging words in use or reserved (R386, R388): of open and of closed messages. -/
def Chan.stagingUsed (c : Chan) : Nat :=
  (c.staging.map fun x => chnWords x.flits.length).sum +
    (c.tx.map fun t => if t.2.opened then chnWords (t.2.left + t.2.flits.length) else 0).sum

/-- R388: staging words of Bead `n` in use or reserved, those of a message among them whose last flit has not left the
Bead. -/
def Block.stagingUsed (p : Params) (b : Block) (n : Nat) : Nat :=
  (b.chan n).stagingUsed + (b.lane (p.laneOf n)).bead.staged (p.laneOf n) (p.beadOnLane n)

/-- R386: a write of CHN_TX_HDR. -/
def txHeader (p : Params) (n k f : Nat) (b : Block) : Block :=
  let t := b.tx n k
  let w := chnWords f
  if !t.routeV || t.opened || f < 1 || 64 < f then b.modTx n k fun t => { t with seqerr := true }
  else
    let short := t.credit < w
    let busy := decide (64 < b.stagingUsed p n + w)
      || (b.dom (9 + 2 * n)).state != .on || (b.dom (9 + 2 * t.dbead)).state != .on
    if short ∨ busy then b.modTx n k fun t =>
      { t with refused := t.refused || short, cwait := t.cwait || short, busy := t.busy || busy }
    else b.modTx n k fun t =>
      { t with opened := true, left := f, credit := t.credit - w, cwait := false, flits := [] }

/-- CHN_TX_HDR (R386). -/
def execChnTxHdr (a : Acc) (bead port : Nat) (flits : BitVec 7) (s : State) : Host.Outcome State Fault Refusal :=
  .next (s.command a (.chnTxHdr bead port) fun p b => txHeader p bead port flits.toNat b)

/-- R387: a write of CHN_TX_DATA. -/
def txData (n k : Nat) (x : Word) (b : Block) : Block :=
  let t := b.tx n k
  if !t.opened then b.modTx n k fun t => { t with seqerr := true }
  else if t.left = 1 then
    let b := b.modTx n k fun t => { t with opened := false, left := 0, flits := [] }
    b.modChan n fun c => { c with staging := c.staging ++ [{ port := k, flits := t.flits ++ [x] }] }
  else b.modTx n k fun t => { t with left := t.left - 1, flits := t.flits ++ [x] }

/-- CHN_TX_DATA (R387). -/
def execChnTxData (a : Acc) (bead port : Nat) (flit : Word) (s : State) : Host.Outcome State Fault Refusal :=
  .next (s.command a (.chnTxData bead port) fun _ b => txData bead port flit b)

/-- R388: the message that closed first begins to leave the Bead, once the crossing has room (R66); from then on it
cannot be cleared. (DEDUCED, log 157) -/
def chnMessageSend (p : Params) (n : Nat) (b : Block) : Block :=
  match (b.chan n).staging with
  | [] => b
  | x :: r =>
      let t := b.tx n x.port
      if t.dbead ≠ n && !b.roomUp p n then b
      else
      let b := b.modChan n fun c => { c with staging := r }
      if t.dbead = n then b.rxArrive p n t.dqueue x.flits.length x.flits
      else b.sendUp p n (chnRec p n t.dqueue t.dbead x.flits)

/-- CHN_MESSAGE_SEND (R388). -/
def execChnMessageSend (bead : Nat) (s : State) : Host.Outcome State Fault Refusal :=
  .next { s with blk := chnMessageSend s.params bead s.blk }

/-! ## Reading -/

/-- Bits 64k + 63 to 64k of the captured word. -/
def RxQueue.quarter (q : RxQueue) (i : Nat) : Word := (q.captured.quarters[i]?).getD 0

/-- R391, R394, R395: a pop. -/
def chnPop (p : Params) (n k : Nat) (b : Block) : Block :=
  let q := b.rx n k
  if q.count = 0 then (b.modRx n k fun q => { q with underrun := true }).rxLocket p n k 0x22 true
  else ((b.modRx n k (·.pop)).rxProgress n k).rxLocket p n k 0x21 false

/-- CHN_POP (R394): a read of CHN_RD at k = 0. -/
def execChnPop (a : Acc) (bead queue : Nat) (s : State) : Host.Outcome State Fault Refusal :=
  .next (s.access a (.chnRd bead queue 0) false fun s =>
    let b := chnPop s.params bead queue s.blk
    ({ s with blk := b }, (b.rx bead queue).quarter 0))

/-- R396: a write of CHN_CMD. -/
def chnDrop (p : Params) (n k : Nat) (b : Block) : Block :=
  match (b.rx n k).drop with
  | none => b
  | some q => ((b.modRx n k fun _ => q).rxProgress n k).rxLocket p n k 0x24 true

/-- DROP (R396). -/
def execDrop (a : Acc) (bead queue : Nat) (s : State) : Host.Outcome State Fault Refusal :=
  .next (s.command a (.chnCmd bead queue) fun p b => chnDrop p bead queue b)

/-! ## Clearing (R400, R426) -/

/-- R400: a receive queue is cleared. -/
def Block.clearRx (p : Params) (n : Nat) (b : Block) (k : Nat) : Block :=
  (b.modRx n k (·.clear)).rxLocket p n k 0x25 true

/-- R400: a transmit port is cleared. -/
def Block.clearTx (n : Nat) (b : Block) (k : Nat) : Block :=
  let c := b.chan n
  let t := b.tx n k
  let mine := c.staging.filter fun x => x.port == k
  let back := (mine.map fun x => chnWords x.flits.length).sum + (if t.opened then chnWords (t.left + t.flits.length) else 0)
  let b := b.modChan n fun c => { c with staging := c.staging.filter fun x => x.port != k }
  b.modTx n k fun t => { t with opened := false, left := 0, flits := [], credit := min 64 (t.credit + back) }

/-- R400: every receive queue and transmit port of a Bead is cleared. -/
def Block.clearChannels (p : Params) (b : Block) (n : Nat) : Block :=
  let ks := List.range (p.bead n).chnQueues
  ks.foldl (Block.clearTx n) (ks.foldl (Block.clearRx p n) b)

/-- R426: tile counters of the outgoing context whose lists have dispatched no tile are freed. -/
def Block.clearTiles (b : Block) (n : Nat) : Block :=
  let out := (b.pbead n).clears.head?
  let mine (t : Tile) : Bool :=
    t.used && t.next == t.back.length && some (b.sub (b.win n t.win).seg).ctx == out
  (b.modBead n fun d => { d with tiles := d.tiles.filter fun t => !mine t.2 }).modPbead n fun x =>
    { x with clears := x.clears.drop 1 }

/-- R426: a CTL CLEAR reaches Bead `n`. -/
def ctlClear (p : Params) (n part : Nat) (b : Block) : Block :=
  b.atBead p n (ctlRec p n 3 part) fun b =>
    let b := (b.clearChannels p n).clearTiles n
    b.beadLocket p n 64 0x14 (pack [(part, 4, 0)])

/-- CTL_CLEAR (R426). -/
def execCtlClear (bead : Nat) (part : BitVec 4) (s : State) : Host.Outcome State Fault Refusal :=
  .next { s with blk := ctlClear s.params bead part.toNat s.blk }

end Sys2Proof.Machine
end

