-- ==== Sys2Proof/Machine/Partitions.lean ====
section
/-! DEFINITION. Partitions and contexts (R404 to R411), the context reset (R412), the context switch
(R414 to R430), long-wait hints (R431, R432), and the disable and forced sequences of partitions and
Beads (R433 to R437). -/

namespace Sys2Proof.Machine

/-! ## State changes that are recorded -/

/-- STATE of CLS_PART_STATUS. -/
def PState.code : PState → Nat
  | .disabled => 0
  | .enabled => 1
  | .stopping => 2
  | .forcing => 3

/-- PHASE of CLS_PART_STATUS. -/
def Phase.code : Phase → Nat
  | .run => 0
  | .pending => 1
  | .saving => 2
  | .clearing => 3
  | .restoring => 4
  | .idle => 5

/-- A partition's state changes, with the Clasp's Locket event. -/
def Block.setPState (b : Block) (p : Nat) (st : PState) : Block :=
  (b.modPart p fun x => { x with state := st }).claspLocket 0x34 (pack [(p, 4, 0), (st.code, 3, 4)])

/-- PHASE changes, with the event of class SWITCH (R471). `c` is the context that the new phase
concerns: outgoing from PENDING to CLEARING, incoming in RESTORING, resident in RUN and IDLE (DEDUCED, log 39). -/
def Block.setPhase (b : Block) (p : Nat) (ph : Phase) (c : Option Nat) : Block :=
  if (b.part p).phase = ph then b
  else (b.modPart p fun x => { x with phase := ph }).traceEvent 8 1
    (pack [(p, 4, 0), (ph.code, 3, 4), (c.getD 0, 10, 8)]) []

/-! ## Work of a context -/

/-- The queues of a partition that are not DISABLED. -/
def Block.partQueues (b : Block) (p : Nat) : List Nat :=
  (b.front.queues.filter fun t => t.2.part == p && t.2.state != .disabled).map (·.1)

/-- A submission of the partition is in flight. -/
def Block.partInFlight (b : Block) (p : Nat) : Bool :=
  b.front.queues.any fun t => t.2.part == p && t.2.inflight != 0

/-- The contexts registered to a partition. -/
def Block.partCtxs (b : Block) (p : Nat) : List Nat :=
  (b.parts.ctxs.filter fun t => t.2.state != .free && t.2.part == p).map (·.1)

/-- A Clasp-homed node is READY. A WAIT stays READY while its generation has not ended (R246). (DEDUCED, log 100) -/
def Node.isReady (n : Node) : Bool := n.used && (n.state == .ready || (n.state == .acting && n.kind == 3))

/-- "When a partition switches": a READY node that counts: a WAIT whose generation has not ended does
not. -/
def Node.works (n : Node) : Bool := n.isReady && !(n.kind == 3 && n.outcome.isNone)

/-- The Beads hold a WREADY node of submission `seg`. -/
def Block.wreadySub (b : Block) (seg : Nat) : Bool :=
  b.beads.any fun d => d.2.win.any fun w => w.2.used && !w.2.piece && w.2.seg == seg && w.2.state == .wready

/-- A placed submission holds a node that is READY, by `f`, or WREADY. -/
def Block.subWorks (b : Block) (f : Node → Bool) (seg : Nat) : Bool :=
  (b.sub seg).nodes.any (fun t => f t.2) || b.wreadySub seg

/-- An in-flight submission of the context holds a node that is READY or WREADY. -/
def Block.ctxWorks (b : Block) (c : Nat) : Bool := (b.ctxSubs c).any (b.subWorks Node.works)

/-- A queue of the context is in one of the states `f`. -/
def Block.ctxQueueIn (b : Block) (c : Nat) (f : QState → Bool) : Bool :=
  b.front.queues.any fun t => t.2.ctx == c && f t.2.state

/-- Context `c` of partition `p` is runnable: registered, not resident, with no CAUSE and with work. -/
def Block.runnable (b : Block) (p c : Nat) : Bool :=
  let x := b.ctx c
  x.state != .free && (b.part p).resident != some c && x.part == p && x.cause == 0
    && (b.ctxQueueIn c (· == .wait) || b.ctxWorks c)

/-- The runnable contexts of a partition, in ascending order. -/
def Block.runnables (b : Block) (p : Nat) : List Nat := (b.partCtxs p).filter (b.runnable p)

/-- WAIT or ACTIVE. -/
def QState.running (q : QState) : Bool := q == .wait || q == .active

/-- The resident context is blocked. -/
def Block.blocked (b : Block) (c : Nat) : Bool :=
  b.ctxInFlight c && !b.ctxStarted c && !b.ctxWorks c && !b.ctxQueueIn c QState.running

/-- R430: a context has urgent work. -/
def Block.urgentWork (b : Block) (c : Nat) : Bool :=
  (b.front.queues.any fun t => t.2.ctx == c && t.2.prio == 3 && t.2.state == .wait)
    || (b.ctxSubs c).any fun seg => (b.sub seg).urgent && b.subWorks Node.isReady seg

/-- No switch of the partition is pending or in progress. -/
def Part.settled (x : Part) : Bool := x.phase == .run || x.phase == .idle

/-- R408: a partition is quiescent. `but` are the submission and the queue that R128 leaves out: they
are those of a SETTING_PATCH node. -/
def Block.quiescentBut (b : Block) (p : Nat) (but : Option (Nat × Nat)) : Bool :=
  let x := b.part p
  let inflight (t : Nat × Queue) : Nat := t.2.inflight - (if but.any (fun u => u.2 == t.1) then 1 else 0)
  x.state == .disabled || (x.state == .enabled && x.settled
    && b.front.queues.all fun t => t.2.part != p
      || (inflight t == 0 && (!t.2.state.running || but.any fun u => u.2 == t.1)))

/-- R408, QUIESCENT. -/
def Block.quiescent (b : Block) (p : Nat) : Bool := b.quiescentBut p none

/-- R128, R490: no switch of the partition may start. -/
def Block.switchHeld (b : Block) (p : Nat) : Bool := b.claspHeld p || b.loader.touched.contains p

/-! ## The context reset -/

/-- R412, step 1, for what the queues of the context hold and have not placed. -/
def Block.resetFetched (b : Block) (c : Nat) : Block :=
  (((b.front.queues.filter fun t => t.2.ctx == c && !t.2.waiting.isEmpty).map (·.1)).foldl (fun b q =>
    b.modQueue q fun x => { x with waiting := x.waiting.map fun f =>
      { f with abort := if f.abort = 0 && f.code = 0 then Status.ownerLost else f.abort, passed := false, noSave := true } }) b).unhold

/-- R412: the reset of context `c`, which is then SWAPPED; its completions still to come leave its
save record alone (R414). (DEDUCED, log 107) -/
def Block.resetCtx (p : Params) (b : Block) (c : Nat) (cause : Status) : Block :=
  let subs := b.ctxSubs c
  let b := b.resetFetched c
  let b := subs.foldl (fun b seg =>
    (b.modSub seg fun s => { s with noSave := true }).abandon p seg Status.ownerLost none) b
  let b := b.poisonOwned c
  let b := b.clearSeqs c
  b.modCtx c fun x => { x with state := .swapped, recV := false, atSp := true, cause := cause }

/-! ## Pieces -/

/-- R415: an entry of a live-range list: address, bytes, Bead. -/
structure LiveRange where
  addr : Nat
  len : Nat
  bead : Nat
  deriving DecidableEq, Repr

/-- R415, R417: entry `i` of the list at `a`, and whether it is well-formed for partition `p`. -/
def Block.readRange (b : Block) (m : MemView) (p a i : Nat) : LiveRange × Bool :=
  let w0 := (m.word (a + 16 * i)).toNat
  let w1 := (m.word (a + 16 * i + 8)).toNat
  let r : LiveRange := { addr := bits w0 55 0, len := bits w1 31 0, bead := bits w1 37 32 }
  (r, addrOk w0 64 && bits w1 63 38 == 0 && r.len != 0 && r.len % 64 == 0 && decide (r.addr + r.len ≤ 2 ^ 56)
    && (b.partSec p).beadMask.getLsbD r.bead
    && (tget [] b.setting.slotmap r.bead).any fun s => s.enabled && s.cls == 2 && s.part == p)

/-- R416: the pieces of one range whose data stand at `data` in the save area; `k` is at least their
number. -/
def LiveRange.pieces (c : Nat) (restore : Bool) (r : LiveRange) : Nat → Nat → Nat → List Piece
  | 0, _, _ => []
  | k + 1, off, data =>
      if r.len ≤ off then []
      else
        { ctx := c, num := 0, bead := r.bead, addr := r.addr + off, area := data + off
          len := min (r.len - off) 1048576, restore := restore }
          :: LiveRange.pieces c restore r k (off + 1048576) data

/-- R416: the pieces of a list, numbered from 0 in list order. -/
def listPieces (c : Nat) (restore : Bool) (area : Nat) (rs : List LiveRange) : List Piece :=
  let step (t : Nat × List Piece) (r : LiveRange) : Nat × List Piece :=
    (t.1 + r.len, t.2 ++ r.pieces c restore (r.len / 1048576 + 1) 0 t.1)
  (rs.foldl step (area + 0x40000, [])).2.zipIdx.map fun t => { t.1 with num := t.2 }

/-- What the reading of a context's live-range list gives (R415 to R417). -/
structure LiveList where
  fail : Option Status
  pieces : List Piece
  blk : Block
  deriving DecidableEq, Repr

/-- The statuses that R51 gives for a FAULT response: FORMAT, ECC_UNCORRECTABLE and INDIRECT_FAULT. -/
def readFailure (k : Nat) : Status := BitVec.ofNat 8 (0x15 + k % 3)

/-- R417: the list of context `c`'s record is read and checked. An error response to the read fails the
save or restore: a POISON response with ECC_UNCORRECTABLE, as everywhere in R51; which of the statuses of R51 a FAULT
response gives the spec does not say, and it is drawn (DESIGN CHOICE, log 40). -/
def Block.readLive (b : Block) (m : MemView) (p c : Nat) (restore : Bool) : LiveList :=
  let x := b.ctx c
  if !x.recV then { fail := none, pieces := [], blk := b }
  else if 4096 < x.liveCount then { fail := some Status.capacity, pieces := [], blk := b }
  else
    let b := b.viewErrors 63 4 m x.liveAddr (16 * x.liveCount)
    if !(m.codes x.liveAddr (16 * x.liveCount)).isEmpty then
      { fail := some (m.status (readFailure b.draw.1.toNat) x.liveAddr (16 * x.liveCount)), pieces := [], blk := b.draw.2 }
    else
      let rs := (List.range x.liveCount).map (b.readRange m p x.liveAddr)
      let ps := listPieces c restore x.area (rs.map (·.1))
      if rs.any fun t => !t.2 then { fail := some Status.format, pieces := [], blk := b }
      else if 4095 < ps.length then { fail := some Status.capacity, pieces := [], blk := b }
      else { fail := none, pieces := ps, blk := b }

/-- R416: the TASK record of class DM at the head of the save area. (DEDUCED, log 102) -/
def pieceRecord : List Word := packW [(2, 3, 48)] :: List.replicate 7 0

/-- R423: the parameter block of a piece. -/
def Piece.params (x : Piece) : List Word :=
  [BitVec.ofNat 64 (if x.restore then x.area else x.addr), BitVec.ofNat 64 (if x.restore then x.addr else x.area),
   BitVec.ofNat 64 x.len, packW [(x.ctx, 10, 32), (x.num, 12, 16), (b2n x.restore, 1, 0)], 0, 0, 0, 0]

/-- R416, R422: the record and the parameter blocks of the pieces of one direction are written. -/
def Block.writePieces (b : Block) (p : Nat) (restore : Bool) : Block :=
  match (b.part p).pieces.filter fun x => x.restore == restore with
  | [] => b
  | x :: xs =>
      let area := (b.ctx x.ctx).area
      let b := b.put 63 2 area (wordsBytes pieceRecord) (.savePiece p)
      (x :: xs).foldl (fun b y => b.put 63 2 (area + 0x40 + 64 * y.num) (wordsBytes y.params) (.savePiece p)) b

/-- R219, R422: piece `k` takes window entry `w` of Bead `a`, and its NODE is sent. -/
def Block.sendPiece (q : Params) (b : Block) (p k a w : Nat) (x : Piece) : Block :=
  let gen := wrapAdd 16 (b.cwin a w).gen 1
  let area := (b.ctx x.ctx).area
  let b := b.modCwin a w fun c => { c with gen := gen, piece := some (p, k) }
  let n : Node := { used := true, kind := 0, cls := 2, record := area, param := area + 0x40 + 64 * x.num }
  let b := b.sendDown q a (nodeRec q a w gen (nodeEntry 0 0xFFFFFFFF 0 5 0 n))
  b.modPart p fun y => { y with pieces := y.pieces.set k { x with sent := true } }

/-- R425: a piece that cannot be sent fails. -/
def Block.failPiece (b : Block) (p k : Nat) : Block :=
  b.modPart p fun y =>
    { y with
      waiting := y.waiting.filter (· != k)
      pieceFail := some (y.pieceFail.getD Status.mismatch) }

/-- One piece of the half in progress is sent, where it can be. -/
def Block.tryPiece (q : Params) (p : Nat) (b : Block) (k : Nat) : Block :=
  match (b.part p).pieces[k]? with
  | none => b
  | some x =>
      let s := (b.pbead x.bead).state
      if x.sent then b
      else if s = BState.disabled ∨ s = BState.fenced then b.failPiece p k
      else if !b.laneOpen q x.bead || !b.roomDown q x.bead then b
      else match b.freeWin x.bead with
      | none => b
      | some w => b.sendPiece q p k x.bead w x

/-- R48, R422: the pieces of the half in progress are sent once their parameter blocks are written. -/
def Block.sendPieces (q : Params) (p : Nat) (b : Block) : Block :=
  let x := b.part p
  if (x.phase != .saving && x.phase != .restoring) || b.mp.writesFor (· == .savePiece p) then b
  else x.waiting.foldl (Block.tryPiece q p) b

/-- The pieces of one direction, by their places. -/
def piecePlaces (ps : List Piece) (restore : Bool) : List Nat :=
  (ps.zipIdx.filter fun t => t.1.restore == restore).map (·.2)

/-! ## The switch -/

/-- R419: a switch is requested; the resident context is outgoing. -/
def Block.requestSwitch (b : Block) (p reason : Nat) : Block :=
  match (b.part p).resident with
  | none => b
  | some a =>
      let b := b.modCtx a fun x => { x with state := .outgoing }
      let b := b.modPart p fun x => { x with reason := reason, outgoing := some a }
      b.setPhase p .pending (some a)

/-- The distance of context `c` above `a`, counting cyclically; with no outgoing context, from 0. (DEDUCED, log 99) -/
def ctxDistance (a : Option Nat) (c : Nat) : Nat :=
  match a with
  | some a => subMod 1024 c (a + 1)
  | none => c

/-- Of two contexts, the nearer above the outgoing one. -/
def nearerCtx (a : Option Nat) (x : Option Nat) (c : Nat) : Option Nat :=
  match x with
  | none => some c
  | some d => if ctxDistance a c < ctxDistance a d then some c else some d

/-- R420: the incoming context, a SWAPPED one. -/
def Block.chooseCtx (b : Block) (p : Nat) : Option Nat :=
  let rs := (b.runnables p).filter fun c => (b.ctx c).state == .swapped
  let urgent := if (b.partSec p).express then rs.filter b.urgentWork else []
  (if urgent.isEmpty then rs else urgent).foldl (nearerCtx (b.part p).outgoing) none

/-- KiB of pieces, each rounded up (R428). (DEDUCED, log 103) -/
def pieceKib (ps : List Piece) : Nat := (ps.map fun x => (x.len + 1023) / 1024).sum

/-- R428: POSITION and TOTAL at the start of a switch. -/
def Part.begin (x : Part) (ps : List Piece) : Part :=
  let y := { x with pieces := ps, position := 0, total := pieceKib ps }
  { y with percent := y.progress }

/-- R422: the restore of the incoming context `c` begins; its pieces stand in the partition. One whose record has been
discarded since its list was read restores nothing. (DEDUCED, log 142) -/
def Block.startRestore (b : Block) (p c : Nat) : Block :=
  let b := b.modCtx c fun x => { x with state := .restoring }
  let b := b.modPart p fun x =>
    { x with
      incoming := some c, waiting := if (b.ctx c).recV then piecePlaces x.pieces true else []
      pieceFail := if (b.ctx c).recV then x.listFail else none, listFail := none }
  let b := b.setPhase p .restoring (some c)
  if (b.ctx c).recV then b.writePieces p true else b

/-- The list of an incoming context, where it has one to restore: none in an express partition (R429). -/
def Block.incomingList (b : Block) (m : MemView) (p c : Nat) : LiveList :=
  if (b.partSec p).express then { fail := none, pieces := [], blk := b } else b.readLive m p c true

/-- R419, EMPTY: a switch with no outgoing half. -/
def Block.emptySwitch (b : Block) (m : MemView) (p : Nat) : Block :=
  let b := b.modPart p fun x => { x with outgoing := none }
  match b.chooseCtx p with
  | none => b
  | some c =>
      let r := b.incomingList m p c
      let b := r.blk.modPart p fun x => { x.begin r.pieces with reason := 6, listFail := r.fail }
      b.startRestore p c

/-- R419: BLOCKED, URGENT, DRAIN and EMPTY; the lowest code of those that hold (DESIGN CHOICE, log 41). -/
def Block.switchReason (b : Block) (p : Nat) : Option Nat :=
  let others := b.runnables p
  match (b.part p).resident with
  | some a =>
      if b.blocked a && !others.isEmpty then some 3
      else if (b.partSec p).express && !b.urgentWork a && (b.partCtxs p).any (fun c => c != a && b.urgentWork c) then
        some 4
      else if (b.part p).state == .stopping && !b.ctxInFlight a
          && (b.partCtxs p).any (fun c => c != a && b.ctxInFlight c) then some 5
      else none
  | none => if others.isEmpty then none else some 6

/-- A switch may be requested in the partition. -/
def Block.switchOpen (b : Block) (p : Nat) : Bool :=
  let x := b.part p
  (x.state == .enabled || x.state == .stopping) && x.settled && !b.switchHeld p

/-- R419. -/
def switchRequest (p : Nat) (m : MemView) (b : Block) : Block :=
  if !b.switchOpen p then b
  else match b.switchReason p with
  | none => b
  | some r => if r = 6 then b.emptySwitch m p else b.requestSwitch p r

/-- SWITCH_REQUEST (R419). -/
def execSwitchRequest (p : BitVec 4) (m : MemView) (s : State) : Host.Outcome State Fault Refusal :=
  .next { s with blk := switchRequest p.toNat m s.blk }

/-- R419: the quantum of the resident context has run out. -/
def quantumExpiry (p : Nat) (b : Block) : Block :=
  let x := b.part p
  let q := (b.partSec p).quantumUs
  if b.switchOpen p && x.resident.isSome && q != 0 && decide (x.since + 1000 * q ≤ b.now)
      && !(b.runnables p).isEmpty then b.requestSwitch p 1
  else b

/-- QUANTUM_EXPIRY (R419). -/
def execQuantumExpiry (p : BitVec 4) (s : State) : Host.Outcome State Fault Refusal :=
  .next { s with blk := quantumExpiry p.toNat s.blk }

/-- R414: context `a` stands at a boundary. -/
def Block.atBoundary (b : Block) (a : Nat) : Bool := (b.ctx a).atSp && !b.ctxStarted a

/-- A task of the context has issued, or an expansion of it runs. -/
def Block.ctxIssued (b : Block) (a : Nat) : Bool :=
  b.beads.any fun d => d.2.win.any fun w =>
    w.2.used && !w.2.piece && (b.sub w.2.seg).ctx == a && w.2.engine
      && (w.2.state == .issued || ((d.2.tileOf w.1).any fun t => t.2.done != t.2.next - t.2.back.length)
        || d.2.presents w.1)
      || w.2.used && w.2.kind == 2 && w.2.state == .issued && (b.sub w.2.seg).ctx == a

/-- A STEP or PRIV node of the context acts. -/
def Block.ctxActs (b : Block) (a : Nat) : Bool :=
  b.graph.subs.any fun t => t.2.live && t.2.ctx == a && t.2.nodes.any fun n =>
    n.2.used && n.2.state == .acting && (n.2.kind == 5 || n.2.kind == 7)

/-- R414, R429: the outgoing context has reached its boundary. -/
def Block.boundary (b : Block) (p a : Nat) : Bool :=
  if (b.partSec p).express then !b.ctxIssued a && !b.ctxActs a else b.atBoundary a

/-- R422: the context `c` becomes resident. -/
def Block.becomeResident (b : Block) (p c : Nat) : Block :=
  let b := b.modCtx c fun x => { x with state := .resident }
  b.modPart p fun x => { x with resident := some c, since := b.now, outgoing := none, incoming := none }

/-- R420: the switch is withdrawn. -/
def Block.withdrawSwitch (b : Block) (p a : Nat) : Block :=
  (b.becomeResident p a).setPhase p (if (b.part p).idle then .idle else .run) (some a)

/-- R529: the change of resident context is written into the crossing of each Bead of the partition. -/
def Block.tellBeads (q : Params) (b : Block) (p c : Nat) : Block :=
  (b.partBeads p).foldl (fun b n => b.modPbead n fun x => { x with change := some (c, (b.lane (q.laneOf n)).queued) }) b

/-- R422, R426: no context is resident, and CTL CLEAR goes to every Bead of the partition. -/
def Block.clearBeads (q : Params) (b : Block) (p : Nat) : Block :=
  let b := b.modPart p fun x => { x with resident := none }
  let b := b.setPhase p .clearing (b.part p).outgoing
  let out := (b.part p).outgoing.toList
  (b.partBeads p).foldl (fun b n =>
    (b.sendDown q n (ctlRec q n 3 p)).modPbead n fun x => { x with clears := x.clears ++ out }) b

/-- R429: the switch of an express partition saves nothing. -/
def Block.expressBoundary (q : Params) (b : Block) (p a c : Nat) : Block :=
  let b := b.modCtx a fun x => { x with state := .swapped }
  let b := b.modPart p fun x => { x.begin [] with listFail := none }
  (b.clearBeads q p).startRestore p c

/-- R422: SAVING begins: both lists are read, and the parameter blocks of the outgoing pieces written. (DEDUCED, log 116) -/
def Block.startSave (b : Block) (m : MemView) (p a c : Nat) : Block :=
  let b := b.modCtx a fun x => { x with state := .saving }
  let ra := b.readLive m p a false
  let rc := ra.blk.readLive m p c true
  let b := rc.blk.modPart p fun x =>
    { x.begin (ra.pieces ++ rc.pieces) with
      incoming := some c, waiting := piecePlaces (ra.pieces ++ rc.pieces) false
      pieceFail := ra.fail, listFail := rc.fail }
  (b.setPhase p .saving (some a)).writePieces p false

/-- R420, R422: the outgoing context reaches its boundary; while it is saved, pieces that had to wait are
sent. -/
def switchBoundary (q : Params) (p : Nat) (m : MemView) (b : Block) : Block :=
  match (b.part p).phase, (b.part p).outgoing with
  | .pending, some a =>
      if !b.boundary p a then b
      else match b.chooseCtx p with
      | none => b.withdrawSwitch p a
      | some c => if (b.partSec p).express then b.expressBoundary q p a c else b.startSave m p a c
  | .saving, _ => b.sendPieces q p
  | _, _ => b

/-- SWITCH_BOUNDARY (R422). -/
def execSwitchBoundary (p : BitVec 4) (m : MemView) (s : State) : Host.Outcome State Fault Refusal :=
  .next { s with blk := switchBoundary s.params p.toNat m s.blk }

/-- R420: another incoming context is chosen, its list read and its restore begun; with none, the
partition is left with no resident context (DEDUCED, log 42). -/
def Block.chooseAgain (b : Block) (p : Nat) (m : MemView) : Block :=
  match b.chooseCtx p with
  | none =>
      (b.modPart p fun x => { x with outgoing := none, incoming := none, pieces := [], waiting := [] }).setPhase
        p .run none
  | some c =>
      let r := b.incomingList m p c
      let b := r.blk.modPart p fun x => { x with pieces := r.pieces, listFail := r.fail }
      b.startRestore p c

/-- R422: every save piece has completed. An incoming context that has been reset or released meanwhile
is chosen anew (DEDUCED, log 42). -/
def switchSaveDone (q : Params) (p : Nat) (m : MemView) (b : Block) : Block :=
  let x := b.part p
  match x.phase, x.outgoing, x.incoming with
  | .saving, some a, some c =>
      if !x.waiting.isEmpty then b
      else
        let b := match x.pieceFail with
          | some st => b.resetCtx q a st
          | none => b.modCtx a fun y => { y with state := .swapped }
        let b := b.clearBeads q p
        let y := b.ctx c
        if y.state == .swapped && y.part == p && y.cause == 0 then b.startRestore p c
        else Block.chooseAgain b p m
  | .restoring, _, _ => b.sendPieces q p
  | _, _, _ => b

/-- SWITCH_SAVE_DONE (R422). -/
def execSwitchSaveDone (p : BitVec 4) (m : MemView) (s : State) : Host.Outcome State Fault Refusal :=
  .next { s with blk := switchSaveDone s.params p.toNat m s.blk }

/-- R422: the switch is complete. -/
def Block.endSwitch (q : Params) (b : Block) (p c : Nat) : Block :=
  let b := (b.becomeResident p c).tellBeads q p c
  let b := b.modPart p fun x => { x with percent := 100, count := wrapAdd 16 x.count 1, pieces := [] }
  b.setPhase p .run (some c)

/-- R422: every restore piece has completed. -/
def switchRestoreDone (q : Params) (p : Nat) (m : MemView) (b : Block) : Block :=
  let x := b.part p
  match x.phase, x.incoming with
  | .restoring, some c =>
      if !x.waiting.isEmpty then b
      else match x.pieceFail with
      | some st => (b.resetCtx q c st).chooseAgain p m
      | none => b.endSwitch q p c
  | _, _ => b

/-- SWITCH_RESTORE_DONE (R422). -/
def execSwitchRestoreDone (p : BitVec 4) (m : MemView) (s : State) : Host.Outcome State Fault Refusal :=
  .next { s with blk := switchRestoreDone s.params p.toNat m s.blk }

/-! ## Hints -/

/-- "Idle partitions": the partition is idle. -/
def Block.partIdle (b : Block) (p : Nat) : Bool :=
  let x := b.part p
  x.state == .enabled && (b.runnables p).isEmpty
    && match x.resident with
       | none => true
       | some a => (!b.ctxInFlight a && !b.ctxQueueIn a QState.running) || b.blocked a

/-- R431: the mean of the idle periods; a mean that 40 bits do not hold is drawn (DESIGN CHOICE, log 43). -/
def Block.hintMean (b : Block) (x : Part) : Nat × Block :=
  let v := if x.idlePeriods.isEmpty then 0 else x.idlePeriods.sum / x.idlePeriods.length
  if v < 2 ^ 40 then (v, b) else (fld b.draw.1 39 0, b.draw.2)

/-- R431: an idle period begins or ends. (DEDUCED, log 104) -/
def idleHint (p : Nat) (b : Block) : Block :=
  let x := b.part p
  let now := b.partIdle p
  if now = x.idle then b
  else if now then
    let r := b.hintMean x
    let b := r.2.modPart p fun x =>
      { x with idle := true, idleSince := b.now, hintWait := r.1, hintOut := some r.1 }
    if x.settled then b.setPhase p .idle (b.part p).resident else b
  else
    let ps := x.idlePeriods ++ [b.now - x.idleSince]
    let b := b.modPart p fun x =>
      { x with idle := false, idlePeriods := ps.drop (ps.length - 8), hintWait := 0, hintOut := some 0 }
    if (b.part p).phase = Phase.idle then b.setPhase p .run (b.part p).resident else b

/-- IDLE_HINT (R431). -/
def execIdleHint (p : BitVec 4) (s : State) : Host.Outcome State Fault Refusal :=
  .next { s with blk := idleHint p.toNat s.blk }

/-- R432: the hint of partition `p` transfers. The operand names the partition: the spec leaves the order
of hints open. -/
def hintTransfer (p : Nat) (b : Block) : Block := b.modPart p fun x => { x with hintOut := none }

/-- HINT_TRANSFER (R432). -/
def execHintTransfer (p : BitVec 4) (s : State) : Host.Outcome State Fault Refusal :=
  .next { s with blk := hintTransfer p.toNat s.blk }

/-! ## Partition commands -/

/-- Outstanding writes of a switch that a FORCE ends matter no more. -/
def Mp.scrapPieces (x : Mp) (p : Nat) : Mp :=
  let f (r : WReq) : WReq := if r.purpose = .savePiece p then { r with purpose := .scrap } else r
  { x with writes := x.writes.map f, heldWrites := x.heldWrites.map f }

/-- A piece of partition `p` that a FORCE has ended names none of a later switch's places. -/
def CWin.orphan (p : Nat) (c : CWin) : CWin :=
  match c.piece with
  | some (q, k) => if q = p then { c with piece := some (q, 65536 + k) } else c
  | none => c

/-- Every piece of the partition that is on its way belongs to no switch any more. (DEDUCED, log 101) -/
def Block.orphanPieces (b : Block) (p : Nat) : Block :=
  { b with graph := { b.graph with
      cwin := b.graph.cwin.map fun t => (t.1, t.2.map fun u => (u.1, u.2.orphan p)) } }

/-- The contexts that a FORCE resets: the resident one and any in SAVING or RESTORING. -/
def Block.forcedCtxs (b : Block) (p : Nat) : List Nat :=
  (b.partCtxs p).filter fun c =>
    let s := (b.ctx c).state
    s == .resident || s == .outgoing || s == .saving || s == .restoring

/-- R434: the forced sequence, stages 1 to 3. -/
def Block.forcePart (q : Params) (b : Block) (p : Nat) : Block :=
  let b := b.setPState p .forcing
  let b := (b.partQueues p).foldl (fun b i => qForce q i b) b
  let slots := b.slotsHolding fun n h =>
    (b.win n h.win).piece && ((b.cwin n h.win).piece.any fun t => t.1 == p)
  let b := slots.foldl (fun b t => b.askReset t.1 t.2 none) b
  let b := (b.forcedCtxs p).foldl (fun b c => b.resetCtx q c Status.aborted) b
  let b := Block.orphanPieces { b with mp := b.mp.scrapPieces p } p
  let b := b.modPart p fun x =>
    { x with
      resets := slots, outgoing := none, incoming := none, pieces := [], waiting := []
      pieceFail := none, listFail := none }
  b.setPhase p .run (b.part p).resident

/-- R433, stage 1. -/
def Block.disablePart (b : Block) (p : Nat) : Block :=
  (b.partQueues p).foldl (fun b q => qDisable q b) (b.setPState p .stopping)

/-- R405, R128: a command of a partition is accepted; a patch resumes none of the partitions that it touches. -/
def Block.partAccepts (b : Block) (p op : Nat) : Bool :=
  let x := b.part p
  match op with
  | 1 => x.state == .disabled && (b.partSec p).enabled && !b.loader.touched.contains p
  | 2 => x.state == .enabled
  | 3 => x.state == .enabled || x.state == .stopping
  | 4 => x.state == .enabled && x.resident.isSome && x.settled
  | _ => false

/-- R405: what an accepted command does. (DEDUCED, log 105) -/
def Block.partCommand (q : Params) (b : Block) (p op : Nat) : Block :=
  let b := b.modPart p fun x => { x with rej := false }
  match op with
  | 1 => b.setPState p .enabled
  | 2 => b.disablePart p
  | 3 => b.forcePart q p
  | _ => if b.switchHeld p then b else b.requestSwitch p 2

/-- R405, R406: a write of CLS_PART_CMD. -/
def partWrite (q : Params) (p op : Nat) (b : Block) : Block :=
  if b.partAccepts p op then b.partCommand q p op else b.modPart p fun x => { x with rej := true }

/-- PART_ENABLE (R405). -/
def execPartEnable (a : Acc) (p : BitVec 4) (s : State) : Host.Outcome State Fault Refusal :=
  .next (s.command a (.partCmd p.toNat) fun q b => partWrite q p.toNat 1 b)

/-- PART_DISABLE (R433). -/
def execPartDisable (a : Acc) (p : BitVec 4) (s : State) : Host.Outcome State Fault Refusal :=
  .next (s.command a (.partCmd p.toNat) fun q b => partWrite q p.toNat 2 b)

/-- PART_FORCE (R434). -/
def execPartForce (a : Acc) (p : BitVec 4) (s : State) : Host.Outcome State Fault Refusal :=
  .next (s.command a (.partCmd p.toNat) fun q b => partWrite q p.toNat 3 b)

/-- YIELD (R419). -/
def execPartYield (a : Acc) (p : BitVec 4) (s : State) : Host.Outcome State Fault Refusal :=
  .next (s.command a (.partCmd p.toNat) fun q b => partWrite q p.toNat 4 b)

/-- PART_CMD_INVALID (R406): a CLS_PART_CMD write, which sets REJ when its OP is none of the four. -/
def execPartCmdInvalid (a : Acc) (p : BitVec 4) (op : BitVec 3) (s : State) : Host.Outcome State Fault Refusal :=
  .next (s.command a (.partCmd p.toNat) fun q b => partWrite q p.toNat op.toNat b)

/-- R200, R406: a PARTITION_CTL node. It retires with OK before its command takes effect: a FORCE of its
own partition abandons the rest of its submission. (DEDUCED, log 106) -/
def partitionCtl (q : Params) (seg index : Nat) (m : MemView) (b : Block) : Block :=
  let n := b.node seg index
  if n.kind != 7 || privOp m n.record != 2 then b
  else b.tryAct q m seg index fun b =>
    let w := recW m n.record 3
    let p := bits w 3 0
    let op := bits w 11 8
    if b.partAccepts p op then (b.claspLeave q m seg index Status.ok false).partCommand q p op
    else b.claspLeave q m seg index Status.mismatch false

/-- PARTITION_CTL (R406). -/
def execPartitionCtl (seg index : Nat) (m : MemView) (s : State) : Host.Outcome State Fault Refusal :=
  .next { s with blk := partitionCtl s.params seg index m s.blk }

/-- R433, stage 3. -/
def partitionDisabled (p : Nat) (b : Block) : Block :=
  let x := b.part p
  if x.state == .stopping && x.settled && !b.partInFlight p && (b.partQueues p).isEmpty then
    (b.setPState p .disabled).raise (960 + p)
  else b

/-- PARTITION_DISABLED (R433). -/
def execPartitionDisabled (p : BitVec 4) (s : State) : Host.Outcome State Fault Refusal :=
  .next { s with blk := partitionDisabled p.toNat s.blk }

/-- R434, stage 4. -/
def partitionForceDone (p : Nat) (b : Block) : Block :=
  let x := b.part p
  if x.state == .forcing && x.resets.isEmpty && (b.partQueues p).isEmpty then
    ((b.modPart p fun x => { x with resident := none }).setPState p .disabled).raise (960 + p)
  else b

/-- PARTITION_FORCE_DONE (R434). -/
def execPartitionForceDone (p : BitVec 4) (s : State) : Host.Outcome State Fault Refusal :=
  .next { s with blk := partitionForceDone p.toNat s.blk }

/-! ## Context commands -/

/-- R410: a REGISTER is accepted. -/
def Block.registerOk (b : Block) (c p area : Nat) : Bool :=
  (b.ctx c).state == .free && (b.partSec p).enabled && addrOk area 64

/-- R410. -/
def Block.registerCtx (b : Block) (c p area : Nat) : Block :=
  b.modCtx c fun x =>
    { x with state := .swapped, part := p, area := area, recV := false, atSp := true, cause := 0 }

/-- R411: a RELEASE is accepted. -/
def Block.releaseOk (b : Block) (c : Nat) : Bool :=
  (b.ctx c).state == .swapped && !b.ctxInFlight c && (b.ctxQueues c).isEmpty

/-- R411. -/
def Block.releaseCtx (q : Params) (b : Block) (c : Nat) : Block :=
  (b.resetCtx q c Status.ownerLost).modCtx c fun x => { x with state := .free }

/-- CLS_PART_CTX_SEL.REJ. -/
def Block.ctxRejected (b : Block) (r : Bool) : Block := { b with parts := { b.parts with ctxRej := r } }

/-- R410 to R412, R531: a write of CLS_PART_CTX_CMD. -/
def ctxWrite (q : Params) (op : Nat) (ack : Bool) (p c : Nat) (b : Block) : Block :=
  let area := b.parts.ctxArg.toNat
  if op = 0 then
    if ack && (b.ctx c).state != .free then (b.modCtx c fun x => { x with cause := 0 }).ctxRejected false
    else b.ctxRejected true
  else if ack then b.ctxRejected true
  else if op = 1 then
    if b.registerOk c p area then (b.registerCtx c p area).ctxRejected false else b.ctxRejected true
  else if op = 2 then
    if b.releaseOk c then (b.releaseCtx q c).ctxRejected false else b.ctxRejected true
  else if (b.ctx c).state == .swapped then (b.resetCtx q c Status.ownerLost).ctxRejected false
  else b.ctxRejected true

/-- A write of CLS_PART_CTX_CMD as data. -/
def ctxCmdWrite (q : Params) (d : Nat) (b : Block) : Block :=
  ctxWrite q (bits d 31 30) (bits d 29 29 == 1) (bits d 13 10) (bits d 9 0) b

/-- REGISTER (R410). -/
def execCtxRegister (a : Acc) (ctx : BitVec 10) (part : BitVec 4) (s : State) : Host.Outcome State Fault Refusal :=
  .next (s.command a .ctxCmd fun q b => ctxWrite q 1 false part.toNat ctx.toNat b)

/-- RELEASE (R411). -/
def execCtxRelease (a : Acc) (ctx : BitVec 10) (s : State) : Host.Outcome State Fault Refusal :=
  .next (s.command a .ctxCmd fun q b => ctxWrite q 2 false 0 ctx.toNat b)

/-- RESET (R412). -/
def execCtxReset (a : Acc) (ctx : BitVec 10) (s : State) : Host.Outcome State Fault Refusal :=
  .next (s.command a .ctxCmd fun q b => ctxWrite q 3 false 0 ctx.toNat b)

/-- ACK (R531). -/
def execCtxAck (a : Acc) (ctx : BitVec 10) (s : State) : Host.Outcome State Fault Refusal :=
  .next (s.command a .ctxCmd fun q b => ctxWrite q 0 true 0 ctx.toNat b)

/-- CTX_CMD_INVALID (R531): a CLS_PART_CTX_CMD write, which sets REJ where the command is refused. -/
def execCtxCmdInvalid (a : Acc) (data : BitVec 32) (s : State) : Host.Outcome State Fault Refusal :=
  .next (s.command a .ctxCmd fun q b => ctxCmdWrite q data.toNat b)

/-- R410, R411: what a CONTEXT_REG node does. -/
def contextRegOp (q : Params) (m : MemView) (a : Nat) (b : Block) : Status × Block :=
  let w := recW m a 3
  let c := bits w 9 0
  let p := bits w 15 12
  if bits w 16 16 = 1 then
    if b.registerOk c p (recW m a 4) then (Status.ok, (b.registerCtx c p (recW m a 4)).ctxRejected false)
    else (Status.mismatch, b)
  else if b.releaseOk c then (Status.ok, (b.releaseCtx q c).ctxRejected false)
  else (Status.mismatch, b)

/-- CONTEXT_REG (R410). -/
def execContextReg (seg index : Nat) (m : MemView) (s : State) : Host.Outcome State Fault Refusal :=
  .next { s with blk := s.blk.privAct s.params m seg index 3 (contextRegOp s.params m) }

/-! ## Beads -/

/-- STATE of CLS_PART_BEAD. -/
def BState.code : BState → Nat
  | .enabled => 0
  | .stopping => 1
  | .forcing => 2
  | .disabled => 3
  | .fenced => 4

/-- A live node stands placed on Bead `n`. (DEDUCED, log 109) -/
def Block.beadHolds (b : Block) (n : Nat) : Bool :=
  (b.graph.subs.any fun t => t.2.nodes.any fun x => x.2.used && x.2.bead == some n)
    || (tget [] b.graph.cwin n).any fun t => t.2.piece.isSome

/-- R530: the dispatch of the node at `w` is presented on a slot that holds a task, whose reset will withdraw it. -/
def Bead.withdraws (d : Bead) (w : Nat) : Bool :=
  d.slots.any fun t => !t.2.held.isEmpty && match t.2.presented with | some x => x.win == w | none => false

/-- The live nodes of a submission that are placed on Bead `n` and have not issued, as R436 and R530 count them. -/
def Block.unissued (b : Block) (n seg : Nat) : List Nat :=
  ((b.sub seg).nodes.filter fun t => t.2.used && t.2.bead == some n &&
    (t.2.state != .forwarded || (b.win n t.2.win).gen != t.2.gen ||
      (b.win n t.2.win).state == .window || (b.win n t.2.win).state == .wready
      || ((b.win n t.2.win).state == .issued && (b.bead n).withdraws t.2.win))).map (·.1)

/-- R436, R233: a piece of a switch that stands in the window of Bead `n` gets the FENCE record that releases it if it has
not issued. -/
def Block.abortPiece (q : Params) (n : Nat) (b : Block) (t : Nat × CWin) : Block :=
  if t.2.piece.isSome then b.sendDown q n (fenceRec q n t.1 t.2.gen Status.aborted) else b

/-- R436, R232: FORCE of a Bead. The nodes that have not issued are released with ABORTED through the
abandonment of their submissions; FAIL_INDEX is drawn where several stand on the Bead (DESIGN CHOICE, log 14). -/
def Block.forceBead (q : Params) (b : Block) (n : Nat) : Block :=
  let slots := (b.bead n).busySlots
  let b := b.modPbead n fun x => { x with state := .forcing, resets := slots }
  let b := slots.foldl (fun b i => b.askReset n i none) b
  let b := (tget [] b.graph.cwin n).foldl (Block.abortPiece q n) b
  (b.graph.subs.map (·.1)).foldl (fun b seg =>
    match b.unissued n seg with
    | [] => b
    | [i] => b.abandon q seg Status.aborted (some i)
    | _ => b.abandon q seg Status.aborted none) b

/-- R436: a write of CLS_PART_BEAD. -/
def beadWrite (q : Params) (n op : Nat) (b : Block) : Block :=
  let s := (b.pbead n).state
  let b' := b.modPbead n fun x => { x with rej := false }
  if !decide (n < q.nBeads) then b.modPbead n fun x => { x with rej := true }
  else if op = 1 && s == .disabled then b'.modPbead n fun x => { x with state := .enabled }
  else if op = 2 && s == .enabled then b'.modPbead n fun x => { x with state := .stopping }
  else if op = 3 && (s == .enabled || s == .stopping) then b'.forceBead q n
  else b.modPbead n fun x => { x with rej := true }

/-- BEAD_ENABLE (R436). -/
def execBeadEnable (a : Acc) (bead : Nat) (s : State) : Host.Outcome State Fault Refusal :=
  .next (s.command a (.partBead bead) fun q b => beadWrite q bead 1 b)

/-- BEAD_DISABLE (R436). -/
def execBeadDisable (a : Acc) (bead : Nat) (s : State) : Host.Outcome State Fault Refusal :=
  .next (s.command a (.partBead bead) fun q b => beadWrite q bead 2 b)

/-- BEAD_FORCE (R436). -/
def execBeadForce (a : Acc) (bead : Nat) (s : State) : Host.Outcome State Fault Refusal :=
  .next (s.command a (.partBead bead) fun q b => beadWrite q bead 3 b)

/-- BEAD_CMD_INVALID (R436): a CLS_PART_BEAD write, which sets REJ where the command is not accepted. -/
def execBeadCmdInvalid (a : Acc) (bead : Nat) (op : BitVec 3) (s : State) : Host.Outcome State Fault Refusal :=
  .next (s.command a (.partBead bead) fun q b => beadWrite q bead op.toNat b)

/-- R436: a Bead that holds no live node becomes DISABLED. -/
def beadDisabled (n : Nat) (b : Block) : Block :=
  let x := b.pbead n
  if (x.state == .stopping || (x.state == .forcing && x.resets.isEmpty)) && !b.beadHolds n then
    b.modPbead n fun y => { y with state := .disabled }
  else b

/-- BEAD_DISABLED (R436). -/
def execBeadDisabled (bead : Nat) (s : State) : Host.Outcome State Fault Refusal :=
  .next { s with blk := beadDisabled bead s.blk }

end Sys2Proof.Machine
end

