-- ==== Sys2Proof/Machine/Events.lean ====
section
/-! DEFINITION. The Event Controller's commands (R438 to R454), and the writes of the audit region
(R468). -/

namespace Sys2Proof.Machine

/-! ## Raising -/

/-- R438: the numbers that a unit of the block raises. -/
def internalSource (s : Nat) : Bool :=
  (1 ≤ s && s ≤ 15) || (64 ≤ s && s < 88) || (128 ≤ s && s < 320 && s % 4 < 2) || (512 ≤ s && s < 976)

/-- R439: a unit raises a source. -/
def eventRaise (s : Nat) (b : Block) : Block := if internalSource s then b.raise s else b

/-- EVENT_RAISE (R439). -/
def execEventRaise (src : BitVec 11) (s : State) : Host.Outcome State Fault Refusal :=
  .next { s with blk := eventRaise src.toNat s.blk }

/-- R438, R439: the source of ev_ext[n] is raised while its level is high. -/
def externalLevel (p : Params) (n : Nat) (b : Block) : Block :=
  if n < p.extEvents then b.raise (2048 - p.extEvents + n) else b

/-- EXTERNAL_EVENT_LEVEL (R439). -/
def execExternalEventLevel (n : Nat) (s : State) : Host.Outcome State Fault Refusal :=
  .next (s.input (externalLevel s.params n))

/-! ## Claim and complete -/

/-- R444: a claim of a source of group `g` starts, restarts or ends the group's hold-off. -/
def Block.startHoldoff (b : Block) (g : Nat) : Block :=
  b.modEvGroup g fun x =>
    { x with ends := if x.holdoffNs = 0 then none else some (b.now + x.holdoffNs.toNat) }

/-- R442: claim. -/
def Block.claim (b : Block) (t : Nat) : Nat × Block :=
  let s := b.winner t
  if s = 0 then (0, b)
  else
    let c := b.evSrc s
    let e := b.evc
    let b := { b with evc := { e with
      pend := clearBit e.pend s
      active := setBit e.active s
      mask := if c.automask then setBit e.mask s else e.mask } }
    let b := b.modEvSrc s fun x => { x with owner := t, aprio := c.prio.toNat }
    let b := b.startHoldoff c.group.toNat
    (s, b.modEvTarget t fun x => { x with armed := true })

/-- R442: complete. -/
def complete (t s : Nat) (b : Block) : Block :=
  if 2047 < s ∨ !b.evc.isActive s ∨ (b.evSrc s).owner ≠ t then b.modEvTarget t fun x => { x with cerr := true }
  else
    let b := { b with evc := { b.evc with active := clearBit b.evc.active s } }
    let b := b.modEvSrc s fun x => { x with owner := 0, aprio := 0 }
    b.modEvTarget t fun x => { x with armed := true }

/-- EVC_TGT_CLAIM (R442). -/
def execEvcTgtClaim (a : Acc) (target : Nat) (s : State) : Host.Outcome State Fault Refusal :=
  .next (s.access a (.tgtClaim target) false fun s =>
    let r := s.blk.claim target
    ({ s with blk := r.2 }, BitVec.ofNat 64 r.1))

/-- EVC_TGT_COMPLETE (R442): bits 31:11 are reserved. -/
def execEvcTgtComplete (a : Acc) (target : Nat) (data : BitVec 32) (s : State) :
    Host.Outcome State Fault Refusal :=
  .next (s.command a (.tgtComplete target) fun _ b => complete target (data.toNat % 2048) b)

/-! ## Software writes -/

/-- EVC_STATUS.REJ is set. -/
def Block.rejEvc (b : Block) : Block := { b with evc := { b.evc with rej := true } }

/-- A write of EVC_SWI. -/
def swiWrite (d : Nat) (b : Block) : Block := if d % 2048 = 0 then b.rejEvc else b.raise (d % 2048)

/-- EVC_SWI (R451). -/
def execEvcSwi (a : Acc) (data : BitVec 32) (s : State) : Host.Outcome State Fault Refusal :=
  .next (s.command a .evcSwi fun _ b => swiWrite data.toNat b)

/-- A write of EVC_PCLR. -/
def pclrWrite (d : Nat) (b : Block) : Block :=
  if d % 2048 = 0 then b.rejEvc
  else { b with evc := { b.evc with pend := clearBit b.evc.pend (d % 2048) } }

/-- EVC_PCLR (R451). -/
def execEvcPclr (a : Acc) (data : BitVec 32) (s : State) : Host.Outcome State Fault Refusal :=
  .next (s.command a .evcPclr fun _ b => pclrWrite data.toNat b)

/-- EVC_SYNC (R449): the read returns 0; a command has taken full effect before the next (DEDUCED, log 44). -/
def execEvcSync (a : Acc) (s : State) : Host.Outcome State Fault Refusal :=
  .next (s.access a .evcSync false fun s => (s, 0))

/-- R451: a write of word `w` of EVC_PEND. Source 0 never becomes pending (R438). (DEDUCED, log 118) -/
def pendWrite (w : Nat) (d : Word) (b : Block) : Block :=
  { b with evc := { b.evc with pend := clearBit (setSrcWord b.evc.pend w d) 0 } }

/-- EVC_PEND_WRITE (R451). -/
def execEvcPendWrite (a : Acc) (w : BitVec 5) (data : Word) (s : State) : Host.Outcome State Fault Refusal :=
  .next (s.command a (.evcPend w.toNat) fun _ b => pendWrite w.toNat data b)

/-- R451: a write of word `w` of EVC_MASK. -/
def maskWrite (w : Nat) (d : Word) (b : Block) : Block :=
  { b with evc := { b.evc with mask := setSrcWord b.evc.mask w d } }

/-- EVC_MASK_WRITE (R451). -/
def execEvcMaskWrite (a : Acc) (w : BitVec 5) (data : Word) (s : State) : Host.Outcome State Fault Refusal :=
  .next (s.command a (.evcMask w.toNat) fun _ b => maskWrite w.toNat data b)

/-- R9, R441, R453: a write of EVC_SRC_CFG; AUTOMASK alone is no field of the Setting. -/
def srcCfgWrite (p : Params) (s : Nat) (d : Nat) (b : Block) : Block :=
  if s = 0 ∨ (bits d 4 0 ≠ 0 ∧ p.evTargets ≤ bits d 13 8) then b.rejEvc
  else if !b.loader.inForce then b.modEvSrc s fun x => { x with automask := bits d 24 24 == 1 }
  else b.modEvSrc s fun x =>
    { x with
      automask := bits d 24 24 == 1, group := BitVec.ofNat 7 (bits d 20 14)
      target := BitVec.ofNat 6 (bits d 13 8), prio := BitVec.ofNat 5 (bits d 4 0) }

/-- EVC_SRC_CFG_WRITE (R453). -/
def execEvcSrcCfgWrite (a : Acc) (src : BitVec 11) (data : BitVec 32) (s : State) :
    Host.Outcome State Fault Refusal :=
  .next (s.command a (.evcSrcCfg src.toNat) fun p b => srcCfgWrite p src.toNat data.toNat b)

/-! ## Time and delivery -/

/-- R444: the group's hold-off has run out. -/
def holdoffExpiry (g : Nat) (b : Block) : Block :=
  match (b.evGroup g).ends with
  | some t => if t ≤ b.now then b.modEvGroup g fun x => { x with ends := none } else b
  | none => b

/-- HOLDOFF_EXPIRY (R444). -/
def execHoldoffExpiry (group : BitVec 7) (s : State) : Host.Outcome State Fault Refusal :=
  .next { s with blk := holdoffExpiry group.toNat s.blk }

/-- R49: a write that the event of a source reports waits for its acknowledge: the HEAD write of a queue that has
entered HALTED or DISABLED. -/
def Block.reportDue (b : Block) (src : Nat) : Bool :=
  b.mp.writesFor fun w => match w with
    | .headOf q => (src == 768 + q / 64 && (b.queue q).state == .halted) || (src == 832 + q / 64 && (b.queue q).state == .disabled)
    | _ => false

/-- R446, R46, R49: the message write of an armed message target is presented once a write identity is free and what the
event reports is acknowledged. -/
def messageWrite (t : Nat) (b : Block) : Block :=
  let x := b.evTarget t
  if x.msg && x.armed && b.winner t != 0 && !b.reportDue (b.winner t) && (b.mp.freeWrite 63).isSome then
    (b.put 63 2 x.msgAddr.toNat (leBytes 4 x.msgData.toNat) (.message t)).modEvTarget t fun x =>
      { x with armed := false }
  else b

/-- MESSAGE_WRITE (R446). -/
def execMessageWrite (target : Nat) (s : State) : Host.Outcome State Fault Refusal :=
  .next { s with blk := messageWrite target s.blk }

/-- R446: an error response to a message write of target `t`. -/
def Block.messageError (t : Nat) (b : Block) : Block := b.modEvTarget t fun x => { x with rearm := x.rearm + 1 }

/-- R446: the target is armed again, once for each error response. -/
def rearmTimer (t : Nat) (b : Block) : Block :=
  if (b.evTarget t).rearm = 0 then b else b.modEvTarget t fun x => { x with armed := true, rearm := x.rearm - 1 }

/-- REARM_TIMER (R446). -/
def execRearmTimer (target : Nat) (s : State) : Host.Outcome State Fault Refusal :=
  .next { s with blk := rearmTimer target s.blk }

/-! ## The Setting's EVENTS section -/

/-- R104, R454: the registers take the values of the active Setting's EVENTS section, or the defaults
where it is absent. -/
def Block.loadEvents (b : Block) (v : Option EventsSec) : Block :=
  let e := b.evc
  let src (i : Nat) : EvSrcEntry :=
    match v with | some v => (v.srcs[i]?).getD ⟨0, 0, 0⟩ | none => ⟨0, 0, 0⟩
  let tgt (i : Nat) : EvTgtEntry :=
    match v with | some v => (v.tgts[i]?).getD ⟨0, false, 0, 0⟩ | none => ⟨0, false, 0, 0⟩
  let srcs := (List.range 2048).foldl (fun t i => tmod {} t i fun (x : EvSrc) =>
    { x with
      group := BitVec.ofNat 7 (src i).group, target := BitVec.ofNat 6 (src i).target
      prio := BitVec.ofNat 5 (src i).prio }) e.srcs
  let groups := (List.range 128).foldl (fun t i => tmod {} t i fun (x : EvGroup) =>
    { x with holdoffNs := BitVec.ofNat 32 (match v with | some v => (v.groups[i]?).getD 0 | none => 0) }) e.groups
  let targets := (List.range 64).foldl (fun t i => tmod {} t i fun (x : EvTarget) =>
    { x with
      msg := (tgt i).msg, thresh := BitVec.ofNat 5 (tgt i).thresh
      msgAddr := BitVec.ofNat 64 (tgt i).addr, msgData := (tgt i).data }) e.targets
  { b with evc := { e with srcs := srcs, groups := groups, targets := targets } }

/-! ## The audit region -/

/-- R468: an audited submission is in flight: placed, waiting to be placed, or held for delivery. -/
def Block.auditInFlight (b : Block) : Bool :=
  decide (b.auditUsed ≠ 0) || (b.front.queues.any fun t => t.2.waiting.any fun f =>
      f.code == Status.ok && descShown f.desc && descAudit f.desc)
    || b.cqs.any fun t => t.2.held.any fun y => y.audit

/-- R468: a write of CLS_AUD_BASE or CLS_AUD_SIZE. -/
def audRegionWrite (size : Bool) (d : Word) (b : Block) : Block :=
  if b.auditInFlight then b
  else if size then { b with audit := { b.audit with size := BitVec.ofNat 32 (fld d 15 0) } }
  else { b with audit := { b.audit with base := BitVec.ofNat 64 (fld d 55 21 * 2097152) } }

/-- AUD_REGION_WRITE (R468). -/
def execAudRegionWrite (a : Acc) (size : Bool) (data : Word) (s : State) : Host.Outcome State Fault Refusal :=
  .next (s.command a (if size then .audSize else .audBase) fun _ b => audRegionWrite size data b)

end Sys2Proof.Machine
end

