-- ==== Sys2Proof/Machine/Trace.lean ====
section
/-! DEFINITION. The trace writer (R469 to R477): positions, records, the trigger, and its commands. -/

namespace Sys2Proof.Machine

/-! ## Writing records -/

/-- A position of the ring, brought into 0 to 2 × NU − 1 (R469). -/
def Trace.wrap (t : Trace) (p : Nat) : Nat := if t.nu = 0 then 0 else p % (2 * t.nu)

/-- The writer's position: behind every record written. (DEDUCED, log 111) -/
def Trace.pos (t : Trace) : Nat := t.wrap (t.tail + (t.unacked.map (·.units)).sum)

/-- Units between two positions. -/
def Trace.between (t : Trace) (a h : Nat) : Nat := subMod (2 * t.nu) a h

/-- R470: the limit: NU from the trigger onward, a STOP behind it included. -/
def Trace.limit (t : Trace) : Nat := if t.fired then t.nu else t.nu - t.post

/-- R358: the pad that a record of `u` units needs. -/
def Trace.pad (t : Trace) (u : Nat) : Nat :=
  let k := t.nu - t.pos % t.nu
  if k < u then k else 0

/-- R470: a record of `u` units fits. -/
def Trace.fits (t : Trace) (u : Nat) : Bool :=
  t.nu != 0 && decide (t.between t.pos t.head + u + t.pad u ≤ t.limit)

/-- The units of a record (R471). -/
def recUnits (ws : List Word) : Nat := fld ((ws[0]?).getD 0) 57 56 + 1

/-- R469, R473: units at the writer's position are written. -/
def Block.traceUnits (b : Block) (ws : List Word) (units : Nat) (trig : Bool) : Block :=
  let t := b.trace
  let bytes := wordsBytes (ws ++ List.replicate (2 * units - ws.length) 0)
  let addr := t.addr + 16 * (t.pos % t.nu)
  let n := (splitWrite (bytes.length + 1) addr bytes).length
  let b := b.put 63 3 addr bytes (.traceRec t.pos)
  { b with trace := { b.trace with
      unacked := b.trace.unacked ++ [{ pos := t.pos, units := units, left := n, trig := trig }] } }

/-- R358, R477: a record that fits is written, behind the pad that it needs. -/
def Block.traceFit (b : Block) (ws : List Word) (trig : Bool) : Block :=
  let u := recUnits ws
  let k := b.trace.pad u
  let b := if k = 0 then b else b.traceUnits [packW [(k - 1, 2, 56)]] k false
  b.traceUnits ws u trig

/-- R476: a record is lost: TRC_LOST, the pending LOSS record, source 11. That raising is no event of
class ERROR: in the spec's worked example it triggers nothing (DEDUCED, log 7). -/
def Block.traceLost (b : Block) : Block := Block.pendSource { b with trace := b.trace.lose b.now } 11

/-- R471: the LOSS record. -/
def Loss.words (l : Loss) : List Word :=
  [traceWord0 1 2 0xFF l.count, BitVec.ofNat 64 l.first, BitVec.ofNat 64 l.last]

/-- R476: a pending LOSS record is written as soon as it fits. -/
def Block.traceLoss (b : Block) : Block :=
  match b.trace.loss with
  | none => b
  | some l =>
      if b.trace.fits 2 then
        let b := b.traceFit l.words false
        { b with trace := { b.trace with loss := none } }
      else b

/-- R470, R476: a record is written behind the LOSS record that is pending, or is lost. The outcome says
which. -/
def Block.traceRecord (b : Block) (ws : List Word) (trig : Bool) : Bool × Block :=
  let b := b.traceLoss
  if b.trace.loss.isNone && b.trace.fits (recUnits ws) then (true, b.traceFit ws trig) else (false, b.traceLost.traceLoss)

/-- R471: the TRIGGER record. -/
def triggerWords (cause cls : Nat) (time : Word) : List Word :=
  [traceWord0 2 1 0xFF (pack [(cause, 8, 0), (cls, 8, 8)]), time]

/-- R475, R49: the TRIGGER record is written once every record before it is acknowledged, a pending LOSS record that
fits among them. When it is lost, TRIG_POS holds the position at which it would have stood. -/
def Block.traceTrigger (b : Block) : Block :=
  match b.trace.trigDue with
  | none => b
  | some (cause, cls, time) =>
      let b := b.traceLoss
      if !b.trace.unacked.isEmpty then b
      else
        let b := { b with trace := { b.trace with trigDue := none, trigPos := b.trace.pos } }
        let r := b.traceRecord (triggerWords cause cls time) true
        if r.1 then r.2 else r.2.raise 10

/-- R474, R475: the writer is triggered; the pending LOSS record and the triggering event's record, where
there is one, precede the TRIGGER record. -/
def Block.traceFire (b : Block) (cause cls : Nat) (ws : Option (List Word)) : Block :=
  let b := { b with trace := { b.trace with state := .triggered, fired := true } }
  let b := match ws with
    | some ws => (b.traceRecord ws false).2
    | none => b.traceLoss
  let time := match ws with
    | some ws => (ws[1]?).getD 0
    | none => BitVec.ofNat 64 b.now
  Block.traceTrigger { b with trace := { b.trace with trigDue := some (cause, cls, time) } }

/-- R472, R474, R476: the writer takes the oldest event of its queue, behind a pending LOSS record. While a TRIGGER record
waits, it takes none: records reach the ring in queue order. -/
def traceEvent (b : Block) : Block :=
  if b.trace.trigDue.isSome then b.traceTrigger
  else match b.trace.queue with
  | [] => b.traceLoss
  | e :: r =>
      let b := { b with trace := { b.trace with queue := r } }
      if b.trace.state == .armed && bit b.trace.trig e.cls then b.traceFire 1 e.cls (some e.words)
      else (b.traceRecord e.words false).2

/-- TRACE_EVENT (R472). -/
def execTraceEvent (s : State) : Host.Outcome State Fault Refusal :=
  .next { s with blk := traceEvent s.blk }

/-- R473: TAIL advances over records whose writes are all acknowledged. -/
def Trace.advance : Nat → Trace → Trace
  | 0, t => t
  | k + 1, t =>
      match t.unacked with
      | x :: r => if x.left = 0 then Trace.advance k { t with tail := t.wrap (t.tail + x.units), unacked := r } else t
      | [] => t

/-- R473, R475: a write of the record at `pos` is acknowledged; source 10 with the TRIGGER record's
last. -/
def Block.traceAck (b : Block) (pos : Nat) : Block :=
  let t := b.trace
  let done := t.unacked.any fun x => x.pos == pos && x.left == 1 && x.trig
  let us := t.unacked.map fun x => if x.pos = pos then { x with left := x.left - 1 } else x
  let b := { b with trace := Trace.advance us.length { t with unacked := us } }
  (if done then b.raise 10 else b).traceTrigger

/-! ## Commands -/

/-- TRC_STATUS.REJ is set. -/
def Block.rejTrace (b : Block) : Block := { b with trace := { b.trace with rej := true } }

/-- R474: a trace command is accepted. -/
def Trace.accepts (t : Trace) (op : Nat) : Bool :=
  match op with
  | 1 => t.state == .stopped
  | 2 => t.state == .armed || t.state == .triggered
  | 3 => t.state == .armed
  | _ => false

/-- R474, R475: START, STOP and TRIGGER. (DEDUCED, log 110) -/
def Block.traceCommand (b : Block) (op : Nat) : Block :=
  match op with
  | 1 => { b with trace := { b.trace with state := .armed, trigPos := 0, fired := false } }
  | 2 => { b with trace := { b.trace with state := .stopped } }
  | _ => b.traceFire 0 0 none

/-- R474, R476: a write of TRC_CMD. -/
def traceWrite (op : Nat) (b : Block) : Block :=
  if op = 5 then { b with trace := { b.trace with lost := 0 } }
  else if b.trace.accepts op then b.traceCommand op
  else b.rejTrace

/-- START (R474). -/
def execTraceStart (a : Acc) (s : State) : Host.Outcome State Fault Refusal :=
  .next (s.command a .trcCmd fun _ b => traceWrite 1 b)

/-- STOP (R474). -/
def execTraceStop (a : Acc) (s : State) : Host.Outcome State Fault Refusal :=
  .next (s.command a .trcCmd fun _ b => traceWrite 2 b)

/-- TRIGGER (R475). -/
def execTraceTrigger (a : Acc) (s : State) : Host.Outcome State Fault Refusal :=
  .next (s.command a .trcCmd fun _ b => traceWrite 3 b)

/-- CLR_LOST (R476). -/
def execTraceClrLost (a : Acc) (s : State) : Host.Outcome State Fault Refusal :=
  .next (s.command a .trcCmd fun _ b => traceWrite 5 b)

/-- TRACE_CMD_INVALID (R474): a TRC_CMD write, which sets REJ when its OP is none of the four. -/
def execTraceCmdInvalid (a : Acc) (op : BitVec 3) (s : State) : Host.Outcome State Fault Refusal :=
  .next (s.command a .trcCmd fun _ b => traceWrite op.toNat b)

/-- R200, R474: what a TRACE_CTL node does: START, STOP, TRIGGER or MASK. A command that is not accepted
sets REJ as well (DEDUCED, log 45). -/
def traceCtlOp (m : MemView) (a : Nat) (b : Block) : Status × Block :=
  let op := bits (recW m a 3) 7 0
  if op = 4 then (Status.ok, { b with trace := { b.trace with mask := BitVec.ofNat 64 (recW m a 4) } })
  else if b.trace.accepts op then (Status.ok, b.traceCommand op)
  else (Status.mismatch, b.rejTrace)

/-- TRACE_CTL (R474). -/
def execTraceCtl (seg index : Nat) (m : MemView) (s : State) : Host.Outcome State Fault Refusal :=
  .next { s with blk := s.blk.privAct s.params m seg index 5 (traceCtlOp m) }

/-- R473, R476: a write of TRC_HEAD; a pending LOSS record that now fits is written. -/
def traceHeadWrite (d : Nat) (b : Block) : Block :=
  let t := b.trace
  if d < 2 * t.nu ∧ t.between t.tail d ≤ t.nu then Block.traceLoss { b with trace := { t with head := d } } else b.rejTrace

/-- TRACE_HEAD_WRITE (R473). -/
def execTraceHeadWrite (a : Acc) (data : BitVec 32) (s : State) : Host.Outcome State Fault Refusal :=
  .next (s.command a .trcHead fun _ b => traceHeadWrite data.toNat b)

/-- R9, R469, R470, R474: a Setting with a TRACE section becomes ACTIVE: TRC_MASK is its EVENT_MASK, and a ring of
at least 1,024 bytes arms the writer. -/
def Block.loadTrace (b : Block) (v : Option TraceSec) : Block :=
  match v with
  | some v =>
      let b := { b with trace := { b.trace with mask := v.mask } }
      if 1024 ≤ v.len then
        let nu := v.len / 16
        { b with trace := { b.trace with
            state := .armed, addr := v.addr, nu := nu, post := nu * v.postShare / 100
            head := 0, tail := 0, unacked := [] } }
      else b
  | none => b

end Sys2Proof.Machine
end

