-- ==== Sys2Proof/Machine/Stop.lean ====
section
/-! DEFINITION. Stops (R487 to R496): EVT records, stop reports, the halt wave, the freeze and its dump,
and RESUME. -/

namespace Sys2Proof.Machine

/-- The trace event of class DEBUG (R471): 1 BREAK, 2 HALT, 3 FROZEN, 4 RESUMED. -/
def Block.traceDebug (b : Block) (kind : Nat) : Block :=
  b.traceEvent 11 1 (pack [(kind, 4, 0), (b.lkt.epoch, 32, 16)]) []

/-! ## Reports -/

/-- R490, R508: a stop report reaches the Clasp. (DEDUCED, log 113) -/
def Block.stopReport (p : Params) (b : Block) (n : Nat) : Block :=
  let x := b.pbead n
  let b := if x.frozen then b.modPbead n fun y => { y with reported := true } else b
  if x.stop = 1 then b.modPbead n fun y => { y with stop := 2 }
  else if x.stop = 0 && !x.frozen then
    match b.partOfBead n with
    | some q => b.breakpointStop p q n
    | none => b.modPbead n fun y => { y with stop := 2 }
  else b

/-- An EVT of Bead `n` with event source `src` reaches the Clasp: a discarded decrement (R234), a stop
report (R487), or a source to raise, which is none that R438 reserves. A record of a Bead that is fenced off is discarded (R516). -/
def evt (p : Params) (n src : Nat) (b : Block) : Block :=
  b.onUp p n (evtRec p n src) fun b =>
    if src = 5 then b.underflow
    else if src = 12 then b.stopReport p n
    else if internalSource src then b.raise src
    else b

/-- EVT (R234). -/
def execEvt (bead : Nat) (src : BitVec 11) (s : State) : Host.Outcome State Fault Refusal :=
  .next { s with blk := evt s.params bead src.toNat s.blk }

/-- STOP_REPORT (R490): an EVT with SRC 12. -/
def execStopReport (bead : Nat) (s : State) : Host.Outcome State Fault Refusal :=
  .next { s with blk := evt s.params bead 12 s.blk }

/-! ## HALT -/

/-- R490: the partitions that the stop adds to PMASK pause. -/
def Block.pausePart (b : Block) (q : Nat) : Block :=
  b.modPart q fun x => { x with paused := some (x.paused.getD b.now) }

/-- R492: HALT. -/
def Block.haltWave (p : Params) (b : Block) (freeze : Bool) : Block :=
  let b := { b with lkt := { b.lkt with
    state := .stopping, kind := 2, epoch := wrapAdd 32 b.lkt.epoch 1, pmask := 0xFFFF#16, freeze := freeze } }
  let b := (List.range 16).foldl Block.pausePart b
  let b := b.claspLocket 0x35 (pack [(b.lkt.epoch, 32, 0)])
  b.setting.activeBeads.foldl (Block.haltBead p) b

/-- LKT_STOP.REJ is set. -/
def Block.rejStop (b : Block) : Block := { b with lkt := { b.lkt with rej := true } }

/-! ## RESUME -/

/-- R491: a Clasp-kind node that its breakpoint holds is passed. -/
def Node.resume (n : Node) : Node :=
  if n.brkHeld then { n with brkHeld := false, brkPassed := true } else n

/-- R496: the quantum of a partition that was stopped goes on. -/
def Block.unpausePart (b : Block) (q : Nat) : Block :=
  match (b.part q).paused with
  | none => b
  | some t =>
      let b := b.modPart q fun x => { x with paused := none, since := x.since + (b.now - max t x.since) }
      { b with lkt := { b.lkt with stops := b.lkt.stops ++ [(q, t, b.now)] } }

/-- R496, step 2, R511: a Bead in STOPPED or HALT_SENT is resumed; one that a supply freeze holds resumes
at its end. -/
def Block.resumeBead (p : Params) (b : Block) (n : Nat) : Block :=
  let x := b.pbead n
  if x.stop = 0 then b
  else
    let b := if x.frozen || x.state == .fenced then b else b.sendDown p n (ctlRec p n 2 0)
    b.modPbead n fun y => { y with stop := 0 }

/-- A submission's nodes pass their breakpoints. -/
def Sub.resume (s : Sub) : Sub := { s with nodes := s.nodes.map fun t => (t.1, t.2.resume) }

/-- R496, steps 2 to 4. Fetch goes on (R160). -/
def Block.resumeRest (p : Params) (b : Block) : Block :=
  let b := (List.range p.nBeads).foldl (Block.resumeBead p) b
  let b := { b with graph := { b.graph with subs := b.graph.subs.map fun t => (t.1, t.2.resume) } }
  let b := (List.range 16).foldl Block.unpausePart b
  let b := { b with lkt := { b.lkt with
    state := .run, kind := 0, pmask := 0, breakV := false, freeze := false, resumeDue := false, resuming := false } }
  let b := (b.claspLocket 0x36 (pack [(b.lkt.epoch, 32, 0)])).traceDebug 4
  ((b.front.hws.map (·.1)).foldl Block.requestMore b).txStart

/-- The lane stands in FREEZE, or turns to it. -/
def Lane.frozen (l : Lane) : Bool := !l.failed && (l.clasp.phase == 2 || l.clasp.turn == some 2)

/-- Once no lane stands in FREEZE, the RESUME in progress goes on. -/
def Block.resumeStep (p : Params) (b : Block) : Block :=
  if b.lkt.resuming && !(b.lanes.any fun t => t.2.frozen) then b.resumeRest p else b

/-- R496, step 1: a lane in FREEZE is to be turned back to RUN. -/
def Lane.unfreeze (l : Lane) : Lane :=
  if l.frozen then { l with want := some 0 } else if l.want = some 2 then { l with want := none } else l

/-- R496. (DEDUCED, log 114) -/
def Block.resume (p : Params) (b : Block) : Block :=
  let b := (b.lanes.map (·.1)).foldl (fun b n => b.modLane n Lane.unfreeze) b
  Block.resumeStep p { b with lkt := { b.lkt with resuming := true, freeze := false, resumeDue := false } }

/-- R492, R496: a write of LKT_CMD. -/
def stopWrite (p : Params) (op : Nat) (freeze : Bool) (b : Block) : Block :=
  match op, b.lkt.state with
  | 1, .run => b.haltWave p freeze
  | 2, .stopping => { b with lkt := { b.lkt with resumeDue := true } }
  | 2, .stopped => b.resume p
  | 2, .frozen => b.resume p
  | _, _ => b.rejStop

/-- HALT (R492). -/
def execHalt (a : Acc) (freeze : Bool) (s : State) : Host.Outcome State Fault Refusal :=
  .next (s.command a .lktCmd fun p b => stopWrite p 1 freeze b)

/-- RESUME (R496). -/
def execResume (a : Acc) (s : State) : Host.Outcome State Fault Refusal :=
  .next (s.command a .lktCmd fun p b => stopWrite p 2 false b)

/-- LKT_CMD_INVALID (R492): an LKT_CMD write, which sets REJ where the command is not accepted. -/
def execLktCmdInvalid (a : Acc) (data : BitVec 32) (s : State) : Host.Outcome State Fault Refusal :=
  .next (s.command a .lktCmd fun p b => stopWrite p (bits data.toNat 1 0) (data.getLsbD 2) b)

/-! ## The end of a stop -/

/-- The active Beads of the stopped scope that can report. -/
def Block.stopBeads (b : Block) : List Nat :=
  b.setting.activeBeads.filter fun n => (b.pbead n).state != .fenced &&
    (b.lkt.kind == 2 || match b.partOfBead n with | some q => b.lkt.pmask.getLsbD q | none => false)

/-- R490: a Clasp-kind node acts: a STEP or PRIV node, or a WAIT whose arrival read is outstanding. A WAIT
or SIGNAL that only waits does not (DEDUCED, log 46). -/
def Node.acts (n : Node) : Bool :=
  n.used && n.state == .acting && (n.kind == 5 || n.kind == 7 || (n.kind == 3 && n.busy))

/-- R490: no Clasp-kind node of the scope acts, and every submission of it that met R227 has been handed
to its completion queue. -/
def Block.stopSubs (b : Block) : Bool :=
  b.graph.subs.all fun t => !t.2.live || !b.lkt.pmask.getLsbD t.2.part ||
    (!(t.2.nodes.any fun n => n.2.acts) && (t.2.complete || !b.quiet t.1))

/-- R490: every completion of the scope is delivered or held under R364, in WAIT or FAULT. -/
def Block.stopHeld (b : Block) : Bool :=
  b.cqs.all fun t => t.2.state == .wait || t.2.state == .fault || t.2.held.all fun y =>
    y.foreign.isSome || !b.lkt.pmask.getLsbD (b.queue y.queue).part

/-- A DEC or FENCE record is on its way to a Bead: to be driven, driven, to be driven again as the Bead end discards, or
not yet acted upon. -/
def Lane.edgesOut (x : Lane) : Bool :=
  !x.failed && (x.clasp.queue ++ x.clasp.wire ++ (if x.bead.discarding then x.clasp.replay else []) ++ x.bead.rx
    ++ x.bead.msg).any fun r => !r.cont && (recType r.bits == 2 || recType r.bits == 3)

/-- R493: at a halt the decrements of the tasks that have completed have been applied, also those that go to Beads, but for
those that a full pager holds (R237). -/
def Block.stopEdges (b : Block) : Bool :=
  b.lkt.kind != 2 || ((b.graph.router.isEmpty || b.graph.full) && !b.lanes.any fun t => t.2.edgesOut)

/-- The stop is complete. -/
def Block.stopDone (b : Block) : Bool :=
  (b.stopBeads.all fun n => (b.pbead n).stop == 2) && b.stopSubs && b.stopHeld && b.stopEdges

/-- The lanes that serve an active Bead. -/
def Block.activeLanes (p : Params) (b : Block) : List Nat :=
  (b.setting.activeBeads.map p.laneOf).eraseDups.filter fun l => !(b.lane l).failed

/-- R490, R495, R496. -/
def stopComplete (p : Params) (b : Block) : Block :=
  if b.lkt.state != .stopping || !b.stopDone then b
  else
    let b := { b with lkt := { b.lkt with state := .stopped } }
    let b := (b.traceDebug b.lkt.kind).raise 12
    if b.lkt.resumeDue then b.resume p
    else if b.lkt.freeze then
      (b.activeLanes p).foldl (fun b l => b.modLane l fun x => { x with want := some 2, snapDone := false }) b
    else b

/-- STOP_COMPLETE (R490). -/
def execStopComplete (s : State) : Host.Outcome State Fault Refusal :=
  .next { s with blk := stopComplete s.params s.blk }

/-! ## The dump -/

/-- R390: CHN_RTAG of a word. -/
def ChnWord.rtag (w : ChnWord) : Word :=
  packW [(b2n w.first, 1, 31), (b2n w.last, 1, 30), (b2n w.bad, 1, 29), (w.mwords, 7, 8), (w.vb, 6, 0)]

/-- CHN_COUNT of a queue; OVERRUN is set for the queue and for the port of the same block (R397). -/
def RxQueue.countWord (q : RxQueue) : Word :=
  packW [(b2n (q.count == 0), 1, 31), (b2n (q.stored == 64), 1, 30), (b2n q.underrun, 1, 29), (b2n q.overrun, 1, 28),
    (b2n q.drain, 1, 27), (q.stored, 7, 16), (q.rp, 7, 8), (q.count, 7, 0)]

/-- R495: the state record of queue and port `k` of Bead `n`. -/
def Block.queueState (b : Block) (n k : Nat) : Word :=
  let q := b.rx n k
  let t := b.tx n k
  packW [(q.rp, 7, 0), (q.wp, 7, 8), (q.vp, 7, 16), (fld q.countWord 31 27, 5, 27), (t.credit, 7, 32),
    (b2n t.opened, 1, 39)]

/-- R95: the raw records of SRC 194 for one queue. -/
def Block.queueSnap (b : Block) (n k : Nat) : List Word :=
  let q := b.rx n k
  let w (i : Nat) : ChnWord := tget {} q.words i
  b.queueState n k :: (List.range 64).map (fun i => (w i).rtag) ++
    (List.range 64).flatMap fun i => (List.range 4).map fun j => ((w i).quarters[j]?).getD 0

/-- R95: the raw records of source `src` of Bead `n`. Entries of a ring or a trace buffer that have not been written stand
behind the written ones, as zeros (DESIGN CHOICE, log 149). -/
def Block.snapOf (p : Params) (b : Block) (n src : Nat) : List Word :=
  if src < 193 then
    let es := (tget {} b.lkt.rings (256 * n + src)).entries
    (es.flatMap fun e => [e.1, e.2]) ++ List.replicate (128 - 2 * es.length) 0
  else if src = 193 then
    let t := (b.bead n).trace
    t.flatten ++ List.replicate (1024 - 4 * t.length) 0
  else (List.range (p.bead n).chnQueues).flatMap (b.queueSnap n)

/-- R95: the sources that Bead `n` has: rings of synthesised slots and receive queues, its own ring, its
trace buffer and its channel state. -/
def snapSources (p : Params) (n : Nat) : List Nat :=
  List.range (p.bead n).slots ++ [64] ++ (List.range (p.bead n).chnQueues).map (65 + ·) ++ [193, 194]

/-- R95: one source as SNAP messages of at most 4,095 raw records. -/
def snapMessages (p : Params) (n src : Nat) : Nat → List Word → List Rec
  | 0, _ => []
  | k + 1, ws =>
      snapRec p n src (ws.take 4095) :: if ws.length ≤ 4095 then [] else snapMessages p n src k (ws.drop 4095)

/-- R95: what the Bead end of lane `l` sends on entering FREEZE. A Bead whose core domain is off has no sources;
the closing SNAP carries the number of the lane's last Bead (DESIGN CHOICE, log 126). -/
def Block.sendSnaps (p : Params) (b : Block) (l : Nat) : Block :=
  let ns := (p.laneBeads l).filter fun n => (b.dom (8 + 2 * n)).state == .on
  let rs := ns.flatMap fun n => (snapSources p n).flatMap fun src =>
    let ws := b.snapOf p n src
    snapMessages p n src (ws.length + 1) ws
  let b := rs.foldl (fun b r => b.modLane l fun x => x.sendUp l b.now r) b
  match (p.laneBeads l).getLast? with
  | some n => b.sendUp p n (snapRec p n 255 [])
  | none => b

/-- R495: the place of raw record `i` of source `src` in a Bead's block of the dump region. -/
def dumpOffset (src i : Nat) : Nat :=
  if src < 193 then src * 0x400 + 8 * i
  else if src = 193 then 0x30400 + 8 * i
  else
    let q := i / 321
    let j := i % 321
    if j ≤ 64 then 0x40000 + q * 0x400 + 8 * j else 0x80000 + q * 0x800 + 8 * (j - 65)

/-- LKT_DUMP_BASE.ADDR. -/
def Debug.dumpAddr (d : Debug) : Nat := fld d.dumpBase 55 20 * 1048576

/-- R495: consecutive raw records, cut into runs that stand at consecutive places; `(first, words)`. -/
def dumpRuns (src : Nat) : Nat → List Word → List (Nat × List Word)
  | _, [] => []
  | i, w :: ws =>
      match dumpRuns src (i + 1) ws with
      | [] => [(i, [w])]
      | (j, r) :: rs =>
          if dumpOffset src i + 8 = dumpOffset src j then (i, w :: r) :: rs else (i, [w]) :: (j, r) :: rs

/-- R495: a SNAP of Bead `n` reaches the Clasp in FREEZE. -/
def snap (p : Params) (n src : Nat) (payload : List Word) (b : Block) : Block :=
  let l := p.laneOf n
  if (b.lane l).clasp.phase ≠ 2 then b
  else b.onLane l true [snapRec p n src payload] fun b =>
    if src = 255 then b.modLane l fun x => { x with snapDone := true }
    else if (b.pbead n).state == .fenced then b
    else
      let x := b.pbead n
      let at' := if x.snapSrc = src then x.snapGot else 0
      let b := (dumpRuns src at' payload).foldl (fun b t =>
        b.put 63 3 (b.lkt.dumpAddr + n * 0x100000 + dumpOffset src t.1) (wordsBytes t.2) .dump) b
      b.modPbead n fun y => { y with snapSrc := src, snapGot := at' + payload.length }

/-- SNAP (R495). -/
def execSnap (bead : Nat) (src : BitVec 8) (payload : List Word) (s : State) : Host.Outcome State Fault Refusal :=
  .next { s with blk := snap s.params bead src.toNat payload s.blk }

/-- R495: the freeze is complete. -/
def freezeComplete (p : Params) (b : Block) : Block :=
  if b.lkt.state == .stopped && b.lkt.freeze
      && ((b.activeLanes p).all fun l => (b.lane l).clasp.phase == 2 && (b.lane l).snapDone)
      && !b.mp.writesFor (· == .dump) then
    (Block.traceDebug { b with lkt := { b.lkt with state := .frozen } } 3).raise 12
  else b

/-- FREEZE_COMPLETE (R495). -/
def execFreezeComplete (s : State) : Host.Outcome State Fault Refusal :=
  .next { s with blk := freezeComplete s.params s.blk }

end Sys2Proof.Machine
end

