-- ==== Sys2Proof/Machine/Loader.lean ====
section
/-! DEFINITION. The Setting loader's own steps (R114 to R118, R122 to R124), what a Bead does with the
sections sent to it (R115, R116, R274, R384, R385), fencing a Bead off (R515, R516), and the failure of a
lane (R100). -/

namespace Sys2Proof.Machine

/-! ## Outcome of a load or patch -/

/-- A load or a patch runs. -/
def Loader.runs (l : Loader) : Bool := l.state == .loading || l.state == .patching

/-- R122, R124: the first failure of the operation that runs is recorded in SET_ERR; CODE and CAUSE are
set when the operation ends (DEDUCED, log 47). -/
def Block.loaderFail (b : Block) (f : LoadFail) : Block :=
  let l := b.loader
  if !l.runs || l.failing.isSome then b
  else { b with loader := { l with
      phase := .failed, failing := some (f.code, f.cause)
      errSection := f.sect, errBead := f.bead, errOffset := f.offset } }

/-- R479: the Locket event of an operation that has ended. -/
def Block.loaderLocket (b : Block) : Block :=
  b.claspLocket 0x31 (pack [(b.loader.code.toNat, 8, 0), (b.loader.cause, 8, 8)])

/-- R438, source 7, and the Locket event of an operation that has ended. -/
def Block.loaderEvent (b : Block) : Block := b.loaderLocket.raise 7

/-! ## Image reads -/

/-- The areas that the loader reads before the sections (R114). -/
def frontAreas (m : MemView) (base len : Nat) : List (Nat × Nat) :=
  let n := bits (m.word (base + 8)).toNat 31 16
  let n := if n ≤ 1024 && 0x40 + 48 * n ≤ len then n else 0
  [(base, 64), (base + 0x40, 48 * n)] ++ if 256 ≤ len then [(base + len - 256, 256)] else []

/-- The areas read in a check whose result is `r`: the front, the accepted sections and the one after
them. -/
def imageAreas (m : MemView) (base len : Nat) (r : LoadCheck) : List (Nat × Nat) :=
  let n := bits (m.word (base + 8)).toNat 31 16
  frontAreas m base len ++
    if r.started then ((tableOf m base n).take (r.accepted.length + 1)).map fun e => (base + e.offset, e.length) else []

/-- R52: the error responses of the image reads; no read follows one that met an error. -/
def Block.imageErrors (m : MemView) : List (Nat × Nat) → Block → Block
  | [], b => b
  | t :: ts, b =>
      if (m.codes t.1 t.2).isEmpty then Block.imageErrors m ts b else b.viewErrors 63 2 m t.1 t.2

/-! ## Sending -/

/-- A section goes to Bead `n`, which answers with one SETR (R116). A Bead that is fenced off gets none
(R516). -/
def Block.sendAwaited (p : Params) (sect off : Nat) (r : SecRec) (b : Block) (n : Nat) : Block :=
  if (b.pbead n).state == .fenced then b
  else
    let b := b.sendSection p n r
    { b with loader := { b.loader with awaited := b.loader.awaited ++ [(n, sect, off)] } }

/-- START goes to Bead `n` before its first section of the operation. -/
def Block.sendStart (p : Params) (b : Block) (n : Nat) : Block :=
  if b.loader.targets.contains n then b
  else
    let b := { b with loader := { b.loader with targets := b.loader.targets ++ [n] } }
    b.sendAwaited p 0xFFFF 0 startRec n

/-- R114, R130: an accepted section is sent to each Bead concerned; BEADS of a full image sends START. -/
def Block.sendAccepted (p : Params) (load : Bool) (next : Setting) (b : Block) (t : (SecRec × Nat) × Nat) : Block :=
  let r := t.1.1
  let b := if load && r.type == 1 then next.activeBeads.foldl (Block.sendStart p) b else b
  (sectionBeads next r).foldl (fun b n => (b.sendStart p n).sendAwaited p t.2 t.1.2 r n) b

/-- What the checks have found is taken: sections are sent, and a failure is recorded. -/
def Block.takeCheck (p : Params) (load : Bool) (len : Nat) (r : LoadCheck) (b : Block) : Block :=
  let b := { b with loader := { b.loader with
    position := r.position, percent := loadPercent r.position len, next := r.next, nextDigest := r.digest
    phase := .sections } }
  let b := r.accepted.zipIdx.foldl (Block.sendAccepted p load r.next) b
  match r.fail with
  | some f => b.loaderFail f
  | none => b

/-! ## The Setting in force -/

/-- The beat periods of the lanes (CLS_FL_CFG). -/
def Block.loadLanes (b : Block) (es : List BeadsEntry) : Block :=
  es.foldl (fun b e => if e.lane = 255 then b else b.modLane e.lane fun l => { l with beatPs := e.beatPs }) b

/-- The lanes of the active Beads of the Setting in force. -/
def Block.runLanes (p : Params) (b : Block) : List Nat := (b.setting.activeBeads.map p.laneOf).eraseDups

/-- R114: the Clasp-held sections are applied, the digest is written, and the lanes of active Beads are to
be turned to RUN. -/
def Block.applyLoad (p : Params) (b : Block) : Block :=
  let v := b.loader.next
  let b := { b with setting := v }
  let b := b.loadLanes v.beads
  let b := { b with loader := { b.loader with digest := b.loader.nextDigest, phase := .turning } }
  (b.runLanes p).foldl (fun b l => b.modLane l fun x => if x.failed then x else { x with want := some 0 }) b

/-- R114: the next stage of a load or a patch, once no SETR is awaited. The end of a patch is
PATCH_COMMIT. Where no Bead is sent a COMMIT, none has been sent (R125). -/
def Block.loaderStep (p : Params) (b : Block) : Block :=
  if !b.loader.awaited.isEmpty then b
  else
    let b :=
      if b.loader.phase = .sections then
        let b := { b with loader := { b.loader with phase := .commits } }
        let b := b.loader.targets.foldl (Block.sendAwaited p 0xFFFF 0 commitRec) b
        { b with loader := { b.loader with committed := !b.loader.awaited.isEmpty } }
      else b
    if b.loader.phase = .commits && b.loader.state == .loading && b.loader.awaited.isEmpty then b.applyLoad p
    else b

/-! ## Sections at a Bead -/

/-- Word `k` of a section. -/
def SecRec.word (r : SecRec) (k : Nat) : Nat := leNat ((r.bytes.drop (8 * k)).take 8)

/-- R274: a bucket of a REGULATOR entry starts full. -/
def bucketOf (e : RegEntry) : Bucket :=
  { counter := e.counter, rate := e.rate, burst := e.burst, level := (e.burst * 1024000 : Nat) }

/-- R384, R385: the receive queues and transmit ports of Bead `n` under the routes `rs`: empty, with
CREDIT 64 at each port of a route. -/
def freshChan (n : Nat) (rs : List Route) : Chan :=
  { rx := rs.foldl (fun t r => if r.dstBead = n then tset {} t r.queue
      { routeV := true, sbead := r.srcBead, sport := r.port, thresh := r.thresh } else t) []
    tx := rs.foldl (fun t r => if r.srcBead = n then tset {} t r.port
      { routeV := true, dbead := r.dstBead, dqueue := r.queue, credit := 64 } else t) [] }

/-- One section of a Bead takes effect. -/
def Block.applySection (p : Params) (n : Nat) (b : Block) (r : SecRec) : Block :=
  match r.type with
  | 3 => ((slotmapOf r.word (p.bead n).slots).zipIdx).foldl (fun b t => b.modSlot n t.2 fun s => { s with cfg := t.1 }) b
  | 5 => b.modBead n fun d => { d with buckets := (regsOf r.word r.bytes.length).map bucketOf }
  | 6 => { b with chans := tset {} b.chans n (freshChan n (channelsOf r.word).routes) }
  | 9 => b.modBead n fun d => { d with det := bits (r.word 0) 0 0 == 1, noDlb := bits (r.word 0) 1 1 == 1 }
  | _ => b

/-- The sections that a COMMIT has named take effect at Bead `n`. -/
def Block.applyReady (p : Params) (b : Block) (n : Nat) : Block :=
  let rs := (b.bead n).ready
  let b := b.modBead n fun d => { d with ready := [], sections := rs.foldl takeRaw d.sections }
  rs.foldl (Block.applySection p n) b

/-- R115: COMMIT makes the staged sections of Bead `n` active; those of a patch take effect with the last COMMIT
(R130). -/
def Block.commitBead (p : Params) (b : Block) (n : Nat) : Block :=
  let wait := b.loader.state == .patching && tget 0 b.loader.returns n == 0
  let b := b.modBead n fun d => { d with staged := [], ready := d.staged }
  if wait then b else b.applyReady p n

/-- What cold reset leaves of a Bead's Setting. -/
def Block.forgetBead (p : Params) (b : Block) (n : Nat) : Block :=
  let b := (List.range (p.bead n).slots).foldl (fun b i => b.modSlot n i fun s => { s with cfg := {} }) b
  let b := b.modBead n fun d => { d with ready := [], sections := [], buckets := [], det := false, noDlb := false }
  { b with chans := tset {} b.chans n {} }

/-! ## Fencing off -/

/-- A window entry of Bead `n` holds a node that has issued, as the Bead knows it. -/
def WinEntry.hasIssued (e : WinEntry) : Bool := e.state == .issued || (e.state == .leaving && !e.released)

/-- R516, stage 3: one submission: its nodes placed on Bead `n` end with ABORTED, which abandons it, and
R227 needs no RET from `n`. FAIL_INDEX is drawn where several stand on the Bead (DESIGN CHOICE, log 14). -/
def Block.fenceSub (p : Params) (n : Nat) (b : Block) (seg : Nat) : Block :=
  let here (s : Sub) : Tab Node := s.nodes.filter fun t => t.2.used && t.2.bead == some n
  let b := match here (b.sub seg) with
    | [] => b
    | [t] => b.abandon p seg Status.aborted (some t.1)
    | _ => b.abandon p seg Status.aborted none
  let b := (here (b.sub seg)).foldl (fun b t =>
    (b.releaseWin n t.2.win t.2.wedges).nodeDone seg t.1 Status.aborted (!(b.win n t.2.win).hasIssued)) b
  b.modSub seg fun s => { s with beads := s.beads.filter (· != n) }

/-- R516: a piece in the window of Bead `n` ends with ABORTED. -/
def Block.fencePiece (n : Nat) (b : Block) (t : Nat × CWin) : Block :=
  match t.2.piece with
  | some (q, k) => (b.modCwin n t.1 fun c => { c with piece := none }).pieceDone q k Status.aborted
  | none => b

/-- R168, R434: no reset of a slot of a fenced Bead is awaited: its records come no more. -/
def Block.forgetResets (b : Block) (n : Nat) : Block :=
  let gone (l : List (Nat × Nat)) : List (Nat × Nat) := l.filter fun t => t.1 != n
  let b := (b.front.queues.map (·.1)).foldl (fun b q => b.modQueue q fun x => { x with resets := gone x.resets }) b
  (b.parts.parts.map (·.1)).foldl (fun b q => b.modPart q fun x => { x with resets := gone x.resets }) b

/-- R515, R516: Bead `n` is fenced off with CAUSE `cause`. (DEDUCED, log 84) -/
def Block.fenceBead (p : Params) (b : Block) (n cause : Nat) : Block :=
  if (b.pbead n).fence ≠ 0 then b
  else
    let b := if (b.dom (8 + 2 * n)).state = DState.on then b.sendDown p n (ctlRec p n 4 0) else b
    let b := b.modPbead n fun x =>
      { x with state := .fenced, fence := 2, cause := cause, resets := [], frozen := false, reported := false }
    let b := b.modDom (8 + 2 * n) fun d =>
      if d.state == .goingOn && d.up then { d with state := .on, up := false, waiting := false } else d
    let b := (b.graph.subs.map (·.1)).foldl (Block.fenceSub p n) b
    let b := (tget [] b.graph.cwin n).foldl (Block.fencePiece n) b
    let b := b.forgetResets n
    let b := Block.noteMet { b with graph := { b.graph with ctrDue := tset (0, 0) b.graph.ctrDue n (0, 0) } }
    let b := (List.range 16).foldl (fun b q => b.sendPieces p q) b
    let b := { b with loader := { b.loader with
      awaited := b.loader.awaited.filter (·.1 != n), returns := tset 0 b.loader.returns n 0 } }
    b.loaderStep p

/-! ## Lane failure -/

/-- An active Bead of the operation that runs stands on lane `l`. -/
def Block.loadUses (p : Params) (b : Block) (l : Nat) : Bool :=
  let v := if b.loader.state == .patching || b.loader.phase == .turning then b.setting else b.loader.next
  v.activeBeads.any fun n => p.laneOf n == l

/-- R100: a remote lane fails. R122: an operation that uses it ends with cause LANE. R515: its Beads are
fenced off. (DEDUCED, log 86) -/
def Block.laneFail (p : Params) (b : Block) (l : Nat) : Block :=
  if l = 255 || (b.lane l).failed || b.inReset then b
  else
    let b := b.modLane l fun x => { x with failed := true, want := none, clasp := { x.clasp with turn := none } }
    let b := (b.claspLocket 0x30 (pack [(l, 5, 0)])).raise (64 + l)
    let b := if b.loadUses p l then b.loaderFail { cause := 0x10, code := Status.mismatch } else b
    let b := (p.laneBeads l).foldl (fun b n => b.fenceBead p n 2) b
    b.resumeStep p

end Sys2Proof.Machine
end

