-- ==== Sys2Proof/Machine/LaneEvents.lean ====
section
/-! DEFINITION. The lane's records and timers that reach beyond the lane: LNK (R85, R87, R90, R100), TOKEN
and its answer (R90 to R92, R95), the token's retry and the fall of fl_train_done (R92, R100, R517). -/

namespace Sys2Proof.Machine

/-! ## Supply freeze of a Bead (R506) -/

/-- A supply freeze stands. -/
def Power.freezes (x : Power) : Bool := x.warn == .freezing || x.warn == .frozen

/-- R506: a supply freeze halts an active, unfenced Bead whose core domain is ON. One that a stop has
stopped already has reported (DEDUCED, log 48). -/
def Block.freezeBead (p : Params) (b : Block) (n : Nat) : Block :=
  let x := b.pbead n
  if x.frozen || x.state == .fenced || !b.beadActive n || (b.dom (8 + 2 * n)).state != .on then b
  else
    (b.sendDown p n (ctlRec p n 1 b.lkt.epoch)).modPbead n fun y =>
      { y with frozen := true, reported := x.stop == 2 }

/-- R506: the Beads that a lane's entry into RUN makes reachable while a freeze stands. -/
def Block.freezeLane (p : Params) (b : Block) (l : Nat) : Block :=
  if b.power.freezes then (p.laneBeads l).foldl (Block.freezeBead p) b else b

/-! ## The Bead end -/

/-- R95: what follows a Bead end that has left phase `old`: in FREEZE it sends its SNAP messages. -/
def Block.afterTurn (p : Params) (b : Block) (l old : Nat) : Block :=
  if old ≠ 2 && (b.lane l).bead.phase == 2 then b.sendSnaps p l else b

/-- R90, R92: a TOKEN reaches the Bead end. -/
def token (p : Params) (l phase : Nat) (b : Block) : Block :=
  match (b.lane l).takeLink l false (tokenHeader phase) with
  | some x => (b.modLane l fun _ => x.onToken l b.now phase).afterTurn p l x.bead.phase
  | none => b

/-- TOKEN (R90). -/
def execToken (lane : Nat) (phase : BitVec 2) (s : State) : Host.Outcome State Fault Refusal :=
  .next { s with blk := token s.params lane phase.toNat s.blk }

/-! ## The Clasp end -/

/-- R91: the Clasp end enters the new phase. -/
def Lane.entered (n now : Nat) (x : Lane) (phase : Nat) : Lane :=
  Lane.pumpClasp n now { x with
    clasp := x.clasp.enter phase, want := if x.want = some phase then none else x.want, snapDone := false }

/-- R91, R94, R496: what follows the Clasp end's entry into a phase. -/
def Block.turned (p : Params) (b : Block) (l phase : Nat) : Block :=
  let b := b.modLane l fun x => x.entered l b.now phase
  let b := if phase = 0 then (b.freezeLane p l).enteredRun l else b
  b.resumeStep p

/-- R91: the Bead's TOKEN reaches the Clasp end; one that answers no turn in progress does nothing. -/
def tokenAnswer (p : Params) (l phase : Nat) (b : Block) : Block :=
  match (b.lane l).takeLink l true (tokenHeader phase) with
  | some x =>
      let b := b.modLane l fun _ => x
      if x.failed || x.clasp.turn ≠ some phase then b else b.turned p l phase
  | none => b

/-- TOKEN_ANSWER (R91). -/
def execTokenAnswer (lane : Nat) (phase : BitVec 2) (s : State) : Host.Outcome State Fault Refusal :=
  .next { s with blk := tokenAnswer s.params lane phase.toNat s.blk }

/-- R92, R100: no TOKEN has come: the Clasp end sends its TOKEN again; after sixteen attempts the lane
fails. -/
def tokenRetry (p : Params) (l : Nat) (b : Block) : Block :=
  let x := b.lane l
  match x.clasp.turn with
  | none => b
  | some ph =>
      if x.failed then b
      else if 16 ≤ x.clasp.tokens then b.laneFail p l
      else if !(x.started && x.clasp.wired false l) then b
      else b.modLane l fun y =>
        { y with clasp := { (y.clasp.drive (tokenHeader ph)) with tokens := y.clasp.tokens + 1 } }

/-- TOKEN_RETRY_TIMER (R92). -/
def execTokenRetryTimer (lane : Nat) (s : State) : Host.Outcome State Fault Refusal :=
  .next { s with blk := tokenRetry s.params lane s.blk }

/-! ## LNK -/

/-- R85, R87, R97: an LNK of the Bead end reaches the Clasp end. -/
def Lane.claspLnk (n now : Nat) (x : Lane) (r : LnkRec) : Lane :=
  let x := { x with clasp := x.clasp.onLnk (x.claspMay n) (x.claspMay n && x.want.isNone) (x.stamp now) r }
  if r.nak then { x with nakRx := satAdd 16 x.nakRx 1, echoNak := true } else x

/-- An LNK of the Clasp end reaches the Bead end, which answers a TOKEN that it has put off once its replay
buffer is empty (R90). (DEDUCED, log 85) -/
def Lane.beadLnk (n now : Nat) (x : Lane) (r : LnkRec) : Lane :=
  Lane.answerToken n now { x with
    bead := x.bead.onLnk (x.beadMay n) (x.beadMay n && x.bead.turn.isNone) (x.stamp now) r }

/-- The LNK `r` of direction `up` reaches the far end: what was driven before it has arrived; where the wire
holds no link record yet, the sender of the LNK has first received what was driven to it (R85). -/
def Lane.takeLnk (n : Nat) (up : Bool) (r : LnkRec) (x : Lane) : Option Lane :=
  let x := if (x.sender up).wire.any LaneRec.isLink then x else x.arriveAll n (!up)
  x.takeLink n up (lnkHeader r)

/-- LNK: `up` names its direction. The eighth consecutive NAK of one sequence number fails the lane (R100). -/
def lnk (p : Params) (l : Nat) (up : Bool) (r : LnkRec) (b : Block) : Block :=
  match (b.lane l).takeLnk l up r with
  | none => b
  | some x =>
      if !up then (b.modLane l fun _ => x.beadLnk l b.now r).afterTurn p l x.bead.phase
      else if x.failed then b.modLane l fun _ => x
      else
        let b := b.modLane l fun _ => x.claspLnk l b.now r
        if r.nak && 8 ≤ (b.lane l).clasp.nakRun then b.laneFail p l else b

/-- LNK (R87). -/
def execLnk (lane : Nat) (up : Bool) (r : LnkRec) (s : State) : Host.Outcome State Fault Refusal :=
  .next { s with blk := lnk s.params lane up r s.blk }

/-! ## Loss of training -/

/-- R100, R517: fl_train_done falls at an end: at the Clasp end the lane fails, at the Bead end the Beads
of the lane fence themselves off. During cold reset nothing follows. -/
def trainDoneFall (p : Params) (l : Nat) (beadEnd : Bool) (b : Block) : Block :=
  let x := b.lane l
  if beadEnd then
    if !x.bead.trained then b
    else
      let b := b.modLane l fun y => { y with bead := { y.bead with trained := false } }
      if b.inReset then b
      else ((p.laneBeads l).filter fun n => !(b.bead n).fencedOff).foldl (Block.fenceSelf p) b
  else if !x.clasp.trained then b
  else (b.modLane l fun y => { y with clasp := { y.clasp with trained := false } }).laneFail p l

/-- LANE_TRAIN_DONE_FALL (R100). -/
def execLaneTrainDoneFall (lane : Nat) (beadEnd : Bool) (s : State) : Host.Outcome State Fault Refusal :=
  .next { s with blk := trainDoneFall s.params lane beadEnd s.blk }

end Sys2Proof.Machine
end

