-- ==== Sys2Proof/Machine/SettingFlow.lean ====
section
/-! DEFINITION. Loading and patching the Setting (R113 to R118, R122 to R132, R385, R404, R437, R527): SET
and SETR on the lane, the loader's commands, and SETTING_PATCH. -/

namespace Sys2Proof.Machine

/-! ## SET_CTL -/

/-- SET_STATUS.IGNORED is set. -/
def Block.ignoreSet (b : Block) : Block := { b with loader := { b.loader with ignored := true } }

/-- R113, R122: START in EMPTY. A new load leaves every partition DISABLED, every context FREE (R405, R413) and the
trace writer OFF with its registers at their reset values (R474). -/
def Block.startLoad (b : Block) : Block :=
  let l := b.loader
  Block.startLanes { b with
    trace := {}, mp := b.mp.open
    parts := { b.parts with parts := [], ctxs := [] }
    loader := { l with
      state := .loading, phase := .idle, failing := none, committed := false, awaited := [], targets := [], next := {}
      capAddr := fld l.imgAddr 55 6 * 64, capLen := bits l.imgLen.toNat 26 6 * 64
      position := 0, percent := 0, errSection := 0xFFFF, errBead := 0xFF, errOffset := 0 } }

/-- R113, R125, R527: a write of SET_CTL; each bit is judged against the state before the write. -/
def setCtl (start abort : Bool) (b : Block) : Block :=
  let l := b.loader
  let b := if start then (if l.state == .empty then b.startLoad else b.ignoreSet) else b
  if !abort then b
  else if l.runs && !l.committed then
    b.loaderFail { cause := 0x15, code := Status.aborted }
  else b.ignoreSet

/-- SET_START (R113). -/
def execSetStart (a : Acc) (s : State) : Host.Outcome State Fault Refusal :=
  .next (s.command a .setCtl fun _ b => setCtl true false b)

/-- SET_ABORT (R125). -/
def execSetAbort (a : Acc) (s : State) : Host.Outcome State Fault Refusal :=
  .next (s.command a .setCtl fun _ b => setCtl false true b)

/-! ## SET at a Bead -/

/-- R115, R116: what a Bead does with a section, and the status that it answers. -/
def Block.takeSet (p : Params) (n : Nat) (r : SecRec) (eccBad : Bool) (b : Block) : Status × Block :=
  if r.type = 0 then (Status.ok, b.modBead n fun d => { d with staged := [], ready := [] })
  else if r.type = 0xFF then (Status.ok, b.commitBead p n)
  else if eccBad then (Status.ecc, b)
  else if r.type ∈ [3, 5, 6, 9] then (Status.ok, b.modBead n fun d => { d with staged := takeRaw d.staged r })
  else (Status.format, b)

/-- A section reaches Bead `n`. (DEDUCED, log 79) (DEDUCED, log 94) -/
def set (p : Params) (n : Nat) (r : SecRec) (eccBad : Bool) (b : Block) : Block :=
  b.onLane (p.laneOf n) false (sectionMessages p n r) fun b =>
    if (b.bead n).fencedOff then b
    else
      let t := b.takeSet p n r eccBad
      t.2.sendUp p n (setrRec p n t.1)

/-- SET (R115). -/
def execSet (bead : Nat) (type scope : BitVec 8) (version : BitVec 16) (bytes : List Byte) (eccBad : Bool)
    (s : State) : Host.Outcome State Fault Refusal :=
  let r : SecRec := { type := type.toNat, scope := scope.toNat, version := version.toNat, bytes := bytes }
  .next { s with blk := set s.params bead r eccBad s.blk }

/-! ## SETR at the Clasp -/

/-- R500: the last SETR of a Bead whose core domain returns: the domain is ON, and a lane that stands in
SETTING is to be turned to RUN. -/
def Block.returnDone (p : Params) (b : Block) (n : Nat) : Block :=
  let b := b.modDom (8 + 2 * n) fun d => { d with state := .on, up := false, waiting := false }
  let l := p.laneOf n
  let b := b.modLane l fun x => if x.failed || x.clasp.phase == 0 then x else { x with want := some 0 }
  if b.power.freezes then b.freezeBead p n else b

/-- R500: a SETR of a Bead whose core domain returns. -/
def Block.returnSetr (p : Params) (b : Block) (n : Nat) (st : Status) : Block :=
  let k := tget 0 b.loader.returns n
  if st ≠ Status.ok then
    (b.modDom (8 + 2 * n) fun d => { d with state := .on, up := false, waiting := false }).fenceBead p n 3
  else
    let b := { b with loader := { b.loader with returns := tset 0 b.loader.returns n (k - 1) } }
    if k = 1 then b.returnDone p n else b

/-- R116, R122, R124: a SETR of Bead `n` reaches the Clasp. -/
def setr (p : Params) (n : Nat) (st : Status) (b : Block) : Block :=
  b.onUp p n (setrRec p n st) fun b =>
    if tget 0 b.loader.returns n ≠ 0 then b.returnSetr p n st
    else match b.loader.awaited.find? (·.1 == n) with
    | none => b
    | some t =>
        let b := { b with loader := { b.loader with awaited := b.loader.awaited.erase t } }
        let b := if st = Status.ok then b else b.loaderFail
          { cause := 0x0F, code := st, sect := t.2.1, bead := n, offset := t.2.2 }
        b.loaderStep p

/-- SETR (R116). -/
def execSetr (bead : Nat) (status : Status) (s : State) : Host.Outcome State Fault Refusal :=
  .next { s with blk := setr s.params bead status s.blk }

/-! ## A full load -/

/-- R114: the checks of a load, in one step. -/
def settingLoadCheck (p : Params) (k : Keys) (m : MemView) (b : Block) : Block :=
  let l := b.loader
  if l.state != .loading || l.phase != .idle then b
  else
    let r := checkLoad p k (fun n => (b.lane n).failed) m l.capAddr l.capLen
    let b := Block.imageErrors m (imageAreas m l.capAddr l.capLen r) b
    (b.takeCheck p true l.capLen r).loaderStep p

/-- SETTING_LOAD_CHECK (R114). -/
def execSettingLoadCheck (m : MemView) (s : State) : Host.Outcome State Fault Refusal :=
  .next { s with blk := settingLoadCheck s.params s.keys m s.blk }

/-- R117: a lane that serves an active Bead is in RUN and, when it is remote, has carried its first TIME. -/
def Lane.running (x : Lane) (l : Nat) : Bool :=
  x.clasp.phase == 0 && x.clasp.turn.isNone && (l == 255 || x.timeSent)

/-- R404: the partitions of a Setting that becomes ACTIVE. -/
def Block.loadPart (b : Block) (q : Nat) : Block :=
  let b := b.modPart q fun _ => {}
  if (b.partSec q).enabled then b.setPState q .enabled else b

/-- R437: the Beads of a Setting that becomes ACTIVE. -/
def Block.loadBead (b : Block) (n : Nat) : Block :=
  b.modPbead n fun x =>
    if x.state = BState.fenced then x
    else { x with state := if b.beadActive n then .enabled else .disabled, rej := false }

/-- R385, at Bead `n`. -/
def Block.loadChan (b : Block) (n : Nat) : Block :=
  match b.setting.chan with
  | some c => { b with chans := tset {} b.chans n (freshChan n c.routes) }
  | none => { b with chans := tset {} b.chans n {} }

/-- R118, R122: the operation ends well. -/
def Loader.succeed (l : Loader) : Loader :=
  { l with
    state := .active, phase := .idle, failing := none, targets := [], touched := [], patchNode := none
    code := Status.ok, cause := 0, percent := 100 }

/-- R9, R117, R385, R404, R437, R454, R474: the Setting becomes ACTIVE. -/
def settingActivate (p : Params) (b : Block) : Block :=
  if b.loader.phase != .turning || !((b.runLanes p).all fun l => (b.lane l).running l) then b
  else
    let b := Block.loaderLocket { b with loader := b.loader.succeed }
    let b := (List.range 16).foldl Block.loadPart b
    let b := (List.range p.nBeads).foldl Block.loadBead b
    let b := b.setting.activeBeads.foldl Block.loadChan b
    let b := ((b.loadEvents b.setting.events).loadTrace b.setting.trace).raise 7
    Block.txStart { b with link := { b.link with opened := true } }

/-- SETTING_ACTIVATE (R117, R74). -/
def execSettingActivate (s : State) : Host.Outcome State Fault Refusal :=
  .next { s with blk := settingActivate s.params s.blk }

/-- The messages of R96 and R97 leave the crossing; one that has begun to leave the crossing goes on. -/
def dropTimes (q : List LaneRec) : List LaneRec :=
  let keep (r : LaneRec) : Bool := r.cont && !r.timed || !r.cont && r.bits != timeHeader true && r.bits != timeHeader false
  (q.take 1).filter (fun r => keep r || r.timed) ++ (q.drop 1).filter keep

/-- A lane that a failed load has turned to RUN goes back to SETTING, with no latency measured and no time loaded
(R123). -/
def Lane.unload (x : Lane) : Lane :=
  let q := dropTimes x.clasp.queue
  { x with
    beatPs := 0, lat := 0, latKnown := false, echoOut := false, echoNak := false, timeSent := false
    dieOff := 0, dieBase := 0, dieAt := 0
    queued := x.queued - ((x.clasp.queue.filter (!·.cont)).length - (q.filter (!·.cont)).length)
    clasp := { x.clasp with queue := q }
    want := if x.failed then none else if x.clasp.phase = 1 && x.clasp.turn.isNone then none else some 1 }

/-- R123: what the load has changed is as cold reset leaves it (DEDUCED, log 49). (DEDUCED, log 83) -/
def Block.unload (p : Params) (b : Block) : Block :=
  let b := { b with
    setting := {}, trace := {}, parts := { b.parts with parts := [], ctxs := [] }, loader := { b.loader with digest := 0 } }
  let b := (List.range p.nBeads).foldl (Block.forgetBead p) b
  (b.lanes.map (·.1)).foldl (fun b l => b.modLane l Lane.unload) b

/-- R122: the operation has failed. -/
def Loader.finishFail (l : Loader) (state : SetState) : Loader :=
  let f := l.failing.getD (Status.ok, 0)
  { l with
    state := state, phase := .idle, failing := none, targets := [], touched := [], patchNode := none
    code := f.1, cause := f.2 }

/-- R123, R124: a load that has failed ends once no SETR is awaited. -/
def settingLoadFail (p : Params) (b : Block) : Block :=
  let l := b.loader
  if l.state != .loading || l.failing.isNone || !l.awaited.isEmpty then b
  else Block.loaderEvent { (b.unload p) with loader := { (b.unload p).loader.finishFail .empty with next := {} } }

/-- SETTING_LOAD_FAIL (R124). -/
def execSettingLoadFail (s : State) : Host.Outcome State Fault Refusal :=
  .next { s with blk := settingLoadFail s.params s.blk }

/-! ## Patches -/

/-- R128: no other node of the patch's submission stands in a window or acts in the Clasp. -/
def Block.patchAlone (b : Block) (seg index : Nat) : Bool :=
  (b.sub seg).nodes.all fun t => t.1 == index || (t.2.state != .forwarded && t.2.state != .acting)

/-- R128: partition `q` is quiescent, but for the submission and the queue of the patch. -/
def Block.patchQuiet (b : Block) (seg index q : Nat) : Bool :=
  let x := (b.sub seg).queue
  if (b.queue x).part = q then b.quiescentBut q (some (seg, x)) && b.patchAlone seg index else b.quiescent q

/-- R128, R130: a patch reaches the loader. -/
def Block.startPatch (p : Params) (k : Keys) (m : MemView) (seg index : Nat) (b : Block) : Block :=
  let a := (b.node seg index).record
  let addr := bits (recW m a 3) 55 0
  let len := bits (recW m a 4) 31 0
  let quiet := b.patchQuiet seg index
  let b := { b with loader := { b.loader with
    state := .patching, phase := .idle, failing := none, committed := false, awaited := [], targets := []
    patchNode := some (seg, index), position := 0, percent := 0
    errSection := 0xFFFF, errBead := 0xFF, errOffset := 0 } }
  let c := checkPatch p k b.setting (fun n => (b.pbead n).state == .fenced) (fun n => (b.lane n).failed) quiet m
    addr len b.loader.digest
  let b := Block.imageErrors m (imageAreas m addr len c.1) b
  let b := { b with loader := { b.loader with touched := c.2 } }
  (b.takeCheck p false len c.1).loaderStep p

/-- R127, R129: a SETTING_PATCH node acts once the loader is free. -/
def settingPatch (p : Params) (k : Keys) (seg index : Nat) (m : MemView) (b : Block) : Block :=
  let n := b.node seg index
  if n.kind != 7 || privOp m n.record != 1 || b.loader.state != .active then b
  else b.tryAct p m seg index fun b => b.startPatch p k m seg index

/-- SETTING_PATCH (R128). -/
def execSettingPatch (seg index : Nat) (m : MemView) (s : State) : Host.Outcome State Fault Refusal :=
  .next { s with blk := settingPatch s.params s.keys seg index m s.blk }

/-- The SETTING_PATCH node completes with the patch's CODE (R131), unless an abandonment has released
it. -/
def Block.endPatchNode (p : Params) (m : MemView) (t : Option (Nat × Nat)) (st : Status) (b : Block) : Block :=
  match t with
  | some (seg, index) =>
      if (b.node seg index).used && (b.node seg index).state == .acting && (b.node seg index).kind == 7 then
        b.claspLeave p m seg index st false
      else b
  | none => b

/-- R405: a patch clears a partition's ENABLED. -/
def Block.patchPart (b : Block) (q : Nat) : Block :=
  if (b.partSec q).enabled || (b.part q).state == .disabled then b else b.setPState q .disabled

/-- R273: a Bead that a patch gives to another partition holds that partition's buckets (DEDUCED, log 50). -/
def Block.rebucket (old : Setting) (b : Block) (n : Nat) : Block :=
  let owner (s : Setting) : Option Nat := (s.parts.find? fun t => t.2.beadMask.getLsbD n).map (·.1)
  if owner old = owner b.setting then b
  else
    let es := match owner b.setting with | some q => tget [] b.setting.regs q | none => []
    b.modBead n fun d => { d with buckets := es.map bucketOf }

/-- R110, R118, R130: the patch takes effect. -/
def patchCommit (p : Params) (m : MemView) (b : Block) : Block :=
  let l := b.loader
  if l.state != .patching || l.phase != .commits || !l.awaited.isEmpty then b
  else
    let old := b.setting
    let b := Block.loaderLocket { b with setting := l.next, loader := { l.succeed with digest := l.nextDigest } }
    let b := l.targets.foldl (Block.applyReady p) b
    let b := b.setting.activeBeads.foldl (Block.rebucket old) b
    let b := (List.range 16).foldl Block.patchPart b
    (b.raise 7).endPatchNode p m l.patchNode Status.ok

/-- PATCH_COMMIT (R130). -/
def execPatchCommit (m : MemView) (s : State) : Host.Outcome State Fault Refusal :=
  .next { s with blk := patchCommit s.params m s.blk }

/-- R131: a patch that has failed ends once no SETR is awaited. -/
def patchFail (p : Params) (m : MemView) (b : Block) : Block :=
  let l := b.loader
  if l.state != .patching || l.failing.isNone || !l.awaited.isEmpty then b
  else
    let b := l.targets.foldl (fun b n => b.modBead n fun d => { d with ready := [] }) b
    let b := Block.loaderEvent { b with loader := { l.finishFail .active with percent := 100 } }
    b.endPatchNode p m l.patchNode b.loader.code

/-- PATCH_FAIL (R131). -/
def execPatchFail (m : MemView) (s : State) : Host.Outcome State Fault Refusal :=
  .next { s with blk := patchFail s.params m s.blk }

end Sys2Proof.Machine
end

