-- ==== Sys2Proof/Machine/Power.lean ====
section
/-! DEFINITION. Power domains (R497 to R502), reset (R70 to R75, R504, R505), supply warning (R506 to
R511), error correction (R512 to R514) and the commands that fence a Bead (R515 to R517). -/

namespace Sys2Proof.Machine

/-! ## Error correction -/

/-- R513: the first uncorrectable error, or domain loss, is recorded in PWR_ECC_LOG; a later one sets
MORE. -/
def Block.eccLog (b : Block) (unit array row : Nat) : Block :=
  let w := b.power.eccLog
  { b with power := { b.power with
      eccLog :=
        if bit w 63 then w ||| packW [(1, 1, 62)]
        else packW [(1, 1, 63), (fld w 62 62, 1, 62), (unit, 6, 56), (array, 8, 24), (row, 24, 0)] } }

/-- R238: a node entry in the Clasp is lost: the node is released with ECC_UNCORRECTABLE. -/
def Block.nodeEcc (p : Params) (m : MemView) (b : Block) (seg index : Nat) : Block :=
  let s := b.sub seg
  let n := b.node seg index
  if !s.live || s.abandoned.isSome || !n.used || n.spilled || n.state == .forwarded then b
  else (b.modSub seg fun s => { s with gone := s.gone ++ [index] }).claspLeave p m seg index Status.ecc true

/-- R238, R209: a Clasp edge entry is lost: the list of a node from the segment is read again, and abandons the
submission where it is found bad; a created node abandons its submission. -/
def Block.edgeEcc (p : Params) (m : MemView) (b : Block) (seg index : Nat) : Block :=
  let n := b.node seg index
  if !n.used || n.spilled || !n.resolved then b
  else if (b.sub seg).nnodes ≤ index then b.abandon p seg Status.ecc none
  else
    let r := readSuccs b m seg index
    let b := b.listErrors m seg r
    if r.status = Status.ok then b else b.abandon p seg r.status none

/-- A fence is lost: its waits and waiting signals are released, and it is POISONED. -/
def Block.fenceEcc (b : Block) (i : Nat) : Block :=
  let ws := b.fences.waits.filter (·.fence == i)
  let ts := b.fences.turns.filter (·.fence == i)
  let b := { b with fences := { b.fences with
    waits := b.fences.waits.filter (·.fence != i), turns := b.fences.turns.filter (·.fence != i) } }
  let b := ws.foldl (fun b w => b.giveOutcome w Status.ecc none) b
  let b := ts.foldl (fun b t => b.giveTurn t false Status.ecc) b
  (b.modFence i fun f => { f with state := .poisoned, pstatus := Status.ecc, gen := 0, pgen := 0 }).traceFence i 0 Status.ecc

/-- R354: a sequence entry is lost. -/
def Block.seqEcc (b : Block) (i : Nat) : Block :=
  if (b.seqEntry i).state = SeqState.free then b else b.modSeq i fun x => { x with eccBad := true }

/-- A held completion is lost, but for words 0 to 2. -/
def Comp.ecc (y : Comp) : Comp := { y with status := Status.ecc, eccBad := true }

/-- The completion at position `k` of queue `c`. -/
def Block.compEcc (b : Block) (c k : Nat) : Block :=
  b.modCq c fun x =>
    { x with held := x.held.zipIdx.map fun t => if t.2 = k then t.1.ecc else t.1 }

/-- A window entry or its counter is lost: a node that has not issued is released with
ECC_UNCORRECTABLE; one that has takes it as its final status. (DEDUCED, log 93) -/
def Block.winEcc (b : Block) (n w : Nat) : Block :=
  let e := b.win n w
  if !e.used then b
  else
    let bad (b : Block) : Block := b.modWin n w fun e => { e with eccBad := true }
    match e.state, (b.bead n).tileOf w with
    | .issued, _ => bad b
    | .leaving, _ => b.modWin n w fun e => if e.released then e else { e with final := Status.ecc }
    | _, some t => (bad b).modTile n t.1 fun x => { x with failed := if x.failed = 0 then Status.ecc else x.failed }
    | _, none => b.winEnds n w Status.ecc true

/-- A successor-store row is lost: the node's submission is abandoned. -/
def Block.succEcc (p : Params) (b : Block) (n w : Nat) : Block :=
  let e := b.win n w
  if e.used && !e.piece then b.abandon p e.seg Status.ecc none else b

/-- R402: a word of a receive queue is lost. -/
def Block.wordEcc (b : Block) (n q k : Nat) : Block :=
  b.modRx n q fun x => { x with words := tmod {} x.words (k % 64) fun y => { y with bad := true } }

/-- R336: the Saffron unit's tiles or program are lost: the expansion that runs fails, with CAUSE MEMORY. -/
def Block.saffronEcc (b : Block) (n : Nat) : Block :=
  if (b.saf n).busy then b.progFail n (b.saf n).pc 9 Status.ecc else b

/-- An entry of a Locket ring, or a slot of the trace buffer (ring 193), reads zero. -/
def Block.locketEcc (b : Block) (n ring k : Nat) : Block :=
  if ring = 193 then
    b.modBead n fun d => { d with trace := d.trace.zipIdx.map fun t => if t.2 = k then [0, 0, 0, 0] else t.1 }
  else { b with lkt := { b.lkt with
    rings := tmod {} b.lkt.rings (256 * n + ring) fun r =>
      { r with entries := r.entries.zipIdx.map fun t => if t.2 = k then (0, 0) else t.1 } } }

/-- The outcome table of R513, for an array of unit `u` whose row held `h`. -/
def Block.eccOutcome (p : Params) (m : MemView) (b : Block) (u array : Nat) (h : EccHeld) : Block :=
  match array, h with
  | 0x01, .nodeEntry seg index => b.nodeEcc p m seg index
  | 0x01, .edgeEntry seg index => b.edgeEcc p m seg index
  | 0x02, .fence i => b.fenceEcc i
  | 0x03, .sequence i => b.seqEcc i
  | 0x04, .completion c k => b.compEcc c k
  | 0x05, .submission seg => b.abandon p seg Status.ecc none
  | 0x10, .window w => b.winEcc u w
  | 0x11, .window w => b.winEcc u w
  | 0x12, .window w => b.succEcc p u w
  | 0x13, .queueWord q k => b.wordEcc u q k
  | 0x14, _ => b.saffronEcc u
  | 0x15, .locket ring k => b.locketEcc u ring k
  | _, _ => b

/-- R513: an uncorrectable error is counted, recorded and announced, and takes its outcome. -/
def eccUncorrectable (p : Params) (u array row : Nat) (h : EccHeld) (m : MemView) (b : Block) : Block :=
  let b := { b with power := { b.power with uncorr := satAdd 32 b.power.uncorr 1 } }
  let b := b.eccLog u array row
  let b :=
    if u = 63 then b.raise 14
    else (b.beadLocket p u 64 0x19 (pack [(array, 8, 24), (row, 24, 0)])).sendUp p u (evtRec p u (129 + 4 * u))
  b.eccOutcome p m u array h

/-- ECC_UNCORRECTABLE (R513). -/
def execEccUncorrectable (unit : Nat) (array : BitVec 8) (row : BitVec 24) (held : EccHeld) (m : MemView) (s : State) :
    Host.Outcome State Fault Refusal :=
  .next (s.input (eccUncorrectable s.params unit array.toNat row.toNat held m))

/-- R513: a corrected error. -/
def eccCorrectable (b : Block) : Block :=
  let b := { b with power := { b.power with corr := satAdd 32 b.power.corr 1 } }
  if b.power.corrEv then b.raise 14 else b

/-- ECC_CORRECTABLE (R513). The array and row show nowhere. -/
def execEccCorrectable (_unit : Nat) (_array : BitVec 8) (_row : BitVec 24) (s : State) :
    Host.Outcome State Fault Refusal :=
  .next (s.input eccCorrectable)

/-- SCRUB (R514): a pass of the scrubber. What it finds arrives as ECC_CORRECTABLE and ECC_UNCORRECTABLE,
so the pass itself changes nothing. (DEDUCED, log 95) -/
def execScrub (s : State) : Host.Outcome State Fault Refusal := .next s

/-- PWR_ECC_CTL.CLR (R513). (DEDUCED, log 96) -/
def eccClear (b : Block) : Block := { b with power := { b.power with uncorr := 0, corr := 0 } }

/-- ECC_CLR (R513). -/
def execEccClr (a : Acc) (s : State) : Host.Outcome State Fault Refusal :=
  .next (s.command a .pwrEccCtl fun _ b => eccClear b)

/-! ## Switching a domain -/

/-- The number of domains. -/
def domains (p : Params) : Nat := 8 + 2 * p.nBeads

/-- A submission is in flight. -/
def Block.anyInFlight (b : Block) : Bool := b.front.queues.any fun t => t.2.inflight != 0

/-- The core domain of Bead `n` is OFF. -/
def Block.coreOff (b : Block) (n : Nat) : Bool := (b.dom (8 + 2 * n)).state == .off

/-- Bead `n` is the first of its lane. -/
def firstOnLane (p : Params) (n : Nat) : Bool := p.beadOnLane n == 0

/-- R497: the channel side of the condition for Saffron domain of Bead `n`. -/
def Block.chanIdle (b : Block) (n : Nat) : Bool :=
  (b.chan n).rx.all (fun t => t.2.stored == 0 && t.2.openF == 0)
    && (b.chan n).tx.all (fun t => !t.2.opened) && (b.chan n).staging.isEmpty
    && b.chans.all fun c => c.2.tx.all fun t => !(t.2.routeV && t.2.dbead == n) || t.2.credit == 64

/-- R497: the condition under which the block accepts a switch-off. -/
def Block.offOk (p : Params) (b : Block) (d : Nat) : Bool :=
  match d with
  | 0 => false
  | 1 => b.loader.state == .empty || !b.anyInFlight
  | 2 => b.fences.table.all (fun t => t.2.state == .free) && !b.anyInFlight
  | 3 => b.seq.seqs.all (fun t => t.2.state == .free) && b.seq.cmds.isEmpty
  | 4 => !b.experts.enable && !b.auditInFlight
  | 5 => b.trace.state == .off
  | 6 => !b.link.en && b.link.txq.isEmpty
  | 7 => (List.range p.nBeads).all fun n => p.laneOf n == 255 || b.coreOff n
  | d =>
      let n := (d - 8) / 2
      if d % 2 = 0 then
        (!b.beadActive n || (b.pbead n).state == .disabled || (b.pbead n).state == .fenced)
          && (b.dom (9 + 2 * n)).state == .off
          && (!firstOnLane p n || (p.laneBeads (p.laneOf n)).all fun k => k == n || b.coreOff k)
      else !(b.saf n).busy && b.chanIdle n

/-- R498: a switch-on is accepted only in OFF, of a Saffron domain only while its core domain is ON. -/
def Block.onOk (b : Block) (d : Nat) : Bool :=
  (b.dom d).state == .off && (d < 8 || d % 2 == 0 || (b.dom (d - 1)).state == .on)

/-- R498: a write of PWR_DOM_CMD; a number with no PWR_DOM is ignored. -/
def domWrite (p : Params) (op d : Nat) (b : Block) : Block :=
  if domains p ≤ d then b
  else if op = 1 && b.onOk d then
    b.modDom d fun x => { x with state := .goingOn, req := true, rej := false, up := false }
  else if op = 2 && (b.dom d).state == .on && b.offOk p d then
    b.modDom d fun x => { x with state := .goingOff, req := false, rej := false }
  else b.modDom d fun x => { x with rej := true }

/-- DOMAIN_ON (R498). -/
def execDomainOn (a : Acc) (d : Nat) (s : State) : Host.Outcome State Fault Refusal :=
  .next (s.command a .pwrDomCmd fun p b => domWrite p 1 d b)

/-- DOMAIN_OFF (R498). -/
def execDomainOff (a : Acc) (d : Nat) (s : State) : Host.Outcome State Fault Refusal :=
  .next (s.command a .pwrDomCmd fun p b => domWrite p 2 d b)

/-- DOM_CMD_INVALID (R498): a PWR_DOM_CMD write, which sets REJ where the command is not accepted. -/
def execDomCmdInvalid (a : Acc) (op : BitVec 2) (d : Nat) (s : State) : Host.Outcome State Fault Refusal :=
  .next (s.command a .pwrDomCmd fun p b => domWrite p op.toNat d b)

/-- R498: pp_pd_ack falls after a switch-off. -/
def domainAckLow (d : Nat) (b : Block) : Block :=
  if (b.dom d).state = DState.goingOff then
    b.modDom d fun x => { x with state := .off, offcnt := wrapAdd 16 x.offcnt 1 }
  else b

/-- DOMAIN_ACK_LOW (R498). -/
def execDomainAckLow (d : Nat) (s : State) : Host.Outcome State Fault Refusal :=
  .next { s with blk := domainAckLow d s.blk }

/-! ## Contents of a domain that returns (R500) -/

/-- An end of a lane as cold reset leaves it; its PHY stays as it is. -/
def LaneEnd.fresh (e : LaneEnd) : LaneEnd := { trained := e.trained }

/-- The header records of a list: one for each message. -/
def headers (rs : List LaneRec) : Nat := (rs.filter (!·.cont)).length

/-- The Clasp end of a lane, and what was measured there. The messages that still stand in the crossing to it go out
later; those that it had driven and the Bead end has not taken in are lost, and no Bead waits for them (R529). -/
def Lane.claspFresh (x : Lane) : Lane :=
  let q := x.clasp.queue.dropWhile (·.cont)
  { x with
    clasp := { x.clasp.fresh with queue := q }, bead := { x.bead with wire := [] }
    consumed := x.queued - headers (q ++ x.bead.sect ++ x.bead.msg ++ x.bead.rx)
    want := none, latKnown := false, lat := 0, echoOut := false, timeSent := false }

/-- A lane whose Bead end has lost power stands in SETTING (R500). No downstream message is on its way (R529). -/
def Lane.beadFresh (x : Lane) : Lane :=
  { x with
    clasp := x.clasp.fresh, bead := x.bead.fresh, consumed := x.queued, want := none, timeSent := false
    dieOff := 0, dieBase := 0, dieAt := 0 }

/-- The core domain of Bead `n` as cold reset leaves it. -/
def Block.coreFresh (p : Params) (b : Block) (n : Nat) : Block :=
  let b := b.modBead n fun _ => {}
  let b := { b with lkt := { b.lkt with
    rings := b.lkt.rings.filter fun t => !(256 * n ≤ t.1 && t.1 < 256 * n + 256) } }
  let b := b.modPbead n fun x =>
    { x with state := if x.state = BState.fenced then .fenced else .disabled, stop := 0, frozen := false, reported := false }
  if firstOnLane p n then b.modLane (p.laneOf n) Lane.beadFresh else b

/-- The Saffron domain of Bead `n`, with its receive queues and ports as R385 states. -/
def Block.saffronFresh (b : Block) (n : Nat) : Block :=
  let b := b.modSaf n fun _ => {}
  if b.beadActive n then b.loadChan n else { b with chans := tset {} b.chans n {} }

/-- R500: a domain's contents as cold reset leaves them. The registers that R497 keeps in CORE stay. (DEDUCED, log 90) -/
def Block.domFresh (p : Params) (b : Block) (d : Nat) : Block :=
  match d with
  | 2 => { b with fences := {} }
  | 3 => { b with seq := {} }
  | 4 => { b with experts := { b.experts with acc := [], got := [] } }
  | 5 => { b with trace := {} }
  | 6 => { b with link := { b.link with txq := [], hellos := [], sending := none } }
  | 7 => (List.range 24).foldl (fun b l => b.modLane l fun x => { x.claspFresh with started := b.mp.opened }) b
  | 0 => b
  | 1 => b
  | d => if d % 2 = 0 then b.coreFresh p ((d - 8) / 2) else b.saffronFresh ((d - 8) / 2)

/-- R498, R500: pp_pd_ack rises: the domain is initialised and ON. The core domain of an active Bead that
is not fenced off is ON once its sections are in force. -/
def domainAckHigh (p : Params) (d : Nat) (b : Block) : Block :=
  if (b.dom d).state ≠ DState.goingOn || (b.dom d).up then b
  else
    let b := b.domFresh p d
    let n := (d - 8) / 2
    if 8 ≤ d && d % 2 == 0 && b.beadActive n && (b.pbead n).state != .fenced then
      b.modDom d fun x => { x with up := true }
    else
      let b := b.modDom d fun x => { x with state := .on, waiting := false }
      if d = 6 then b.flushPoisons else b

/-- DOMAIN_ACK_HIGH (R498). -/
def execDomainAckHigh (d : Nat) (s : State) : Host.Outcome State Fault Refusal :=
  .next { s with blk := domainAckHigh s.params d s.blk }

/-- R500: the sections of the active Setting that Bead `n` holds, between START and COMMIT. -/
def Block.returnSections (b : Block) (n : Nat) : List SecRec :=
  startRec :: (b.setting.raw.filter fun r => (sectionBeads b.setting r).contains n) ++ [commitRec]

/-- R500: the Clasp sends a returning Bead its sections. (DEDUCED, log 91) -/
def beadDomainReturn (p : Params) (n : Nat) (b : Block) : Block :=
  if !(b.dom (8 + 2 * n)).up || tget 0 b.loader.returns n ≠ 0 then b
  else
    let rs := b.returnSections n
    let b := rs.foldl (fun b r => b.sendSection p n r) b
    { b with loader := { b.loader with returns := tset 0 b.loader.returns n rs.length } }

/-- BEAD_DOMAIN_RETURN (R500). -/
def execBeadDomainReturn (bead : Nat) (s : State) : Host.Outcome State Fault Refusal :=
  .next { s with blk := beadDomainReturn s.params bead s.blk }

/-! ## Loss of a domain (R501) -/

/-- Every node and edge entry of a submission. -/
def Block.cacheLost (p : Params) (m : MemView) (b : Block) (seg : Nat) : Block :=
  let all := (b.sub seg).nodes.map (·.1)
  let b := all.foldl (fun b i => b.edgeEcc p m seg i) b
  all.foldl (fun b i => b.nodeEcc p m seg i) b

/-- R501, R513: the transmit queue is lost: the submissions whose SIGNAL packets it held are abandoned, and a completion
is still held and is sent anew (DEDUCED, log 138). -/
def Block.linkLost (p : Params) (b : Block) : Block :=
  let b := b.link.txq.foldl (fun b x => match x.by' with
    | .signalNode seg g _ => if tget 0 b.graph.sgen seg = g then b.abandon p seg Status.ecc none else b
    | .completion c => b.modCq c fun x => { x with stage := if x.stage = CqStage.sending then .idle else x.stage }
    | _ => b) b
  { b with link := { b.link with txq := [], hellos := [], sending := none } }

/-- The submission whose data a header record of lane `l` holds: by its window entry, by its number, or as the one that
the Bead's counter records belong to. -/
def Block.recordSub (p : Params) (b : Block) (l : Nat) (up : Bool) (h : Word) : Option Nat :=
  let n := ((p.laneBeads l)[fld h 59 58]?).getD 0
  let t := recType h
  if t = 0xB && up then some (fld h 57 42)
  else if t = 0xC && up then (if (tget (0, 0) b.graph.ctrDue n).2 = 0 then none else some (tget (0, 0) b.graph.ctrDue n).1)
  else if (if up then t = 0xA || t = 0xD else t = 1 || t = 2 || t = 3) then
    ((b.cwin n (fld h 57 46)).holder).map (·.1)
  else none

/-- R85: the submissions whose data stands in the receive and replay buffers of the Clasp end of lane `l`. -/
def Block.laneSubs (p : Params) (b : Block) (l : Nat) : List Nat :=
  let e := (b.lane l).clasp
  ((e.replay.filter (!·.cont)).filterMap fun r => b.recordSub p l false r.bits)
    ++ (((e.msg ++ e.rx).filter (!·.cont)).filterMap fun r => b.recordSub p l true r.bits)

/-- R501, R513: the Clasp ends of the remote lanes are lost: the submissions whose records they hold are abandoned, and the
lanes drive nothing until the domain returns (DEDUCED, log 160). -/
def Block.lanesLost (p : Params) (b : Block) : Block :=
  let subs := ((List.range 24).flatMap (b.laneSubs p)).eraseDups
  let b := (List.range 24).foldl (fun b l => b.modLane l fun x => { x.claspFresh with started := false }) b
  subs.foldl (fun b seg => b.abandon p seg Status.ecc none) b

/-- R501: every row of a Clasp domain's arrays holds an uncorrectable error. The rows of TRACE hold no submission's data;
a fence that is as reset leaves it holds nothing that shows while the
domain is OFF. -/
def Block.claspLost (p : Params) (m : MemView) (b : Block) (d : Nat) : Block :=
  match d with
  | 1 => (b.graph.subs.map (·.1)).foldl (Block.cacheLost p m) b
  | 2 => (b.fences.table.map (·.1)).foldl Block.fenceEcc b
  | 3 => (b.seq.seqs.map (·.1)).foldl Block.seqEcc b
  | 4 => ((b.graph.subs.filter fun t => t.2.live && t.2.audited).map (·.1)).foldl
      (fun b seg => b.abandon p seg Status.ecc none) b
  | 6 => b.linkLost p
  | 7 => b.lanesLost p
  | _ => b

/-- What a Bead domain holds is gone. -/
def Block.beadLost (b : Block) (d : Nat) : Block :=
  let n := (d - 8) / 2
  if d % 2 = 0 then b.modBead n fun _ => { fencedOff := true }
  else { b with saffron := tset {} b.saffron n {}, chans := tset {} b.chans n {} }

/-- R501: pp_pd_ack falls while pp_pd_req is high. (DEDUCED, log 87) (DEDUCED, log 88) -/
def domainLoss (p : Params) (d : Nat) (m : MemView) (b : Block) : Block :=
  let x := b.dom d
  if x.state ≠ DState.on && !x.up then b
  else if d < 8 then
    Block.claspLost p m (b.modDom d fun x => { x with lost := true, state := .off, req := false, up := false }) d
  else
    let n := (d - 8) / 2
    let b := b.modDom d fun x => { x with lost := true, state := .on, up := false }
    if (b.pbead n).fence ≠ 0 then b.beadLost d
    else (((b.fenceBead p n 3).beadLost d).eccLog n 0xFF 0).raise (129 + 4 * n)

/-- DOMAIN_LOSS (R501). The loss of domain 0 leaves the block undefined until cold reset. -/
def execDomainLoss (d : Nat) (m : MemView) (s : State) : Host.Outcome State Fault Refusal :=
  if d = 0 then .fault .coreDomainLost
  else if domains s.params ≤ d then .next s
  else .next { s with blk := domainLoss s.params d m s.blk }

/-! ## Supply warning -/

/-- R506: an episode begins. -/
def Block.startFreeze (p : Params) (b : Block) : Block :=
  let b := { b with power := { b.power with warn := .freezing, t0 := b.now, expired := false } }
  let b := b.raise 13
  b.setting.activeBeads.foldl (Block.freezeBead p) b

/-- R506, R509: pp_supply_warn rises. During cold reset it is ignored until reset is released (R72). (DEDUCED, log 92) -/
def supplyRise (p : Params) (b : Block) : Block :=
  if b.power.warnIn then b
  else
    let b := { b with power := { b.power with warnIn := true } }
    if !b.inReset && b.power.warn == .normal then b.startFreeze p else b

/-- SUPPLY_WARN_RISE (R506). -/
def execSupplyWarnRise (s : State) : Host.Outcome State Fault Refusal :=
  .next { s with blk := supplyRise s.params s.blk }

/-- R508: every held Bead has sent its supply report. -/
def Block.allReported (b : Block) : Bool := b.parts.beads.all fun t => !t.2.frozen || t.2.reported

/-- R509, R511: a held Bead is resumed, unless a debug stop holds it. -/
def Block.thawBead (p : Params) (b : Block) (n : Nat) : Block :=
  let x := b.pbead n
  if !x.frozen then b
  else
    let b := if x.stop = 0 then b.sendDown p n (ctlRec p n 2 0) else b
    b.modPbead n fun y => { y with frozen := false, reported := false }

/-- R509, stages 2 and 3; a warning that has risen again starts a new episode. -/
def Block.endFreeze (p : Params) (b : Block) : Block :=
  let b := (List.range p.nBeads).foldl (Block.thawBead p) b
  let b := Block.raise { b with power := { b.power with
    warn := .normal, episodes := satAdd 16 b.power.episodes 1 } } 13
  if b.power.warnIn then b.startFreeze p else b

/-- R508, R509: the last supply report has come. -/
def supplyFrozen (p : Params) (b : Block) : Block :=
  if !b.allReported then b
  else match b.power.warn with
  | .freezing => { b with power := { b.power with warn := .frozen } }
  | .resuming => b.endFreeze p
  | _ => b

/-- SUPPLY_FROZEN (R508). -/
def execSupplyFrozen (s : State) : Host.Outcome State Fault Refusal :=
  .next { s with blk := supplyFrozen s.params s.blk }

/-- R509: pp_supply_warn falls. -/
def supplyFall (p : Params) (b : Block) : Block :=
  if !b.power.warnIn then b
  else
    let b := { b with power := { b.power with warnIn := false } }
    if b.power.freezes then
      let b := { b with power := { b.power with
        warn := .resuming, durUs := min ((b.now - b.power.t0) / 1000) (2 ^ 32 - 1) } }
      if b.allReported then b.endFreeze p else b
    else b

/-- SUPPLY_WARN_FALL (R509). -/
def execSupplyWarnFall (s : State) : Host.Outcome State Fault Refusal :=
  .next { s with blk := supplyFall s.params s.blk }

/-- R510: the warning has outlasted HOLD_US. -/
def holdExpiry (b : Block) : Block :=
  let x := b.power
  if x.freezes && x.warnIn && !x.expired && decide (x.t0 + x.holdUs.toNat * 1000 ≤ b.now) then
    Block.raise { b with power := { x with expired := true } } 13
  else b

/-- HOLD_EXPIRY (R510). -/
def execHoldExpiry (s : State) : Host.Outcome State Fault Refusal :=
  .next { s with blk := holdExpiry s.blk }

/-! ## Failed Beads -/

/-- FENCE_BEAD (R516): PWR_FENCE.FENCE. -/
def execFenceBead (a : Acc) (bead : Nat) (_m : MemView) (s : State) : Host.Outcome State Fault Refusal :=
  .next (s.command a (.pwrFence bead) fun p b => b.fenceBead p bead 1)

/-- BD_ERR_CLR (R58): BD_ERR.CLR clears PROTO. -/
def execBdErrClr (a : Acc) (bead : Nat) (s : State) : Host.Outcome State Fault Refusal :=
  .next (s.command a (.bdErr bead) fun _ b => b.modBead bead fun d => { d with proto := 0 })

/-! ## Reset -/

/-- The lanes that cold reset leaves: the PHYs are the surroundings'. -/
def resetLanes (ls : Tab Lane) : Tab Lane :=
  ls.foldr (fun x t => tset {} t x.1
    { clasp := { trained := x.2.clasp.trained }, bead := { trained := x.2.bead.trained } }) []

/-- R70, R504: pp_cold_rst_n falls: all state is lost but the TAP. The levels of the input pins, and the
count of the free values drawn (DESIGN CHOICE, log 4), stay. (DEDUCED, log 97) -/
def coldReset (b : Block) : Block :=
  { inReset := true, free := b.free, lanes := resetLanes b.lanes
    link := { up := b.link.up }, power := { warnIn := b.power.warnIn } }

/-- COLD_RESET_ASSERT (R70). -/
def execColdResetAssert (s : State) : Host.Outcome State Fault Refusal :=
  .next { s with tp := {}, keys := {}, blk := coldReset s.blk }

/-- R53: the slots whose ep_prefetch is 1: bit i of the n-th word is the pin of slot i of Bead n. -/
def prefetchPins (p : Params) (ws : List Word) : List (Nat × Nat) :=
  (List.range p.nBeads).flatMap fun n =>
    ((List.range (p.bead n).slots).filter fun i => ((ws[n]?).getD 0).getLsbD i).map fun i => (n, i)

/-- R53, R72, R505: pp_cold_rst_n rises, and ep_prefetch is sampled. Its pins are at the level that the integrator has
tied them to; no command says which, and the levels are free values (DESIGN CHOICE, log 155). A supply warning that
stands is handled as one that rises now. -/
def coldRelease (p : Params) (b : Block) : Block :=
  if !b.inReset then b
  else
    let pins := b.drawWords p.nBeads
    let b := { pins.2 with inReset := false, prefetch := prefetchPins p pins.1 }
    if b.power.warnIn then b.startFreeze p else b

/-- COLD_RESET_RELEASE (R505). -/
def execColdResetRelease (s : State) : Host.Outcome State Fault Refusal :=
  .next { s with blk := coldRelease s.params s.blk }

/-- STORAGE_INIT_DONE (R73): tp_req_ready rises. -/
def execStorageInitDone (s : State) : Host.Outcome State Fault Refusal :=
  .next (if s.blk.inReset then s else { s with tp := { s.tp with ready := true } })

/-- TAP_RESET (R64): the IEEE 1687 segments alone are reset. -/
def execTapReset (s : State) : Host.Outcome State Fault Refusal := .next { s with tap := {} }

end Sys2Proof.Machine
end

