-- ==== Sys2Proof/Machine/MemoryPort.lean ====
section
/-! DEFINITION. The answers of the memory ports (R46, R51, R52): a read's data or a write's acknowledge goes
to the rule that made the request. -/

namespace Sys2Proof.Machine

/-- The code of a read of one item. -/
def firstCode (cs : List (BitVec 2)) : BitVec 2 := (cs.find? (· != 0#2)).getD 0#2

/-- The first word of a read's data, which starts at the address of the request. -/
def firstWord (ws : List Word) : Word := (ws[0]?).getD 0

/-- R51: the data of a read goes to what it was made for. -/
def Block.readReturns (p : Params) (m : MemView) (codes : List (BitVec 2)) (data : List Word) (w : RPurpose)
    (b : Block) : Block :=
  let code := firstCode codes
  let low : BitVec 32 := BitVec.ofNat 32 (firstWord data).toNat
  match w with
  | .tail slot => b.tailReturn slot code low
  | .descs slot index count => b.descsReturn slot index count codes data
  | .nodeRecord n win gen sub => b.nodeRead p n win gen sub false (codesStatus Status.format codes) data
  | .nodeParam n win gen sub => b.nodeRead p n win gen sub true (codesStatus Status.format codes) data
  | .indirect n win gen k => b.indirectReturn n win gen k code (firstWord data)
  | .arrival seg index => b.arrivalResult p seg index code (firstWord data) m
  | .cqHead c => b.cqHeadReturn c code low
  | .cqEnableHead c => b.cqEnableHead c code low
  | .refill seg index => b.entryBack p m seg index code
  | .sweep k => b.swept k
  | .scrap => b

/-- R46, R51: read data return on a memory port. (DESIGN CHOICE, log 98) -/
def memoryRead (p : Params) (port id : Nat) (codes : List (BitVec 2)) (data : List Word) (m : MemView) (b : Block) :
    Block :=
  match b.mp.reads.find? fun r => r.port == port && r.id == id with
  | none => b
  | some r => (b.answerBeats r codes).readReturns p m codes data r.purpose

/-- MEMORY_READ_RESPONSE (R51). -/
def execMemoryReadResponse (port : Nat) (id : BitVec 8) (codes : List (BitVec 2)) (data : List Word) (m : MemView)
    (s : State) : Host.Outcome State Fault Refusal :=
  .next { s with blk := memoryRead s.params port id.toNat codes data m s.blk }

/-- R51: what an acknowledge does; the table names the writes for which an error has an effect beyond its
record. -/
def Block.writeReturns (p : Params) (code : BitVec 2) (w : WPurpose) (b : Block) : Block :=
  let bad := code ≠ 0#2
  match w with
  | .headOf q => if bad then b.headError q else b
  | .cqRecord c => b.cqRecordAck c code
  | .cqTail c => b.cqTailAck c code
  | .cqEnableTail c => b.cqEnableTail c code
  | .message t => if bad then b.messageError t else b
  | .saffron n pc => if bad then b.saffronWriteError n pc else b
  | .spawnParam n => b.spawnParamAck n
  | .linkArray seg index => if bad then b.linkError seg index else b
  | .traceRec pos => b.traceAck pos
  | .savePiece q => b.sendPieces p q
  | .routing _ => b
  | .workList _ _ => b
  | .dump => b
  | .table => b
  | .audit => b
  | .spill => b.spillAcked
  | .sweep => b
  | .scrap => b

/-- R46, R51: a write acknowledge returns on a memory port. -/
def memoryWrite (p : Params) (port id : Nat) (code : BitVec 2) (b : Block) : Block :=
  match b.mp.writes.find? fun r => r.port == port && r.id == id with
  | none => b
  | some r => (b.answerWrite r code).writeReturns p code r.purpose

/-- MEMORY_WRITE_ACK (R51). -/
def execMemoryWriteAck (port : Nat) (id : BitVec 8) (code : BitVec 2) (s : State) : Host.Outcome State Fault Refusal :=
  .next { s with blk := memoryWrite s.params port id.toNat code s.blk }

end Sys2Proof.Machine
end

