-- ==== Sys2Proof/Machine/Registers.lean ====
section
/-! DEFINITION. The register window as a whole: what every register reads (R9, R10, R14, R139 to R142) and
what a write of every register does (R10, R13, R43), the accesses that no other command stands for, and
the IEEE 1687 segments of the debug port (R481, R482). -/

namespace Sys2Proof.Machine

/-! ## Codes of states in register fields -/

/-- STATE of CLS_Q_STATUS (R166). -/
def QState.code : QState → Nat
  | .disabled => 0
  | .idle => 1
  | .wait => 2
  | .active => 3
  | .stopping => 4
  | .halted => 5
  | .forcing => 6

/-- STATE of FNC_ENTRY. -/
def FState.code : FState → Nat
  | .free => 0
  | .active => 1
  | .poisoned => 2

/-- STATE of SQT_SEQ_ID (R340). -/
def SeqState.code : SeqState → Nat
  | .free => 0
  | .joining => 1
  | .running => 2
  | .leaving => 3
  | .parked => 4

/-- STATE of LNK_CQ_STATUS. -/
def CqState.code : CqState → Nat
  | .disabled => 0
  | .active => 1
  | .wait => 2
  | .fallback => 3
  | .fault => 4

/-- STATE of LNK_PEER. -/
def PeerState.code : PeerState → Nat
  | .down => 0
  | .helloSent => 1
  | .up => 2
  | .incompat => 3

/-- STATE of CLS_PART_CTX. -/
def CState.code : CState → Nat
  | .free => 0
  | .swapped => 1
  | .restoring => 2
  | .resident => 3
  | .outgoing => 4
  | .saving => 5

/-- STATE of SET_STATUS. -/
def SetState.code : SetState → Nat
  | .empty => 0
  | .loading => 1
  | .active => 2
  | .patching => 3

/-- STATE of TRC_STATUS. -/
def TrState.code : TrState → Nat
  | .off => 0
  | .armed => 1
  | .triggered => 2
  | .stopped => 3

/-- STATE of LKT_STOP. -/
def StopState.code : StopState → Nat
  | .run => 0
  | .stopping => 1
  | .stopped => 2
  | .frozen => 3

/-- STATE of PWR_DOM. -/
def DState.code : DState → Nat
  | .on => 0
  | .goingOff => 1
  | .off => 2
  | .goingOn => 3

/-- STATE of PWR_WARN. -/
def WState.code : WState → Nat
  | .normal => 0
  | .freezing => 1
  | .frozen => 2
  | .resuming => 3

/-! ## What registers show -/

/-- `w` where a Setting is in force, else zero (R9). -/
def Block.bySetting (b : Block) (n : Nat) : Nat := if b.loader.inForce then n else 0

/-- SET_PARAM (R68). -/
def setParamWord (p : Params) : Word :=
  packW [(p.extEvents, 9, 39), (p.evTargets, 7, 32), (p.links, 5, 27),
    (if p.nodeCache = 65536 then 0 else if p.nodeCache = 131072 then 1 else 2, 2, 22),
    (b2n p.localLane, 1, 21), (p.remoteLanes, 5, 16), (p.nBeads, 6, 0)]

/-- SET_FEATURE (R142). -/
def setFeatureWord (p : Params) : Word :=
  packW [(b2n (p.beads.any fun x => x.chnQueues != 0), 1, 5), (b2n (p.extEvents != 0), 1, 4),
    (b2n p.localLane, 1, 3), (b2n (p.links != 0), 1, 2), (b2n p.seqTable, 1, 1), (b2n p.saffron, 1, 0)]

/-- SET_BEAD_PARAM of Bead `n`; a Bead that is not synthesised reads zero. -/
def setBeadParamWord (p : Params) (n : Nat) : Word :=
  match p.beads[n]? with
  | some x => packW [(x.lane, 8, 24), (x.chnQueues, 8, 16), (x.slots, 7, 0)]
  | none => 0

/-- The submissions of a queue that are placed, and the oldest of them (R486). (DEDUCED, log 112) -/
def Block.oldestSub (b : Block) (q : Nat) : Option Sub :=
  (b.graph.subs.filter fun t => t.2.live && t.2.queue == q).foldl (fun (x : Option Sub) t =>
    match x with
    | none => some t.2
    | some y => if t.2.order < y.order then some t.2 else some y) none

/-- R486: PERCENT of KNOWN and DONE. -/
def progressPercent (known done : Nat) : Nat := if known = 0 then 0 else min 99 (100 * done / known)

/-- R480: word `k` of entry `e` of a ring, oldest first. Entries not yet written read zero. -/
def Debug.ringWord (d : Debug) (unit ring e k : Nat) : Word :=
  match (tget {} d.rings (256 * unit + ring)).entries[e]? with
  | some x => if k = 0 then x.1 else x.2
  | none => 0

/-- LKT_ENTRY `i` of the ring that a copy of LKT_SEL chooses. -/
def Debug.entry (d : Debug) (sel : BitVec 14) (i : Nat) : Word :=
  d.ringWord (bits sel.toNat 13 8) (bits sel.toNat 7 0) (i / 2) (i % 2)

/-- LKT_BREAK of Bead `n`. Where the Bead holds several breakpoint nodes the spec does not say which is
shown: a free value chooses (DESIGN CHOICE, log 52). -/
def Block.lktBreakWord (b : Block) (n : Nat) : Word :=
  let held := (b.bead n).win.filter fun t => t.2.used && t.2.brkHeld
  match held[(freeWord b.free).toNat % held.length]? with
  | some (w, e) => packW [(1, 1, 63), (w, 12, 48), (e.seg, 16, 32), (e.index, 32, 0)]
  | none => 0

/-- A field that is 1 when an option holds a value. -/
def o2n {α : Type} (x : Option α) : Nat := b2n x.isSome

/-- Registers of the Clasp: ports, lanes and pager (chapters 2, 3, 5 and 8). -/
def Block.readPorts (p : Params) (b : Block) : Reg → Word
  | .mpErrAddr => b.mp.errAddr
  | .mpErrInfo => b.mp.errInfo.setWidth 64
  | .tpStatus => b.tpStatus.setWidth 64
  | .flStatus i =>
      let l := b.lane i
      packW [(l.clasp.phase, 2, 30), (o2n l.clasp.turn, 1, 29), (b2n l.clasp.trained, 1, 28),
        (b2n l.failed, 1, 27), (l.lat, 12, 12)]
  | .flErrcnt i => packW [((b.lane i).nakRx, 16, 16), ((b.lane i).nakTx, 16, 0)]
  | .flCfg i => packW [(b.bySetting (b.lane i).beatPs, 16, 0)]
  | .pgBase => b.graph.pgBase
  | .pgSize => b.graph.pgSize.setWidth 64
  | .pgStatus =>
      packW [(b2n b.graph.full, 1, 31), (b2n b.graph.sweepReq, 1, 30), (b2n b.graph.sweepBusy, 1, 29),
        (b2n b.segHeld, 1, 28), (65536 - (b.graph.subs.filter fun t => t.2.live).length, 17, 0)]
  | .pgOcc => packW [(b.pgSpilled, 32, 32), (b.pgCached, 32, 0)]
  | .pgErr => packW [(b.graph.stale, 16, 16), (b.graph.underflow, 16, 0)]
  | .pgSweep => packW [(b.graph.sweepPercent, 8, 32), (b.graph.sweepPos, 32, 0)]
  | .fncEntry i =>
      let f := b.fence i
      packW [(f.state.code, 2, 62), (f.owner.toNat, 10, 50), (f.pstatus.toNat, 8, 42),
        (min 1023 (b.fences.waiters i), 10, 32), (f.pgen.toNat, 16, 16), (f.gen.toNat, 16, 0)]
  | .fncCmdStatus => packW [(b2n b.fences.cmdRej, 1, 31), (b.fences.cmdIndex, 16, 0)]
  | .fncCycle => packW [(b.fences.unchecked, 16, 16), (b.fences.rejected, 16, 0)]
  | _ => 0

/-- Registers of partitions, contexts and the expert tracker (chapters 10 and 15). Where no Setting is in
force QUIESCENT reads its reset value (DEDUCED, log 51). -/
def Block.readParts (b : Block) : Reg → Word
  | .partStatus i =>
      let x := b.part i
      packW [(x.state.code, 3, 61), (x.phase.code, 3, 58), (x.reason, 3, 55),
        (b.bySetting (b2n (b.partSec i).express), 1, 54), (b.bySetting (b2n (b.quiescent i)), 1, 53),
        (b2n (x.hintWait != 0), 1, 52), (x.resident.getD 0, 10, 42), (o2n x.resident, 1, 41),
        (b2n x.rej, 1, 40), (b.bySetting (b.partSec i).quantumUs, 32, 0)]
  | .partSwitch i =>
      let x := b.part i
      packW [(x.percent, 8, 56), (x.count, 16, 40), (x.position, 32, 0)]
  | .partHint i => packW [(b2n (b.part i).idle, 1, 63), ((b.part i).hintWait, 40, 0)]
  | .partBead i => packW [((b.pbead i).state.code, 3, 29), (b2n (b.pbead i).rej, 1, 28)]
  | .ctxSel => packW [(b2n b.parts.ctxRej, 1, 31), (b.parts.ctxSel.toNat, 10, 0)]
  | .ctxReg =>
      let c := b.ctx (bits b.parts.ctxSel.toNat 9 0)
      packW [(c.state.code, 3, 61), (c.part, 4, 57), (b2n c.atSp, 1, 56), (b2n c.recV, 1, 55),
        (c.liveCount, 13, 40), (c.cause.toNat, 8, 32), (c.saveCost, 32, 0)]
  | .ctxLive => BitVec.ofNat 64 (b.ctx (bits b.parts.ctxSel.toNat 9 0)).liveAddr
  | .ctxArea => BitVec.ofNat 64 (b.ctx (bits b.parts.ctxSel.toNat 9 0)).area
  | .ctxArg => b.parts.ctxArg
  | .expBase => b.experts.base
  | .expCfg =>
      packW [(b2n b.experts.held, 1, 31), (b2n b.experts.waitLoad, 1, 30), (b.experts.perStep, 16, 1),
        (b2n b.experts.enable, 1, 0)]
  | .expStart => b.experts.start.setWidth 64
  | .expStatus => packW [(b.experts.planStep, 32, 32), (b.experts.version, 32, 0)]
  | .expLate => packW [(b.experts.late, 16, 0)]
  | .expRpos i => tget 0 b.experts.rpos i
  | _ => 0

/-- Registers of the queues, the slots and the stall monitor (chapter 6). WANTING shows the low 12 bits of its count
(DESIGN CHOICE, log 153). -/
def Block.readQueues (b : Block) : Reg → Word
  | .qRing i => (b.queue i).ring
  | .qRcb i => (b.queue i).rcb
  | .qCfg i => (b.queue i).cfg
  | .qStatus i =>
      let x := b.queue i
      packW [(x.state.code, 3, 29), (b2n x.pend, 1, 28), (o2n x.bound, 1, 27), (x.bound.getD 0, 6, 21),
        (b2n x.cmdRej, 1, 20), (x.err, 4, 16), (x.inflight, 16, 0)]
  | .qHead i => (b.queue i).head.setWidth 64
  | .qTailSeen i => (b.queue i).tailSeen.setWidth 64
  | .qProg i => packW [((b.queue i).fetched, 32, 32), ((b.queue i).done, 32, 0)]
  | .qHeadInit i => (b.queue i).headInit.setWidth 64
  | .hwsCfg i => packW [(b2n (b.hws i).reserved, 1, 0)]
  | .hwsStatus i =>
      let h := b.hws i
      packW [(o2n h.queue, 1, 31), (h.queue.getD 0, 12, 16), (h.count, 16, 0)]
  | .hwsMap => packW [(b.wanting.length, 12, 16), (b.front.mapLast, 12, 0)]
  | .hwsDbrej => b.front.dbRej.setWidth 64
  | .prgWindow i => (tget 0 b.front.window i : BitVec 32).setWidth 64
  | .prgStall =>
      match b.front.stalls with
      | r :: _ => packW [(1, 1, 63), (r.kind, 2, 61), (r.unit, 13, 48), (r.sinceUs, 48, 0)]
      | [] => 0
  | .prgStatus => packW [(b.front.lost, 16, 16), (b.front.stalls.length, 6, 0)]
  | .prgBead i => packW [(tget 0 b.front.issued i, 32, 32), (tget 0 b.front.retired i, 32, 0)]
  | _ => 0

/-- Registers of the sequence table, completions and the link port (chapters 12 and 13). -/
def Block.readLinks (b : Block) : Reg → Word
  | .seqId i =>
      let x := b.seqEntry i
      packW [(x.state.code, 3, 61), (x.ctx, 10, 48), (x.prio, 8, 40), (x.seqId, 32, 0)]
  | .seqLen i => packW [((b.seqEntry i).ord, 32, 32), ((b.seqEntry i).len, 24, 0)]
  | .seqPages i =>
      let ps := (b.seqEntry i).pages
      packW [(ps.length, 23, 32), (ps.head?.getD 0, 22, 0)]
  | .seqTail i =>
      let x := b.seqEntry i
      packW [(x.pend, 16, 48), (b2n x.lpV, 1, 46), (x.lastPos, 14, 32), (x.pages.getLast?.getD 0, 22, 0)]
  | .sqtCtxPages i => packW [((b.seqCtx i).limit, 23, 32), ((b.seqCtx i).used, 23, 0)]
  | .sqtCtxStep i =>
      let x := b.seqCtx i
      packW [(x.nextOrd, 32, 32), (x.lastN, 15, 16), (bits x.lastWl 15 6, 10, 6)]
  | .poolBase => b.seq.base
  | .poolCfg => packW [(b.seq.size, 23, 32), (b.seq.log2tpp, 5, 16), (b.seq.defTok, 16, 0)]
  | .poolStatus => packW [(o2n b.seq.fault, 1, 63), (b.seq.freePages, 23, 32), (b.seq.hwm, 23, 0)]
  | .sqtCmdArg => b.seq.arg
  | .sqtCmdStatus => packW [(b2n b.seq.rej, 1, 31), (b.seq.cmds.length, 5, 15), (b.seq.lastJoin, 14, 0)]
  | .cqRing i => (b.cq i).ring
  | .cqCcb i => (b.cq i).ccb
  | .cqCfg i => (b.cq i).cfg.setWidth 64
  | .cqStatus i =>
      let x := b.cq i
      packW [(x.state.code, 3, 61), (x.err, 2, 59), (b2n x.cmdRej, 1, 58), (min 1023 x.held.length, 10, 48),
        (x.fbcnt, 16, 32), (x.cseq, 32, 0)]
  | .lnkSelf => packW [(b2n b.link.en, 1, 63), (b.link.fbCq, 12, 32), (b.link.self, 20, 0)]
  | .lnkStatus =>
      packW [(b.link.rxBad, 16, 48), (b.link.denied, 16, 32), (b.link.stale, 16, 16), (b.link.fbLost, 16, 0)]
  | .lnkTxstat => packW [(b.link.cut, 16, 16), (b.link.txq.length, 7, 0)]
  | .lnkPeer i =>
      let x := b.peer i
      packW [(b2n x.valid, 1, 63), (b2n x.accept, 1, 62), (x.state.code, 3, 59), (x.rev, 8, 48),
        (x.link, 4, 32), (x.peer, 20, 0)]
  | .lktPeerCnt i => packW [((b.peer i).tx, 32, 32), ((b.peer i).rx, 32, 0)]
  | _ => 0

/-- Registers of the Event Controller (chapter 16). -/
def Block.readEvents (b : Block) : Reg → Word
  | .evcSrcCfg i =>
      let x := b.evSrc i
      packW [(b2n x.automask, 1, 24), (x.group.toNat, 7, 14), (x.target.toNat, 6, 8), (x.prio.toNat, 5, 0)]
  | .evcPend i => srcWord b.evc.pend i
  | .evcMask i => srcWord b.evc.mask i
  | .evcActive i => srcWord b.evc.active i
  | .evcGrp i => packW [(b2n (b.inHoldoff i), 1, 63), ((b.evGroup i).holdoffNs.toNat, 32, 0)]
  | .evcStatus => packW [(b2n b.evc.rej, 1, 31)]
  | .tgtThresh i => packW [(b2n (b.evTarget i).msg, 1, 31), ((b.evTarget i).thresh.toNat, 5, 0)]
  | .tgtStatus i =>
      let x := b.evTarget i
      packW [(b2n (b.irqLine i), 1, 63), (b2n x.armed, 1, 62), (b2n x.cerr, 1, 61), (b.evc.eff i, 5, 56),
        (b.evc.depth i, 5, 48), (b.evc.top i, 11, 32), (b.winner i, 11, 0)]
  | .tgtMsgaddr i => (b.evTarget i).msgAddr
  | .tgtMsgdata i => (b.evTarget i).msgData.setWidth 64
  | _ => 0

/-- Registers of observability and of power (chapters 18 and 19). -/
def Block.readDebug (p : Params) (b : Block) : Reg → Word
  | .trcStatus => packW [(b.trace.state.code, 2, 30), (o2n b.trace.loss, 1, 29), (b2n b.trace.rej, 1, 28)]
  | .trcHead => BitVec.ofNat 64 b.trace.head
  | .trcPos => packW [(b.trace.trigPos, 32, 32), (b.trace.tail, 32, 0)]
  | .trcLost => packW [(b.trace.lost, 32, 0)]
  | .trcMask => b.trace.mask
  | .trcTrig => b.trace.trig
  | .trcProgSel =>
      let q := b.trace.progSel.toNat
      let pc := match b.oldestSub q with | some s => progressPercent s.known s.done | none => 0
      packW [(b2n ((b.queue q).inflight != 0), 1, 31), (pc, 7, 24), (q, 12, 0)]
  | .trcProg =>
      match b.oldestSub b.trace.progSel.toNat with
      | some s => packW [(s.done, 32, 32), (s.known, 32, 0)]
      | none => 0
  | .lktStop =>
      let d := b.lkt
      packW [(d.state.code, 2, 62), (d.kind, 2, 60), (b2n d.rej, 1, 59), (b2n d.breakV, 1, 58), (d.first, 6, 52),
        (d.pmask.toNat, 16, 32), (d.epoch, 32, 0)]
  | .lktBeads => packW ((List.range 48).map fun n => (b2n ((b.pbead n).stop == 2), 1, n))
  | .lktDumpBase => b.lkt.dumpBase
  | .lktSel => packW [((tget {} b.lkt.rings b.lkt.sel.toNat).total, 32, 32), (b.lkt.sel.toNat, 14, 0)]
  | .lktEntry i => b.lkt.entry b.lkt.sel i
  | .lktBreak n => if n < p.nBeads then b.lktBreakWord n else 0
  | .pwrDom i =>
      let x := b.dom i
      packW [(x.state.code, 3, 29), (b2n x.waiting, 1, 28), (b2n x.lost, 1, 27), (b2n x.rej, 1, 26),
        (x.offcnt, 16, 0)]
  | .pwrWarn =>
      let x := b.power
      packW [(x.warn.code, 2, 62), (b2n x.warnIn, 1, 61), (b2n x.expired, 1, 60), (x.episodes, 16, 32),
        (x.durUs, 32, 0)]
  | .pwrWarnCfg => b.power.holdUs.setWidth 64
  | .pwrWarnT0 => BitVec.ofNat 64 b.power.t0
  | .pwrEccCnt => packW [(b.power.uncorr, 32, 32), (b.power.corr, 32, 0)]
  | .pwrEccLog => b.power.eccLog
  | .pwrEccCtl => packW [(b2n b.power.corrEv, 1, 30), (b.power.scrubMs.toNat, 16, 0)]
  | .pwrFence i => packW [((b.pbead i).fence, 2, 30), ((b.pbead i).cause, 2, 28)]
  | _ => 0

/-- Registers of the Setting and of identification (chapters 4 and 5), and of the audit engine. -/
def State.readSetting (s : State) : Reg → Word
  | .setId => setIdWord
  | .setIfrev => packW [(0x10101000, 32, 32), (if s.params.links = 0 then 0 else 0x12, 8, 32), (0x10111010, 32, 0)]
  | .setFmtrev => packW [(1, 8, 8), (1, 8, 0)]
  | .setParam => setParamWord s.params
  | .setFeature => setFeatureWord s.params
  | .setBeadParam n => setBeadParamWord s.params n
  | .imgAddr => s.blk.loader.imgAddr
  | .imgLen => s.blk.loader.imgLen.setWidth 64
  | .setStatus =>
      let l := s.blk.loader
      packW [(l.state.code, 2, 30), (s.blk.bySetting (b2n s.blk.setting.debug), 1, 29), (b2n l.ignored, 1, 28),
        (l.code.toNat, 8, 16), (l.cause, 8, 8)]
  | .setErr =>
      let l := s.blk.loader
      packW [(l.errSection, 16, 48), (l.errBead, 8, 40), (l.errOffset, 32, 0)]
  | .setProgress => packW [(s.blk.loader.percent, 8, 32), (s.blk.loader.position, 32, 0)]
  | .setDigest k => BitVec.ofNat 64 (s.blk.loader.digest.toNat / 2 ^ (64 * k))
  | .keyhash i => tget 0 s.keys.hash i
  | .keyCfg => s.keys.cfg.setWidth 64
  | .audPart => s.keys.audPart.setWidth 64
  | .audProf => s.blk.audit.prof
  | .audBase => s.blk.audit.base
  | .audSize => s.blk.audit.size.setWidth 64
  | .audStatus => packW [(b2n s.blk.auditHeld, 1, 31), (s.blk.auditSlots - s.blk.auditUsed, 18, 0)]
  | .audKd k => BitVec.ofNat 64 ((keyDigest s.keys.audPart s.blk).toNat / 2 ^ (64 * k))
  | _ => 0

/-- Registers of a Bead (chapters 9, 11, 14 and 18). -/
def Block.readBead (p : Params) (b : Block) : Reg → Word
  | .bdStatus n =>
      let d := b.bead n
      let used := d.win.filter fun t => t.2.used
      packW [(b.bySetting (b2n d.det), 1, 31), (b.bySetting (b2n d.noDlb), 1, 30),
        (b.bySetting ((b.partOfBead n).getD 0), 4, 26), (used.length, 13, 13),
        ((used.filter fun t => t.2.state == .wready).length, 13, 0)]
  | .bdErr n => packW [((b.bead n).proto, 16, 16)]
  | .bdSlot n i =>
      let x := b.slot n i
      packW [(x.held.length, 2, 62), (b2n (b.prefetch.contains (n, i)), 1, 61),
        (b2n (x.resetReq || x.resetWait), 1, 60), (b.bySetting (b2n x.cfg.enabled), 1, 59),
        (b.bySetting x.cfg.cls, 3, 56), (b.bySetting (b2n x.cfg.expressRes), 1, 55), (b.bySetting x.cfg.part, 4, 48),
        ((x.held.head?.map (·.win)).getD 0, 12, 32), (x.done, 32, 0)]
  | .bdReg n i =>
      match (b.bead n).buckets[i]? with
      | some u => packW [(1, 1, 63), (b.bySetting u.counter, 5, 58), ((BitVec.ofInt 48 (u.level / 1000)).toNat, 48, 0)]
      | none => 0
  | .bdTile n i =>
      let t := tget {} (b.bead n).tiles i
      packW [(b2n t.used, 1, 63), (t.win, 12, 51), (t.n, 17, 34), (t.next, 17, 17), (t.done, 17, 0)]
  | .ctrRun n i => packW [(tget 0 (b.bead n).ctrRun i, 48, 0)]
  | .ctrLastHdr n =>
      let d := b.bead n
      packW [(d.unattr, 16, 48), (d.latches.length, 7, 40), (d.lastNctr, 5, 32), (d.lastSgen, 16, 16),
        (d.lastSeg, 16, 0)]
  | .ctrLast n i => packW [(tget 0 (b.bead n).lastSums i, 48, 0)]
  | .safStatus n =>
      let u := b.saf n
      packW [(b2n u.busy, 1, 31), (b2n u.sat, 1, 30), (b2n u.nan, 1, 29), (u.mode, 4, 24), (u.win, 12, 12),
        (u.pc, 12, 0)]
  | .safCnt n => packW [((b.saf n).instr, 32, 32), ((b.saf n).curtok, 32, 0)]
  | .safCyc n => packW [((b.saf n).aluBc, 32, 32), ((b.saf n).beats, 32, 0)]
  | .safErr n => packW [(b2n (b.saf n).errV, 1, 31), ((b.saf n).errCause, 8, 16), ((b.saf n).errPc, 12, 0)]
  | .chnRd n q i => (b.rx n q).quarter i
  | .chnRtag n q =>
      let c := (b.rx n q).captured
      packW [(b2n c.first, 1, 31), (b2n c.last, 1, 30), (b2n c.bad, 1, 29), (c.mwords, 7, 8), (c.vb, 6, 0)]
  | .chnCount n q =>
      let x := b.rx n q
      packW [(b2n (x.count == 0), 1, 31), (b2n (x.stored == 64), 1, 30), (b2n x.underrun, 1, 29),
        (b2n x.overrun, 1, 28), (b2n x.drain, 1, 27), (x.stored, 7, 16), (x.rp, 7, 8), (x.count, 7, 0)]
  | .chnCfg n q =>
      let x := b.rx n q
      packW [(b.bySetting (b2n x.routeV), 1, 31), (b.bySetting x.sbead, 6, 24), (b.bySetting x.sport, 7, 16),
        (b.bySetting x.thresh, 6, 0)]
  | .chnTxStatus n q =>
      let x := b.tx n q
      packW [(b.bySetting (b2n x.routeV), 1, 31), (b2n x.opened, 1, 30), (b2n x.refused, 1, 29), (b2n x.busy, 1, 28),
        (b2n x.seqerr, 1, 27), (b2n x.cwait, 1, 26), (x.left, 7, 16), (x.credit, 7, 0)]
  | .chnTxCfg n q =>
      let x := b.tx n q
      packW [(b.bySetting (b2n x.routeV), 1, 31), (b.bySetting x.dbead, 6, 24), (b.bySetting x.dqueue, 7, 16)]
  | _ => 0

/-- The value of a register. Registers and fields that software only writes read zero (R10); each register
has its value in one of the groups, and the others answer zero for it. -/
def State.regRead (s : State) (r : Reg) : Word :=
  s.blk.readPorts s.params r ||| s.blk.readParts r ||| s.blk.readQueues r ||| s.blk.readLinks r
    ||| s.blk.readEvents r ||| s.blk.readDebug s.params r ||| s.readSetting r ||| s.blk.readBead s.params r

/-- A read as it acts: a claim (R442) and a pop (R391) change the state. -/
def State.readEffect (s : State) (r : Reg) : State × Word :=
  match r with
  | .tgtClaim t =>
      let c := s.blk.claim t
      ({ s with blk := c.2 }, BitVec.ofNat 64 c.1)
  | .chnRd n q 0 =>
      let b := chnPop s.params n q s.blk
      ({ s with blk := b }, (b.rx n q).quarter 0)
  | r => (s, s.regRead r)

/-! ## What writes do -/

/-- Clears the bits of a W1C mask that a write has at 1 (R10). -/
def w1c {w : Nat} (old mask d : BitVec w) : BitVec w := old &&& ~~~(mask &&& d)

/-- The low half of a written value. -/
def low32 (d : Word) : BitVec 32 := d.setWidth 32

/-- A write of a register of a queue, which only a DISABLED queue accepts (R151). -/
def Block.queueWrite (b : Block) (q : Nat) (f : Queue → Queue) : Block :=
  if (b.queue q).state = QState.disabled then b.modQueue q f else b.rejQueue q

/-- A write of LNK_CQ_RING or LNK_CQ_CCB (R382). -/
def Block.cqRegWrite (b : Block) (c : Nat) (f : CQueue → CQueue) : Block :=
  if (b.cq c).guarded then b.modCq c fun x => { x with cmdRej := true } else b.modCq c f

/-- A write of a field of the Setting (R9): ignored while no Setting is in force. -/
def Block.settingWrite (b : Block) (f : Block → Block) : Block := if b.loader.inForce then f b else b

/-- A write of CLS_PG_BASE or CLS_PG_SIZE (R235). -/
def Block.pgWrite (b : Block) (f : Graph → Graph) : Block :=
  if b.loader.state = SetState.empty then { b with graph := f b.graph } else b

/-- A write of CLS_EXP_BASE, CLS_EXP_START or CLS_EXP_RPOS (R307). -/
def Block.expWrite (b : Block) (f : Experts → Experts) : Block :=
  if b.experts.enable then b else { b with experts := f b.experts }

/-- Writes of the registers of the Clasp, chapters 2 to 10 and 15. -/
def writeClasp (p : Params) (r : Reg) (d : Word) (b : Block) : Block :=
  let n := d.toNat
  match r with
  | .mpErrInfo => { b with mp := { b.mp with errInfo := w1c b.mp.errInfo 0xC0000000#32 (low32 d) } }
  | .tpStatus => { b with tpStatus := w1c b.tpStatus 0xC0000000#32 (low32 d) }
  | .pgBase => b.pgWrite fun g => { g with pgBase := d &&& 0x00FFFFFFFFE00000#64 }
  | .pgSize => b.pgWrite fun g => { g with pgSize := low32 d &&& 0xFFFF#32 }
  | .pgCmd => pgCommand d b
  | .partCmd i => partWrite p i (bits n 2 0) b
  | .partBead i => beadWrite p i (bits n 2 0) b
  | .ctxSel => { b with parts := { b.parts with ctxSel := low32 d &&& 0x3FF#32 } }
  | .ctxCmd => ctxCmdWrite p (bits n 31 0) b
  | .ctxArg => { b with parts := { b.parts with ctxArg := d &&& 0x00FFFFFFFFFFFFC0#64 } }
  | .expBase => b.expWrite fun x => { x with base := d &&& 0x00FFFFFFFFE00000#64 }
  | .expCfg => expCfgWrite (low32 d) b
  | .expStart => b.expWrite fun x => { x with start := low32 d }
  | .expRpos i => b.expWrite fun x => { x with rpos := tset 0 x.rpos i (d &&& 0x80000FFF07FFFFFF#64) }
  | .fncCmd => fncWrite d b
  | .setCtl => setCtl (bit d 0) (bit d 1) b
  | .imgAddr => { b with loader := { b.loader with imgAddr := d &&& 0x00FFFFFFFFFFFFC0#64 } }
  | .imgLen => { b with loader := { b.loader with imgLen := low32 d &&& 0x07FFFFC0#32 } }
  | .setStatus => { b with loader := { b.loader with ignored := b.loader.ignored && !bit d 28 } }
  | .audProf => { b with audit := { b.audit with prof := d &&& 0x000FFFFFFFFFFFFF#64 } }
  | .audBase => audRegionWrite false d b
  | .audSize => audRegionWrite true d b
  | _ => b

/-- Writes of the registers of the queues, the slots and the stall monitor, and of doorbells (chapter 6). -/
def writeQueues (p : Params) (r : Reg) (d : Word) (b : Block) : Block :=
  match r with
  | .qRing i => b.queueWrite i fun x => { x with ring := d &&& 0x00FFFFFFFFFFF01F#64 }
  | .qRcb i => b.queueWrite i fun x => { x with rcb := d &&& 0x00FFFFFFFFFFFFC0#64 }
  | .qCfg i => b.queueWrite i fun x => { x with cfg := d &&& 0xFF3FFFFFF3FFFFFF#64 }
  | .qHeadInit i => b.queueWrite i fun x => { x with headInit := low32 d }
  | .qCmd i => queueCommand p i (bits d.toNat 2 0) b
  | .hwsCfg i => b.modHws i fun h => { h with reserved := bit d 0 }
  | .hwsCmd i => if bit d 0 then unbindWrite i b else b
  | .hwsDbrej => { b with front := { b.front with dbRej := w1c b.front.dbRej 0xC0000000#32 (low32 d) } }
  | .prgWindow i => { b with front := { b.front with window := tset 0 b.front.window i (low32 d) } }
  | .prgPop => popWrite (bit d 0) (bit d 1) b
  | .dbWord page w => doorbellWrite page w (low32 d) b
  | _ => b

/-- Writes of the registers of the sequence table, completions and the link port (chapters 12 and 13). -/
def writeLinks (p : Params) (r : Reg) (d : Word) (b : Block) : Block :=
  match r with
  | .poolBase => poolConfigWrite false d b
  | .poolCfg => poolConfigWrite true d b
  | .sqtCmdArg => { b with seq := { b.seq with arg := d &&& 0x00003FFFFFFFFFFF#64 } }
  | .sqtCmd => sqtWrite d b
  | .sqtCmdStatus => { b with seq := { b.seq with rej := b.seq.rej && !bit d 31 } }
  | .sqtCtxPages i => b.modSeqCtx i fun x => { x with limit := fld d 54 32 }
  | .cqRing i => b.cqRegWrite i fun x => { x with ring := d &&& 0x00FFFFFFFFFFF01F#64 }
  | .cqCcb i => b.cqRegWrite i fun x => { x with ccb := d &&& 0x00FFFFFFFFFFFFC0#64 }
  | .cqCfg i => cqCfgWrite i (low32 d) b
  | .cqCmd i => cqCommand i (bits d.toNat 2 0) b
  | .lnkSelf => selfWrite d b
  | .lnkTxstat => if bit d 15 then linkClear b else b
  | .lnkPeer i => peerEntryWrite p i d b
  | _ => b

/-- Writes of the registers of the Event Controller (chapter 16). -/
def writeEvents (p : Params) (r : Reg) (d : Word) (b : Block) : Block :=
  let n := bits d.toNat 31 0
  match r with
  | .evcSrcCfg i => srcCfgWrite p i n b
  | .evcPend i => pendWrite i d b
  | .evcMask i => maskWrite i d b
  | .evcGrp i => b.settingWrite fun b => b.modEvGroup i fun g => { g with holdoffNs := low32 d }
  | .evcSwi => swiWrite n b
  | .evcPclr => pclrWrite n b
  | .evcStatus => { b with evc := { b.evc with rej := b.evc.rej && !bit d 31 } }
  | .tgtComplete i => complete i (n % 2048) b
  | .tgtThresh i => b.settingWrite fun b =>
      b.modEvTarget i fun t => { t with msg := bit d 31, thresh := BitVec.ofNat 5 n }
  | .tgtStatus i => b.modEvTarget i fun t => { t with cerr := t.cerr && !bit d 61 }
  | .tgtMsgaddr i => b.settingWrite fun b =>
      b.modEvTarget i fun t => { t with msgAddr := d &&& 0x00FFFFFFFFFFFFFC#64 }
  | .tgtMsgdata i => b.settingWrite fun b => b.modEvTarget i fun t => { t with msgData := low32 d }
  | _ => b

/-- Writes of the registers of observability and of power (chapters 18 and 19). -/
def writeDebug (p : Params) (r : Reg) (d : Word) (b : Block) : Block :=
  let n := bits d.toNat 31 0
  match r with
  | .trcStatus => { b with trace := { b.trace with rej := b.trace.rej && !bit d 28 } }
  | .trcHead => traceHeadWrite n b
  | .trcCmd => traceWrite (bits n 2 0) b
  | .trcMask => b.settingWrite fun b => { b with trace := { b.trace with mask := d } }
  | .trcTrig => { b with trace := { b.trace with trig := d } }
  | .trcProgSel => { b with trace := { b.trace with progSel := BitVec.ofNat 12 n } }
  | .lktStop => { b with lkt := { b.lkt with rej := b.lkt.rej && !bit d 59 } }
  | .lktCmd => stopWrite p (bits n 1 0) (bit d 2) b
  | .lktDumpBase => { b with lkt := { b.lkt with dumpBase := d &&& 0x00FFFFFFFFF00000#64 } }
  | .lktSel => { b with lkt := { b.lkt with sel := BitVec.ofNat 14 n } }
  | .pwrDomCmd => domWrite p (bits n 31 30) (bits n 6 0) b
  | .pwrWarnCfg => { b with power := { b.power with holdUs := low32 d } }
  | .pwrEccLog => { b with power := { b.power with eccLog := w1c b.power.eccLog 0xC000000000000000#64 d } }
  | .pwrEccCtl =>
      let b := if bit d 31 then eccClear b else b
      { b with power := { b.power with corrEv := bit d 30, scrubMs := BitVec.ofNat 16 n } }
  | .pwrFence i => if bit d 0 then b.fenceBead p i 1 else b
  | _ => b

/-- Writes of the registers of a Bead (chapters 9 and 14). -/
def writeBead (p : Params) (r : Reg) (d : Word) (b : Block) : Block :=
  match r with
  | .bdErr n => if bit d 0 then b.modBead n fun x => { x with proto := 0 } else b
  | .chnCount n q => b.modRx n q fun x =>
      { x with underrun := x.underrun && !bit d 29, overrun := x.overrun && !bit d 28 }
  | .chnCmd n q => if bit d 0 then chnDrop p n q b else b
  | .chnTxHdr n q => txHeader p n q (bits d.toNat 6 0) b
  | .chnTxData n q => txData n q d b
  | .chnTxStatus n q => b.modTx n q fun x =>
      { x with
        refused := x.refused && !bit d 29, busy := x.busy && !bit d 28, seqerr := x.seqerr && !bit d 27 }
  | _ => b

/-- The effect of a write on everything but the locked registers. A register is written by one group, and
the others leave the block as it is. -/
def writeBlock (p : Params) (r : Reg) (d : Word) (b : Block) : Block :=
  match r with
  | .qRing _ | .qRcb _ | .qCfg _ | .qHeadInit _ | .qCmd _ | .hwsCfg _ | .hwsCmd _ | .hwsDbrej | .prgWindow _
  | .prgPop | .dbWord _ _ => writeQueues p r d b
  | .poolBase | .poolCfg | .sqtCmdArg | .sqtCmd | .sqtCmdStatus | .sqtCtxPages _ | .cqRing _ | .cqCcb _
  | .cqCfg _ | .cqCmd _ | .lnkSelf | .lnkTxstat | .lnkPeer _ => writeLinks p r d b
  | .evcSrcCfg _ | .evcPend _ | .evcMask _ | .evcGrp _ | .evcSwi | .evcPclr | .evcStatus | .tgtComplete _
  | .tgtThresh _ | .tgtStatus _ | .tgtMsgaddr _ | .tgtMsgdata _ => writeEvents p r d b
  | .trcStatus | .trcHead | .trcCmd | .trcMask | .trcTrig | .trcProgSel | .lktStop | .lktCmd | .lktDumpBase
  | .lktSel | .pwrDomCmd | .pwrWarnCfg | .pwrEccLog | .pwrEccCtl | .pwrFence _ => writeDebug p r d b
  | .bdErr _ | .chnCount _ _ | .chnCmd _ _ | .chnTxHdr _ _ | .chnTxData _ _ | .chnTxStatus _ _ =>
      writeBead p r d b
  | _ => writeClasp p r d b

/-- The writable bits of SET_KEY_CFG. -/
def keyCfgMask : BitVec 32 := 0x1F#32
/-- The writable bits of CLS_AUD_PART. -/
def audPartMask : BitVec 32 := 0x8000FFFF#32

/-- SET_KEY_CFG.LOCK. -/
def Keys.locked (k : Keys) : Bool := k.cfg.getLsbD 4
/-- CLS_AUD_PART.LOCK. -/
def Keys.audLocked (k : Keys) : Bool := k.audPart.getLsbD 31

/-- R112, R456: a write of a register under a lock. -/
def Keys.write (k : Keys) (r : Reg) (d : Word) : Keys :=
  match r with
  | .keyhash i => if k.locked then k else { k with hash := tset 0 k.hash i d }
  | .keyCfg => if k.locked then k else { k with cfg := low32 d &&& keyCfgMask }
  | .audPart => if k.audLocked then k else { k with audPart := low32 d &&& audPartMask }
  | _ => k

/-- A write of a register with value `d`. -/
def State.regWrite (s : State) (r : Reg) (d : Word) : State :=
  { s with keys := s.keys.write r d, blk := writeBlock s.params r d s.blk }

/-! ## Accesses by offset -/

/-- An accepted access that no register answers. -/
def State.noRegister (s : State) : State := if s.tp.ready then s.respond .decode 0 else s

/-- The lower half of a value, as a 32-bit read returns it. -/
def lowWord (w : Word) : Word := BitVec.ofNat 64 (fld w 31 0)

/-- A read of the register `r`: whole, its lower half, or its upper half (R14, R42). -/
def State.readReg (s : State) (a : Acc) (r : Reg) (size64 upper : Bool) : State :=
  s.access a r false fun s =>
    if upper then (s, BitVec.ofNat 64 (s.upperHalf a r (s.regRead r)))
    else
      let t := s.readEffect r
      if r.is64 && !size64 then (t.1.capture a r t.2, lowWord t.2) else t

/-- A write of the register `r`: whole, its lower half (staged), or its upper half (R13, R43). -/
def State.writeReg (s : State) (a : Acc) (r : Reg) (size64 upper : Bool) (d : Word) : State :=
  s.access a r true fun s =>
    if upper then
      let v := packW [(fld d 31 0, 32, 32), (s.lowerHalf r (s.regRead r), 32, 0)]
      ((s.unstage r).regWrite r v, 0)
    else if r.is64 && !size64 then
      ({ s with tp := { s.tp with staged := tset none s.tp.staged r.offset (some (low32 d)) } }, 0)
    else ((s.unstage r).regWrite r (if size64 then d else lowWord d), 0)

/-- A read of an offset (R134, R135, R526). -/
def State.readAt (s : State) (a : Acc) (off : Nat) (size64 : Bool) : State :=
  match decodeReg s.params off size64 with
  | none => s.noRegister
  | some (r, upper) => s.readReg a r size64 upper

/-- A write of an offset (R134, R135, R526). -/
def State.writeAt (s : State) (a : Acc) (off : Nat) (size64 : Bool) (d : Word) : State :=
  match decodeReg s.params off size64 with
  | none => s.noRegister
  | some (r, upper) => s.writeReg a r size64 upper d

/-- REGISTER_WRITE (R10): a write of the target port, of 32 or 64 bits. -/
def execRegisterWrite (a : Acc) (addr : BitVec 26) (size64 : Bool) (data : Word) (s : State) :
    Host.Outcome State Fault Refusal :=
  .next (s.writeAt a addr.toNat size64 data)

/-- SPLIT_READ_LOWER_HALF (R14): a 32-bit read; at the lower half of a 64-bit register it captures. -/
def execSplitReadLowerHalf (a : Acc) (addr : BitVec 26) (s : State) : Host.Outcome State Fault Refusal :=
  .next (s.readAt a addr.toNat false)

/-- SPLIT_WRITE_LOWER_HALF (R43): a 32-bit write; at the lower half of a 64-bit register it is staged. -/
def execSplitWriteLowerHalf (a : Acc) (addr : BitVec 26) (data : BitVec 32) (s : State) :
    Host.Outcome State Fault Refusal :=
  .next (s.writeAt a addr.toNat false (data.setWidth 64))

/-- SPLIT_WRITE_UPPER_HALF (R43): a 32-bit write; at the upper half of a 64-bit register it completes the
register. -/
def execSplitWriteUpperHalf (a : Acc) (addr : BitVec 26) (data : BitVec 32) (s : State) :
    Host.Outcome State Fault Refusal :=
  .next (s.writeAt a addr.toNat false (data.setWidth 64))

/-- UNREACHABLE_READ (R137): a read of the target port. It stands for every read that no command of its own
names (DESIGN CHOICE, log 53). -/
def execUnreachableRead (a : Acc) (addr : BitVec 26) (size64 : Bool) (s : State) :
    Host.Outcome State Fault Refusal :=
  .next (s.readAt a addr.toNat size64)

/-! ## The IEEE 1687 segments (R481, R482) -/

/-- The identification range (R133). -/
def inIdent (off : Nat) : Bool := decide (0x3000000 ≤ off) && decide (off < 0x3001000)
/-- The LKT_ range (R133). -/
def inLkt (off : Nat) : Bool := decide (0x3800000 ≤ off) && decide (off < 0x4000000)

/-- What a debug read of an offset of those ranges returns: LKT_ENTRY by the debug copy of LKT_SEL, zero
where no register of 64 or 32 bits begins or the ring's Bead cannot be reached. -/
def State.debugValue (s : State) (off : Nat) : Word :=
  match offsetReg off with
  | some (.lktEntry i) =>
      let u := bits s.tap.lktSel.toNat 13 8
      if u < s.params.nBeads && !s.blk.beadReachable s.params u then 0 else s.blk.lkt.entry s.tap.lktSel i
  | some r => if r.mapped s.params then s.regRead r else 0
  | none => 0

/-- R482: the read uses a port clocked by dp_tck. -/
def State.tckRead (s : State) (off : Nat) : Bool :=
  inIdent off || (match offsetReg off with
    | some (.lktEntry _) => bits s.tap.lktSel.toNat 13 8 == 63
    | _ => false)

/-- A debug read that crosses to the Clasp completes when pp_hclk has run; whether it has is open, and a free
value decides (DESIGN CHOICE, log 54). -/
def State.settle (s : State) : State :=
  match s.tap.waiting with
  | none => s
  | some off =>
      let r := s.blk.draw
      let s' : State := { s with blk := r.2 }
      if bit r.1 0 then { s' with tap := { s'.tap with waiting := none, ready := some (s.debugValue off) } } else s'

/-- R481: the registers of the Clasp's segment, in the order in which they are shifted. -/
def Tap.claspBits (t : Tap) : BitVec 93 :=
  t.addr ++ BitVec.ofBool t.write ++ BitVec.ofBool t.go ++ BitVec.ofBool t.done ++ t.data

/-- R481: the registers of the segment of Bead `n`, in the order in which they are shifted. -/
def Tap.beadBits (t : Tap) (n : Nat) : BitVec 83 :=
  let g := tget {} t.beadSegs n
  g.ring ++ g.entry ++ g.word ++ BitVec.ofBool g.go ++ tget 0 t.beadData n

/-- R481: ADDR, WRITE, GO and DATA stand in the Clasp's segment as they were shifted in. -/
def State.claspShift (s : State) (addr : BitVec 26) (write : Bool) (d : Word) : State :=
  { s with tap := { s.tap with addr := addr, write := write, go := true, data := d } }

/-- R481: an update of the Clasp's segment with GO = 1. -/
def State.claspUpdate (s : State) (off : Nat) (write : Bool) (d : Word) : State :=
  if write then
    if off = Reg.lktSel.offset then { s with tap := { s.tap with lktSel := BitVec.ofNat 14 (fld d 13 0) } } else s
  else if !(inIdent off || inLkt off) then { s with tap := { s.tap with waiting := none, ready := some 0 } }
  else if s.tckRead off then { s with tap := { s.tap with waiting := none, ready := some (s.debugValue off) } }
  else State.settle { s with tap := { s.tap with waiting := some off, ready := none } }

/-- CLASP_SEGMENT_UPDATE (R481). -/
def execClaspSegmentUpdate (addr : BitVec 26) (write : Bool) (data : Word) (s : State) :
    Host.Outcome State Fault Refusal :=
  .next ((s.claspShift addr write data).claspUpdate addr.toNat write data)

/-- R481: word `word` of entry `entry` of source `ring` of Bead `n`. -/
def Block.beadSource (b : Block) (n ring entry word : Nat) : Word :=
  if ring ≤ 192 then
    if entry < 64 && word < 2 then b.lkt.ringWord n ring entry word else 0
  else if ring = 193 then
    match (b.bead n).trace[entry]? with
    | some ws => (ws[word]?).getD 0
    | none => 0
  else 0

/-- R481, R482: an update of a Bead's segment with GO = 1. While the domain that holds the data is off the
value is open (DESIGN CHOICE, log 54). -/
def State.beadUpdate (s : State) (n ring entry word : Nat) : State :=
  if s.params.nBeads ≤ n then s
  else if (s.blk.dom (8 + 2 * n)).state = DState.off then
    let r := s.blk.draw
    { s with blk := r.2, tap := { s.tap with beadReady := tset none s.tap.beadReady n (some r.1) } }
  else
    { s with tap := { s.tap with
        beadReady := tset none s.tap.beadReady n (some (s.blk.beadSource n ring entry word)) } }

/-- R481: RING, ENTRY, WORD and GO stand in the segment of Bead `n` as they were shifted in. -/
def State.beadShift (s : State) (n : Nat) (g : BeadSegment) : State :=
  if s.params.nBeads ≤ n then s else { s with tap := { s.tap with beadSegs := tset {} s.tap.beadSegs n g } }

/-- BEAD_SEGMENT_UPDATE (R481). -/
def execBeadSegmentUpdate (bead : Nat) (ring entry : BitVec 8) (word : BitVec 2) (s : State) :
    Host.Outcome State Fault Refusal :=
  .next ((s.beadShift bead { ring := ring, entry := entry, word := word, go := true }).beadUpdate bead ring.toNat
    entry.toNat word.toNat)

/-- R481: a capture of the Clasp's segment. -/
def State.claspCapture (s : State) : State :=
  let s := s.settle
  match s.tap.ready, s.tap.waiting with
  | some w, _ => { s with tap := { s.tap with data := w, done := true, ready := none } }
  | none, some _ => { s with tap := { s.tap with data := 0, done := false } }
  | none, none => s

/-- R481: a capture of a Bead's segment. -/
def State.beadCapture (s : State) (n : Nat) : State :=
  match tget none s.tap.beadReady n with
  | some w =>
      { s with tap := { s.tap with
          beadReady := tset none s.tap.beadReady n none, beadData := tset 0 s.tap.beadData n w } }
  | none => s

/-- SEGMENT_CAPTURE (R481). -/
def execSegmentCapture (bead : Option Nat) (s : State) : Host.Outcome State Fault Refusal :=
  .next (match bead with
    | none => s.claspCapture
    | some n => s.beadCapture n)

end Sys2Proof.Machine
end

