-- ==== Sys2Proof/Machine/Dispatch.lean ====
section
/-! DEFINITION. One arm per command: a direct call of its meaning. -/

namespace Sys2Proof.Machine

/-- The effect of a command on the machine (the queue of waiting commands is left to `step`). (DESIGN CHOICE, log 57) -/
def exec (i : Instr) (s : State) : Host.Outcome State Fault Refusal :=
  match i with
  | .coldResetAssert => Sys2Proof.Machine.execColdResetAssert s
  | .coldResetRelease => Sys2Proof.Machine.execColdResetRelease s
  | .storageInitDone => Sys2Proof.Machine.execStorageInitDone s
  | .tapReset => Sys2Proof.Machine.execTapReset s
  | .registerWrite a addr size64 data => Sys2Proof.Machine.execRegisterWrite a addr size64 data s
  | .splitReadLowerHalf a addr => Sys2Proof.Machine.execSplitReadLowerHalf a addr s
  | .splitWriteLowerHalf a addr data => Sys2Proof.Machine.execSplitWriteLowerHalf a addr data s
  | .splitWriteUpperHalf a addr data => Sys2Proof.Machine.execSplitWriteUpperHalf a addr data s
  | .memoryReadResponse port id codes data m => Sys2Proof.Machine.execMemoryReadResponse port id codes data m s
  | .memoryWriteAck port id code => Sys2Proof.Machine.execMemoryWriteAck port id code s
  | .dispatchTransfer bead slot => Sys2Proof.Machine.execDispatchTransfer bead slot s
  | .engineCompletion bead slot tag status nctr => Sys2Proof.Machine.execEngineCompletion bead slot tag status nctr s
  | .counterBeat bead slot idx bytes => Sys2Proof.Machine.execCounterBeat bead slot idx bytes s
  | .slotResetRequest bead slot => Sys2Proof.Machine.execSlotResetRequest bead slot s
  | .slotResetAck bead slot level => Sys2Proof.Machine.execSlotResetAck bead slot level s
  | .linkUpRise link => Sys2Proof.Machine.execLinkUpRise link s
  | .linkUpFall link => Sys2Proof.Machine.execLinkUpFall link s
  | .packetReceived p => Sys2Proof.Machine.execPacketReceived p s
  | .packetTransmitted => Sys2Proof.Machine.execPacketTransmitted s
  | .externalEventLevel n => Sys2Proof.Machine.execExternalEventLevel n s
  | .claspSegmentUpdate addr write data => Sys2Proof.Machine.execClaspSegmentUpdate addr write data s
  | .beadSegmentUpdate bead ring entry word => Sys2Proof.Machine.execBeadSegmentUpdate bead ring entry word s
  | .lnk lane up r => Sys2Proof.Machine.execLnk lane up r s
  | .lnkAckTimer lane up => Sys2Proof.Machine.execLnkAckTimer lane up s
  | .nakRepeatTimer lane up => Sys2Proof.Machine.execNakRepeatTimer lane up s
  | .laneTrainDoneFall lane beadEnd => Sys2Proof.Machine.execLaneTrainDoneFall lane beadEnd s
  | .tokenClasp lane phase => Sys2Proof.Machine.execTokenClasp lane phase s
  | .token lane phase => Sys2Proof.Machine.execToken lane phase s
  | .tokenAnswer lane phase => Sys2Proof.Machine.execTokenAnswer lane phase s
  | .tokenRetryTimer lane => Sys2Proof.Machine.execTokenRetryTimer lane s
  | .timeEchoRequest lane => Sys2Proof.Machine.execTimeEchoRequest lane s
  | .timeEchoAnswer lane beats => Sys2Proof.Machine.execTimeEchoAnswer lane beats s
  | .time lane t => Sys2Proof.Machine.execTime lane t s
  | .timePeriodic lane => Sys2Proof.Machine.execTimePeriodic lane s
  | .node bead win gen w0 w1 w2 w3 => Sys2Proof.Machine.execNode bead win gen w0 w1 w2 w3 s
  | .dec bead win gen cnt => Sys2Proof.Machine.execDec bead win gen cnt s
  | .fence bead win gen status => Sys2Proof.Machine.execFence bead win gen status s
  | .cpl bead win gen status m => Sys2Proof.Machine.execCpl bead win gen status m s
  | .ret bead seg count last nctr => Sys2Proof.Machine.execRet bead seg count last nctr s
  | .ctr bead idx bytes => Sys2Proof.Machine.execCtr bead idx bytes s
  | .spawn bead win w0 w1 w2 w3 m => Sys2Proof.Machine.execSpawn bead win w0 w1 w2 w3 m s
  | .evt bead src => Sys2Proof.Machine.execEvt bead src s
  | .snap bead src payload => Sys2Proof.Machine.execSnap bead src payload s
  | .set bead type scope version bytes eccBad => Sys2Proof.Machine.execSet bead type scope version bytes eccBad s
  | .setr bead status => Sys2Proof.Machine.execSetr bead status s
  | .chn up bead queue dbead total flits => Sys2Proof.Machine.execChn up bead queue dbead total flits s
  | .credit up bead queue words => Sys2Proof.Machine.execCredit up bead queue words s
  | .ctlHalt bead epoch => Sys2Proof.Machine.execCtlHalt bead epoch s
  | .ctlResume bead => Sys2Proof.Machine.execCtlResume bead s
  | .ctlClear bead part => Sys2Proof.Machine.execCtlClear bead part s
  | .ctlFenceOff bead => Sys2Proof.Machine.execCtlFenceOff bead s
  | .setStart a => Sys2Proof.Machine.execSetStart a s
  | .setAbort a => Sys2Proof.Machine.execSetAbort a s
  | .settingLoadCheck m => Sys2Proof.Machine.execSettingLoadCheck m s
  | .settingActivate => Sys2Proof.Machine.execSettingActivate s
  | .settingLoadFail => Sys2Proof.Machine.execSettingLoadFail s
  | .settingPatch seg index m => Sys2Proof.Machine.execSettingPatch seg index m s
  | .patchCommit m => Sys2Proof.Machine.execPatchCommit m s
  | .patchFail m => Sys2Proof.Machine.execPatchFail m s
  | .qEnable a q => Sys2Proof.Machine.execQEnable a q s
  | .qDisable a q => Sys2Proof.Machine.execQDisable a q s
  | .qForce a q => Sys2Proof.Machine.execQForce a q s
  | .qCmdInvalid a q op => Sys2Proof.Machine.execQCmdInvalid a q op s
  | .queueDisabled q => Sys2Proof.Machine.execQueueDisabled q s
  | .queueForceDone q => Sys2Proof.Machine.execQueueForceDone q s
  | .doorbellWrite a page word bits => Sys2Proof.Machine.execDoorbellWrite a page word bits s
  | .slotMapperBind => Sys2Proof.Machine.execSlotMapperBind s
  | .tailReadReturn slot code tail => Sys2Proof.Machine.execTailReadReturn slot code tail s
  | .descriptorArrival slot codes data => Sys2Proof.Machine.execDescriptorArrival slot codes data s
  | .idleTest slot => Sys2Proof.Machine.execIdleTest slot s
  | .slotRelease slot => Sys2Proof.Machine.execSlotRelease slot s
  | .unbind a slot => Sys2Proof.Machine.execUnbind a slot s
  | .rcbError q tailRead code => Sys2Proof.Machine.execRcbError q tailRead code s
  | .stallReport kind unit => Sys2Proof.Machine.execStallReport kind unit s
  | .pop a => Sys2Proof.Machine.execPop a s
  | .clrLost a => Sys2Proof.Machine.execClrLost a s
  | .checkPass q m => Sys2Proof.Machine.execCheckPass q m s
  | .submissionPlace q seg m => Sys2Proof.Machine.execSubmissionPlace q seg m s
  | .nodeForward seg index m => Sys2Proof.Machine.execNodeForward seg index m s
  | .windowEdgesApply bead win => Sys2Proof.Machine.execWindowEdgesApply bead win s
  | .bankDecrement bead bank => Sys2Proof.Machine.execBankDecrement bead bank s
  | .nopRetire bead win => Sys2Proof.Machine.execNopRetire bead win s
  | .indirectReadReturn bead win k code data => Sys2Proof.Machine.execIndirectReadReturn bead win k code data s
  | .issueSelect bead => Sys2Proof.Machine.execIssueSelect bead s
  | .tileListRetire bead win => Sys2Proof.Machine.execTileListRetire bead win s
  | .regulatorRefill => Sys2Proof.Machine.execRegulatorRefill s
  | .waitAct seg index m => Sys2Proof.Machine.execWaitAct seg index m s
  | .arrivalRead seg index code data m => Sys2Proof.Machine.execArrivalRead seg index code data m s
  | .arrivalRereadTimer seg index => Sys2Proof.Machine.execArrivalRereadTimer seg index s
  | .signalAct seg index m => Sys2Proof.Machine.execSignalAct seg index m s
  | .fencePoison seg index m => Sys2Proof.Machine.execFencePoison seg index m s
  | .submissionComplete seg m => Sys2Proof.Machine.execSubmissionComplete seg m s
  | .pagerRefill seg index code => Sys2Proof.Machine.execPagerRefill seg index code s
  | .pagerFull => Sys2Proof.Machine.execPagerFull s
  | .sweep a => Sys2Proof.Machine.execSweep a s
  | .sweepComplete => Sys2Proof.Machine.execSweepComplete s
  | .clrErr a => Sys2Proof.Machine.execClrErr a s
  | .fncAlloc a index owner => Sys2Proof.Machine.execFncAlloc a index owner s
  | .fncFree a index => Sys2Proof.Machine.execFncFree a index s
  | .fncClear a index => Sys2Proof.Machine.execFncClear a index s
  | .fncClrCount a => Sys2Proof.Machine.execFncClrCount a s
  | .fncCmdInvalid a op index => Sys2Proof.Machine.execFncCmdInvalid a op index s
  | .expandStart bead win m => Sys2Proof.Machine.execExpandStart bead win m s
  | .programStart bead m => Sys2Proof.Machine.execProgramStart bead m s
  | .routingStage bead m => Sys2Proof.Machine.execRoutingStage bead m s
  | .createNodes bead m => Sys2Proof.Machine.execCreateNodes bead m s
  | .expansionRetire bead => Sys2Proof.Machine.execExpansionRetire bead s
  | .joinContribution seg index m => Sys2Proof.Machine.execJoinContribution seg index m s
  | .planVersion m => Sys2Proof.Machine.execPlanVersion m s
  | .expCfgWrite a data => Sys2Proof.Machine.execExpCfgWrite a data s
  | .sAnd bead f => Sys2Proof.Machine.execSAnd bead f s
  | .sOr bead f => Sys2Proof.Machine.execSOr bead f s
  | .sXor bead f => Sys2Proof.Machine.execSXor bead f s
  | .sNot bead f => Sys2Proof.Machine.execSNot bead f s
  | .sShl bead f => Sys2Proof.Machine.execSShl bead f s
  | .sShr bead f => Sys2Proof.Machine.execSShr bead f s
  | .sSar bead f => Sys2Proof.Machine.execSSar bead f s
  | .sAdd bead f => Sys2Proof.Machine.execSAdd bead f s
  | .sAddsu bead f => Sys2Proof.Machine.execSAddsu bead f s
  | .sAddss bead f => Sys2Proof.Machine.execSAddss bead f s
  | .sSub bead f => Sys2Proof.Machine.execSSub bead f s
  | .sSubsu bead f => Sys2Proof.Machine.execSSubsu bead f s
  | .sSubss bead f => Sys2Proof.Machine.execSSubss bead f s
  | .sMin bead f => Sys2Proof.Machine.execSMin bead f s
  | .sMax bead f => Sys2Proof.Machine.execSMax bead f s
  | .sCmp bead f => Sys2Proof.Machine.execSCmp bead f s
  | .sSel bead f => Sys2Proof.Machine.execSSel bead f s
  | .sMop bead f => Sys2Proof.Machine.execSMop bead f s
  | .sOkey bead f => Sys2Proof.Machine.execSOkey bead f s
  | .sIota bead f => Sys2Proof.Machine.execSIota bead f s
  | .sFill bead f => Sys2Proof.Machine.execSFill bead f s
  | .sRmin bead f => Sys2Proof.Machine.execSRmin bead f s
  | .sRmax bead f => Sys2Proof.Machine.execSRmax bead f s
  | .sRsum bead f => Sys2Proof.Machine.execSRsum bead f s
  | .sTopk bead f => Sys2Proof.Machine.execSTopk bead f s
  | .sPsum bead f => Sys2Proof.Machine.execSPsum bead f s
  | .sLd bead f m => Sys2Proof.Machine.execSLd bead f m s
  | .sSt bead f => Sys2Proof.Machine.execSSt bead f s
  | .sScat bead f => Sys2Proof.Machine.execSScat bead f s
  | .sCand bead f => Sys2Proof.Machine.execSCand bead f s
  | .sSmovi bead f => Sys2Proof.Machine.execSSmovi bead f s
  | .sSaddi bead f => Sys2Proof.Machine.execSSaddi bead f s
  | .sSadd bead f => Sys2Proof.Machine.execSSadd bead f s
  | .sSld bead f m => Sys2Proof.Machine.execSSld bead f m s
  | .sSshri bead f => Sys2Proof.Machine.execSSshri bead f s
  | .sLoop bead f => Sys2Proof.Machine.execSLoop bead f s
  | .sBz bead f => Sys2Proof.Machine.execSBz bead f s
  | .sEnd bead f => Sys2Proof.Machine.execSEnd bead f s
  | .join a ctx prio len => Sys2Proof.Machine.execJoin a ctx prio len s
  | .cancel a ctx => Sys2Proof.Machine.execCancel a ctx s
  | .sqtCmdInvalid a data => Sys2Proof.Machine.execSqtCmdInvalid a data s
  | .sqtCommandApply => Sys2Proof.Machine.execSqtCommandApply s
  | .poolConfigWrite a cfg data => Sys2Proof.Machine.execPoolConfigWrite a cfg data s
  | .stepBuild seg index m => Sys2Proof.Machine.execStepBuild seg index m s
  | .stepRetire seg index m => Sys2Proof.Machine.execStepRetire seg index m s
  | .completionDelivery cq => Sys2Proof.Machine.execCompletionDelivery cq s
  | .cqHeadReread cq => Sys2Proof.Machine.execCqHeadReread cq s
  | .cqEnable a cq => Sys2Proof.Machine.execCqEnable a cq s
  | .cqDisable a cq => Sys2Proof.Machine.execCqDisable a cq s
  | .cqResume a cq => Sys2Proof.Machine.execCqResume a cq s
  | .cqCmdInvalid a cq op => Sys2Proof.Machine.execCqCmdInvalid a cq op s
  | .cqCfgWrite a cq data => Sys2Proof.Machine.execCqCfgWrite a cq data s
  | .fallbackSend cq => Sys2Proof.Machine.execFallbackSend cq s
  | .completion p => Sys2Proof.Machine.execCompletion p s
  | .hello p => Sys2Proof.Machine.execHello p s
  | .helloRetryTimer peer => Sys2Proof.Machine.execHelloRetryTimer peer s
  | .signal p => Sys2Proof.Machine.execSignal p s
  | .remoteSignalAct seg index m => Sys2Proof.Machine.execRemoteSignalAct seg index m s
  | .peerEntryWrite a peer data => Sys2Proof.Machine.execPeerEntryWrite a peer data s
  | .selfWrite a data => Sys2Proof.Machine.execSelfWrite a data s
  | .clr a => Sys2Proof.Machine.execClr a s
  | .chnTxHdr a bead port flits => Sys2Proof.Machine.execChnTxHdr a bead port flits s
  | .chnTxData a bead port flit => Sys2Proof.Machine.execChnTxData a bead port flit s
  | .chnMessageSend bead => Sys2Proof.Machine.execChnMessageSend bead s
  | .chnPop a bead queue => Sys2Proof.Machine.execChnPop a bead queue s
  | .drop a bead queue => Sys2Proof.Machine.execDrop a bead queue s
  | .creditReturn bead queue => Sys2Proof.Machine.execCreditReturn bead queue s
  | .partEnable a p => Sys2Proof.Machine.execPartEnable a p s
  | .partDisable a p => Sys2Proof.Machine.execPartDisable a p s
  | .partForce a p => Sys2Proof.Machine.execPartForce a p s
  | .partYield a p => Sys2Proof.Machine.execPartYield a p s
  | .partCmdInvalid a p op => Sys2Proof.Machine.execPartCmdInvalid a p op s
  | .partitionCtl seg index m => Sys2Proof.Machine.execPartitionCtl seg index m s
  | .partitionDisabled p => Sys2Proof.Machine.execPartitionDisabled p s
  | .partitionForceDone p => Sys2Proof.Machine.execPartitionForceDone p s
  | .ctxRegister a ctx part => Sys2Proof.Machine.execCtxRegister a ctx part s
  | .ctxRelease a ctx => Sys2Proof.Machine.execCtxRelease a ctx s
  | .ctxReset a ctx => Sys2Proof.Machine.execCtxReset a ctx s
  | .ctxAck a ctx => Sys2Proof.Machine.execCtxAck a ctx s
  | .ctxCmdInvalid a data => Sys2Proof.Machine.execCtxCmdInvalid a data s
  | .contextReg seg index m => Sys2Proof.Machine.execContextReg seg index m s
  | .quantumExpiry p => Sys2Proof.Machine.execQuantumExpiry p s
  | .switchRequest p m => Sys2Proof.Machine.execSwitchRequest p m s
  | .switchBoundary p m => Sys2Proof.Machine.execSwitchBoundary p m s
  | .switchSaveDone p m => Sys2Proof.Machine.execSwitchSaveDone p m s
  | .switchRestoreDone p m => Sys2Proof.Machine.execSwitchRestoreDone p m s
  | .idleHint p => Sys2Proof.Machine.execIdleHint p s
  | .hintTransfer p => Sys2Proof.Machine.execHintTransfer p s
  | .beadEnable a bead => Sys2Proof.Machine.execBeadEnable a bead s
  | .beadDisable a bead => Sys2Proof.Machine.execBeadDisable a bead s
  | .beadForce a bead => Sys2Proof.Machine.execBeadForce a bead s
  | .beadCmdInvalid a bead op => Sys2Proof.Machine.execBeadCmdInvalid a bead op s
  | .beadDisabled bead => Sys2Proof.Machine.execBeadDisabled bead s
  | .eventRaise src => Sys2Proof.Machine.execEventRaise src s
  | .evcTgtClaim a target => Sys2Proof.Machine.execEvcTgtClaim a target s
  | .evcTgtComplete a target data => Sys2Proof.Machine.execEvcTgtComplete a target data s
  | .evcSwi a data => Sys2Proof.Machine.execEvcSwi a data s
  | .evcPclr a data => Sys2Proof.Machine.execEvcPclr a data s
  | .evcSync a => Sys2Proof.Machine.execEvcSync a s
  | .evcPendWrite a w data => Sys2Proof.Machine.execEvcPendWrite a w data s
  | .evcMaskWrite a w data => Sys2Proof.Machine.execEvcMaskWrite a w data s
  | .evcSrcCfgWrite a src data => Sys2Proof.Machine.execEvcSrcCfgWrite a src data s
  | .holdoffExpiry group => Sys2Proof.Machine.execHoldoffExpiry group s
  | .messageWrite target => Sys2Proof.Machine.execMessageWrite target s
  | .rearmTimer target => Sys2Proof.Machine.execRearmTimer target s
  | .auditDigest seg m => Sys2Proof.Machine.execAuditDigest seg m s
  | .audRegionWrite a size data => Sys2Proof.Machine.execAudRegionWrite a size data s
  | .traceEvent => Sys2Proof.Machine.execTraceEvent s
  | .traceStart a => Sys2Proof.Machine.execTraceStart a s
  | .traceStop a => Sys2Proof.Machine.execTraceStop a s
  | .traceTrigger a => Sys2Proof.Machine.execTraceTrigger a s
  | .traceClrLost a => Sys2Proof.Machine.execTraceClrLost a s
  | .traceCmdInvalid a op => Sys2Proof.Machine.execTraceCmdInvalid a op s
  | .traceCtl seg index m => Sys2Proof.Machine.execTraceCtl seg index m s
  | .traceHeadWrite a data => Sys2Proof.Machine.execTraceHeadWrite a data s
  | .latchSetClose bead seg => Sys2Proof.Machine.execLatchSetClose bead seg s
  | .breakpointHold bead win => Sys2Proof.Machine.execBreakpointHold bead win s
  | .stopReportSend bead => Sys2Proof.Machine.execStopReportSend bead s
  | .stopReport bead => Sys2Proof.Machine.execStopReport bead s
  | .stopComplete => Sys2Proof.Machine.execStopComplete s
  | .halt a freeze => Sys2Proof.Machine.execHalt a freeze s
  | .resume a => Sys2Proof.Machine.execResume a s
  | .lktCmdInvalid a data => Sys2Proof.Machine.execLktCmdInvalid a data s
  | .freezeComplete => Sys2Proof.Machine.execFreezeComplete s
  | .domainOn a d => Sys2Proof.Machine.execDomainOn a d s
  | .domainOff a d => Sys2Proof.Machine.execDomainOff a d s
  | .domCmdInvalid a op d => Sys2Proof.Machine.execDomCmdInvalid a op d s
  | .domainAckHigh d => Sys2Proof.Machine.execDomainAckHigh d s
  | .domainAckLow d => Sys2Proof.Machine.execDomainAckLow d s
  | .domainLoss d m => Sys2Proof.Machine.execDomainLoss d m s
  | .beadDomainReturn bead => Sys2Proof.Machine.execBeadDomainReturn bead s
  | .supplyWarnRise => Sys2Proof.Machine.execSupplyWarnRise s
  | .supplyFrozen => Sys2Proof.Machine.execSupplyFrozen s
  | .supplyWarnFall => Sys2Proof.Machine.execSupplyWarnFall s
  | .holdExpiry => Sys2Proof.Machine.execHoldExpiry s
  | .eccCorrectable unit array row => Sys2Proof.Machine.execEccCorrectable unit array row s
  | .eccUncorrectable unit array row held m => Sys2Proof.Machine.execEccUncorrectable unit array row held m s
  | .scrub => Sys2Proof.Machine.execScrub s
  | .eccClr a => Sys2Proof.Machine.execEccClr a s
  | .fenceBead a bead m => Sys2Proof.Machine.execFenceBead a bead m s
  | .bdErrClr a bead => Sys2Proof.Machine.execBdErrClr a bead s
  | .trainDoneRise lane beadEnd => Sys2Proof.Machine.execTrainDoneRise lane beadEnd s
  | .recordCrcError lane up => Sys2Proof.Machine.execRecordCrcError lane up s
  | .unreachableRead a addr size64 => Sys2Proof.Machine.execUnreachableRead a addr size64 s
  | .segmentCapture bead => Sys2Proof.Machine.execSegmentCapture bead s

end Sys2Proof.Machine
end

