-- ==== Sys2Proof/Machine/Step.lean ====
section
/-! DEFINITION. One step: the command at the front of the queue, or a tick of global time. -/

namespace Sys2Proof.Machine

/-- One tick: global time advances by 1 ns ("Global time is a count of 1 ns ticks"). Every rule
that acts at a time is a command of its own. DESIGN CHOICE (log 3). -/
def State.tick (s : State) : State := { s with blk := s.blk.tick }

/-- The command at the front of the queue runs with the queue's rest; on an empty queue global
time advances. (DESIGN CHOICE, log 121) -/
def step (s : State) : Host.Outcome State Fault Refusal :=
  match s.pending with
  | [] => .next s.tick
  | c :: rest => exec c { s with pending := rest }

/-- `s` with the command that a word spells at the front of its queue. (DESIGN CHOICE, log 122) -/
def State.withFetchWord (s : State) (nbits w : Nat) : State :=
  match decodeTableWord nbits w with
  | none => s
  | some c => { s with pending := c :: s.pending }

end Sys2Proof.Machine
end

