-- ==== Sys2Proof/Safety.lean ====
section
/-! DEFINITION. What counts as a safe step, and the words that the statements use: a target-port access that
is performed (R526), what a performed write leaves, and the invariants of the registers before the block. -/

namespace Sys2Proof

/-- The attributes of the target-port access that a command is; none for a command that is no access. -/
def Instr.access : Instr → Option Acc
  | .registerWrite a _ _ _ | .splitReadLowerHalf a _ | .splitWriteLowerHalf a _ _
  | .splitWriteUpperHalf a _ _ | .setStart a | .setAbort a | .qEnable a _ | .qDisable a _ | .qForce a _
  | .qCmdInvalid a _ _ | .doorbellWrite a _ _ _ | .unbind a _ | .pop a | .clrLost a | .sweep a | .clrErr a
  | .fncAlloc a _ _ | .fncFree a _ | .fncClear a _ | .fncClrCount a | .fncCmdInvalid a _ _
  | .expCfgWrite a _ | .join a _ _ _ | .cancel a _ | .sqtCmdInvalid a _ | .poolConfigWrite a _ _
  | .cqEnable a _ | .cqDisable a _ | .cqResume a _ | .cqCmdInvalid a _ _ | .cqCfgWrite a _ _
  | .peerEntryWrite a _ _ | .selfWrite a _ | .clr a | .chnTxHdr a _ _ _ | .chnTxData a _ _ _ | .chnPop a _ _
  | .drop a _ _ | .partEnable a _ | .partDisable a _ | .partForce a _ | .partYield a _
  | .partCmdInvalid a _ _ | .ctxRegister a _ _ | .ctxRelease a _ | .ctxReset a _ | .ctxAck a _
  | .ctxCmdInvalid a _ | .beadEnable a _ | .beadDisable a _ | .beadForce a _ | .beadCmdInvalid a _ _
  | .evcTgtClaim a _ | .evcTgtComplete a _ _ | .evcSwi a _ | .evcPclr a _ | .evcSync a | .evcPendWrite a _ _
  | .evcMaskWrite a _ _ | .evcSrcCfgWrite a _ _ | .audRegionWrite a _ _ | .traceStart a | .traceStop a
  | .traceTrigger a | .traceClrLost a | .traceCmdInvalid a _ | .traceHeadWrite a _ | .halt a _ | .resume a
  | .lktCmdInvalid a _ | .domainOn a _ | .domainOff a _ | .domCmdInvalid a _ _ | .eccClr a
  | .fenceBead a _ _ | .bdErrClr a _ | .unreachableRead a _ _ => some a
  | _ => none

end Sys2Proof

namespace Sys2Proof.Machine

/-- The step of `s` answers a next state. -/
def Completes (i : Instr) (s : State) : Prop := ∃ t, exec i s = .next t

/-- Every step of `n` steps from `s` answers a next state. -/
def SafeFor : Nat → State → Prop
  | 0, _ => True
  | n + 1, s => ∃ t, step s = .next t ∧ SafeFor n t

/-- R526, step 4: the port accepts the access and the block performs it. The register stands in the instance
(R134), its privilege allows the access (R136), and its place can be reached (R137). -/
def Performs (s : State) (a : Acc) (r : Reg) (write : Bool) : Prop :=
  s.tp.ready = true ∧ r.mapped s.params = true ∧ (a.priv = true ∨ r.userOpen write = true)
    ∧ s.blk.reachable s.params r write = true

/-- `s` after a performed write of `r` that leaves the block `b`: the answer is OK with data 0 (R39), and a
lower half that stood staged for `r` is gone (R43). Nothing else of the machine differs. -/
def State.wrote (s : State) (r : Reg) (b : Block) : State :=
  State.respond { s.unstage r with blk := b } .ok 0

/-! ## The access types of the registers (R10) -/

/-- The bits of type RW of a register whose other bits no write moves, and whose writes nothing but the access type
governs: such bits take what is written. -/
def Reg.rwBits : Reg → Word
  | .imgAddr | .ctxArg => 0x00FFFFFFFFFFFFC0#64
  | .imgLen => 0x07FFFFC0#64
  | .ctxSel => 0x3FF#64
  | .audProf => 0x000FFFFFFFFFFFFF#64
  | .hwsCfg _ => 1#64
  | .prgWindow _ | .pwrWarnCfg => 0xFFFFFFFF#64
  | .sqtCmdArg => 0x00003FFFFFFFFFFF#64
  | .sqtCtxPages _ => 0x007FFFFF00000000#64
  | .trcTrig => 0xFFFFFFFFFFFFFFFF#64
  | .trcProgSel => 0xFFF#64
  | .lktDumpBase => 0x00FFFFFFFFF00000#64
  | .lktSel => 0x3FFF#64
  | _ => 0

/-- The bits of type RW whose reset value is the Setting's (R9), of a register whose writes nothing else governs. -/
def Reg.settingBits : Reg → Word
  | .evcGrp _ | .tgtMsgdata _ => 0xFFFFFFFF#64
  | .tgtThresh _ => 0x8000001F#64
  | .tgtMsgaddr _ => 0x00FFFFFFFFFFFFFC#64
  | .trcMask => 0xFFFFFFFFFFFFFFFF#64
  | _ => 0

/-- The bits of type W1C of a register. -/
def Reg.w1cBits : Reg → Word
  | .mpErrInfo | .tpStatus | .hwsDbrej => 0xC0000000#64
  | .setStatus | .trcStatus => 0x10000000#64
  | .sqtCmdStatus | .evcStatus => 0x80000000#64
  | .tgtStatus _ => 0x2000000000000000#64
  | .lktStop => 0x0800000000000000#64
  | .pwrEccLog => 0xC000000000000000#64
  | .chnCount _ _ => 0x30000000#64
  | .chnTxStatus _ _ => 0x38000000#64
  | _ => 0

/-- The registers that hold nothing but fields of type RO. -/
def Reg.readOnly : Reg → Bool
  | .mpErrAddr | .flStatus _ | .flErrcnt _ | .flCfg _ | .pgStatus | .pgOcc | .pgErr | .pgSweep | .partStatus _
  | .partSwitch _ | .partHint _ | .ctxReg | .ctxLive | .ctxArea | .expStatus | .expLate | .audStatus | .audKd _
  | .prgStall | .prgStatus | .prgBead _ | .hwsStatus _ | .hwsMap | .qStatus _ | .qHead _ | .qTailSeen _ | .qProg _
  | .fncEntry _ | .fncCmdStatus | .fncCycle | .seqId _ | .seqLen _ | .seqPages _ | .seqTail _ | .sqtCtxStep _
  | .poolStatus | .trcPos | .trcLost | .trcProg | .cqStatus _ | .lnkStatus | .pwrDom _ | .pwrWarn | .pwrWarnT0
  | .pwrEccCnt | .evcActive _ | .setId | .setIfrev | .setFmtrev | .setParam | .setFeature | .setBeadParam _ | .setErr
  | .setProgress | .setDigest _ | .lktBeads | .lktEntry _ | .lktBreak _ | .lktPeerCnt _ | .bdStatus _ | .bdSlot _ _
  | .bdReg _ _ | .bdTile _ _ | .ctrRun _ _ | .ctrLastHdr _ | .ctrLast _ _ | .safStatus _ | .safCnt _ | .safCyc _
  | .safErr _ | .chnRtag _ _ | .chnCfg _ _ | .chnTxCfg _ _ => true
  | _ => false

/-- The registers that hold nothing but fields of type WO. -/
def Reg.writeOnly : Reg → Bool
  | .pgCmd | .partCmd _ | .ctxCmd | .prgPop | .hwsCmd _ | .qCmd _ | .fncCmd | .sqtCmd | .trcCmd | .cqCmd _
  | .pwrDomCmd | .evcSwi | .evcPclr | .tgtComplete _ | .setCtl | .lktCmd | .dbWord _ _ | .chnCmd _ _ | .chnTxHdr _ _
  | .chnTxData _ _ => true
  | _ => false

/-- The commands of the debug port. -/
def debugCommand : Instr → Bool
  | .tapReset | .claspSegmentUpdate _ _ _ | .beadSegmentUpdate _ _ _ _ | .segmentCapture _ => true
  | _ => false

/-- The commands that can write a register under a lock: the writes by offset. -/
def offsetWrite : Instr → Bool
  | .registerWrite _ _ _ _ | .splitWriteLowerHalf _ _ _ | .splitWriteUpperHalf _ _ _ => true
  | _ => false

/-- What holds of the registers before the block: reserved bits read as zero (R10), at most one capture for each
of the sixteen values of `tp_req_src` (R42), and every table in canonical form. -/
def FrontInv (s : State) : Prop :=
  s.keys.cfg &&& ~~~keyCfgMask = 0 ∧ s.keys.audPart &&& ~~~audPartMask = 0
    ∧ Tab.wf 0 s.keys.hash = true ∧ Tab.wf none s.tp.captures = true ∧ Tab.wf none s.tp.staged = true
    ∧ Tab.wf none s.tap.beadReady = true ∧ Tab.wf 0 s.tap.beadData = true ∧ Tab.wf {} s.tap.beadSegs = true
    ∧ s.tp.captures.all (fun c => decide (c.1 < 16)) = true

/-- `b'` is `b` with source `n` raised (R439): its PEND bit is set; a trace event of class ERROR may have been
taken, or lost with source 11; nothing else differs. -/
def Raised (b b' : Block) (n : Nat) : Prop :=
  b'.evc.pends n = true ∧ (∀ k, k ≠ n → k ≠ 11 → b'.evc.pends k = b.evc.pends k)
    ∧ b' = { b with evc := { b.evc with pend := b'.evc.pend }, trace := b'.trace }

/-- R84: the block once the reader of direction `up` of the lane of Bead `n` has the message `r`, which is what the far
end has sent next; none where it is not. -/
def Block.received (p : Params) (b : Block) (n : Nat) (up : Bool) (r : Rec) : Option Block :=
  ((b.lane (p.laneOf n)).take (p.laneOf n) up [r]).map fun x => b.modLane (p.laneOf n) fun _ => x

/-- The message `r` reaches Bead `n`, which is not fenced off (R517), and acts; the lanes are then those of `b'`. -/
def ActsAtBead (p : Params) (b : Block) (n : Nat) (r : Rec) (b' : Block) : Prop :=
  b.received p n false r = some b' ∧ (b.bead n).fencedOff = false

/-- The message `r` of Bead `n`, which the Clasp has not fenced off (R516), reaches the Clasp and acts; the lanes are
then those of `b'`. -/
def ActsAtClasp (p : Params) (b : Block) (n : Nat) (r : Rec) (b' : Block) : Prop :=
  b.received p n true r = some b' ∧ (b.pbead n).state ≠ .fenced

/-- Nothing but lane `l` of the block has changed. -/
def OnlyLane (b b' : Block) (l : Nat) : Prop := (∀ k, k ≠ l → b'.lane k = b.lane k) ∧ b' = { b with lanes := b'.lanes }

/-- The end of lane `n` that sends in direction `up` drives records (R78, R89, R93, R100). -/
def Lane.may (up : Bool) (n : Nat) (x : Lane) : Bool := if up then x.beadMay n else x.claspMay n

/-- That end drives numbered records that it has not driven before (R89, R90). -/
def Lane.mayNew (up : Bool) (n : Nat) (x : Lane) : Bool :=
  x.may up n && (if up then x.bead.turn.isNone else x.want.isNone)

/-- The lane `x` with `e` at the end that sends in direction `up`. -/
def Lane.withEnd (up : Bool) (x : Lane) (e : LaneEnd) : Lane := if up then { x with bead := e } else { x with clasp := e }

/-- R85, R97: `e'` is the end `e` once it has driven, where it may, the waiting records that its credits and its replay
buffer admit, in order, a TIME with the time `t`. -/
def Pumped (may : Bool) (t : Word) (e e' : LaneEnd) : Prop :=
  ∃ k, k ≤ e.queue.length ∧ e'.queue = e.queue.drop k ∧ e'.credits + k = e.credits
    ∧ e'.replay = e.replay ++ (e.queue.take k).map (LaneRec.stamped t)
    ∧ e'.wire = e.wire ++ (e.queue.take k).map (LaneRec.stamped t)
    ∧ (e.txSeq < 256 → e'.txSeq = (e.txSeq + k) % 256)
    ∧ (may = false → k = 0)
    ∧ (may = true → k = e.queue.length ∨ e'.credits = 0 ∨ 64 ≤ e'.replay.length)
    ∧ e' = { e with queue := e'.queue, credits := e'.credits, replay := e'.replay, wire := e'.wire, txSeq := e'.txSeq }

/-- The end `e` after it has driven the link record `w`. -/
def LaneEnd.drove (e : LaneEnd) (w : Word) : LaneEnd := { e with wire := e.wire ++ [{ bits := w }], link := some w }

/-- R91: the end `e` in phase `ph`, its numbering restarted. -/
def LaneEnd.inPhase (e : LaneEnd) (ph : Nat) : LaneEnd :=
  { e with
    phase := ph, turn := none, tokens := 0, replay := [], txSeq := 0, rxNext := 0, rxUnacked := 0, rxSkip := 0
    nakRun := 0 }

/-- The next `flits` of a CHN message to queue `q` of Bead `n`, which is not fenced off (R517), reach it, with the
header of a message of `total` flits before them unless `total` is 0; the lanes are then those of `b'`. -/
def FlitsReach (p : Params) (b : Block) (n q total : Nat) (flits : List Word) (b' : Block) : Prop :=
  ((b.lane (p.laneOf n)).takePart (p.laneOf n) false (total != 0) (chnHeader p n q total) flits).map
      (fun x => b.modLane (p.laneOf n) fun _ => x) = some b' ∧ (b.bead n).fencedOff = false

/-- R396: of the words that queue `q` stores, the `m` from RP on belong to the message there; `start` says that the
word at RP may be its first. -/
def RxQueue.Rest (q : RxQueue) (start : Bool) (m : Nat) : Prop :=
  m ≤ q.stored
    ∧ (∀ j, j < m → ((q.word ((q.rp + j) % 128)).first = true → j = 0 ∧ start = true)
        ∧ ((q.word ((q.rp + j) % 128)).last = true → j + 1 = m))
    ∧ (m < q.stored → (m ≠ 0 ∧ (q.word ((q.rp + (m - 1)) % 128)).last = true)
        ∨ ((q.word ((q.rp + m) % 128)).first = true ∧ ¬ (m = 0 ∧ start = true)))

/-- No decrement waits for the pager, nothing waits for an entry, and the cache holds every entry, with room for `k`
more (R235 to R237). -/
def Block.pagerIdle (p : Params) (b : Block) (k : Nat) : Prop :=
  b.graph.full = false ∧ b.graph.router = [] ∧ b.pgEntries + k ≤ p.nodeCache

/-- Node `i` of submission `seg` has read its list, before or now from `m` (R216): the block then. -/
def Block.listed (p : Params) (b : Block) (m : MemView) (seg i : Nat) : Block := (b.claspList p m seg i).2

/-- The Clasp edges of node `i` of submission `seg`, in list order. -/
def Block.claspEdges (p : Params) (b : Block) (m : MemView) (seg i : Nat) : List Nat := ((b.listed p m seg i).node seg i).edges

/-- A node that stands in a window takes its decrements there (R224). -/
def Node.windowed (n : Node) : Prop := n.state = .forwarded ∧ n.bead ≠ none

/-- The end of node `i` of submission `seg`, whose entry stands in the cache, reaches its successors: its list is good,
each of them has an entry in the cache and a counter that covers its edges, and nothing waits for the pager. -/
def EdgesReach (p : Params) (b : Block) (m : MemView) (seg i : Nat) : Prop :=
  let es := b.claspEdges p m seg i
  (b.claspList p m seg i).1 = Status.ok ∧ (b.node seg i).spilled = false ∧ b.pagerIdle p es.length
    ∧ (b.sub seg).live = true ∧ (b.sub seg).abandoned = none
    ∧ i ∉ es ∧ (∀ e, (b.node seg i).parent = some e → e ≠ i ∧ e ∉ es)
    ∧ ∀ j, j ∈ es → let n := (b.listed p m seg i).node seg j
      n.used = true ∧ n.spilled = false ∧ j ∉ (b.sub seg).gone ∧ (n.windowed ∨ es.count j ≤ n.count)

/-- R224, R228, R230: what the end of a node with `st` makes of its successor `n`, to which it has `k` Clasp edges; `n'`
is the entry afterwards. -/
def Decremented (n n' : Node) (k : Nat) (st : Status) : Prop :=
  n' = { n with
    seen := n'.seen, order := n'.order
    pstatus := if n.pstatus = 0 then poisonOf st else n.pstatus
    count := n.count - k, state := if n.count = k then .ready else n.state }

/-- R224, R230: the records that the end of a node with `st` sends for its edges to nodes that stand in windows. -/
def Block.edgesDown (p : Params) (b c : Block) (seg : Nat) (es : List Nat) (st : Status) : Block :=
  es.foldl (fun d j =>
    let n := c.node seg j
    match n.state, n.bead with
    | .forwarded, some a =>
        (if isFailure st = true then d.sendDown p a (fenceRec p a n.win n.gen st) else d).sendDown p a
          (decRec p a n.win n.gen 1)
    | _, _ => d) b

/-- Node `i` of submission `seg` has ended with `st`, retired or released without running: it is counted, a first
failure is kept (R17), its entry is free, its successors have their decrements, in list order, and poison (R224, R228,
R230), and its parent's contribution (R294) or build (R352) its outcome. No other node and no other submission has changed. -/
def NodeEnds (p : Params) (m : MemView) (b b' : Block) (seg i : Nat) (st : Status) (released : Bool) : Prop :=
  let c := b.listed p m seg i
  let es := b.claspEdges p m seg i
  let n := b.node seg i
  b'.node seg i = {}
    ∧ (∀ j, j ≠ i → n.parent ≠ some j → j ∉ es → b'.node seg j = c.node seg j)
    ∧ (∀ j, j ∈ es → (c.node seg j).windowed →
        b'.node seg j = { c.node seg j with seen := (b'.node seg j).seen })
    ∧ (∀ j, j ∈ es → ¬ (c.node seg j).windowed → Decremented (c.node seg j) (b'.node seg j) (es.count j) st)
    ∧ (es.Nodup → ∀ j k, [j, k].Sublist es → ¬ (c.node seg j).windowed → ¬ (c.node seg k).windowed →
        (c.node seg j).count = 1 → (c.node seg k).count = 1 → (b'.node seg j).order < (b'.node seg k).order)
    ∧ b'.lanes = (b.edgesDown p c seg es st).lanes
    ∧ (∀ e, n.parent = some e →
        let x := c.node seg e
        b'.node seg e = if x.kind = 5 ∧ x.used = true then
          { x with left := x.left - 1, outcome := some (mergeStatus (x.outcome.getD 0) (poisonOf st)) } else x)
    ∧ (n.kind ≠ 2 → ∀ e, tget {} (b'.sub seg).contribs e =
        let x := tget {} (b.sub seg).contribs e
        if n.parent = some e ∧ x.used = true then
          { x with left := x.left - 1, status := if isFailure x.status = true then x.status else poisonOf st }
        else x)
    ∧ (b'.sub seg).done = (b.sub seg).done + 1
    ∧ (b'.sub seg).nreleased = (b.sub seg).nreleased + (if released = true then 1 else 0)
    ∧ (b'.sub seg).tDone = b.now
    ∧ (b'.sub seg).fail = (if isFailure st = true ∧ (b.sub seg).fail = none then some (st, i) else (b.sub seg).fail)
    ∧ ∀ k, k ≠ seg → b'.sub k = b.sub k

/-- R215, R228, R230: what one decrement, by a node that ended with `st`, makes of the node `y` in a window; one that
becomes WREADY takes place `o`. -/
def WinEntry.lowered (y : WinEntry) (st : Status) (o : Nat) : WinEntry :=
  let p := if y.pstatus = 0 then poisonOf st else y.pstatus
  if y.count ≠ 1 then { y with count := y.count - 1, pstatus := p }
  else if isFailure p = true ∧ (y.tolerant = false ∨ p = Status.aborted) then
    { y with
      count := 0, pstatus := p, state := .leaving, released := true, final := if y.eccBad = true then Status.ecc else p }
  else { y with count := 0, pstatus := p, state := .wready, order := o }

/-- A decrement finds a counter at the node in entry `x` of Bead `n`, which reads no indirect words once it is ready. -/
def Block.lowers (b : Block) (n x : Nat) : Prop :=
  (b.win n x).used = true ∧ (b.win n x).state ≠ .leaving ∧ 1 ≤ (b.win n x).count
    ∧ ((b.win n x).count = 1 → (b.win n x).indirect = 0)

/-- R82, R223: the node at entry `w` of Bead `n` leaves with its CPL; one that has retired is counted, and the 65,535th
of its submission announces those counted with a RET. -/
def Leaves (p : Params) (b b' : Block) (n w : Nat) : Prop :=
  let e := b.win n w
  let k := tget 0 (b.bead n).retCount e.seg + 1
  let c := b.sendUp p n (cplRec p n w e.gen e.final)
  let counts := e.released = false ∧ e.piece = false
  b'.win n w = {}
    ∧ b'.lanes = (if counts ∧ k = 65535 then c.sendUp p n (retRec p n e.seg k false 0) else c).lanes
    ∧ (∀ g, tget 0 (b'.bead n).retCount g =
        if counts ∧ g = e.seg then (if k = 65535 then 0 else k) else tget 0 (b.bead n).retCount g)
    ∧ tget 0 b'.front.retired n = if e.released = false then wrapAdd 32 (tget 0 b.front.retired n) 1
        else tget 0 b.front.retired n

/-- A READY node is to go to Bead `a`. -/
def Block.readyFor (b : Block) (a : Nat) : Bool :=
  b.graph.subs.any fun t => t.2.live && t.2.abandoned.isNone && t.2.nodes.any fun u =>
    u.2.used && u.2.state == .ready && u.2.bead == some a && u.2.releaseWith.isNone

/-- R303: `x'` is the tracker of `b` after a load contribution for the step `n`, of (expert, count) pairs `l`: its
interval takes the sums, kept at 2^32 - 1, and counts it; where the plan of that interval has been made it is counted in
LATE alone; outside every interval it is nothing. -/
def LoadAdded (b : Block) (n : Nat) (l : List (Nat × Nat)) (x' : Experts) : Prop :=
  let x := b.experts
  let i := match b.setting.experts with | some e => e.interval | none => 0
  let k := (n - x.start.toNat) / i
  let cell (e : Nat) : Nat := 4096 * (k % 3) + e
  let counts := x.enable = true ∧ x.start.toNat ≤ n ∧ i ≠ 0
  (¬ counts → x' = x)
    ∧ (counts → k < x.version + b2n x.planning → x' = { x with late := satAdd 16 x.late 1 })
    ∧ (counts → x.version + b2n x.planning ≤ k → x' = { x with got := x'.got, acc := x'.acc }
        ∧ (∀ a, tget 0 x'.got a = if a = k % 3 then tget 0 x.got a + 1 else tget 0 x.got a)
        ∧ ((l.map (·.1)).Nodup → ∀ t, t ∈ l → tget 0 x'.acc (cell t.1) = satAdd 32 (tget 0 x.acc (cell t.1)) t.2)
        ∧ (∀ c, (∀ t, t ∈ l → c ≠ cell t.1) → tget 0 x'.acc c = tget 0 x.acc c)
        ∧ (l = [] → x'.acc = x.acc))

/-- R303: `x'` is the tracker of `b` after a load contribution of zero for the step `n`. -/
def ZeroLoads (b : Block) (n : Nat) (x' : Experts) : Prop := LoadAdded b n [] x'

/-- R219: window entry `w` of Bead `n` is given up, and the entries that its window edges `es` name. -/
def EntryFreed (b b' : Block) (n w : Nat) (es : List Nat) : Prop :=
  ∀ k v, b'.cwin k v = { b.cwin k v with
    holder := if k = n ∧ v = w then none else (b.cwin k v).holder
    namers := if k = n ∧ v ∈ es then (b.cwin k v).namers.filter (· != w) else (b.cwin k v).namers }

/-- R462: the digests that an audited TASK of class DM reports, by tile and address; 0xFFFFFFFF is the tile of one that
is no tile list. -/
def reportedDigests (m : MemView) (param : Nat) : List (Bool × Nat × Nat) :=
  match auditReport m param with
  | none => []
  | some (role, slot, none) => [(role, 0xFFFFFFFF, slot)]
  | some (role, slot, some k) => (List.range k).map fun t => (role, t, slot + 32 * t)

/-- R420: `c` is the incoming context of partition `q`: a runnable one, SWAPPED; in an express partition one with urgent
work goes before one without; among equals, the nearest above the outgoing context `o`, counted cyclically. -/
def Chosen (b : Block) (q : Nat) (o : Option Nat) (c : Nat) : Prop :=
  let may (d : Nat) : Prop := d ∈ b.runnables q ∧ (b.ctx d).state = .swapped
  may c ∧ ∀ d, may d → d ≠ c →
    ((b.partSec q).express = true ∧ b.urgentWork c = true ∧ b.urgentWork d = false)
    ∨ (((b.partSec q).express = true → b.urgentWork d = b.urgentWork c) ∧ ctxDistance o c < ctxDistance o d)

/-! ## The Saffron unit -/

/-- Element `k` of tile `t`, row by row. -/
def Saffron.elt (u : Saffron) (t k : Nat) : Elt := ((u.tile t)[k]?).getD 0

/-- Bit `k` of mask `m`, row by row. -/
def Saffron.bitAt (u : Saffron) (m k : Nat) : Bool := ((u.mask m)[k]?).getD false

/-- MU and MSEL of `f` take element `k` (R316). -/
def Saffron.takes (u : Saffron) (f : TFmt) (k : Nat) : Bool := !f.mu || u.bitAt f.msel.toNat k

/-- No tile and no mask of the unit lists more than its 1,024 elements. -/
def Saffron.sized (u : Saffron) : Prop :=
  ∀ t, (tget [] u.tiles t).length ≤ 1024 ∧ (tget [] u.masks t).length ≤ 1024

/-- The word `w` stands at PC of the program that runs on Bead `n`. -/
def SaffronAt (b : Block) (n w : Nat) : Prop := b.current n = some w ∧ (b.saf n).sized

/-- The program of Bead `n` is within the budget of R312 and has an instruction at `pc`, of an operation of R313. -/
def HasInstr (b : Block) (n pc : Nat) : Prop := (b.saf n).instr < 16777216 ∧
  ∃ x w, (b.saf n).exp = some x ∧ x.prog[pc]? = some w ∧ knownOp (w.toNat / 2 ^ 24) = true

/-- The unit after an instruction of `alu` bc, with PC at `pc`. -/
def Saffron.stepped (u : Saffron) (alu pc : Nat) : Saffron :=
  { u with pc := pc, instr := u.instr + 1, aluBc := u.aluBc + alu }

/-- Command `i` leaves the Saffron unit of Bead `n` as `u`, and changes nothing else. -/
def Ran (s : State) (i : Instr) (n : Nat) (u : Saffron) : Prop :=
  ∃ b, exec i s = .next { s with blk := b } ∧ b.saf n = u ∧ (∀ k, k ≠ n → b.saf k = s.blk.saf k)
    ∧ b = { s.blk with saffron := b.saffron }

/-- The program of Bead `n` fails in the instruction at PC with `cause` and `st` (R336). -/
def Failed (s : State) (i : Instr) (n cause : Nat) (st : Status) : Prop :=
  ∃ u x, (s.blk.saf n).exp = some x ∧ Ran s i n u ∧ u = { s.blk.saf n with
    errV := true, errCause := cause, errPc := (s.blk.saf n).pc % 4096,
    exp := some { x with fail := some st, stage := .retiring } }

/-- R316, R317, R320: the operation `op` of format T writes `g A B` into each element of D that MU and MSEL take; SAT
is set where `sat`, and NAN where `nan`, holds of such an element; an encoding that is not `legal` fails with cause 3
(R313), and the instruction after the last that the budget allows with cause 8 (R312). -/
def Elementwise (i : Nat → TFmt → Instr) (op : Nat) (legal : TFmt → Bool) (g : TFmt → Elt → Elt → Elt)
    (sat nan : TFmt → Elt → Elt → Bool) : Prop :=
  ∀ (s : State) (n : Nat) (f : TFmt), SaffronAt s.blk n (op * 2 ^ 24 + f.enc) →
    (legal f = true → HasInstr s.blk n ((s.blk.saf n).pc + 1) → ∃ u, Ran s (i n f) n u
      ∧ (∀ k, k < 1024 → u.elt f.d.toNat k = if (s.blk.saf n).takes f k = true
          then g f ((s.blk.saf n).elt f.a.toNat k) ((s.blk.saf n).elt f.b.toNat k) else (s.blk.saf n).elt f.d.toNat k)
      ∧ (∀ t, t ≠ f.d.toNat → u.tile t = (s.blk.saf n).tile t)
      ∧ (u.sat = true ↔ ((s.blk.saf n).sat = true ∨ ∃ k, k < 1024 ∧ (s.blk.saf n).takes f k = true
          ∧ sat f ((s.blk.saf n).elt f.a.toNat k) ((s.blk.saf n).elt f.b.toNat k) = true))
      ∧ (u.nan = true ↔ ((s.blk.saf n).nan = true ∨ ∃ k, k < 1024 ∧ (s.blk.saf n).takes f k = true
          ∧ nan f ((s.blk.saf n).elt f.a.toNat k) ((s.blk.saf n).elt f.b.toNat k) = true))
      ∧ u = { (s.blk.saf n).stepped 2 ((s.blk.saf n).pc + 1) with tiles := u.tiles, sat := u.sat, nan := u.nan })
    ∧ (legal f = false → Failed s (i n f) n 3 Status.format)
    ∧ (legal f = true → (s.blk.saf n).instr = 16777216 → Failed s (i n f) n 8 Status.capacity)

end Sys2Proof.Machine
end

