-- ==== Sys2Proof/Certificates/Slice0/Obligations.lean ====
section
/-! DEFINITION. The statements for the provers. -/

section
open Sys2Proof Sys2Proof.Machine

/-- The step takes the command at the front of the queue and answers what the command answers, run with the rest of
the queue waiting. On an empty queue global time, "a count of 1 ns ticks", advances by one, and the stall monitor
notes since when each busy unit has been busy without a break (R172). The model's choice (log 3). -/
def Obligations.StepRunsTheFrontCommand : Prop :=
  (∀ (c : Instr) (rest : List Instr) (s : State),
    step { s with pending := c :: rest } = exec c { s with pending := rest })
  ∧ (∀ s : State, s.pending = [] → ∃ t,
    step s = .next { s with blk := { s.blk with now := s.blk.now + 1, front := { s.blk.front with busy := t } } }
    ∧ ∀ k, tget none t k = if k ∈ s.blk.busyUnits then some ((tget none s.blk.front.busy k).getD s.blk.now) else none)

/-- R501: every command answers a next state but the loss of domain 0, after which "the block's behaviour is undefined
until cold reset". -/
def Obligations.OnlyTheLossOfCoreStops : Prop :=
  ∀ (c : Instr) (s : State),
    ((∀ m, c ≠ .domainLoss 0 m) → ∃ t, exec c s = .next t)
    ∧ ∀ m, exec (.domainLoss 0 m) s = .fault .coreDomainLost

/-- What holds of the registers before the block holds at reset. -/
def Obligations.FrontInvariantAtReset : Prop :=
  FrontInv State.reset

/-- Every step keeps what holds of the registers before the block (R10, R42, R112, R456). -/
def Obligations.FrontInvariantIsKept : Prop :=
  ∀ s t : State, FrontInv s → step s = .next t → FrontInv t

/-- What stands before the block changes only under the commands that name it: the instance and the queue of waiting
commands never; the debug port's segments by the commands of that port (R64, R481); the registers under a lock by a
write at their offset, or by cold reset; the target port's own state by its accesses, by cold reset, and by the end of
the storage's initialisation. -/
def Obligations.FrontChangesOnlyByItsCommands : Prop :=
  ∀ (c : Instr) (s t : State), exec c s = .next t →
    t.params = s.params ∧ t.pending = s.pending
    ∧ (debugCommand c = false → t.tap = s.tap)
    ∧ (offsetWrite c = false → c ≠ .coldResetAssert → t.keys = s.keys)
    ∧ (c.access = none → c ≠ .coldResetAssert → c ≠ .storageInitDone → t.tp = s.tp)

/-- R112: while LOCK of SET_KEY_CFG is 1, no command but cold reset changes SET_KEYHASH or SET_KEY_CFG, LOCK itself
among its bits; R456 says the same of CLS_AUD_PART and its LOCK. -/
def Obligations.LocksHoldUntilColdReset : Prop :=
  ∀ (c : Instr) (s t : State), exec c s = .next t → c ≠ .coldResetAssert →
    (s.keys.locked = true → t.keys.hash = s.keys.hash ∧ t.keys.cfg = s.keys.cfg ∧ t.keys.locked = true)
    ∧ (s.keys.audLocked = true → t.keys.audPart = s.keys.audPart ∧ t.keys.audLocked = true)

/-- R36, R39: an access that is presented while `tp_req_ready` is low is not accepted and changes nothing; every
accepted access gets one response, and one that is answered DECODE or DENIED changes nothing else. -/
def Obligations.EveryAcceptedAccessIsAnswered : Prop :=
  ∀ (c : Instr) (a : Acc) (s : State), c.access = some a →
    (s.tp.ready = false → exec c s = .next s)
    ∧ (s.tp.ready = true → ∃ t rsp, exec c s = .next t ∧ t.tp.rsp = some rsp ∧ t.tp.ready = true
        ∧ (rsp.err ≠ .ok → rsp.data = 0 ∧ t = s.respond rsp.err 0))

/-- R133 to R135: the map of the register window. Every register that stands in the instance is found at its offset,
at its own size and, when it has 64 bits, by either half; and an access that finds a register begins at its offset, or
4 above it for the upper half of a 64-bit register, at a size that the register admits. R526: the block judges each
access of the target port in the order DECODE, DENIED, unreachable (R137), performed; only the third is recorded in
CLS_TP_STATUS. A write of an identification register is answered OK and ignored (R140). Some clauses also rest on the
model's choices of logs 53 and 89. -/
def Obligations.AccessesAreFoundAndJudged : Prop :=
  ((∀ (p : Params) (r : Reg), r.mapped p = true →
    r.offset < 2 ^ 26 ∧ decodeReg p r.offset r.is64 = some (r, false)
    ∧ decodeReg p r.offset false = some (r, false)
    ∧ (r.is64 = true → decodeReg p (r.offset + 4) false = some (r, true)))
  ∧ ∀ (p : Params) (off : Nat) (size64 : Bool) (r : Reg) (upper : Bool),
    decodeReg p off size64 = some (r, upper) →
    r.mapped p = true ∧ off = r.offset + (if upper then 4 else 0)
    ∧ (size64 = true → r.is64 = true ∧ upper = false) ∧ (upper = true → r.is64 = true))
  ∧ (∀ (s : State) (a : Acc) (addr : BitVec 26) (size64 : Bool) (d : Word), s.tp.ready = true →
    (decodeReg s.params addr.toNat size64 = none →
      exec (.unreachableRead a addr size64) s = .next (s.respond .decode 0)
      ∧ exec (.registerWrite a addr size64 d) s = .next (s.respond .decode 0))
    ∧ ∀ r u, decodeReg s.params addr.toNat size64 = some (r, u) →
      (a.priv = false → r.userOpen false = false →
        exec (.unreachableRead a addr size64) s = .next (s.respond .denied 0))
      ∧ (a.priv = false → r.userOpen true = false →
        exec (.registerWrite a addr size64 d) s = .next (s.respond .denied 0))
      ∧ ((a.priv = true ∨ r.userOpen false = true) → s.blk.reachable s.params r false = false →
        exec (.unreachableRead a addr size64) s = .next (State.respond
          { s with blk := s.blk.recordUnreachable ((s.blk.placeOf s.params r false).getD 63) false } .ok 0))
      ∧ ((a.priv = true ∨ r.userOpen true = true) → s.blk.reachable s.params r true = false →
        exec (.registerWrite a addr size64 d) s = .next (State.respond
          { s with blk := s.blk.recordUnreachable ((s.blk.placeOf s.params r true).getD 63) true } .ok 0))
      ∧ (Performs s a r false → ∃ t, exec (.unreachableRead a addr size64) s = .next t
        ∧ (∃ v, t.tp.rsp = some { err := .ok, data := v }) ∧ t.blk.tpStatus = s.blk.tpStatus)
      ∧ (Performs s a r true → u = false → (size64 = true ∨ r.is64 = false) →
        (r ∈ [.setId, .setIfrev, .setFmtrev, .setParam, .setFeature] ∨ ∃ i, r = .setBeadParam i) →
        exec (.registerWrite a addr size64 d) s = .next ((s.unstage r).respond .ok 0)))

/-- R14, R42: the read of the lower half of a 64-bit register captures its upper half with its offset, for the
initiator, in place of any capture that it holds; a later read of the upper half of that register by that initiator
returns the captured value, whatever the block has become, and a read of any other upper half, or by an initiator with
no capture, the register's current one. R13, R43: the lower half of a split write is staged for its register and
changes nothing else; the write of the upper half completes the register with it, or with the current lower half where
none is staged, and consumes it; a single 64-bit write does the same as the two halves and discards a staged half.
R10, R9: what a performed write of a register does bit by bit, by the access types of its table: bits of type RW take
what is written, those whose reset value is the Setting's only while a Setting is in force (SET_STATUS.STATE is
neither EMPTY nor LOADING); a bit of type W1C is cleared where a 1 is written; no bit of a register of RO fields
moves; a register of WO fields reads zero before and after; and a write of a register with bits of the first three
types moves no other bit of it, but for what LKT_SEL and TRC_PROG_SEL show of the ring and the queue that they select.
-/
def Obligations.SplitAccessesAreWhole : Prop :=
  (∀ (s : State) (a : Acc) (lo hi : BitVec 26) (r : Reg),
    decodeReg s.params lo.toNat false = some (r, false) → decodeReg s.params hi.toNat false = some (r, true) →
    r.is64 = true → Performs s a r false →
    (∃ t, exec (.splitReadLowerHalf a lo) s = .next t
      ∧ t = { s with tp := t.tp, blk := (s.readEffect r).1.blk }
      ∧ t.tp = { s.tp with captures := t.tp.captures
                           rsp := some { err := .ok, data := ((s.readEffect r).2.setWidth 32).setWidth 64 } }
      ∧ (∀ k, tget none t.tp.captures k = if k = a.src.toNat
          then some { offset := r.offset, upper := (s.readEffect r).2.extractLsb' 32 32 } else tget none s.tp.captures k)
      ∧ ∀ (b : Block) (a' : Acc), a'.src = a.src → Performs { t with blk := b } a' r false →
          exec (.unreachableRead a' hi false) { t with blk := b } = .next
            (State.respond { t with blk := b } .ok (((s.readEffect r).2.extractLsb' 32 32).setWidth 64)))
    ∧ ((∀ c, tget none s.tp.captures a.src.toNat = some c → c.offset ≠ r.offset) →
        exec (.unreachableRead a hi false) s =
          .next (s.respond .ok (((s.regRead r).extractLsb' 32 32).setWidth 64)))
    ∧ ((∀ t, r ≠ .tgtClaim t) → (∀ n q, r ≠ .chnRd n q 0) → s.readEffect r = (s, s.regRead r)))
  ∧ (∀ (s : State) (a a' : Acc) (lo hi : BitVec 26) (r : Reg) (l h : BitVec 32),
    decodeReg s.params lo.toNat false = some (r, false) → decodeReg s.params hi.toNat false = some (r, true) →
    decodeReg s.params lo.toNat true = some (r, false) → Performs s a r true → Performs s a' r true →
    (∃ t, exec (.splitWriteLowerHalf a lo l) s = .next t
      ∧ t = { s with tp := { s.tp with staged := t.tp.staged, rsp := some { err := .ok, data := 0 } } }
      ∧ (∀ k, tget none t.tp.staged k = if k = r.offset then some l else tget none s.tp.staged k)
      ∧ ∃ u, exec (.splitWriteUpperHalf a' hi h) t = .next u ∧ u.blk = (s.regWrite r (h ++ l)).blk
        ∧ u.keys = (s.regWrite r (h ++ l)).keys ∧ tget none u.tp.staged r.offset = none)
    ∧ (∃ u, exec (.splitWriteUpperHalf a hi h) s = .next u
        ∧ u = { (s.regWrite r (h ++ (tget none s.tp.staged r.offset).getD ((s.regRead r).setWidth 32))) with tp := u.tp }
        ∧ u.tp = { s.tp with staged := u.tp.staged, rsp := some { err := .ok, data := 0 } }
        ∧ ∀ k, tget none u.tp.staged k = if k = r.offset then none else tget none s.tp.staged k)
    ∧ ∃ u, exec (.registerWrite a lo true (h ++ l)) s = .next u ∧ u = { s.regWrite r (h ++ l) with tp := u.tp }
        ∧ u.tp = { s.tp with staged := u.tp.staged, rsp := some { err := .ok, data := 0 } }
        ∧ ∀ k, tget none u.tp.staged k = if k = r.offset then none else tget none s.tp.staged k)
  ∧ (∀ (s : State) (a : Acc) (addr : BitVec 26) (size64 : Bool) (d : Word) (r : Reg),
    decodeReg s.params addr.toNat size64 = some (r, false) → (size64 = true ∨ r.is64 = false) → Performs s a r true →
    ∃ t, exec (.registerWrite a addr size64 d) s = .next t
      ∧ t.regRead r &&& r.rwBits = d &&& r.rwBits
      ∧ (s.blk.loader.inForce = true → t.regRead r &&& r.settingBits = d &&& r.settingBits)
      ∧ (s.blk.loader.inForce = false → t.regRead r &&& r.settingBits = s.regRead r &&& r.settingBits)
      ∧ t.regRead r &&& r.w1cBits = (s.regRead r &&& ~~~d) &&& r.w1cBits
      ∧ (r.readOnly = true → t.regRead r = s.regRead r ∧ t.blk = s.blk ∧ t.keys = s.keys)
      ∧ (r.writeOnly = true → s.regRead r = 0 ∧ t.regRead r = 0)
      ∧ (r.rwBits ||| r.settingBits ||| r.w1cBits ≠ 0 → r ≠ .lktSel → r ≠ .trcProgSel →
          t.regRead r &&& ~~~(r.rwBits ||| r.settingBits ||| r.w1cBits)
            = s.regRead r &&& ~~~(r.rwBits ||| r.settingBits ||| r.w1cBits)))

/-- R64: "dp_trst_n and pp_cold_rst_n are independent, so cold reset leaves the TAP state unchanged and TAP reset
leaves every other state of the block unchanged." Cold reset also leaves every register, queue and buffer at its reset
value (R504). That the levels at input pins survive it is the model's choice (log 97), as is the counter of free
values, which goes on (log 4). -/
def Obligations.ResetsAreIndependent : Prop :=
  (∀ s : State, ∃ t, exec .coldResetAssert s = .next t
    ∧ t.tap = s.tap ∧ t.params = s.params ∧ t.pending = s.pending ∧ t.tp = {} ∧ t.keys = {}
    ∧ t.blk = { inReset := true, free := s.blk.free, lanes := t.blk.lanes, link := { up := s.blk.link.up }
                power := { warnIn := s.blk.power.warnIn } }
    ∧ ∀ n, t.blk.lane n = { clasp := { trained := (s.blk.lane n).clasp.trained }
                            bead := { trained := (s.blk.lane n).bead.trained } })
  ∧ ∀ s : State, exec .tapReset s = .next { s with tap := {} }

/-- R481, R482: the debug port. A debug read of the identification range, and of LKT_ENTRY while the port's own
LKT_SEL names the Clasp, completes at once with the register's value; one outside the two ranges with 0; any other
waits, and its value is there once it has completed. A write reaches only the port's own LKT_SEL. The next capture
loads the value with DONE = 1, or 0 with DONE = 0 while the read waits. The fields of both segments stand as they were
shifted in, in the order of R481. A Bead's segment reads a word of its rings or its trace buffer, which the next
capture loads. Nothing of the block changes, but for the values that the model draws where the spec says nothing (log
54). -/
def Obligations.SegmentsReadTheirSources : Prop :=
  (∀ (s : State) (o : BitVec 26) (d : Word),
    exec (.claspSegmentUpdate o true d) s = .next { s with tap := { s.tap with
      addr := o, write := true, go := true, data := d
      lktSel := if o.toNat = Reg.lktSel.offset then BitVec.ofNat 14 (fld d 13 0) else s.tap.lktSel } })
  ∧ (∀ (t : Tap) (i : Nat), t.claspBits.getLsbD i =
      if i < 64 then t.data.getLsbD i else if i = 64 then t.done else if i = 65 then t.go else if i = 66 then t.write
      else t.addr.getLsbD (i - 67))
  ∧ (∀ (t : Tap) (n i : Nat), (t.beadBits n).getLsbD i =
      if i < 64 then (tget 0 t.beadData n).getLsbD i else if i = 64 then (tget {} t.beadSegs n).go
      else if i < 67 then (tget {} t.beadSegs n).word.getLsbD (i - 65)
      else if i < 75 then (tget {} t.beadSegs n).entry.getLsbD (i - 67)
      else (tget {} t.beadSegs n).ring.getLsbD (i - 75))
  ∧ (∀ (s : State) (o : BitVec 26) (d : Word),
    let s' : State := { s with tap := { s.tap with addr := o, write := false, go := true, data := d } }
    (inIdent o.toNat = false → inLkt o.toNat = false →
      exec (.claspSegmentUpdate o false d) s = .next { s' with tap := { s'.tap with waiting := none, ready := some 0 } })
    ∧ ((inIdent o.toNat = true ∨ inLkt o.toNat = true) → s.tckRead o.toNat = true →
      exec (.claspSegmentUpdate o false d) s = .next { s' with tap := { s'.tap with
        waiting := none, ready := some (s.debugValue o.toNat) } })
    ∧ (inLkt o.toNat = true → s.tckRead o.toNat = false → ∃ t, exec (.claspSegmentUpdate o false d) s = .next t
      ∧ ((t.tap.waiting = some o.toNat ∧ t.tap.ready = none)
        ∨ (t.tap.waiting = none ∧ t.tap.ready = some (State.debugValue { s with
            tap := { s.tap with waiting := some o.toNat, ready := none } } o.toNat)))
      ∧ t = { s' with blk := s.blk.draw.2, tap := { s'.tap with waiting := t.tap.waiting, ready := t.tap.ready } }))
  ∧ (∀ (s : State) (n : Nat) (r e : BitVec 8) (w : BitVec 2), n < s.params.nBeads →
    let segs := tset {} s.tap.beadSegs n { ring := r, entry := e, word := w, go := true }
    ((s.blk.dom (8 + 2 * n)).state ≠ .off → ∃ v, exec (.beadSegmentUpdate n r e w) s = .next { s with tap := { s.tap with
        beadSegs := segs, beadReady := tset none s.tap.beadReady n (some v) } }
      ∧ (r.toNat ≤ 192 → e.toNat < 64 → w.toNat < 2 → v = s.blk.lkt.ringWord n r.toNat e.toNat w.toNat)
      ∧ (r.toNat = 193 → v = ((((s.blk.bead n).trace[e.toNat]?).getD [])[w.toNat]?).getD 0)
      ∧ (193 < r.toNat ∨ (r.toNat ≤ 192 ∧ (64 ≤ e.toNat ∨ 2 ≤ w.toNat)) → v = 0))
    ∧ ((s.blk.dom (8 + 2 * n)).state = .off → ∃ v, exec (.beadSegmentUpdate n r e w) s = .next { s with
        blk := s.blk.draw.2
        tap := { s.tap with beadSegs := segs, beadReady := tset none s.tap.beadReady n (some v) } }))
  ∧ (∀ (s : State) (n : Nat) (r e : BitVec 8) (w : BitVec 2), s.params.nBeads ≤ n →
    exec (.beadSegmentUpdate n r e w) s = .next s)
  ∧ (∀ (s : State), s.tap.waiting = none →
    (∀ v, s.tap.ready = some v → exec (.segmentCapture none) s = .next { s with tap := { s.tap with
      data := v, done := true, ready := none } })
    ∧ (s.tap.ready = none → exec (.segmentCapture none) s = .next s))
  ∧ (∀ (s : State) (o : Nat), s.tap.waiting = some o → s.tap.ready = none →
    ∃ t, exec (.segmentCapture none) s = .next t
      ∧ ((t.tap.done = false ∧ t.tap.data = 0 ∧ t.tap.waiting = some o)
        ∨ (t.tap.done = true ∧ t.tap.waiting = none ∧ t.tap.data = s.debugValue o))
      ∧ t = { s with blk := s.blk.draw.2, tap := { s.tap with
          data := t.tap.data, done := t.tap.done, waiting := t.tap.waiting } })
  ∧ ∀ (s : State) (n : Nat),
    (∀ v, tget none s.tap.beadReady n = some v → exec (.segmentCapture (some n)) s = .next { s with tap := { s.tap with
      beadReady := tset none s.tap.beadReady n none, beadData := tset 0 s.tap.beadData n v } })
    ∧ (tget none s.tap.beadReady n = none → exec (.segmentCapture (some n)) s = .next s)

/-- R439, R438, R451: a unit's raising, an external level and a write of EVC_SWI each raise their source: its PEND bit
is set and nothing else of the block changes but the record that the trace takes of it (R471); a write of EVC_SWI that
names source 0 sets REJ. R451, R453, R9: a write of an EVC_PEND or EVC_MASK word sets all 64 bits to the value
written, but that source 0 never becomes pending (R438); EVC_PCLR clears one PEND bit; a write of EVC_SRC_CFG gives
the source its AUTOMASK and, while a Setting is in force, its group, target and priority, and is refused with REJ for
source 0 and for a priority with a target that the instance lacks. R444, R446, R449: a hold-off ends when its time has
come; an armed message target with a winner presents one 4-byte write of MSG_DATA to MSG_ADDR, of traffic class
RECORD, once the port has an identity for it and the write that its event reports is acknowledged (R49), and is no
longer armed; a target is armed again for each message write that failed; EVC_SYNC reads 0. Some clauses also rest on
the model's choices of logs 7, 118 and 120. -/
def Obligations.EventSourcesAreRaisedAndDelivered : Prop :=
  ((∀ (s : State) (src : BitVec 11), internalSource src.toNat = true →
    ∃ b, exec (.eventRaise src) s = .next { s with blk := b } ∧ Raised s.blk b src.toNat)
  ∧ (∀ (s : State) (n : Nat), s.blk.inReset = false → n < s.params.extEvents → s.params.extEvents < 2048 →
    ∃ b, exec (.externalEventLevel n) s = .next { s with blk := b }
      ∧ Raised s.blk b (2048 - s.params.extEvents + n))
  ∧ (∀ (s : State) (a : Acc) (d : BitVec 32), Performs s a .evcSwi true → d.toNat % 2048 ≠ 0 →
    ∃ b, exec (.evcSwi a d) s = .next (s.wrote .evcSwi b) ∧ Raised s.blk b (d.toNat % 2048))
  ∧ ∀ (s : State) (a : Acc) (d : BitVec 32), Performs s a .evcSwi true → d.toNat % 2048 = 0 →
    exec (.evcSwi a d) s = .next (s.wrote .evcSwi { s.blk with evc := { s.blk.evc with rej := true } }))
  ∧ ((∀ (s : State) (a : Acc) (w : BitVec 5) (d : Word), Performs s a (.evcPend w.toNat) true →
    ∃ v, exec (.evcPendWrite a w d) s =
        .next (s.wrote (.evcPend w.toNat) { s.blk with evc := { s.blk.evc with pend := v } })
      ∧ ∀ k, k < 2048 → v.getLsbD k =
          if k = 0 then false else if k / 64 = w.toNat then d.getLsbD (k % 64) else s.blk.evc.pends k)
  ∧ (∀ (s : State) (a : Acc) (w : BitVec 5) (d : Word), Performs s a (.evcMask w.toNat) true →
    ∃ v, exec (.evcMaskWrite a w d) s =
        .next (s.wrote (.evcMask w.toNat) { s.blk with evc := { s.blk.evc with mask := v } })
      ∧ ∀ k, k < 2048 → v.getLsbD k = if k / 64 = w.toNat then d.getLsbD (k % 64) else s.blk.evc.masked k)
  ∧ (∀ (s : State) (a : Acc) (d : BitVec 32), Performs s a .evcPclr true → d.toNat % 2048 ≠ 0 →
    ∃ v, exec (.evcPclr a d) s = .next (s.wrote .evcPclr { s.blk with evc := { s.blk.evc with pend := v } })
      ∧ ∀ k, k < 2048 → v.getLsbD k = if k = d.toNat % 2048 then false else s.blk.evc.pends k)
  ∧ (∀ (s : State) (a : Acc) (src : BitVec 11) (d : BitVec 32), Performs s a (.evcSrcCfg src.toNat) true →
    (src = 0 ∨ (d.extractLsb' 0 5 ≠ 0 ∧ s.params.evTargets ≤ (d.extractLsb' 8 6).toNat) →
      exec (.evcSrcCfgWrite a src d) s =
        .next (s.wrote (.evcSrcCfg src.toNat) { s.blk with evc := { s.blk.evc with rej := true } }))
    ∧ (src ≠ 0 → (d.extractLsb' 0 5 = 0 ∨ (d.extractLsb' 8 6).toNat < s.params.evTargets) →
      exec (.evcSrcCfgWrite a src d) s = .next (s.wrote (.evcSrcCfg src.toNat) (s.blk.modEvSrc src.toNat fun x =>
        if s.blk.loader.inForce = true then
          { x with automask := d.getLsbD 24, group := d.extractLsb' 14 7, target := d.extractLsb' 8 6,
                   prio := d.extractLsb' 0 5 }
        else { x with automask := d.getLsbD 24 })))))
  ∧ ((∀ (s : State) (g : BitVec 7) (e : Nat), (s.blk.evGroup g.toNat).ends = some e → e ≤ s.blk.now →
    exec (.holdoffExpiry g) s =
      .next { s with blk := s.blk.modEvGroup g.toNat fun x => { x with ends := none } })
  ∧ (∀ (s : State) (t : Nat), (s.blk.evTarget t).msg = true → (s.blk.evTarget t).armed = true →
    s.blk.winner t ≠ 0 → s.blk.reportDue (s.blk.winner t) = false → (s.blk.mp.freeWrite 63).isSome = true →
    exec (.messageWrite t) s = .next { s with
      blk := (s.blk.put 63 2 (s.blk.evTarget t).msgAddr.toNat (leBytes 4 (s.blk.evTarget t).msgData.toNat)
        (.message t)).modEvTarget t fun x => { x with armed := false } })
  ∧ (∀ (s : State) (t : Nat), s.blk.reportDue (s.blk.winner t) = true → exec (.messageWrite t) s = .next s)
  ∧ (∀ (s : State) (t k : Nat), (s.blk.evTarget t).rearm = k + 1 →
    exec (.rearmTimer t) s =
      .next { s with blk := s.blk.modEvTarget t fun x => { x with armed := true, rearm := k } })
  ∧ ∀ (s : State) (a : Acc), Performs s a .evcSync false → exec (.evcSync a) s = .next (s.respond .ok 0))

/-- R440: eff(t) is the greatest of the target's threshold and the priorities held by the sources active at it; a
source is eligible when it is pending, not masked, not active, and t is its target, its priority above eff(t), and its
group not in hold-off; and winner(t) is the eligible source of greatest priority, ties to the lower, 0 when there is
none. -/
def Obligations.WinnerIsTheGreatestEligible : Prop :=
  ∀ (b : Block) (t : Nat), Tab.wf {} b.evc.srcs = true →
    ((b.evTarget t).thresh.toNat ≤ b.evc.eff t
      ∧ (∀ s, b.evc.isActive s = true → (b.evSrc s).owner = t → (b.evSrc s).aprio ≤ b.evc.eff t)
      ∧ (b.evc.eff t = (b.evTarget t).thresh.toNat
        ∨ ∃ s, b.evc.isActive s = true ∧ (b.evSrc s).owner = t ∧ b.evc.eff t = (b.evSrc s).aprio))
    ∧ (∀ s, b.eligible s t = true ↔ b.evc.pends s = true ∧ b.evc.masked s = false ∧ b.evc.isActive s = false
        ∧ (b.evSrc s).target.toNat = t ∧ b.evc.eff t < (b.evSrc s).prio.toNat
        ∧ ∀ e, (b.evGroup (b.evSrc s).group.toNat).ends = some e → e ≤ b.now)
    ∧ (b.winner t = 0 → ∀ s, s ≠ 0 → b.eligible s t = false)
    ∧ (b.winner t ≠ 0 → b.eligible (b.winner t) t = true ∧ ∀ s, s ≠ 0 → b.eligible s t = true →
        (b.evSrc s).prio.toNat < (b.evSrc (b.winner t)).prio.toNat
        ∨ ((b.evSrc s).prio.toNat = (b.evSrc (b.winner t)).prio.toNat ∧ b.winner t ≤ s))

/-- R442: "A read of EVC_TGT_CLAIM of target t, and a write of a source number to EVC_TGT_COMPLETE of t, act as the
pseudocode below states." The claim returns the winner, moves it from pending to active with its owner and the
priority it was claimed at, masks it where AUTOMASK says so, starts its group's hold-off (R444) and arms the target;
with no winner it returns 0 and changes nothing. The completion of a source that the target owns ends its activity and
arms the target; any other sets CERR and changes nothing else. -/
def Obligations.ClaimAndComplete : Prop :=
  (∀ (s : State) (a : Acc) (t : Nat), Performs s a (.tgtClaim t) false → s.blk.winner t = 0 →
    exec (.evcTgtClaim a t) s = .next (s.respond .ok 0))
  ∧ (∀ (s : State) (a : Acc) (t w : Nat), Performs s a (.tgtClaim t) false → s.blk.winner t = w → w ≠ 0 →
    ∃ b, exec (.evcTgtClaim a t) s = .next (State.respond { s with blk := b } .ok (BitVec.ofNat 64 w))
      ∧ b = { s.blk with evc := { s.blk.evc with
          pend := b.evc.pend, active := b.evc.active, mask := b.evc.mask, srcs := b.evc.srcs, groups := b.evc.groups,
          targets := b.evc.targets } }
      ∧ (∀ k, k < 2048 → b.evc.pends k = if k = w then false else s.blk.evc.pends k)
      ∧ (w < 2048 → ∀ k, b.evc.isActive k = if k = w then true else s.blk.evc.isActive k)
      ∧ (w < 2048 → ∀ k, b.evc.masked k =
          if k = w ∧ (s.blk.evSrc w).automask = true then true else s.blk.evc.masked k)
      ∧ (∀ k, b.evSrc k = if k = w
          then { s.blk.evSrc k with owner := t, aprio := (s.blk.evSrc k).prio.toNat } else s.blk.evSrc k)
      ∧ (∀ g, b.evGroup g = if g = (s.blk.evSrc w).group.toNat
          then { s.blk.evGroup g with
            ends := if (s.blk.evGroup g).holdoffNs = 0 then none
              else some (s.blk.now + (s.blk.evGroup g).holdoffNs.toNat) }
          else s.blk.evGroup g)
      ∧ ∀ k, b.evTarget k = if k = t then { s.blk.evTarget k with armed := true } else s.blk.evTarget k)
  ∧ (∀ (s : State) (a : Acc) (t : Nat) (d : BitVec 32), Performs s a (.tgtComplete t) true →
    s.blk.evc.isActive (d.toNat % 2048) = true → (s.blk.evSrc (d.toNat % 2048)).owner = t →
    ∃ b, exec (.evcTgtComplete a t d) s = .next (s.wrote (.tgtComplete t) b)
      ∧ b = { s.blk with evc := { s.blk.evc with
          active := b.evc.active, srcs := b.evc.srcs, targets := b.evc.targets } }
      ∧ (∀ k, k < 2048 → b.evc.isActive k = if k = d.toNat % 2048 then false else s.blk.evc.isActive k)
      ∧ (∀ k, b.evSrc k = if k = d.toNat % 2048 then { s.blk.evSrc k with owner := 0, aprio := 0 } else s.blk.evSrc k)
      ∧ ∀ k, b.evTarget k = if k = t then { s.blk.evTarget k with armed := true } else s.blk.evTarget k)
  ∧ ∀ (s : State) (a : Acc) (t : Nat) (d : BitVec 32), Performs s a (.tgtComplete t) true →
    (s.blk.evc.isActive (d.toNat % 2048) = false ∨ (s.blk.evSrc (d.toNat % 2048)).owner ≠ t) →
    exec (.evcTgtComplete a t d) s =
      .next (s.wrote (.tgtComplete t) (s.blk.modEvTarget t fun x => { x with cerr := true }))

/-- R46, R48, R51: an answer frees the identity of its request, and the oldest request that its port holds goes out;
an acknowledge lets the reads go out that waited for its write. The data of a node's record reach its window entry. A
write acknowledge without an error changes nothing else; the first error response since the last clear is recorded
with its address and what it names, and raises source 1, and "every other write, trace ring writes included, is
recorded only". Some clauses also rest on the model's choices of logs 8, 56 and 98. -/
def Obligations.MemoryAnswersReachTheirRequests : Prop :=
  (∀ (s : State) (port : Nat) (id : BitVec 8) (codes : List (BitVec 2)) (data : List Word) (m : MemView) (r : RReq)
      (n w g : Nat) (sub : Option (Nat × Nat)), s.blk.mp.reads.find? (fun x => x.port == port && x.id == id.toNat) = some r →
    r.purpose = .nodeRecord n w g sub → codes.all (· == 0#2) = true → (s.blk.win n w).used = true →
    (s.blk.win n w).gen = g → (s.blk.win n w).state = .window →
    ∃ b, exec (.memoryReadResponse port id codes data m) s = .next { s with blk := b }
      ∧ b.win n w = { s.blk.win n w with record := data, recordDue := false }
      ∧ (∀ n' w', ¬ (n' = n ∧ w' = w) → b.win n' w' = s.blk.win n' w')
      ∧ b = { s.blk with beads := b.beads
                         mp := Mp.promoteRead { s.blk.mp with reads := s.blk.mp.reads.erase r } r.port })
  ∧ (∀ (s : State) (port : Nat) (id : BitVec 8) (codes : List (BitVec 2)) (data : List Word) (m : MemView),
    s.blk.mp.reads.find? (fun x => x.port == port && x.id == id.toNat) = none →
    exec (.memoryReadResponse port id codes data m) s = .next s)
  ∧ (∀ (s : State) (port : Nat) (id : BitVec 8) (r : WReq),
    s.blk.mp.writes.find? (fun x => x.port == port && x.id == id.toNat) = some r →
    r.purpose ∈ [.dump, .table, .scrap] → s.blk.mp.heldWrites = [] →
    exec (.memoryWriteAck port id 0) s = .next { s with
      blk := { s.blk with mp := Mp.promoteReads { s.blk.mp with writes := s.blk.mp.writes.erase r } } })
  ∧ ∀ (s : State) (port : Nat) (id : BitVec 8) (code : BitVec 2) (r : WReq),
    s.blk.mp.writes.find? (fun x => x.port == port && x.id == id.toNat) = some r →
    r.purpose ∈ [.dump, .table, .scrap] → code ≠ 0 → s.blk.mp.heldWrites = [] → s.blk.mp.errInfo.getLsbD 31 = false →
    ∃ b, exec (.memoryWriteAck port id code) s = .next { s with blk := b }
      ∧ b.evc.pends 1 = true
      ∧ b.mp.writes = s.blk.mp.writes.erase r
      ∧ b.mp.errAddr.toNat = r.addr / 64 * 64 % 2 ^ 56
      ∧ b.mp.errInfo.getLsbD 31 = true ∧ b.mp.errInfo.getLsbD 15 = true
      ∧ b = { s.blk with mp := b.mp, evc := { s.blk.evc with pend := b.evc.pend }, trace := b.trace }

/-- R254, R256, R257, R483: a presented dispatch becomes a task that the slot holds; the completion of the slot's
oldest task gives it the status that the engine reports, POISONED for 0x80 and above, and announces NCTR counter
beats; the completion of a tile is counted in its list, which keeps the first failure; a completion that names no such
task is discarded and counted; a counter beat is added to the total of its index, modulo 2^48. R56, R57, R530: when a
slot reset rises, the slot's tasks end with ABORTED, a dispatch that is still presented is withdrawn, with its charges
returned, and the counter beats to come are discarded. The node of a withdrawn dispatch stands WREADY again, or is
released where it was aborted meanwhile or the cause of the reset releases it; a tile goes back into NEXT, or, where a
later one has overtaken it, before NEXT (the model's choice, log 159); the request falls when the engine's acknowledge
is sampled high, and the reset is complete, for every rule that waits for it, when the acknowledge is sampled low
again. Some clauses also rest on the model's choices of logs 18, 21 and 133. -/
def Obligations.EngineTasksRunAndReset : Prop :=
  ((∀ (s : State) (n i : Nat) (x : Dispatch), (s.blk.slot n i).presented = some x → (s.blk.bead n).mode = .run →
    (s.blk.bead n).fencedOff = false →
    ∃ b, exec (.dispatchTransfer n i) s = .next { s with blk := b }
      ∧ b.slot n i = { s.blk.slot n i with
          held := (s.blk.slot n i).held ++ [{ win := x.win, tile := x.tile }], presented := none }
      ∧ (∀ n' i', ¬ (n' = n ∧ i' = i) → b.slot n' i' = s.blk.slot n' i')
      ∧ (∀ n' w, b.win n' w = s.blk.win n' w)
      ∧ tget 0 b.front.issued n = wrapAdd 32 (tget 0 s.blk.front.issued n) 1
      ∧ b = { s.blk with front := b.front, beads := b.beads, lkt := b.lkt })
  ∧ (∀ (s : State) (n i : Nat), ((s.blk.bead n).mode ≠ .run ∨ (s.blk.bead n).fencedOff = true) →
    exec (.dispatchTransfer n i) s = .next s)
  ∧ (∀ (s : State) (n i : Nat) (st : Status) (k : BitVec 5) (h : HeldTask) (r : List HeldTask) (tag : BitVec 12),
    s.blk.inReset = false → (s.blk.slot n i).resetReq = false → (s.blk.bead n).fencedOff = false →
    (s.blk.slot n i).held = h :: r → h.win = tag.toNat →
    let final := if st.toNat < 0x80 then st else Status.poisoned
    ∃ b, exec (.engineCompletion n i tag st k) s = .next { s with blk := b }
      ∧ (h.tile = none → b.win n h.win = { s.blk.win n h.win with
            state := .leaving, final := if (s.blk.win n h.win).eccBad = true then Status.ecc else final, released := false }
          ∧ ∀ n' w, ¬ (n' = n ∧ w = h.win) → b.win n' w = s.blk.win n' w)
      ∧ (h.tile ≠ none → (∀ n' w, b.win n' w = s.blk.win n' w)
          ∧ ∀ j y, (s.blk.bead n).tileOf h.win = some (j, y) → ∀ k, tget {} (b.bead n).tiles k =
              let u := tget {} (s.blk.bead n).tiles k
              if k = j then { u with done := u.done + 1
                                     failed := if u.failed = 0 ∧ isFailure final = true then final else u.failed }
              else u)
      ∧ b.slot n i = { s.blk.slot n i with
          held := r, done := wrapAdd 32 (s.blk.slot n i).done 1
          beats := (s.blk.slot n i).beats ++ (if k = 0 then [] else
            [(if (s.blk.win n h.win).piece = true then none else some (s.blk.win n h.win).seg, k.toNat)]) }
      ∧ b = { s.blk with front := b.front, beads := b.beads, lkt := b.lkt })
  ∧ (∀ (s : State) (n i : Nat) (st : Status) (k : BitVec 5) (tag : BitVec 12),
    s.blk.inReset = false → (s.blk.slot n i).resetReq = false → (s.blk.bead n).fencedOff = false →
    ((s.blk.slot n i).held.head?.map fun h => h.win) ≠ some tag.toNat →
    ∃ b, exec (.engineCompletion n i tag st k) s = .next { s with blk := b }
      ∧ b.bead n = { s.blk.bead n with proto := satAdd 16 (s.blk.bead n).proto 1 }
      ∧ (∀ k, k ≠ n → b.bead k = s.blk.bead k)
      ∧ b = { s.blk with lanes := b.lanes, beads := b.beads, lkt := b.lkt })
  ∧ ∀ (s : State) (n i : Nat) (x : BitVec 5) (bytes : BitVec 48) (seg : Option Nat) (k : Nat)
      (r : List (Option Nat × Nat)), (s.blk.slot n i).beats = (seg, k) :: r → (s.blk.slot n i).resetReq = false →
    x.toNat < 20 →
    ∃ b, exec (.counterBeat n i x bytes) s = .next { s with blk := b }
      ∧ (∀ j, tget 0 (b.bead n).ctrRun j = if j = x.toNat
          then (tget 0 (s.blk.bead n).ctrRun j + bytes.toNat) % 2 ^ 48 else tget 0 (s.blk.bead n).ctrRun j)
      ∧ b.slot n i = { s.blk.slot n i with beats := if k ≤ 1 then r else (seg, k - 1) :: r }
      ∧ b = { s.blk with beads := b.beads, free := b.free })
  ∧ ((∀ (s : State) (n i : Nat), (s.blk.slot n i).resetDue = true → (s.blk.slot n i).resetReq = false →
    (s.blk.slot n i).resetWait = false →
    ∃ b, exec (.slotResetRequest n i) s = .next { s with blk := b }
      ∧ b.slot n i = { s.blk.slot n i with
          held := [], beats := [], presented := none, resetDue := false, resetBy := none, resetReq := true }
      ∧ (∀ h, (s.blk.slot n i).held = [h] → h.tile = none → (s.blk.slot n i).presented = none →
          b.win n h.win = { s.blk.win n h.win with
            state := .leaving, released := false
            final := if (s.blk.win n h.win).eccBad = true then Status.ecc else Status.aborted })
      ∧ (∀ h j y, (s.blk.slot n i).held = [h] → h.tile ≠ none → (s.blk.slot n i).presented = none →
          (s.blk.bead n).tileOf h.win = some (j, y) →
          tget {} (b.bead n).tiles j =
            let u := tget {} (s.blk.bead n).tiles j
            { u with done := u.done + 1, failed := if u.failed = 0 then Status.aborted else u.failed })
      ∧ (∀ x, (s.blk.slot n i).presented = some x → (s.blk.slot n i).held = [] →
          let e := s.blk.win n x.win
          let frees := (s.blk.pbead n).state = .forcing
            ∨ (s.blk.slot n i).resetBy = some (s.blk.sub e.seg).queue ∧ e.piece = false
          let st := if e.fenced = false ∧ frees ∧ e.pstatus = 0 then Status.aborted else e.pstatus
          (b.bead n).buckets = (((regulatorRefill s.blk).bead n).refund x.charges).buckets
          ∧ ((s.blk.bead n).tileOf x.win = none →
            (e.fenced = true ∨ frees → b.win n x.win = { e with
              state := .leaving, fenced := true, released := true, pstatus := st
              final := if e.eccBad = true then Status.ecc else st })
            ∧ (e.fenced = false ∧ ¬ frees → b.win n x.win = { e with state := .wready }))
          ∧ ∀ j y t, (s.blk.bead n).tileOf x.win = some (j, y) → tget {} (s.blk.bead n).tiles j = y → x.tile = some t →
            let u := tget {} (s.blk.bead n).tiles j
            let v := if u.next = t + 1 then { u with next := t } else { u with back := u.back ++ [t] }
            tget {} (b.bead n).tiles j =
              (if (e.fenced = true ∨ frees) ∧ u.failed = 0 then { v with failed := st } else v)
            ∧ b.win n x.win = { e with state := .wready, fenced := (b.win n x.win).fenced, pstatus := st })
      ∧ b = { s.blk with refilled := b.refilled, beads := b.beads, lkt := b.lkt })
  ∧ (∀ (s : State) (n i : Nat), (s.blk.slot n i).resetReq = true →
    ∃ b, exec (.slotResetAck n i true) s = .next { s with blk := b }
      ∧ b.slot n i = { s.blk.slot n i with resetReq := false, resetWait := true }
      ∧ b = { s.blk with beads := b.beads, lkt := b.lkt })
  ∧ ∀ (s : State) (n i : Nat), (s.blk.slot n i).resetWait = true →
    ∃ b, exec (.slotResetAck n i false) s = .next { s with blk := b }
      ∧ b.slot n i = { s.blk.slot n i with resetWait := false }
      ∧ (∀ q, (n, i) ∉ (b.queue q).resets) ∧ (∀ q, (n, i) ∉ (b.part q).resets) ∧ i ∉ (b.pbead n).resets
      ∧ b = { s.blk with front := { s.blk.front with queues := b.front.queues }, beads := b.beads
                         parts := { s.blk.parts with parts := b.parts.parts, beads := b.parts.beads } })

/-- R84 to R88, R93, R99, R100, of an LNK and of the records it speaks of, at either end of a lane (`up`: the
direction in which the LNK, or the record, travels). An LNK that the far end has not sent next changes nothing. Its
ACK takes the records that it names from the replay buffer and its CRD returns credits, never above 64; the end then
drives what it has held back, as far as credits and buffer let it. A NAK is counted, and answered with REPLAY and the
replay buffer again; the eighth for one sequence number in a row fails the lane (R100). A REPLAY for the record that a
discarding end expects ends the discarding; at an end that does not discard, the records that it has accepted already
are skipped (the model's choice, log 123). What fails its check makes its receiver discard and send a NAK, which the
timer repeats while it discards, except on the local lane, which has no CRC failures; an end acknowledges when its
timer finds records unacknowledged. An end that is trained drives its records in order; the Clasp end that loses its
training fails the lane, and at the Bead end the Beads of the lane fence themselves off (R517). Some clauses also rest
on the model's choices of logs 85 and 86. -/
def Obligations.LaneFlowControl : Prop :=
  (∀ (s : State) (l : Nat) (up : Bool) (r : LnkRec), (s.blk.lane l).takeLnk l up r = none →
    exec (.lnk l up r) s = .next s)
  ∧ (∀ (s : State) (l : Nat) (up : Bool) (r : LnkRec) (x : Lane), (s.blk.lane l).takeLnk l up r = some x →
    (up = true → x.failed = false) → (up = false → x.bead.turn = none) → r.nak = false → r.replay = false →
    let d := x.receiver up
    let n := subMod 256 r.ack.toNat (subMod 256 d.txSeq d.replay.length)
    ∃ b, exec (.lnk l up r) s = .next { s with blk := b }
      ∧ Pumped (x.mayNew (!up) l) (x.stamp s.blk.now)
          { d with replay := if n ≤ d.replay.length then d.replay.drop n else d.replay
                   credits := min 64 (d.credits + r.crd.toNat) } ((b.lane l).receiver up)
      ∧ b.lane l = x.withEnd (!up) ((b.lane l).receiver up) ∧ OnlyLane s.blk b l)
  ∧ (∀ (s : State) (l : Nat) (up : Bool) (r : LnkRec) (x : Lane), (s.blk.lane l).takeLnk l up r = some x →
    (up = true → x.failed = false) → (up = false → x.bead.turn = none) → (x.receiver up).queue = [] →
    r.nak = true → r.replay = false →
    let d := x.receiver up
    let n := subMod 256 r.ack.toNat (subMod 256 d.txSeq d.replay.length)
    let again := (if n ≤ d.replay.length then d.replay.drop n else d.replay).map (LaneRec.stamped (x.stamp s.blk.now))
    let run := if d.nakRun ≠ 0 ∧ d.nakSeq = r.ack.toNat then d.nakRun + 1 else 1
    let replay := lnkHeader { ack := BitVec.ofNat 8 d.rxNext, nak := false, replay := true, seq := r.ack, crd := 0 }
    (up = true → run < 8) →
    ∃ b, exec (.lnk l up r) s = .next { s with blk := b }
      ∧ ((b.lane l).receiver up).nakSeq = r.ack.toNat ∧ ((b.lane l).receiver up).nakRun = run
      ∧ (x.may (!up) l = true → ((b.lane l).receiver up).link = some replay
          ∧ ((b.lane l).receiver up).replay = again
          ∧ ((b.lane l).receiver up).wire = d.wire ++ [{ bits := replay }] ++ again)
      ∧ (x.may (!up) l = false → ((b.lane l).receiver up).wire = d.wire)
      ∧ ((b.lane l).sender up) = x.sender up
      ∧ (up = true → (b.lane l).nakRx = satAdd 16 x.nakRx 1 ∧ (b.lane l).echoNak = true)
      ∧ (up = false → (b.lane l).nakRx = x.nakRx ∧ (b.lane l).echoNak = x.echoNak)
      ∧ OnlyLane s.blk b l)
  ∧ (∀ (s : State) (l : Nat) (r : LnkRec) (x : Lane), (s.blk.lane l).takeLnk l true r = some x →
    x.failed = false → l ≠ 255 → s.blk.inReset = false → r.nak = true → 7 ≤ x.clasp.nakRun →
    x.clasp.nakSeq = r.ack.toNat →
    ∃ b, exec (.lnk l true r) s = .next { s with blk := b } ∧ (b.lane l).failed = true)
  ∧ (∀ (s : State) (l : Nat) (r : LnkRec) (x : Lane), (s.blk.lane l).takeLnk l true r = some x → x.failed = true →
    exec (.lnk l true r) s = .next { s with blk := s.blk.modLane l fun _ => x })
  ∧ (∀ (s : State) (l : Nat) (up : Bool) (r : LnkRec) (x : Lane), (s.blk.lane l).takeLnk l up r = some x →
    (up = true → x.failed = false) → (up = false → x.bead.turn = none) → r.nak = false → r.replay = true →
    let d := x.receiver up
    ∃ b, exec (.lnk l up r) s = .next { s with blk := b }
      ∧ (d.discarding = true → r.seq.toNat = d.rxNext → ((b.lane l).receiver up).discarding = false)
      ∧ (d.discarding = true → r.seq.toNat ≠ d.rxNext → ((b.lane l).receiver up).discarding = true)
      ∧ (d.discarding = false → ((b.lane l).receiver up).rxSkip = subMod 256 d.rxNext r.seq.toNat)
      ∧ ((b.lane l).receiver up).rxNext = d.rxNext ∧ (b.lane l).sender up = x.sender up ∧ OnlyLane s.blk b l)
  ∧ (∀ (s : State) (l : Nat) (up : Bool) (k : Nat) (beats : List (BitVec 18)),
    l ≠ 255 → badRecord up beats = true →
    let x := ((s.blk.lane l).arrive l up (fun _ => true) k).dropWire up
    let d := x.receiver up
    let nak := lnkHeader { ack := BitVec.ofNat 8 d.rxNext, nak := true, replay := false, seq := 0, crd := 0 }
    ∃ b, exec (.recordCrcError l ⟨up, k, beats⟩) s = .next { s with blk := b }
      ∧ (d.discarding = true → b.lane l = x)
      ∧ (d.discarding = false → x.may (!up) l = true →
          (b.lane l).receiver up = { d.drove nak with discarding := true, rxSkip := 0 }
          ∧ (up = true → (b.lane l).nakTx = satAdd 16 x.nakTx 1 ∧ (b.lane l).echoNak = true))
      ∧ (d.discarding = false → x.may (!up) l = false → b.lane l = x.withEnd (!up) { d with discarding := true, rxSkip := 0 })
      ∧ (b.lane l).sender up = x.sender up ∧ OnlyLane s.blk b l)
  ∧ (∀ (s : State) (l : Nat) (up : Bool) (k : Nat) (beats : List (BitVec 18)), l = 255 ∨ badRecord up beats = false →
    exec (.recordCrcError l ⟨up, k, beats⟩) s = .next s)
  ∧ (∀ (s : State) (l : Nat) (up : Bool),
    let x := s.blk.lane l
    let d := x.sender up
    let nak := lnkHeader { ack := BitVec.ofNat 8 d.rxNext, nak := true, replay := false, seq := 0, crd := 0 }
    ∃ b, exec (.nakRepeatTimer l up) s = .next { s with blk := b }
      ∧ (d.discarding = true → x.may up l = true → (b.lane l).sender up = d.drove nak
          ∧ (up = false → (b.lane l).nakTx = satAdd 16 x.nakTx 1 ∧ (b.lane l).echoNak = true))
      ∧ (d.discarding = false ∨ x.may up l = false → b.lane l = x)
      ∧ (b.lane l).receiver up = x.receiver up ∧ OnlyLane s.blk b l)
  ∧ (∀ (s : State) (l : Nat) (up : Bool),
    let x := s.blk.lane l
    let d := x.sender up
    let ack := lnkHeader { ack := BitVec.ofNat 8 d.rxNext, nak := false, replay := false, seq := 0
                           crd := BitVec.ofNat 7 (min 127 d.rxFreed) }
    ∃ b, exec (.lnkAckTimer l up) s = .next { s with blk := b }
      ∧ (d.rxUnacked ≠ 0 → x.may up l = true →
          b.lane l = x.withEnd up { d.drove ack with rxUnacked := 0, rxFreed := d.rxFreed - 127 })
      ∧ (d.rxUnacked = 0 ∨ x.may up l = false → b.lane l = x) ∧ OnlyLane s.blk b l)
  ∧ (∀ (s : State) (l : Nat) (up : Bool),
    let x := (s.blk.lane l).withEnd up { (s.blk.lane l).sender up with trained := true }
    ∃ b, exec (.trainDoneRise l up) s = .next { s with blk := b }
      ∧ Pumped (x.mayNew up l) (x.stamp s.blk.now) (x.sender up) ((b.lane l).sender up)
      ∧ b.lane l = x.withEnd up ((b.lane l).sender up) ∧ OnlyLane s.blk b l)
  ∧ (∀ (s : State) (l : Nat), (s.blk.lane l).clasp.trained = true → l ≠ 255 → (s.blk.lane l).failed = false →
    s.blk.inReset = false →
    ∃ b, exec (.laneTrainDoneFall l false) s = .next { s with blk := b }
      ∧ (b.lane l).failed = true ∧ (b.lane l).clasp.trained = false)
  ∧ (∀ (s : State) (l : Nat), (s.blk.lane l).bead.trained = true → s.blk.inReset = false →
    ∃ b, exec (.laneTrainDoneFall l true) s = .next { s with blk := b }
      ∧ (b.lane l).bead.trained = false ∧ (∀ n, n ∈ s.params.laneBeads l → (b.bead n).fencedOff = true)
      ∧ b = { s.blk with lanes := b.lanes, beads := b.beads, lkt := b.lkt })
  ∧ ∀ (s : State) (l : Nat) (up : Bool), ((s.blk.lane l).sender up).trained = false →
    exec (.laneTrainDoneFall l up) s = .next s

/-- R89 to R92, R94, R95, R97: the turn of a lane's phase. The Clasp end starts a turn that is due once its replay
buffer is empty and it may drive; what has arrived before it is acknowledged first (the model's choice, log 125). The
Bead end answers when its own buffer is empty, and repeats its answer in the phase already entered; on entering FREEZE
it sends its SNAP messages, the last with source 255. The answer puts the Clasp end in the new phase, and both restart
their numbering (credits, freed records and the discarding of R86 stay as they are, log 124); in RUN the Clasp sends
the time, or measures the latency first; a TOKEN without an answer is sent again, and the sixteenth fails the lane
(R100). Some clauses also rest on the model's choices of logs 120 and 126. -/
def Obligations.LanePhaseTurns : Prop :=
  (∀ (s : State) (l : Nat) (ph : BitVec 2), (s.blk.lane l).want = some ph.toNat → (s.blk.lane l).claspMay l = true →
    (s.blk.lane l).clasp.replay = [] →
    let x := (s.blk.lane l).arriveAll l true
    let ack := lnkHeader { ack := BitVec.ofNat 8 x.clasp.rxNext, nak := false, replay := false, seq := 0
                           crd := BitVec.ofNat 7 (min 127 x.clasp.rxFreed) }
    exec (.tokenClasp l ph) s = .next { s with blk := s.blk.modLane l fun _ => { x with
      timeSent := false
      clasp := { (if x.clasp.rxUnacked = 0 then x.clasp else { x.clasp.drove ack with
          rxUnacked := 0, rxFreed := x.clasp.rxFreed - 127 }).drove (tokenHeader ph.toNat) with
        turn := some ph.toNat, tokens := 1 } } })
  ∧ (∀ (s : State) (l : Nat) (ph : BitVec 2), (s.blk.lane l).want ≠ some ph.toNat ∨ (s.blk.lane l).claspMay l = false
      ∨ (s.blk.lane l).clasp.replay ≠ [] →
    exec (.tokenClasp l ph) s = .next s)
  ∧ (∀ (s : State) (l : Nat) (ph : BitVec 2), (s.blk.lane l).takeLink l false (tokenHeader ph.toNat) = none →
    exec (.token l ph) s = .next s)
  ∧ (∀ (s : State) (l : Nat) (ph : BitVec 2) (x : Lane), (s.blk.lane l).takeLink l false (tokenHeader ph.toNat) = some x →
    x.bead.phase = ph.toNat →
    exec (.token l ph) s = .next { s with blk := s.blk.modLane l fun _ => { x with
      bead := if x.beadMay l = true then x.bead.drove (tokenHeader ph.toNat) else x.bead } })
  ∧ (∀ (s : State) (l : Nat) (ph : BitVec 2) (x : Lane), (s.blk.lane l).takeLink l false (tokenHeader ph.toNat) = some x →
    x.bead.phase ≠ ph.toNat → x.bead.replay = [] → x.beadMay l = true →
    let e := (x.bead.drove (tokenHeader ph.toNat)).inPhase ph.toNat
    ∃ b, exec (.token l ph) s = .next { s with blk := b }
      ∧ (b.lane l).bead.phase = ph.toNat ∧ (b.lane l).bead.turn = none ∧ (b.lane l).clasp = x.clasp
      ∧ (ph ≠ 2 → Pumped ((x.withEnd true e).mayNew true l) (x.stamp s.blk.now) e (b.lane l).bead)
      ∧ (ph = 2 → ∀ n, (s.params.laneBeads l).getLast? = some n →
          ((b.lane l).bead.replay ++ (b.lane l).bead.queue).getLast? =
            some { bits := (snapRec s.params n 255 []).header })
      ∧ OnlyLane s.blk b l)
  ∧ (∀ (s : State) (l : Nat) (ph : BitVec 2) (x : Lane), (s.blk.lane l).takeLink l false (tokenHeader ph.toNat) = some x →
    x.bead.phase ≠ ph.toNat → x.bead.replay ≠ [] ∨ x.beadMay l = false →
    exec (.token l ph) s = .next { s with blk := s.blk.modLane l fun _ =>
      { x with bead := { x.bead with turn := some ph.toNat } } })
  ∧ (∀ (s : State) (l : Nat) (ph : BitVec 2), (s.blk.lane l).takeLink l true (tokenHeader ph.toNat) = none →
    exec (.tokenAnswer l ph) s = .next s)
  ∧ (∀ (s : State) (l : Nat) (ph : BitVec 2) (x : Lane), (s.blk.lane l).takeLink l true (tokenHeader ph.toNat) = some x →
    x.failed = true ∨ x.clasp.turn ≠ some ph.toNat →
    exec (.tokenAnswer l ph) s = .next { s with blk := s.blk.modLane l fun _ => x })
  ∧ (∀ (s : State) (l : Nat) (ph : BitVec 2) (x : Lane), (s.blk.lane l).takeLink l true (tokenHeader ph.toNat) = some x →
    x.failed = false → x.clasp.turn = some ph.toNat → ph ≠ 0 → s.blk.lkt.resuming = false →
    let y := { x with clasp := x.clasp.inPhase ph.toNat, want := if x.want = some ph.toNat then none else x.want
                      snapDone := false }
    ∃ b, exec (.tokenAnswer l ph) s = .next { s with blk := b }
      ∧ Pumped (y.mayNew false l) (x.stamp s.blk.now) y.clasp (b.lane l).clasp
      ∧ b.lane l = { y with clasp := (b.lane l).clasp } ∧ OnlyLane s.blk b l)
  ∧ (∀ (s : State) (l : Nat) (x : Lane), (s.blk.lane l).takeLink l true (tokenHeader 0) = some x →
    x.failed = false → x.clasp.turn = some 0 → s.blk.lkt.resuming = false → s.blk.power.freezes = false →
    ∃ b, exec (.tokenAnswer l 0) s = .next { s with blk := b }
      ∧ (b.lane l).clasp.phase = 0 ∧ (b.lane l).clasp.turn = none ∧ (b.lane l).clasp.rxNext = 0
      ∧ (l ≠ 255 → x.latKnown = true → (b.lane l).timeSent = true)
      ∧ (l ≠ 255 → x.latKnown = false → (b.lane l).echoOut = true ∧ (b.lane l).echoNak = false)
      ∧ (l = 255 → (b.lane l).timeSent = x.timeSent ∧ (b.lane l).echoOut = x.echoOut)
      ∧ OnlyLane s.blk b l)
  ∧ (∀ (s : State) (l ph : Nat), (s.blk.lane l).clasp.turn = some ph → (s.blk.lane l).failed = false →
    (s.blk.lane l).clasp.tokens < 16 → (s.blk.lane l).started = true → (s.blk.lane l).clasp.wired false l = true →
    exec (.tokenRetryTimer l) s = .next { s with blk := s.blk.modLane l fun x =>
      { x with clasp := { x.clasp.drove (tokenHeader ph) with tokens := x.clasp.tokens + 1 } } })
  ∧ (∀ (s : State) (l ph : Nat), (s.blk.lane l).clasp.turn = some ph → (s.blk.lane l).failed = false →
    16 ≤ (s.blk.lane l).clasp.tokens → l ≠ 255 → s.blk.inReset = false →
    ∃ b, exec (.tokenRetryTimer l) s = .next { s with blk := b } ∧ (b.lane l).failed = true)
  ∧ ∀ (s : State) (l : Nat), (s.blk.lane l).clasp.turn = none ∨ (s.blk.lane l).failed = true →
    exec (.tokenRetryTimer l) s = .next s

/-- R96 to R98: the Bead end answers a latency request; the answer gives LAT, (R - 33) / 2, unless a NAK has come
since, when the Clasp measures again, and the Clasp then sends the time where it has not; in RUN it sends it again and
again, each with the time at which its raw record reaches the far end; and a Bead's time becomes the value loaded, but
never less than it was. A TIME that the far end has not sent next changes nothing, and none is sent while the crossing
to the lane is full (R66). Some clauses also rest on the model's choices of logs 9, 120 and 150. -/
def Obligations.GlobalTimeOnTheLanes : Prop :=
  (∀ (s : State) (l k : Nat) (t : Word),
    ((s.blk.lane l).take l false [{ header := timeHeader true }] = none → exec (.timeEchoRequest l) s = .next s)
    ∧ ((s.blk.lane l).take l true [{ header := header 6 [] }] = none → exec (.timeEchoAnswer l k) s = .next s)
    ∧ ((s.blk.lane l).take l false [{ header := timeHeader false, raws := [t] }] = none →
        exec (.time l t) s = .next s))
  ∧ (∀ (s : State) (l : Nat) (x : Lane), (s.blk.lane l).take l false [{ header := timeHeader true }] = some x →
    ∃ b, exec (.timeEchoRequest l) s = .next { s with blk := b }
      ∧ Pumped (x.mayNew true l) (x.stamp s.blk.now)
          { x.bead with queue := x.bead.queue ++ [{ bits := header 6 [] }] } (b.lane l).bead
      ∧ b.lane l = { x with bead := (b.lane l).bead } ∧ OnlyLane s.blk b l)
  ∧ (∀ (s : State) (l k : Nat) (x : Lane), (s.blk.lane l).take l true [{ header := header 6 [] }] = some x →
    x.echoOut = true → x.echoNak = false → k < 8192 →
    ∃ b, exec (.timeEchoAnswer l k) s = .next { s with blk := b }
      ∧ (b.lane l).lat = (k - 33) / 2 ∧ (b.lane l).latKnown = true ∧ (b.lane l).echoOut = false
      ∧ (b.lane l).timeSent = true ∧ (x.timeSent = true → (b.lane l).clasp = x.clasp)
      ∧ (x.timeSent = false → Pumped (x.mayNew false l) (Lane.stamp s.blk.now { x with lat := (k - 33) / 2 })
          { x.clasp with queue := x.clasp.queue ++ [{ bits := timeHeader false }, { bits := 0, cont := true, timed := true }] }
          (b.lane l).clasp)
      ∧ OnlyLane s.blk b l)
  ∧ (∀ (s : State) (l k : Nat) (x : Lane), (s.blk.lane l).take l true [{ header := header 6 [] }] = some x →
    x.echoOut = true → x.echoNak = true →
    ∃ b, exec (.timeEchoAnswer l k) s = .next { s with blk := b }
      ∧ (b.lane l).lat = x.lat ∧ (b.lane l).echoOut = true ∧ (b.lane l).echoNak = false
      ∧ Pumped (x.mayNew false l) (x.stamp s.blk.now)
          { x.clasp with queue := x.clasp.queue ++ [{ bits := timeHeader true }] } (b.lane l).clasp
      ∧ OnlyLane s.blk b l)
  ∧ (∀ (s : State) (l k : Nat) (x : Lane), (s.blk.lane l).take l true [{ header := header 6 [] }] = some x →
    x.echoOut = false → exec (.timeEchoAnswer l k) s = .next { s with blk := s.blk.modLane l fun _ => x })
  ∧ (∀ (s : State) (l : Nat) (t : Word) (x : Lane), l ≠ 255 →
    (s.blk.lane l).take l false [{ header := timeHeader false, raws := [t] }] = some x →
    ∃ b, exec (.time l t) s = .next { s with blk := b }
      ∧ (∀ n, s.params.laneOf n = l → b.dieTime s.params n = max t.toNat (s.blk.dieTime s.params n))
      ∧ (∀ n, s.params.laneOf n ≠ l → b.dieTime s.params n = s.blk.dieTime s.params n)
      ∧ OnlyLane s.blk b l)
  ∧ (∀ (s : State) (l : Nat), l ≠ 255 → (s.blk.lane l).clasp.phase = 0 → (s.blk.lane l).latKnown = true →
    (s.blk.lane l).failed = false → (s.blk.lane l).clasp.turn = none → (s.blk.lane l).clasp.room false l = true →
    ∃ b, exec (.timePeriodic l) s = .next { s with blk := b } ∧ (b.lane l).timeSent = true
      ∧ Pumped ((s.blk.lane l).mayNew false l) ((s.blk.lane l).stamp s.blk.now)
          { (s.blk.lane l).clasp with queue := (s.blk.lane l).clasp.queue ++
              [{ bits := timeHeader false }, { bits := 0, cont := true, timed := true }] } (b.lane l).clasp
      ∧ (b.lane l).bead = (s.blk.lane l).bead ∧ OnlyLane s.blk b l)
  ∧ ∀ (s : State) (l : Nat), l = 255 ∨ (s.blk.lane l).clasp.phase ≠ 0 ∨ (s.blk.lane l).latKnown = false
      ∨ (s.blk.lane l).failed = true ∨ (s.blk.lane l).clasp.turn ≠ none ∨ (s.blk.lane l).clasp.room false l = false →
    exec (.timePeriodic l) s = .next s

/-- R113: "A write of 1 to SET_CTL.START in state EMPTY starts a full load of the image at SET_IMG_ADDR with length
SET_IMG_LEN, and the loader captures both values at that write." In any other state it sets IGNORED and does nothing
else. A new load finds every partition DISABLED, every context FREE and the trace writer as cold reset leaves it
(R405, R413, R474), and the lanes may drive from then on (R93), and the memory ports present what has waited (R73).
R125: a write of 1 to ABORT in LOADING or PATCHING ends the operation as a failure with cause ABORT, provided no
COMMIT has been sent; the first failure detected stays (R122); in any other case it sets IGNORED. Some clauses also
rest on the model's choices of logs 47 and 49. -/
def Obligations.LoadsStartAndAbort : Prop :=
  (∀ (s : State) (a : Acc), Performs s a .setCtl true → s.blk.loader.state = .empty →
    ∃ b, exec (.setStart a) s = .next (s.wrote .setCtl b)
      ∧ b.trace = {} ∧ b.parts = { s.blk.parts with parts := [], ctxs := [] }
      ∧ (∀ n, (n < 24 ∨ n = 255) → (b.lane n).started = true)
      ∧ (∀ n, ¬ (n < 24 ∨ n = 255) → b.lane n = s.blk.lane n)
      ∧ b = { s.blk with mp := s.blk.mp.open, loader := b.loader, lanes := b.lanes, parts := b.parts, trace := b.trace }
      ∧ let l := b.loader
      l.state = .loading ∧ l.phase = .idle ∧ l.failing = none ∧ l.committed = false ∧ l.awaited = []
      ∧ l.capAddr = (s.blk.loader.imgAddr.toNat / 64 * 64) % 2 ^ 56
      ∧ l.capLen = (s.blk.loader.imgLen.toNat / 64 * 64) % 2 ^ 27
      ∧ l.position = 0 ∧ l.percent = 0 ∧ l.errSection = 0xFFFF ∧ l.errBead = 0xFF ∧ l.errOffset = 0
      ∧ l.ignored = s.blk.loader.ignored ∧ l.code = s.blk.loader.code ∧ l.digest = s.blk.loader.digest
      ∧ l.imgAddr = s.blk.loader.imgAddr ∧ l.imgLen = s.blk.loader.imgLen)
  ∧ (∀ (s : State) (a : Acc), Performs s a .setCtl true → s.blk.loader.state ≠ .empty →
    exec (.setStart a) s =
      .next (s.wrote .setCtl { s.blk with loader := { s.blk.loader with ignored := true } }))
  ∧ (∀ (s : State) (a : Acc), Performs s a .setCtl true →
    (s.blk.loader.state = .loading ∨ s.blk.loader.state = .patching) → s.blk.loader.committed = false →
    (s.blk.loader.failing = none →
      exec (.setAbort a) s = .next (s.wrote .setCtl { s.blk with loader := { s.blk.loader with
        phase := .failed, failing := some (Status.aborted, 0x15), errSection := 0xFFFF, errBead := 0xFF
        errOffset := 0 } }))
    ∧ (s.blk.loader.failing ≠ none → exec (.setAbort a) s = .next (s.wrote .setCtl s.blk)))
  ∧ ∀ (s : State) (a : Acc), Performs s a .setCtl true →
    ((s.blk.loader.state ≠ .loading ∧ s.blk.loader.state ≠ .patching) ∨ s.blk.loader.committed = true) →
    exec (.setAbort a) s =
      .next (s.wrote .setCtl { s.blk with loader := { s.blk.loader with ignored := true } })

/-- R114 to R118, R122 to R124, R128 to R131: how loads and patches go on and end. The check of a load takes what it
has found, the first failure with its CODE and CAUSE; once no SETR is awaited, a load that failed leaves no Setting,
no sections at any Bead, no latency measured at any lane, and the state EMPTY; a load whose lanes all run makes the
Setting ACTIVE, enables its partitions and opens the link port; a SETTING_PATCH node that acts takes the loader to
PATCHING; the patch takes effect, at its Beads too, with its last SETR; and one that failed leaves the Setting and the
Beads' sections as they were. A section that has reached its Bead is staged in place of one of its type and SCOPE, and
answered by one SETR (R115, R116): START discards what is staged; COMMIT makes the staged sections active, at once in
a load and with the last COMMIT of all in a patch; a bad word of the staging storage answers ECC_UNCORRECTABLE, and a
type that no Bead holds FORMAT. That the CAUSE stays in the loader until the operation ends, what a failed load
leaves, and which types a Bead accepts are the model's choice (logs 47, 49, 79, 94). Some clauses also rest on the
model's choices of logs 81, 82 and 83. -/
def Obligations.LoadsAndPatchesEnd : Prop :=
  (∀ (s : State) (m : MemView), s.blk.loader.state = .loading → s.blk.loader.phase = .idle →
    s.blk.loader.failing = none →
    let r := checkLoad s.params s.keys (fun n => (s.blk.lane n).failed) m s.blk.loader.capAddr s.blk.loader.capLen
    ∃ b, exec (.settingLoadCheck m) s = .next { s with blk := b }
      ∧ b.loader.state = .loading ∧ b.loader.position = r.position ∧ b.loader.next = r.next
      ∧ b.loader.nextDigest = r.digest ∧ b.loader.percent = loadPercent r.position s.blk.loader.capLen
      ∧ b.loader.failing = r.fail.map (fun f => (f.code, f.cause))
      ∧ (∀ f, r.fail = some f → b.loader.errSection = f.sect ∧ b.loader.errBead = f.bead ∧ b.loader.errOffset = f.offset)
      ∧ (r.fail ≠ none → b.setting = s.blk.setting)
      ∧ b = { s.blk with mp := b.mp, loader := b.loader, setting := b.setting, lanes := b.lanes
                         evc := { s.blk.evc with pend := b.evc.pend }, trace := b.trace })
  ∧ (∀ (s : State), s.blk.loader.phase = .turning →
    (∀ l, l ∈ s.blk.runLanes s.params → (s.blk.lane l).running l = true) →
    ∃ b, exec .settingActivate s = .next { s with blk := b }
      ∧ b.loader = s.blk.loader.succeed ∧ b.loader.state = .active ∧ b.loader.code = Status.ok
      ∧ b.loader.percent = 100
      ∧ (∀ q, q < 16 → (b.part q).state = if (s.blk.partSec q).enabled = true then .enabled else .disabled)
      ∧ b.evc.pends 7 = true
      ∧ b = { s.blk with loader := b.loader, chans := b.chans, parts := b.parts, evc := b.evc, trace := b.trace
                         link := b.link, lkt := b.lkt } ∧ b.link.opened = true)
  ∧ (∀ (s : State) (f : Status × Nat), s.blk.loader.state = .loading → s.blk.loader.failing = some f →
    s.blk.loader.awaited = [] →
    ∃ b, exec .settingLoadFail s = .next { s with blk := b }
      ∧ b.loader.state = .empty ∧ b.loader.code = f.1 ∧ b.loader.cause = f.2 ∧ b.loader.digest = 0
      ∧ b.loader.failing = none ∧ b.setting = {} ∧ b.evc.pends 7 = true
      ∧ (∀ n, n < s.params.nBeads → (b.bead n).sections = [] ∧ (b.bead n).ready = [] ∧ (b.bead n).buckets = []
          ∧ (b.bead n).det = false ∧ (∀ k, k < (s.params.bead n).slots → (b.slot n k).cfg = {})
          ∧ tget {} b.chans n = {})
      ∧ b.parts = { s.blk.parts with parts := [], ctxs := [] }
      ∧ (∀ n, (b.lane n).lat = 0 ∧ (b.lane n).latKnown = false ∧ (b.lane n).timeSent = false)
      ∧ b = { s.blk with loader := b.loader, setting := b.setting, lanes := b.lanes, beads := b.beads, chans := b.chans
                         parts := b.parts, evc := { s.blk.evc with pend := b.evc.pend }, trace := b.trace, lkt := b.lkt })
  ∧ (∀ (s : State) (seg i : Nat) (m : MemView), s.blk.loader.state = .active → (s.blk.node seg i).kind = 7 →
    privOp m (s.blk.node seg i).record = 1 → s.blk.gate seg i = .act → (s.blk.node seg i).resolved = true →
    ∃ b, exec (.settingPatch seg i m) s = .next { s with blk := b }
      ∧ b.loader.state = .patching ∧ b.loader.patchNode = some (seg, i) ∧ b.loader.digest = s.blk.loader.digest
      ∧ b.setting = s.blk.setting ∧ (b.node seg i).state = .acting)
  ∧ (∀ (s : State) (m : MemView), s.blk.loader.state = .patching → s.blk.loader.phase = .commits →
    s.blk.loader.awaited = [] →
    ∃ b, exec (.patchCommit m) s = .next { s with blk := b }
      ∧ b.setting = s.blk.loader.next
      ∧ (∀ n, (b.bead n).sections = if n ∈ s.blk.loader.targets then (s.blk.bead n).ready.foldl takeRaw (s.blk.bead n).sections
          else (s.blk.bead n).sections)
      ∧ (∀ n, n ∈ s.blk.loader.targets → (b.bead n).ready = [])
      ∧ b.loader = { s.blk.loader.succeed with digest := s.blk.loader.nextDigest })
  ∧ (∀ (s : State) (m : MemView) (f : Status × Nat), s.blk.loader.state = .patching →
    s.blk.loader.failing = some f → s.blk.loader.awaited = [] →
    ∃ b, exec (.patchFail m) s = .next { s with blk := b }
      ∧ b.setting = s.blk.setting ∧ b.loader.state = .active ∧ b.loader.code = f.1 ∧ b.loader.cause = f.2
      ∧ b.loader.digest = s.blk.loader.digest ∧ b.loader.failing = none
      ∧ (∀ n, (b.bead n).sections = (s.blk.bead n).sections)
      ∧ ∀ n, n ∈ s.blk.loader.targets → (b.bead n).ready = [])
  ∧ ∀ (s : State) (n : Nat) (t c : BitVec 8) (v : BitVec 16) (bytes : List Byte) (ecc : Bool),
    let r : SecRec := { type := t.toNat, scope := c.toNat, version := v.toNat, bytes := bytes }
    let l := s.params.laneOf n
    let i : Instr := .set n t c v bytes ecc
    let d := s.blk.bead n
    ((s.blk.lane l).take l false (sectionMessages s.params n r) = none → exec i s = .next s)
    ∧ ∀ x, (s.blk.lane l).take l false (sectionMessages s.params n r) = some x →
    let b0 := s.blk.modLane l fun _ => x
    let answers (st : Status) (d' : Bead) : Prop := ∃ b, exec i s = .next { s with blk := b } ∧ b.bead n = d'
      ∧ (∀ k, k ≠ n → b.bead k = s.blk.bead k)
      ∧ b = { s.blk with beads := b.beads, lanes := (b0.sendUp s.params n (setrRec s.params n st)).lanes }
    (d.fencedOff = true → exec i s = .next { s with blk := b0 })
    ∧ (d.fencedOff = false →
      (t = 0 → answers Status.ok { d with staged := [], ready := [] })
      ∧ (t ≠ 0 → t ≠ 0xFF → ecc = true → answers Status.ecc d)
      ∧ (t ∈ [3, 5, 6, 9] → ecc = false → answers Status.ok
          { d with staged := d.staged.filter (fun y => !(y.type == r.type && y.scope == r.scope)) ++ [r] })
      ∧ (t ∉ [0, 3, 5, 6, 9, 0xFF] → ecc = false → answers Status.format d)
      ∧ (t = 0xFF → s.blk.loader.state = .patching → tget 0 s.blk.loader.returns n = 0 →
          answers Status.ok { d with staged := [], ready := d.staged })
      ∧ (t = 0xFF → s.blk.loader.state ≠ .patching ∨ tget 0 s.blk.loader.returns n ≠ 0 →
        ∃ b, exec i s = .next { s with blk := b }
          ∧ (b.bead n).staged = [] ∧ (b.bead n).ready = []
          ∧ (b.bead n).sections = d.staged.foldl takeRaw d.sections
          ∧ (∀ q, d.staged.filter (·.type == 3) = [q] → ∀ k, k < (s.params.bead n).slots → ∀ e,
              (slotmapOf q.word (s.params.bead n).slots)[k]? = some e → (b.slot n k).cfg = e)
          ∧ (∀ q, d.staged.filter (·.type == 5) = [q] → (b.bead n).buckets = (regsOf q.word q.bytes.length).map bucketOf)
          ∧ (∀ q, d.staged.filter (·.type == 6) = [q] → tget {} b.chans n = freshChan n (channelsOf q.word).routes)
          ∧ (∀ q, d.staged.filter (·.type == 9) = [q] →
              (b.bead n).det = (bits (q.word 0) 0 0 == 1) ∧ (b.bead n).noDlb = (bits (q.word 0) 1 1 == 1))
          ∧ (d.staged = [] → b.bead n = { d with ready := [] } ∧ b.chans = s.blk.chans)
          ∧ (∀ k, k ≠ n → b.bead k = s.blk.bead k ∧ tget {} b.chans k = tget {} s.blk.chans k)
          ∧ b = { s.blk with
              beads := b.beads, chans := b.chans
              lanes := (b0.sendUp s.params n (setrRec s.params n Status.ok)).lanes }))

/-- R152, R153, R166 to R168: the commands of CLS_Q_CMD. ENABLE is accepted only under R152: it sets HEAD to
CLS_Q_HEAD_INIT, clears the progress, ERR and INFLIGHT, writes HEAD, sets PENDING and moves the queue to WAIT; a
refused one, and an OP that is none of the three, sets CMD_REJ and does nothing else. DISABLE of a queue with nothing
in flight leaves it DISABLED, of another STOPPING; FORCE leaves a queue that is not DISABLED FORCING, awaiting the
resets of the slots that hold its tasks; both are accepted in every state and clear CMD_REJ. A stopping queue that has
drained, and a forced one whose resets and completions are done, moves to DISABLED and raises its event. Some clauses
also rest on the model's choices of logs 14, 56 and 164. -/
def Obligations.QueueCommandsOpenAndClose : Prop :=
  (∀ (s : State) (a : Acc) (q : Nat), Performs s a (.qCmd q) true → s.blk.enableOk q = true →
    ∃ b, exec (.qEnable a q) s = .next (s.wrote (.qCmd q) b)
      ∧ b.queue q = { s.blk.queue q with
          head := (s.blk.queue q).headInit, fetched := 0, done := 0, err := 0, inflight := 0, pend := true,
          state := .wait, cmdRej := false, sinceHead := 0 }
      ∧ (∀ k, k ≠ q → b.queue k = s.blk.queue k)
      ∧ b.mp = (s.blk.put 63 2 ((s.blk.queue q).rcbAddr + 0x20) (leBytes 4 (s.blk.queue q).headInit.toNat) (.headOf q)).mp
      ∧ b = { s.blk with mp := b.mp, front := { s.blk.front with queues := b.front.queues } })
  ∧ (∀ (s : State) (a : Acc) (q : Nat), Performs s a (.qCmd q) true → s.blk.enableOk q = false →
    exec (.qEnable a q) s = .next (s.wrote (.qCmd q) (s.blk.modQueue q fun x => { x with cmdRej := true })))
  ∧ (∀ (s : State) (a : Acc) (q : Nat) (op : BitVec 3), Performs s a (.qCmd q) true →
    op ≠ 1 → op ≠ 2 → op ≠ 3 →
    exec (.qCmdInvalid a q op) s = .next (s.wrote (.qCmd q) (s.blk.modQueue q fun x => { x with cmdRej := true })))
  ∧ (∀ (s : State) (a : Acc) (q : Nat), Performs s a (.qCmd q) true →
    ((s.blk.queue q).state = .disabled ∨ (s.blk.queue q).state = .stopping ∨ (s.blk.queue q).state = .forcing) →
    exec (.qDisable a q) s = .next (s.wrote (.qCmd q) (s.blk.modQueue q fun x => { x with cmdRej := false })))
  ∧ (∀ (s : State) (a : Acc) (q : Nat), Performs s a (.qCmd q) true →
    ((s.blk.queue q).state = .idle ∨ (s.blk.queue q).state = .wait ∨ (s.blk.queue q).state = .active
      ∨ (s.blk.queue q).state = .halted) →
    ∃ b, exec (.qDisable a q) s = .next (s.wrote (.qCmd q) b)
      ∧ (b.queue q).state = (if (s.blk.queue q).inflight = 0
          ∧ (∀ i, (s.blk.queue q).bound = some i → (s.blk.hws i).requested = 0) then .disabled else .stopping)
      ∧ (b.queue q).cmdRej = false ∧ (b.queue q).head = (s.blk.queue q).head
      ∧ (b.queue q).inflight = (s.blk.queue q).inflight ∧ (b.queue q).waiting = (s.blk.queue q).waiting
      ∧ (∀ k, k ≠ q → (∀ i, (s.blk.queue q).bound = some i → (s.blk.hws i).queue ≠ some k) → b.queue k = s.blk.queue k)
      ∧ b = { s.blk with mp := b.mp, front := { s.blk.front with queues := b.front.queues, hws := b.front.hws } })
  ∧ (∀ (s : State) (a : Acc) (q : Nat), Performs s a (.qCmd q) true →
    ((s.blk.queue q).state = .disabled ∨ (s.blk.queue q).state = .forcing) →
    exec (.qForce a q) s = .next (s.wrote (.qCmd q) (s.blk.modQueue q fun x => { x with cmdRej := false })))
  ∧ (∀ (s : State) (a : Acc) (q : Nat), Performs s a (.qCmd q) true →
    (s.blk.queue q).state ≠ .disabled → (s.blk.queue q).state ≠ .forcing →
    ∃ b, exec (.qForce a q) s = .next (s.wrote (.qCmd q) b)
      ∧ (b.queue q).state = .forcing ∧ (b.queue q).cmdRej = false
      ∧ (∀ i, (s.blk.queue q).bound = some i → (s.blk.hws i).queue = some q → (b.queue q).bound = none)
      ∧ (b.queue q).head = (s.blk.queue q).head ∧ (b.queue q).inflight = (s.blk.queue q).inflight
      ∧ (b.queue q).resets = s.blk.slotsHolding (fun n h => s.blk.queueOfWin n h.win == some q)
      ∧ (∀ k, k ≠ q → (∀ i, (s.blk.queue q).bound = some i → (s.blk.hws i).queue ≠ some k) → b.queue k = s.blk.queue k)
      ∧ b = { s.blk with free := b.free, mp := b.mp, lanes := b.lanes, front := b.front, graph := b.graph,
                         fences := b.fences, beads := b.beads, link := b.link, evc := b.evc,
                         experts := { s.blk.experts with held := b.experts.held, waitLoad := b.experts.waitLoad },
                         trace := b.trace })
  ∧ (∀ (s : State) (q : Nat), (s.blk.queue q).state = .stopping → (s.blk.queue q).inflight = 0 →
    (s.blk.queue q).bound = none → q < 4096 →
    ∃ b, exec (.queueDisabled q) s = .next { s with blk := b }
      ∧ b.queue q = { s.blk.queue q with state := .disabled, sinceHead := 0 }
      ∧ (∀ k, k ≠ q → b.queue k = s.blk.queue k) ∧ b.evc.pends (832 + q / 64) = true
      ∧ (∀ k, k ≠ 832 + q / 64 → b.evc.pends k = s.blk.evc.pends k)
      ∧ b = { s.blk with mp := b.mp, front := { s.blk.front with queues := b.front.queues },
                         evc := { s.blk.evc with pend := b.evc.pend } })
  ∧ ∀ (s : State) (q : Nat), (s.blk.queue q).state = .forcing → (s.blk.queue q).inflight = 0 →
    (s.blk.queue q).resets = [] → q < 4096 →
    ∃ b, exec (.queueForceDone q) s = .next { s with blk := b }
      ∧ (b.queue q).state = .disabled ∧ (b.queue q).head = (s.blk.queue q).head
      ∧ (∀ k, k ≠ q → (∀ i, (s.blk.queue q).bound = some i → (s.blk.hws i).queue ≠ some k) → b.queue k = s.blk.queue k) ∧ b.evc.pends (832 + q / 64) = true
      ∧ (∀ k, k ≠ 832 + q / 64 → b.evc.pends k = s.blk.evc.pends k)
      ∧ b = { s.blk with mp := b.mp, front := { s.blk.front with queues := b.front.queues, hws := b.front.hws },
                         evc := { s.blk.evc with pend := b.evc.pend } }

/-- R144, R154, R156, R157, R160, R161, R163, R166: how a queue is rung, bound, fetched from and released. A doorbell
word rings each queue whose bit is 1, whose DB_PAGE is the page and whose state takes it, and records the first other
bit in CLS_HWS_DBREJ; the mapper binds the wanting queue of greatest PRIO, the nearest above the last one bound at
that PRIO, and reads its TAIL; a TAIL more than the ring holds above HEAD halts the queue with ERR 1, an error with
ERR 2; descriptors are taken in at HEAD in ring order; at HEAD = TAIL the slot frees itself unless PENDING is set; a
release, to which the loop is bound from the request that it stands in place of or from an arrival before HEAD meets
TAIL, leaves the queue in WAIT with PENDING set; and an error response to a HEAD write sets ERR 2. Some clauses also
rest on the model's choices of logs 56 and 156. -/
def Obligations.QueuesAreRungBoundAndFetched : Prop :=
  (∀ (s : State) (a : Acc) (page : BitVec 8) (w : BitVec 7) (x : BitVec 32),
    Performs s a (.dbWord page.toNat w.toNat) true →
    ∃ b, exec (.doorbellWrite a page w x) s = .next (s.wrote (.dbWord page.toNat w.toNat) b)
      ∧ (∀ k, b.queue k =
          if k / 32 = w.toNat ∧ x.getLsbD (k % 32) = true ∧ (s.blk.queue k).dbPage = page.toNat
              ∧ ((s.blk.queue k).state = .idle ∨ (s.blk.queue k).state = .wait ∨ (s.blk.queue k).state = .active) then
            (if (s.blk.queue k).state = .idle then { s.blk.queue k with pend := true, state := .wait, sinceHead := 0 }
              else { s.blk.queue k with pend := true })
          else s.blk.queue k)
      ∧ ((∀ k, k / 32 = w.toNat → x.getLsbD (k % 32) = true → s.blk.rings page.toNat k = true) →
          b = { s.blk with mp := b.mp, front := { s.blk.front with queues := b.front.queues } })
      ∧ (∀ q, q / 32 = w.toNat → x.getLsbD (q % 32) = true → s.blk.rings page.toNat q = false →
          (∀ k, k < q → k / 32 = w.toNat → x.getLsbD (k % 32) = true → s.blk.rings page.toNat k = true) →
          b.evc.pends 9 = true
          ∧ (s.blk.front.dbRej.toNat < 2 ^ 31 → b.front.dbRej.getLsbD 31 = true
              ∧ (b.front.dbRej.extractLsb' 0 12).toNat = q ∧ b.front.dbRej.extractLsb' 20 8 = page
              ∧ (b.front.dbRej.extractLsb' 28 2).toNat = (if (s.blk.queue q).dbPage = page.toNat then 1 else 0))
          ∧ (2 ^ 31 ≤ s.blk.front.dbRej.toNat → b.front.dbRej = s.blk.front.dbRej ||| 0x40000000#32))
      ∧ b = { s.blk with mp := b.mp, front := { s.blk.front with queues := b.front.queues, dbRej := b.front.dbRej },
                         evc := { s.blk.evc with pend := b.evc.pend }, trace := b.trace })
  ∧ (∀ (s : State) (q i : Nat), s.blk.halted = false → q ∈ s.blk.wanting → s.blk.eligibleSlot q = some i →
    (∀ k, k ∈ s.blk.wanting → (s.blk.eligibleSlot k).isSome = true → k ≠ q →
      (s.blk.queue k).prio < (s.blk.queue q).prio
      ∨ ((s.blk.queue k).prio = (s.blk.queue q).prio ∧ s.blk.mapDistance q < s.blk.mapDistance k)) →
    ∃ b, exec .slotMapperBind s = .next { s with blk := b }
      ∧ b.queue q = { s.blk.queue q with state := .active, bound := some i, pend := false }
      ∧ (∀ k, k ≠ q → b.queue k = s.blk.queue k)
      ∧ b.hws i = { reserved := (s.blk.hws i).reserved, queue := some q, tailDue := true }
      ∧ (∀ k, k ≠ i → b.hws k = s.blk.hws k)
      ∧ b.front.mapLast = q
      ∧ (∀ k, tget 4095 b.front.prioLast k = if k = (s.blk.queue q).prio then q else tget 4095 s.blk.front.prioLast k)
      ∧ b.mp = s.blk.mp.ask 63 0 (s.blk.queue q).rcbAddr 4 (.tail i)
      ∧ b = { s.blk with mp := b.mp, front := { s.blk.front with
                queues := b.front.queues, hws := b.front.hws, mapLast := b.front.mapLast, prioLast := b.front.prioLast } })
  ∧ (∀ (s : State) (i q : Nat) (code : BitVec 2) (tail : BitVec 32) (r : RReq), s.blk.mp.readFor (.tail i) = some r →
    (s.blk.hws i).queue = some q → (s.blk.hws i).tailDue = true → (s.blk.queue q).bound = some i → q < 4096 →
    ∃ b, exec (.tailReadReturn i code tail) s = .next { s with blk := b }
      ∧ (b.queue q).head = (s.blk.queue q).head ∧ (∀ k, k ≠ q → b.queue k = s.blk.queue k)
      ∧ (code ≠ 0 → (b.queue q).state = .halted ∧ (b.queue q).err = 2 ∧ (b.queue q).bound = none
          ∧ (b.hws i).queue = none ∧ b.evc.pends (768 + q / 64) = true)
      ∧ (code = 0 → 2 ^ (s.blk.queue q).log2sz < (tail - (s.blk.queue q).head).toNat →
          (b.queue q).state = .halted ∧ (b.queue q).err = 1 ∧ (b.queue q).tailSeen = tail
          ∧ (b.hws i).queue = none ∧ b.evc.pends (768 + q / 64) = true)
      ∧ (code = 0 → (tail - (s.blk.queue q).head).toNat ≤ 2 ^ (s.blk.queue q).log2sz →
          b.queue q = { s.blk.queue q with tailSeen := tail }
          ∧ (b.hws i).tail = tail ∧ (b.hws i).tailDue = false ∧ (b.hws i).queue = some q)
      ∧ b = { s.blk with mp := b.mp, front := { s.blk.front with queues := b.front.queues, hws := b.front.hws },
                         evc := { s.blk.evc with pend := b.evc.pend }, trace := b.trace, lkt := b.lkt })
  ∧ (∀ (s : State) (i q n : Nat) (codes : List (BitVec 2)) (d : List Word) (r : RReq),
    s.blk.mp.slotRead i = some r → r.purpose = .descs i (s.blk.queue q).head.toNat n → n ≤ 4 →
    (s.blk.hws i).queue = some q → (s.blk.hws i).early = [] →
    ∃ b, exec (.descriptorArrival i codes d) s = .next { s with blk := b }
      ∧ (b.queue q).head = (s.blk.queue q).head + BitVec.ofNat 32 n
      ∧ (b.queue q).inflight = (s.blk.queue q).inflight + n
      ∧ (b.queue q).waiting =
          (s.blk.queue q).waiting ++ fetchedOf s.blk.now (s.blk.queue q).head.toNat n codes d
      ∧ (b.queue q).state = (s.blk.queue q).state
      ∧ ((s.blk.queue q).state = .active → (s.blk.hws i).tailDue = false → (s.blk.queue q).head ≠ (s.blk.hws i).tail →
          s.blk.releaseApplies i q = true → (b.hws i).going = true)
      ∧ (∀ k, k ≠ q → b.queue k = s.blk.queue k) ∧ (∀ k, k ≠ i → b.hws k = s.blk.hws k)
      ∧ b = { s.blk with mp := b.mp, front := { s.blk.front with queues := b.front.queues, hws := b.front.hws,
                                                                 moved := b.front.moved },
                         evc := { s.blk.evc with pend := b.evc.pend }, trace := b.trace })
  ∧ (∀ (s : State) (i q : Nat), (s.blk.hws i).queue = some q → (s.blk.queue q).state = .active →
    s.blk.slotIdle i = true → (s.blk.queue q).head = (s.blk.hws i).tail → (s.blk.hws i).going = false →
    s.blk.halted = false →
    ((s.blk.queue q).pend = true → ∃ b, exec (.idleTest i) s = .next { s with blk := b }
      ∧ b.queue q = { s.blk.queue q with pend := false } ∧ b.hws i = { s.blk.hws i with tailDue := true }
      ∧ b.mp = s.blk.mp.ask 63 0 (s.blk.queue q).rcbAddr 4 (.tail i)
      ∧ b = { s.blk with mp := b.mp, front := { s.blk.front with queues := b.front.queues, hws := b.front.hws } })
    ∧ ((s.blk.queue q).pend = false → ∃ b, exec (.idleTest i) s = .next { s with blk := b }
      ∧ b.queue q = { s.blk.queue q with bound := none, state := .idle, sinceHead := 0 }
      ∧ b.hws i = { reserved := (s.blk.hws i).reserved }
      ∧ (∀ k, k ≠ q → b.queue k = s.blk.queue k) ∧ (∀ k, k ≠ i → b.hws k = s.blk.hws k)
      ∧ b = { s.blk with mp := b.mp, front := { s.blk.front with queues := b.front.queues, hws := b.front.hws } }))
  ∧ (∀ (s : State) (i q : Nat), (s.blk.hws i).queue = some q → (s.blk.queue q).state = .active →
    s.blk.slotIdle i = true →
    (s.blk.hws i).going = true ∨ ((s.blk.queue q).head ≠ (s.blk.hws i).tail ∧ s.blk.releaseApplies i q = true) →
    ∃ b, exec (.slotRelease i) s = .next { s with blk := b }
      ∧ b.queue q = { s.blk.queue q with bound := none, state := .wait, pend := true, sinceHead := 0 }
      ∧ b.hws i = { reserved := (s.blk.hws i).reserved }
      ∧ (∀ k, k ≠ q → b.queue k = s.blk.queue k) ∧ (∀ k, k ≠ i → b.hws k = s.blk.hws k)
      ∧ b = { s.blk with mp := b.mp, front := { s.blk.front with queues := b.front.queues, hws := b.front.hws } })
  ∧ (∀ (s : State) (i q : Nat) (tail : BitVec 32) (r : RReq), s.blk.mp.readFor (.tail i) = some r →
    (s.blk.hws i).queue = some q → (s.blk.hws i).tailDue = true → (s.blk.queue q).bound = some i →
    (s.blk.queue q).state = .active → s.blk.halted = false → (s.blk.hws i).going = false → s.blk.mp.slotReads i = 0 →
    (s.blk.hws i).requested = 0 → (s.blk.hws i).early = [] → tail ≠ (s.blk.queue q).head →
    (tail - (s.blk.queue q).head).toNat ≤ 2 ^ (s.blk.queue q).log2sz →
    ∃ b, exec (.tailReadReturn i 0 tail) s = .next { s with blk := b }
      ∧ (s.blk.releaseApplies i q = true → (b.hws i).going = true ∧ (b.hws i).requested = 0)
      ∧ (s.blk.releaseApplies i q = false → s.blk.queueOutgoing (s.blk.queue q) = false →
          (b.hws i).requested ≠ 0 ∧ (b.hws i).requested ≤ 16
          ∧ (b.hws i).requested ≤ (tail - (s.blk.queue q).head).toNat
          ∧ (b.hws i).requested ≤ 65535 - (s.blk.queue q).inflight))
  ∧ (∀ (s : State) (a : Acc) (i : Nat), Performs s a (.hwsCmd i) true →
    exec (.unbind a i) s = .next (s.wrote (.hwsCmd i)
      (if (s.blk.hws i).queue = none then s.blk else s.blk.modHws i fun h => { h with releasing := true })))
  ∧ ∀ (s : State) (q : Nat) (code : BitVec 2) (r : WReq), code ≠ 0 → q < 4096 →
    s.blk.mp.writes.find? (fun x => x.purpose == .headOf q) = some r →
    ∃ b, exec (.rcbError q false code) s = .next { s with blk := b }
      ∧ (b.queue q).err = 2
      ∧ (b.queue q).state = (if (s.blk.queue q).state = .idle ∨ (s.blk.queue q).state = .wait
          ∨ (s.blk.queue q).state = .active then .halted else (s.blk.queue q).state)
      ∧ (b.queue q).head = (s.blk.queue q).head ∧ (∀ k, k ≠ q → (∀ i, (s.blk.queue q).bound = some i → (s.blk.hws i).queue ≠ some k) → b.queue k = s.blk.queue k)
      ∧ b = { s.blk with mp := b.mp, front := { s.blk.front with queues := b.front.queues, hws := b.front.hws },
                         evc := { s.blk.evc with pend := b.evc.pend }, trace := b.trace, lkt := b.lkt }

/-- R172, R173, R10: a unit that is busy and has been without a break, whose partition runs, and whose counter has not
moved for the window of its KIND, is reported once (the ticks note since when a unit is busy: the model's choice, log
22): the report enters the FIFO of 32 and raises source 3; one that finds the FIFO full is counted as lost. POP
removes the oldest report and CLR_LOST clears the count. -/
def Obligations.StallsAreReported : Prop :=
  (∀ (s : State) (k : BitVec 2) (u : Nat) (last : Nat), tget 0 s.blk.front.window k.toNat ≠ 0 →
    tget (0, false) s.blk.front.moved (stallUnit k.toNat u) = (last, false) →
    let since := max last ((tget none s.blk.front.busy (stallUnit k.toNat u)).getD s.blk.now)
    s.blk.unitBusy k.toNat u = true → s.blk.unitStopped k.toNat u = false →
    since + 1000 * (tget 0 s.blk.front.window k.toNat).toNat + s.blk.stoppedTime k.toNat u since ≤ s.blk.now →
    ∃ b, exec (.stallReport k u) s = .next { s with blk := b }
      ∧ (s.blk.front.stalls.length < 32 →
          b.front.stalls = s.blk.front.stalls ++ [{ kind := k.toNat, unit := u, sinceUs := last / 1000 }]
          ∧ b.front.lost = s.blk.front.lost ∧ b.evc.pends 3 = true)
      ∧ (32 ≤ s.blk.front.stalls.length → b.front.stalls = s.blk.front.stalls
          ∧ b.front.lost = satAdd 16 s.blk.front.lost 1 ∧ b.evc = s.blk.evc ∧ b.trace = s.blk.trace)
      ∧ (∀ j, tget (0, false) b.front.moved j =
          if j = stallUnit k.toNat u then (last, true) else tget (0, false) s.blk.front.moved j)
      ∧ b = { s.blk with front := { s.blk.front with stalls := b.front.stalls, lost := b.front.lost,
                                                     moved := b.front.moved },
                         evc := { s.blk.evc with pend := b.evc.pend }, trace := b.trace })
  ∧ (∀ (s : State) (a : Acc), Performs s a .prgPop true →
    exec (.pop a) s = .next (s.wrote .prgPop { s.blk with front := { s.blk.front with
      stalls := s.blk.front.stalls.drop 1 } }))
  ∧ ∀ (s : State) (a : Acc), Performs s a .prgPop true →
    exec (.clrLost a) s = .next (s.wrote .prgPop { s.blk with front := { s.blk.front with lost := 0 } })

/-- R207, R208, R215, R240, R250: how a fetched submission is checked and placed. A check that finds nothing marks the
descriptor as passed; one that fails, and a submission whose signals would close a cycle of fences, leaves the queue
and waits for delivery with the failing status, with none of its nodes placed. Otherwise the submission takes its
number, whose SGEN advances by one, and its roots become READY. Some clauses also rest on the model's choices of logs
59, 60, 63, 115 and 139. -/
def Obligations.SubmissionsAreCheckedAndPlaced : Prop :=
  (∀ (s : State) (q : Nat) (m : MemView) (f : Fetched) (r : List Fetched), (s.blk.queue q).waiting = f :: r →
    s.blk.segDirty m f = true → exec (.checkPass q m) s = .next s)
  ∧ (∀ (s : State) (q : Nat) (m : MemView) (f : Fetched) (r : List Fetched), (s.blk.queue q).waiting = f :: r →
    f.passed = false → s.blk.halted = false → s.blk.segDirty m f = false →
    let st := mergeStatus f.abort (checkPassStatus s.params s.blk (s.blk.queue q).checkFor m f.code f.desc)
    (st = Status.ok → ∃ b, exec (.checkPass q m) s = .next { s with blk := b }
      ∧ b.queue q = { s.blk.queue q with waiting := { f with passed := true } :: r }
      ∧ (∀ k, k ≠ q → b.queue k = s.blk.queue k)
      ∧ b = { s.blk with mp := b.mp, front := { s.blk.front with queues := b.front.queues },
                         evc := { s.blk.evc with pend := b.evc.pend }, trace := b.trace })
    ∧ (st ≠ Status.ok → s.blk.canReport q = false → exec (.checkPass q m) s = .next s)
    ∧ (st ≠ Status.ok → s.blk.canReport q = true → ∃ b x, exec (.checkPass q m) s = .next { s with blk := b }
      ∧ b.queue q = { s.blk.queue q with waiting := r } ∧ (∀ k, k ≠ q → b.queue k = s.blk.queue k)
      ∧ (b.cq (s.blk.queue q).cq).held = (s.blk.cq (s.blk.queue q).cq).held ++ [x]
      ∧ x.seg = none ∧ x.status = st ∧ x.queue = q ∧ x.ringIdx = f.ringIdx ∧ x.nretired = 0 ∧ x.nreleased = 0
      ∧ x.tDone = s.blk.now
      ∧ b = { s.blk with free := b.free, mp := b.mp, front := { s.blk.front with queues := b.front.queues },
                         graph := b.graph, fences := b.fences, cqs := b.cqs, link := b.link,
                         experts := { s.blk.experts with held := b.experts.held, waitLoad := b.experts.waitLoad },
                         evc := { s.blk.evc with pend := b.evc.pend }, trace := b.trace }))
  ∧ ∀ (s : State) (q : Nat) (seg : BitVec 16) (m : MemView) (f : Fetched) (r : List Fetched),
    (s.blk.queue q).waiting = f :: r → f.passed = true →
    s.blk.placeReady s.params (s.blk.queue q).part seg.toNat = true → s.blk.placeDomains (descAudit f.desc) = [] →
    let a := descSeg f.desc
    let h := readHdr m a
    let cycle := s.blk.closesCycle (segWaits s.blk m a h.nnodes) (segSignals m a h.nnodes f.desc)
    (cycle = some true → s.blk.canReport q = true → ∃ b x, exec (.submissionPlace q seg m) s = .next { s with blk := b }
      ∧ b.queue q = { s.blk.queue q with waiting := r }
      ∧ (b.cq (s.blk.queue q).cq).held = (s.blk.cq (s.blk.queue q).cq).held ++ [x]
      ∧ x.status = Status.fenceCycle ∧ x.queue = q ∧ x.ringIdx = f.ringIdx
      ∧ b.fences.rejected = satAdd 16 s.blk.fences.rejected 1)
    ∧ (cycle ≠ some true → descAudit f.desc = true → s.blk.audit.size = 0 → s.blk.canReport q = true →
      ∃ b x, exec (.submissionPlace q seg m) s = .next { s with blk := b }
      ∧ b.queue q = { s.blk.queue q with waiting := r }
      ∧ (b.cq (s.blk.queue q).cq).held = (s.blk.cq (s.blk.queue q).cq).held ++ [x]
      ∧ x.status = Status.capacity ∧ x.queue = q ∧ x.ringIdx = f.ringIdx)
    ∧ (cycle ≠ some true → descAudit f.desc = false →
      s.blk.experts.version < s.blk.versionOf (bits (descW f.desc 3) 31 0) →
      ∃ b, exec (.submissionPlace q seg m) s = .next { s with blk := b } ∧ b.experts = { s.blk.experts with held := true }
      ∧ (s.blk.experts.held = false → b.evc.pends 15 = true)
      ∧ b = { s.blk with experts := b.experts, evc := { s.blk.evc with pend := b.evc.pend }, trace := b.trace })
    ∧ (cycle ≠ some true → s.blk.pagerIdle s.params h.nnodes → (descAudit f.desc = true → s.blk.audit.size ≠ 0 ∧ s.blk.auditUsed < s.blk.auditSlots) →
      s.blk.versionOf (bits (descW f.desc 3) 31 0) ≤ s.blk.experts.version →
      ∃ b, exec (.submissionPlace q seg m) s = .next { s with blk := b }
      ∧ b.queue q = { s.blk.queue q with waiting := r } ∧ (∀ k, k ≠ q → b.queue k = s.blk.queue k)
      ∧ tget 0 b.graph.sgen seg.toNat = wrapAdd 16 (tget 0 s.blk.graph.sgen seg.toNat) 1
      ∧ (b.sub seg.toNat).live = true ∧ (b.sub seg.toNat).queue = q ∧ (b.sub seg.toNat).ringIdx = f.ringIdx
      ∧ (b.sub seg.toNat).ctx = (s.blk.queue q).ctx ∧ (b.sub seg.toNat).part = (s.blk.queue q).part
      ∧ (b.sub seg.toNat).desc = f.desc ∧ (b.sub seg.toNat).nnodes = h.nnodes ∧ (b.sub seg.toNat).done = 0
      ∧ (∀ n, n < h.nnodes → recTemplate m (recAddr a n) = false → bits (recW m (recAddr a n) 0) 31 16 = 0 →
          (b.node seg.toNat n).used = true ∧ (b.node seg.toNat n).state = .ready
          ∧ (b.node seg.toNat n).kind = recKind m (recAddr a n))
      ∧ (∀ k, k ≠ seg.toNat → b.sub k = s.blk.sub k)
      ∧ b.fences.unchecked = (if cycle = none then satAdd 16 s.blk.fences.unchecked 1 else s.blk.fences.unchecked)
      ∧ b = { s.blk with front := { s.blk.front with queues := b.front.queues }, graph := b.graph, fences := b.fences,
                         experts := { s.blk.experts with held := b.experts.held, waitLoad := b.experts.waitLoad },
                         evc := { s.blk.evc with pend := b.evc.pend }, trace := b.trace })

/-- R216 to R221, R228, R230, R262: a READY Bead-kind node takes the window entry of lowest number that is free, whose
generation advances, and goes to its Bead as NODE records: each successor that stands in a window of that Bead is a
window edge, named in the form 1 entries in list order, 12 to an entry, and each other one is a Clasp edge. A
successor that may be adopted takes an entry too, one adoption further away, and its NODE goes with it, as one that is
not READY. A node waits while its lane is not open, the crossing to it is full (R66), no window entry is free, or an
earlier READY node of the same Bead is still to go (the model's choice, log 158). A node that no Bead may run, or
whose predecessors' failure it does not tolerate, ends in the Clasp, released without running. Some clauses also rest
on the model's choices of logs 15, 66 and 157. -/
def Obligations.ReadyNodesAreForwardedOrReleased : Prop :=
  (∀ (s : State) (seg i a w : Nat) (m : MemView), (s.blk.sub seg).live = true → (s.blk.sub seg).abandoned = none →
    (s.blk.node seg i).used = true → (s.blk.node seg i).state = .ready → (s.blk.node seg i).releaseWith = none →
    (s.blk.node seg i).bead = some a → s.blk.laneOpen s.params a = true → s.blk.roomDown s.params a = true →
    s.blk.readyAhead seg i a = false → (s.blk.node seg i).spilled = false →
    s.blk.freeWin a = some w → (readSuccs s.blk m seg i).status = Status.ok →
    let es := (readSuccs s.blk m seg i).entries
    let g := wrapAdd 16 (s.blk.cwin a w).gen 1
    let inWin (j : Nat) : Bool := let n := s.blk.node seg j
      beadKind n.kind && n.bead == some a && n.state == .forwarded
    let wins := (es.filter inWin).map fun j => (s.blk.node seg j).win
    let head (n : Node) (w g k : Nat) (j : Nat) : Rec := nodeRec s.params a w g
      (nodeEntry seg j (tget 0 s.blk.graph.sgen seg) (if n.count = 0 then 5 else 4) k n)
    (s.blk.pgEntries + es.length ≤ s.params.nodeCache → es.length ≤ 4096 →
      (∀ j, j ∈ es → j ≠ i ∧ (s.blk.node seg j).used = true ∧ (s.blk.node seg j).spilled = false
        ∧ (inWin j = true → (s.blk.node seg j).win ≠ w)
        ∧ (beadKind (s.blk.node seg j).kind = true → (s.blk.node seg j).bead = some a →
            (s.blk.node seg j).state ≠ .pending)) →
      ∃ b, exec (.nodeForward seg i m) s = .next { s with blk := b }
      ∧ b.node seg i = { s.blk.node seg i with
          state := .forwarded, win := w, gen := g, depth := 0, resolved := true
          edges := es.filter (fun j => !inWin j), wedges := wins }
      ∧ (∀ j, j ≠ i → b.node seg j = { s.blk.node seg j with seen := (b.node seg j).seen })
      ∧ b.cwin a w = { s.blk.cwin a w with gen := g, holder := some (seg, i) }
      ∧ (∀ k v, ¬ (k = a ∧ v = w) → b.cwin k v =
          if k = a ∧ v ∈ wins ∧ w ∉ (s.blk.cwin k v).namers then
            { s.blk.cwin k v with namers := w :: (s.blk.cwin k v).namers }
          else s.blk.cwin k v)
      ∧ a ∈ (b.sub seg).beads ∧ (∀ k, k ≠ seg → b.sub k = s.blk.sub k)
      ∧ b.lanes = ((chunk12 (wins.length + 1) wins).foldl
          (fun (c : Block) xs => c.sendDown s.params a (nodeRec s.params a w g (form1Entry xs)))
          (s.blk.sendDown s.params a (head (s.blk.node seg i) w g ((wins.length + 11) / 12) i))).lanes
      ∧ b = { s.blk with mp := { s.blk.mp with errAddr := b.mp.errAddr, errInfo := b.mp.errInfo }
                         lanes := b.lanes, graph := b.graph, evc := { s.blk.evc with pend := b.evc.pend }
                         trace := b.trace })
    ∧ (∀ j v, es = [j] → j ≠ i → (readSuccs s.blk m seg j).status = Status.ok → (readSuccs s.blk m seg j).entries = [] →
      let n := s.blk.node seg j
      n.used = true → n.spilled = false → n.state = .pending → beadKind n.kind = true → n.bead = some a →
      1026 ≤ s.blk.freeWins a → (s.blk.takeWin a w seg i 0).freeWin a = some v → v ≠ w →
      s.blk.pgEntries ≤ s.params.nodeCache →
      let gv := wrapAdd 16 (s.blk.cwin a v).gen 1
      ∃ b, exec (.nodeForward seg i m) s = .next { s with blk := b }
      ∧ b.node seg i = { s.blk.node seg i with
          state := .forwarded, win := w, gen := g, depth := 0, resolved := true, edges := [], wedges := [v] }
      ∧ b.node seg j = { n with
          state := .forwarded, win := v, gen := gv, depth := 1, resolved := true, edges := [], wedges := []
          seen := (b.node seg j).seen }
      ∧ (∀ k, k ≠ i → k ≠ j → b.node seg k = s.blk.node seg k)
      ∧ b.cwin a w = { s.blk.cwin a w with gen := g, holder := some (seg, i) }
      ∧ b.cwin a v = { s.blk.cwin a v with gen := gv, holder := some (seg, j), namers := w :: (s.blk.cwin a v).namers }
      ∧ b.lanes = (((s.blk.sendDown s.params a (head (s.blk.node seg i) w g 1 i)).sendDown s.params a
          (head n v gv 0 j)).sendDown s.params a (nodeRec s.params a w g (form1Entry [v]))).lanes
      ∧ b = { s.blk with mp := { s.blk.mp with errAddr := b.mp.errAddr, errInfo := b.mp.errInfo }
                         lanes := b.lanes, graph := b.graph, evc := { s.blk.evc with pend := b.evc.pend }
                         trace := b.trace }))
  ∧ (∀ (s : State) (seg i a : Nat) (m : MemView), (s.blk.node seg i).releaseWith = none →
    (s.blk.node seg i).bead = some a → (s.blk.node seg i).spilled = false →
    (s.blk.laneOpen s.params a = false ∨ s.blk.roomDown s.params a = false ∨ s.blk.freeWin a = none
      ∨ s.blk.readyAhead seg i a = true) →
    exec (.nodeForward seg i m) s = .next s)
  ∧ ∀ (s : State) (seg i : Nat) (m : MemView) (st : Status), (s.blk.sub seg).live = true →
    (s.blk.sub seg).abandoned = none → (s.blk.node seg i).used = true → (s.blk.node seg i).state = .ready →
    (s.blk.node seg i).releaseWith = some st → st ≠ Status.aborted → (s.blk.node seg i).kind ≠ 2 →
    (s.blk.node seg i).kind ≠ 4 → EdgesReach s.params s.blk m seg i →
    ∃ b, exec (.nodeForward seg i m) s = .next { s with blk := b } ∧ NodeEnds s.params m s.blk b seg i st true
      ∧ b = { s.blk with mp := { s.blk.mp with errAddr := b.mp.errAddr, errInfo := b.mp.errInfo }
                         lanes := b.lanes, graph := b.graph, fences := b.fences
                         evc := { s.blk.evc with pend := b.evc.pend }, trace := b.trace }

/-- R230, R246, R279, R280: how a WAIT node goes. One that acts while its generation is pending is ACTING and
registered; one whose outcome is known retires with OK, or is released with the outcome where that is a failure; with
ARRIVAL_V it reads its counter first, retires once A − Q is less than 2^47 modulo 2^48, is released where the read
fails, and otherwise waits 64 hc, and then twice as long each time up to 4096 hc, for the next read. Some clauses also
rest on the model's choices of logs 58, 100 and 120. -/
def Obligations.WaitNodesAct : Prop :=
  (∀ (s : State) (seg i : Nat) (m : MemView), (s.blk.node seg i).kind = 3 → s.blk.gate seg i = .act →
    EdgesReach s.params s.blk m seg i → (s.blk.node seg i).outcome = none →
    (∀ w, w ∈ s.blk.fences.waits → ¬ (w.seg = seg ∧ w.index = i)) →
    (s.blk.fence (handleIndex (recFence m (s.blk.node seg i).record))).ended
      (handleGen (recFence m (s.blk.node seg i).record)) = false →
    ∃ b, exec (.waitAct seg i m) s = .next { s with blk := b }
      ∧ (b.node seg i).state = .acting ∧ (b.node seg i).outcome = none
      ∧ b.fences = { s.blk.fences with waits := s.blk.fences.waits ++ [{
            fence := handleIndex (recFence m (s.blk.node seg i).record)
            gen := handleGen (recFence m (s.blk.node seg i).record), seg := seg, index := i }] }
      ∧ (∀ j, j ≠ i → b.node seg j = (s.blk.listed s.params m seg i).node seg j) ∧ (∀ k, k ≠ seg → b.sub k = s.blk.sub k)
      ∧ b = { s.blk with mp := { s.blk.mp with errAddr := b.mp.errAddr, errInfo := b.mp.errInfo }
                         graph := b.graph, fences := b.fences, evc := { s.blk.evc with pend := b.evc.pend }
                         trace := b.trace })
  ∧ (∀ (s : State) (seg i : Nat) (m : MemView) (st : Status), (s.blk.node seg i).kind = 3 →
    s.blk.gate seg i = .act → EdgesReach s.params s.blk m seg i → (s.blk.node seg i).outcome = some st →
    isFailure st = true → st ≠ Status.aborted →
    ∃ b, exec (.waitAct seg i m) s = .next { s with blk := b } ∧ NodeEnds s.params m s.blk b seg i st true
      ∧ b = { s.blk with mp := { s.blk.mp with errAddr := b.mp.errAddr, errInfo := b.mp.errInfo }
                         lanes := b.lanes, graph := b.graph, fences := b.fences
                         evc := { s.blk.evc with pend := b.evc.pend }, trace := b.trace })
  ∧ (∀ (s : State) (seg i : Nat) (m : MemView) (st : Status), (s.blk.node seg i).kind = 3 →
    s.blk.gate seg i = .act → EdgesReach s.params s.blk m seg i → (s.blk.node seg i).outcome = some st →
    isFailure st = false → (s.blk.node seg i).busy = false → (s.blk.node seg i).interval = 0 →
    (bits (recW m (s.blk.node seg i).record 2) 32 32 = 0 →
      ∃ b, exec (.waitAct seg i m) s = .next { s with blk := b } ∧ NodeEnds s.params m s.blk b seg i Status.ok false
        ∧ b = { s.blk with mp := { s.blk.mp with errAddr := b.mp.errAddr, errInfo := b.mp.errInfo }
                           lanes := b.lanes, graph := b.graph, fences := b.fences
                           evc := { s.blk.evc with pend := b.evc.pend }, trace := b.trace })
    ∧ (bits (recW m (s.blk.node seg i).record 2) 32 32 = 1 →
      ∃ b, exec (.waitAct seg i m) s = .next { s with blk := b }
        ∧ (b.node seg i).state = .acting ∧ (b.node seg i).busy = true
        ∧ (b.node seg i).arrival = bits (recW m (s.blk.node seg i).record 3) 55 0
        ∧ b.mp = (s.blk.listed s.params m seg i).mp.ask 63 4 (bits (recW m (s.blk.node seg i).record 3) 55 0) 8 (.arrival seg i)
        ∧ (∀ j, j ≠ i → b.node seg j = (s.blk.listed s.params m seg i).node seg j) ∧ (∀ k, k ≠ seg → b.sub k = s.blk.sub k)
        ∧ b = { s.blk with mp := b.mp, graph := b.graph, evc := { s.blk.evc with pend := b.evc.pend }
                           trace := b.trace }))
  ∧ (∀ (s : State) (seg i : Nat) (code : BitVec 2) (d : Word) (m : MemView) (r : RReq),
    s.blk.mp.readFor (.arrival seg i) = some r → s.blk.acting seg i 3 = true → EdgesReach s.params s.blk m seg i →
    (code ≠ 0 → ∃ b, exec (.arrivalRead seg i code d m) s = .next { s with blk := b }
      ∧ NodeEnds s.params m s.blk b seg i (codeStatus Status.indirectFault code) true
      ∧ b = { s.blk with mp := b.mp, lanes := b.lanes, graph := b.graph, fences := b.fences
                         evc := { s.blk.evc with pend := b.evc.pend },
                         trace := b.trace })
    ∧ (code = 0 → arrived (fld d 47 0) ((s.blk.node seg i).quantity.getD 0) = true →
      ∃ b, exec (.arrivalRead seg i code d m) s = .next { s with blk := b } ∧ NodeEnds s.params m s.blk b seg i Status.ok false
      ∧ b = { s.blk with mp := b.mp, lanes := b.lanes, graph := b.graph, fences := b.fences
                         evc := { s.blk.evc with pend := b.evc.pend },
                         trace := b.trace })
    ∧ (code = 0 → arrived (fld d 47 0) ((s.blk.node seg i).quantity.getD 0) = false →
      exec (.arrivalRead seg i code d m) s = .next { s with
        blk := Block.modNode { s.blk with mp := Mp.promoteRead { s.blk.mp with reads := s.blk.mp.reads.erase r } r.port }
          seg i fun n => { n with
            busy := false, interval := if n.interval = 0 then 64 else min 4096 (2 * n.interval) } }))
  ∧ ∀ (s : State) (seg i : Nat), s.blk.acting seg i 3 = true → (s.blk.node seg i).busy = false →
    (s.blk.node seg i).interval ≠ 0 → s.blk.claspHeld (s.blk.sub seg).part = false →
    exec (.arrivalRereadTimer seg i) s = .next { s with
      blk := Block.modNode { s.blk with mp := s.blk.mp.ask 63 4 (s.blk.node seg i).arrival 8 (.arrival seg i) } seg i
        fun n => { n with busy := true } }

/-- R244, R247, R278, R279: a local SIGNAL that acts for the generation after the fence's GEN sets GEN to it, gives
the outcome OK to each wait registered on it and STALE_HANDLE to each signal that waited to end it, and retires with
OK; a signal that waits to end the generation after it then acts too, with its own QUANTITY and UNIT. For a later
generation it waits its turn; with a handle that fails its check, or that names an ended generation, it retires with
STALE_HANDLE and the fences stay. FENCE_POISON leaves an ACTIVE fence POISONED with its generation and status, GEN,
QUANTITY and UNIT (the model's choice, log 166) as they were, gives each wait and each signal for a generation that
has then ended its outcome, and retires with OK; with a handle that fails, with STALE_HANDLE. The successors of each
of these nodes have their decrements. R377: a SIGNAL with REMOTE = 1 that acts is released with SETTING_MISMATCH while
EN is 0 (the model's choice, log 12), when no VALID entry is for its peer, or only INCOMPAT ones are; waits while the
peer is not UP or the transmit queue is full; and is otherwise queued as a SIGNAL packet. It retires with OK once its
packet has been transmitted. Some clauses also rest on the model's choices of logs 58 and 138. -/
def Obligations.SignalsAndPoisonsAct : Prop :=
  ((∀ (s : State) (seg i : Nat) (m : MemView), (s.blk.node seg i).kind = 4 → s.blk.gate seg i = .act →
    EdgesReach s.params s.blk m seg i → bits (recW m (s.blk.node seg i).record 2) 56 56 = 0 →
    let k := handleIndex (recFence m (s.blk.node seg i).record)
    let h := handleGen (recFence m (s.blk.node seg i).record)
    let ok := handleOk (s.blk.fence k) h true (s.blk.sub seg).kernel (s.blk.sub seg).ctx
    let waits := s.blk.fences.waits
    let turns := s.blk.fences.turns
    (ok = true → (s.blk.fence k).ended h = false → (s.blk.fence k).gen + 1 = h →
      (∀ t, t ∈ turns → t.fence = k → t.gen ≠ h + 1) →
      ∃ d b, exec (.signalAct seg i m) s = .next { s with blk := b } ∧ NodeEnds s.params m d b seg i Status.ok false
      ∧ b.fence k = { s.blk.fence k with gen := h, quantity := 0, unit := false }
      ∧ (∀ j, j ≠ k → b.fence j = s.blk.fence j)
      ∧ b.fences.waits = waits.filter (fun w => !(w.fence == k && w.gen == h) && !(w.seg == seg && w.index == i))
      ∧ b.fences.turns = turns.filter (fun t => !(t.fence == k && t.gen == h) && t.by' != .node seg i)
      ∧ (∀ w, w ∈ waits → w.fence = k → w.gen = h →
          (∀ t, t ∈ turns → t.fence = k → t.gen = h → t.by' ≠ .node w.seg w.index) →
          d.node w.seg w.index = { s.blk.node w.seg w.index with outcome := some Status.ok, quantity := some 0 })
      ∧ (∀ t g j, t ∈ turns → t.fence = k → t.gen = h → t.by' = .node g j →
          (d.node g j).outcome = some Status.staleHandle)
      ∧ (∀ g j, (∀ w, w ∈ waits → ¬ (w.fence = k ∧ w.gen = h ∧ w.seg = g ∧ w.index = j)) →
          (∀ t, t ∈ turns → ¬ (t.fence = k ∧ t.gen = h ∧ t.by' = .node g j)) → d.node g j = s.blk.node g j)
      ∧ d = { s.blk with graph := { s.blk.graph with subs := d.graph.subs } }
      ∧ b = { s.blk with mp := { s.blk.mp with errAddr := b.mp.errAddr, errInfo := b.mp.errInfo }
                         lanes := b.lanes, graph := b.graph, fences := b.fences
                         link := { s.blk.link with stale := b.link.stale }
                         evc := { s.blk.evc with pend := b.evc.pend }, trace := b.trace })
    ∧ (∀ t, ok = true → (s.blk.fence k).state = .active → (s.blk.fence k).gen + 1 = h → t ∈ turns → turns.count t = 1 →
      t.fence = k → t.gen = h + 1 →
      (∀ u, u ∈ turns → u.fence = k → u ≠ t → u.gen ≠ h ∧ u.gen ≠ h + 1 ∧ u.gen ≠ h + 2) →
      (∀ w, w ∈ waits → w.fence = k → t.by' ≠ .node w.seg w.index) → t.by' ≠ .node seg i →
      ∃ d b, exec (.signalAct seg i m) s = .next { s with blk := b } ∧ NodeEnds s.params m d b seg i Status.ok false
      ∧ b.fence k = { s.blk.fence k with gen := h + 1, quantity := t.by'.quantity.1, unit := t.by'.quantity.2 }
      ∧ (∀ j, j ≠ k → b.fence j = s.blk.fence j)
      ∧ (∀ g j, t.by' = .node g j → d.node g j = { s.blk.node g j with outcome := some Status.ok })
      ∧ (∀ w, w ∈ waits → w.fence = k → w.gen = h →
          (∀ x, x ∈ waits → x.fence = k → x.gen = h + 1 → ¬ (x.seg = w.seg ∧ x.index = w.index)) →
          d.node w.seg w.index = { s.blk.node w.seg w.index with outcome := some Status.ok, quantity := some 0 })
      ∧ (∀ w, w ∈ waits → w.fence = k → w.gen = h + 1 →
          d.node w.seg w.index = { s.blk.node w.seg w.index with
            outcome := some Status.ok, quantity := some t.by'.quantity.1 })
      ∧ (∀ g j, (∀ w, w ∈ waits → ¬ (w.fence = k ∧ (w.gen = h ∨ w.gen = h + 1) ∧ w.seg = g ∧ w.index = j)) →
          t.by' ≠ .node g j → d.node g j = s.blk.node g j)
      ∧ d = { s.blk with graph := { s.blk.graph with subs := d.graph.subs } }
      ∧ b = { s.blk with mp := { s.blk.mp with errAddr := b.mp.errAddr, errInfo := b.mp.errInfo }
                         lanes := b.lanes, graph := b.graph, fences := b.fences
                         evc := { s.blk.evc with pend := b.evc.pend }, trace := b.trace })
    ∧ (ok = true → (s.blk.fence k).ended h = false → (s.blk.fence k).gen + 1 ≠ h →
      ∃ b, exec (.signalAct seg i m) s = .next { s with blk := b }
      ∧ (b.node seg i).state = .acting
      ∧ b.fences = { s.blk.fences with turns := turns ++ [{ fence := k, gen := h, by' := .node seg i }] }
      ∧ (∀ j, j ≠ i → b.node seg j = (s.blk.listed s.params m seg i).node seg j) ∧ (∀ j, j ≠ seg → b.sub j = s.blk.sub j)
      ∧ b = { s.blk with mp := { s.blk.mp with errAddr := b.mp.errAddr, errInfo := b.mp.errInfo }
                         graph := b.graph, fences := b.fences, evc := { s.blk.evc with pend := b.evc.pend }
                         trace := b.trace })
    ∧ (ok = false ∨ (s.blk.fence k).ended h = true → ∃ b, exec (.signalAct seg i m) s = .next { s with blk := b }
      ∧ NodeEnds s.params m s.blk b seg i Status.staleHandle false ∧ b.fences.table = s.blk.fences.table
      ∧ b = { s.blk with mp := { s.blk.mp with errAddr := b.mp.errAddr, errInfo := b.mp.errInfo }
                         lanes := b.lanes, graph := b.graph, fences := b.fences
                         evc := { s.blk.evc with pend := b.evc.pend }, trace := b.trace }))
  ∧ ∀ (s : State) (seg i : Nat) (m : MemView), (s.blk.node seg i).kind = 7 →
    privOp m (s.blk.node seg i).record = 4 → s.blk.gate seg i = .act → EdgesReach s.params s.blk m seg i →
    let w3 := recW m (s.blk.node seg i).record 3
    let k := bits w3 15 0
    let h : BitVec 16 := BitVec.ofNat 16 (bits w3 31 16)
    let ok := handleOk (s.blk.fence k) h true (s.blk.sub seg).kernel (s.blk.sub seg).ctx
    let waits := s.blk.fences.waits
    let turns := s.blk.fences.turns
    let f : Fence := { s.blk.fence k with state := .poisoned, pgen := h, pstatus := BitVec.ofNat 8 (bits w3 39 32) }
    (ok = true → (s.blk.fence k).ended h = false → (s.blk.fence k).state = .active →
      (∀ w x, w ∈ waits → x ∈ waits → w.seg = x.seg → w.index = x.index → w = x) →
      (∀ w t, w ∈ waits → t ∈ turns → t.by' ≠ .node w.seg w.index) →
      (∀ t u g j, t ∈ turns → u ∈ turns → t.by' = .node g j → u.by' = .node g j → t = u) →
      ∃ d b, exec (.fencePoison seg i m) s = .next { s with blk := b } ∧ NodeEnds s.params m d b seg i Status.ok false
      ∧ b.fence k = f ∧ (∀ j, j ≠ k → b.fence j = s.blk.fence j)
      ∧ b.fences.waits = waits.filter (fun w => !(w.fence == k && f.ended w.gen) && !(w.seg == seg && w.index == i))
      ∧ b.fences.turns = turns.filter (fun t => !(t.fence == k && f.ended t.gen) && t.by' != .node seg i)
      ∧ (∀ w, w ∈ waits → w.fence = k → f.ended w.gen = true →
          d.node w.seg w.index = { s.blk.node w.seg w.index with outcome := some (f.outcome w.gen), quantity := none })
      ∧ (∀ t g j, t ∈ turns → t.fence = k → f.ended t.gen = true → t.by' = .node g j →
          d.node g j = { s.blk.node g j with outcome := some (f.outcome t.gen) })
      ∧ (∀ g j, (∀ w, w ∈ waits → ¬ (w.fence = k ∧ f.ended w.gen = true ∧ w.seg = g ∧ w.index = j)) →
          (∀ t, t ∈ turns → ¬ (t.fence = k ∧ f.ended t.gen = true ∧ t.by' = .node g j)) →
          d.node g j = s.blk.node g j)
      ∧ d = { s.blk with graph := { s.blk.graph with subs := d.graph.subs } }
      ∧ b = { s.blk with mp := { s.blk.mp with errAddr := b.mp.errAddr, errInfo := b.mp.errInfo }
                         lanes := b.lanes, graph := b.graph, fences := b.fences
                         link := { s.blk.link with stale := b.link.stale }
                         evc := { s.blk.evc with pend := b.evc.pend }, trace := b.trace })
    ∧ (ok = false ∨ (s.blk.fence k).ended h = true → ∃ b, exec (.fencePoison seg i m) s = .next { s with blk := b }
      ∧ NodeEnds s.params m s.blk b seg i Status.staleHandle false ∧ b.fences.table = s.blk.fences.table
      ∧ b = { s.blk with mp := { s.blk.mp with errAddr := b.mp.errAddr, errInfo := b.mp.errInfo }
                         lanes := b.lanes, graph := b.graph, fences := b.fences
                         evc := { s.blk.evc with pend := b.evc.pend }, trace := b.trace }))
  ∧ ((∀ (s : State) (seg i : Nat) (m : MemView), (s.blk.node seg i).kind = 4 → s.blk.gate seg i = .act →
    EdgesReach s.params s.blk m seg i → bits (recW m (s.blk.node seg i).record 2) 56 56 = 1 →
    (s.blk.node seg i).remote = some (bits (recW m (s.blk.node seg i).record 2) 51 32) →
    let w2 := recW m (s.blk.node seg i).record 2
    let x := bits w2 51 32
    ((s.blk.peerFor x = none ∨ s.blk.link.en = false
        ∨ ∀ e, e ∈ s.blk.entriesFor x → (tget {} s.blk.link.peers e).state = .incompat) →
      Tab.wf {} s.blk.link.peers = true → ∃ b, exec (.remoteSignalAct seg i m) s = .next { s with blk := b }
      ∧ NodeEnds s.params m s.blk b seg i Status.mismatch true
      ∧ (s.blk.peerFor x = none ∨ s.blk.link.en = false → b.link = s.blk.link)
      ∧ b = { s.blk with mp := { s.blk.mp with errAddr := b.mp.errAddr, errInfo := b.mp.errInfo }
                         lanes := b.lanes, graph := b.graph, fences := b.fences
                         link := { s.blk.link with poisons := b.link.poisons }
                         evc := { s.blk.evc with pend := b.evc.pend }, trace := b.trace })
    ∧ (∀ e, s.blk.peerFor x = some e → s.blk.link.en = true → s.blk.onlyIncompat x = false →
      ((s.blk.peer e).state ≠ .up ∨ s.blk.txRoom = false) →
      ∃ b, exec (.remoteSignalAct seg i m) s = .next { s with blk := b }
      ∧ (b.node seg i).state = .acting ∧ (b.node seg i).peer = some x ∧ (b.node seg i).busy = (s.blk.node seg i).busy
      ∧ (∀ j, j ≠ i → b.node seg j = (s.blk.listed s.params m seg i).node seg j)
      ∧ b = { s.blk with mp := { s.blk.mp with errAddr := b.mp.errAddr, errInfo := b.mp.errInfo }
                         graph := b.graph, evc := { s.blk.evc with pend := b.evc.pend }, trace := b.trace })
    ∧ (∀ e, s.blk.peerFor x = some e → s.blk.link.en = true → (s.blk.peer e).state = .up →
      s.blk.link.txq.length < 64 → (s.blk.dom 6).state = .on →
      ∃ b, exec (.remoteSignalAct seg i m) s = .next { s with blk := b }
      ∧ (b.node seg i).state = .acting ∧ (b.node seg i).busy = true ∧ i ∈ (b.sub seg).acted
      ∧ (∀ j, j ≠ i → b.node seg j = (s.blk.listed s.params m seg i).node seg j)
      ∧ (s.blk.link.sending ≠ none → b.link.sending = s.blk.link.sending)
      ∧ b.link = { s.blk.link with sending := b.link.sending, txq := s.blk.link.txq ++ [{
          words := signalPacket (s.blk.peer e).rev x s.blk.link.self (recFence m (s.blk.node seg i).record) Status.ok
            (bits w2 57 57 == 1) (bits (recW m (s.blk.node seg i).record 3) 47 0)
          link := (s.blk.peer e).link, peer := e, by' := .signalNode seg (tget 0 s.blk.graph.sgen seg) i }] }
      ∧ b = { s.blk with mp := { s.blk.mp with errAddr := b.mp.errAddr, errInfo := b.mp.errInfo }
                         graph := b.graph, link := b.link, evc := { s.blk.evc with pend := b.evc.pend }
                         trace := b.trace }))
  ∧ ∀ (s : State) (seg i : Nat) (m : MemView), s.blk.acting seg i 4 = true → EdgesReach s.params s.blk m seg i →
    bits (recW m (s.blk.node seg i).record 2) 56 56 = 1 → (s.blk.node seg i).outcome = some Status.ok →
    ∃ b, exec (.remoteSignalAct seg i m) s = .next { s with blk := b } ∧ NodeEnds s.params m s.blk b seg i Status.ok false
      ∧ b = { s.blk with mp := { s.blk.mp with errAddr := b.mp.errAddr, errInfo := b.mp.errInfo }
                         lanes := b.lanes, graph := b.graph, fences := b.fences
                         evc := { s.blk.evc with pend := b.evc.pend }, trace := b.trace })

/-- R227, R294, R356, R466, R467: a submission that is quiet, and whose audit digest stands where one is asked, joins
the completions held for its completion queue; the digest of an audited one is that of R466, or zero where it failed;
and an expansion whose nodes have all ended passes its contribution to its join as one decrement: in the Clasp, or as
records where the join stands in a window; it waits for the refill of a join that is spilled (R236), and for room
where the join needs an entry and none can be freed (R237). R468: the audit region's registers take a write, unless an
audited submission is in flight. Some clauses also rest on the model's choices of logs 14, 24, 65, 139 and 140. -/
def Obligations.SubmissionsEnd : Prop :=
  ((∀ (s : State) (seg : Nat) (m : MemView), s.blk.quiet seg = true → s.blk.holdRoom = true →
    ((s.blk.sub seg).audited = true → (s.blk.sub seg).digest ≠ none) → (s.blk.sub seg).abandoned = none →
    (s.blk.graph.met.contains seg = false ∨ s.blk.metFirst (s.blk.queue (s.blk.sub seg).queue).cq = some seg) →
    s.blk.pagerIdle s.params 0 →
    ∃ b, exec (.submissionComplete seg m) s = .next { s with blk := b }
      ∧ (b.cq (s.blk.queue (s.blk.sub seg).queue).cq).held =
          (s.blk.cq (s.blk.queue (s.blk.sub seg).queue).cq).held ++ [s.blk.compOf seg]
      ∧ (∀ c, c ≠ (s.blk.queue (s.blk.sub seg).queue).cq → b.cq c = s.blk.cq c)
      ∧ b.sub seg = { s.blk.sub seg with complete := true } ∧ (∀ k, k ≠ seg → b.sub k = s.blk.sub k)
      ∧ b.graph = { s.blk.graph with subs := b.graph.subs, met := s.blk.graph.met.filter (· != seg) }
      ∧ b = { s.blk with graph := b.graph, cqs := b.cqs })
  ∧ (∀ (s : State) (seg x : Nat) (m : MemView), s.blk.graph.met.contains seg = true →
    s.blk.metFirst (s.blk.queue (s.blk.sub seg).queue).cq = some x → x ≠ seg →
    exec (.submissionComplete seg m) s = .next s)
  ∧ (∀ (s : State) (seg : Nat) (m : MemView), (s.blk.sub seg).live = true → (s.blk.sub seg).complete = false →
    (s.blk.sub seg).audited = true → (s.blk.sub seg).digest = none →
    let x := s.blk.sub seg
    let st := m.status Status.format (descSeg x.desc) x.size
    (x.pd = none → st = Status.ok → s.blk.quiet seg = false →
      exec (.auditDigest seg m) s = .next { s with blk := s.blk.modSub seg fun x => { x with
        pd := some (programDigest x.desc m (descSeg x.desc) x.size) } })
    ∧ (x.pd = none → st ≠ Status.ok → s.blk.quiet seg = false →
      ∃ b i, exec (.auditDigest seg m) s = .next { s with blk := b }
        ∧ b.sub seg = { x with pd := some 0, fail := if x.fail = none then some (st, i) else x.fail }
        ∧ (∀ k, k ≠ seg → b.sub k = s.blk.sub k)
        ∧ b = { s.blk with free := b.free, mp := b.mp, graph := b.graph, evc := { s.blk.evc with pend := b.evc.pend },
                           trace := b.trace })
    ∧ (x.pd ≠ none → s.blk.quiet seg = true →
      exec (.auditDigest seg m) s = .next { s with blk := s.blk.modSub seg fun x => { x with
        digest := some (if x.fail = none then x.auditDigest else 0) } })
    ∧ (x.pd ≠ none → s.blk.quiet seg = false → exec (.auditDigest seg m) s = .next s))
  ∧ ∀ (s : State) (seg e j : Nat) (m : MemView) (c : Contribution), (s.blk.sub seg).live = true →
    tget {} (s.blk.sub seg).contribs e = c → c.used = true → c.retired = true → c.left = 0 →
    bits (recW m ((s.blk.sub seg).record e) 4) 63 32 = j → (s.blk.sub seg).abandoned = none →
    s.blk.over seg = false → j ∉ (s.blk.sub seg).gone → s.blk.graph.router = [] → s.blk.graph.full = false →
    s.blk.pgCached ≤ s.params.nodeCache →
    let n := s.blk.node seg j
    let edge : Edge := { seg := seg, sgen := tget 0 s.blk.graph.sgen seg, index := j, status := c.status }
    ∃ b, exec (.joinContribution seg e m) s = .next { s with blk := b }
      ∧ (∀ k, tget {} (b.sub seg).contribs k = if k = e then {} else tget {} (s.blk.sub seg).contribs k)
      ∧ (∀ i, i ≠ j → b.node seg i = s.blk.node seg i) ∧ (∀ k, k ≠ seg → b.sub k = s.blk.sub k)
      ∧ (n.used = true → n.spilled = false → ¬ n.windowed → n.count ≠ 0 →
        b.node seg j = { n with
          seen := s.blk.graph.clock + 1
          order := if n.count = 1 then s.blk.graph.readyNext else n.order
          count := n.count - 1
          state := if n.count = 1 then .ready else n.state
          pstatus := if n.pstatus = 0 then poisonOf c.status else n.pstatus }
        ∧ b = { s.blk with graph := b.graph })
      ∧ (n.used = true → n.spilled = false → n.windowed → b.node seg j = { n with seen := s.blk.graph.clock + 1 }
        ∧ b.lanes = (s.blk.edgesDown s.params s.blk seg [j] c.status).lanes
        ∧ b = { s.blk with lanes := b.lanes, graph := b.graph })
      ∧ (n.used = true → n.spilled = true → b.node seg j = n ∧ b.graph.router = [edge]
        ∧ b = { s.blk with mp := (s.blk.wantEntry seg j).mp, graph := b.graph })
      ∧ (n.used = false → s.blk.pgFull s.params = true → b.node seg j = n ∧ b.graph.router = [edge]
        ∧ b.graph.full = true ∧ b.evc.pends 4 = true
        ∧ b = { s.blk with graph := b.graph, evc := { s.blk.evc with pend := b.evc.pend }, trace := b.trace })
      ∧ (n.used = false → s.blk.pgFull s.params = false → s.blk.pgEntries + 1 ≤ s.params.nodeCache →
        (nodeOfRecord (s.blk.sub seg) m ((s.blk.sub seg).record j)).count ≠ 0 →
        Decremented ((s.blk.touch s.params m seg j).node seg j) (b.node seg j) 1 c.status
        ∧ b = { s.blk with graph := b.graph }))
  ∧ (∀ (s : State) (a : Acc) (size : Bool) (d : Word),
    Performs s a (if size = true then .audSize else .audBase) true →
    exec (.audRegionWrite a size d) s = .next (s.wrote (if size = true then .audSize else .audBase)
      (if s.blk.auditInFlight = true then s.blk
        else if size = true then { s.blk with audit := { s.blk.audit with size := BitVec.ofNat 32 (fld d 15 0) } }
        else { s.blk with audit := { s.blk.audit with base := BitVec.ofNat 64 (fld d 55 21 * 2097152) } })))

/-- R236 to R238, R241: entries that stand in the region come back with the answers to their reads: with the last part
they stand in the cache again, and an answer that is an error leaves ECC_UNCORRECTABLE in the node. An answer to no
such read changes nothing. A READY node whose entry stands in the region asks for it before anything else happens to
it. FULL and source 4 rise when work waits and no entry can be freed, and FULL falls once one can. SWEEP starts a
sweep, which reads the region unit by unit, and does nothing while one runs; it writes back a unit that held stale
entries; a sweep that has passed the region, and whose writes are answered, restarts the counts from its start, with
SWEEP_REQ evaluated again; CLR_ERR clears both error counts. Which entries go to the region, and where they stand
there, is the model's choice (log 17). Some clauses also rest on the model's choices of logs 13, 62, 143 and 144. -/
def Obligations.ThePagerKeepsEntries : Prop :=
  (∀ (s : State) (seg i : Nat) (code : BitVec 2) (m : MemView), s.blk.mp.readFor (.refill seg i) = none →
    exec (.pagerRefill seg i ⟨code, m⟩) s = .next s)
  ∧ (∀ (s : State) (seg i : Nat) (code : BitVec 2) (m : MemView) (r : RReq), s.blk.mp.readFor (.refill seg i) = some r →
    (s.blk.node seg i).used = true → (s.blk.node seg i).spilled = true → s.blk.pagerIdle s.params 0 →
    let w := Mp.promoteRead { s.blk.mp with reads := s.blk.mp.reads.erase r } r.port
    ∃ b, exec (.pagerRefill seg i ⟨code, m⟩) s = .next { s with blk := b }
      ∧ b.mp = { w with errAddr := b.mp.errAddr, errInfo := b.mp.errInfo }
      ∧ (code = 0 → b.mp = w)
      ∧ ((w.reads ++ w.heldReads).any (·.purpose == .refill seg i) = false → b.node seg i = { s.blk.node seg i with
          spilled := false, seen := s.blk.graph.clock + 1
          pstatus := if code ≠ 0 ∧ (s.blk.node seg i).pstatus = 0 then Status.ecc else (s.blk.node seg i).pstatus })
      ∧ ((w.reads ++ w.heldReads).any (·.purpose == .refill seg i) = true → b.node seg i = { s.blk.node seg i with
          pstatus := if code ≠ 0 ∧ (s.blk.node seg i).pstatus = 0 then Status.ecc else (s.blk.node seg i).pstatus })
      ∧ (∀ j, j ≠ i → b.node seg j = s.blk.node seg j) ∧ (∀ k, k ≠ seg → b.sub k = s.blk.sub k)
      ∧ (code ≠ 0 → b.evc.pends 1 = true)
      ∧ b = { s.blk with mp := b.mp, graph := b.graph, evc := { s.blk.evc with pend := b.evc.pend }, trace := b.trace })
  ∧ (∀ (s : State) (seg i : Nat) (m : MemView), (s.blk.sub seg).live = true → (s.blk.sub seg).abandoned = none →
    (s.blk.node seg i).used = true → (s.blk.node seg i).state = .ready → (s.blk.node seg i).spilled = true →
    exec (.nodeForward seg i m) s = .next { s with blk := s.blk.wantEntry seg i })
  ∧ (∀ (s : State), s.blk.pgCapacity s.params ≤ s.blk.pgEntries → s.blk.graph.full = false →
    ∃ b, exec .pagerFull s = .next { s with blk := b }
      ∧ b.graph = { s.blk.graph with full := true } ∧ b.evc.pends 4 = true
      ∧ b = { s.blk with graph := b.graph, evc := { s.blk.evc with pend := b.evc.pend }, trace := b.trace })
  ∧ (∀ (s : State), s.blk.pgEntries < s.blk.pgCapacity s.params →
    exec .pagerFull s = .next { s with blk := { s.blk with graph := { s.blk.graph with full := false } } })
  ∧ (∀ (s : State) (a : Acc), Performs s a .pgCmd true →
    let g := { s.blk.graph with sweepBusy := true, sweepPercent := 0, sweepPos := 0, advNew := [] }
    (s.blk.graph.sweepBusy = true → exec (.sweep a) s = .next (s.wrote .pgCmd s.blk))
    ∧ (s.blk.graph.sweepBusy = false → s.blk.graph.pgSize = 0 →
        exec (.sweep a) s = .next (s.wrote .pgCmd { s.blk with graph := g }))
    ∧ (s.blk.graph.sweepBusy = false → s.blk.graph.pgSize ≠ 0 →
        exec (.sweep a) s = .next (s.wrote .pgCmd { s.blk with
          graph := g, mp := s.blk.mp.ask 63 1 (fld s.blk.graph.pgBase 55 21 * 2097152) 64 (.sweep 0) })))
  ∧ (∀ (s : State) (port : Nat) (id : BitVec 8) (data : List Word) (m : MemView) (r : RReq) (k : Nat),
    s.blk.mp.reads.find? (fun r => r.port == port && r.id == id.toNat) = some r → r.purpose = .sweep k →
    s.blk.graph.sweepBusy = true → s.blk.graph.sweepPos = k → k < s.blk.pgUnits →
    ∃ b, exec (.memoryReadResponse port id [0] data m) s = .next { s with blk := b }
      ∧ b.graph = { s.blk.graph with
          sweepPos := k + 1, sweepPercent := min 99 (100 * (k + 1) / s.blk.pgUnits)
          staleSlots := s.blk.graph.staleSlots.filter (· / 2 != k) }
      ∧ (k + 1 < s.blk.pgUnits → (b.mp.reads ++ b.mp.heldReads).any (·.purpose == .sweep (k + 1)) = true)
      ∧ (s.blk.graph.staleSlots.any (· / 2 == k) = false → b.free = s.blk.free)
      ∧ (s.blk.graph.staleSlots.any (· / 2 == k) = true → b.mp.writesFor (· == .sweep) = true)
      ∧ b = { s.blk with free := b.free, mp := b.mp, graph := b.graph })
  ∧ (∀ (s : State), s.blk.graph.sweepBusy = true → s.blk.pgUnits ≤ s.blk.graph.sweepPos →
    s.blk.mp.writesFor (· == .sweep) = false → exec .sweepComplete s = .next { s with blk := { s.blk with
      graph := { s.blk.graph with
        sweepBusy := false, sweepPercent := 100
        adv := s.blk.graph.advNew, advNew := [], sweepReq := s.blk.graph.advNew.any fun t => 8192 ≤ t.2 } } })
  ∧ (∀ (s : State), s.blk.graph.sweepPos < s.blk.pgUnits ∨ s.blk.mp.writesFor (· == .sweep) = true →
    exec .sweepComplete s = .next s)
  ∧ ∀ (s : State) (a : Acc), Performs s a .pgCmd true → exec (.clrErr a) s = .next (s.wrote .pgCmd
      { s.blk with graph := { s.blk.graph with stale := 0, underflow := 0 } })

/-- R252: "FNC_CMD acts as follows, and any other case is ignored and sets REJ": ALLOC, FREE, CLEAR and CLR_COUNT,
each where R252 accepts it. -/
def Obligations.FenceCommands : Prop :=
  (∀ (s : State) (a : Acc) (i : BitVec 16) (o : BitVec 10), Performs s a .fncCmd true →
    ((s.blk.fence i.toNat).state = .free → (s.blk.ctx o.toNat).state ≠ .free →
      ∃ b, exec (.fncAlloc a i o) s = .next (s.wrote .fncCmd b)
        ∧ b.fence i.toNat = { s.blk.fence i.toNat with
            state := .active, owner := o, gen := (s.blk.fence i.toNat).gen + 32768 }
        ∧ (∀ k, k ≠ i.toNat → b.fence k = s.blk.fence k)
        ∧ b = { s.blk with fences := { s.blk.fences with
            table := b.fences.table, cmdRej := false, cmdIndex := i.toNat } })
    ∧ ((s.blk.fence i.toNat).state ≠ .free ∨ (s.blk.ctx o.toNat).state = .free →
      exec (.fncAlloc a i o) s = .next (s.wrote .fncCmd { s.blk with fences := { s.blk.fences with
        cmdRej := true, cmdIndex := i.toNat } })))
  ∧ (∀ (s : State) (a : Acc) (i : BitVec 16), Performs s a .fncCmd true →
    ((s.blk.fence i.toNat).state ≠ .free → s.blk.fences.waiters i.toNat = 0 →
      ∃ b, exec (.fncFree a i) s = .next (s.wrote .fncCmd b)
        ∧ b.fence i.toNat = { s.blk.fence i.toNat with state := .free }
        ∧ (∀ k, k ≠ i.toNat → b.fence k = s.blk.fence k)
        ∧ b = { s.blk with fences := { s.blk.fences with
            table := b.fences.table, cmdRej := false, cmdIndex := i.toNat } })
    ∧ ((s.blk.fence i.toNat).state = .free ∨ s.blk.fences.waiters i.toNat ≠ 0 →
      exec (.fncFree a i) s = .next (s.wrote .fncCmd { s.blk with fences := { s.blk.fences with
        cmdRej := true, cmdIndex := i.toNat } })))
  ∧ (∀ (s : State) (a : Acc) (i : BitVec 16), Performs s a .fncCmd true →
    ((s.blk.fence i.toNat).state = .poisoned → s.blk.fences.waiters i.toNat = 0 →
      ∃ b, exec (.fncClear a i) s = .next (s.wrote .fncCmd b)
        ∧ b.fence i.toNat = { s.blk.fence i.toNat with
            state := .active, gen := (s.blk.fence i.toNat).gen + 32768, pgen := 0, pstatus := 0 }
        ∧ (∀ k, k ≠ i.toNat → b.fence k = s.blk.fence k)
        ∧ b = { s.blk with fences := { s.blk.fences with
            table := b.fences.table, cmdRej := false, cmdIndex := i.toNat } })
    ∧ ((s.blk.fence i.toNat).state ≠ .poisoned ∨ s.blk.fences.waiters i.toNat ≠ 0 →
      exec (.fncClear a i) s = .next (s.wrote .fncCmd { s.blk with fences := { s.blk.fences with
        cmdRej := true, cmdIndex := i.toNat } })))
  ∧ (∀ (s : State) (a : Acc), Performs s a .fncCmd true →
    exec (.fncClrCount a) s = .next (s.wrote .fncCmd { s.blk with fences := { s.blk.fences with
      unchecked := 0, rejected := 0, cmdRej := false, cmdIndex := 0 } }))
  ∧ ∀ (s : State) (a : Acc) (op : BitVec 4) (i : BitVec 16), Performs s a .fncCmd true →
    (op = 0 ∨ 5 ≤ op.toNat) →
    exec (.fncCmdInvalid a op i) s = .next (s.wrote .fncCmd { s.blk with fences := { s.blk.fences with
      cmdRej := true, cmdIndex := i.toNat } })

/-- R213, R214, R226, R230, R233, R234: the records NODE, DEC and FENCE at a Bead whose lane end takes them. A form 0
entry fills its window entry and asks for the record, and for the parameters where there are any; a form 1 entry adds
its window edges; a node that comes with COUNT = 0 is WREADY, or released where its PSTATUS releases it; a record for
another generation is discarded and counted as STALE; a DEC lowers the counter, and the last one makes the node
WREADY, next in the order of issue; a FENCE leaves its status where none stands, and one with ABORTED releases a node
that has not issued. Some clauses also rest on the model's choices of logs 20 and 77. -/
def Obligations.NodeRecordsAtTheBead : Prop :=
  (∀ (s : State) (n : Nat) (w : BitVec 12) (g : BitVec 16) (w0 w1 w2 w3 : Word) (b0 : Block),
    ActsAtBead s.params s.blk n (nodeRec s.params n w.toNat g.toNat [w0, w1, w2, w3]) b0 →
    fld w0 63 62 = 0 → (fld w0 31 16 = 0 → fld w0 45 40 = 0 ∨ fld w0 61 58 = 1 ∨ fld w3 55 0 ≠ 0) →
    let e := entryOf g.toNat w0 w1 w2 w3
    ∃ b, exec (.node n w g w0 w1 w2 w3) s = .next { s with blk := b }
      ∧ b.win n w.toNat =
          (if fld w0 31 16 ≠ 0 then { e with fixed := (b.win n w.toNat).fixed }
          else if isFailure e.pstatus = true ∧ (e.tolerant = false ∨ e.pstatus = Status.aborted) then { e with
            state := .leaving, released := true, final := e.pstatus, fixed := (b.win n w.toNat).fixed }
          else { e with
            state := .wready, order := (s.blk.bead n).orderNext, fixed := (b.win n w.toNat).fixed })
      ∧ ((s.blk.bead n).det = false → (b.win n w.toNat).fixed = [])
      ∧ (∀ k v, ¬ (k = n ∧ v = w.toNat) → b.win k v = s.blk.win k v)
      ∧ b.mp = (let sub := if fld w1 63 32 = 0xFFFFFFFF then none else some (fld w0 15 0, fld w1 31 16)
                let m := if fld w0 61 58 = 1 then s.blk.mp
                  else s.blk.mp.ask n 0 (fld w2 55 0) 64 (.nodeRecord n w.toNat g.toNat sub)
                if fld w0 61 58 = 1 ∨ fld w3 55 0 = 0 then m
                else m.ask n 0 (fld w3 55 0) 64 (.nodeParam n w.toNat g.toNat sub))
      ∧ b = { s.blk with mp := b.mp, lanes := b0.lanes, beads := b.beads, lkt := b.lkt })
  ∧ (∀ (s : State) (n : Nat) (w : BitVec 12) (g : BitVec 16) (w0 w1 w2 w3 : Word) (b0 : Block),
    ActsAtBead s.params s.blk n (nodeRec s.params n w.toNat g.toNat [w0, w1, w2, w3]) b0 →
    fld w0 63 62 = 1 → (s.blk.win n w.toNat).used = true → (s.blk.win n w.toNat).gen = g.toNat →
    exec (.node n w g w0 w1 w2 w3) s = .next { s with
      blk := b0.modWin n w.toNat fun e =>
        { e with edges := e.edges ++ form1Edges w0 w1 w2 w3, forms := e.forms - 1 } })
  ∧ (∀ (s : State) (n : Nat) (w : BitVec 12) (g k : BitVec 16) (b0 : Block),
    ActsAtBead s.params s.blk n (decRec s.params n w.toNat g.toNat k.toNat) b0 →
    ((s.blk.win n w.toNat).used = false ∨ (s.blk.win n w.toNat).gen ≠ g.toNat) →
    ∃ b, exec (.dec n w g k) s = .next { s with blk := b }
      ∧ b = { s.blk with lanes := b0.lanes, lkt := b.lkt
                         graph := { s.blk.graph with stale := satAdd 16 s.blk.graph.stale 1 } })
  ∧ (∀ (s : State) (n : Nat) (w : BitVec 12) (g k : BitVec 16) (b0 : Block),
    ActsAtBead s.params s.blk n (decRec s.params n w.toNat g.toNat k.toNat) b0 →
    (s.blk.win n w.toNat).used = true → (s.blk.win n w.toNat).gen = g.toNat →
    (s.blk.win n w.toNat).state ≠ .leaving → k ≠ 0 → k.toNat < (s.blk.win n w.toNat).count →
    ∃ b, exec (.dec n w g k) s = .next { s with blk := b }
      ∧ b.win n w.toNat = { s.blk.win n w.toNat with count := (s.blk.win n w.toNat).count - k.toNat }
      ∧ (∀ m v, ¬ (m = n ∧ v = w.toNat) → b.win m v = s.blk.win m v)
      ∧ b = { s.blk with lanes := b0.lanes, beads := b.beads })
  ∧ (∀ (s : State) (n : Nat) (w : BitVec 12) (g k : BitVec 16) (b0 : Block),
    ActsAtBead s.params s.blk n (decRec s.params n w.toNat g.toNat k.toNat) b0 →
    (s.blk.win n w.toNat).used = true → (s.blk.win n w.toNat).gen = g.toNat →
    (s.blk.win n w.toNat).state ≠ .leaving → k ≠ 0 → k.toNat = (s.blk.win n w.toNat).count →
    isFailure (s.blk.win n w.toNat).pstatus = false → (s.blk.win n w.toNat).indirect = 0 →
    ∃ b, exec (.dec n w g k) s = .next { s with blk := b }
      ∧ b.win n w.toNat = { s.blk.win n w.toNat with
          count := 0, state := .wready, order := (s.blk.bead n).orderNext }
      ∧ (b.bead n).orderNext = (s.blk.bead n).orderNext + 1
      ∧ (∀ m v, ¬ (m = n ∧ v = w.toNat) → b.win m v = s.blk.win m v)
      ∧ b = { s.blk with lanes := b0.lanes, beads := b.beads })
  ∧ (∀ (s : State) (n : Nat) (w : BitVec 12) (g : BitVec 16) (st : Status) (b0 : Block),
    ActsAtBead s.params s.blk n (fenceRec s.params n w.toNat g.toNat st) b0 →
    (s.blk.win n w.toNat).used = true → (s.blk.win n w.toNat).gen = g.toNat →
    (s.blk.win n w.toNat).state ≠ .leaving → st ≠ Status.aborted →
    exec (.fence n w g st) s = .next { s with
      blk := b0.modWin n w.toNat fun e =>
        { e with pstatus := if e.pstatus = 0 then st else e.pstatus } })
  ∧ ∀ (s : State) (n : Nat) (w : BitVec 12) (g : BitVec 16) (b0 : Block),
    ActsAtBead s.params s.blk n (fenceRec s.params n w.toNat g.toNat Status.aborted) b0 →
    (s.blk.win n w.toNat).used = true → (s.blk.win n w.toNat).gen = g.toNat →
    ((s.blk.win n w.toNat).state = .window ∨ (s.blk.win n w.toNat).state = .wready) →
    (s.blk.bead n).tileOf w.toNat = none → (s.blk.win n w.toNat).eccBad = false →
    ∃ b, exec (.fence n w g Status.aborted) s = .next { s with blk := b }
      ∧ (b.win n w.toNat).state = .leaving ∧ (b.win n w.toNat).released = true
      ∧ (b.win n w.toNat).final =
          (if (s.blk.win n w.toNat).pstatus = 0 then Status.aborted else (s.blk.win n w.toNat).pstatus)
      ∧ (∀ m v, ¬ (m = n ∧ v = w.toNat) → b.win m v = s.blk.win m v)
      ∧ b = { s.blk with lanes := b0.lanes, beads := b.beads }

/-- R34, R203, R206, R215, R223, R271: what a node in a window does of itself. A NOP that is WREADY retires with OK;
an indirect word takes its place among the parameters, and a failed one ends the node with its status once all have
returned; a tile list with no tiles retires EMPTY, and one whose tiles have all completed with the first failure among
them; a node that has its final status lowers its successors in the window, each in its place, those whose bank is
taken waiting for it, and then leaves with a CPL, a retired one counted for a RET; a counter bank takes one decrement
at a time; and what would send a CPL into a full crossing waits (R66). Some clauses also rest on the model's choices
of logs 8, 67, 131, 132 and 157. -/
def Obligations.NodesLeaveTheirWindow : Prop :=
  (∀ (s : State) (n : Nat) (w : BitVec 12), (s.blk.win n w.toNat).used = true → (s.blk.win n w.toNat).kind = 1 →
    (s.blk.win n w.toNat).state = .wready → (s.blk.win n w.toNat).broken = false → (s.blk.bead n).fencedOff = false →
    (s.blk.bead n).tileOf w.toNat = none → (s.blk.win n w.toNat).eccBad = false →
    exec (.nopRetire n w) s = .next { s with blk := s.blk.modWin n w.toNat fun e =>
      { e with state := .leaving, final := Status.ok, released := false } })
  ∧ (∀ (s : State) (n : Nat) (w : BitVec 12) (k : Nat) (d : Word) (r : RReq),
    s.blk.mp.reads.find? (fun x => x.purpose == .indirect n w.toNat (s.blk.win n w.toNat).gen k) = some r →
    (s.blk.win n w.toNat).used = true → k ∈ (s.blk.win n w.toNat).indirectDue →
    (s.blk.win n w.toNat).indirectAsked = false →
    ∃ b, exec (.indirectReadReturn n w k 0 d) s = .next { s with blk := b }
      ∧ b.win n w.toNat = { s.blk.win n w.toNat with
          indirectDue := (s.blk.win n w.toNat).indirectDue.erase k, param := (s.blk.win n w.toNat).param.set k d }
      ∧ (∀ m v, ¬ (m = n ∧ v = w.toNat) → b.win m v = s.blk.win m v)
      ∧ b = { s.blk with beads := b.beads
                         mp := Mp.promoteRead { s.blk.mp with reads := s.blk.mp.reads.erase r } r.port })
  ∧ (∀ (s : State) (n : Nat) (w : BitVec 12) (k : Nat) (code : BitVec 2) (d : Word) (r : RReq),
    s.blk.mp.reads.find? (fun x => x.purpose == .indirect n w.toNat (s.blk.win n w.toNat).gen k) = some r →
    (s.blk.win n w.toNat).used = true → (s.blk.win n w.toNat).indirectDue = [k] → k < 6 → code ≠ 0 →
    (s.blk.win n w.toNat).indirectAsked = true → (s.blk.win n w.toNat).state = .wready →
    (s.blk.win n w.toNat).indirectFail = [] → (s.blk.bead n).tileOf w.toNat = none →
    (s.blk.win n w.toNat).eccBad = false →
    ∃ b, exec (.indirectReadReturn n w k code d) s = .next { s with blk := b }
      ∧ (b.win n w.toNat).state = .leaving ∧ (b.win n w.toNat).released = true
      ∧ (b.win n w.toNat).final = firstFailure (s.blk.win n w.toNat).pstatus
          (if code = 1 then Status.ecc else Status.indirectFault)
      ∧ b = { s.blk with mp := b.mp, beads := b.beads, evc := { s.blk.evc with pend := b.evc.pend }, trace := b.trace })
  ∧ (∀ (s : State) (n : Nat) (w : BitVec 12), (s.blk.win n w.toNat).used = true → (s.blk.bead n).fencedOff = false →
    (s.blk.win n w.toNat).state = .wready → (s.blk.win n w.toNat).tiles = some 0 →
    (s.blk.bead n).tileOf w.toNat = none → (s.blk.win n w.toNat).readsDone = true →
    (s.blk.win n w.toNat).broken = false → (s.blk.win n w.toNat).eccBad = false →
    exec (.tileListRetire n w) s = .next { s with blk := s.blk.modWin n w.toNat fun e =>
      { e with state := .leaving, final := Status.empty, released := false } })
  ∧ (∀ (s : State) (n : Nat) (w : BitVec 12) (k i : Nat) (t : Tile), (s.blk.win n w.toNat).used = true →
    (s.blk.bead n).fencedOff = false →
    ((s.blk.win n w.toNat).state = .wready ∨ (s.blk.win n w.toNat).state = .issued) →
    (s.blk.win n w.toNat).tiles = some k → (s.blk.bead n).tileOf w.toNat = some (i, t) → t.back = [] →
    t.next = k → t.done = k → (s.blk.bead n).presents w.toNat = false → (s.blk.win n w.toNat).eccBad = false →
    exec (.tileListRetire n w) s = .next { s with blk := (s.blk.modTile n i fun _ => {}).modWin n w.toNat fun e =>
      { e with state := .leaving, final := t.failed, released := false } })
  ∧ (∀ (s : State) (n : Nat) (w : BitVec 12), (s.blk.win n w.toNat).used = true →
    (s.blk.win n w.toNat).state = .leaving → (s.blk.win n w.toNat).forms = 0 → (s.blk.bead n).bank = [] →
    let e := s.blk.win n w.toNat
    let o := (s.blk.bead n).orderNext
    (s.blk.roomUp s.params n = false → exec (.windowEdgesApply n w) s = .next s)
    ∧ (s.blk.roomUp s.params n = true → w.toNat ∉ e.edges → (∀ x, x ∈ e.edges → s.blk.lowers n x) →
      ∃ b, exec (.windowEdgesApply n w) s = .next { s with blk := b }
        ∧ (∀ t, t ∈ (b.bead n).bank → t.1 = w.toNat ∧ t.2.2.1 = e.final ∧ o ≤ t.2.2.2
            ∧ e.edges[t.2.2.2 - o]? = some t.2.1)
        ∧ (b.bead n).bank.Pairwise (fun t u => t.2.2.2 < u.2.2.2)
        ∧ (b.bead n).bank.length = e.edges.length - min 16 (e.edges.map (· % 32)).eraseDups.length
        ∧ (∀ i x, e.edges[i]? = some x → (∀ t, t ∈ (b.bead n).bank → t.2.2.2 ≠ o + i) →
            b.win n x = (s.blk.win n x).lowered e.final (o + i))
        ∧ (∀ m v, ¬ (m = n ∧ v = w.toNat) →
            (m = n → ∀ i, e.edges[i]? = some v → ∃ t, t ∈ (b.bead n).bank ∧ t.2.2.2 = o + i) →
            b.win m v = s.blk.win m v)
        ∧ (b.bead n).orderNext = o + e.edges.length
        ∧ ((b.bead n).bank = [] → Leaves s.params s.blk b n w.toNat)
        ∧ ((b.bead n).bank ≠ [] → b.win n w.toNat = e ∧ b.lanes = s.blk.lanes)
        ∧ b = { s.blk with front := b.front, lanes := b.lanes, beads := b.beads, lkt := b.lkt }))
  ∧ ∀ (s : State) (n : Nat) (k : BitVec 5) (w x o : Nat) (st : Status),
    (s.blk.bead n).bank.find? (fun t => t.2.1 % 32 == k.toNat) = some (w, x, st, o) →
    let rest := (s.blk.bead n).bank.erase (w, x, st, o)
    let last := ∀ t, t ∈ rest → t.1 ≠ w
    (last → s.blk.roomUp s.params n = false → exec (.bankDecrement n k) s = .next s)
    ∧ ((last → s.blk.roomUp s.params n = true) → x ≠ w → s.blk.lowers n x →
      ∃ b, exec (.bankDecrement n k) s = .next { s with blk := b }
        ∧ (b.bead n).bank = rest
        ∧ b.win n x = (s.blk.win n x).lowered st o
        ∧ (∀ m v, ¬ (m = n ∧ (v = w ∨ v = x)) → b.win m v = s.blk.win m v)
        ∧ (last → Leaves s.params s.blk b n w)
        ∧ (¬ last → b.win n w = s.blk.win n w ∧ b.lanes = s.blk.lanes)
        ∧ b = { s.blk with front := b.front, lanes := b.lanes, beads := b.beads, lkt := b.lkt })

/-- R265, R266, R268 to R271, R275, R277, R286, R517, R518: a Bead that runs selects the earliest of its nodes that
can be selected, urgent ones first, once its regulators hold what they have gained, and presents its dispatch on the
slot chosen, or starts its expansion; its submission has then started and its regulators are charged. A tile list
presents the tile that comes next: with its first it takes the lowest free tile counter, and it stays WREADY while
tiles are left. A node that has lost its slots is released with SETTING_MISMATCH. A Bead that is fenced off selects
nothing. Every regulator gains RATE × 64 for each multiple of 64 ns that the time has reached since the last refill,
up to its BURST. Some clauses also rest on the model's choices of logs 69, 131, 133, 159 and 165. -/
def Obligations.TheEarliestNodeIsIssued : Prop :=
  (∀ (s : State) (n : Nat), (s.blk.bead n).fencedOff = true → exec (.issueSelect n) s = .next s)
  ∧ (∀ (s : State) (n w : Nat), (s.blk.bead n).fencedOff = false → (s.blk.bead n).mode = .run →
    (s.blk.dom (9 + 2 * n)).state = .on → Tab.wf {} (s.blk.bead n).win = true →
    (∀ v, (s.blk.win n v).used = true → (s.blk.win n v).engine = true →
      ((s.blk.win n v).state = .window ∨ (s.blk.win n v).state = .wready) → s.blk.slotLost s.params n v = false) →
    let b1 := regulatorRefill s.blk
    b1.selectable s.params n w = true →
    (∀ v, v ≠ w → b1.selectable s.params n v = true →
      (s.blk.winUrgent n w = true ∧ s.blk.winUrgent n v = false)
      ∨ (s.blk.winUrgent n w = s.blk.winUrgent n v ∧ (s.blk.win n w).order < (s.blk.win n v).order)) →
    (∀ i, (s.blk.win n w).kind ≠ 2 → s.blk.chooseSlot s.params n w = some i →
      let e := s.blk.win n w
      let d := s.blk.bead n
      let t := e.tiles.map fun _ => d.nextTile w
      let alone := ∀ j, j ≠ i → (s.blk.slot n j).cfg.enabled = true → s.blk.canTake n j = false
      ∃ b, exec (.issueSelect n) s = .next { s with blk := b }
      ∧ (e.tiles = none → b.win n w = { e with state := .issued })
      ∧ b.slot n i = { s.blk.slot n i with presented := some {
            win := w, tile := t, words := s.blk.dispatchWords n w t, charges := e.declared } }
      ∧ (alone → (b.bead n).buckets = ((b1.bead n).charge e.declared).buckets)
      ∧ (alone → ∀ k, e.tiles = some k → d.tileOf w = none → Tab.wf {} d.tiles = true →
          ∃ j, d.freeTile = some j ∧ tget {} (b.bead n).tiles j = { used := true, win := w, n := k, next := 1 }
            ∧ b.win n w = { e with state := if 1 < k then .wready else .issued })
      ∧ (alone → ∀ k j y, e.tiles = some k → d.tileOf w = some (j, y) → Tab.wf {} d.tiles = true →
          let z := if y.back = [] then { y with next := y.next + 1 } else { y with back := y.back.drop 1 }
          tget {} (b.bead n).tiles j = z
            ∧ b.win n w = { e with state := if z.next < k ∨ z.back ≠ [] then .wready else .issued })
      ∧ (e.piece = false → (b.sub e.seg).started = true)
      ∧ (∀ k, k ≠ n → b.bead k = b1.bead k)
      ∧ b = { s.blk with refilled := b.refilled, graph := { s.blk.graph with subs := b.graph.subs }, beads := b.beads
                         saffron := b.saffron })
    ∧ ((s.blk.win n w).kind = 2 → ∃ b, exec (.issueSelect n) s = .next { s with blk := b }
      ∧ b.win n w = { s.blk.win n w with state := .issued }
      ∧ b.saf n = { s.blk.saf n with busy := true, win := w }
      ∧ ((s.blk.win n w).piece = false → (b.sub (s.blk.win n w).seg).started = true)
      ∧ (∀ k, k ≠ n → b.bead k = b1.bead k) ∧ (∀ k, k ≠ n → b.saf k = s.blk.saf k)
      ∧ b = { s.blk with refilled := b.refilled, graph := { s.blk.graph with subs := b.graph.subs }, beads := b.beads
                         saffron := b.saffron }))
  ∧ (∀ (s : State) (n w : Nat), (s.blk.bead n).fencedOff = false → (s.blk.win n w).used = true →
    (s.blk.win n w).engine = true → ((s.blk.win n w).state = .window ∨ (s.blk.win n w).state = .wready) →
    s.blk.slotLost s.params n w = true → (s.blk.bead n).tileOf w = none → Tab.wf {} (s.blk.bead n).win = true →
    ∃ b, exec (.issueSelect n) s = .next { s with blk := b }
      ∧ (b.win n w).state = .leaving ∧ (b.win n w).released = true
      ∧ (b.win n w).final = (if (s.blk.win n w).eccBad = true then Status.ecc
          else firstFailure (s.blk.win n w).pstatus Status.mismatch))
  ∧ ∀ (s : State),
    let k := s.blk.now / 64 - s.blk.refilled / 64
    (k ≠ 0 → Tab.wf {} s.blk.beads = true →
      ∃ b, exec .regulatorRefill s = .next { s with blk := b } ∧ b.refilled = s.blk.now
      ∧ (∀ n, b.bead n = { s.blk.bead n with buckets := (s.blk.bead n).buckets.map fun u => { u with
          level := min (u.level + (k * (u.rate * 64) : Nat)) (u.burst * 1024000 : Nat) } })
      ∧ b = { s.blk with refilled := b.refilled, beads := b.beads })
    ∧ (k = 0 → exec .regulatorRefill s = .next s)

/-- R219, R224, R226, R227, R230: a CPL at the Clasp. One whose generation is not the entry's is discarded and counted
as STALE; the CPL of a node frees its window entry, the entries that its window edges name and the node's own entry,
counts the node as done, and its Clasp edges lower the counters of its successors, the last one to READY, a failure
leaving its status there; that of an EXPAND node that owes its tracked load contributes zero (R303); that of an
audited TASK of class DM that ended with OK adds the digests it reports (R462, R464); that of a node whose entries are
spilled waits while they are refilled (R236); and that of a piece of a context switch ends the piece. R82, R116, R124,
R227, R234, R487, R490, R495, R516: the other records at the Clasp, from a Bead that is not fenced off. A RET counts
retired nodes and, with END, closes the Bead's part and announces its counter records; a CTR adds to the submission's
byte sums; an EVT with SRC 5 is a discarded decrement, one with SRC 12 a stop report, and another raises its source; a
SETR is one that the loader awaits no longer: a failing one fails the operation with cause SETR, and the last one
takes it on: the COMMITs go out after the sections, and a load that has its COMMITs answered applies the new Setting
and turns its lanes to RUN (R114, R125); in FREEZE a SNAP is written to the dump region, or ends the Bead's snapshot;
and while the pager is full a SPAWN stays on its lane (R237). Some clauses also rest on the model's choices of logs
16, 19, 61 and 113. -/
def Obligations.RecordsAtTheClasp : Prop :=
  ((∀ (s : State) (n : Nat) (w : BitVec 12) (g : BitVec 16) (st : Status) (m : MemView) (b0 : Block),
    ActsAtClasp s.params s.blk n (cplRec s.params n w.toNat g.toNat st) b0 →
    (s.blk.cwin n w.toNat).gen ≠ g.toNat →
    exec (.cpl n w g st m) s = .next { s with blk := b0.countStale })
  ∧ (∀ (s : State) (n : Nat) (w : BitVec 12) (g : BitVec 16) (st : Status) (m : MemView) (q k : Nat) (b0 : Block),
    ActsAtClasp s.params s.blk n (cplRec s.params n w.toNat g.toNat st) b0 → (s.blk.cwin n w.toNat).gen = g.toNat →
    (s.blk.cwin n w.toNat).holder = none → (s.blk.cwin n w.toNat).piece = some (q, k) →
    exec (.cpl n w g st m) s = .next { s with
      blk := (b0.modCwin n w.toNat fun c => { c with piece := none }).modPart q fun x => x.pieceEnds k st })
  ∧ (∀ (s : State) (n : Nat) (w : BitVec 12) (g : BitVec 16) (st : Status) (m : MemView) (seg i : Nat),
    (s.blk.cwin n w.toNat).gen = g.toNat → (s.blk.cwin n w.toNat).holder = some (seg, i) →
    (s.blk.node seg i).spilled = true →
    exec (.cpl n w g st m) s = .next { s with blk := s.blk.wantEntry seg i })
  ∧ ∀ (s : State) (n : Nat) (w : BitVec 12) (g : BitVec 16) (st : Status) (m : MemView) (seg i : Nat) (b0 : Block),
    ActsAtClasp s.params s.blk n (cplRec s.params n w.toNat g.toNat st) b0 → (s.blk.cwin n w.toNat).gen = g.toNat →
    (s.blk.cwin n w.toNat).holder = some (seg, i) → st ≠ Status.aborted → (s.blk.node seg i).resolved = true →
    EdgesReach s.params b0 m seg i →
    let x := s.blk.node seg i
    let u := s.blk.sub seg
    let reports := u.audited = true ∧ st = Status.ok ∧ x.kind = 0 ∧ x.cls = 2
    (x.kind ≠ 2 → (reports → m.status Status.format x.param 64 = Status.ok) →
      (reports → (∀ t, t ∈ reportedDigests m x.param → m.status Status.indirectFault t.2.2 32 = Status.ok)
        ∧ u.audit.length + (reportedDigests m x.param).length ≤ 4096) →
      ∃ b, exec (.cpl n w g st m) s = .next { s with blk := b } ∧ NodeEnds s.params m b0 b seg i st true
        ∧ EntryFreed s.blk b n w.toNat x.wedges
        ∧ (b.sub seg).audit = u.audit ++ (if reports then (reportedDigests m x.param).map fun t =>
            { index := i, tile := t.2.1, role := t.1, digest := MemView256 m t.2.2 } else [])
        ∧ (¬ reports → b.mp = s.blk.mp ∧ b.free = s.blk.free)
        ∧ b = { s.blk with mp := b.mp, free := b.free, lanes := b.lanes, graph := b.graph
                           evc := { s.blk.evc with pend := b.evc.pend }, trace := b.trace })
    ∧ (x.kind = 2 →
      ∃ b, exec (.cpl n w g st m) s = .next { s with blk := b } ∧ NodeEnds s.params m b0 b seg i st true
        ∧ EntryFreed s.blk b n w.toNat x.wedges ∧ i ∈ (b.sub seg).tracked
        ∧ (let c := tget {} u.contribs i
          tget {} (b.sub seg).contribs i = { c with
            used := true, retired := true, status := if isFailure c.status = true then c.status else poisonOf st })
        ∧ (let owes := i ∉ u.tracked ∧ bits (m.word (bits (recW m x.record 3) 55 0)).toNat 16 16 = 1
          (¬ owes → b.experts = s.blk.experts) ∧ (owes → ZeroLoads s.blk u.stepNum b.experts))
        ∧ b = { s.blk with lanes := b.lanes, graph := b.graph, experts := b.experts
                           evc := { s.blk.evc with pend := b.evc.pend }, trace := b.trace }))
  ∧ ((∀ (s : State) (n : Nat) (g k : BitVec 16) (last : Bool) (c : BitVec 5) (b0 : Block),
    ActsAtClasp s.params s.blk n (retRec s.params n g.toNat k.toNat last c.toNat) b0 →
    (s.blk.sub g.toNat).live = true →
    ∃ b, exec (.ret n g k last c) s = .next { s with blk := b }
      ∧ (b.sub g.toNat).nreleased = (s.blk.sub g.toNat).nreleased - k.toNat
      ∧ (last = true → (s.blk.sub g.toNat).onBead n = false → n ∉ (b.sub g.toNat).beads)
      ∧ (last = true → c ≠ 0 → tget (0, 0) b.graph.ctrDue n = (g.toNat, c.toNat))
      ∧ (∀ j, j ≠ g.toNat → b.sub j = s.blk.sub j)
      ∧ b = { s.blk with lanes := b0.lanes, graph := b.graph })
  ∧ (∀ (s : State) (n : Nat) (x : BitVec 5) (v : BitVec 48) (g k : Nat) (b0 : Block),
    ActsAtClasp s.params s.blk n (ctrRec s.params n x.toNat v.toNat) b0 → tget (0, 0) s.blk.graph.ctrDue n = (g, k) → k ≠ 0 →
    (s.blk.sub g).live = true → x.toNat < 20 →
    ∃ b, exec (.ctr n x v) s = .next { s with blk := b }
      ∧ tget 0 (b.sub g).bytes x.toNat = min (tget 0 (s.blk.sub g).bytes x.toNat + v.toNat) (2 ^ 48 - 1)
      ∧ (∀ y, y ≠ x.toNat → tget 0 (b.sub g).bytes y = tget 0 (s.blk.sub g).bytes y)
      ∧ tget (0, 0) b.graph.ctrDue n = (if k = 1 then (0, 0) else (g, k - 1))
      ∧ b = { s.blk with lanes := b0.lanes, graph := b.graph })
  ∧ (∀ (s : State) (n : Nat) (x : BitVec 11) (b0 : Block),
    ActsAtClasp s.params s.blk n (evtRec s.params n x.toNat) b0 → x.toNat ≠ 5 → x.toNat ≠ 12 →
    (internalSource x.toNat = true → ∃ b, exec (.evt n x) s = .next { s with blk := b } ∧ Raised b0 b x.toNat)
    ∧ (internalSource x.toNat = false → exec (.evt n x) s = .next { s with blk := b0 }))
  ∧ (∀ (s : State) (n : Nat) (b0 : Block), ActsAtClasp s.params s.blk n (evtRec s.params n 5) b0 →
    ∃ b, exec (.evt n 5) s = .next { s with blk := b }
      ∧ b.graph = { s.blk.graph with underflow := satAdd 16 s.blk.graph.underflow 1 } ∧ b.evc.pends 5 = true
      ∧ b = { s.blk with lanes := b0.lanes, graph := b.graph, evc := { s.blk.evc with pend := b.evc.pend },
                         trace := b.trace })
  ∧ (∀ (s : State) (n : Nat) (b0 : Block), ActsAtClasp s.params s.blk n (evtRec s.params n 12) b0 →
    (s.blk.pbead n).stop = 1 → (s.blk.pbead n).frozen = false →
    exec (.stopReport n) s = .next { s with
      blk := b0.modPbead n fun x => { x with stop := 2 } })
  ∧ (∀ (s : State) (n sect off : Nat) (rest : List (Nat × Nat × Nat)) (b0 : Block),
    ActsAtClasp s.params s.blk n (setrRec s.params n Status.ok) b0 → tget 0 s.blk.loader.returns n = 0 →
    s.blk.loader.awaited = (n, sect, off) :: rest → rest ≠ [] →
    exec (.setr n Status.ok) s = .next { s with
      blk := { b0 with loader := { s.blk.loader with awaited := rest } } })
  ∧ (∀ (s : State) (n sect off : Nat) (st : Status) (b0 : Block), st ≠ Status.ok →
    ActsAtClasp s.params s.blk n (setrRec s.params n st) b0 → tget 0 s.blk.loader.returns n = 0 →
    s.blk.loader.awaited.find? (fun t => t.1 == n) = some (n, sect, off) → s.blk.loader.runs = true →
    s.blk.loader.failing = none →
    exec (.setr n st) s = .next { s with
      blk := { b0 with loader := { s.blk.loader with
        awaited := s.blk.loader.awaited.erase (n, sect, off), phase := .failed, failing := some (st, 0x0F)
        errSection := sect, errBead := n, errOffset := off } } })
  ∧ (∀ (s : State) (n sect off : Nat) (b0 : Block),
    ActsAtClasp s.params s.blk n (setrRec s.params n Status.ok) b0 → tget 0 s.blk.loader.returns n = 0 →
    s.blk.loader.awaited = [(n, sect, off)] →
    let l := s.blk.loader
    let open' := l.targets.filter fun k => (s.blk.pbead k).state != .fenced
    (l.phase = .sections → (open' ≠ [] ∨ l.state ≠ .loading) →
      exec (.setr n Status.ok) s = .next { s with
        blk := { b0 with
          lanes := (l.targets.foldl (fun c k => c.sendSection s.params k commitRec) b0).lanes
          loader := { l with
            awaited := open'.map fun k => (k, 0xFFFF, 0), phase := .commits, committed := !open'.isEmpty } } })
    ∧ (l.phase = .commits → l.state ≠ .loading →
      exec (.setr n Status.ok) s = .next { s with blk := { b0 with loader := { l with awaited := [] } } })
    ∧ (l.phase = .commits → l.state = .loading → ∃ b, exec (.setr n Status.ok) s = .next { s with blk := b }
      ∧ b.setting = l.next ∧ b.loader = { l with awaited := [], digest := l.nextDigest, phase := .turning }
      ∧ (∀ k, k ∈ b.runLanes s.params → (b0.lane k).failed = false → (b.lane k).want = some 0)
      ∧ b = { b0 with setting := b.setting, loader := b.loader, lanes := b.lanes }))
  ∧ (∀ (s : State) (n : Nat) (b0 : Block), s.blk.received s.params n true (snapRec s.params n 255 []) = some b0 →
    (s.blk.lane (s.params.laneOf n)).clasp.phase = 2 →
    exec (.snap n 255 []) s = .next { s with
      blk := b0.modLane (s.params.laneOf n) fun x => { x with snapDone := true } })
  ∧ (∀ (s : State) (n : Nat) (src : BitVec 8) (x : Word) (b0 : Block),
    ActsAtClasp s.params s.blk n (snapRec s.params n src.toNat [x]) b0 →
    (s.blk.lane (s.params.laneOf n)).clasp.phase = 2 → src.toNat ≤ 192 → (s.blk.pbead n).snapSrc ≠ src.toNat →
    ∃ b, exec (.snap n src [x]) s = .next { s with blk := b }
      ∧ b.mp = (s.blk.put 63 3 (s.blk.lkt.dumpAddr + n * 0x100000 + src.toNat * 0x400) (wordsBytes [x]) .dump).mp
      ∧ b.pbead n = { s.blk.pbead n with snapSrc := src.toNat, snapGot := 1 }
      ∧ b = { s.blk with lanes := b0.lanes, mp := b.mp, parts := { s.blk.parts with beads := b.parts.beads } })
  ∧ (∀ (s : State) (n : Nat) (w : BitVec 12) (w0 w1 w2 w3 : Word) (m : MemView), s.blk.pgFull s.params = true →
    ∃ b, exec (.spawn n w w0 w1 w2 w3 m) s = .next { s with blk := b } ∧ b.lanes = s.blk.lanes
      ∧ (∀ b0, ActsAtClasp s.params s.blk n (spawnRec s.params n w.toNat [w0, w1, w2, w3]) b0 → b.graph.full = true
        ∧ (s.blk.graph.full = false → b.evc.pends 4 = true))
      ∧ b = { s.blk with graph := { s.blk.graph with full := b.graph.full }, evc := { s.blk.evc with pend := b.evc.pend }
                         trace := b.trace })
  ∧ ∀ (s : State) (n : Nat) (w : BitVec 12) (w0 w1 w2 w3 : Word) (m : MemView) (seg e i a v : Nat) (x : Node) (b0 : Block),
    ActsAtClasp s.params s.blk n (spawnRec s.params n w.toNat [w0, w1, w2, w3]) b0 →
    s.blk.pgFull s.params = false → s.blk.pagerIdle s.params 1 →
    (s.blk.cwin n w.toNat).holder = some (seg, e) → (s.blk.sub seg).live = true → (s.blk.sub seg).abandoned = none →
    fld w0 15 0 = seg → fld w1 31 16 = tget 0 s.blk.graph.sgen seg →
    i = (s.blk.sub seg).nnodes + 65536 * expandsBelow m (s.blk.sub seg) e + fld w1 63 32 →
    x = s.blk.placed s.params (s.blk.sub seg) { nodeOfEntry w0 w2 w3 with parent := some e } i
      ((tget none (s.blk.sub seg).affs i).getD (bits (recW m (fld w2 55 0) 0) 43 32)) (recBead m (fld w2 55 0)) →
    x.noPlace = false → x.bead = some a →
    ∃ b, exec (.spawn n w w0 w1 w2 w3 m) s = .next { s with blk := b }
      ∧ (b.sub seg).known = (s.blk.sub seg).known +
          (if i ∈ (s.blk.sub seg).ended ∨ (s.blk.node seg i).used = true then 0 else 1)
      ∧ (tget {} (b.sub seg).contribs e).left = (tget {} (s.blk.sub seg).contribs e).left + 1
      ∧ (b0.laneOpen s.params a = false ∨ b0.roomDown s.params a = false →
          b.node seg i = { x with order := s.blk.graph.readyNext })
      ∧ (b0.laneOpen s.params a = true → b0.roomDown s.params a = true → s.blk.freeWin a = some v →
          (s.blk.modNode seg i fun _ => {}).readyFor a = false →
          b.node seg i = { x with
            order := s.blk.graph.readyNext, state := .forwarded, win := v, gen := (b.cwin a v).gen, resolved := true }
          ∧ (b.cwin a v).gen = wrapAdd 16 (s.blk.cwin a v).gen 1 ∧ (b.cwin a v).holder = some (seg, i))
      ∧ b = { s.blk with lanes := b.lanes, graph := b.graph })

/-- R284 to R289, R298, R310, R311, R336: how an expansion starts. It reads its argument block; an error of the read
ends it with that status, a block that R285 or R289 forbids with FORMAT; modes 0 to 2 go on to the program, mode 3 to
the creations that the count vector gives. A program's header is checked, its words are read, and it starts at
instruction 0 with the scalars of R311. -/
def Obligations.ExpansionsStart : Prop :=
  (∀ (s : State) (n : Nat) (w : BitVec 12) (m : MemView), (s.blk.saf n).busy = true → (s.blk.saf n).win = w.toNat →
    (s.blk.saf n).exp = none → (s.blk.win n w.toNat).used = true → (s.blk.win n w.toNat).kind = 2 →
    (s.blk.win n w.toNat).state = .issued →
    let x := s.blk.expansionOf n w.toNat m
    let st := MemView_areas m [(x.argsAddr, 128)]
    let free := ∀ t, t ∈ (x.argsAddr, 128) :: s.blk.tmplAreas n x → s.blk.mp.pendingWrite t.1 t.2 = false
    (¬ free → exec (.expandStart n w m) s = .next s)
    ∧ (free → (st ≠ Status.ok → ∃ b, exec (.expandStart n w m) s = .next { s with blk := b }
      ∧ b.saf n = { busy := true, win := w.toNat, mode := x.arg.mode
                    exp := some { x with fail := some st, stage := .retiring } }
      ∧ (∀ k, k ≠ n → b.saf k = s.blk.saf k)
      ∧ b = { s.blk with mp := b.mp, beads := b.beads, saffron := b.saffron
                         evc := { s.blk.evc with pend := b.evc.pend }, trace := b.trace })
    ∧ (st = Status.ok → s.blk.blockOk n x m = false → ∃ b, exec (.expandStart n w m) s = .next { s with blk := b }
      ∧ b.saf n = { busy := true, win := w.toNat, mode := x.arg.mode
                    exp := some { x with fail := some Status.format, stage := .retiring } }
      ∧ (∀ k, k ≠ n → b.saf k = s.blk.saf k)
      ∧ b = { s.blk with beads := b.beads, saffron := b.saffron })
    ∧ (st = Status.ok → s.blk.blockOk n x m = true →
      let ts := MemView_areas m (s.blk.tmplAreas n x)
      (ts ≠ Status.ok → ∃ b, exec (.expandStart n w m) s = .next { s with blk := b }
        ∧ b.saf n = { busy := true, win := w.toNat, mode := x.arg.mode
                      exp := some { x with fail := some ts, stage := .retiring } }
        ∧ (∀ k, k ≠ n → b.saf k = s.blk.saf k)
        ∧ b = { s.blk with mp := b.mp, beads := b.beads, saffron := b.saffron
                           evc := { s.blk.evc with pend := b.evc.pend }, trace := b.trace })
      ∧ (ts = Status.ok → s.blk.argsOk n x m = false → ∃ b, exec (.expandStart n w m) s = .next { s with blk := b }
        ∧ b.saf n = { busy := true, win := w.toNat, mode := x.arg.mode
                      exp := some { x with fail := some Status.format, stage := .retiring } }
        ∧ (∀ k, k ≠ n → b.saf k = s.blk.saf k)
        ∧ b = { s.blk with beads := b.beads, saffron := b.saffron })
      ∧ (ts = Status.ok → s.blk.argsOk n x m = true → x.arg.mode ≠ 3 →
        ∃ b, exec (.expandStart n w m) s = .next { s with blk := b }
        ∧ b.saf n = { busy := true, win := w.toNat, mode := x.arg.mode, exp := some { x with stage := .program } }
        ∧ (∀ k, k ≠ n → b.saf k = s.blk.saf k)
        ∧ b = { s.blk with beads := b.beads, saffron := b.saffron })
      ∧ (ts = Status.ok → s.blk.argsOk n x m = true → x.arg.mode = 3 →
        MemView_areas m [(x.arg.locnt, 1024)] = Status.ok →
        let locs := readLocnt m x.arg.locnt
        let total := (locs.map (·.count)).sum
        let open' := fun i => (freeCreation (s.blk.sub (s.blk.win n w.toNat).seg).desc (s.blk.win n w.toNat).index i).toNat
        let cs := x.arg.creations x.ntmpl total locs [] open'
        total < 2 ^ 32 → (∀ c, c ∈ cs.take x.maxCreate → s.blk.affOk n x m c = true) →
        (∀ k c, (cs.take x.maxCreate)[k]? = some c → s.blk.blockFits n x m k c = true) →
        ∃ b, exec (.expandStart n w m) s = .next { s with blk := b }
        ∧ b.saf n = { busy := true, win := w.toNat, mode := 3
                      exp := some { x with creations := cs.take x.maxCreate, trunc := decide (x.maxCreate < cs.length)
                                           stage := .creating } }
        ∧ (∀ k, k ≠ n → b.saf k = s.blk.saf k)
        ∧ b = { s.blk with beads := b.beads, saffron := b.saffron }))))
  ∧ ∀ (s : State) (n : Nat) (m : MemView) (x : Expansion), (s.blk.saf n).exp = some x → x.stage = .program →
    s.blk.mp.pendingWrite x.progAddr (64 + 4 * bits (m.word x.progAddr).toNat 47 32) = false →
    let hst := m.status Status.indirectFault x.progAddr 64
    (∀ c st, hst = Status.ok → programHeader m x.progAddr = .error (c, st) →
      ∃ b, exec (.programStart n m) s = .next { s with blk := b }
      ∧ (b.saf n).errV = true ∧ (b.saf n).errCause = c ∧ (b.saf n).errPc = 0
      ∧ (b.saf n).exp = some { x with fail := some (x.fail.getD st), stage := .retiring }
      ∧ b = { s.blk with saffron := b.saffron })
    ∧ (hst ≠ Status.ok → ∃ b, exec (.programStart n m) s = .next { s with blk := b }
      ∧ (b.saf n).errV = true ∧ (b.saf n).errCause = 9 ∧ (b.saf n).errPc = 0
      ∧ (b.saf n).exp = some { x with fail := some (x.fail.getD hst), stage := .retiring }
      ∧ b = { s.blk with mp := b.mp, saffron := b.saffron, evc := { s.blk.evc with pend := b.evc.pend }
                         trace := b.trace })
    ∧ ∀ k w, hst = Status.ok → programHeader m x.progAddr = .ok k →
      m.status Status.indirectFault (x.progAddr + 0x40) (4 * k) = Status.ok →
      (programWords m x.progAddr k)[0]? = some w → knownOp (w.toNat / 2 ^ 24) = true →
      ∃ b, exec (.programStart n m) s = .next { s with blk := b }
      ∧ b.saf n = { s.blk.saf n with
          pc := 0, tiles := [], masks := [], scalars := (b.saf n).scalars
          exp := some { x with prog := programWords m x.progAddr k, stage := .running } }
      ∧ (∀ i v, [x.argsAddr, x.arg.scores, x.arg.ntok, x.arg.nexp, x.arg.k, x.arg.clist, x.maxCreate, 0][i]? = some v →
          (b.saf n).scalar i = BitVec.ofNat 64 v)
      ∧ b = { s.blk with saffron := b.saffron }

/-- R287 to R292, R295 to R297, R301, R303, R335: how an expansion goes on and ends. The routing stage reads its
tables, writes token records and send lists for the tokens of its queue, and, once the program has ended, the expert
records, the count vector and the list headers, and gives the creations; a send list that is full ends it with
CAPACITY. Before the first creation the templates' parameter blocks are read, of which one with a reserved byte set
ends the expansion with FORMAT, and in mode 0 the creation list. Each creation of a TASK or COLL writes its parameter
block and sends its SPAWN once the write is acknowledged, that of a NOP sends it at once; a SPAWN waits while the
crossing is full (R66). The expansion retires with its failure, TRUNCATED, EMPTY or OK, once its writes are
acknowledged, and contributes its counts to the load tracker, which counts them in LATE where the plan of their
interval has been made; one that failed or was released contributes zero as its CPL arrives (the statement
RecordsAtTheClasp). The order of the routing stage's work is the model's choice (log 29). Some clauses also rest on
the model's choices of logs 16, 30, 32 and 157. -/
def Obligations.ExpansionsCreateAndRetire : Prop :=
  (∀ (s : State) (n : Nat) (m : MemView) (x : Expansion), (s.blk.saf n).exp = some x → x.mayRoute = true →
    let areas := s.blk.routeAreas n x.arg
    let t := s.blk.routeTables n x.arg m
    let st := MemView_areas m areas
    (x.tables = none → (∃ a, a ∈ areas ∧ s.blk.mp.pendingWrite a.1 a.2 = true) → exec (.routingStage n m) s = .next s)
    ∧ (x.tables = none → (∀ a, a ∈ areas → s.blk.mp.pendingWrite a.1 a.2 = false) →
      (st ≠ Status.ok → ∃ b, exec (.routingStage n m) s = .next { s with blk := b }
        ∧ (b.saf n).exp = some { x with fail := some (x.fail.getD st), stage := .retiring }
        ∧ b = { s.blk with mp := b.mp, saffron := b.saffron, evc := { s.blk.evc with pend := b.evc.pend }
                           trace := b.trace })
      ∧ (st = Status.ok → t.ok s.blk.link.self = false → ∃ b, exec (.routingStage n m) s = .next { s with blk := b }
        ∧ (b.saf n).exp = some { x with fail := some (x.fail.getD Status.format), stage := .retiring }
        ∧ b = { s.blk with saffron := b.saffron })
      ∧ (st = Status.ok → t.ok s.blk.link.self = true → ∃ b, exec (.routingStage n m) s = .next { s with blk := b }
        ∧ (b.saf n).exp = some { x with tables := some t } ∧ b = { s.blk with saffron := b.saffron })))
  ∧ (∀ (s : State) (n : Nat) (m : MemView) (x : Expansion) (t : RouteTables), (s.blk.saf n).exp = some x →
    x.mayRoute = true → x.tables = some t →
    let r := routeAll x.arg t x.routed x.cands x.route
    let y : Expansion := { x with cands := [], routed := x.routed + x.cands.length, route := { r with out := [] } }
    let locs := localCounts t r.used s.blk.link.self
    let open' := fun i => (freeCreation (s.blk.sub (s.blk.expNode n).1).desc (s.blk.expNode n).2 i).toNat
    let cs := x.arg.creations x.ntmpl r.total locs
      ((List.range t.peers.length).map fun q => (tget [] r.sends q).length) open'
    (r.full = true → ∃ b, exec (.routingStage n m) s = .next { s with blk := b }
      ∧ (b.saf n).exp = some { y with fail := some (x.fail.getD Status.capacity), stage := .retiring }
      ∧ b.mp = (s.blk.routeWrites n r.out.reverse).mp ∧ b = { s.blk with mp := b.mp, saffron := b.saffron })
    ∧ (r.full = false → x.stage = .running → ∃ b, exec (.routingStage n m) s = .next { s with blk := b }
      ∧ (b.saf n).exp = some y
      ∧ b.mp = (s.blk.routeWrites n r.out.reverse).mp ∧ b = { s.blk with mp := b.mp, saffron := b.saffron })
    ∧ (r.full = false → x.stage = .routing →
      (∀ c, c ∈ cs.take x.maxCreate → s.blk.affOk n x m c = true) →
      (∀ k c, (cs.take x.maxCreate)[k]? = some c → s.blk.blockFits n x m k c = true) →
      ∃ b, exec (.routingStage n m) s = .next { s with blk := b }
      ∧ (b.saf n).exp = some { y with
          counts := r.used, creations := cs.take x.maxCreate, stage := .creating
          trunc := x.trunc || r.trunc || decide (x.maxCreate < cs.length) }
      ∧ b.mp = (s.blk.routeWrites n (r.out.reverse ++ routeOutputs x.arg t r locs)).mp
      ∧ b = { s.blk with mp := b.mp, saffron := b.saffron }))
  ∧ (∀ (s : State) (n : Nat) (m : MemView) (x : Expansion), (s.blk.saf n).exp = some x → x.stage = .creating →
    x.prepared = false → s.blk.mp.writesFor (fun w => w == .routing n || w == .spawnParam n) = false →
    (∀ t d, s.blk.tmplParam n x m t = some d → s.blk.mp.pendingWrite d 64 = false) →
    (∀ a, a ∈ x.listArea ++ x.loadArea → s.blk.mp.pendingWrite a.1 a.2 = false) → m.errs = [] →
    let es := (List.range x.nlist).map fun i => readCreation m (x.arg.clist + 16 * i) i
    let clean (cs : List Creation) := ∀ c, c ∈ cs → ∀ d, s.blk.tmplParam n x m c.tsel = some d →
      reservedZero (m.wordsAt d 8) = true
    (x.arg.mode ≠ 0 → ¬ clean x.creations → ∃ b, exec (.createNodes n m) s = .next { s with blk := b }
      ∧ (b.saf n).exp = some { x with fail := some (x.fail.getD Status.format), stage := .retiring }
      ∧ b = { s.blk with saffron := b.saffron })
    ∧ (x.arg.mode ≠ 0 → clean x.creations → ∃ b y, exec (.createNodes n m) s = .next { s with blk := b }
      ∧ (b.saf n).exp = some y ∧ y = { x with prepared := true, params := y.params, counts := y.counts }
      ∧ (∀ c, c ∈ x.creations → ∀ d, s.blk.tmplParam n x m c.tsel = some d →
          tget [] y.params c.tsel = m.wordsAt d 8)
      ∧ (x.arg.track = true → x.arg.loadSrc = true →
          ∀ e, e < x.arg.nexp → tget 0 y.counts e = m.u32 (x.arg.loadAddr + 4 * e))
      ∧ ((x.arg.track = false ∨ x.arg.loadSrc = false) → y.counts = x.counts)
      ∧ b = { s.blk with saffron := b.saffron })
    ∧ (x.arg.mode = 0 → x.listRead = false → areasOk x.listArea = true →
      (∀ i, i < x.nlist → creationOk m (x.arg.clist + 16 * i) x.ntmpl
        (recKind m (s.blk.tmplAddr n x (readCreation m (x.arg.clist + 16 * i) 0).tsel) == 0) = true) →
      (∀ c, c ∈ es.take x.maxCreate → s.blk.affOk n x m c = true) →
      (∀ k c, (es.take x.maxCreate)[k]? = some c → s.blk.blockFits n x m k c = true) → clean (es.take x.maxCreate) →
      ∃ b y, exec (.createNodes n m) s = .next { s with blk := b }
      ∧ (b.saf n).exp = some y ∧ y.listRead = true ∧ y.prepared = true ∧ y.creations = es.take x.maxCreate
      ∧ y.trunc = (x.trunc || decide (x.maxCreate < x.nlist)) ∧ b = { s.blk with saffron := b.saffron })
    ∧ (x.arg.mode = 0 → x.listRead = false → areasOk x.listArea = true →
      (∃ i, i < x.nlist ∧ creationOk m (x.arg.clist + 16 * i) x.ntmpl
        (recKind m (s.blk.tmplAddr n x (readCreation m (x.arg.clist + 16 * i) 0).tsel) == 0) = false) →
      ∃ b, exec (.createNodes n m) s = .next { s with blk := b }
      ∧ (b.saf n).exp = some { x with fail := some (x.fail.getD Status.format), stage := .retiring }
      ∧ b = { s.blk with saffron := b.saffron }))
  ∧ (∀ (s : State) (n : Nat) (m : MemView) (x : Expansion) (c : Creation), (s.blk.saf n).exp = some x →
    x.stage = .creating → s.blk.mp.writesFor (fun w => w == .routing n || w == .spawnParam n) = false →
    x.prepared = true → x.creations[x.created]? = some c →
    let seg := (s.blk.expNode n).1
    let a := s.blk.tmplAddr n x c.tsel
    let e := s.blk.win n (s.blk.saf n).win
    let node (param : Nat) : Node := { nodeOfRecord (s.blk.sub seg) m a with param := param, count := 0 }
    let spawn (param : Nat) : List Word := nodeEntry seg x.created e.sgen 2 0 (node param)
    (s.blk.roomUp s.params n = false → (x.acked = true ∨ s.blk.tmplParam n x m c.tsel = none) →
      exec (.createNodes n m) s = .next s)
    ∧ (∀ d, x.acked = false → s.blk.tmplParam n x m c.tsel = some d →
      ∃ b, exec (.createNodes n m) s = .next { s with blk := b }
      ∧ b = s.blk.put n 4 (x.arg.paramOut + 64 * x.created) (wordsBytes (paramWords (tget [] x.params c.tsel) c x.created)) (.spawnParam n))
    ∧ (∀ d, x.acked = true → s.blk.tmplParam n x m c.tsel = some d → s.blk.roomUp s.params n = true →
      ∃ b, exec (.createNodes n m) s = .next { s with blk := b }
      ∧ b.lanes = (s.blk.sendUp s.params n (spawnRec s.params n (s.blk.saf n).win
          (spawn (x.arg.paramOut + 64 * x.created)))).lanes
      ∧ (b.saf n).exp = some { x with
          acked := false, created := x.created + 1
          stage := if x.creations.length ≤ x.created + 1 then .retiring else .creating }
      ∧ b = { s.blk with lanes := b.lanes, graph := b.graph, saffron := b.saffron })
    ∧ (x.acked = false → s.blk.tmplParam n x m c.tsel = none → s.blk.roomUp s.params n = true →
      ∃ b, exec (.createNodes n m) s = .next { s with blk := b }
      ∧ b.lanes = (s.blk.sendUp s.params n (spawnRec s.params n (s.blk.saf n).win (spawn 0))).lanes
      ∧ (b.saf n).exp = some { x with
          created := x.created + 1, stage := if x.creations.length ≤ x.created + 1 then .retiring else .creating }
      ∧ b = { s.blk with lanes := b.lanes, graph := b.graph, saffron := b.saffron }))
  ∧ ∀ (s : State) (n : Nat) (x : Expansion), (s.blk.saf n).exp = some x → x.stage = .retiring →
    s.blk.mp.writesFor (fun w => w == .routing n || w == .spawnParam n) = false → s.blk.mp.programWrites n = false →
    (s.blk.bead n).tileOf (s.blk.saf n).win = none → (s.blk.win n (s.blk.saf n).win).eccBad = false →
    let loads := isFailure x.final = false ∧ x.arg.track = true ∧ (s.blk.sub (s.blk.expNode n).1).live = true
    ∃ b, exec (.expansionRetire n) s = .next { s with blk := b }
      ∧ b.win n (s.blk.saf n).win = { s.blk.win n (s.blk.saf n).win with
          state := .leaving, released := false
          final := match x.fail with
            | some st => st
            | none => if x.trunc = true then Status.truncated else if x.created = 0 then Status.empty else Status.ok }
      ∧ (∀ k v, ¬ (k = n ∧ v = (s.blk.saf n).win) → b.win k v = s.blk.win k v)
      ∧ b.saf n = { s.blk.saf n with busy := false, exp := none } ∧ (∀ k, k ≠ n → b.saf k = s.blk.saf k)
      ∧ (¬ loads → b.experts = s.blk.experts)
      ∧ (loads → LoadAdded s.blk (s.blk.sub (s.blk.expNode n).1).stepNum x.counts b.experts)
      ∧ b = { s.blk with mp := b.mp, graph := b.graph, beads := b.beads, saffron := b.saffron, experts := b.experts }

/-- R303 to R307: the planner. Version v is built once a submission waits for it, interval v − 1 is complete and no
submission of version v − 2 is in flight; while the interval is not complete WAIT_LOAD shows it; the version is
published once its table is written, with the accumulator of interval v − 1 cleared. CLS_EXP_CFG starts the tracker
anew when ENABLE rises, with PLAN_STEP at S + 2 × I, and stops it when it falls. Some clauses also rest on the model's
choices of logs 31 and 145. -/
def Obligations.ThePlannerPublishes : Prop :=
  (∀ (s : State) (m : MemView) (e : ExpertsSec), s.blk.setting.experts = some e →
    let x := s.blk.experts
    (x.planning = true → s.blk.mp.writesFor (· == .table) = false →
      ∃ b, exec (.planVersion m) s = .next { s with blk := b }
      ∧ b.experts.version = x.version + 1 ∧ b.experts.planning = false
      ∧ b.experts.planStep = (x.start.toNat + (x.version + 3) * e.interval) % 2 ^ 32
      ∧ (b.experts.held = true ↔ x.held = true ∧ ∃ v, v ∈ s.blk.waitingVersions ∧ x.version + 1 < v)
      ∧ (b.experts.waitLoad = true ↔ x.waitLoad = true ∧ x.version + 2 ∈ s.blk.waitingVersions)
      ∧ tget 0 b.experts.got (x.version % 3) = 0
      ∧ (∀ i, tget 0 b.experts.acc (4096 * (x.version % 3) + i % 4096) = 0)
      ∧ b = { s.blk with mp := b.mp, experts := { x with
                planning := false, version := b.experts.version, planStep := b.experts.planStep, held := b.experts.held,
                waitLoad := b.experts.waitLoad, got := b.experts.got, acc := b.experts.acc } })
    ∧ (x.planning = false → x.enable = true → (x.version + 1) ∈ s.blk.waitingVersions →
      (∀ t, t ∈ s.blk.graph.subs → t.2.live = true → ¬ (3 ≤ x.version + 1 ∧ t.2.version = x.version - 1)
        ∧ t.2.table ≠ x.baseAddr + tableOffset (x.version + 1)) →
      (s.blk.intervalDone (x.version + 1) = false → exec (.planVersion m) s = .next { s with
        blk := { s.blk with experts := { x with waitLoad := true } } })
      ∧ (s.blk.intervalDone (x.version + 1) = true → s.blk.mp.pendingWrite x.baseAddr (64 * e.nexperts) = false →
        (∀ i, i < e.nexperts → m.status Status.format (x.baseAddr + 64 * i) 8 = Status.ok) → m.errs = [] →
        ∃ b, exec (.planVersion m) s = .next { s with blk := b }
        ∧ b.experts = { x with planning := true, waitLoad := false }
        ∧ b.mp = (s.blk.put 63 2 (x.baseAddr + tableOffset (x.version + 1)) (wordsBytes (planTable e.nexperts
            e.replicaSlots (fun i => tget 0 x.acc (4096 * (x.version % 3) + i)) x.rpos
            (fun i => m.word (x.baseAddr + 64 * i))).flatten) .table).mp
        ∧ b = { s.blk with free := b.free, mp := b.mp, experts := b.experts })))
  ∧ (∀ (s : State) (m : MemView) (t : Nat × Sub), s.blk.experts.planning = false → t ∈ s.blk.graph.subs →
    t.2.live = true → ((3 ≤ s.blk.experts.version + 1 ∧ t.2.version = s.blk.experts.version - 1)
      ∨ t.2.table = s.blk.experts.baseAddr + tableOffset (s.blk.experts.version + 1)) →
    exec (.planVersion m) s = .next s)
  ∧ ∀ (s : State) (a : Acc) (d : BitVec 32), Performs s a .expCfg true →
    let x := s.blk.experts
    (x.enable = true → d.getLsbD 0 = true → exec (.expCfgWrite a d) s = .next (s.wrote .expCfg s.blk))
    ∧ (x.enable = true → d.getLsbD 0 = false → exec (.expCfgWrite a d) s = .next (s.wrote .expCfg
        { s.blk with experts := { x with enable := false, held := false, waitLoad := false, planning := false } }))
    ∧ (x.enable = false → d.getLsbD 0 = false → exec (.expCfgWrite a d) s = .next (s.wrote .expCfg
        { s.blk with experts := { x with perStep := (d.extractLsb' 1 16).toNat, enable := false } }))
    ∧ (x.enable = false → d.getLsbD 0 = true → (s.blk.dom 4).state ≠ .on →
      exec (.expCfgWrite a d) s = .next (s.wrote .expCfg s.blk))
    ∧ (x.enable = false → d.getLsbD 0 = true → (s.blk.dom 4).state = .on →
      ∃ b, exec (.expCfgWrite a d) s = .next (s.wrote .expCfg b)
      ∧ b.experts.enable = true ∧ b.experts.perStep = (d.extractLsb' 1 16).toNat ∧ b.experts.version = 0
      ∧ b.experts.planStep = (x.start.toNat + 2 * (match s.blk.setting.experts with | some e => e.interval | none => 0))
          % 2 ^ 32
      ∧ b.experts.late = 0 ∧ (∀ k, k < 3 → tget 0 b.experts.got k = 0)
      ∧ (∀ k, k < 3 → ∀ i, tget 0 b.experts.acc (4096 * k + i % 4096) = 0)
      ∧ b = { s.blk with mp := b.mp, experts := { x with
                enable := true, perStep := b.experts.perStep, version := 0, late := 0, planStep := b.experts.planStep,
                got := b.experts.got, acc := b.experts.acc } })

/-- Every step keeps the size of the Saffron tiles and masks: 1,024 elements each. -/
def Obligations.SaffronTilesKeepTheirSize : Prop :=
  ∀ s t : State, (∀ n, (s.blk.saf n).sized) → step s = .next t → ∀ n, (t.blk.saf n).sized

/-- R313, R316, R317, R320: the operations on elements: AND, OR, XOR, NOT, the shifts by MOD, the sums and
differences, wrapping and saturating, unsigned and signed, the lesser and the greater of two elements, and the order
key. R313, R316, R319: CMP sets the bits of a mask where the condition holds and MU and MSEL take the element; SEL
chooses between A and B by M[MSEL]; MOP combines masks; IOTA and FILL write whole tiles. Some clauses also rest on the
model's choices of logs 27, 28 and 75. -/
def Obligations.ElementAndMaskOperations : Prop :=
  (let two : TFmt → Bool := fun f => f.c == 0 && f.mod == 0
  let one : TFmt → Bool := fun f => f.b == 0 && f.c == 0
  let never : TFmt → Elt → Elt → Bool := fun _ _ _ => false
  Elementwise .sAnd 0x01 two (fun _ x y => x &&& y) never never
  ∧ Elementwise .sOr 0x02 two (fun _ x y => x ||| y) never never
  ∧ Elementwise .sXor 0x03 two (fun _ x y => x ^^^ y) never never
  ∧ Elementwise .sNot 0x04 (fun f => one f && f.mod == 0) (fun _ x _ => ~~~x) never never
  ∧ Elementwise .sShl 0x05 one (fun f x _ => x <<< f.mod.toNat) never never
  ∧ Elementwise .sShr 0x06 one (fun f x _ => x >>> f.mod.toNat) never never
  ∧ Elementwise .sSar 0x07 one (fun f x _ => x.sshiftRight f.mod.toNat) never never
  ∧ Elementwise .sAdd 0x08 two (fun _ x y => x + y) never never
  ∧ Elementwise .sAddsu 0x09 two (fun _ x y => BitVec.ofNat 16 (min (x.toNat + y.toNat) 65535))
      (fun _ x y => decide (65535 < x.toNat + y.toNat)) never
  ∧ Elementwise .sAddss 0x0A two (fun _ x y => BitVec.ofInt 16 (max (-32768) (min 32767 (x.toInt + y.toInt))))
      (fun _ x y => decide (x.toInt + y.toInt < -32768 ∨ 32767 < x.toInt + y.toInt)) never
  ∧ Elementwise .sSub 0x0B two (fun _ x y => x - y) never never
  ∧ Elementwise .sSubsu 0x0C two (fun _ x y => BitVec.ofNat 16 (x.toNat - y.toNat))
      (fun _ x y => decide (x.toNat < y.toNat)) never
  ∧ Elementwise .sSubss 0x0D two (fun _ x y => BitVec.ofInt 16 (max (-32768) (min 32767 (x.toInt - y.toInt))))
      (fun _ x y => decide (x.toInt - y.toInt < -32768 ∨ 32767 < x.toInt - y.toInt)) never
  ∧ Elementwise .sMin 0x0E (fun f => f.c == 0 && decide (f.mod.toNat < 2))
      (fun f x y => if f.mod = 1 then (if x.toInt ≤ y.toInt then x else y) else if x.toNat ≤ y.toNat then x else y)
      never never
  ∧ Elementwise .sMax 0x0F (fun f => f.c == 0 && decide (f.mod.toNat < 2))
      (fun f x y => if f.mod = 1 then (if x.toInt ≤ y.toInt then y else x) else if x.toNat ≤ y.toNat then y else x)
      never never
  ∧ Elementwise .sOkey 0x14 (fun f => one f && decide (f.mod.toNat < 2))
      (fun f x _ => if isNan (f.mod == 1) x = true then 0 else if x = 0x8000#16 then 0x8000#16
        else if x.getLsbD 15 = true then ~~~x else x ^^^ 0x8000#16)
      never (fun f x _ => isNan (f.mod == 1) x))
  ∧ ((∀ (s : State) (n : Nat) (f : TFmt), SaffronAt s.blk n (0x10 * 2 ^ 24 + f.enc) →
    let u := s.blk.saf n
    let x (k : Nat) : Elt := u.elt f.a.toNat k
    let y (k : Nat) : Elt := u.elt f.b.toNat k
    (f.c = 0 ∧ f.d.toNat < 4 ∧ f.mod.toNat < 6 → HasInstr s.blk n (u.pc + 1) → ∃ v, Ran s (.sCmp n f) n v
      ∧ (∀ k, k < 1024 → (v.bitAt f.d.toNat k = true ↔ (u.takes f k = true ∧
          ((f.mod = 0 ∧ x k = y k) ∨ (f.mod = 1 ∧ x k ≠ y k) ∨ (f.mod = 2 ∧ (x k).toNat < (y k).toNat)
          ∨ (f.mod = 3 ∧ (x k).toNat ≤ (y k).toNat) ∨ (f.mod = 4 ∧ (x k).toInt < (y k).toInt)
          ∨ (f.mod = 5 ∧ (x k).toInt ≤ (y k).toInt)))))
      ∧ (∀ t, t ≠ f.d.toNat → v.mask t = u.mask t)
      ∧ v = { u.stepped 2 (u.pc + 1) with masks := v.masks })
    ∧ (¬ (f.c = 0 ∧ f.d.toNat < 4 ∧ f.mod.toNat < 6) → Failed s (.sCmp n f) n 3 Status.format))
  ∧ (∀ (s : State) (n : Nat) (f : TFmt), SaffronAt s.blk n (0x11 * 2 ^ 24 + f.enc) →
    let u := s.blk.saf n
    (f.c = 0 ∧ f.mod = 0 ∧ f.mu = false → HasInstr s.blk n (u.pc + 1) → ∃ v, Ran s (.sSel n f) n v
      ∧ (∀ k, k < 1024 → v.elt f.d.toNat k =
          if u.bitAt f.msel.toNat k = true then u.elt f.a.toNat k else u.elt f.b.toNat k)
      ∧ (∀ t, t ≠ f.d.toNat → v.tile t = u.tile t)
      ∧ v = { u.stepped 2 (u.pc + 1) with tiles := v.tiles })
    ∧ (¬ (f.c = 0 ∧ f.mod = 0 ∧ f.mu = false) → Failed s (.sSel n f) n 3 Status.format))
  ∧ (∀ (s : State) (n : Nat) (f : TFmt), SaffronAt s.blk n (0x12 * 2 ^ 24 + f.enc) →
    let u := s.blk.saf n
    let legal := f.c = 0 ∧ f.mod.toNat < 4 ∧ f.d.toNat < 4 ∧ f.a.toNat < 4 ∧ (f.b.toNat < 4 ∨ f.mod = 3)
      ∧ f.msel = 0 ∧ f.mu = false
    (legal → HasInstr s.blk n (u.pc + 1) → ∃ v, Ran s (.sMop n f) n v
      ∧ (∀ k, k < 1024 → v.bitAt f.d.toNat k =
          if f.mod = 0 then u.bitAt f.a.toNat k && u.bitAt f.b.toNat k
          else if f.mod = 1 then u.bitAt f.a.toNat k || u.bitAt f.b.toNat k
          else if f.mod = 2 then u.bitAt f.a.toNat k && !u.bitAt f.b.toNat k
          else !u.bitAt f.a.toNat k)
      ∧ (∀ t, t ≠ f.d.toNat → v.mask t = u.mask t)
      ∧ v = { u.stepped 1 (u.pc + 1) with masks := v.masks })
    ∧ (¬ legal → Failed s (.sMop n f) n 3 Status.format))
  ∧ (∀ (s : State) (n : Nat) (f : IFmt), SaffronAt s.blk n (0x15 * 2 ^ 24 + f.enc) →
    let u := s.blk.saf n
    (f.a = 0 → HasInstr s.blk n (u.pc + 1) → ∃ v, Ran s (.sIota n f) n v
      ∧ (∀ k, k < 1024 → v.elt f.d.toNat k = f.imm + BitVec.ofNat 16 (k % 32))
      ∧ (∀ t, t ≠ f.d.toNat → v.tile t = u.tile t)
      ∧ v = { u.stepped 2 (u.pc + 1) with tiles := v.tiles })
    ∧ (f.a ≠ 0 → Failed s (.sIota n f) n 3 Status.format))
  ∧ ∀ (s : State) (n : Nat) (f : IFmt), SaffronAt s.blk n (0x16 * 2 ^ 24 + f.enc) →
    let u := s.blk.saf n
    (f.a = 0 → HasInstr s.blk n (u.pc + 1) → ∃ v, Ran s (.sFill n f) n v
      ∧ (∀ k, k < 1024 → v.elt f.d.toNat k = f.imm) ∧ (∀ t, t ≠ f.d.toNat → v.tile t = u.tile t)
      ∧ v = { u.stepped 2 (u.pc + 1) with tiles := v.tiles })
    ∧ (f.a ≠ 0 → Failed s (.sFill n f) n 3 Status.format))

/-- R317, R321 to R325: the operations on rows. RMIN and RMAX write the extreme of the elements that MU and MSEL take,
with the lowest column that holds it, and the identity with column 0xFFFF for a row of none; RSUM and PSUM their sums,
kept at 0xFFFF with SAT set; TOPK the K entries of each row that rank highest, in rank order, with key 0 and index
0xFFFF in every column that is not filled; with KEYF = 1 it takes every element of A through the order key, a masked
one too, so each NaN among them sets NAN. Some clauses also rest on the model's choices of logs 27, 28 and 75. -/
def Obligations.RowOperations : Prop :=
  (∀ (s : State) (n : Nat) (f : TFmt) (small : Bool),
    SaffronAt s.blk n ((if small = true then 0x20 else 0x21) * 2 ^ 24 + f.enc) →
    let u := s.blk.saf n
    let i : Instr := if small = true then .sRmin n f else .sRmax n f
    let le (x y : Elt) : Prop := if f.mod = 1 then x.toInt ≤ y.toInt else x.toNat ≤ y.toNat
    let best (x y : Elt) : Prop := if small = true then le x y else le y x
    (f.b = 0 ∧ f.c = 0 ∧ f.mod.toNat < 2 → HasInstr s.blk n (u.pc + 1) → ∃ v, Ran s i n v
      ∧ (∀ r, r < 32 → (∀ c, c < 32 → u.takes f (32 * r + c) = false) →
          v.elt f.d.toNat (32 * r) = (if small = true then (if f.mod = 1 then 0x7FFF#16 else 0xFFFF#16)
            else if f.mod = 1 then 0x8000#16 else 0x0000#16)
          ∧ v.elt f.d.toNat (32 * r + 1) = 0xFFFF#16)
      ∧ (∀ r c, r < 32 → c < 32 → u.takes f (32 * r + c) = true →
          (∀ d, d < 32 → u.takes f (32 * r + d) = true →
            best (u.elt f.a.toNat (32 * r + c)) (u.elt f.a.toNat (32 * r + d))
            ∧ (d < c → u.elt f.a.toNat (32 * r + d) ≠ u.elt f.a.toNat (32 * r + c))) →
          v.elt f.d.toNat (32 * r) = u.elt f.a.toNat (32 * r + c)
          ∧ v.elt f.d.toNat (32 * r + 1) = BitVec.ofNat 16 c)
      ∧ (∀ r c, r < 32 → 2 ≤ c → c < 32 → v.elt f.d.toNat (32 * r + c) = 0)
      ∧ (∀ t, t ≠ f.d.toNat → v.tile t = u.tile t)
      ∧ v = { u.stepped 2 (u.pc + 1) with tiles := v.tiles })
    ∧ (¬ (f.b = 0 ∧ f.c = 0 ∧ f.mod.toNat < 2) → Failed s i n 3 Status.format))
  ∧ (∀ (s : State) (n : Nat) (f : TFmt), SaffronAt s.blk n (0x22 * 2 ^ 24 + f.enc) →
    let u := s.blk.saf n
    let sum (r : Nat) : Nat := ((List.range 32).map fun c =>
      if u.takes f (32 * r + c) = true then (u.elt f.a.toNat (32 * r + c)).toNat else 0).sum
    (f.b = 0 ∧ f.c = 0 ∧ f.mod = 0 → HasInstr s.blk n (u.pc + 1) → ∃ v, Ran s (.sRsum n f) n v
      ∧ (∀ r, r < 32 → v.elt f.d.toNat (32 * r) = BitVec.ofNat 16 (min (sum r) 65535))
      ∧ (∀ r c, r < 32 → 1 ≤ c → c < 32 → v.elt f.d.toNat (32 * r + c) = 0)
      ∧ (v.sat = true ↔ (u.sat = true ∨ ∃ r, r < 32 ∧ 65535 < sum r))
      ∧ (∀ t, t ≠ f.d.toNat → v.tile t = u.tile t)
      ∧ v = { u.stepped 2 (u.pc + 1) with tiles := v.tiles, sat := v.sat })
    ∧ (¬ (f.b = 0 ∧ f.c = 0 ∧ f.mod = 0) → Failed s (.sRsum n f) n 3 Status.format))
  ∧ (∀ (s : State) (n : Nat) (f : TFmt), SaffronAt s.blk n (0x24 * 2 ^ 24 + f.enc) →
    let u := s.blk.saf n
    let sum (lo hi : Nat) : Nat := ((List.range (hi + 1 - lo)).map fun j =>
      if u.takes f (lo + j) = true then (u.elt f.a.toNat (lo + j)).toNat else 0).sum
    (f.b = 0 → f.mod = 0 → f.c = 0 → HasInstr s.blk n (u.pc + 1) → ∃ v, Ran s (.sPsum n f) n v
      ∧ (∀ k, k < 1024 → v.elt f.d.toNat k = BitVec.ofNat 16 (min (sum (k / 32 * 32) k) 65535))
      ∧ (v.sat = true ↔ (u.sat = true ∨ ∃ r, r < 32 ∧ 65535 < sum (32 * r) (32 * r + 31)))
      ∧ (∀ t, t ≠ f.d.toNat → v.tile t = u.tile t)
      ∧ v = { u.stepped 2 (u.pc + 1) with tiles := v.tiles, sat := v.sat })
    ∧ (f.b = 0 → f.mod = 1 → f.c.toNat < 8 → HasInstr s.blk n (u.pc + 1) → ∃ v, Ran s (.sPsum n f) n v
      ∧ (∀ k, k < 1024 →
          v.elt f.d.toNat k = BitVec.ofNat 16 (min (fld (u.scalar f.c.toNat) 15 0 + sum 0 k) 65535))
      ∧ v.scalar f.c.toNat = BitVec.ofNat 64 (min (fld (u.scalar f.c.toNat) 15 0 + sum 0 1023) 65535)
      ∧ (v.sat = true ↔ (u.sat = true ∨ 65535 < fld (u.scalar f.c.toNat) 15 0 + sum 0 1023))
      ∧ (∀ t, t ≠ f.d.toNat → v.tile t = u.tile t) ∧ (∀ k, k ≠ f.c.toNat → v.scalar k = u.scalar k)
      ∧ v = { u.stepped 2 (u.pc + 1) with tiles := v.tiles, sat := v.sat, scalars := v.scalars })
    ∧ (f.b ≠ 0 ∨ 2 ≤ f.mod.toNat ∨ (f.mod = 0 ∧ f.c ≠ 0) ∨ (f.mod = 1 ∧ 8 ≤ f.c.toNat) →
      Failed s (.sPsum n f) n 3 Status.format))
  ∧ ∀ (s : State) (n : Nat) (f : TFmt), SaffronAt s.blk n (0x23 * 2 ^ 24 + f.enc) →
    let u := s.blk.saf n
    let d := f.d.toNat
    let k := f.mod.toNat % 8 + 1
    let key (j : Nat) : Elt := if f.mod.getLsbD 3 = true then okey (f.mod.getLsbD 4) (u.elt f.a.toNat j)
      else u.elt f.a.toNat j
    let legal := d % 2 = 0 ∧ f.a.toNat ≠ d ∧ f.a.toNat ≠ d + 1 ∧ f.b.toNat ≠ d ∧ f.b.toNat ≠ d + 1 ∧ f.c.toNat < 2
    let new (r : Nat) : List (Elt × Elt) := ((List.range 32).filter fun c => u.takes f (32 * r + c)).map fun c =>
      (key (32 * r + c), u.elt f.b.toNat (32 * r + c))
    let old (r : Nat) : List (Elt × Elt) := (List.range k).map fun c => (u.elt d (32 * r + c), u.elt (d + 1) (32 * r + c))
    let all (r : Nat) : List (Elt × Elt) := (if f.c = 1 then [] else old r) ++ new r
    (legal → HasInstr s.blk n (u.pc + 1) → ∃ v, Ran s (.sTopk n f) n v
      ∧ (∀ r, r < 32 → f.c = 0 → new r = [] → ∀ c, c < 32 →
          v.elt d (32 * r + c) = u.elt d (32 * r + c) ∧ v.elt (d + 1) (32 * r + c) = u.elt (d + 1) (32 * r + c))
      ∧ (∀ r, r < 32 → (f.c = 1 ∨ new r ≠ []) → ∃ best rest : List (Elt × Elt), (best ++ rest).Perm (all r)
          ∧ best.length = min k (all r).length
          ∧ best.Pairwise (fun x y => ranksAbove y x = false)
          ∧ (∀ x, x ∈ best → ∀ y, y ∈ rest → ranksAbove y x = false)
          ∧ (∀ c x, best[c]? = some x → v.elt d (32 * r + c) = x.1 ∧ v.elt (d + 1) (32 * r + c) = x.2)
          ∧ ∀ c, best.length ≤ c → c < 32 → v.elt d (32 * r + c) = 0 ∧ v.elt (d + 1) (32 * r + c) = 0xFFFF#16)
      ∧ (v.nan = true ↔ (u.nan = true ∨ (f.mod.getLsbD 3 = true ∧ ∃ j, j < 1024
          ∧ isNan (f.mod.getLsbD 4) (u.elt f.a.toNat j) = true)))
      ∧ (∀ t, t ≠ d → t ≠ d + 1 → v.tile t = u.tile t)
      ∧ v = { u.stepped 2 (u.pc + 1) with tiles := v.tiles, nan := v.nan })
    ∧ (¬ legal → Failed s (.sTopk n f) n 3 Status.format)

/-- R313, R314, R334: the operations on scalars: SMOVI sets one part or the whole of D, SADDI and SADD add, SSHRI
shifts right by IMM modulo 64; and the branches: LOOP lowers D and goes to IMM, not above PC, while it is not zero, BZ
goes to IMM, above PC and below NINSTR, when D is zero; any other target fails with cause 4. R331, R332, R333, R335:
CAND takes the next tokens, up to 32, with K candidates each, waits while the routing stage's queue of 64 tokens has
no room for them (R333), and fails with cause 7 where the mode has no tokens or none is left, and with cause 6 where a
token's candidates are not K distinct experts in descending rank; END waits for the program's writes and hands over to
the creation list or to routing, and fails with cause 7 where tokens are missing. Some clauses also rest on the
model's choices of logs 27, 28, 29, 73 and 75. -/
def Obligations.ScalarsCandidatesAndTheEnd : Prop :=
  ((∀ (s : State) (n : Nat) (f : IFmt), SaffronAt s.blk n (0x40 * 2 ^ 24 + f.enc) →
    let u := s.blk.saf n
    (f.d.toNat < 8 ∧ f.a.toNat < 4 → HasInstr s.blk n (u.pc + 1) → ∃ v x, Ran s (.sSmovi n f) n v
      ∧ v = { u.stepped 0 (u.pc + 1) with scalars := v.scalars } ∧ v.scalar f.d.toNat = x
      ∧ (f.a = 0 → x = f.imm.setWidth 64)
      ∧ (f.a ≠ 0 → ∀ j, j < 4 → x.extractLsb' (16 * j) 16 =
          if j = f.a.toNat then f.imm else (u.scalar f.d.toNat).extractLsb' (16 * j) 16)
      ∧ ∀ k, k ≠ f.d.toNat → v.scalar k = u.scalar k)
    ∧ (¬ (f.d.toNat < 8 ∧ f.a.toNat < 4) → Failed s (.sSmovi n f) n 3 Status.format))
  ∧ (∀ (s : State) (n : Nat) (f : IFmt), SaffronAt s.blk n (0x41 * 2 ^ 24 + f.enc) →
    let u := s.blk.saf n
    (f.d.toNat < 8 ∧ f.a.toNat < 8 → HasInstr s.blk n (u.pc + 1) → ∃ v, Ran s (.sSaddi n f) n v
      ∧ v = { u.stepped 0 (u.pc + 1) with scalars := v.scalars }
      ∧ v.scalar f.d.toNat = u.scalar f.a.toNat + f.imm.signExtend 64
      ∧ ∀ k, k ≠ f.d.toNat → v.scalar k = u.scalar k)
    ∧ (¬ (f.d.toNat < 8 ∧ f.a.toNat < 8) → Failed s (.sSaddi n f) n 3 Status.format))
  ∧ (∀ (s : State) (n : Nat) (f : TFmt), SaffronAt s.blk n (0x42 * 2 ^ 24 + f.enc) →
    let u := s.blk.saf n
    let legal := f.d.toNat < 8 ∧ f.a.toNat < 8 ∧ f.b.toNat < 8 ∧ f.c = 0 ∧ f.mod = 0 ∧ f.msel = 0 ∧ f.mu = false
    (legal → HasInstr s.blk n (u.pc + 1) → ∃ v, Ran s (.sSadd n f) n v
      ∧ v = { u.stepped 0 (u.pc + 1) with scalars := v.scalars }
      ∧ v.scalar f.d.toNat = u.scalar f.a.toNat + u.scalar f.b.toNat
      ∧ ∀ k, k ≠ f.d.toNat → v.scalar k = u.scalar k)
    ∧ (¬ legal → Failed s (.sSadd n f) n 3 Status.format))
  ∧ (∀ (s : State) (n : Nat) (f : IFmt), SaffronAt s.blk n (0x44 * 2 ^ 24 + f.enc) →
    let u := s.blk.saf n
    (f.d.toNat < 8 ∧ f.a.toNat < 8 → HasInstr s.blk n (u.pc + 1) → ∃ v, Ran s (.sSshri n f) n v
      ∧ v = { u.stepped 0 (u.pc + 1) with scalars := v.scalars }
      ∧ (v.scalar f.d.toNat).toNat = (u.scalar f.a.toNat).toNat / 2 ^ (f.imm.toNat % 64)
      ∧ ∀ k, k ≠ f.d.toNat → v.scalar k = u.scalar k)
    ∧ (¬ (f.d.toNat < 8 ∧ f.a.toNat < 8) → Failed s (.sSshri n f) n 3 Status.format))
  ∧ (∀ (s : State) (n : Nat) (f : IFmt), SaffronAt s.blk n (0x48 * 2 ^ 24 + f.enc) →
    let u := s.blk.saf n
    let next := if u.scalar f.d.toNat = 1 then u.pc + 1 else f.imm.toNat
    (f.d.toNat < 8 ∧ f.a = 0 → f.imm.toNat ≤ u.pc → HasInstr s.blk n next → ∃ v, Ran s (.sLoop n f) n v
      ∧ v = { u.stepped 0 next with scalars := v.scalars }
      ∧ v.scalar f.d.toNat = u.scalar f.d.toNat - 1 ∧ ∀ k, k ≠ f.d.toNat → v.scalar k = u.scalar k)
    ∧ (f.d.toNat < 8 ∧ f.a = 0 → u.instr < 16777216 → u.pc < f.imm.toNat →
      Failed s (.sLoop n f) n 4 Status.format)
    ∧ (¬ (f.d.toNat < 8 ∧ f.a = 0) → Failed s (.sLoop n f) n 3 Status.format))
  ∧ ∀ (s : State) (n : Nat) (f : IFmt), SaffronAt s.blk n (0x49 * 2 ^ 24 + f.enc) →
    let u := s.blk.saf n
    let next := if u.scalar f.d.toNat = 0 then f.imm.toNat else u.pc + 1
    (f.d.toNat < 8 ∧ f.a = 0 → u.pc < f.imm.toNat → (∃ x, u.exp = some x ∧ f.imm.toNat < x.prog.length) →
      HasInstr s.blk n next → Ran s (.sBz n f) n (u.stepped 0 next))
    ∧ (f.d.toNat < 8 ∧ f.a = 0 → u.instr < 16777216 →
      (f.imm.toNat ≤ u.pc ∨ ∃ x, u.exp = some x ∧ x.prog.length ≤ f.imm.toNat) →
      Failed s (.sBz n f) n 4 Status.format)
    ∧ (¬ (f.d.toNat < 8 ∧ f.a = 0) → Failed s (.sBz n f) n 3 Status.format))
  ∧ ((∀ (s : State) (n : Nat) (f : TFmt) (x : Expansion), SaffronAt s.blk n (0x33 * 2 ^ 24 + f.enc) →
    (s.blk.saf n).exp = some x →
    let u := s.blk.saf n
    let legal := f.d = 0 ∧ f.c = 0 ∧ f.mod = 0 ∧ f.msel = 0 ∧ f.mu = false
    let k := min 32 (x.arg.ntok - u.curtok)
    let new : List (List (Elt × Elt)) := (List.range k).map fun r => (List.range (min 32 x.arg.k)).map fun c =>
      (u.elt f.a.toNat (32 * r + c), u.elt f.b.toNat (32 * r + c))
    let fits := x.cands.length + k ≤ 64
    (legal → u.instr < 16777216 → ¬ ((x.arg.mode = 1 ∨ x.arg.mode = 2) ∧ u.curtok < x.arg.ntok) →
      Failed s (.sCand n f) n 7 Status.format)
    ∧ (legal → (x.arg.mode = 1 ∨ x.arg.mode = 2) → u.curtok < x.arg.ntok → u.instr < 16777216 →
      (∃ l, l ∈ new ∧ candsOk x.arg.nexp l = false) → Failed s (.sCand n f) n 6 Status.format)
    ∧ (legal → (x.arg.mode = 1 ∨ x.arg.mode = 2) → u.curtok < x.arg.ntok → HasInstr s.blk n (u.pc + 1) →
      (∀ l, l ∈ new → candsOk x.arg.nexp l = true) → fits →
      Ran s (.sCand n f) n { u.stepped 0 (u.pc + 1) with
        curtok := u.curtok + k, exp := some { x with cands := x.cands ++ new } })
    ∧ (legal → (x.arg.mode = 1 ∨ x.arg.mode = 2) → u.curtok < x.arg.ntok → u.instr < 16777216 →
      (∀ l, l ∈ new → candsOk x.arg.nexp l = true) → ¬ fits → exec (.sCand n f) s = .next s)
    ∧ (¬ legal → Failed s (.sCand n f) n 3 Status.format))
  ∧ (∀ (e : Nat) (l : List (Elt × Elt)), candsOk e l = true ↔
      ((∀ y, y ∈ l → y.2.toNat < e) ∧ (l.map (·.2)).Nodup
        ∧ l.Pairwise fun y z => z.1.toNat < y.1.toNat ∨ (z.1 = y.1 ∧ y.2.toNat < z.2.toNat)))
  ∧ ∀ (s : State) (n : Nat) (f : TFmt) (x : Expansion), SaffronAt s.blk n (0x4F * 2 ^ 24 + f.enc) →
    (s.blk.saf n).exp = some x →
    let u := s.blk.saf n
    let legal := (f.d.toNat < 8 ∨ x.arg.mode ≠ 0) ∧ f.a = 0 ∧ f.b = 0 ∧ f.c = 0 ∧ f.mod = 0 ∧ f.msel = 0 ∧ f.mu = false
    (legal → u.instr < 16777216 → s.blk.mp.programWrites n = true → exec (.sEnd n f) s = .next s)
    ∧ (legal → u.instr < 16777216 → s.blk.mp.programWrites n = false → x.arg.mode = 0 →
      Ran s (.sEnd n f) n { u with
        instr := u.instr + 1
        exp := some { x with stage := .creating, nlist := fld (u.scalar f.d.toNat) 31 0 } })
    ∧ (legal → u.instr < 16777216 → s.blk.mp.programWrites n = false → x.arg.mode ≠ 0 → x.arg.ntok ≤ u.curtok →
      Ran s (.sEnd n f) n { u with instr := u.instr + 1, exp := some { x with stage := .routing } })
    ∧ (legal → u.instr < 16777216 → s.blk.mp.programWrites n = false → x.arg.mode ≠ 0 → u.curtok < x.arg.ntok →
      Failed s (.sEnd n f) n 7 Status.format)
    ∧ (¬ legal → Failed s (.sEnd n f) n 3 Status.format))

/-- R326 to R330: the operations on memory. LD reads the elements of a legal shape into D, zero elsewhere; SLD reads
one word; ST writes the elements that MU and MSEL take, each as two bytes, and no other byte; SCAT appends the records
of the elements whose bit is set and moves its base behind each of them, also where the base is a record's word 1. An
operand that R326 or R329 forbids fails with cause 5, a read that meets an error with cause 9 and its status. Some
clauses also rest on the model's choices of logs 27, 28, 74 and 75. -/
def Obligations.MemoryOperations : Prop :=
  (∀ (s : State) (n : Nat) (f : TFmt) (m : MemView), SaffronAt s.blk n (0x30 * 2 ^ 24 + f.enc) →
    let u := s.blk.saf n
    let base := (u.scalar f.a.toNat).toNat
    let legal := f.a.toNat < 8 ∧ f.b.toNat < 8 ∧ f.c = 0 ∧ f.mod = 0
    (legal → u.instr < 16777216 → ∀ sh, shapeOf (u.scalar f.b.toNat) = some sh → base % 2 = 0 →
      areasOk (rowAreas base sh) = true →
      (∀ t, t ∈ rowAreas base sh → s.blk.mp.pendingWrite t.1 t.2 = false) →
      (MemView_areas m (rowAreas base sh) = Status.ok → HasInstr s.blk n (u.pc + 1) → ∃ v, Ran s (.sLd n f m) n v
        ∧ (∀ k, k < 1024 → v.elt f.d.toNat k = if k / 32 < sh.1 ∧ k % 32 < sh.2.1
            then BitVec.ofNat 16 (m.u16 (base + k / 32 * sh.2.2 + 2 * (k % 32))) else 0)
        ∧ (∀ t, t ≠ f.d.toNat → v.tile t = u.tile t)
        ∧ (f.mu = true → ∀ k, k < 1024 → (v.bitAt f.msel.toNat k = true ↔ (k / 32 < sh.1 ∧ k % 32 < sh.2.1)))
        ∧ (∀ t, (f.mu = false ∨ t ≠ f.msel.toNat) → v.mask t = u.mask t)
        ∧ v = { u.stepped 0 (u.pc + 1) with
            tiles := v.tiles, masks := v.masks, beats := u.beats + beatsOf (rowAreas base sh) })
      ∧ (MemView_areas m (rowAreas base sh) ≠ Status.ok → ∃ b, exec (.sLd n f m) s = .next { s with blk := b }
        ∧ (b.saf n).errV = true ∧ (b.saf n).errCause = 9 ∧ (b.saf n).errPc = u.pc % 4096
        ∧ (b.saf n).exp = u.exp.map (fun x => { x with
            fail := some (MemView_areas m (rowAreas base sh)), stage := .retiring })
        ∧ (b.saf n).tiles = u.tiles
        ∧ b = { s.blk with mp := b.mp, saffron := b.saffron, evc := { s.blk.evc with pend := b.evc.pend },
                           trace := b.trace }))
    ∧ (legal → u.instr < 16777216 → (∀ sh, shapeOf (u.scalar f.b.toNat) = some sh →
        base % 2 = 1 ∨ areasOk (rowAreas base sh) = false) → Failed s (.sLd n f m) n 5 Status.format)
    ∧ (¬ legal → Failed s (.sLd n f m) n 3 Status.format))
  ∧ (∀ (s : State) (n : Nat) (f : IFmt) (m : MemView), SaffronAt s.blk n (0x43 * 2 ^ 24 + f.enc) →
    let u := s.blk.saf n
    let a := (u.scalar f.a.toNat + f.imm.signExtend 64).toNat
    let legal := f.d.toNat < 8 ∧ f.a.toNat < 8
    (legal → HasInstr s.blk n (u.pc + 1) → a % 8 = 0 → a + 8 ≤ 2 ^ 56 → s.blk.mp.pendingWrite a 8 = false →
      m.status Status.indirectFault a 8 = Status.ok → ∃ v, Ran s (.sSld n f m) n v
      ∧ v.scalar f.d.toNat = m.word a ∧ (∀ k, k ≠ f.d.toNat → v.scalar k = u.scalar k)
      ∧ v = { u.stepped 0 (u.pc + 1) with scalars := v.scalars, beats := u.beats + 1 })
    ∧ (legal → u.instr < 16777216 → (a % 8 ≠ 0 ∨ 2 ^ 56 < a + 8) → Failed s (.sSld n f m) n 5 Status.format)
    ∧ (¬ legal → Failed s (.sSld n f m) n 3 Status.format))
  ∧ (∀ (s : State) (n : Nat) (f : TFmt), SaffronAt s.blk n (0x31 * 2 ^ 24 + f.enc) →
    let u := s.blk.saf n
    let base := (u.scalar f.c.toNat).toNat
    let legal := f.d = 0 ∧ f.b.toNat < 8 ∧ f.c.toNat < 8 ∧ f.mod = 0
    (legal → HasInstr s.blk n (u.pc + 1) → ∀ sh, shapeOf (u.scalar f.b.toNat) = some sh →
      areasOk (rowAreas base sh) = true → ∃ b runs, exec (.sSt n f) s = .next { s with blk := b }
      ∧ b.mp = (List.foldl (fun (c : Block) (t : Nat × List Byte) => c.put n 4 t.1 t.2 (.saffron n u.pc)) s.blk runs).mp
      ∧ (∀ t j x, t ∈ runs → t.2[j]? = some x → ∃ r c i, r < sh.1 ∧ c < sh.2.1 ∧ i < 2
          ∧ u.takes f (32 * r + c) = true ∧ t.1 + j = base + r * sh.2.2 + 2 * c + i
          ∧ x = (u.elt f.a.toNat (32 * r + c)).extractLsb' (8 * i) 8)
      ∧ (∀ r c i, r < sh.1 → c < sh.2.1 → i < 2 → u.takes f (32 * r + c) = true → ∃ t j, t ∈ runs
          ∧ t.1 + j = base + r * sh.2.2 + 2 * c + i
          ∧ t.2[j]? = some ((u.elt f.a.toNat (32 * r + c)).extractLsb' (8 * i) 8))
      ∧ b.saf n = { u.stepped 0 (u.pc + 1) with beats := u.beats + beatsOf (rowAreas base sh) }
      ∧ (∀ k, k ≠ n → b.saf k = s.blk.saf k)
      ∧ b = { s.blk with mp := b.mp, saffron := b.saffron })
    ∧ (legal → u.instr < 16777216 → (∀ sh, shapeOf (u.scalar f.b.toNat) = some sh →
        areasOk (rowAreas base sh) = false) → Failed s (.sSt n f) n 5 Status.format)
    ∧ (¬ legal → Failed s (.sSt n f) n 3 Status.format))
  ∧ ∀ (s : State) (n : Nat) (f : TFmt), SaffronAt s.blk n (0x32 * 2 ^ 24 + f.enc) →
    let u := s.blk.saf n
    let base := (u.scalar f.d.toNat).toNat
    let long := f.mod.getLsbD 0
    let legal := f.d.toNat < 8 ∧ f.mu = false ∧ f.mod.toNat < 16 ∧ (long = true ∨ f.mod = 0)
    let ws : List Word := (List.range 1024).flatMap fun k => if u.bitAt f.msel.toNat k = true then
        packW [((u.elt f.c.toNat k).toNat, 16, 48), (k, 16, 32), ((u.elt f.b.toNat k).toNat, 16, 16),
          ((u.elt f.a.toNat k).toNat, 16, 0)] :: (if long = true then [if f.mod.toNat / 2 % 8 = f.d.toNat then
            BitVec.ofNat 64 (base + 16 * ((List.range k).filter (u.bitAt f.msel.toNat)).length)
          else u.scalar (f.mod.toNat / 2 % 8)] else [])
      else []
    (legal → HasInstr s.blk n (u.pc + 1) → base % (if long = true then 16 else 8) = 0 →
      base + 8 * ws.length ≤ 2 ^ 56 → ∃ b, exec (.sScat n f) s = .next { s with blk := b }
      ∧ b.mp = (if ws = [] then s.blk.mp else (s.blk.put n 4 base (wordsBytes ws) (.saffron n u.pc)).mp)
      ∧ (b.saf n).scalar f.d.toNat = BitVec.ofNat 64 (base + 8 * ws.length)
      ∧ (∀ k, k ≠ f.d.toNat → (b.saf n).scalar k = u.scalar k)
      ∧ b.saf n = { u.stepped 0 (u.pc + 1) with
          scalars := (b.saf n).scalars
          beats := if ws = [] then u.beats else u.beats + beatsOf [(base, 8 * ws.length)] }
      ∧ (∀ k, k ≠ n → b.saf k = s.blk.saf k) ∧ b = { s.blk with mp := b.mp, saffron := b.saffron })
    ∧ (legal → u.instr < 16777216 →
      (base % (if long = true then 16 else 8) ≠ 0 ∨ 2 ^ 56 < base + 8 * ws.length) →
      Failed s (.sScat n f) n 5 Status.format)
    ∧ (¬ legal → Failed s (.sScat n f) n 3 Status.format)

/-- R340, R345, R346: a write of SQT_CMD enters a JOIN or CANCEL, with SQT_CMD_ARG as it stands, into the queue of 16;
one that finds it full, or that is neither, sets REJ; the queue applies it, where nothing stands before it, at the
next opportunity. Between builds, and behind the builds that reached the table before it, the oldest command is
applied: a JOIN takes the lowest entry that is FREE and the context's NEXT_ORD, or is refused; a CANCEL frees an entry
that waits, makes a running one LEAVING, and is refused on one that is FREE or another context's. A write of the
pool's configuration empties the free chain, sets HWM to 0 and clears FAULT, and is refused while an entry is not
FREE. R346, R347, R349, R351 to R353: how a STEP node goes. Its build reaches the sequence table behind the commands
and the builds that did so before (the model's choice, log 154), while no other STEP of its context acts or stands in
line and no build runs. The build, worked out from the table and the result words, writes its links and the work list:
the header, the entries, the parameter block of each task from the template's, and the page vectors; its changes of
the table stand. Where the read of the template's block fails, or a reserved byte of it is set, the submission is
abandoned and the build completes all the same (R353). Once the writes are acknowledged its tasks are created READY,
each with its index, its parameter block and the STEP as its parent; once they have all retired the STEP retires with
its final status. Some clauses also rest on the model's choices of logs 33, 34, 36, 37, 72 and 147. -/
def Obligations.SequencesJoinBuildAndRetire : Prop :=
  ((∀ (s : State) (a : Acc) (c : BitVec 10) (k : BitVec 8) (l : BitVec 24), Performs s a .sqtCmd true →
    (s.blk.seq.cmds.length < 16 → exec (.join a c k l) s = .next (s.wrote .sqtCmd { s.blk with seq := { s.blk.seq with
      cmds := s.blk.seq.cmds ++ [.join c.toNat k.toNat l.toNat (fld s.blk.seq.arg 31 0)] } }))
    ∧ (s.blk.seq.cmds.length < 16 → exec (.cancel a c) s = .next (s.wrote .sqtCmd { s.blk with
        seq := { s.blk.seq with cmds := s.blk.seq.cmds ++ [.cancel c.toNat (fld s.blk.seq.arg 45 32)] } }))
    ∧ (16 ≤ s.blk.seq.cmds.length → exec (.join a c k l) s = .next (s.wrote .sqtCmd
        { s.blk with seq := { s.blk.seq with rej := true } })
      ∧ exec (.cancel a c) s = .next (s.wrote .sqtCmd { s.blk with seq := { s.blk.seq with rej := true } })))
  ∧ (∀ (s : State) (a : Acc) (c : BitVec 10) (k : BitVec 8) (l : BitVec 24) (i : Nat), Performs s a .sqtCmd true →
    s.blk.seq.cmds = [] → s.blk.building = false → s.blk.buildLine = [] → s.blk.seq.freeEntry = some i → l ≠ 0 →
    (s.blk.seqCtx c.toNat).nextOrd ≠ 0xFFFFFFFF →
    ∃ t b, exec (.join a c k l) s = .next t ∧ exec .sqtCommandApply t = .next { t with blk := b }
      ∧ b.seqEntry i = { state := .joining, ctx := c.toNat, prio := k.toNat, seqId := fld s.blk.seq.arg 31 0
                         ord := (s.blk.seqCtx c.toNat).nextOrd, len := l.toNat }
      ∧ (∀ j, j ≠ i → b.seqEntry j = s.blk.seqEntry j)
      ∧ b.seqCtx c.toNat = { s.blk.seqCtx c.toNat with nextOrd := (s.blk.seqCtx c.toNat).nextOrd + 1 }
      ∧ (∀ j, j ≠ c.toNat → b.seqCtx j = s.blk.seqCtx j)
      ∧ b = { s.blk with seq := { s.blk.seq with
                seqs := b.seq.seqs, ctxs := b.seq.ctxs, line := [], lastJoin := i } })
  ∧ (∀ (s : State) (a : Acc) (c : BitVec 10), Performs s a .sqtCmd true →
    s.blk.seq.cmds = [] → s.blk.building = false → s.blk.buildLine = [] →
    let i := fld s.blk.seq.arg 45 32
    (s.blk.seqEntry i).ctx = c.toNat → (s.blk.seqEntry i).state ≠ .free →
    ∃ t b, exec (.cancel a c) s = .next t ∧ exec .sqtCommandApply t = .next { t with blk := b }
      ∧ b.seqEntry i = { s.blk.seqEntry i with state := match (s.blk.seqEntry i).state with
          | .running | .leaving => .leaving
          | _ => .free }
      ∧ (∀ j, j ≠ i → b.seqEntry j = s.blk.seqEntry j)
      ∧ b = { s.blk with seq := { s.blk.seq with seqs := b.seq.seqs, line := [] } })
  ∧ (∀ (s : State) (a : Acc) (d : Word), Performs s a .sqtCmd true →
    (fld d 63 60 ≠ 1 → fld d 63 60 ≠ 2 → exec (.sqtCmdInvalid a d) s =
      .next (s.wrote .sqtCmd { s.blk with seq := { s.blk.seq with rej := true } }))
    ∧ (16 ≤ s.blk.seq.cmds.length → exec (.sqtCmdInvalid a d) s =
      .next (s.wrote .sqtCmd { s.blk with seq := { s.blk.seq with rej := true } }))
    ∧ (fld d 63 60 = 1 → s.blk.seq.cmds.length < 16 → exec (.sqtCmdInvalid a d) s =
      .next (s.wrote .sqtCmd { s.blk with seq := { s.blk.seq with
        cmds := s.blk.seq.cmds ++ [.join (fld d 57 48) (fld d 47 40) (fld d 23 0) (fld s.blk.seq.arg 31 0)] } }))
    ∧ (fld d 63 60 = 2 → s.blk.seq.cmds.length < 16 → exec (.sqtCmdInvalid a d) s =
      .next (s.wrote .sqtCmd { s.blk with seq := { s.blk.seq with
        cmds := s.blk.seq.cmds ++ [.cancel (fld d 57 48) (fld s.blk.seq.arg 45 32)] } })))
  ∧ (∀ (s : State), s.blk.building = true ∨ s.blk.buildLine.any (fun e => e.2.2 == 0) = true ∨ s.blk.seq.cmds = [] →
    exec .sqtCommandApply s = .next s)
  ∧ (∀ (s : State) (c k l id : Nat) (r : List SeqCmd), s.blk.building = false →
    s.blk.buildLine.any (fun e => e.2.2 == 0) = false → s.blk.seq.cmds = .join c k l id :: r →
    let line := s.blk.buildLine.map fun e => (e.1, e.2.1, e.2.2 - 1)
    (∀ i, s.blk.seq.freeEntry = some i → l ≠ 0 → (s.blk.seqCtx c).nextOrd ≠ 0xFFFFFFFF →
      ∃ b, exec .sqtCommandApply s = .next { s with blk := b }
      ∧ b.seqEntry i = { state := .joining, ctx := c, prio := k, seqId := id, ord := (s.blk.seqCtx c).nextOrd, len := l }
      ∧ (∀ j, j ≠ i → b.seqEntry j = s.blk.seqEntry j)
      ∧ b.seqCtx c = { s.blk.seqCtx c with nextOrd := (s.blk.seqCtx c).nextOrd + 1 }
      ∧ (∀ j, j ≠ c → b.seqCtx j = s.blk.seqCtx j)
      ∧ b = { s.blk with seq := { s.blk.seq with
          seqs := b.seq.seqs, ctxs := b.seq.ctxs, cmds := r, lastJoin := i, line := line } })
    ∧ (s.blk.seq.freeEntry = none ∨ l = 0 ∨ (s.blk.seqCtx c).nextOrd = 0xFFFFFFFF →
      exec .sqtCommandApply s = .next { s with blk := { s.blk with seq := { s.blk.seq with
        cmds := r, rej := true, line := line } } }))
  ∧ (∀ (b : Block) (i : Nat), Tab.wf {} b.seq.seqs = true → b.seq.freeEntry = some i →
    (b.seqEntry i).state = .free ∧ i < 16384 ∧ ∀ j, j < i → (b.seqEntry j).state ≠ .free)
  ∧ (∀ (s : State) (c i : Nat) (r : List SeqCmd), s.blk.building = false →
    s.blk.buildLine.any (fun e => e.2.2 == 0) = false → s.blk.seq.cmds = .cancel c i :: r →
    let line := s.blk.buildLine.map fun e => (e.1, e.2.1, e.2.2 - 1)
    ((s.blk.seqEntry i).ctx = c → (s.blk.seqEntry i).state ≠ .free → ∃ b, exec .sqtCommandApply s = .next { s with blk := b }
      ∧ b.seqEntry i = { s.blk.seqEntry i with state := match (s.blk.seqEntry i).state with
          | .running | .leaving => .leaving
          | _ => .free }
      ∧ (∀ j, j ≠ i → b.seqEntry j = s.blk.seqEntry j)
      ∧ b = { s.blk with seq := { s.blk.seq with seqs := b.seq.seqs, cmds := r, line := line } })
    ∧ ((s.blk.seqEntry i).ctx ≠ c ∨ (s.blk.seqEntry i).state = .free →
      exec .sqtCommandApply s = .next { s with blk := { s.blk with seq := { s.blk.seq with
        cmds := r, rej := true, line := line } } }))
  ∧ ∀ (s : State) (a : Acc) (cfg : Bool) (d : Word),
    Performs s a (if cfg = true then .poolCfg else .poolBase) true →
    (s.blk.seq.busy = true → exec (.poolConfigWrite a cfg d) s =
      .next (s.wrote (if cfg = true then .poolCfg else .poolBase) { s.blk with seq := { s.blk.seq with rej := true } }))
    ∧ (s.blk.seq.busy = false → ∃ b, exec (.poolConfigWrite a cfg d) s =
        .next (s.wrote (if cfg = true then .poolCfg else .poolBase) b)
      ∧ b.seq.freeChain = [] ∧ b.seq.hwm = 0 ∧ b.seq.fault = none
      ∧ (cfg = true → b.seq.size = fld d 54 32 ∧ b.seq.log2tpp = fld d 20 16 ∧ b.seq.defTok = fld d 15 0
          ∧ b.seq.base = s.blk.seq.base)
      ∧ (cfg = false → b.seq.base = d &&& 0x00FFFFFFFFFFF000#64 ∧ b.seq.size = s.blk.seq.size
          ∧ b.seq.log2tpp = s.blk.seq.log2tpp ∧ b.seq.defTok = s.blk.seq.defTok)
      ∧ b = { s.blk with seq := { s.blk.seq with
                freeChain := [], hwm := 0, fault := none, base := b.seq.base, size := b.seq.size,
                log2tpp := b.seq.log2tpp, defTok := b.seq.defTok } }))
  ∧ ((∀ (s : State) (seg i : Nat) (m : MemView), (s.blk.node seg i).kind = 5 → s.blk.gate seg i = .act →
    (s.blk.dom 3).state = .on → s.blk.stepActs (s.blk.sub seg).ctx = false → s.blk.stepStands seg i = false →
    s.blk.building = false →
    (s.blk.buildLine = [] ∧ s.blk.seq.cmds = [] ∨ s.blk.buildLine.head? = some (seg, i, 0)) →
    s.blk.stepDirty m seg i = false → EdgesReach s.params s.blk m seg i →
    let c := (s.blk.sub seg).ctx
    let r := readStep m (s.blk.node seg i).record
    let x := s.blk.buildRun m seg i r
    let ts := x.tasks.reverse
    let tmpl := (s.blk.sub seg).param (bits (recW m ((s.blk.sub seg).record r.tmpl) 3) 63 32)
    (stepRangeBad m (s.blk.sub seg) i = true → ∃ b, exec (.stepBuild seg i m) s = .next { s with blk := b }
      ∧ (b.node seg i).state = .acting ∧ (b.node seg i).built = some (Status.format, 0)
      ∧ b.seq = { s.blk.seq with line := s.blk.buildLine.drop 1 }
      ∧ b = { s.blk with graph := b.graph, seq := b.seq
                         mp := { s.blk.mp with errAddr := b.mp.errAddr, errInfo := b.mp.errInfo }
                         evc := { s.blk.evc with pend := b.evc.pend }, trace := b.trace })
    ∧ (∀ st, x.blocked s.blk.seq.fault = some st → stepRangeBad m (s.blk.sub seg) i = false →
      ∃ b, exec (.stepBuild seg i m) s = .next { s with blk := b }
      ∧ (b.node seg i).state = .acting ∧ (b.node seg i).built = some (st, 0)
      ∧ (b.node seg i).wl = some (r.wl, (s.blk.seqCtx c).lastN)
      ∧ b.seq = { s.blk.seq with line := s.blk.buildLine.drop 1 }
      ∧ b = { s.blk with graph := b.graph, seq := b.seq
                         mp := { s.blk.mp with errAddr := b.mp.errAddr, errInfo := b.mp.errInfo }
                         evc := { s.blk.evc with pend := b.evc.pend }, trace := b.trace })
    ∧ (stepRangeBad m (s.blk.sub seg) i = false → x.blocked s.blk.seq.fault = none → x.fail = none →
      (x.tasks = [] ∨ m.status Status.format tmpl 64 = Status.ok ∧ reservedZero (m.wordsAt tmpl 8) = true) →
      ∃ b, exec (.stepBuild seg i m) s = .next { s with blk := b }
      ∧ (b.node seg i).state = .acting ∧ (b.node seg i).built = some (x.status, x.tasks.length)
      ∧ (b.node seg i).wl = some (r.wl, x.n)
      ∧ (∃ v : Nat, (0 ≤ x.avail → v = x.avail.toNat) ∧
          let head : List Word := [
            packW [((s.blk.sub seg).stepNum, 32, 32), (x.status.toNat, 8, 16), (x.n, 15, 0)],
            packW [(x.nleave, 16, 0), (x.npark, 16, 16), (x.njoin, 16, 32), (x.ndrop, 16, 48)],
            packW [(x.runs.length, 16, 0), (v, 23, 32)], packW [(x.tasks.length, 16, 0)], 0, 0, 0, 0]
          let blocks := (List.range ts.length).map fun k =>
            let t := (ts[k]?).getD (0, 0, [])
            (r.wl + 64 + 32 * r.cap + 64 * k,
              wordsBytes [BitVec.ofNat 64 (r.wl + 64 + 32 * t.1), m.word (tmpl + 8), m.word (tmpl + 16), m.word (tmpl + 24),
                m.word (tmpl + 32), packW [(t.2.1, 1, 0), (k, 16, 16)], 0, 0])
          let vecs := ts.flatMap fun t =>
            let bs := t.2.2.flatMap (leBytes 4)
            bs ++ List.replicate ((64 - bs.length % 64) % 64) 0
          let links := x.links.reverse.foldl (fun (c : Block) t =>
            c.put 63 4 (s.blk.seq.linkAddr t.1) (leBytes 4 t.2) (.linkArray seg i)) s.blk
          b.mp = { (((r.wl, wordsBytes (head ++ x.entries.reverse.flatten)) :: blocks
              ++ (if vecs = [] then [] else [(r.wl + 64 + 96 * r.cap, vecs)])).foldl
            (fun (c : Block) t => c.put 63 4 t.1 t.2 (.workList seg i)) links).mp with
            errAddr := b.mp.errAddr, errInfo := b.mp.errInfo })
      ∧ b.seq.seqs = x.marked c ∧ b.seq.freeChain = x.freeChain ∧ b.seq.hwm = x.hwm
      ∧ (b.seqCtx c).used = x.used ∧ (∀ k, k ≠ c → b.seqCtx k = s.blk.seqCtx k)
      ∧ b = { s.blk with mp := b.mp, graph := b.graph, seq := b.seq
                         evc := { s.blk.evc with pend := b.evc.pend }, trace := b.trace })
    ∧ (∀ f, x.fail = some f → stepRangeBad m (s.blk.sub seg) i = false → x.blocked s.blk.seq.fault = none →
      (x.tasks = [] ∨ m.status Status.format tmpl 64 = Status.ok ∧ reservedZero (m.wordsAt tmpl 8) = true) →
      ∃ b, exec (.stepBuild seg i m) s = .next { s with blk := b }
      ∧ (b.node seg i).state = .acting ∧ (b.node seg i).built = some (x.status, 0)
      ∧ b.seq.seqs = x.seqs ∧ b.seq.freeChain = x.freeChain ∧ b.seq.hwm = x.hwm
      ∧ b.seq.fault = some (s.blk.seq.fault.getD f) ∧ (b.seqCtx c).used = x.used
      ∧ b.mp = { (x.links.reverse.foldl (fun (c : Block) t =>
            c.put 63 4 (s.blk.seq.linkAddr t.1) (leBytes 4 t.2) (.linkArray seg i)) s.blk).mp with
          errAddr := b.mp.errAddr, errInfo := b.mp.errInfo }
      ∧ b = { s.blk with mp := b.mp, graph := b.graph, seq := b.seq
                         evc := { s.blk.evc with pend := b.evc.pend }, trace := b.trace })
    ∧ (stepRangeBad m (s.blk.sub seg) i = false → x.blocked s.blk.seq.fault = none → x.fail = none →
      let st := if m.status Status.format tmpl 64 ≠ Status.ok then m.status Status.format tmpl 64
        else if reservedZero (m.wordsAt tmpl 8) = true then Status.ok else Status.format
      x.tasks ≠ [] → st ≠ Status.ok →
      ∃ b, exec (.stepBuild seg i m) s = .next { s with blk := b }
      ∧ (b.sub seg).abandoned = some st
      ∧ b.seq.seqs = x.marked c ∧ b.seq.freeChain = x.freeChain ∧ b.seq.hwm = x.hwm ∧ (b.seqCtx c).used = x.used))
  ∧ (∀ (s : State) (seg i : Nat) (m : MemView), (s.blk.node seg i).kind = 5 → s.blk.gate seg i = .act →
    (s.blk.dom 3).state = .on → s.blk.stepActs (s.blk.sub seg).ctx = false → s.blk.stepStands seg i = false →
    (s.blk.building = true ∨ (∃ e, s.blk.buildLine.head? = some e ∧ e ≠ (seg, i, 0))
      ∨ (s.blk.buildLine = [] ∧ s.blk.seq.cmds ≠ [])) →
    ∃ b, exec (.stepBuild seg i m) s = .next { s with blk := b }
      ∧ s.blk.buildLine <+: b.seq.line ∧ (∃ k, (seg, i, k) ∈ b.seq.line)
      ∧ b = { s.blk with seq := { s.blk.seq with line := b.seq.line } })
  ∧ (∀ (s : State) (seg i : Nat) (m : MemView), s.blk.gate seg i = .act → (s.blk.dom 3).state = .on →
    (s.blk.stepActs (s.blk.sub seg).ctx = true ∨ s.blk.stepStands seg i = true) →
    exec (.stepBuild seg i m) s = .next s)
  ∧ (∀ (s : State) (seg i k : Nat) (m : MemView) (st : Status), (s.blk.node seg i).kind = 5 →
    s.blk.acting seg i 5 = true → (s.blk.node seg i).built = some (st, k) →
    s.blk.mp.writesFor (fun w => w == .workList seg i || w == .linkArray seg i) = false →
    s.blk.pgFull s.params = false → k ≤ stepIndex m (s.blk.sub seg) i →
    i < stepIndex m (s.blk.sub seg) i + 1 - k →
    let r := readStep m (s.blk.node seg i).record
    let t := (s.blk.sub seg).record r.tmpl
    ∃ b, exec (.stepBuild seg i m) s = .next { s with blk := b }
      ∧ b.node seg i = { s.blk.node seg i with built := none, own := some st, left := k }
      ∧ (b.sub seg).known = (s.blk.sub seg).known + (List.range k).countP (fun j =>
          !((s.blk.sub seg).ended.contains (stepIndex m (s.blk.sub seg) i - j)
            || (s.blk.node seg (stepIndex m (s.blk.sub seg) i - j)).used))
      ∧ (∀ j, j < k → (b.node seg (stepIndex m (s.blk.sub seg) i - j)).used = true
          ∧ (b.node seg (stepIndex m (s.blk.sub seg) i - j)).state = .ready
          ∧ (b.node seg (stepIndex m (s.blk.sub seg) i - j)).kind = recKind m t
          ∧ (b.node seg (stepIndex m (s.blk.sub seg) i - j)).param = r.wl + 64 + 32 * r.cap + 64 * j
          ∧ (b.node seg (stepIndex m (s.blk.sub seg) i - j)).parent = some i
          ∧ (b.node seg (stepIndex m (s.blk.sub seg) i - j)).order = s.blk.graph.readyNext + j)
      ∧ (∀ k, k ≠ seg → b.sub k = s.blk.sub k) ∧ b = { s.blk with graph := b.graph })
  ∧ ∀ (s : State) (seg i : Nat) (m : MemView) (st : Status), s.blk.acting seg i 5 = true →
    (s.blk.node seg i).own = some st → (s.blk.node seg i).left = 0 → EdgesReach s.params s.blk m seg i →
    let out := (s.blk.node seg i).outcome.getD 0
    let fin := if isFailure st = true then st else if isFailure out = true then out else st
    fin ≠ Status.aborted →
    ∃ b, exec (.stepRetire seg i m) s = .next { s with blk := b } ∧ NodeEnds s.params m s.blk b seg i fin false
      ∧ (∀ wl k, (s.blk.node seg i).wl = some (wl, k) →
          b.seqCtx (s.blk.sub seg).ctx = { s.blk.seqCtx (s.blk.sub seg).ctx with lastWl := wl, lastN := k })
      ∧ (∀ k, k ≠ (s.blk.sub seg).ctx → b.seqCtx k = s.blk.seqCtx k)
      ∧ b = { s.blk with mp := { s.blk.mp with errAddr := b.mp.errAddr, errInfo := b.mp.errInfo }
                         lanes := b.lanes, graph := b.graph, fences := b.fences
                         seq := { s.blk.seq with ctxs := b.seq.ctxs }
                         evc := { s.blk.evc with pend := b.evc.pend }, trace := b.trace })

/-- R358 to R360, R363, R364, R367, R371: how a completion is delivered. A queue in ACTIVE with room writes the PAD
that the ring needs and the record; without room as far as it knows it reads HEAD, and after a fresh HEAD it falls
back with REASON 1, or waits 64 hc for the next reading; a queue whose host is down, or whose HEAD is bad, becomes
unreachable: FALLBACK with REASON 2, or FAULT with its event. A queue that leaves ACTIVE discards the FOREIGN records
that it holds, and one that has no room for a FOREIGN record discards it (R369). While the read of a RESUME is
outstanding delivery waits. A queue in FALLBACK sends the record to its peer. R365, R382: ENABLE of a DISABLED queue
of legal size, while a Setting is in force, reads HEAD and writes it to TAIL; DISABLE of one with no completion held,
and none of whose software queues is enabled, leaves it DISABLED; RESUME of one in FALLBACK or FAULT whose host is not
down makes it ACTIVE and reads HEAD; any other command sets CMD_REJ. LNK_CQ_CFG is written while the queue is
DISABLED; in any other state only HOST_DOWN is. Some clauses also rest on the model's choices of logs 23, 24, 71, 120,
138 and 139. -/
def Obligations.CompletionsAndTheirQueues : Prop :=
  ((∀ (s : State) (c : Nat) (y : Comp) (r : List Comp), (s.blk.cq c).held = y :: r → (s.blk.cq c).stage = .idle →
    (s.blk.cq c).state = .active → (s.blk.cq c).resuming = false →
    let x := s.blk.cq c
    let k := x.pad y.units
    let own := x.held.filter fun y => y.foreign.isNone
    let lost := (x.held.filter fun y => y.foreign.isSome).length
    ((x.hostDown = true ∨ x.headBad = true) → c < 4096 → ∃ b, exec (.completionDelivery c) s = .next { s with blk := b }
      ∧ b.cq c = { x with
          stage := .idle, freshHead := false, reason := 2, err := if x.hostDown = true then 3 else 2, held := own
          state := if x.fbEn = true then .fallback else .fault }
      ∧ (∀ j, j ≠ c → b.cq j = s.blk.cq j)
      ∧ (x.fbEn = false → b.evc.pends (896 + c / 64) = true)
      ∧ (0 < lost → b.evc.pends 8 = true ∧ b.link.fbLost = satAdd 16 s.blk.link.fbLost lost)
      ∧ (lost = 0 → b.link = s.blk.link)
      ∧ b = { s.blk with mp := b.mp, cqs := b.cqs, link := { s.blk.link with fbLost := b.link.fbLost }
                         evc := { s.blk.evc with pend := b.evc.pend }, trace := b.trace, lkt := b.lkt })
    ∧ (x.hostDown = false → x.headBad = false → x.fits y.units = true →
      ∃ b n, exec (.completionDelivery c) s = .next { s with blk := b }
      ∧ b.cq c = { x with stage := .records (y.units + k) n } ∧ (∀ j, j ≠ c → b.cq j = s.blk.cq j)
      ∧ b.mp = (Block.put (if k = 0 then s.blk else s.blk.put 63 2 (x.ringAddr + 64 * (x.tail % x.size))
            (wordsBytes (packW [(0xF, 4, 60), (k, 8, 52)] :: List.replicate (8 * k - 1) 0)) (.cqRecord c))
          63 2 (x.ringAddr + 64 * ((x.tail + k) % x.size)) (wordsBytes (y.record x.cseq)) (.cqRecord c)).mp
      ∧ b = { s.blk with mp := b.mp, cqs := b.cqs })
    ∧ (x.hostDown = false → x.headBad = false → x.fits y.units = false → x.freshHead = false →
      ∃ b, exec (.completionDelivery c) s = .next { s with blk := b }
      ∧ b.cq c = { x with stage := .headRead } ∧ (∀ j, j ≠ c → b.cq j = s.blk.cq j)
      ∧ b.mp = s.blk.mp.ask 63 2 x.ccbAddr 4 (.cqHead c) ∧ b = { s.blk with mp := b.mp, cqs := b.cqs })
    ∧ (x.hostDown = false → x.headBad = false → x.fits y.units = false → x.freshHead = true → y.foreign = none →
      ∃ b, exec (.completionDelivery c) s = .next { s with blk := b }
      ∧ b.cq c = (if x.fbEn = true then { x with freshHead := false, reason := 1, state := .fallback, held := own }
          else { x with freshHead := false, state := .wait, interval := 64, held := own })
      ∧ (∀ j, j ≠ c → b.cq j = s.blk.cq j)
      ∧ (0 < lost → b.evc.pends 8 = true ∧ b.link.fbLost = satAdd 16 s.blk.link.fbLost lost)
      ∧ (lost = 0 → b.link = s.blk.link)
      ∧ b = { s.blk with cqs := b.cqs, link := { s.blk.link with fbLost := b.link.fbLost }
                         evc := { s.blk.evc with pend := b.evc.pend }, trace := b.trace })
    ∧ (x.hostDown = false → x.headBad = false → x.fits y.units = false → x.freshHead = true → y.foreign ≠ none →
      ∃ b, exec (.completionDelivery c) s = .next { s with blk := b }
      ∧ b.cq c = { x with freshHead := false, held := r } ∧ (∀ j, j ≠ c → b.cq j = s.blk.cq j)
      ∧ b.evc.pends 8 = true
      ∧ b = { s.blk with cqs := b.cqs, link := { s.blk.link with fbLost := satAdd 16 s.blk.link.fbLost 1 }
                         evc := { s.blk.evc with pend := b.evc.pend }, trace := b.trace }))
  ∧ (∀ (s : State) (c : Nat), ((s.blk.cq c).held = [] ∨ (s.blk.cq c).stage ≠ .idle ∨ (s.blk.cq c).resuming = true) →
    exec (.completionDelivery c) s = .next s)
  ∧ (∀ (s : State) (c : Nat), (s.blk.cq c).state = .wait → (s.blk.cq c).stage = .idle →
    (s.blk.cq c).hostDown = false → ∃ b, exec (.cqHeadReread c) s = .next { s with blk := b }
      ∧ b.cq c = { s.blk.cq c with stage := .headRead } ∧ (∀ j, j ≠ c → b.cq j = s.blk.cq j)
      ∧ b.mp = s.blk.mp.ask 63 2 (s.blk.cq c).ccbAddr 4 (.cqHead c) ∧ b = { s.blk with mp := b.mp, cqs := b.cqs })
  ∧ (∀ (s : State) (c : Nat), (s.blk.cq c).state = .wait → (s.blk.cq c).stage = .idle →
    (s.blk.cq c).hostDown = true → ∃ b, exec (.cqHeadReread c) s = .next { s with blk := b }
      ∧ (b.cq c).state = (if (s.blk.cq c).fbEn = true then .fallback else .fault) ∧ (b.cq c).err = 3
      ∧ (∀ j, j ≠ c → b.cq j = s.blk.cq j))
  ∧ ∀ (s : State) (c k : Nat) (y : Comp) (r : List Comp), (s.blk.cq c).held = y :: r → (s.blk.cq c).stage = .idle →
    (s.blk.cq c).state = .fallback → y.foreign = none → s.blk.link.en = true →
    (s.blk.peer (s.blk.cq c).fbPeer).valid = true → (s.blk.peer (s.blk.cq c).fbPeer).state = .up →
    s.blk.peerFor (s.blk.peer (s.blk.cq c).fbPeer).peer = some k → (s.blk.peer k).state = .up →
    s.blk.link.txq.length < 64 → (s.blk.dom 6).state = .on →
    ∃ b, exec (.fallbackSend c) s = .next { s with blk := b }
      ∧ (s.blk.link.sending ≠ none → b.link.sending = s.blk.link.sending)
      ∧ b.link = { s.blk.link with sending := b.link.sending, txq := s.blk.link.txq ++ [{
          words := completionPacket (s.blk.peer k).rev (s.blk.peer k).peer s.blk.link.self c (s.blk.cq c).reason
            (y.record (s.blk.cq c).cseq)
          link := (s.blk.peer k).link, peer := k, by' := .completion c }] }
      ∧ b.cq c = { s.blk.cq c with stage := .sending } ∧ (∀ j, j ≠ c → b.cq j = s.blk.cq j)
      ∧ b = { s.blk with cqs := b.cqs, link := b.link })
  ∧ ((∀ (s : State) (a : Acc) (c : Nat), Performs s a (.cqCmd c) true →
    let x := s.blk.cq c
    let rej := s.wrote (.cqCmd c) (s.blk.modCq c fun x => { x with cmdRej := true })
    let may := (s.blk.loader.state = .active ∨ s.blk.loader.state = .patching) ∧ x.state = .disabled ∧ 6 ≤ x.log2sz
      ∧ x.log2sz ≤ 20 ∧ x.stage ≠ .enabling
    let idle := x.stage ≠ .enabling ∧ x.held = [] ∧ ∀ t, t ∈ s.blk.front.queues → t.2.cq ≠ c ∨ t.2.state = .disabled
    let down := (x.state = .fallback ∨ x.state = .fault) ∧ x.hostDown = false
    (may → ∃ b, exec (.cqEnable a c) s = .next (s.wrote (.cqCmd c) b)
      ∧ b.cq c = { x with stage := .enabling, cmdRej := false } ∧ (∀ j, j ≠ c → b.cq j = s.blk.cq j)
      ∧ b.mp = s.blk.mp.ask 63 2 x.ccbAddr 4 (.cqEnableHead c) ∧ b = { s.blk with mp := b.mp, cqs := b.cqs })
    ∧ (¬ may → exec (.cqEnable a c) s = .next rej)
    ∧ (idle → ∃ b, exec (.cqDisable a c) s = .next (s.wrote (.cqCmd c) b)
      ∧ b.cq c = { x with state := .disabled, stage := .idle, resuming := false, cmdRej := false } ∧ (∀ j, j ≠ c → b.cq j = s.blk.cq j)
      ∧ b = { s.blk with mp := s.blk.mp.scrapCq c, cqs := b.cqs })
    ∧ (¬ idle → exec (.cqDisable a c) s = .next rej)
    ∧ (down → ∃ b, exec (.cqResume a c) s = .next (s.wrote (.cqCmd c) b)
      ∧ b.cq c = { x with
          state := .active, err := 0, cmdRej := false, resuming := true }
      ∧ (∀ j, j ≠ c → b.cq j = s.blk.cq j)
      ∧ b.mp = s.blk.mp.ask 63 2 x.ccbAddr 4 (.cqHead c) ∧ b = { s.blk with mp := b.mp, cqs := b.cqs })
    ∧ (¬ down → exec (.cqResume a c) s = .next rej)
    ∧ (∀ op : BitVec 3, op ≠ 1 → op ≠ 2 → op ≠ 3 → exec (.cqCmdInvalid a c op) s = .next rej))
  ∧ ∀ (s : State) (a : Acc) (c : Nat) (d : BitVec 32), Performs s a (.cqCfg c) true →
    let x := s.blk.cq c
    let free := x.state = .disabled ∧ x.stage ≠ .enabling
    (free → exec (.cqCfgWrite a c d) s = .next (s.wrote (.cqCfg c) (s.blk.modCq c fun x => { x with
      cfg := d &&& 0xFFF8FF00#32 })))
    ∧ (¬ free → ∃ v, exec (.cqCfgWrite a c d) s = .next (s.wrote (.cqCfg c) (s.blk.modCq c fun x => { x with
        cfg := v, cmdRej := x.cmdRej || decide (v ≠ d &&& 0xFFF8FF00#32) }))
      ∧ (∀ i, i < 32 → v.getLsbD i = if i = 29 then d.getLsbD 29 else x.cfg.getLsbD i)))

/-- R370 to R373, R382: peers. When a link comes up, each VALID entry on it says HELLO and is HELLO_SENT, and says it
again until it is answered; when the link goes down its entries are DOWN, and a packet that was started on it is sent
again in full (whether it counts in CUT the model draws, log 25). A HELLO from a peer leaves each VALID entry for it
UP with the lower of both revisions, or INCOMPAT, and is answered unless it is an answer. A write of LNK_PEER sets the
entry anew. Some clauses also rest on the model's choices of logs 26 and 120. -/
def Obligations.PeersSayHello : Prop :=
  (∀ (s : State) (l : BitVec 4), s.blk.link.up.getLsbD l.toNat = false → l.toNat < s.params.links →
    Tab.wf {} s.blk.link.peers = true →
    ∃ b, exec (.linkUpRise l) s = .next { s with blk := b }
      ∧ (∀ k, k < 16 → b.link.up.getLsbD k = if k = l.toNat then true else s.blk.link.up.getLsbD k)
      ∧ (∀ e, b.peer e = if s.blk.link.en = true ∧ (s.blk.peer e).valid = true ∧ (s.blk.peer e).link = l.toNat
          then { s.blk.peer e with state := .helloSent } else s.blk.peer e)
      ∧ b.link.hellos = s.blk.link.hellos ++ (if s.blk.link.en = true then (s.blk.entriesOn l.toNat).map fun e =>
          { words := helloPacket s.params (s.blk.peer e).peer s.blk.link.self false, link := l.toNat, peer := e,
            by' := .hello } else [])
      ∧ (s.blk.link.sending ≠ none → b.link.sending = s.blk.link.sending)
      ∧ b = { s.blk with link := { s.blk.link with
                up := b.link.up, peers := b.link.peers, hellos := b.link.hellos, sending := b.link.sending } })
  ∧ (∀ (s : State) (l : BitVec 4), s.blk.link.up.getLsbD l.toNat = true → Tab.wf {} s.blk.link.peers = true →
    ∃ b, exec (.linkUpFall l) s = .next { s with blk := b }
      ∧ (∀ k, k < 16 → b.link.up.getLsbD k = if k = l.toNat then false else s.blk.link.up.getLsbD k)
      ∧ (∀ e, b.peer e = if (s.blk.peer e).valid = true ∧ (s.blk.peer e).link = l.toNat
          then { s.blk.peer e with state := .down } else s.blk.peer e)
      ∧ (b.link.cut = s.blk.link.cut ∨ b.link.cut = satAdd 16 s.blk.link.cut 1)
      ∧ ((∀ t, s.blk.link.sending = some t → t.2 ≠ l.toNat) → b.link.cut = s.blk.link.cut ∧ b.free = s.blk.free)
      ∧ (∀ t, b.link.sending = some t → t.2 ≠ l.toNat ∨ s.blk.link.sending ≠ some t)
      ∧ b = { s.blk with free := b.free, link := { s.blk.link with
                up := b.link.up, peers := b.link.peers, cut := b.link.cut, sending := b.link.sending } })
  ∧ (∀ (s : State) (e : Nat), (s.blk.peer e).valid = true → (s.blk.peer e).state = .helloSent →
    s.blk.link.en = true → s.blk.linkIsUp (s.blk.peer e).link = true →
    ∃ b, exec (.helloRetryTimer e) s = .next { s with blk := b }
      ∧ b = { s.blk with link := { s.blk.link with
          sending := b.link.sending
          hellos := s.blk.link.hellos ++ [{
            words := helloPacket s.params (s.blk.peer e).peer s.blk.link.self false, link := (s.blk.peer e).link
            peer := e, by' := .hello }] } }
      ∧ (s.blk.link.sending ≠ none → b.link.sending = s.blk.link.sending))
  ∧ (∀ (s : State) (x : Packet) (i : Instr), (i = .hello x ∨ i = .packetReceived x) → x.type = 3 →
    x.valid s.params s.blk.link.self = true → s.blk.halted = false → s.blk.remoteTurns < 256 →
    s.blk.link.en = true → (s.blk.dom 6).state = .on → s.blk.link.poisons = [] → Tab.wf {} s.blk.link.peers = true →
    let rev := min (lpRev s.params) (fld (x.w 1) 7 0)
    ∃ b, exec i s = .next { s with blk := b }
      ∧ (∀ e, b.peer e = if (s.blk.peer e).valid = true ∧ (s.blk.peer e).peer = x.src then
          (if max 0x10 (fld (x.w 1) 15 8) ≤ rev then { s.blk.peer e with rev := rev, state := .up }
            else { s.blk.peer e with state := .incompat })
          else s.blk.peer e)
      ∧ b.link.hellos = s.blk.link.hellos ++ (if bit (x.w 1) 16 = true then [] else [{
          words := helloPacket s.params x.src s.blk.link.self true, link := x.link.toNat
          peer := (s.blk.peerFor x.src).getD 0, by' := .hello }])
      ∧ b = { s.blk with link := { s.blk.link with
                peers := b.link.peers, hellos := b.link.hellos, sending := b.link.sending }
                         evc := { s.blk.evc with pend := b.evc.pend }, trace := b.trace })
  ∧ (∀ (s : State) (a : Acc) (e : Nat) (d : Word), Performs s a (.lnkPeer e) true →
    (s.blk.peer e).valid = true → bit d 63 = false → s.blk.link.poisons = [] →
    ∃ b, exec (.peerEntryWrite a e d) s = .next (s.wrote (.lnkPeer e) b)
      ∧ b.peer e = { s.blk.peer e with
          valid := false, accept := bit d 62, link := fld d 35 32, peer := fld d 19 0, state := .down }
      ∧ (∀ j, j ≠ e → b.peer j = s.blk.peer j)
      ∧ (∀ seg i, (s.blk.node seg i).used = true → b.node seg i = if (s.blk.node seg i).kind = 4 ∧ (s.blk.node seg i).state = .acting
            ∧ (s.blk.node seg i).peer = some (s.blk.peer e).peer ∧ (s.blk.node seg i).busy = false
          then { s.blk.node seg i with outcome := some Status.mismatch } else s.blk.node seg i)
      ∧ b = { s.blk with graph := b.graph, link := { s.blk.link with peers := b.link.peers } })
  ∧ ∀ (s : State) (a : Acc) (e : Nat) (d : Word), Performs s a (.lnkPeer e) true →
    ((s.blk.peer e).valid = false ∨ bit d 63 = true) →
    let up := bit d 63 = true ∧ s.blk.link.en = true ∧ s.blk.linkIsUp (fld d 35 32) = true
    ∃ b, exec (.peerEntryWrite a e d) s = .next (s.wrote (.lnkPeer e) b)
      ∧ b.peer e = { s.blk.peer e with
          valid := bit d 63, accept := bit d 62, link := fld d 35 32, peer := fld d 19 0
          state := if up then .helloSent else .down }
      ∧ (∀ j, j ≠ e → b.peer j = s.blk.peer j)
      ∧ b.link.hellos = s.blk.link.hellos ++ (if up then [{
          words := helloPacket s.params (fld d 19 0) s.blk.link.self false, link := fld d 35 32, peer := e,
          by' := .hello }] else [])
      ∧ b = { s.blk with link := { s.blk.link with
                peers := b.link.peers, hellos := b.link.hellos, sending := b.link.sending } }

/-- R369 to R371, R375 to R378: packets. One that R375 does not accept is counted in RX_BAD and does nothing else, and
while EN is 0 none is taken at all; a SIGNAL from a peer without ACCEPT is counted in DENIED, one whose handle fails
in STALE, and one for the generation after GEN ends it, with its quantity and unit; a COMPLETION stands behind the
held completions of FB_CQ, or is lost. A packet that has been transmitted leaves the queue, is counted, and lets its
SIGNAL node retire, but no node of a later submission of the same number. Some clauses also rest on the model's
choices of logs 25, 119, 137 and 141. -/
def Obligations.PacketsTakeEffect : Prop :=
  (∀ (s : State) (x : Packet) (i : Instr), (i = .packetReceived x ∨ (i = .signal x ∧ x.type = 1)
      ∨ (i = .completion x ∧ x.type = 2) ∨ (i = .hello x ∧ x.type = 3)) →
    (s.blk.link.en = false → exec i s = .next s)
    ∧ (s.blk.halted = false → s.blk.remoteTurns < 256 → s.blk.link.en = true → (s.blk.dom 6).state = .on →
      x.valid s.params s.blk.link.self = false → exec i s = .next { s with blk := { s.blk with
        link := { s.blk.link with rxBad := satAdd 16 s.blk.link.rxBad 1 } } }))
  ∧ (∀ (s : State) (x : Packet) (i : Instr), (i = .signal x ∨ i = .packetReceived x) → x.type = 1 →
    x.valid s.params s.blk.link.self = true → s.blk.halted = false → s.blk.remoteTurns < 256 →
    s.blk.link.en = true → (s.blk.dom 6).state = .on → Tab.wf {} s.blk.link.peers = true →
    let h : Handle := BitVec.ofNat 32 (fld (x.w 1) 31 0)
    let k := handleIndex h
    let ok := ∃ e, (s.blk.peer e).valid = true ∧ (s.blk.peer e).peer = x.src ∧ (s.blk.peer e).accept = true
    (¬ ok → ∃ b, exec i s = .next { s with blk := b }
      ∧ b.link = { s.blk.link with denied := satAdd 16 s.blk.link.denied 1, peers := b.link.peers }
      ∧ b = { s.blk with link := b.link, evc := { s.blk.evc with pend := b.evc.pend }, trace := b.trace })
    ∧ (ok → fld (x.w 1) 39 32 = 0 → handleOk (s.blk.fence k) (handleGen h) true true 0 = true →
      (s.blk.fence k).ended (handleGen h) = false → (s.blk.fence k).gen + 1 = handleGen h →
      (∀ t, t ∈ s.blk.fences.turns → t.fence ≠ k) → ∃ b, exec i s = .next { s with blk := b }
      ∧ b.fence k = { s.blk.fence k with gen := handleGen h, quantity := fld (x.w 2) 47 0, unit := bit (x.w 1) 40 }
      ∧ (∀ j, j ≠ k → b.fence j = s.blk.fence j)
      ∧ (∀ w, w ∈ s.blk.fences.waits → w.fence = k → w.gen = handleGen h →
          (b.node w.seg w.index).outcome = some Status.ok
          ∧ (b.node w.seg w.index).quantity = some (fld (x.w 2) 47 0))
      ∧ b = { s.blk with graph := b.graph, fences := b.fences, link := { s.blk.link with peers := b.link.peers }
                         evc := { s.blk.evc with pend := b.evc.pend }, trace := b.trace })
    ∧ (ok → fld (x.w 1) 39 32 = 0 → (handleOk (s.blk.fence k) (handleGen h) true true 0 = false
        ∨ (s.blk.fence k).ended (handleGen h) = true) → ∃ b, exec i s = .next { s with blk := b }
      ∧ b.link = { s.blk.link with stale := satAdd 16 s.blk.link.stale 1, peers := b.link.peers }
      ∧ b = { s.blk with link := b.link, evc := { s.blk.evc with pend := b.evc.pend }, trace := b.trace }))
  ∧ (∀ (s : State) (x : Packet) (i : Instr), (i = .completion x ∨ i = .packetReceived x) → x.type = 2 →
    x.valid s.params s.blk.link.self = true → s.blk.halted = false → s.blk.remoteTurns < 256 →
    s.blk.link.en = true → (s.blk.dom 6).state = .on →
    let c := s.blk.link.fbCq
    ((s.blk.cq c).state = .active → ∃ b y, exec i s = .next { s with blk := b }
      ∧ (b.cq c).held = (s.blk.cq c).held ++ [y] ∧ y.foreign = some (foreignRecord x)
      ∧ (∀ j, j ≠ c → b.cq j = s.blk.cq j)
      ∧ b = { s.blk with cqs := b.cqs, link := { s.blk.link with peers := b.link.peers }
                         evc := { s.blk.evc with pend := b.evc.pend }, trace := b.trace })
    ∧ ((s.blk.cq c).state ≠ .active → ∃ b, exec i s = .next { s with blk := b }
      ∧ b.link.fbLost = satAdd 16 s.blk.link.fbLost 1 ∧ b.evc.pends 8 = true ∧ b.cqs = s.blk.cqs))
  ∧ (∀ (s : State), s.blk.link.sending = none → s.blk.nextPacket = none → exec .packetTransmitted s = .next s)
  ∧ (∀ (s : State) (x : TxPacket) (l : Nat),
    (s.blk.link.sending = some (x, l) ∨ s.blk.link.sending = none ∧ s.blk.nextPacket = some x) →
    s.blk.link.poisons = [] →
    (x.by' = .hello → ∃ b, exec .packetTransmitted s = .next { s with blk := b }
      ∧ b.link = { s.blk.link with
          txq := s.blk.link.txq.erase x, hellos := s.blk.link.hellos.erase x, sending := b.link.sending }
      ∧ b = { s.blk with link := b.link, evc := { s.blk.evc with pend := b.evc.pend }, trace := b.trace })
    ∧ (∀ seg g i e, x.by' = .signalNode seg g i → s.blk.txEntry x = some e → tget 0 s.blk.graph.sgen seg = g →
      ∃ b, exec .packetTransmitted s = .next { s with blk := b }
      ∧ b.node seg i = { s.blk.node seg i with outcome := some Status.ok, busy := false }
      ∧ b.peer e = { s.blk.peer e with tx := wrapAdd 32 (s.blk.peer e).tx 1 }
      ∧ (∀ j, j ≠ e → b.peer j = s.blk.peer j)
      ∧ b.link.txq = s.blk.link.txq.erase x
      ∧ b = { s.blk with graph := b.graph, link := { s.blk.link with
                txq := b.link.txq, hellos := s.blk.link.hellos.erase x, peers := b.link.peers
                sending := b.link.sending }
                         evc := { s.blk.evc with pend := b.evc.pend }, trace := b.trace })
    ∧ (∀ seg g i, x.by' = .signalNode seg g i → tget 0 s.blk.graph.sgen seg ≠ g →
      ∃ b, exec .packetTransmitted s = .next { s with blk := b }
      ∧ b.link.txq = s.blk.link.txq.erase x
      ∧ b = { s.blk with link := { s.blk.link with
                txq := b.link.txq, hellos := s.blk.link.hellos.erase x, peers := b.link.peers
                sending := b.link.sending }
                         evc := { s.blk.evc with pend := b.evc.pend }, trace := b.trace })
    ∧ (∀ e, x.by' = .poison → s.blk.txEntry x = some e → ∃ b, exec .packetTransmitted s = .next { s with blk := b }
      ∧ b.peer e = { s.blk.peer e with tx := wrapAdd 32 (s.blk.peer e).tx 1 }
      ∧ (∀ j, j ≠ e → b.peer j = s.blk.peer j)
      ∧ b = { s.blk with link := { s.blk.link with
                txq := s.blk.link.txq.erase x, hellos := s.blk.link.hellos.erase x, peers := b.link.peers
                sending := b.link.sending }
                         evc := { s.blk.evc with pend := b.evc.pend }, trace := b.trace })
    ∧ ∀ c y r, x.by' = .completion c → (s.blk.cq c).stage = .sending → (s.blk.cq c).held = y :: r →
      ∃ b, exec .packetTransmitted s = .next { s with blk := b }
      ∧ b.cq c = { s.blk.cq c with
          stage := .idle, freshHead := false, held := r, fbcnt := satAdd 16 (s.blk.cq c).fbcnt 1
          cseq := if y.foreign = none then wrapAdd 32 (s.blk.cq c).cseq 1 else (s.blk.cq c).cseq }
      ∧ (∀ k, k ≠ c → b.cq k = s.blk.cq k)
      ∧ b.link.txq = s.blk.link.txq.erase x
      ∧ ((s.blk.cq c).ien = true → b.evc.pends (512 + (s.blk.cq c).notify) = true)
      ∧ (∀ g, y.seg = some g → y.foreign = none → b.sub g = {}))
  ∧ (∀ (s : State) (a : Acc) (d : Word), Performs s a .lnkSelf true →
    (((s.blk.dom 6).state = .on ∨ bit d 63 = false) → ∃ b, exec (.selfWrite a d) s = .next (s.wrote .lnkSelf b)
      ∧ (bit d 63 = false → b.link.sending = none)
      ∧ b = { s.blk with link := { s.blk.link with
          en := bit d 63, fbCq := fld d 43 32, self := if s.blk.link.en = true then s.blk.link.self else fld d 19 0
          sending := b.link.sending } })
    ∧ ((s.blk.dom 6).state ≠ .on → bit d 63 = true → exec (.selfWrite a d) s = .next (s.wrote .lnkSelf s.blk)))
  ∧ ∀ (s : State) (a : Acc), Performs s a .lnkTxstat true →
    exec (.clr a) s = .next (s.wrote .lnkTxstat { s.blk with link := { s.blk.link with
      cut := 0, rxBad := 0, denied := 0, stale := 0, fbLost := 0 } })

/-- R386: "A write of FLITS = F to CHN_TX_HDR is handled as follows", with its three cases, W being the words of F
flits; and R387, of CHN_TX_DATA: a flit of the open message is staged, the last closes it, and a flit with no message
open sets SEQERR. -/
def Obligations.ChannelPortsOpenAndStage : Prop :=
  (∀ (s : State) (a : Acc) (n k : Nat) (f : BitVec 7), Performs s a (.chnTxHdr n k) true →
    let t := s.blk.tx n k
    let w := (f.toNat + 3) / 4
    let ok := t.routeV = true ∧ t.opened = false ∧ 1 ≤ f.toNat ∧ f.toNat ≤ 64
    let room := s.blk.stagingUsed s.params n + w ≤ 64
    let on := (s.blk.dom (9 + 2 * n)).state = .on ∧ (s.blk.dom (9 + 2 * t.dbead)).state = .on
    (ok → w ≤ t.credit → room → on →
      exec (.chnTxHdr a n k f) s = .next (s.wrote (.chnTxHdr n k) (s.blk.modTx n k fun t =>
        { t with opened := true, left := f.toNat, credit := t.credit - w, cwait := false, flits := [] })))
    ∧ (ok → ¬ (w ≤ t.credit ∧ room ∧ on) →
      exec (.chnTxHdr a n k f) s = .next (s.wrote (.chnTxHdr n k) (s.blk.modTx n k fun y =>
        { y with
          refused := y.refused || decide (t.credit < w), cwait := y.cwait || decide (t.credit < w),
          busy := y.busy || decide (¬ (room ∧ on)) })))
    ∧ (¬ ok → exec (.chnTxHdr a n k f) s = .next (s.wrote (.chnTxHdr n k) (s.blk.modTx n k fun t =>
        { t with seqerr := true }))))
  ∧ ∀ (s : State) (a : Acc) (n k : Nat) (x : Word), Performs s a (.chnTxData n k) true →
    let t := s.blk.tx n k
    (t.opened = true → t.left ≠ 1 →
      exec (.chnTxData a n k x) s = .next (s.wrote (.chnTxData n k) (s.blk.modTx n k fun t =>
        { t with left := t.left - 1, flits := t.flits ++ [x] })))
    ∧ (t.opened = true → t.left = 1 →
      exec (.chnTxData a n k x) s = .next (s.wrote (.chnTxData n k)
        ((s.blk.modTx n k fun t => { t with opened := false, left := 0, flits := [] }).modChan n fun c =>
          { c with staging := c.staging ++ [{ port := k, flits := t.flits ++ [x] }] })))
    ∧ (t.opened = false →
      exec (.chnTxData a n k x) s = .next (s.wrote (.chnTxData n k) (s.blk.modTx n k fun t =>
        { t with seqerr := true })))

/-- R391, R393 to R396: what a receive queue does on the header of a message, on a flit, on a pop and on a drop. A
header that finds fewer free words than its message needs stores nothing and sets OVERRUN; another opens the message.
The fourth flit of a word, or the last of the message, stores the word, padded with zeros; it becomes readable at the
message's end, or once the cut-through threshold is met; the flits of a message without room are discarded, and the
words of one that is dropped are drained. A pop returns the head word's first quarter and frees the word; of an empty
queue it changes nothing but UNDERRUN. A drop frees the stored words of the rest of the current message, and drains
those to come. Some clauses also rest on the model's choices of logs 38 and 70. -/
def Obligations.ReceiveQueuesStoreAndPop : Prop :=
  (∀ (s : State) (n : Nat) (q f : BitVec 7) (b0 : Block), FlitsReach s.params s.blk n q.toNat f.toNat [] b0 → f ≠ 0 →
    (s.blk.rx n q.toNat).openF = 0 → (s.blk.rx n q.toNat).discard = 0 →
    ∃ b, exec (.chn false n q 0 f []) s = .next { s with blk := b }
      ∧ b.rx n q.toNat = (if 64 - (s.blk.rx n q.toNat).stored < (f.toNat + 3) / 4
          then { s.blk.rx n q.toNat with overrun := true, discard := f.toNat }
          else { s.blk.rx n q.toNat with openF := f.toNat, got := 0, mstart := (s.blk.rx n q.toNat).wp, part := [] })
      ∧ (∀ n' q', ¬ (n' = n ∧ q' = q.toNat) → b.rx n' q' = s.blk.rx n' q')
      ∧ b = { s.blk with lanes := b0.lanes, chans := b.chans, lkt := b.lkt })
  ∧ (∀ (s : State) (n : Nat) (q : BitVec 7) (x : Word) (b0 : Block), FlitsReach s.params s.blk n q.toNat 0 [x] b0 →
    let y := s.blk.rx n q.toNat
    ∃ b, exec (.chn false n q 0 0 [x]) s = .next { s with blk := b }
      ∧ (y.discard ≠ 0 → b.rx n q.toNat = { y with discard := y.discard - 1 })
      ∧ (y.discard = 0 → y.openF = 0 → b.rx n q.toNat = y)
      ∧ (y.discard = 0 → y.openF ≠ 0 → y.part.length < 3 → y.got + 1 ≠ y.openF →
          b.rx n q.toNat = { y with part := y.part ++ [x], got := y.got + 1 })
      ∧ (y.discard = 0 → y.openF ≠ 0 → (y.part.length = 3 ∨ y.got + 1 = y.openF) → y.drain = true →
          b.rx n q.toNat = { y with
            part := [], got := y.got + 1, unreturned := y.unreturned + 1, drain := decide (y.got + 1 ≠ y.openF)
            openF := if y.got + 1 = y.openF then 0 else y.openF
            capOpen := y.capOpen && decide (y.got + 1 ≠ y.openF) })
      ∧ (y.discard = 0 → y.openF ≠ 0 → (y.part.length = 3 ∨ y.got + 1 = y.openF) → y.drain = false →
          b.rx n q.toNat = { y with
            part := [], got := y.got + 1, wp := (y.wp + 1) % 128, words := (b.rx n q.toNat).words
            vp := if y.got + 1 = y.openF ∨ (y.thresh ≠ 0 ∧ y.thresh ≤ ptrDiff ((y.wp + 1) % 128) y.mstart)
                  then (y.wp + 1) % 128 else y.vp
            openF := if y.got + 1 = y.openF then 0 else y.openF
            capOpen := y.capOpen && decide (y.got + 1 ≠ y.openF) }
          ∧ ((b.rx n q.toNat).word y.wp).quarters = y.part ++ [x] ++ List.replicate (3 - y.part.length) 0
          ∧ (((b.rx n q.toNat).word y.wp).first = true ↔ y.wp = y.mstart)
          ∧ (((b.rx n q.toNat).word y.wp).last = true ↔ y.got + 1 = y.openF)
          ∧ ((b.rx n q.toNat).word y.wp).vb = 8 * (y.part.length + 1)
          ∧ ∀ k, k % 64 ≠ y.wp % 64 → (b.rx n q.toNat).word k = y.word k)
      ∧ (∀ n' q', ¬ (n' = n ∧ q' = q.toNat) → b.rx n' q' = s.blk.rx n' q')
      ∧ b = { s.blk with lanes := b0.lanes, chans := b.chans, lkt := b.lkt, front := b.front })
  ∧ (∀ (s : State) (a : Acc) (n q : Nat), Performs s a (.chnRd n q 0) false → (s.blk.rx n q).count ≠ 0 →
    ((s.blk.rx n q).word (s.blk.rx n q).rp).bad = false →
    ∃ b, exec (.chnPop a n q) s = .next (State.respond { s with blk := b } .ok
        ((((s.blk.rx n q).word (s.blk.rx n q).rp).quarters[0]?).getD 0))
      ∧ (b.rx n q).captured = (s.blk.rx n q).word (s.blk.rx n q).rp
      ∧ (b.rx n q).rp = ((s.blk.rx n q).rp + 1) % 128
      ∧ (b.rx n q).unreturned = (s.blk.rx n q).unreturned + 1
      ∧ (b.rx n q).wp = (s.blk.rx n q).wp ∧ (b.rx n q).vp = (s.blk.rx n q).vp
      ∧ (b.rx n q).words = (s.blk.rx n q).words
      ∧ (∀ n' q', ¬ (n' = n ∧ q' = q) → b.rx n' q' = s.blk.rx n' q')
      ∧ b = { s.blk with chans := b.chans, lkt := b.lkt, front := b.front })
  ∧ (∀ (s : State) (a : Acc) (n q : Nat), Performs s a (.chnRd n q 0) false → (s.blk.rx n q).count = 0 →
    ∃ b, exec (.chnPop a n q) s = .next (State.respond { s with blk := b } .ok
        (((s.blk.rx n q).captured.quarters[0]?).getD 0))
      ∧ b.rx n q = { s.blk.rx n q with underrun := true }
      ∧ (∀ n' q', ¬ (n' = n ∧ q' = q) → b.rx n' q' = s.blk.rx n' q')
      ∧ b = { s.blk with chans := b.chans, lkt := b.lkt })
  ∧ ∀ (s : State) (a : Acc) (n q : Nat), Performs s a (.chnCmd n q) true →
    let y := s.blk.rx n q
    let reading := y.everCaptured = true ∧ y.captured.last = false
    (¬ reading → y.stored = 0 → y.openF = 0 → exec (.drop a n q) s = .next (s.wrote (.chnCmd n q) s.blk))
    ∧ ((reading ∨ y.stored ≠ 0 ∨ y.openF ≠ 0) → ∃ b m, exec (.drop a n q) s = .next (s.wrote (.chnCmd n q) b)
        ∧ y.Rest (decide (¬ reading)) m
        ∧ b.rx n q = { y with
            rp := (y.rp + m) % 128, vp := if y.count < m then (y.rp + m) % 128 else y.vp
            unreturned := y.unreturned + m, drain := (b.rx n q).drain }
        ∧ (reading → ((b.rx n q).drain = true ↔ (y.drain = true ∨ y.capOpen = true)))
        ∧ (¬ reading → ((b.rx n q).drain = true ↔ (y.drain = true
            ∨ (y.openF ≠ 0 ∧ ¬ (m ≠ 0 ∧ (y.word ((y.rp + (m - 1)) % 128)).last = true)))))
        ∧ (∀ n' q', ¬ (n' = n ∧ q' = q) → b.rx n' q' = s.blk.rx n' q')
        ∧ b = { s.blk with chans := b.chans, lkt := b.lkt, front := b.front })

/-- R66, R388, R397, R398, R400, R426: closed messages leave in the order in which they closed, inside the Bead or as
a CHN message up its lane, which the Clasp sends down the receiving Bead's; the staging words of a message stay in use
until its last flit leaves the Bead; a receive queue returns its unreturned words inside the Bead or as a CREDIT,
which the Clasp sends down the sending Bead's lane, and a port adds them to its credit, never above 64. A message that
finds its crossing full waits, and nothing changes. Some clauses also rest on the model's choices of logs 70 and 157.
-/
def Obligations.MessagesAndCreditsTravel : Prop :=
  (∀ (s : State) (n : Nat) (x : Staged) (r : List Staged), (s.blk.chan n).staging = x :: r →
    (s.blk.tx n x.port).dbead ≠ n →
    (s.blk.roomUp s.params n = false → exec (.chnMessageSend n) s = .next s)
    ∧ (s.blk.roomUp s.params n = true → ∃ b, exec (.chnMessageSend n) s = .next { s with blk := b }
      ∧ b = (s.blk.modChan n fun c => { c with staging := r }).sendUp s.params n
          (chnRec s.params n (s.blk.tx n x.port).dqueue (s.blk.tx n x.port).dbead x.flits)
      ∧ (s.params.beadOnLane n < 4 → b.stagingUsed s.params n = s.blk.stagingUsed s.params n -
          (if crossDepth true (s.params.laneOf n) < (b.lane (s.params.laneOf n)).bead.queue.length then 0
            else chnWords x.flits.length))))
  ∧ (∀ (s : State) (n : Nat) (x : Staged) (r : List Staged), (s.blk.chan n).staging = x :: r →
    (s.blk.tx n x.port).dbead = n → x.flits.length = 1 → (s.blk.rx n (s.blk.tx n x.port).dqueue).openF = 0 →
    (s.blk.rx n (s.blk.tx n x.port).dqueue).discard = 0 → (s.blk.rx n (s.blk.tx n x.port).dqueue).stored < 64 →
    (s.blk.rx n (s.blk.tx n x.port).dqueue).drain = false →
    ∃ b, exec (.chnMessageSend n) s = .next { s with blk := b } ∧ (b.chan n).staging = r
      ∧ ((b.rx n (s.blk.tx n x.port).dqueue).word (s.blk.rx n (s.blk.tx n x.port).dqueue).wp).quarters =
          x.flits ++ [0, 0, 0]
      ∧ (b.rx n (s.blk.tx n x.port).dqueue).wp = ((s.blk.rx n (s.blk.tx n x.port).dqueue).wp + 1) % 128)
  ∧ (∀ (s : State) (n : Nat) (q total : BitVec 7) (d : BitVec 6) (fs : List Word) (b0 : Block),
    ActsAtClasp s.params s.blk n (chnRec s.params n q.toNat d.toNat fs) b0 →
    (s.blk.pbead d.toNat).state ≠ .fenced → (b0.lane (s.params.laneOf d.toNat)).failed = false →
    (s.blk.roomDown s.params d.toNat = true → exec (.chn true n q d total fs) s = .next { s with
      blk := b0.sendDown s.params d.toNat (chnRec s.params d.toNat q.toNat 0 fs) })
    ∧ (s.blk.roomDown s.params d.toNat = false → exec (.chn true n q d total fs) s = .next s))
  ∧ (∀ (s : State) (n : Nat) (q w : BitVec 7) (r : Route) (b0 : Block),
    ActsAtClasp s.params s.blk n (creditRec s.params n q.toNat w.toNat) b0 →
    s.blk.setting.routeTo n q.toNat = some r →
    (s.blk.roomDown s.params r.srcBead = true → exec (.credit true n q w) s = .next { s with
      blk := b0.sendDown s.params r.srcBead (creditRec s.params r.srcBead r.port w.toNat) })
    ∧ (s.blk.roomDown s.params r.srcBead = false → exec (.credit true n q w) s = .next s))
  ∧ (∀ (s : State) (n : Nat) (q w : BitVec 7) (b0 : Block),
    ActsAtBead s.params s.blk n (creditRec s.params n q.toNat w.toNat) b0 →
    ∃ b, exec (.credit false n q w) s = .next { s with blk := b }
      ∧ (b.tx n q.toNat).credit = min 64 ((s.blk.tx n q.toNat).credit + w.toNat)
      ∧ ((b.rx n q.toNat).overrun = true ↔
          (64 < (s.blk.tx n q.toNat).credit + w.toNat ∨ (s.blk.rx n q.toNat).overrun = true))
      ∧ b = { s.blk with lanes := b0.lanes, chans := b.chans })
  ∧ (∀ (s : State) (n q : Nat), (s.blk.rx n q).unreturned ≠ 0 → (s.blk.rx n q).routeV = true →
    (s.blk.rx n q).sbead ≠ n →
    (s.blk.roomUp s.params n = true → exec (.creditReturn n q) s = .next { s with
      blk := ((s.blk.modRx n q fun x => { x with unreturned := 0 }).progress 3 (128 * n + q)).sendUp s.params n
        (creditRec s.params n q (s.blk.rx n q).unreturned) })
    ∧ (s.blk.roomUp s.params n = false → exec (.creditReturn n q) s = .next s))
  ∧ (∀ (s : State) (n q : Nat), (s.blk.rx n q).unreturned ≠ 0 → (s.blk.rx n q).routeV = true →
    (s.blk.rx n q).sbead = n →
    ∃ b, exec (.creditReturn n q) s = .next { s with blk := b } ∧ (b.rx n q).unreturned = 0
      ∧ (b.tx n (s.blk.rx n q).sport).credit =
          min 64 ((s.blk.tx n (s.blk.rx n q).sport).credit + (s.blk.rx n q).unreturned)
      ∧ b = { s.blk with chans := b.chans, front := b.front })
  ∧ ∀ (s : State) (n : Nat) (part : BitVec 4) (b0 : Block),
    ActsAtBead s.params s.blk n (ctlRec s.params n 3 part.toNat) b0 →
    ∃ b, exec (.ctlClear n part) s = .next { s with blk := b }
      ∧ (∀ q, q < (s.params.bead n).chnQueues →
          (b.rx n q).rp = (s.blk.rx n q).wp ∧ (b.rx n q).vp = (s.blk.rx n q).wp ∧ (b.rx n q).wp = (s.blk.rx n q).wp
          ∧ (b.rx n q).unreturned = (s.blk.rx n q).unreturned + (s.blk.rx n q).stored
          ∧ (b.rx n q).captured = {} ∧ (b.rx n q).underrun = false ∧ (b.rx n q).overrun = false
          ∧ ((b.rx n q).drain = true ↔ ((s.blk.rx n q).drain = true ∨ (s.blk.rx n q).openF ≠ 0))
          ∧ (b.tx n q).opened = false)
      ∧ b.pbead n = { s.blk.pbead n with clears := (s.blk.pbead n).clears.drop 1 }
      ∧ (∀ k, k ≠ n → b.pbead k = s.blk.pbead k)
      ∧ b = { s.blk with
          lanes := b0.lanes, chans := b.chans, lkt := b.lkt, beads := b.beads
          parts := { s.blk.parts with beads := b.parts.beads } }

/-- R405, R406, R433, R434: the commands of a partition. ENABLE, DISABLE, FORCE and YIELD are each accepted in the
states of R405, ENABLE not while a patch holds the partition (R128), and clear REJ; any other is ignored and sets REJ,
or makes its PARTITION_CTL node retire with SETTING_MISMATCH. DISABLE sends DISABLE to every queue of the partition
that is not DISABLED; FORCE sends FORCE to each, abandons the submissions of each, and resets the resident context and
any in SAVING or RESTORING; YIELD requests a switch unless one is held (R128, R490). A STOPPING partition with nothing
in flight, no switch in progress and its queues DISABLED is DISABLED; so is a FORCING one whose queues and resets are
done, with no context resident; both raise source 960 + p. Some clauses also rest on the model's choices of logs 105
and 106. -/
def Obligations.PartitionCommandsTakeEffect : Prop :=
  (∀ (s : State) (a : Acc) (q : BitVec 4), Performs s a (.partCmd q.toNat) true →
    let p := q.toNat
    let x := s.blk.part p
    let rej := s.wrote (.partCmd p) (s.blk.modPart p fun y => { y with rej := true })
    (x.state = .disabled → (s.blk.partSec p).enabled = true → p ∉ s.blk.loader.touched →
      ∃ b, exec (.partEnable a q) s = .next (s.wrote (.partCmd p) b)
        ∧ b.part p = { x with rej := false, state := .enabled } ∧ (∀ k, k ≠ p → b.part k = s.blk.part k)
        ∧ b = { s.blk with parts := { s.blk.parts with parts := b.parts.parts }, lkt := b.lkt })
    ∧ (¬ (x.state = .disabled ∧ (s.blk.partSec p).enabled = true ∧ p ∉ s.blk.loader.touched) → exec (.partEnable a q) s = .next rej)
    ∧ (x.state = .enabled → ∃ b, exec (.partDisable a q) s = .next (s.wrote (.partCmd p) b)
        ∧ b.part p = { x with rej := false, state := .stopping } ∧ (∀ k, k ≠ p → b.part k = s.blk.part k)
        ∧ (∀ k, k ∈ s.blk.partQueues p → (b.queue k).cmdRej = false
            ∧ ((b.queue k).state = .disabled ∨ (b.queue k).state = .stopping ∨ (b.queue k).state = .forcing))
        ∧ (∀ k, k ∉ s.blk.partQueues p → (b.queue k).state = (s.blk.queue k).state)
        ∧ b = { s.blk with mp := b.mp, front := { s.blk.front with queues := b.front.queues, hws := b.front.hws },
                           parts := { s.blk.parts with parts := b.parts.parts }, lkt := b.lkt })
    ∧ (x.state ≠ .enabled → exec (.partDisable a q) s = .next rej)
    ∧ (x.state = .enabled ∨ x.state = .stopping → ∃ b, exec (.partForce a q) s = .next (s.wrote (.partCmd p) b)
        ∧ (b.part p).state = .forcing ∧ (b.part p).rej = false ∧ (b.part p).phase = .run
        ∧ (b.part p).resident = x.resident ∧ (b.part p).outgoing = none ∧ (b.part p).incoming = none
        ∧ (b.part p).pieces = [] ∧ (b.part p).waiting = [] ∧ (∀ k, k ≠ p → b.part k = s.blk.part k)
        ∧ (∀ k, k ∈ s.blk.partQueues p →
            (b.queue k).state = (if (s.blk.queue k).state = .disabled then .disabled else .forcing))
        ∧ (∀ g, (s.blk.sub g).live = true → s.blk.over g = false →
            (s.blk.sub g).queue ∈ s.blk.partQueues p → (s.blk.queue (s.blk.sub g).queue).state ≠ .disabled →
            (s.blk.queue (s.blk.sub g).queue).state ≠ .forcing → (b.sub g).abandoned ≠ none)
        ∧ (∀ c, b.ctx c = if c ∈ s.blk.forcedCtxs p
            then { s.blk.ctx c with state := .swapped, recV := false, atSp := true, cause := Status.aborted }
            else s.blk.ctx c)
        ∧ b = { s.blk with free := b.free, mp := b.mp, lanes := b.lanes, front := b.front, graph := b.graph,
                           fences := b.fences, beads := b.beads, seq := b.seq, link := b.link, parts := b.parts,
                           experts := { s.blk.experts with held := b.experts.held, waitLoad := b.experts.waitLoad },
                           evc := b.evc, trace := b.trace, lkt := b.lkt })
    ∧ (x.state ≠ .enabled → x.state ≠ .stopping → exec (.partForce a q) s = .next rej)
    ∧ (x.state = .enabled → x.settled = true → ∀ c, x.resident = some c →
        (s.blk.switchHeld p = true → exec (.partYield a q) s =
          .next (s.wrote (.partCmd p) (s.blk.modPart p fun y => { y with rej := false })))
        ∧ (s.blk.switchHeld p = false → ∃ b, exec (.partYield a q) s = .next (s.wrote (.partCmd p) b)
          ∧ b.part p = { x with rej := false, reason := 2, outgoing := some c, phase := .pending }
          ∧ (∀ k, k ≠ p → b.part k = s.blk.part k) ∧ b.ctx c = { s.blk.ctx c with state := .outgoing }
          ∧ (∀ k, k ≠ c → b.ctx k = s.blk.ctx k)
          ∧ b = { s.blk with parts := { s.blk.parts with parts := b.parts.parts, ctxs := b.parts.ctxs }
                             evc := { s.blk.evc with pend := b.evc.pend }, trace := b.trace }))
    ∧ (x.state ≠ .enabled ∨ x.settled = false ∨ x.resident = none → exec (.partYield a q) s = .next rej)
    ∧ (∀ op : BitVec 3, op = 0 ∨ 5 ≤ op.toNat ∨ s.blk.partAccepts p op.toNat = false →
        exec (.partCmdInvalid a q op) s = .next rej))
  ∧ (∀ (s : State) (g i : Nat) (m : MemView), (s.blk.node g i).kind = 7 → privOp m (s.blk.node g i).record = 2 →
    s.blk.gate g i = .act → EdgesReach s.params s.blk m g i →
    let p := bits (recW m (s.blk.node g i).record 3) 3 0
    let op := bits (recW m (s.blk.node g i).record 3) 11 8
    (s.blk.partAccepts p op = false → ∃ b, exec (.partitionCtl g i m) s = .next { s with blk := b }
      ∧ NodeEnds s.params m s.blk b g i Status.mismatch false ∧ (∀ k, b.part k = s.blk.part k)
      ∧ b = { s.blk with mp := { s.blk.mp with errAddr := b.mp.errAddr, errInfo := b.mp.errInfo }
                         lanes := b.lanes, graph := b.graph, fences := b.fences
                         evc := { s.blk.evc with pend := b.evc.pend }, trace := b.trace })
    ∧ (s.blk.partAccepts p op = true → op ≠ 3 → ∃ b, exec (.partitionCtl g i m) s = .next { s with blk := b }
      ∧ NodeEnds s.params m s.blk b g i Status.ok false ∧ (b.part p).rej = false
      ∧ (op = 1 → (b.part p).state = .enabled) ∧ (op = 2 → (b.part p).state = .stopping)
      ∧ (op = 4 → s.blk.switchHeld p = false → (b.part p).phase = .pending ∧ (b.part p).reason = 2)
      ∧ ∀ k, k ≠ p → b.part k = s.blk.part k)
    ∧ (s.blk.partAccepts p op = true → op = 3 → ∃ b, exec (.partitionCtl g i m) s = .next { s with blk := b }
      ∧ (b.part p).state = .forcing ∧ b.node g i = {} ∧ ∀ k, k ≠ p → b.part k = s.blk.part k))
  ∧ (∀ (s : State) (q : BitVec 4), (s.blk.part q.toNat).state = .stopping → (s.blk.part q.toNat).settled = true →
    s.blk.partInFlight q.toNat = false → s.blk.partQueues q.toNat = [] →
    ∃ b, exec (.partitionDisabled q) s = .next { s with blk := b }
      ∧ b.part q.toNat = { s.blk.part q.toNat with state := .disabled }
      ∧ (∀ k, k ≠ q.toNat → b.part k = s.blk.part k) ∧ b.evc.pends (960 + q.toNat) = true
      ∧ (∀ k, k ≠ 960 + q.toNat → b.evc.pends k = s.blk.evc.pends k)
      ∧ b = { s.blk with parts := { s.blk.parts with parts := b.parts.parts }
                         evc := { s.blk.evc with pend := b.evc.pend }, lkt := b.lkt })
  ∧ ∀ (s : State) (q : BitVec 4), (s.blk.part q.toNat).state = .forcing → (s.blk.part q.toNat).resets = [] →
    s.blk.partQueues q.toNat = [] →
    ∃ b, exec (.partitionForceDone q) s = .next { s with blk := b }
      ∧ b.part q.toNat = { s.blk.part q.toNat with state := .disabled, resident := none }
      ∧ (∀ k, k ≠ q.toNat → b.part k = s.blk.part k) ∧ b.evc.pends (960 + q.toNat) = true
      ∧ (∀ k, k ≠ 960 + q.toNat → b.evc.pends k = s.blk.evc.pends k)
      ∧ b = { s.blk with parts := { s.blk.parts with parts := b.parts.parts }
                         evc := { s.blk.evc with pend := b.evc.pend }, lkt := b.lkt }

/-- R410 to R412, R531: the commands of a context. REGISTER, accepted only on a FREE context of an enabled partition
with a save address that obeys R8, leaves it SWAPPED with that address; RELEASE, only on a SWAPPED one with nothing in
flight and no queue that is not DISABLED, resets it and leaves it FREE; RESET, only on a SWAPPED one, abandons its
submissions, poisons its fences, frees its sequence entries and discards its save record; ACK clears CAUSE of a
context that is not FREE. A refused command, and an invalid one, sets REJ and does nothing else; a refused CONTEXT_REG
retires with SETTING_MISMATCH. Some clauses also rest on the model's choices of logs 106 and 107. -/
def Obligations.ContextCommandsTakeEffect : Prop :=
  (∀ (s : State) (a : Acc) (x : BitVec 10) (q : BitVec 4), Performs s a .ctxCmd true →
    let c := x.toNat
    let rej := s.wrote .ctxCmd { s.blk with parts := { s.blk.parts with ctxRej := true } }
    (s.blk.registerOk c q.toNat s.blk.parts.ctxArg.toNat = true →
      ∃ b, exec (.ctxRegister a x q) s = .next (s.wrote .ctxCmd b)
        ∧ b.ctx c = { s.blk.ctx c with
            state := .swapped, part := q.toNat, area := s.blk.parts.ctxArg.toNat, recV := false, atSp := true, cause := 0 }
        ∧ (∀ k, k ≠ c → b.ctx k = s.blk.ctx k)
        ∧ b = { s.blk with parts := { s.blk.parts with ctxs := b.parts.ctxs, ctxRej := false } })
    ∧ (s.blk.registerOk c q.toNat s.blk.parts.ctxArg.toNat = false → exec (.ctxRegister a x q) s = .next rej)
    ∧ (∀ (i : Instr) (st : CState), (i = .ctxRelease a x ∧ st = .free ∧ s.blk.releaseOk c = true)
        ∨ (i = .ctxReset a x ∧ st = .swapped ∧ (s.blk.ctx c).state = .swapped) →
      Tab.wf {} s.blk.fences.table = true → Tab.wf {} s.blk.seq.seqs = true →
      ∃ b, exec i s = .next (s.wrote .ctxCmd b)
        ∧ b.ctx c = { s.blk.ctx c with state := st, recV := false, atSp := true, cause := Status.ownerLost }
        ∧ (∀ k, k ≠ c → b.ctx k = s.blk.ctx k)
        ∧ (∀ g, g ∈ s.blk.ctxSubs c → (s.blk.sub g).live = true → s.blk.over g = false →
            (b.sub g).abandoned ≠ none)
        ∧ (∀ k, (s.blk.fence k).state = .active → (s.blk.fence k).owner = x → (b.fence k).state = .poisoned)
        ∧ (∀ k, (s.blk.fence k).owner ≠ x → s.blk.ctxSubs c = [] → b.fence k = s.blk.fence k)
        ∧ (∀ k, (s.blk.seqEntry k).ctx = c → (b.seqEntry k).state = .free)
        ∧ (∀ k, (s.blk.seqEntry k).ctx ≠ c → b.seqEntry k = s.blk.seqEntry k)
        ∧ (b.seqCtx c).nextOrd = 0 ∧ (b.seqCtx c).used = 0 ∧ (∀ k, k ≠ c → b.seqCtx k = s.blk.seqCtx k)
        ∧ b = { s.blk with free := b.free, mp := b.mp, lanes := b.lanes, front := b.front, graph := b.graph,
                           fences := b.fences, seq := b.seq, link := b.link,
                           parts := { s.blk.parts with ctxs := b.parts.ctxs, ctxRej := false }, evc := b.evc,
                           experts := { s.blk.experts with held := b.experts.held, waitLoad := b.experts.waitLoad },
                           trace := b.trace })
    ∧ (s.blk.releaseOk c = false → exec (.ctxRelease a x) s = .next rej)
    ∧ ((s.blk.ctx c).state ≠ .swapped → exec (.ctxReset a x) s = .next rej)
    ∧ ((s.blk.ctx c).state ≠ .free → ∃ b, exec (.ctxAck a x) s = .next (s.wrote .ctxCmd b)
        ∧ b.ctx c = { s.blk.ctx c with cause := 0 } ∧ (∀ k, k ≠ c → b.ctx k = s.blk.ctx k)
        ∧ b = { s.blk with parts := { s.blk.parts with ctxs := b.parts.ctxs, ctxRej := false } })
    ∧ ((s.blk.ctx c).state = .free → exec (.ctxAck a x) s = .next rej)
    ∧ (∀ d : BitVec 32, (d.getLsbD 29 = true ↔ (d.getLsbD 31 = true ∨ d.getLsbD 30 = true)) →
        exec (.ctxCmdInvalid a d) s = .next rej))
  ∧ ∀ (s : State) (g i : Nat) (m : MemView), (s.blk.node g i).kind = 7 → privOp m (s.blk.node g i).record = 3 →
    s.blk.gate g i = .act → EdgesReach s.params s.blk m g i →
    let w := recW m (s.blk.node g i).record 3
    let area := recW m (s.blk.node g i).record 4
    let c := bits w 9 0
    (bits w 16 16 = 1 → s.blk.registerOk c (bits w 15 12) area = true →
      ∃ b, exec (.contextReg g i m) s = .next { s with blk := b } ∧ NodeEnds s.params m s.blk b g i Status.ok false
      ∧ b.ctx c = { s.blk.ctx c with
          state := .swapped, part := bits w 15 12, area := area, recV := false, atSp := true, cause := 0 }
      ∧ (∀ k, k ≠ c → b.ctx k = s.blk.ctx k))
    ∧ (bits w 16 16 = 0 → s.blk.releaseOk c = true → s.blk.ctxSubs c = [] →
      ∃ b, exec (.contextReg g i m) s = .next { s with blk := b }
      ∧ b.node g i = {} ∧ (b.sub g).done = (s.blk.sub g).done + 1
      ∧ b.ctx c = { s.blk.ctx c with state := .free, recV := false, atSp := true, cause := Status.ownerLost }
      ∧ (∀ k, k ≠ c → b.ctx k = s.blk.ctx k))
    ∧ ((bits w 16 16 = 1 ∧ s.blk.registerOk c (bits w 15 12) area = false)
        ∨ (bits w 16 16 = 0 ∧ s.blk.releaseOk c = false) →
      ∃ b, exec (.contextReg g i m) s = .next { s with blk := b } ∧ NodeEnds s.params m s.blk b g i Status.mismatch false
      ∧ (∀ k, b.ctx k = s.blk.ctx k))

/-- R419 to R422, R425, R428, R429, R431, R432: context switches. A quantum that has run out, and a reason that holds,
request a switch of the resident context; at its boundary the incoming context is chosen, or the switch is withdrawn
where none is runnable and SWAPPED; a piece of the half in progress goes to its Bead, whose lane is open and whose
crossing has room (R66), in the lowest free window entry, or fails where the Bead is DISABLED or fenced off; an
outgoing context of an express partition is SWAPPED at once, another is saved; when every save piece has completed the
Beads are cleared and the restore begins, and when every restore piece has, the incoming context is resident; a half
that has failed resets its context. With no context resident the switch begins with the restore. A hint of the mean
idle period is presented when a partition becomes idle, a hint of 0 when it ends, and one that has transferred is
gone. Where the Beads stand in the order of their lanes when the resident context changes is the model's choice (log
108), as is the incoming context chosen anew (log 42). Some clauses also rest on the model's choices of logs 39, 40,
41, 43, 99, 101, 104, 109, 116, 142 and 157. -/
def Obligations.SwitchesRunTheirHalves : Prop :=
  (∀ (s : State) (q : BitVec 4) (m : MemView) (i : Instr) (c r : Nat), s.blk.switchOpen q.toNat = true →
    (s.blk.part q.toNat).resident = some c →
    (i = .quantumExpiry q ∧ r = 1 ∧ (s.blk.partSec q.toNat).quantumUs ≠ 0
        ∧ (s.blk.part q.toNat).since + 1000 * (s.blk.partSec q.toNat).quantumUs ≤ s.blk.now
        ∧ s.blk.runnables q.toNat ≠ [])
      ∨ (i = .switchRequest q m ∧ s.blk.switchReason q.toNat = some r ∧ r ≠ 6) →
    ∃ b, exec i s = .next { s with blk := b }
      ∧ b.part q.toNat = { s.blk.part q.toNat with reason := r, outgoing := some c, phase := .pending }
      ∧ (∀ k, k ≠ q.toNat → b.part k = s.blk.part k) ∧ b.ctx c = { s.blk.ctx c with state := .outgoing }
      ∧ (∀ k, k ≠ c → b.ctx k = s.blk.ctx k)
      ∧ b = { s.blk with parts := { s.blk.parts with parts := b.parts.parts, ctxs := b.parts.ctxs }
                         evc := { s.blk.evc with pend := b.evc.pend }, trace := b.trace })
  ∧ (∀ (s : State) (q : BitVec 4) (m : MemView) (c : Nat), s.blk.switchOpen q.toNat = true →
    (s.blk.part q.toNat).resident = none → Chosen s.blk q.toNat none c →
    ∃ b, exec (.switchRequest q m) s = .next { s with blk := b }
      ∧ (b.part q.toNat).phase = .restoring ∧ (b.part q.toNat).reason = 6 ∧ (b.part q.toNat).incoming = some c
      ∧ (b.part q.toNat).outgoing = none ∧ (b.part q.toNat).position = 0
      ∧ (∀ k, k ≠ q.toNat → b.part k = s.blk.part k) ∧ b.ctx c = { s.blk.ctx c with state := .restoring }
      ∧ (∀ k, k ≠ c → b.ctx k = s.blk.ctx k)
      ∧ b = { s.blk with free := b.free, mp := b.mp,
                         parts := { s.blk.parts with parts := b.parts.parts, ctxs := b.parts.ctxs }
                         evc := { s.blk.evc with pend := b.evc.pend }, trace := b.trace })
  ∧ (∀ (s : State) (q : BitVec 4) (m : MemView) (o : Nat), (s.blk.part q.toNat).phase = .pending →
    (s.blk.part q.toNat).outgoing = some o →
    (s.blk.boundary q.toNat o = false → exec (.switchBoundary q m) s = .next s)
    ∧ (s.blk.boundary q.toNat o = true → (∀ c, c ∈ s.blk.runnables q.toNat → (s.blk.ctx c).state ≠ .swapped) →
      ∃ b, exec (.switchBoundary q m) s = .next { s with blk := b }
      ∧ b.part q.toNat = { s.blk.part q.toNat with
          phase := if (s.blk.part q.toNat).idle = true then .idle else .run
          resident := some o, since := s.blk.now, outgoing := none, incoming := none }
      ∧ (∀ k, k ≠ q.toNat → b.part k = s.blk.part k) ∧ b.ctx o = { s.blk.ctx o with state := .resident }
      ∧ (∀ k, k ≠ o → b.ctx k = s.blk.ctx k)
      ∧ b = { s.blk with parts := { s.blk.parts with parts := b.parts.parts, ctxs := b.parts.ctxs }
                         evc := { s.blk.evc with pend := b.evc.pend }, trace := b.trace })
    ∧ (s.blk.boundary q.toNat o = true → ∀ c, Chosen s.blk q.toNat (some o) c → c ≠ o →
      ((s.blk.partSec q.toNat).express = false → ∃ b, exec (.switchBoundary q m) s = .next { s with blk := b }
        ∧ (b.part q.toNat).phase = .saving ∧ (b.part q.toNat).outgoing = some o
        ∧ (b.part q.toNat).incoming = some c ∧ (b.part q.toNat).position = 0
        ∧ (∀ k, k ≠ q.toNat → b.part k = s.blk.part k) ∧ b.ctx o = { s.blk.ctx o with state := .saving }
        ∧ (∀ k, k ≠ o → b.ctx k = s.blk.ctx k)
        ∧ ((s.blk.ctx o).recV = false → (s.blk.ctx c).recV = false → (b.part q.toNat).pieces = []
            ∧ (b.part q.toNat).waiting = [] ∧ (b.part q.toNat).percent = 100 ∧ b.mp = s.blk.mp)
        ∧ b = { s.blk with free := b.free, mp := b.mp,
                           parts := { s.blk.parts with parts := b.parts.parts, ctxs := b.parts.ctxs }
                           evc := { s.blk.evc with pend := b.evc.pend }, trace := b.trace })
      ∧ ((s.blk.partSec q.toNat).express = true → ∃ b, exec (.switchBoundary q m) s = .next { s with blk := b }
        ∧ (b.part q.toNat).phase = .restoring ∧ (b.part q.toNat).resident = none
        ∧ (b.part q.toNat).incoming = some c ∧ (b.part q.toNat).pieces = [] ∧ (b.part q.toNat).waiting = []
        ∧ (∀ k, k ≠ q.toNat → b.part k = s.blk.part k) ∧ b.ctx o = { s.blk.ctx o with state := .swapped }
        ∧ b.ctx c = { s.blk.ctx c with state := .restoring } ∧ (∀ k, k ≠ o → k ≠ c → b.ctx k = s.blk.ctx k)
        ∧ b.lanes = ((s.blk.partBeads q.toNat).foldl (fun x n =>
            x.sendDown s.params n (ctlRec s.params n 3 q.toNat)) s.blk).lanes
        ∧ (∀ n, b.pbead n = if n ∈ s.blk.partBeads q.toNat
            then { s.blk.pbead n with clears := (s.blk.pbead n).clears ++ [o] } else s.blk.pbead n)
        ∧ b = { s.blk with lanes := b.lanes,
                           parts := { s.blk.parts with
                             parts := b.parts.parts, ctxs := b.parts.ctxs, beads := b.parts.beads }
                           evc := { s.blk.evc with pend := b.evc.pend }, trace := b.trace })))
  ∧ (∀ (s : State) (q : BitVec 4) (m : MemView) (o c : Nat), (s.blk.part q.toNat).phase = .saving →
    (s.blk.part q.toNat).outgoing = some o → (s.blk.part q.toNat).incoming = some c → c ≠ o →
    ((s.blk.part q.toNat).waiting ≠ [] → exec (.switchSaveDone q m) s = .next s)
    ∧ ((s.blk.part q.toNat).waiting = [] → (s.blk.ctx c).state = .swapped → (s.blk.ctx c).part = q.toNat →
      (s.blk.ctx c).cause = 0 → ∃ b, exec (.switchSaveDone q m) s = .next { s with blk := b }
      ∧ (b.part q.toNat).phase = .restoring ∧ (b.part q.toNat).resident = none
      ∧ (b.part q.toNat).incoming = some c ∧ (∀ k, k ≠ q.toNat → b.part k = s.blk.part k)
      ∧ b.ctx c = { s.blk.ctx c with state := .restoring } ∧ (∀ k, k ≠ o → k ≠ c → b.ctx k = s.blk.ctx k)
      ∧ (b.part q.toNat).waiting = (if (s.blk.ctx c).recV = true
          then piecePlaces (s.blk.part q.toNat).pieces true else [])
      ∧ ((s.blk.ctx c).recV = false → (s.blk.part q.toNat).pieceFail = none → b.mp = s.blk.mp)
      ∧ ((s.blk.part q.toNat).pieceFail = none ∨ s.blk.ctxSubs o = [] →
          b.lanes = ((s.blk.partBeads q.toNat).foldl (fun x n =>
            x.sendDown s.params n (ctlRec s.params n 3 q.toNat)) s.blk).lanes)
      ∧ (∀ n, b.pbead n = if n ∈ s.blk.partBeads q.toNat
          then { s.blk.pbead n with clears := (s.blk.pbead n).clears ++ [o] } else s.blk.pbead n)
      ∧ ((s.blk.part q.toNat).pieceFail = none → b.ctx o = { s.blk.ctx o with state := .swapped }
          ∧ b = { s.blk with mp := b.mp, lanes := b.lanes,
                             parts := { s.blk.parts with
                               parts := b.parts.parts, ctxs := b.parts.ctxs, beads := b.parts.beads }
                             evc := { s.blk.evc with pend := b.evc.pend }, trace := b.trace })
      ∧ (∀ st, (s.blk.part q.toNat).pieceFail = some st →
          b.ctx o = { s.blk.ctx o with state := .swapped, recV := false, atSp := true, cause := st })))
  ∧ (∀ (s : State) (q : BitVec 4) (m : MemView) (i : Instr) (k : Nat) (x : Piece),
    (i = .switchBoundary q m ∧ (s.blk.part q.toNat).phase = .saving)
      ∨ (i = .switchSaveDone q m ∧ (s.blk.part q.toNat).phase = .restoring) →
    s.blk.mp.writesFor (· == .savePiece q.toNat) = false → (s.blk.part q.toNat).waiting = [k] →
    (s.blk.part q.toNat).pieces[k]? = some x → x.sent = false →
    let st := (s.blk.pbead x.bead).state
    let open' := s.blk.laneOpen s.params x.bead = true ∧ s.blk.roomDown s.params x.bead = true
    ((st = .disabled ∨ st = .fenced) → exec i s = .next { s with blk := s.blk.modPart q.toNat fun y => { y with
      waiting := [], pieceFail := some (y.pieceFail.getD Status.mismatch) } })
    ∧ (st ≠ .disabled → st ≠ .fenced → ¬ open' ∨ s.blk.freeWin x.bead = none → exec i s = .next s)
    ∧ (∀ w, st ≠ .disabled → st ≠ .fenced → open' → s.blk.freeWin x.bead = some w →
      let g := wrapAdd 16 (s.blk.cwin x.bead w).gen 1
      let area := (s.blk.ctx x.ctx).area
      ∃ b, exec i s = .next { s with blk := b }
      ∧ b.cwin x.bead w = { s.blk.cwin x.bead w with gen := g, piece := some (q.toNat, k) }
      ∧ (∀ a v, ¬ (a = x.bead ∧ v = w) → b.cwin a v = s.blk.cwin a v)
      ∧ b.part q.toNat = { s.blk.part q.toNat with
          pieces := (s.blk.part q.toNat).pieces.set k { x with sent := true } }
      ∧ (∀ p, p ≠ q.toNat → b.part p = s.blk.part p)
      ∧ b.lanes = (s.blk.sendDown s.params x.bead (nodeRec s.params x.bead w g (nodeEntry 0 0xFFFFFFFF 0 5 0
          { used := true, kind := 0, cls := 2, record := area, param := area + 0x40 + 64 * x.num }))).lanes
      ∧ b = { s.blk with lanes := b.lanes, graph := { s.blk.graph with cwin := b.graph.cwin }
                         parts := { s.blk.parts with parts := b.parts.parts } }))
  ∧ (∀ (s : State) (q : BitVec 4) (m : MemView) (c : Nat), (s.blk.part q.toNat).phase = .restoring →
    (s.blk.part q.toNat).incoming = some c → (s.blk.part q.toNat).waiting = [] →
    ((s.blk.part q.toNat).pieceFail = none → ∃ b, exec (.switchRestoreDone q m) s = .next { s with blk := b }
      ∧ b.part q.toNat = { s.blk.part q.toNat with
          phase := .run, resident := some c, since := s.blk.now, outgoing := none, incoming := none, percent := 100
          count := wrapAdd 16 (s.blk.part q.toNat).count 1, pieces := [] }
      ∧ (∀ k, k ≠ q.toNat → b.part k = s.blk.part k) ∧ b.ctx c = { s.blk.ctx c with state := .resident }
      ∧ (∀ k, k ≠ c → b.ctx k = s.blk.ctx k)
      ∧ (∀ n, b.pbead n = if n ∈ s.blk.partBeads q.toNat
          then { s.blk.pbead n with change := some (c, (s.blk.lane (s.params.laneOf n)).queued) } else s.blk.pbead n)
      ∧ b = { s.blk with parts := { s.blk.parts with
                parts := b.parts.parts, ctxs := b.parts.ctxs, beads := b.parts.beads }
                         evc := { s.blk.evc with pend := b.evc.pend }, trace := b.trace })
    ∧ (∀ st, (s.blk.part q.toNat).pieceFail = some st → st ≠ 0 →
      ∃ b, exec (.switchRestoreDone q m) s = .next { s with blk := b }
      ∧ b.ctx c = { s.blk.ctx c with state := .swapped, recV := false, atSp := true, cause := st }
      ∧ (∀ k, k ≠ q.toNat → b.part k = s.blk.part k) ∧ (b.part q.toNat).incoming ≠ some c))
  ∧ (∀ (s : State) (q : BitVec 4), (s.blk.part q.toNat).idle = false → s.blk.partIdle q.toNat = true →
    (s.blk.part q.toNat).idlePeriods.sum / (s.blk.part q.toNat).idlePeriods.length < 2 ^ 40 →
    ∃ b, exec (.idleHint q) s = .next { s with blk := b }
      ∧ b.part q.toNat = { s.blk.part q.toNat with
          idle := true, idleSince := s.blk.now
          phase := if (s.blk.part q.toNat).settled = true then .idle else (s.blk.part q.toNat).phase
          hintWait := (s.blk.part q.toNat).idlePeriods.sum / (s.blk.part q.toNat).idlePeriods.length
          hintOut := some ((s.blk.part q.toNat).idlePeriods.sum / (s.blk.part q.toNat).idlePeriods.length) }
      ∧ (∀ k, k ≠ q.toNat → b.part k = s.blk.part k)
      ∧ b = { s.blk with parts := { s.blk.parts with parts := b.parts.parts }
                         evc := { s.blk.evc with pend := b.evc.pend }, trace := b.trace })
  ∧ (∀ (s : State) (q : BitVec 4), (s.blk.part q.toNat).idle = true → s.blk.partIdle q.toNat = false →
    let ps := (s.blk.part q.toNat).idlePeriods ++ [s.blk.now - (s.blk.part q.toNat).idleSince]
    ∃ b, exec (.idleHint q) s = .next { s with blk := b }
      ∧ b.part q.toNat = { s.blk.part q.toNat with
          idle := false, idlePeriods := ps.drop (ps.length - 8), hintWait := 0, hintOut := some 0
          phase := if (s.blk.part q.toNat).phase = .idle then .run else (s.blk.part q.toNat).phase }
      ∧ (∀ k, k ≠ q.toNat → b.part k = s.blk.part k)
      ∧ b = { s.blk with parts := { s.blk.parts with parts := b.parts.parts }
                         evc := { s.blk.evc with pend := b.evc.pend }, trace := b.trace })
  ∧ ∀ (s : State) (q : BitVec 4),
    exec (.hintTransfer q) s = .next { s with blk := s.blk.modPart q.toNat fun x => { x with hintOut := none } }

/-- R436, R515, R516, R58: the commands of a Bead. ENABLE, DISABLE and FORCE are each accepted in the states of R436
and clear REJ; any other sets REJ and does nothing else. FORCE abandons every submission with a node on the Bead that
has not issued, sends FENCE with ABORTED to the pieces of switches in its window, and asks for the reset of every slot
that holds a task. A STOPPING Bead, and a FORCING one whose resets are done, is DISABLED once it holds no live node.
PWR_FENCE fences the Bead off with CAUSE COMMAND, once; BD_ERR.CLR clears its count of protocol errors. Some clauses
also rest on the model's choices of logs 84 and 109. -/
def Obligations.BeadCommandsTakeEffect : Prop :=
  (∀ (s : State) (a : Acc) (n : Nat), Performs s a (.partBead n) true → n < s.params.nBeads →
    let x := s.blk.pbead n
    let rej := s.wrote (.partBead n) (s.blk.modPbead n fun y => { y with rej := true })
    (x.state = .disabled → exec (.beadEnable a n) s = .next (s.wrote (.partBead n) (s.blk.modPbead n fun y =>
      { y with rej := false, state := .enabled })))
    ∧ (x.state ≠ .disabled → exec (.beadEnable a n) s = .next rej)
    ∧ (x.state = .enabled → exec (.beadDisable a n) s = .next (s.wrote (.partBead n) (s.blk.modPbead n fun y =>
      { y with rej := false, state := .stopping })))
    ∧ (x.state ≠ .enabled → exec (.beadDisable a n) s = .next rej)
    ∧ (x.state = .enabled ∨ x.state = .stopping → ∃ b, exec (.beadForce a n) s = .next (s.wrote (.partBead n) b)
        ∧ b.pbead n = { x with state := .forcing, rej := false, resets := (s.blk.bead n).busySlots }
        ∧ (∀ k, k ≠ n → b.pbead k = s.blk.pbead k)
        ∧ (∀ i, i ∈ (s.blk.bead n).busySlots → (b.slot n i).resetDue = true ∨ (b.slot n i).resetReq = true
            ∨ (b.slot n i).resetWait = true)
        ∧ (∀ g, s.blk.unissued n g ≠ [] → (s.blk.sub g).live = true → s.blk.over g = false →
            (b.sub g).abandoned ≠ none)
        ∧ (s.blk.graph.subs = [] → b.lanes = ((tget [] s.blk.graph.cwin n).foldl (fun x t => if t.2.piece.isSome = true
            then x.sendDown s.params n (fenceRec s.params n t.1 t.2.gen Status.aborted) else x) s.blk).lanes)
        ∧ (∀ k i, k ≠ n → b.slot k i = s.blk.slot k i)
        ∧ b = { s.blk with free := b.free, lanes := b.lanes, graph := b.graph, fences := b.fences, beads := b.beads,
                           link := b.link, parts := { s.blk.parts with beads := b.parts.beads }
                           evc := { s.blk.evc with pend := b.evc.pend }, trace := b.trace })
    ∧ (x.state ≠ .enabled → x.state ≠ .stopping → exec (.beadForce a n) s = .next rej)
    ∧ (∀ op : BitVec 3, op = 0 ∨ 4 ≤ op.toNat → exec (.beadCmdInvalid a n op) s = .next rej))
  ∧ (∀ (s : State) (n : Nat), s.blk.beadHolds n = false →
    ((s.blk.pbead n).state = .stopping ∨ ((s.blk.pbead n).state = .forcing ∧ (s.blk.pbead n).resets = [])) →
    exec (.beadDisabled n) s = .next { s with blk := s.blk.modPbead n fun y => { y with state := .disabled } })
  ∧ (∀ (s : State) (a : Acc) (n : Nat) (m : MemView), Performs s a (.pwrFence n) true →
    ((s.blk.pbead n).fence ≠ 0 → exec (.fenceBead a n m) s = .next (s.wrote (.pwrFence n) s.blk))
    ∧ ((s.blk.pbead n).fence = 0 → ∃ b, exec (.fenceBead a n m) s = .next (s.wrote (.pwrFence n) b)
      ∧ (b.pbead n).state = .fenced ∧ (b.pbead n).fence = 2 ∧ (b.pbead n).cause = 1
      ∧ (∀ k, k ≠ n → b.pbead k = s.blk.pbead k)
      ∧ (∀ g j, (s.blk.node g j).used = true → (s.blk.node g j).bead = some n → (s.blk.sub g).live = true →
          s.blk.over g = false → (b.sub g).abandoned ≠ none)
      ∧ (∀ d, b.dom d = if d = 8 + 2 * n ∧ (s.blk.dom d).state = .goingOn ∧ (s.blk.dom d).up = true
          then { s.blk.dom d with state := .on, up := false, waiting := false } else s.blk.dom d)
      ∧ (∀ g, n ∉ (b.sub g).beads) ∧ (∀ w, (b.cwin n w).piece = none)
      ∧ b = { s.blk with free := b.free, loader := b.loader, setting := b.setting, lanes := b.lanes, front := b.front,
                         graph := b.graph, fences := b.fences, link := b.link, parts := b.parts, power := b.power,
                         evc := { s.blk.evc with pend := b.evc.pend }, trace := b.trace }))
  ∧ ∀ (s : State) (a : Acc) (n : Nat), Performs s a (.bdErr n) true →
    exec (.bdErrClr a n) s = .next (s.wrote (.bdErr n) (s.blk.modBead n fun d => { d with proto := 0 }))

/-- R470 to R476: the trace writer and its commands. The writer takes the oldest event of its queue: the record is
written at the writer's position where it fits, behind the pad that the ring's end may ask for, and is lost otherwise,
which counts it, raises source 11 and leaves a LOSS record pending; a pending LOSS record is written as soon as it
fits, when the writer acts or HEAD moves, and while it does not fit no record is written. An event whose class is
chosen triggers an armed writer. The TRIGGER record waits for the acknowledge of every record before it, a LOSS record
among them, and leaves its position in TRIG_POS. START, STOP and TRIGGER are each accepted in the states of R474; any
other command sets REJ, and a TRACE_CTL node also retires with SETTING_MISMATCH (the model's choice, log 45); CLR_LOST
clears TRC_LOST; HEAD takes a value below 2 × NU that leaves no more than NU units in use, and nothing else. Where the
writer stands, and when the commands act, is the model's choice (logs 110, 111). Some clauses also rest on the model's
choices of logs 7 and 135. -/
def Obligations.TheTraceWriterKeepsItsRing : Prop :=
  (∀ (s : State) (e : TraceEv) (r : List TraceEv), s.blk.trace.trigDue = none → s.blk.trace.queue = e :: r →
    let t := s.blk.trace
    let u := recUnits e.words
    let fire := t.state = .armed ∧ bit t.trig e.cls = true
    let t' := if fire then { t with fired := true, state := .triggered } else t
    (t.loss = none → t'.fits u = true → t.pad u = 0 → ∃ b n, exec .traceEvent s = .next { s with blk := b }
      ∧ b.trace = { t' with
          queue := r, unacked := t.unacked ++ [{ pos := t.pos, units := u, left := n, trig := false }]
          trigDue := if fire then some (1, e.cls, (e.words[1]?).getD 0) else none }
      ∧ b.mp = (s.blk.put 63 3 (t.addr + 16 * (t.pos % t.nu))
          (wordsBytes (e.words ++ List.replicate (2 * u - e.words.length) 0)) (.traceRec t.pos)).mp
      ∧ b = { s.blk with mp := b.mp, trace := b.trace })
    ∧ (t.loss = none → t'.fits u = true → t.pad u ≠ 0 → ∃ b, exec .traceEvent s = .next { s with blk := b }
      ∧ b.trace.queue = r
      ∧ b.trace.unacked.map (fun x => (x.pos, x.units)) = t.unacked.map (fun x => (x.pos, x.units))
          ++ [(t.pos, t.pad u), (t.wrap (t.pos + t.pad u), u)]
      ∧ b.mp = ((s.blk.put 63 3 (t.addr + 16 * (t.pos % t.nu)) (wordsBytes
            (packW [(t.pad u - 1, 2, 56)] :: List.replicate (2 * t.pad u - 1) 0)) (.traceRec t.pos)).put 63 3
          (t.addr + 16 * (t.wrap (t.pos + t.pad u) % t.nu))
          (wordsBytes (e.words ++ List.replicate (2 * u - e.words.length) 0)) (.traceRec (t.wrap (t.pos + t.pad u)))).mp
      ∧ b = { s.blk with mp := b.mp, trace := b.trace })
    ∧ (¬ fire → t.fits u = false → t.fits 2 = true → t.pad 2 = 0 → t.loss = none → ∃ b n,
      exec .traceEvent s = .next { s with blk := b }
      ∧ b.trace = { t with
          queue := r, lost := satAdd 32 t.lost 1
          unacked := t.unacked ++ [{ pos := t.pos, units := 2, left := n, trig := false }] }
      ∧ b.mp = (s.blk.put 63 3 (t.addr + 16 * (t.pos % t.nu))
          (wordsBytes ((Loss.words { count := 1, first := s.blk.now, last := s.blk.now }) ++ [0])) (.traceRec t.pos)).mp
      ∧ b = { s.blk with mp := b.mp, evc := { s.blk.evc with pend := b.evc.pend }, trace := b.trace })
    ∧ (¬ fire → t.fits u = false → t.fits 2 = false → t.loss = none → ∃ b, exec .traceEvent s = .next { s with blk := b }
      ∧ b.trace = { t with
          queue := r, lost := satAdd 32 t.lost 1, loss := some { count := 1, first := s.blk.now, last := s.blk.now } }
      ∧ b.evc.pends 11 = true ∧ (∀ k, k ≠ 11 → b.evc.pends k = s.blk.evc.pends k)
      ∧ b = { s.blk with evc := { s.blk.evc with pend := b.evc.pend }, trace := b.trace })
    ∧ (∀ l, t.loss = some l → ¬ fire → t.fits 2 = false → ∃ b, exec .traceEvent s = .next { s with blk := b }
      ∧ b.trace = { t with
          queue := r, lost := satAdd 32 t.lost 1
          loss := some { l with count := satAdd 32 l.count 1, last := s.blk.now } }
      ∧ b.evc.pends 11 = true
      ∧ b = { s.blk with evc := { s.blk.evc with pend := b.evc.pend }, trace := b.trace })
    ∧ (∀ l, t.loss = some l → ¬ fire → t.fits 2 = true → t.pad 2 = 0 →
      ∃ b n, exec .traceEvent s = .next { s with blk := b }
      ∧ t.unacked ++ [{ pos := t.pos, units := 2, left := n, trig := false }] <+: b.trace.unacked
      ∧ b.trace.queue = r ∧ b.trace.state = t.state
      ∧ b = { s.blk with mp := b.mp, evc := { s.blk.evc with pend := b.evc.pend }, trace := b.trace }))
  ∧ (∀ (s : State), s.blk.trace.queue = [] ∨ s.blk.trace.trigDue.isSome = true →
    let t := s.blk.trace
    (t.trigDue = none → t.loss = none ∨ t.fits 2 = false → exec .traceEvent s = .next s)
    ∧ (∀ l, t.loss = some l → t.fits 2 = true → t.pad 2 = 0 → ∃ b n, exec .traceEvent s = .next { s with blk := b }
      ∧ b.trace = { t with
          loss := none, unacked := t.unacked ++ [{ pos := t.pos, units := 2, left := n, trig := false }] }
      ∧ b.mp = (s.blk.put 63 3 (t.addr + 16 * (t.pos % t.nu)) (wordsBytes (l.words ++ [0])) (.traceRec t.pos)).mp
      ∧ b = { s.blk with mp := b.mp, trace := b.trace }))
  ∧ (∀ (s : State) (c k : Nat) (w : Word), s.blk.trace.trigDue = some (c, k, w) → s.blk.trace.loss = none →
    let t := s.blk.trace
    (t.unacked ≠ [] → exec .traceEvent s = .next s)
    ∧ (t.unacked = [] → t.fits 1 = true → ∃ b n, exec .traceEvent s = .next { s with blk := b }
      ∧ b.trace = { t with
          trigDue := none, trigPos := t.pos, unacked := [{ pos := t.pos, units := 1, left := n, trig := true }] }
      ∧ b.mp = (s.blk.put 63 3 (t.addr + 16 * (t.pos % t.nu)) (wordsBytes (triggerWords c k w)) (.traceRec t.pos)).mp
      ∧ b = { s.blk with mp := b.mp, trace := b.trace })
    ∧ (t.unacked = [] → t.fits 1 = false → t.queue.length < 64 → ∃ b, exec .traceEvent s = .next { s with blk := b }
      ∧ b.trace.trigDue = none ∧ b.trace.trigPos = t.pos ∧ b.trace.lost = satAdd 32 t.lost 1
      ∧ b.evc.pends 10 = true ∧ b.evc.pends 11 = true
      ∧ b = { s.blk with evc := { s.blk.evc with pend := b.evc.pend }, trace := b.trace }))
  ∧ (∀ (s : State) (a : Acc), Performs s a .trcCmd true →
    let t := s.blk.trace
    let leave (t : Trace) := s.wrote .trcCmd { s.blk with trace := t }
    (t.state = .stopped →
      exec (.traceStart a) s = .next (leave { t with state := .armed, trigPos := 0, fired := false }))
    ∧ (t.state ≠ .stopped → exec (.traceStart a) s = .next (leave { t with rej := true }))
    ∧ (t.state = .armed ∨ t.state = .triggered → exec (.traceStop a) s = .next (leave { t with state := .stopped }))
    ∧ (t.state ≠ .armed → t.state ≠ .triggered → exec (.traceStop a) s = .next (leave { t with rej := true }))
    ∧ (t.state = .armed → t.loss = none → t.unacked ≠ [] →
      exec (.traceTrigger a) s = .next (leave { t with
        state := .triggered, fired := true, trigDue := some (0, 0, BitVec.ofNat 64 s.blk.now) }))
    ∧ (t.state = .armed → t.loss = none → t.unacked = [] → Trace.fits { t with fired := true } 1 = true →
      ∃ b n, exec (.traceTrigger a) s = .next (s.wrote .trcCmd b)
      ∧ b.trace = { t with
          state := .triggered, fired := true, trigDue := none, trigPos := t.pos
          unacked := [{ pos := t.pos, units := 1, left := n, trig := true }] }
      ∧ b = { s.blk with mp := b.mp, trace := b.trace })
    ∧ (t.state ≠ .armed → exec (.traceTrigger a) s = .next (leave { t with rej := true }))
    ∧ exec (.traceClrLost a) s = .next (leave { t with lost := 0 })
    ∧ (∀ op : BitVec 3, op = 0 ∨ op = 4 ∨ op = 6 ∨ op = 7 →
      exec (.traceCmdInvalid a op) s = .next (leave { t with rej := true })))
  ∧ (∀ (s : State) (g i : Nat) (m : MemView), (s.blk.node g i).kind = 7 → privOp m (s.blk.node g i).record = 5 →
    s.blk.gate g i = .act → EdgesReach s.params s.blk m g i →
    let op := bits (recW m (s.blk.node g i).record 3) 7 0
    (op = 4 → ∃ b, exec (.traceCtl g i m) s = .next { s with blk := b } ∧ NodeEnds s.params m s.blk b g i Status.ok false
      ∧ b.trace.mask = BitVec.ofNat 64 (recW m (s.blk.node g i).record 4) ∧ b.trace.state = s.blk.trace.state
      ∧ b = { s.blk with mp := { s.blk.mp with errAddr := b.mp.errAddr, errInfo := b.mp.errInfo }
                         lanes := b.lanes, graph := b.graph, fences := b.fences
                         evc := { s.blk.evc with pend := b.evc.pend }, trace := b.trace })
    ∧ (op = 1 ∨ op = 2 → s.blk.trace.accepts op = true → ∃ b, exec (.traceCtl g i m) s = .next { s with blk := b }
      ∧ NodeEnds s.params m s.blk b g i Status.ok false ∧ b.trace.state = (if op = 1 then .armed else .stopped)
      ∧ b = { s.blk with mp := { s.blk.mp with errAddr := b.mp.errAddr, errInfo := b.mp.errInfo }
                         lanes := b.lanes, graph := b.graph, fences := b.fences
                         evc := { s.blk.evc with pend := b.evc.pend }, trace := b.trace })
    ∧ (op = 3 → s.blk.trace.accepts op = true → ∃ b, exec (.traceCtl g i m) s = .next { s with blk := b }
      ∧ NodeEnds s.params m s.blk b g i Status.ok false ∧ b.trace.state = .triggered
      ∧ b = { s.blk with mp := b.mp, lanes := b.lanes, graph := b.graph, fences := b.fences
                         evc := { s.blk.evc with pend := b.evc.pend }, trace := b.trace })
    ∧ (op ≠ 4 → s.blk.trace.accepts op = false → ∃ b, exec (.traceCtl g i m) s = .next { s with blk := b }
      ∧ NodeEnds s.params m s.blk b g i Status.mismatch false ∧ b.trace.rej = true ∧ b.trace.state = s.blk.trace.state
      ∧ b = { s.blk with mp := { s.blk.mp with errAddr := b.mp.errAddr, errInfo := b.mp.errInfo }
                         lanes := b.lanes, graph := b.graph, fences := b.fences
                         evc := { s.blk.evc with pend := b.evc.pend }, trace := b.trace }))
  ∧ ∀ (s : State) (a : Acc) (d : BitVec 32), Performs s a .trcHead true →
    let t := s.blk.trace
    let t' := { t with head := d.toNat }
    let ok := d.toNat < 2 * t.nu ∧ t.between t.tail d.toNat ≤ t.nu
    (¬ ok → exec (.traceHeadWrite a d) s = .next (s.wrote .trcHead { s.blk with trace := { t with rej := true } }))
    ∧ (ok → t.loss = none ∨ t'.fits 2 = false →
      exec (.traceHeadWrite a d) s = .next (s.wrote .trcHead { s.blk with trace := t' }))
    ∧ ∀ l, t.loss = some l → ok → t'.fits 2 = true → t.pad 2 = 0 → ∃ b n,
      exec (.traceHeadWrite a d) s = .next (s.wrote .trcHead b)
      ∧ b.trace = { t' with
          loss := none, unacked := t.unacked ++ [{ pos := t.pos, units := 2, left := n, trig := false }] }
      ∧ b.mp = (s.blk.put 63 3 (t.addr + 16 * (t.pos % t.nu)) (wordsBytes (l.words ++ [0])) (.traceRec t.pos)).mp
      ∧ b = { s.blk with mp := b.mp, trace := b.trace }

/-- R490, R492, R495, R496: stops. HALT, accepted only in RUN, starts a stop of every partition: a new epoch, a CTL
HALT to each active Bead in RUN that is not fenced off, every quantum paused. The stop is complete once each Bead of
its scope has reported and nothing of it acts: source 12 is raised, and a stop that freezes has its lanes turned to
FREEZE; once those have dumped what they hold, the block is FROZEN. RESUME during the stop waits for its end; after
it, it turns frozen lanes back to RUN first, and then resumes Beads, breakpoints and quanta. Any other command sets
REJ. Some clauses also rest on the model's choices of logs 46, 113 and 114. -/
def Obligations.StopsHoldAndEnd : Prop :=
  (∀ (s : State) (a : Acc), Performs s a .lktCmd true →
    let rej := s.wrote .lktCmd { s.blk with lkt := { s.blk.lkt with rej := true } }
    let e := wrapAdd 32 s.blk.lkt.epoch 1
    (∀ f, s.blk.lkt.state = .run → ∃ b, exec (.halt a f) s = .next (s.wrote .lktCmd b)
      ∧ b.lkt = { s.blk.lkt with
          state := .stopping, kind := 2, epoch := e, pmask := 0xFFFF#16, freeze := f, rings := b.lkt.rings }
      ∧ (∀ n, b.pbead n = if n ∈ s.blk.setting.activeBeads ∧ (s.blk.pbead n).stop = 0 ∧ (s.blk.pbead n).state ≠ .fenced
          then { s.blk.pbead n with
            stop := if (s.blk.pbead n).frozen = true ∧ (s.blk.pbead n).reported = true then 2 else 1 }
          else s.blk.pbead n)
      ∧ (∀ q, b.part q = if q < 16 then { s.blk.part q with paused := some ((s.blk.part q).paused.getD s.blk.now) }
          else s.blk.part q)
      ∧ (s.blk.setting.activeBeads.Nodup → b.lanes = (s.blk.setting.activeBeads.foldl (fun x n =>
          if (s.blk.pbead n).stop = 0 then x.sendDown s.params n (ctlRec s.params n 1 e) else x) s.blk).lanes)
      ∧ b = { s.blk with lanes := b.lanes, lkt := b.lkt,
                         parts := { s.blk.parts with parts := b.parts.parts, beads := b.parts.beads } })
    ∧ (∀ f, s.blk.lkt.state ≠ .run → exec (.halt a f) s = .next rej)
    ∧ (s.blk.lkt.state = .stopping → exec (.resume a) s = .next (s.wrote .lktCmd { s.blk with
        lkt := { s.blk.lkt with resumeDue := true } }))
    ∧ (s.blk.lkt.state = .run → exec (.resume a) s = .next rej)
    ∧ ((s.blk.lkt.state = .stopped ∨ s.blk.lkt.state = .frozen) → (∀ t, t ∈ s.blk.lanes → t.2.frozen = false) →
      ∃ b, exec (.resume a) s = .next (s.wrote .lktCmd b)
      ∧ b.lkt = { s.blk.lkt with
          state := .run, kind := 0, pmask := 0, breakV := false, freeze := false, resumeDue := false, resuming := false
          stops := b.lkt.stops, rings := b.lkt.rings }
      ∧ (∀ n, b.pbead n = if n < s.params.nBeads then { s.blk.pbead n with stop := 0 } else s.blk.pbead n)
      ∧ (∀ g, b.sub g = (s.blk.sub g).resume)
      ∧ (∀ q, q < 16 → b.part q = { s.blk.part q with
          paused := none
          since := match (s.blk.part q).paused with
            | none => (s.blk.part q).since
            | some t => (s.blk.part q).since + (s.blk.now - max t (s.blk.part q).since) })
      ∧ b = { s.blk with mp := b.mp, lanes := b.lanes, front := b.front, link := b.link, parts := b.parts,
                         graph := { s.blk.graph with subs := b.graph.subs },
                         evc := { s.blk.evc with pend := b.evc.pend }, trace := b.trace, lkt := b.lkt })
    ∧ ((s.blk.lkt.state = .stopped ∨ s.blk.lkt.state = .frozen) → Tab.wf {} s.blk.lanes = true →
      (∃ t, t ∈ s.blk.lanes ∧ t.2.frozen = true) → ∃ b, exec (.resume a) s = .next (s.wrote .lktCmd b)
      ∧ b.lkt = { s.blk.lkt with resuming := true, freeze := false, resumeDue := false }
      ∧ (∀ l, b.lane l = (s.blk.lane l).unfreeze)
      ∧ b = { s.blk with lanes := b.lanes, lkt := b.lkt })
    ∧ (∀ d : BitVec 32, d.getLsbD 0 = d.getLsbD 1 → exec (.lktCmdInvalid a d) s = .next rej))
  ∧ (∀ (s : State), s.blk.lkt.state = .stopping → s.blk.stopDone = true → s.blk.lkt.resumeDue = false →
    ∃ b, exec .stopComplete s = .next { s with blk := b }
      ∧ b.lkt = { s.blk.lkt with state := .stopped } ∧ b.evc.pends 12 = true
      ∧ (s.blk.lkt.freeze = false → b.lanes = s.blk.lanes)
      ∧ (s.blk.lkt.freeze = true → ∀ l, b.lane l = if l ∈ s.blk.activeLanes s.params
          then { s.blk.lane l with want := some 2, snapDone := false } else s.blk.lane l)
      ∧ b = { s.blk with lanes := b.lanes, evc := { s.blk.evc with pend := b.evc.pend }, trace := b.trace, lkt := b.lkt })
  ∧ (∀ (s : State), s.blk.lkt.state = .stopping → s.blk.stopDone = true → s.blk.lkt.resumeDue = true →
    (∀ t, t ∈ s.blk.lanes → t.2.frozen = false) → ∃ b, exec .stopComplete s = .next { s with blk := b }
      ∧ b.lkt.state = .run ∧ b.lkt.pmask = 0 ∧ b.evc.pends 12 = true)
  ∧ (∀ (s : State), s.blk.lkt.state ≠ .stopping ∨ s.blk.stopDone = false → exec .stopComplete s = .next s)
  ∧ ∀ (s : State),
    let done := s.blk.lkt.state = .stopped ∧ s.blk.lkt.freeze = true ∧ (∀ l, l ∈ s.blk.activeLanes s.params →
      (s.blk.lane l).clasp.phase = 2 ∧ (s.blk.lane l).snapDone = true) ∧ s.blk.mp.writesFor (· == .dump) = false
    (done → ∃ b, exec .freezeComplete s = .next { s with blk := b }
      ∧ b.lkt = { s.blk.lkt with state := .frozen } ∧ b.evc.pends 12 = true
      ∧ b = { s.blk with evc := { s.blk.evc with pend := b.evc.pend }, trace := b.trace, lkt := b.lkt })
    ∧ (¬ done → exec .freezeComplete s = .next s)

/-- R484, R485, R487 to R489, R491, R517: what a Bead does in a stop and at its end. CTL HALT leaves a Bead in RUN
stopping, with the epoch; a node with a breakpoint is held in WREADY and stops the Bead; a stopping Bead on which
nothing runs sends its stop report and is stopped; CTL RESUME lets it run, past the breakpoints it has reported; CTL
FENCE_OFF leaves it fenced off with the reset of every slot that holds a task asked for. The latch set of a submission
of which the Bead holds nothing more is closed by a RET with its count and one CTR for each of its counters. Both wait
while the crossing is full (R66). Some clauses also rest on the model's choices of logs 48, 113, 133 and 157. -/
def Obligations.BeadsStopAndReport : Prop :=
  (∀ (s : State) (n : Nat) (e : BitVec 32) (b0 : Block),
    ActsAtBead s.params s.blk n (ctlRec s.params n 1 e.toNat) b0 →
    ∃ b, exec (.ctlHalt n e) s = .next { s with blk := b }
      ∧ b.bead n = { s.blk.bead n with
          epoch := e.toNat, mode := if (s.blk.bead n).mode = .run then .stopping else (s.blk.bead n).mode }
      ∧ (∀ k, k ≠ n → b.bead k = s.blk.bead k)
      ∧ b = { s.blk with lanes := b0.lanes, beads := b.beads, lkt := b.lkt })
  ∧ (∀ (s : State) (n : Nat) (b0 : Block), ActsAtBead s.params s.blk n (ctlRec s.params n 2 0) b0 →
    ∃ b, exec (.ctlResume n) s = .next { s with blk := b }
      ∧ b.bead n = { s.blk.bead n with mode := .run, win := (b.bead n).win }
      ∧ (∀ w, b.win n w = (s.blk.win n w).resume) ∧ (∀ k, k ≠ n → b.bead k = s.blk.bead k)
      ∧ b = { s.blk with lanes := b0.lanes, beads := b.beads, lkt := b.lkt })
  ∧ (∀ (s : State) (n : Nat) (b0 : Block), ActsAtBead s.params s.blk n (ctlRec s.params n 4 0) b0 →
    ∃ b, exec (.ctlFenceOff n) s = .next { s with blk := b }
      ∧ b.bead n = { s.blk.bead n with fencedOff := true, slots := (b.bead n).slots }
      ∧ (∀ i, i ∈ (s.blk.bead n).busySlots → (b.slot n i).resetDue = true ∨ (b.slot n i).resetReq = true
          ∨ (b.slot n i).resetWait = true)
      ∧ (∀ i, i ∉ (s.blk.bead n).busySlots → b.slot n i = s.blk.slot n i) ∧ (∀ k, k ≠ n → b.bead k = s.blk.bead k)
      ∧ b = { s.blk with lanes := b0.lanes, beads := b.beads, lkt := b.lkt })
  ∧ (∀ (s : State) (n : Nat) (w : BitVec 12), (s.blk.win n w.toNat).used = true →
    (s.blk.win n w.toNat).state = .wready → (s.blk.win n w.toNat).broken = true →
    (s.blk.win n w.toNat).brkHeld = false → (s.blk.bead n).fencedOff = false →
    ∃ b, exec (.breakpointHold n w) s = .next { s with blk := b }
      ∧ b.win n w.toNat = { s.blk.win n w.toNat with brkHeld := true }
      ∧ (∀ k v, ¬ (k = n ∧ v = w.toNat) → b.win k v = s.blk.win k v)
      ∧ (b.bead n).mode = (if (s.blk.bead n).mode = .run then .stopping else (s.blk.bead n).mode)
      ∧ b = { s.blk with beads := b.beads, lkt := b.lkt })
  ∧ (∀ (s : State) (n : Nat), (s.blk.bead n).mode = .stopping → (s.blk.bead n).fencedOff = false →
    s.blk.beadQuiet n = true → (s.blk.bead n).drained = true → s.blk.roomUp s.params n = true →
    ∃ b, exec (.stopReportSend n) s = .next { s with blk := b }
      ∧ b.bead n = { s.blk.bead n with mode := .stopped, win := (b.bead n).win }
      ∧ (∀ w, b.win n w = if (s.blk.win n w).state = .wready ∧ (s.blk.win n w).broken = true
          then { s.blk.win n w with brkReported := true } else s.blk.win n w)
      ∧ (∀ k, k ≠ n → b.bead k = s.blk.bead k)
      ∧ b = { s.blk with lanes := (s.blk.sendUp s.params n (evtRec s.params n 12)).lanes, beads := b.beads, lkt := b.lkt })
  ∧ (∀ (s : State) (n g : Nat), s.blk.roomUp s.params n = false →
    exec (.stopReportSend n) s = .next s ∧ exec (.latchSetClose n g) s = .next s)
  ∧ ∀ (s : State) (n g : Nat), (s.blk.bead n).latchDone g = true → (s.blk.bead n).fencedOff = false →
    s.blk.roomUp s.params n = true →
    (∀ l, (s.blk.bead n).latches.find? (fun x => x.seg == g) = some l →
      ∃ b, exec (.latchSetClose n g) s = .next { s with blk := b }
      ∧ b.bead n = { s.blk.bead n with
          retCount := (b.bead n).retCount, latches := (s.blk.bead n).latches.filter (fun x => x.seg != g)
          lastSeg := l.seg, lastSgen := l.sgen, lastNctr := l.sums.length, lastSums := l.sums }
      ∧ (∀ k, tget 0 (b.bead n).retCount k = if k = g then 0 else tget 0 (s.blk.bead n).retCount k)
      ∧ (∀ k, k ≠ n → b.bead k = s.blk.bead k)
      ∧ b.lanes = (l.sums.foldl (fun x t => x.sendUp s.params n (ctrRec s.params n t.1 t.2)) (s.blk.sendUp s.params n
          (retRec s.params n g (tget 0 (s.blk.bead n).retCount g) true l.sums.length))).lanes
      ∧ b = { s.blk with lanes := b.lanes, beads := b.beads })
    ∧ ((s.blk.bead n).latches.find? (fun x => x.seg == g) = none → (s.blk.bead n).overflow.contains g = true →
      ∃ b, exec (.latchSetClose n g) s = .next { s with blk := b }
      ∧ (b.bead n).overflow = (s.blk.bead n).overflow.filter (fun x => x != g)
      ∧ (b.bead n).latches = (s.blk.bead n).latches
      ∧ b.lanes = (s.blk.sendUp s.params n
          (retRec s.params n g (tget 0 (s.blk.bead n).retCount g) true 0)).lanes
      ∧ b = { s.blk with lanes := b.lanes, beads := b.beads })

/-- R497 to R501: power domains. A switch-on is accepted only in OFF, a switch-off only in ON under the condition of
R497, any other command sets REJ, and a number with no domain is ignored. The fall of the acknowledge ends a
switch-off; its rise ends a switch-on, with the domain's contents as cold reset leaves them, but the core domain of an
active Bead waits for its sections, which the Clasp sends once. The loss of a Clasp domain leaves it OFF with LOST,
and the loss of LINK or of LANES abandons the submissions whose packets or records it held (the model's choice, logs
138, 160); the loss of a Bead domain fences the Bead off with CAUSE POWER, is recorded, and raises source 129 + 4b.
Some clauses also rest on the model's choices of logs 87, 88, 90 and 91. -/
def Obligations.DomainsSwitchAndReturn : Prop :=
  (∀ (s : State) (a : Acc) (d : Nat), Performs s a .pwrDomCmd true →
    let rej := s.wrote .pwrDomCmd (s.blk.modDom d fun x => { x with rej := true })
    (domains s.params ≤ d → exec (.domainOn a d) s = .next (s.wrote .pwrDomCmd s.blk)
      ∧ exec (.domainOff a d) s = .next (s.wrote .pwrDomCmd s.blk))
    ∧ (d < domains s.params → s.blk.onOk d = true → exec (.domainOn a d) s = .next (s.wrote .pwrDomCmd
        (s.blk.modDom d fun x => { x with state := .goingOn, req := true, rej := false, up := false })))
    ∧ (d < domains s.params → s.blk.onOk d = false → exec (.domainOn a d) s = .next rej)
    ∧ (d < domains s.params → (s.blk.dom d).state = .on → s.blk.offOk s.params d = true →
        exec (.domainOff a d) s = .next (s.wrote .pwrDomCmd
          (s.blk.modDom d fun x => { x with state := .goingOff, req := false, rej := false })))
    ∧ (d < domains s.params → (s.blk.dom d).state ≠ .on ∨ s.blk.offOk s.params d = false →
        exec (.domainOff a d) s = .next rej)
    ∧ (∀ op : BitVec 2, op = 0 ∨ op = 3 → exec (.domCmdInvalid a op d) s =
        .next (if domains s.params ≤ d then s.wrote .pwrDomCmd s.blk else rej)))
  ∧ (∀ (s : State) (d : Nat),
    ((s.blk.dom d).state = .goingOff → exec (.domainAckLow d) s = .next { s with blk := s.blk.modDom d fun x =>
      { x with state := .off, offcnt := wrapAdd 16 x.offcnt 1 } })
    ∧ ((s.blk.dom d).state ≠ .goingOff → exec (.domainAckLow d) s = .next s))
  ∧ (∀ (s : State) (d : Nat),
    ((s.blk.dom d).state ≠ .goingOn ∨ (s.blk.dom d).up = true → exec (.domainAckHigh d) s = .next s)
    ∧ ((s.blk.dom d).state = .goingOn → (s.blk.dom d).up = false →
      ∃ b, exec (.domainAckHigh d) s = .next { s with blk := b }
      ∧ b.dom d = (if 8 ≤ d ∧ d % 2 = 0 ∧ s.blk.beadActive ((d - 8) / 2) = true
            ∧ (s.blk.pbead ((d - 8) / 2)).state ≠ .fenced
          then { s.blk.dom d with up := true } else { s.blk.dom d with state := .on, waiting := false })
      ∧ (∀ k, k ≠ d → b.dom k = s.blk.dom k)
      ∧ (d = 2 → b.fences = {}) ∧ (d = 3 → b.seq = {}) ∧ (d = 5 → b.trace = {})
      ∧ (d = 6 → s.blk.link.poisons = [] → b.link = { s.blk.link with txq := [], hellos := [], sending := none })
      ∧ (d ≠ 2 → b.fences = s.blk.fences) ∧ (d ≠ 3 → b.seq = s.blk.seq) ∧ (d ≠ 5 → b.trace = s.blk.trace)
      ∧ (d ≠ 6 → b.link = s.blk.link)
      ∧ (∀ n, d = 8 + 2 * n → b.bead n = {} ∧ (b.pbead n).state ∈ [BState.disabled, BState.fenced]
          ∧ ((s.blk.pbead n).state ≠ .fenced → (b.pbead n).state = .disabled))
      ∧ (∀ n, d ≠ 8 + 2 * n → b.bead n = s.blk.bead n ∧ b.pbead n = s.blk.pbead n)
      ∧ (∀ n, d = 9 + 2 * n → b.saf n = {}) ∧ (∀ n, d ≠ 9 + 2 * n → b.saf n = s.blk.saf n ∧ b.chan n = s.blk.chan n)
      ∧ b = { s.blk with lanes := b.lanes, fences := b.fences, beads := b.beads, chans := b.chans, saffron := b.saffron,
                         seq := b.seq, link := b.link, parts := { s.blk.parts with beads := b.parts.beads },
                         experts := b.experts, trace := b.trace, lkt := b.lkt, power := b.power }))
  ∧ (∀ (s : State) (n : Nat), (s.blk.dom (8 + 2 * n)).up = true → tget 0 s.blk.loader.returns n = 0 →
    ∃ b, exec (.beadDomainReturn n) s = .next { s with blk := b }
      ∧ tget 0 b.loader.returns n = (s.blk.returnSections n).length
      ∧ b.lanes = ((s.blk.returnSections n).foldl (fun b r => b.sendSection s.params n r) s.blk).lanes
      ∧ b = { s.blk with lanes := b.lanes, loader := { s.blk.loader with returns := b.loader.returns } })
  ∧ (∀ (s : State) (n : Nat), (s.blk.dom (8 + 2 * n)).up = false ∨ tget 0 s.blk.loader.returns n ≠ 0 →
    exec (.beadDomainReturn n) s = .next s)
  ∧ ∀ (s : State) (d : Nat) (m : MemView), d ≠ 0 →
    (domains s.params ≤ d ∨ ((s.blk.dom d).state ≠ .on ∧ (s.blk.dom d).up = false) →
      exec (.domainLoss d m) s = .next s)
    ∧ (d < 8 → (s.blk.dom d).state = .on → ∃ b, exec (.domainLoss d m) s = .next { s with blk := b }
      ∧ b.dom d = { s.blk.dom d with lost := true, state := .off, req := false, up := false }
      ∧ (∀ k, k ≠ d → b.dom k = s.blk.dom k)
      ∧ (d = 2 → Tab.wf {} s.blk.fences.table = true → ∀ k, s.blk.fence k ≠ {} → (b.fence k).state = .poisoned
          ∧ (b.fence k).pstatus = Status.ecc ∧ (b.fence k).gen = 0 ∧ (b.fence k).pgen = 0)
      ∧ (d = 4 → ∀ g, (s.blk.sub g).live = true → (s.blk.sub g).audited = true → s.blk.over g = false →
          (b.sub g).abandoned ≠ none)
      ∧ (d = 6 → b.link = { s.blk.link with txq := [], hellos := [], sending := none, poisons := b.link.poisons }
          ∧ ∀ x, x ∈ s.blk.link.txq → ∀ g i, x.by' = .signalNode g (tget 0 s.blk.graph.sgen g) i →
            (s.blk.sub g).live = true → s.blk.over g = false → (b.sub g).abandoned ≠ none)
      ∧ (d = 7 → ∀ l, l < 24 → (b.lane l).started = false ∧ (b.lane l).clasp.rx = [] ∧ (b.lane l).clasp.msg = []
          ∧ (b.lane l).clasp.replay = []
          ∧ ∀ g, g ∈ s.blk.laneSubs s.params l → (s.blk.sub g).live = true → s.blk.over g = false →
            (b.sub g).abandoned ≠ none))
    ∧ (8 ≤ d → d < domains s.params → (s.blk.dom d).state = .on →
      ∃ b, exec (.domainLoss d m) s = .next { s with blk := b }
      ∧ b.dom d = { s.blk.dom d with lost := true, up := false }
      ∧ (∀ k, k ≠ d → (s.blk.dom k).up = false → b.dom k = s.blk.dom k)
      ∧ (b.pbead ((d - 8) / 2)).fence ≠ 0
      ∧ (∀ k, k ≠ (d - 8) / 2 → b.pbead k = s.blk.pbead k)
      ∧ (d % 2 = 0 → b.bead ((d - 8) / 2) = { fencedOff := true })
      ∧ (d % 2 = 1 → b.saf ((d - 8) / 2) = {} ∧ b.chan ((d - 8) / 2) = {})
      ∧ ((s.blk.pbead ((d - 8) / 2)).fence = 0 → (b.pbead ((d - 8) / 2)).state = .fenced
          ∧ (b.pbead ((d - 8) / 2)).cause = 3 ∧ b.evc.pends (129 + 4 * ((d - 8) / 2)) = true
          ∧ bit b.power.eccLog 63 = true
          ∧ (bit s.blk.power.eccLog 63 = false → fld b.power.eccLog 31 24 = 0xFF))
      ∧ ((s.blk.pbead ((d - 8) / 2)).fence ≠ 0 → b.evc = s.blk.evc ∧ b.power.eccLog = s.blk.power.eccLog))

/-- R72, R505, R506, R508 to R510: supply warnings. A rise outside cold reset, in NORMAL, starts an episode: FREEZING,
with its time, source 13, and a CTL HALT to every active Bead that is not fenced off and whose core domain is ON. When
every held Bead has reported, the state is FROZEN. The fall makes it RESUMING with the duration; once all held Beads
have reported, the episode is counted, source 13 raised, and the Beads resumed, and a warning that has risen again
starts a new one. A warning that outlasts HOLD_US sets EXPIRED and raises source 13, once. R53, R73, R505: what
follows pp_cold_rst_n: reset is released, ep_prefetch is sampled at levels that the model draws (the model's choice,
log 155), and `tp_req_ready` rises once storage is initialised; nothing else changes. Some clauses also rest on the
model's choices of logs 48, 92 and 97. -/
def Obligations.SupplyWarningsAndRelease : Prop :=
  ((∀ (s : State), s.blk.power.warnIn = true → exec .supplyWarnRise s = .next s)
  ∧ (∀ (s : State), s.blk.power.warnIn = false → (s.blk.inReset = true ∨ s.blk.power.warn ≠ .normal) →
    exec .supplyWarnRise s = .next { s with blk := { s.blk with power := { s.blk.power with warnIn := true } } })
  ∧ (∀ (s : State), s.blk.power.warnIn = false → s.blk.inReset = false → s.blk.power.warn = .normal →
    ∃ b, exec .supplyWarnRise s = .next { s with blk := b }
      ∧ b.power = { s.blk.power with warnIn := true, warn := .freezing, t0 := s.blk.now, expired := false }
      ∧ b.evc.pends 13 = true
      ∧ (∀ n, b.pbead n = if n ∈ s.blk.setting.activeBeads ∧ (s.blk.pbead n).frozen = false
            ∧ (s.blk.pbead n).state ≠ .fenced ∧ s.blk.beadActive n = true ∧ (s.blk.dom (8 + 2 * n)).state = .on
          then { s.blk.pbead n with frozen := true, reported := decide ((s.blk.pbead n).stop = 2) }
          else s.blk.pbead n)
      ∧ b = { s.blk with lanes := b.lanes, parts := { s.blk.parts with beads := b.parts.beads }
                         evc := { s.blk.evc with pend := b.evc.pend }, trace := b.trace, power := b.power })
  ∧ (∀ (s : State), s.blk.allReported = false ∨ s.blk.power.warn = .normal ∨ s.blk.power.warn = .frozen →
    exec .supplyFrozen s = .next s)
  ∧ (∀ (s : State), s.blk.allReported = true → s.blk.power.warn = .freezing →
    exec .supplyFrozen s = .next { s with blk := { s.blk with power := { s.blk.power with warn := .frozen } } })
  ∧ (∀ (s : State), s.blk.power.warnIn = false → exec .supplyWarnFall s = .next s)
  ∧ (∀ (s : State), s.blk.power.warnIn = true → s.blk.power.freezes = false →
    exec .supplyWarnFall s = .next { s with blk := { s.blk with power := { s.blk.power with warnIn := false } } })
  ∧ (∀ (s : State), s.blk.power.warnIn = true → s.blk.power.freezes = true → s.blk.allReported = false →
    exec .supplyWarnFall s = .next { s with blk := { s.blk with power := { s.blk.power with
      warnIn := false, warn := .resuming, durUs := min ((s.blk.now - s.blk.power.t0) / 1000) (2 ^ 32 - 1) } } })
  ∧ (∀ (s : State) (i : Instr), s.blk.allReported = true →
    (i = .supplyWarnFall ∧ s.blk.power.warnIn = true ∧ s.blk.power.freezes = true)
      ∨ (i = .supplyFrozen ∧ s.blk.power.warnIn = false ∧ s.blk.power.warn = .resuming) →
    ∃ b, exec i s = .next { s with blk := b }
      ∧ b.power = { s.blk.power with
          warnIn := false, warn := .normal, episodes := satAdd 16 s.blk.power.episodes 1
          durUs := if i = .supplyFrozen then s.blk.power.durUs
            else min ((s.blk.now - s.blk.power.t0) / 1000) (2 ^ 32 - 1) }
      ∧ b.evc.pends 13 = true
      ∧ (∀ n, b.pbead n = if n < s.params.nBeads ∧ (s.blk.pbead n).frozen = true
          then { s.blk.pbead n with frozen := false, reported := false } else s.blk.pbead n)
      ∧ b.lanes = ((List.range s.params.nBeads).foldl (fun x n =>
          if (s.blk.pbead n).frozen = true ∧ (s.blk.pbead n).stop = 0
          then x.sendDown s.params n (ctlRec s.params n 2 0) else x) s.blk).lanes
      ∧ b = { s.blk with lanes := b.lanes, parts := { s.blk.parts with beads := b.parts.beads }
                         evc := { s.blk.evc with pend := b.evc.pend }, trace := b.trace, power := b.power })
  ∧ (∀ (s : State), s.blk.allReported = true → s.blk.power.warn = .resuming → s.blk.power.warnIn = true →
    ∃ b, exec .supplyFrozen s = .next { s with blk := b }
      ∧ b.power = { s.blk.power with
          warn := .freezing, episodes := satAdd 16 s.blk.power.episodes 1, t0 := s.blk.now, expired := false }
      ∧ b.evc.pends 13 = true)
  ∧ ∀ (s : State),
    let late := s.blk.power.freezes = true ∧ s.blk.power.warnIn = true ∧ s.blk.power.expired = false
      ∧ s.blk.power.t0 + s.blk.power.holdUs.toNat * 1000 ≤ s.blk.now
    (late → ∃ b, exec .holdExpiry s = .next { s with blk := b }
      ∧ b.power = { s.blk.power with expired := true } ∧ b.evc.pends 13 = true
      ∧ b = { s.blk with power := b.power, evc := { s.blk.evc with pend := b.evc.pend }, trace := b.trace })
    ∧ (¬ late → exec .holdExpiry s = .next s))
  ∧ ((∀ s : State, s.blk.inReset = true → s.blk.power.warnIn = false →
    exec .coldResetRelease s = .next { s with blk := { s.blk with
      inReset := false, free := s.blk.free + s.params.nBeads
      prefetch := prefetchPins s.params (s.blk.drawWords s.params.nBeads).1 } })
  ∧ ∀ s : State, s.blk.inReset = false →
    exec .storageInitDone s = .next { s with tp := { s.tp with ready := true } })

/-- R238, R336, R354, R402, R513, R514: errors of the arrays. A corrected one is counted, and raises source 14 when
CORR_EV is 1. An uncorrectable one is counted, recorded in PWR_ECC_LOG, or as MORE behind the first, and announced by
source 14 or by the Bead's event; what the row held takes the outcome of its array: the list of a node from the
segment is read again, and abandons the submission where it is found bad (R209). A pass of the scrubber changes
nothing of itself, and CLR clears both counts. Some clauses also rest on the model's choices of logs 14, 93, 95 and
96. -/
def Obligations.ArrayErrorsTakeTheirOutcome : Prop :=
  (∀ (s : State) (u : Nat) (a : BitVec 8) (r : BitVec 24), s.blk.inReset = false →
    ∃ b, exec (.eccCorrectable u a r) s = .next { s with blk := b }
      ∧ b.power = { s.blk.power with corr := satAdd 32 s.blk.power.corr 1 }
      ∧ (s.blk.power.corrEv = true → Raised { s.blk with power := b.power } b 14)
      ∧ (s.blk.power.corrEv = false → b = { s.blk with power := b.power }))
  ∧ (∀ (s : State) (u : Nat) (a : BitVec 8) (r : BitVec 24) (h : EccHeld) (m : MemView), s.blk.inReset = false →
    u < 64 → ∃ b, exec (.eccUncorrectable u a r h m) s = .next { s with blk := b }
      ∧ b.power = { s.blk.power with uncorr := satAdd 32 s.blk.power.uncorr 1, eccLog := b.power.eccLog }
      ∧ (bit s.blk.power.eccLog 63 = true → b.power.eccLog = s.blk.power.eccLog ||| 0x4000000000000000#64)
      ∧ (bit s.blk.power.eccLog 63 = false → bit b.power.eccLog 63 = true ∧ fld b.power.eccLog 61 56 = u
          ∧ fld b.power.eccLog 31 24 = a.toNat ∧ fld b.power.eccLog 23 0 = r.toNat)
      ∧ (u = 63 → b.evc.pends 14 = true)
      ∧ (h = .none → a ≠ 0x14 → u ≠ 63 →
          b.lanes = (s.blk.sendUp s.params u (evtRec s.params u (129 + 4 * u))).lanes
          ∧ b = { s.blk with lanes := b.lanes, lkt := b.lkt, power := b.power })
      ∧ (∀ k, a = 2 → h = .fence k → (b.fence k).state = .poisoned ∧ (b.fence k).pstatus = Status.ecc
          ∧ (b.fence k).gen = 0 ∧ (b.fence k).pgen = 0 ∧ (∀ j, j ≠ k → b.fence j = s.blk.fence j)
          ∧ (∀ w, w ∈ s.blk.fences.waits → w.fence = k → (b.node w.seg w.index).outcome = some Status.ecc))
      ∧ (∀ k, a = 3 → h = .sequence k → (s.blk.seqEntry k).state ≠ .free →
          b.seqEntry k = { s.blk.seqEntry k with eccBad := true } ∧ ∀ j, j ≠ k → b.seqEntry j = s.blk.seqEntry j)
      ∧ (∀ c k, a = 4 → h = .completion c k → (b.cq c).held = (s.blk.cq c).held.zipIdx.map fun t =>
          if t.2 = k then { t.1 with status := Status.ecc, eccBad := true } else t.1)
      ∧ (∀ g, a = 5 → h = .submission g → (s.blk.sub g).live = true → s.blk.over g = false →
          (s.blk.sub g).abandoned = none → (b.sub g).abandoned = some Status.ecc)
      ∧ (∀ w, a = 0x10 ∨ a = 0x11 → h = .window w → (s.blk.win u w).used = true → (s.blk.bead u).tileOf w = none →
          ((s.blk.win u w).state = .issued → b.win u w = { s.blk.win u w with eccBad := true })
          ∧ ((s.blk.win u w).state = .window ∨ (s.blk.win u w).state = .wready →
              (b.win u w).state = .leaving ∧ (b.win u w).released = true ∧ (b.win u w).final = Status.ecc))
      ∧ (∀ x, (s.blk.saf u).exp = some x → a = 0x14 → b.saf u = { s.blk.saf u with
          errV := true, errCause := 9, errPc := (s.blk.saf u).pc % 4096
          exp := some { x with fail := some Status.ecc, stage := .retiring } })
      ∧ (∀ q k, a = 0x13 → h = .queueWord q k → ∀ j, tget {} (b.rx u q).words j =
          if j = k % 64 then { tget {} (s.blk.rx u q).words j with bad := true } else tget {} (s.blk.rx u q).words j))
  ∧ (∀ (s : State) (u : Nat) (r : BitVec 24) (g i : Nat) (m : MemView), s.blk.inReset = false →
    (s.blk.sub g).live = true → (s.blk.sub g).abandoned = none → (s.blk.node g i).used = true →
    (s.blk.node g i).state ≠ .forwarded → (s.blk.node g i).spilled = false →
    ∃ b, exec (.eccUncorrectable u 1 r (.nodeEntry g i) m) s = .next { s with blk := b } ∧ i ∈ (b.sub g).gone)
  ∧ (∀ (s : State) (u : Nat) (r : BitVec 24) (g i : Nat) (m : MemView), s.blk.inReset = false →
    (s.blk.sub g).live = true → (s.blk.sub g).abandoned = none → s.blk.over g = false → (s.blk.node g i).used = true →
    (s.blk.node g i).resolved = true → (s.blk.node g i).spilled = false →
    ∃ b, exec (.eccUncorrectable u 1 r (.edgeEntry g i) m) s = .next { s with blk := b }
      ∧ (i < (s.blk.sub g).nnodes → (readSuccs s.blk m g i).status = Status.ok → b.graph = s.blk.graph)
      ∧ (i < (s.blk.sub g).nnodes → (readSuccs s.blk m g i).status ≠ Status.ok →
          (b.sub g).abandoned = some (readSuccs s.blk m g i).status)
      ∧ ((s.blk.sub g).nnodes ≤ i → (b.sub g).abandoned = some Status.ecc))
  ∧ (∀ (s : State), exec .scrub s = .next s)
  ∧ ∀ (s : State) (a : Acc), Performs s a .pwrEccCtl true →
    exec (.eccClr a) s = .next (s.wrote .pwrEccCtl { s.blk with power := { s.blk.power with uncorr := 0, corr := 0 } })

end
end

