-- ==== Sys2Proof/Laws/Tables.lean ====
section
/-! SUPPORT. The laws of sparse tables: what a table holds after a write, and the canonical form. -/

-- theorem after theorem, which bounds the memory of the compile
set_option Elab.async false

namespace Sys2Proof.Machine

variable {α : Type} [DecidableEq α] {d : α}

/-- A read after a write: the written entry at its index, the old entry elsewhere. -/
theorem tget_tset (t : Tab α) (i k : Nat) (a : α) : tget d (tset d t i a) k = if i = k then a else tget d t k := by
  induction t with
  | nil =>
      by_cases h : a = d
      · by_cases hk : i = k <;> simp [tset, tget, h, hk]
      · by_cases hk : i = k <;> simp [tset, tget, h, hk]
  | cons p t ih =>
      obtain ⟨j, b⟩ := p
      by_cases h1 : j < i
      · rw [show tset d ((j, b) :: t) i a = (j, b) :: tset d t i a by simp [tset, h1]]
        simp only [tget, ih]
        by_cases h3 : j = k
        · have hk : i ≠ k := by omega
          simp [h3, hk]
        · simp [h3]
      · by_cases h2 : j = i
        · subst h2
          by_cases ha : a = d
          · rw [show tset d ((j, b) :: t) j a = tset d t j a by simp [tset, ha], ih]
            by_cases hk : j = k <;> simp [tget, hk]
          · rw [show tset d ((j, b) :: t) j a = (j, a) :: t by simp [tset, ha]]
            by_cases hk : j = k <;> simp [tget, hk]
        · by_cases ha : a = d
          · rw [show tset d ((j, b) :: t) i a = (j, b) :: tset d t i a by simp [tset, h1, h2, ha]]
            simp only [tget, ih]
            by_cases h3 : j = k
            · have hk : i ≠ k := by omega
              simp [h3, hk]
            · simp [h3]
          · rw [show tset d ((j, b) :: t) i a = (i, a) :: (j, b) :: t by simp [tset, h1, h2, ha]]
            by_cases hk : i = k <;> simp [tget, hk]

/-- A read of the index just written. -/
@[simp] theorem tget_tset_self (t : Tab α) (i : Nat) (a : α) : tget d (tset d t i a) i = a := by
  rw [tget_tset]; simp

/-- A write leaves every other index alone. -/
theorem tget_tset_ne (t : Tab α) {i k : Nat} (a : α) (h : i ≠ k) : tget d (tset d t i a) k = tget d t k := by
  rw [tget_tset]; simp [h]

/-- A change of the entry at an index. -/
@[simp] theorem tget_tmod_self (t : Tab α) (i : Nat) (f : α → α) : tget d (tmod d t i f) i = f (tget d t i) := by
  simp [tmod]

/-- A change leaves every other index alone. -/
theorem tget_tmod_ne (t : Tab α) {i k : Nat} (f : α → α) (h : i ≠ k) : tget d (tmod d t i f) k = tget d t k := by
  simp [tmod, tget_tset_ne _ _ h]

/-- What a change does at every index. -/
theorem tget_tmod (t : Tab α) (i k : Nat) (f : α → α) :
    tget d (tmod d t i f) k = if i = k then f (tget d t k) else tget d t k := by
  rw [tmod, tget_tset]; split <;> simp_all

/-! ## The canonical form -/

/-- The indices of a table after a write are old ones or the written one. -/
theorem tset_all (P : Nat × α → Bool) (t : Tab α) (i : Nat) (a : α) (ht : t.all P) (ha : P (i, a)) :
    (tset d t i a).all P := by
  induction t with
  | nil => simp only [tset]; split <;> simp [ha]
  | cons p t ih =>
      obtain ⟨j, b⟩ := p
      simp only [List.all_cons, Bool.and_eq_true] at ht
      simp only [tset]
      split
      · simp [ht.1, ih ht.2]
      · split
        · split
          · exact ih ht.2
          · simp [ha, ht.2]
        · split
          · simp [ht.1, ih ht.2]
          · simp [ha, ht.1, ht.2]

/-- The empty table is in canonical form. -/
@[simp] theorem wf_nil : Tab.wf d ([] : Tab α) = true := rfl

/-- A write of the reset entry where every index is higher changes nothing. -/
theorem tset_reset (t : Tab α) (i : Nat) (h : t.all (fun p => decide (i < p.1))) : tset d t i d = t := by
  induction t with
  | nil => simp [tset]
  | cons p t ih =>
      obtain ⟨j, b⟩ := p
      simp only [List.all_cons, Bool.and_eq_true, decide_eq_true_eq] at h
      have h1 : ¬ j < i := by omega
      have h2 : ¬ j = i := by omega
      simp [tset, h1, h2, ih h.2]

/-- A write keeps the canonical form. -/
theorem wf_tset (t : Tab α) (i : Nat) (a : α) (h : Tab.wf d t = true) : Tab.wf d (tset d t i a) = true := by
  induction t with
  | nil => simp only [tset]; split <;> simp_all [Tab.wf]
  | cons p t ih =>
      obtain ⟨j, b⟩ := p
      simp only [Tab.wf, Bool.and_eq_true, decide_eq_true_eq] at h
      obtain ⟨⟨hb, hall⟩, ht⟩ := h
      simp only [tset]
      split
      · rename_i h1
        have := tset_all (d := d) (fun p => decide (j < p.1)) t i a hall (by simp [h1])
        simp [Tab.wf, hb, this, ih ht]
      · split
        · rename_i h1 h2
          subst h2
          split
          · rename_i ha
            subst ha
            rw [tset_reset t j hall]
            exact ht
          · rename_i ha
            simp [Tab.wf, ha, hall, ht]
        · rename_i h1 h2
          have hlt : i < j := by omega
          have hall' : t.all (fun p => decide (i < p.1)) := by
            rw [List.all_eq_true] at hall ⊢
            intro x hx
            have := hall x hx
            simp only [decide_eq_true_eq] at this ⊢
            omega
          split
          · rename_i ha
            subst ha
            rw [tset_reset t i hall']
            simp [Tab.wf, hb, hall, ht]
          · rename_i ha
            simp [Tab.wf, ha, hb, hall, ht, hlt, hall']

/-- A change of an entry keeps the canonical form. -/
theorem wf_tmod (t : Tab α) (i : Nat) (f : α → α) (h : Tab.wf d t = true) : Tab.wf d (tmod d t i f) = true :=
  wf_tset t i _ h

end Sys2Proof.Machine
end

