-- ==== Sys2Proof/Laws/State.lean ====
section
/-! SUPPORT. The laws of the block's updates: a change of a table's entry leaves every other field of the block
alone, an entry reads as it was changed, and the other entries of its table read as before. -/

-- theorem after theorem, which bounds the memory of the compile
set_option Elab.async false

namespace Sys2Proof.Machine

/-! ### modQueue -/

@[simp] theorem Block.modQueue_now (b : Block) (q : Nat) (f : Queue → Queue) : (b.modQueue q f).now = b.now := rfl
@[simp] theorem Block.modQueue_inReset (b : Block) (q : Nat) (f : Queue → Queue) : (b.modQueue q f).inReset = b.inReset := rfl
@[simp] theorem Block.modQueue_free (b : Block) (q : Nat) (f : Queue → Queue) : (b.modQueue q f).free = b.free := rfl
@[simp] theorem Block.modQueue_refilled (b : Block) (q : Nat) (f : Queue → Queue) : (b.modQueue q f).refilled = b.refilled := rfl
@[simp] theorem Block.modQueue_prefetch (b : Block) (q : Nat) (f : Queue → Queue) : (b.modQueue q f).prefetch = b.prefetch := rfl
@[simp] theorem Block.modQueue_tpStatus (b : Block) (q : Nat) (f : Queue → Queue) : (b.modQueue q f).tpStatus = b.tpStatus := rfl
@[simp] theorem Block.modQueue_mp (b : Block) (q : Nat) (f : Queue → Queue) : (b.modQueue q f).mp = b.mp := rfl
@[simp] theorem Block.modQueue_loader (b : Block) (q : Nat) (f : Queue → Queue) : (b.modQueue q f).loader = b.loader := rfl
@[simp] theorem Block.modQueue_setting (b : Block) (q : Nat) (f : Queue → Queue) : (b.modQueue q f).setting = b.setting := rfl
@[simp] theorem Block.modQueue_lanes (b : Block) (q : Nat) (f : Queue → Queue) : (b.modQueue q f).lanes = b.lanes := rfl
@[simp] theorem Block.modQueue_graph (b : Block) (q : Nat) (f : Queue → Queue) : (b.modQueue q f).graph = b.graph := rfl
@[simp] theorem Block.modQueue_fences (b : Block) (q : Nat) (f : Queue → Queue) : (b.modQueue q f).fences = b.fences := rfl
@[simp] theorem Block.modQueue_beads (b : Block) (q : Nat) (f : Queue → Queue) : (b.modQueue q f).beads = b.beads := rfl
@[simp] theorem Block.modQueue_chans (b : Block) (q : Nat) (f : Queue → Queue) : (b.modQueue q f).chans = b.chans := rfl
@[simp] theorem Block.modQueue_saffron (b : Block) (q : Nat) (f : Queue → Queue) : (b.modQueue q f).saffron = b.saffron := rfl
@[simp] theorem Block.modQueue_seq (b : Block) (q : Nat) (f : Queue → Queue) : (b.modQueue q f).seq = b.seq := rfl
@[simp] theorem Block.modQueue_cqs (b : Block) (q : Nat) (f : Queue → Queue) : (b.modQueue q f).cqs = b.cqs := rfl
@[simp] theorem Block.modQueue_link (b : Block) (q : Nat) (f : Queue → Queue) : (b.modQueue q f).link = b.link := rfl
@[simp] theorem Block.modQueue_parts (b : Block) (q : Nat) (f : Queue → Queue) : (b.modQueue q f).parts = b.parts := rfl
@[simp] theorem Block.modQueue_evc (b : Block) (q : Nat) (f : Queue → Queue) : (b.modQueue q f).evc = b.evc := rfl
@[simp] theorem Block.modQueue_experts (b : Block) (q : Nat) (f : Queue → Queue) : (b.modQueue q f).experts = b.experts := rfl
@[simp] theorem Block.modQueue_audit (b : Block) (q : Nat) (f : Queue → Queue) : (b.modQueue q f).audit = b.audit := rfl
@[simp] theorem Block.modQueue_trace (b : Block) (q : Nat) (f : Queue → Queue) : (b.modQueue q f).trace = b.trace := rfl
@[simp] theorem Block.modQueue_lkt (b : Block) (q : Nat) (f : Queue → Queue) : (b.modQueue q f).lkt = b.lkt := rfl
@[simp] theorem Block.modQueue_power (b : Block) (q : Nat) (f : Queue → Queue) : (b.modQueue q f).power = b.power := rfl

/-- What `modQueue` does to every entry. -/
theorem Block.queue_modQueue (b : Block) (q k : Nat) (f : Queue → Queue) :
    (b.modQueue q f).queue k = if q = k then f (b.queue k) else b.queue k := tget_tmod _ q k f
@[simp] theorem Block.queue_modQueue_self (b : Block) (q : Nat) (f : Queue → Queue) : (b.modQueue q f).queue q = f (b.queue q) := by
  simp [Block.queue_modQueue]
theorem Block.queue_modQueue_ne (b : Block) {q k : Nat} (f : Queue → Queue) (h : q ≠ k) : (b.modQueue q f).queue k = b.queue k := by
  simp [Block.queue_modQueue, h]

/-! ### modHws -/

@[simp] theorem Block.modHws_now (b : Block) (q : Nat) (f : Hws → Hws) : (b.modHws q f).now = b.now := rfl
@[simp] theorem Block.modHws_inReset (b : Block) (q : Nat) (f : Hws → Hws) : (b.modHws q f).inReset = b.inReset := rfl
@[simp] theorem Block.modHws_free (b : Block) (q : Nat) (f : Hws → Hws) : (b.modHws q f).free = b.free := rfl
@[simp] theorem Block.modHws_refilled (b : Block) (q : Nat) (f : Hws → Hws) : (b.modHws q f).refilled = b.refilled := rfl
@[simp] theorem Block.modHws_prefetch (b : Block) (q : Nat) (f : Hws → Hws) : (b.modHws q f).prefetch = b.prefetch := rfl
@[simp] theorem Block.modHws_tpStatus (b : Block) (q : Nat) (f : Hws → Hws) : (b.modHws q f).tpStatus = b.tpStatus := rfl
@[simp] theorem Block.modHws_mp (b : Block) (q : Nat) (f : Hws → Hws) : (b.modHws q f).mp = b.mp := rfl
@[simp] theorem Block.modHws_loader (b : Block) (q : Nat) (f : Hws → Hws) : (b.modHws q f).loader = b.loader := rfl
@[simp] theorem Block.modHws_setting (b : Block) (q : Nat) (f : Hws → Hws) : (b.modHws q f).setting = b.setting := rfl
@[simp] theorem Block.modHws_lanes (b : Block) (q : Nat) (f : Hws → Hws) : (b.modHws q f).lanes = b.lanes := rfl
@[simp] theorem Block.modHws_graph (b : Block) (q : Nat) (f : Hws → Hws) : (b.modHws q f).graph = b.graph := rfl
@[simp] theorem Block.modHws_fences (b : Block) (q : Nat) (f : Hws → Hws) : (b.modHws q f).fences = b.fences := rfl
@[simp] theorem Block.modHws_beads (b : Block) (q : Nat) (f : Hws → Hws) : (b.modHws q f).beads = b.beads := rfl
@[simp] theorem Block.modHws_chans (b : Block) (q : Nat) (f : Hws → Hws) : (b.modHws q f).chans = b.chans := rfl
@[simp] theorem Block.modHws_saffron (b : Block) (q : Nat) (f : Hws → Hws) : (b.modHws q f).saffron = b.saffron := rfl
@[simp] theorem Block.modHws_seq (b : Block) (q : Nat) (f : Hws → Hws) : (b.modHws q f).seq = b.seq := rfl
@[simp] theorem Block.modHws_cqs (b : Block) (q : Nat) (f : Hws → Hws) : (b.modHws q f).cqs = b.cqs := rfl
@[simp] theorem Block.modHws_link (b : Block) (q : Nat) (f : Hws → Hws) : (b.modHws q f).link = b.link := rfl
@[simp] theorem Block.modHws_parts (b : Block) (q : Nat) (f : Hws → Hws) : (b.modHws q f).parts = b.parts := rfl
@[simp] theorem Block.modHws_evc (b : Block) (q : Nat) (f : Hws → Hws) : (b.modHws q f).evc = b.evc := rfl
@[simp] theorem Block.modHws_experts (b : Block) (q : Nat) (f : Hws → Hws) : (b.modHws q f).experts = b.experts := rfl
@[simp] theorem Block.modHws_audit (b : Block) (q : Nat) (f : Hws → Hws) : (b.modHws q f).audit = b.audit := rfl
@[simp] theorem Block.modHws_trace (b : Block) (q : Nat) (f : Hws → Hws) : (b.modHws q f).trace = b.trace := rfl
@[simp] theorem Block.modHws_lkt (b : Block) (q : Nat) (f : Hws → Hws) : (b.modHws q f).lkt = b.lkt := rfl
@[simp] theorem Block.modHws_power (b : Block) (q : Nat) (f : Hws → Hws) : (b.modHws q f).power = b.power := rfl

/-- What `modHws` does to every entry. -/
theorem Block.hws_modHws (b : Block) (q k : Nat) (f : Hws → Hws) :
    (b.modHws q f).hws k = if q = k then f (b.hws k) else b.hws k := tget_tmod _ q k f
@[simp] theorem Block.hws_modHws_self (b : Block) (q : Nat) (f : Hws → Hws) : (b.modHws q f).hws q = f (b.hws q) := by
  simp [Block.hws_modHws]
theorem Block.hws_modHws_ne (b : Block) {q k : Nat} (f : Hws → Hws) (h : q ≠ k) : (b.modHws q f).hws k = b.hws k := by
  simp [Block.hws_modHws, h]

/-! ### modSub -/

@[simp] theorem Block.modSub_now (b : Block) (q : Nat) (f : Sub → Sub) : (b.modSub q f).now = b.now := rfl
@[simp] theorem Block.modSub_inReset (b : Block) (q : Nat) (f : Sub → Sub) : (b.modSub q f).inReset = b.inReset := rfl
@[simp] theorem Block.modSub_free (b : Block) (q : Nat) (f : Sub → Sub) : (b.modSub q f).free = b.free := rfl
@[simp] theorem Block.modSub_refilled (b : Block) (q : Nat) (f : Sub → Sub) : (b.modSub q f).refilled = b.refilled := rfl
@[simp] theorem Block.modSub_prefetch (b : Block) (q : Nat) (f : Sub → Sub) : (b.modSub q f).prefetch = b.prefetch := rfl
@[simp] theorem Block.modSub_tpStatus (b : Block) (q : Nat) (f : Sub → Sub) : (b.modSub q f).tpStatus = b.tpStatus := rfl
@[simp] theorem Block.modSub_mp (b : Block) (q : Nat) (f : Sub → Sub) : (b.modSub q f).mp = b.mp := rfl
@[simp] theorem Block.modSub_loader (b : Block) (q : Nat) (f : Sub → Sub) : (b.modSub q f).loader = b.loader := rfl
@[simp] theorem Block.modSub_setting (b : Block) (q : Nat) (f : Sub → Sub) : (b.modSub q f).setting = b.setting := rfl
@[simp] theorem Block.modSub_lanes (b : Block) (q : Nat) (f : Sub → Sub) : (b.modSub q f).lanes = b.lanes := rfl
@[simp] theorem Block.modSub_front (b : Block) (q : Nat) (f : Sub → Sub) : (b.modSub q f).front = b.front := rfl
@[simp] theorem Block.modSub_fences (b : Block) (q : Nat) (f : Sub → Sub) : (b.modSub q f).fences = b.fences := rfl
@[simp] theorem Block.modSub_beads (b : Block) (q : Nat) (f : Sub → Sub) : (b.modSub q f).beads = b.beads := rfl
@[simp] theorem Block.modSub_chans (b : Block) (q : Nat) (f : Sub → Sub) : (b.modSub q f).chans = b.chans := rfl
@[simp] theorem Block.modSub_saffron (b : Block) (q : Nat) (f : Sub → Sub) : (b.modSub q f).saffron = b.saffron := rfl
@[simp] theorem Block.modSub_seq (b : Block) (q : Nat) (f : Sub → Sub) : (b.modSub q f).seq = b.seq := rfl
@[simp] theorem Block.modSub_cqs (b : Block) (q : Nat) (f : Sub → Sub) : (b.modSub q f).cqs = b.cqs := rfl
@[simp] theorem Block.modSub_link (b : Block) (q : Nat) (f : Sub → Sub) : (b.modSub q f).link = b.link := rfl
@[simp] theorem Block.modSub_parts (b : Block) (q : Nat) (f : Sub → Sub) : (b.modSub q f).parts = b.parts := rfl
@[simp] theorem Block.modSub_evc (b : Block) (q : Nat) (f : Sub → Sub) : (b.modSub q f).evc = b.evc := rfl
@[simp] theorem Block.modSub_experts (b : Block) (q : Nat) (f : Sub → Sub) : (b.modSub q f).experts = b.experts := rfl
@[simp] theorem Block.modSub_audit (b : Block) (q : Nat) (f : Sub → Sub) : (b.modSub q f).audit = b.audit := rfl
@[simp] theorem Block.modSub_trace (b : Block) (q : Nat) (f : Sub → Sub) : (b.modSub q f).trace = b.trace := rfl
@[simp] theorem Block.modSub_lkt (b : Block) (q : Nat) (f : Sub → Sub) : (b.modSub q f).lkt = b.lkt := rfl
@[simp] theorem Block.modSub_power (b : Block) (q : Nat) (f : Sub → Sub) : (b.modSub q f).power = b.power := rfl

/-- What `modSub` does to every entry. -/
theorem Block.sub_modSub (b : Block) (q k : Nat) (f : Sub → Sub) :
    (b.modSub q f).sub k = if q = k then f (b.sub k) else b.sub k := tget_tmod _ q k f
@[simp] theorem Block.sub_modSub_self (b : Block) (q : Nat) (f : Sub → Sub) : (b.modSub q f).sub q = f (b.sub q) := by
  simp [Block.sub_modSub]
theorem Block.sub_modSub_ne (b : Block) {q k : Nat} (f : Sub → Sub) (h : q ≠ k) : (b.modSub q f).sub k = b.sub k := by
  simp [Block.sub_modSub, h]

/-! ### modNode -/

@[simp] theorem Block.modNode_now (b : Block) (q w : Nat) (f : Node → Node) : (b.modNode q w f).now = b.now := rfl
@[simp] theorem Block.modNode_inReset (b : Block) (q w : Nat) (f : Node → Node) : (b.modNode q w f).inReset = b.inReset := rfl
@[simp] theorem Block.modNode_free (b : Block) (q w : Nat) (f : Node → Node) : (b.modNode q w f).free = b.free := rfl
@[simp] theorem Block.modNode_refilled (b : Block) (q w : Nat) (f : Node → Node) : (b.modNode q w f).refilled = b.refilled := rfl
@[simp] theorem Block.modNode_prefetch (b : Block) (q w : Nat) (f : Node → Node) : (b.modNode q w f).prefetch = b.prefetch := rfl
@[simp] theorem Block.modNode_tpStatus (b : Block) (q w : Nat) (f : Node → Node) : (b.modNode q w f).tpStatus = b.tpStatus := rfl
@[simp] theorem Block.modNode_mp (b : Block) (q w : Nat) (f : Node → Node) : (b.modNode q w f).mp = b.mp := rfl
@[simp] theorem Block.modNode_loader (b : Block) (q w : Nat) (f : Node → Node) : (b.modNode q w f).loader = b.loader := rfl
@[simp] theorem Block.modNode_setting (b : Block) (q w : Nat) (f : Node → Node) : (b.modNode q w f).setting = b.setting := rfl
@[simp] theorem Block.modNode_lanes (b : Block) (q w : Nat) (f : Node → Node) : (b.modNode q w f).lanes = b.lanes := rfl
@[simp] theorem Block.modNode_front (b : Block) (q w : Nat) (f : Node → Node) : (b.modNode q w f).front = b.front := rfl
@[simp] theorem Block.modNode_fences (b : Block) (q w : Nat) (f : Node → Node) : (b.modNode q w f).fences = b.fences := rfl
@[simp] theorem Block.modNode_beads (b : Block) (q w : Nat) (f : Node → Node) : (b.modNode q w f).beads = b.beads := rfl
@[simp] theorem Block.modNode_chans (b : Block) (q w : Nat) (f : Node → Node) : (b.modNode q w f).chans = b.chans := rfl
@[simp] theorem Block.modNode_saffron (b : Block) (q w : Nat) (f : Node → Node) : (b.modNode q w f).saffron = b.saffron := rfl
@[simp] theorem Block.modNode_seq (b : Block) (q w : Nat) (f : Node → Node) : (b.modNode q w f).seq = b.seq := rfl
@[simp] theorem Block.modNode_cqs (b : Block) (q w : Nat) (f : Node → Node) : (b.modNode q w f).cqs = b.cqs := rfl
@[simp] theorem Block.modNode_link (b : Block) (q w : Nat) (f : Node → Node) : (b.modNode q w f).link = b.link := rfl
@[simp] theorem Block.modNode_parts (b : Block) (q w : Nat) (f : Node → Node) : (b.modNode q w f).parts = b.parts := rfl
@[simp] theorem Block.modNode_evc (b : Block) (q w : Nat) (f : Node → Node) : (b.modNode q w f).evc = b.evc := rfl
@[simp] theorem Block.modNode_experts (b : Block) (q w : Nat) (f : Node → Node) : (b.modNode q w f).experts = b.experts := rfl
@[simp] theorem Block.modNode_audit (b : Block) (q w : Nat) (f : Node → Node) : (b.modNode q w f).audit = b.audit := rfl
@[simp] theorem Block.modNode_trace (b : Block) (q w : Nat) (f : Node → Node) : (b.modNode q w f).trace = b.trace := rfl
@[simp] theorem Block.modNode_lkt (b : Block) (q w : Nat) (f : Node → Node) : (b.modNode q w f).lkt = b.lkt := rfl
@[simp] theorem Block.modNode_power (b : Block) (q w : Nat) (f : Node → Node) : (b.modNode q w f).power = b.power := rfl

/-- What `modNode` does to every entry. -/
theorem Block.node_modNode (b : Block) (q w k v : Nat) (f : Node → Node) :
    (b.modNode q w f).node k v = if q = k ∧ w = v then f (b.node k v) else b.node k v := by
  simp only [Block.node, Block.modNode, Block.sub_modSub]
  by_cases h : q = k <;> simp [h, tget_tmod]
@[simp] theorem Block.node_modNode_self (b : Block) (q w : Nat) (f : Node → Node) : (b.modNode q w f).node q w = f (b.node q w) := by
  simp [Block.node_modNode]

/-! ### modCwin -/

@[simp] theorem Block.modCwin_now (b : Block) (q w : Nat) (f : CWin → CWin) : (b.modCwin q w f).now = b.now := rfl
@[simp] theorem Block.modCwin_inReset (b : Block) (q w : Nat) (f : CWin → CWin) : (b.modCwin q w f).inReset = b.inReset := rfl
@[simp] theorem Block.modCwin_free (b : Block) (q w : Nat) (f : CWin → CWin) : (b.modCwin q w f).free = b.free := rfl
@[simp] theorem Block.modCwin_refilled (b : Block) (q w : Nat) (f : CWin → CWin) : (b.modCwin q w f).refilled = b.refilled := rfl
@[simp] theorem Block.modCwin_prefetch (b : Block) (q w : Nat) (f : CWin → CWin) : (b.modCwin q w f).prefetch = b.prefetch := rfl
@[simp] theorem Block.modCwin_tpStatus (b : Block) (q w : Nat) (f : CWin → CWin) : (b.modCwin q w f).tpStatus = b.tpStatus := rfl
@[simp] theorem Block.modCwin_mp (b : Block) (q w : Nat) (f : CWin → CWin) : (b.modCwin q w f).mp = b.mp := rfl
@[simp] theorem Block.modCwin_loader (b : Block) (q w : Nat) (f : CWin → CWin) : (b.modCwin q w f).loader = b.loader := rfl
@[simp] theorem Block.modCwin_setting (b : Block) (q w : Nat) (f : CWin → CWin) : (b.modCwin q w f).setting = b.setting := rfl
@[simp] theorem Block.modCwin_lanes (b : Block) (q w : Nat) (f : CWin → CWin) : (b.modCwin q w f).lanes = b.lanes := rfl
@[simp] theorem Block.modCwin_front (b : Block) (q w : Nat) (f : CWin → CWin) : (b.modCwin q w f).front = b.front := rfl
@[simp] theorem Block.modCwin_fences (b : Block) (q w : Nat) (f : CWin → CWin) : (b.modCwin q w f).fences = b.fences := rfl
@[simp] theorem Block.modCwin_beads (b : Block) (q w : Nat) (f : CWin → CWin) : (b.modCwin q w f).beads = b.beads := rfl
@[simp] theorem Block.modCwin_chans (b : Block) (q w : Nat) (f : CWin → CWin) : (b.modCwin q w f).chans = b.chans := rfl
@[simp] theorem Block.modCwin_saffron (b : Block) (q w : Nat) (f : CWin → CWin) : (b.modCwin q w f).saffron = b.saffron := rfl
@[simp] theorem Block.modCwin_seq (b : Block) (q w : Nat) (f : CWin → CWin) : (b.modCwin q w f).seq = b.seq := rfl
@[simp] theorem Block.modCwin_cqs (b : Block) (q w : Nat) (f : CWin → CWin) : (b.modCwin q w f).cqs = b.cqs := rfl
@[simp] theorem Block.modCwin_link (b : Block) (q w : Nat) (f : CWin → CWin) : (b.modCwin q w f).link = b.link := rfl
@[simp] theorem Block.modCwin_parts (b : Block) (q w : Nat) (f : CWin → CWin) : (b.modCwin q w f).parts = b.parts := rfl
@[simp] theorem Block.modCwin_evc (b : Block) (q w : Nat) (f : CWin → CWin) : (b.modCwin q w f).evc = b.evc := rfl
@[simp] theorem Block.modCwin_experts (b : Block) (q w : Nat) (f : CWin → CWin) : (b.modCwin q w f).experts = b.experts := rfl
@[simp] theorem Block.modCwin_audit (b : Block) (q w : Nat) (f : CWin → CWin) : (b.modCwin q w f).audit = b.audit := rfl
@[simp] theorem Block.modCwin_trace (b : Block) (q w : Nat) (f : CWin → CWin) : (b.modCwin q w f).trace = b.trace := rfl
@[simp] theorem Block.modCwin_lkt (b : Block) (q w : Nat) (f : CWin → CWin) : (b.modCwin q w f).lkt = b.lkt := rfl
@[simp] theorem Block.modCwin_power (b : Block) (q w : Nat) (f : CWin → CWin) : (b.modCwin q w f).power = b.power := rfl

/-- What `modCwin` does to every entry. -/
theorem Block.cwin_modCwin (b : Block) (q w k v : Nat) (f : CWin → CWin) :
    (b.modCwin q w f).cwin k v = if q = k ∧ w = v then f (b.cwin k v) else b.cwin k v := by
  simp only [Block.cwin, Block.modCwin, tget_tmod]
  by_cases h : q = k <;> simp [h, tget_tmod]
@[simp] theorem Block.cwin_modCwin_self (b : Block) (q w : Nat) (f : CWin → CWin) : (b.modCwin q w f).cwin q w = f (b.cwin q w) := by
  simp [Block.cwin_modCwin]

/-! ### modFence -/

@[simp] theorem Block.modFence_now (b : Block) (q : Nat) (f : Fence → Fence) : (b.modFence q f).now = b.now := rfl
@[simp] theorem Block.modFence_inReset (b : Block) (q : Nat) (f : Fence → Fence) : (b.modFence q f).inReset = b.inReset := rfl
@[simp] theorem Block.modFence_free (b : Block) (q : Nat) (f : Fence → Fence) : (b.modFence q f).free = b.free := rfl
@[simp] theorem Block.modFence_refilled (b : Block) (q : Nat) (f : Fence → Fence) : (b.modFence q f).refilled = b.refilled := rfl
@[simp] theorem Block.modFence_prefetch (b : Block) (q : Nat) (f : Fence → Fence) : (b.modFence q f).prefetch = b.prefetch := rfl
@[simp] theorem Block.modFence_tpStatus (b : Block) (q : Nat) (f : Fence → Fence) : (b.modFence q f).tpStatus = b.tpStatus := rfl
@[simp] theorem Block.modFence_mp (b : Block) (q : Nat) (f : Fence → Fence) : (b.modFence q f).mp = b.mp := rfl
@[simp] theorem Block.modFence_loader (b : Block) (q : Nat) (f : Fence → Fence) : (b.modFence q f).loader = b.loader := rfl
@[simp] theorem Block.modFence_setting (b : Block) (q : Nat) (f : Fence → Fence) : (b.modFence q f).setting = b.setting := rfl
@[simp] theorem Block.modFence_lanes (b : Block) (q : Nat) (f : Fence → Fence) : (b.modFence q f).lanes = b.lanes := rfl
@[simp] theorem Block.modFence_front (b : Block) (q : Nat) (f : Fence → Fence) : (b.modFence q f).front = b.front := rfl
@[simp] theorem Block.modFence_graph (b : Block) (q : Nat) (f : Fence → Fence) : (b.modFence q f).graph = b.graph := rfl
@[simp] theorem Block.modFence_beads (b : Block) (q : Nat) (f : Fence → Fence) : (b.modFence q f).beads = b.beads := rfl
@[simp] theorem Block.modFence_chans (b : Block) (q : Nat) (f : Fence → Fence) : (b.modFence q f).chans = b.chans := rfl
@[simp] theorem Block.modFence_saffron (b : Block) (q : Nat) (f : Fence → Fence) : (b.modFence q f).saffron = b.saffron := rfl
@[simp] theorem Block.modFence_seq (b : Block) (q : Nat) (f : Fence → Fence) : (b.modFence q f).seq = b.seq := rfl
@[simp] theorem Block.modFence_cqs (b : Block) (q : Nat) (f : Fence → Fence) : (b.modFence q f).cqs = b.cqs := rfl
@[simp] theorem Block.modFence_link (b : Block) (q : Nat) (f : Fence → Fence) : (b.modFence q f).link = b.link := rfl
@[simp] theorem Block.modFence_parts (b : Block) (q : Nat) (f : Fence → Fence) : (b.modFence q f).parts = b.parts := rfl
@[simp] theorem Block.modFence_evc (b : Block) (q : Nat) (f : Fence → Fence) : (b.modFence q f).evc = b.evc := rfl
@[simp] theorem Block.modFence_experts (b : Block) (q : Nat) (f : Fence → Fence) : (b.modFence q f).experts = b.experts := rfl
@[simp] theorem Block.modFence_audit (b : Block) (q : Nat) (f : Fence → Fence) : (b.modFence q f).audit = b.audit := rfl
@[simp] theorem Block.modFence_trace (b : Block) (q : Nat) (f : Fence → Fence) : (b.modFence q f).trace = b.trace := rfl
@[simp] theorem Block.modFence_lkt (b : Block) (q : Nat) (f : Fence → Fence) : (b.modFence q f).lkt = b.lkt := rfl
@[simp] theorem Block.modFence_power (b : Block) (q : Nat) (f : Fence → Fence) : (b.modFence q f).power = b.power := rfl

/-- What `modFence` does to every entry. -/
theorem Block.fence_modFence (b : Block) (q k : Nat) (f : Fence → Fence) :
    (b.modFence q f).fence k = if q = k then f (b.fence k) else b.fence k := tget_tmod _ q k f
@[simp] theorem Block.fence_modFence_self (b : Block) (q : Nat) (f : Fence → Fence) : (b.modFence q f).fence q = f (b.fence q) := by
  simp [Block.fence_modFence]
theorem Block.fence_modFence_ne (b : Block) {q k : Nat} (f : Fence → Fence) (h : q ≠ k) : (b.modFence q f).fence k = b.fence k := by
  simp [Block.fence_modFence, h]

/-! ### modBead -/

@[simp] theorem Block.modBead_now (b : Block) (q : Nat) (f : Bead → Bead) : (b.modBead q f).now = b.now := rfl
@[simp] theorem Block.modBead_inReset (b : Block) (q : Nat) (f : Bead → Bead) : (b.modBead q f).inReset = b.inReset := rfl
@[simp] theorem Block.modBead_free (b : Block) (q : Nat) (f : Bead → Bead) : (b.modBead q f).free = b.free := rfl
@[simp] theorem Block.modBead_refilled (b : Block) (q : Nat) (f : Bead → Bead) : (b.modBead q f).refilled = b.refilled := rfl
@[simp] theorem Block.modBead_prefetch (b : Block) (q : Nat) (f : Bead → Bead) : (b.modBead q f).prefetch = b.prefetch := rfl
@[simp] theorem Block.modBead_tpStatus (b : Block) (q : Nat) (f : Bead → Bead) : (b.modBead q f).tpStatus = b.tpStatus := rfl
@[simp] theorem Block.modBead_mp (b : Block) (q : Nat) (f : Bead → Bead) : (b.modBead q f).mp = b.mp := rfl
@[simp] theorem Block.modBead_loader (b : Block) (q : Nat) (f : Bead → Bead) : (b.modBead q f).loader = b.loader := rfl
@[simp] theorem Block.modBead_setting (b : Block) (q : Nat) (f : Bead → Bead) : (b.modBead q f).setting = b.setting := rfl
@[simp] theorem Block.modBead_lanes (b : Block) (q : Nat) (f : Bead → Bead) : (b.modBead q f).lanes = b.lanes := rfl
@[simp] theorem Block.modBead_front (b : Block) (q : Nat) (f : Bead → Bead) : (b.modBead q f).front = b.front := rfl
@[simp] theorem Block.modBead_graph (b : Block) (q : Nat) (f : Bead → Bead) : (b.modBead q f).graph = b.graph := rfl
@[simp] theorem Block.modBead_fences (b : Block) (q : Nat) (f : Bead → Bead) : (b.modBead q f).fences = b.fences := rfl
@[simp] theorem Block.modBead_chans (b : Block) (q : Nat) (f : Bead → Bead) : (b.modBead q f).chans = b.chans := rfl
@[simp] theorem Block.modBead_saffron (b : Block) (q : Nat) (f : Bead → Bead) : (b.modBead q f).saffron = b.saffron := rfl
@[simp] theorem Block.modBead_seq (b : Block) (q : Nat) (f : Bead → Bead) : (b.modBead q f).seq = b.seq := rfl
@[simp] theorem Block.modBead_cqs (b : Block) (q : Nat) (f : Bead → Bead) : (b.modBead q f).cqs = b.cqs := rfl
@[simp] theorem Block.modBead_link (b : Block) (q : Nat) (f : Bead → Bead) : (b.modBead q f).link = b.link := rfl
@[simp] theorem Block.modBead_parts (b : Block) (q : Nat) (f : Bead → Bead) : (b.modBead q f).parts = b.parts := rfl
@[simp] theorem Block.modBead_evc (b : Block) (q : Nat) (f : Bead → Bead) : (b.modBead q f).evc = b.evc := rfl
@[simp] theorem Block.modBead_experts (b : Block) (q : Nat) (f : Bead → Bead) : (b.modBead q f).experts = b.experts := rfl
@[simp] theorem Block.modBead_audit (b : Block) (q : Nat) (f : Bead → Bead) : (b.modBead q f).audit = b.audit := rfl
@[simp] theorem Block.modBead_trace (b : Block) (q : Nat) (f : Bead → Bead) : (b.modBead q f).trace = b.trace := rfl
@[simp] theorem Block.modBead_lkt (b : Block) (q : Nat) (f : Bead → Bead) : (b.modBead q f).lkt = b.lkt := rfl
@[simp] theorem Block.modBead_power (b : Block) (q : Nat) (f : Bead → Bead) : (b.modBead q f).power = b.power := rfl

/-- What `modBead` does to every entry. -/
theorem Block.bead_modBead (b : Block) (q k : Nat) (f : Bead → Bead) :
    (b.modBead q f).bead k = if q = k then f (b.bead k) else b.bead k := tget_tmod _ q k f
@[simp] theorem Block.bead_modBead_self (b : Block) (q : Nat) (f : Bead → Bead) : (b.modBead q f).bead q = f (b.bead q) := by
  simp [Block.bead_modBead]
theorem Block.bead_modBead_ne (b : Block) {q k : Nat} (f : Bead → Bead) (h : q ≠ k) : (b.modBead q f).bead k = b.bead k := by
  simp [Block.bead_modBead, h]

/-! ### modWin -/

@[simp] theorem Block.modWin_now (b : Block) (q w : Nat) (f : WinEntry → WinEntry) : (b.modWin q w f).now = b.now := rfl
@[simp] theorem Block.modWin_inReset (b : Block) (q w : Nat) (f : WinEntry → WinEntry) : (b.modWin q w f).inReset = b.inReset := rfl
@[simp] theorem Block.modWin_free (b : Block) (q w : Nat) (f : WinEntry → WinEntry) : (b.modWin q w f).free = b.free := rfl
@[simp] theorem Block.modWin_refilled (b : Block) (q w : Nat) (f : WinEntry → WinEntry) : (b.modWin q w f).refilled = b.refilled := rfl
@[simp] theorem Block.modWin_prefetch (b : Block) (q w : Nat) (f : WinEntry → WinEntry) : (b.modWin q w f).prefetch = b.prefetch := rfl
@[simp] theorem Block.modWin_tpStatus (b : Block) (q w : Nat) (f : WinEntry → WinEntry) : (b.modWin q w f).tpStatus = b.tpStatus := rfl
@[simp] theorem Block.modWin_mp (b : Block) (q w : Nat) (f : WinEntry → WinEntry) : (b.modWin q w f).mp = b.mp := rfl
@[simp] theorem Block.modWin_loader (b : Block) (q w : Nat) (f : WinEntry → WinEntry) : (b.modWin q w f).loader = b.loader := rfl
@[simp] theorem Block.modWin_setting (b : Block) (q w : Nat) (f : WinEntry → WinEntry) : (b.modWin q w f).setting = b.setting := rfl
@[simp] theorem Block.modWin_lanes (b : Block) (q w : Nat) (f : WinEntry → WinEntry) : (b.modWin q w f).lanes = b.lanes := rfl
@[simp] theorem Block.modWin_front (b : Block) (q w : Nat) (f : WinEntry → WinEntry) : (b.modWin q w f).front = b.front := rfl
@[simp] theorem Block.modWin_graph (b : Block) (q w : Nat) (f : WinEntry → WinEntry) : (b.modWin q w f).graph = b.graph := rfl
@[simp] theorem Block.modWin_fences (b : Block) (q w : Nat) (f : WinEntry → WinEntry) : (b.modWin q w f).fences = b.fences := rfl
@[simp] theorem Block.modWin_chans (b : Block) (q w : Nat) (f : WinEntry → WinEntry) : (b.modWin q w f).chans = b.chans := rfl
@[simp] theorem Block.modWin_saffron (b : Block) (q w : Nat) (f : WinEntry → WinEntry) : (b.modWin q w f).saffron = b.saffron := rfl
@[simp] theorem Block.modWin_seq (b : Block) (q w : Nat) (f : WinEntry → WinEntry) : (b.modWin q w f).seq = b.seq := rfl
@[simp] theorem Block.modWin_cqs (b : Block) (q w : Nat) (f : WinEntry → WinEntry) : (b.modWin q w f).cqs = b.cqs := rfl
@[simp] theorem Block.modWin_link (b : Block) (q w : Nat) (f : WinEntry → WinEntry) : (b.modWin q w f).link = b.link := rfl
@[simp] theorem Block.modWin_parts (b : Block) (q w : Nat) (f : WinEntry → WinEntry) : (b.modWin q w f).parts = b.parts := rfl
@[simp] theorem Block.modWin_evc (b : Block) (q w : Nat) (f : WinEntry → WinEntry) : (b.modWin q w f).evc = b.evc := rfl
@[simp] theorem Block.modWin_experts (b : Block) (q w : Nat) (f : WinEntry → WinEntry) : (b.modWin q w f).experts = b.experts := rfl
@[simp] theorem Block.modWin_audit (b : Block) (q w : Nat) (f : WinEntry → WinEntry) : (b.modWin q w f).audit = b.audit := rfl
@[simp] theorem Block.modWin_trace (b : Block) (q w : Nat) (f : WinEntry → WinEntry) : (b.modWin q w f).trace = b.trace := rfl
@[simp] theorem Block.modWin_lkt (b : Block) (q w : Nat) (f : WinEntry → WinEntry) : (b.modWin q w f).lkt = b.lkt := rfl
@[simp] theorem Block.modWin_power (b : Block) (q w : Nat) (f : WinEntry → WinEntry) : (b.modWin q w f).power = b.power := rfl

/-- What `modWin` does to every entry. -/
theorem Block.win_modWin (b : Block) (q w k v : Nat) (f : WinEntry → WinEntry) :
    (b.modWin q w f).win k v = if q = k ∧ w = v then f (b.win k v) else b.win k v := by
  simp only [Block.win, Block.modWin, Block.bead_modBead]
  by_cases h : q = k <;> simp [h, tget_tmod]
@[simp] theorem Block.win_modWin_self (b : Block) (q w : Nat) (f : WinEntry → WinEntry) : (b.modWin q w f).win q w = f (b.win q w) := by
  simp [Block.win_modWin]

/-! ### modSlot -/

@[simp] theorem Block.modSlot_now (b : Block) (q w : Nat) (f : Slot → Slot) : (b.modSlot q w f).now = b.now := rfl
@[simp] theorem Block.modSlot_inReset (b : Block) (q w : Nat) (f : Slot → Slot) : (b.modSlot q w f).inReset = b.inReset := rfl
@[simp] theorem Block.modSlot_free (b : Block) (q w : Nat) (f : Slot → Slot) : (b.modSlot q w f).free = b.free := rfl
@[simp] theorem Block.modSlot_refilled (b : Block) (q w : Nat) (f : Slot → Slot) : (b.modSlot q w f).refilled = b.refilled := rfl
@[simp] theorem Block.modSlot_prefetch (b : Block) (q w : Nat) (f : Slot → Slot) : (b.modSlot q w f).prefetch = b.prefetch := rfl
@[simp] theorem Block.modSlot_tpStatus (b : Block) (q w : Nat) (f : Slot → Slot) : (b.modSlot q w f).tpStatus = b.tpStatus := rfl
@[simp] theorem Block.modSlot_mp (b : Block) (q w : Nat) (f : Slot → Slot) : (b.modSlot q w f).mp = b.mp := rfl
@[simp] theorem Block.modSlot_loader (b : Block) (q w : Nat) (f : Slot → Slot) : (b.modSlot q w f).loader = b.loader := rfl
@[simp] theorem Block.modSlot_setting (b : Block) (q w : Nat) (f : Slot → Slot) : (b.modSlot q w f).setting = b.setting := rfl
@[simp] theorem Block.modSlot_lanes (b : Block) (q w : Nat) (f : Slot → Slot) : (b.modSlot q w f).lanes = b.lanes := rfl
@[simp] theorem Block.modSlot_front (b : Block) (q w : Nat) (f : Slot → Slot) : (b.modSlot q w f).front = b.front := rfl
@[simp] theorem Block.modSlot_graph (b : Block) (q w : Nat) (f : Slot → Slot) : (b.modSlot q w f).graph = b.graph := rfl
@[simp] theorem Block.modSlot_fences (b : Block) (q w : Nat) (f : Slot → Slot) : (b.modSlot q w f).fences = b.fences := rfl
@[simp] theorem Block.modSlot_chans (b : Block) (q w : Nat) (f : Slot → Slot) : (b.modSlot q w f).chans = b.chans := rfl
@[simp] theorem Block.modSlot_saffron (b : Block) (q w : Nat) (f : Slot → Slot) : (b.modSlot q w f).saffron = b.saffron := rfl
@[simp] theorem Block.modSlot_seq (b : Block) (q w : Nat) (f : Slot → Slot) : (b.modSlot q w f).seq = b.seq := rfl
@[simp] theorem Block.modSlot_cqs (b : Block) (q w : Nat) (f : Slot → Slot) : (b.modSlot q w f).cqs = b.cqs := rfl
@[simp] theorem Block.modSlot_link (b : Block) (q w : Nat) (f : Slot → Slot) : (b.modSlot q w f).link = b.link := rfl
@[simp] theorem Block.modSlot_parts (b : Block) (q w : Nat) (f : Slot → Slot) : (b.modSlot q w f).parts = b.parts := rfl
@[simp] theorem Block.modSlot_evc (b : Block) (q w : Nat) (f : Slot → Slot) : (b.modSlot q w f).evc = b.evc := rfl
@[simp] theorem Block.modSlot_experts (b : Block) (q w : Nat) (f : Slot → Slot) : (b.modSlot q w f).experts = b.experts := rfl
@[simp] theorem Block.modSlot_audit (b : Block) (q w : Nat) (f : Slot → Slot) : (b.modSlot q w f).audit = b.audit := rfl
@[simp] theorem Block.modSlot_trace (b : Block) (q w : Nat) (f : Slot → Slot) : (b.modSlot q w f).trace = b.trace := rfl
@[simp] theorem Block.modSlot_lkt (b : Block) (q w : Nat) (f : Slot → Slot) : (b.modSlot q w f).lkt = b.lkt := rfl
@[simp] theorem Block.modSlot_power (b : Block) (q w : Nat) (f : Slot → Slot) : (b.modSlot q w f).power = b.power := rfl

/-- What `modSlot` does to every entry. -/
theorem Block.slot_modSlot (b : Block) (q w k v : Nat) (f : Slot → Slot) :
    (b.modSlot q w f).slot k v = if q = k ∧ w = v then f (b.slot k v) else b.slot k v := by
  simp only [Block.slot, Block.modSlot, Block.bead_modBead]
  by_cases h : q = k <;> simp [h, tget_tmod]
@[simp] theorem Block.slot_modSlot_self (b : Block) (q w : Nat) (f : Slot → Slot) : (b.modSlot q w f).slot q w = f (b.slot q w) := by
  simp [Block.slot_modSlot]

/-! ### modChan -/

@[simp] theorem Block.modChan_now (b : Block) (q : Nat) (f : Chan → Chan) : (b.modChan q f).now = b.now := rfl
@[simp] theorem Block.modChan_inReset (b : Block) (q : Nat) (f : Chan → Chan) : (b.modChan q f).inReset = b.inReset := rfl
@[simp] theorem Block.modChan_free (b : Block) (q : Nat) (f : Chan → Chan) : (b.modChan q f).free = b.free := rfl
@[simp] theorem Block.modChan_refilled (b : Block) (q : Nat) (f : Chan → Chan) : (b.modChan q f).refilled = b.refilled := rfl
@[simp] theorem Block.modChan_prefetch (b : Block) (q : Nat) (f : Chan → Chan) : (b.modChan q f).prefetch = b.prefetch := rfl
@[simp] theorem Block.modChan_tpStatus (b : Block) (q : Nat) (f : Chan → Chan) : (b.modChan q f).tpStatus = b.tpStatus := rfl
@[simp] theorem Block.modChan_mp (b : Block) (q : Nat) (f : Chan → Chan) : (b.modChan q f).mp = b.mp := rfl
@[simp] theorem Block.modChan_loader (b : Block) (q : Nat) (f : Chan → Chan) : (b.modChan q f).loader = b.loader := rfl
@[simp] theorem Block.modChan_setting (b : Block) (q : Nat) (f : Chan → Chan) : (b.modChan q f).setting = b.setting := rfl
@[simp] theorem Block.modChan_lanes (b : Block) (q : Nat) (f : Chan → Chan) : (b.modChan q f).lanes = b.lanes := rfl
@[simp] theorem Block.modChan_front (b : Block) (q : Nat) (f : Chan → Chan) : (b.modChan q f).front = b.front := rfl
@[simp] theorem Block.modChan_graph (b : Block) (q : Nat) (f : Chan → Chan) : (b.modChan q f).graph = b.graph := rfl
@[simp] theorem Block.modChan_fences (b : Block) (q : Nat) (f : Chan → Chan) : (b.modChan q f).fences = b.fences := rfl
@[simp] theorem Block.modChan_beads (b : Block) (q : Nat) (f : Chan → Chan) : (b.modChan q f).beads = b.beads := rfl
@[simp] theorem Block.modChan_saffron (b : Block) (q : Nat) (f : Chan → Chan) : (b.modChan q f).saffron = b.saffron := rfl
@[simp] theorem Block.modChan_seq (b : Block) (q : Nat) (f : Chan → Chan) : (b.modChan q f).seq = b.seq := rfl
@[simp] theorem Block.modChan_cqs (b : Block) (q : Nat) (f : Chan → Chan) : (b.modChan q f).cqs = b.cqs := rfl
@[simp] theorem Block.modChan_link (b : Block) (q : Nat) (f : Chan → Chan) : (b.modChan q f).link = b.link := rfl
@[simp] theorem Block.modChan_parts (b : Block) (q : Nat) (f : Chan → Chan) : (b.modChan q f).parts = b.parts := rfl
@[simp] theorem Block.modChan_evc (b : Block) (q : Nat) (f : Chan → Chan) : (b.modChan q f).evc = b.evc := rfl
@[simp] theorem Block.modChan_experts (b : Block) (q : Nat) (f : Chan → Chan) : (b.modChan q f).experts = b.experts := rfl
@[simp] theorem Block.modChan_audit (b : Block) (q : Nat) (f : Chan → Chan) : (b.modChan q f).audit = b.audit := rfl
@[simp] theorem Block.modChan_trace (b : Block) (q : Nat) (f : Chan → Chan) : (b.modChan q f).trace = b.trace := rfl
@[simp] theorem Block.modChan_lkt (b : Block) (q : Nat) (f : Chan → Chan) : (b.modChan q f).lkt = b.lkt := rfl
@[simp] theorem Block.modChan_power (b : Block) (q : Nat) (f : Chan → Chan) : (b.modChan q f).power = b.power := rfl

/-- What `modChan` does to every entry. -/
theorem Block.chan_modChan (b : Block) (q k : Nat) (f : Chan → Chan) :
    (b.modChan q f).chan k = if q = k then f (b.chan k) else b.chan k := tget_tmod _ q k f
@[simp] theorem Block.chan_modChan_self (b : Block) (q : Nat) (f : Chan → Chan) : (b.modChan q f).chan q = f (b.chan q) := by
  simp [Block.chan_modChan]
theorem Block.chan_modChan_ne (b : Block) {q k : Nat} (f : Chan → Chan) (h : q ≠ k) : (b.modChan q f).chan k = b.chan k := by
  simp [Block.chan_modChan, h]

/-! ### modRx -/

@[simp] theorem Block.modRx_now (b : Block) (q w : Nat) (f : RxQueue → RxQueue) : (b.modRx q w f).now = b.now := rfl
@[simp] theorem Block.modRx_inReset (b : Block) (q w : Nat) (f : RxQueue → RxQueue) : (b.modRx q w f).inReset = b.inReset := rfl
@[simp] theorem Block.modRx_free (b : Block) (q w : Nat) (f : RxQueue → RxQueue) : (b.modRx q w f).free = b.free := rfl
@[simp] theorem Block.modRx_refilled (b : Block) (q w : Nat) (f : RxQueue → RxQueue) : (b.modRx q w f).refilled = b.refilled := rfl
@[simp] theorem Block.modRx_prefetch (b : Block) (q w : Nat) (f : RxQueue → RxQueue) : (b.modRx q w f).prefetch = b.prefetch := rfl
@[simp] theorem Block.modRx_tpStatus (b : Block) (q w : Nat) (f : RxQueue → RxQueue) : (b.modRx q w f).tpStatus = b.tpStatus := rfl
@[simp] theorem Block.modRx_mp (b : Block) (q w : Nat) (f : RxQueue → RxQueue) : (b.modRx q w f).mp = b.mp := rfl
@[simp] theorem Block.modRx_loader (b : Block) (q w : Nat) (f : RxQueue → RxQueue) : (b.modRx q w f).loader = b.loader := rfl
@[simp] theorem Block.modRx_setting (b : Block) (q w : Nat) (f : RxQueue → RxQueue) : (b.modRx q w f).setting = b.setting := rfl
@[simp] theorem Block.modRx_lanes (b : Block) (q w : Nat) (f : RxQueue → RxQueue) : (b.modRx q w f).lanes = b.lanes := rfl
@[simp] theorem Block.modRx_front (b : Block) (q w : Nat) (f : RxQueue → RxQueue) : (b.modRx q w f).front = b.front := rfl
@[simp] theorem Block.modRx_graph (b : Block) (q w : Nat) (f : RxQueue → RxQueue) : (b.modRx q w f).graph = b.graph := rfl
@[simp] theorem Block.modRx_fences (b : Block) (q w : Nat) (f : RxQueue → RxQueue) : (b.modRx q w f).fences = b.fences := rfl
@[simp] theorem Block.modRx_beads (b : Block) (q w : Nat) (f : RxQueue → RxQueue) : (b.modRx q w f).beads = b.beads := rfl
@[simp] theorem Block.modRx_saffron (b : Block) (q w : Nat) (f : RxQueue → RxQueue) : (b.modRx q w f).saffron = b.saffron := rfl
@[simp] theorem Block.modRx_seq (b : Block) (q w : Nat) (f : RxQueue → RxQueue) : (b.modRx q w f).seq = b.seq := rfl
@[simp] theorem Block.modRx_cqs (b : Block) (q w : Nat) (f : RxQueue → RxQueue) : (b.modRx q w f).cqs = b.cqs := rfl
@[simp] theorem Block.modRx_link (b : Block) (q w : Nat) (f : RxQueue → RxQueue) : (b.modRx q w f).link = b.link := rfl
@[simp] theorem Block.modRx_parts (b : Block) (q w : Nat) (f : RxQueue → RxQueue) : (b.modRx q w f).parts = b.parts := rfl
@[simp] theorem Block.modRx_evc (b : Block) (q w : Nat) (f : RxQueue → RxQueue) : (b.modRx q w f).evc = b.evc := rfl
@[simp] theorem Block.modRx_experts (b : Block) (q w : Nat) (f : RxQueue → RxQueue) : (b.modRx q w f).experts = b.experts := rfl
@[simp] theorem Block.modRx_audit (b : Block) (q w : Nat) (f : RxQueue → RxQueue) : (b.modRx q w f).audit = b.audit := rfl
@[simp] theorem Block.modRx_trace (b : Block) (q w : Nat) (f : RxQueue → RxQueue) : (b.modRx q w f).trace = b.trace := rfl
@[simp] theorem Block.modRx_lkt (b : Block) (q w : Nat) (f : RxQueue → RxQueue) : (b.modRx q w f).lkt = b.lkt := rfl
@[simp] theorem Block.modRx_power (b : Block) (q w : Nat) (f : RxQueue → RxQueue) : (b.modRx q w f).power = b.power := rfl

/-- What `modRx` does to every entry. -/
theorem Block.rx_modRx (b : Block) (q w k v : Nat) (f : RxQueue → RxQueue) :
    (b.modRx q w f).rx k v = if q = k ∧ w = v then f (b.rx k v) else b.rx k v := by
  simp only [Block.rx, Block.modRx, Block.chan_modChan]
  by_cases h : q = k <;> simp [h, tget_tmod]
@[simp] theorem Block.rx_modRx_self (b : Block) (q w : Nat) (f : RxQueue → RxQueue) : (b.modRx q w f).rx q w = f (b.rx q w) := by
  simp [Block.rx_modRx]

/-! ### modTx -/

@[simp] theorem Block.modTx_now (b : Block) (q w : Nat) (f : TxPort → TxPort) : (b.modTx q w f).now = b.now := rfl
@[simp] theorem Block.modTx_inReset (b : Block) (q w : Nat) (f : TxPort → TxPort) : (b.modTx q w f).inReset = b.inReset := rfl
@[simp] theorem Block.modTx_free (b : Block) (q w : Nat) (f : TxPort → TxPort) : (b.modTx q w f).free = b.free := rfl
@[simp] theorem Block.modTx_refilled (b : Block) (q w : Nat) (f : TxPort → TxPort) : (b.modTx q w f).refilled = b.refilled := rfl
@[simp] theorem Block.modTx_prefetch (b : Block) (q w : Nat) (f : TxPort → TxPort) : (b.modTx q w f).prefetch = b.prefetch := rfl
@[simp] theorem Block.modTx_tpStatus (b : Block) (q w : Nat) (f : TxPort → TxPort) : (b.modTx q w f).tpStatus = b.tpStatus := rfl
@[simp] theorem Block.modTx_mp (b : Block) (q w : Nat) (f : TxPort → TxPort) : (b.modTx q w f).mp = b.mp := rfl
@[simp] theorem Block.modTx_loader (b : Block) (q w : Nat) (f : TxPort → TxPort) : (b.modTx q w f).loader = b.loader := rfl
@[simp] theorem Block.modTx_setting (b : Block) (q w : Nat) (f : TxPort → TxPort) : (b.modTx q w f).setting = b.setting := rfl
@[simp] theorem Block.modTx_lanes (b : Block) (q w : Nat) (f : TxPort → TxPort) : (b.modTx q w f).lanes = b.lanes := rfl
@[simp] theorem Block.modTx_front (b : Block) (q w : Nat) (f : TxPort → TxPort) : (b.modTx q w f).front = b.front := rfl
@[simp] theorem Block.modTx_graph (b : Block) (q w : Nat) (f : TxPort → TxPort) : (b.modTx q w f).graph = b.graph := rfl
@[simp] theorem Block.modTx_fences (b : Block) (q w : Nat) (f : TxPort → TxPort) : (b.modTx q w f).fences = b.fences := rfl
@[simp] theorem Block.modTx_beads (b : Block) (q w : Nat) (f : TxPort → TxPort) : (b.modTx q w f).beads = b.beads := rfl
@[simp] theorem Block.modTx_saffron (b : Block) (q w : Nat) (f : TxPort → TxPort) : (b.modTx q w f).saffron = b.saffron := rfl
@[simp] theorem Block.modTx_seq (b : Block) (q w : Nat) (f : TxPort → TxPort) : (b.modTx q w f).seq = b.seq := rfl
@[simp] theorem Block.modTx_cqs (b : Block) (q w : Nat) (f : TxPort → TxPort) : (b.modTx q w f).cqs = b.cqs := rfl
@[simp] theorem Block.modTx_link (b : Block) (q w : Nat) (f : TxPort → TxPort) : (b.modTx q w f).link = b.link := rfl
@[simp] theorem Block.modTx_parts (b : Block) (q w : Nat) (f : TxPort → TxPort) : (b.modTx q w f).parts = b.parts := rfl
@[simp] theorem Block.modTx_evc (b : Block) (q w : Nat) (f : TxPort → TxPort) : (b.modTx q w f).evc = b.evc := rfl
@[simp] theorem Block.modTx_experts (b : Block) (q w : Nat) (f : TxPort → TxPort) : (b.modTx q w f).experts = b.experts := rfl
@[simp] theorem Block.modTx_audit (b : Block) (q w : Nat) (f : TxPort → TxPort) : (b.modTx q w f).audit = b.audit := rfl
@[simp] theorem Block.modTx_trace (b : Block) (q w : Nat) (f : TxPort → TxPort) : (b.modTx q w f).trace = b.trace := rfl
@[simp] theorem Block.modTx_lkt (b : Block) (q w : Nat) (f : TxPort → TxPort) : (b.modTx q w f).lkt = b.lkt := rfl
@[simp] theorem Block.modTx_power (b : Block) (q w : Nat) (f : TxPort → TxPort) : (b.modTx q w f).power = b.power := rfl

/-- What `modTx` does to every entry. -/
theorem Block.tx_modTx (b : Block) (q w k v : Nat) (f : TxPort → TxPort) :
    (b.modTx q w f).tx k v = if q = k ∧ w = v then f (b.tx k v) else b.tx k v := by
  simp only [Block.tx, Block.modTx, Block.chan_modChan]
  by_cases h : q = k <;> simp [h, tget_tmod]
@[simp] theorem Block.tx_modTx_self (b : Block) (q w : Nat) (f : TxPort → TxPort) : (b.modTx q w f).tx q w = f (b.tx q w) := by
  simp [Block.tx_modTx]

/-! ### modSaf -/

@[simp] theorem Block.modSaf_now (b : Block) (q : Nat) (f : Saffron → Saffron) : (b.modSaf q f).now = b.now := rfl
@[simp] theorem Block.modSaf_inReset (b : Block) (q : Nat) (f : Saffron → Saffron) : (b.modSaf q f).inReset = b.inReset := rfl
@[simp] theorem Block.modSaf_free (b : Block) (q : Nat) (f : Saffron → Saffron) : (b.modSaf q f).free = b.free := rfl
@[simp] theorem Block.modSaf_refilled (b : Block) (q : Nat) (f : Saffron → Saffron) : (b.modSaf q f).refilled = b.refilled := rfl
@[simp] theorem Block.modSaf_prefetch (b : Block) (q : Nat) (f : Saffron → Saffron) : (b.modSaf q f).prefetch = b.prefetch := rfl
@[simp] theorem Block.modSaf_tpStatus (b : Block) (q : Nat) (f : Saffron → Saffron) : (b.modSaf q f).tpStatus = b.tpStatus := rfl
@[simp] theorem Block.modSaf_mp (b : Block) (q : Nat) (f : Saffron → Saffron) : (b.modSaf q f).mp = b.mp := rfl
@[simp] theorem Block.modSaf_loader (b : Block) (q : Nat) (f : Saffron → Saffron) : (b.modSaf q f).loader = b.loader := rfl
@[simp] theorem Block.modSaf_setting (b : Block) (q : Nat) (f : Saffron → Saffron) : (b.modSaf q f).setting = b.setting := rfl
@[simp] theorem Block.modSaf_lanes (b : Block) (q : Nat) (f : Saffron → Saffron) : (b.modSaf q f).lanes = b.lanes := rfl
@[simp] theorem Block.modSaf_front (b : Block) (q : Nat) (f : Saffron → Saffron) : (b.modSaf q f).front = b.front := rfl
@[simp] theorem Block.modSaf_graph (b : Block) (q : Nat) (f : Saffron → Saffron) : (b.modSaf q f).graph = b.graph := rfl
@[simp] theorem Block.modSaf_fences (b : Block) (q : Nat) (f : Saffron → Saffron) : (b.modSaf q f).fences = b.fences := rfl
@[simp] theorem Block.modSaf_beads (b : Block) (q : Nat) (f : Saffron → Saffron) : (b.modSaf q f).beads = b.beads := rfl
@[simp] theorem Block.modSaf_chans (b : Block) (q : Nat) (f : Saffron → Saffron) : (b.modSaf q f).chans = b.chans := rfl
@[simp] theorem Block.modSaf_seq (b : Block) (q : Nat) (f : Saffron → Saffron) : (b.modSaf q f).seq = b.seq := rfl
@[simp] theorem Block.modSaf_cqs (b : Block) (q : Nat) (f : Saffron → Saffron) : (b.modSaf q f).cqs = b.cqs := rfl
@[simp] theorem Block.modSaf_link (b : Block) (q : Nat) (f : Saffron → Saffron) : (b.modSaf q f).link = b.link := rfl
@[simp] theorem Block.modSaf_parts (b : Block) (q : Nat) (f : Saffron → Saffron) : (b.modSaf q f).parts = b.parts := rfl
@[simp] theorem Block.modSaf_evc (b : Block) (q : Nat) (f : Saffron → Saffron) : (b.modSaf q f).evc = b.evc := rfl
@[simp] theorem Block.modSaf_experts (b : Block) (q : Nat) (f : Saffron → Saffron) : (b.modSaf q f).experts = b.experts := rfl
@[simp] theorem Block.modSaf_audit (b : Block) (q : Nat) (f : Saffron → Saffron) : (b.modSaf q f).audit = b.audit := rfl
@[simp] theorem Block.modSaf_trace (b : Block) (q : Nat) (f : Saffron → Saffron) : (b.modSaf q f).trace = b.trace := rfl
@[simp] theorem Block.modSaf_lkt (b : Block) (q : Nat) (f : Saffron → Saffron) : (b.modSaf q f).lkt = b.lkt := rfl
@[simp] theorem Block.modSaf_power (b : Block) (q : Nat) (f : Saffron → Saffron) : (b.modSaf q f).power = b.power := rfl

/-- What `modSaf` does to every entry. -/
theorem Block.saf_modSaf (b : Block) (q k : Nat) (f : Saffron → Saffron) :
    (b.modSaf q f).saf k = if q = k then f (b.saf k) else b.saf k := tget_tmod _ q k f
@[simp] theorem Block.saf_modSaf_self (b : Block) (q : Nat) (f : Saffron → Saffron) : (b.modSaf q f).saf q = f (b.saf q) := by
  simp [Block.saf_modSaf]
theorem Block.saf_modSaf_ne (b : Block) {q k : Nat} (f : Saffron → Saffron) (h : q ≠ k) : (b.modSaf q f).saf k = b.saf k := by
  simp [Block.saf_modSaf, h]

/-! ### modSeq -/

@[simp] theorem Block.modSeq_now (b : Block) (q : Nat) (f : Seq → Seq) : (b.modSeq q f).now = b.now := rfl
@[simp] theorem Block.modSeq_inReset (b : Block) (q : Nat) (f : Seq → Seq) : (b.modSeq q f).inReset = b.inReset := rfl
@[simp] theorem Block.modSeq_free (b : Block) (q : Nat) (f : Seq → Seq) : (b.modSeq q f).free = b.free := rfl
@[simp] theorem Block.modSeq_refilled (b : Block) (q : Nat) (f : Seq → Seq) : (b.modSeq q f).refilled = b.refilled := rfl
@[simp] theorem Block.modSeq_prefetch (b : Block) (q : Nat) (f : Seq → Seq) : (b.modSeq q f).prefetch = b.prefetch := rfl
@[simp] theorem Block.modSeq_tpStatus (b : Block) (q : Nat) (f : Seq → Seq) : (b.modSeq q f).tpStatus = b.tpStatus := rfl
@[simp] theorem Block.modSeq_mp (b : Block) (q : Nat) (f : Seq → Seq) : (b.modSeq q f).mp = b.mp := rfl
@[simp] theorem Block.modSeq_loader (b : Block) (q : Nat) (f : Seq → Seq) : (b.modSeq q f).loader = b.loader := rfl
@[simp] theorem Block.modSeq_setting (b : Block) (q : Nat) (f : Seq → Seq) : (b.modSeq q f).setting = b.setting := rfl
@[simp] theorem Block.modSeq_lanes (b : Block) (q : Nat) (f : Seq → Seq) : (b.modSeq q f).lanes = b.lanes := rfl
@[simp] theorem Block.modSeq_front (b : Block) (q : Nat) (f : Seq → Seq) : (b.modSeq q f).front = b.front := rfl
@[simp] theorem Block.modSeq_graph (b : Block) (q : Nat) (f : Seq → Seq) : (b.modSeq q f).graph = b.graph := rfl
@[simp] theorem Block.modSeq_fences (b : Block) (q : Nat) (f : Seq → Seq) : (b.modSeq q f).fences = b.fences := rfl
@[simp] theorem Block.modSeq_beads (b : Block) (q : Nat) (f : Seq → Seq) : (b.modSeq q f).beads = b.beads := rfl
@[simp] theorem Block.modSeq_chans (b : Block) (q : Nat) (f : Seq → Seq) : (b.modSeq q f).chans = b.chans := rfl
@[simp] theorem Block.modSeq_saffron (b : Block) (q : Nat) (f : Seq → Seq) : (b.modSeq q f).saffron = b.saffron := rfl
@[simp] theorem Block.modSeq_cqs (b : Block) (q : Nat) (f : Seq → Seq) : (b.modSeq q f).cqs = b.cqs := rfl
@[simp] theorem Block.modSeq_link (b : Block) (q : Nat) (f : Seq → Seq) : (b.modSeq q f).link = b.link := rfl
@[simp] theorem Block.modSeq_parts (b : Block) (q : Nat) (f : Seq → Seq) : (b.modSeq q f).parts = b.parts := rfl
@[simp] theorem Block.modSeq_evc (b : Block) (q : Nat) (f : Seq → Seq) : (b.modSeq q f).evc = b.evc := rfl
@[simp] theorem Block.modSeq_experts (b : Block) (q : Nat) (f : Seq → Seq) : (b.modSeq q f).experts = b.experts := rfl
@[simp] theorem Block.modSeq_audit (b : Block) (q : Nat) (f : Seq → Seq) : (b.modSeq q f).audit = b.audit := rfl
@[simp] theorem Block.modSeq_trace (b : Block) (q : Nat) (f : Seq → Seq) : (b.modSeq q f).trace = b.trace := rfl
@[simp] theorem Block.modSeq_lkt (b : Block) (q : Nat) (f : Seq → Seq) : (b.modSeq q f).lkt = b.lkt := rfl
@[simp] theorem Block.modSeq_power (b : Block) (q : Nat) (f : Seq → Seq) : (b.modSeq q f).power = b.power := rfl

/-- What `modSeq` does to every entry. -/
theorem Block.seqEntry_modSeq (b : Block) (q k : Nat) (f : Seq → Seq) :
    (b.modSeq q f).seqEntry k = if q = k then f (b.seqEntry k) else b.seqEntry k := tget_tmod _ q k f
@[simp] theorem Block.seqEntry_modSeq_self (b : Block) (q : Nat) (f : Seq → Seq) : (b.modSeq q f).seqEntry q = f (b.seqEntry q) := by
  simp [Block.seqEntry_modSeq]
theorem Block.seqEntry_modSeq_ne (b : Block) {q k : Nat} (f : Seq → Seq) (h : q ≠ k) : (b.modSeq q f).seqEntry k = b.seqEntry k := by
  simp [Block.seqEntry_modSeq, h]

/-! ### modSeqCtx -/

@[simp] theorem Block.modSeqCtx_now (b : Block) (q : Nat) (f : SeqCtx → SeqCtx) : (b.modSeqCtx q f).now = b.now := rfl
@[simp] theorem Block.modSeqCtx_inReset (b : Block) (q : Nat) (f : SeqCtx → SeqCtx) : (b.modSeqCtx q f).inReset = b.inReset := rfl
@[simp] theorem Block.modSeqCtx_free (b : Block) (q : Nat) (f : SeqCtx → SeqCtx) : (b.modSeqCtx q f).free = b.free := rfl
@[simp] theorem Block.modSeqCtx_refilled (b : Block) (q : Nat) (f : SeqCtx → SeqCtx) : (b.modSeqCtx q f).refilled = b.refilled := rfl
@[simp] theorem Block.modSeqCtx_prefetch (b : Block) (q : Nat) (f : SeqCtx → SeqCtx) : (b.modSeqCtx q f).prefetch = b.prefetch := rfl
@[simp] theorem Block.modSeqCtx_tpStatus (b : Block) (q : Nat) (f : SeqCtx → SeqCtx) : (b.modSeqCtx q f).tpStatus = b.tpStatus := rfl
@[simp] theorem Block.modSeqCtx_mp (b : Block) (q : Nat) (f : SeqCtx → SeqCtx) : (b.modSeqCtx q f).mp = b.mp := rfl
@[simp] theorem Block.modSeqCtx_loader (b : Block) (q : Nat) (f : SeqCtx → SeqCtx) : (b.modSeqCtx q f).loader = b.loader := rfl
@[simp] theorem Block.modSeqCtx_setting (b : Block) (q : Nat) (f : SeqCtx → SeqCtx) : (b.modSeqCtx q f).setting = b.setting := rfl
@[simp] theorem Block.modSeqCtx_lanes (b : Block) (q : Nat) (f : SeqCtx → SeqCtx) : (b.modSeqCtx q f).lanes = b.lanes := rfl
@[simp] theorem Block.modSeqCtx_front (b : Block) (q : Nat) (f : SeqCtx → SeqCtx) : (b.modSeqCtx q f).front = b.front := rfl
@[simp] theorem Block.modSeqCtx_graph (b : Block) (q : Nat) (f : SeqCtx → SeqCtx) : (b.modSeqCtx q f).graph = b.graph := rfl
@[simp] theorem Block.modSeqCtx_fences (b : Block) (q : Nat) (f : SeqCtx → SeqCtx) : (b.modSeqCtx q f).fences = b.fences := rfl
@[simp] theorem Block.modSeqCtx_beads (b : Block) (q : Nat) (f : SeqCtx → SeqCtx) : (b.modSeqCtx q f).beads = b.beads := rfl
@[simp] theorem Block.modSeqCtx_chans (b : Block) (q : Nat) (f : SeqCtx → SeqCtx) : (b.modSeqCtx q f).chans = b.chans := rfl
@[simp] theorem Block.modSeqCtx_saffron (b : Block) (q : Nat) (f : SeqCtx → SeqCtx) : (b.modSeqCtx q f).saffron = b.saffron := rfl
@[simp] theorem Block.modSeqCtx_cqs (b : Block) (q : Nat) (f : SeqCtx → SeqCtx) : (b.modSeqCtx q f).cqs = b.cqs := rfl
@[simp] theorem Block.modSeqCtx_link (b : Block) (q : Nat) (f : SeqCtx → SeqCtx) : (b.modSeqCtx q f).link = b.link := rfl
@[simp] theorem Block.modSeqCtx_parts (b : Block) (q : Nat) (f : SeqCtx → SeqCtx) : (b.modSeqCtx q f).parts = b.parts := rfl
@[simp] theorem Block.modSeqCtx_evc (b : Block) (q : Nat) (f : SeqCtx → SeqCtx) : (b.modSeqCtx q f).evc = b.evc := rfl
@[simp] theorem Block.modSeqCtx_experts (b : Block) (q : Nat) (f : SeqCtx → SeqCtx) : (b.modSeqCtx q f).experts = b.experts := rfl
@[simp] theorem Block.modSeqCtx_audit (b : Block) (q : Nat) (f : SeqCtx → SeqCtx) : (b.modSeqCtx q f).audit = b.audit := rfl
@[simp] theorem Block.modSeqCtx_trace (b : Block) (q : Nat) (f : SeqCtx → SeqCtx) : (b.modSeqCtx q f).trace = b.trace := rfl
@[simp] theorem Block.modSeqCtx_lkt (b : Block) (q : Nat) (f : SeqCtx → SeqCtx) : (b.modSeqCtx q f).lkt = b.lkt := rfl
@[simp] theorem Block.modSeqCtx_power (b : Block) (q : Nat) (f : SeqCtx → SeqCtx) : (b.modSeqCtx q f).power = b.power := rfl

/-- What `modSeqCtx` does to every entry. -/
theorem Block.seqCtx_modSeqCtx (b : Block) (q k : Nat) (f : SeqCtx → SeqCtx) :
    (b.modSeqCtx q f).seqCtx k = if q = k then f (b.seqCtx k) else b.seqCtx k := tget_tmod _ q k f
@[simp] theorem Block.seqCtx_modSeqCtx_self (b : Block) (q : Nat) (f : SeqCtx → SeqCtx) : (b.modSeqCtx q f).seqCtx q = f (b.seqCtx q) := by
  simp [Block.seqCtx_modSeqCtx]
theorem Block.seqCtx_modSeqCtx_ne (b : Block) {q k : Nat} (f : SeqCtx → SeqCtx) (h : q ≠ k) : (b.modSeqCtx q f).seqCtx k = b.seqCtx k := by
  simp [Block.seqCtx_modSeqCtx, h]

/-! ### modCq -/

@[simp] theorem Block.modCq_now (b : Block) (q : Nat) (f : CQueue → CQueue) : (b.modCq q f).now = b.now := rfl
@[simp] theorem Block.modCq_inReset (b : Block) (q : Nat) (f : CQueue → CQueue) : (b.modCq q f).inReset = b.inReset := rfl
@[simp] theorem Block.modCq_free (b : Block) (q : Nat) (f : CQueue → CQueue) : (b.modCq q f).free = b.free := rfl
@[simp] theorem Block.modCq_refilled (b : Block) (q : Nat) (f : CQueue → CQueue) : (b.modCq q f).refilled = b.refilled := rfl
@[simp] theorem Block.modCq_prefetch (b : Block) (q : Nat) (f : CQueue → CQueue) : (b.modCq q f).prefetch = b.prefetch := rfl
@[simp] theorem Block.modCq_tpStatus (b : Block) (q : Nat) (f : CQueue → CQueue) : (b.modCq q f).tpStatus = b.tpStatus := rfl
@[simp] theorem Block.modCq_mp (b : Block) (q : Nat) (f : CQueue → CQueue) : (b.modCq q f).mp = b.mp := rfl
@[simp] theorem Block.modCq_loader (b : Block) (q : Nat) (f : CQueue → CQueue) : (b.modCq q f).loader = b.loader := rfl
@[simp] theorem Block.modCq_setting (b : Block) (q : Nat) (f : CQueue → CQueue) : (b.modCq q f).setting = b.setting := rfl
@[simp] theorem Block.modCq_lanes (b : Block) (q : Nat) (f : CQueue → CQueue) : (b.modCq q f).lanes = b.lanes := rfl
@[simp] theorem Block.modCq_front (b : Block) (q : Nat) (f : CQueue → CQueue) : (b.modCq q f).front = b.front := rfl
@[simp] theorem Block.modCq_graph (b : Block) (q : Nat) (f : CQueue → CQueue) : (b.modCq q f).graph = b.graph := rfl
@[simp] theorem Block.modCq_fences (b : Block) (q : Nat) (f : CQueue → CQueue) : (b.modCq q f).fences = b.fences := rfl
@[simp] theorem Block.modCq_beads (b : Block) (q : Nat) (f : CQueue → CQueue) : (b.modCq q f).beads = b.beads := rfl
@[simp] theorem Block.modCq_chans (b : Block) (q : Nat) (f : CQueue → CQueue) : (b.modCq q f).chans = b.chans := rfl
@[simp] theorem Block.modCq_saffron (b : Block) (q : Nat) (f : CQueue → CQueue) : (b.modCq q f).saffron = b.saffron := rfl
@[simp] theorem Block.modCq_seq (b : Block) (q : Nat) (f : CQueue → CQueue) : (b.modCq q f).seq = b.seq := rfl
@[simp] theorem Block.modCq_link (b : Block) (q : Nat) (f : CQueue → CQueue) : (b.modCq q f).link = b.link := rfl
@[simp] theorem Block.modCq_parts (b : Block) (q : Nat) (f : CQueue → CQueue) : (b.modCq q f).parts = b.parts := rfl
@[simp] theorem Block.modCq_evc (b : Block) (q : Nat) (f : CQueue → CQueue) : (b.modCq q f).evc = b.evc := rfl
@[simp] theorem Block.modCq_experts (b : Block) (q : Nat) (f : CQueue → CQueue) : (b.modCq q f).experts = b.experts := rfl
@[simp] theorem Block.modCq_audit (b : Block) (q : Nat) (f : CQueue → CQueue) : (b.modCq q f).audit = b.audit := rfl
@[simp] theorem Block.modCq_trace (b : Block) (q : Nat) (f : CQueue → CQueue) : (b.modCq q f).trace = b.trace := rfl
@[simp] theorem Block.modCq_lkt (b : Block) (q : Nat) (f : CQueue → CQueue) : (b.modCq q f).lkt = b.lkt := rfl
@[simp] theorem Block.modCq_power (b : Block) (q : Nat) (f : CQueue → CQueue) : (b.modCq q f).power = b.power := rfl

/-- What `modCq` does to every entry. -/
theorem Block.cq_modCq (b : Block) (q k : Nat) (f : CQueue → CQueue) :
    (b.modCq q f).cq k = if q = k then f (b.cq k) else b.cq k := tget_tmod _ q k f
@[simp] theorem Block.cq_modCq_self (b : Block) (q : Nat) (f : CQueue → CQueue) : (b.modCq q f).cq q = f (b.cq q) := by
  simp [Block.cq_modCq]
theorem Block.cq_modCq_ne (b : Block) {q k : Nat} (f : CQueue → CQueue) (h : q ≠ k) : (b.modCq q f).cq k = b.cq k := by
  simp [Block.cq_modCq, h]

/-! ### modPeer -/

@[simp] theorem Block.modPeer_now (b : Block) (q : Nat) (f : Peer → Peer) : (b.modPeer q f).now = b.now := rfl
@[simp] theorem Block.modPeer_inReset (b : Block) (q : Nat) (f : Peer → Peer) : (b.modPeer q f).inReset = b.inReset := rfl
@[simp] theorem Block.modPeer_free (b : Block) (q : Nat) (f : Peer → Peer) : (b.modPeer q f).free = b.free := rfl
@[simp] theorem Block.modPeer_refilled (b : Block) (q : Nat) (f : Peer → Peer) : (b.modPeer q f).refilled = b.refilled := rfl
@[simp] theorem Block.modPeer_prefetch (b : Block) (q : Nat) (f : Peer → Peer) : (b.modPeer q f).prefetch = b.prefetch := rfl
@[simp] theorem Block.modPeer_tpStatus (b : Block) (q : Nat) (f : Peer → Peer) : (b.modPeer q f).tpStatus = b.tpStatus := rfl
@[simp] theorem Block.modPeer_mp (b : Block) (q : Nat) (f : Peer → Peer) : (b.modPeer q f).mp = b.mp := rfl
@[simp] theorem Block.modPeer_loader (b : Block) (q : Nat) (f : Peer → Peer) : (b.modPeer q f).loader = b.loader := rfl
@[simp] theorem Block.modPeer_setting (b : Block) (q : Nat) (f : Peer → Peer) : (b.modPeer q f).setting = b.setting := rfl
@[simp] theorem Block.modPeer_lanes (b : Block) (q : Nat) (f : Peer → Peer) : (b.modPeer q f).lanes = b.lanes := rfl
@[simp] theorem Block.modPeer_front (b : Block) (q : Nat) (f : Peer → Peer) : (b.modPeer q f).front = b.front := rfl
@[simp] theorem Block.modPeer_graph (b : Block) (q : Nat) (f : Peer → Peer) : (b.modPeer q f).graph = b.graph := rfl
@[simp] theorem Block.modPeer_fences (b : Block) (q : Nat) (f : Peer → Peer) : (b.modPeer q f).fences = b.fences := rfl
@[simp] theorem Block.modPeer_beads (b : Block) (q : Nat) (f : Peer → Peer) : (b.modPeer q f).beads = b.beads := rfl
@[simp] theorem Block.modPeer_chans (b : Block) (q : Nat) (f : Peer → Peer) : (b.modPeer q f).chans = b.chans := rfl
@[simp] theorem Block.modPeer_saffron (b : Block) (q : Nat) (f : Peer → Peer) : (b.modPeer q f).saffron = b.saffron := rfl
@[simp] theorem Block.modPeer_seq (b : Block) (q : Nat) (f : Peer → Peer) : (b.modPeer q f).seq = b.seq := rfl
@[simp] theorem Block.modPeer_cqs (b : Block) (q : Nat) (f : Peer → Peer) : (b.modPeer q f).cqs = b.cqs := rfl
@[simp] theorem Block.modPeer_parts (b : Block) (q : Nat) (f : Peer → Peer) : (b.modPeer q f).parts = b.parts := rfl
@[simp] theorem Block.modPeer_evc (b : Block) (q : Nat) (f : Peer → Peer) : (b.modPeer q f).evc = b.evc := rfl
@[simp] theorem Block.modPeer_experts (b : Block) (q : Nat) (f : Peer → Peer) : (b.modPeer q f).experts = b.experts := rfl
@[simp] theorem Block.modPeer_audit (b : Block) (q : Nat) (f : Peer → Peer) : (b.modPeer q f).audit = b.audit := rfl
@[simp] theorem Block.modPeer_trace (b : Block) (q : Nat) (f : Peer → Peer) : (b.modPeer q f).trace = b.trace := rfl
@[simp] theorem Block.modPeer_lkt (b : Block) (q : Nat) (f : Peer → Peer) : (b.modPeer q f).lkt = b.lkt := rfl
@[simp] theorem Block.modPeer_power (b : Block) (q : Nat) (f : Peer → Peer) : (b.modPeer q f).power = b.power := rfl

/-- What `modPeer` does to every entry. -/
theorem Block.peer_modPeer (b : Block) (q k : Nat) (f : Peer → Peer) :
    (b.modPeer q f).peer k = if q = k then f (b.peer k) else b.peer k := tget_tmod _ q k f
@[simp] theorem Block.peer_modPeer_self (b : Block) (q : Nat) (f : Peer → Peer) : (b.modPeer q f).peer q = f (b.peer q) := by
  simp [Block.peer_modPeer]
theorem Block.peer_modPeer_ne (b : Block) {q k : Nat} (f : Peer → Peer) (h : q ≠ k) : (b.modPeer q f).peer k = b.peer k := by
  simp [Block.peer_modPeer, h]

/-! ### modPart -/

@[simp] theorem Block.modPart_now (b : Block) (q : Nat) (f : Part → Part) : (b.modPart q f).now = b.now := rfl
@[simp] theorem Block.modPart_inReset (b : Block) (q : Nat) (f : Part → Part) : (b.modPart q f).inReset = b.inReset := rfl
@[simp] theorem Block.modPart_free (b : Block) (q : Nat) (f : Part → Part) : (b.modPart q f).free = b.free := rfl
@[simp] theorem Block.modPart_refilled (b : Block) (q : Nat) (f : Part → Part) : (b.modPart q f).refilled = b.refilled := rfl
@[simp] theorem Block.modPart_prefetch (b : Block) (q : Nat) (f : Part → Part) : (b.modPart q f).prefetch = b.prefetch := rfl
@[simp] theorem Block.modPart_tpStatus (b : Block) (q : Nat) (f : Part → Part) : (b.modPart q f).tpStatus = b.tpStatus := rfl
@[simp] theorem Block.modPart_mp (b : Block) (q : Nat) (f : Part → Part) : (b.modPart q f).mp = b.mp := rfl
@[simp] theorem Block.modPart_loader (b : Block) (q : Nat) (f : Part → Part) : (b.modPart q f).loader = b.loader := rfl
@[simp] theorem Block.modPart_setting (b : Block) (q : Nat) (f : Part → Part) : (b.modPart q f).setting = b.setting := rfl
@[simp] theorem Block.modPart_lanes (b : Block) (q : Nat) (f : Part → Part) : (b.modPart q f).lanes = b.lanes := rfl
@[simp] theorem Block.modPart_front (b : Block) (q : Nat) (f : Part → Part) : (b.modPart q f).front = b.front := rfl
@[simp] theorem Block.modPart_graph (b : Block) (q : Nat) (f : Part → Part) : (b.modPart q f).graph = b.graph := rfl
@[simp] theorem Block.modPart_fences (b : Block) (q : Nat) (f : Part → Part) : (b.modPart q f).fences = b.fences := rfl
@[simp] theorem Block.modPart_beads (b : Block) (q : Nat) (f : Part → Part) : (b.modPart q f).beads = b.beads := rfl
@[simp] theorem Block.modPart_chans (b : Block) (q : Nat) (f : Part → Part) : (b.modPart q f).chans = b.chans := rfl
@[simp] theorem Block.modPart_saffron (b : Block) (q : Nat) (f : Part → Part) : (b.modPart q f).saffron = b.saffron := rfl
@[simp] theorem Block.modPart_seq (b : Block) (q : Nat) (f : Part → Part) : (b.modPart q f).seq = b.seq := rfl
@[simp] theorem Block.modPart_cqs (b : Block) (q : Nat) (f : Part → Part) : (b.modPart q f).cqs = b.cqs := rfl
@[simp] theorem Block.modPart_link (b : Block) (q : Nat) (f : Part → Part) : (b.modPart q f).link = b.link := rfl
@[simp] theorem Block.modPart_evc (b : Block) (q : Nat) (f : Part → Part) : (b.modPart q f).evc = b.evc := rfl
@[simp] theorem Block.modPart_experts (b : Block) (q : Nat) (f : Part → Part) : (b.modPart q f).experts = b.experts := rfl
@[simp] theorem Block.modPart_audit (b : Block) (q : Nat) (f : Part → Part) : (b.modPart q f).audit = b.audit := rfl
@[simp] theorem Block.modPart_trace (b : Block) (q : Nat) (f : Part → Part) : (b.modPart q f).trace = b.trace := rfl
@[simp] theorem Block.modPart_lkt (b : Block) (q : Nat) (f : Part → Part) : (b.modPart q f).lkt = b.lkt := rfl
@[simp] theorem Block.modPart_power (b : Block) (q : Nat) (f : Part → Part) : (b.modPart q f).power = b.power := rfl

/-- What `modPart` does to every entry. -/
theorem Block.part_modPart (b : Block) (q k : Nat) (f : Part → Part) :
    (b.modPart q f).part k = if q = k then f (b.part k) else b.part k := tget_tmod _ q k f
@[simp] theorem Block.part_modPart_self (b : Block) (q : Nat) (f : Part → Part) : (b.modPart q f).part q = f (b.part q) := by
  simp [Block.part_modPart]
theorem Block.part_modPart_ne (b : Block) {q k : Nat} (f : Part → Part) (h : q ≠ k) : (b.modPart q f).part k = b.part k := by
  simp [Block.part_modPart, h]

/-! ### modCtx -/

@[simp] theorem Block.modCtx_now (b : Block) (q : Nat) (f : Ctx → Ctx) : (b.modCtx q f).now = b.now := rfl
@[simp] theorem Block.modCtx_inReset (b : Block) (q : Nat) (f : Ctx → Ctx) : (b.modCtx q f).inReset = b.inReset := rfl
@[simp] theorem Block.modCtx_free (b : Block) (q : Nat) (f : Ctx → Ctx) : (b.modCtx q f).free = b.free := rfl
@[simp] theorem Block.modCtx_refilled (b : Block) (q : Nat) (f : Ctx → Ctx) : (b.modCtx q f).refilled = b.refilled := rfl
@[simp] theorem Block.modCtx_prefetch (b : Block) (q : Nat) (f : Ctx → Ctx) : (b.modCtx q f).prefetch = b.prefetch := rfl
@[simp] theorem Block.modCtx_tpStatus (b : Block) (q : Nat) (f : Ctx → Ctx) : (b.modCtx q f).tpStatus = b.tpStatus := rfl
@[simp] theorem Block.modCtx_mp (b : Block) (q : Nat) (f : Ctx → Ctx) : (b.modCtx q f).mp = b.mp := rfl
@[simp] theorem Block.modCtx_loader (b : Block) (q : Nat) (f : Ctx → Ctx) : (b.modCtx q f).loader = b.loader := rfl
@[simp] theorem Block.modCtx_setting (b : Block) (q : Nat) (f : Ctx → Ctx) : (b.modCtx q f).setting = b.setting := rfl
@[simp] theorem Block.modCtx_lanes (b : Block) (q : Nat) (f : Ctx → Ctx) : (b.modCtx q f).lanes = b.lanes := rfl
@[simp] theorem Block.modCtx_front (b : Block) (q : Nat) (f : Ctx → Ctx) : (b.modCtx q f).front = b.front := rfl
@[simp] theorem Block.modCtx_graph (b : Block) (q : Nat) (f : Ctx → Ctx) : (b.modCtx q f).graph = b.graph := rfl
@[simp] theorem Block.modCtx_fences (b : Block) (q : Nat) (f : Ctx → Ctx) : (b.modCtx q f).fences = b.fences := rfl
@[simp] theorem Block.modCtx_beads (b : Block) (q : Nat) (f : Ctx → Ctx) : (b.modCtx q f).beads = b.beads := rfl
@[simp] theorem Block.modCtx_chans (b : Block) (q : Nat) (f : Ctx → Ctx) : (b.modCtx q f).chans = b.chans := rfl
@[simp] theorem Block.modCtx_saffron (b : Block) (q : Nat) (f : Ctx → Ctx) : (b.modCtx q f).saffron = b.saffron := rfl
@[simp] theorem Block.modCtx_seq (b : Block) (q : Nat) (f : Ctx → Ctx) : (b.modCtx q f).seq = b.seq := rfl
@[simp] theorem Block.modCtx_cqs (b : Block) (q : Nat) (f : Ctx → Ctx) : (b.modCtx q f).cqs = b.cqs := rfl
@[simp] theorem Block.modCtx_link (b : Block) (q : Nat) (f : Ctx → Ctx) : (b.modCtx q f).link = b.link := rfl
@[simp] theorem Block.modCtx_evc (b : Block) (q : Nat) (f : Ctx → Ctx) : (b.modCtx q f).evc = b.evc := rfl
@[simp] theorem Block.modCtx_experts (b : Block) (q : Nat) (f : Ctx → Ctx) : (b.modCtx q f).experts = b.experts := rfl
@[simp] theorem Block.modCtx_audit (b : Block) (q : Nat) (f : Ctx → Ctx) : (b.modCtx q f).audit = b.audit := rfl
@[simp] theorem Block.modCtx_trace (b : Block) (q : Nat) (f : Ctx → Ctx) : (b.modCtx q f).trace = b.trace := rfl
@[simp] theorem Block.modCtx_lkt (b : Block) (q : Nat) (f : Ctx → Ctx) : (b.modCtx q f).lkt = b.lkt := rfl
@[simp] theorem Block.modCtx_power (b : Block) (q : Nat) (f : Ctx → Ctx) : (b.modCtx q f).power = b.power := rfl

/-- What `modCtx` does to every entry. -/
theorem Block.ctx_modCtx (b : Block) (q k : Nat) (f : Ctx → Ctx) :
    (b.modCtx q f).ctx k = if q = k then f (b.ctx k) else b.ctx k := tget_tmod _ q k f
@[simp] theorem Block.ctx_modCtx_self (b : Block) (q : Nat) (f : Ctx → Ctx) : (b.modCtx q f).ctx q = f (b.ctx q) := by
  simp [Block.ctx_modCtx]
theorem Block.ctx_modCtx_ne (b : Block) {q k : Nat} (f : Ctx → Ctx) (h : q ≠ k) : (b.modCtx q f).ctx k = b.ctx k := by
  simp [Block.ctx_modCtx, h]

/-! ### modPbead -/

@[simp] theorem Block.modPbead_now (b : Block) (q : Nat) (f : PBead → PBead) : (b.modPbead q f).now = b.now := rfl
@[simp] theorem Block.modPbead_inReset (b : Block) (q : Nat) (f : PBead → PBead) : (b.modPbead q f).inReset = b.inReset := rfl
@[simp] theorem Block.modPbead_free (b : Block) (q : Nat) (f : PBead → PBead) : (b.modPbead q f).free = b.free := rfl
@[simp] theorem Block.modPbead_refilled (b : Block) (q : Nat) (f : PBead → PBead) : (b.modPbead q f).refilled = b.refilled := rfl
@[simp] theorem Block.modPbead_prefetch (b : Block) (q : Nat) (f : PBead → PBead) : (b.modPbead q f).prefetch = b.prefetch := rfl
@[simp] theorem Block.modPbead_tpStatus (b : Block) (q : Nat) (f : PBead → PBead) : (b.modPbead q f).tpStatus = b.tpStatus := rfl
@[simp] theorem Block.modPbead_mp (b : Block) (q : Nat) (f : PBead → PBead) : (b.modPbead q f).mp = b.mp := rfl
@[simp] theorem Block.modPbead_loader (b : Block) (q : Nat) (f : PBead → PBead) : (b.modPbead q f).loader = b.loader := rfl
@[simp] theorem Block.modPbead_setting (b : Block) (q : Nat) (f : PBead → PBead) : (b.modPbead q f).setting = b.setting := rfl
@[simp] theorem Block.modPbead_lanes (b : Block) (q : Nat) (f : PBead → PBead) : (b.modPbead q f).lanes = b.lanes := rfl
@[simp] theorem Block.modPbead_front (b : Block) (q : Nat) (f : PBead → PBead) : (b.modPbead q f).front = b.front := rfl
@[simp] theorem Block.modPbead_graph (b : Block) (q : Nat) (f : PBead → PBead) : (b.modPbead q f).graph = b.graph := rfl
@[simp] theorem Block.modPbead_fences (b : Block) (q : Nat) (f : PBead → PBead) : (b.modPbead q f).fences = b.fences := rfl
@[simp] theorem Block.modPbead_beads (b : Block) (q : Nat) (f : PBead → PBead) : (b.modPbead q f).beads = b.beads := rfl
@[simp] theorem Block.modPbead_chans (b : Block) (q : Nat) (f : PBead → PBead) : (b.modPbead q f).chans = b.chans := rfl
@[simp] theorem Block.modPbead_saffron (b : Block) (q : Nat) (f : PBead → PBead) : (b.modPbead q f).saffron = b.saffron := rfl
@[simp] theorem Block.modPbead_seq (b : Block) (q : Nat) (f : PBead → PBead) : (b.modPbead q f).seq = b.seq := rfl
@[simp] theorem Block.modPbead_cqs (b : Block) (q : Nat) (f : PBead → PBead) : (b.modPbead q f).cqs = b.cqs := rfl
@[simp] theorem Block.modPbead_link (b : Block) (q : Nat) (f : PBead → PBead) : (b.modPbead q f).link = b.link := rfl
@[simp] theorem Block.modPbead_evc (b : Block) (q : Nat) (f : PBead → PBead) : (b.modPbead q f).evc = b.evc := rfl
@[simp] theorem Block.modPbead_experts (b : Block) (q : Nat) (f : PBead → PBead) : (b.modPbead q f).experts = b.experts := rfl
@[simp] theorem Block.modPbead_audit (b : Block) (q : Nat) (f : PBead → PBead) : (b.modPbead q f).audit = b.audit := rfl
@[simp] theorem Block.modPbead_trace (b : Block) (q : Nat) (f : PBead → PBead) : (b.modPbead q f).trace = b.trace := rfl
@[simp] theorem Block.modPbead_lkt (b : Block) (q : Nat) (f : PBead → PBead) : (b.modPbead q f).lkt = b.lkt := rfl
@[simp] theorem Block.modPbead_power (b : Block) (q : Nat) (f : PBead → PBead) : (b.modPbead q f).power = b.power := rfl

/-- What `modPbead` does to every entry. -/
theorem Block.pbead_modPbead (b : Block) (q k : Nat) (f : PBead → PBead) :
    (b.modPbead q f).pbead k = if q = k then f (b.pbead k) else b.pbead k := tget_tmod _ q k f
@[simp] theorem Block.pbead_modPbead_self (b : Block) (q : Nat) (f : PBead → PBead) : (b.modPbead q f).pbead q = f (b.pbead q) := by
  simp [Block.pbead_modPbead]
theorem Block.pbead_modPbead_ne (b : Block) {q k : Nat} (f : PBead → PBead) (h : q ≠ k) : (b.modPbead q f).pbead k = b.pbead k := by
  simp [Block.pbead_modPbead, h]

/-! ### modLane -/

@[simp] theorem Block.modLane_now (b : Block) (q : Nat) (f : Lane → Lane) : (b.modLane q f).now = b.now := rfl
@[simp] theorem Block.modLane_inReset (b : Block) (q : Nat) (f : Lane → Lane) : (b.modLane q f).inReset = b.inReset := rfl
@[simp] theorem Block.modLane_free (b : Block) (q : Nat) (f : Lane → Lane) : (b.modLane q f).free = b.free := rfl
@[simp] theorem Block.modLane_refilled (b : Block) (q : Nat) (f : Lane → Lane) : (b.modLane q f).refilled = b.refilled := rfl
@[simp] theorem Block.modLane_prefetch (b : Block) (q : Nat) (f : Lane → Lane) : (b.modLane q f).prefetch = b.prefetch := rfl
@[simp] theorem Block.modLane_tpStatus (b : Block) (q : Nat) (f : Lane → Lane) : (b.modLane q f).tpStatus = b.tpStatus := rfl
@[simp] theorem Block.modLane_mp (b : Block) (q : Nat) (f : Lane → Lane) : (b.modLane q f).mp = b.mp := rfl
@[simp] theorem Block.modLane_loader (b : Block) (q : Nat) (f : Lane → Lane) : (b.modLane q f).loader = b.loader := rfl
@[simp] theorem Block.modLane_setting (b : Block) (q : Nat) (f : Lane → Lane) : (b.modLane q f).setting = b.setting := rfl
@[simp] theorem Block.modLane_front (b : Block) (q : Nat) (f : Lane → Lane) : (b.modLane q f).front = b.front := rfl
@[simp] theorem Block.modLane_graph (b : Block) (q : Nat) (f : Lane → Lane) : (b.modLane q f).graph = b.graph := rfl
@[simp] theorem Block.modLane_fences (b : Block) (q : Nat) (f : Lane → Lane) : (b.modLane q f).fences = b.fences := rfl
@[simp] theorem Block.modLane_beads (b : Block) (q : Nat) (f : Lane → Lane) : (b.modLane q f).beads = b.beads := rfl
@[simp] theorem Block.modLane_chans (b : Block) (q : Nat) (f : Lane → Lane) : (b.modLane q f).chans = b.chans := rfl
@[simp] theorem Block.modLane_saffron (b : Block) (q : Nat) (f : Lane → Lane) : (b.modLane q f).saffron = b.saffron := rfl
@[simp] theorem Block.modLane_seq (b : Block) (q : Nat) (f : Lane → Lane) : (b.modLane q f).seq = b.seq := rfl
@[simp] theorem Block.modLane_cqs (b : Block) (q : Nat) (f : Lane → Lane) : (b.modLane q f).cqs = b.cqs := rfl
@[simp] theorem Block.modLane_link (b : Block) (q : Nat) (f : Lane → Lane) : (b.modLane q f).link = b.link := rfl
@[simp] theorem Block.modLane_parts (b : Block) (q : Nat) (f : Lane → Lane) : (b.modLane q f).parts = b.parts := rfl
@[simp] theorem Block.modLane_evc (b : Block) (q : Nat) (f : Lane → Lane) : (b.modLane q f).evc = b.evc := rfl
@[simp] theorem Block.modLane_experts (b : Block) (q : Nat) (f : Lane → Lane) : (b.modLane q f).experts = b.experts := rfl
@[simp] theorem Block.modLane_audit (b : Block) (q : Nat) (f : Lane → Lane) : (b.modLane q f).audit = b.audit := rfl
@[simp] theorem Block.modLane_trace (b : Block) (q : Nat) (f : Lane → Lane) : (b.modLane q f).trace = b.trace := rfl
@[simp] theorem Block.modLane_lkt (b : Block) (q : Nat) (f : Lane → Lane) : (b.modLane q f).lkt = b.lkt := rfl
@[simp] theorem Block.modLane_power (b : Block) (q : Nat) (f : Lane → Lane) : (b.modLane q f).power = b.power := rfl

/-- What `modLane` does to every entry. -/
theorem Block.lane_modLane (b : Block) (q k : Nat) (f : Lane → Lane) :
    (b.modLane q f).lane k = if q = k then f (b.lane k) else b.lane k := tget_tmod _ q k f
@[simp] theorem Block.lane_modLane_self (b : Block) (q : Nat) (f : Lane → Lane) : (b.modLane q f).lane q = f (b.lane q) := by
  simp [Block.lane_modLane]
theorem Block.lane_modLane_ne (b : Block) {q k : Nat} (f : Lane → Lane) (h : q ≠ k) : (b.modLane q f).lane k = b.lane k := by
  simp [Block.lane_modLane, h]

/-! ### modEvSrc -/

@[simp] theorem Block.modEvSrc_now (b : Block) (q : Nat) (f : EvSrc → EvSrc) : (b.modEvSrc q f).now = b.now := rfl
@[simp] theorem Block.modEvSrc_inReset (b : Block) (q : Nat) (f : EvSrc → EvSrc) : (b.modEvSrc q f).inReset = b.inReset := rfl
@[simp] theorem Block.modEvSrc_free (b : Block) (q : Nat) (f : EvSrc → EvSrc) : (b.modEvSrc q f).free = b.free := rfl
@[simp] theorem Block.modEvSrc_refilled (b : Block) (q : Nat) (f : EvSrc → EvSrc) : (b.modEvSrc q f).refilled = b.refilled := rfl
@[simp] theorem Block.modEvSrc_prefetch (b : Block) (q : Nat) (f : EvSrc → EvSrc) : (b.modEvSrc q f).prefetch = b.prefetch := rfl
@[simp] theorem Block.modEvSrc_tpStatus (b : Block) (q : Nat) (f : EvSrc → EvSrc) : (b.modEvSrc q f).tpStatus = b.tpStatus := rfl
@[simp] theorem Block.modEvSrc_mp (b : Block) (q : Nat) (f : EvSrc → EvSrc) : (b.modEvSrc q f).mp = b.mp := rfl
@[simp] theorem Block.modEvSrc_loader (b : Block) (q : Nat) (f : EvSrc → EvSrc) : (b.modEvSrc q f).loader = b.loader := rfl
@[simp] theorem Block.modEvSrc_setting (b : Block) (q : Nat) (f : EvSrc → EvSrc) : (b.modEvSrc q f).setting = b.setting := rfl
@[simp] theorem Block.modEvSrc_lanes (b : Block) (q : Nat) (f : EvSrc → EvSrc) : (b.modEvSrc q f).lanes = b.lanes := rfl
@[simp] theorem Block.modEvSrc_front (b : Block) (q : Nat) (f : EvSrc → EvSrc) : (b.modEvSrc q f).front = b.front := rfl
@[simp] theorem Block.modEvSrc_graph (b : Block) (q : Nat) (f : EvSrc → EvSrc) : (b.modEvSrc q f).graph = b.graph := rfl
@[simp] theorem Block.modEvSrc_fences (b : Block) (q : Nat) (f : EvSrc → EvSrc) : (b.modEvSrc q f).fences = b.fences := rfl
@[simp] theorem Block.modEvSrc_beads (b : Block) (q : Nat) (f : EvSrc → EvSrc) : (b.modEvSrc q f).beads = b.beads := rfl
@[simp] theorem Block.modEvSrc_chans (b : Block) (q : Nat) (f : EvSrc → EvSrc) : (b.modEvSrc q f).chans = b.chans := rfl
@[simp] theorem Block.modEvSrc_saffron (b : Block) (q : Nat) (f : EvSrc → EvSrc) : (b.modEvSrc q f).saffron = b.saffron := rfl
@[simp] theorem Block.modEvSrc_seq (b : Block) (q : Nat) (f : EvSrc → EvSrc) : (b.modEvSrc q f).seq = b.seq := rfl
@[simp] theorem Block.modEvSrc_cqs (b : Block) (q : Nat) (f : EvSrc → EvSrc) : (b.modEvSrc q f).cqs = b.cqs := rfl
@[simp] theorem Block.modEvSrc_link (b : Block) (q : Nat) (f : EvSrc → EvSrc) : (b.modEvSrc q f).link = b.link := rfl
@[simp] theorem Block.modEvSrc_parts (b : Block) (q : Nat) (f : EvSrc → EvSrc) : (b.modEvSrc q f).parts = b.parts := rfl
@[simp] theorem Block.modEvSrc_experts (b : Block) (q : Nat) (f : EvSrc → EvSrc) : (b.modEvSrc q f).experts = b.experts := rfl
@[simp] theorem Block.modEvSrc_audit (b : Block) (q : Nat) (f : EvSrc → EvSrc) : (b.modEvSrc q f).audit = b.audit := rfl
@[simp] theorem Block.modEvSrc_trace (b : Block) (q : Nat) (f : EvSrc → EvSrc) : (b.modEvSrc q f).trace = b.trace := rfl
@[simp] theorem Block.modEvSrc_lkt (b : Block) (q : Nat) (f : EvSrc → EvSrc) : (b.modEvSrc q f).lkt = b.lkt := rfl
@[simp] theorem Block.modEvSrc_power (b : Block) (q : Nat) (f : EvSrc → EvSrc) : (b.modEvSrc q f).power = b.power := rfl

/-- What `modEvSrc` does to every entry. -/
theorem Block.evSrc_modEvSrc (b : Block) (q k : Nat) (f : EvSrc → EvSrc) :
    (b.modEvSrc q f).evSrc k = if q = k then f (b.evSrc k) else b.evSrc k := tget_tmod _ q k f
@[simp] theorem Block.evSrc_modEvSrc_self (b : Block) (q : Nat) (f : EvSrc → EvSrc) : (b.modEvSrc q f).evSrc q = f (b.evSrc q) := by
  simp [Block.evSrc_modEvSrc]
theorem Block.evSrc_modEvSrc_ne (b : Block) {q k : Nat} (f : EvSrc → EvSrc) (h : q ≠ k) : (b.modEvSrc q f).evSrc k = b.evSrc k := by
  simp [Block.evSrc_modEvSrc, h]

/-! ### modEvGroup -/

@[simp] theorem Block.modEvGroup_now (b : Block) (q : Nat) (f : EvGroup → EvGroup) : (b.modEvGroup q f).now = b.now := rfl
@[simp] theorem Block.modEvGroup_inReset (b : Block) (q : Nat) (f : EvGroup → EvGroup) : (b.modEvGroup q f).inReset = b.inReset := rfl
@[simp] theorem Block.modEvGroup_free (b : Block) (q : Nat) (f : EvGroup → EvGroup) : (b.modEvGroup q f).free = b.free := rfl
@[simp] theorem Block.modEvGroup_refilled (b : Block) (q : Nat) (f : EvGroup → EvGroup) : (b.modEvGroup q f).refilled = b.refilled := rfl
@[simp] theorem Block.modEvGroup_prefetch (b : Block) (q : Nat) (f : EvGroup → EvGroup) : (b.modEvGroup q f).prefetch = b.prefetch := rfl
@[simp] theorem Block.modEvGroup_tpStatus (b : Block) (q : Nat) (f : EvGroup → EvGroup) : (b.modEvGroup q f).tpStatus = b.tpStatus := rfl
@[simp] theorem Block.modEvGroup_mp (b : Block) (q : Nat) (f : EvGroup → EvGroup) : (b.modEvGroup q f).mp = b.mp := rfl
@[simp] theorem Block.modEvGroup_loader (b : Block) (q : Nat) (f : EvGroup → EvGroup) : (b.modEvGroup q f).loader = b.loader := rfl
@[simp] theorem Block.modEvGroup_setting (b : Block) (q : Nat) (f : EvGroup → EvGroup) : (b.modEvGroup q f).setting = b.setting := rfl
@[simp] theorem Block.modEvGroup_lanes (b : Block) (q : Nat) (f : EvGroup → EvGroup) : (b.modEvGroup q f).lanes = b.lanes := rfl
@[simp] theorem Block.modEvGroup_front (b : Block) (q : Nat) (f : EvGroup → EvGroup) : (b.modEvGroup q f).front = b.front := rfl
@[simp] theorem Block.modEvGroup_graph (b : Block) (q : Nat) (f : EvGroup → EvGroup) : (b.modEvGroup q f).graph = b.graph := rfl
@[simp] theorem Block.modEvGroup_fences (b : Block) (q : Nat) (f : EvGroup → EvGroup) : (b.modEvGroup q f).fences = b.fences := rfl
@[simp] theorem Block.modEvGroup_beads (b : Block) (q : Nat) (f : EvGroup → EvGroup) : (b.modEvGroup q f).beads = b.beads := rfl
@[simp] theorem Block.modEvGroup_chans (b : Block) (q : Nat) (f : EvGroup → EvGroup) : (b.modEvGroup q f).chans = b.chans := rfl
@[simp] theorem Block.modEvGroup_saffron (b : Block) (q : Nat) (f : EvGroup → EvGroup) : (b.modEvGroup q f).saffron = b.saffron := rfl
@[simp] theorem Block.modEvGroup_seq (b : Block) (q : Nat) (f : EvGroup → EvGroup) : (b.modEvGroup q f).seq = b.seq := rfl
@[simp] theorem Block.modEvGroup_cqs (b : Block) (q : Nat) (f : EvGroup → EvGroup) : (b.modEvGroup q f).cqs = b.cqs := rfl
@[simp] theorem Block.modEvGroup_link (b : Block) (q : Nat) (f : EvGroup → EvGroup) : (b.modEvGroup q f).link = b.link := rfl
@[simp] theorem Block.modEvGroup_parts (b : Block) (q : Nat) (f : EvGroup → EvGroup) : (b.modEvGroup q f).parts = b.parts := rfl
@[simp] theorem Block.modEvGroup_experts (b : Block) (q : Nat) (f : EvGroup → EvGroup) : (b.modEvGroup q f).experts = b.experts := rfl
@[simp] theorem Block.modEvGroup_audit (b : Block) (q : Nat) (f : EvGroup → EvGroup) : (b.modEvGroup q f).audit = b.audit := rfl
@[simp] theorem Block.modEvGroup_trace (b : Block) (q : Nat) (f : EvGroup → EvGroup) : (b.modEvGroup q f).trace = b.trace := rfl
@[simp] theorem Block.modEvGroup_lkt (b : Block) (q : Nat) (f : EvGroup → EvGroup) : (b.modEvGroup q f).lkt = b.lkt := rfl
@[simp] theorem Block.modEvGroup_power (b : Block) (q : Nat) (f : EvGroup → EvGroup) : (b.modEvGroup q f).power = b.power := rfl

/-- What `modEvGroup` does to every entry. -/
theorem Block.evGroup_modEvGroup (b : Block) (q k : Nat) (f : EvGroup → EvGroup) :
    (b.modEvGroup q f).evGroup k = if q = k then f (b.evGroup k) else b.evGroup k := tget_tmod _ q k f
@[simp] theorem Block.evGroup_modEvGroup_self (b : Block) (q : Nat) (f : EvGroup → EvGroup) : (b.modEvGroup q f).evGroup q = f (b.evGroup q) := by
  simp [Block.evGroup_modEvGroup]
theorem Block.evGroup_modEvGroup_ne (b : Block) {q k : Nat} (f : EvGroup → EvGroup) (h : q ≠ k) : (b.modEvGroup q f).evGroup k = b.evGroup k := by
  simp [Block.evGroup_modEvGroup, h]

/-! ### modEvTarget -/

@[simp] theorem Block.modEvTarget_now (b : Block) (q : Nat) (f : EvTarget → EvTarget) : (b.modEvTarget q f).now = b.now := rfl
@[simp] theorem Block.modEvTarget_inReset (b : Block) (q : Nat) (f : EvTarget → EvTarget) : (b.modEvTarget q f).inReset = b.inReset := rfl
@[simp] theorem Block.modEvTarget_free (b : Block) (q : Nat) (f : EvTarget → EvTarget) : (b.modEvTarget q f).free = b.free := rfl
@[simp] theorem Block.modEvTarget_refilled (b : Block) (q : Nat) (f : EvTarget → EvTarget) : (b.modEvTarget q f).refilled = b.refilled := rfl
@[simp] theorem Block.modEvTarget_prefetch (b : Block) (q : Nat) (f : EvTarget → EvTarget) : (b.modEvTarget q f).prefetch = b.prefetch := rfl
@[simp] theorem Block.modEvTarget_tpStatus (b : Block) (q : Nat) (f : EvTarget → EvTarget) : (b.modEvTarget q f).tpStatus = b.tpStatus := rfl
@[simp] theorem Block.modEvTarget_mp (b : Block) (q : Nat) (f : EvTarget → EvTarget) : (b.modEvTarget q f).mp = b.mp := rfl
@[simp] theorem Block.modEvTarget_loader (b : Block) (q : Nat) (f : EvTarget → EvTarget) : (b.modEvTarget q f).loader = b.loader := rfl
@[simp] theorem Block.modEvTarget_setting (b : Block) (q : Nat) (f : EvTarget → EvTarget) : (b.modEvTarget q f).setting = b.setting := rfl
@[simp] theorem Block.modEvTarget_lanes (b : Block) (q : Nat) (f : EvTarget → EvTarget) : (b.modEvTarget q f).lanes = b.lanes := rfl
@[simp] theorem Block.modEvTarget_front (b : Block) (q : Nat) (f : EvTarget → EvTarget) : (b.modEvTarget q f).front = b.front := rfl
@[simp] theorem Block.modEvTarget_graph (b : Block) (q : Nat) (f : EvTarget → EvTarget) : (b.modEvTarget q f).graph = b.graph := rfl
@[simp] theorem Block.modEvTarget_fences (b : Block) (q : Nat) (f : EvTarget → EvTarget) : (b.modEvTarget q f).fences = b.fences := rfl
@[simp] theorem Block.modEvTarget_beads (b : Block) (q : Nat) (f : EvTarget → EvTarget) : (b.modEvTarget q f).beads = b.beads := rfl
@[simp] theorem Block.modEvTarget_chans (b : Block) (q : Nat) (f : EvTarget → EvTarget) : (b.modEvTarget q f).chans = b.chans := rfl
@[simp] theorem Block.modEvTarget_saffron (b : Block) (q : Nat) (f : EvTarget → EvTarget) : (b.modEvTarget q f).saffron = b.saffron := rfl
@[simp] theorem Block.modEvTarget_seq (b : Block) (q : Nat) (f : EvTarget → EvTarget) : (b.modEvTarget q f).seq = b.seq := rfl
@[simp] theorem Block.modEvTarget_cqs (b : Block) (q : Nat) (f : EvTarget → EvTarget) : (b.modEvTarget q f).cqs = b.cqs := rfl
@[simp] theorem Block.modEvTarget_link (b : Block) (q : Nat) (f : EvTarget → EvTarget) : (b.modEvTarget q f).link = b.link := rfl
@[simp] theorem Block.modEvTarget_parts (b : Block) (q : Nat) (f : EvTarget → EvTarget) : (b.modEvTarget q f).parts = b.parts := rfl
@[simp] theorem Block.modEvTarget_experts (b : Block) (q : Nat) (f : EvTarget → EvTarget) : (b.modEvTarget q f).experts = b.experts := rfl
@[simp] theorem Block.modEvTarget_audit (b : Block) (q : Nat) (f : EvTarget → EvTarget) : (b.modEvTarget q f).audit = b.audit := rfl
@[simp] theorem Block.modEvTarget_trace (b : Block) (q : Nat) (f : EvTarget → EvTarget) : (b.modEvTarget q f).trace = b.trace := rfl
@[simp] theorem Block.modEvTarget_lkt (b : Block) (q : Nat) (f : EvTarget → EvTarget) : (b.modEvTarget q f).lkt = b.lkt := rfl
@[simp] theorem Block.modEvTarget_power (b : Block) (q : Nat) (f : EvTarget → EvTarget) : (b.modEvTarget q f).power = b.power := rfl

/-- What `modEvTarget` does to every entry. -/
theorem Block.evTarget_modEvTarget (b : Block) (q k : Nat) (f : EvTarget → EvTarget) :
    (b.modEvTarget q f).evTarget k = if q = k then f (b.evTarget k) else b.evTarget k := tget_tmod _ q k f
@[simp] theorem Block.evTarget_modEvTarget_self (b : Block) (q : Nat) (f : EvTarget → EvTarget) : (b.modEvTarget q f).evTarget q = f (b.evTarget q) := by
  simp [Block.evTarget_modEvTarget]
theorem Block.evTarget_modEvTarget_ne (b : Block) {q k : Nat} (f : EvTarget → EvTarget) (h : q ≠ k) : (b.modEvTarget q f).evTarget k = b.evTarget k := by
  simp [Block.evTarget_modEvTarget, h]

/-! ### modDom -/

@[simp] theorem Block.modDom_now (b : Block) (q : Nat) (f : Domain → Domain) : (b.modDom q f).now = b.now := rfl
@[simp] theorem Block.modDom_inReset (b : Block) (q : Nat) (f : Domain → Domain) : (b.modDom q f).inReset = b.inReset := rfl
@[simp] theorem Block.modDom_free (b : Block) (q : Nat) (f : Domain → Domain) : (b.modDom q f).free = b.free := rfl
@[simp] theorem Block.modDom_refilled (b : Block) (q : Nat) (f : Domain → Domain) : (b.modDom q f).refilled = b.refilled := rfl
@[simp] theorem Block.modDom_prefetch (b : Block) (q : Nat) (f : Domain → Domain) : (b.modDom q f).prefetch = b.prefetch := rfl
@[simp] theorem Block.modDom_tpStatus (b : Block) (q : Nat) (f : Domain → Domain) : (b.modDom q f).tpStatus = b.tpStatus := rfl
@[simp] theorem Block.modDom_mp (b : Block) (q : Nat) (f : Domain → Domain) : (b.modDom q f).mp = b.mp := rfl
@[simp] theorem Block.modDom_loader (b : Block) (q : Nat) (f : Domain → Domain) : (b.modDom q f).loader = b.loader := rfl
@[simp] theorem Block.modDom_setting (b : Block) (q : Nat) (f : Domain → Domain) : (b.modDom q f).setting = b.setting := rfl
@[simp] theorem Block.modDom_lanes (b : Block) (q : Nat) (f : Domain → Domain) : (b.modDom q f).lanes = b.lanes := rfl
@[simp] theorem Block.modDom_front (b : Block) (q : Nat) (f : Domain → Domain) : (b.modDom q f).front = b.front := rfl
@[simp] theorem Block.modDom_graph (b : Block) (q : Nat) (f : Domain → Domain) : (b.modDom q f).graph = b.graph := rfl
@[simp] theorem Block.modDom_fences (b : Block) (q : Nat) (f : Domain → Domain) : (b.modDom q f).fences = b.fences := rfl
@[simp] theorem Block.modDom_beads (b : Block) (q : Nat) (f : Domain → Domain) : (b.modDom q f).beads = b.beads := rfl
@[simp] theorem Block.modDom_chans (b : Block) (q : Nat) (f : Domain → Domain) : (b.modDom q f).chans = b.chans := rfl
@[simp] theorem Block.modDom_saffron (b : Block) (q : Nat) (f : Domain → Domain) : (b.modDom q f).saffron = b.saffron := rfl
@[simp] theorem Block.modDom_seq (b : Block) (q : Nat) (f : Domain → Domain) : (b.modDom q f).seq = b.seq := rfl
@[simp] theorem Block.modDom_cqs (b : Block) (q : Nat) (f : Domain → Domain) : (b.modDom q f).cqs = b.cqs := rfl
@[simp] theorem Block.modDom_link (b : Block) (q : Nat) (f : Domain → Domain) : (b.modDom q f).link = b.link := rfl
@[simp] theorem Block.modDom_parts (b : Block) (q : Nat) (f : Domain → Domain) : (b.modDom q f).parts = b.parts := rfl
@[simp] theorem Block.modDom_evc (b : Block) (q : Nat) (f : Domain → Domain) : (b.modDom q f).evc = b.evc := rfl
@[simp] theorem Block.modDom_experts (b : Block) (q : Nat) (f : Domain → Domain) : (b.modDom q f).experts = b.experts := rfl
@[simp] theorem Block.modDom_audit (b : Block) (q : Nat) (f : Domain → Domain) : (b.modDom q f).audit = b.audit := rfl
@[simp] theorem Block.modDom_trace (b : Block) (q : Nat) (f : Domain → Domain) : (b.modDom q f).trace = b.trace := rfl
@[simp] theorem Block.modDom_lkt (b : Block) (q : Nat) (f : Domain → Domain) : (b.modDom q f).lkt = b.lkt := rfl

/-- What `modDom` does to every entry. -/
theorem Block.dom_modDom (b : Block) (q k : Nat) (f : Domain → Domain) :
    (b.modDom q f).dom k = if q = k then f (b.dom k) else b.dom k := tget_tmod _ q k f
@[simp] theorem Block.dom_modDom_self (b : Block) (q : Nat) (f : Domain → Domain) : (b.modDom q f).dom q = f (b.dom q) := by
  simp [Block.dom_modDom]
theorem Block.dom_modDom_ne (b : Block) {q k : Nat} (f : Domain → Domain) (h : q ≠ k) : (b.modDom q f).dom k = b.dom k := by
  simp [Block.dom_modDom, h]

/-! ### The entries of other tables -/

@[simp] theorem Block.hws_modQueue (b : Block) (q : Nat) (k : Nat) (f : Queue → Queue) : (b.modQueue q f).hws k = b.hws k := rfl
@[simp] theorem Block.sub_modQueue (b : Block) (q : Nat) (k : Nat) (f : Queue → Queue) : (b.modQueue q f).sub k = b.sub k := rfl
@[simp] theorem Block.node_modQueue (b : Block) (q : Nat) (k v : Nat) (f : Queue → Queue) : (b.modQueue q f).node k v = b.node k v := rfl
@[simp] theorem Block.cwin_modQueue (b : Block) (q : Nat) (k v : Nat) (f : Queue → Queue) : (b.modQueue q f).cwin k v = b.cwin k v := rfl
@[simp] theorem Block.fence_modQueue (b : Block) (q : Nat) (k : Nat) (f : Queue → Queue) : (b.modQueue q f).fence k = b.fence k := rfl
@[simp] theorem Block.bead_modQueue (b : Block) (q : Nat) (k : Nat) (f : Queue → Queue) : (b.modQueue q f).bead k = b.bead k := rfl
@[simp] theorem Block.win_modQueue (b : Block) (q : Nat) (k v : Nat) (f : Queue → Queue) : (b.modQueue q f).win k v = b.win k v := rfl
@[simp] theorem Block.slot_modQueue (b : Block) (q : Nat) (k v : Nat) (f : Queue → Queue) : (b.modQueue q f).slot k v = b.slot k v := rfl
@[simp] theorem Block.chan_modQueue (b : Block) (q : Nat) (k : Nat) (f : Queue → Queue) : (b.modQueue q f).chan k = b.chan k := rfl
@[simp] theorem Block.rx_modQueue (b : Block) (q : Nat) (k v : Nat) (f : Queue → Queue) : (b.modQueue q f).rx k v = b.rx k v := rfl
@[simp] theorem Block.tx_modQueue (b : Block) (q : Nat) (k v : Nat) (f : Queue → Queue) : (b.modQueue q f).tx k v = b.tx k v := rfl
@[simp] theorem Block.saf_modQueue (b : Block) (q : Nat) (k : Nat) (f : Queue → Queue) : (b.modQueue q f).saf k = b.saf k := rfl
@[simp] theorem Block.seqEntry_modQueue (b : Block) (q : Nat) (k : Nat) (f : Queue → Queue) : (b.modQueue q f).seqEntry k = b.seqEntry k := rfl
@[simp] theorem Block.seqCtx_modQueue (b : Block) (q : Nat) (k : Nat) (f : Queue → Queue) : (b.modQueue q f).seqCtx k = b.seqCtx k := rfl
@[simp] theorem Block.cq_modQueue (b : Block) (q : Nat) (k : Nat) (f : Queue → Queue) : (b.modQueue q f).cq k = b.cq k := rfl
@[simp] theorem Block.peer_modQueue (b : Block) (q : Nat) (k : Nat) (f : Queue → Queue) : (b.modQueue q f).peer k = b.peer k := rfl
@[simp] theorem Block.part_modQueue (b : Block) (q : Nat) (k : Nat) (f : Queue → Queue) : (b.modQueue q f).part k = b.part k := rfl
@[simp] theorem Block.ctx_modQueue (b : Block) (q : Nat) (k : Nat) (f : Queue → Queue) : (b.modQueue q f).ctx k = b.ctx k := rfl
@[simp] theorem Block.pbead_modQueue (b : Block) (q : Nat) (k : Nat) (f : Queue → Queue) : (b.modQueue q f).pbead k = b.pbead k := rfl
@[simp] theorem Block.lane_modQueue (b : Block) (q : Nat) (k : Nat) (f : Queue → Queue) : (b.modQueue q f).lane k = b.lane k := rfl
@[simp] theorem Block.evSrc_modQueue (b : Block) (q : Nat) (k : Nat) (f : Queue → Queue) : (b.modQueue q f).evSrc k = b.evSrc k := rfl
@[simp] theorem Block.evGroup_modQueue (b : Block) (q : Nat) (k : Nat) (f : Queue → Queue) : (b.modQueue q f).evGroup k = b.evGroup k := rfl
@[simp] theorem Block.evTarget_modQueue (b : Block) (q : Nat) (k : Nat) (f : Queue → Queue) : (b.modQueue q f).evTarget k = b.evTarget k := rfl
@[simp] theorem Block.dom_modQueue (b : Block) (q : Nat) (k : Nat) (f : Queue → Queue) : (b.modQueue q f).dom k = b.dom k := rfl

@[simp] theorem Block.queue_modHws (b : Block) (q : Nat) (k : Nat) (f : Hws → Hws) : (b.modHws q f).queue k = b.queue k := rfl
@[simp] theorem Block.sub_modHws (b : Block) (q : Nat) (k : Nat) (f : Hws → Hws) : (b.modHws q f).sub k = b.sub k := rfl
@[simp] theorem Block.node_modHws (b : Block) (q : Nat) (k v : Nat) (f : Hws → Hws) : (b.modHws q f).node k v = b.node k v := rfl
@[simp] theorem Block.cwin_modHws (b : Block) (q : Nat) (k v : Nat) (f : Hws → Hws) : (b.modHws q f).cwin k v = b.cwin k v := rfl
@[simp] theorem Block.fence_modHws (b : Block) (q : Nat) (k : Nat) (f : Hws → Hws) : (b.modHws q f).fence k = b.fence k := rfl
@[simp] theorem Block.bead_modHws (b : Block) (q : Nat) (k : Nat) (f : Hws → Hws) : (b.modHws q f).bead k = b.bead k := rfl
@[simp] theorem Block.win_modHws (b : Block) (q : Nat) (k v : Nat) (f : Hws → Hws) : (b.modHws q f).win k v = b.win k v := rfl
@[simp] theorem Block.slot_modHws (b : Block) (q : Nat) (k v : Nat) (f : Hws → Hws) : (b.modHws q f).slot k v = b.slot k v := rfl
@[simp] theorem Block.chan_modHws (b : Block) (q : Nat) (k : Nat) (f : Hws → Hws) : (b.modHws q f).chan k = b.chan k := rfl
@[simp] theorem Block.rx_modHws (b : Block) (q : Nat) (k v : Nat) (f : Hws → Hws) : (b.modHws q f).rx k v = b.rx k v := rfl
@[simp] theorem Block.tx_modHws (b : Block) (q : Nat) (k v : Nat) (f : Hws → Hws) : (b.modHws q f).tx k v = b.tx k v := rfl
@[simp] theorem Block.saf_modHws (b : Block) (q : Nat) (k : Nat) (f : Hws → Hws) : (b.modHws q f).saf k = b.saf k := rfl
@[simp] theorem Block.seqEntry_modHws (b : Block) (q : Nat) (k : Nat) (f : Hws → Hws) : (b.modHws q f).seqEntry k = b.seqEntry k := rfl
@[simp] theorem Block.seqCtx_modHws (b : Block) (q : Nat) (k : Nat) (f : Hws → Hws) : (b.modHws q f).seqCtx k = b.seqCtx k := rfl
@[simp] theorem Block.cq_modHws (b : Block) (q : Nat) (k : Nat) (f : Hws → Hws) : (b.modHws q f).cq k = b.cq k := rfl
@[simp] theorem Block.peer_modHws (b : Block) (q : Nat) (k : Nat) (f : Hws → Hws) : (b.modHws q f).peer k = b.peer k := rfl
@[simp] theorem Block.part_modHws (b : Block) (q : Nat) (k : Nat) (f : Hws → Hws) : (b.modHws q f).part k = b.part k := rfl
@[simp] theorem Block.ctx_modHws (b : Block) (q : Nat) (k : Nat) (f : Hws → Hws) : (b.modHws q f).ctx k = b.ctx k := rfl
@[simp] theorem Block.pbead_modHws (b : Block) (q : Nat) (k : Nat) (f : Hws → Hws) : (b.modHws q f).pbead k = b.pbead k := rfl
@[simp] theorem Block.lane_modHws (b : Block) (q : Nat) (k : Nat) (f : Hws → Hws) : (b.modHws q f).lane k = b.lane k := rfl
@[simp] theorem Block.evSrc_modHws (b : Block) (q : Nat) (k : Nat) (f : Hws → Hws) : (b.modHws q f).evSrc k = b.evSrc k := rfl
@[simp] theorem Block.evGroup_modHws (b : Block) (q : Nat) (k : Nat) (f : Hws → Hws) : (b.modHws q f).evGroup k = b.evGroup k := rfl
@[simp] theorem Block.evTarget_modHws (b : Block) (q : Nat) (k : Nat) (f : Hws → Hws) : (b.modHws q f).evTarget k = b.evTarget k := rfl
@[simp] theorem Block.dom_modHws (b : Block) (q : Nat) (k : Nat) (f : Hws → Hws) : (b.modHws q f).dom k = b.dom k := rfl

@[simp] theorem Block.queue_modSub (b : Block) (q : Nat) (k : Nat) (f : Sub → Sub) : (b.modSub q f).queue k = b.queue k := rfl
@[simp] theorem Block.hws_modSub (b : Block) (q : Nat) (k : Nat) (f : Sub → Sub) : (b.modSub q f).hws k = b.hws k := rfl
@[simp] theorem Block.cwin_modSub (b : Block) (q : Nat) (k v : Nat) (f : Sub → Sub) : (b.modSub q f).cwin k v = b.cwin k v := rfl
@[simp] theorem Block.fence_modSub (b : Block) (q : Nat) (k : Nat) (f : Sub → Sub) : (b.modSub q f).fence k = b.fence k := rfl
@[simp] theorem Block.bead_modSub (b : Block) (q : Nat) (k : Nat) (f : Sub → Sub) : (b.modSub q f).bead k = b.bead k := rfl
@[simp] theorem Block.win_modSub (b : Block) (q : Nat) (k v : Nat) (f : Sub → Sub) : (b.modSub q f).win k v = b.win k v := rfl
@[simp] theorem Block.slot_modSub (b : Block) (q : Nat) (k v : Nat) (f : Sub → Sub) : (b.modSub q f).slot k v = b.slot k v := rfl
@[simp] theorem Block.chan_modSub (b : Block) (q : Nat) (k : Nat) (f : Sub → Sub) : (b.modSub q f).chan k = b.chan k := rfl
@[simp] theorem Block.rx_modSub (b : Block) (q : Nat) (k v : Nat) (f : Sub → Sub) : (b.modSub q f).rx k v = b.rx k v := rfl
@[simp] theorem Block.tx_modSub (b : Block) (q : Nat) (k v : Nat) (f : Sub → Sub) : (b.modSub q f).tx k v = b.tx k v := rfl
@[simp] theorem Block.saf_modSub (b : Block) (q : Nat) (k : Nat) (f : Sub → Sub) : (b.modSub q f).saf k = b.saf k := rfl
@[simp] theorem Block.seqEntry_modSub (b : Block) (q : Nat) (k : Nat) (f : Sub → Sub) : (b.modSub q f).seqEntry k = b.seqEntry k := rfl
@[simp] theorem Block.seqCtx_modSub (b : Block) (q : Nat) (k : Nat) (f : Sub → Sub) : (b.modSub q f).seqCtx k = b.seqCtx k := rfl
@[simp] theorem Block.cq_modSub (b : Block) (q : Nat) (k : Nat) (f : Sub → Sub) : (b.modSub q f).cq k = b.cq k := rfl
@[simp] theorem Block.peer_modSub (b : Block) (q : Nat) (k : Nat) (f : Sub → Sub) : (b.modSub q f).peer k = b.peer k := rfl
@[simp] theorem Block.part_modSub (b : Block) (q : Nat) (k : Nat) (f : Sub → Sub) : (b.modSub q f).part k = b.part k := rfl
@[simp] theorem Block.ctx_modSub (b : Block) (q : Nat) (k : Nat) (f : Sub → Sub) : (b.modSub q f).ctx k = b.ctx k := rfl
@[simp] theorem Block.pbead_modSub (b : Block) (q : Nat) (k : Nat) (f : Sub → Sub) : (b.modSub q f).pbead k = b.pbead k := rfl
@[simp] theorem Block.lane_modSub (b : Block) (q : Nat) (k : Nat) (f : Sub → Sub) : (b.modSub q f).lane k = b.lane k := rfl
@[simp] theorem Block.evSrc_modSub (b : Block) (q : Nat) (k : Nat) (f : Sub → Sub) : (b.modSub q f).evSrc k = b.evSrc k := rfl
@[simp] theorem Block.evGroup_modSub (b : Block) (q : Nat) (k : Nat) (f : Sub → Sub) : (b.modSub q f).evGroup k = b.evGroup k := rfl
@[simp] theorem Block.evTarget_modSub (b : Block) (q : Nat) (k : Nat) (f : Sub → Sub) : (b.modSub q f).evTarget k = b.evTarget k := rfl
@[simp] theorem Block.dom_modSub (b : Block) (q : Nat) (k : Nat) (f : Sub → Sub) : (b.modSub q f).dom k = b.dom k := rfl

@[simp] theorem Block.queue_modNode (b : Block) (q w : Nat) (k : Nat) (f : Node → Node) : (b.modNode q w f).queue k = b.queue k := rfl
@[simp] theorem Block.hws_modNode (b : Block) (q w : Nat) (k : Nat) (f : Node → Node) : (b.modNode q w f).hws k = b.hws k := rfl
@[simp] theorem Block.cwin_modNode (b : Block) (q w : Nat) (k v : Nat) (f : Node → Node) : (b.modNode q w f).cwin k v = b.cwin k v := rfl
@[simp] theorem Block.fence_modNode (b : Block) (q w : Nat) (k : Nat) (f : Node → Node) : (b.modNode q w f).fence k = b.fence k := rfl
@[simp] theorem Block.bead_modNode (b : Block) (q w : Nat) (k : Nat) (f : Node → Node) : (b.modNode q w f).bead k = b.bead k := rfl
@[simp] theorem Block.win_modNode (b : Block) (q w : Nat) (k v : Nat) (f : Node → Node) : (b.modNode q w f).win k v = b.win k v := rfl
@[simp] theorem Block.slot_modNode (b : Block) (q w : Nat) (k v : Nat) (f : Node → Node) : (b.modNode q w f).slot k v = b.slot k v := rfl
@[simp] theorem Block.chan_modNode (b : Block) (q w : Nat) (k : Nat) (f : Node → Node) : (b.modNode q w f).chan k = b.chan k := rfl
@[simp] theorem Block.rx_modNode (b : Block) (q w : Nat) (k v : Nat) (f : Node → Node) : (b.modNode q w f).rx k v = b.rx k v := rfl
@[simp] theorem Block.tx_modNode (b : Block) (q w : Nat) (k v : Nat) (f : Node → Node) : (b.modNode q w f).tx k v = b.tx k v := rfl
@[simp] theorem Block.saf_modNode (b : Block) (q w : Nat) (k : Nat) (f : Node → Node) : (b.modNode q w f).saf k = b.saf k := rfl
@[simp] theorem Block.seqEntry_modNode (b : Block) (q w : Nat) (k : Nat) (f : Node → Node) : (b.modNode q w f).seqEntry k = b.seqEntry k := rfl
@[simp] theorem Block.seqCtx_modNode (b : Block) (q w : Nat) (k : Nat) (f : Node → Node) : (b.modNode q w f).seqCtx k = b.seqCtx k := rfl
@[simp] theorem Block.cq_modNode (b : Block) (q w : Nat) (k : Nat) (f : Node → Node) : (b.modNode q w f).cq k = b.cq k := rfl
@[simp] theorem Block.peer_modNode (b : Block) (q w : Nat) (k : Nat) (f : Node → Node) : (b.modNode q w f).peer k = b.peer k := rfl
@[simp] theorem Block.part_modNode (b : Block) (q w : Nat) (k : Nat) (f : Node → Node) : (b.modNode q w f).part k = b.part k := rfl
@[simp] theorem Block.ctx_modNode (b : Block) (q w : Nat) (k : Nat) (f : Node → Node) : (b.modNode q w f).ctx k = b.ctx k := rfl
@[simp] theorem Block.pbead_modNode (b : Block) (q w : Nat) (k : Nat) (f : Node → Node) : (b.modNode q w f).pbead k = b.pbead k := rfl
@[simp] theorem Block.lane_modNode (b : Block) (q w : Nat) (k : Nat) (f : Node → Node) : (b.modNode q w f).lane k = b.lane k := rfl
@[simp] theorem Block.evSrc_modNode (b : Block) (q w : Nat) (k : Nat) (f : Node → Node) : (b.modNode q w f).evSrc k = b.evSrc k := rfl
@[simp] theorem Block.evGroup_modNode (b : Block) (q w : Nat) (k : Nat) (f : Node → Node) : (b.modNode q w f).evGroup k = b.evGroup k := rfl
@[simp] theorem Block.evTarget_modNode (b : Block) (q w : Nat) (k : Nat) (f : Node → Node) : (b.modNode q w f).evTarget k = b.evTarget k := rfl
@[simp] theorem Block.dom_modNode (b : Block) (q w : Nat) (k : Nat) (f : Node → Node) : (b.modNode q w f).dom k = b.dom k := rfl

@[simp] theorem Block.queue_modCwin (b : Block) (q w : Nat) (k : Nat) (f : CWin → CWin) : (b.modCwin q w f).queue k = b.queue k := rfl
@[simp] theorem Block.hws_modCwin (b : Block) (q w : Nat) (k : Nat) (f : CWin → CWin) : (b.modCwin q w f).hws k = b.hws k := rfl
@[simp] theorem Block.sub_modCwin (b : Block) (q w : Nat) (k : Nat) (f : CWin → CWin) : (b.modCwin q w f).sub k = b.sub k := rfl
@[simp] theorem Block.node_modCwin (b : Block) (q w : Nat) (k v : Nat) (f : CWin → CWin) : (b.modCwin q w f).node k v = b.node k v := rfl
@[simp] theorem Block.fence_modCwin (b : Block) (q w : Nat) (k : Nat) (f : CWin → CWin) : (b.modCwin q w f).fence k = b.fence k := rfl
@[simp] theorem Block.bead_modCwin (b : Block) (q w : Nat) (k : Nat) (f : CWin → CWin) : (b.modCwin q w f).bead k = b.bead k := rfl
@[simp] theorem Block.win_modCwin (b : Block) (q w : Nat) (k v : Nat) (f : CWin → CWin) : (b.modCwin q w f).win k v = b.win k v := rfl
@[simp] theorem Block.slot_modCwin (b : Block) (q w : Nat) (k v : Nat) (f : CWin → CWin) : (b.modCwin q w f).slot k v = b.slot k v := rfl
@[simp] theorem Block.chan_modCwin (b : Block) (q w : Nat) (k : Nat) (f : CWin → CWin) : (b.modCwin q w f).chan k = b.chan k := rfl
@[simp] theorem Block.rx_modCwin (b : Block) (q w : Nat) (k v : Nat) (f : CWin → CWin) : (b.modCwin q w f).rx k v = b.rx k v := rfl
@[simp] theorem Block.tx_modCwin (b : Block) (q w : Nat) (k v : Nat) (f : CWin → CWin) : (b.modCwin q w f).tx k v = b.tx k v := rfl
@[simp] theorem Block.saf_modCwin (b : Block) (q w : Nat) (k : Nat) (f : CWin → CWin) : (b.modCwin q w f).saf k = b.saf k := rfl
@[simp] theorem Block.seqEntry_modCwin (b : Block) (q w : Nat) (k : Nat) (f : CWin → CWin) : (b.modCwin q w f).seqEntry k = b.seqEntry k := rfl
@[simp] theorem Block.seqCtx_modCwin (b : Block) (q w : Nat) (k : Nat) (f : CWin → CWin) : (b.modCwin q w f).seqCtx k = b.seqCtx k := rfl
@[simp] theorem Block.cq_modCwin (b : Block) (q w : Nat) (k : Nat) (f : CWin → CWin) : (b.modCwin q w f).cq k = b.cq k := rfl
@[simp] theorem Block.peer_modCwin (b : Block) (q w : Nat) (k : Nat) (f : CWin → CWin) : (b.modCwin q w f).peer k = b.peer k := rfl
@[simp] theorem Block.part_modCwin (b : Block) (q w : Nat) (k : Nat) (f : CWin → CWin) : (b.modCwin q w f).part k = b.part k := rfl
@[simp] theorem Block.ctx_modCwin (b : Block) (q w : Nat) (k : Nat) (f : CWin → CWin) : (b.modCwin q w f).ctx k = b.ctx k := rfl
@[simp] theorem Block.pbead_modCwin (b : Block) (q w : Nat) (k : Nat) (f : CWin → CWin) : (b.modCwin q w f).pbead k = b.pbead k := rfl
@[simp] theorem Block.lane_modCwin (b : Block) (q w : Nat) (k : Nat) (f : CWin → CWin) : (b.modCwin q w f).lane k = b.lane k := rfl
@[simp] theorem Block.evSrc_modCwin (b : Block) (q w : Nat) (k : Nat) (f : CWin → CWin) : (b.modCwin q w f).evSrc k = b.evSrc k := rfl
@[simp] theorem Block.evGroup_modCwin (b : Block) (q w : Nat) (k : Nat) (f : CWin → CWin) : (b.modCwin q w f).evGroup k = b.evGroup k := rfl
@[simp] theorem Block.evTarget_modCwin (b : Block) (q w : Nat) (k : Nat) (f : CWin → CWin) : (b.modCwin q w f).evTarget k = b.evTarget k := rfl
@[simp] theorem Block.dom_modCwin (b : Block) (q w : Nat) (k : Nat) (f : CWin → CWin) : (b.modCwin q w f).dom k = b.dom k := rfl

@[simp] theorem Block.queue_modFence (b : Block) (q : Nat) (k : Nat) (f : Fence → Fence) : (b.modFence q f).queue k = b.queue k := rfl
@[simp] theorem Block.hws_modFence (b : Block) (q : Nat) (k : Nat) (f : Fence → Fence) : (b.modFence q f).hws k = b.hws k := rfl
@[simp] theorem Block.sub_modFence (b : Block) (q : Nat) (k : Nat) (f : Fence → Fence) : (b.modFence q f).sub k = b.sub k := rfl
@[simp] theorem Block.node_modFence (b : Block) (q : Nat) (k v : Nat) (f : Fence → Fence) : (b.modFence q f).node k v = b.node k v := rfl
@[simp] theorem Block.cwin_modFence (b : Block) (q : Nat) (k v : Nat) (f : Fence → Fence) : (b.modFence q f).cwin k v = b.cwin k v := rfl
@[simp] theorem Block.bead_modFence (b : Block) (q : Nat) (k : Nat) (f : Fence → Fence) : (b.modFence q f).bead k = b.bead k := rfl
@[simp] theorem Block.win_modFence (b : Block) (q : Nat) (k v : Nat) (f : Fence → Fence) : (b.modFence q f).win k v = b.win k v := rfl
@[simp] theorem Block.slot_modFence (b : Block) (q : Nat) (k v : Nat) (f : Fence → Fence) : (b.modFence q f).slot k v = b.slot k v := rfl
@[simp] theorem Block.chan_modFence (b : Block) (q : Nat) (k : Nat) (f : Fence → Fence) : (b.modFence q f).chan k = b.chan k := rfl
@[simp] theorem Block.rx_modFence (b : Block) (q : Nat) (k v : Nat) (f : Fence → Fence) : (b.modFence q f).rx k v = b.rx k v := rfl
@[simp] theorem Block.tx_modFence (b : Block) (q : Nat) (k v : Nat) (f : Fence → Fence) : (b.modFence q f).tx k v = b.tx k v := rfl
@[simp] theorem Block.saf_modFence (b : Block) (q : Nat) (k : Nat) (f : Fence → Fence) : (b.modFence q f).saf k = b.saf k := rfl
@[simp] theorem Block.seqEntry_modFence (b : Block) (q : Nat) (k : Nat) (f : Fence → Fence) : (b.modFence q f).seqEntry k = b.seqEntry k := rfl
@[simp] theorem Block.seqCtx_modFence (b : Block) (q : Nat) (k : Nat) (f : Fence → Fence) : (b.modFence q f).seqCtx k = b.seqCtx k := rfl
@[simp] theorem Block.cq_modFence (b : Block) (q : Nat) (k : Nat) (f : Fence → Fence) : (b.modFence q f).cq k = b.cq k := rfl
@[simp] theorem Block.peer_modFence (b : Block) (q : Nat) (k : Nat) (f : Fence → Fence) : (b.modFence q f).peer k = b.peer k := rfl
@[simp] theorem Block.part_modFence (b : Block) (q : Nat) (k : Nat) (f : Fence → Fence) : (b.modFence q f).part k = b.part k := rfl
@[simp] theorem Block.ctx_modFence (b : Block) (q : Nat) (k : Nat) (f : Fence → Fence) : (b.modFence q f).ctx k = b.ctx k := rfl
@[simp] theorem Block.pbead_modFence (b : Block) (q : Nat) (k : Nat) (f : Fence → Fence) : (b.modFence q f).pbead k = b.pbead k := rfl
@[simp] theorem Block.lane_modFence (b : Block) (q : Nat) (k : Nat) (f : Fence → Fence) : (b.modFence q f).lane k = b.lane k := rfl
@[simp] theorem Block.evSrc_modFence (b : Block) (q : Nat) (k : Nat) (f : Fence → Fence) : (b.modFence q f).evSrc k = b.evSrc k := rfl
@[simp] theorem Block.evGroup_modFence (b : Block) (q : Nat) (k : Nat) (f : Fence → Fence) : (b.modFence q f).evGroup k = b.evGroup k := rfl
@[simp] theorem Block.evTarget_modFence (b : Block) (q : Nat) (k : Nat) (f : Fence → Fence) : (b.modFence q f).evTarget k = b.evTarget k := rfl
@[simp] theorem Block.dom_modFence (b : Block) (q : Nat) (k : Nat) (f : Fence → Fence) : (b.modFence q f).dom k = b.dom k := rfl

@[simp] theorem Block.queue_modBead (b : Block) (q : Nat) (k : Nat) (f : Bead → Bead) : (b.modBead q f).queue k = b.queue k := rfl
@[simp] theorem Block.hws_modBead (b : Block) (q : Nat) (k : Nat) (f : Bead → Bead) : (b.modBead q f).hws k = b.hws k := rfl
@[simp] theorem Block.sub_modBead (b : Block) (q : Nat) (k : Nat) (f : Bead → Bead) : (b.modBead q f).sub k = b.sub k := rfl
@[simp] theorem Block.node_modBead (b : Block) (q : Nat) (k v : Nat) (f : Bead → Bead) : (b.modBead q f).node k v = b.node k v := rfl
@[simp] theorem Block.cwin_modBead (b : Block) (q : Nat) (k v : Nat) (f : Bead → Bead) : (b.modBead q f).cwin k v = b.cwin k v := rfl
@[simp] theorem Block.fence_modBead (b : Block) (q : Nat) (k : Nat) (f : Bead → Bead) : (b.modBead q f).fence k = b.fence k := rfl
@[simp] theorem Block.chan_modBead (b : Block) (q : Nat) (k : Nat) (f : Bead → Bead) : (b.modBead q f).chan k = b.chan k := rfl
@[simp] theorem Block.rx_modBead (b : Block) (q : Nat) (k v : Nat) (f : Bead → Bead) : (b.modBead q f).rx k v = b.rx k v := rfl
@[simp] theorem Block.tx_modBead (b : Block) (q : Nat) (k v : Nat) (f : Bead → Bead) : (b.modBead q f).tx k v = b.tx k v := rfl
@[simp] theorem Block.saf_modBead (b : Block) (q : Nat) (k : Nat) (f : Bead → Bead) : (b.modBead q f).saf k = b.saf k := rfl
@[simp] theorem Block.seqEntry_modBead (b : Block) (q : Nat) (k : Nat) (f : Bead → Bead) : (b.modBead q f).seqEntry k = b.seqEntry k := rfl
@[simp] theorem Block.seqCtx_modBead (b : Block) (q : Nat) (k : Nat) (f : Bead → Bead) : (b.modBead q f).seqCtx k = b.seqCtx k := rfl
@[simp] theorem Block.cq_modBead (b : Block) (q : Nat) (k : Nat) (f : Bead → Bead) : (b.modBead q f).cq k = b.cq k := rfl
@[simp] theorem Block.peer_modBead (b : Block) (q : Nat) (k : Nat) (f : Bead → Bead) : (b.modBead q f).peer k = b.peer k := rfl
@[simp] theorem Block.part_modBead (b : Block) (q : Nat) (k : Nat) (f : Bead → Bead) : (b.modBead q f).part k = b.part k := rfl
@[simp] theorem Block.ctx_modBead (b : Block) (q : Nat) (k : Nat) (f : Bead → Bead) : (b.modBead q f).ctx k = b.ctx k := rfl
@[simp] theorem Block.pbead_modBead (b : Block) (q : Nat) (k : Nat) (f : Bead → Bead) : (b.modBead q f).pbead k = b.pbead k := rfl
@[simp] theorem Block.lane_modBead (b : Block) (q : Nat) (k : Nat) (f : Bead → Bead) : (b.modBead q f).lane k = b.lane k := rfl
@[simp] theorem Block.evSrc_modBead (b : Block) (q : Nat) (k : Nat) (f : Bead → Bead) : (b.modBead q f).evSrc k = b.evSrc k := rfl
@[simp] theorem Block.evGroup_modBead (b : Block) (q : Nat) (k : Nat) (f : Bead → Bead) : (b.modBead q f).evGroup k = b.evGroup k := rfl
@[simp] theorem Block.evTarget_modBead (b : Block) (q : Nat) (k : Nat) (f : Bead → Bead) : (b.modBead q f).evTarget k = b.evTarget k := rfl
@[simp] theorem Block.dom_modBead (b : Block) (q : Nat) (k : Nat) (f : Bead → Bead) : (b.modBead q f).dom k = b.dom k := rfl

@[simp] theorem Block.queue_modWin (b : Block) (q w : Nat) (k : Nat) (f : WinEntry → WinEntry) : (b.modWin q w f).queue k = b.queue k := rfl
@[simp] theorem Block.hws_modWin (b : Block) (q w : Nat) (k : Nat) (f : WinEntry → WinEntry) : (b.modWin q w f).hws k = b.hws k := rfl
@[simp] theorem Block.sub_modWin (b : Block) (q w : Nat) (k : Nat) (f : WinEntry → WinEntry) : (b.modWin q w f).sub k = b.sub k := rfl
@[simp] theorem Block.node_modWin (b : Block) (q w : Nat) (k v : Nat) (f : WinEntry → WinEntry) : (b.modWin q w f).node k v = b.node k v := rfl
@[simp] theorem Block.cwin_modWin (b : Block) (q w : Nat) (k v : Nat) (f : WinEntry → WinEntry) : (b.modWin q w f).cwin k v = b.cwin k v := rfl
@[simp] theorem Block.fence_modWin (b : Block) (q w : Nat) (k : Nat) (f : WinEntry → WinEntry) : (b.modWin q w f).fence k = b.fence k := rfl
@[simp] theorem Block.chan_modWin (b : Block) (q w : Nat) (k : Nat) (f : WinEntry → WinEntry) : (b.modWin q w f).chan k = b.chan k := rfl
@[simp] theorem Block.rx_modWin (b : Block) (q w : Nat) (k v : Nat) (f : WinEntry → WinEntry) : (b.modWin q w f).rx k v = b.rx k v := rfl
@[simp] theorem Block.tx_modWin (b : Block) (q w : Nat) (k v : Nat) (f : WinEntry → WinEntry) : (b.modWin q w f).tx k v = b.tx k v := rfl
@[simp] theorem Block.saf_modWin (b : Block) (q w : Nat) (k : Nat) (f : WinEntry → WinEntry) : (b.modWin q w f).saf k = b.saf k := rfl
@[simp] theorem Block.seqEntry_modWin (b : Block) (q w : Nat) (k : Nat) (f : WinEntry → WinEntry) : (b.modWin q w f).seqEntry k = b.seqEntry k := rfl
@[simp] theorem Block.seqCtx_modWin (b : Block) (q w : Nat) (k : Nat) (f : WinEntry → WinEntry) : (b.modWin q w f).seqCtx k = b.seqCtx k := rfl
@[simp] theorem Block.cq_modWin (b : Block) (q w : Nat) (k : Nat) (f : WinEntry → WinEntry) : (b.modWin q w f).cq k = b.cq k := rfl
@[simp] theorem Block.peer_modWin (b : Block) (q w : Nat) (k : Nat) (f : WinEntry → WinEntry) : (b.modWin q w f).peer k = b.peer k := rfl
@[simp] theorem Block.part_modWin (b : Block) (q w : Nat) (k : Nat) (f : WinEntry → WinEntry) : (b.modWin q w f).part k = b.part k := rfl
@[simp] theorem Block.ctx_modWin (b : Block) (q w : Nat) (k : Nat) (f : WinEntry → WinEntry) : (b.modWin q w f).ctx k = b.ctx k := rfl
@[simp] theorem Block.pbead_modWin (b : Block) (q w : Nat) (k : Nat) (f : WinEntry → WinEntry) : (b.modWin q w f).pbead k = b.pbead k := rfl
@[simp] theorem Block.lane_modWin (b : Block) (q w : Nat) (k : Nat) (f : WinEntry → WinEntry) : (b.modWin q w f).lane k = b.lane k := rfl
@[simp] theorem Block.evSrc_modWin (b : Block) (q w : Nat) (k : Nat) (f : WinEntry → WinEntry) : (b.modWin q w f).evSrc k = b.evSrc k := rfl
@[simp] theorem Block.evGroup_modWin (b : Block) (q w : Nat) (k : Nat) (f : WinEntry → WinEntry) : (b.modWin q w f).evGroup k = b.evGroup k := rfl
@[simp] theorem Block.evTarget_modWin (b : Block) (q w : Nat) (k : Nat) (f : WinEntry → WinEntry) : (b.modWin q w f).evTarget k = b.evTarget k := rfl
@[simp] theorem Block.dom_modWin (b : Block) (q w : Nat) (k : Nat) (f : WinEntry → WinEntry) : (b.modWin q w f).dom k = b.dom k := rfl

@[simp] theorem Block.queue_modSlot (b : Block) (q w : Nat) (k : Nat) (f : Slot → Slot) : (b.modSlot q w f).queue k = b.queue k := rfl
@[simp] theorem Block.hws_modSlot (b : Block) (q w : Nat) (k : Nat) (f : Slot → Slot) : (b.modSlot q w f).hws k = b.hws k := rfl
@[simp] theorem Block.sub_modSlot (b : Block) (q w : Nat) (k : Nat) (f : Slot → Slot) : (b.modSlot q w f).sub k = b.sub k := rfl
@[simp] theorem Block.node_modSlot (b : Block) (q w : Nat) (k v : Nat) (f : Slot → Slot) : (b.modSlot q w f).node k v = b.node k v := rfl
@[simp] theorem Block.cwin_modSlot (b : Block) (q w : Nat) (k v : Nat) (f : Slot → Slot) : (b.modSlot q w f).cwin k v = b.cwin k v := rfl
@[simp] theorem Block.fence_modSlot (b : Block) (q w : Nat) (k : Nat) (f : Slot → Slot) : (b.modSlot q w f).fence k = b.fence k := rfl
@[simp] theorem Block.chan_modSlot (b : Block) (q w : Nat) (k : Nat) (f : Slot → Slot) : (b.modSlot q w f).chan k = b.chan k := rfl
@[simp] theorem Block.rx_modSlot (b : Block) (q w : Nat) (k v : Nat) (f : Slot → Slot) : (b.modSlot q w f).rx k v = b.rx k v := rfl
@[simp] theorem Block.tx_modSlot (b : Block) (q w : Nat) (k v : Nat) (f : Slot → Slot) : (b.modSlot q w f).tx k v = b.tx k v := rfl
@[simp] theorem Block.saf_modSlot (b : Block) (q w : Nat) (k : Nat) (f : Slot → Slot) : (b.modSlot q w f).saf k = b.saf k := rfl
@[simp] theorem Block.seqEntry_modSlot (b : Block) (q w : Nat) (k : Nat) (f : Slot → Slot) : (b.modSlot q w f).seqEntry k = b.seqEntry k := rfl
@[simp] theorem Block.seqCtx_modSlot (b : Block) (q w : Nat) (k : Nat) (f : Slot → Slot) : (b.modSlot q w f).seqCtx k = b.seqCtx k := rfl
@[simp] theorem Block.cq_modSlot (b : Block) (q w : Nat) (k : Nat) (f : Slot → Slot) : (b.modSlot q w f).cq k = b.cq k := rfl
@[simp] theorem Block.peer_modSlot (b : Block) (q w : Nat) (k : Nat) (f : Slot → Slot) : (b.modSlot q w f).peer k = b.peer k := rfl
@[simp] theorem Block.part_modSlot (b : Block) (q w : Nat) (k : Nat) (f : Slot → Slot) : (b.modSlot q w f).part k = b.part k := rfl
@[simp] theorem Block.ctx_modSlot (b : Block) (q w : Nat) (k : Nat) (f : Slot → Slot) : (b.modSlot q w f).ctx k = b.ctx k := rfl
@[simp] theorem Block.pbead_modSlot (b : Block) (q w : Nat) (k : Nat) (f : Slot → Slot) : (b.modSlot q w f).pbead k = b.pbead k := rfl
@[simp] theorem Block.lane_modSlot (b : Block) (q w : Nat) (k : Nat) (f : Slot → Slot) : (b.modSlot q w f).lane k = b.lane k := rfl
@[simp] theorem Block.evSrc_modSlot (b : Block) (q w : Nat) (k : Nat) (f : Slot → Slot) : (b.modSlot q w f).evSrc k = b.evSrc k := rfl
@[simp] theorem Block.evGroup_modSlot (b : Block) (q w : Nat) (k : Nat) (f : Slot → Slot) : (b.modSlot q w f).evGroup k = b.evGroup k := rfl
@[simp] theorem Block.evTarget_modSlot (b : Block) (q w : Nat) (k : Nat) (f : Slot → Slot) : (b.modSlot q w f).evTarget k = b.evTarget k := rfl
@[simp] theorem Block.dom_modSlot (b : Block) (q w : Nat) (k : Nat) (f : Slot → Slot) : (b.modSlot q w f).dom k = b.dom k := rfl

@[simp] theorem Block.queue_modChan (b : Block) (q : Nat) (k : Nat) (f : Chan → Chan) : (b.modChan q f).queue k = b.queue k := rfl
@[simp] theorem Block.hws_modChan (b : Block) (q : Nat) (k : Nat) (f : Chan → Chan) : (b.modChan q f).hws k = b.hws k := rfl
@[simp] theorem Block.sub_modChan (b : Block) (q : Nat) (k : Nat) (f : Chan → Chan) : (b.modChan q f).sub k = b.sub k := rfl
@[simp] theorem Block.node_modChan (b : Block) (q : Nat) (k v : Nat) (f : Chan → Chan) : (b.modChan q f).node k v = b.node k v := rfl
@[simp] theorem Block.cwin_modChan (b : Block) (q : Nat) (k v : Nat) (f : Chan → Chan) : (b.modChan q f).cwin k v = b.cwin k v := rfl
@[simp] theorem Block.fence_modChan (b : Block) (q : Nat) (k : Nat) (f : Chan → Chan) : (b.modChan q f).fence k = b.fence k := rfl
@[simp] theorem Block.bead_modChan (b : Block) (q : Nat) (k : Nat) (f : Chan → Chan) : (b.modChan q f).bead k = b.bead k := rfl
@[simp] theorem Block.win_modChan (b : Block) (q : Nat) (k v : Nat) (f : Chan → Chan) : (b.modChan q f).win k v = b.win k v := rfl
@[simp] theorem Block.slot_modChan (b : Block) (q : Nat) (k v : Nat) (f : Chan → Chan) : (b.modChan q f).slot k v = b.slot k v := rfl
@[simp] theorem Block.saf_modChan (b : Block) (q : Nat) (k : Nat) (f : Chan → Chan) : (b.modChan q f).saf k = b.saf k := rfl
@[simp] theorem Block.seqEntry_modChan (b : Block) (q : Nat) (k : Nat) (f : Chan → Chan) : (b.modChan q f).seqEntry k = b.seqEntry k := rfl
@[simp] theorem Block.seqCtx_modChan (b : Block) (q : Nat) (k : Nat) (f : Chan → Chan) : (b.modChan q f).seqCtx k = b.seqCtx k := rfl
@[simp] theorem Block.cq_modChan (b : Block) (q : Nat) (k : Nat) (f : Chan → Chan) : (b.modChan q f).cq k = b.cq k := rfl
@[simp] theorem Block.peer_modChan (b : Block) (q : Nat) (k : Nat) (f : Chan → Chan) : (b.modChan q f).peer k = b.peer k := rfl
@[simp] theorem Block.part_modChan (b : Block) (q : Nat) (k : Nat) (f : Chan → Chan) : (b.modChan q f).part k = b.part k := rfl
@[simp] theorem Block.ctx_modChan (b : Block) (q : Nat) (k : Nat) (f : Chan → Chan) : (b.modChan q f).ctx k = b.ctx k := rfl
@[simp] theorem Block.pbead_modChan (b : Block) (q : Nat) (k : Nat) (f : Chan → Chan) : (b.modChan q f).pbead k = b.pbead k := rfl
@[simp] theorem Block.lane_modChan (b : Block) (q : Nat) (k : Nat) (f : Chan → Chan) : (b.modChan q f).lane k = b.lane k := rfl
@[simp] theorem Block.evSrc_modChan (b : Block) (q : Nat) (k : Nat) (f : Chan → Chan) : (b.modChan q f).evSrc k = b.evSrc k := rfl
@[simp] theorem Block.evGroup_modChan (b : Block) (q : Nat) (k : Nat) (f : Chan → Chan) : (b.modChan q f).evGroup k = b.evGroup k := rfl
@[simp] theorem Block.evTarget_modChan (b : Block) (q : Nat) (k : Nat) (f : Chan → Chan) : (b.modChan q f).evTarget k = b.evTarget k := rfl
@[simp] theorem Block.dom_modChan (b : Block) (q : Nat) (k : Nat) (f : Chan → Chan) : (b.modChan q f).dom k = b.dom k := rfl

@[simp] theorem Block.queue_modRx (b : Block) (q w : Nat) (k : Nat) (f : RxQueue → RxQueue) : (b.modRx q w f).queue k = b.queue k := rfl
@[simp] theorem Block.hws_modRx (b : Block) (q w : Nat) (k : Nat) (f : RxQueue → RxQueue) : (b.modRx q w f).hws k = b.hws k := rfl
@[simp] theorem Block.sub_modRx (b : Block) (q w : Nat) (k : Nat) (f : RxQueue → RxQueue) : (b.modRx q w f).sub k = b.sub k := rfl
@[simp] theorem Block.node_modRx (b : Block) (q w : Nat) (k v : Nat) (f : RxQueue → RxQueue) : (b.modRx q w f).node k v = b.node k v := rfl
@[simp] theorem Block.cwin_modRx (b : Block) (q w : Nat) (k v : Nat) (f : RxQueue → RxQueue) : (b.modRx q w f).cwin k v = b.cwin k v := rfl
@[simp] theorem Block.fence_modRx (b : Block) (q w : Nat) (k : Nat) (f : RxQueue → RxQueue) : (b.modRx q w f).fence k = b.fence k := rfl
@[simp] theorem Block.bead_modRx (b : Block) (q w : Nat) (k : Nat) (f : RxQueue → RxQueue) : (b.modRx q w f).bead k = b.bead k := rfl
@[simp] theorem Block.win_modRx (b : Block) (q w : Nat) (k v : Nat) (f : RxQueue → RxQueue) : (b.modRx q w f).win k v = b.win k v := rfl
@[simp] theorem Block.slot_modRx (b : Block) (q w : Nat) (k v : Nat) (f : RxQueue → RxQueue) : (b.modRx q w f).slot k v = b.slot k v := rfl
@[simp] theorem Block.saf_modRx (b : Block) (q w : Nat) (k : Nat) (f : RxQueue → RxQueue) : (b.modRx q w f).saf k = b.saf k := rfl
@[simp] theorem Block.seqEntry_modRx (b : Block) (q w : Nat) (k : Nat) (f : RxQueue → RxQueue) : (b.modRx q w f).seqEntry k = b.seqEntry k := rfl
@[simp] theorem Block.seqCtx_modRx (b : Block) (q w : Nat) (k : Nat) (f : RxQueue → RxQueue) : (b.modRx q w f).seqCtx k = b.seqCtx k := rfl
@[simp] theorem Block.cq_modRx (b : Block) (q w : Nat) (k : Nat) (f : RxQueue → RxQueue) : (b.modRx q w f).cq k = b.cq k := rfl
@[simp] theorem Block.peer_modRx (b : Block) (q w : Nat) (k : Nat) (f : RxQueue → RxQueue) : (b.modRx q w f).peer k = b.peer k := rfl
@[simp] theorem Block.part_modRx (b : Block) (q w : Nat) (k : Nat) (f : RxQueue → RxQueue) : (b.modRx q w f).part k = b.part k := rfl
@[simp] theorem Block.ctx_modRx (b : Block) (q w : Nat) (k : Nat) (f : RxQueue → RxQueue) : (b.modRx q w f).ctx k = b.ctx k := rfl
@[simp] theorem Block.pbead_modRx (b : Block) (q w : Nat) (k : Nat) (f : RxQueue → RxQueue) : (b.modRx q w f).pbead k = b.pbead k := rfl
@[simp] theorem Block.lane_modRx (b : Block) (q w : Nat) (k : Nat) (f : RxQueue → RxQueue) : (b.modRx q w f).lane k = b.lane k := rfl
@[simp] theorem Block.evSrc_modRx (b : Block) (q w : Nat) (k : Nat) (f : RxQueue → RxQueue) : (b.modRx q w f).evSrc k = b.evSrc k := rfl
@[simp] theorem Block.evGroup_modRx (b : Block) (q w : Nat) (k : Nat) (f : RxQueue → RxQueue) : (b.modRx q w f).evGroup k = b.evGroup k := rfl
@[simp] theorem Block.evTarget_modRx (b : Block) (q w : Nat) (k : Nat) (f : RxQueue → RxQueue) : (b.modRx q w f).evTarget k = b.evTarget k := rfl
@[simp] theorem Block.dom_modRx (b : Block) (q w : Nat) (k : Nat) (f : RxQueue → RxQueue) : (b.modRx q w f).dom k = b.dom k := rfl

@[simp] theorem Block.queue_modTx (b : Block) (q w : Nat) (k : Nat) (f : TxPort → TxPort) : (b.modTx q w f).queue k = b.queue k := rfl
@[simp] theorem Block.hws_modTx (b : Block) (q w : Nat) (k : Nat) (f : TxPort → TxPort) : (b.modTx q w f).hws k = b.hws k := rfl
@[simp] theorem Block.sub_modTx (b : Block) (q w : Nat) (k : Nat) (f : TxPort → TxPort) : (b.modTx q w f).sub k = b.sub k := rfl
@[simp] theorem Block.node_modTx (b : Block) (q w : Nat) (k v : Nat) (f : TxPort → TxPort) : (b.modTx q w f).node k v = b.node k v := rfl
@[simp] theorem Block.cwin_modTx (b : Block) (q w : Nat) (k v : Nat) (f : TxPort → TxPort) : (b.modTx q w f).cwin k v = b.cwin k v := rfl
@[simp] theorem Block.fence_modTx (b : Block) (q w : Nat) (k : Nat) (f : TxPort → TxPort) : (b.modTx q w f).fence k = b.fence k := rfl
@[simp] theorem Block.bead_modTx (b : Block) (q w : Nat) (k : Nat) (f : TxPort → TxPort) : (b.modTx q w f).bead k = b.bead k := rfl
@[simp] theorem Block.win_modTx (b : Block) (q w : Nat) (k v : Nat) (f : TxPort → TxPort) : (b.modTx q w f).win k v = b.win k v := rfl
@[simp] theorem Block.slot_modTx (b : Block) (q w : Nat) (k v : Nat) (f : TxPort → TxPort) : (b.modTx q w f).slot k v = b.slot k v := rfl
@[simp] theorem Block.saf_modTx (b : Block) (q w : Nat) (k : Nat) (f : TxPort → TxPort) : (b.modTx q w f).saf k = b.saf k := rfl
@[simp] theorem Block.seqEntry_modTx (b : Block) (q w : Nat) (k : Nat) (f : TxPort → TxPort) : (b.modTx q w f).seqEntry k = b.seqEntry k := rfl
@[simp] theorem Block.seqCtx_modTx (b : Block) (q w : Nat) (k : Nat) (f : TxPort → TxPort) : (b.modTx q w f).seqCtx k = b.seqCtx k := rfl
@[simp] theorem Block.cq_modTx (b : Block) (q w : Nat) (k : Nat) (f : TxPort → TxPort) : (b.modTx q w f).cq k = b.cq k := rfl
@[simp] theorem Block.peer_modTx (b : Block) (q w : Nat) (k : Nat) (f : TxPort → TxPort) : (b.modTx q w f).peer k = b.peer k := rfl
@[simp] theorem Block.part_modTx (b : Block) (q w : Nat) (k : Nat) (f : TxPort → TxPort) : (b.modTx q w f).part k = b.part k := rfl
@[simp] theorem Block.ctx_modTx (b : Block) (q w : Nat) (k : Nat) (f : TxPort → TxPort) : (b.modTx q w f).ctx k = b.ctx k := rfl
@[simp] theorem Block.pbead_modTx (b : Block) (q w : Nat) (k : Nat) (f : TxPort → TxPort) : (b.modTx q w f).pbead k = b.pbead k := rfl
@[simp] theorem Block.lane_modTx (b : Block) (q w : Nat) (k : Nat) (f : TxPort → TxPort) : (b.modTx q w f).lane k = b.lane k := rfl
@[simp] theorem Block.evSrc_modTx (b : Block) (q w : Nat) (k : Nat) (f : TxPort → TxPort) : (b.modTx q w f).evSrc k = b.evSrc k := rfl
@[simp] theorem Block.evGroup_modTx (b : Block) (q w : Nat) (k : Nat) (f : TxPort → TxPort) : (b.modTx q w f).evGroup k = b.evGroup k := rfl
@[simp] theorem Block.evTarget_modTx (b : Block) (q w : Nat) (k : Nat) (f : TxPort → TxPort) : (b.modTx q w f).evTarget k = b.evTarget k := rfl
@[simp] theorem Block.dom_modTx (b : Block) (q w : Nat) (k : Nat) (f : TxPort → TxPort) : (b.modTx q w f).dom k = b.dom k := rfl

@[simp] theorem Block.queue_modSaf (b : Block) (q : Nat) (k : Nat) (f : Saffron → Saffron) : (b.modSaf q f).queue k = b.queue k := rfl
@[simp] theorem Block.hws_modSaf (b : Block) (q : Nat) (k : Nat) (f : Saffron → Saffron) : (b.modSaf q f).hws k = b.hws k := rfl
@[simp] theorem Block.sub_modSaf (b : Block) (q : Nat) (k : Nat) (f : Saffron → Saffron) : (b.modSaf q f).sub k = b.sub k := rfl
@[simp] theorem Block.node_modSaf (b : Block) (q : Nat) (k v : Nat) (f : Saffron → Saffron) : (b.modSaf q f).node k v = b.node k v := rfl
@[simp] theorem Block.cwin_modSaf (b : Block) (q : Nat) (k v : Nat) (f : Saffron → Saffron) : (b.modSaf q f).cwin k v = b.cwin k v := rfl
@[simp] theorem Block.fence_modSaf (b : Block) (q : Nat) (k : Nat) (f : Saffron → Saffron) : (b.modSaf q f).fence k = b.fence k := rfl
@[simp] theorem Block.bead_modSaf (b : Block) (q : Nat) (k : Nat) (f : Saffron → Saffron) : (b.modSaf q f).bead k = b.bead k := rfl
@[simp] theorem Block.win_modSaf (b : Block) (q : Nat) (k v : Nat) (f : Saffron → Saffron) : (b.modSaf q f).win k v = b.win k v := rfl
@[simp] theorem Block.slot_modSaf (b : Block) (q : Nat) (k v : Nat) (f : Saffron → Saffron) : (b.modSaf q f).slot k v = b.slot k v := rfl
@[simp] theorem Block.chan_modSaf (b : Block) (q : Nat) (k : Nat) (f : Saffron → Saffron) : (b.modSaf q f).chan k = b.chan k := rfl
@[simp] theorem Block.rx_modSaf (b : Block) (q : Nat) (k v : Nat) (f : Saffron → Saffron) : (b.modSaf q f).rx k v = b.rx k v := rfl
@[simp] theorem Block.tx_modSaf (b : Block) (q : Nat) (k v : Nat) (f : Saffron → Saffron) : (b.modSaf q f).tx k v = b.tx k v := rfl
@[simp] theorem Block.seqEntry_modSaf (b : Block) (q : Nat) (k : Nat) (f : Saffron → Saffron) : (b.modSaf q f).seqEntry k = b.seqEntry k := rfl
@[simp] theorem Block.seqCtx_modSaf (b : Block) (q : Nat) (k : Nat) (f : Saffron → Saffron) : (b.modSaf q f).seqCtx k = b.seqCtx k := rfl
@[simp] theorem Block.cq_modSaf (b : Block) (q : Nat) (k : Nat) (f : Saffron → Saffron) : (b.modSaf q f).cq k = b.cq k := rfl
@[simp] theorem Block.peer_modSaf (b : Block) (q : Nat) (k : Nat) (f : Saffron → Saffron) : (b.modSaf q f).peer k = b.peer k := rfl
@[simp] theorem Block.part_modSaf (b : Block) (q : Nat) (k : Nat) (f : Saffron → Saffron) : (b.modSaf q f).part k = b.part k := rfl
@[simp] theorem Block.ctx_modSaf (b : Block) (q : Nat) (k : Nat) (f : Saffron → Saffron) : (b.modSaf q f).ctx k = b.ctx k := rfl
@[simp] theorem Block.pbead_modSaf (b : Block) (q : Nat) (k : Nat) (f : Saffron → Saffron) : (b.modSaf q f).pbead k = b.pbead k := rfl
@[simp] theorem Block.lane_modSaf (b : Block) (q : Nat) (k : Nat) (f : Saffron → Saffron) : (b.modSaf q f).lane k = b.lane k := rfl
@[simp] theorem Block.evSrc_modSaf (b : Block) (q : Nat) (k : Nat) (f : Saffron → Saffron) : (b.modSaf q f).evSrc k = b.evSrc k := rfl
@[simp] theorem Block.evGroup_modSaf (b : Block) (q : Nat) (k : Nat) (f : Saffron → Saffron) : (b.modSaf q f).evGroup k = b.evGroup k := rfl
@[simp] theorem Block.evTarget_modSaf (b : Block) (q : Nat) (k : Nat) (f : Saffron → Saffron) : (b.modSaf q f).evTarget k = b.evTarget k := rfl
@[simp] theorem Block.dom_modSaf (b : Block) (q : Nat) (k : Nat) (f : Saffron → Saffron) : (b.modSaf q f).dom k = b.dom k := rfl

@[simp] theorem Block.queue_modSeq (b : Block) (q : Nat) (k : Nat) (f : Seq → Seq) : (b.modSeq q f).queue k = b.queue k := rfl
@[simp] theorem Block.hws_modSeq (b : Block) (q : Nat) (k : Nat) (f : Seq → Seq) : (b.modSeq q f).hws k = b.hws k := rfl
@[simp] theorem Block.sub_modSeq (b : Block) (q : Nat) (k : Nat) (f : Seq → Seq) : (b.modSeq q f).sub k = b.sub k := rfl
@[simp] theorem Block.node_modSeq (b : Block) (q : Nat) (k v : Nat) (f : Seq → Seq) : (b.modSeq q f).node k v = b.node k v := rfl
@[simp] theorem Block.cwin_modSeq (b : Block) (q : Nat) (k v : Nat) (f : Seq → Seq) : (b.modSeq q f).cwin k v = b.cwin k v := rfl
@[simp] theorem Block.fence_modSeq (b : Block) (q : Nat) (k : Nat) (f : Seq → Seq) : (b.modSeq q f).fence k = b.fence k := rfl
@[simp] theorem Block.bead_modSeq (b : Block) (q : Nat) (k : Nat) (f : Seq → Seq) : (b.modSeq q f).bead k = b.bead k := rfl
@[simp] theorem Block.win_modSeq (b : Block) (q : Nat) (k v : Nat) (f : Seq → Seq) : (b.modSeq q f).win k v = b.win k v := rfl
@[simp] theorem Block.slot_modSeq (b : Block) (q : Nat) (k v : Nat) (f : Seq → Seq) : (b.modSeq q f).slot k v = b.slot k v := rfl
@[simp] theorem Block.chan_modSeq (b : Block) (q : Nat) (k : Nat) (f : Seq → Seq) : (b.modSeq q f).chan k = b.chan k := rfl
@[simp] theorem Block.rx_modSeq (b : Block) (q : Nat) (k v : Nat) (f : Seq → Seq) : (b.modSeq q f).rx k v = b.rx k v := rfl
@[simp] theorem Block.tx_modSeq (b : Block) (q : Nat) (k v : Nat) (f : Seq → Seq) : (b.modSeq q f).tx k v = b.tx k v := rfl
@[simp] theorem Block.saf_modSeq (b : Block) (q : Nat) (k : Nat) (f : Seq → Seq) : (b.modSeq q f).saf k = b.saf k := rfl
@[simp] theorem Block.seqCtx_modSeq (b : Block) (q : Nat) (k : Nat) (f : Seq → Seq) : (b.modSeq q f).seqCtx k = b.seqCtx k := rfl
@[simp] theorem Block.cq_modSeq (b : Block) (q : Nat) (k : Nat) (f : Seq → Seq) : (b.modSeq q f).cq k = b.cq k := rfl
@[simp] theorem Block.peer_modSeq (b : Block) (q : Nat) (k : Nat) (f : Seq → Seq) : (b.modSeq q f).peer k = b.peer k := rfl
@[simp] theorem Block.part_modSeq (b : Block) (q : Nat) (k : Nat) (f : Seq → Seq) : (b.modSeq q f).part k = b.part k := rfl
@[simp] theorem Block.ctx_modSeq (b : Block) (q : Nat) (k : Nat) (f : Seq → Seq) : (b.modSeq q f).ctx k = b.ctx k := rfl
@[simp] theorem Block.pbead_modSeq (b : Block) (q : Nat) (k : Nat) (f : Seq → Seq) : (b.modSeq q f).pbead k = b.pbead k := rfl
@[simp] theorem Block.lane_modSeq (b : Block) (q : Nat) (k : Nat) (f : Seq → Seq) : (b.modSeq q f).lane k = b.lane k := rfl
@[simp] theorem Block.evSrc_modSeq (b : Block) (q : Nat) (k : Nat) (f : Seq → Seq) : (b.modSeq q f).evSrc k = b.evSrc k := rfl
@[simp] theorem Block.evGroup_modSeq (b : Block) (q : Nat) (k : Nat) (f : Seq → Seq) : (b.modSeq q f).evGroup k = b.evGroup k := rfl
@[simp] theorem Block.evTarget_modSeq (b : Block) (q : Nat) (k : Nat) (f : Seq → Seq) : (b.modSeq q f).evTarget k = b.evTarget k := rfl
@[simp] theorem Block.dom_modSeq (b : Block) (q : Nat) (k : Nat) (f : Seq → Seq) : (b.modSeq q f).dom k = b.dom k := rfl

@[simp] theorem Block.queue_modSeqCtx (b : Block) (q : Nat) (k : Nat) (f : SeqCtx → SeqCtx) : (b.modSeqCtx q f).queue k = b.queue k := rfl
@[simp] theorem Block.hws_modSeqCtx (b : Block) (q : Nat) (k : Nat) (f : SeqCtx → SeqCtx) : (b.modSeqCtx q f).hws k = b.hws k := rfl
@[simp] theorem Block.sub_modSeqCtx (b : Block) (q : Nat) (k : Nat) (f : SeqCtx → SeqCtx) : (b.modSeqCtx q f).sub k = b.sub k := rfl
@[simp] theorem Block.node_modSeqCtx (b : Block) (q : Nat) (k v : Nat) (f : SeqCtx → SeqCtx) : (b.modSeqCtx q f).node k v = b.node k v := rfl
@[simp] theorem Block.cwin_modSeqCtx (b : Block) (q : Nat) (k v : Nat) (f : SeqCtx → SeqCtx) : (b.modSeqCtx q f).cwin k v = b.cwin k v := rfl
@[simp] theorem Block.fence_modSeqCtx (b : Block) (q : Nat) (k : Nat) (f : SeqCtx → SeqCtx) : (b.modSeqCtx q f).fence k = b.fence k := rfl
@[simp] theorem Block.bead_modSeqCtx (b : Block) (q : Nat) (k : Nat) (f : SeqCtx → SeqCtx) : (b.modSeqCtx q f).bead k = b.bead k := rfl
@[simp] theorem Block.win_modSeqCtx (b : Block) (q : Nat) (k v : Nat) (f : SeqCtx → SeqCtx) : (b.modSeqCtx q f).win k v = b.win k v := rfl
@[simp] theorem Block.slot_modSeqCtx (b : Block) (q : Nat) (k v : Nat) (f : SeqCtx → SeqCtx) : (b.modSeqCtx q f).slot k v = b.slot k v := rfl
@[simp] theorem Block.chan_modSeqCtx (b : Block) (q : Nat) (k : Nat) (f : SeqCtx → SeqCtx) : (b.modSeqCtx q f).chan k = b.chan k := rfl
@[simp] theorem Block.rx_modSeqCtx (b : Block) (q : Nat) (k v : Nat) (f : SeqCtx → SeqCtx) : (b.modSeqCtx q f).rx k v = b.rx k v := rfl
@[simp] theorem Block.tx_modSeqCtx (b : Block) (q : Nat) (k v : Nat) (f : SeqCtx → SeqCtx) : (b.modSeqCtx q f).tx k v = b.tx k v := rfl
@[simp] theorem Block.saf_modSeqCtx (b : Block) (q : Nat) (k : Nat) (f : SeqCtx → SeqCtx) : (b.modSeqCtx q f).saf k = b.saf k := rfl
@[simp] theorem Block.seqEntry_modSeqCtx (b : Block) (q : Nat) (k : Nat) (f : SeqCtx → SeqCtx) : (b.modSeqCtx q f).seqEntry k = b.seqEntry k := rfl
@[simp] theorem Block.cq_modSeqCtx (b : Block) (q : Nat) (k : Nat) (f : SeqCtx → SeqCtx) : (b.modSeqCtx q f).cq k = b.cq k := rfl
@[simp] theorem Block.peer_modSeqCtx (b : Block) (q : Nat) (k : Nat) (f : SeqCtx → SeqCtx) : (b.modSeqCtx q f).peer k = b.peer k := rfl
@[simp] theorem Block.part_modSeqCtx (b : Block) (q : Nat) (k : Nat) (f : SeqCtx → SeqCtx) : (b.modSeqCtx q f).part k = b.part k := rfl
@[simp] theorem Block.ctx_modSeqCtx (b : Block) (q : Nat) (k : Nat) (f : SeqCtx → SeqCtx) : (b.modSeqCtx q f).ctx k = b.ctx k := rfl
@[simp] theorem Block.pbead_modSeqCtx (b : Block) (q : Nat) (k : Nat) (f : SeqCtx → SeqCtx) : (b.modSeqCtx q f).pbead k = b.pbead k := rfl
@[simp] theorem Block.lane_modSeqCtx (b : Block) (q : Nat) (k : Nat) (f : SeqCtx → SeqCtx) : (b.modSeqCtx q f).lane k = b.lane k := rfl
@[simp] theorem Block.evSrc_modSeqCtx (b : Block) (q : Nat) (k : Nat) (f : SeqCtx → SeqCtx) : (b.modSeqCtx q f).evSrc k = b.evSrc k := rfl
@[simp] theorem Block.evGroup_modSeqCtx (b : Block) (q : Nat) (k : Nat) (f : SeqCtx → SeqCtx) : (b.modSeqCtx q f).evGroup k = b.evGroup k := rfl
@[simp] theorem Block.evTarget_modSeqCtx (b : Block) (q : Nat) (k : Nat) (f : SeqCtx → SeqCtx) : (b.modSeqCtx q f).evTarget k = b.evTarget k := rfl
@[simp] theorem Block.dom_modSeqCtx (b : Block) (q : Nat) (k : Nat) (f : SeqCtx → SeqCtx) : (b.modSeqCtx q f).dom k = b.dom k := rfl

@[simp] theorem Block.queue_modCq (b : Block) (q : Nat) (k : Nat) (f : CQueue → CQueue) : (b.modCq q f).queue k = b.queue k := rfl
@[simp] theorem Block.hws_modCq (b : Block) (q : Nat) (k : Nat) (f : CQueue → CQueue) : (b.modCq q f).hws k = b.hws k := rfl
@[simp] theorem Block.sub_modCq (b : Block) (q : Nat) (k : Nat) (f : CQueue → CQueue) : (b.modCq q f).sub k = b.sub k := rfl
@[simp] theorem Block.node_modCq (b : Block) (q : Nat) (k v : Nat) (f : CQueue → CQueue) : (b.modCq q f).node k v = b.node k v := rfl
@[simp] theorem Block.cwin_modCq (b : Block) (q : Nat) (k v : Nat) (f : CQueue → CQueue) : (b.modCq q f).cwin k v = b.cwin k v := rfl
@[simp] theorem Block.fence_modCq (b : Block) (q : Nat) (k : Nat) (f : CQueue → CQueue) : (b.modCq q f).fence k = b.fence k := rfl
@[simp] theorem Block.bead_modCq (b : Block) (q : Nat) (k : Nat) (f : CQueue → CQueue) : (b.modCq q f).bead k = b.bead k := rfl
@[simp] theorem Block.win_modCq (b : Block) (q : Nat) (k v : Nat) (f : CQueue → CQueue) : (b.modCq q f).win k v = b.win k v := rfl
@[simp] theorem Block.slot_modCq (b : Block) (q : Nat) (k v : Nat) (f : CQueue → CQueue) : (b.modCq q f).slot k v = b.slot k v := rfl
@[simp] theorem Block.chan_modCq (b : Block) (q : Nat) (k : Nat) (f : CQueue → CQueue) : (b.modCq q f).chan k = b.chan k := rfl
@[simp] theorem Block.rx_modCq (b : Block) (q : Nat) (k v : Nat) (f : CQueue → CQueue) : (b.modCq q f).rx k v = b.rx k v := rfl
@[simp] theorem Block.tx_modCq (b : Block) (q : Nat) (k v : Nat) (f : CQueue → CQueue) : (b.modCq q f).tx k v = b.tx k v := rfl
@[simp] theorem Block.saf_modCq (b : Block) (q : Nat) (k : Nat) (f : CQueue → CQueue) : (b.modCq q f).saf k = b.saf k := rfl
@[simp] theorem Block.seqEntry_modCq (b : Block) (q : Nat) (k : Nat) (f : CQueue → CQueue) : (b.modCq q f).seqEntry k = b.seqEntry k := rfl
@[simp] theorem Block.seqCtx_modCq (b : Block) (q : Nat) (k : Nat) (f : CQueue → CQueue) : (b.modCq q f).seqCtx k = b.seqCtx k := rfl
@[simp] theorem Block.peer_modCq (b : Block) (q : Nat) (k : Nat) (f : CQueue → CQueue) : (b.modCq q f).peer k = b.peer k := rfl
@[simp] theorem Block.part_modCq (b : Block) (q : Nat) (k : Nat) (f : CQueue → CQueue) : (b.modCq q f).part k = b.part k := rfl
@[simp] theorem Block.ctx_modCq (b : Block) (q : Nat) (k : Nat) (f : CQueue → CQueue) : (b.modCq q f).ctx k = b.ctx k := rfl
@[simp] theorem Block.pbead_modCq (b : Block) (q : Nat) (k : Nat) (f : CQueue → CQueue) : (b.modCq q f).pbead k = b.pbead k := rfl
@[simp] theorem Block.lane_modCq (b : Block) (q : Nat) (k : Nat) (f : CQueue → CQueue) : (b.modCq q f).lane k = b.lane k := rfl
@[simp] theorem Block.evSrc_modCq (b : Block) (q : Nat) (k : Nat) (f : CQueue → CQueue) : (b.modCq q f).evSrc k = b.evSrc k := rfl
@[simp] theorem Block.evGroup_modCq (b : Block) (q : Nat) (k : Nat) (f : CQueue → CQueue) : (b.modCq q f).evGroup k = b.evGroup k := rfl
@[simp] theorem Block.evTarget_modCq (b : Block) (q : Nat) (k : Nat) (f : CQueue → CQueue) : (b.modCq q f).evTarget k = b.evTarget k := rfl
@[simp] theorem Block.dom_modCq (b : Block) (q : Nat) (k : Nat) (f : CQueue → CQueue) : (b.modCq q f).dom k = b.dom k := rfl

@[simp] theorem Block.queue_modPeer (b : Block) (q : Nat) (k : Nat) (f : Peer → Peer) : (b.modPeer q f).queue k = b.queue k := rfl
@[simp] theorem Block.hws_modPeer (b : Block) (q : Nat) (k : Nat) (f : Peer → Peer) : (b.modPeer q f).hws k = b.hws k := rfl
@[simp] theorem Block.sub_modPeer (b : Block) (q : Nat) (k : Nat) (f : Peer → Peer) : (b.modPeer q f).sub k = b.sub k := rfl
@[simp] theorem Block.node_modPeer (b : Block) (q : Nat) (k v : Nat) (f : Peer → Peer) : (b.modPeer q f).node k v = b.node k v := rfl
@[simp] theorem Block.cwin_modPeer (b : Block) (q : Nat) (k v : Nat) (f : Peer → Peer) : (b.modPeer q f).cwin k v = b.cwin k v := rfl
@[simp] theorem Block.fence_modPeer (b : Block) (q : Nat) (k : Nat) (f : Peer → Peer) : (b.modPeer q f).fence k = b.fence k := rfl
@[simp] theorem Block.bead_modPeer (b : Block) (q : Nat) (k : Nat) (f : Peer → Peer) : (b.modPeer q f).bead k = b.bead k := rfl
@[simp] theorem Block.win_modPeer (b : Block) (q : Nat) (k v : Nat) (f : Peer → Peer) : (b.modPeer q f).win k v = b.win k v := rfl
@[simp] theorem Block.slot_modPeer (b : Block) (q : Nat) (k v : Nat) (f : Peer → Peer) : (b.modPeer q f).slot k v = b.slot k v := rfl
@[simp] theorem Block.chan_modPeer (b : Block) (q : Nat) (k : Nat) (f : Peer → Peer) : (b.modPeer q f).chan k = b.chan k := rfl
@[simp] theorem Block.rx_modPeer (b : Block) (q : Nat) (k v : Nat) (f : Peer → Peer) : (b.modPeer q f).rx k v = b.rx k v := rfl
@[simp] theorem Block.tx_modPeer (b : Block) (q : Nat) (k v : Nat) (f : Peer → Peer) : (b.modPeer q f).tx k v = b.tx k v := rfl
@[simp] theorem Block.saf_modPeer (b : Block) (q : Nat) (k : Nat) (f : Peer → Peer) : (b.modPeer q f).saf k = b.saf k := rfl
@[simp] theorem Block.seqEntry_modPeer (b : Block) (q : Nat) (k : Nat) (f : Peer → Peer) : (b.modPeer q f).seqEntry k = b.seqEntry k := rfl
@[simp] theorem Block.seqCtx_modPeer (b : Block) (q : Nat) (k : Nat) (f : Peer → Peer) : (b.modPeer q f).seqCtx k = b.seqCtx k := rfl
@[simp] theorem Block.cq_modPeer (b : Block) (q : Nat) (k : Nat) (f : Peer → Peer) : (b.modPeer q f).cq k = b.cq k := rfl
@[simp] theorem Block.part_modPeer (b : Block) (q : Nat) (k : Nat) (f : Peer → Peer) : (b.modPeer q f).part k = b.part k := rfl
@[simp] theorem Block.ctx_modPeer (b : Block) (q : Nat) (k : Nat) (f : Peer → Peer) : (b.modPeer q f).ctx k = b.ctx k := rfl
@[simp] theorem Block.pbead_modPeer (b : Block) (q : Nat) (k : Nat) (f : Peer → Peer) : (b.modPeer q f).pbead k = b.pbead k := rfl
@[simp] theorem Block.lane_modPeer (b : Block) (q : Nat) (k : Nat) (f : Peer → Peer) : (b.modPeer q f).lane k = b.lane k := rfl
@[simp] theorem Block.evSrc_modPeer (b : Block) (q : Nat) (k : Nat) (f : Peer → Peer) : (b.modPeer q f).evSrc k = b.evSrc k := rfl
@[simp] theorem Block.evGroup_modPeer (b : Block) (q : Nat) (k : Nat) (f : Peer → Peer) : (b.modPeer q f).evGroup k = b.evGroup k := rfl
@[simp] theorem Block.evTarget_modPeer (b : Block) (q : Nat) (k : Nat) (f : Peer → Peer) : (b.modPeer q f).evTarget k = b.evTarget k := rfl
@[simp] theorem Block.dom_modPeer (b : Block) (q : Nat) (k : Nat) (f : Peer → Peer) : (b.modPeer q f).dom k = b.dom k := rfl

@[simp] theorem Block.queue_modPart (b : Block) (q : Nat) (k : Nat) (f : Part → Part) : (b.modPart q f).queue k = b.queue k := rfl
@[simp] theorem Block.hws_modPart (b : Block) (q : Nat) (k : Nat) (f : Part → Part) : (b.modPart q f).hws k = b.hws k := rfl
@[simp] theorem Block.sub_modPart (b : Block) (q : Nat) (k : Nat) (f : Part → Part) : (b.modPart q f).sub k = b.sub k := rfl
@[simp] theorem Block.node_modPart (b : Block) (q : Nat) (k v : Nat) (f : Part → Part) : (b.modPart q f).node k v = b.node k v := rfl
@[simp] theorem Block.cwin_modPart (b : Block) (q : Nat) (k v : Nat) (f : Part → Part) : (b.modPart q f).cwin k v = b.cwin k v := rfl
@[simp] theorem Block.fence_modPart (b : Block) (q : Nat) (k : Nat) (f : Part → Part) : (b.modPart q f).fence k = b.fence k := rfl
@[simp] theorem Block.bead_modPart (b : Block) (q : Nat) (k : Nat) (f : Part → Part) : (b.modPart q f).bead k = b.bead k := rfl
@[simp] theorem Block.win_modPart (b : Block) (q : Nat) (k v : Nat) (f : Part → Part) : (b.modPart q f).win k v = b.win k v := rfl
@[simp] theorem Block.slot_modPart (b : Block) (q : Nat) (k v : Nat) (f : Part → Part) : (b.modPart q f).slot k v = b.slot k v := rfl
@[simp] theorem Block.chan_modPart (b : Block) (q : Nat) (k : Nat) (f : Part → Part) : (b.modPart q f).chan k = b.chan k := rfl
@[simp] theorem Block.rx_modPart (b : Block) (q : Nat) (k v : Nat) (f : Part → Part) : (b.modPart q f).rx k v = b.rx k v := rfl
@[simp] theorem Block.tx_modPart (b : Block) (q : Nat) (k v : Nat) (f : Part → Part) : (b.modPart q f).tx k v = b.tx k v := rfl
@[simp] theorem Block.saf_modPart (b : Block) (q : Nat) (k : Nat) (f : Part → Part) : (b.modPart q f).saf k = b.saf k := rfl
@[simp] theorem Block.seqEntry_modPart (b : Block) (q : Nat) (k : Nat) (f : Part → Part) : (b.modPart q f).seqEntry k = b.seqEntry k := rfl
@[simp] theorem Block.seqCtx_modPart (b : Block) (q : Nat) (k : Nat) (f : Part → Part) : (b.modPart q f).seqCtx k = b.seqCtx k := rfl
@[simp] theorem Block.cq_modPart (b : Block) (q : Nat) (k : Nat) (f : Part → Part) : (b.modPart q f).cq k = b.cq k := rfl
@[simp] theorem Block.peer_modPart (b : Block) (q : Nat) (k : Nat) (f : Part → Part) : (b.modPart q f).peer k = b.peer k := rfl
@[simp] theorem Block.ctx_modPart (b : Block) (q : Nat) (k : Nat) (f : Part → Part) : (b.modPart q f).ctx k = b.ctx k := rfl
@[simp] theorem Block.pbead_modPart (b : Block) (q : Nat) (k : Nat) (f : Part → Part) : (b.modPart q f).pbead k = b.pbead k := rfl
@[simp] theorem Block.lane_modPart (b : Block) (q : Nat) (k : Nat) (f : Part → Part) : (b.modPart q f).lane k = b.lane k := rfl
@[simp] theorem Block.evSrc_modPart (b : Block) (q : Nat) (k : Nat) (f : Part → Part) : (b.modPart q f).evSrc k = b.evSrc k := rfl
@[simp] theorem Block.evGroup_modPart (b : Block) (q : Nat) (k : Nat) (f : Part → Part) : (b.modPart q f).evGroup k = b.evGroup k := rfl
@[simp] theorem Block.evTarget_modPart (b : Block) (q : Nat) (k : Nat) (f : Part → Part) : (b.modPart q f).evTarget k = b.evTarget k := rfl
@[simp] theorem Block.dom_modPart (b : Block) (q : Nat) (k : Nat) (f : Part → Part) : (b.modPart q f).dom k = b.dom k := rfl

@[simp] theorem Block.queue_modCtx (b : Block) (q : Nat) (k : Nat) (f : Ctx → Ctx) : (b.modCtx q f).queue k = b.queue k := rfl
@[simp] theorem Block.hws_modCtx (b : Block) (q : Nat) (k : Nat) (f : Ctx → Ctx) : (b.modCtx q f).hws k = b.hws k := rfl
@[simp] theorem Block.sub_modCtx (b : Block) (q : Nat) (k : Nat) (f : Ctx → Ctx) : (b.modCtx q f).sub k = b.sub k := rfl
@[simp] theorem Block.node_modCtx (b : Block) (q : Nat) (k v : Nat) (f : Ctx → Ctx) : (b.modCtx q f).node k v = b.node k v := rfl
@[simp] theorem Block.cwin_modCtx (b : Block) (q : Nat) (k v : Nat) (f : Ctx → Ctx) : (b.modCtx q f).cwin k v = b.cwin k v := rfl
@[simp] theorem Block.fence_modCtx (b : Block) (q : Nat) (k : Nat) (f : Ctx → Ctx) : (b.modCtx q f).fence k = b.fence k := rfl
@[simp] theorem Block.bead_modCtx (b : Block) (q : Nat) (k : Nat) (f : Ctx → Ctx) : (b.modCtx q f).bead k = b.bead k := rfl
@[simp] theorem Block.win_modCtx (b : Block) (q : Nat) (k v : Nat) (f : Ctx → Ctx) : (b.modCtx q f).win k v = b.win k v := rfl
@[simp] theorem Block.slot_modCtx (b : Block) (q : Nat) (k v : Nat) (f : Ctx → Ctx) : (b.modCtx q f).slot k v = b.slot k v := rfl
@[simp] theorem Block.chan_modCtx (b : Block) (q : Nat) (k : Nat) (f : Ctx → Ctx) : (b.modCtx q f).chan k = b.chan k := rfl
@[simp] theorem Block.rx_modCtx (b : Block) (q : Nat) (k v : Nat) (f : Ctx → Ctx) : (b.modCtx q f).rx k v = b.rx k v := rfl
@[simp] theorem Block.tx_modCtx (b : Block) (q : Nat) (k v : Nat) (f : Ctx → Ctx) : (b.modCtx q f).tx k v = b.tx k v := rfl
@[simp] theorem Block.saf_modCtx (b : Block) (q : Nat) (k : Nat) (f : Ctx → Ctx) : (b.modCtx q f).saf k = b.saf k := rfl
@[simp] theorem Block.seqEntry_modCtx (b : Block) (q : Nat) (k : Nat) (f : Ctx → Ctx) : (b.modCtx q f).seqEntry k = b.seqEntry k := rfl
@[simp] theorem Block.seqCtx_modCtx (b : Block) (q : Nat) (k : Nat) (f : Ctx → Ctx) : (b.modCtx q f).seqCtx k = b.seqCtx k := rfl
@[simp] theorem Block.cq_modCtx (b : Block) (q : Nat) (k : Nat) (f : Ctx → Ctx) : (b.modCtx q f).cq k = b.cq k := rfl
@[simp] theorem Block.peer_modCtx (b : Block) (q : Nat) (k : Nat) (f : Ctx → Ctx) : (b.modCtx q f).peer k = b.peer k := rfl
@[simp] theorem Block.part_modCtx (b : Block) (q : Nat) (k : Nat) (f : Ctx → Ctx) : (b.modCtx q f).part k = b.part k := rfl
@[simp] theorem Block.pbead_modCtx (b : Block) (q : Nat) (k : Nat) (f : Ctx → Ctx) : (b.modCtx q f).pbead k = b.pbead k := rfl
@[simp] theorem Block.lane_modCtx (b : Block) (q : Nat) (k : Nat) (f : Ctx → Ctx) : (b.modCtx q f).lane k = b.lane k := rfl
@[simp] theorem Block.evSrc_modCtx (b : Block) (q : Nat) (k : Nat) (f : Ctx → Ctx) : (b.modCtx q f).evSrc k = b.evSrc k := rfl
@[simp] theorem Block.evGroup_modCtx (b : Block) (q : Nat) (k : Nat) (f : Ctx → Ctx) : (b.modCtx q f).evGroup k = b.evGroup k := rfl
@[simp] theorem Block.evTarget_modCtx (b : Block) (q : Nat) (k : Nat) (f : Ctx → Ctx) : (b.modCtx q f).evTarget k = b.evTarget k := rfl
@[simp] theorem Block.dom_modCtx (b : Block) (q : Nat) (k : Nat) (f : Ctx → Ctx) : (b.modCtx q f).dom k = b.dom k := rfl

@[simp] theorem Block.queue_modPbead (b : Block) (q : Nat) (k : Nat) (f : PBead → PBead) : (b.modPbead q f).queue k = b.queue k := rfl
@[simp] theorem Block.hws_modPbead (b : Block) (q : Nat) (k : Nat) (f : PBead → PBead) : (b.modPbead q f).hws k = b.hws k := rfl
@[simp] theorem Block.sub_modPbead (b : Block) (q : Nat) (k : Nat) (f : PBead → PBead) : (b.modPbead q f).sub k = b.sub k := rfl
@[simp] theorem Block.node_modPbead (b : Block) (q : Nat) (k v : Nat) (f : PBead → PBead) : (b.modPbead q f).node k v = b.node k v := rfl
@[simp] theorem Block.cwin_modPbead (b : Block) (q : Nat) (k v : Nat) (f : PBead → PBead) : (b.modPbead q f).cwin k v = b.cwin k v := rfl
@[simp] theorem Block.fence_modPbead (b : Block) (q : Nat) (k : Nat) (f : PBead → PBead) : (b.modPbead q f).fence k = b.fence k := rfl
@[simp] theorem Block.bead_modPbead (b : Block) (q : Nat) (k : Nat) (f : PBead → PBead) : (b.modPbead q f).bead k = b.bead k := rfl
@[simp] theorem Block.win_modPbead (b : Block) (q : Nat) (k v : Nat) (f : PBead → PBead) : (b.modPbead q f).win k v = b.win k v := rfl
@[simp] theorem Block.slot_modPbead (b : Block) (q : Nat) (k v : Nat) (f : PBead → PBead) : (b.modPbead q f).slot k v = b.slot k v := rfl
@[simp] theorem Block.chan_modPbead (b : Block) (q : Nat) (k : Nat) (f : PBead → PBead) : (b.modPbead q f).chan k = b.chan k := rfl
@[simp] theorem Block.rx_modPbead (b : Block) (q : Nat) (k v : Nat) (f : PBead → PBead) : (b.modPbead q f).rx k v = b.rx k v := rfl
@[simp] theorem Block.tx_modPbead (b : Block) (q : Nat) (k v : Nat) (f : PBead → PBead) : (b.modPbead q f).tx k v = b.tx k v := rfl
@[simp] theorem Block.saf_modPbead (b : Block) (q : Nat) (k : Nat) (f : PBead → PBead) : (b.modPbead q f).saf k = b.saf k := rfl
@[simp] theorem Block.seqEntry_modPbead (b : Block) (q : Nat) (k : Nat) (f : PBead → PBead) : (b.modPbead q f).seqEntry k = b.seqEntry k := rfl
@[simp] theorem Block.seqCtx_modPbead (b : Block) (q : Nat) (k : Nat) (f : PBead → PBead) : (b.modPbead q f).seqCtx k = b.seqCtx k := rfl
@[simp] theorem Block.cq_modPbead (b : Block) (q : Nat) (k : Nat) (f : PBead → PBead) : (b.modPbead q f).cq k = b.cq k := rfl
@[simp] theorem Block.peer_modPbead (b : Block) (q : Nat) (k : Nat) (f : PBead → PBead) : (b.modPbead q f).peer k = b.peer k := rfl
@[simp] theorem Block.part_modPbead (b : Block) (q : Nat) (k : Nat) (f : PBead → PBead) : (b.modPbead q f).part k = b.part k := rfl
@[simp] theorem Block.ctx_modPbead (b : Block) (q : Nat) (k : Nat) (f : PBead → PBead) : (b.modPbead q f).ctx k = b.ctx k := rfl
@[simp] theorem Block.lane_modPbead (b : Block) (q : Nat) (k : Nat) (f : PBead → PBead) : (b.modPbead q f).lane k = b.lane k := rfl
@[simp] theorem Block.evSrc_modPbead (b : Block) (q : Nat) (k : Nat) (f : PBead → PBead) : (b.modPbead q f).evSrc k = b.evSrc k := rfl
@[simp] theorem Block.evGroup_modPbead (b : Block) (q : Nat) (k : Nat) (f : PBead → PBead) : (b.modPbead q f).evGroup k = b.evGroup k := rfl
@[simp] theorem Block.evTarget_modPbead (b : Block) (q : Nat) (k : Nat) (f : PBead → PBead) : (b.modPbead q f).evTarget k = b.evTarget k := rfl
@[simp] theorem Block.dom_modPbead (b : Block) (q : Nat) (k : Nat) (f : PBead → PBead) : (b.modPbead q f).dom k = b.dom k := rfl

@[simp] theorem Block.queue_modLane (b : Block) (q : Nat) (k : Nat) (f : Lane → Lane) : (b.modLane q f).queue k = b.queue k := rfl
@[simp] theorem Block.hws_modLane (b : Block) (q : Nat) (k : Nat) (f : Lane → Lane) : (b.modLane q f).hws k = b.hws k := rfl
@[simp] theorem Block.sub_modLane (b : Block) (q : Nat) (k : Nat) (f : Lane → Lane) : (b.modLane q f).sub k = b.sub k := rfl
@[simp] theorem Block.node_modLane (b : Block) (q : Nat) (k v : Nat) (f : Lane → Lane) : (b.modLane q f).node k v = b.node k v := rfl
@[simp] theorem Block.cwin_modLane (b : Block) (q : Nat) (k v : Nat) (f : Lane → Lane) : (b.modLane q f).cwin k v = b.cwin k v := rfl
@[simp] theorem Block.fence_modLane (b : Block) (q : Nat) (k : Nat) (f : Lane → Lane) : (b.modLane q f).fence k = b.fence k := rfl
@[simp] theorem Block.bead_modLane (b : Block) (q : Nat) (k : Nat) (f : Lane → Lane) : (b.modLane q f).bead k = b.bead k := rfl
@[simp] theorem Block.win_modLane (b : Block) (q : Nat) (k v : Nat) (f : Lane → Lane) : (b.modLane q f).win k v = b.win k v := rfl
@[simp] theorem Block.slot_modLane (b : Block) (q : Nat) (k v : Nat) (f : Lane → Lane) : (b.modLane q f).slot k v = b.slot k v := rfl
@[simp] theorem Block.chan_modLane (b : Block) (q : Nat) (k : Nat) (f : Lane → Lane) : (b.modLane q f).chan k = b.chan k := rfl
@[simp] theorem Block.rx_modLane (b : Block) (q : Nat) (k v : Nat) (f : Lane → Lane) : (b.modLane q f).rx k v = b.rx k v := rfl
@[simp] theorem Block.tx_modLane (b : Block) (q : Nat) (k v : Nat) (f : Lane → Lane) : (b.modLane q f).tx k v = b.tx k v := rfl
@[simp] theorem Block.saf_modLane (b : Block) (q : Nat) (k : Nat) (f : Lane → Lane) : (b.modLane q f).saf k = b.saf k := rfl
@[simp] theorem Block.seqEntry_modLane (b : Block) (q : Nat) (k : Nat) (f : Lane → Lane) : (b.modLane q f).seqEntry k = b.seqEntry k := rfl
@[simp] theorem Block.seqCtx_modLane (b : Block) (q : Nat) (k : Nat) (f : Lane → Lane) : (b.modLane q f).seqCtx k = b.seqCtx k := rfl
@[simp] theorem Block.cq_modLane (b : Block) (q : Nat) (k : Nat) (f : Lane → Lane) : (b.modLane q f).cq k = b.cq k := rfl
@[simp] theorem Block.peer_modLane (b : Block) (q : Nat) (k : Nat) (f : Lane → Lane) : (b.modLane q f).peer k = b.peer k := rfl
@[simp] theorem Block.part_modLane (b : Block) (q : Nat) (k : Nat) (f : Lane → Lane) : (b.modLane q f).part k = b.part k := rfl
@[simp] theorem Block.ctx_modLane (b : Block) (q : Nat) (k : Nat) (f : Lane → Lane) : (b.modLane q f).ctx k = b.ctx k := rfl
@[simp] theorem Block.pbead_modLane (b : Block) (q : Nat) (k : Nat) (f : Lane → Lane) : (b.modLane q f).pbead k = b.pbead k := rfl
@[simp] theorem Block.evSrc_modLane (b : Block) (q : Nat) (k : Nat) (f : Lane → Lane) : (b.modLane q f).evSrc k = b.evSrc k := rfl
@[simp] theorem Block.evGroup_modLane (b : Block) (q : Nat) (k : Nat) (f : Lane → Lane) : (b.modLane q f).evGroup k = b.evGroup k := rfl
@[simp] theorem Block.evTarget_modLane (b : Block) (q : Nat) (k : Nat) (f : Lane → Lane) : (b.modLane q f).evTarget k = b.evTarget k := rfl
@[simp] theorem Block.dom_modLane (b : Block) (q : Nat) (k : Nat) (f : Lane → Lane) : (b.modLane q f).dom k = b.dom k := rfl

@[simp] theorem Block.queue_modEvSrc (b : Block) (q : Nat) (k : Nat) (f : EvSrc → EvSrc) : (b.modEvSrc q f).queue k = b.queue k := rfl
@[simp] theorem Block.hws_modEvSrc (b : Block) (q : Nat) (k : Nat) (f : EvSrc → EvSrc) : (b.modEvSrc q f).hws k = b.hws k := rfl
@[simp] theorem Block.sub_modEvSrc (b : Block) (q : Nat) (k : Nat) (f : EvSrc → EvSrc) : (b.modEvSrc q f).sub k = b.sub k := rfl
@[simp] theorem Block.node_modEvSrc (b : Block) (q : Nat) (k v : Nat) (f : EvSrc → EvSrc) : (b.modEvSrc q f).node k v = b.node k v := rfl
@[simp] theorem Block.cwin_modEvSrc (b : Block) (q : Nat) (k v : Nat) (f : EvSrc → EvSrc) : (b.modEvSrc q f).cwin k v = b.cwin k v := rfl
@[simp] theorem Block.fence_modEvSrc (b : Block) (q : Nat) (k : Nat) (f : EvSrc → EvSrc) : (b.modEvSrc q f).fence k = b.fence k := rfl
@[simp] theorem Block.bead_modEvSrc (b : Block) (q : Nat) (k : Nat) (f : EvSrc → EvSrc) : (b.modEvSrc q f).bead k = b.bead k := rfl
@[simp] theorem Block.win_modEvSrc (b : Block) (q : Nat) (k v : Nat) (f : EvSrc → EvSrc) : (b.modEvSrc q f).win k v = b.win k v := rfl
@[simp] theorem Block.slot_modEvSrc (b : Block) (q : Nat) (k v : Nat) (f : EvSrc → EvSrc) : (b.modEvSrc q f).slot k v = b.slot k v := rfl
@[simp] theorem Block.chan_modEvSrc (b : Block) (q : Nat) (k : Nat) (f : EvSrc → EvSrc) : (b.modEvSrc q f).chan k = b.chan k := rfl
@[simp] theorem Block.rx_modEvSrc (b : Block) (q : Nat) (k v : Nat) (f : EvSrc → EvSrc) : (b.modEvSrc q f).rx k v = b.rx k v := rfl
@[simp] theorem Block.tx_modEvSrc (b : Block) (q : Nat) (k v : Nat) (f : EvSrc → EvSrc) : (b.modEvSrc q f).tx k v = b.tx k v := rfl
@[simp] theorem Block.saf_modEvSrc (b : Block) (q : Nat) (k : Nat) (f : EvSrc → EvSrc) : (b.modEvSrc q f).saf k = b.saf k := rfl
@[simp] theorem Block.seqEntry_modEvSrc (b : Block) (q : Nat) (k : Nat) (f : EvSrc → EvSrc) : (b.modEvSrc q f).seqEntry k = b.seqEntry k := rfl
@[simp] theorem Block.seqCtx_modEvSrc (b : Block) (q : Nat) (k : Nat) (f : EvSrc → EvSrc) : (b.modEvSrc q f).seqCtx k = b.seqCtx k := rfl
@[simp] theorem Block.cq_modEvSrc (b : Block) (q : Nat) (k : Nat) (f : EvSrc → EvSrc) : (b.modEvSrc q f).cq k = b.cq k := rfl
@[simp] theorem Block.peer_modEvSrc (b : Block) (q : Nat) (k : Nat) (f : EvSrc → EvSrc) : (b.modEvSrc q f).peer k = b.peer k := rfl
@[simp] theorem Block.part_modEvSrc (b : Block) (q : Nat) (k : Nat) (f : EvSrc → EvSrc) : (b.modEvSrc q f).part k = b.part k := rfl
@[simp] theorem Block.ctx_modEvSrc (b : Block) (q : Nat) (k : Nat) (f : EvSrc → EvSrc) : (b.modEvSrc q f).ctx k = b.ctx k := rfl
@[simp] theorem Block.pbead_modEvSrc (b : Block) (q : Nat) (k : Nat) (f : EvSrc → EvSrc) : (b.modEvSrc q f).pbead k = b.pbead k := rfl
@[simp] theorem Block.lane_modEvSrc (b : Block) (q : Nat) (k : Nat) (f : EvSrc → EvSrc) : (b.modEvSrc q f).lane k = b.lane k := rfl
@[simp] theorem Block.evGroup_modEvSrc (b : Block) (q : Nat) (k : Nat) (f : EvSrc → EvSrc) : (b.modEvSrc q f).evGroup k = b.evGroup k := rfl
@[simp] theorem Block.evTarget_modEvSrc (b : Block) (q : Nat) (k : Nat) (f : EvSrc → EvSrc) : (b.modEvSrc q f).evTarget k = b.evTarget k := rfl
@[simp] theorem Block.dom_modEvSrc (b : Block) (q : Nat) (k : Nat) (f : EvSrc → EvSrc) : (b.modEvSrc q f).dom k = b.dom k := rfl

@[simp] theorem Block.queue_modEvGroup (b : Block) (q : Nat) (k : Nat) (f : EvGroup → EvGroup) : (b.modEvGroup q f).queue k = b.queue k := rfl
@[simp] theorem Block.hws_modEvGroup (b : Block) (q : Nat) (k : Nat) (f : EvGroup → EvGroup) : (b.modEvGroup q f).hws k = b.hws k := rfl
@[simp] theorem Block.sub_modEvGroup (b : Block) (q : Nat) (k : Nat) (f : EvGroup → EvGroup) : (b.modEvGroup q f).sub k = b.sub k := rfl
@[simp] theorem Block.node_modEvGroup (b : Block) (q : Nat) (k v : Nat) (f : EvGroup → EvGroup) : (b.modEvGroup q f).node k v = b.node k v := rfl
@[simp] theorem Block.cwin_modEvGroup (b : Block) (q : Nat) (k v : Nat) (f : EvGroup → EvGroup) : (b.modEvGroup q f).cwin k v = b.cwin k v := rfl
@[simp] theorem Block.fence_modEvGroup (b : Block) (q : Nat) (k : Nat) (f : EvGroup → EvGroup) : (b.modEvGroup q f).fence k = b.fence k := rfl
@[simp] theorem Block.bead_modEvGroup (b : Block) (q : Nat) (k : Nat) (f : EvGroup → EvGroup) : (b.modEvGroup q f).bead k = b.bead k := rfl
@[simp] theorem Block.win_modEvGroup (b : Block) (q : Nat) (k v : Nat) (f : EvGroup → EvGroup) : (b.modEvGroup q f).win k v = b.win k v := rfl
@[simp] theorem Block.slot_modEvGroup (b : Block) (q : Nat) (k v : Nat) (f : EvGroup → EvGroup) : (b.modEvGroup q f).slot k v = b.slot k v := rfl
@[simp] theorem Block.chan_modEvGroup (b : Block) (q : Nat) (k : Nat) (f : EvGroup → EvGroup) : (b.modEvGroup q f).chan k = b.chan k := rfl
@[simp] theorem Block.rx_modEvGroup (b : Block) (q : Nat) (k v : Nat) (f : EvGroup → EvGroup) : (b.modEvGroup q f).rx k v = b.rx k v := rfl
@[simp] theorem Block.tx_modEvGroup (b : Block) (q : Nat) (k v : Nat) (f : EvGroup → EvGroup) : (b.modEvGroup q f).tx k v = b.tx k v := rfl
@[simp] theorem Block.saf_modEvGroup (b : Block) (q : Nat) (k : Nat) (f : EvGroup → EvGroup) : (b.modEvGroup q f).saf k = b.saf k := rfl
@[simp] theorem Block.seqEntry_modEvGroup (b : Block) (q : Nat) (k : Nat) (f : EvGroup → EvGroup) : (b.modEvGroup q f).seqEntry k = b.seqEntry k := rfl
@[simp] theorem Block.seqCtx_modEvGroup (b : Block) (q : Nat) (k : Nat) (f : EvGroup → EvGroup) : (b.modEvGroup q f).seqCtx k = b.seqCtx k := rfl
@[simp] theorem Block.cq_modEvGroup (b : Block) (q : Nat) (k : Nat) (f : EvGroup → EvGroup) : (b.modEvGroup q f).cq k = b.cq k := rfl
@[simp] theorem Block.peer_modEvGroup (b : Block) (q : Nat) (k : Nat) (f : EvGroup → EvGroup) : (b.modEvGroup q f).peer k = b.peer k := rfl
@[simp] theorem Block.part_modEvGroup (b : Block) (q : Nat) (k : Nat) (f : EvGroup → EvGroup) : (b.modEvGroup q f).part k = b.part k := rfl
@[simp] theorem Block.ctx_modEvGroup (b : Block) (q : Nat) (k : Nat) (f : EvGroup → EvGroup) : (b.modEvGroup q f).ctx k = b.ctx k := rfl
@[simp] theorem Block.pbead_modEvGroup (b : Block) (q : Nat) (k : Nat) (f : EvGroup → EvGroup) : (b.modEvGroup q f).pbead k = b.pbead k := rfl
@[simp] theorem Block.lane_modEvGroup (b : Block) (q : Nat) (k : Nat) (f : EvGroup → EvGroup) : (b.modEvGroup q f).lane k = b.lane k := rfl
@[simp] theorem Block.evSrc_modEvGroup (b : Block) (q : Nat) (k : Nat) (f : EvGroup → EvGroup) : (b.modEvGroup q f).evSrc k = b.evSrc k := rfl
@[simp] theorem Block.evTarget_modEvGroup (b : Block) (q : Nat) (k : Nat) (f : EvGroup → EvGroup) : (b.modEvGroup q f).evTarget k = b.evTarget k := rfl
@[simp] theorem Block.dom_modEvGroup (b : Block) (q : Nat) (k : Nat) (f : EvGroup → EvGroup) : (b.modEvGroup q f).dom k = b.dom k := rfl

@[simp] theorem Block.queue_modEvTarget (b : Block) (q : Nat) (k : Nat) (f : EvTarget → EvTarget) : (b.modEvTarget q f).queue k = b.queue k := rfl
@[simp] theorem Block.hws_modEvTarget (b : Block) (q : Nat) (k : Nat) (f : EvTarget → EvTarget) : (b.modEvTarget q f).hws k = b.hws k := rfl
@[simp] theorem Block.sub_modEvTarget (b : Block) (q : Nat) (k : Nat) (f : EvTarget → EvTarget) : (b.modEvTarget q f).sub k = b.sub k := rfl
@[simp] theorem Block.node_modEvTarget (b : Block) (q : Nat) (k v : Nat) (f : EvTarget → EvTarget) : (b.modEvTarget q f).node k v = b.node k v := rfl
@[simp] theorem Block.cwin_modEvTarget (b : Block) (q : Nat) (k v : Nat) (f : EvTarget → EvTarget) : (b.modEvTarget q f).cwin k v = b.cwin k v := rfl
@[simp] theorem Block.fence_modEvTarget (b : Block) (q : Nat) (k : Nat) (f : EvTarget → EvTarget) : (b.modEvTarget q f).fence k = b.fence k := rfl
@[simp] theorem Block.bead_modEvTarget (b : Block) (q : Nat) (k : Nat) (f : EvTarget → EvTarget) : (b.modEvTarget q f).bead k = b.bead k := rfl
@[simp] theorem Block.win_modEvTarget (b : Block) (q : Nat) (k v : Nat) (f : EvTarget → EvTarget) : (b.modEvTarget q f).win k v = b.win k v := rfl
@[simp] theorem Block.slot_modEvTarget (b : Block) (q : Nat) (k v : Nat) (f : EvTarget → EvTarget) : (b.modEvTarget q f).slot k v = b.slot k v := rfl
@[simp] theorem Block.chan_modEvTarget (b : Block) (q : Nat) (k : Nat) (f : EvTarget → EvTarget) : (b.modEvTarget q f).chan k = b.chan k := rfl
@[simp] theorem Block.rx_modEvTarget (b : Block) (q : Nat) (k v : Nat) (f : EvTarget → EvTarget) : (b.modEvTarget q f).rx k v = b.rx k v := rfl
@[simp] theorem Block.tx_modEvTarget (b : Block) (q : Nat) (k v : Nat) (f : EvTarget → EvTarget) : (b.modEvTarget q f).tx k v = b.tx k v := rfl
@[simp] theorem Block.saf_modEvTarget (b : Block) (q : Nat) (k : Nat) (f : EvTarget → EvTarget) : (b.modEvTarget q f).saf k = b.saf k := rfl
@[simp] theorem Block.seqEntry_modEvTarget (b : Block) (q : Nat) (k : Nat) (f : EvTarget → EvTarget) : (b.modEvTarget q f).seqEntry k = b.seqEntry k := rfl
@[simp] theorem Block.seqCtx_modEvTarget (b : Block) (q : Nat) (k : Nat) (f : EvTarget → EvTarget) : (b.modEvTarget q f).seqCtx k = b.seqCtx k := rfl
@[simp] theorem Block.cq_modEvTarget (b : Block) (q : Nat) (k : Nat) (f : EvTarget → EvTarget) : (b.modEvTarget q f).cq k = b.cq k := rfl
@[simp] theorem Block.peer_modEvTarget (b : Block) (q : Nat) (k : Nat) (f : EvTarget → EvTarget) : (b.modEvTarget q f).peer k = b.peer k := rfl
@[simp] theorem Block.part_modEvTarget (b : Block) (q : Nat) (k : Nat) (f : EvTarget → EvTarget) : (b.modEvTarget q f).part k = b.part k := rfl
@[simp] theorem Block.ctx_modEvTarget (b : Block) (q : Nat) (k : Nat) (f : EvTarget → EvTarget) : (b.modEvTarget q f).ctx k = b.ctx k := rfl
@[simp] theorem Block.pbead_modEvTarget (b : Block) (q : Nat) (k : Nat) (f : EvTarget → EvTarget) : (b.modEvTarget q f).pbead k = b.pbead k := rfl
@[simp] theorem Block.lane_modEvTarget (b : Block) (q : Nat) (k : Nat) (f : EvTarget → EvTarget) : (b.modEvTarget q f).lane k = b.lane k := rfl
@[simp] theorem Block.evSrc_modEvTarget (b : Block) (q : Nat) (k : Nat) (f : EvTarget → EvTarget) : (b.modEvTarget q f).evSrc k = b.evSrc k := rfl
@[simp] theorem Block.evGroup_modEvTarget (b : Block) (q : Nat) (k : Nat) (f : EvTarget → EvTarget) : (b.modEvTarget q f).evGroup k = b.evGroup k := rfl
@[simp] theorem Block.dom_modEvTarget (b : Block) (q : Nat) (k : Nat) (f : EvTarget → EvTarget) : (b.modEvTarget q f).dom k = b.dom k := rfl

@[simp] theorem Block.queue_modDom (b : Block) (q : Nat) (k : Nat) (f : Domain → Domain) : (b.modDom q f).queue k = b.queue k := rfl
@[simp] theorem Block.hws_modDom (b : Block) (q : Nat) (k : Nat) (f : Domain → Domain) : (b.modDom q f).hws k = b.hws k := rfl
@[simp] theorem Block.sub_modDom (b : Block) (q : Nat) (k : Nat) (f : Domain → Domain) : (b.modDom q f).sub k = b.sub k := rfl
@[simp] theorem Block.node_modDom (b : Block) (q : Nat) (k v : Nat) (f : Domain → Domain) : (b.modDom q f).node k v = b.node k v := rfl
@[simp] theorem Block.cwin_modDom (b : Block) (q : Nat) (k v : Nat) (f : Domain → Domain) : (b.modDom q f).cwin k v = b.cwin k v := rfl
@[simp] theorem Block.fence_modDom (b : Block) (q : Nat) (k : Nat) (f : Domain → Domain) : (b.modDom q f).fence k = b.fence k := rfl
@[simp] theorem Block.bead_modDom (b : Block) (q : Nat) (k : Nat) (f : Domain → Domain) : (b.modDom q f).bead k = b.bead k := rfl
@[simp] theorem Block.win_modDom (b : Block) (q : Nat) (k v : Nat) (f : Domain → Domain) : (b.modDom q f).win k v = b.win k v := rfl
@[simp] theorem Block.slot_modDom (b : Block) (q : Nat) (k v : Nat) (f : Domain → Domain) : (b.modDom q f).slot k v = b.slot k v := rfl
@[simp] theorem Block.chan_modDom (b : Block) (q : Nat) (k : Nat) (f : Domain → Domain) : (b.modDom q f).chan k = b.chan k := rfl
@[simp] theorem Block.rx_modDom (b : Block) (q : Nat) (k v : Nat) (f : Domain → Domain) : (b.modDom q f).rx k v = b.rx k v := rfl
@[simp] theorem Block.tx_modDom (b : Block) (q : Nat) (k v : Nat) (f : Domain → Domain) : (b.modDom q f).tx k v = b.tx k v := rfl
@[simp] theorem Block.saf_modDom (b : Block) (q : Nat) (k : Nat) (f : Domain → Domain) : (b.modDom q f).saf k = b.saf k := rfl
@[simp] theorem Block.seqEntry_modDom (b : Block) (q : Nat) (k : Nat) (f : Domain → Domain) : (b.modDom q f).seqEntry k = b.seqEntry k := rfl
@[simp] theorem Block.seqCtx_modDom (b : Block) (q : Nat) (k : Nat) (f : Domain → Domain) : (b.modDom q f).seqCtx k = b.seqCtx k := rfl
@[simp] theorem Block.cq_modDom (b : Block) (q : Nat) (k : Nat) (f : Domain → Domain) : (b.modDom q f).cq k = b.cq k := rfl
@[simp] theorem Block.peer_modDom (b : Block) (q : Nat) (k : Nat) (f : Domain → Domain) : (b.modDom q f).peer k = b.peer k := rfl
@[simp] theorem Block.part_modDom (b : Block) (q : Nat) (k : Nat) (f : Domain → Domain) : (b.modDom q f).part k = b.part k := rfl
@[simp] theorem Block.ctx_modDom (b : Block) (q : Nat) (k : Nat) (f : Domain → Domain) : (b.modDom q f).ctx k = b.ctx k := rfl
@[simp] theorem Block.pbead_modDom (b : Block) (q : Nat) (k : Nat) (f : Domain → Domain) : (b.modDom q f).pbead k = b.pbead k := rfl
@[simp] theorem Block.lane_modDom (b : Block) (q : Nat) (k : Nat) (f : Domain → Domain) : (b.modDom q f).lane k = b.lane k := rfl
@[simp] theorem Block.evSrc_modDom (b : Block) (q : Nat) (k : Nat) (f : Domain → Domain) : (b.modDom q f).evSrc k = b.evSrc k := rfl
@[simp] theorem Block.evGroup_modDom (b : Block) (q : Nat) (k : Nat) (f : Domain → Domain) : (b.modDom q f).evGroup k = b.evGroup k := rfl
@[simp] theorem Block.evTarget_modDom (b : Block) (q : Nat) (k : Nat) (f : Domain → Domain) : (b.modDom q f).evTarget k = b.evTarget k := rfl

@[simp] theorem Block.slot_modWin (b : Block) (q w k v : Nat) (f : WinEntry → WinEntry) : (b.modWin q w f).slot k v = b.slot k v := by
  simp only [Block.slot, Block.modWin, Block.bead_modBead]; split <;> rfl
@[simp] theorem Block.win_modSlot (b : Block) (q w k v : Nat) (f : Slot → Slot) : (b.modSlot q w f).win k v = b.win k v := by
  simp only [Block.win, Block.modSlot, Block.bead_modBead]; split <;> rfl
@[simp] theorem Block.tx_modRx (b : Block) (q w k v : Nat) (f : RxQueue → RxQueue) : (b.modRx q w f).tx k v = b.tx k v := by
  simp only [Block.tx, Block.modRx, Block.chan_modChan]; split <;> rfl
@[simp] theorem Block.rx_modTx (b : Block) (q w k v : Nat) (f : TxPort → TxPort) : (b.modTx q w f).rx k v = b.rx k v := by
  simp only [Block.rx, Block.modTx, Block.chan_modChan]; split <;> rfl

/-! ### Shared operations -/

@[simp] theorem Block.pendSource_now (b : Block) (n : Nat) : (b.pendSource n).now = b.now := by
  unfold Block.pendSource; split <;> rfl
@[simp] theorem Block.pendSource_inReset (b : Block) (n : Nat) : (b.pendSource n).inReset = b.inReset := by
  unfold Block.pendSource; split <;> rfl
@[simp] theorem Block.pendSource_free (b : Block) (n : Nat) : (b.pendSource n).free = b.free := by
  unfold Block.pendSource; split <;> rfl
@[simp] theorem Block.pendSource_refilled (b : Block) (n : Nat) : (b.pendSource n).refilled = b.refilled := by
  unfold Block.pendSource; split <;> rfl
@[simp] theorem Block.pendSource_prefetch (b : Block) (n : Nat) : (b.pendSource n).prefetch = b.prefetch := by
  unfold Block.pendSource; split <;> rfl
@[simp] theorem Block.pendSource_tpStatus (b : Block) (n : Nat) : (b.pendSource n).tpStatus = b.tpStatus := by
  unfold Block.pendSource; split <;> rfl
@[simp] theorem Block.pendSource_mp (b : Block) (n : Nat) : (b.pendSource n).mp = b.mp := by
  unfold Block.pendSource; split <;> rfl
@[simp] theorem Block.pendSource_loader (b : Block) (n : Nat) : (b.pendSource n).loader = b.loader := by
  unfold Block.pendSource; split <;> rfl
@[simp] theorem Block.pendSource_setting (b : Block) (n : Nat) : (b.pendSource n).setting = b.setting := by
  unfold Block.pendSource; split <;> rfl
@[simp] theorem Block.pendSource_lanes (b : Block) (n : Nat) : (b.pendSource n).lanes = b.lanes := by
  unfold Block.pendSource; split <;> rfl
@[simp] theorem Block.pendSource_front (b : Block) (n : Nat) : (b.pendSource n).front = b.front := by
  unfold Block.pendSource; split <;> rfl
@[simp] theorem Block.pendSource_graph (b : Block) (n : Nat) : (b.pendSource n).graph = b.graph := by
  unfold Block.pendSource; split <;> rfl
@[simp] theorem Block.pendSource_fences (b : Block) (n : Nat) : (b.pendSource n).fences = b.fences := by
  unfold Block.pendSource; split <;> rfl
@[simp] theorem Block.pendSource_beads (b : Block) (n : Nat) : (b.pendSource n).beads = b.beads := by
  unfold Block.pendSource; split <;> rfl
@[simp] theorem Block.pendSource_chans (b : Block) (n : Nat) : (b.pendSource n).chans = b.chans := by
  unfold Block.pendSource; split <;> rfl
@[simp] theorem Block.pendSource_saffron (b : Block) (n : Nat) : (b.pendSource n).saffron = b.saffron := by
  unfold Block.pendSource; split <;> rfl
@[simp] theorem Block.pendSource_seq (b : Block) (n : Nat) : (b.pendSource n).seq = b.seq := by
  unfold Block.pendSource; split <;> rfl
@[simp] theorem Block.pendSource_cqs (b : Block) (n : Nat) : (b.pendSource n).cqs = b.cqs := by
  unfold Block.pendSource; split <;> rfl
@[simp] theorem Block.pendSource_link (b : Block) (n : Nat) : (b.pendSource n).link = b.link := by
  unfold Block.pendSource; split <;> rfl
@[simp] theorem Block.pendSource_parts (b : Block) (n : Nat) : (b.pendSource n).parts = b.parts := by
  unfold Block.pendSource; split <;> rfl
@[simp] theorem Block.pendSource_experts (b : Block) (n : Nat) : (b.pendSource n).experts = b.experts := by
  unfold Block.pendSource; split <;> rfl
@[simp] theorem Block.pendSource_audit (b : Block) (n : Nat) : (b.pendSource n).audit = b.audit := by
  unfold Block.pendSource; split <;> rfl
@[simp] theorem Block.pendSource_trace (b : Block) (n : Nat) : (b.pendSource n).trace = b.trace := by
  unfold Block.pendSource; split <;> rfl
@[simp] theorem Block.pendSource_lkt (b : Block) (n : Nat) : (b.pendSource n).lkt = b.lkt := by
  unfold Block.pendSource; split <;> rfl
@[simp] theorem Block.pendSource_power (b : Block) (n : Nat) : (b.pendSource n).power = b.power := by
  unfold Block.pendSource; split <;> rfl

@[simp] theorem Block.traceEvent_now (b : Block) (c u a : Nat) (ws : List Word) : (b.traceEvent c u a ws).now = b.now := by
  unfold Block.traceEvent; split; · rfl
  split; · rfl
  simp
@[simp] theorem Block.traceEvent_inReset (b : Block) (c u a : Nat) (ws : List Word) : (b.traceEvent c u a ws).inReset = b.inReset := by
  unfold Block.traceEvent; split; · rfl
  split; · rfl
  simp
@[simp] theorem Block.traceEvent_free (b : Block) (c u a : Nat) (ws : List Word) : (b.traceEvent c u a ws).free = b.free := by
  unfold Block.traceEvent; split; · rfl
  split; · rfl
  simp
@[simp] theorem Block.traceEvent_refilled (b : Block) (c u a : Nat) (ws : List Word) : (b.traceEvent c u a ws).refilled = b.refilled := by
  unfold Block.traceEvent; split; · rfl
  split; · rfl
  simp
@[simp] theorem Block.traceEvent_prefetch (b : Block) (c u a : Nat) (ws : List Word) : (b.traceEvent c u a ws).prefetch = b.prefetch := by
  unfold Block.traceEvent; split; · rfl
  split; · rfl
  simp
@[simp] theorem Block.traceEvent_tpStatus (b : Block) (c u a : Nat) (ws : List Word) : (b.traceEvent c u a ws).tpStatus = b.tpStatus := by
  unfold Block.traceEvent; split; · rfl
  split; · rfl
  simp
@[simp] theorem Block.traceEvent_mp (b : Block) (c u a : Nat) (ws : List Word) : (b.traceEvent c u a ws).mp = b.mp := by
  unfold Block.traceEvent; split; · rfl
  split; · rfl
  simp
@[simp] theorem Block.traceEvent_loader (b : Block) (c u a : Nat) (ws : List Word) : (b.traceEvent c u a ws).loader = b.loader := by
  unfold Block.traceEvent; split; · rfl
  split; · rfl
  simp
@[simp] theorem Block.traceEvent_setting (b : Block) (c u a : Nat) (ws : List Word) : (b.traceEvent c u a ws).setting = b.setting := by
  unfold Block.traceEvent; split; · rfl
  split; · rfl
  simp
@[simp] theorem Block.traceEvent_lanes (b : Block) (c u a : Nat) (ws : List Word) : (b.traceEvent c u a ws).lanes = b.lanes := by
  unfold Block.traceEvent; split; · rfl
  split; · rfl
  simp
@[simp] theorem Block.traceEvent_front (b : Block) (c u a : Nat) (ws : List Word) : (b.traceEvent c u a ws).front = b.front := by
  unfold Block.traceEvent; split; · rfl
  split; · rfl
  simp
@[simp] theorem Block.traceEvent_graph (b : Block) (c u a : Nat) (ws : List Word) : (b.traceEvent c u a ws).graph = b.graph := by
  unfold Block.traceEvent; split; · rfl
  split; · rfl
  simp
@[simp] theorem Block.traceEvent_fences (b : Block) (c u a : Nat) (ws : List Word) : (b.traceEvent c u a ws).fences = b.fences := by
  unfold Block.traceEvent; split; · rfl
  split; · rfl
  simp
@[simp] theorem Block.traceEvent_beads (b : Block) (c u a : Nat) (ws : List Word) : (b.traceEvent c u a ws).beads = b.beads := by
  unfold Block.traceEvent; split; · rfl
  split; · rfl
  simp
@[simp] theorem Block.traceEvent_chans (b : Block) (c u a : Nat) (ws : List Word) : (b.traceEvent c u a ws).chans = b.chans := by
  unfold Block.traceEvent; split; · rfl
  split; · rfl
  simp
@[simp] theorem Block.traceEvent_saffron (b : Block) (c u a : Nat) (ws : List Word) : (b.traceEvent c u a ws).saffron = b.saffron := by
  unfold Block.traceEvent; split; · rfl
  split; · rfl
  simp
@[simp] theorem Block.traceEvent_seq (b : Block) (c u a : Nat) (ws : List Word) : (b.traceEvent c u a ws).seq = b.seq := by
  unfold Block.traceEvent; split; · rfl
  split; · rfl
  simp
@[simp] theorem Block.traceEvent_cqs (b : Block) (c u a : Nat) (ws : List Word) : (b.traceEvent c u a ws).cqs = b.cqs := by
  unfold Block.traceEvent; split; · rfl
  split; · rfl
  simp
@[simp] theorem Block.traceEvent_link (b : Block) (c u a : Nat) (ws : List Word) : (b.traceEvent c u a ws).link = b.link := by
  unfold Block.traceEvent; split; · rfl
  split; · rfl
  simp
@[simp] theorem Block.traceEvent_parts (b : Block) (c u a : Nat) (ws : List Word) : (b.traceEvent c u a ws).parts = b.parts := by
  unfold Block.traceEvent; split; · rfl
  split; · rfl
  simp
@[simp] theorem Block.traceEvent_experts (b : Block) (c u a : Nat) (ws : List Word) : (b.traceEvent c u a ws).experts = b.experts := by
  unfold Block.traceEvent; split; · rfl
  split; · rfl
  simp
@[simp] theorem Block.traceEvent_audit (b : Block) (c u a : Nat) (ws : List Word) : (b.traceEvent c u a ws).audit = b.audit := by
  unfold Block.traceEvent; split; · rfl
  split; · rfl
  simp
@[simp] theorem Block.traceEvent_lkt (b : Block) (c u a : Nat) (ws : List Word) : (b.traceEvent c u a ws).lkt = b.lkt := by
  unfold Block.traceEvent; split; · rfl
  split; · rfl
  simp
@[simp] theorem Block.traceEvent_power (b : Block) (c u a : Nat) (ws : List Word) : (b.traceEvent c u a ws).power = b.power := by
  unfold Block.traceEvent; split; · rfl
  split; · rfl
  simp

@[simp] theorem Block.raise_now (b : Block) (n : Nat) : (b.raise n).now = b.now := by
  unfold Block.raise; dsimp only; split <;> simp
@[simp] theorem Block.raise_inReset (b : Block) (n : Nat) : (b.raise n).inReset = b.inReset := by
  unfold Block.raise; dsimp only; split <;> simp
@[simp] theorem Block.raise_free (b : Block) (n : Nat) : (b.raise n).free = b.free := by
  unfold Block.raise; dsimp only; split <;> simp
@[simp] theorem Block.raise_refilled (b : Block) (n : Nat) : (b.raise n).refilled = b.refilled := by
  unfold Block.raise; dsimp only; split <;> simp
@[simp] theorem Block.raise_prefetch (b : Block) (n : Nat) : (b.raise n).prefetch = b.prefetch := by
  unfold Block.raise; dsimp only; split <;> simp
@[simp] theorem Block.raise_tpStatus (b : Block) (n : Nat) : (b.raise n).tpStatus = b.tpStatus := by
  unfold Block.raise; dsimp only; split <;> simp
@[simp] theorem Block.raise_mp (b : Block) (n : Nat) : (b.raise n).mp = b.mp := by
  unfold Block.raise; dsimp only; split <;> simp
@[simp] theorem Block.raise_loader (b : Block) (n : Nat) : (b.raise n).loader = b.loader := by
  unfold Block.raise; dsimp only; split <;> simp
@[simp] theorem Block.raise_setting (b : Block) (n : Nat) : (b.raise n).setting = b.setting := by
  unfold Block.raise; dsimp only; split <;> simp
@[simp] theorem Block.raise_lanes (b : Block) (n : Nat) : (b.raise n).lanes = b.lanes := by
  unfold Block.raise; dsimp only; split <;> simp
@[simp] theorem Block.raise_front (b : Block) (n : Nat) : (b.raise n).front = b.front := by
  unfold Block.raise; dsimp only; split <;> simp
@[simp] theorem Block.raise_graph (b : Block) (n : Nat) : (b.raise n).graph = b.graph := by
  unfold Block.raise; dsimp only; split <;> simp
@[simp] theorem Block.raise_fences (b : Block) (n : Nat) : (b.raise n).fences = b.fences := by
  unfold Block.raise; dsimp only; split <;> simp
@[simp] theorem Block.raise_beads (b : Block) (n : Nat) : (b.raise n).beads = b.beads := by
  unfold Block.raise; dsimp only; split <;> simp
@[simp] theorem Block.raise_chans (b : Block) (n : Nat) : (b.raise n).chans = b.chans := by
  unfold Block.raise; dsimp only; split <;> simp
@[simp] theorem Block.raise_saffron (b : Block) (n : Nat) : (b.raise n).saffron = b.saffron := by
  unfold Block.raise; dsimp only; split <;> simp
@[simp] theorem Block.raise_seq (b : Block) (n : Nat) : (b.raise n).seq = b.seq := by
  unfold Block.raise; dsimp only; split <;> simp
@[simp] theorem Block.raise_cqs (b : Block) (n : Nat) : (b.raise n).cqs = b.cqs := by
  unfold Block.raise; dsimp only; split <;> simp
@[simp] theorem Block.raise_link (b : Block) (n : Nat) : (b.raise n).link = b.link := by
  unfold Block.raise; dsimp only; split <;> simp
@[simp] theorem Block.raise_parts (b : Block) (n : Nat) : (b.raise n).parts = b.parts := by
  unfold Block.raise; dsimp only; split <;> simp
@[simp] theorem Block.raise_experts (b : Block) (n : Nat) : (b.raise n).experts = b.experts := by
  unfold Block.raise; dsimp only; split <;> simp
@[simp] theorem Block.raise_audit (b : Block) (n : Nat) : (b.raise n).audit = b.audit := by
  unfold Block.raise; dsimp only; split <;> simp
@[simp] theorem Block.raise_lkt (b : Block) (n : Nat) : (b.raise n).lkt = b.lkt := by
  unfold Block.raise; dsimp only; split <;> simp
@[simp] theorem Block.raise_power (b : Block) (n : Nat) : (b.raise n).power = b.power := by
  unfold Block.raise; dsimp only; split <;> simp

@[simp] theorem Block.locket_now (b : Block) (u r c a : Nat) : (b.locket u r c a).now = b.now := by
  rfl
@[simp] theorem Block.locket_inReset (b : Block) (u r c a : Nat) : (b.locket u r c a).inReset = b.inReset := by
  rfl
@[simp] theorem Block.locket_free (b : Block) (u r c a : Nat) : (b.locket u r c a).free = b.free := by
  rfl
@[simp] theorem Block.locket_refilled (b : Block) (u r c a : Nat) : (b.locket u r c a).refilled = b.refilled := by
  rfl
@[simp] theorem Block.locket_prefetch (b : Block) (u r c a : Nat) : (b.locket u r c a).prefetch = b.prefetch := by
  rfl
@[simp] theorem Block.locket_tpStatus (b : Block) (u r c a : Nat) : (b.locket u r c a).tpStatus = b.tpStatus := by
  rfl
@[simp] theorem Block.locket_mp (b : Block) (u r c a : Nat) : (b.locket u r c a).mp = b.mp := by
  rfl
@[simp] theorem Block.locket_loader (b : Block) (u r c a : Nat) : (b.locket u r c a).loader = b.loader := by
  rfl
@[simp] theorem Block.locket_setting (b : Block) (u r c a : Nat) : (b.locket u r c a).setting = b.setting := by
  rfl
@[simp] theorem Block.locket_lanes (b : Block) (u r c a : Nat) : (b.locket u r c a).lanes = b.lanes := by
  rfl
@[simp] theorem Block.locket_front (b : Block) (u r c a : Nat) : (b.locket u r c a).front = b.front := by
  rfl
@[simp] theorem Block.locket_graph (b : Block) (u r c a : Nat) : (b.locket u r c a).graph = b.graph := by
  rfl
@[simp] theorem Block.locket_fences (b : Block) (u r c a : Nat) : (b.locket u r c a).fences = b.fences := by
  rfl
@[simp] theorem Block.locket_beads (b : Block) (u r c a : Nat) : (b.locket u r c a).beads = b.beads := by
  rfl
@[simp] theorem Block.locket_chans (b : Block) (u r c a : Nat) : (b.locket u r c a).chans = b.chans := by
  rfl
@[simp] theorem Block.locket_saffron (b : Block) (u r c a : Nat) : (b.locket u r c a).saffron = b.saffron := by
  rfl
@[simp] theorem Block.locket_seq (b : Block) (u r c a : Nat) : (b.locket u r c a).seq = b.seq := by
  rfl
@[simp] theorem Block.locket_cqs (b : Block) (u r c a : Nat) : (b.locket u r c a).cqs = b.cqs := by
  rfl
@[simp] theorem Block.locket_link (b : Block) (u r c a : Nat) : (b.locket u r c a).link = b.link := by
  rfl
@[simp] theorem Block.locket_parts (b : Block) (u r c a : Nat) : (b.locket u r c a).parts = b.parts := by
  rfl
@[simp] theorem Block.locket_evc (b : Block) (u r c a : Nat) : (b.locket u r c a).evc = b.evc := by
  rfl
@[simp] theorem Block.locket_experts (b : Block) (u r c a : Nat) : (b.locket u r c a).experts = b.experts := by
  rfl
@[simp] theorem Block.locket_audit (b : Block) (u r c a : Nat) : (b.locket u r c a).audit = b.audit := by
  rfl
@[simp] theorem Block.locket_trace (b : Block) (u r c a : Nat) : (b.locket u r c a).trace = b.trace := by
  rfl
@[simp] theorem Block.locket_power (b : Block) (u r c a : Nat) : (b.locket u r c a).power = b.power := by
  rfl

@[simp] theorem Block.claspLocket_now (b : Block) (c a : Nat) : (b.claspLocket c a).now = b.now := by
  rfl
@[simp] theorem Block.claspLocket_inReset (b : Block) (c a : Nat) : (b.claspLocket c a).inReset = b.inReset := by
  rfl
@[simp] theorem Block.claspLocket_free (b : Block) (c a : Nat) : (b.claspLocket c a).free = b.free := by
  rfl
@[simp] theorem Block.claspLocket_refilled (b : Block) (c a : Nat) : (b.claspLocket c a).refilled = b.refilled := by
  rfl
@[simp] theorem Block.claspLocket_prefetch (b : Block) (c a : Nat) : (b.claspLocket c a).prefetch = b.prefetch := by
  rfl
@[simp] theorem Block.claspLocket_tpStatus (b : Block) (c a : Nat) : (b.claspLocket c a).tpStatus = b.tpStatus := by
  rfl
@[simp] theorem Block.claspLocket_mp (b : Block) (c a : Nat) : (b.claspLocket c a).mp = b.mp := by
  rfl
@[simp] theorem Block.claspLocket_loader (b : Block) (c a : Nat) : (b.claspLocket c a).loader = b.loader := by
  rfl
@[simp] theorem Block.claspLocket_setting (b : Block) (c a : Nat) : (b.claspLocket c a).setting = b.setting := by
  rfl
@[simp] theorem Block.claspLocket_lanes (b : Block) (c a : Nat) : (b.claspLocket c a).lanes = b.lanes := by
  rfl
@[simp] theorem Block.claspLocket_front (b : Block) (c a : Nat) : (b.claspLocket c a).front = b.front := by
  rfl
@[simp] theorem Block.claspLocket_graph (b : Block) (c a : Nat) : (b.claspLocket c a).graph = b.graph := by
  rfl
@[simp] theorem Block.claspLocket_fences (b : Block) (c a : Nat) : (b.claspLocket c a).fences = b.fences := by
  rfl
@[simp] theorem Block.claspLocket_beads (b : Block) (c a : Nat) : (b.claspLocket c a).beads = b.beads := by
  rfl
@[simp] theorem Block.claspLocket_chans (b : Block) (c a : Nat) : (b.claspLocket c a).chans = b.chans := by
  rfl
@[simp] theorem Block.claspLocket_saffron (b : Block) (c a : Nat) : (b.claspLocket c a).saffron = b.saffron := by
  rfl
@[simp] theorem Block.claspLocket_seq (b : Block) (c a : Nat) : (b.claspLocket c a).seq = b.seq := by
  rfl
@[simp] theorem Block.claspLocket_cqs (b : Block) (c a : Nat) : (b.claspLocket c a).cqs = b.cqs := by
  rfl
@[simp] theorem Block.claspLocket_link (b : Block) (c a : Nat) : (b.claspLocket c a).link = b.link := by
  rfl
@[simp] theorem Block.claspLocket_parts (b : Block) (c a : Nat) : (b.claspLocket c a).parts = b.parts := by
  rfl
@[simp] theorem Block.claspLocket_evc (b : Block) (c a : Nat) : (b.claspLocket c a).evc = b.evc := by
  rfl
@[simp] theorem Block.claspLocket_experts (b : Block) (c a : Nat) : (b.claspLocket c a).experts = b.experts := by
  rfl
@[simp] theorem Block.claspLocket_audit (b : Block) (c a : Nat) : (b.claspLocket c a).audit = b.audit := by
  rfl
@[simp] theorem Block.claspLocket_trace (b : Block) (c a : Nat) : (b.claspLocket c a).trace = b.trace := by
  rfl
@[simp] theorem Block.claspLocket_power (b : Block) (c a : Nat) : (b.claspLocket c a).power = b.power := by
  rfl

@[simp] theorem Block.ask_now (b : Block) (po c a l : Nat) (pu : RPurpose) : (b.ask po c a l pu).now = b.now := by
  rfl
@[simp] theorem Block.ask_inReset (b : Block) (po c a l : Nat) (pu : RPurpose) : (b.ask po c a l pu).inReset = b.inReset := by
  rfl
@[simp] theorem Block.ask_free (b : Block) (po c a l : Nat) (pu : RPurpose) : (b.ask po c a l pu).free = b.free := by
  rfl
@[simp] theorem Block.ask_refilled (b : Block) (po c a l : Nat) (pu : RPurpose) : (b.ask po c a l pu).refilled = b.refilled := by
  rfl
@[simp] theorem Block.ask_prefetch (b : Block) (po c a l : Nat) (pu : RPurpose) : (b.ask po c a l pu).prefetch = b.prefetch := by
  rfl
@[simp] theorem Block.ask_tpStatus (b : Block) (po c a l : Nat) (pu : RPurpose) : (b.ask po c a l pu).tpStatus = b.tpStatus := by
  rfl
@[simp] theorem Block.ask_loader (b : Block) (po c a l : Nat) (pu : RPurpose) : (b.ask po c a l pu).loader = b.loader := by
  rfl
@[simp] theorem Block.ask_setting (b : Block) (po c a l : Nat) (pu : RPurpose) : (b.ask po c a l pu).setting = b.setting := by
  rfl
@[simp] theorem Block.ask_lanes (b : Block) (po c a l : Nat) (pu : RPurpose) : (b.ask po c a l pu).lanes = b.lanes := by
  rfl
@[simp] theorem Block.ask_front (b : Block) (po c a l : Nat) (pu : RPurpose) : (b.ask po c a l pu).front = b.front := by
  rfl
@[simp] theorem Block.ask_graph (b : Block) (po c a l : Nat) (pu : RPurpose) : (b.ask po c a l pu).graph = b.graph := by
  rfl
@[simp] theorem Block.ask_fences (b : Block) (po c a l : Nat) (pu : RPurpose) : (b.ask po c a l pu).fences = b.fences := by
  rfl
@[simp] theorem Block.ask_beads (b : Block) (po c a l : Nat) (pu : RPurpose) : (b.ask po c a l pu).beads = b.beads := by
  rfl
@[simp] theorem Block.ask_chans (b : Block) (po c a l : Nat) (pu : RPurpose) : (b.ask po c a l pu).chans = b.chans := by
  rfl
@[simp] theorem Block.ask_saffron (b : Block) (po c a l : Nat) (pu : RPurpose) : (b.ask po c a l pu).saffron = b.saffron := by
  rfl
@[simp] theorem Block.ask_seq (b : Block) (po c a l : Nat) (pu : RPurpose) : (b.ask po c a l pu).seq = b.seq := by
  rfl
@[simp] theorem Block.ask_cqs (b : Block) (po c a l : Nat) (pu : RPurpose) : (b.ask po c a l pu).cqs = b.cqs := by
  rfl
@[simp] theorem Block.ask_link (b : Block) (po c a l : Nat) (pu : RPurpose) : (b.ask po c a l pu).link = b.link := by
  rfl
@[simp] theorem Block.ask_parts (b : Block) (po c a l : Nat) (pu : RPurpose) : (b.ask po c a l pu).parts = b.parts := by
  rfl
@[simp] theorem Block.ask_evc (b : Block) (po c a l : Nat) (pu : RPurpose) : (b.ask po c a l pu).evc = b.evc := by
  rfl
@[simp] theorem Block.ask_experts (b : Block) (po c a l : Nat) (pu : RPurpose) : (b.ask po c a l pu).experts = b.experts := by
  rfl
@[simp] theorem Block.ask_audit (b : Block) (po c a l : Nat) (pu : RPurpose) : (b.ask po c a l pu).audit = b.audit := by
  rfl
@[simp] theorem Block.ask_trace (b : Block) (po c a l : Nat) (pu : RPurpose) : (b.ask po c a l pu).trace = b.trace := by
  rfl
@[simp] theorem Block.ask_lkt (b : Block) (po c a l : Nat) (pu : RPurpose) : (b.ask po c a l pu).lkt = b.lkt := by
  rfl
@[simp] theorem Block.ask_power (b : Block) (po c a l : Nat) (pu : RPurpose) : (b.ask po c a l pu).power = b.power := by
  rfl

@[simp] theorem Block.put_now (b : Block) (po c a : Nat) (bs : List Byte) (pu : WPurpose) : (b.put po c a bs pu).now = b.now := by
  rfl
@[simp] theorem Block.put_inReset (b : Block) (po c a : Nat) (bs : List Byte) (pu : WPurpose) : (b.put po c a bs pu).inReset = b.inReset := by
  rfl
@[simp] theorem Block.put_free (b : Block) (po c a : Nat) (bs : List Byte) (pu : WPurpose) : (b.put po c a bs pu).free = b.free := by
  rfl
@[simp] theorem Block.put_refilled (b : Block) (po c a : Nat) (bs : List Byte) (pu : WPurpose) : (b.put po c a bs pu).refilled = b.refilled := by
  rfl
@[simp] theorem Block.put_prefetch (b : Block) (po c a : Nat) (bs : List Byte) (pu : WPurpose) : (b.put po c a bs pu).prefetch = b.prefetch := by
  rfl
@[simp] theorem Block.put_tpStatus (b : Block) (po c a : Nat) (bs : List Byte) (pu : WPurpose) : (b.put po c a bs pu).tpStatus = b.tpStatus := by
  rfl
@[simp] theorem Block.put_loader (b : Block) (po c a : Nat) (bs : List Byte) (pu : WPurpose) : (b.put po c a bs pu).loader = b.loader := by
  rfl
@[simp] theorem Block.put_setting (b : Block) (po c a : Nat) (bs : List Byte) (pu : WPurpose) : (b.put po c a bs pu).setting = b.setting := by
  rfl
@[simp] theorem Block.put_lanes (b : Block) (po c a : Nat) (bs : List Byte) (pu : WPurpose) : (b.put po c a bs pu).lanes = b.lanes := by
  rfl
@[simp] theorem Block.put_front (b : Block) (po c a : Nat) (bs : List Byte) (pu : WPurpose) : (b.put po c a bs pu).front = b.front := by
  rfl
@[simp] theorem Block.put_graph (b : Block) (po c a : Nat) (bs : List Byte) (pu : WPurpose) : (b.put po c a bs pu).graph = b.graph := by
  rfl
@[simp] theorem Block.put_fences (b : Block) (po c a : Nat) (bs : List Byte) (pu : WPurpose) : (b.put po c a bs pu).fences = b.fences := by
  rfl
@[simp] theorem Block.put_beads (b : Block) (po c a : Nat) (bs : List Byte) (pu : WPurpose) : (b.put po c a bs pu).beads = b.beads := by
  rfl
@[simp] theorem Block.put_chans (b : Block) (po c a : Nat) (bs : List Byte) (pu : WPurpose) : (b.put po c a bs pu).chans = b.chans := by
  rfl
@[simp] theorem Block.put_saffron (b : Block) (po c a : Nat) (bs : List Byte) (pu : WPurpose) : (b.put po c a bs pu).saffron = b.saffron := by
  rfl
@[simp] theorem Block.put_seq (b : Block) (po c a : Nat) (bs : List Byte) (pu : WPurpose) : (b.put po c a bs pu).seq = b.seq := by
  rfl
@[simp] theorem Block.put_cqs (b : Block) (po c a : Nat) (bs : List Byte) (pu : WPurpose) : (b.put po c a bs pu).cqs = b.cqs := by
  rfl
@[simp] theorem Block.put_link (b : Block) (po c a : Nat) (bs : List Byte) (pu : WPurpose) : (b.put po c a bs pu).link = b.link := by
  rfl
@[simp] theorem Block.put_parts (b : Block) (po c a : Nat) (bs : List Byte) (pu : WPurpose) : (b.put po c a bs pu).parts = b.parts := by
  rfl
@[simp] theorem Block.put_evc (b : Block) (po c a : Nat) (bs : List Byte) (pu : WPurpose) : (b.put po c a bs pu).evc = b.evc := by
  rfl
@[simp] theorem Block.put_experts (b : Block) (po c a : Nat) (bs : List Byte) (pu : WPurpose) : (b.put po c a bs pu).experts = b.experts := by
  rfl
@[simp] theorem Block.put_audit (b : Block) (po c a : Nat) (bs : List Byte) (pu : WPurpose) : (b.put po c a bs pu).audit = b.audit := by
  rfl
@[simp] theorem Block.put_trace (b : Block) (po c a : Nat) (bs : List Byte) (pu : WPurpose) : (b.put po c a bs pu).trace = b.trace := by
  rfl
@[simp] theorem Block.put_lkt (b : Block) (po c a : Nat) (bs : List Byte) (pu : WPurpose) : (b.put po c a bs pu).lkt = b.lkt := by
  rfl
@[simp] theorem Block.put_power (b : Block) (po c a : Nat) (bs : List Byte) (pu : WPurpose) : (b.put po c a bs pu).power = b.power := by
  rfl

@[simp] theorem Block.progress_now (b : Block) (k u : Nat) : (b.progress k u).now = b.now := by
  rfl
@[simp] theorem Block.progress_inReset (b : Block) (k u : Nat) : (b.progress k u).inReset = b.inReset := by
  rfl
@[simp] theorem Block.progress_free (b : Block) (k u : Nat) : (b.progress k u).free = b.free := by
  rfl
@[simp] theorem Block.progress_refilled (b : Block) (k u : Nat) : (b.progress k u).refilled = b.refilled := by
  rfl
@[simp] theorem Block.progress_prefetch (b : Block) (k u : Nat) : (b.progress k u).prefetch = b.prefetch := by
  rfl
@[simp] theorem Block.progress_tpStatus (b : Block) (k u : Nat) : (b.progress k u).tpStatus = b.tpStatus := by
  rfl
@[simp] theorem Block.progress_mp (b : Block) (k u : Nat) : (b.progress k u).mp = b.mp := by
  rfl
@[simp] theorem Block.progress_loader (b : Block) (k u : Nat) : (b.progress k u).loader = b.loader := by
  rfl
@[simp] theorem Block.progress_setting (b : Block) (k u : Nat) : (b.progress k u).setting = b.setting := by
  rfl
@[simp] theorem Block.progress_lanes (b : Block) (k u : Nat) : (b.progress k u).lanes = b.lanes := by
  rfl
@[simp] theorem Block.progress_graph (b : Block) (k u : Nat) : (b.progress k u).graph = b.graph := by
  rfl
@[simp] theorem Block.progress_fences (b : Block) (k u : Nat) : (b.progress k u).fences = b.fences := by
  rfl
@[simp] theorem Block.progress_beads (b : Block) (k u : Nat) : (b.progress k u).beads = b.beads := by
  rfl
@[simp] theorem Block.progress_chans (b : Block) (k u : Nat) : (b.progress k u).chans = b.chans := by
  rfl
@[simp] theorem Block.progress_saffron (b : Block) (k u : Nat) : (b.progress k u).saffron = b.saffron := by
  rfl
@[simp] theorem Block.progress_seq (b : Block) (k u : Nat) : (b.progress k u).seq = b.seq := by
  rfl
@[simp] theorem Block.progress_cqs (b : Block) (k u : Nat) : (b.progress k u).cqs = b.cqs := by
  rfl
@[simp] theorem Block.progress_link (b : Block) (k u : Nat) : (b.progress k u).link = b.link := by
  rfl
@[simp] theorem Block.progress_parts (b : Block) (k u : Nat) : (b.progress k u).parts = b.parts := by
  rfl
@[simp] theorem Block.progress_evc (b : Block) (k u : Nat) : (b.progress k u).evc = b.evc := by
  rfl
@[simp] theorem Block.progress_experts (b : Block) (k u : Nat) : (b.progress k u).experts = b.experts := by
  rfl
@[simp] theorem Block.progress_audit (b : Block) (k u : Nat) : (b.progress k u).audit = b.audit := by
  rfl
@[simp] theorem Block.progress_trace (b : Block) (k u : Nat) : (b.progress k u).trace = b.trace := by
  rfl
@[simp] theorem Block.progress_lkt (b : Block) (k u : Nat) : (b.progress k u).lkt = b.lkt := by
  rfl
@[simp] theorem Block.progress_power (b : Block) (k u : Nat) : (b.progress k u).power = b.power := by
  rfl

@[simp] theorem Block.mpError_now (b : Block) (po : Nat) (w : Bool) (c a : Nat) (co : BitVec 2) (i : Nat) : (b.mpError po w c a co i).now = b.now := by
  unfold Block.mpError; dsimp only; split <;> simp
@[simp] theorem Block.mpError_inReset (b : Block) (po : Nat) (w : Bool) (c a : Nat) (co : BitVec 2) (i : Nat) : (b.mpError po w c a co i).inReset = b.inReset := by
  unfold Block.mpError; dsimp only; split <;> simp
@[simp] theorem Block.mpError_free (b : Block) (po : Nat) (w : Bool) (c a : Nat) (co : BitVec 2) (i : Nat) : (b.mpError po w c a co i).free = b.free := by
  unfold Block.mpError; dsimp only; split <;> simp
@[simp] theorem Block.mpError_refilled (b : Block) (po : Nat) (w : Bool) (c a : Nat) (co : BitVec 2) (i : Nat) : (b.mpError po w c a co i).refilled = b.refilled := by
  unfold Block.mpError; dsimp only; split <;> simp
@[simp] theorem Block.mpError_prefetch (b : Block) (po : Nat) (w : Bool) (c a : Nat) (co : BitVec 2) (i : Nat) : (b.mpError po w c a co i).prefetch = b.prefetch := by
  unfold Block.mpError; dsimp only; split <;> simp
@[simp] theorem Block.mpError_tpStatus (b : Block) (po : Nat) (w : Bool) (c a : Nat) (co : BitVec 2) (i : Nat) : (b.mpError po w c a co i).tpStatus = b.tpStatus := by
  unfold Block.mpError; dsimp only; split <;> simp
@[simp] theorem Block.mpError_loader (b : Block) (po : Nat) (w : Bool) (c a : Nat) (co : BitVec 2) (i : Nat) : (b.mpError po w c a co i).loader = b.loader := by
  unfold Block.mpError; dsimp only; split <;> simp
@[simp] theorem Block.mpError_setting (b : Block) (po : Nat) (w : Bool) (c a : Nat) (co : BitVec 2) (i : Nat) : (b.mpError po w c a co i).setting = b.setting := by
  unfold Block.mpError; dsimp only; split <;> simp
@[simp] theorem Block.mpError_lanes (b : Block) (po : Nat) (w : Bool) (c a : Nat) (co : BitVec 2) (i : Nat) : (b.mpError po w c a co i).lanes = b.lanes := by
  unfold Block.mpError; dsimp only; split <;> simp
@[simp] theorem Block.mpError_front (b : Block) (po : Nat) (w : Bool) (c a : Nat) (co : BitVec 2) (i : Nat) : (b.mpError po w c a co i).front = b.front := by
  unfold Block.mpError; dsimp only; split <;> simp
@[simp] theorem Block.mpError_graph (b : Block) (po : Nat) (w : Bool) (c a : Nat) (co : BitVec 2) (i : Nat) : (b.mpError po w c a co i).graph = b.graph := by
  unfold Block.mpError; dsimp only; split <;> simp
@[simp] theorem Block.mpError_fences (b : Block) (po : Nat) (w : Bool) (c a : Nat) (co : BitVec 2) (i : Nat) : (b.mpError po w c a co i).fences = b.fences := by
  unfold Block.mpError; dsimp only; split <;> simp
@[simp] theorem Block.mpError_beads (b : Block) (po : Nat) (w : Bool) (c a : Nat) (co : BitVec 2) (i : Nat) : (b.mpError po w c a co i).beads = b.beads := by
  unfold Block.mpError; dsimp only; split <;> simp
@[simp] theorem Block.mpError_chans (b : Block) (po : Nat) (w : Bool) (c a : Nat) (co : BitVec 2) (i : Nat) : (b.mpError po w c a co i).chans = b.chans := by
  unfold Block.mpError; dsimp only; split <;> simp
@[simp] theorem Block.mpError_saffron (b : Block) (po : Nat) (w : Bool) (c a : Nat) (co : BitVec 2) (i : Nat) : (b.mpError po w c a co i).saffron = b.saffron := by
  unfold Block.mpError; dsimp only; split <;> simp
@[simp] theorem Block.mpError_seq (b : Block) (po : Nat) (w : Bool) (c a : Nat) (co : BitVec 2) (i : Nat) : (b.mpError po w c a co i).seq = b.seq := by
  unfold Block.mpError; dsimp only; split <;> simp
@[simp] theorem Block.mpError_cqs (b : Block) (po : Nat) (w : Bool) (c a : Nat) (co : BitVec 2) (i : Nat) : (b.mpError po w c a co i).cqs = b.cqs := by
  unfold Block.mpError; dsimp only; split <;> simp
@[simp] theorem Block.mpError_link (b : Block) (po : Nat) (w : Bool) (c a : Nat) (co : BitVec 2) (i : Nat) : (b.mpError po w c a co i).link = b.link := by
  unfold Block.mpError; dsimp only; split <;> simp
@[simp] theorem Block.mpError_parts (b : Block) (po : Nat) (w : Bool) (c a : Nat) (co : BitVec 2) (i : Nat) : (b.mpError po w c a co i).parts = b.parts := by
  unfold Block.mpError; dsimp only; split <;> simp
@[simp] theorem Block.mpError_experts (b : Block) (po : Nat) (w : Bool) (c a : Nat) (co : BitVec 2) (i : Nat) : (b.mpError po w c a co i).experts = b.experts := by
  unfold Block.mpError; dsimp only; split <;> simp
@[simp] theorem Block.mpError_audit (b : Block) (po : Nat) (w : Bool) (c a : Nat) (co : BitVec 2) (i : Nat) : (b.mpError po w c a co i).audit = b.audit := by
  unfold Block.mpError; dsimp only; split <;> simp
@[simp] theorem Block.mpError_lkt (b : Block) (po : Nat) (w : Bool) (c a : Nat) (co : BitVec 2) (i : Nat) : (b.mpError po w c a co i).lkt = b.lkt := by
  unfold Block.mpError; dsimp only; split <;> simp
@[simp] theorem Block.mpError_power (b : Block) (po : Nat) (w : Bool) (c a : Nat) (co : BitVec 2) (i : Nat) : (b.mpError po w c a co i).power = b.power := by
  unfold Block.mpError; dsimp only; split <;> simp

@[simp] theorem Block.draw_now (b : Block) : b.draw.2.now = b.now := rfl
@[simp] theorem Block.draw_inReset (b : Block) : b.draw.2.inReset = b.inReset := rfl
@[simp] theorem Block.draw_refilled (b : Block) : b.draw.2.refilled = b.refilled := rfl
@[simp] theorem Block.draw_prefetch (b : Block) : b.draw.2.prefetch = b.prefetch := rfl
@[simp] theorem Block.draw_tpStatus (b : Block) : b.draw.2.tpStatus = b.tpStatus := rfl
@[simp] theorem Block.draw_mp (b : Block) : b.draw.2.mp = b.mp := rfl
@[simp] theorem Block.draw_loader (b : Block) : b.draw.2.loader = b.loader := rfl
@[simp] theorem Block.draw_setting (b : Block) : b.draw.2.setting = b.setting := rfl
@[simp] theorem Block.draw_lanes (b : Block) : b.draw.2.lanes = b.lanes := rfl
@[simp] theorem Block.draw_front (b : Block) : b.draw.2.front = b.front := rfl
@[simp] theorem Block.draw_graph (b : Block) : b.draw.2.graph = b.graph := rfl
@[simp] theorem Block.draw_fences (b : Block) : b.draw.2.fences = b.fences := rfl
@[simp] theorem Block.draw_beads (b : Block) : b.draw.2.beads = b.beads := rfl
@[simp] theorem Block.draw_chans (b : Block) : b.draw.2.chans = b.chans := rfl
@[simp] theorem Block.draw_saffron (b : Block) : b.draw.2.saffron = b.saffron := rfl
@[simp] theorem Block.draw_seq (b : Block) : b.draw.2.seq = b.seq := rfl
@[simp] theorem Block.draw_cqs (b : Block) : b.draw.2.cqs = b.cqs := rfl
@[simp] theorem Block.draw_link (b : Block) : b.draw.2.link = b.link := rfl
@[simp] theorem Block.draw_parts (b : Block) : b.draw.2.parts = b.parts := rfl
@[simp] theorem Block.draw_evc (b : Block) : b.draw.2.evc = b.evc := rfl
@[simp] theorem Block.draw_experts (b : Block) : b.draw.2.experts = b.experts := rfl
@[simp] theorem Block.draw_audit (b : Block) : b.draw.2.audit = b.audit := rfl
@[simp] theorem Block.draw_trace (b : Block) : b.draw.2.trace = b.trace := rfl
@[simp] theorem Block.draw_lkt (b : Block) : b.draw.2.lkt = b.lkt := rfl
@[simp] theorem Block.draw_power (b : Block) : b.draw.2.power = b.power := rfl

end Sys2Proof.Machine
end

