-- ==== Sys2Proof/Laws/Access.lean ====
section
/-! SUPPORT. The laws of target-port accesses: what an access does under each of the four steps of R526, and
that it touches nothing but the port's own fields and what the performed access touches. -/

-- theorem after theorem, which bounds the memory of the compile
set_option Elab.async false

namespace Sys2Proof.Machine

/-- A performed access is judged so. -/
theorem judge_perform {s : State} {a : Acc} {r : Reg} {w : Bool} (h : Performs s a r w) :
    judge s.params s.blk a r w = .perform := by
  obtain ⟨_, h2, h3, h4⟩ := h
  rcases h3 with h3 | h3 <;> simp [judge, h2, h3, h4]

/-- A performed access does what its register's rule says and is answered OK. -/
theorem access_perform {s : State} {a : Acc} {r : Reg} {w : Bool} (h : Performs s a r w)
    (f : State → State × Word) : s.access a r w f = (f s).1.respond .ok (f s).2 := by
  have hr := h.1
  simp [State.access, hr, judge_perform h]

/-- A performed write command leaves what `State.wrote` says. -/
theorem command_perform {s : State} {a : Acc} {r : Reg} (h : Performs s a r true) (f : Params → Block → Block) :
    s.command a r f = s.wrote r (f s.params s.blk) := by
  simp [State.command, access_perform h, State.wrote]

/-- Everything that an access can do. -/
theorem access_cases (s : State) (a : Acc) (r : Reg) (w : Bool) (f : State → State × Word) :
    s.access a r w f = s ∨ s.access a r w f = s.respond .decode 0 ∨ s.access a r w f = s.respond .denied 0
      ∨ (∃ u, s.access a r w f = State.respond { s with blk := s.blk.recordUnreachable u w } .ok 0)
      ∨ s.access a r w f = (f s).1.respond .ok (f s).2 := by
  unfold State.access
  split
  · exact .inl rfl
  · split
    · exact .inr (.inl rfl)
    · exact .inr (.inr (.inl rfl))
    · exact .inr (.inr (.inr (.inl ⟨_, rfl⟩)))
    · exact .inr (.inr (.inr (.inr rfl)))

@[simp] theorem respond_params (s : State) (e : TpErr) (d : Word) : (s.respond e d).params = s.params := rfl
@[simp] theorem respond_pending (s : State) (e : TpErr) (d : Word) : (s.respond e d).pending = s.pending := rfl
@[simp] theorem respond_keys (s : State) (e : TpErr) (d : Word) : (s.respond e d).keys = s.keys := rfl
@[simp] theorem respond_tap (s : State) (e : TpErr) (d : Word) : (s.respond e d).tap = s.tap := rfl
@[simp] theorem respond_blk (s : State) (e : TpErr) (d : Word) : (s.respond e d).blk = s.blk := rfl
@[simp] theorem respond_ready (s : State) (e : TpErr) (d : Word) : (s.respond e d).tp.ready = s.tp.ready := rfl
@[simp] theorem respond_rsp (s : State) (e : TpErr) (d : Word) :
    (s.respond e d).tp.rsp = some { err := e, data := d } := rfl
@[simp] theorem respond_staged (s : State) (e : TpErr) (d : Word) : (s.respond e d).tp.staged = s.tp.staged := rfl
@[simp] theorem respond_captures (s : State) (e : TpErr) (d : Word) :
    (s.respond e d).tp.captures = s.tp.captures := rfl

@[simp] theorem wrote_params (s : State) (r : Reg) (b : Block) : (s.wrote r b).params = s.params := rfl
@[simp] theorem wrote_pending (s : State) (r : Reg) (b : Block) : (s.wrote r b).pending = s.pending := rfl
@[simp] theorem wrote_keys (s : State) (r : Reg) (b : Block) : (s.wrote r b).keys = s.keys := rfl
@[simp] theorem wrote_tap (s : State) (r : Reg) (b : Block) : (s.wrote r b).tap = s.tap := rfl
@[simp] theorem wrote_blk (s : State) (r : Reg) (b : Block) : (s.wrote r b).blk = b := rfl

/-- An input acts where cold reset does not hold the block. -/
theorem input_run {s : State} (h : s.blk.inReset = false) (f : Block → Block) :
    s.input f = { s with blk := f s.blk } := by
  simp [State.input, h]

end Sys2Proof.Machine
end

