-- ==== Sys2Proof/Laws/Lanes.lean ====
section
/-! SUPPORT. The laws of lane traffic: a message sent down or up touches the lanes alone, and a received
record acts unless its end discards. -/

-- theorem after theorem, which bounds the memory of the compile
set_option Elab.async false

namespace Sys2Proof.Machine

@[simp] theorem Block.sendDown_now (p : Params) (b : Block) (n : Nat) (r : Rec) : (Block.sendDown p b n r).now = b.now := by
  unfold Block.sendDown; split <;> rfl
@[simp] theorem Block.sendDown_inReset (p : Params) (b : Block) (n : Nat) (r : Rec) : (Block.sendDown p b n r).inReset = b.inReset := by
  unfold Block.sendDown; split <;> rfl
@[simp] theorem Block.sendDown_free (p : Params) (b : Block) (n : Nat) (r : Rec) : (Block.sendDown p b n r).free = b.free := by
  unfold Block.sendDown; split <;> rfl
@[simp] theorem Block.sendDown_refilled (p : Params) (b : Block) (n : Nat) (r : Rec) : (Block.sendDown p b n r).refilled = b.refilled := by
  unfold Block.sendDown; split <;> rfl
@[simp] theorem Block.sendDown_prefetch (p : Params) (b : Block) (n : Nat) (r : Rec) : (Block.sendDown p b n r).prefetch = b.prefetch := by
  unfold Block.sendDown; split <;> rfl
@[simp] theorem Block.sendDown_tpStatus (p : Params) (b : Block) (n : Nat) (r : Rec) : (Block.sendDown p b n r).tpStatus = b.tpStatus := by
  unfold Block.sendDown; split <;> rfl
@[simp] theorem Block.sendDown_mp (p : Params) (b : Block) (n : Nat) (r : Rec) : (Block.sendDown p b n r).mp = b.mp := by
  unfold Block.sendDown; split <;> rfl
@[simp] theorem Block.sendDown_loader (p : Params) (b : Block) (n : Nat) (r : Rec) : (Block.sendDown p b n r).loader = b.loader := by
  unfold Block.sendDown; split <;> rfl
@[simp] theorem Block.sendDown_setting (p : Params) (b : Block) (n : Nat) (r : Rec) : (Block.sendDown p b n r).setting = b.setting := by
  unfold Block.sendDown; split <;> rfl
@[simp] theorem Block.sendDown_front (p : Params) (b : Block) (n : Nat) (r : Rec) : (Block.sendDown p b n r).front = b.front := by
  unfold Block.sendDown; split <;> rfl
@[simp] theorem Block.sendDown_graph (p : Params) (b : Block) (n : Nat) (r : Rec) : (Block.sendDown p b n r).graph = b.graph := by
  unfold Block.sendDown; split <;> rfl
@[simp] theorem Block.sendDown_fences (p : Params) (b : Block) (n : Nat) (r : Rec) : (Block.sendDown p b n r).fences = b.fences := by
  unfold Block.sendDown; split <;> rfl
@[simp] theorem Block.sendDown_beads (p : Params) (b : Block) (n : Nat) (r : Rec) : (Block.sendDown p b n r).beads = b.beads := by
  unfold Block.sendDown; split <;> rfl
@[simp] theorem Block.sendDown_chans (p : Params) (b : Block) (n : Nat) (r : Rec) : (Block.sendDown p b n r).chans = b.chans := by
  unfold Block.sendDown; split <;> rfl
@[simp] theorem Block.sendDown_saffron (p : Params) (b : Block) (n : Nat) (r : Rec) : (Block.sendDown p b n r).saffron = b.saffron := by
  unfold Block.sendDown; split <;> rfl
@[simp] theorem Block.sendDown_seq (p : Params) (b : Block) (n : Nat) (r : Rec) : (Block.sendDown p b n r).seq = b.seq := by
  unfold Block.sendDown; split <;> rfl
@[simp] theorem Block.sendDown_cqs (p : Params) (b : Block) (n : Nat) (r : Rec) : (Block.sendDown p b n r).cqs = b.cqs := by
  unfold Block.sendDown; split <;> rfl
@[simp] theorem Block.sendDown_link (p : Params) (b : Block) (n : Nat) (r : Rec) : (Block.sendDown p b n r).link = b.link := by
  unfold Block.sendDown; split <;> rfl
@[simp] theorem Block.sendDown_parts (p : Params) (b : Block) (n : Nat) (r : Rec) : (Block.sendDown p b n r).parts = b.parts := by
  unfold Block.sendDown; split <;> rfl
@[simp] theorem Block.sendDown_evc (p : Params) (b : Block) (n : Nat) (r : Rec) : (Block.sendDown p b n r).evc = b.evc := by
  unfold Block.sendDown; split <;> rfl
@[simp] theorem Block.sendDown_experts (p : Params) (b : Block) (n : Nat) (r : Rec) : (Block.sendDown p b n r).experts = b.experts := by
  unfold Block.sendDown; split <;> rfl
@[simp] theorem Block.sendDown_audit (p : Params) (b : Block) (n : Nat) (r : Rec) : (Block.sendDown p b n r).audit = b.audit := by
  unfold Block.sendDown; split <;> rfl
@[simp] theorem Block.sendDown_trace (p : Params) (b : Block) (n : Nat) (r : Rec) : (Block.sendDown p b n r).trace = b.trace := by
  unfold Block.sendDown; split <;> rfl
@[simp] theorem Block.sendDown_lkt (p : Params) (b : Block) (n : Nat) (r : Rec) : (Block.sendDown p b n r).lkt = b.lkt := by
  unfold Block.sendDown; split <;> rfl
@[simp] theorem Block.sendDown_power (p : Params) (b : Block) (n : Nat) (r : Rec) : (Block.sendDown p b n r).power = b.power := by
  unfold Block.sendDown; split <;> rfl

@[simp] theorem Block.sendUp_now (p : Params) (b : Block) (n : Nat) (r : Rec) : (Block.sendUp p b n r).now = b.now := by
  rfl
@[simp] theorem Block.sendUp_inReset (p : Params) (b : Block) (n : Nat) (r : Rec) : (Block.sendUp p b n r).inReset = b.inReset := by
  rfl
@[simp] theorem Block.sendUp_free (p : Params) (b : Block) (n : Nat) (r : Rec) : (Block.sendUp p b n r).free = b.free := by
  rfl
@[simp] theorem Block.sendUp_refilled (p : Params) (b : Block) (n : Nat) (r : Rec) : (Block.sendUp p b n r).refilled = b.refilled := by
  rfl
@[simp] theorem Block.sendUp_prefetch (p : Params) (b : Block) (n : Nat) (r : Rec) : (Block.sendUp p b n r).prefetch = b.prefetch := by
  rfl
@[simp] theorem Block.sendUp_tpStatus (p : Params) (b : Block) (n : Nat) (r : Rec) : (Block.sendUp p b n r).tpStatus = b.tpStatus := by
  rfl
@[simp] theorem Block.sendUp_mp (p : Params) (b : Block) (n : Nat) (r : Rec) : (Block.sendUp p b n r).mp = b.mp := by
  rfl
@[simp] theorem Block.sendUp_loader (p : Params) (b : Block) (n : Nat) (r : Rec) : (Block.sendUp p b n r).loader = b.loader := by
  rfl
@[simp] theorem Block.sendUp_setting (p : Params) (b : Block) (n : Nat) (r : Rec) : (Block.sendUp p b n r).setting = b.setting := by
  rfl
@[simp] theorem Block.sendUp_front (p : Params) (b : Block) (n : Nat) (r : Rec) : (Block.sendUp p b n r).front = b.front := by
  rfl
@[simp] theorem Block.sendUp_graph (p : Params) (b : Block) (n : Nat) (r : Rec) : (Block.sendUp p b n r).graph = b.graph := by
  rfl
@[simp] theorem Block.sendUp_fences (p : Params) (b : Block) (n : Nat) (r : Rec) : (Block.sendUp p b n r).fences = b.fences := by
  rfl
@[simp] theorem Block.sendUp_beads (p : Params) (b : Block) (n : Nat) (r : Rec) : (Block.sendUp p b n r).beads = b.beads := by
  rfl
@[simp] theorem Block.sendUp_chans (p : Params) (b : Block) (n : Nat) (r : Rec) : (Block.sendUp p b n r).chans = b.chans := by
  rfl
@[simp] theorem Block.sendUp_saffron (p : Params) (b : Block) (n : Nat) (r : Rec) : (Block.sendUp p b n r).saffron = b.saffron := by
  rfl
@[simp] theorem Block.sendUp_seq (p : Params) (b : Block) (n : Nat) (r : Rec) : (Block.sendUp p b n r).seq = b.seq := by
  rfl
@[simp] theorem Block.sendUp_cqs (p : Params) (b : Block) (n : Nat) (r : Rec) : (Block.sendUp p b n r).cqs = b.cqs := by
  rfl
@[simp] theorem Block.sendUp_link (p : Params) (b : Block) (n : Nat) (r : Rec) : (Block.sendUp p b n r).link = b.link := by
  rfl
@[simp] theorem Block.sendUp_parts (p : Params) (b : Block) (n : Nat) (r : Rec) : (Block.sendUp p b n r).parts = b.parts := by
  rfl
@[simp] theorem Block.sendUp_evc (p : Params) (b : Block) (n : Nat) (r : Rec) : (Block.sendUp p b n r).evc = b.evc := by
  rfl
@[simp] theorem Block.sendUp_experts (p : Params) (b : Block) (n : Nat) (r : Rec) : (Block.sendUp p b n r).experts = b.experts := by
  rfl
@[simp] theorem Block.sendUp_audit (p : Params) (b : Block) (n : Nat) (r : Rec) : (Block.sendUp p b n r).audit = b.audit := by
  rfl
@[simp] theorem Block.sendUp_trace (p : Params) (b : Block) (n : Nat) (r : Rec) : (Block.sendUp p b n r).trace = b.trace := by
  rfl
@[simp] theorem Block.sendUp_lkt (p : Params) (b : Block) (n : Nat) (r : Rec) : (Block.sendUp p b n r).lkt = b.lkt := by
  rfl
@[simp] theorem Block.sendUp_power (p : Params) (b : Block) (n : Nat) (r : Rec) : (Block.sendUp p b n r).power = b.power := by
  rfl

@[simp] theorem Block.beadLocket_now (p : Params) (b : Block) (n r c a : Nat) : (Block.beadLocket p b n r c a).now = b.now := by
  rfl
@[simp] theorem Block.beadLocket_inReset (p : Params) (b : Block) (n r c a : Nat) : (Block.beadLocket p b n r c a).inReset = b.inReset := by
  rfl
@[simp] theorem Block.beadLocket_free (p : Params) (b : Block) (n r c a : Nat) : (Block.beadLocket p b n r c a).free = b.free := by
  rfl
@[simp] theorem Block.beadLocket_refilled (p : Params) (b : Block) (n r c a : Nat) : (Block.beadLocket p b n r c a).refilled = b.refilled := by
  rfl
@[simp] theorem Block.beadLocket_prefetch (p : Params) (b : Block) (n r c a : Nat) : (Block.beadLocket p b n r c a).prefetch = b.prefetch := by
  rfl
@[simp] theorem Block.beadLocket_tpStatus (p : Params) (b : Block) (n r c a : Nat) : (Block.beadLocket p b n r c a).tpStatus = b.tpStatus := by
  rfl
@[simp] theorem Block.beadLocket_mp (p : Params) (b : Block) (n r c a : Nat) : (Block.beadLocket p b n r c a).mp = b.mp := by
  rfl
@[simp] theorem Block.beadLocket_loader (p : Params) (b : Block) (n r c a : Nat) : (Block.beadLocket p b n r c a).loader = b.loader := by
  rfl
@[simp] theorem Block.beadLocket_setting (p : Params) (b : Block) (n r c a : Nat) : (Block.beadLocket p b n r c a).setting = b.setting := by
  rfl
@[simp] theorem Block.beadLocket_lanes (p : Params) (b : Block) (n r c a : Nat) : (Block.beadLocket p b n r c a).lanes = b.lanes := by
  rfl
@[simp] theorem Block.beadLocket_front (p : Params) (b : Block) (n r c a : Nat) : (Block.beadLocket p b n r c a).front = b.front := by
  rfl
@[simp] theorem Block.beadLocket_graph (p : Params) (b : Block) (n r c a : Nat) : (Block.beadLocket p b n r c a).graph = b.graph := by
  rfl
@[simp] theorem Block.beadLocket_fences (p : Params) (b : Block) (n r c a : Nat) : (Block.beadLocket p b n r c a).fences = b.fences := by
  rfl
@[simp] theorem Block.beadLocket_beads (p : Params) (b : Block) (n r c a : Nat) : (Block.beadLocket p b n r c a).beads = b.beads := by
  rfl
@[simp] theorem Block.beadLocket_chans (p : Params) (b : Block) (n r c a : Nat) : (Block.beadLocket p b n r c a).chans = b.chans := by
  rfl
@[simp] theorem Block.beadLocket_saffron (p : Params) (b : Block) (n r c a : Nat) : (Block.beadLocket p b n r c a).saffron = b.saffron := by
  rfl
@[simp] theorem Block.beadLocket_seq (p : Params) (b : Block) (n r c a : Nat) : (Block.beadLocket p b n r c a).seq = b.seq := by
  rfl
@[simp] theorem Block.beadLocket_cqs (p : Params) (b : Block) (n r c a : Nat) : (Block.beadLocket p b n r c a).cqs = b.cqs := by
  rfl
@[simp] theorem Block.beadLocket_link (p : Params) (b : Block) (n r c a : Nat) : (Block.beadLocket p b n r c a).link = b.link := by
  rfl
@[simp] theorem Block.beadLocket_parts (p : Params) (b : Block) (n r c a : Nat) : (Block.beadLocket p b n r c a).parts = b.parts := by
  rfl
@[simp] theorem Block.beadLocket_evc (p : Params) (b : Block) (n r c a : Nat) : (Block.beadLocket p b n r c a).evc = b.evc := by
  rfl
@[simp] theorem Block.beadLocket_experts (p : Params) (b : Block) (n r c a : Nat) : (Block.beadLocket p b n r c a).experts = b.experts := by
  rfl
@[simp] theorem Block.beadLocket_audit (p : Params) (b : Block) (n r c a : Nat) : (Block.beadLocket p b n r c a).audit = b.audit := by
  rfl
@[simp] theorem Block.beadLocket_trace (p : Params) (b : Block) (n r c a : Nat) : (Block.beadLocket p b n r c a).trace = b.trace := by
  rfl
@[simp] theorem Block.beadLocket_power (p : Params) (b : Block) (n r c a : Nat) : (Block.beadLocket p b n r c a).power = b.power := by
  rfl

@[simp] theorem Block.beadTrace_now (p : Params) (b : Block) (n c u a : Nat) (ws : List Word) : (Block.beadTrace p b n c u a ws).now = b.now := by
  rfl
@[simp] theorem Block.beadTrace_inReset (p : Params) (b : Block) (n c u a : Nat) (ws : List Word) : (Block.beadTrace p b n c u a ws).inReset = b.inReset := by
  rfl
@[simp] theorem Block.beadTrace_free (p : Params) (b : Block) (n c u a : Nat) (ws : List Word) : (Block.beadTrace p b n c u a ws).free = b.free := by
  rfl
@[simp] theorem Block.beadTrace_refilled (p : Params) (b : Block) (n c u a : Nat) (ws : List Word) : (Block.beadTrace p b n c u a ws).refilled = b.refilled := by
  rfl
@[simp] theorem Block.beadTrace_prefetch (p : Params) (b : Block) (n c u a : Nat) (ws : List Word) : (Block.beadTrace p b n c u a ws).prefetch = b.prefetch := by
  rfl
@[simp] theorem Block.beadTrace_tpStatus (p : Params) (b : Block) (n c u a : Nat) (ws : List Word) : (Block.beadTrace p b n c u a ws).tpStatus = b.tpStatus := by
  rfl
@[simp] theorem Block.beadTrace_mp (p : Params) (b : Block) (n c u a : Nat) (ws : List Word) : (Block.beadTrace p b n c u a ws).mp = b.mp := by
  rfl
@[simp] theorem Block.beadTrace_loader (p : Params) (b : Block) (n c u a : Nat) (ws : List Word) : (Block.beadTrace p b n c u a ws).loader = b.loader := by
  rfl
@[simp] theorem Block.beadTrace_setting (p : Params) (b : Block) (n c u a : Nat) (ws : List Word) : (Block.beadTrace p b n c u a ws).setting = b.setting := by
  rfl
@[simp] theorem Block.beadTrace_lanes (p : Params) (b : Block) (n c u a : Nat) (ws : List Word) : (Block.beadTrace p b n c u a ws).lanes = b.lanes := by
  rfl
@[simp] theorem Block.beadTrace_front (p : Params) (b : Block) (n c u a : Nat) (ws : List Word) : (Block.beadTrace p b n c u a ws).front = b.front := by
  rfl
@[simp] theorem Block.beadTrace_graph (p : Params) (b : Block) (n c u a : Nat) (ws : List Word) : (Block.beadTrace p b n c u a ws).graph = b.graph := by
  rfl
@[simp] theorem Block.beadTrace_fences (p : Params) (b : Block) (n c u a : Nat) (ws : List Word) : (Block.beadTrace p b n c u a ws).fences = b.fences := by
  rfl
@[simp] theorem Block.beadTrace_chans (p : Params) (b : Block) (n c u a : Nat) (ws : List Word) : (Block.beadTrace p b n c u a ws).chans = b.chans := by
  rfl
@[simp] theorem Block.beadTrace_saffron (p : Params) (b : Block) (n c u a : Nat) (ws : List Word) : (Block.beadTrace p b n c u a ws).saffron = b.saffron := by
  rfl
@[simp] theorem Block.beadTrace_seq (p : Params) (b : Block) (n c u a : Nat) (ws : List Word) : (Block.beadTrace p b n c u a ws).seq = b.seq := by
  rfl
@[simp] theorem Block.beadTrace_cqs (p : Params) (b : Block) (n c u a : Nat) (ws : List Word) : (Block.beadTrace p b n c u a ws).cqs = b.cqs := by
  rfl
@[simp] theorem Block.beadTrace_link (p : Params) (b : Block) (n c u a : Nat) (ws : List Word) : (Block.beadTrace p b n c u a ws).link = b.link := by
  rfl
@[simp] theorem Block.beadTrace_parts (p : Params) (b : Block) (n c u a : Nat) (ws : List Word) : (Block.beadTrace p b n c u a ws).parts = b.parts := by
  rfl
@[simp] theorem Block.beadTrace_evc (p : Params) (b : Block) (n c u a : Nat) (ws : List Word) : (Block.beadTrace p b n c u a ws).evc = b.evc := by
  rfl
@[simp] theorem Block.beadTrace_experts (p : Params) (b : Block) (n c u a : Nat) (ws : List Word) : (Block.beadTrace p b n c u a ws).experts = b.experts := by
  rfl
@[simp] theorem Block.beadTrace_audit (p : Params) (b : Block) (n c u a : Nat) (ws : List Word) : (Block.beadTrace p b n c u a ws).audit = b.audit := by
  rfl
@[simp] theorem Block.beadTrace_trace (p : Params) (b : Block) (n c u a : Nat) (ws : List Word) : (Block.beadTrace p b n c u a ws).trace = b.trace := by
  rfl
@[simp] theorem Block.beadTrace_lkt (p : Params) (b : Block) (n c u a : Nat) (ws : List Word) : (Block.beadTrace p b n c u a ws).lkt = b.lkt := by
  rfl
@[simp] theorem Block.beadTrace_power (p : Params) (b : Block) (n c u a : Nat) (ws : List Word) : (Block.beadTrace p b n c u a ws).power = b.power := by
  rfl

@[simp] theorem Block.sendTime_now (b : Block) (n : Nat) : (Block.sendTime b n).now = b.now := by
  rfl
@[simp] theorem Block.sendTime_inReset (b : Block) (n : Nat) : (Block.sendTime b n).inReset = b.inReset := by
  rfl
@[simp] theorem Block.sendTime_free (b : Block) (n : Nat) : (Block.sendTime b n).free = b.free := by
  rfl
@[simp] theorem Block.sendTime_refilled (b : Block) (n : Nat) : (Block.sendTime b n).refilled = b.refilled := by
  rfl
@[simp] theorem Block.sendTime_prefetch (b : Block) (n : Nat) : (Block.sendTime b n).prefetch = b.prefetch := by
  rfl
@[simp] theorem Block.sendTime_tpStatus (b : Block) (n : Nat) : (Block.sendTime b n).tpStatus = b.tpStatus := by
  rfl
@[simp] theorem Block.sendTime_mp (b : Block) (n : Nat) : (Block.sendTime b n).mp = b.mp := by
  rfl
@[simp] theorem Block.sendTime_loader (b : Block) (n : Nat) : (Block.sendTime b n).loader = b.loader := by
  rfl
@[simp] theorem Block.sendTime_setting (b : Block) (n : Nat) : (Block.sendTime b n).setting = b.setting := by
  rfl
@[simp] theorem Block.sendTime_front (b : Block) (n : Nat) : (Block.sendTime b n).front = b.front := by
  rfl
@[simp] theorem Block.sendTime_graph (b : Block) (n : Nat) : (Block.sendTime b n).graph = b.graph := by
  rfl
@[simp] theorem Block.sendTime_fences (b : Block) (n : Nat) : (Block.sendTime b n).fences = b.fences := by
  rfl
@[simp] theorem Block.sendTime_beads (b : Block) (n : Nat) : (Block.sendTime b n).beads = b.beads := by
  rfl
@[simp] theorem Block.sendTime_chans (b : Block) (n : Nat) : (Block.sendTime b n).chans = b.chans := by
  rfl
@[simp] theorem Block.sendTime_saffron (b : Block) (n : Nat) : (Block.sendTime b n).saffron = b.saffron := by
  rfl
@[simp] theorem Block.sendTime_seq (b : Block) (n : Nat) : (Block.sendTime b n).seq = b.seq := by
  rfl
@[simp] theorem Block.sendTime_cqs (b : Block) (n : Nat) : (Block.sendTime b n).cqs = b.cqs := by
  rfl
@[simp] theorem Block.sendTime_link (b : Block) (n : Nat) : (Block.sendTime b n).link = b.link := by
  rfl
@[simp] theorem Block.sendTime_parts (b : Block) (n : Nat) : (Block.sendTime b n).parts = b.parts := by
  rfl
@[simp] theorem Block.sendTime_evc (b : Block) (n : Nat) : (Block.sendTime b n).evc = b.evc := by
  rfl
@[simp] theorem Block.sendTime_experts (b : Block) (n : Nat) : (Block.sendTime b n).experts = b.experts := by
  rfl
@[simp] theorem Block.sendTime_audit (b : Block) (n : Nat) : (Block.sendTime b n).audit = b.audit := by
  rfl
@[simp] theorem Block.sendTime_trace (b : Block) (n : Nat) : (Block.sendTime b n).trace = b.trace := by
  rfl
@[simp] theorem Block.sendTime_lkt (b : Block) (n : Nat) : (Block.sendTime b n).lkt = b.lkt := by
  rfl
@[simp] theorem Block.sendTime_power (b : Block) (n : Nat) : (Block.sendTime b n).power = b.power := by
  rfl

@[simp] theorem Block.sendEcho_now (b : Block) (n : Nat) : (Block.sendEcho b n).now = b.now := by
  rfl
@[simp] theorem Block.sendEcho_inReset (b : Block) (n : Nat) : (Block.sendEcho b n).inReset = b.inReset := by
  rfl
@[simp] theorem Block.sendEcho_free (b : Block) (n : Nat) : (Block.sendEcho b n).free = b.free := by
  rfl
@[simp] theorem Block.sendEcho_refilled (b : Block) (n : Nat) : (Block.sendEcho b n).refilled = b.refilled := by
  rfl
@[simp] theorem Block.sendEcho_prefetch (b : Block) (n : Nat) : (Block.sendEcho b n).prefetch = b.prefetch := by
  rfl
@[simp] theorem Block.sendEcho_tpStatus (b : Block) (n : Nat) : (Block.sendEcho b n).tpStatus = b.tpStatus := by
  rfl
@[simp] theorem Block.sendEcho_mp (b : Block) (n : Nat) : (Block.sendEcho b n).mp = b.mp := by
  rfl
@[simp] theorem Block.sendEcho_loader (b : Block) (n : Nat) : (Block.sendEcho b n).loader = b.loader := by
  rfl
@[simp] theorem Block.sendEcho_setting (b : Block) (n : Nat) : (Block.sendEcho b n).setting = b.setting := by
  rfl
@[simp] theorem Block.sendEcho_front (b : Block) (n : Nat) : (Block.sendEcho b n).front = b.front := by
  rfl
@[simp] theorem Block.sendEcho_graph (b : Block) (n : Nat) : (Block.sendEcho b n).graph = b.graph := by
  rfl
@[simp] theorem Block.sendEcho_fences (b : Block) (n : Nat) : (Block.sendEcho b n).fences = b.fences := by
  rfl
@[simp] theorem Block.sendEcho_beads (b : Block) (n : Nat) : (Block.sendEcho b n).beads = b.beads := by
  rfl
@[simp] theorem Block.sendEcho_chans (b : Block) (n : Nat) : (Block.sendEcho b n).chans = b.chans := by
  rfl
@[simp] theorem Block.sendEcho_saffron (b : Block) (n : Nat) : (Block.sendEcho b n).saffron = b.saffron := by
  rfl
@[simp] theorem Block.sendEcho_seq (b : Block) (n : Nat) : (Block.sendEcho b n).seq = b.seq := by
  rfl
@[simp] theorem Block.sendEcho_cqs (b : Block) (n : Nat) : (Block.sendEcho b n).cqs = b.cqs := by
  rfl
@[simp] theorem Block.sendEcho_link (b : Block) (n : Nat) : (Block.sendEcho b n).link = b.link := by
  rfl
@[simp] theorem Block.sendEcho_parts (b : Block) (n : Nat) : (Block.sendEcho b n).parts = b.parts := by
  rfl
@[simp] theorem Block.sendEcho_evc (b : Block) (n : Nat) : (Block.sendEcho b n).evc = b.evc := by
  rfl
@[simp] theorem Block.sendEcho_experts (b : Block) (n : Nat) : (Block.sendEcho b n).experts = b.experts := by
  rfl
@[simp] theorem Block.sendEcho_audit (b : Block) (n : Nat) : (Block.sendEcho b n).audit = b.audit := by
  rfl
@[simp] theorem Block.sendEcho_trace (b : Block) (n : Nat) : (Block.sendEcho b n).trace = b.trace := by
  rfl
@[simp] theorem Block.sendEcho_lkt (b : Block) (n : Nat) : (Block.sendEcho b n).lkt = b.lkt := by
  rfl
@[simp] theorem Block.sendEcho_power (b : Block) (n : Nat) : (Block.sendEcho b n).power = b.power := by
  rfl

@[simp] theorem Block.enteredRun_now (b : Block) (n : Nat) : (Block.enteredRun b n).now = b.now := by
  unfold Block.enteredRun; split; · rfl
  split <;> rfl
@[simp] theorem Block.enteredRun_inReset (b : Block) (n : Nat) : (Block.enteredRun b n).inReset = b.inReset := by
  unfold Block.enteredRun; split; · rfl
  split <;> rfl
@[simp] theorem Block.enteredRun_free (b : Block) (n : Nat) : (Block.enteredRun b n).free = b.free := by
  unfold Block.enteredRun; split; · rfl
  split <;> rfl
@[simp] theorem Block.enteredRun_refilled (b : Block) (n : Nat) : (Block.enteredRun b n).refilled = b.refilled := by
  unfold Block.enteredRun; split; · rfl
  split <;> rfl
@[simp] theorem Block.enteredRun_prefetch (b : Block) (n : Nat) : (Block.enteredRun b n).prefetch = b.prefetch := by
  unfold Block.enteredRun; split; · rfl
  split <;> rfl
@[simp] theorem Block.enteredRun_tpStatus (b : Block) (n : Nat) : (Block.enteredRun b n).tpStatus = b.tpStatus := by
  unfold Block.enteredRun; split; · rfl
  split <;> rfl
@[simp] theorem Block.enteredRun_mp (b : Block) (n : Nat) : (Block.enteredRun b n).mp = b.mp := by
  unfold Block.enteredRun; split; · rfl
  split <;> rfl
@[simp] theorem Block.enteredRun_loader (b : Block) (n : Nat) : (Block.enteredRun b n).loader = b.loader := by
  unfold Block.enteredRun; split; · rfl
  split <;> rfl
@[simp] theorem Block.enteredRun_setting (b : Block) (n : Nat) : (Block.enteredRun b n).setting = b.setting := by
  unfold Block.enteredRun; split; · rfl
  split <;> rfl
@[simp] theorem Block.enteredRun_front (b : Block) (n : Nat) : (Block.enteredRun b n).front = b.front := by
  unfold Block.enteredRun; split; · rfl
  split <;> rfl
@[simp] theorem Block.enteredRun_graph (b : Block) (n : Nat) : (Block.enteredRun b n).graph = b.graph := by
  unfold Block.enteredRun; split; · rfl
  split <;> rfl
@[simp] theorem Block.enteredRun_fences (b : Block) (n : Nat) : (Block.enteredRun b n).fences = b.fences := by
  unfold Block.enteredRun; split; · rfl
  split <;> rfl
@[simp] theorem Block.enteredRun_beads (b : Block) (n : Nat) : (Block.enteredRun b n).beads = b.beads := by
  unfold Block.enteredRun; split; · rfl
  split <;> rfl
@[simp] theorem Block.enteredRun_chans (b : Block) (n : Nat) : (Block.enteredRun b n).chans = b.chans := by
  unfold Block.enteredRun; split; · rfl
  split <;> rfl
@[simp] theorem Block.enteredRun_saffron (b : Block) (n : Nat) : (Block.enteredRun b n).saffron = b.saffron := by
  unfold Block.enteredRun; split; · rfl
  split <;> rfl
@[simp] theorem Block.enteredRun_seq (b : Block) (n : Nat) : (Block.enteredRun b n).seq = b.seq := by
  unfold Block.enteredRun; split; · rfl
  split <;> rfl
@[simp] theorem Block.enteredRun_cqs (b : Block) (n : Nat) : (Block.enteredRun b n).cqs = b.cqs := by
  unfold Block.enteredRun; split; · rfl
  split <;> rfl
@[simp] theorem Block.enteredRun_link (b : Block) (n : Nat) : (Block.enteredRun b n).link = b.link := by
  unfold Block.enteredRun; split; · rfl
  split <;> rfl
@[simp] theorem Block.enteredRun_parts (b : Block) (n : Nat) : (Block.enteredRun b n).parts = b.parts := by
  unfold Block.enteredRun; split; · rfl
  split <;> rfl
@[simp] theorem Block.enteredRun_evc (b : Block) (n : Nat) : (Block.enteredRun b n).evc = b.evc := by
  unfold Block.enteredRun; split; · rfl
  split <;> rfl
@[simp] theorem Block.enteredRun_experts (b : Block) (n : Nat) : (Block.enteredRun b n).experts = b.experts := by
  unfold Block.enteredRun; split; · rfl
  split <;> rfl
@[simp] theorem Block.enteredRun_audit (b : Block) (n : Nat) : (Block.enteredRun b n).audit = b.audit := by
  unfold Block.enteredRun; split; · rfl
  split <;> rfl
@[simp] theorem Block.enteredRun_trace (b : Block) (n : Nat) : (Block.enteredRun b n).trace = b.trace := by
  unfold Block.enteredRun; split; · rfl
  split <;> rfl
@[simp] theorem Block.enteredRun_lkt (b : Block) (n : Nat) : (Block.enteredRun b n).lkt = b.lkt := by
  unfold Block.enteredRun; split; · rfl
  split <;> rfl
@[simp] theorem Block.enteredRun_power (b : Block) (n : Nat) : (Block.enteredRun b n).power = b.power := by
  unfold Block.enteredRun; split; · rfl
  split <;> rfl

/-- R84: a message that the reader of a lane has acts. -/
theorem Block.onLane_acts {b : Block} {l : Nat} {up : Bool} {rs : List Rec} {x : Lane} (f : Block → Block)
    (h : (b.lane l).take l up rs = some x) : b.onLane l up rs f = f (b.modLane l fun _ => x) := by
  simp [Block.onLane, h]

/-- What has been received is a change of the lane alone. -/
theorem Block.received_eq {p : Params} {b b' : Block} {n : Nat} {up : Bool} {r : Rec} (h : b.received p n up r = some b') :
    ∃ x, (b.lane (p.laneOf n)).take (p.laneOf n) up [r] = some x ∧ b' = b.modLane (p.laneOf n) fun _ => x := by
  simp only [Block.received, Option.map_eq_some_iff] at h
  obtain ⟨x, h1, h2⟩ := h
  exact ⟨x, h1, h2.symm⟩

theorem Block.onDown_acts {p : Params} {b b' : Block} {n : Nat} {r : Rec} (f : Block → Block)
    (h : b.received p n false r = some b') : b.onDown p n r f = f b' := by
  obtain ⟨x, h1, rfl⟩ := Block.received_eq h
  exact Block.onLane_acts f h1

/-- R516: a message of a Bead that is not fenced off acts at the Clasp. -/
theorem Block.onUp_acts {p : Params} {b b' : Block} {n : Nat} {r : Rec} (f : Block → Block)
    (h : ActsAtClasp p b n r b') : b.onUp p n r f = f b' := by
  obtain ⟨x, h1, rfl⟩ := Block.received_eq h.1
  have h2 : ((b.modLane (p.laneOf n) fun _ => x).pbead n).state ≠ .fenced := h.2
  rw [Block.onUp, Block.onLane_acts _ h1, if_neg (by simpa using h2)]

/-- A record that acts at its Bead. -/
theorem Block.atBead_acts {p : Params} {b b' : Block} {n : Nat} {r : Rec} (f : Block → Block) (h : ActsAtBead p b n r b') :
    b.atBead p n r f = f b' := by
  obtain ⟨x, h1, rfl⟩ := Block.received_eq h.1
  have h2 : ((b.modLane (p.laneOf n) fun _ => x).bead n).fencedOff = false := h.2
  rw [Block.atBead, Block.onDown, Block.onLane_acts _ h1, if_neg (by simpa using h2)]

theorem Block.received_now {p : Params} {b b' : Block} {n : Nat} {up : Bool} {r : Rec} (h : b.received p n up r = some b') :
    b'.now = b.now := by
  obtain ⟨x, _, rfl⟩ := Block.received_eq h; rfl
theorem Block.received_inReset {p : Params} {b b' : Block} {n : Nat} {up : Bool} {r : Rec} (h : b.received p n up r = some b') :
    b'.inReset = b.inReset := by
  obtain ⟨x, _, rfl⟩ := Block.received_eq h; rfl
theorem Block.received_free {p : Params} {b b' : Block} {n : Nat} {up : Bool} {r : Rec} (h : b.received p n up r = some b') :
    b'.free = b.free := by
  obtain ⟨x, _, rfl⟩ := Block.received_eq h; rfl
theorem Block.received_refilled {p : Params} {b b' : Block} {n : Nat} {up : Bool} {r : Rec} (h : b.received p n up r = some b') :
    b'.refilled = b.refilled := by
  obtain ⟨x, _, rfl⟩ := Block.received_eq h; rfl
theorem Block.received_prefetch {p : Params} {b b' : Block} {n : Nat} {up : Bool} {r : Rec} (h : b.received p n up r = some b') :
    b'.prefetch = b.prefetch := by
  obtain ⟨x, _, rfl⟩ := Block.received_eq h; rfl
theorem Block.received_tpStatus {p : Params} {b b' : Block} {n : Nat} {up : Bool} {r : Rec} (h : b.received p n up r = some b') :
    b'.tpStatus = b.tpStatus := by
  obtain ⟨x, _, rfl⟩ := Block.received_eq h; rfl
theorem Block.received_mp {p : Params} {b b' : Block} {n : Nat} {up : Bool} {r : Rec} (h : b.received p n up r = some b') :
    b'.mp = b.mp := by
  obtain ⟨x, _, rfl⟩ := Block.received_eq h; rfl
theorem Block.received_loader {p : Params} {b b' : Block} {n : Nat} {up : Bool} {r : Rec} (h : b.received p n up r = some b') :
    b'.loader = b.loader := by
  obtain ⟨x, _, rfl⟩ := Block.received_eq h; rfl
theorem Block.received_setting {p : Params} {b b' : Block} {n : Nat} {up : Bool} {r : Rec} (h : b.received p n up r = some b') :
    b'.setting = b.setting := by
  obtain ⟨x, _, rfl⟩ := Block.received_eq h; rfl
theorem Block.received_front {p : Params} {b b' : Block} {n : Nat} {up : Bool} {r : Rec} (h : b.received p n up r = some b') :
    b'.front = b.front := by
  obtain ⟨x, _, rfl⟩ := Block.received_eq h; rfl
theorem Block.received_graph {p : Params} {b b' : Block} {n : Nat} {up : Bool} {r : Rec} (h : b.received p n up r = some b') :
    b'.graph = b.graph := by
  obtain ⟨x, _, rfl⟩ := Block.received_eq h; rfl
theorem Block.received_fences {p : Params} {b b' : Block} {n : Nat} {up : Bool} {r : Rec} (h : b.received p n up r = some b') :
    b'.fences = b.fences := by
  obtain ⟨x, _, rfl⟩ := Block.received_eq h; rfl
theorem Block.received_beads {p : Params} {b b' : Block} {n : Nat} {up : Bool} {r : Rec} (h : b.received p n up r = some b') :
    b'.beads = b.beads := by
  obtain ⟨x, _, rfl⟩ := Block.received_eq h; rfl
theorem Block.received_chans {p : Params} {b b' : Block} {n : Nat} {up : Bool} {r : Rec} (h : b.received p n up r = some b') :
    b'.chans = b.chans := by
  obtain ⟨x, _, rfl⟩ := Block.received_eq h; rfl
theorem Block.received_saffron {p : Params} {b b' : Block} {n : Nat} {up : Bool} {r : Rec} (h : b.received p n up r = some b') :
    b'.saffron = b.saffron := by
  obtain ⟨x, _, rfl⟩ := Block.received_eq h; rfl
theorem Block.received_seq {p : Params} {b b' : Block} {n : Nat} {up : Bool} {r : Rec} (h : b.received p n up r = some b') :
    b'.seq = b.seq := by
  obtain ⟨x, _, rfl⟩ := Block.received_eq h; rfl
theorem Block.received_cqs {p : Params} {b b' : Block} {n : Nat} {up : Bool} {r : Rec} (h : b.received p n up r = some b') :
    b'.cqs = b.cqs := by
  obtain ⟨x, _, rfl⟩ := Block.received_eq h; rfl
theorem Block.received_link {p : Params} {b b' : Block} {n : Nat} {up : Bool} {r : Rec} (h : b.received p n up r = some b') :
    b'.link = b.link := by
  obtain ⟨x, _, rfl⟩ := Block.received_eq h; rfl
theorem Block.received_parts {p : Params} {b b' : Block} {n : Nat} {up : Bool} {r : Rec} (h : b.received p n up r = some b') :
    b'.parts = b.parts := by
  obtain ⟨x, _, rfl⟩ := Block.received_eq h; rfl
theorem Block.received_evc {p : Params} {b b' : Block} {n : Nat} {up : Bool} {r : Rec} (h : b.received p n up r = some b') :
    b'.evc = b.evc := by
  obtain ⟨x, _, rfl⟩ := Block.received_eq h; rfl
theorem Block.received_experts {p : Params} {b b' : Block} {n : Nat} {up : Bool} {r : Rec} (h : b.received p n up r = some b') :
    b'.experts = b.experts := by
  obtain ⟨x, _, rfl⟩ := Block.received_eq h; rfl
theorem Block.received_audit {p : Params} {b b' : Block} {n : Nat} {up : Bool} {r : Rec} (h : b.received p n up r = some b') :
    b'.audit = b.audit := by
  obtain ⟨x, _, rfl⟩ := Block.received_eq h; rfl
theorem Block.received_trace {p : Params} {b b' : Block} {n : Nat} {up : Bool} {r : Rec} (h : b.received p n up r = some b') :
    b'.trace = b.trace := by
  obtain ⟨x, _, rfl⟩ := Block.received_eq h; rfl
theorem Block.received_lkt {p : Params} {b b' : Block} {n : Nat} {up : Bool} {r : Rec} (h : b.received p n up r = some b') :
    b'.lkt = b.lkt := by
  obtain ⟨x, _, rfl⟩ := Block.received_eq h; rfl
theorem Block.received_power {p : Params} {b b' : Block} {n : Nat} {up : Bool} {r : Rec} (h : b.received p n up r = some b') :
    b'.power = b.power := by
  obtain ⟨x, _, rfl⟩ := Block.received_eq h; rfl

end Sys2Proof.Machine
end

