-- ==== Sys2Proof/Laws/Frame.lean ====
section
/-! SUPPORT. Frames: which fields of the block an operation can change. A set of fields is a number whose bit k
stands for the k-th field of `Block`. -/

-- theorem after theorem, which bounds the memory of the compile
set_option Elab.async false

namespace Sys2Proof.Machine

/-- Two blocks agree at the k-th field. -/
def Block.agree (b b' : Block) : Nat → Prop
  | 0 => b.now = b'.now
  | 1 => b.inReset = b'.inReset
  | 2 => b.free = b'.free
  | 3 => b.refilled = b'.refilled
  | 4 => b.prefetch = b'.prefetch
  | 5 => b.tpStatus = b'.tpStatus
  | 6 => b.mp = b'.mp
  | 7 => b.loader = b'.loader
  | 8 => b.setting = b'.setting
  | 9 => b.lanes = b'.lanes
  | 10 => b.front = b'.front
  | 11 => b.graph = b'.graph
  | 12 => b.fences = b'.fences
  | 13 => b.beads = b'.beads
  | 14 => b.chans = b'.chans
  | 15 => b.saffron = b'.saffron
  | 16 => b.seq = b'.seq
  | 17 => b.cqs = b'.cqs
  | 18 => b.link = b'.link
  | 19 => b.parts = b'.parts
  | 20 => b.evc = b'.evc
  | 21 => b.experts = b'.experts
  | 22 => b.audit = b'.audit
  | 23 => b.trace = b'.trace
  | 24 => b.lkt = b'.lkt
  | 25 => b.power = b'.power
  | _ => True

/-- `b'` differs from `b` at most at the fields of the set `t`. -/
def Block.Frame (t : Nat) (b b' : Block) : Prop := ∀ k, t.testBit k = false → b.agree b' k

theorem Block.agree_refl (b : Block) (k : Nat) : b.agree b k := by
  unfold Block.agree; split <;> first | rfl | trivial

theorem Block.agree_trans {a b c : Block} {k : Nat} (h : a.agree b k) (g : b.agree c k) : a.agree c k := by
  unfold Block.agree at *; split <;> first | exact Eq.trans h g | trivial

theorem Block.Frame.refl (t : Nat) (b : Block) : Block.Frame t b b := fun k _ => b.agree_refl k

/-- A change at fewer fields, after a change. -/
theorem Block.Frame.step {t u : Nat} {a b c : Block} (h : Block.Frame t a b) (g : Block.Frame u b c) (e : u ||| t = t) :
    Block.Frame t a c := by
  intro k hk
  refine Block.agree_trans (h k hk) (g k ?_)
  have : (u ||| t).testBit k = false := by rw [e]; exact hk
  simp only [Nat.testBit_or, Bool.or_eq_false_iff] at this
  exact this.1

theorem Block.Frame.ite {t : Nat} {a b c : Block} {p : Prop} [Decidable p] (h : Block.Frame t a b) (g : Block.Frame t a c) :
    Block.Frame t a (if p then b else c) := by split <;> assumption

theorem Block.Frame.foldl {α : Type} {t : Nat} {f : Block → α → Block} (hf : ∀ b x, Block.Frame t b (f b x)) {a b : Block}
    (l : List α) (h : Block.Frame t a b) : Block.Frame t a (l.foldl f b) := by
  induction l generalizing b with
  | nil => exact h
  | cons x l ih => exact ih ((h.step (hf b x) (by simp)))

/-- What stays, as one equation: the fields outside the set are those of the first block. -/
def Block.graft (t : Nat) (b b' : Block) : Block where
  now := if t.testBit 0 then b'.now else b.now
  inReset := if t.testBit 1 then b'.inReset else b.inReset
  free := if t.testBit 2 then b'.free else b.free
  refilled := if t.testBit 3 then b'.refilled else b.refilled
  prefetch := if t.testBit 4 then b'.prefetch else b.prefetch
  tpStatus := if t.testBit 5 then b'.tpStatus else b.tpStatus
  mp := if t.testBit 6 then b'.mp else b.mp
  loader := if t.testBit 7 then b'.loader else b.loader
  setting := if t.testBit 8 then b'.setting else b.setting
  lanes := if t.testBit 9 then b'.lanes else b.lanes
  front := if t.testBit 10 then b'.front else b.front
  graph := if t.testBit 11 then b'.graph else b.graph
  fences := if t.testBit 12 then b'.fences else b.fences
  beads := if t.testBit 13 then b'.beads else b.beads
  chans := if t.testBit 14 then b'.chans else b.chans
  saffron := if t.testBit 15 then b'.saffron else b.saffron
  seq := if t.testBit 16 then b'.seq else b.seq
  cqs := if t.testBit 17 then b'.cqs else b.cqs
  link := if t.testBit 18 then b'.link else b.link
  parts := if t.testBit 19 then b'.parts else b.parts
  evc := if t.testBit 20 then b'.evc else b.evc
  experts := if t.testBit 21 then b'.experts else b.experts
  audit := if t.testBit 22 then b'.audit else b.audit
  trace := if t.testBit 23 then b'.trace else b.trace
  lkt := if t.testBit 24 then b'.lkt else b.lkt
  power := if t.testBit 25 then b'.power else b.power

theorem Block.Frame.eq {t : Nat} {b b' : Block} (h : Block.Frame t b b') : b' = Block.graft t b b' := by
  have key : ∀ k, t.testBit k = true ∨ b.agree b' k := fun k => by
    cases e : t.testBit k
    · exact .inr (h k e)
    · exact .inl rfl
  cases b'
  simp only [Block.graft, Block.mk.injEq]
  refine ⟨?_, ?_, ?_, ?_, ?_, ?_, ?_, ?_, ?_, ?_, ?_, ?_, ?_, ?_, ?_, ?_, ?_, ?_, ?_, ?_, ?_, ?_, ?_, ?_, ?_, ?_⟩
  · split
    · rfl
    · exact ((key 0).resolve_left (by assumption)).symm
  · split
    · rfl
    · exact ((key 1).resolve_left (by assumption)).symm
  · split
    · rfl
    · exact ((key 2).resolve_left (by assumption)).symm
  · split
    · rfl
    · exact ((key 3).resolve_left (by assumption)).symm
  · split
    · rfl
    · exact ((key 4).resolve_left (by assumption)).symm
  · split
    · rfl
    · exact ((key 5).resolve_left (by assumption)).symm
  · split
    · rfl
    · exact ((key 6).resolve_left (by assumption)).symm
  · split
    · rfl
    · exact ((key 7).resolve_left (by assumption)).symm
  · split
    · rfl
    · exact ((key 8).resolve_left (by assumption)).symm
  · split
    · rfl
    · exact ((key 9).resolve_left (by assumption)).symm
  · split
    · rfl
    · exact ((key 10).resolve_left (by assumption)).symm
  · split
    · rfl
    · exact ((key 11).resolve_left (by assumption)).symm
  · split
    · rfl
    · exact ((key 12).resolve_left (by assumption)).symm
  · split
    · rfl
    · exact ((key 13).resolve_left (by assumption)).symm
  · split
    · rfl
    · exact ((key 14).resolve_left (by assumption)).symm
  · split
    · rfl
    · exact ((key 15).resolve_left (by assumption)).symm
  · split
    · rfl
    · exact ((key 16).resolve_left (by assumption)).symm
  · split
    · rfl
    · exact ((key 17).resolve_left (by assumption)).symm
  · split
    · rfl
    · exact ((key 18).resolve_left (by assumption)).symm
  · split
    · rfl
    · exact ((key 19).resolve_left (by assumption)).symm
  · split
    · rfl
    · exact ((key 20).resolve_left (by assumption)).symm
  · split
    · rfl
    · exact ((key 21).resolve_left (by assumption)).symm
  · split
    · rfl
    · exact ((key 22).resolve_left (by assumption)).symm
  · split
    · rfl
    · exact ((key 23).resolve_left (by assumption)).symm
  · split
    · rfl
    · exact ((key 24).resolve_left (by assumption)).symm
  · split
    · rfl
    · exact ((key 25).resolve_left (by assumption)).symm

theorem Block.Frame.upd_now (b : Block) (v : _) : Block.Frame 1 b { b with now := v } := by
  intro k hk; unfold Block.agree; split <;> first | rfl | trivial | (exfalso; revert hk; decide)
theorem Block.Frame.upd_inReset (b : Block) (v : _) : Block.Frame 2 b { b with inReset := v } := by
  intro k hk; unfold Block.agree; split <;> first | rfl | trivial | (exfalso; revert hk; decide)
theorem Block.Frame.upd_free (b : Block) (v : _) : Block.Frame 4 b { b with free := v } := by
  intro k hk; unfold Block.agree; split <;> first | rfl | trivial | (exfalso; revert hk; decide)
theorem Block.Frame.upd_refilled (b : Block) (v : _) : Block.Frame 8 b { b with refilled := v } := by
  intro k hk; unfold Block.agree; split <;> first | rfl | trivial | (exfalso; revert hk; decide)
theorem Block.Frame.upd_prefetch (b : Block) (v : _) : Block.Frame 16 b { b with prefetch := v } := by
  intro k hk; unfold Block.agree; split <;> first | rfl | trivial | (exfalso; revert hk; decide)
theorem Block.Frame.upd_tpStatus (b : Block) (v : _) : Block.Frame 32 b { b with tpStatus := v } := by
  intro k hk; unfold Block.agree; split <;> first | rfl | trivial | (exfalso; revert hk; decide)
theorem Block.Frame.upd_mp (b : Block) (v : _) : Block.Frame 64 b { b with mp := v } := by
  intro k hk; unfold Block.agree; split <;> first | rfl | trivial | (exfalso; revert hk; decide)
theorem Block.Frame.upd_loader (b : Block) (v : _) : Block.Frame 128 b { b with loader := v } := by
  intro k hk; unfold Block.agree; split <;> first | rfl | trivial | (exfalso; revert hk; decide)
theorem Block.Frame.upd_setting (b : Block) (v : _) : Block.Frame 256 b { b with setting := v } := by
  intro k hk; unfold Block.agree; split <;> first | rfl | trivial | (exfalso; revert hk; decide)
theorem Block.Frame.upd_lanes (b : Block) (v : _) : Block.Frame 512 b { b with lanes := v } := by
  intro k hk; unfold Block.agree; split <;> first | rfl | trivial | (exfalso; revert hk; decide)
theorem Block.Frame.upd_front (b : Block) (v : _) : Block.Frame 1024 b { b with front := v } := by
  intro k hk; unfold Block.agree; split <;> first | rfl | trivial | (exfalso; revert hk; decide)
theorem Block.Frame.upd_graph (b : Block) (v : _) : Block.Frame 2048 b { b with graph := v } := by
  intro k hk; unfold Block.agree; split <;> first | rfl | trivial | (exfalso; revert hk; decide)
theorem Block.Frame.upd_fences (b : Block) (v : _) : Block.Frame 4096 b { b with fences := v } := by
  intro k hk; unfold Block.agree; split <;> first | rfl | trivial | (exfalso; revert hk; decide)
theorem Block.Frame.upd_beads (b : Block) (v : _) : Block.Frame 8192 b { b with beads := v } := by
  intro k hk; unfold Block.agree; split <;> first | rfl | trivial | (exfalso; revert hk; decide)
theorem Block.Frame.upd_chans (b : Block) (v : _) : Block.Frame 16384 b { b with chans := v } := by
  intro k hk; unfold Block.agree; split <;> first | rfl | trivial | (exfalso; revert hk; decide)
theorem Block.Frame.upd_saffron (b : Block) (v : _) : Block.Frame 32768 b { b with saffron := v } := by
  intro k hk; unfold Block.agree; split <;> first | rfl | trivial | (exfalso; revert hk; decide)
theorem Block.Frame.upd_seq (b : Block) (v : _) : Block.Frame 65536 b { b with seq := v } := by
  intro k hk; unfold Block.agree; split <;> first | rfl | trivial | (exfalso; revert hk; decide)
theorem Block.Frame.upd_cqs (b : Block) (v : _) : Block.Frame 131072 b { b with cqs := v } := by
  intro k hk; unfold Block.agree; split <;> first | rfl | trivial | (exfalso; revert hk; decide)
theorem Block.Frame.upd_link (b : Block) (v : _) : Block.Frame 262144 b { b with link := v } := by
  intro k hk; unfold Block.agree; split <;> first | rfl | trivial | (exfalso; revert hk; decide)
theorem Block.Frame.upd_parts (b : Block) (v : _) : Block.Frame 524288 b { b with parts := v } := by
  intro k hk; unfold Block.agree; split <;> first | rfl | trivial | (exfalso; revert hk; decide)
theorem Block.Frame.upd_evc (b : Block) (v : _) : Block.Frame 1048576 b { b with evc := v } := by
  intro k hk; unfold Block.agree; split <;> first | rfl | trivial | (exfalso; revert hk; decide)
theorem Block.Frame.upd_experts (b : Block) (v : _) : Block.Frame 2097152 b { b with experts := v } := by
  intro k hk; unfold Block.agree; split <;> first | rfl | trivial | (exfalso; revert hk; decide)
theorem Block.Frame.upd_audit (b : Block) (v : _) : Block.Frame 4194304 b { b with audit := v } := by
  intro k hk; unfold Block.agree; split <;> first | rfl | trivial | (exfalso; revert hk; decide)
theorem Block.Frame.upd_trace (b : Block) (v : _) : Block.Frame 8388608 b { b with trace := v } := by
  intro k hk; unfold Block.agree; split <;> first | rfl | trivial | (exfalso; revert hk; decide)
theorem Block.Frame.upd_lkt (b : Block) (v : _) : Block.Frame 16777216 b { b with lkt := v } := by
  intro k hk; unfold Block.agree; split <;> first | rfl | trivial | (exfalso; revert hk; decide)
theorem Block.Frame.upd_power (b : Block) (v : _) : Block.Frame 33554432 b { b with power := v } := by
  intro k hk; unfold Block.agree; split <;> first | rfl | trivial | (exfalso; revert hk; decide)
theorem Block.Frame.upd_loader_setting (b : Block) (v0 : _) (v1 : _) : Block.Frame 384 b { b with loader := v0, setting := v1 } := by
  intro k hk; unfold Block.agree; split <;> first | rfl | trivial | (exfalso; revert hk; decide)
theorem Block.Frame.upd_free_seq (b : Block) (v0 : _) (v1 : _) : Block.Frame 65540 b { b with free := v0, seq := v1 } := by
  intro k hk; unfold Block.agree; split <;> first | rfl | trivial | (exfalso; revert hk; decide)
theorem Block.Frame.upd_free_experts (b : Block) (v0 : _) (v1 : _) : Block.Frame 2097156 b { b with free := v0, experts := v1 } := by
  intro k hk; unfold Block.agree; split <;> first | rfl | trivial | (exfalso; revert hk; decide)
theorem Block.Frame.upd_chans_saffron (b : Block) (v0 : _) (v1 : _) : Block.Frame 49152 b { b with chans := v0, saffron := v1 } := by
  intro k hk; unfold Block.agree; split <;> first | rfl | trivial | (exfalso; revert hk; decide)
theorem Block.Frame.upd_mp_evc_trace (b : Block) (v0 : _) (v1 : _) (v2 : _) : Block.Frame 9437248 b { b with mp := v0, evc := v1, trace := v2 } := by
  intro k hk; unfold Block.agree; split <;> first | rfl | trivial | (exfalso; revert hk; decide)
theorem Block.Frame.upd_now_front (b : Block) (v0 : _) (v1 : _) : Block.Frame 1025 b { b with now := v0, front := v1 } := by
  intro k hk; unfold Block.agree; split <;> first | rfl | trivial | (exfalso; revert hk; decide)
theorem Block.Frame.upd_loader_setting_parts_trace (b : Block) (v0 : _) (v1 : _) (v2 : _) (v3 : _) : Block.Frame 8913280 b { b with loader := v0, setting := v1, parts := v2, trace := v3 } := by
  intro k hk; unfold Block.agree; split <;> first | rfl | trivial | (exfalso; revert hk; decide)
theorem Block.Frame.upd_inReset_prefetch (b : Block) (v0 : _) (v1 : _) : Block.Frame 18 b { b with inReset := v0, prefetch := v1 } := by
  intro k hk; unfold Block.agree; split <;> first | rfl | trivial | (exfalso; revert hk; decide)
theorem Block.Frame.upd_loader_parts (b : Block) (v0 : _) (v1 : _) : Block.Frame 524416 b { b with loader := v0, parts := v1 } := by
  intro k hk; unfold Block.agree; split <;> first | rfl | trivial | (exfalso; revert hk; decide)
theorem Block.Frame.upd_loader_setting_parts (b : Block) (v0 : _) (v1 : _) (v2 : _) : Block.Frame 524672 b { b with loader := v0, setting := v1, parts := v2 } := by
  intro k hk; unfold Block.agree; split <;> first | rfl | trivial | (exfalso; revert hk; decide)
theorem Block.Frame.upd_loader_trace (b : Block) (v0 : _) (v1 : _) : Block.Frame 8388736 b { b with loader := v0, trace := v1 } := by
  intro k hk; unfold Block.agree; split <;> first | rfl | trivial | (exfalso; revert hk; decide)
theorem Block.Frame.upd_mp_loader_parts_trace (b : Block) (v0 : _) (v1 : _) (v2 : _) (v3 : _) : Block.Frame 8913088 b { b with mp := v0, loader := v1, parts := v2, trace := v3 } := by
  intro k hk; unfold Block.agree; split <;> first | rfl | trivial | (exfalso; revert hk; decide)

end Sys2Proof.Machine
end

