-- ==== Sys2Proof/Laws/FramesOps.lean ====
section
/-! SUPPORT. The fields each operation of Machine/Ops.lean can change, one frame per operation. -/

-- theorem after theorem, which bounds the memory of the compile
set_option Elab.async false

namespace Sys2Proof.Machine

theorem Block.modCwin_frame : ∀ (a0 : Block) (a1 : Nat) (a2 : Nat) (a3 : CWin → CWin), Block.Frame 2048 a0 (Block.modCwin a0 a1 a2 a3) := by
  intro a0 a1 a2 a3
  unfold Block.modCwin
  dsimp only
  refine .step ?_ (.upd_graph  _ _) rfl
  exact .refl _ _

theorem Block.ask_frame : ∀ (a0 : Block) (a1 : Nat) (a2 : Nat) (a3 : Nat) (a4 : Nat) (a5 : RPurpose), Block.Frame 64 a0 (Block.ask a0 a1 a2 a3 a4 a5) := by
  intro a0 a1 a2 a3 a4 a5
  unfold Block.ask
  refine .step ?_ (.upd_mp  _ _) rfl
  exact .refl _ _

theorem Block.modCq_frame : ∀ (a0 : Block) (a1 : Nat) (a2 : CQueue → CQueue), Block.Frame 131072 a0 (Block.modCq a0 a1 a2) := by
  intro a0 a1 a2
  unfold Block.modCq
  refine .step ?_ (.upd_cqs  _ _) rfl
  exact .refl _ _

theorem Block.modDom_frame : ∀ (a0 : Block) (a1 : Nat) (a2 : Domain → Domain), Block.Frame 33554432 a0 (Block.modDom a0 a1 a2) := by
  intro a0 a1 a2
  unfold Block.modDom
  dsimp only
  refine .step ?_ (.upd_power  _ _) rfl
  exact .refl _ _

theorem Block.modPart_frame : ∀ (a0 : Block) (a1 : Nat) (a2 : Machine.Part → Machine.Part), Block.Frame 524288 a0 (Block.modPart a0 a1 a2) := by
  intro a0 a1 a2
  unfold Block.modPart
  dsimp only
  refine .step ?_ (.upd_parts  _ _) rfl
  exact .refl _ _

theorem Block.modPeer_frame : ∀ (a0 : Block) (a1 : Nat) (a2 : Peer → Peer), Block.Frame 262144 a0 (Block.modPeer a0 a1 a2) := by
  intro a0 a1 a2
  unfold Block.modPeer
  dsimp only
  refine .step ?_ (.upd_link  _ _) rfl
  exact .refl _ _

theorem Block.locket_frame : ∀ (a0 : Block) (a1 : Nat) (a2 : Nat) (a3 : Nat) (a4 : Nat), Block.Frame 16777216 a0 (Block.locket a0 a1 a2 a3 a4) := by
  intro a0 a1 a2 a3 a4
  unfold Block.locket
  dsimp only
  refine .step ?_ (.upd_lkt  _ _) rfl
  exact .refl _ _

theorem Block.modEvGroup_frame : ∀ (a0 : Block) (a1 : Nat) (a2 : EvGroup → EvGroup), Block.Frame 1048576 a0 (Block.modEvGroup a0 a1 a2) := by
  intro a0 a1 a2
  unfold Block.modEvGroup
  dsimp only
  refine .step ?_ (.upd_evc  _ _) rfl
  exact .refl _ _

theorem Block.pendSource_frame : ∀ (a0 : Block) (a1 : Nat), Block.Frame 1048576 a0 (Block.pendSource a0 a1) := by
  intro a0 a1
  unfold Block.pendSource
  dsimp only
  refine .ite ?_ ?_
  · exact .refl _ _
  · refine .step ?_ (.upd_evc  _ _) rfl
    exact .refl _ _

theorem Block.modSaf_frame : ∀ (a0 : Block) (a1 : Nat) (a2 : Saffron → Saffron), Block.Frame 32768 a0 (Block.modSaf a0 a1 a2) := by
  intro a0 a1 a2
  unfold Block.modSaf
  refine .step ?_ (.upd_saffron  _ _) rfl
  exact .refl _ _

theorem Block.modSeq_frame : ∀ (a0 : Block) (a1 : Nat) (a2 : Machine.Seq → Machine.Seq), Block.Frame 65536 a0 (Block.modSeq a0 a1 a2) := by
  intro a0 a1 a2
  unfold Block.modSeq
  dsimp only
  refine .step ?_ (.upd_seq  _ _) rfl
  exact .refl _ _

theorem Block.modEvSrc_frame : ∀ (a0 : Block) (a1 : Nat) (a2 : EvSrc → EvSrc), Block.Frame 1048576 a0 (Block.modEvSrc a0 a1 a2) := by
  intro a0 a1 a2
  unfold Block.modEvSrc
  dsimp only
  refine .step ?_ (.upd_evc  _ _) rfl
  exact .refl _ _

theorem Block.modSub_frame : ∀ (a0 : Block) (a1 : Nat) (a2 : Machine.Sub → Machine.Sub), Block.Frame 2048 a0 (Block.modSub a0 a1 a2) := by
  intro a0 a1 a2
  unfold Block.modSub
  dsimp only
  refine .step ?_ (.upd_graph  _ _) rfl
  exact .refl _ _

theorem Block.modQueue_frame : ∀ (a0 : Block) (a1 : Nat) (a2 : Queue → Queue), Block.Frame 1024 a0 (Block.modQueue a0 a1 a2) := by
  intro a0 a1 a2
  unfold Block.modQueue
  dsimp only
  refine .step ?_ (.upd_front  _ _) rfl
  exact .refl _ _

theorem Block.traceEvent_frame : ∀ (a0 : Block) (a1 : Nat) (a2 : Nat) (a3 : Nat) (a4 : List Word), Block.Frame 9437184 a0 (Block.traceEvent a0 a1 a2 a3 a4) := by
  intro a0 a1 a2 a3 a4
  unfold Block.traceEvent
  dsimp only
  refine .ite ?_ ?_
  · exact .refl _ _
  · refine .ite ?_ ?_
    · refine .step ?_ (.upd_trace  _ _) rfl
      exact .refl _ _
    · refine .step ?_ (Block.pendSource_frame _ _) rfl
      refine .step ?_ (.upd_trace  _ _) rfl
      exact .refl _ _

theorem Block.modSeqCtx_frame : ∀ (a0 : Block) (a1 : Nat) (a2 : SeqCtx → SeqCtx), Block.Frame 65536 a0 (Block.modSeqCtx a0 a1 a2) := by
  intro a0 a1 a2
  unfold Block.modSeqCtx
  dsimp only
  refine .step ?_ (.upd_seq  _ _) rfl
  exact .refl _ _

theorem Block.modPbead_frame : ∀ (a0 : Block) (a1 : Nat) (a2 : PBead → PBead), Block.Frame 524288 a0 (Block.modPbead a0 a1 a2) := by
  intro a0 a1 a2
  unfold Block.modPbead
  dsimp only
  refine .step ?_ (.upd_parts  _ _) rfl
  exact .refl _ _

theorem Block.modFence_frame : ∀ (a0 : Block) (a1 : Nat) (a2 : Fence → Fence), Block.Frame 4096 a0 (Block.modFence a0 a1 a2) := by
  intro a0 a1 a2
  unfold Block.modFence
  dsimp only
  refine .step ?_ (.upd_fences  _ _) rfl
  exact .refl _ _

theorem Block.modHws_frame : ∀ (a0 : Block) (a1 : Nat) (a2 : Hws → Hws), Block.Frame 1024 a0 (Block.modHws a0 a1 a2) := by
  intro a0 a1 a2
  unfold Block.modHws
  dsimp only
  refine .step ?_ (.upd_front  _ _) rfl
  exact .refl _ _

theorem Block.put_frame : ∀ (a0 : Block) (a1 : Nat) (a2 : Nat) (a3 : Nat) (a4 : List Byte) (a5 : WPurpose), Block.Frame 64 a0 (Block.put a0 a1 a2 a3 a4 a5) := by
  intro a0 a1 a2 a3 a4 a5
  unfold Block.put
  refine .step ?_ (.upd_mp  _ _) rfl
  exact .refl _ _

theorem Block.modCtx_frame : ∀ (a0 : Block) (a1 : Nat) (a2 : Ctx → Ctx), Block.Frame 524288 a0 (Block.modCtx a0 a1 a2) := by
  intro a0 a1 a2
  unfold Block.modCtx
  dsimp only
  refine .step ?_ (.upd_parts  _ _) rfl
  exact .refl _ _

theorem Block.modEvTarget_frame : ∀ (a0 : Block) (a1 : Nat) (a2 : EvTarget → EvTarget), Block.Frame 1048576 a0 (Block.modEvTarget a0 a1 a2) := by
  intro a0 a1 a2
  unfold Block.modEvTarget
  dsimp only
  refine .step ?_ (.upd_evc  _ _) rfl
  exact .refl _ _

theorem Block.claspLocket_frame : ∀ (a0 : Block) (a1 : Nat) (a2 : Nat), Block.Frame 16777216 a0 (Block.claspLocket a0 a1 a2) := by
  intro a0 a1 a2
  unfold Block.claspLocket
  refine .step ?_ (Block.locket_frame _ _ _ _ _) rfl
  exact .refl _ _

theorem Block.modChan_frame : ∀ (a0 : Block) (a1 : Nat) (a2 : Chan → Chan), Block.Frame 16384 a0 (Block.modChan a0 a1 a2) := by
  intro a0 a1 a2
  unfold Block.modChan
  refine .step ?_ (.upd_chans  _ _) rfl
  exact .refl _ _

theorem Block.modBead_frame : ∀ (a0 : Block) (a1 : Nat) (a2 : Bead → Bead), Block.Frame 8192 a0 (Block.modBead a0 a1 a2) := by
  intro a0 a1 a2
  unfold Block.modBead
  refine .step ?_ (.upd_beads  _ _) rfl
  exact .refl _ _

theorem Block.modLane_frame : ∀ (a0 : Block) (a1 : Nat) (a2 : Lane → Lane), Block.Frame 512 a0 (Block.modLane a0 a1 a2) := by
  intro a0 a1 a2
  unfold Block.modLane
  refine .step ?_ (.upd_lanes  _ _) rfl
  exact .refl _ _

theorem Block.progress_frame : ∀ (a0 : Block) (a1 : Nat) (a2 : Nat), Block.Frame 1024 a0 (Block.progress a0 a1 a2) := by
  intro a0 a1 a2
  unfold Block.progress
  dsimp only
  refine .step ?_ (.upd_front  _ _) rfl
  exact .refl _ _

theorem Block.drawWords_frame : ∀ (a0 : Block) (a1 : Nat), Block.Frame 4 a0 (Block.drawWords a0 a1).2 := by
  intro a0 a1
  unfold Block.drawWords
  dsimp only
  refine .step ?_ (.upd_free  _ _) rfl
  exact .refl _ _

theorem Block.draw_frame : ∀ (a0 : Block), Block.Frame 4 a0 (Block.draw a0).2 := by
  intro a0
  unfold Block.draw
  dsimp only
  refine .step ?_ (.upd_free  _ _) rfl
  exact .refl _ _

theorem Block.raise_frame : ∀ (a0 : Block) (a1 : Nat), Block.Frame 9437184 a0 (Block.raise a0 a1) := by
  intro a0 a1
  unfold Block.raise
  dsimp only
  refine .ite ?_ ?_
  · refine .step ?_ (Block.traceEvent_frame _ _ _ _ _) rfl
    refine .step ?_ (Block.pendSource_frame _ _) rfl
    exact .refl _ _
  · refine .step ?_ (Block.pendSource_frame _ _) rfl
    exact .refl _ _

theorem Block.modNode_frame : ∀ (a0 : Block) (a1 : Nat) (a2 : Nat) (a3 : Node → Node), Block.Frame 2048 a0 (Block.modNode a0 a1 a2 a3) := by
  intro a0 a1 a2 a3
  unfold Block.modNode
  refine .step ?_ (Block.modSub_frame _ _ _) rfl
  exact .refl _ _

theorem Block.modSlot_frame : ∀ (a0 : Block) (a1 : Nat) (a2 : Nat) (a3 : Slot → Slot), Block.Frame 8192 a0 (Block.modSlot a0 a1 a2 a3) := by
  intro a0 a1 a2 a3
  unfold Block.modSlot
  refine .step ?_ (Block.modBead_frame _ _ _) rfl
  exact .refl _ _

theorem Block.mpError_frame : ∀ (a0 : Block) (a1 : Nat) (a2 : Bool) (a3 : Nat) (a4 : Nat) (a5 : BitVec 2) (a6 : Nat), Block.Frame 9437248 a0 (Block.mpError a0 a1 a2 a3 a4 a5 a6) := by
  intro a0 a1 a2 a3 a4 a5 a6
  unfold Block.mpError
  dsimp only
  refine .ite ?_ ?_
  · refine .step ?_ (Block.raise_frame _ _) rfl
    refine .step ?_ (.upd_mp  _ _) rfl
    exact .refl _ _
  · refine .step ?_ (Block.raise_frame _ _) rfl
    refine .step ?_ (.upd_mp  _ _) rfl
    exact .refl _ _

theorem Block.viewErrors_frame : ∀ (a0 : Block) (a1 : Nat) (a2 : Nat) (a3 : MemView) (a4 : Nat) (a5 : Nat), Block.Frame 9437248 a0 (Block.viewErrors a0 a1 a2 a3 a4 a5) := by
  intro a0 a1 a2 a3 a4 a5
  unfold Block.viewErrors
  refine .foldl ?_ _ ?_
  · intro b x
    refine .step ?_ (Block.mpError_frame _ _ _ _ _ _ _) rfl
    exact .refl _ _
  · exact .refl _ _

theorem Block.modRx_frame : ∀ (a0 : Block) (a1 : Nat) (a2 : Nat) (a3 : RxQueue → RxQueue), Block.Frame 16384 a0 (Block.modRx a0 a1 a2 a3) := by
  intro a0 a1 a2 a3
  unfold Block.modRx
  refine .step ?_ (Block.modChan_frame _ _ _) rfl
  exact .refl _ _

theorem Block.modTx_frame : ∀ (a0 : Block) (a1 : Nat) (a2 : Nat) (a3 : TxPort → TxPort), Block.Frame 16384 a0 (Block.modTx a0 a1 a2 a3) := by
  intro a0 a1 a2 a3
  unfold Block.modTx
  refine .step ?_ (Block.modChan_frame _ _ _) rfl
  exact .refl _ _

theorem Block.modWin_frame : ∀ (a0 : Block) (a1 : Nat) (a2 : Nat) (a3 : WinEntry → WinEntry), Block.Frame 8192 a0 (Block.modWin a0 a1 a2 a3) := by
  intro a0 a1 a2 a3
  unfold Block.modWin
  refine .step ?_ (Block.modBead_frame _ _ _) rfl
  exact .refl _ _

end Sys2Proof.Machine
end

