-- ==== Sys2Proof/Laws/FramesOperands.lean ====
section
/-! SUPPORT. The fields each operation of Machine/Operands.lean can change, one frame per operation. -/

-- theorem after theorem, which bounds the memory of the compile
set_option Elab.async false

namespace Sys2Proof.Machine

theorem Block.recordUnreachable_frame : ∀ (a0 : Block) (a1 : Nat) (a2 : Bool), Block.Frame 9437216 a0 (Block.recordUnreachable a0 a1 a2) := by
  intro a0 a1 a2
  unfold Block.recordUnreachable
  refine .ite ?_ ?_
  · refine .step ?_ (Block.raise_frame _ _) rfl
    refine .step ?_ (.upd_tpStatus  _ _) rfl
    exact .refl _ _
  · refine .step ?_ (Block.raise_frame _ _) rfl
    refine .step ?_ (.upd_tpStatus  _ _) rfl
    exact .refl _ _

end Sys2Proof.Machine
end

