-- ==== Sys2Proof/Laws/FramesLanes.lean ====
section
/-! SUPPORT. The fields each operation of Machine/Lanes.lean can change, one frame per operation. -/

-- theorem after theorem, which bounds the memory of the compile
set_option Elab.async false

namespace Sys2Proof.Machine

theorem Block.beadLocket_frame : ∀ (a0 : Params) (a1 : Block) (a2 : Nat) (a3 : Nat) (a4 : Nat) (a5 : Nat), Block.Frame 16777216 a1 (Block.beadLocket a0 a1 a2 a3 a4 a5) := by
  intro a0 a1 a2 a3 a4 a5
  unfold Block.beadLocket
  dsimp only
  refine .step ?_ (.upd_lkt  _ _) rfl
  exact .refl _ _

theorem Block.sendUp_frame : ∀ (a0 : Params) (a1 : Block) (a2 : Nat) (a3 : Rec), Block.Frame 512 a1 (Block.sendUp a0 a1 a2 a3) := by
  intro a0 a1 a2 a3
  unfold Block.sendUp
  refine .step ?_ (Block.modLane_frame _ _ _) rfl
  exact .refl _ _

theorem tokenClasp_frame : ∀ (a0 : Nat) (a1 : Nat) (a2 : Block), Block.Frame 512 a2 (tokenClasp a0 a1 a2) := by
  intro a0 a1 a2
  unfold tokenClasp
  dsimp only
  refine .ite ?_ ?_
  · refine .step ?_ (Block.modLane_frame _ _ _) rfl
    exact .refl _ _
  · exact .refl _ _

theorem Block.sendEcho_frame : ∀ (a0 : Block) (a1 : Nat), Block.Frame 512 a0 (Block.sendEcho a0 a1) := by
  intro a0 a1
  unfold Block.sendEcho
  dsimp only
  refine .step ?_ (Block.modLane_frame _ _ _) rfl
  exact .refl _ _

theorem Block.startLanes_frame : ∀ (a0 : Block), Block.Frame 512 a0 (Block.startLanes a0) := by
  intro a0
  unfold Block.startLanes
  refine .foldl ?_ _ ?_
  · intro b x
    refine .step ?_ (Block.modLane_frame _ _ _) rfl
    exact .refl _ _
  · exact .refl _ _

theorem Block.beadTrace_frame : ∀ (a0 : Params) (a1 : Block) (a2 : Nat) (a3 : Nat) (a4 : Nat) (a5 : Nat) (a6 : List Word), Block.Frame 8192 a1 (Block.beadTrace a0 a1 a2 a3 a4 a5 a6) := by
  intro a0 a1 a2 a3 a4 a5 a6
  unfold Block.beadTrace
  dsimp only
  refine .step ?_ (Block.modBead_frame _ _ _) rfl
  exact .refl _ _

theorem lnkAckTimer_frame : ∀ (a0 : Nat) (a1 : Bool) (a2 : Block), Block.Frame 512 a2 (lnkAckTimer a0 a1 a2) := by
  intro a0 a1 a2
  unfold lnkAckTimer
  refine .step ?_ (Block.modLane_frame _ _ _) rfl
  exact .refl _ _

theorem nakRepeat_frame : ∀ (a0 : Nat) (a1 : Bool) (a2 : Block), Block.Frame 512 a2 (nakRepeat a0 a1 a2) := by
  intro a0 a1 a2
  unfold nakRepeat
  refine .step ?_ (Block.modLane_frame _ _ _) rfl
  exact .refl _ _

theorem trainDoneRise_frame : ∀ (a0 : Nat) (a1 : Bool) (a2 : Block), Block.Frame 512 a2 (trainDoneRise a0 a1 a2) := by
  intro a0 a1 a2
  unfold trainDoneRise
  dsimp only
  refine .step ?_ (Block.modLane_frame _ _ _) rfl
  exact .refl _ _

theorem Block.sendTime_frame : ∀ (a0 : Block) (a1 : Nat), Block.Frame 512 a0 (Block.sendTime a0 a1) := by
  intro a0 a1
  unfold Block.sendTime
  dsimp only
  refine .step ?_ (Block.modLane_frame _ _ _) rfl
  exact .refl _ _

theorem recordCrcError_frame : ∀ (a0 : Nat) (a1 : Bool) (a2 : Nat) (a3 : List (BitVec 18)) (a4 : Block), Block.Frame 512 a4 (recordCrcError a0 a1 a2 a3 a4) := by
  intro a0 a1 a2 a3 a4
  unfold recordCrcError
  refine .ite ?_ ?_
  · exact .refl _ _
  · refine .step ?_ (Block.modLane_frame _ _ _) rfl
    exact .refl _ _

theorem Block.Frame.onLane {t : Nat} {a b : Block} {l : Nat} {up : Bool} {rs : List Rec} {f : Block → Block}
    (hm : 512 ||| t = t) (hf : ∀ b, Block.Frame t b (f b)) (h : Block.Frame t a b) : Block.Frame t a (b.onLane l up rs f) := by
  unfold Block.onLane
  split
  · exact (h.step (Block.modLane_frame _ _ _) hm).step (hf _) (by simp)
  · exact h

theorem timeEchoRequest_frame : ∀ (a0 : Nat) (a1 : Block), Block.Frame 512 a1 (timeEchoRequest a0 a1) := by
  intro a0 a1
  unfold timeEchoRequest
  refine .onLane rfl ?_ ?_
  · intro b
    refine .step ?_ (Block.modLane_frame _ _ _) rfl
    exact .refl _ _
  · exact .refl _ _

theorem Block.sendDown_frame : ∀ (a0 : Params) (a1 : Block) (a2 : Nat) (a3 : Rec), Block.Frame 512 a1 (Block.sendDown a0 a1 a2 a3) := by
  intro a0 a1 a2 a3
  unfold Block.sendDown
  refine .ite ?_ ?_
  · exact .refl _ _
  · refine .step ?_ (Block.modLane_frame _ _ _) rfl
    exact .refl _ _

theorem Block.enteredRun_frame : ∀ (a0 : Block) (a1 : Nat), Block.Frame 512 a0 (Block.enteredRun a0 a1) := by
  intro a0 a1
  unfold Block.enteredRun
  refine .ite ?_ ?_
  · exact .refl _ _
  · refine .ite ?_ ?_
    · refine .step ?_ (Block.sendTime_frame _ _) rfl
      exact .refl _ _
    · refine .step ?_ (Block.sendEcho_frame _ _) rfl
      exact .refl _ _

theorem timeLoad_frame : ∀ (a0 : Nat) (a1 : Word) (a2 : Block), Block.Frame 512 a2 (timeLoad a0 a1 a2) := by
  intro a0 a1 a2
  unfold timeLoad
  refine .onLane rfl ?_ ?_
  · intro b
    refine .step ?_ (Block.modLane_frame _ _ _) rfl
    exact .refl _ _
  · exact .refl _ _

theorem Block.Frame.onDown {t : Nat} {p : Params} {a b : Block} {n : Nat} {r : Rec} {f : Block → Block}
    (hm : 512 ||| t = t) (hf : ∀ b, Block.Frame t b (f b)) (h : Block.Frame t a b) : Block.Frame t a (b.onDown p n r f) := by
  unfold Block.onDown
  exact .onLane hm hf h

theorem timePeriodic_frame : ∀ (a0 : Nat) (a1 : Block), Block.Frame 512 a1 (timePeriodic a0 a1) := by
  intro a0 a1
  unfold timePeriodic
  dsimp only
  refine .ite ?_ ?_
  · refine .step ?_ (Block.sendTime_frame _ _) rfl
    exact .refl _ _
  · exact .refl _ _

theorem Block.Frame.onUp {t : Nat} {p : Params} {a b : Block} {n : Nat} {r : Rec} {f : Block → Block}
    (hm : 512 ||| t = t) (hf : ∀ b, Block.Frame t b (f b)) (h : Block.Frame t a b) : Block.Frame t a (b.onUp p n r f) := by
  unfold Block.onUp
  exact .onLane hm (fun b => .ite (.refl _ _) (hf b)) h

theorem Block.echoed_frame : ∀ (a0 : Block) (a1 : Nat) (a2 : Nat), Block.Frame 512 a0 (Block.echoed a0 a1 a2) := by
  intro a0 a1 a2
  unfold Block.echoed
  dsimp only
  refine .ite ?_ ?_
  · exact .refl _ _
  · refine .ite ?_ ?_
    · refine .step ?_ (Block.sendEcho_frame _ _) rfl
      refine .step ?_ (Block.modLane_frame _ _ _) rfl
      exact .refl _ _
    · refine .ite ?_ ?_
      · refine .step ?_ (Block.modLane_frame _ _ _) rfl
        refine .step ?_ (Block.modLane_frame _ _ _) rfl
        exact .refl _ _
      · refine .step ?_ (Block.sendTime_frame _ _) rfl
        refine .step ?_ (Block.modLane_frame _ _ _) rfl
        refine .step ?_ (Block.modLane_frame _ _ _) rfl
        exact .refl _ _

theorem timeEchoAnswer_frame : ∀ (a0 : Nat) (a1 : Nat) (a2 : Block), Block.Frame 512 a2 (timeEchoAnswer a0 a1 a2) := by
  intro a0 a1 a2
  unfold timeEchoAnswer
  refine .onLane rfl ?_ ?_
  · intro b
    refine .step ?_ (Block.echoed_frame _ _ _) rfl
    exact .refl _ _
  · exact .refl _ _

end Sys2Proof.Machine
end

