-- ==== Sys2Proof/Laws/FramesFences.lean ====
section
/-! SUPPORT. The fields each operation of Machine/Fences.lean can change, one frame per operation. -/

-- theorem after theorem, which bounds the memory of the compile
set_option Elab.async false

namespace Sys2Proof.Machine

theorem Block.withdrawSub_frame : ∀ (a0 : Block) (a1 : Nat), Block.Frame 4096 a0 (Block.withdrawSub a0 a1) := by
  intro a0 a1
  unfold Block.withdrawSub
  dsimp only
  refine .step ?_ (.upd_fences  _ _) rfl
  exact .refl _ _

theorem fncReject_frame : ∀ (a0 : Nat) (a1 : Block), Block.Frame 4096 a1 (fncReject a0 a1) := by
  intro a0 a1
  unfold fncReject
  dsimp only
  refine .step ?_ (.upd_fences  _ _) rfl
  exact .refl _ _

theorem fncAccept_frame : ∀ (a0 : Nat) (a1 : Block), Block.Frame 4096 a1 (fncAccept a0 a1) := by
  intro a0 a1
  unfold fncAccept
  dsimp only
  refine .step ?_ (.upd_fences  _ _) rfl
  exact .refl _ _

theorem Block.traceFence_frame : ∀ (a0 : Block) (a1 : Nat) (a2 : BitVec 16) (a3 : Status), Block.Frame 9437184 a0 (Block.traceFence a0 a1 a2 a3) := by
  intro a0 a1 a2 a3
  unfold Block.traceFence
  refine .step ?_ (Block.traceEvent_frame _ _ _ _ _) rfl
  exact .refl _ _

theorem fncClrCount_frame : ∀ (a0 : Block), Block.Frame 4096 a0 (fncClrCount a0) := by
  intro a0
  unfold fncClrCount
  dsimp only
  refine .step ?_ (.upd_fences  _ _) rfl
  exact .refl _ _

theorem Block.withdraw_frame : ∀ (a0 : Block) (a1 : Nat) (a2 : Nat), Block.Frame 4096 a0 (Block.withdraw a0 a1 a2) := by
  intro a0 a1 a2
  unfold Block.withdraw
  dsimp only
  refine .step ?_ (.upd_fences  _ _) rfl
  exact .refl _ _

theorem fncAlloc_frame : ∀ (a0 : Nat) (a1 : Nat) (a2 : Block), Block.Frame 4096 a2 (fncAlloc a0 a1 a2) := by
  intro a0 a1 a2
  unfold fncAlloc
  refine .ite ?_ ?_
  · refine .step ?_ (Block.modFence_frame _ _ _) rfl
    refine .step ?_ (fncAccept_frame _ _) rfl
    exact .refl _ _
  · refine .step ?_ (fncReject_frame _ _) rfl
    exact .refl _ _

theorem Block.registerWait_frame : ∀ (a0 : Block) (a1 : Handle) (a2 : Nat) (a3 : Nat), Block.Frame 4096 a0 (Block.registerWait a0 a1 a2 a3).2 := by
  intro a0 a1 a2 a3
  unfold Block.registerWait
  dsimp only
  split
  · dsimp only
    exact .refl _ _
  · dsimp only
    refine .step ?_ (.upd_fences  _ _) rfl
    exact .refl _ _

theorem fncClear_frame : ∀ (a0 : Nat) (a1 : Block), Block.Frame 4096 a1 (fncClear a0 a1) := by
  intro a0 a1
  unfold fncClear
  refine .ite ?_ ?_
  · refine .step ?_ (Block.modFence_frame _ _ _) rfl
    refine .step ?_ (fncAccept_frame _ _) rfl
    exact .refl _ _
  · refine .step ?_ (fncReject_frame _ _) rfl
    exact .refl _ _

theorem fncFree_frame : ∀ (a0 : Nat) (a1 : Block), Block.Frame 4096 a1 (fncFree a0 a1) := by
  intro a0 a1
  unfold fncFree
  refine .ite ?_ ?_
  · refine .step ?_ (Block.modFence_frame _ _ _) rfl
    refine .step ?_ (fncAccept_frame _ _) rfl
    exact .refl _ _
  · refine .step ?_ (fncReject_frame _ _) rfl
    exact .refl _ _

theorem Block.giveOutcome_frame : ∀ (a0 : Block) (a1 : Wait) (a2 : Status) (a3 : Option Nat), Block.Frame 2048 a0 (Block.giveOutcome a0 a1 a2 a3) := by
  intro a0 a1 a2 a3
  unfold Block.giveOutcome
  refine .step ?_ (Block.modNode_frame _ _ _ _) rfl
  exact .refl _ _

theorem fncWrite_frame : ∀ (a0 : Word) (a1 : Block), Block.Frame 4096 a1 (fncWrite a0 a1) := by
  intro a0 a1
  unfold fncWrite
  dsimp only
  split
  · refine .step ?_ (fncAlloc_frame _ _ _) rfl
    exact .refl _ _
  · refine .step ?_ (fncFree_frame _ _) rfl
    exact .refl _ _
  · refine .step ?_ (fncClear_frame _ _) rfl
    exact .refl _ _
  · refine .step ?_ (.upd_fences  _ _) rfl
    refine .step ?_ (fncClrCount_frame _) rfl
    exact .refl _ _
  · refine .step ?_ (fncReject_frame _ _) rfl
    exact .refl _ _

theorem Block.giveTurn_frame : ∀ (a0 : Block) (a1 : Turn) (a2 : Bool) (a3 : Status), Block.Frame 264192 a0 (Block.giveTurn a0 a1 a2 a3) := by
  intro a0 a1 a2 a3
  unfold Block.giveTurn
  dsimp only
  split
  · refine .step ?_ (Block.modNode_frame _ _ _ _) rfl
    exact .refl _ _
  · exact .refl _ _
  · refine .ite ?_ ?_
    · exact .refl _ _
    · refine .step ?_ (.upd_link  _ _) rfl
      exact .refl _ _

theorem Block.releaseEnded_frame : ∀ (a0 : Block) (a1 : Nat), Block.Frame 268288 a0 (Block.releaseEnded a0 a1) := by
  intro a0 a1
  unfold Block.releaseEnded
  dsimp only
  refine .foldl ?_ _ ?_
  · intro b x
    refine .step ?_ (Block.giveTurn_frame _ _ _ _) rfl
    exact .refl _ _
  · refine .foldl ?_ _ ?_
    · intro b x
      refine .step ?_ (Block.giveOutcome_frame _ _ _ _) rfl
      exact .refl _ _
    · refine .step ?_ (.upd_fences  _ _) rfl
      exact .refl _ _

theorem Block.poisonGen_frame : ∀ (a0 : Block) (a1 : Nat) (a2 : BitVec 16) (a3 : Status), Block.Frame 9705472 a0 (Block.poisonGen a0 a1 a2 a3) := by
  intro a0 a1 a2 a3
  unfold Block.poisonGen
  dsimp only
  refine .ite ?_ ?_
  · refine .step ?_ (Block.traceFence_frame _ _ _ _) rfl
    refine .step ?_ (Block.releaseEnded_frame _ _) rfl
    refine .step ?_ (Block.modFence_frame _ _ _) rfl
    exact .refl _ _
  · exact .refl _ _

theorem Block.endGen_frame : ∀ (a0 : Block) (a1 : Nat) (a2 : BitVec 16) (a3 : Nat) (a4 : Bool), Block.Frame 9705472 a0 (Block.endGen a0 a1 a2 a3 a4) := by
  intro a0 a1 a2 a3 a4
  unfold Block.endGen
  dsimp only
  refine .step ?_ (Block.traceFence_frame _ _ _ _) rfl
  refine .foldl ?_ _ ?_
  · intro b x
    refine .step ?_ (Block.giveTurn_frame _ _ _ _) rfl
    exact .refl _ _
  · refine .foldl ?_ _ ?_
    · intro b x
      refine .step ?_ (Block.giveOutcome_frame _ _ _ _) rfl
      exact .refl _ _
    · refine .step ?_ (.upd_fences  _ _) rfl
      refine .step ?_ (Block.modFence_frame _ _ _) rfl
      exact .refl _ _

theorem Block.runTurns_frame : ∀ (a0 : Nat) (a1 : Block) (a2 : Nat), Block.Frame 9705472 a1 (Block.runTurns a0 a1 a2) := by
  intro a0 a1 a2
  induction a0 generalizing a1 a2
  · unfold Block.runTurns
    exact .refl _ _
  · rename_i k ih
    unfold Block.runTurns
    dsimp only
    split
    · exact .refl _ _
    · refine .step ?_ (ih _ _) rfl
      refine .step ?_ (Block.endGen_frame _ _ _ _ _) rfl
      refine .step ?_ (Block.giveTurn_frame _ _ _ _) rfl
      refine .step ?_ (.upd_fences  _ _) rfl
      exact .refl _ _

theorem Block.poisonOwned_frame : ∀ (a0 : Block) (a1 : Nat), Block.Frame 9705472 a0 (Block.poisonOwned a0 a1) := by
  intro a0 a1
  unfold Block.poisonOwned
  dsimp only
  refine .foldl ?_ _ ?_
  · intro b x
    refine .step ?_ (Block.poisonGen_frame _ _ _ _) rfl
    exact .refl _ _
  · exact .refl _ _

theorem Block.signalFence_frame : ∀ (a0 : Block) (a1 : Nat) (a2 : BitVec 16) (a3 : Bool) (a4 : Nat) (a5 : TurnBy), Block.Frame 9705472 a0 (Block.signalFence a0 a1 a2 a3 a4 a5).2 := by
  intro a0 a1 a2 a3 a4 a5
  unfold Block.signalFence
  dsimp only
  split
  · dsimp only
    exact .refl _ _
  · split
    · dsimp only
      refine .step ?_ (Block.runTurns_frame _ _ _) rfl
      refine .step ?_ (Block.endGen_frame _ _ _ _ _) rfl
      exact .refl _ _
    · dsimp only
      refine .step ?_ (.upd_fences  _ _) rfl
      exact .refl _ _

theorem Block.poisonHandle_frame : ∀ (a0 : Block) (a1 : Handle) (a2 : Status) (a3 : Bool) (a4 : Nat), Block.Frame 9705472 a0 (Block.poisonHandle a0 a1 a2 a3 a4).2 := by
  intro a0 a1 a2 a3 a4
  unfold Block.poisonHandle
  dsimp only
  split
  · dsimp only
    exact .refl _ _
  · dsimp only
    refine .step ?_ (Block.poisonGen_frame _ _ _ _) rfl
    exact .refl _ _

end Sys2Proof.Machine
end

