-- ==== Sys2Proof/Laws/FramesLinkPort.lean ====
section
/-! SUPPORT. The fields each operation of Machine/LinkPort.lean can change, one frame per operation. -/

-- theorem after theorem, which bounds the memory of the compile
set_option Elab.async false

namespace Sys2Proof.Machine

theorem Block.txStart_frame : ∀ (a0 : Block), Block.Frame 262144 a0 (Block.txStart a0) := by
  intro a0
  unfold Block.txStart
  dsimp only
  refine .ite ?_ ?_
  · exact .refl _ _
  · refine .step ?_ (.upd_link  _ _) rfl
    exact .refl _ _

theorem Block.txPut_frame : ∀ (a0 : Block) (a1 : TxPacket), Block.Frame 262144 a0 (Block.txPut a0 a1) := by
  intro a0 a1
  unfold Block.txPut
  dsimp only
  refine .step ?_ (Block.txStart_frame _) rfl
  refine .step ?_ (.upd_link  _ _) rfl
  exact .refl _ _

theorem Block.tryPoison_frame {b b' : Block} {x : Nat} {h : BitVec 32} {st : Status}
    (e : b.tryPoison x h st = some b') : Block.Frame 262144 b b' := by
  unfold Block.tryPoison at e
  split at e
  · cases e
  · dsimp only at e
    split at e
    · cases e
      exact (Block.Frame.refl _ _).step (Block.txPut_frame _ _) rfl
    · cases e

theorem Block.remotePoison_frame (b : Block) (x : Nat) (h : BitVec 32) (st : Status) :
    Block.Frame 262144 b (b.remotePoison x h st) := by
  unfold Block.remotePoison
  split
  · exact .refl _ _
  · split
    · rename_i e; exact .step (.refl _ _) (Block.tryPoison_frame e) rfl
    · exact .step (.refl _ _) (.upd_link _ _) rfl

theorem Block.flushPoisons_frame (b : Block) : Block.Frame 262144 b b.flushPoisons := by
  unfold Block.flushPoisons
  dsimp only
  refine .foldl ?_ _ (.step (.refl _ _) (.upd_link _ _) rfl)
  intro b q
  split
  · rename_i e; exact .step (.refl _ _) (Block.tryPoison_frame e) rfl
  · exact .step (.refl _ _) (.upd_link _ _) rfl

end Sys2Proof.Machine
end

