-- ==== Sys2Proof/Laws/FramesSetting.lean ====
section
/-! SUPPORT. The fields each operation of Machine/Setting.lean can change, one frame per operation. -/

-- theorem after theorem, which bounds the memory of the compile
set_option Elab.async false

namespace Sys2Proof.Machine

theorem Block.sendSection_frame : ∀ (a0 : Params) (a1 : Block) (a2 : Nat) (a3 : SecRec), Block.Frame 512 a1 (Block.sendSection a0 a1 a2 a3) := by
  intro a0 a1 a2 a3
  unfold Block.sendSection
  refine .foldl ?_ _ ?_
  · intro b x
    refine .step ?_ (Block.sendDown_frame _ _ _ _) rfl
    exact .refl _ _
  · exact .refl _ _

end Sys2Proof.Machine
end

