-- ==== Sys2Proof/Laws/FramesCheck.lean ====
section
/-! SUPPORT. The fields each operation of Machine/Check.lean can change, one frame per operation. -/

-- theorem after theorem, which bounds the memory of the compile
set_option Elab.async false

namespace Sys2Proof.Machine

theorem Block.checkErrors_frame : ∀ (a0 : Block) (a1 : CheckFor) (a2 : MemView) (a3 : Status) (a4 : List Word), Block.Frame 9437248 a0 (Block.checkErrors a0 a1 a2 a3 a4) := by
  intro a0 a1 a2 a3 a4
  unfold Block.checkErrors
  dsimp only
  refine .ite ?_ ?_
  · exact .refl _ _
  · refine .ite ?_ ?_
    · refine .step ?_ (Block.viewErrors_frame _ _ _ _ _ _) rfl
      refine .step ?_ (Block.viewErrors_frame _ _ _ _ _ _) rfl
      exact .refl _ _
    · refine .step ?_ (Block.viewErrors_frame _ _ _ _ _ _) rfl
      exact .refl _ _

theorem Block.poisonSignal_frame : ∀ (a0 : Block) (a1 : Bool) (a2 : Nat) (a3 : MemView) (a4 : Nat) (a5 : Status), Block.Frame 9705472 a0 (Block.poisonSignal a0 a1 a2 a3 a4 a5) := by
  intro a0 a1 a2 a3 a4 a5
  unfold Block.poisonSignal
  dsimp only
  refine .ite ?_ ?_
  · exact .refl _ _
  · refine .ite ?_ ?_
    · refine .step ?_ (Block.remotePoison_frame _ _ _ _) rfl
      exact .refl _ _
    · refine .step ?_ (Block.poisonHandle_frame _ _ _ _ _) rfl
      exact .refl _ _

theorem Block.poisonSignals_frame : ∀ (a0 : Block) (a1 : Bool) (a2 : Nat) (a3 : MemView) (a4 : Nat) (a5 : Nat) (a6 : Status), Block.Frame 9705472 a0 (Block.poisonSignals a0 a1 a2 a3 a4 a5 a6) := by
  intro a0 a1 a2 a3 a4 a5 a6
  unfold Block.poisonSignals
  refine .foldl ?_ _ ?_
  · intro b x
    refine .step ?_ (Block.poisonSignal_frame _ _ _ _ _ _) rfl
    exact .refl _ _
  · exact .refl _ _

end Sys2Proof.Machine
end

