-- ==== Sys2Proof/Laws/FramesHalt.lean ====
section
/-! SUPPORT. The fields each operation of Machine/Halt.lean can change, one frame per operation. -/

-- theorem after theorem, which bounds the memory of the compile
set_option Elab.async false

namespace Sys2Proof.Machine

theorem Block.haltBead_frame : ∀ (a0 : Params) (a1 : Block) (a2 : Nat), Block.Frame 524800 a1 (Block.haltBead a0 a1 a2) := by
  intro a0 a1 a2
  unfold Block.haltBead
  refine .ite ?_ ?_
  · refine .step ?_ (Block.modPbead_frame _ _ _) rfl
    refine .step ?_ (Block.sendDown_frame _ _ _ _) rfl
    exact .refl _ _
  · exact .refl _ _

theorem Block.breakpointStop_frame : ∀ (a0 : Params) (a1 : Block) (a2 : Nat) (a3 : Nat), Block.Frame 17302016 a1 (Block.breakpointStop a0 a1 a2 a3) := by
  intro a0 a1 a2 a3
  unfold Block.breakpointStop
  dsimp only
  refine .foldl ?_ _ ?_
  · intro b x
    refine .step ?_ (Block.haltBead_frame _ _ _) rfl
    exact .refl _ _
  · refine .ite ?_ ?_
    · refine .step ?_ (Block.modPart_frame _ _ _) rfl
      refine .step ?_ (.upd_lkt  _ _) rfl
      exact .refl _ _
    · refine .step ?_ (Block.modPbead_frame _ _ _) rfl
      refine .step ?_ (Block.modPart_frame _ _ _) rfl
      refine .step ?_ (.upd_lkt  _ _) rfl
      exact .refl _ _

end Sys2Proof.Machine
end

