-- ==== Sys2Proof/Laws/FramesGraph.lean ====
section
/-! SUPPORT. The fields each operation of Machine/Graph.lean can change, one frame per operation. -/

-- theorem after theorem, which bounds the memory of the compile
set_option Elab.async false

namespace Sys2Proof.Machine

theorem Block.noteMet_frame : ∀ (a0 : Block), Block.Frame 2048 a0 (Block.noteMet a0) := by
  intro a0
  unfold Block.noteMet
  dsimp only
  refine .step ?_ (.upd_graph  _ _) rfl
  exact .refl _ _

theorem Block.countStale_frame : ∀ (a0 : Block), Block.Frame 2048 a0 (Block.countStale a0) := by
  intro a0
  unfold Block.countStale
  dsimp only
  refine .step ?_ (.upd_graph  _ _) rfl
  exact .refl _ _

theorem Block.wantEntry_frame : ∀ (a0 : Block) (a1 : Nat) (a2 : Nat), Block.Frame 64 a0 (Block.wantEntry a0 a1 a2) := by
  intro a0 a1 a2
  unfold Block.wantEntry
  dsimp only
  refine .ite ?_ ?_
  · exact .refl _ _
  · refine .foldl ?_ _ ?_
    · intro b x
      refine .step ?_ (Block.ask_frame _ _ _ _ _ _) rfl
      exact .refl _ _
    · exact .refl _ _

theorem Block.traceNode_frame : ∀ (a0 : Block) (a1 : Nat) (a2 : Nat) (a3 : Nat) (a4 : Nat) (a5 : Status), Block.Frame 9437184 a0 (Block.traceNode a0 a1 a2 a3 a4 a5) := by
  intro a0 a1 a2 a3 a4 a5
  unfold Block.traceNode
  refine .step ?_ (Block.traceEvent_frame _ _ _ _ _) rfl
  exact .refl _ _

theorem Block.pgCheck_frame : ∀ (a0 : Params) (a1 : Block) (a2 : Bool), Block.Frame 9439232 a1 (Block.pgCheck a0 a1 a2) := by
  intro a0 a1 a2
  unfold Block.pgCheck
  dsimp only
  refine .ite ?_ ?_
  · refine .step ?_ (Block.raise_frame _ _) rfl
    refine .step ?_ (.upd_graph  _ _) rfl
    exact .refl _ _
  · refine .ite ?_ ?_
    · refine .step ?_ (.upd_graph  _ _) rfl
      exact .refl _ _
    · exact .refl _ _

theorem Block.nodeDone_frame : ∀ (a0 : Block) (a1 : Nat) (a2 : Nat) (a3 : Status) (a4 : Bool), Block.Frame 9439232 a0 (Block.nodeDone a0 a1 a2 a3 a4) := by
  intro a0 a1 a2 a3 a4
  unfold Block.nodeDone
  dsimp only
  refine .step ?_ (Block.noteMet_frame _) rfl
  split
  · refine .ite ?_ ?_
    · refine .step ?_ (Block.modNode_frame _ _ _ _) rfl
      refine .step ?_ (Block.modSub_frame _ _ _) rfl
      refine .step ?_ (Block.traceNode_frame _ _ _ _ _ _) rfl
      exact .refl _ _
    · refine .step ?_ (Block.modSub_frame _ _ _) rfl
      refine .step ?_ (Block.traceNode_frame _ _ _ _ _ _) rfl
      exact .refl _ _
  · refine .step ?_ (Block.modSub_frame _ _ _) rfl
    refine .step ?_ (Block.traceNode_frame _ _ _ _ _ _) rfl
    exact .refl _ _

theorem Block.joinReady_frame : ∀ (a0 : Block) (a1 : Nat) (a2 : Nat), Block.Frame 2048 a0 (Block.joinReady a0 a1 a2) := by
  intro a0 a1 a2
  unfold Block.joinReady
  dsimp only
  refine .step ?_ (.upd_graph  _ _) rfl
  refine .step ?_ (Block.modNode_frame _ _ _ _) rfl
  exact .refl _ _

theorem Block.spillAcked_frame : ∀ (a0 : Block), Block.Frame 64 a0 (Block.spillAcked a0) := by
  intro a0
  unfold Block.spillAcked
  split
  · refine .ite ?_ ?_
    · refine .step ?_ (Block.wantEntry_frame _ _ _) rfl
      exact .refl _ _
    · exact .refl _ _
  · exact .refl _ _

theorem Block.seen_frame : ∀ (a0 : Block) (a1 : Nat) (a2 : Nat), Block.Frame 2048 a0 (Block.seen a0 a1 a2) := by
  intro a0 a1 a2
  unfold Block.seen
  dsimp only
  refine .step ?_ (Block.modNode_frame _ _ _ _) rfl
  refine .step ?_ (.upd_graph  _ _) rfl
  exact .refl _ _

theorem Block.accumulate_frame : ∀ (a0 : Nat) (a1 : Block) (a2 : Nat × Nat), Block.Frame 2097216 a1 (Block.accumulate a0 a1 a2) := by
  intro a0 a1 a2
  unfold Block.accumulate
  dsimp only
  refine .step ?_ (Block.put_frame _ _ _ _ _ _) rfl
  refine .step ?_ (.upd_experts  _ _) rfl
  exact .refl _ _

theorem Block.spill_frame : ∀ (a0 : Block) (a1 : Nat) (a2 : Nat) (a3 : Node), Block.Frame 2116 a0 (Block.spill a0 a1 a2 a3) := by
  intro a0 a1 a2 a3
  unfold Block.spill
  dsimp only
  refine .ite ?_ ?_
  · exact .refl _ _
  · refine .step ?_ (Block.modNode_frame _ _ _ _) rfl
    refine .step ?_ (.upd_graph  _ _) rfl
    refine .foldl ?_ _ ?_
    · intro b x
      refine .step ?_ (Block.put_frame _ _ _ _ _ _) rfl
      refine .step ?_ (Block.drawWords_frame _ _) rfl
      exact .refl _ _
    · refine .step ?_ (Block.draw_frame _) rfl
      exact .refl _ _

theorem Block.underflow_frame : ∀ (a0 : Block), Block.Frame 9439232 a0 (Block.underflow a0) := by
  intro a0
  unfold Block.underflow
  dsimp only
  refine .step ?_ (Block.raise_frame _ _) rfl
  refine .step ?_ (.upd_graph  _ _) rfl
  exact .refl _ _

theorem Block.takeWin_frame : ∀ (a0 : Block) (a1 : Nat) (a2 : Nat) (a3 : Nat) (a4 : Nat) (a5 : Nat), Block.Frame 2048 a0 (Block.takeWin a0 a1 a2 a3 a4 a5) := by
  intro a0 a1 a2 a3 a4 a5
  unfold Block.takeWin
  dsimp only
  refine .step ?_ (Block.modNode_frame _ _ _ _) rfl
  refine .step ?_ (Block.modSub_frame _ _ _) rfl
  refine .step ?_ (Block.modCwin_frame _ _ _ _) rfl
  exact .refl _ _

theorem Block.addLoad_frame : ∀ (a0 : Block) (a1 : Nat) (a2 : List (Nat × Nat)), Block.Frame 2097216 a0 (Block.addLoad a0 a1 a2) := by
  intro a0 a1 a2
  unfold Block.addLoad
  dsimp only
  refine .ite ?_ ?_
  · exact .refl _ _
  · refine .ite ?_ ?_
    · refine .step ?_ (.upd_experts  _ _) rfl
      exact .refl _ _
    · refine .step ?_ (.upd_experts  _ _) rfl
      refine .foldl ?_ _ ?_
      · intro b x
        refine .step ?_ (Block.accumulate_frame _ _ _) rfl
        exact .refl _ _
      · exact .refl _ _

theorem Block.touch_frame : ∀ (a0 : Params) (a1 : Block) (a2 : MemView) (a3 : Nat) (a4 : Nat), Block.Frame 2048 a1 (Block.touch a0 a1 a2 a3 a4) := by
  intro a0 a1 a2 a3 a4
  unfold Block.touch
  dsimp only
  refine .ite ?_ ?_
  · exact .refl _ _
  · refine .ite ?_ ?_
    · exact .refl _ _
    · refine .step ?_ (Block.modNode_frame _ _ _ _) rfl
      exact .refl _ _

theorem Block.sendForm0_frame : ∀ (a0 : Params) (a1 : Nat) (a2 : Nat) (a3 : Block) (a4 : Nat), Block.Frame 512 a3 (Block.sendForm0 a0 a1 a2 a3 a4) := by
  intro a0 a1 a2 a3 a4
  unfold Block.sendForm0
  dsimp only
  refine .step ?_ (Block.sendDown_frame _ _ _ _) rfl
  exact .refl _ _

theorem Block.fenceNode_frame : ∀ (a0 : Params) (a1 : Status) (a2 : Block) (a3 : Nat × Node), Block.Frame 512 a2 (Block.fenceNode a0 a1 a2 a3) := by
  intro a0 a1 a2 a3
  unfold Block.fenceNode
  dsimp only
  split
  · exact .refl _ _
  · refine .step ?_ (Block.sendDown_frame _ _ _ _) rfl
    refine .ite ?_ ?_
    · exact .refl _ _
    · refine .step ?_ (Block.sendDown_frame _ _ _ _) rfl
      exact .refl _ _

theorem Block.touchRoom_frame : ∀ (a0 : Params) (a1 : Block) (a2 : MemView) (a3 : Nat) (a4 : Nat), Block.Frame 2048 a1 (Block.touchRoom a0 a1 a2 a3 a4) := by
  intro a0 a1 a2 a3 a4
  unfold Block.touchRoom
  refine .ite ?_ ?_
  · exact .refl _ _
  · refine .step ?_ (Block.touch_frame _ _ _ _ _) rfl
    exact .refl _ _

theorem Block.decrement_frame : ∀ (a0 : Params) (a1 : Block) (a2 : MemView) (a3 : Nat) (a4 : Nat) (a5 : Status), Block.Frame 9439744 a1 (Block.decrement a0 a1 a2 a3 a4 a5) := by
  intro a0 a1 a2 a3 a4 a5
  unfold Block.decrement
  dsimp only
  refine .ite ?_ ?_
  · exact .refl _ _
  · refine .ite ?_ ?_
    · refine .step ?_ (Block.underflow_frame _) rfl
      exact .refl _ _
    · refine .ite ?_ ?_
      · refine .step ?_ (Block.underflow_frame _) rfl
        refine .step ?_ (Block.seen_frame _ _ _) rfl
        refine .step ?_ (Block.touch_frame _ _ _ _ _) rfl
        exact .refl _ _
      · split
        · refine .step ?_ (Block.sendDown_frame _ _ _ _) rfl
          refine .ite ?_ ?_
          · refine .step ?_ (Block.sendDown_frame _ _ _ _) rfl
            refine .step ?_ (Block.seen_frame _ _ _) rfl
            refine .step ?_ (Block.touch_frame _ _ _ _ _) rfl
            exact .refl _ _
          · refine .step ?_ (Block.seen_frame _ _ _) rfl
            refine .step ?_ (Block.touch_frame _ _ _ _ _) rfl
            exact .refl _ _
        · refine .ite ?_ ?_
          · refine .step ?_ (Block.underflow_frame _) rfl
            refine .step ?_ (Block.seen_frame _ _ _) rfl
            refine .step ?_ (Block.touch_frame _ _ _ _ _) rfl
            exact .refl _ _
          · refine .ite ?_ ?_
            · refine .step ?_ (Block.joinReady_frame _ _ _) rfl
              refine .step ?_ (Block.modNode_frame _ _ _ _) rfl
              refine .step ?_ (Block.seen_frame _ _ _) rfl
              refine .step ?_ (Block.touch_frame _ _ _ _ _) rfl
              exact .refl _ _
            · refine .step ?_ (Block.modNode_frame _ _ _ _) rfl
              refine .step ?_ (Block.seen_frame _ _ _) rfl
              refine .step ?_ (Block.touch_frame _ _ _ _ _) rfl
              exact .refl _ _

theorem Block.listErrors_frame : ∀ (a0 : Block) (a1 : MemView) (a2 : Nat) (a3 : SuccList), Block.Frame 9437248 a0 (Block.listErrors a0 a1 a2 a3) := by
  intro a0 a1 a2 a3
  unfold Block.listErrors
  dsimp only
  refine .foldl ?_ _ ?_
  · intro b x
    refine .step ?_ (Block.viewErrors_frame _ _ _ _ _ _) rfl
    exact .refl _ _
  · refine .foldl ?_ _ ?_
    · intro b x
      refine .step ?_ (Block.viewErrors_frame _ _ _ _ _ _) rfl
      exact .refl _ _
    · exact .refl _ _

theorem Block.sendForm1_frame : ∀ (a0 : Params) (a1 : Nat) (a2 : Nat) (a3 : Block) (a4 : Nat), Block.Frame 512 a3 (Block.sendForm1 a0 a1 a2 a3 a4) := by
  intro a0 a1 a2 a3 a4
  unfold Block.sendForm1
  dsimp only
  refine .foldl ?_ _ ?_
  · intro b x
    refine .step ?_ (Block.sendDown_frame _ _ _ _) rfl
    exact .refl _ _
  · exact .refl _ _

theorem Block.zeroLoad_frame : ∀ (a0 : Block) (a1 : MemView) (a2 : Nat) (a3 : Nat) (a4 : Nat), Block.Frame 2099264 a0 (Block.zeroLoad a0 a1 a2 a3 a4) := by
  intro a0 a1 a2 a3 a4
  unfold Block.zeroLoad
  dsimp only
  refine .ite ?_ ?_
  · exact .refl _ _
  · refine .ite ?_ ?_
    · refine .step ?_ (Block.addLoad_frame _ _ _) rfl
      refine .step ?_ (Block.modSub_frame _ _ _) rfl
      exact .refl _ _
    · refine .step ?_ (Block.modSub_frame _ _ _) rfl
      exact .refl _ _

theorem Block.pgSpill_frame : ∀ (a0 : Params) (a1 : Nat) (a2 : Block), Block.Frame 2116 a2 (Block.pgSpill a0 a1 a2) := by
  intro a0 a1 a2
  induction a1 generalizing a0 a2
  · unfold Block.pgSpill
    exact .refl _ _
  · rename_i k ih
    unfold Block.pgSpill
    refine .ite ?_ ?_
    · exact .refl _ _
    · split
      · exact .refl _ _
      · refine .step ?_ (ih _ _) rfl
        refine .step ?_ (Block.spill_frame _ _ _ _) rfl
        exact .refl _ _

theorem Block.route_frame : ∀ (a0 : Params) (a1 : MemView) (a2 : Nat) (a3 : Block), Block.Frame 9439808 a3 (Block.route a0 a1 a2 a3) := by
  intro a0 a1 a2 a3
  induction a2 generalizing a0 a1 a3
  · unfold Block.route
    exact .refl _ _
  · rename_i k ih
    unfold Block.route
    dsimp only
    split
    · exact .refl _ _
    · refine .ite ?_ ?_
      · refine .step ?_ (ih _ _ _) rfl
        refine .step ?_ (.upd_graph  _ _) rfl
        exact .refl _ _
      · refine .ite ?_ ?_
        · refine .step ?_ (Block.wantEntry_frame _ _ _) rfl
          exact .refl _ _
        · refine .ite ?_ ?_
          · refine .step ?_ (Block.pgCheck_frame _ _ _) rfl
            exact .refl _ _
          · refine .step ?_ (ih _ _ _) rfl
            refine .step ?_ (Block.decrement_frame _ _ _ _ _ _) rfl
            refine .step ?_ (.upd_graph  _ _) rfl
            exact .refl _ _

theorem resolveEdge_frame (p : Params) (m : MemView) (seg a w d : Nat) (r : Resolving) (i : Nat) :
    Block.Frame 2048 r.blk (resolveEdge p m seg a w d r i).blk := by
  have h0 : Block.Frame 2048 r.blk ((r.blk.touchRoom p m seg i).seen seg i) :=
    ((Block.Frame.refl _ _).step (Block.touchRoom_frame _ _ _ _ _) rfl).step (Block.seen_frame _ _ _) rfl
  unfold resolveEdge
  generalize (r.blk.touchRoom p m seg i).seen seg i = b at *
  dsimp only
  split
  · exact h0
  split
  · exact h0.step (Block.modCwin_frame _ _ _ _) rfl
  split
  · split
    · exact (h0.step (Block.takeWin_frame _ _ _ _ _ _) rfl).step (Block.modCwin_frame _ _ _ _) rfl
    · exact h0
  · exact h0

theorem Block.claspList_frame : ∀ (a0 : Params) (a1 : Block) (a2 : MemView) (a3 : Nat) (a4 : Nat), Block.Frame 9439296 a1 (Block.claspList a0 a1 a2 a3 a4).2 := by
  intro a0 a1 a2 a3 a4
  unfold Block.claspList
  dsimp only
  split
  · dsimp only
    exact .refl _ _
  · split
    · dsimp only
      refine .step ?_ (Block.listErrors_frame _ _ _ _) rfl
      exact .refl _ _
    · dsimp only
      refine .step ?_ (Block.modNode_frame _ _ _ _) rfl
      refine .foldl ?_ _ ?_
      · intro b x
        refine .step ?_ (Block.touchRoom_frame _ _ _ _ _) rfl
        exact .refl _ _
      · refine .foldl ?_ _ ?_
        · intro b x
          refine .step ?_ (Block.wantEntry_frame _ _ _) rfl
          exact .refl _ _
        · refine .step ?_ (Block.listErrors_frame _ _ _ _) rfl
          exact .refl _ _

theorem resolveFold_frame (p : Params) (m : MemView) (seg a w d : Nat) (l : List Nat) (r : Resolving) :
    Block.Frame 9439296 r.blk (l.foldl (resolveEdge p m seg a w d) r).blk := by
  induction l generalizing r with
  | nil => exact .refl _ _
  | cons i l ih =>
    exact .step (.step (.refl _ _) (resolveEdge_frame p m seg a w d r i) rfl) (ih _) rfl

theorem resolveAll_frame (p : Params) (m : MemView) (seg a k : Nat) (l done : List Nat) (b : Block) :
    Block.Frame 9439296 b (resolveAll p m seg a k l done b).2.2 := by
  induction k generalizing l done b with
  | zero => unfold resolveAll; exact .refl _ _
  | succ k ih =>
    cases l with
    | nil => unfold resolveAll; exact .refl _ _
    | cons i front =>
      unfold resolveAll
      dsimp only
      have h0 : Block.Frame 9439296 b (b.listErrors m seg (readSuccs b m seg i)) :=
        (Block.Frame.refl _ _).step (Block.listErrors_frame _ _ _ _) rfl
      generalize b.listErrors m seg (readSuccs b m seg i) = b1 at *
      split
      · exact h0
      · exact ((h0.step (resolveFold_frame p m seg a _ _ _ ⟨b1, [], [], []⟩) rfl).step (Block.modNode_frame _ _ _ _) rfl).step
          (ih _ _ _) rfl

theorem Block.signalPoison_frame : ∀ (a0 : Machine.Sub) (a1 : Block) (a2 : Node) (a3 : Status), Block.Frame 9705472 a1 (Block.signalPoison a0 a1 a2 a3) := by
  intro a0 a1 a2 a3
  unfold Block.signalPoison
  split
  · refine .step ?_ (Block.remotePoison_frame _ _ _ _) rfl
    exact .refl _ _
  · refine .step ?_ (Block.poisonHandle_frame _ _ _ _ _) rfl
    exact .refl _ _

theorem Block.signalReleased_frame : ∀ (a0 : Block) (a1 : Nat) (a2 : Nat) (a3 : Status), Block.Frame 9705472 a0 (Block.signalReleased a0 a1 a2 a3) := by
  intro a0 a1 a2 a3
  unfold Block.signalReleased
  dsimp only
  refine .ite ?_ ?_
  · exact .refl _ _
  · refine .step ?_ (Block.signalPoison_frame _ _ _ _) rfl
    refine .step ?_ (Block.modSub_frame _ _ _) rfl
    exact .refl _ _

theorem Block.abandon_frame : ∀ (a0 : Params) (a1 : Block) (a2 : Nat) (a3 : Status) (a4 : Option Nat), Block.Frame 9705988 a1 (Block.abandon a0 a1 a2 a3 a4) := by
  intro a0 a1 a2 a3 a4
  unfold Block.abandon
  dsimp only
  refine .ite ?_ ?_
  · exact .refl _ _
  · refine .step ?_ (Block.noteMet_frame _) rfl
    refine .foldl ?_ _ ?_
    · intro b x
      refine .step ?_ (Block.fenceNode_frame _ _ _ _) rfl
      exact .refl _ _
    · refine .foldl ?_ _ ?_
      · intro b x
        refine .step ?_ (Block.signalPoison_frame _ _ _ _) rfl
        exact .refl _ _
      · refine .step ?_ (Block.modSub_frame _ _ _) rfl
        refine .step ?_ (Block.withdrawSub_frame _ _) rfl
        refine .step ?_ (.upd_graph  _ _) rfl
        refine .foldl ?_ _ ?_
        · intro b x
          refine .step ?_ (Block.traceNode_frame _ _ _ _ _ _) rfl
          exact .refl _ _
        · refine .ite ?_ ?_
          · exact .refl _ _
          · refine .step ?_ (Block.draw_frame _) rfl
            exact .refl _ _

theorem Block.pgSettle_frame : ∀ (a0 : Params) (a1 : Block), Block.Frame 2116 a1 (Block.pgSettle a0 a1) := by
  intro a0 a1
  unfold Block.pgSettle
  refine .step ?_ (Block.pgSpill_frame _ _ _) rfl
  exact .refl _ _

theorem Block.pgStep_frame : ∀ (a0 : Params) (a1 : Block) (a2 : MemView), Block.Frame 9439812 a1 (Block.pgStep a0 a1 a2) := by
  intro a0 a1 a2
  unfold Block.pgStep
  refine .step ?_ (Block.pgSettle_frame _ _) rfl
  refine .step ?_ (Block.route_frame _ _ _ _) rfl
  refine .step ?_ (Block.pgCheck_frame _ _ _) rfl
  exact .refl _ _

theorem Block.applyEdges_frame : ∀ (a0 : Params) (a1 : Block) (a2 : MemView) (a3 : Nat) (a4 : List Nat) (a5 : Status), Block.Frame 9439812 a1 (Block.applyEdges a0 a1 a2 a3 a4 a5) := by
  intro a0 a1 a2 a3 a4 a5
  unfold Block.applyEdges
  dsimp only
  refine .step ?_ (Block.pgStep_frame _ _ _) rfl
  refine .step ?_ (.upd_graph  _ _) rfl
  exact .refl _ _

theorem Block.forward_frame (p : Params) (b : Block) (m : MemView) (seg i a : Nat) :
    Block.Frame 9706052 b (b.forward p m seg i a) := by
  unfold Block.forward
  split
  · exact .refl _ _
  split
  · exact .refl _ _
  · rename_i w _
    dsimp only
    have h0 : Block.Frame 9706052 b (resolveAll p m seg a 4097 [i] [] (b.takeWin a w seg i 0)).2.2 :=
      ((Block.Frame.refl _ _).step (Block.takeWin_frame _ _ _ _ _ _) rfl).step (resolveAll_frame _ _ _ _ _ _ _ _) rfl
    generalize resolveAll p m seg a 4097 [i] [] (b.takeWin a w seg i 0) = r at *
    obtain ⟨st, order, b'⟩ := r
    dsimp only at *
    split
    · exact ((Block.Frame.refl _ _).step (.upd_mp_evc_trace _ _ _ _) rfl).step (Block.abandon_frame _ _ _ _ _) rfl
    split
    · exact .foldl (fun b x => .step (.refl _ _) (Block.wantEntry_frame _ _ _) rfl) _ (.refl _ _)
    split
    · exact .step (.refl _ _) (Block.pgCheck_frame _ _ _) rfl
    · exact .step (.foldl (fun b x => .step (.refl _ _) (Block.sendForm1_frame _ _ _ _ _) rfl) _
        (.foldl (fun b x => .step (.refl _ _) (Block.sendForm0_frame _ _ _ _ _) rfl) _ h0)) (Block.pgSettle_frame _ _) rfl

theorem Block.claspLeave_frame : ∀ (a0 : Params) (a1 : Block) (a2 : MemView) (a3 : Nat) (a4 : Nat) (a5 : Status) (a6 : Bool), Block.Frame 11803204 a1 (Block.claspLeave a0 a1 a2 a3 a4 a5 a6) := by
  intro a0 a1 a2 a3 a4 a5 a6
  unfold Block.claspLeave
  dsimp only
  refine .ite ?_ ?_
  · refine .step ?_ (Block.abandon_frame _ _ _ _ _) rfl
    refine .step ?_ (Block.claspList_frame _ _ _ _ _) rfl
    exact .refl _ _
  · refine .ite ?_ ?_
    · refine .step ?_ (Block.abandon_frame _ _ _ _ _) rfl
      refine .step ?_ (Block.nodeDone_frame _ _ _ _ _) rfl
      refine .ite ?_ ?_
      · refine .step ?_ (Block.zeroLoad_frame _ _ _ _ _) rfl
        refine .ite ?_ ?_
        · refine .step ?_ (Block.signalReleased_frame _ _ _ _) rfl
          refine .step ?_ (Block.withdraw_frame _ _ _) rfl
          refine .step ?_ (Block.claspList_frame _ _ _ _ _) rfl
          exact .refl _ _
        · refine .step ?_ (Block.withdraw_frame _ _ _) rfl
          refine .step ?_ (Block.claspList_frame _ _ _ _ _) rfl
          exact .refl _ _
      · refine .ite ?_ ?_
        · refine .step ?_ (Block.signalReleased_frame _ _ _ _) rfl
          refine .step ?_ (Block.withdraw_frame _ _ _) rfl
          refine .step ?_ (Block.claspList_frame _ _ _ _ _) rfl
          exact .refl _ _
        · refine .step ?_ (Block.withdraw_frame _ _ _) rfl
          refine .step ?_ (Block.claspList_frame _ _ _ _ _) rfl
          exact .refl _ _
    · refine .step ?_ (Block.applyEdges_frame _ _ _ _ _ _) rfl
      refine .step ?_ (Block.nodeDone_frame _ _ _ _ _) rfl
      refine .ite ?_ ?_
      · refine .step ?_ (Block.zeroLoad_frame _ _ _ _ _) rfl
        refine .ite ?_ ?_
        · refine .step ?_ (Block.signalReleased_frame _ _ _ _) rfl
          refine .step ?_ (Block.withdraw_frame _ _ _) rfl
          refine .step ?_ (Block.claspList_frame _ _ _ _ _) rfl
          exact .refl _ _
        · refine .step ?_ (Block.withdraw_frame _ _ _) rfl
          refine .step ?_ (Block.claspList_frame _ _ _ _ _) rfl
          exact .refl _ _
      · refine .ite ?_ ?_
        · refine .step ?_ (Block.signalReleased_frame _ _ _ _) rfl
          refine .step ?_ (Block.withdraw_frame _ _ _) rfl
          refine .step ?_ (Block.claspList_frame _ _ _ _ _) rfl
          exact .refl _ _
        · refine .step ?_ (Block.withdraw_frame _ _ _) rfl
          refine .step ?_ (Block.claspList_frame _ _ _ _ _) rfl
          exact .refl _ _

theorem nodeForward_frame : ∀ (a0 : Params) (a1 : Nat) (a2 : Nat) (a3 : MemView) (a4 : Block), Block.Frame 11803204 a4 (nodeForward a0 a1 a2 a3 a4) := by
  intro a0 a1 a2 a3 a4
  unfold nodeForward
  dsimp only
  refine .ite ?_ ?_
  · exact .refl _ _
  · refine .ite ?_ ?_
    · refine .step ?_ (Block.wantEntry_frame _ _ _) rfl
      exact .refl _ _
    · split
      · refine .step ?_ (Block.claspLeave_frame _ _ _ _ _ _ _) rfl
        exact .refl _ _
      · split
        · refine .ite ?_ ?_
          · exact .refl _ _
          · refine .step ?_ (Block.forward_frame _ _ _ _ _ _) rfl
            exact .refl _ _
        · exact .refl _ _

end Sys2Proof.Machine
end

