-- ==== Sys2Proof/Laws/FramesSubmit.lean ====
section
/-! SUPPORT. The fields each operation of Machine/Submit.lean can change, one frame per operation. -/

-- theorem after theorem, which bounds the memory of the compile
set_option Elab.async false

namespace Sys2Proof.Machine

theorem Block.pieceDone_frame : ∀ (a0 : Block) (a1 : Nat) (a2 : Nat) (a3 : Status), Block.Frame 524288 a0 (Block.pieceDone a0 a1 a2 a3) := by
  intro a0 a1 a2 a3
  unfold Block.pieceDone
  refine .step ?_ (Block.modPart_frame _ _ _) rfl
  exact .refl _ _

theorem Block.unhold_frame : ∀ (a0 : Block), Block.Frame 2097152 a0 (Block.unhold a0) := by
  intro a0
  unfold Block.unhold
  dsimp only
  refine .step ?_ (.upd_experts  _ _) rfl
  exact .refl _ _

theorem Block.releaseWin_frame : ∀ (a0 : Block) (a1 : Nat) (a2 : Nat) (a3 : List Nat), Block.Frame 2048 a0 (Block.releaseWin a0 a1 a2 a3) := by
  intro a0 a1 a2 a3
  unfold Block.releaseWin
  dsimp only
  refine .foldl ?_ _ ?_
  · intro b x
    refine .step ?_ (Block.modCwin_frame _ _ _ _) rfl
    exact .refl _ _
  · refine .step ?_ (Block.modCwin_frame _ _ _ _) rfl
    exact .refl _ _

theorem Block.hold_frame : ∀ (a0 : Block) (a1 : Comp), Block.Frame 131072 a0 (Block.hold a0 a1) := by
  intro a0 a1
  unfold Block.hold
  refine .step ?_ (Block.modCq_frame _ _ _) rfl
  exact .refl _ _

theorem Block.waitDomain_frame : ∀ (a0 : Block) (a1 : Nat), Block.Frame 33554432 a0 (Block.waitDomain a0 a1) := by
  intro a0 a1
  unfold Block.waitDomain
  refine .step ?_ (Block.modDom_frame _ _ _) rfl
  exact .refl _ _

theorem Block.holdVersion_frame : ∀ (a0 : Block), Block.Frame 11534336 a0 (Block.holdVersion a0) := by
  intro a0
  unfold Block.holdVersion
  dsimp only
  refine .ite ?_ ?_
  · exact .refl _ _
  · refine .step ?_ (Block.raise_frame _ _) rfl
    refine .step ?_ (.upd_experts  _ _) rfl
    exact .refl _ _

theorem Block.giveSeg_frame : ∀ (a0 : Block) (a1 : Nat), Block.Frame 9439232 a0 (Block.giveSeg a0 a1) := by
  intro a0 a1
  unfold Block.giveSeg
  dsimp only
  refine .ite ?_ ?_
  · refine .step ?_ (Block.raise_frame _ _) rfl
    refine .step ?_ (.upd_graph  _ _) rfl
    exact .refl _ _
  · refine .step ?_ (.upd_graph  _ _) rfl
    exact .refl _ _

theorem Block.registerWaits_frame : ∀ (a0 : MemView) (a1 : Nat) (a2 : Nat) (a3 : Block), Block.Frame 6144 a3 (Block.registerWaits a0 a1 a2 a3) := by
  intro a0 a1 a2 a3
  unfold Block.registerWaits
  dsimp only
  refine .foldl ?_ _ ?_
  · intro b x
    refine .ite ?_ ?_
    · split
      · refine .step ?_ (Block.modNode_frame _ _ _ _) rfl
        refine .step ?_ (Block.registerWait_frame _ _ _ _) rfl
        exact .refl _ _
      · refine .step ?_ (Block.registerWait_frame _ _ _ _) rfl
        exact .refl _ _
    · exact .refl _ _
  · exact .refl _ _

theorem Block.storeAudit_frame : ∀ (a0 : Block) (a1 : Nat) (a2 : Nat), Block.Frame 68 a0 (Block.storeAudit a0 a1 a2) := by
  intro a0 a1 a2
  unfold Block.storeAudit
  dsimp only
  refine .step ?_ (Block.put_frame _ _ _ _ _ _) rfl
  refine .step ?_ (Block.drawWords_frame _ _) rfl
  exact .refl _ _

theorem Block.scanRoots_frame : ∀ (a0 : Params) (a1 : MemView) (a2 : Nat) (a3 : Nat) (a4 : Block), Block.Frame 2048 a4 (Block.scanRoots a0 a1 a2 a3 a4) := by
  intro a0 a1 a2 a3 a4
  unfold Block.scanRoots
  dsimp only
  refine .foldl ?_ _ ?_
  · intro b x
    refine .ite ?_ ?_
    · exact .refl _ _
    · refine .step ?_ (Block.joinReady_frame _ _ _) rfl
      refine .step ?_ (Block.modNode_frame _ _ _ _) rfl
      exact .refl _ _
  · exact .refl _ _

theorem Block.auditSegment_frame : ∀ (a0 : Block) (a1 : MemView) (a2 : Nat), Block.Frame 9439300 a0 (Block.auditSegment a0 a1 a2) := by
  intro a0 a1 a2
  unfold Block.auditSegment
  dsimp only
  refine .ite ?_ ?_
  · exact .refl _ _
  · refine .ite ?_ ?_
    · refine .step ?_ (Block.modSub_frame _ _ _) rfl
      refine .step ?_ (Block.draw_frame _) rfl
      refine .step ?_ (Block.viewErrors_frame _ _ _ _ _ _) rfl
      exact .refl _ _
    · refine .step ?_ (Block.modSub_frame _ _ _) rfl
      refine .step ?_ (Block.viewErrors_frame _ _ _ _ _ _) rfl
      exact .refl _ _

theorem auditDigest_frame : ∀ (a0 : Nat) (a1 : MemView) (a2 : Block), Block.Frame 9439300 a2 (auditDigest a0 a1 a2) := by
  intro a0 a1 a2
  unfold auditDigest
  dsimp only
  refine .ite ?_ ?_
  · exact .refl _ _
  · refine .ite ?_ ?_
    · refine .step ?_ (Block.auditSegment_frame _ _ _) rfl
      exact .refl _ _
    · refine .step ?_ (Block.modSub_frame _ _ _) rfl
      refine .step ?_ (Block.auditSegment_frame _ _ _) rfl
      exact .refl _ _

theorem ret_frame : ∀ (a0 : Params) (a1 : Nat) (a2 : Nat) (a3 : Nat) (a4 : Bool) (a5 : Nat) (a6 : Block), Block.Frame 2560 a6 (ret a0 a1 a2 a3 a4 a5 a6) := by
  intro a0 a1 a2 a3 a4 a5 a6
  unfold ret
  dsimp only
  refine .onUp rfl ?_ ?_
  · intro b
    refine .ite ?_ ?_
    · exact .refl _ _
    · refine .ite ?_ ?_
      · refine .step ?_ (.upd_graph  _ _) rfl
        refine .step ?_ (Block.modSub_frame _ _ _) rfl
        exact .refl _ _
      · refine .step ?_ (Block.noteMet_frame _) rfl
        refine .step ?_ (Block.modSub_frame _ _ _) rfl
        exact .refl _ _
  · exact .refl _ _

theorem ctr_frame : ∀ (a0 : Params) (a1 : Nat) (a2 : Nat) (a3 : Nat) (a4 : Block), Block.Frame 2560 a4 (ctr a0 a1 a2 a3 a4) := by
  intro a0 a1 a2 a3 a4
  unfold ctr
  dsimp only
  refine .onUp rfl ?_ ?_
  · intro b
    refine .ite ?_ ?_
    · exact .refl _ _
    · refine .step ?_ (Block.noteMet_frame _) rfl
      refine .step ?_ (.upd_graph  _ _) rfl
      refine .step ?_ (Block.modSub_frame _ _ _) rfl
      exact .refl _ _
  · exact .refl _ _

theorem Block.abandonedEnd_frame : ∀ (a0 : Block) (a1 : Nat) (a2 : Status) (a3 : MemView), Block.Frame 11802688 a0 (Block.abandonedEnd a0 a1 a2 a3) := by
  intro a0 a1 a2 a3
  unfold Block.abandonedEnd
  dsimp only
  refine .foldl ?_ _ ?_
  · intro b x
    refine .ite ?_ ?_
    · refine .step ?_ (Block.zeroLoad_frame _ _ _ _ _) rfl
      exact .refl _ _
    · exact .refl _ _
  · refine .foldl ?_ _ ?_
    · intro b x
      refine .ite ?_ ?_
      · exact .refl _ _
      · refine .step ?_ (Block.poisonSignal_frame _ _ _ _ _ _) rfl
        exact .refl _ _
    · refine .step ?_ (Block.viewErrors_frame _ _ _ _ _ _) rfl
      exact .refl _ _

theorem Block.auditEntry_frame : ∀ (a0 : Params) (a1 : MemView) (a2 : Nat) (a3 : Nat) (a4 : Bool) (a5 : Block) (a6 : Nat × Nat), Block.Frame 9706052 a5 (Block.auditEntry a0 a1 a2 a3 a4 a5 a6) := by
  intro a0 a1 a2 a3 a4 a5 a6
  unfold Block.auditEntry
  dsimp only
  refine .ite ?_ ?_
  · refine .step ?_ (Block.modSub_frame _ _ _) rfl
    refine .step ?_ (Block.draw_frame _) rfl
    refine .step ?_ (Block.viewErrors_frame _ _ _ _ _ _) rfl
    exact .refl _ _
  · refine .ite ?_ ?_
    · refine .step ?_ (Block.abandon_frame _ _ _ _ _) rfl
      refine .step ?_ (Block.viewErrors_frame _ _ _ _ _ _) rfl
      exact .refl _ _
    · refine .step ?_ (Block.modSub_frame _ _ _) rfl
      refine .step ?_ (Block.storeAudit_frame _ _ _) rfl
      refine .step ?_ (Block.viewErrors_frame _ _ _ _ _ _) rfl
      exact .refl _ _

theorem Block.failCheck_frame : ∀ (a0 : Block) (a1 : Nat) (a2 : Fetched) (a3 : Status) (a4 : MemView), Block.Frame 11934724 a0 (Block.failCheck a0 a1 a2 a3 a4) := by
  intro a0 a1 a2 a3 a4
  unfold Block.failCheck
  dsimp only
  refine .step ?_ (Block.hold_frame _ _) rfl
  refine .step ?_ (Block.unhold_frame _) rfl
  refine .step ?_ (Block.modQueue_frame _ _ _) rfl
  refine .ite ?_ ?_
  · refine .ite ?_ ?_
    · refine .step ?_ (Block.poisonSignals_frame _ _ _ _ _ _ _) rfl
      exact .refl _ _
    · exact .refl _ _
  · refine .step ?_ (Block.draw_frame _) rfl
    refine .ite ?_ ?_
    · refine .step ?_ (Block.poisonSignals_frame _ _ _ _ _ _ _) rfl
      exact .refl _ _
    · exact .refl _ _

theorem submissionComplete_frame : ∀ (a0 : Params) (a1 : Nat) (a2 : MemView) (a3 : Block), Block.Frame 11934276 a3 (submissionComplete a0 a1 a2 a3) := by
  intro a0 a1 a2 a3
  unfold submissionComplete
  dsimp only
  refine .ite ?_ ?_
  · exact .refl _ _
  · refine .step ?_ (Block.pgStep_frame _ _ _) rfl
    refine .step ?_ (Block.modSub_frame _ _ _) rfl
    refine .step ?_ (.upd_graph  _ _) rfl
    refine .step ?_ (Block.hold_frame _ _) rfl
    refine .ite ?_ ?_
    · refine .step ?_ (Block.abandonedEnd_frame _ _ _ _) rfl
      exact .refl _ _
    · exact .refl _ _

theorem Block.place_frame : ∀ (a0 : Params) (a1 : BitVec 32) (a2 : Nat) (a3 : Nat) (a4 : Fetched) (a5 : MemView) (a6 : Block), Block.Frame 11541572 a6 (Block.place a0 a1 a2 a3 a4 a5 a6) := by
  intro a0 a1 a2 a3 a4 a5 a6
  unfold Block.place
  dsimp only
  refine .step ?_ (Block.traceEvent_frame _ _ _ _ _) rfl
  refine .step ?_ (Block.noteMet_frame _) rfl
  refine .step ?_ (Block.pgSettle_frame _ _) rfl
  refine .step ?_ (Block.registerWaits_frame _ _ _ _) rfl
  refine .step ?_ (Block.scanRoots_frame _ _ _ _ _) rfl
  refine .step ?_ (.upd_graph  _ _) rfl
  refine .step ?_ (Block.modSub_frame _ _ _) rfl
  refine .step ?_ (Block.unhold_frame _) rfl
  refine .step ?_ (Block.modQueue_frame _ _ _) rfl
  refine .step ?_ (Block.giveSeg_frame _ _) rfl
  exact .refl _ _

theorem submissionPlace_frame : ∀ (a0 : Params) (a1 : BitVec 32) (a2 : Nat) (a3 : Nat) (a4 : MemView) (a5 : Block), Block.Frame 45489220 a5 (submissionPlace a0 a1 a2 a3 a4 a5) := by
  intro a0 a1 a2 a3 a4 a5
  unfold submissionPlace
  dsimp only
  split
  · exact .refl _ _
  · refine .ite ?_ ?_
    · refine .step ?_ (Block.pgCheck_frame _ _ _) rfl
      exact .refl _ _
    · split
      · refine .foldl ?_ _ ?_
        · intro b x
          refine .step ?_ (Block.waitDomain_frame _ _) rfl
          exact .refl _ _
        · exact .refl _ _
      · refine .ite ?_ ?_
        · refine .ite ?_ ?_
          · refine .step ?_ (Block.failCheck_frame _ _ _ _ _) rfl
            refine .step ?_ (.upd_fences  _ _) rfl
            exact .refl _ _
          · exact .refl _ _
        · refine .ite ?_ ?_
          · refine .ite ?_ ?_
            · refine .step ?_ (Block.failCheck_frame _ _ _ _ _) rfl
              exact .refl _ _
            · exact .refl _ _
          · refine .ite ?_ ?_
            · exact .refl _ _
            · refine .ite ?_ ?_
              · refine .step ?_ (Block.holdVersion_frame _) rfl
                exact .refl _ _
              · refine .step ?_ (Block.place_frame _ _ _ _ _ _ _) rfl
                refine .ite ?_ ?_
                · refine .step ?_ (.upd_fences  _ _) rfl
                  exact .refl _ _
                · exact .refl _ _

theorem Block.auditNode_frame : ∀ (a0 : Params) (a1 : MemView) (a2 : Nat) (a3 : Nat) (a4 : Node) (a5 : Block), Block.Frame 9706052 a5 (Block.auditNode a0 a1 a2 a3 a4 a5) := by
  intro a0 a1 a2 a3 a4 a5
  unfold Block.auditNode
  dsimp only
  refine .ite ?_ ?_
  · exact .refl _ _
  · refine .ite ?_ ?_
    · refine .step ?_ (Block.abandon_frame _ _ _ _ _) rfl
      refine .step ?_ (Block.viewErrors_frame _ _ _ _ _ _) rfl
      exact .refl _ _
    · split
      · refine .step ?_ (Block.viewErrors_frame _ _ _ _ _ _) rfl
        exact .refl _ _
      · refine .step ?_ (Block.auditEntry_frame _ _ _ _ _ _ _) rfl
        refine .step ?_ (Block.viewErrors_frame _ _ _ _ _ _) rfl
        exact .refl _ _
      · refine .foldl ?_ _ ?_
        · intro b x
          refine .step ?_ (Block.auditEntry_frame _ _ _ _ _ _ _) rfl
          exact .refl _ _
        · refine .step ?_ (Block.viewErrors_frame _ _ _ _ _ _) rfl
          exact .refl _ _

theorem checkPass_frame : ∀ (a0 : Params) (a1 : Nat) (a2 : MemView) (a3 : Block), Block.Frame 11934788 a3 (checkPass a0 a1 a2 a3) := by
  intro a0 a1 a2 a3
  unfold checkPass
  dsimp only
  split
  · exact .refl _ _
  · refine .ite ?_ ?_
    · exact .refl _ _
    · refine .ite ?_ ?_
      · refine .step ?_ (Block.modQueue_frame _ _ _) rfl
        refine .step ?_ (Block.checkErrors_frame _ _ _ _ _) rfl
        exact .refl _ _
      · refine .ite ?_ ?_
        · exact .refl _ _
        · refine .step ?_ (Block.failCheck_frame _ _ _ _ _) rfl
          refine .step ?_ (Block.checkErrors_frame _ _ _ _ _) rfl
          exact .refl _ _

theorem Block.consumeCpl_frame : ∀ (a0 : Params) (a1 : Nat) (a2 : Nat) (a3 : Nat) (a4 : Status) (a5 : MemView) (a6 : Block), Block.Frame 12327492 a6 (Block.consumeCpl a0 a1 a2 a3 a4 a5 a6) := by
  intro a0 a1 a2 a3 a4 a5 a6
  unfold Block.consumeCpl
  dsimp only
  refine .ite ?_ ?_
  · refine .step ?_ (Block.countStale_frame _) rfl
    exact .refl _ _
  · split
    · refine .ite ?_ ?_
      · refine .step ?_ (Block.abandon_frame _ _ _ _ _) rfl
        refine .step ?_ (Block.nodeDone_frame _ _ _ _ _) rfl
        refine .ite ?_ ?_
        · refine .step ?_ (Block.auditNode_frame _ _ _ _ _ _) rfl
          refine .ite ?_ ?_
          · refine .step ?_ (Block.zeroLoad_frame _ _ _ _ _) rfl
            refine .step ?_ (Block.releaseWin_frame _ _ _ _) rfl
            exact .refl _ _
          · refine .step ?_ (Block.releaseWin_frame _ _ _ _) rfl
            exact .refl _ _
        · refine .ite ?_ ?_
          · refine .step ?_ (Block.zeroLoad_frame _ _ _ _ _) rfl
            refine .step ?_ (Block.releaseWin_frame _ _ _ _) rfl
            exact .refl _ _
          · refine .step ?_ (Block.releaseWin_frame _ _ _ _) rfl
            exact .refl _ _
      · refine .step ?_ (Block.applyEdges_frame _ _ _ _ _ _) rfl
        refine .step ?_ (Block.nodeDone_frame _ _ _ _ _) rfl
        refine .ite ?_ ?_
        · refine .step ?_ (Block.auditNode_frame _ _ _ _ _ _) rfl
          refine .ite ?_ ?_
          · refine .step ?_ (Block.zeroLoad_frame _ _ _ _ _) rfl
            refine .step ?_ (Block.releaseWin_frame _ _ _ _) rfl
            exact .refl _ _
          · refine .step ?_ (Block.releaseWin_frame _ _ _ _) rfl
            exact .refl _ _
        · refine .ite ?_ ?_
          · refine .step ?_ (Block.zeroLoad_frame _ _ _ _ _) rfl
            refine .step ?_ (Block.releaseWin_frame _ _ _ _) rfl
            exact .refl _ _
          · refine .step ?_ (Block.releaseWin_frame _ _ _ _) rfl
            exact .refl _ _
    · refine .step ?_ (Block.pieceDone_frame _ _ _ _) rfl
      refine .step ?_ (Block.modCwin_frame _ _ _ _) rfl
      exact .refl _ _
    · refine .step ?_ (Block.countStale_frame _) rfl
      exact .refl _ _

theorem cpl_frame : ∀ (a0 : Params) (a1 : Nat) (a2 : Nat) (a3 : Nat) (a4 : Status) (a5 : MemView) (a6 : Block), Block.Frame 12327492 a6 (cpl a0 a1 a2 a3 a4 a5 a6) := by
  intro a0 a1 a2 a3 a4 a5 a6
  unfold cpl
  split
  · refine .ite ?_ ?_
    · refine .step ?_ (Block.wantEntry_frame _ _ _) rfl
      exact .refl _ _
    · refine .onUp rfl ?_ ?_
      · intro b
        refine .step ?_ (Block.consumeCpl_frame _ _ _ _ _ _ _) rfl
        exact .refl _ _
      · exact .refl _ _
  · refine .onUp rfl ?_ ?_
    · intro b
      refine .step ?_ (Block.consumeCpl_frame _ _ _ _ _ _ _) rfl
      exact .refl _ _
    · exact .refl _ _

end Sys2Proof.Machine
end

