-- ==== Sys2Proof/Laws/FramesNodes.lean ====
section
/-! SUPPORT. The fields each operation of Machine/Nodes.lean can change, one frame per operation. -/

-- theorem after theorem, which bounds the memory of the compile
set_option Elab.async false

namespace Sys2Proof.Machine

theorem pgClearErr_frame : ∀ (a0 : Block), Block.Frame 2048 a0 (pgClearErr a0) := by
  intro a0
  unfold pgClearErr
  dsimp only
  refine .step ?_ (.upd_graph  _ _) rfl
  exact .refl _ _

theorem sweepComplete_frame : ∀ (a0 : Block), Block.Frame 2048 a0 (sweepComplete a0) := by
  intro a0
  unfold sweepComplete
  dsimp only
  refine .ite ?_ ?_
  · exact .refl _ _
  · refine .step ?_ (.upd_graph  _ _) rfl
    exact .refl _ _

theorem Block.sweepNext_frame : ∀ (a0 : Block), Block.Frame 64 a0 (Block.sweepNext a0) := by
  intro a0
  unfold Block.sweepNext
  dsimp only
  refine .ite ?_ ?_
  · refine .step ?_ (Block.ask_frame _ _ _ _ _ _) rfl
    exact .refl _ _
  · exact .refl _ _

theorem arrivalReread_frame : ∀ (a0 : Nat) (a1 : Nat) (a2 : Nat) (a3 : Block), Block.Frame 2112 a3 (arrivalReread a0 a1 a2 a3) := by
  intro a0 a1 a2 a3
  unfold arrivalReread
  dsimp only
  refine .ite ?_ ?_
  · exact .refl _ _
  · refine .step ?_ (Block.modNode_frame _ _ _ _) rfl
    refine .step ?_ (Block.ask_frame _ _ _ _ _ _) rfl
    exact .refl _ _

theorem sweepStart_frame : ∀ (a0 : Block), Block.Frame 2112 a0 (sweepStart a0) := by
  intro a0
  unfold sweepStart
  dsimp only
  refine .ite ?_ ?_
  · exact .refl _ _
  · refine .step ?_ (Block.sweepNext_frame _) rfl
    refine .step ?_ (.upd_graph  _ _) rfl
    exact .refl _ _

theorem Block.swept_frame : ∀ (a0 : Block) (a1 : Nat), Block.Frame 2116 a0 (Block.swept a0 a1) := by
  intro a0 a1
  unfold Block.swept
  dsimp only
  refine .ite ?_ ?_
  · exact .refl _ _
  · refine .step ?_ (Block.sweepNext_frame _) rfl
    refine .step ?_ (.upd_graph  _ _) rfl
    refine .ite ?_ ?_
    · refine .step ?_ (Block.put_frame _ _ _ _ _ _) rfl
      refine .step ?_ (.upd_graph  _ _) rfl
      refine .step ?_ (Block.drawWords_frame _ _) rfl
      exact .refl _ _
    · exact .refl _ _

theorem Block.arrivalAsk_frame : ∀ (a0 : Block) (a1 : MemView) (a2 : Nat) (a3 : Nat), Block.Frame 2112 a0 (Block.arrivalAsk a0 a1 a2 a3) := by
  intro a0 a1 a2 a3
  unfold Block.arrivalAsk
  dsimp only
  refine .step ?_ (Block.modNode_frame _ _ _ _) rfl
  refine .step ?_ (Block.ask_frame _ _ _ _ _ _) rfl
  exact .refl _ _

theorem pagerFull_frame : ∀ (a0 : Params) (a1 : Block), Block.Frame 9439232 a1 (pagerFull a0 a1) := by
  intro a0 a1
  unfold pagerFull
  refine .step ?_ (Block.pgCheck_frame _ _ _) rfl
  exact .refl _ _

theorem Block.answerRead_frame : ∀ (a0 : Block) (a1 : RReq) (a2 : BitVec 2), Block.Frame 9437248 a0 (Block.answerRead a0 a1 a2) := by
  intro a0 a1 a2
  unfold Block.answerRead
  dsimp only
  refine .ite ?_ ?_
  · refine .step ?_ (.upd_mp  _ _) rfl
    exact .refl _ _
  · refine .step ?_ (Block.mpError_frame _ _ _ _ _ _ _) rfl
    refine .step ?_ (.upd_mp  _ _) rfl
    exact .refl _ _

theorem pgCommand_frame : ∀ (a0 : Word) (a1 : Block), Block.Frame 2112 a1 (pgCommand a0 a1) := by
  intro a0 a1
  unfold pgCommand
  dsimp only
  refine .ite ?_ ?_
  · refine .step ?_ (sweepStart_frame _) rfl
    refine .ite ?_ ?_
    · refine .step ?_ (pgClearErr_frame _) rfl
      exact .refl _ _
    · exact .refl _ _
  · refine .ite ?_ ?_
    · refine .step ?_ (pgClearErr_frame _) rfl
      exact .refl _ _
    · exact .refl _ _

theorem Block.breakNode_frame : ∀ (a0 : Params) (a1 : Block) (a2 : Nat) (a3 : Nat), Block.Frame 17304064 a1 (Block.breakNode a0 a1 a2 a3) := by
  intro a0 a1 a2 a3
  unfold Block.breakNode
  refine .ite ?_ ?_
  · exact .refl _ _
  · refine .step ?_ (Block.breakpointStop_frame _ _ _ _) rfl
    refine .step ?_ (Block.modNode_frame _ _ _ _) rfl
    exact .refl _ _

theorem fencePoisonOp_frame : ∀ (a0 : MemView) (a1 : Bool) (a2 : Nat) (a3 : Nat) (a4 : Block), Block.Frame 9705472 a4 (fencePoisonOp a0 a1 a2 a3 a4).2 := by
  intro a0 a1 a2 a3 a4
  unfold fencePoisonOp
  dsimp only
  refine .step ?_ (Block.poisonHandle_frame _ _ _ _ _) rfl
  exact .refl _ _

theorem Block.startAct_frame : ∀ (a0 : Params) (a1 : Block) (a2 : MemView) (a3 : Nat) (a4 : Nat), Block.Frame 9706052 a1 (Block.startAct a0 a1 a2 a3 a4).2 := by
  intro a0 a1 a2 a3 a4
  unfold Block.startAct
  dsimp only
  split
  · dsimp only
    refine .step ?_ (Block.abandon_frame _ _ _ _ _) rfl
    refine .step ?_ (Block.claspList_frame _ _ _ _ _) rfl
    exact .refl _ _
  · dsimp only
    refine .step ?_ (Block.modNode_frame _ _ _ _) rfl
    refine .step ?_ (Block.modSub_frame _ _ _) rfl
    refine .step ?_ (Block.claspList_frame _ _ _ _ _) rfl
    exact .refl _ _

theorem joinContribution_frame : ∀ (a0 : Params) (a1 : Nat) (a2 : Nat) (a3 : MemView) (a4 : Block), Block.Frame 9439812 a4 (joinContribution a0 a1 a2 a3 a4) := by
  intro a0 a1 a2 a3 a4
  unfold joinContribution
  dsimp only
  refine .ite ?_ ?_
  · exact .refl _ _
  · refine .step ?_ (Block.applyEdges_frame _ _ _ _ _ _) rfl
    refine .step ?_ (Block.modSub_frame _ _ _) rfl
    exact .refl _ _

theorem Block.entryBack_frame : ∀ (a0 : Params) (a1 : MemView) (a2 : Nat) (a3 : Nat) (a4 : BitVec 2) (a5 : Block), Block.Frame 9439812 a5 (Block.entryBack a0 a1 a2 a3 a4 a5) := by
  intro a0 a1 a2 a3 a4 a5
  unfold Block.entryBack
  dsimp only
  refine .ite ?_ ?_
  · exact .refl _ _
  · refine .ite ?_ ?_
    · refine .ite ?_ ?_
      · exact .refl _ _
      · refine .step ?_ (Block.modNode_frame _ _ _ _) rfl
        exact .refl _ _
    · refine .step ?_ (Block.pgStep_frame _ _ _) rfl
      refine .step ?_ (Block.seen_frame _ _ _) rfl
      refine .step ?_ (Block.modNode_frame _ _ _ _) rfl
      refine .ite ?_ ?_
      · exact .refl _ _
      · refine .step ?_ (Block.modNode_frame _ _ _ _) rfl
        exact .refl _ _

theorem Block.signalStep_frame : ∀ (a0 : Params) (a1 : MemView) (a2 : Nat) (a3 : Nat) (a4 : Block), Block.Frame 11803204 a4 (Block.signalStep a0 a1 a2 a3 a4) := by
  intro a0 a1 a2 a3 a4
  unfold Block.signalStep
  dsimp only
  split
  · refine .step ?_ (Block.claspLeave_frame _ _ _ _ _ _ _) rfl
    refine .step ?_ (Block.signalFence_frame _ _ _ _ _ _) rfl
    refine .step ?_ (Block.modSub_frame _ _ _) rfl
    exact .refl _ _
  · refine .step ?_ (Block.claspLeave_frame _ _ _ _ _ _ _) rfl
    refine .step ?_ (Block.signalFence_frame _ _ _ _ _ _) rfl
    refine .step ?_ (Block.modSub_frame _ _ _) rfl
    exact .refl _ _
  · refine .step ?_ (Block.signalFence_frame _ _ _ _ _ _) rfl
    refine .step ?_ (Block.modSub_frame _ _ _) rfl
    exact .refl _ _

theorem Block.waitEnds_frame : ∀ (a0 : Params) (a1 : Block) (a2 : MemView) (a3 : Nat) (a4 : Nat) (a5 : Status), Block.Frame 11803204 a1 (Block.waitEnds a0 a1 a2 a3 a4 a5) := by
  intro a0 a1 a2 a3 a4 a5
  unfold Block.waitEnds
  dsimp only
  refine .ite ?_ ?_
  · refine .step ?_ (Block.claspLeave_frame _ _ _ _ _ _ _) rfl
    exact .refl _ _
  · refine .ite ?_ ?_
    · exact .refl _ _
    · refine .ite ?_ ?_
      · refine .step ?_ (Block.claspLeave_frame _ _ _ _ _ _ _) rfl
        exact .refl _ _
      · refine .step ?_ (Block.arrivalAsk_frame _ _ _ _) rfl
        refine .step ?_ (Block.modNode_frame _ _ _ _) rfl
        exact .refl _ _

theorem Block.remoteStep_frame : ∀ (a0 : Params) (a1 : MemView) (a2 : Nat) (a3 : Nat) (a4 : Block), Block.Frame 11803204 a4 (Block.remoteStep a0 a1 a2 a3 a4) := by
  intro a0 a1 a2 a3 a4
  unfold Block.remoteStep
  dsimp only
  split
  · refine .step ?_ (Block.claspLeave_frame _ _ _ _ _ _ _) rfl
    refine .step ?_ (Block.modNode_frame _ _ _ _) rfl
    exact .refl _ _
  · refine .ite ?_ ?_
    · refine .step ?_ (Block.claspLeave_frame _ _ _ _ _ _ _) rfl
      refine .step ?_ (Block.modNode_frame _ _ _ _) rfl
      exact .refl _ _
    · refine .ite ?_ ?_
      · refine .step ?_ (Block.modNode_frame _ _ _ _) rfl
        exact .refl _ _
      · refine .step ?_ (Block.modNode_frame _ _ _ _) rfl
        refine .step ?_ (Block.txPut_frame _ _) rfl
        refine .step ?_ (Block.modSub_frame _ _ _) rfl
        refine .step ?_ (Block.modNode_frame _ _ _ _) rfl
        exact .refl _ _

theorem Block.arrivalResult_frame : ∀ (a0 : Params) (a1 : Nat) (a2 : Nat) (a3 : BitVec 2) (a4 : Word) (a5 : MemView) (a6 : Block), Block.Frame 11803204 a6 (Block.arrivalResult a0 a1 a2 a3 a4 a5 a6) := by
  intro a0 a1 a2 a3 a4 a5 a6
  unfold Block.arrivalResult
  dsimp only
  refine .ite ?_ ?_
  · exact .refl _ _
  · refine .ite ?_ ?_
    · refine .step ?_ (Block.claspLeave_frame _ _ _ _ _ _ _) rfl
      exact .refl _ _
    · refine .ite ?_ ?_
      · refine .step ?_ (Block.claspLeave_frame _ _ _ _ _ _ _) rfl
        exact .refl _ _
      · refine .step ?_ (Block.modNode_frame _ _ _ _) rfl
        exact .refl _ _

theorem Block.Frame.tryAct {t : Nat} {p : Params} {m : MemView} {a b : Block} {seg i : Nat} {f : Block → Block}
    (hm : 29104708 ||| t = t) (hf : ∀ b, Block.Frame t b (f b)) (h : Block.Frame t a b) :
    Block.Frame t a (b.tryAct p m seg i f) := by
  have hl : 11803204 ||| t = t := by rw [← hm, ← Nat.or_assoc]; congr 1
  have hb : 17304064 ||| t = t := by rw [← hm, ← Nat.or_assoc]; congr 1
  have hs : 9706052 ||| t = t := by rw [← hm, ← Nat.or_assoc]; congr 1
  have hw : 64 ||| t = t := by rw [← hm, ← Nat.or_assoc]; congr 1
  unfold Block.tryAct
  split
  · exact h.step (Block.wantEntry_frame _ _ _) hw
  split
  · exact h
  · exact h.step (Block.claspLeave_frame _ _ _ _ _ _ _) hl
  · exact h.step (Block.breakNode_frame _ _ _ _) hb
  · dsimp only
    split
    · exact h.step (Block.startAct_frame _ _ _ _ _) hs
    · exact (h.step (Block.startAct_frame _ _ _ _ _) hs).step (hf _) (by simp)

theorem signalAct_frame : ∀ (a0 : Params) (a1 : Nat) (a2 : Nat) (a3 : MemView) (a4 : Block), Block.Frame 29104708 a4 (signalAct a0 a1 a2 a3 a4) := by
  intro a0 a1 a2 a3 a4
  unfold signalAct
  dsimp only
  refine .ite ?_ ?_
  · exact .refl _ _
  · refine .ite ?_ ?_
    · split
      · refine .step ?_ (Block.claspLeave_frame _ _ _ _ _ _ _) rfl
        exact .refl _ _
      · exact .refl _ _
    · refine .tryAct rfl ?_ ?_
      · intro b
        refine .step ?_ (Block.signalStep_frame _ _ _ _ _) rfl
        exact .refl _ _
      · exact .refl _ _

theorem pagerRefill_frame : ∀ (a0 : Params) (a1 : Nat) (a2 : Nat) (a3 : BitVec 2) (a4 : MemView) (a5 : Block), Block.Frame 9439812 a5 (pagerRefill a0 a1 a2 a3 a4 a5) := by
  intro a0 a1 a2 a3 a4 a5
  unfold pagerRefill
  split
  · exact .refl _ _
  · refine .step ?_ (Block.entryBack_frame _ _ _ _ _ _) rfl
    refine .step ?_ (Block.answerRead_frame _ _ _) rfl
    exact .refl _ _

theorem Block.waitStep_frame : ∀ (a0 : Params) (a1 : MemView) (a2 : Nat) (a3 : Nat) (a4 : Block), Block.Frame 11803204 a4 (Block.waitStep a0 a1 a2 a3 a4) := by
  intro a0 a1 a2 a3 a4
  unfold Block.waitStep
  dsimp only
  split
  · refine .step ?_ (Block.waitEnds_frame _ _ _ _ _ _) rfl
    exact .refl _ _
  · refine .ite ?_ ?_
    · exact .refl _ _
    · split
      · refine .step ?_ (Block.waitEnds_frame _ _ _ _ _ _) rfl
        refine .step ?_ (Block.modNode_frame _ _ _ _) rfl
        refine .step ?_ (Block.registerWait_frame _ _ _ _) rfl
        exact .refl _ _
      · refine .step ?_ (Block.registerWait_frame _ _ _ _) rfl
        exact .refl _ _

theorem waitAct_frame : ∀ (a0 : Params) (a1 : Nat) (a2 : Nat) (a3 : MemView) (a4 : Block), Block.Frame 29104708 a4 (waitAct a0 a1 a2 a3 a4) := by
  intro a0 a1 a2 a3 a4
  unfold waitAct
  refine .ite ?_ ?_
  · refine .step ?_ (Block.waitStep_frame _ _ _ _ _) rfl
    exact .refl _ _
  · refine .ite ?_ ?_
    · exact .refl _ _
    · refine .tryAct rfl ?_ ?_
      · intro b
        refine .step ?_ (Block.waitStep_frame _ _ _ _ _) rfl
        exact .refl _ _
      · exact .refl _ _

theorem Block.Frame.privAct {t : Nat} {p : Params} {m : MemView} {a b : Block} {seg i op : Nat}
    {f : Nat → Block → Status × Block} (hm : 29104708 ||| t = t) (hf : ∀ k b, Block.Frame t b (f k b).2)
    (h : Block.Frame t a b) : Block.Frame t a (b.privAct p m seg i op f) := by
  have hl : 11803204 ||| t = t := by rw [← hm, ← Nat.or_assoc]; congr 1
  unfold Block.privAct
  dsimp only
  split
  · exact h
  · exact .tryAct hm (fun b => (hf _ b).step (Block.claspLeave_frame _ _ _ _ _ _ _) hl) h

theorem remoteSignalAct_frame : ∀ (a0 : Params) (a1 : Nat) (a2 : Nat) (a3 : MemView) (a4 : Block), Block.Frame 29104708 a4 (remoteSignalAct a0 a1 a2 a3 a4) := by
  intro a0 a1 a2 a3 a4
  unfold remoteSignalAct
  dsimp only
  refine .ite ?_ ?_
  · exact .refl _ _
  · refine .ite ?_ ?_
    · split
      · refine .step ?_ (Block.claspLeave_frame _ _ _ _ _ _ _) rfl
        exact .refl _ _
      · refine .ite ?_ ?_
        · exact .refl _ _
        · refine .step ?_ (Block.remoteStep_frame _ _ _ _ _) rfl
          exact .refl _ _
    · refine .tryAct rfl ?_ ?_
      · intro b
        refine .step ?_ (Block.remoteStep_frame _ _ _ _ _) rfl
        exact .refl _ _
      · exact .refl _ _

theorem arrivalRead_frame : ∀ (a0 : Params) (a1 : Nat) (a2 : Nat) (a3 : BitVec 2) (a4 : Word) (a5 : MemView) (a6 : Block), Block.Frame 11803204 a6 (arrivalRead a0 a1 a2 a3 a4 a5 a6) := by
  intro a0 a1 a2 a3 a4 a5 a6
  unfold arrivalRead
  split
  · exact .refl _ _
  · refine .step ?_ (Block.arrivalResult_frame _ _ _ _ _ _ _) rfl
    refine .step ?_ (Block.answerRead_frame _ _ _) rfl
    exact .refl _ _

theorem Block.spawnNode_frame : ∀ (a0 : Params) (a1 : Block) (a2 : MemView) (a3 : Nat) (a4 : Nat) (a5 : Word) (a6 : Word) (a7 : Word) (a8 : Word), Block.Frame 11803204 a1 (Block.spawnNode a0 a1 a2 a3 a4 a5 a6 a7 a8) := by
  intro a0 a1 a2 a3 a4 a5 a6 a7 a8
  unfold Block.spawnNode
  dsimp only
  refine .step ?_ (nodeForward_frame _ _ _ _ _) rfl
  refine .step ?_ (Block.modSub_frame _ _ _) rfl
  refine .step ?_ (Block.joinReady_frame _ _ _) rfl
  refine .step ?_ (Block.modNode_frame _ _ _ _) rfl
  exact .refl _ _

theorem spawn_frame : ∀ (a0 : Params) (a1 : Nat) (a2 : Nat) (a3 : Word) (a4 : Word) (a5 : Word) (a6 : Word) (a7 : MemView) (a8 : Block), Block.Frame 11803204 a8 (spawn a0 a1 a2 a3 a4 a5 a6 a7 a8) := by
  intro a0 a1 a2 a3 a4 a5 a6 a7 a8
  unfold spawn
  dsimp only
  refine .ite ?_ ?_
  · refine .step ?_ (Block.pgCheck_frame _ _ _) rfl
    exact .refl _ _
  · refine .onUp rfl ?_ ?_
    · intro b
      split
      · exact .refl _ _
      · refine .ite ?_ ?_
        · exact .refl _ _
        · refine .step ?_ (Block.spawnNode_frame _ _ _ _ _ _ _ _ _) rfl
          exact .refl _ _
    · exact .refl _ _

end Sys2Proof.Machine
end

