-- ==== Sys2Proof/Laws/FramesBead.lean ====
section
/-! SUPPORT. The fields each operation of Machine/Bead.lean can change, one frame per operation. -/

-- theorem after theorem, which bounds the memory of the compile
set_option Elab.async false

namespace Sys2Proof.Machine

theorem Block.locketAborted_frame : ∀ (a0 : Params) (a1 : Nat) (a2 : Nat) (a3 : Block) (a4 : HeldTask), Block.Frame 16777216 a3 (Block.locketAborted a0 a1 a2 a3 a4) := by
  intro a0 a1 a2 a3 a4
  unfold Block.locketAborted
  split
  · refine .ite ?_ ?_
    · exact .refl _ _
    · refine .step ?_ (Block.beadLocket_frame _ _ _ _ _ _) rfl
      exact .refl _ _
  · exact .refl _ _

theorem regulatorRefill_frame : ∀ (a0 : Block), Block.Frame 8200 a0 (regulatorRefill a0) := by
  intro a0
  unfold regulatorRefill
  dsimp only
  refine .ite ?_ ?_
  · exact .refl _ _
  · refine .step ?_ (.upd_refilled  _ _) rfl
    refine .foldl ?_ _ ?_
    · intro b x
      refine .step ?_ (Block.modBead_frame _ _ _) rfl
      exact .refl _ _
    · exact .refl _ _

theorem Block.staleRecord_frame : ∀ (a0 : Params) (a1 : Nat) (a2 : Nat) (a3 : Nat) (a4 : Block), Block.Frame 16779264 a4 (Block.staleRecord a0 a1 a2 a3 a4) := by
  intro a0 a1 a2 a3 a4
  unfold Block.staleRecord
  refine .step ?_ (Block.beadLocket_frame _ _ _ _ _ _) rfl
  refine .step ?_ (Block.countStale_frame _) rfl
  exact .refl _ _

theorem Block.discardCompletion_frame : ∀ (a0 : Params) (a1 : Block) (a2 : Nat) (a3 : Nat) (a4 : Nat), Block.Frame 16785920 a1 (Block.discardCompletion a0 a1 a2 a3 a4) := by
  intro a0 a1 a2 a3 a4
  unfold Block.discardCompletion
  dsimp only
  refine .step ?_ (Block.sendUp_frame _ _ _ _) rfl
  refine .step ?_ (Block.beadLocket_frame _ _ _ _ _ _) rfl
  refine .step ?_ (Block.modBead_frame _ _ _) rfl
  exact .refl _ _

theorem latchSetClose_frame : ∀ (a0 : Params) (a1 : Nat) (a2 : Nat) (a3 : Block), Block.Frame 8704 a3 (latchSetClose a0 a1 a2 a3) := by
  intro a0 a1 a2 a3
  unfold latchSetClose
  dsimp only
  refine .ite ?_ ?_
  · exact .refl _ _
  · split
    · refine .step ?_ (Block.modBead_frame _ _ _) rfl
      refine .foldl ?_ _ ?_
      · intro b x
        refine .step ?_ (Block.sendUp_frame _ _ _ _) rfl
        exact .refl _ _
      · refine .step ?_ (Block.sendUp_frame _ _ _ _) rfl
        refine .step ?_ (Block.modBead_frame _ _ _) rfl
        exact .refl _ _
    · refine .ite ?_ ?_
      · refine .step ?_ (Block.modBead_frame _ _ _) rfl
        refine .step ?_ (Block.sendUp_frame _ _ _ _) rfl
        refine .step ?_ (Block.modBead_frame _ _ _) rfl
        exact .refl _ _
      · refine .step ?_ (Block.modBead_frame _ _ _) rfl
        exact .refl _ _

theorem Block.sendEvts_frame : ∀ (a0 : Params) (a1 : Nat) (a2 : Nat) (a3 : Nat) (a4 : Block), Block.Frame 512 a4 (Block.sendEvts a0 a1 a2 a3 a4) := by
  intro a0 a1 a2 a3 a4
  induction a3 generalizing a0 a1 a2 a4
  · unfold Block.sendEvts
    exact .refl _ _
  · rename_i k ih
    unfold Block.sendEvts
    refine .step ?_ (ih _ _ _ _) rfl
    refine .step ?_ (Block.sendUp_frame _ _ _ _) rfl
    exact .refl _ _

theorem Block.modTile_frame : ∀ (a0 : Block) (a1 : Nat) (a2 : Nat) (a3 : Tile → Tile), Block.Frame 8192 a0 (Block.modTile a0 a1 a2 a3) := by
  intro a0 a1 a2 a3
  unfold Block.modTile
  refine .step ?_ (Block.modBead_frame _ _ _) rfl
  exact .refl _ _

theorem stopReportSend_frame : ∀ (a0 : Params) (a1 : Nat) (a2 : Block), Block.Frame 16785920 a2 (stopReportSend a0 a1 a2) := by
  intro a0 a1 a2
  unfold stopReportSend
  dsimp only
  refine .ite ?_ ?_
  · exact .refl _ _
  · refine .step ?_ (Block.beadLocket_frame _ _ _ _ _ _) rfl
    refine .step ?_ (Block.modBead_frame _ _ _) rfl
    refine .step ?_ (Block.sendUp_frame _ _ _ _) rfl
    exact .refl _ _

theorem Block.sendCpl_frame : ∀ (a0 : Params) (a1 : Nat) (a2 : Nat) (a3 : Block), Block.Frame 16786944 a3 (Block.sendCpl a0 a1 a2 a3) := by
  intro a0 a1 a2 a3
  unfold Block.sendCpl
  dsimp only
  refine .ite ?_ ?_
  · refine .step ?_ (Block.beadLocket_frame _ _ _ _ _ _) rfl
    refine .step ?_ (Block.sendUp_frame _ _ _ _) rfl
    refine .step ?_ (Block.modWin_frame _ _ _ _) rfl
    exact .refl _ _
  · refine .ite ?_ ?_
    · refine .step ?_ (.upd_front  _ _) rfl
      refine .step ?_ (Block.progress_frame _ _ _) rfl
      refine .step ?_ (Block.beadLocket_frame _ _ _ _ _ _) rfl
      refine .step ?_ (Block.sendUp_frame _ _ _ _) rfl
      refine .step ?_ (Block.modWin_frame _ _ _ _) rfl
      exact .refl _ _
    · refine .ite ?_ ?_
      · refine .step ?_ (Block.modBead_frame _ _ _) rfl
        refine .step ?_ (Block.sendUp_frame _ _ _ _) rfl
        refine .step ?_ (.upd_front  _ _) rfl
        refine .step ?_ (Block.progress_frame _ _ _) rfl
        refine .step ?_ (Block.beadLocket_frame _ _ _ _ _ _) rfl
        refine .step ?_ (Block.sendUp_frame _ _ _ _) rfl
        refine .step ?_ (Block.modWin_frame _ _ _ _) rfl
        exact .refl _ _
      · refine .step ?_ (Block.modBead_frame _ _ _) rfl
        refine .step ?_ (.upd_front  _ _) rfl
        refine .step ?_ (Block.progress_frame _ _ _) rfl
        refine .step ?_ (Block.beadLocket_frame _ _ _ _ _ _) rfl
        refine .step ?_ (Block.sendUp_frame _ _ _ _) rfl
        refine .step ?_ (Block.modWin_frame _ _ _ _) rfl
        exact .refl _ _

theorem Block.askIndirect_frame : ∀ (a0 : Nat) (a1 : Nat) (a2 : Block) (a3 : Nat), Block.Frame 8256 a2 (Block.askIndirect a0 a1 a2 a3) := by
  intro a0 a1 a2 a3
  unfold Block.askIndirect
  dsimp only
  refine .ite ?_ ?_
  · refine .step ?_ (Block.modWin_frame _ _ _ _) rfl
    refine .step ?_ (Block.ask_frame _ _ _ _ _ _) rfl
    exact .refl _ _
  · refine .step ?_ (Block.modWin_frame _ _ _ _) rfl
    exact .refl _ _

theorem Block.resetComplete_frame : ∀ (a0 : Block) (a1 : Nat) (a2 : Nat), Block.Frame 533504 a0 (Block.resetComplete a0 a1 a2) := by
  intro a0 a1 a2
  unfold Block.resetComplete
  dsimp only
  refine .step ?_ (Block.modPbead_frame _ _ _) rfl
  refine .foldl ?_ _ ?_
  · intro b x
    refine .step ?_ (Block.modPart_frame _ _ _) rfl
    exact .refl _ _
  · refine .foldl ?_ _ ?_
    · intro b x
      refine .step ?_ (Block.modQueue_frame _ _ _) rfl
      exact .refl _ _
    · refine .step ?_ (Block.modSlot_frame _ _ _ _) rfl
      exact .refl _ _

theorem Block.fetchTile_frame : ∀ (a0 : Block) (a1 : Nat) (a2 : Nat) (a3 : Nat), Block.Frame 8192 a0 (Block.fetchTile a0 a1 a2 a3) := by
  intro a0 a1 a2 a3
  unfold Block.fetchTile
  split
  · refine .step ?_ (Block.modTile_frame _ _ _ _) rfl
    exact .refl _ _
  · split
    · refine .step ?_ (Block.modTile_frame _ _ _ _) rfl
      exact .refl _ _
    · exact .refl _ _

theorem Block.addBeat_frame : ∀ (a0 : Block) (a1 : Nat) (a2 : Nat) (a3 : Nat) (a4 : Nat), Block.Frame 8196 a0 (Block.addBeat a0 a1 a2 a3 a4) := by
  intro a0 a1 a2 a3 a4
  unfold Block.addBeat
  dsimp only
  split
  · exact .refl _ _
  · refine .step ?_ (Block.modBead_frame _ _ _) rfl
    split
    · dsimp only
      exact .refl _ _
    · dsimp only
      refine .step ?_ (Block.draw_frame _) rfl
      exact .refl _ _

theorem Block.expandWaits_frame : ∀ (a0 : Block) (a1 : Nat), Block.Frame 33554432 a0 (Block.expandWaits a0 a1) := by
  intro a0 a1
  unfold Block.expandWaits
  refine .ite ?_ ?_
  · refine .step ?_ (Block.waitDomain_frame _ _) rfl
    exact .refl _ _
  · exact .refl _ _

theorem counterBeat_frame : ∀ (a0 : Nat) (a1 : Nat) (a2 : Nat) (a3 : Nat) (a4 : Block), Block.Frame 8196 a4 (counterBeat a0 a1 a2 a3 a4) := by
  intro a0 a1 a2 a3 a4
  unfold counterBeat
  dsimp only
  split
  · exact .refl _ _
  · refine .ite ?_ ?_
    · exact .refl _ _
    · split
      · refine .step ?_ (Block.addBeat_frame _ _ _ _ _) rfl
        refine .step ?_ (Block.modBead_frame _ _ _) rfl
        refine .step ?_ (Block.modSlot_frame _ _ _ _) rfl
        exact .refl _ _
      · refine .step ?_ (Block.modBead_frame _ _ _) rfl
        refine .step ?_ (Block.modSlot_frame _ _ _ _) rfl
        exact .refl _ _

theorem Block.askReset_frame : ∀ (a0 : Block) (a1 : Nat) (a2 : Nat) (a3 : Option Nat), Block.Frame 8192 a0 (Block.askReset a0 a1 a2 a3) := by
  intro a0 a1 a2 a3
  unfold Block.askReset
  dsimp only
  refine .ite ?_ ?_
  · exact .refl _ _
  · refine .step ?_ (Block.modSlot_frame _ _ _ _) rfl
    exact .refl _ _

theorem dispatchTransfer_frame : ∀ (a0 : Params) (a1 : Nat) (a2 : Nat) (a3 : Block), Block.Frame 16786432 a3 (dispatchTransfer a0 a1 a2 a3) := by
  intro a0 a1 a2 a3
  unfold dispatchTransfer
  dsimp only
  refine .ite ?_ ?_
  · exact .refl _ _
  · split
    · exact .refl _ _
    · refine .step ?_ (Block.beadTrace_frame _ _ _ _ _ _ _) rfl
      refine .step ?_ (Block.beadLocket_frame _ _ _ _ _ _) rfl
      refine .step ?_ (Block.progress_frame _ _ _) rfl
      refine .step ?_ (.upd_front  _ _) rfl
      refine .step ?_ (Block.modSlot_frame _ _ _ _) rfl
      exact .refl _ _

theorem breakpointHold_frame : ∀ (a0 : Params) (a1 : Nat) (a2 : Nat) (a3 : Block), Block.Frame 16785408 a3 (breakpointHold a0 a1 a2 a3) := by
  intro a0 a1 a2 a3
  unfold breakpointHold
  dsimp only
  refine .ite ?_ ?_
  · exact .refl _ _
  · refine .step ?_ (Block.beadLocket_frame _ _ _ _ _ _) rfl
    refine .step ?_ (Block.modBead_frame _ _ _) rfl
    refine .step ?_ (Block.modWin_frame _ _ _ _) rfl
    exact .refl _ _

theorem Block.winEnds_frame : ∀ (a0 : Block) (a1 : Nat) (a2 : Nat) (a3 : Status) (a4 : Bool), Block.Frame 8192 a0 (Block.winEnds a0 a1 a2 a3 a4) := by
  intro a0 a1 a2 a3 a4
  unfold Block.winEnds
  dsimp only
  refine .step ?_ (Block.modWin_frame _ _ _ _) rfl
  split
  · refine .step ?_ (Block.modTile_frame _ _ _ _) rfl
    exact .refl _ _
  · exact .refl _ _

theorem Block.indirectEnds_frame : ∀ (a0 : Block) (a1 : Nat) (a2 : Nat), Block.Frame 8192 a0 (Block.indirectEnds a0 a1 a2) := by
  intro a0 a1 a2
  unfold Block.indirectEnds
  dsimp only
  refine .ite ?_ ?_
  · exact .refl _ _
  · split
    · refine .step ?_ (Block.winEnds_frame _ _ _ _ _) rfl
      exact .refl _ _
    · refine .ite ?_ ?_
      · refine .step ?_ (Block.winEnds_frame _ _ _ _ _) rfl
        exact .refl _ _
      · exact .refl _ _

theorem Block.present_frame : ∀ (a0 : Block) (a1 : Nat) (a2 : Nat) (a3 : Nat), Block.Frame 8192 a0 (Block.present a0 a1 a2 a3) := by
  intro a0 a1 a2 a3
  unfold Block.present
  dsimp only
  refine .step ?_ (Block.modWin_frame _ _ _ _) rfl
  split
  · refine .step ?_ (Block.fetchTile_frame _ _ _ _) rfl
    refine .step ?_ (Block.modSlot_frame _ _ _ _) rfl
    refine .step ?_ (Block.modBead_frame _ _ _) rfl
    exact .refl _ _
  · refine .step ?_ (Block.modSlot_frame _ _ _ _) rfl
    refine .step ?_ (Block.modBead_frame _ _ _) rfl
    exact .refl _ _

theorem slotResetAck_frame : ∀ (a0 : Params) (a1 : Nat) (a2 : Nat) (a3 : Bool) (a4 : Block), Block.Frame 17310720 a4 (slotResetAck a0 a1 a2 a3 a4) := by
  intro a0 a1 a2 a3 a4
  unfold slotResetAck
  dsimp only
  refine .ite ?_ ?_
  · refine .step ?_ (Block.beadLocket_frame _ _ _ _ _ _) rfl
    refine .step ?_ (Block.modSlot_frame _ _ _ _) rfl
    exact .refl _ _
  · refine .ite ?_ ?_
    · refine .step ?_ (Block.resetComplete_frame _ _ _) rfl
      exact .refl _ _
    · exact .refl _ _

theorem Block.taskEnds_frame : ∀ (a0 : Block) (a1 : Nat) (a2 : HeldTask) (a3 : Status), Block.Frame 8192 a0 (Block.taskEnds a0 a1 a2 a3) := by
  intro a0 a1 a2 a3
  unfold Block.taskEnds
  split
  · refine .step ?_ (Block.modTile_frame _ _ _ _) rfl
    exact .refl _ _
  · exact .refl _ _
  · refine .step ?_ (Block.winEnds_frame _ _ _ _ _) rfl
    exact .refl _ _

theorem Block.fenceSelf_frame : ∀ (a0 : Params) (a1 : Block) (a2 : Nat), Block.Frame 16785408 a1 (Block.fenceSelf a0 a1 a2) := by
  intro a0 a1 a2
  unfold Block.fenceSelf
  dsimp only
  refine .step ?_ (Block.beadLocket_frame _ _ _ _ _ _) rfl
  refine .step ?_ (Block.modBead_frame _ _ _) rfl
  refine .foldl ?_ _ ?_
  · intro b x
    refine .step ?_ (Block.askReset_frame _ _ _ _) rfl
    exact .refl _ _
  · exact .refl _ _

theorem Block.winAbort_frame : ∀ (a0 : Block) (a1 : Nat) (a2 : Nat), Block.Frame 8192 a0 (Block.winAbort a0 a1 a2) := by
  intro a0 a1 a2
  unfold Block.winAbort
  dsimp only
  refine .ite ?_ ?_
  · refine .step ?_ (Block.modWin_frame _ _ _ _) rfl
    exact .refl _ _
  · split
    · refine .step ?_ (Block.modTile_frame _ _ _ _) rfl
      refine .step ?_ (Block.modWin_frame _ _ _ _) rfl
      exact .refl _ _
    · refine .step ?_ (Block.winEnds_frame _ _ _ _ _) rfl
      refine .step ?_ (Block.modWin_frame _ _ _ _) rfl
      exact .refl _ _

theorem nopRetire_frame : ∀ (a0 : Nat) (a1 : Nat) (a2 : Block), Block.Frame 8192 a2 (nopRetire a0 a1 a2) := by
  intro a0 a1 a2
  unfold nopRetire
  dsimp only
  refine .ite ?_ ?_
  · refine .step ?_ (Block.winEnds_frame _ _ _ _ _) rfl
    exact .refl _ _
  · exact .refl _ _

theorem Block.Frame.atBead {t : Nat} {p : Params} {a b : Block} {n : Nat} {r : Rec} {f : Block → Block}
    (hm : 512 ||| t = t) (hf : ∀ b, Block.Frame t b (f b)) (h : Block.Frame t a b) : Block.Frame t a (b.atBead p n r f) := by
  unfold Block.atBead
  exact .onDown hm (fun b => .ite (.refl _ _) (hf b)) h

theorem Block.completeTask_frame : ∀ (a0 : Params) (a1 : Block) (a2 : Nat) (a3 : Nat) (a4 : HeldTask) (a5 : Status) (a6 : Nat), Block.Frame 16786432 a1 (Block.completeTask a0 a1 a2 a3 a4 a5 a6) := by
  intro a0 a1 a2 a3 a4 a5 a6
  unfold Block.completeTask
  dsimp only
  refine .step ?_ (Block.taskEnds_frame _ _ _ _) rfl
  refine .step ?_ (Block.beadTrace_frame _ _ _ _ _ _ _) rfl
  refine .ite ?_ ?_
  · refine .step ?_ (Block.beadLocket_frame _ _ _ _ _ _) rfl
    refine .step ?_ (Block.progress_frame _ _ _) rfl
    refine .step ?_ (Block.modSlot_frame _ _ _ _) rfl
    exact .refl _ _
  · refine .step ?_ (Block.beadLocket_frame _ _ _ _ _ _) rfl
    refine .step ?_ (Block.beadLocket_frame _ _ _ _ _ _) rfl
    refine .step ?_ (Block.progress_frame _ _ _) rfl
    refine .step ?_ (Block.modSlot_frame _ _ _ _) rfl
    exact .refl _ _

theorem Block.select_frame : ∀ (a0 : Params) (a1 : Block) (a2 : Nat), Block.Frame 43008 a1 (Block.select a0 a1 a2) := by
  intro a0 a1 a2
  unfold Block.select
  dsimp only
  split
  · exact .refl _ _
  · refine .ite ?_ ?_
    · refine .step ?_ (Block.modWin_frame _ _ _ _) rfl
      refine .step ?_ (Block.modSaf_frame _ _ _) rfl
      refine .ite ?_ ?_
      · exact .refl _ _
      · refine .step ?_ (Block.modSub_frame _ _ _) rfl
        exact .refl _ _
    · split
      · refine .step ?_ (Block.present_frame _ _ _ _) rfl
        refine .ite ?_ ?_
        · exact .refl _ _
        · refine .step ?_ (Block.modSub_frame _ _ _) rfl
          exact .refl _ _
      · refine .ite ?_ ?_
        · exact .refl _ _
        · refine .step ?_ (Block.modSub_frame _ _ _) rfl
          exact .refl _ _

theorem ctlResume_frame : ∀ (a0 : Params) (a1 : Nat) (a2 : Block), Block.Frame 16785920 a2 (ctlResume a0 a1 a2) := by
  intro a0 a1 a2
  unfold ctlResume
  dsimp only
  refine .atBead rfl ?_ ?_
  · intro b
    refine .step ?_ (Block.beadLocket_frame _ _ _ _ _ _) rfl
    refine .step ?_ (Block.modBead_frame _ _ _) rfl
    exact .refl _ _
  · exact .refl _ _

theorem Block.indirectReturn_frame : ∀ (a0 : Nat) (a1 : Nat) (a2 : Nat) (a3 : Nat) (a4 : BitVec 2) (a5 : Word) (a6 : Block), Block.Frame 8192 a6 (Block.indirectReturn a0 a1 a2 a3 a4 a5 a6) := by
  intro a0 a1 a2 a3 a4 a5 a6
  unfold Block.indirectReturn
  dsimp only
  refine .ite ?_ ?_
  · exact .refl _ _
  · refine .step ?_ (Block.indirectEnds_frame _ _ _) rfl
    refine .step ?_ (Block.modWin_frame _ _ _ _) rfl
    exact .refl _ _

theorem indirectReadReturn_frame : ∀ (a0 : Nat) (a1 : Nat) (a2 : Nat) (a3 : BitVec 2) (a4 : Word) (a5 : Block), Block.Frame 9445440 a5 (indirectReadReturn a0 a1 a2 a3 a4 a5) := by
  intro a0 a1 a2 a3 a4 a5
  unfold indirectReadReturn
  dsimp only
  split
  · exact .refl _ _
  · refine .step ?_ (Block.indirectReturn_frame _ _ _ _ _ _ _) rfl
    refine .step ?_ (Block.answerRead_frame _ _ _) rfl
    exact .refl _ _

theorem Block.releaseLost_frame : ∀ (a0 : Params) (a1 : Block) (a2 : Nat), Block.Frame 8192 a1 (Block.releaseLost a0 a1 a2) := by
  intro a0 a1 a2
  unfold Block.releaseLost
  dsimp only
  refine .foldl ?_ _ ?_
  · intro b x
    refine .ite ?_ ?_
    · exact .refl _ _
    · split
      · refine .step ?_ (Block.modTile_frame _ _ _ _) rfl
        exact .refl _ _
      · refine .step ?_ (Block.winEnds_frame _ _ _ _ _) rfl
        exact .refl _ _
  · exact .refl _ _

theorem tileListRetire_frame : ∀ (a0 : Nat) (a1 : Nat) (a2 : Block), Block.Frame 8192 a2 (tileListRetire a0 a1 a2) := by
  intro a0 a1 a2
  unfold tileListRetire
  dsimp only
  refine .ite ?_ ?_
  · exact .refl _ _
  · split
    · refine .ite ?_ ?_
      · refine .step ?_ (Block.winEnds_frame _ _ _ _ _) rfl
        exact .refl _ _
      · exact .refl _ _
    · refine .ite ?_ ?_
      · refine .step ?_ (Block.winEnds_frame _ _ _ _ _) rfl
        exact .refl _ _
      · exact .refl _ _
    · exact .refl _ _

theorem Block.startIndirect_frame : ∀ (a0 : Block) (a1 : Nat) (a2 : Nat), Block.Frame 8256 a0 (Block.startIndirect a0 a1 a2) := by
  intro a0 a1 a2
  unfold Block.startIndirect
  dsimp only
  refine .ite ?_ ?_
  · refine .step ?_ (Block.indirectEnds_frame _ _ _) rfl
    refine .step ?_ (Block.modWin_frame _ _ _ _) rfl
    refine .foldl ?_ _ ?_
    · intro b x
      refine .step ?_ (Block.askIndirect_frame _ _ _ _) rfl
      exact .refl _ _
    · exact .refl _ _
  · exact .refl _ _

theorem issueSelect_frame : ∀ (a0 : Params) (a1 : Nat) (a2 : Block), Block.Frame 33597448 a2 (issueSelect a0 a1 a2) := by
  intro a0 a1 a2
  unfold issueSelect
  dsimp only
  refine .ite ?_ ?_
  · exact .refl _ _
  · refine .ite ?_ ?_
    · refine .step ?_ (Block.releaseLost_frame _ _ _) rfl
      refine .step ?_ (regulatorRefill_frame _) rfl
      exact .refl _ _
    · refine .step ?_ (Block.select_frame _ _ _) rfl
      refine .step ?_ (Block.select_frame _ _ _) rfl
      refine .step ?_ (Block.expandWaits_frame _ _) rfl
      refine .step ?_ (Block.releaseLost_frame _ _ _) rfl
      refine .step ?_ (regulatorRefill_frame _) rfl
      exact .refl _ _

theorem fenceArrive_frame : ∀ (a0 : Params) (a1 : Nat) (a2 : Nat) (a3 : Nat) (a4 : Status) (a5 : Block), Block.Frame 16787968 a5 (fenceArrive a0 a1 a2 a3 a4 a5) := by
  intro a0 a1 a2 a3 a4 a5
  unfold fenceArrive
  dsimp only
  refine .atBead rfl ?_ ?_
  · intro b
    refine .ite ?_ ?_
    · refine .step ?_ (Block.staleRecord_frame _ _ _ _ _) rfl
      exact .refl _ _
    · refine .ite ?_ ?_
      · exact .refl _ _
      · refine .ite ?_ ?_
        · refine .step ?_ (Block.winAbort_frame _ _ _) rfl
          refine .step ?_ (Block.modWin_frame _ _ _ _) rfl
          exact .refl _ _
        · refine .step ?_ (Block.modWin_frame _ _ _ _) rfl
          exact .refl _ _
  · exact .refl _ _

theorem Block.withdrawDispatch_frame : ∀ (a0 : Block) (a1 : Nat) (a2 : Nat), Block.Frame 8200 a0 (Block.withdrawDispatch a0 a1 a2) := by
  intro a0 a1 a2
  unfold Block.withdrawDispatch
  dsimp only
  split
  · exact .refl _ _
  · refine .ite ?_ ?_
    · refine .step ?_ (Block.winAbort_frame _ _ _) rfl
      refine .step ?_ (Block.modWin_frame _ _ _ _) rfl
      split
      · refine .step ?_ (Block.modTile_frame _ _ _ _) rfl
        refine .step ?_ (Block.modBead_frame _ _ _) rfl
        refine .step ?_ (Block.modSlot_frame _ _ _ _) rfl
        refine .step ?_ (regulatorRefill_frame _) rfl
        exact .refl _ _
      · refine .step ?_ (Block.modBead_frame _ _ _) rfl
        refine .step ?_ (Block.modSlot_frame _ _ _ _) rfl
        refine .step ?_ (regulatorRefill_frame _) rfl
        exact .refl _ _
    · refine .ite ?_ ?_
      · refine .step ?_ (Block.winAbort_frame _ _ _) rfl
        refine .step ?_ (Block.modWin_frame _ _ _ _) rfl
        refine .step ?_ (Block.modWin_frame _ _ _ _) rfl
        split
        · refine .step ?_ (Block.modTile_frame _ _ _ _) rfl
          refine .step ?_ (Block.modBead_frame _ _ _) rfl
          refine .step ?_ (Block.modSlot_frame _ _ _ _) rfl
          refine .step ?_ (regulatorRefill_frame _) rfl
          exact .refl _ _
        · refine .step ?_ (Block.modBead_frame _ _ _) rfl
          refine .step ?_ (Block.modSlot_frame _ _ _ _) rfl
          refine .step ?_ (regulatorRefill_frame _) rfl
          exact .refl _ _
      · refine .step ?_ (Block.modWin_frame _ _ _ _) rfl
        split
        · refine .step ?_ (Block.modTile_frame _ _ _ _) rfl
          refine .step ?_ (Block.modBead_frame _ _ _) rfl
          refine .step ?_ (Block.modSlot_frame _ _ _ _) rfl
          refine .step ?_ (regulatorRefill_frame _) rfl
          exact .refl _ _
        · refine .step ?_ (Block.modBead_frame _ _ _) rfl
          refine .step ?_ (Block.modSlot_frame _ _ _ _) rfl
          refine .step ?_ (regulatorRefill_frame _) rfl
          exact .refl _ _

theorem ctlFenceOff_frame : ∀ (a0 : Params) (a1 : Nat) (a2 : Block), Block.Frame 16785920 a2 (ctlFenceOff a0 a1 a2) := by
  intro a0 a1 a2
  unfold ctlFenceOff
  refine .atBead rfl ?_ ?_
  · intro b
    refine .step ?_ (Block.fenceSelf_frame _ _ _) rfl
    exact .refl _ _
  · exact .refl _ _

theorem Block.nodeRead_frame : ∀ (a0 : Params) (a1 : Nat) (a2 : Nat) (a3 : Nat) (a4 : Option (Nat × Nat)) (a5 : Bool) (a6 : Status) (a7 : List Word) (a8 : Block), Block.Frame 9714244 a8 (Block.nodeRead a0 a1 a2 a3 a4 a5 a6 a7 a8) := by
  intro a0 a1 a2 a3 a4 a5 a6 a7 a8
  unfold Block.nodeRead
  dsimp only
  refine .ite ?_ ?_
  · split
    · refine .ite ?_ ?_
      · refine .step ?_ (Block.abandon_frame _ _ _ _ _) rfl
        exact .refl _ _
      · exact .refl _ _
    · refine .ite ?_ ?_
      · refine .step ?_ (Block.winEnds_frame _ _ _ _ _) rfl
        exact .refl _ _
      · exact .refl _ _
  · refine .ite ?_ ?_
    · exact .refl _ _
    · refine .step ?_ (Block.startIndirect_frame _ _ _) rfl
      refine .step ?_ (Block.modWin_frame _ _ _ _) rfl
      exact .refl _ _

theorem engineCompletion_frame : ∀ (a0 : Params) (a1 : Nat) (a2 : Nat) (a3 : Nat) (a4 : Status) (a5 : Nat) (a6 : Block), Block.Frame 16786944 a6 (engineCompletion a0 a1 a2 a3 a4 a5 a6) := by
  intro a0 a1 a2 a3 a4 a5 a6
  unfold engineCompletion
  dsimp only
  refine .ite ?_ ?_
  · exact .refl _ _
  · split
    · refine .ite ?_ ?_
      · refine .step ?_ (Block.completeTask_frame _ _ _ _ _ _ _) rfl
        exact .refl _ _
      · refine .step ?_ (Block.discardCompletion_frame _ _ _ _ _) rfl
        exact .refl _ _
    · refine .step ?_ (Block.discardCompletion_frame _ _ _ _ _) rfl
      exact .refl _ _

theorem ctlHalt_frame : ∀ (a0 : Params) (a1 : Nat) (a2 : Nat) (a3 : Block), Block.Frame 16785920 a3 (ctlHalt a0 a1 a2 a3) := by
  intro a0 a1 a2 a3
  unfold ctlHalt
  dsimp only
  refine .atBead rfl ?_ ?_
  · intro b
    refine .step ?_ (Block.beadLocket_frame _ _ _ _ _ _) rfl
    refine .step ?_ (Block.modBead_frame _ _ _) rfl
    exact .refl _ _
  · exact .refl _ _

theorem Block.winReady_frame : ∀ (a0 : Block) (a1 : Nat) (a2 : Nat) (a3 : Nat), Block.Frame 8256 a0 (Block.winReady a0 a1 a2 a3) := by
  intro a0 a1 a2 a3
  unfold Block.winReady
  dsimp only
  refine .ite ?_ ?_
  · refine .step ?_ (Block.winEnds_frame _ _ _ _ _) rfl
    exact .refl _ _
  · refine .step ?_ (Block.startIndirect_frame _ _ _) rfl
    refine .step ?_ (Block.modWin_frame _ _ _ _) rfl
    refine .step ?_ (Block.modBead_frame _ _ _) rfl
    exact .refl _ _

theorem slotResetRequest_frame : ∀ (a0 : Params) (a1 : Nat) (a2 : Nat) (a3 : Block), Block.Frame 16785416 a3 (slotResetRequest a0 a1 a2 a3) := by
  intro a0 a1 a2 a3
  unfold slotResetRequest
  dsimp only
  refine .ite ?_ ?_
  · exact .refl _ _
  · refine .step ?_ (Block.modSlot_frame _ _ _ _) rfl
    refine .step ?_ (Block.withdrawDispatch_frame _ _ _) rfl
    refine .foldl ?_ _ ?_
    · intro b x
      refine .step ?_ (Block.taskEnds_frame _ _ _ _) rfl
      exact .refl _ _
    · refine .foldl ?_ _ ?_
      · intro b x
        refine .step ?_ (Block.locketAborted_frame _ _ _ _ _) rfl
        exact .refl _ _
      · refine .step ?_ (Block.beadLocket_frame _ _ _ _ _ _) rfl
        exact .refl _ _

theorem Block.nodeEnters_frame : ∀ (a0 : Params) (a1 : Nat) (a2 : Nat) (a3 : WinEntry) (a4 : Block), Block.Frame 16785472 a4 (Block.nodeEnters a0 a1 a2 a3 a4) := by
  intro a0 a1 a2 a3 a4
  unfold Block.nodeEnters
  dsimp only
  refine .ite ?_ ?_
  · refine .step ?_ (Block.winReady_frame _ _ _ _) rfl
    refine .ite ?_ ?_
    · refine .step ?_ (Block.ask_frame _ _ _ _ _ _) rfl
      refine .ite ?_ ?_
      · refine .step ?_ (Block.ask_frame _ _ _ _ _ _) rfl
        refine .step ?_ (Block.beadLocket_frame _ _ _ _ _ _) rfl
        refine .ite ?_ ?_
        · refine .step ?_ (Block.modWin_frame _ _ _ _) rfl
          refine .step ?_ (Block.modWin_frame _ _ _ _) rfl
          exact .refl _ _
        · refine .step ?_ (Block.modBead_frame _ _ _) rfl
          refine .step ?_ (Block.modWin_frame _ _ _ _) rfl
          refine .step ?_ (Block.modWin_frame _ _ _ _) rfl
          exact .refl _ _
      · refine .step ?_ (Block.beadLocket_frame _ _ _ _ _ _) rfl
        refine .ite ?_ ?_
        · refine .step ?_ (Block.modWin_frame _ _ _ _) rfl
          refine .step ?_ (Block.modWin_frame _ _ _ _) rfl
          exact .refl _ _
        · refine .step ?_ (Block.modBead_frame _ _ _) rfl
          refine .step ?_ (Block.modWin_frame _ _ _ _) rfl
          refine .step ?_ (Block.modWin_frame _ _ _ _) rfl
          exact .refl _ _
    · refine .ite ?_ ?_
      · refine .step ?_ (Block.ask_frame _ _ _ _ _ _) rfl
        refine .step ?_ (Block.beadLocket_frame _ _ _ _ _ _) rfl
        refine .ite ?_ ?_
        · refine .step ?_ (Block.modWin_frame _ _ _ _) rfl
          refine .step ?_ (Block.modWin_frame _ _ _ _) rfl
          exact .refl _ _
        · refine .step ?_ (Block.modBead_frame _ _ _) rfl
          refine .step ?_ (Block.modWin_frame _ _ _ _) rfl
          refine .step ?_ (Block.modWin_frame _ _ _ _) rfl
          exact .refl _ _
      · refine .step ?_ (Block.beadLocket_frame _ _ _ _ _ _) rfl
        refine .ite ?_ ?_
        · refine .step ?_ (Block.modWin_frame _ _ _ _) rfl
          refine .step ?_ (Block.modWin_frame _ _ _ _) rfl
          exact .refl _ _
        · refine .step ?_ (Block.modBead_frame _ _ _) rfl
          refine .step ?_ (Block.modWin_frame _ _ _ _) rfl
          refine .step ?_ (Block.modWin_frame _ _ _ _) rfl
          exact .refl _ _
  · refine .ite ?_ ?_
    · refine .step ?_ (Block.ask_frame _ _ _ _ _ _) rfl
      refine .ite ?_ ?_
      · refine .step ?_ (Block.ask_frame _ _ _ _ _ _) rfl
        refine .step ?_ (Block.beadLocket_frame _ _ _ _ _ _) rfl
        refine .ite ?_ ?_
        · refine .step ?_ (Block.modWin_frame _ _ _ _) rfl
          refine .step ?_ (Block.modWin_frame _ _ _ _) rfl
          exact .refl _ _
        · refine .step ?_ (Block.modBead_frame _ _ _) rfl
          refine .step ?_ (Block.modWin_frame _ _ _ _) rfl
          refine .step ?_ (Block.modWin_frame _ _ _ _) rfl
          exact .refl _ _
      · refine .step ?_ (Block.beadLocket_frame _ _ _ _ _ _) rfl
        refine .ite ?_ ?_
        · refine .step ?_ (Block.modWin_frame _ _ _ _) rfl
          refine .step ?_ (Block.modWin_frame _ _ _ _) rfl
          exact .refl _ _
        · refine .step ?_ (Block.modBead_frame _ _ _) rfl
          refine .step ?_ (Block.modWin_frame _ _ _ _) rfl
          refine .step ?_ (Block.modWin_frame _ _ _ _) rfl
          exact .refl _ _
    · refine .ite ?_ ?_
      · refine .step ?_ (Block.ask_frame _ _ _ _ _ _) rfl
        refine .step ?_ (Block.beadLocket_frame _ _ _ _ _ _) rfl
        refine .ite ?_ ?_
        · refine .step ?_ (Block.modWin_frame _ _ _ _) rfl
          refine .step ?_ (Block.modWin_frame _ _ _ _) rfl
          exact .refl _ _
        · refine .step ?_ (Block.modBead_frame _ _ _) rfl
          refine .step ?_ (Block.modWin_frame _ _ _ _) rfl
          refine .step ?_ (Block.modWin_frame _ _ _ _) rfl
          exact .refl _ _
      · refine .step ?_ (Block.beadLocket_frame _ _ _ _ _ _) rfl
        refine .ite ?_ ?_
        · refine .step ?_ (Block.modWin_frame _ _ _ _) rfl
          refine .step ?_ (Block.modWin_frame _ _ _ _) rfl
          exact .refl _ _
        · refine .step ?_ (Block.modBead_frame _ _ _) rfl
          refine .step ?_ (Block.modWin_frame _ _ _ _) rfl
          refine .step ?_ (Block.modWin_frame _ _ _ _) rfl
          exact .refl _ _

theorem Block.winDec_frame : ∀ (a0 : Params) (a1 : Nat) (a2 : Nat) (a3 : Nat) (a4 : Nat) (a5 : Status) (a6 : Nat) (a7 : Block), Block.Frame 8768 a7 (Block.winDec a0 a1 a2 a3 a4 a5 a6 a7) := by
  intro a0 a1 a2 a3 a4 a5 a6 a7
  unfold Block.winDec
  dsimp only
  refine .ite ?_ ?_
  · refine .ite ?_ ?_
    · exact .refl _ _
    · refine .step ?_ (Block.sendEvts_frame _ _ _ _ _) rfl
      exact .refl _ _
  · refine .ite ?_ ?_
    · refine .step ?_ (Block.sendEvts_frame _ _ _ _ _) rfl
      exact .refl _ _
    · refine .ite ?_ ?_
      · refine .step ?_ (Block.winReady_frame _ _ _ _) rfl
        refine .step ?_ (Block.modWin_frame _ _ _ _) rfl
        refine .step ?_ (Block.sendEvts_frame _ _ _ _ _) rfl
        exact .refl _ _
      · refine .step ?_ (Block.modWin_frame _ _ _ _) rfl
        refine .step ?_ (Block.sendEvts_frame _ _ _ _ _) rfl
        exact .refl _ _

theorem decArrive_frame : ∀ (a0 : Params) (a1 : Nat) (a2 : Nat) (a3 : Nat) (a4 : Nat) (a5 : Block), Block.Frame 16788032 a5 (decArrive a0 a1 a2 a3 a4 a5) := by
  intro a0 a1 a2 a3 a4 a5
  unfold decArrive
  dsimp only
  refine .atBead rfl ?_ ?_
  · intro b
    refine .ite ?_ ?_
    · refine .step ?_ (Block.staleRecord_frame _ _ _ _ _) rfl
      exact .refl _ _
    · refine .step ?_ (Block.winDec_frame _ _ _ _ _ _ _ _) rfl
      exact .refl _ _
  · exact .refl _ _

theorem bankDecrement_frame : ∀ (a0 : Params) (a1 : Nat) (a2 : Nat) (a3 : Block), Block.Frame 16787008 a3 (bankDecrement a0 a1 a2 a3) := by
  intro a0 a1 a2 a3
  unfold bankDecrement
  dsimp only
  split
  · exact .refl _ _
  · refine .ite ?_ ?_
    · exact .refl _ _
    · refine .ite ?_ ?_
      · refine .step ?_ (Block.winDec_frame _ _ _ _ _ _ _ _) rfl
        refine .step ?_ (Block.modBead_frame _ _ _) rfl
        exact .refl _ _
      · refine .step ?_ (Block.sendCpl_frame _ _ _ _) rfl
        refine .step ?_ (Block.winDec_frame _ _ _ _ _ _ _ _) rfl
        refine .step ?_ (Block.modBead_frame _ _ _) rfl
        exact .refl _ _

theorem Block.applyBanks_frame : ∀ (a0 : Params) (a1 : Nat) (a2 : Nat) (a3 : Nat) (a4 : Status) (a5 : List Nat) (a6 : Nat) (a7 : List Nat) (a8 : Block), Block.Frame 8768 a8 (Block.applyBanks a0 a1 a2 a3 a4 a5 a6 a7 a8) := by
  intro a0 a1 a2 a3 a4 a5 a6 a7 a8
  induction a7 generalizing a0 a1 a2 a3 a4 a5 a6 a8
  · unfold Block.applyBanks
    refine .step ?_ (Block.modBead_frame _ _ _) rfl
    exact .refl _ _
  · rename_i x xs ih
    unfold Block.applyBanks
    dsimp only
    refine .ite ?_ ?_
    · refine .step ?_ (ih _ _ _ _ _ _ _ _) rfl
      refine .step ?_ (Block.modBead_frame _ _ _) rfl
      exact .refl _ _
    · refine .step ?_ (ih _ _ _ _ _ _ _ _) rfl
      refine .step ?_ (Block.winDec_frame _ _ _ _ _ _ _ _) rfl
      exact .refl _ _

theorem nodeArrive_frame : ∀ (a0 : Params) (a1 : Nat) (a2 : Nat) (a3 : Nat) (a4 : Word) (a5 : Word) (a6 : Word) (a7 : Word) (a8 : Block), Block.Frame 16788032 a8 (nodeArrive a0 a1 a2 a3 a4 a5 a6 a7 a8) := by
  intro a0 a1 a2 a3 a4 a5 a6 a7 a8
  unfold nodeArrive
  dsimp only
  refine .atBead rfl ?_ ?_
  · intro b
    refine .ite ?_ ?_
    · refine .step ?_ (Block.nodeEnters_frame _ _ _ _ _) rfl
      exact .refl _ _
    · refine .ite ?_ ?_
      · refine .ite ?_ ?_
        · refine .step ?_ (Block.staleRecord_frame _ _ _ _ _) rfl
          exact .refl _ _
        · refine .step ?_ (Block.modWin_frame _ _ _ _) rfl
          exact .refl _ _
      · exact .refl _ _
  · exact .refl _ _

theorem windowEdgesApply_frame : ∀ (a0 : Params) (a1 : Nat) (a2 : Nat) (a3 : Block), Block.Frame 16787008 a3 (windowEdgesApply a0 a1 a2 a3) := by
  intro a0 a1 a2 a3
  unfold windowEdgesApply
  dsimp only
  refine .ite ?_ ?_
  · exact .refl _ _
  · refine .ite ?_ ?_
    · refine .step ?_ (Block.applyBanks_frame _ _ _ _ _ _ _ _ _) rfl
      exact .refl _ _
    · refine .step ?_ (Block.sendCpl_frame _ _ _ _) rfl
      refine .step ?_ (Block.applyBanks_frame _ _ _ _ _ _ _ _ _) rfl
      exact .refl _ _

end Sys2Proof.Machine
end

