-- ==== Sys2Proof/Laws/FramesQueues.lean ====
section
/-! SUPPORT. The fields each operation of Machine/Queues.lean can change, one frame per operation. -/

-- theorem after theorem, which bounds the memory of the compile
set_option Elab.async false

namespace Sys2Proof.Machine

theorem Block.tick_frame : ∀ (a0 : Block), Block.Frame 1025 a0 (Block.tick a0) := by
  intro a0
  unfold Block.tick
  dsimp only
  refine .step ?_ (.upd_now_front  _ _ _) rfl
  exact .refl _ _

theorem popWrite_frame : ∀ (a0 : Bool) (a1 : Bool) (a2 : Block), Block.Frame 1024 a2 (popWrite a0 a1 a2) := by
  intro a0 a1 a2
  unfold popWrite
  dsimp only
  refine .step ?_ (.upd_front  _ _) rfl
  exact .refl _ _

theorem Block.rejQueue_frame : ∀ (a0 : Block) (a1 : Nat), Block.Frame 1024 a0 (Block.rejQueue a0 a1) := by
  intro a0 a1
  unfold Block.rejQueue
  refine .step ?_ (Block.modQueue_frame _ _ _) rfl
  exact .refl _ _

theorem Block.freeSlot_frame : ∀ (a0 : Block) (a1 : Nat), Block.Frame 1088 a0 (Block.freeSlot a0 a1) := by
  intro a0 a1
  unfold Block.freeSlot
  dsimp only
  split
  · refine .step ?_ (Block.modQueue_frame _ _ _) rfl
    refine .step ?_ (Block.modHws_frame _ _ _) rfl
    refine .step ?_ (.upd_mp  _ _) rfl
    exact .refl _ _
  · refine .step ?_ (Block.modHws_frame _ _ _) rfl
    refine .step ?_ (.upd_mp  _ _) rfl
    exact .refl _ _

theorem Block.accQueue_frame : ∀ (a0 : Block) (a1 : Nat), Block.Frame 1024 a0 (Block.accQueue a0 a1) := by
  intro a0 a1
  unfold Block.accQueue
  refine .step ?_ (Block.modQueue_frame _ _ _) rfl
  exact .refl _ _

theorem Block.readTail_frame : ∀ (a0 : Block) (a1 : Nat) (a2 : Nat), Block.Frame 1088 a0 (Block.readTail a0 a1 a2) := by
  intro a0 a1 a2
  unfold Block.readTail
  dsimp only
  refine .step ?_ (Block.ask_frame _ _ _ _ _ _) rfl
  refine .step ?_ (Block.modHws_frame _ _ _) rfl
  refine .step ?_ (Block.modQueue_frame _ _ _) rfl
  exact .refl _ _

theorem Block.writeHead_frame : ∀ (a0 : Block) (a1 : Nat), Block.Frame 1088 a0 (Block.writeHead a0 a1) := by
  intro a0 a1
  unfold Block.writeHead
  dsimp only
  refine .step ?_ (Block.modQueue_frame _ _ _) rfl
  refine .step ?_ (Block.put_frame _ _ _ _ _ _) rfl
  exact .refl _ _

theorem unbindWrite_frame : ∀ (a0 : Nat) (a1 : Block), Block.Frame 1024 a1 (unbindWrite a0 a1) := by
  intro a0 a1
  unfold unbindWrite
  refine .ite ?_ ?_
  · refine .step ?_ (Block.modHws_frame _ _ _) rfl
    exact .refl _ _
  · exact .refl _ _

theorem slotRelease_frame : ∀ (a0 : Nat) (a1 : Block), Block.Frame 1088 a1 (slotRelease a0 a1) := by
  intro a0 a1
  unfold slotRelease
  dsimp only
  split
  · exact .refl _ _
  · refine .ite ?_ ?_
    · exact .refl _ _
    · refine .step ?_ (Block.writeHead_frame _ _) rfl
      refine .step ?_ (Block.modQueue_frame _ _ _) rfl
      refine .step ?_ (Block.freeSlot_frame _ _) rfl
      exact .refl _ _

theorem Block.takeIn_frame : ∀ (a0 : Nat) (a1 : Block) (a2 : Nat) (a3 : Nat), Block.Frame 1088 a1 (Block.takeIn a0 a1 a2 a3) := by
  intro a0 a1 a2 a3
  induction a0 generalizing a1 a2 a3
  · unfold Block.takeIn
    exact .refl _ _
  · rename_i k ih
    unfold Block.takeIn
    dsimp only
    split
    · exact .refl _ _
    · refine .step ?_ (ih _ _ _) rfl
      refine .ite ?_ ?_
      · refine .step ?_ (Block.writeHead_frame _ _) rfl
        refine .step ?_ (Block.progress_frame _ _ _) rfl
        refine .step ?_ (Block.modQueue_frame _ _ _) rfl
        refine .step ?_ (Block.modHws_frame _ _ _) rfl
        exact .refl _ _
      · refine .step ?_ (Block.progress_frame _ _ _) rfl
        refine .step ?_ (Block.modQueue_frame _ _ _) rfl
        refine .step ?_ (Block.modHws_frame _ _ _) rfl
        exact .refl _ _

theorem Block.unbindQueue_frame : ∀ (a0 : Block) (a1 : Nat), Block.Frame 1088 a0 (Block.unbindQueue a0 a1) := by
  intro a0 a1
  unfold Block.unbindQueue
  split
  · refine .step ?_ (Block.freeSlot_frame _ _) rfl
    exact .refl _ _
  · exact .refl _ _

theorem Block.noteRelease_frame : ∀ (a0 : Block) (a1 : Nat), Block.Frame 1024 a0 (Block.noteRelease a0 a1) := by
  intro a0 a1
  unfold Block.noteRelease
  dsimp only
  split
  · exact .refl _ _
  · refine .ite ?_ ?_
    · refine .step ?_ (Block.modHws_frame _ _ _) rfl
      exact .refl _ _
    · exact .refl _ _

theorem Block.bindQueue_frame : ∀ (a0 : Block) (a1 : Nat) (a2 : Nat), Block.Frame 1088 a0 (Block.bindQueue a0 a1 a2) := by
  intro a0 a1 a2
  unfold Block.bindQueue
  dsimp only
  refine .step ?_ (Block.readTail_frame _ _ _) rfl
  refine .step ?_ (.upd_front  _ _) rfl
  refine .step ?_ (Block.modQueue_frame _ _ _) rfl
  refine .step ?_ (Block.modHws_frame _ _ _) rfl
  exact .refl _ _

theorem Block.doorbellReject_frame : ∀ (a0 : Block) (a1 : Nat) (a2 : List Nat), Block.Frame 9438208 a0 (Block.doorbellReject a0 a1 a2) := by
  intro a0 a1 a2
  unfold Block.doorbellReject
  dsimp only
  split
  · exact .refl _ _
  · refine .step ?_ (Block.raise_frame _ _) rfl
    refine .step ?_ (.upd_front  _ _) rfl
    exact .refl _ _

theorem Block.requestOne_frame : ∀ (a0 : Block) (a1 : Nat), Block.Frame 1088 a0 (Block.requestOne a0 a1) := by
  intro a0 a1
  unfold Block.requestOne
  dsimp only
  split
  · exact .refl _ _
  · refine .ite ?_ ?_
    · exact .refl _ _
    · refine .ite ?_ ?_
      · refine .step ?_ (Block.noteRelease_frame _ _) rfl
        exact .refl _ _
      · refine .ite ?_ ?_
        · exact .refl _ _
        · refine .step ?_ (Block.modHws_frame _ _ _) rfl
          refine .step ?_ (Block.ask_frame _ _ _ _ _ _) rfl
          exact .refl _ _

theorem Block.disableQueue_frame : ∀ (a0 : Block) (a1 : Nat) (a2 : Bool), Block.Frame 9438272 a0 (Block.disableQueue a0 a1 a2) := by
  intro a0 a1 a2
  unfold Block.disableQueue
  dsimp only
  refine .ite ?_ ?_
  · refine .step ?_ (Block.raise_frame _ _) rfl
    refine .step ?_ (Block.writeHead_frame _ _) rfl
    refine .step ?_ (Block.modQueue_frame _ _ _) rfl
    refine .step ?_ (Block.unbindQueue_frame _ _) rfl
    exact .refl _ _
  · refine .step ?_ (Block.writeHead_frame _ _) rfl
    refine .step ?_ (Block.modQueue_frame _ _ _) rfl
    refine .step ?_ (Block.unbindQueue_frame _ _) rfl
    exact .refl _ _

theorem Block.answerWrite_frame : ∀ (a0 : Block) (a1 : WReq) (a2 : BitVec 2), Block.Frame 9437248 a0 (Block.answerWrite a0 a1 a2) := by
  intro a0 a1 a2
  unfold Block.answerWrite
  dsimp only
  refine .ite ?_ ?_
  · refine .step ?_ (.upd_mp  _ _) rfl
    exact .refl _ _
  · refine .step ?_ (Block.mpError_frame _ _ _ _ _ _ _) rfl
    refine .step ?_ (.upd_mp  _ _) rfl
    exact .refl _ _

theorem idleTest_frame : ∀ (a0 : Nat) (a1 : Block), Block.Frame 1088 a1 (idleTest a0 a1) := by
  intro a0 a1
  unfold idleTest
  dsimp only
  split
  · exact .refl _ _
  · refine .ite ?_ ?_
    · exact .refl _ _
    · refine .ite ?_ ?_
      · refine .step ?_ (Block.readTail_frame _ _ _) rfl
        exact .refl _ _
      · refine .step ?_ (Block.writeHead_frame _ _) rfl
        refine .step ?_ (Block.modQueue_frame _ _ _) rfl
        refine .step ?_ (Block.freeSlot_frame _ _) rfl
        exact .refl _ _

theorem queueDisabled_frame : ∀ (a0 : Nat) (a1 : Block), Block.Frame 9438272 a1 (queueDisabled a0 a1) := by
  intro a0 a1
  unfold queueDisabled
  dsimp only
  refine .ite ?_ ?_
  · refine .step ?_ (Block.disableQueue_frame _ _ _) rfl
    exact .refl _ _
  · exact .refl _ _

theorem Block.answerBeats_frame : ∀ (a0 : Block) (a1 : RReq) (a2 : List (BitVec 2)), Block.Frame 9437248 a0 (Block.answerBeats a0 a1 a2) := by
  intro a0 a1 a2
  unfold Block.answerBeats
  dsimp only
  refine .foldl ?_ _ ?_
  · intro b x
    refine .ite ?_ ?_
    · exact .refl _ _
    · refine .step ?_ (Block.mpError_frame _ _ _ _ _ _ _) rfl
      exact .refl _ _
  · refine .step ?_ (.upd_mp  _ _) rfl
    exact .refl _ _

theorem Block.ring_frame : ∀ (a0 : Block) (a1 : Nat), Block.Frame 1088 a0 (Block.ring a0 a1) := by
  intro a0 a1
  unfold Block.ring
  refine .ite ?_ ?_
  · refine .step ?_ (Block.writeHead_frame _ _) rfl
    refine .step ?_ (Block.modQueue_frame _ _ _) rfl
    exact .refl _ _
  · refine .step ?_ (Block.modQueue_frame _ _ _) rfl
    exact .refl _ _

theorem slotMapperBind_frame : ∀ (a0 : Block), Block.Frame 1088 a0 (slotMapperBind a0) := by
  intro a0
  unfold slotMapperBind
  refine .ite ?_ ?_
  · exact .refl _ _
  · split
    · exact .refl _ _
    · split
      · refine .step ?_ (Block.bindQueue_frame _ _ _) rfl
        exact .refl _ _
      · exact .refl _ _

theorem qDisable_frame : ∀ (a0 : Nat) (a1 : Block), Block.Frame 9438272 a1 (qDisable a0 a1) := by
  intro a0 a1
  unfold qDisable
  dsimp only
  refine .ite ?_ ?_
  · refine .step ?_ (Block.accQueue_frame _ _) rfl
    exact .refl _ _
  · refine .ite ?_ ?_
    · refine .step ?_ (Block.disableQueue_frame _ _ _) rfl
      refine .ite ?_ ?_
      · refine .step ?_ (Block.unbindQueue_frame _ _) rfl
        refine .step ?_ (Block.accQueue_frame _ _) rfl
        exact .refl _ _
      · refine .step ?_ (Block.accQueue_frame _ _) rfl
        exact .refl _ _
    · refine .step ?_ (Block.modQueue_frame _ _ _) rfl
      refine .ite ?_ ?_
      · refine .step ?_ (Block.unbindQueue_frame _ _) rfl
        refine .step ?_ (Block.accQueue_frame _ _) rfl
        exact .refl _ _
      · refine .step ?_ (Block.accQueue_frame _ _) rfl
        exact .refl _ _

theorem qEnable_frame : ∀ (a0 : Nat) (a1 : Block), Block.Frame 1088 a1 (qEnable a0 a1) := by
  intro a0 a1
  unfold qEnable
  dsimp only
  refine .ite ?_ ?_
  · refine .step ?_ (Block.rejQueue_frame _ _) rfl
    exact .refl _ _
  · refine .step ?_ (Block.writeHead_frame _ _) rfl
    refine .step ?_ (Block.modQueue_frame _ _ _) rfl
    exact .refl _ _

theorem Block.requestMore_frame : ∀ (a0 : Block) (a1 : Nat), Block.Frame 1088 a0 (Block.requestMore a0 a1) := by
  intro a0 a1
  unfold Block.requestMore
  refine .step ?_ (Block.requestOne_frame _ _) rfl
  refine .step ?_ (Block.requestOne_frame _ _) rfl
  refine .step ?_ (Block.requestOne_frame _ _) rfl
  refine .step ?_ (Block.requestOne_frame _ _) rfl
  refine .step ?_ (Block.requestOne_frame _ _) rfl
  exact .refl _ _

theorem stallReport_frame : ∀ (a0 : Nat) (a1 : Nat) (a2 : Block), Block.Frame 9438208 a2 (stallReport a0 a1 a2) := by
  intro a0 a1 a2
  unfold stallReport
  dsimp only
  refine .ite ?_ ?_
  · exact .refl _ _
  · refine .ite ?_ ?_
    · refine .step ?_ (Block.raise_frame _ _) rfl
      refine .step ?_ (Block.traceEvent_frame _ _ _ _ _) rfl
      refine .step ?_ (.upd_front  _ _) rfl
      exact .refl _ _
    · refine .step ?_ (.upd_front  _ _) rfl
      exact .refl _ _

theorem Block.haltQueue_frame : ∀ (a0 : Block) (a1 : Nat) (a2 : Nat), Block.Frame 26215488 a0 (Block.haltQueue a0 a1 a2) := by
  intro a0 a1 a2
  unfold Block.haltQueue
  dsimp only
  refine .step ?_ (Block.claspLocket_frame _ _ _) rfl
  refine .step ?_ (Block.raise_frame _ _) rfl
  refine .step ?_ (Block.writeHead_frame _ _) rfl
  refine .step ?_ (Block.modQueue_frame _ _ _) rfl
  refine .step ?_ (Block.unbindQueue_frame _ _) rfl
  exact .refl _ _

theorem queueForceDone_frame : ∀ (a0 : Nat) (a1 : Block), Block.Frame 9438272 a1 (queueForceDone a0 a1) := by
  intro a0 a1
  unfold queueForceDone
  dsimp only
  refine .ite ?_ ?_
  · refine .step ?_ (Block.disableQueue_frame _ _ _) rfl
    exact .refl _ _
  · exact .refl _ _

theorem Block.afterArrival_frame : ∀ (a0 : Block) (a1 : Nat) (a2 : Nat), Block.Frame 1088 a0 (Block.afterArrival a0 a1 a2) := by
  intro a0 a1 a2
  unfold Block.afterArrival
  refine .ite ?_ ?_
  · refine .ite ?_ ?_
    · refine .step ?_ (Block.freeSlot_frame _ _) rfl
      exact .refl _ _
    · exact .refl _ _
  · refine .step ?_ (Block.requestMore_frame _ _) rfl
    exact .refl _ _

theorem doorbellWrite_frame : ∀ (a0 : Nat) (a1 : Nat) (a2 : BitVec 32) (a3 : Block), Block.Frame 9438272 a3 (doorbellWrite a0 a1 a2 a3) := by
  intro a0 a1 a2 a3
  unfold doorbellWrite
  dsimp only
  refine .step ?_ (Block.doorbellReject_frame _ _ _) rfl
  refine .foldl ?_ _ ?_
  · intro b x
    refine .step ?_ (Block.ring_frame _ _) rfl
    exact .refl _ _
  · exact .refl _ _

theorem Block.tailReturn_frame : ∀ (a0 : Nat) (a1 : BitVec 2) (a2 : BitVec 32) (a3 : Block), Block.Frame 26215488 a3 (Block.tailReturn a0 a1 a2 a3) := by
  intro a0 a1 a2 a3
  unfold Block.tailReturn
  dsimp only
  split
  · exact .refl _ _
  · refine .ite ?_ ?_
    · exact .refl _ _
    · refine .ite ?_ ?_
      · refine .step ?_ (Block.haltQueue_frame _ _ _) rfl
        exact .refl _ _
      · refine .ite ?_ ?_
        · refine .step ?_ (Block.haltQueue_frame _ _ _) rfl
          refine .step ?_ (Block.modQueue_frame _ _ _) rfl
          exact .refl _ _
        · refine .step ?_ (Block.requestMore_frame _ _) rfl
          refine .step ?_ (Block.modHws_frame _ _ _) rfl
          refine .step ?_ (Block.modQueue_frame _ _ _) rfl
          exact .refl _ _

theorem Block.descsReturn_frame : ∀ (a0 : Nat) (a1 : Nat) (a2 : Nat) (a3 : List (BitVec 2)) (a4 : List Word) (a5 : Block), Block.Frame 1088 a5 (Block.descsReturn a0 a1 a2 a3 a4 a5) := by
  intro a0 a1 a2 a3 a4 a5
  unfold Block.descsReturn
  dsimp only
  split
  · exact .refl _ _
  · refine .step ?_ (Block.afterArrival_frame _ _ _) rfl
    refine .step ?_ (Block.takeIn_frame _ _ _ _) rfl
    refine .step ?_ (Block.modHws_frame _ _ _) rfl
    refine .step ?_ (Block.noteRelease_frame _ _) rfl
    exact .refl _ _

theorem Block.headError_frame : ∀ (a0 : Nat) (a1 : Block), Block.Frame 26215488 a1 (Block.headError a0 a1) := by
  intro a0 a1
  unfold Block.headError
  dsimp only
  refine .ite ?_ ?_
  · refine .step ?_ (Block.haltQueue_frame _ _ _) rfl
    exact .refl _ _
  · refine .step ?_ (Block.modQueue_frame _ _ _) rfl
    exact .refl _ _

theorem tailReadReturn_frame : ∀ (a0 : Nat) (a1 : BitVec 2) (a2 : BitVec 32) (a3 : Block), Block.Frame 26215488 a3 (tailReadReturn a0 a1 a2 a3) := by
  intro a0 a1 a2 a3
  unfold tailReadReturn
  split
  · exact .refl _ _
  · refine .step ?_ (Block.tailReturn_frame _ _ _ _) rfl
    refine .step ?_ (Block.answerRead_frame _ _ _) rfl
    exact .refl _ _

theorem rcbError_frame : ∀ (a0 : Nat) (a1 : Bool) (a2 : BitVec 2) (a3 : Block), Block.Frame 26215488 a3 (rcbError a0 a1 a2 a3) := by
  intro a0 a1 a2 a3
  unfold rcbError
  refine .ite ?_ ?_
  · exact .refl _ _
  · refine .ite ?_ ?_
    · split
      · refine .step ?_ (tailReadReturn_frame _ _ _ _) rfl
        exact .refl _ _
      · exact .refl _ _
    · split
      · exact .refl _ _
      · refine .step ?_ (Block.headError_frame _ _) rfl
        refine .step ?_ (Block.answerWrite_frame _ _ _) rfl
        exact .refl _ _

theorem descriptorArrival_frame : ∀ (a0 : Nat) (a1 : List (BitVec 2)) (a2 : List Word) (a3 : Block), Block.Frame 9438272 a3 (descriptorArrival a0 a1 a2 a3) := by
  intro a0 a1 a2 a3
  unfold descriptorArrival
  split
  · exact .refl _ _
  · split
    · refine .step ?_ (Block.descsReturn_frame _ _ _ _ _ _) rfl
      refine .step ?_ (Block.answerBeats_frame _ _ _) rfl
      exact .refl _ _
    · exact .refl _ _

theorem Block.forceQueue_frame : ∀ (a0 : Params) (a1 : Block) (a2 : Nat), Block.Frame 11812420 a1 (Block.forceQueue a0 a1 a2) := by
  intro a0 a1 a2
  unfold Block.forceQueue
  dsimp only
  refine .step ?_ (Block.unhold_frame _) rfl
  refine .step ?_ (Block.modQueue_frame _ _ _) rfl
  refine .foldl ?_ _ ?_
  · intro b x
    refine .step ?_ (Block.askReset_frame _ _ _ _) rfl
    exact .refl _ _
  · refine .foldl ?_ _ ?_
    · intro b x
      refine .step ?_ (Block.abandon_frame _ _ _ _ _) rfl
      exact .refl _ _
    · refine .step ?_ (Block.modQueue_frame _ _ _) rfl
      refine .step ?_ (Block.unbindQueue_frame _ _) rfl
      exact .refl _ _

theorem qForce_frame : ∀ (a0 : Params) (a1 : Nat) (a2 : Block), Block.Frame 11812420 a2 (qForce a0 a1 a2) := by
  intro a0 a1 a2
  unfold qForce
  dsimp only
  refine .ite ?_ ?_
  · refine .step ?_ (Block.accQueue_frame _ _) rfl
    exact .refl _ _
  · refine .step ?_ (Block.forceQueue_frame _ _ _) rfl
    refine .step ?_ (Block.accQueue_frame _ _) rfl
    exact .refl _ _

theorem queueCommand_frame : ∀ (a0 : Params) (a1 : Nat) (a2 : Nat) (a3 : Block), Block.Frame 11812420 a3 (queueCommand a0 a1 a2 a3) := by
  intro a0 a1 a2 a3
  unfold queueCommand
  split
  · refine .step ?_ (qEnable_frame _ _) rfl
    exact .refl _ _
  · refine .step ?_ (qDisable_frame _ _) rfl
    exact .refl _ _
  · refine .step ?_ (qForce_frame _ _ _) rfl
    exact .refl _ _
  · refine .step ?_ (Block.rejQueue_frame _ _) rfl
    exact .refl _ _

end Sys2Proof.Machine
end

