-- ==== Sys2Proof/Laws/FramesCompletion.lean ====
section
/-! SUPPORT. The fields each operation of Machine/Completion.lean can change, one frame per operation. -/

-- theorem after theorem, which bounds the memory of the compile
set_option Elab.async false

namespace Sys2Proof.Machine

theorem Block.cqEnableFails_frame : ∀ (a0 : Block) (a1 : Nat), Block.Frame 131072 a0 (Block.cqEnableFails a0 a1) := by
  intro a0 a1
  unfold Block.cqEnableFails
  refine .step ?_ (Block.modCq_frame _ _ _) rfl
  exact .refl _ _

theorem Block.rejCq_frame : ∀ (a0 : Block) (a1 : Nat), Block.Frame 131072 a0 (Block.rejCq a0 a1) := by
  intro a0 a1
  unfold Block.rejCq
  refine .step ?_ (Block.modCq_frame _ _ _) rfl
  exact .refl _ _

theorem Block.cqEnableTail_frame : ∀ (a0 : Nat) (a1 : BitVec 2) (a2 : Block), Block.Frame 131072 a2 (Block.cqEnableTail a0 a1 a2) := by
  intro a0 a1 a2
  unfold Block.cqEnableTail
  refine .ite ?_ ?_
  · exact .refl _ _
  · refine .ite ?_ ?_
    · refine .step ?_ (Block.cqEnableFails_frame _ _) rfl
      exact .refl _ _
    · refine .step ?_ (Block.modCq_frame _ _ _) rfl
      exact .refl _ _

theorem cqDisable_frame : ∀ (a0 : Nat) (a1 : Block), Block.Frame 131136 a1 (cqDisable a0 a1) := by
  intro a0 a1
  unfold cqDisable
  dsimp only
  refine .ite ?_ ?_
  · refine .step ?_ (Block.modCq_frame _ _ _) rfl
    refine .step ?_ (.upd_mp  _ _) rfl
    exact .refl _ _
  · refine .step ?_ (Block.rejCq_frame _ _) rfl
    exact .refl _ _

theorem Block.traceComplete_frame : ∀ (a0 : Block) (a1 : Comp) (a2 : Nat) (a3 : Bool), Block.Frame 9437184 a0 (Block.traceComplete a0 a1 a2 a3) := by
  intro a0 a1 a2 a3
  unfold Block.traceComplete
  refine .ite ?_ ?_
  · exact .refl _ _
  · refine .step ?_ (Block.traceEvent_frame _ _ _ _ _) rfl
    exact .refl _ _

theorem Block.cqReadHead_frame : ∀ (a0 : Block) (a1 : Nat), Block.Frame 131136 a0 (Block.cqReadHead a0 a1) := by
  intro a0 a1
  unfold Block.cqReadHead
  refine .step ?_ (Block.modCq_frame _ _ _) rfl
  refine .step ?_ (Block.ask_frame _ _ _ _ _ _) rfl
  exact .refl _ _

theorem cqCfgWrite_frame : ∀ (a0 : Nat) (a1 : BitVec 32) (a2 : Block), Block.Frame 131072 a2 (cqCfgWrite a0 a1 a2) := by
  intro a0 a1 a2
  unfold cqCfgWrite
  dsimp only
  refine .ite ?_ ?_
  · refine .step ?_ (Block.modCq_frame _ _ _) rfl
    exact .refl _ _
  · refine .step ?_ (Block.modCq_frame _ _ _) rfl
    exact .refl _ _

theorem cqResume_frame : ∀ (a0 : Nat) (a1 : Block), Block.Frame 131136 a1 (cqResume a0 a1) := by
  intro a0 a1
  unfold cqResume
  dsimp only
  refine .ite ?_ ?_
  · refine .step ?_ (Block.modCq_frame _ _ _) rfl
    refine .step ?_ (Block.ask_frame _ _ _ _ _ _) rfl
    exact .refl _ _
  · refine .step ?_ (Block.rejCq_frame _ _) rfl
    exact .refl _ _

theorem Block.cqEnableHead_frame : ∀ (a0 : Nat) (a1 : BitVec 2) (a2 : BitVec 32) (a3 : Block), Block.Frame 131136 a3 (Block.cqEnableHead a0 a1 a2 a3) := by
  intro a0 a1 a2 a3
  unfold Block.cqEnableHead
  refine .ite ?_ ?_
  · exact .refl _ _
  · refine .ite ?_ ?_
    · refine .step ?_ (Block.cqEnableFails_frame _ _) rfl
      exact .refl _ _
    · refine .step ?_ (Block.modCq_frame _ _ _) rfl
      refine .step ?_ (Block.put_frame _ _ _ _ _ _) rfl
      exact .refl _ _

theorem Block.saveRecord_frame : ∀ (a0 : Block) (a1 : Comp), Block.Frame 524288 a0 (Block.saveRecord a0 a1) := by
  intro a0 a1
  unfold Block.saveRecord
  refine .ite ?_ ?_
  · exact .refl _ _
  · refine .ite ?_ ?_
    · refine .step ?_ (Block.modCtx_frame _ _ _) rfl
      exact .refl _ _
    · refine .ite ?_ ?_
      · refine .step ?_ (Block.modCtx_frame _ _ _) rfl
        exact .refl _ _
      · refine .step ?_ (Block.modCtx_frame _ _ _) rfl
        exact .refl _ _

theorem Block.cqWrite_frame : ∀ (a0 : Block) (a1 : Nat) (a2 : Comp), Block.Frame 131136 a0 (Block.cqWrite a0 a1 a2) := by
  intro a0 a1 a2
  unfold Block.cqWrite
  dsimp only
  refine .step ?_ (Block.modCq_frame _ _ _) rfl
  refine .step ?_ (Block.put_frame _ _ _ _ _ _) rfl
  refine .ite ?_ ?_
  · exact .refl _ _
  · refine .step ?_ (Block.put_frame _ _ _ _ _ _) rfl
    exact .refl _ _

theorem cqEnable_frame : ∀ (a0 : Nat) (a1 : Block), Block.Frame 131136 a1 (cqEnable a0 a1) := by
  intro a0 a1
  unfold cqEnable
  dsimp only
  refine .ite ?_ ?_
  · refine .step ?_ (Block.modCq_frame _ _ _) rfl
    refine .step ?_ (Block.ask_frame _ _ _ _ _ _) rfl
    exact .refl _ _
  · refine .step ?_ (Block.rejCq_frame _ _) rfl
    exact .refl _ _

theorem Block.dropForeign_frame : ∀ (a0 : Block) (a1 : Nat), Block.Frame 9830400 a0 (Block.dropForeign a0 a1) := by
  intro a0 a1
  unfold Block.dropForeign
  dsimp only
  refine .step ?_ (Block.raise_frame _ _) rfl
  refine .step ?_ (.upd_link  _ _) rfl
  refine .step ?_ (Block.modCq_frame _ _ _) rfl
  exact .refl _ _

theorem Block.dropForeigns_frame : ∀ (a0 : Block) (a1 : Nat), Block.Frame 9830400 a0 (Block.dropForeigns a0 a1) := by
  intro a0 a1
  unfold Block.dropForeigns
  dsimp only
  refine .ite ?_ ?_
  · exact .refl _ _
  · refine .step ?_ (Block.raise_frame _ _) rfl
    refine .step ?_ (.upd_link  _ _) rfl
    refine .step ?_ (Block.modCq_frame _ _ _) rfl
    exact .refl _ _

theorem cqCommand_frame : ∀ (a0 : Nat) (a1 : Nat) (a2 : Block), Block.Frame 131136 a2 (cqCommand a0 a1 a2) := by
  intro a0 a1 a2
  unfold cqCommand
  split
  · refine .step ?_ (cqEnable_frame _ _) rfl
    exact .refl _ _
  · refine .step ?_ (cqDisable_frame _ _) rfl
    exact .refl _ _
  · refine .step ?_ (cqResume_frame _ _) rfl
    exact .refl _ _
  · refine .step ?_ (Block.rejCq_frame _ _) rfl
    exact .refl _ _

theorem fallbackSend_frame : ∀ (a0 : Nat) (a1 : Block), Block.Frame 9830400 a1 (fallbackSend a0 a1) := by
  intro a0 a1
  unfold fallbackSend
  dsimp only
  split
  · exact .refl _ _
  · refine .ite ?_ ?_
    · exact .refl _ _
    · refine .ite ?_ ?_
      · refine .step ?_ (Block.dropForeign_frame _ _) rfl
        exact .refl _ _
      · refine .ite ?_ ?_
        · exact .refl _ _
        · refine .step ?_ (Block.modCq_frame _ _ _) rfl
          refine .step ?_ (Block.txPut_frame _ _) rfl
          exact .refl _ _

theorem Block.cqUnreachable_frame : ∀ (a0 : Block) (a1 : Nat) (a2 : Nat), Block.Frame 26607680 a0 (Block.cqUnreachable a0 a1 a2) := by
  intro a0 a1 a2
  unfold Block.cqUnreachable
  dsimp only
  refine .ite ?_ ?_
  · refine .step ?_ (Block.modCq_frame _ _ _) rfl
    refine .step ?_ (Block.dropForeigns_frame _ _) rfl
    refine .step ?_ (.upd_mp  _ _) rfl
    exact .refl _ _
  · refine .step ?_ (Block.claspLocket_frame _ _ _) rfl
    refine .step ?_ (Block.raise_frame _ _) rfl
    refine .step ?_ (Block.modCq_frame _ _ _) rfl
    refine .step ?_ (Block.dropForeigns_frame _ _) rfl
    refine .step ?_ (.upd_mp  _ _) rfl
    exact .refl _ _

theorem Block.cqNoRoom_frame : ∀ (a0 : Block) (a1 : Nat), Block.Frame 9830400 a0 (Block.cqNoRoom a0 a1) := by
  intro a0 a1
  unfold Block.cqNoRoom
  dsimp only
  refine .ite ?_ ?_
  · refine .step ?_ (Block.dropForeign_frame _ _) rfl
    exact .refl _ _
  · refine .step ?_ (Block.modCq_frame _ _ _) rfl
    refine .step ?_ (Block.dropForeigns_frame _ _) rfl
    exact .refl _ _

theorem Block.cqDeliver_frame : ∀ (a0 : Block) (a1 : Nat) (a2 : Comp), Block.Frame 26607680 a0 (Block.cqDeliver a0 a1 a2) := by
  intro a0 a1 a2
  unfold Block.cqDeliver
  dsimp only
  refine .ite ?_ ?_
  · refine .step ?_ (Block.cqUnreachable_frame _ _ _) rfl
    exact .refl _ _
  · refine .ite ?_ ?_
    · refine .step ?_ (Block.cqUnreachable_frame _ _ _) rfl
      exact .refl _ _
    · refine .ite ?_ ?_
      · refine .step ?_ (Block.cqWrite_frame _ _ _) rfl
        exact .refl _ _
      · refine .ite ?_ ?_
        · refine .step ?_ (Block.cqNoRoom_frame _ _) rfl
          exact .refl _ _
        · refine .step ?_ (Block.cqReadHead_frame _ _) rfl
          exact .refl _ _

theorem cqHeadReread_frame : ∀ (a0 : Nat) (a1 : Block), Block.Frame 26607680 a1 (cqHeadReread a0 a1) := by
  intro a0 a1
  unfold cqHeadReread
  dsimp only
  refine .ite ?_ ?_
  · refine .ite ?_ ?_
    · refine .step ?_ (Block.cqUnreachable_frame _ _ _) rfl
      exact .refl _ _
    · refine .step ?_ (Block.cqReadHead_frame _ _) rfl
      exact .refl _ _
  · exact .refl _ _

theorem completionDelivery_frame : ∀ (a0 : Nat) (a1 : Block), Block.Frame 26607680 a1 (completionDelivery a0 a1) := by
  intro a0 a1
  unfold completionDelivery
  dsimp only
  split
  · exact .refl _ _
  · refine .ite ?_ ?_
    · exact .refl _ _
    · refine .ite ?_ ?_
      · refine .step ?_ (Block.cqDeliver_frame _ _ _) rfl
        exact .refl _ _
      · refine .ite ?_ ?_
        · refine .step ?_ (Block.dropForeign_frame _ _) rfl
          exact .refl _ _
        · exact .refl _ _

theorem Block.cqRecordAck_frame : ∀ (a0 : Nat) (a1 : BitVec 2) (a2 : Block), Block.Frame 26607680 a2 (Block.cqRecordAck a0 a1 a2) := by
  intro a0 a1 a2
  unfold Block.cqRecordAck
  dsimp only
  split
  · refine .ite ?_ ?_
    · refine .step ?_ (Block.cqUnreachable_frame _ _ _) rfl
      exact .refl _ _
    · refine .ite ?_ ?_
      · refine .step ?_ (Block.modCq_frame _ _ _) rfl
        exact .refl _ _
      · refine .step ?_ (Block.modCq_frame _ _ _) rfl
        refine .step ?_ (Block.put_frame _ _ _ _ _ _) rfl
        exact .refl _ _
  · exact .refl _ _

theorem Block.cqHeadReturn_frame : ∀ (a0 : Nat) (a1 : BitVec 2) (a2 : BitVec 32) (a3 : Block), Block.Frame 26607680 a3 (Block.cqHeadReturn a0 a1 a2 a3) := by
  intro a0 a1 a2 a3
  unfold Block.cqHeadReturn
  dsimp only
  refine .ite ?_ ?_
  · exact .refl _ _
  · refine .ite ?_ ?_
    · refine .step ?_ (Block.cqUnreachable_frame _ _ _) rfl
      refine .step ?_ (Block.modCq_frame _ _ _) rfl
      exact .refl _ _
    · refine .ite ?_ ?_
      · refine .step ?_ (Block.modCq_frame _ _ _) rfl
        refine .step ?_ (Block.modCq_frame _ _ _) rfl
        exact .refl _ _
      · refine .ite ?_ ?_
        · refine .step ?_ (Block.cqUnreachable_frame _ _ _) rfl
          refine .step ?_ (Block.modCq_frame _ _ _) rfl
          refine .step ?_ (Block.modCq_frame _ _ _) rfl
          exact .refl _ _
        · split
          · refine .ite ?_ ?_
            · refine .step ?_ (Block.modCq_frame _ _ _) rfl
              refine .step ?_ (Block.modCq_frame _ _ _) rfl
              refine .step ?_ (Block.modCq_frame _ _ _) rfl
              exact .refl _ _
            · refine .step ?_ (Block.cqNoRoom_frame _ _) rfl
              refine .step ?_ (Block.modCq_frame _ _ _) rfl
              refine .step ?_ (Block.modCq_frame _ _ _) rfl
              exact .refl _ _
          · refine .step ?_ (Block.modCq_frame _ _ _) rfl
            refine .step ?_ (Block.modCq_frame _ _ _) rfl
            exact .refl _ _

theorem Block.doneFence_frame : ∀ (a0 : Block) (a1 : Comp), Block.Frame 9705472 a0 (Block.doneFence a0 a1) := by
  intro a0 a1
  unfold Block.doneFence
  dsimp only
  refine .ite ?_ ?_
  · exact .refl _ _
  · refine .ite ?_ ?_
    · refine .step ?_ (Block.poisonHandle_frame _ _ _ _ _) rfl
      exact .refl _ _
    · refine .step ?_ (Block.signalFence_frame _ _ _ _ _ _) rfl
      exact .refl _ _

theorem Block.delivered_frame : ∀ (a0 : Block) (a1 : Nat) (a2 : Comp), Block.Frame 10230784 a0 (Block.delivered a0 a1 a2) := by
  intro a0 a1 a2
  unfold Block.delivered
  dsimp only
  refine .ite ?_ ?_
  · refine .ite ?_ ?_
    · refine .step ?_ (Block.raise_frame _ _) rfl
      exact .refl _ _
    · exact .refl _ _
  · split
    · refine .step ?_ (Block.modSub_frame _ _ _) rfl
      refine .step ?_ (Block.progress_frame _ _ _) rfl
      refine .step ?_ (Block.modQueue_frame _ _ _) rfl
      refine .step ?_ (Block.saveRecord_frame _ _) rfl
      refine .step ?_ (Block.doneFence_frame _ _) rfl
      refine .ite ?_ ?_
      · refine .step ?_ (Block.raise_frame _ _) rfl
        exact .refl _ _
      · exact .refl _ _
    · refine .step ?_ (Block.progress_frame _ _ _) rfl
      refine .step ?_ (Block.modQueue_frame _ _ _) rfl
      refine .step ?_ (Block.saveRecord_frame _ _) rfl
      refine .step ?_ (Block.doneFence_frame _ _) rfl
      refine .ite ?_ ?_
      · refine .step ?_ (Block.raise_frame _ _) rfl
        exact .refl _ _
      · exact .refl _ _

theorem Block.cqDone_frame : ∀ (a0 : Block) (a1 : Nat) (a2 : Bool), Block.Frame 10361856 a0 (Block.cqDone a0 a1 a2) := by
  intro a0 a1 a2
  unfold Block.cqDone
  dsimp only
  split
  · exact .refl _ _
  · refine .step ?_ (Block.delivered_frame _ _ _) rfl
    refine .step ?_ (Block.modCq_frame _ _ _) rfl
    refine .step ?_ (Block.traceComplete_frame _ _ _ _) rfl
    exact .refl _ _

theorem Block.cqSent_frame : ∀ (a0 : Block) (a1 : Nat), Block.Frame 10361856 a0 (Block.cqSent a0 a1) := by
  intro a0 a1
  unfold Block.cqSent
  refine .ite ?_ ?_
  · refine .step ?_ (Block.cqDone_frame _ _ _) rfl
    refine .step ?_ (Block.modCq_frame _ _ _) rfl
    exact .refl _ _
  · exact .refl _ _

theorem Block.cqTailAck_frame : ∀ (a0 : Nat) (a1 : BitVec 2) (a2 : Block), Block.Frame 27139136 a2 (Block.cqTailAck a0 a1 a2) := by
  intro a0 a1 a2
  unfold Block.cqTailAck
  split
  · refine .ite ?_ ?_
    · refine .step ?_ (Block.cqUnreachable_frame _ _ _) rfl
      exact .refl _ _
    · refine .step ?_ (Block.cqDone_frame _ _ _) rfl
      refine .step ?_ (Block.modCq_frame _ _ _) rfl
      exact .refl _ _
  · exact .refl _ _

end Sys2Proof.Machine
end

