-- ==== Sys2Proof/Laws/FramesLink.lean ====
section
/-! SUPPORT. The fields each operation of Machine/Link.lean can change, one frame per operation. -/

-- theorem after theorem, which bounds the memory of the compile
set_option Elab.async false

namespace Sys2Proof.Machine

theorem Block.countRx_frame : ∀ (a0 : Block) (a1 : Nat), Block.Frame 262144 a0 (Block.countRx a0 a1) := by
  intro a0 a1
  unfold Block.countRx
  split
  · refine .step ?_ (Block.modPeer_frame _ _ _) rfl
    exact .refl _ _
  · exact .refl _ _

theorem Block.countTx_frame : ∀ (a0 : Block) (a1 : TxPacket), Block.Frame 262144 a0 (Block.countTx a0 a1) := by
  intro a0 a1
  unfold Block.countTx
  split
  · exact .refl _ _
  · split
    · refine .step ?_ (Block.modPeer_frame _ _ _) rfl
      exact .refl _ _
    · exact .refl _ _

theorem Block.dropPeer_frame : ∀ (a0 : Block) (a1 : Nat), Block.Frame 2048 a0 (Block.dropPeer a0 a1) := by
  intro a0 a1
  unfold Block.dropPeer
  dsimp only
  refine .step ?_ (.upd_graph  _ _) rfl
  exact .refl _ _

theorem linkClear_frame : ∀ (a0 : Block), Block.Frame 262144 a0 (linkClear a0) := by
  intro a0
  unfold linkClear
  dsimp only
  refine .step ?_ (.upd_link  _ _) rfl
  exact .refl _ _

theorem Block.traceLink_frame : ∀ (a0 : Block) (a1 : Nat) (a2 : Bool) (a3 : Nat) (a4 : Word), Block.Frame 9437184 a0 (Block.traceLink a0 a1 a2 a3 a4) := by
  intro a0 a1 a2 a3 a4
  unfold Block.traceLink
  refine .step ?_ (Block.traceEvent_frame _ _ _ _ _) rfl
  exact .refl _ _

theorem Block.sendHello_frame : ∀ (a0 : Params) (a1 : Block) (a2 : Nat) (a3 : Nat) (a4 : Nat) (a5 : Bool), Block.Frame 262144 a1 (Block.sendHello a0 a1 a2 a3 a4 a5) := by
  intro a0 a1 a2 a3 a4 a5
  unfold Block.sendHello
  dsimp only
  refine .step ?_ (Block.txStart_frame _) rfl
  refine .step ?_ (.upd_link  _ _) rfl
  exact .refl _ _

theorem Block.staleSignal_frame : ∀ (a0 : Block), Block.Frame 262144 a0 (Block.staleSignal a0) := by
  intro a0
  unfold Block.staleSignal
  dsimp only
  refine .step ?_ (.upd_link  _ _) rfl
  exact .refl _ _

theorem helloRetry_frame : ∀ (a0 : Params) (a1 : Nat) (a2 : Block), Block.Frame 262144 a2 (helloRetry a0 a1 a2) := by
  intro a0 a1 a2
  unfold helloRetry
  dsimp only
  refine .ite ?_ ?_
  · refine .step ?_ (Block.sendHello_frame _ _ _ _ _ _) rfl
    exact .refl _ _
  · exact .refl _ _

theorem Block.greet_frame : ∀ (a0 : Params) (a1 : Block) (a2 : Nat), Block.Frame 262144 a1 (Block.greet a0 a1 a2) := by
  intro a0 a1 a2
  unfold Block.greet
  dsimp only
  refine .step ?_ (Block.sendHello_frame _ _ _ _ _ _) rfl
  refine .step ?_ (Block.modPeer_frame _ _ _) rfl
  exact .refl _ _

theorem selfWrite_frame : ∀ (a0 : Word) (a1 : Block), Block.Frame 262144 a1 (selfWrite a0 a1) := by
  intro a0 a1
  unfold selfWrite
  dsimp only
  refine .ite ?_ ?_
  · exact .refl _ _
  · refine .step ?_ (Block.txStart_frame _) rfl
    refine .step ?_ (.upd_link  _ _) rfl
    exact .refl _ _

theorem linkUpFall_frame : ∀ (a0 : Nat) (a1 : Block), Block.Frame 262148 a1 (linkUpFall a0 a1) := by
  intro a0 a1
  unfold linkUpFall
  dsimp only
  refine .ite ?_ ?_
  · exact .refl _ _
  · refine .step ?_ (Block.txStart_frame _) rfl
    refine .foldl ?_ _ ?_
    · intro b x
      refine .step ?_ (Block.modPeer_frame _ _ _) rfl
      exact .refl _ _
    · refine .step ?_ (.upd_link  _ _) rfl
      refine .ite ?_ ?_
      · refine .step ?_ (.upd_link  _ _) rfl
        refine .step ?_ (Block.draw_frame _) rfl
        exact .refl _ _
      · exact .refl _ _

theorem Block.completionIn_frame : ∀ (a0 : Packet) (a1 : Block), Block.Frame 9830400 a1 (Block.completionIn a0 a1) := by
  intro a0 a1
  unfold Block.completionIn
  dsimp only
  refine .ite ?_ ?_
  · refine .step ?_ (Block.raise_frame _ _) rfl
    refine .step ?_ (.upd_link  _ _) rfl
    exact .refl _ _
  · refine .step ?_ (Block.modCq_frame _ _ _) rfl
    exact .refl _ _

theorem Block.helloIn_frame : ∀ (a0 : Params) (a1 : Packet) (a2 : Block), Block.Frame 262144 a2 (Block.helloIn a0 a1 a2) := by
  intro a0 a1 a2
  unfold Block.helloIn
  dsimp only
  refine .step ?_ (Block.txStart_frame _) rfl
  refine .step ?_ (Block.flushPoisons_frame _) rfl
  refine .ite ?_ ?_
  · refine .foldl ?_ _ ?_
    · intro b x
      refine .step ?_ (Block.modPeer_frame _ _ _) rfl
      exact .refl _ _
    · exact .refl _ _
  · refine .step ?_ (Block.sendHello_frame _ _ _ _ _ _) rfl
    refine .foldl ?_ _ ?_
    · intro b x
      refine .step ?_ (Block.modPeer_frame _ _ _) rfl
      exact .refl _ _
    · exact .refl _ _

theorem linkUpRise_frame : ∀ (a0 : Params) (a1 : Nat) (a2 : Block), Block.Frame 262144 a2 (linkUpRise a0 a1 a2) := by
  intro a0 a1 a2
  unfold linkUpRise
  dsimp only
  refine .ite ?_ ?_
  · exact .refl _ _
  · refine .step ?_ (Block.txStart_frame _) rfl
    refine .ite ?_ ?_
    · refine .foldl ?_ _ ?_
      · intro b x
        refine .step ?_ (Block.greet_frame _ _ _) rfl
        exact .refl _ _
      · refine .step ?_ (.upd_link  _ _) rfl
        exact .refl _ _
    · refine .step ?_ (.upd_link  _ _) rfl
      exact .refl _ _

theorem peerEntryWrite_frame : ∀ (a0 : Params) (a1 : Nat) (a2 : Word) (a3 : Block), Block.Frame 264192 a3 (peerEntryWrite a0 a1 a2 a3) := by
  intro a0 a1 a2 a3
  unfold peerEntryWrite
  dsimp only
  refine .ite ?_ ?_
  · refine .step ?_ (Block.greet_frame _ _ _) rfl
    refine .ite ?_ ?_
    · refine .step ?_ (Block.flushPoisons_frame _) rfl
      refine .step ?_ (Block.dropPeer_frame _ _) rfl
      refine .step ?_ (Block.modPeer_frame _ _ _) rfl
      exact .refl _ _
    · refine .step ?_ (Block.modPeer_frame _ _ _) rfl
      exact .refl _ _
  · refine .ite ?_ ?_
    · refine .step ?_ (Block.flushPoisons_frame _) rfl
      refine .step ?_ (Block.dropPeer_frame _ _) rfl
      refine .step ?_ (Block.modPeer_frame _ _ _) rfl
      exact .refl _ _
    · refine .step ?_ (Block.modPeer_frame _ _ _) rfl
      exact .refl _ _

theorem Block.poisonIn_frame : ∀ (a0 : Block) (a1 : Handle) (a2 : Status) (a3 : Nat) (a4 : Bool), Block.Frame 9705472 a0 (Block.poisonIn a0 a1 a2 a3 a4) := by
  intro a0 a1 a2 a3 a4
  unfold Block.poisonIn
  dsimp only
  refine .ite ?_ ?_
  · refine .step ?_ (Block.staleSignal_frame _) rfl
    refine .step ?_ (Block.poisonHandle_frame _ _ _ _ _) rfl
    exact .refl _ _
  · refine .ite ?_ ?_
    · refine .step ?_ (Block.modFence_frame _ _ _) rfl
      refine .step ?_ (Block.poisonHandle_frame _ _ _ _ _) rfl
      exact .refl _ _
    · refine .step ?_ (Block.poisonHandle_frame _ _ _ _ _) rfl
      exact .refl _ _

theorem Block.signalIn_frame : ∀ (a0 : Packet) (a1 : Block), Block.Frame 9705472 a1 (Block.signalIn a0 a1) := by
  intro a0 a1
  unfold Block.signalIn
  dsimp only
  refine .ite ?_ ?_
  · refine .step ?_ (.upd_link  _ _) rfl
    exact .refl _ _
  · refine .ite ?_ ?_
    · split
      · refine .step ?_ (Block.staleSignal_frame _) rfl
        refine .step ?_ (Block.signalFence_frame _ _ _ _ _ _) rfl
        exact .refl _ _
      · refine .step ?_ (Block.signalFence_frame _ _ _ _ _ _) rfl
        exact .refl _ _
    · refine .ite ?_ ?_
      · refine .step ?_ (Block.staleSignal_frame _) rfl
        exact .refl _ _
      · refine .step ?_ (Block.poisonIn_frame _ _ _ _ _) rfl
        exact .refl _ _

theorem Block.afterTx_frame : ∀ (a0 : Block) (a1 : TxPacket), Block.Frame 10361856 a0 (Block.afterTx a0 a1) := by
  intro a0 a1
  unfold Block.afterTx
  split
  · refine .ite ?_ ?_
    · refine .step ?_ (Block.modNode_frame _ _ _ _) rfl
      exact .refl _ _
    · exact .refl _ _
  · refine .step ?_ (Block.cqSent_frame _ _) rfl
    exact .refl _ _
  · exact .refl _ _
  · exact .refl _ _

theorem packetTransmitted_frame : ∀ (a0 : Block), Block.Frame 10361856 a0 (packetTransmitted a0) := by
  intro a0
  unfold packetTransmitted
  dsimp only
  split
  · exact .refl _ _
  · refine .step ?_ (Block.txStart_frame _) rfl
    refine .step ?_ (Block.flushPoisons_frame _) rfl
    refine .step ?_ (Block.afterTx_frame _ _) rfl
    refine .step ?_ (Block.countTx_frame _ _) rfl
    refine .step ?_ (Block.traceLink_frame _ _ _ _ _) rfl
    refine .step ?_ (.upd_link  _ _) rfl
    exact .refl _ _

theorem packetIn_frame : ∀ (a0 : Params) (a1 : Nat → Bool) (a2 : Packet) (a3 : Block), Block.Frame 9836544 a3 (packetIn a0 a1 a2 a3) := by
  intro a0 a1 a2 a3
  unfold packetIn
  dsimp only
  refine .ite ?_ ?_
  · exact .refl _ _
  · refine .ite ?_ ?_
    · refine .step ?_ (.upd_link  _ _) rfl
      exact .refl _ _
    · split
      · refine .step ?_ (Block.signalIn_frame _ _) rfl
        refine .step ?_ (Block.countRx_frame _ _) rfl
        refine .step ?_ (Block.traceLink_frame _ _ _ _ _) rfl
        exact .refl _ _
      · refine .step ?_ (Block.completionIn_frame _ _) rfl
        refine .step ?_ (Block.countRx_frame _ _) rfl
        refine .step ?_ (Block.traceLink_frame _ _ _ _ _) rfl
        exact .refl _ _
      · refine .step ?_ (Block.helloIn_frame _ _ _) rfl
        refine .step ?_ (Block.traceLink_frame _ _ _ _ _) rfl
        exact .refl _ _

end Sys2Proof.Machine
end

