-- ==== Sys2Proof/Laws/FramesSaffron.lean ====
section
/-! SUPPORT. The fields each operation of Machine/Saffron.lean can change, one frame per operation. -/

-- theorem after theorem, which bounds the memory of the compile
set_option Elab.async false

namespace Sys2Proof.Machine

theorem Block.modExp_frame : ∀ (a0 : Block) (a1 : Nat) (a2 : Expansion → Expansion), Block.Frame 32768 a0 (Block.modExp a0 a1 a2) := by
  intro a0 a1 a2
  unfold Block.modExp
  refine .step ?_ (Block.modSaf_frame _ _ _) rfl
  exact .refl _ _

theorem Block.addBeats_frame : ∀ (a0 : Block) (a1 : Nat) (a2 : Nat), Block.Frame 32768 a0 (Block.addBeats a0 a1 a2) := by
  intro a0 a1 a2
  unfold Block.addBeats
  refine .step ?_ (Block.modSaf_frame _ _ _) rfl
  exact .refl _ _

theorem Block.areaErrors_frame : ∀ (a0 : Block) (a1 : Nat) (a2 : MemView) (a3 : List (Nat × Nat)), Block.Frame 9437248 a0 (Block.areaErrors a0 a1 a2 a3) := by
  intro a0 a1 a2 a3
  unfold Block.areaErrors
  refine .foldl ?_ _ ?_
  · intro b x
    refine .step ?_ (Block.viewErrors_frame _ _ _ _ _ _) rfl
    exact .refl _ _
  · exact .refl _ _

theorem Block.expFail_frame : ∀ (a0 : Block) (a1 : Nat) (a2 : Status), Block.Frame 32768 a0 (Block.expFail a0 a1 a2) := by
  intro a0 a1 a2
  unfold Block.expFail
  refine .step ?_ (Block.modExp_frame _ _ _) rfl
  exact .refl _ _

theorem Block.progFail_frame : ∀ (a0 : Block) (a1 : Nat) (a2 : Nat) (a3 : Nat) (a4 : Status), Block.Frame 32768 a0 (Block.progFail a0 a1 a2 a3 a4) := by
  intro a0 a1 a2 a3 a4
  unfold Block.progFail
  refine .step ?_ (Block.expFail_frame _ _ _) rfl
  refine .step ?_ (Block.modSaf_frame _ _ _) rfl
  exact .refl _ _

theorem Block.Frame.instr {t : Nat} {a b : Block} {n w : Nat} {legal : Bool} {f : Block → Block} (hm : 32768 ||| t = t)
    (hf : ∀ b, Block.Frame t b (f b)) (h : Block.Frame t a b) : Block.Frame t a (b.instr n w legal f) := by
  unfold Block.instr
  repeat' split
  · exact h
  · exact h.step (Block.progFail_frame _ _ _ _ _) hm
  · exact h.step (Block.progFail_frame _ _ _ _ _) hm
  · exact h.step (hf _) (by simp)

theorem Block.meetInstr_frame : ∀ (a0 : Block) (a1 : Nat), Block.Frame 32768 a0 (Block.meetInstr a0 a1) := by
  intro a0 a1
  unfold Block.meetInstr
  dsimp only
  split
  · exact .refl _ _
  · split
    · exact .refl _ _
    · refine .ite ?_ ?_
      · exact .refl _ _
      · refine .step ?_ (Block.progFail_frame _ _ _ _ _) rfl
        exact .refl _ _

theorem Block.endProgram_frame : ∀ (a0 : Block) (a1 : Nat) (a2 : TFmt), Block.Frame 32768 a0 (Block.endProgram a0 a1 a2) := by
  intro a0 a1 a2
  unfold Block.endProgram
  dsimp only
  refine .instr rfl ?_ ?_
  · intro b
    split
    · exact .refl _ _
    · refine .ite ?_ ?_
      · exact .refl _ _
      · refine .ite ?_ ?_
        · refine .step ?_ (Block.progFail_frame _ _ _ _ _) rfl
          exact .refl _ _
        · refine .ite ?_ ?_
          · refine .step ?_ (Block.modExp_frame _ _ _) rfl
            refine .step ?_ (Block.modSaf_frame _ _ _) rfl
            exact .refl _ _
          · refine .step ?_ (Block.modExp_frame _ _ _) rfl
            refine .step ?_ (Block.modSaf_frame _ _ _) rfl
            exact .refl _ _
  · exact .refl _ _

theorem Block.saffronWriteError_frame : ∀ (a0 : Block) (a1 : Nat) (a2 : Nat), Block.Frame 32768 a0 (Block.saffronWriteError a0 a1 a2) := by
  intro a0 a1 a2
  unfold Block.saffronWriteError
  split
  · refine .ite ?_ ?_
    · refine .step ?_ (Block.progFail_frame _ _ _ _ _) rfl
      exact .refl _ _
    · exact .refl _ _
  · exact .refl _ _

theorem Block.advance_frame : ∀ (a0 : Block) (a1 : Nat) (a2 : Nat) (a3 : Nat), Block.Frame 32768 a0 (Block.advance a0 a1 a2 a3) := by
  intro a0 a1 a2 a3
  unfold Block.advance
  dsimp only
  refine .ite ?_ ?_
  · refine .step ?_ (Block.progFail_frame _ _ _ _ _) rfl
    refine .step ?_ (Block.modSaf_frame _ _ _) rfl
    exact .refl _ _
  · refine .step ?_ (Block.meetInstr_frame _ _) rfl
    refine .step ?_ (Block.modSaf_frame _ _ _) rfl
    refine .step ?_ (Block.modSaf_frame _ _ _) rfl
    exact .refl _ _

theorem Block.instrImm_frame : ∀ (a0 : Block) (a1 : Nat) (a2 : Nat) (a3 : Nat) (a4 : IFmt) (a5 : Bool) (a6 : Saffron → Saffron), Block.Frame 32768 a0 (Block.instrImm a0 a1 a2 a3 a4 a5 a6) := by
  intro a0 a1 a2 a3 a4 a5 a6
  unfold Block.instrImm
  refine .instr rfl ?_ ?_
  · intro b
    refine .step ?_ (Block.advance_frame _ _ _ _) rfl
    refine .step ?_ (Block.modSaf_frame _ _ _) rfl
    exact .refl _ _
  · exact .refl _ _

theorem Block.addImm_frame : ∀ (a0 : Block) (a1 : Nat) (a2 : IFmt), Block.Frame 32768 a0 (Block.addImm a0 a1 a2) := by
  intro a0 a1 a2
  unfold Block.addImm
  refine .step ?_ (Block.instrImm_frame _ _ _ _ _ _ _) rfl
  exact .refl _ _

theorem Block.fill_frame : ∀ (a0 : Block) (a1 : Nat) (a2 : IFmt), Block.Frame 32768 a0 (Block.fill a0 a1 a2) := by
  intro a0 a1 a2
  unfold Block.fill
  refine .step ?_ (Block.instrImm_frame _ _ _ _ _ _ _) rfl
  exact .refl _ _

theorem Block.scatter_frame : ∀ (a0 : Block) (a1 : Nat) (a2 : TFmt), Block.Frame 32832 a0 (Block.scatter a0 a1 a2) := by
  intro a0 a1 a2
  unfold Block.scatter
  dsimp only
  refine .instr rfl ?_ ?_
  · intro b
    refine .ite ?_ ?_
    · refine .step ?_ (Block.progFail_frame _ _ _ _ _) rfl
      exact .refl _ _
    · refine .step ?_ (Block.advance_frame _ _ _ _) rfl
      refine .step ?_ (Block.modSaf_frame _ _ _) rfl
      refine .ite ?_ ?_
      · exact .refl _ _
      · refine .step ?_ (Block.addBeats_frame _ _ _) rfl
        refine .step ?_ (Block.put_frame _ _ _ _ _ _) rfl
        exact .refl _ _
  · exact .refl _ _

theorem Block.iota_frame : ∀ (a0 : Block) (a1 : Nat) (a2 : IFmt), Block.Frame 32768 a0 (Block.iota a0 a1 a2) := by
  intro a0 a1 a2
  unfold Block.iota
  refine .step ?_ (Block.instrImm_frame _ _ _ _ _ _ _) rfl
  exact .refl _ _

theorem Block.loopBack_frame : ∀ (a0 : Block) (a1 : Nat) (a2 : IFmt), Block.Frame 32768 a0 (Block.loopBack a0 a1 a2) := by
  intro a0 a1 a2
  unfold Block.loopBack
  dsimp only
  refine .instr rfl ?_ ?_
  · intro b
    refine .ite ?_ ?_
    · refine .step ?_ (Block.progFail_frame _ _ _ _ _) rfl
      exact .refl _ _
    · refine .step ?_ (Block.advance_frame _ _ _ _) rfl
      refine .step ?_ (Block.modSaf_frame _ _ _) rfl
      exact .refl _ _
  · exact .refl _ _

theorem Block.instrAlu_frame : ∀ (a0 : Block) (a1 : Nat) (a2 : Nat) (a3 : Nat) (a4 : TFmt) (a5 : Bool) (a6 : Saffron → Saffron), Block.Frame 32768 a0 (Block.instrAlu a0 a1 a2 a3 a4 a5 a6) := by
  intro a0 a1 a2 a3 a4 a5 a6
  unfold Block.instrAlu
  refine .instr rfl ?_ ?_
  · intro b
    refine .step ?_ (Block.advance_frame _ _ _ _) rfl
    refine .step ?_ (Block.modSaf_frame _ _ _) rfl
    exact .refl _ _
  · exact .refl _ _

theorem Block.load_frame : ∀ (a0 : Block) (a1 : Nat) (a2 : TFmt) (a3 : MemView), Block.Frame 9470016 a0 (Block.load a0 a1 a2 a3) := by
  intro a0 a1 a2 a3
  unfold Block.load
  dsimp only
  refine .instr rfl ?_ ?_
  · intro b
    split
    · refine .step ?_ (Block.progFail_frame _ _ _ _ _) rfl
      exact .refl _ _
    · refine .ite ?_ ?_
      · refine .step ?_ (Block.progFail_frame _ _ _ _ _) rfl
        exact .refl _ _
      · refine .ite ?_ ?_
        · exact .refl _ _
        · refine .ite ?_ ?_
          · refine .step ?_ (Block.progFail_frame _ _ _ _ _) rfl
            refine .step ?_ (Block.addBeats_frame _ _ _) rfl
            refine .step ?_ (Block.areaErrors_frame _ _ _ _) rfl
            exact .refl _ _
          · refine .step ?_ (Block.advance_frame _ _ _ _) rfl
            refine .step ?_ (Block.modSaf_frame _ _ _) rfl
            refine .step ?_ (Block.addBeats_frame _ _ _) rfl
            refine .step ?_ (Block.areaErrors_frame _ _ _ _) rfl
            exact .refl _ _
  · exact .refl _ _

theorem Block.store_frame : ∀ (a0 : Block) (a1 : Nat) (a2 : TFmt), Block.Frame 32832 a0 (Block.store a0 a1 a2) := by
  intro a0 a1 a2
  unfold Block.store
  dsimp only
  refine .instr rfl ?_ ?_
  · intro b
    split
    · refine .step ?_ (Block.progFail_frame _ _ _ _ _) rfl
      exact .refl _ _
    · refine .ite ?_ ?_
      · refine .step ?_ (Block.progFail_frame _ _ _ _ _) rfl
        exact .refl _ _
      · refine .step ?_ (Block.advance_frame _ _ _ _) rfl
        refine .foldl ?_ _ ?_
        · intro b x
          refine .step ?_ (Block.put_frame _ _ _ _ _ _) rfl
          exact .refl _ _
        · refine .step ?_ (Block.addBeats_frame _ _ _) rfl
          exact .refl _ _
  · exact .refl _ _

theorem Block.elemSat_frame : ∀ (a0 : Block) (a1 : Nat) (a2 : Nat) (a3 : TFmt) (a4 : Int) (a5 : Int) (a6 : Elt → Elt → Int), Block.Frame 32768 a0 (Block.elemSat a0 a1 a2 a3 a4 a5 a6) := by
  intro a0 a1 a2 a3 a4 a5 a6
  unfold Block.elemSat
  dsimp only
  refine .step ?_ (Block.instrAlu_frame _ _ _ _ _ _ _) rfl
  exact .refl _ _

theorem Block.scalarLoad_frame : ∀ (a0 : Block) (a1 : Nat) (a2 : IFmt) (a3 : MemView), Block.Frame 9470016 a0 (Block.scalarLoad a0 a1 a2 a3) := by
  intro a0 a1 a2 a3
  unfold Block.scalarLoad
  dsimp only
  refine .instr rfl ?_ ?_
  · intro b
    refine .ite ?_ ?_
    · refine .step ?_ (Block.progFail_frame _ _ _ _ _) rfl
      exact .refl _ _
    · refine .ite ?_ ?_
      · exact .refl _ _
      · refine .ite ?_ ?_
        · refine .step ?_ (Block.progFail_frame _ _ _ _ _) rfl
          refine .step ?_ (Block.addBeats_frame _ _ _) rfl
          refine .step ?_ (Block.areaErrors_frame _ _ _ _) rfl
          exact .refl _ _
        · refine .step ?_ (Block.advance_frame _ _ _ _) rfl
          refine .step ?_ (Block.modSaf_frame _ _ _) rfl
          refine .step ?_ (Block.addBeats_frame _ _ _) rfl
          refine .step ?_ (Block.areaErrors_frame _ _ _ _) rfl
          exact .refl _ _
  · exact .refl _ _

theorem Block.rowSums_frame : ∀ (a0 : Block) (a1 : Nat) (a2 : TFmt), Block.Frame 32768 a0 (Block.rowSums a0 a1 a2) := by
  intro a0 a1 a2
  unfold Block.rowSums
  dsimp only
  refine .step ?_ (Block.instrAlu_frame _ _ _ _ _ _ _) rfl
  exact .refl _ _

theorem Block.branchZero_frame : ∀ (a0 : Block) (a1 : Nat) (a2 : IFmt), Block.Frame 32768 a0 (Block.branchZero a0 a1 a2) := by
  intro a0 a1 a2
  unfold Block.branchZero
  dsimp only
  refine .instr rfl ?_ ?_
  · intro b
    refine .ite ?_ ?_
    · refine .step ?_ (Block.progFail_frame _ _ _ _ _) rfl
      exact .refl _ _
    · refine .step ?_ (Block.advance_frame _ _ _ _) rfl
      exact .refl _ _
  · exact .refl _ _

theorem Block.elem2_frame : ∀ (a0 : Block) (a1 : Nat) (a2 : Nat) (a3 : TFmt) (a4 : Elt → Elt → Elt), Block.Frame 32768 a0 (Block.elem2 a0 a1 a2 a3 a4) := by
  intro a0 a1 a2 a3 a4
  unfold Block.elem2
  refine .step ?_ (Block.instrAlu_frame _ _ _ _ _ _ _) rfl
  exact .refl _ _

theorem Block.elemSel_frame : ∀ (a0 : Block) (a1 : Nat) (a2 : TFmt), Block.Frame 32768 a0 (Block.elemSel a0 a1 a2) := by
  intro a0 a1 a2
  unfold Block.elemSel
  refine .step ?_ (Block.instrAlu_frame _ _ _ _ _ _ _) rfl
  exact .refl _ _

theorem Block.elemCmp_frame : ∀ (a0 : Block) (a1 : Nat) (a2 : TFmt), Block.Frame 32768 a0 (Block.elemCmp a0 a1 a2) := by
  intro a0 a1 a2
  unfold Block.elemCmp
  refine .step ?_ (Block.instrAlu_frame _ _ _ _ _ _ _) rfl
  exact .refl _ _

theorem Block.topk_frame : ∀ (a0 : Block) (a1 : Nat) (a2 : TFmt), Block.Frame 32768 a0 (Block.topk a0 a1 a2) := by
  intro a0 a1 a2
  unfold Block.topk
  dsimp only
  refine .step ?_ (Block.instrAlu_frame _ _ _ _ _ _ _) rfl
  exact .refl _ _

theorem Block.elemOkey_frame : ∀ (a0 : Block) (a1 : Nat) (a2 : TFmt), Block.Frame 32768 a0 (Block.elemOkey a0 a1 a2) := by
  intro a0 a1 a2
  unfold Block.elemOkey
  dsimp only
  refine .step ?_ (Block.instrAlu_frame _ _ _ _ _ _ _) rfl
  exact .refl _ _

theorem Block.rowMinMax_frame : ∀ (a0 : Block) (a1 : Nat) (a2 : Nat) (a3 : TFmt) (a4 : Bool), Block.Frame 32768 a0 (Block.rowMinMax a0 a1 a2 a3 a4) := by
  intro a0 a1 a2 a3 a4
  unfold Block.rowMinMax
  dsimp only
  refine .step ?_ (Block.instrAlu_frame _ _ _ _ _ _ _) rfl
  exact .refl _ _

theorem Block.psum_frame : ∀ (a0 : Block) (a1 : Nat) (a2 : TFmt), Block.Frame 32768 a0 (Block.psum a0 a1 a2) := by
  intro a0 a1 a2
  unfold Block.psum
  dsimp only
  refine .step ?_ (Block.instrAlu_frame _ _ _ _ _ _ _) rfl
  exact .refl _ _

theorem Block.movImm_frame : ∀ (a0 : Block) (a1 : Nat) (a2 : IFmt), Block.Frame 32768 a0 (Block.movImm a0 a1 a2) := by
  intro a0 a1 a2
  unfold Block.movImm
  refine .step ?_ (Block.instrImm_frame _ _ _ _ _ _ _) rfl
  exact .refl _ _

theorem Block.elemMinMax_frame : ∀ (a0 : Block) (a1 : Nat) (a2 : Nat) (a3 : TFmt) (a4 : Bool), Block.Frame 32768 a0 (Block.elemMinMax a0 a1 a2 a3 a4) := by
  intro a0 a1 a2 a3 a4
  unfold Block.elemMinMax
  dsimp only
  refine .step ?_ (Block.instrAlu_frame _ _ _ _ _ _ _) rfl
  exact .refl _ _

theorem Block.cand_frame : ∀ (a0 : Block) (a1 : Nat) (a2 : TFmt), Block.Frame 32768 a0 (Block.cand a0 a1 a2) := by
  intro a0 a1 a2
  unfold Block.cand
  dsimp only
  refine .instr rfl ?_ ?_
  · intro b
    split
    · exact .refl _ _
    · refine .ite ?_ ?_
      · refine .step ?_ (Block.progFail_frame _ _ _ _ _) rfl
        exact .refl _ _
      · refine .ite ?_ ?_
        · refine .step ?_ (Block.progFail_frame _ _ _ _ _) rfl
          exact .refl _ _
        · refine .ite ?_ ?_
          · exact .refl _ _
          · refine .step ?_ (Block.advance_frame _ _ _ _) rfl
            refine .step ?_ (Block.modSaf_frame _ _ _) rfl
            refine .step ?_ (Block.modExp_frame _ _ _) rfl
            exact .refl _ _
  · exact .refl _ _

theorem Block.shiftScalar_frame : ∀ (a0 : Block) (a1 : Nat) (a2 : IFmt), Block.Frame 32768 a0 (Block.shiftScalar a0 a1 a2) := by
  intro a0 a1 a2
  unfold Block.shiftScalar
  refine .step ?_ (Block.instrImm_frame _ _ _ _ _ _ _) rfl
  exact .refl _ _

theorem Block.maskOp_frame : ∀ (a0 : Block) (a1 : Nat) (a2 : TFmt), Block.Frame 32768 a0 (Block.maskOp a0 a1 a2) := by
  intro a0 a1 a2
  unfold Block.maskOp
  dsimp only
  refine .step ?_ (Block.instrAlu_frame _ _ _ _ _ _ _) rfl
  exact .refl _ _

theorem Block.addScalar_frame : ∀ (a0 : Block) (a1 : Nat) (a2 : TFmt), Block.Frame 32768 a0 (Block.addScalar a0 a1 a2) := by
  intro a0 a1 a2
  unfold Block.addScalar
  refine .step ?_ (Block.instrAlu_frame _ _ _ _ _ _ _) rfl
  exact .refl _ _

theorem Block.elemNot_frame : ∀ (a0 : Block) (a1 : Nat) (a2 : TFmt), Block.Frame 32768 a0 (Block.elemNot a0 a1 a2) := by
  intro a0 a1 a2
  unfold Block.elemNot
  refine .step ?_ (Block.instrAlu_frame _ _ _ _ _ _ _) rfl
  exact .refl _ _

theorem Block.elemShift_frame : ∀ (a0 : Block) (a1 : Nat) (a2 : Nat) (a3 : TFmt) (a4 : Elt → Nat → Elt), Block.Frame 32768 a0 (Block.elemShift a0 a1 a2 a3 a4) := by
  intro a0 a1 a2 a3 a4
  unfold Block.elemShift
  refine .step ?_ (Block.instrAlu_frame _ _ _ _ _ _ _) rfl
  exact .refl _ _

end Sys2Proof.Machine
end

