-- ==== Sys2Proof/Laws/FramesExpansion.lean ====
section
/-! SUPPORT. The fields each operation of Machine/Expansion.lean can change, one frame per operation. -/

-- theorem after theorem, which bounds the memory of the compile
set_option Elab.async false

namespace Sys2Proof.Machine

theorem Block.routeWrites_frame : ∀ (a0 : Block) (a1 : Nat) (a2 : List (Nat × List Word)), Block.Frame 64 a0 (Block.routeWrites a0 a1 a2) := by
  intro a0 a1 a2
  unfold Block.routeWrites
  refine .foldl ?_ _ ?_
  · intro b x
    refine .step ?_ (Block.put_frame _ _ _ _ _ _) rfl
    exact .refl _ _
  · exact .refl _ _

theorem Block.clearAcc_frame : ∀ (a0 : Block) (a1 : Nat), Block.Frame 2097216 a0 (Block.clearAcc a0 a1) := by
  intro a0 a1
  unfold Block.clearAcc
  dsimp only
  refine .ite ?_ ?_
  · refine .step ?_ (.upd_experts  _ _) rfl
    exact .refl _ _
  · refine .step ?_ (Block.put_frame _ _ _ _ _ _) rfl
    refine .step ?_ (.upd_experts  _ _) rfl
    exact .refl _ _

theorem Block.planWrite_frame : ∀ (a0 : Block) (a1 : MemView) (a2 : Nat) (a3 : ExpertsSec), Block.Frame 11534404 a0 (Block.planWrite a0 a1 a2 a3) := by
  intro a0 a1 a2 a3
  unfold Block.planWrite
  dsimp only
  refine .step ?_ (Block.put_frame _ _ _ _ _ _) rfl
  refine .step ?_ (.upd_free_experts  _ _ _) rfl
  refine .step ?_ (Block.viewErrors_frame _ _ _ _ _ _) rfl
  exact .refl _ _

theorem Block.prepare_frame : ∀ (a0 : Block) (a1 : Nat) (a2 : Expansion) (a3 : MemView), Block.Frame 9470016 a0 (Block.prepare a0 a1 a2 a3) := by
  intro a0 a1 a2 a3
  unfold Block.prepare
  dsimp only
  refine .ite ?_ ?_
  · exact .refl _ _
  · refine .ite ?_ ?_
    · refine .step ?_ (Block.expFail_frame _ _ _) rfl
      refine .step ?_ (Block.areaErrors_frame _ _ _ _) rfl
      refine .foldl ?_ _ ?_
      · intro b x
        refine .step ?_ (Block.viewErrors_frame _ _ _ _ _ _) rfl
        exact .refl _ _
      · exact .refl _ _
    · refine .step ?_ (Block.modExp_frame _ _ _) rfl
      refine .step ?_ (Block.areaErrors_frame _ _ _ _) rfl
      refine .foldl ?_ _ ?_
      · intro b x
        refine .step ?_ (Block.viewErrors_frame _ _ _ _ _ _) rfl
        exact .refl _ _
      · exact .refl _ _

theorem Block.publish_frame : ∀ (a0 : Block) (a1 : Nat) (a2 : ExpertsSec), Block.Frame 2097216 a0 (Block.publish a0 a1 a2) := by
  intro a0 a1 a2
  unfold Block.publish
  dsimp only
  refine .step ?_ (Block.unhold_frame _) rfl
  refine .step ?_ (.upd_experts  _ _) rfl
  refine .step ?_ (Block.clearAcc_frame _ _) rfl
  exact .refl _ _

theorem Block.sendSpawn_frame : ∀ (a0 : Params) (a1 : Block) (a2 : Nat) (a3 : Expansion) (a4 : MemView) (a5 : Nat) (a6 : Creation), Block.Frame 35328 a1 (Block.sendSpawn a0 a1 a2 a3 a4 a5 a6) := by
  intro a0 a1 a2 a3 a4 a5 a6
  unfold Block.sendSpawn
  dsimp only
  refine .step ?_ (Block.modExp_frame _ _ _) rfl
  refine .step ?_ (Block.sendUp_frame _ _ _ _) rfl
  refine .ite ?_ ?_
  · refine .step ?_ (Block.modSub_frame _ _ _) rfl
    exact .refl _ _
  · exact .refl _ _

theorem Block.spawnParamAck_frame : ∀ (a0 : Block) (a1 : Nat), Block.Frame 32768 a0 (Block.spawnParamAck a0 a1) := by
  intro a0 a1
  unfold Block.spawnParamAck
  refine .step ?_ (Block.modExp_frame _ _ _) rfl
  exact .refl _ _

theorem Block.traceExpand_frame : ∀ (a0 : Params) (a1 : Block) (a2 : Nat) (a3 : Nat) (a4 : Bool) (a5 : Status), Block.Frame 8192 a1 (Block.traceExpand a0 a1 a2 a3 a4 a5) := by
  intro a0 a1 a2 a3 a4 a5
  unfold Block.traceExpand
  refine .step ?_ (Block.beadTrace_frame _ _ _ _ _ _ _) rfl
  exact .refl _ _

theorem Block.routeTokens_frame : ∀ (a0 : Block) (a1 : Nat) (a2 : Expansion) (a3 : RouteTables), Block.Frame 32832 a0 (Block.routeTokens a0 a1 a2 a3) := by
  intro a0 a1 a2 a3
  unfold Block.routeTokens
  dsimp only
  refine .ite ?_ ?_
  · refine .step ?_ (Block.expFail_frame _ _ _) rfl
    refine .step ?_ (Block.modExp_frame _ _ _) rfl
    refine .step ?_ (Block.routeWrites_frame _ _ _) rfl
    exact .refl _ _
  · refine .step ?_ (Block.modExp_frame _ _ _) rfl
    refine .step ?_ (Block.routeWrites_frame _ _ _) rfl
    exact .refl _ _

theorem Block.setCreations_frame : ∀ (a0 : Block) (a1 : Nat) (a2 : Expansion) (a3 : MemView) (a4 : List Creation), Block.Frame 32768 a0 (Block.setCreations a0 a1 a2 a3 a4) := by
  intro a0 a1 a2 a3 a4
  unfold Block.setCreations
  dsimp only
  refine .ite ?_ ?_
  · refine .step ?_ (Block.modExp_frame _ _ _) rfl
    exact .refl _ _
  · refine .step ?_ (Block.expFail_frame _ _ _) rfl
    exact .refl _ _

theorem Block.readTables_frame : ∀ (a0 : Block) (a1 : Nat) (a2 : Expansion) (a3 : MemView), Block.Frame 9470016 a0 (Block.readTables a0 a1 a2 a3) := by
  intro a0 a1 a2 a3
  unfold Block.readTables
  dsimp only
  refine .ite ?_ ?_
  · refine .step ?_ (Block.expFail_frame _ _ _) rfl
    refine .step ?_ (Block.areaErrors_frame _ _ _ _) rfl
    exact .refl _ _
  · refine .ite ?_ ?_
    · refine .step ?_ (Block.expFail_frame _ _ _) rfl
      refine .step ?_ (Block.areaErrors_frame _ _ _ _) rfl
      exact .refl _ _
    · refine .step ?_ (Block.modExp_frame _ _ _) rfl
      refine .step ?_ (Block.areaErrors_frame _ _ _ _) rfl
      exact .refl _ _

theorem Block.createOne_frame : ∀ (a0 : Params) (a1 : Block) (a2 : Nat) (a3 : Expansion) (a4 : MemView), Block.Frame 35392 a1 (Block.createOne a0 a1 a2 a3 a4) := by
  intro a0 a1 a2 a3 a4
  unfold Block.createOne
  dsimp only
  split
  · refine .step ?_ (Block.modExp_frame _ _ _) rfl
    exact .refl _ _
  · split
    · refine .ite ?_ ?_
      · refine .step ?_ (Block.sendSpawn_frame _ _ _ _ _ _ _) rfl
        exact .refl _ _
      · exact .refl _ _
    · refine .step ?_ (Block.put_frame _ _ _ _ _ _) rfl
      exact .refl _ _

theorem expCfgWrite_frame : ∀ (a0 : BitVec 32) (a1 : Block), Block.Frame 2097216 a1 (expCfgWrite a0 a1) := by
  intro a0 a1
  unfold expCfgWrite
  dsimp only
  refine .ite ?_ ?_
  · refine .ite ?_ ?_
    · exact .refl _ _
    · refine .step ?_ (.upd_experts  _ _) rfl
      exact .refl _ _
  · refine .ite ?_ ?_
    · exact .refl _ _
    · refine .ite ?_ ?_
      · refine .step ?_ (.upd_experts  _ _) rfl
        exact .refl _ _
      · refine .step ?_ (.upd_experts  _ _) rfl
        refine .foldl ?_ _ ?_
        · intro b x
          refine .step ?_ (Block.clearAcc_frame _ _) rfl
          exact .refl _ _
        · refine .step ?_ (.upd_experts  _ _) rfl
          exact .refl _ _

theorem Block.readList_frame : ∀ (a0 : Block) (a1 : Nat) (a2 : Expansion) (a3 : MemView), Block.Frame 9470016 a0 (Block.readList a0 a1 a2 a3) := by
  intro a0 a1 a2 a3
  unfold Block.readList
  dsimp only
  refine .ite ?_ ?_
  · refine .step ?_ (Block.expFail_frame _ _ _) rfl
    exact .refl _ _
  · refine .ite ?_ ?_
    · refine .step ?_ (Block.expFail_frame _ _ _) rfl
      refine .step ?_ (Block.areaErrors_frame _ _ _ _) rfl
      exact .refl _ _
    · refine .ite ?_ ?_
      · refine .step ?_ (Block.expFail_frame _ _ _) rfl
        refine .step ?_ (Block.areaErrors_frame _ _ _ _) rfl
        exact .refl _ _
      · refine .step ?_ (Block.setCreations_frame _ _ _ _ _) rfl
        refine .step ?_ (Block.modExp_frame _ _ _) rfl
        refine .step ?_ (Block.areaErrors_frame _ _ _ _) rfl
        exact .refl _ _

theorem createNodes_frame : ∀ (a0 : Params) (a1 : Nat) (a2 : MemView) (a3 : Block), Block.Frame 9472576 a3 (createNodes a0 a1 a2 a3) := by
  intro a0 a1 a2 a3
  unfold createNodes
  dsimp only
  split
  · exact .refl _ _
  · refine .ite ?_ ?_
    · exact .refl _ _
    · refine .ite ?_ ?_
      · split
        · refine .ite ?_ ?_
          · refine .step ?_ (Block.prepare_frame _ _ _ _) rfl
            refine .ite ?_ ?_
            · exact .refl _ _
            · refine .step ?_ (Block.readList_frame _ _ _ _) rfl
              exact .refl _ _
          · refine .ite ?_ ?_
            · exact .refl _ _
            · refine .step ?_ (Block.readList_frame _ _ _ _) rfl
              exact .refl _ _
        · refine .ite ?_ ?_
          · exact .refl _ _
          · refine .step ?_ (Block.readList_frame _ _ _ _) rfl
            exact .refl _ _
      · refine .ite ?_ ?_
        · split
          · refine .ite ?_ ?_
            · refine .step ?_ (Block.sendSpawn_frame _ _ _ _ _ _ _) rfl
              refine .step ?_ (Block.modExp_frame _ _ _) rfl
              exact .refl _ _
            · exact .refl _ _
          · exact .refl _ _
        · refine .step ?_ (Block.createOne_frame _ _ _ _ _) rfl
          exact .refl _ _

theorem Block.routeEnds_frame : ∀ (a0 : Block) (a1 : Nat) (a2 : Expansion) (a3 : RouteTables) (a4 : MemView), Block.Frame 32832 a0 (Block.routeEnds a0 a1 a2 a3 a4) := by
  intro a0 a1 a2 a3 a4
  unfold Block.routeEnds
  dsimp only
  refine .step ?_ (Block.setCreations_frame _ _ _ _ _) rfl
  refine .step ?_ (Block.modExp_frame _ _ _) rfl
  refine .step ?_ (Block.routeWrites_frame _ _ _) rfl
  exact .refl _ _

theorem planVersion_frame : ∀ (a0 : MemView) (a1 : Block), Block.Frame 11534404 a1 (planVersion a0 a1) := by
  intro a0 a1
  unfold planVersion
  dsimp only
  split
  · exact .refl _ _
  · refine .ite ?_ ?_
    · refine .ite ?_ ?_
      · exact .refl _ _
      · refine .step ?_ (Block.publish_frame _ _ _) rfl
        exact .refl _ _
    · refine .ite ?_ ?_
      · exact .refl _ _
      · refine .ite ?_ ?_
        · refine .step ?_ (.upd_experts  _ _) rfl
          exact .refl _ _
        · refine .ite ?_ ?_
          · exact .refl _ _
          · refine .step ?_ (Block.planWrite_frame _ _ _ _) rfl
            exact .refl _ _

theorem routingStage_frame : ∀ (a0 : Nat) (a1 : MemView) (a2 : Block), Block.Frame 9470016 a2 (routingStage a0 a1 a2) := by
  intro a0 a1 a2
  unfold routingStage
  dsimp only
  split
  · exact .refl _ _
  · refine .ite ?_ ?_
    · exact .refl _ _
    · split
      · refine .ite ?_ ?_
        · exact .refl _ _
        · refine .step ?_ (Block.readTables_frame _ _ _ _) rfl
          exact .refl _ _
      · split
        · refine .ite ?_ ?_
          · refine .step ?_ (Block.routeEnds_frame _ _ _ _ _) rfl
            refine .step ?_ (Block.routeTokens_frame _ _ _ _) rfl
            exact .refl _ _
          · refine .step ?_ (Block.routeTokens_frame _ _ _ _) rfl
            exact .refl _ _
        · refine .step ?_ (Block.routeTokens_frame _ _ _ _) rfl
          exact .refl _ _

theorem Block.countsMode_frame : ∀ (a0 : Block) (a1 : Nat) (a2 : Expansion) (a3 : MemView), Block.Frame 9470016 a0 (Block.countsMode a0 a1 a2 a3) := by
  intro a0 a1 a2 a3
  unfold Block.countsMode
  dsimp only
  refine .ite ?_ ?_
  · refine .step ?_ (Block.expFail_frame _ _ _) rfl
    refine .step ?_ (Block.areaErrors_frame _ _ _ _) rfl
    exact .refl _ _
  · refine .step ?_ (Block.setCreations_frame _ _ _ _ _) rfl
    refine .step ?_ (Block.areaErrors_frame _ _ _ _) rfl
    exact .refl _ _

theorem programStart_frame : ∀ (a0 : Nat) (a1 : MemView) (a2 : Block), Block.Frame 9470016 a2 (programStart a0 a1 a2) := by
  intro a0 a1 a2
  unfold programStart
  dsimp only
  split
  · exact .refl _ _
  · refine .ite ?_ ?_
    · exact .refl _ _
    · refine .ite ?_ ?_
      · refine .step ?_ (Block.progFail_frame _ _ _ _ _) rfl
        refine .step ?_ (Block.viewErrors_frame _ _ _ _ _ _) rfl
        exact .refl _ _
      · split
        · refine .step ?_ (Block.progFail_frame _ _ _ _ _) rfl
          refine .step ?_ (Block.viewErrors_frame _ _ _ _ _ _) rfl
          exact .refl _ _
        · refine .ite ?_ ?_
          · refine .step ?_ (Block.progFail_frame _ _ _ _ _) rfl
            refine .step ?_ (Block.viewErrors_frame _ _ _ _ _ _) rfl
            refine .step ?_ (Block.viewErrors_frame _ _ _ _ _ _) rfl
            exact .refl _ _
          · refine .step ?_ (Block.meetInstr_frame _ _) rfl
            refine .step ?_ (Block.modSaf_frame _ _ _) rfl
            refine .step ?_ (Block.viewErrors_frame _ _ _ _ _ _) rfl
            refine .step ?_ (Block.viewErrors_frame _ _ _ _ _ _) rfl
            exact .refl _ _

theorem expansionRetire_frame : ∀ (a0 : Params) (a1 : Nat) (a2 : Block), Block.Frame 2140224 a2 (expansionRetire a0 a1 a2) := by
  intro a0 a1 a2
  unfold expansionRetire
  dsimp only
  split
  · exact .refl _ _
  · refine .ite ?_ ?_
    · exact .refl _ _
    · refine .step ?_ (Block.modSaf_frame _ _ _) rfl
      refine .step ?_ (Block.winEnds_frame _ _ _ _ _) rfl
      refine .step ?_ (Block.traceExpand_frame _ _ _ _ _ _) rfl
      refine .ite ?_ ?_
      · refine .step ?_ (Block.addLoad_frame _ _ _) rfl
        refine .step ?_ (Block.modSub_frame _ _ _) rfl
        exact .refl _ _
      · exact .refl _ _

theorem expandStart_frame : ∀ (a0 : Params) (a1 : Nat) (a2 : Nat) (a3 : MemView) (a4 : Block), Block.Frame 9478208 a4 (expandStart a0 a1 a2 a3 a4) := by
  intro a0 a1 a2 a3 a4
  unfold expandStart
  dsimp only
  refine .ite ?_ ?_
  · exact .refl _ _
  · refine .ite ?_ ?_
    · exact .refl _ _
    · refine .ite ?_ ?_
      · refine .step ?_ (Block.expFail_frame _ _ _) rfl
        refine .step ?_ (Block.modSaf_frame _ _ _) rfl
        refine .step ?_ (Block.areaErrors_frame _ _ _ _) rfl
        refine .step ?_ (Block.traceExpand_frame _ _ _ _ _ _) rfl
        exact .refl _ _
      · refine .ite ?_ ?_
        · refine .step ?_ (Block.expFail_frame _ _ _) rfl
          refine .step ?_ (Block.modSaf_frame _ _ _) rfl
          refine .step ?_ (Block.areaErrors_frame _ _ _ _) rfl
          refine .step ?_ (Block.traceExpand_frame _ _ _ _ _ _) rfl
          exact .refl _ _
        · refine .ite ?_ ?_
          · refine .step ?_ (Block.expFail_frame _ _ _) rfl
            refine .foldl ?_ _ ?_
            · intro b x
              refine .step ?_ (Block.viewErrors_frame _ _ _ _ _ _) rfl
              exact .refl _ _
            · refine .step ?_ (Block.modSaf_frame _ _ _) rfl
              refine .step ?_ (Block.areaErrors_frame _ _ _ _) rfl
              refine .step ?_ (Block.traceExpand_frame _ _ _ _ _ _) rfl
              exact .refl _ _
          · refine .ite ?_ ?_
            · refine .step ?_ (Block.expFail_frame _ _ _) rfl
              refine .foldl ?_ _ ?_
              · intro b x
                refine .step ?_ (Block.viewErrors_frame _ _ _ _ _ _) rfl
                exact .refl _ _
              · refine .step ?_ (Block.modSaf_frame _ _ _) rfl
                refine .step ?_ (Block.areaErrors_frame _ _ _ _) rfl
                refine .step ?_ (Block.traceExpand_frame _ _ _ _ _ _) rfl
                exact .refl _ _
            · refine .ite ?_ ?_
              · refine .step ?_ (Block.countsMode_frame _ _ _ _) rfl
                refine .foldl ?_ _ ?_
                · intro b x
                  refine .step ?_ (Block.viewErrors_frame _ _ _ _ _ _) rfl
                  exact .refl _ _
                · refine .step ?_ (Block.modSaf_frame _ _ _) rfl
                  refine .step ?_ (Block.areaErrors_frame _ _ _ _) rfl
                  refine .step ?_ (Block.traceExpand_frame _ _ _ _ _ _) rfl
                  exact .refl _ _
              · refine .step ?_ (Block.modExp_frame _ _ _) rfl
                refine .foldl ?_ _ ?_
                · intro b x
                  refine .step ?_ (Block.viewErrors_frame _ _ _ _ _ _) rfl
                  exact .refl _ _
                · refine .step ?_ (Block.modSaf_frame _ _ _) rfl
                  refine .step ?_ (Block.areaErrors_frame _ _ _ _) rfl
                  refine .step ?_ (Block.traceExpand_frame _ _ _ _ _ _) rfl
                  exact .refl _ _

end Sys2Proof.Machine
end

