-- ==== Sys2Proof/Laws/FramesSequence.lean ====
section
/-! SUPPORT. The fields each operation of Machine/Sequence.lean can change, one frame per operation. -/

-- theorem after theorem, which bounds the memory of the compile
set_option Elab.async false

namespace Sys2Proof.Machine

theorem Block.rejSeq_frame : ∀ (a0 : Block), Block.Frame 65536 a0 (Block.rejSeq a0) := by
  intro a0
  unfold Block.rejSeq
  dsimp only
  refine .step ?_ (.upd_seq  _ _) rfl
  exact .refl _ _

theorem Block.queueSeq_frame : ∀ (a0 : Block) (a1 : SeqCmd), Block.Frame 65536 a0 (Block.queueSeq a0 a1) := by
  intro a0 a1
  unfold Block.queueSeq
  dsimp only
  refine .ite ?_ ?_
  · refine .step ?_ (Block.rejSeq_frame _) rfl
    exact .refl _ _
  · refine .step ?_ (.upd_seq  _ _) rfl
    exact .refl _ _

theorem Block.reachTable_frame : ∀ (a0 : Block) (a1 : Nat) (a2 : Nat), Block.Frame 65536 a0 (Block.reachTable a0 a1 a2) := by
  intro a0 a1 a2
  unfold Block.reachTable
  dsimp only
  refine .step ?_ (.upd_seq  _ _) rfl
  exact .refl _ _

theorem poolConfigWrite_frame : ∀ (a0 : Bool) (a1 : Word) (a2 : Block), Block.Frame 65536 a2 (poolConfigWrite a0 a1 a2) := by
  intro a0 a1 a2
  unfold poolConfigWrite
  dsimp only
  refine .ite ?_ ?_
  · refine .step ?_ (Block.rejSeq_frame _) rfl
    exact .refl _ _
  · refine .step ?_ (.upd_seq  _ _) rfl
    exact .refl _ _

theorem applyJoin_frame : ∀ (a0 : Nat) (a1 : Nat) (a2 : Nat) (a3 : Nat) (a4 : Block), Block.Frame 65536 a4 (applyJoin a0 a1 a2 a3 a4) := by
  intro a0 a1 a2 a3 a4
  unfold applyJoin
  dsimp only
  split
  · refine .step ?_ (Block.rejSeq_frame _) rfl
    exact .refl _ _
  · refine .ite ?_ ?_
    · refine .step ?_ (Block.rejSeq_frame _) rfl
      exact .refl _ _
    · refine .step ?_ (.upd_seq  _ _) rfl
      refine .step ?_ (Block.modSeqCtx_frame _ _ _) rfl
      refine .step ?_ (Block.modSeq_frame _ _ _) rfl
      exact .refl _ _

theorem applyCancel_frame : ∀ (a0 : Nat) (a1 : Nat) (a2 : Block), Block.Frame 65536 a2 (applyCancel a0 a1 a2) := by
  intro a0 a1 a2
  unfold applyCancel
  dsimp only
  refine .ite ?_ ?_
  · refine .step ?_ (Block.rejSeq_frame _) rfl
    exact .refl _ _
  · split
    · refine .step ?_ (Block.rejSeq_frame _) rfl
      exact .refl _ _
    · refine .step ?_ (Block.modSeq_frame _ _ _) rfl
      exact .refl _ _
    · refine .step ?_ (Block.modSeq_frame _ _ _) rfl
      exact .refl _ _
    · refine .step ?_ (Block.modSeq_frame _ _ _) rfl
      exact .refl _ _
    · exact .refl _ _

theorem Block.traceStep_frame : ∀ (a0 : Block) (a1 : Nat) (a2 : Status) (a3 : List Word), Block.Frame 9437184 a0 (Block.traceStep a0 a1 a2 a3) := by
  intro a0 a1 a2 a3
  unfold Block.traceStep
  refine .step ?_ (Block.traceEvent_frame _ _ _ _ _) rfl
  exact .refl _ _

theorem Block.linkError_frame : ∀ (a0 : Block) (a1 : Nat) (a2 : Nat), Block.Frame 67584 a0 (Block.linkError a0 a1 a2) := by
  intro a0 a1 a2
  unfold Block.linkError
  dsimp only
  refine .step ?_ (Block.modNode_frame _ _ _ _) rfl
  refine .step ?_ (.upd_seq  _ _) rfl
  exact .refl _ _

theorem sqtWrite_frame : ∀ (a0 : Word) (a1 : Block), Block.Frame 65536 a1 (sqtWrite a0 a1) := by
  intro a0 a1
  unfold sqtWrite
  split
  · refine .step ?_ (Block.queueSeq_frame _ _) rfl
    exact .refl _ _
  · refine .step ?_ (Block.queueSeq_frame _ _) rfl
    exact .refl _ _
  · refine .step ?_ (Block.rejSeq_frame _) rfl
    exact .refl _ _

theorem Block.linkWrites_frame : ∀ (a0 : Block) (a1 : Nat) (a2 : Nat) (a3 : List (Nat × Nat)), Block.Frame 64 a0 (Block.linkWrites a0 a1 a2 a3) := by
  intro a0 a1 a2 a3
  unfold Block.linkWrites
  refine .foldl ?_ _ ?_
  · intro b x
    refine .step ?_ (Block.put_frame _ _ _ _ _ _) rfl
    exact .refl _ _
  · exact .refl _ _

theorem Block.clearSeqs_frame : ∀ (a0 : Block) (a1 : Nat), Block.Frame 65600 a0 (Block.clearSeqs a0 a1) := by
  intro a0 a1
  unfold Block.clearSeqs
  dsimp only
  refine .step ?_ (Block.linkWrites_frame _ _ _ _) rfl
  refine .step ?_ (Block.modSeqCtx_frame _ _ _) rfl
  refine .step ?_ (.upd_seq  _ _) rfl
  exact .refl _ _

theorem Block.createTask_frame : ∀ (a0 : Params) (a1 : MemView) (a2 : Nat) (a3 : Nat) (a4 : Block) (a5 : Nat), Block.Frame 2048 a4 (Block.createTask a0 a1 a2 a3 a4 a5) := by
  intro a0 a1 a2 a3 a4 a5
  unfold Block.createTask
  dsimp only
  refine .ite ?_ ?_
  · refine .step ?_ (Block.joinReady_frame _ _ _) rfl
    refine .step ?_ (Block.modNode_frame _ _ _ _) rfl
    exact .refl _ _
  · refine .step ?_ (Block.modSub_frame _ _ _) rfl
    refine .step ?_ (Block.joinReady_frame _ _ _) rfl
    refine .step ?_ (Block.modNode_frame _ _ _ _) rfl
    exact .refl _ _

theorem Block.takeBuild_frame : ∀ (a0 : Block) (a1 : MemView) (a2 : Nat) (a3 : Nat) (a4 : Build) (a5 : StepRec) (a6 : List Word), Block.Frame 9504832 a0 (Block.takeBuild a0 a1 a2 a3 a4 a5 a6) := by
  intro a0 a1 a2 a3 a4 a5 a6
  unfold Block.takeBuild
  dsimp only
  refine .ite ?_ ?_
  · refine .step ?_ (Block.modNode_frame _ _ _ _) rfl
    refine .step ?_ (Block.traceStep_frame _ _ _ _) rfl
    refine .step ?_ (Block.linkWrites_frame _ _ _ _) rfl
    refine .step ?_ (Block.modSeqCtx_frame _ _ _) rfl
    refine .step ?_ (.upd_seq  _ _) rfl
    refine .foldl ?_ _ ?_
    · intro b x
      refine .step ?_ (Block.viewErrors_frame _ _ _ _ _ _) rfl
      exact .refl _ _
    · exact .refl _ _
  · refine .step ?_ (Block.modNode_frame _ _ _ _) rfl
    refine .foldl ?_ _ ?_
    · intro b x
      refine .step ?_ (Block.put_frame _ _ _ _ _ _) rfl
      exact .refl _ _
    · refine .step ?_ (Block.traceStep_frame _ _ _ _) rfl
      refine .step ?_ (Block.linkWrites_frame _ _ _ _) rfl
      refine .step ?_ (Block.modSeqCtx_frame _ _ _) rfl
      refine .step ?_ (.upd_seq  _ _) rfl
      refine .foldl ?_ _ ?_
      · intro b x
        refine .step ?_ (Block.viewErrors_frame _ _ _ _ _ _) rfl
        exact .refl _ _
      · exact .refl _ _

theorem sqtApply_frame : ∀ (a0 : Block), Block.Frame 65536 a0 (sqtApply a0) := by
  intro a0
  unfold sqtApply
  dsimp only
  refine .ite ?_ ?_
  · exact .refl _ _
  · split
    · exact .refl _ _
    · split
      · refine .step ?_ (applyJoin_frame _ _ _ _ _) rfl
        refine .step ?_ (.upd_seq  _ _) rfl
        exact .refl _ _
      · refine .step ?_ (applyCancel_frame _ _ _) rfl
        refine .step ?_ (.upd_seq  _ _) rfl
        exact .refl _ _

theorem Block.stepTasks_frame : ∀ (a0 : Params) (a1 : MemView) (a2 : Nat) (a3 : Nat) (a4 : Block), Block.Frame 2048 a4 (Block.stepTasks a0 a1 a2 a3 a4) := by
  intro a0 a1 a2 a3 a4
  unfold Block.stepTasks
  dsimp only
  split
  · exact .refl _ _
  · refine .ite ?_ ?_
    · exact .refl _ _
    · refine .step ?_ (Block.modNode_frame _ _ _ _) rfl
      refine .foldl ?_ _ ?_
      · intro b x
        refine .step ?_ (Block.createTask_frame _ _ _ _ _ _) rfl
        exact .refl _ _
      · exact .refl _ _

theorem Block.stepStart_frame : ∀ (a0 : Params) (a1 : MemView) (a2 : Nat) (a3 : Nat) (a4 : Block), Block.Frame 9771588 a4 (Block.stepStart a0 a1 a2 a3 a4) := by
  intro a0 a1 a2 a3 a4
  unfold Block.stepStart
  dsimp only
  refine .ite ?_ ?_
  · refine .step ?_ (Block.modNode_frame _ _ _ _) rfl
    refine .step ?_ (Block.traceStep_frame _ _ _ _) rfl
    exact .refl _ _
  · split
    · refine .step ?_ (Block.modNode_frame _ _ _ _) rfl
      refine .step ?_ (Block.traceStep_frame _ _ _ _) rfl
      refine .ite ?_ ?_
      · refine .foldl ?_ _ ?_
        · intro b x
          refine .step ?_ (Block.viewErrors_frame _ _ _ _ _ _) rfl
          exact .refl _ _
        · exact .refl _ _
      · exact .refl _ _
    · refine .ite ?_ ?_
      · refine .ite ?_ ?_
        · refine .step ?_ (Block.takeBuild_frame _ _ _ _ _ _ _) rfl
          refine .ite ?_ ?_
          · refine .ite ?_ ?_
            · refine .foldl ?_ _ ?_
              · intro b x
                refine .step ?_ (Block.viewErrors_frame _ _ _ _ _ _) rfl
                exact .refl _ _
              · exact .refl _ _
            · exact .refl _ _
          · refine .step ?_ (Block.viewErrors_frame _ _ _ _ _ _) rfl
            refine .ite ?_ ?_
            · refine .foldl ?_ _ ?_
              · intro b x
                refine .step ?_ (Block.viewErrors_frame _ _ _ _ _ _) rfl
                exact .refl _ _
              · exact .refl _ _
            · exact .refl _ _
        · refine .step ?_ (Block.abandon_frame _ _ _ _ _) rfl
          refine .step ?_ (Block.takeBuild_frame _ _ _ _ _ _ _) rfl
          refine .ite ?_ ?_
          · refine .ite ?_ ?_
            · refine .foldl ?_ _ ?_
              · intro b x
                refine .step ?_ (Block.viewErrors_frame _ _ _ _ _ _) rfl
                exact .refl _ _
              · exact .refl _ _
            · exact .refl _ _
          · refine .step ?_ (Block.viewErrors_frame _ _ _ _ _ _) rfl
            refine .ite ?_ ?_
            · refine .foldl ?_ _ ?_
              · intro b x
                refine .step ?_ (Block.viewErrors_frame _ _ _ _ _ _) rfl
                exact .refl _ _
              · exact .refl _ _
            · exact .refl _ _
      · refine .step ?_ (Block.abandon_frame _ _ _ _ _) rfl
        refine .step ?_ (Block.takeBuild_frame _ _ _ _ _ _ _) rfl
        refine .step ?_ (Block.drawWords_frame _ _) rfl
        refine .ite ?_ ?_
        · refine .ite ?_ ?_
          · refine .foldl ?_ _ ?_
            · intro b x
              refine .step ?_ (Block.viewErrors_frame _ _ _ _ _ _) rfl
              exact .refl _ _
            · exact .refl _ _
          · exact .refl _ _
        · refine .step ?_ (Block.viewErrors_frame _ _ _ _ _ _) rfl
          refine .ite ?_ ?_
          · refine .foldl ?_ _ ?_
            · intro b x
              refine .step ?_ (Block.viewErrors_frame _ _ _ _ _ _) rfl
              exact .refl _ _
            · exact .refl _ _
          · exact .refl _ _

theorem stepRetire_frame : ∀ (a0 : Params) (a1 : Nat) (a2 : Nat) (a3 : MemView) (a4 : Block), Block.Frame 11868740 a4 (stepRetire a0 a1 a2 a3 a4) := by
  intro a0 a1 a2 a3 a4
  unfold stepRetire
  dsimp only
  split
  · exact .refl _ _
  · refine .ite ?_ ?_
    · exact .refl _ _
    · refine .step ?_ (Block.claspLeave_frame _ _ _ _ _ _ _) rfl
      split
      · refine .step ?_ (Block.modSeqCtx_frame _ _ _) rfl
        exact .refl _ _
      · exact .refl _ _

theorem stepBuild_frame : ∀ (a0 : Params) (a1 : Nat) (a2 : Nat) (a3 : MemView) (a4 : Block), Block.Frame 62724676 a4 (stepBuild a0 a1 a2 a3 a4) := by
  intro a0 a1 a2 a3 a4
  unfold stepBuild
  dsimp only
  refine .ite ?_ ?_
  · exact .refl _ _
  · refine .ite ?_ ?_
    · refine .step ?_ (Block.stepTasks_frame _ _ _ _ _) rfl
      exact .refl _ _
    · split
      · refine .ite ?_ ?_
        · refine .step ?_ (Block.waitDomain_frame _ _) rfl
          exact .refl _ _
        · refine .ite ?_ ?_
          · exact .refl _ _
          · refine .ite ?_ ?_
            · refine .step ?_ (Block.reachTable_frame _ _ _) rfl
              exact .refl _ _
            · refine .tryAct rfl ?_ ?_
              · intro b
                refine .step ?_ (Block.stepStart_frame _ _ _ _ _) rfl
                exact .refl _ _
              · refine .step ?_ (.upd_seq  _ _) rfl
                refine .step ?_ (Block.reachTable_frame _ _ _) rfl
                exact .refl _ _
      · refine .tryAct rfl ?_ ?_
        · intro b
          refine .step ?_ (Block.stepStart_frame _ _ _ _ _) rfl
          exact .refl _ _
        · exact .refl _ _

end Sys2Proof.Machine
end

