-- ==== Sys2Proof/Laws/FramesChannels.lean ====
section
/-! SUPPORT. The fields each operation of Machine/Channels.lean can change, one frame per operation. -/

-- theorem after theorem, which bounds the memory of the compile
set_option Elab.async false

namespace Sys2Proof.Machine

theorem Block.rxLocket_frame : ∀ (a0 : Params) (a1 : Block) (a2 : Nat) (a3 : Nat) (a4 : Nat) (a5 : Bool), Block.Frame 16777216 a1 (Block.rxLocket a0 a1 a2 a3 a4 a5) := by
  intro a0 a1 a2 a3 a4 a5
  unfold Block.rxLocket
  dsimp only
  refine .step ?_ (Block.beadLocket_frame _ _ _ _ _ _) rfl
  exact .refl _ _

theorem Block.clearTiles_frame : ∀ (a0 : Block) (a1 : Nat), Block.Frame 532480 a0 (Block.clearTiles a0 a1) := by
  intro a0 a1
  unfold Block.clearTiles
  dsimp only
  refine .step ?_ (Block.modPbead_frame _ _ _) rfl
  refine .step ?_ (Block.modBead_frame _ _ _) rfl
  exact .refl _ _

theorem txData_frame : ∀ (a0 : Nat) (a1 : Nat) (a2 : Word) (a3 : Block), Block.Frame 16384 a3 (txData a0 a1 a2 a3) := by
  intro a0 a1 a2 a3
  unfold txData
  dsimp only
  refine .ite ?_ ?_
  · refine .step ?_ (Block.modTx_frame _ _ _ _) rfl
    exact .refl _ _
  · refine .ite ?_ ?_
    · refine .step ?_ (Block.modChan_frame _ _ _) rfl
      refine .step ?_ (Block.modTx_frame _ _ _ _) rfl
      exact .refl _ _
    · refine .step ?_ (Block.modTx_frame _ _ _ _) rfl
      exact .refl _ _

theorem Block.rxProgress_frame : ∀ (a0 : Block) (a1 : Nat) (a2 : Nat), Block.Frame 1024 a0 (Block.rxProgress a0 a1 a2) := by
  intro a0 a1 a2
  unfold Block.rxProgress
  refine .step ?_ (Block.progress_frame _ _ _) rfl
  exact .refl _ _

theorem chnDrop_frame : ∀ (a0 : Params) (a1 : Nat) (a2 : Nat) (a3 : Block), Block.Frame 16794624 a3 (chnDrop a0 a1 a2 a3) := by
  intro a0 a1 a2 a3
  unfold chnDrop
  split
  · exact .refl _ _
  · refine .step ?_ (Block.rxLocket_frame _ _ _ _ _ _) rfl
    refine .step ?_ (Block.rxProgress_frame _ _ _) rfl
    refine .step ?_ (Block.modRx_frame _ _ _ _) rfl
    exact .refl _ _

theorem Block.rxFlit_frame : ∀ (a0 : Params) (a1 : Nat) (a2 : Nat) (a3 : Block) (a4 : Word), Block.Frame 16794624 a3 (Block.rxFlit a0 a1 a2 a3 a4) := by
  intro a0 a1 a2 a3 a4
  unfold Block.rxFlit
  dsimp only
  refine .ite ?_ ?_
  · refine .step ?_ (Block.beadLocket_frame _ _ _ _ _ _) rfl
    refine .ite ?_ ?_
    · refine .step ?_ (Block.rxProgress_frame _ _ _) rfl
      refine .step ?_ (Block.modRx_frame _ _ _ _) rfl
      exact .refl _ _
    · refine .step ?_ (Block.modRx_frame _ _ _ _) rfl
      exact .refl _ _
  · refine .ite ?_ ?_
    · refine .step ?_ (Block.rxProgress_frame _ _ _) rfl
      refine .step ?_ (Block.modRx_frame _ _ _ _) rfl
      exact .refl _ _
    · refine .step ?_ (Block.modRx_frame _ _ _ _) rfl
      exact .refl _ _

theorem chnPop_frame : ∀ (a0 : Params) (a1 : Nat) (a2 : Nat) (a3 : Block), Block.Frame 16794624 a3 (chnPop a0 a1 a2 a3) := by
  intro a0 a1 a2 a3
  unfold chnPop
  dsimp only
  refine .ite ?_ ?_
  · refine .step ?_ (Block.rxLocket_frame _ _ _ _ _ _) rfl
    refine .step ?_ (Block.modRx_frame _ _ _ _) rfl
    exact .refl _ _
  · refine .step ?_ (Block.rxLocket_frame _ _ _ _ _ _) rfl
    refine .step ?_ (Block.rxProgress_frame _ _ _) rfl
    refine .step ?_ (Block.modRx_frame _ _ _ _) rfl
    exact .refl _ _

theorem Block.addCredit_frame : ∀ (a0 : Block) (a1 : Nat) (a2 : Nat) (a3 : Nat), Block.Frame 16384 a0 (Block.addCredit a0 a1 a2 a3) := by
  intro a0 a1 a2 a3
  unfold Block.addCredit
  dsimp only
  refine .ite ?_ ?_
  · refine .step ?_ (Block.modRx_frame _ _ _ _) rfl
    refine .step ?_ (Block.modTx_frame _ _ _ _) rfl
    exact .refl _ _
  · refine .step ?_ (Block.modTx_frame _ _ _ _) rfl
    exact .refl _ _

theorem Block.clearRx_frame : ∀ (a0 : Params) (a1 : Nat) (a2 : Block) (a3 : Nat), Block.Frame 16793600 a2 (Block.clearRx a0 a1 a2 a3) := by
  intro a0 a1 a2 a3
  unfold Block.clearRx
  refine .step ?_ (Block.rxLocket_frame _ _ _ _ _ _) rfl
  refine .step ?_ (Block.modRx_frame _ _ _ _) rfl
  exact .refl _ _

theorem txHeader_frame : ∀ (a0 : Params) (a1 : Nat) (a2 : Nat) (a3 : Nat) (a4 : Block), Block.Frame 16384 a4 (txHeader a0 a1 a2 a3 a4) := by
  intro a0 a1 a2 a3 a4
  unfold txHeader
  dsimp only
  refine .ite ?_ ?_
  · refine .step ?_ (Block.modTx_frame _ _ _ _) rfl
    exact .refl _ _
  · refine .ite ?_ ?_
    · refine .step ?_ (Block.modTx_frame _ _ _ _) rfl
      exact .refl _ _
    · refine .step ?_ (Block.modTx_frame _ _ _ _) rfl
      exact .refl _ _

theorem Block.clearTx_frame : ∀ (a0 : Nat) (a1 : Block) (a2 : Nat), Block.Frame 16384 a1 (Block.clearTx a0 a1 a2) := by
  intro a0 a1 a2
  unfold Block.clearTx
  dsimp only
  refine .step ?_ (Block.modTx_frame _ _ _ _) rfl
  refine .step ?_ (Block.modChan_frame _ _ _) rfl
  exact .refl _ _

theorem Block.chnDown_frame : ∀ (a0 : Params) (a1 : Block) (a2 : Nat) (a3 : Nat) (a4 : List Word), Block.Frame 512 a1 (Block.chnDown a0 a1 a2 a3 a4) := by
  intro a0 a1 a2 a3 a4
  unfold Block.chnDown
  refine .ite ?_ ?_
  · exact .refl _ _
  · refine .step ?_ (Block.sendDown_frame _ _ _ _) rfl
    exact .refl _ _

theorem creditReturn_frame : ∀ (a0 : Params) (a1 : Nat) (a2 : Nat) (a3 : Block), Block.Frame 17920 a3 (creditReturn a0 a1 a2 a3) := by
  intro a0 a1 a2 a3
  unfold creditReturn
  dsimp only
  refine .ite ?_ ?_
  · exact .refl _ _
  · refine .ite ?_ ?_
    · refine .step ?_ (Block.addCredit_frame _ _ _ _) rfl
      refine .step ?_ (Block.rxProgress_frame _ _ _) rfl
      refine .step ?_ (Block.modRx_frame _ _ _ _) rfl
      exact .refl _ _
    · refine .step ?_ (Block.sendUp_frame _ _ _ _) rfl
      refine .step ?_ (Block.rxProgress_frame _ _ _) rfl
      refine .step ?_ (Block.modRx_frame _ _ _ _) rfl
      exact .refl _ _

theorem Block.rxArrive_frame : ∀ (a0 : Params) (a1 : Block) (a2 : Nat) (a3 : Nat) (a4 : Nat) (a5 : List Word), Block.Frame 16794624 a1 (Block.rxArrive a0 a1 a2 a3 a4 a5) := by
  intro a0 a1 a2 a3 a4 a5
  unfold Block.rxArrive
  dsimp only
  refine .ite ?_ ?_
  · exact .refl _ _
  · refine .foldl ?_ _ ?_
    · intro b x
      refine .step ?_ (Block.rxFlit_frame _ _ _ _ _) rfl
      exact .refl _ _
    · refine .ite ?_ ?_
      · refine .step ?_ (Block.rxLocket_frame _ _ _ _ _ _) rfl
        refine .ite ?_ ?_
        · exact .refl _ _
        · refine .step ?_ (Block.modRx_frame _ _ _ _) rfl
          exact .refl _ _
      · refine .ite ?_ ?_
        · exact .refl _ _
        · refine .step ?_ (Block.modRx_frame _ _ _ _) rfl
          exact .refl _ _

theorem Block.clearChannels_frame : ∀ (a0 : Params) (a1 : Block) (a2 : Nat), Block.Frame 16793600 a1 (Block.clearChannels a0 a1 a2) := by
  intro a0 a1 a2
  unfold Block.clearChannels
  dsimp only
  refine .foldl ?_ _ ?_
  · intro b x
    refine .step ?_ (Block.clearTx_frame _ _ _) rfl
    exact .refl _ _
  · refine .foldl ?_ _ ?_
    · intro b x
      refine .step ?_ (Block.clearRx_frame _ _ _ _) rfl
      exact .refl _ _
    · exact .refl _ _

theorem credit_frame : ∀ (a0 : Params) (a1 : Bool) (a2 : Nat) (a3 : Nat) (a4 : Nat) (a5 : Block), Block.Frame 16896 a5 (credit a0 a1 a2 a3 a4 a5) := by
  intro a0 a1 a2 a3 a4 a5
  unfold credit
  refine .ite ?_ ?_
  · refine .ite ?_ ?_
    · refine .onUp rfl ?_ ?_
      · intro b
        split
        · refine .step ?_ (Block.sendDown_frame _ _ _ _) rfl
          exact .refl _ _
        · exact .refl _ _
      · exact .refl _ _
    · exact .refl _ _
  · refine .atBead rfl ?_ ?_
    · intro b
      refine .step ?_ (Block.addCredit_frame _ _ _ _) rfl
      exact .refl _ _
    · exact .refl _ _

theorem chn_frame : ∀ (a0 : Params) (a1 : Bool) (a2 : Nat) (a3 : Nat) (a4 : Nat) (a5 : Nat) (a6 : List Word) (a7 : Block), Block.Frame 16795136 a7 (chn a0 a1 a2 a3 a4 a5 a6 a7) := by
  intro a0 a1 a2 a3 a4 a5 a6 a7
  unfold chn
  dsimp only
  refine .ite ?_ ?_
  · refine .ite ?_ ?_
    · refine .onUp rfl ?_ ?_
      · intro b
        refine .step ?_ (Block.chnDown_frame _ _ _ _ _) rfl
        exact .refl _ _
      · exact .refl _ _
    · exact .refl _ _
  · split
    · exact .refl _ _
    · refine .ite ?_ ?_
      · refine .step ?_ (Block.modLane_frame _ _ _) rfl
        exact .refl _ _
      · refine .step ?_ (Block.rxArrive_frame _ _ _ _ _ _) rfl
        refine .step ?_ (Block.modLane_frame _ _ _) rfl
        exact .refl _ _

theorem ctlClear_frame : ∀ (a0 : Params) (a1 : Nat) (a2 : Nat) (a3 : Block), Block.Frame 17326592 a3 (ctlClear a0 a1 a2 a3) := by
  intro a0 a1 a2 a3
  unfold ctlClear
  dsimp only
  refine .atBead rfl ?_ ?_
  · intro b
    refine .step ?_ (Block.beadLocket_frame _ _ _ _ _ _) rfl
    refine .step ?_ (Block.clearTiles_frame _ _) rfl
    refine .step ?_ (Block.clearChannels_frame _ _ _) rfl
    exact .refl _ _
  · exact .refl _ _

theorem chnMessageSend_frame : ∀ (a0 : Params) (a1 : Nat) (a2 : Block), Block.Frame 16795136 a2 (chnMessageSend a0 a1 a2) := by
  intro a0 a1 a2
  unfold chnMessageSend
  dsimp only
  split
  · exact .refl _ _
  · refine .ite ?_ ?_
    · exact .refl _ _
    · refine .ite ?_ ?_
      · refine .step ?_ (Block.rxArrive_frame _ _ _ _ _ _) rfl
        refine .step ?_ (Block.modChan_frame _ _ _) rfl
        exact .refl _ _
      · refine .step ?_ (Block.sendUp_frame _ _ _ _) rfl
        refine .step ?_ (Block.modChan_frame _ _ _) rfl
        exact .refl _ _

end Sys2Proof.Machine
end

