-- ==== Sys2Proof/Laws/FramesPartitions.lean ====
section
/-! SUPPORT. The fields each operation of Machine/Partitions.lean can change, one frame per operation. -/

-- theorem after theorem, which bounds the memory of the compile
set_option Elab.async false

namespace Sys2Proof.Machine

theorem Block.ctxRejected_frame : ∀ (a0 : Block) (a1 : Bool), Block.Frame 524288 a0 (Block.ctxRejected a0 a1) := by
  intro a0 a1
  unfold Block.ctxRejected
  dsimp only
  refine .step ?_ (.upd_parts  _ _) rfl
  exact .refl _ _

theorem Block.orphanPieces_frame : ∀ (a0 : Block) (a1 : Nat), Block.Frame 2048 a0 (Block.orphanPieces a0 a1) := by
  intro a0 a1
  unfold Block.orphanPieces
  dsimp only
  refine .step ?_ (.upd_graph  _ _) rfl
  exact .refl _ _

theorem hintTransfer_frame : ∀ (a0 : Nat) (a1 : Block), Block.Frame 524288 a1 (hintTransfer a0 a1) := by
  intro a0 a1
  unfold hintTransfer
  refine .step ?_ (Block.modPart_frame _ _ _) rfl
  exact .refl _ _

theorem Block.writePieces_frame : ∀ (a0 : Block) (a1 : Nat) (a2 : Bool), Block.Frame 64 a0 (Block.writePieces a0 a1 a2) := by
  intro a0 a1 a2
  unfold Block.writePieces
  dsimp only
  split
  · exact .refl _ _
  · refine .foldl ?_ _ ?_
    · intro b x
      refine .step ?_ (Block.put_frame _ _ _ _ _ _) rfl
      exact .refl _ _
    · refine .step ?_ (Block.put_frame _ _ _ _ _ _) rfl
      exact .refl _ _

theorem Block.registerCtx_frame : ∀ (a0 : Block) (a1 : Nat) (a2 : Nat) (a3 : Nat), Block.Frame 524288 a0 (Block.registerCtx a0 a1 a2 a3) := by
  intro a0 a1 a2 a3
  unfold Block.registerCtx
  refine .step ?_ (Block.modCtx_frame _ _ _) rfl
  exact .refl _ _

theorem Block.becomeResident_frame : ∀ (a0 : Block) (a1 : Nat) (a2 : Nat), Block.Frame 524288 a0 (Block.becomeResident a0 a1 a2) := by
  intro a0 a1 a2
  unfold Block.becomeResident
  dsimp only
  refine .step ?_ (Block.modPart_frame _ _ _) rfl
  refine .step ?_ (Block.modCtx_frame _ _ _) rfl
  exact .refl _ _

theorem Block.failPiece_frame : ∀ (a0 : Block) (a1 : Nat) (a2 : Nat), Block.Frame 524288 a0 (Block.failPiece a0 a1 a2) := by
  intro a0 a1 a2
  unfold Block.failPiece
  refine .step ?_ (Block.modPart_frame _ _ _) rfl
  exact .refl _ _

theorem Block.setPhase_frame : ∀ (a0 : Block) (a1 : Nat) (a2 : Phase) (a3 : Option Nat), Block.Frame 9961472 a0 (Block.setPhase a0 a1 a2 a3) := by
  intro a0 a1 a2 a3
  unfold Block.setPhase
  refine .ite ?_ ?_
  · exact .refl _ _
  · refine .step ?_ (Block.traceEvent_frame _ _ _ _ _) rfl
    refine .step ?_ (Block.modPart_frame _ _ _) rfl
    exact .refl _ _

theorem Block.resetFetched_frame : ∀ (a0 : Block) (a1 : Nat), Block.Frame 2098176 a0 (Block.resetFetched a0 a1) := by
  intro a0 a1
  unfold Block.resetFetched
  refine .step ?_ (Block.unhold_frame _) rfl
  refine .foldl ?_ _ ?_
  · intro b x
    refine .step ?_ (Block.modQueue_frame _ _ _) rfl
    exact .refl _ _
  · exact .refl _ _

theorem Block.tellBeads_frame : ∀ (a0 : Params) (a1 : Block) (a2 : Nat) (a3 : Nat), Block.Frame 524288 a1 (Block.tellBeads a0 a1 a2 a3) := by
  intro a0 a1 a2 a3
  unfold Block.tellBeads
  refine .foldl ?_ _ ?_
  · intro b x
    refine .step ?_ (Block.modPbead_frame _ _ _) rfl
    exact .refl _ _
  · exact .refl _ _

theorem Block.endSwitch_frame : ∀ (a0 : Params) (a1 : Block) (a2 : Nat) (a3 : Nat), Block.Frame 9961472 a1 (Block.endSwitch a0 a1 a2 a3) := by
  intro a0 a1 a2 a3
  unfold Block.endSwitch
  dsimp only
  refine .step ?_ (Block.setPhase_frame _ _ _ _) rfl
  refine .step ?_ (Block.modPart_frame _ _ _) rfl
  refine .step ?_ (Block.tellBeads_frame _ _ _ _) rfl
  refine .step ?_ (Block.becomeResident_frame _ _ _) rfl
  exact .refl _ _

theorem Block.withdrawSwitch_frame : ∀ (a0 : Block) (a1 : Nat) (a2 : Nat), Block.Frame 9961472 a0 (Block.withdrawSwitch a0 a1 a2) := by
  intro a0 a1 a2
  unfold Block.withdrawSwitch
  refine .step ?_ (Block.setPhase_frame _ _ _ _) rfl
  refine .step ?_ (Block.becomeResident_frame _ _ _) rfl
  exact .refl _ _

theorem Block.setPState_frame : ∀ (a0 : Block) (a1 : Nat) (a2 : PState), Block.Frame 17301504 a0 (Block.setPState a0 a1 a2) := by
  intro a0 a1 a2
  unfold Block.setPState
  refine .step ?_ (Block.claspLocket_frame _ _ _) rfl
  refine .step ?_ (Block.modPart_frame _ _ _) rfl
  exact .refl _ _

theorem partitionForceDone_frame : ∀ (a0 : Nat) (a1 : Block), Block.Frame 26738688 a1 (partitionForceDone a0 a1) := by
  intro a0 a1
  unfold partitionForceDone
  dsimp only
  refine .ite ?_ ?_
  · refine .step ?_ (Block.raise_frame _ _) rfl
    refine .step ?_ (Block.setPState_frame _ _ _) rfl
    refine .step ?_ (Block.modPart_frame _ _ _) rfl
    exact .refl _ _
  · exact .refl _ _

theorem beadDisabled_frame : ∀ (a0 : Nat) (a1 : Block), Block.Frame 524288 a1 (beadDisabled a0 a1) := by
  intro a0 a1
  unfold beadDisabled
  dsimp only
  refine .ite ?_ ?_
  · refine .step ?_ (Block.modPbead_frame _ _ _) rfl
    exact .refl _ _
  · exact .refl _ _

theorem Block.hintMean_frame : ∀ (a0 : Block) (a1 : Machine.Part), Block.Frame 4 a0 (Block.hintMean a0 a1).2 := by
  intro a0 a1
  unfold Block.hintMean
  dsimp only
  split
  · split
    · dsimp only
      exact .refl _ _
    · dsimp only
      refine .step ?_ (Block.draw_frame _) rfl
      exact .refl _ _
  · split
    · dsimp only
      exact .refl _ _
    · dsimp only
      refine .step ?_ (Block.draw_frame _) rfl
      exact .refl _ _

theorem Block.readLive_frame : ∀ (a0 : Block) (a1 : MemView) (a2 : Nat) (a3 : Nat) (a4 : Bool), Block.Frame 9437252 a0 (Block.readLive a0 a1 a2 a3 a4).blk := by
  intro a0 a1 a2 a3 a4
  unfold Block.readLive
  dsimp only
  split
  · dsimp only
    exact .refl _ _
  · split
    · dsimp only
      exact .refl _ _
    · split
      · dsimp only
        refine .step ?_ (Block.draw_frame _) rfl
        refine .step ?_ (Block.viewErrors_frame _ _ _ _ _ _) rfl
        exact .refl _ _
      · split
        · dsimp only
          refine .step ?_ (Block.viewErrors_frame _ _ _ _ _ _) rfl
          exact .refl _ _
        · split
          · dsimp only
            refine .step ?_ (Block.viewErrors_frame _ _ _ _ _ _) rfl
            exact .refl _ _
          · dsimp only
            refine .step ?_ (Block.viewErrors_frame _ _ _ _ _ _) rfl
            exact .refl _ _

theorem Block.incomingList_frame : ∀ (a0 : Block) (a1 : MemView) (a2 : Nat) (a3 : Nat), Block.Frame 9437252 a0 (Block.incomingList a0 a1 a2 a3).blk := by
  intro a0 a1 a2 a3
  unfold Block.incomingList
  split
  · dsimp only
    exact .refl _ _
  · refine .step ?_ (Block.readLive_frame _ _ _ _ _) rfl
    exact .refl _ _

theorem partitionDisabled_frame : ∀ (a0 : Nat) (a1 : Block), Block.Frame 26738688 a1 (partitionDisabled a0 a1) := by
  intro a0 a1
  unfold partitionDisabled
  dsimp only
  refine .ite ?_ ?_
  · refine .step ?_ (Block.raise_frame _ _) rfl
    refine .step ?_ (Block.setPState_frame _ _ _) rfl
    exact .refl _ _
  · exact .refl _ _

theorem Block.requestSwitch_frame : ∀ (a0 : Block) (a1 : Nat) (a2 : Nat), Block.Frame 9961472 a0 (Block.requestSwitch a0 a1 a2) := by
  intro a0 a1 a2
  unfold Block.requestSwitch
  dsimp only
  split
  · exact .refl _ _
  · refine .step ?_ (Block.setPhase_frame _ _ _ _) rfl
    refine .step ?_ (Block.modPart_frame _ _ _) rfl
    refine .step ?_ (Block.modCtx_frame _ _ _) rfl
    exact .refl _ _

theorem Block.startRestore_frame : ∀ (a0 : Block) (a1 : Nat) (a2 : Nat), Block.Frame 9961536 a0 (Block.startRestore a0 a1 a2) := by
  intro a0 a1 a2
  unfold Block.startRestore
  dsimp only
  refine .ite ?_ ?_
  · refine .step ?_ (Block.writePieces_frame _ _ _) rfl
    refine .step ?_ (Block.setPhase_frame _ _ _ _) rfl
    refine .step ?_ (Block.modPart_frame _ _ _) rfl
    refine .step ?_ (Block.modCtx_frame _ _ _) rfl
    exact .refl _ _
  · refine .step ?_ (Block.setPhase_frame _ _ _ _) rfl
    refine .step ?_ (Block.modPart_frame _ _ _) rfl
    refine .step ?_ (Block.modCtx_frame _ _ _) rfl
    exact .refl _ _

theorem Block.disablePart_frame : ∀ (a0 : Block) (a1 : Nat), Block.Frame 26739776 a0 (Block.disablePart a0 a1) := by
  intro a0 a1
  unfold Block.disablePart
  refine .foldl ?_ _ ?_
  · intro b x
    refine .step ?_ (qDisable_frame _ _) rfl
    exact .refl _ _
  · refine .step ?_ (Block.setPState_frame _ _ _) rfl
    exact .refl _ _

theorem quantumExpiry_frame : ∀ (a0 : Nat) (a1 : Block), Block.Frame 9961472 a1 (quantumExpiry a0 a1) := by
  intro a0 a1
  unfold quantumExpiry
  dsimp only
  refine .ite ?_ ?_
  · refine .step ?_ (Block.requestSwitch_frame _ _ _) rfl
    exact .refl _ _
  · exact .refl _ _

theorem Block.sendPiece_frame : ∀ (a0 : Params) (a1 : Block) (a2 : Nat) (a3 : Nat) (a4 : Nat) (a5 : Nat) (a6 : Piece), Block.Frame 526848 a1 (Block.sendPiece a0 a1 a2 a3 a4 a5 a6) := by
  intro a0 a1 a2 a3 a4 a5 a6
  unfold Block.sendPiece
  dsimp only
  refine .step ?_ (Block.modPart_frame _ _ _) rfl
  refine .step ?_ (Block.sendDown_frame _ _ _ _) rfl
  refine .step ?_ (Block.modCwin_frame _ _ _ _) rfl
  exact .refl _ _

theorem Block.clearBeads_frame : ∀ (a0 : Params) (a1 : Block) (a2 : Nat), Block.Frame 9961984 a1 (Block.clearBeads a0 a1 a2) := by
  intro a0 a1 a2
  unfold Block.clearBeads
  dsimp only
  refine .foldl ?_ _ ?_
  · intro b x
    refine .step ?_ (Block.modPbead_frame _ _ _) rfl
    refine .step ?_ (Block.sendDown_frame _ _ _ _) rfl
    exact .refl _ _
  · refine .step ?_ (Block.setPhase_frame _ _ _ _) rfl
    refine .step ?_ (Block.modPart_frame _ _ _) rfl
    exact .refl _ _

theorem idleHint_frame : ∀ (a0 : Nat) (a1 : Block), Block.Frame 9961476 a1 (idleHint a0 a1) := by
  intro a0 a1
  unfold idleHint
  dsimp only
  refine .ite ?_ ?_
  · exact .refl _ _
  · refine .ite ?_ ?_
    · refine .ite ?_ ?_
      · refine .step ?_ (Block.setPhase_frame _ _ _ _) rfl
        refine .step ?_ (Block.modPart_frame _ _ _) rfl
        refine .step ?_ (Block.hintMean_frame _ _) rfl
        exact .refl _ _
      · refine .step ?_ (Block.modPart_frame _ _ _) rfl
        refine .step ?_ (Block.hintMean_frame _ _) rfl
        exact .refl _ _
    · refine .ite ?_ ?_
      · refine .step ?_ (Block.setPhase_frame _ _ _ _) rfl
        refine .step ?_ (Block.modPart_frame _ _ _) rfl
        exact .refl _ _
      · refine .step ?_ (Block.modPart_frame _ _ _) rfl
        exact .refl _ _

theorem Block.startSave_frame : ∀ (a0 : Block) (a1 : MemView) (a2 : Nat) (a3 : Nat) (a4 : Nat), Block.Frame 9961540 a0 (Block.startSave a0 a1 a2 a3 a4) := by
  intro a0 a1 a2 a3 a4
  unfold Block.startSave
  dsimp only
  refine .step ?_ (Block.writePieces_frame _ _ _) rfl
  refine .step ?_ (Block.setPhase_frame _ _ _ _) rfl
  refine .step ?_ (Block.modPart_frame _ _ _) rfl
  refine .step ?_ (Block.readLive_frame _ _ _ _ _) rfl
  refine .step ?_ (Block.readLive_frame _ _ _ _ _) rfl
  refine .step ?_ (Block.modCtx_frame _ _ _) rfl
  exact .refl _ _

theorem Block.abortPiece_frame : ∀ (a0 : Params) (a1 : Nat) (a2 : Block) (a3 : Nat × CWin), Block.Frame 512 a2 (Block.abortPiece a0 a1 a2 a3) := by
  intro a0 a1 a2 a3
  unfold Block.abortPiece
  refine .ite ?_ ?_
  · refine .step ?_ (Block.sendDown_frame _ _ _ _) rfl
    exact .refl _ _
  · exact .refl _ _

theorem Block.chooseAgain_frame : ∀ (a0 : Block) (a1 : Nat) (a2 : MemView), Block.Frame 9961540 a0 (Block.chooseAgain a0 a1 a2) := by
  intro a0 a1 a2
  unfold Block.chooseAgain
  dsimp only
  split
  · refine .step ?_ (Block.setPhase_frame _ _ _ _) rfl
    refine .step ?_ (Block.modPart_frame _ _ _) rfl
    exact .refl _ _
  · refine .step ?_ (Block.startRestore_frame _ _ _) rfl
    refine .step ?_ (Block.modPart_frame _ _ _) rfl
    refine .step ?_ (Block.incomingList_frame _ _ _ _) rfl
    exact .refl _ _

theorem Block.emptySwitch_frame : ∀ (a0 : Block) (a1 : MemView) (a2 : Nat), Block.Frame 9961540 a0 (Block.emptySwitch a0 a1 a2) := by
  intro a0 a1 a2
  unfold Block.emptySwitch
  dsimp only
  split
  · refine .step ?_ (Block.modPart_frame _ _ _) rfl
    exact .refl _ _
  · refine .step ?_ (Block.startRestore_frame _ _ _) rfl
    refine .step ?_ (Block.modPart_frame _ _ _) rfl
    refine .step ?_ (Block.incomingList_frame _ _ _ _) rfl
    refine .step ?_ (Block.modPart_frame _ _ _) rfl
    exact .refl _ _

theorem Block.tryPiece_frame : ∀ (a0 : Params) (a1 : Nat) (a2 : Block) (a3 : Nat), Block.Frame 526848 a2 (Block.tryPiece a0 a1 a2 a3) := by
  intro a0 a1 a2 a3
  unfold Block.tryPiece
  dsimp only
  split
  · exact .refl _ _
  · refine .ite ?_ ?_
    · exact .refl _ _
    · refine .ite ?_ ?_
      · refine .step ?_ (Block.failPiece_frame _ _ _) rfl
        exact .refl _ _
      · refine .ite ?_ ?_
        · exact .refl _ _
        · split
          · exact .refl _ _
          · refine .step ?_ (Block.sendPiece_frame _ _ _ _ _ _ _) rfl
            exact .refl _ _

theorem Block.expressBoundary_frame : ∀ (a0 : Params) (a1 : Block) (a2 : Nat) (a3 : Nat) (a4 : Nat), Block.Frame 9962048 a1 (Block.expressBoundary a0 a1 a2 a3 a4) := by
  intro a0 a1 a2 a3 a4
  unfold Block.expressBoundary
  dsimp only
  refine .step ?_ (Block.startRestore_frame _ _ _) rfl
  refine .step ?_ (Block.clearBeads_frame _ _ _) rfl
  refine .step ?_ (Block.modPart_frame _ _ _) rfl
  refine .step ?_ (Block.modCtx_frame _ _ _) rfl
  exact .refl _ _

theorem Block.sendPieces_frame : ∀ (a0 : Params) (a1 : Nat) (a2 : Block), Block.Frame 526848 a2 (Block.sendPieces a0 a1 a2) := by
  intro a0 a1 a2
  unfold Block.sendPieces
  dsimp only
  refine .ite ?_ ?_
  · exact .refl _ _
  · refine .foldl ?_ _ ?_
    · intro b x
      refine .step ?_ (Block.tryPiece_frame _ _ _ _) rfl
      exact .refl _ _
    · exact .refl _ _

theorem switchRequest_frame : ∀ (a0 : Nat) (a1 : MemView) (a2 : Block), Block.Frame 9961540 a2 (switchRequest a0 a1 a2) := by
  intro a0 a1 a2
  unfold switchRequest
  refine .ite ?_ ?_
  · exact .refl _ _
  · split
    · exact .refl _ _
    · refine .ite ?_ ?_
      · refine .step ?_ (Block.emptySwitch_frame _ _ _) rfl
        exact .refl _ _
      · refine .step ?_ (Block.requestSwitch_frame _ _ _) rfl
        exact .refl _ _

theorem Block.resetCtx_frame : ∀ (a0 : Params) (a1 : Block) (a2 : Nat) (a3 : Status), Block.Frame 12394052 a1 (Block.resetCtx a0 a1 a2 a3) := by
  intro a0 a1 a2 a3
  unfold Block.resetCtx
  dsimp only
  refine .step ?_ (Block.modCtx_frame _ _ _) rfl
  refine .step ?_ (Block.clearSeqs_frame _ _) rfl
  refine .step ?_ (Block.poisonOwned_frame _ _) rfl
  refine .foldl ?_ _ ?_
  · intro b x
    refine .step ?_ (Block.abandon_frame _ _ _ _ _) rfl
    refine .step ?_ (Block.modSub_frame _ _ _) rfl
    exact .refl _ _
  · refine .step ?_ (Block.resetFetched_frame _ _) rfl
    exact .refl _ _

theorem Block.releaseCtx_frame : ∀ (a0 : Params) (a1 : Block) (a2 : Nat), Block.Frame 12394052 a1 (Block.releaseCtx a0 a1 a2) := by
  intro a0 a1 a2
  unfold Block.releaseCtx
  refine .step ?_ (Block.modCtx_frame _ _ _) rfl
  refine .step ?_ (Block.resetCtx_frame _ _ _ _) rfl
  exact .refl _ _

theorem switchSaveDone_frame : ∀ (a0 : Params) (a1 : Nat) (a2 : MemView) (a3 : Block), Block.Frame 12394052 a3 (switchSaveDone a0 a1 a2 a3) := by
  intro a0 a1 a2 a3
  unfold switchSaveDone
  dsimp only
  split
  · refine .ite ?_ ?_
    · exact .refl _ _
    · refine .ite ?_ ?_
      · refine .step ?_ (Block.startRestore_frame _ _ _) rfl
        refine .step ?_ (Block.clearBeads_frame _ _ _) rfl
        split
        · refine .step ?_ (Block.resetCtx_frame _ _ _ _) rfl
          exact .refl _ _
        · refine .step ?_ (Block.modCtx_frame _ _ _) rfl
          exact .refl _ _
      · refine .step ?_ (Block.chooseAgain_frame _ _ _) rfl
        refine .step ?_ (Block.clearBeads_frame _ _ _) rfl
        split
        · refine .step ?_ (Block.resetCtx_frame _ _ _ _) rfl
          exact .refl _ _
        · refine .step ?_ (Block.modCtx_frame _ _ _) rfl
          exact .refl _ _
  · refine .step ?_ (Block.sendPieces_frame _ _ _) rfl
    exact .refl _ _
  · exact .refl _ _

theorem contextRegOp_frame : ∀ (a0 : Params) (a1 : MemView) (a2 : Nat) (a3 : Block), Block.Frame 12394052 a3 (contextRegOp a0 a1 a2 a3).2 := by
  intro a0 a1 a2 a3
  unfold contextRegOp
  dsimp only
  split
  · split
    · dsimp only
      refine .step ?_ (Block.ctxRejected_frame _ _) rfl
      refine .step ?_ (Block.registerCtx_frame _ _ _ _) rfl
      exact .refl _ _
    · dsimp only
      exact .refl _ _
  · split
    · dsimp only
      refine .step ?_ (Block.ctxRejected_frame _ _) rfl
      refine .step ?_ (Block.releaseCtx_frame _ _ _) rfl
      exact .refl _ _
    · dsimp only
      exact .refl _ _

theorem switchRestoreDone_frame : ∀ (a0 : Params) (a1 : Nat) (a2 : MemView) (a3 : Block), Block.Frame 12394052 a3 (switchRestoreDone a0 a1 a2 a3) := by
  intro a0 a1 a2 a3
  unfold switchRestoreDone
  dsimp only
  split
  · refine .ite ?_ ?_
    · exact .refl _ _
    · split
      · refine .step ?_ (Block.chooseAgain_frame _ _ _) rfl
        refine .step ?_ (Block.resetCtx_frame _ _ _ _) rfl
        exact .refl _ _
      · refine .step ?_ (Block.endSwitch_frame _ _ _ _) rfl
        exact .refl _ _
  · exact .refl _ _

theorem switchBoundary_frame : ∀ (a0 : Params) (a1 : Nat) (a2 : MemView) (a3 : Block), Block.Frame 9964100 a3 (switchBoundary a0 a1 a2 a3) := by
  intro a0 a1 a2 a3
  unfold switchBoundary
  split
  · refine .ite ?_ ?_
    · exact .refl _ _
    · split
      · refine .step ?_ (Block.withdrawSwitch_frame _ _ _) rfl
        exact .refl _ _
      · refine .ite ?_ ?_
        · refine .step ?_ (Block.expressBoundary_frame _ _ _ _ _) rfl
          exact .refl _ _
        · refine .step ?_ (Block.startSave_frame _ _ _ _ _) rfl
          exact .refl _ _
  · refine .step ?_ (Block.sendPieces_frame _ _ _) rfl
    exact .refl _ _
  · exact .refl _ _

theorem ctxWrite_frame : ∀ (a0 : Params) (a1 : Nat) (a2 : Bool) (a3 : Nat) (a4 : Nat) (a5 : Block), Block.Frame 12394052 a5 (ctxWrite a0 a1 a2 a3 a4 a5) := by
  intro a0 a1 a2 a3 a4 a5
  unfold ctxWrite
  dsimp only
  refine .ite ?_ ?_
  · refine .ite ?_ ?_
    · refine .step ?_ (Block.ctxRejected_frame _ _) rfl
      refine .step ?_ (Block.modCtx_frame _ _ _) rfl
      exact .refl _ _
    · refine .step ?_ (Block.ctxRejected_frame _ _) rfl
      exact .refl _ _
  · refine .ite ?_ ?_
    · refine .step ?_ (Block.ctxRejected_frame _ _) rfl
      exact .refl _ _
    · refine .ite ?_ ?_
      · refine .ite ?_ ?_
        · refine .step ?_ (Block.ctxRejected_frame _ _) rfl
          refine .step ?_ (Block.registerCtx_frame _ _ _ _) rfl
          exact .refl _ _
        · refine .step ?_ (Block.ctxRejected_frame _ _) rfl
          exact .refl _ _
      · refine .ite ?_ ?_
        · refine .ite ?_ ?_
          · refine .step ?_ (Block.ctxRejected_frame _ _) rfl
            refine .step ?_ (Block.releaseCtx_frame _ _ _) rfl
            exact .refl _ _
          · refine .step ?_ (Block.ctxRejected_frame _ _) rfl
            exact .refl _ _
        · refine .ite ?_ ?_
          · refine .step ?_ (Block.ctxRejected_frame _ _) rfl
            refine .step ?_ (Block.resetCtx_frame _ _ _ _) rfl
            exact .refl _ _
          · refine .step ?_ (Block.ctxRejected_frame _ _) rfl
            exact .refl _ _

theorem Block.forceBead_frame : ∀ (a0 : Params) (a1 : Block) (a2 : Nat), Block.Frame 10238468 a1 (Block.forceBead a0 a1 a2) := by
  intro a0 a1 a2
  unfold Block.forceBead
  dsimp only
  refine .foldl ?_ _ ?_
  · intro b x
    split
    · exact .refl _ _
    · refine .step ?_ (Block.abandon_frame _ _ _ _ _) rfl
      exact .refl _ _
    · refine .step ?_ (Block.abandon_frame _ _ _ _ _) rfl
      exact .refl _ _
  · refine .foldl ?_ _ ?_
    · intro b x
      refine .step ?_ (Block.abortPiece_frame _ _ _ _) rfl
      exact .refl _ _
    · refine .foldl ?_ _ ?_
      · intro b x
        refine .step ?_ (Block.askReset_frame _ _ _ _) rfl
        exact .refl _ _
      · refine .step ?_ (Block.modPbead_frame _ _ _) rfl
        exact .refl _ _

theorem beadWrite_frame : ∀ (a0 : Params) (a1 : Nat) (a2 : Nat) (a3 : Block), Block.Frame 10238468 a3 (beadWrite a0 a1 a2 a3) := by
  intro a0 a1 a2 a3
  unfold beadWrite
  dsimp only
  refine .ite ?_ ?_
  · refine .step ?_ (Block.modPbead_frame _ _ _) rfl
    exact .refl _ _
  · refine .ite ?_ ?_
    · refine .step ?_ (Block.modPbead_frame _ _ _) rfl
      refine .step ?_ (Block.modPbead_frame _ _ _) rfl
      exact .refl _ _
    · refine .ite ?_ ?_
      · refine .step ?_ (Block.modPbead_frame _ _ _) rfl
        refine .step ?_ (Block.modPbead_frame _ _ _) rfl
        exact .refl _ _
      · refine .ite ?_ ?_
        · refine .step ?_ (Block.forceBead_frame _ _ _) rfl
          refine .step ?_ (Block.modPbead_frame _ _ _) rfl
          exact .refl _ _
        · refine .step ?_ (Block.modPbead_frame _ _ _) rfl
          exact .refl _ _

theorem Block.forcePart_frame : ∀ (a0 : Params) (a1 : Block) (a2 : Nat), Block.Frame 29179460 a1 (Block.forcePart a0 a1 a2) := by
  intro a0 a1 a2
  unfold Block.forcePart
  dsimp only
  refine .step ?_ (Block.setPhase_frame _ _ _ _) rfl
  refine .step ?_ (Block.modPart_frame _ _ _) rfl
  refine .step ?_ (Block.orphanPieces_frame _ _) rfl
  refine .step ?_ (.upd_mp  _ _) rfl
  refine .foldl ?_ _ ?_
  · intro b x
    refine .step ?_ (Block.resetCtx_frame _ _ _ _) rfl
    exact .refl _ _
  · refine .foldl ?_ _ ?_
    · intro b x
      refine .step ?_ (Block.askReset_frame _ _ _ _) rfl
      exact .refl _ _
    · refine .foldl ?_ _ ?_
      · intro b x
        refine .step ?_ (qForce_frame _ _ _) rfl
        exact .refl _ _
      · refine .step ?_ (Block.setPState_frame _ _ _) rfl
        exact .refl _ _

theorem ctxCmdWrite_frame : ∀ (a0 : Params) (a1 : Nat) (a2 : Block), Block.Frame 12394052 a2 (ctxCmdWrite a0 a1 a2) := by
  intro a0 a1 a2
  unfold ctxCmdWrite
  refine .step ?_ (ctxWrite_frame _ _ _ _ _ _) rfl
  exact .refl _ _

theorem Block.partCommand_frame : ∀ (a0 : Params) (a1 : Block) (a2 : Nat) (a3 : Nat), Block.Frame 29179460 a1 (Block.partCommand a0 a1 a2 a3) := by
  intro a0 a1 a2 a3
  unfold Block.partCommand
  dsimp only
  split
  · refine .step ?_ (Block.setPState_frame _ _ _) rfl
    refine .step ?_ (Block.modPart_frame _ _ _) rfl
    exact .refl _ _
  · refine .step ?_ (Block.disablePart_frame _ _) rfl
    refine .step ?_ (Block.modPart_frame _ _ _) rfl
    exact .refl _ _
  · refine .step ?_ (Block.forcePart_frame _ _ _) rfl
    refine .step ?_ (Block.modPart_frame _ _ _) rfl
    exact .refl _ _
  · refine .ite ?_ ?_
    · refine .step ?_ (Block.modPart_frame _ _ _) rfl
      exact .refl _ _
    · refine .step ?_ (Block.requestSwitch_frame _ _ _) rfl
      refine .step ?_ (Block.modPart_frame _ _ _) rfl
      exact .refl _ _

theorem partitionCtl_frame : ∀ (a0 : Params) (a1 : Nat) (a2 : Nat) (a3 : MemView) (a4 : Block), Block.Frame 29179460 a4 (partitionCtl a0 a1 a2 a3 a4) := by
  intro a0 a1 a2 a3 a4
  unfold partitionCtl
  dsimp only
  refine .ite ?_ ?_
  · exact .refl _ _
  · refine .tryAct rfl ?_ ?_
    · intro b
      refine .ite ?_ ?_
      · refine .step ?_ (Block.partCommand_frame _ _ _ _) rfl
        refine .step ?_ (Block.claspLeave_frame _ _ _ _ _ _ _) rfl
        exact .refl _ _
      · refine .step ?_ (Block.claspLeave_frame _ _ _ _ _ _ _) rfl
        exact .refl _ _
    · exact .refl _ _

theorem partWrite_frame : ∀ (a0 : Params) (a1 : Nat) (a2 : Nat) (a3 : Block), Block.Frame 29179460 a3 (partWrite a0 a1 a2 a3) := by
  intro a0 a1 a2 a3
  unfold partWrite
  refine .ite ?_ ?_
  · refine .step ?_ (Block.partCommand_frame _ _ _ _) rfl
    exact .refl _ _
  · refine .step ?_ (Block.modPart_frame _ _ _) rfl
    exact .refl _ _

end Sys2Proof.Machine
end

