-- ==== Sys2Proof/Laws/FramesEvents.lean ====
section
/-! SUPPORT. The fields each operation of Machine/Events.lean can change, one frame per operation. -/

-- theorem after theorem, which bounds the memory of the compile
set_option Elab.async false

namespace Sys2Proof.Machine

theorem audRegionWrite_frame : ∀ (a0 : Bool) (a1 : Word) (a2 : Block), Block.Frame 4194304 a2 (audRegionWrite a0 a1 a2) := by
  intro a0 a1 a2
  unfold audRegionWrite
  dsimp only
  refine .ite ?_ ?_
  · exact .refl _ _
  · refine .ite ?_ ?_
    · refine .step ?_ (.upd_audit  _ _) rfl
      exact .refl _ _
    · refine .step ?_ (.upd_audit  _ _) rfl
      exact .refl _ _

theorem pendWrite_frame : ∀ (a0 : Nat) (a1 : Word) (a2 : Block), Block.Frame 1048576 a2 (pendWrite a0 a1 a2) := by
  intro a0 a1 a2
  unfold pendWrite
  dsimp only
  refine .step ?_ (.upd_evc  _ _) rfl
  exact .refl _ _

theorem Block.rejEvc_frame : ∀ (a0 : Block), Block.Frame 1048576 a0 (Block.rejEvc a0) := by
  intro a0
  unfold Block.rejEvc
  dsimp only
  refine .step ?_ (.upd_evc  _ _) rfl
  exact .refl _ _

theorem pclrWrite_frame : ∀ (a0 : Nat) (a1 : Block), Block.Frame 1048576 a1 (pclrWrite a0 a1) := by
  intro a0 a1
  unfold pclrWrite
  dsimp only
  refine .ite ?_ ?_
  · refine .step ?_ (Block.rejEvc_frame _) rfl
    exact .refl _ _
  · refine .step ?_ (.upd_evc  _ _) rfl
    exact .refl _ _

theorem holdoffExpiry_frame : ∀ (a0 : Nat) (a1 : Block), Block.Frame 1048576 a1 (holdoffExpiry a0 a1) := by
  intro a0 a1
  unfold holdoffExpiry
  split
  · refine .ite ?_ ?_
    · refine .step ?_ (Block.modEvGroup_frame _ _ _) rfl
      exact .refl _ _
    · exact .refl _ _
  · exact .refl _ _

theorem maskWrite_frame : ∀ (a0 : Nat) (a1 : Word) (a2 : Block), Block.Frame 1048576 a2 (maskWrite a0 a1 a2) := by
  intro a0 a1 a2
  unfold maskWrite
  dsimp only
  refine .step ?_ (.upd_evc  _ _) rfl
  exact .refl _ _

theorem Block.loadEvents_frame : ∀ (a0 : Block) (a1 : Option EventsSec), Block.Frame 1048576 a0 (Block.loadEvents a0 a1) := by
  intro a0 a1
  unfold Block.loadEvents
  dsimp only
  refine .step ?_ (.upd_evc  _ _) rfl
  exact .refl _ _

theorem Block.startHoldoff_frame : ∀ (a0 : Block) (a1 : Nat), Block.Frame 1048576 a0 (Block.startHoldoff a0 a1) := by
  intro a0 a1
  unfold Block.startHoldoff
  refine .step ?_ (Block.modEvGroup_frame _ _ _) rfl
  exact .refl _ _

theorem Block.claim_frame : ∀ (a0 : Block) (a1 : Nat), Block.Frame 1048576 a0 (Block.claim a0 a1).2 := by
  intro a0 a1
  unfold Block.claim
  dsimp only
  split
  · dsimp only
    exact .refl _ _
  · dsimp only
    refine .step ?_ (Block.modEvTarget_frame _ _ _) rfl
    refine .step ?_ (Block.startHoldoff_frame _ _) rfl
    refine .step ?_ (Block.modEvSrc_frame _ _ _) rfl
    refine .step ?_ (.upd_evc  _ _) rfl
    exact .refl _ _

theorem srcCfgWrite_frame : ∀ (a0 : Params) (a1 : Nat) (a2 : Nat) (a3 : Block), Block.Frame 1048576 a3 (srcCfgWrite a0 a1 a2 a3) := by
  intro a0 a1 a2 a3
  unfold srcCfgWrite
  refine .ite ?_ ?_
  · refine .step ?_ (Block.rejEvc_frame _) rfl
    exact .refl _ _
  · refine .ite ?_ ?_
    · refine .step ?_ (Block.modEvSrc_frame _ _ _) rfl
      exact .refl _ _
    · refine .step ?_ (Block.modEvSrc_frame _ _ _) rfl
      exact .refl _ _

theorem messageWrite_frame : ∀ (a0 : Nat) (a1 : Block), Block.Frame 1048640 a1 (messageWrite a0 a1) := by
  intro a0 a1
  unfold messageWrite
  dsimp only
  refine .ite ?_ ?_
  · refine .step ?_ (Block.modEvTarget_frame _ _ _) rfl
    refine .step ?_ (Block.put_frame _ _ _ _ _ _) rfl
    exact .refl _ _
  · exact .refl _ _

theorem swiWrite_frame : ∀ (a0 : Nat) (a1 : Block), Block.Frame 9437184 a1 (swiWrite a0 a1) := by
  intro a0 a1
  unfold swiWrite
  refine .ite ?_ ?_
  · refine .step ?_ (Block.rejEvc_frame _) rfl
    exact .refl _ _
  · refine .step ?_ (Block.raise_frame _ _) rfl
    exact .refl _ _

theorem Block.messageError_frame : ∀ (a0 : Nat) (a1 : Block), Block.Frame 1048576 a1 (Block.messageError a0 a1) := by
  intro a0 a1
  unfold Block.messageError
  refine .step ?_ (Block.modEvTarget_frame _ _ _) rfl
  exact .refl _ _

theorem complete_frame : ∀ (a0 : Nat) (a1 : Nat) (a2 : Block), Block.Frame 1048576 a2 (complete a0 a1 a2) := by
  intro a0 a1 a2
  unfold complete
  dsimp only
  refine .ite ?_ ?_
  · refine .step ?_ (Block.modEvTarget_frame _ _ _) rfl
    exact .refl _ _
  · refine .step ?_ (Block.modEvTarget_frame _ _ _) rfl
    refine .step ?_ (Block.modEvSrc_frame _ _ _) rfl
    refine .step ?_ (.upd_evc  _ _) rfl
    exact .refl _ _

theorem externalLevel_frame : ∀ (a0 : Params) (a1 : Nat) (a2 : Block), Block.Frame 9437184 a2 (externalLevel a0 a1 a2) := by
  intro a0 a1 a2
  unfold externalLevel
  refine .ite ?_ ?_
  · refine .step ?_ (Block.raise_frame _ _) rfl
    exact .refl _ _
  · exact .refl _ _

theorem rearmTimer_frame : ∀ (a0 : Nat) (a1 : Block), Block.Frame 1048576 a1 (rearmTimer a0 a1) := by
  intro a0 a1
  unfold rearmTimer
  refine .ite ?_ ?_
  · exact .refl _ _
  · refine .step ?_ (Block.modEvTarget_frame _ _ _) rfl
    exact .refl _ _

theorem eventRaise_frame : ∀ (a0 : Nat) (a1 : Block), Block.Frame 9437184 a1 (eventRaise a0 a1) := by
  intro a0 a1
  unfold eventRaise
  refine .ite ?_ ?_
  · refine .step ?_ (Block.raise_frame _ _) rfl
    exact .refl _ _
  · exact .refl _ _

end Sys2Proof.Machine
end

