-- ==== Sys2Proof/Laws/FramesTrace.lean ====
section
/-! SUPPORT. The fields each operation of Machine/Trace.lean can change, one frame per operation. -/

-- theorem after theorem, which bounds the memory of the compile
set_option Elab.async false

namespace Sys2Proof.Machine

theorem Block.loadTrace_frame : ∀ (a0 : Block) (a1 : Option TraceSec), Block.Frame 8388608 a0 (Block.loadTrace a0 a1) := by
  intro a0 a1
  unfold Block.loadTrace
  dsimp only
  split
  · refine .ite ?_ ?_
    · refine .step ?_ (.upd_trace  _ _) rfl
      exact .refl _ _
    · refine .step ?_ (.upd_trace  _ _) rfl
      exact .refl _ _
  · exact .refl _ _

theorem Block.rejTrace_frame : ∀ (a0 : Block), Block.Frame 8388608 a0 (Block.rejTrace a0) := by
  intro a0
  unfold Block.rejTrace
  dsimp only
  refine .step ?_ (.upd_trace  _ _) rfl
  exact .refl _ _

theorem Block.traceLost_frame : ∀ (a0 : Block), Block.Frame 9437184 a0 (Block.traceLost a0) := by
  intro a0
  unfold Block.traceLost
  refine .step ?_ (Block.pendSource_frame _ _) rfl
  refine .step ?_ (.upd_trace  _ _) rfl
  exact .refl _ _

theorem Block.traceUnits_frame : ∀ (a0 : Block) (a1 : List Word) (a2 : Nat) (a3 : Bool), Block.Frame 8388672 a0 (Block.traceUnits a0 a1 a2 a3) := by
  intro a0 a1 a2 a3
  unfold Block.traceUnits
  dsimp only
  refine .step ?_ (.upd_trace  _ _) rfl
  refine .step ?_ (Block.put_frame _ _ _ _ _ _) rfl
  exact .refl _ _

theorem Block.traceFit_frame : ∀ (a0 : Block) (a1 : List Word) (a2 : Bool), Block.Frame 8388672 a0 (Block.traceFit a0 a1 a2) := by
  intro a0 a1 a2
  unfold Block.traceFit
  dsimp only
  refine .step ?_ (Block.traceUnits_frame _ _ _ _) rfl
  refine .ite ?_ ?_
  · exact .refl _ _
  · refine .step ?_ (Block.traceUnits_frame _ _ _ _) rfl
    exact .refl _ _

theorem Block.traceLoss_frame : ∀ (a0 : Block), Block.Frame 8388672 a0 (Block.traceLoss a0) := by
  intro a0
  unfold Block.traceLoss
  dsimp only
  split
  · exact .refl _ _
  · refine .ite ?_ ?_
    · refine .step ?_ (.upd_trace  _ _) rfl
      refine .step ?_ (Block.traceFit_frame _ _ _) rfl
      exact .refl _ _
    · exact .refl _ _

theorem traceHeadWrite_frame : ∀ (a0 : Nat) (a1 : Block), Block.Frame 8388672 a1 (traceHeadWrite a0 a1) := by
  intro a0 a1
  unfold traceHeadWrite
  dsimp only
  refine .ite ?_ ?_
  · refine .step ?_ (Block.traceLoss_frame _) rfl
    refine .step ?_ (.upd_trace  _ _) rfl
    exact .refl _ _
  · refine .step ?_ (Block.rejTrace_frame _) rfl
    exact .refl _ _

theorem Block.traceRecord_frame : ∀ (a0 : Block) (a1 : List Word) (a2 : Bool), Block.Frame 9437248 a0 (Block.traceRecord a0 a1 a2).2 := by
  intro a0 a1 a2
  unfold Block.traceRecord
  dsimp only
  split
  · dsimp only
    refine .step ?_ (Block.traceFit_frame _ _ _) rfl
    refine .step ?_ (Block.traceLoss_frame _) rfl
    exact .refl _ _
  · dsimp only
    refine .step ?_ (Block.traceLoss_frame _) rfl
    refine .step ?_ (Block.traceLost_frame _) rfl
    refine .step ?_ (Block.traceLoss_frame _) rfl
    exact .refl _ _

theorem Block.traceTrigger_frame : ∀ (a0 : Block), Block.Frame 9437248 a0 (Block.traceTrigger a0) := by
  intro a0
  unfold Block.traceTrigger
  dsimp only
  split
  · exact .refl _ _
  · refine .ite ?_ ?_
    · refine .step ?_ (Block.traceLoss_frame _) rfl
      exact .refl _ _
    · refine .ite ?_ ?_
      · refine .step ?_ (Block.traceRecord_frame _ _ _) rfl
        refine .step ?_ (.upd_trace  _ _) rfl
        refine .step ?_ (Block.traceLoss_frame _) rfl
        exact .refl _ _
      · refine .step ?_ (Block.raise_frame _ _) rfl
        refine .step ?_ (Block.traceRecord_frame _ _ _) rfl
        refine .step ?_ (.upd_trace  _ _) rfl
        refine .step ?_ (Block.traceLoss_frame _) rfl
        exact .refl _ _

theorem Block.traceFire_frame : ∀ (a0 : Block) (a1 : Nat) (a2 : Nat) (a3 : Option (List Word)), Block.Frame 9437248 a0 (Block.traceFire a0 a1 a2 a3) := by
  intro a0 a1 a2 a3
  unfold Block.traceFire
  dsimp only
  refine .step ?_ (Block.traceTrigger_frame _) rfl
  refine .step ?_ (.upd_trace  _ _) rfl
  split
  · refine .step ?_ (Block.traceRecord_frame _ _ _) rfl
    refine .step ?_ (.upd_trace  _ _) rfl
    exact .refl _ _
  · refine .step ?_ (Block.traceLoss_frame _) rfl
    refine .step ?_ (.upd_trace  _ _) rfl
    exact .refl _ _

theorem Block.traceCommand_frame : ∀ (a0 : Block) (a1 : Nat), Block.Frame 9437248 a0 (Block.traceCommand a0 a1) := by
  intro a0 a1
  unfold Block.traceCommand
  dsimp only
  split
  · refine .step ?_ (.upd_trace  _ _) rfl
    exact .refl _ _
  · refine .step ?_ (.upd_trace  _ _) rfl
    exact .refl _ _
  · refine .step ?_ (Block.traceFire_frame _ _ _ _) rfl
    exact .refl _ _

theorem Block.traceAck_frame : ∀ (a0 : Block) (a1 : Nat), Block.Frame 9437248 a0 (Block.traceAck a0 a1) := by
  intro a0 a1
  unfold Block.traceAck
  dsimp only
  refine .step ?_ (Block.traceTrigger_frame _) rfl
  refine .ite ?_ ?_
  · refine .step ?_ (Block.raise_frame _ _) rfl
    refine .step ?_ (.upd_trace  _ _) rfl
    exact .refl _ _
  · refine .step ?_ (.upd_trace  _ _) rfl
    exact .refl _ _

theorem traceCtlOp_frame : ∀ (a0 : MemView) (a1 : Nat) (a2 : Block), Block.Frame 9437248 a2 (traceCtlOp a0 a1 a2).2 := by
  intro a0 a1 a2
  unfold traceCtlOp
  dsimp only
  split
  · dsimp only
    refine .step ?_ (.upd_trace  _ _) rfl
    exact .refl _ _
  · split
    · dsimp only
      refine .step ?_ (Block.traceCommand_frame _ _) rfl
      exact .refl _ _
    · dsimp only
      refine .step ?_ (Block.rejTrace_frame _) rfl
      exact .refl _ _

theorem traceEvent_frame : ∀ (a0 : Block), Block.Frame 9437248 a0 (traceEvent a0) := by
  intro a0
  unfold traceEvent
  dsimp only
  refine .ite ?_ ?_
  · refine .step ?_ (Block.traceTrigger_frame _) rfl
    exact .refl _ _
  · split
    · refine .step ?_ (Block.traceLoss_frame _) rfl
      exact .refl _ _
    · refine .ite ?_ ?_
      · refine .step ?_ (Block.traceFire_frame _ _ _ _) rfl
        refine .step ?_ (.upd_trace  _ _) rfl
        exact .refl _ _
      · refine .step ?_ (Block.traceRecord_frame _ _ _) rfl
        refine .step ?_ (.upd_trace  _ _) rfl
        exact .refl _ _

theorem traceWrite_frame : ∀ (a0 : Nat) (a1 : Block), Block.Frame 9437248 a1 (traceWrite a0 a1) := by
  intro a0 a1
  unfold traceWrite
  dsimp only
  refine .ite ?_ ?_
  · refine .step ?_ (.upd_trace  _ _) rfl
    exact .refl _ _
  · refine .ite ?_ ?_
    · refine .step ?_ (Block.traceCommand_frame _ _) rfl
      exact .refl _ _
    · refine .step ?_ (Block.rejTrace_frame _) rfl
      exact .refl _ _

end Sys2Proof.Machine
end

