-- ==== Sys2Proof/Laws/FramesStop.lean ====
section
/-! SUPPORT. The fields each operation of Machine/Stop.lean can change, one frame per operation. -/

-- theorem after theorem, which bounds the memory of the compile
set_option Elab.async false

namespace Sys2Proof.Machine

theorem Block.unpausePart_frame : ∀ (a0 : Block) (a1 : Nat), Block.Frame 17301504 a0 (Block.unpausePart a0 a1) := by
  intro a0 a1
  unfold Block.unpausePart
  dsimp only
  split
  · exact .refl _ _
  · refine .step ?_ (.upd_lkt  _ _) rfl
    refine .step ?_ (Block.modPart_frame _ _ _) rfl
    exact .refl _ _

theorem Block.pausePart_frame : ∀ (a0 : Block) (a1 : Nat), Block.Frame 524288 a0 (Block.pausePart a0 a1) := by
  intro a0 a1
  unfold Block.pausePart
  refine .step ?_ (Block.modPart_frame _ _ _) rfl
  exact .refl _ _

theorem Block.rejStop_frame : ∀ (a0 : Block), Block.Frame 16777216 a0 (Block.rejStop a0) := by
  intro a0
  unfold Block.rejStop
  dsimp only
  refine .step ?_ (.upd_lkt  _ _) rfl
  exact .refl _ _

theorem Block.sendSnaps_frame : ∀ (a0 : Params) (a1 : Block) (a2 : Nat), Block.Frame 512 a1 (Block.sendSnaps a0 a1 a2) := by
  intro a0 a1 a2
  unfold Block.sendSnaps
  dsimp only
  split
  · refine .step ?_ (Block.sendUp_frame _ _ _ _) rfl
    refine .foldl ?_ _ ?_
    · intro b x
      refine .step ?_ (Block.modLane_frame _ _ _) rfl
      exact .refl _ _
    · exact .refl _ _
  · refine .foldl ?_ _ ?_
    · intro b x
      refine .step ?_ (Block.modLane_frame _ _ _) rfl
      exact .refl _ _
    · exact .refl _ _

theorem Block.traceDebug_frame : ∀ (a0 : Block) (a1 : Nat), Block.Frame 9437184 a0 (Block.traceDebug a0 a1) := by
  intro a0 a1
  unfold Block.traceDebug
  refine .step ?_ (Block.traceEvent_frame _ _ _ _ _) rfl
  exact .refl _ _

theorem freezeComplete_frame : ∀ (a0 : Params) (a1 : Block), Block.Frame 26214400 a1 (freezeComplete a0 a1) := by
  intro a0 a1
  unfold freezeComplete
  dsimp only
  refine .ite ?_ ?_
  · refine .step ?_ (Block.raise_frame _ _) rfl
    refine .step ?_ (Block.traceDebug_frame _ _) rfl
    refine .step ?_ (.upd_lkt  _ _) rfl
    exact .refl _ _
  · exact .refl _ _

theorem snap_frame : ∀ (a0 : Params) (a1 : Nat) (a2 : Nat) (a3 : List Word) (a4 : Block), Block.Frame 524864 a4 (snap a0 a1 a2 a3 a4) := by
  intro a0 a1 a2 a3 a4
  unfold snap
  dsimp only
  refine .ite ?_ ?_
  · exact .refl _ _
  · refine .onLane rfl ?_ ?_
    · intro b
      refine .ite ?_ ?_
      · refine .step ?_ (Block.modLane_frame _ _ _) rfl
        exact .refl _ _
      · refine .ite ?_ ?_
        · exact .refl _ _
        · refine .step ?_ (Block.modPbead_frame _ _ _) rfl
          refine .foldl ?_ _ ?_
          · intro b x
            refine .step ?_ (Block.put_frame _ _ _ _ _ _) rfl
            exact .refl _ _
          · exact .refl _ _
    · exact .refl _ _

theorem Block.resumeBead_frame : ∀ (a0 : Params) (a1 : Block) (a2 : Nat), Block.Frame 524800 a1 (Block.resumeBead a0 a1 a2) := by
  intro a0 a1 a2
  unfold Block.resumeBead
  dsimp only
  refine .ite ?_ ?_
  · exact .refl _ _
  · refine .step ?_ (Block.modPbead_frame _ _ _) rfl
    refine .ite ?_ ?_
    · exact .refl _ _
    · refine .step ?_ (Block.sendDown_frame _ _ _ _) rfl
      exact .refl _ _

theorem Block.haltWave_frame : ∀ (a0 : Params) (a1 : Block) (a2 : Bool), Block.Frame 17302016 a1 (Block.haltWave a0 a1 a2) := by
  intro a0 a1 a2
  unfold Block.haltWave
  dsimp only
  refine .foldl ?_ _ ?_
  · intro b x
    refine .step ?_ (Block.haltBead_frame _ _ _) rfl
    exact .refl _ _
  · refine .step ?_ (Block.claspLocket_frame _ _ _) rfl
    refine .foldl ?_ _ ?_
    · intro b x
      refine .step ?_ (Block.pausePart_frame _ _) rfl
      exact .refl _ _
    · refine .step ?_ (.upd_lkt  _ _) rfl
      exact .refl _ _

theorem Block.stopReport_frame : ∀ (a0 : Params) (a1 : Block) (a2 : Nat), Block.Frame 17302016 a1 (Block.stopReport a0 a1 a2) := by
  intro a0 a1 a2
  unfold Block.stopReport
  dsimp only
  refine .ite ?_ ?_
  · refine .step ?_ (Block.modPbead_frame _ _ _) rfl
    refine .ite ?_ ?_
    · refine .step ?_ (Block.modPbead_frame _ _ _) rfl
      exact .refl _ _
    · exact .refl _ _
  · refine .ite ?_ ?_
    · split
      · refine .step ?_ (Block.breakpointStop_frame _ _ _ _) rfl
        refine .ite ?_ ?_
        · refine .step ?_ (Block.modPbead_frame _ _ _) rfl
          exact .refl _ _
        · exact .refl _ _
      · refine .step ?_ (Block.modPbead_frame _ _ _) rfl
        refine .ite ?_ ?_
        · refine .step ?_ (Block.modPbead_frame _ _ _) rfl
          exact .refl _ _
        · exact .refl _ _
    · refine .ite ?_ ?_
      · refine .step ?_ (Block.modPbead_frame _ _ _) rfl
        exact .refl _ _
      · exact .refl _ _

theorem Block.resumeRest_frame : ∀ (a0 : Params) (a1 : Block), Block.Frame 27004480 a1 (Block.resumeRest a0 a1) := by
  intro a0 a1
  unfold Block.resumeRest
  dsimp only
  refine .step ?_ (Block.txStart_frame _) rfl
  refine .foldl ?_ _ ?_
  · intro b x
    refine .step ?_ (Block.requestMore_frame _ _) rfl
    exact .refl _ _
  · refine .step ?_ (Block.traceDebug_frame _ _) rfl
    refine .step ?_ (Block.claspLocket_frame _ _ _) rfl
    refine .step ?_ (.upd_lkt  _ _) rfl
    refine .foldl ?_ _ ?_
    · intro b x
      refine .step ?_ (Block.unpausePart_frame _ _) rfl
      exact .refl _ _
    · refine .step ?_ (.upd_graph  _ _) rfl
      refine .foldl ?_ _ ?_
      · intro b x
        refine .step ?_ (Block.resumeBead_frame _ _ _) rfl
        exact .refl _ _
      · exact .refl _ _

theorem evt_frame : ∀ (a0 : Params) (a1 : Nat) (a2 : Nat) (a3 : Block), Block.Frame 26741248 a3 (evt a0 a1 a2 a3) := by
  intro a0 a1 a2 a3
  unfold evt
  refine .onUp rfl ?_ ?_
  · intro b
    refine .ite ?_ ?_
    · refine .step ?_ (Block.underflow_frame _) rfl
      exact .refl _ _
    · refine .ite ?_ ?_
      · refine .step ?_ (Block.stopReport_frame _ _ _) rfl
        exact .refl _ _
      · refine .ite ?_ ?_
        · refine .step ?_ (Block.raise_frame _ _) rfl
          exact .refl _ _
        · exact .refl _ _
  · exact .refl _ _

theorem Block.resumeStep_frame : ∀ (a0 : Params) (a1 : Block), Block.Frame 27004480 a1 (Block.resumeStep a0 a1) := by
  intro a0 a1
  unfold Block.resumeStep
  refine .ite ?_ ?_
  · refine .step ?_ (Block.resumeRest_frame _ _) rfl
    exact .refl _ _
  · exact .refl _ _

theorem Block.resume_frame : ∀ (a0 : Params) (a1 : Block), Block.Frame 27004480 a1 (Block.resume a0 a1) := by
  intro a0 a1
  unfold Block.resume
  dsimp only
  refine .step ?_ (Block.resumeStep_frame _ _) rfl
  refine .step ?_ (.upd_lkt  _ _) rfl
  refine .foldl ?_ _ ?_
  · intro b x
    refine .step ?_ (Block.modLane_frame _ _ _) rfl
    exact .refl _ _
  · exact .refl _ _

theorem stopWrite_frame : ∀ (a0 : Params) (a1 : Nat) (a2 : Bool) (a3 : Block), Block.Frame 27004480 a3 (stopWrite a0 a1 a2 a3) := by
  intro a0 a1 a2 a3
  unfold stopWrite
  dsimp only
  split
  · refine .step ?_ (Block.haltWave_frame _ _ _) rfl
    exact .refl _ _
  · refine .step ?_ (.upd_lkt  _ _) rfl
    exact .refl _ _
  · refine .step ?_ (Block.resume_frame _ _) rfl
    exact .refl _ _
  · refine .step ?_ (Block.resume_frame _ _) rfl
    exact .refl _ _
  · refine .step ?_ (Block.rejStop_frame _) rfl
    exact .refl _ _

theorem stopComplete_frame : ∀ (a0 : Params) (a1 : Block), Block.Frame 27004480 a1 (stopComplete a0 a1) := by
  intro a0 a1
  unfold stopComplete
  dsimp only
  refine .ite ?_ ?_
  · exact .refl _ _
  · refine .ite ?_ ?_
    · refine .step ?_ (Block.resume_frame _ _) rfl
      refine .step ?_ (Block.raise_frame _ _) rfl
      refine .step ?_ (Block.traceDebug_frame _ _) rfl
      refine .step ?_ (.upd_lkt  _ _) rfl
      exact .refl _ _
    · refine .ite ?_ ?_
      · refine .foldl ?_ _ ?_
        · intro b x
          refine .step ?_ (Block.modLane_frame _ _ _) rfl
          exact .refl _ _
        · refine .step ?_ (Block.raise_frame _ _) rfl
          refine .step ?_ (Block.traceDebug_frame _ _) rfl
          refine .step ?_ (.upd_lkt  _ _) rfl
          exact .refl _ _
      · refine .step ?_ (Block.raise_frame _ _) rfl
        refine .step ?_ (Block.traceDebug_frame _ _) rfl
        refine .step ?_ (.upd_lkt  _ _) rfl
        exact .refl _ _

end Sys2Proof.Machine
end

