-- ==== Sys2Proof/Laws/FramesLoader.lean ====
section
/-! SUPPORT. The fields each operation of Machine/Loader.lean can change, one frame per operation. -/

-- theorem after theorem, which bounds the memory of the compile
set_option Elab.async false

namespace Sys2Proof.Machine

theorem Block.loaderFail_frame : ∀ (a0 : Block) (a1 : LoadFail), Block.Frame 128 a0 (Block.loaderFail a0 a1) := by
  intro a0 a1
  unfold Block.loaderFail
  dsimp only
  refine .ite ?_ ?_
  · exact .refl _ _
  · refine .step ?_ (.upd_loader  _ _) rfl
    exact .refl _ _

theorem Block.forgetResets_frame : ∀ (a0 : Block) (a1 : Nat), Block.Frame 525312 a0 (Block.forgetResets a0 a1) := by
  intro a0 a1
  unfold Block.forgetResets
  dsimp only
  refine .foldl ?_ _ ?_
  · intro b x
    refine .step ?_ (Block.modPart_frame _ _ _) rfl
    exact .refl _ _
  · refine .foldl ?_ _ ?_
    · intro b x
      refine .step ?_ (Block.modQueue_frame _ _ _) rfl
      exact .refl _ _
    · exact .refl _ _

theorem Block.fencePiece_frame : ∀ (a0 : Nat) (a1 : Block) (a2 : Nat × CWin), Block.Frame 526336 a1 (Block.fencePiece a0 a1 a2) := by
  intro a0 a1 a2
  unfold Block.fencePiece
  split
  · refine .step ?_ (Block.pieceDone_frame _ _ _ _) rfl
    refine .step ?_ (Block.modCwin_frame _ _ _ _) rfl
    exact .refl _ _
  · exact .refl _ _

theorem Block.loaderLocket_frame : ∀ (a0 : Block), Block.Frame 16777216 a0 (Block.loaderLocket a0) := by
  intro a0
  unfold Block.loaderLocket
  refine .step ?_ (Block.claspLocket_frame _ _ _) rfl
  exact .refl _ _

theorem Block.applySection_frame : ∀ (a0 : Params) (a1 : Nat) (a2 : Block) (a3 : SecRec), Block.Frame 24576 a2 (Block.applySection a0 a1 a2 a3) := by
  intro a0 a1 a2 a3
  unfold Block.applySection
  split
  · refine .foldl ?_ _ ?_
    · intro b x
      refine .step ?_ (Block.modSlot_frame _ _ _ _) rfl
      exact .refl _ _
    · exact .refl _ _
  · refine .step ?_ (Block.modBead_frame _ _ _) rfl
    exact .refl _ _
  · refine .step ?_ (.upd_chans  _ _) rfl
    exact .refl _ _
  · refine .step ?_ (Block.modBead_frame _ _ _) rfl
    exact .refl _ _
  · exact .refl _ _

theorem Block.loadLanes_frame : ∀ (a0 : Block) (a1 : List BeadsEntry), Block.Frame 512 a0 (Block.loadLanes a0 a1) := by
  intro a0 a1
  unfold Block.loadLanes
  refine .foldl ?_ _ ?_
  · intro b x
    refine .ite ?_ ?_
    · exact .refl _ _
    · refine .step ?_ (Block.modLane_frame _ _ _) rfl
      exact .refl _ _
  · exact .refl _ _

theorem Block.applyLoad_frame : ∀ (a0 : Params) (a1 : Block), Block.Frame 896 a1 (Block.applyLoad a0 a1) := by
  intro a0 a1
  unfold Block.applyLoad
  dsimp only
  refine .foldl ?_ _ ?_
  · intro b x
    refine .step ?_ (Block.modLane_frame _ _ _) rfl
    exact .refl _ _
  · refine .step ?_ (.upd_loader  _ _) rfl
    refine .step ?_ (Block.loadLanes_frame _ _) rfl
    refine .step ?_ (.upd_setting  _ _) rfl
    exact .refl _ _

theorem Block.applyReady_frame : ∀ (a0 : Params) (a1 : Block) (a2 : Nat), Block.Frame 24576 a1 (Block.applyReady a0 a1 a2) := by
  intro a0 a1 a2
  unfold Block.applyReady
  dsimp only
  refine .foldl ?_ _ ?_
  · intro b x
    refine .step ?_ (Block.applySection_frame _ _ _ _) rfl
    exact .refl _ _
  · refine .step ?_ (Block.modBead_frame _ _ _) rfl
    exact .refl _ _

theorem Block.loaderEvent_frame : ∀ (a0 : Block), Block.Frame 26214400 a0 (Block.loaderEvent a0) := by
  intro a0
  unfold Block.loaderEvent
  refine .step ?_ (Block.raise_frame _ _) rfl
  refine .step ?_ (Block.loaderLocket_frame _) rfl
  exact .refl _ _

theorem Block.forgetBead_frame : ∀ (a0 : Params) (a1 : Block) (a2 : Nat), Block.Frame 24576 a1 (Block.forgetBead a0 a1 a2) := by
  intro a0 a1 a2
  unfold Block.forgetBead
  dsimp only
  refine .step ?_ (.upd_chans  _ _) rfl
  refine .step ?_ (Block.modBead_frame _ _ _) rfl
  refine .foldl ?_ _ ?_
  · intro b x
    refine .step ?_ (Block.modSlot_frame _ _ _ _) rfl
    exact .refl _ _
  · exact .refl _ _

theorem Block.imageErrors_frame : ∀ (a0 : MemView) (a1 : List (Nat × Nat)) (a2 : Block), Block.Frame 9437248 a2 (Block.imageErrors a0 a1 a2) := by
  intro a0 a1 a2
  induction a1 generalizing a0 a2
  · unfold Block.imageErrors
    exact .refl _ _
  · rename_i x xs ih
    unfold Block.imageErrors
    refine .ite ?_ ?_
    · refine .step ?_ (ih _ _) rfl
      exact .refl _ _
    · refine .step ?_ (Block.viewErrors_frame _ _ _ _ _ _) rfl
      exact .refl _ _

theorem Block.commitBead_frame : ∀ (a0 : Params) (a1 : Block) (a2 : Nat), Block.Frame 24576 a1 (Block.commitBead a0 a1 a2) := by
  intro a0 a1 a2
  unfold Block.commitBead
  dsimp only
  refine .ite ?_ ?_
  · refine .step ?_ (Block.modBead_frame _ _ _) rfl
    exact .refl _ _
  · refine .step ?_ (Block.applyReady_frame _ _ _) rfl
    refine .step ?_ (Block.modBead_frame _ _ _) rfl
    exact .refl _ _

theorem Block.sendAwaited_frame : ∀ (a0 : Params) (a1 : Nat) (a2 : Nat) (a3 : SecRec) (a4 : Block) (a5 : Nat), Block.Frame 640 a4 (Block.sendAwaited a0 a1 a2 a3 a4 a5) := by
  intro a0 a1 a2 a3 a4 a5
  unfold Block.sendAwaited
  dsimp only
  refine .ite ?_ ?_
  · exact .refl _ _
  · refine .step ?_ (.upd_loader  _ _) rfl
    refine .step ?_ (Block.sendSection_frame _ _ _ _) rfl
    exact .refl _ _

theorem Block.sendStart_frame : ∀ (a0 : Params) (a1 : Block) (a2 : Nat), Block.Frame 640 a1 (Block.sendStart a0 a1 a2) := by
  intro a0 a1 a2
  unfold Block.sendStart
  dsimp only
  refine .ite ?_ ?_
  · exact .refl _ _
  · refine .step ?_ (Block.sendAwaited_frame _ _ _ _ _ _) rfl
    refine .step ?_ (.upd_loader  _ _) rfl
    exact .refl _ _

theorem Block.loaderStep_frame : ∀ (a0 : Params) (a1 : Block), Block.Frame 896 a1 (Block.loaderStep a0 a1) := by
  intro a0 a1
  unfold Block.loaderStep
  dsimp only
  refine .ite ?_ ?_
  · exact .refl _ _
  · refine .ite ?_ ?_
    · refine .step ?_ (Block.applyLoad_frame _ _) rfl
      refine .ite ?_ ?_
      · refine .step ?_ (.upd_loader  _ _) rfl
        refine .foldl ?_ _ ?_
        · intro b x
          refine .step ?_ (Block.sendAwaited_frame _ _ _ _ _ _) rfl
          exact .refl _ _
        · refine .step ?_ (.upd_loader  _ _) rfl
          exact .refl _ _
      · exact .refl _ _
    · refine .ite ?_ ?_
      · refine .step ?_ (.upd_loader  _ _) rfl
        refine .foldl ?_ _ ?_
        · intro b x
          refine .step ?_ (Block.sendAwaited_frame _ _ _ _ _ _) rfl
          exact .refl _ _
        · refine .step ?_ (.upd_loader  _ _) rfl
          exact .refl _ _
      · exact .refl _ _

theorem Block.sendAccepted_frame : ∀ (a0 : Params) (a1 : Bool) (a2 : Setting) (a3 : Block) (a4 : (SecRec × Nat) × Nat), Block.Frame 640 a3 (Block.sendAccepted a0 a1 a2 a3 a4) := by
  intro a0 a1 a2 a3 a4
  unfold Block.sendAccepted
  dsimp only
  refine .foldl ?_ _ ?_
  · intro b x
    refine .step ?_ (Block.sendAwaited_frame _ _ _ _ _ _) rfl
    refine .step ?_ (Block.sendStart_frame _ _ _) rfl
    exact .refl _ _
  · refine .ite ?_ ?_
    · refine .foldl ?_ _ ?_
      · intro b x
        refine .step ?_ (Block.sendStart_frame _ _ _) rfl
        exact .refl _ _
      · exact .refl _ _
    · exact .refl _ _

theorem Block.fenceSub_frame : ∀ (a0 : Params) (a1 : Nat) (a2 : Block) (a3 : Nat), Block.Frame 9705988 a2 (Block.fenceSub a0 a1 a2 a3) := by
  intro a0 a1 a2 a3
  unfold Block.fenceSub
  dsimp only
  refine .step ?_ (Block.modSub_frame _ _ _) rfl
  refine .foldl ?_ _ ?_
  · intro b x
    refine .step ?_ (Block.nodeDone_frame _ _ _ _ _) rfl
    refine .step ?_ (Block.releaseWin_frame _ _ _ _) rfl
    exact .refl _ _
  · split
    · exact .refl _ _
    · refine .step ?_ (Block.abandon_frame _ _ _ _ _) rfl
      exact .refl _ _
    · refine .step ?_ (Block.abandon_frame _ _ _ _ _) rfl
      exact .refl _ _

theorem Block.takeCheck_frame : ∀ (a0 : Params) (a1 : Bool) (a2 : Nat) (a3 : LoadCheck) (a4 : Block), Block.Frame 640 a4 (Block.takeCheck a0 a1 a2 a3 a4) := by
  intro a0 a1 a2 a3 a4
  unfold Block.takeCheck
  dsimp only
  split
  · refine .step ?_ (Block.loaderFail_frame _ _) rfl
    refine .foldl ?_ _ ?_
    · intro b x
      refine .step ?_ (Block.sendAccepted_frame _ _ _ _ _) rfl
      exact .refl _ _
    · refine .step ?_ (.upd_loader  _ _) rfl
      exact .refl _ _
  · refine .foldl ?_ _ ?_
    · intro b x
      refine .step ?_ (Block.sendAccepted_frame _ _ _ _ _) rfl
      exact .refl _ _
    · refine .step ?_ (.upd_loader  _ _) rfl
      exact .refl _ _

theorem Block.fenceBead_frame : ∀ (a0 : Params) (a1 : Block) (a2 : Nat) (a3 : Nat), Block.Frame 43786116 a1 (Block.fenceBead a0 a1 a2 a3) := by
  intro a0 a1 a2 a3
  unfold Block.fenceBead
  dsimp only
  refine .ite ?_ ?_
  · exact .refl _ _
  · refine .step ?_ (Block.loaderStep_frame _ _) rfl
    refine .step ?_ (.upd_loader  _ _) rfl
    refine .foldl ?_ _ ?_
    · intro b x
      refine .step ?_ (Block.sendPieces_frame _ _ _) rfl
      exact .refl _ _
    · refine .step ?_ (Block.noteMet_frame _) rfl
      refine .step ?_ (.upd_graph  _ _) rfl
      refine .step ?_ (Block.forgetResets_frame _ _) rfl
      refine .foldl ?_ _ ?_
      · intro b x
        refine .step ?_ (Block.fencePiece_frame _ _ _) rfl
        exact .refl _ _
      · refine .foldl ?_ _ ?_
        · intro b x
          refine .step ?_ (Block.fenceSub_frame _ _ _ _) rfl
          exact .refl _ _
        · refine .step ?_ (Block.modDom_frame _ _ _) rfl
          refine .step ?_ (Block.modPbead_frame _ _ _) rfl
          refine .ite ?_ ?_
          · refine .step ?_ (Block.sendDown_frame _ _ _ _) rfl
            exact .refl _ _
          · exact .refl _ _

theorem Block.laneFail_frame : ∀ (a0 : Params) (a1 : Block) (a2 : Nat), Block.Frame 60563396 a1 (Block.laneFail a0 a1 a2) := by
  intro a0 a1 a2
  unfold Block.laneFail
  dsimp only
  refine .ite ?_ ?_
  · exact .refl _ _
  · refine .step ?_ (Block.resumeStep_frame _ _) rfl
    refine .foldl ?_ _ ?_
    · intro b x
      refine .step ?_ (Block.fenceBead_frame _ _ _ _) rfl
      exact .refl _ _
    · refine .ite ?_ ?_
      · refine .step ?_ (Block.loaderFail_frame _ _) rfl
        refine .step ?_ (Block.raise_frame _ _) rfl
        refine .step ?_ (Block.claspLocket_frame _ _ _) rfl
        refine .step ?_ (Block.modLane_frame _ _ _) rfl
        exact .refl _ _
      · refine .step ?_ (Block.raise_frame _ _) rfl
        refine .step ?_ (Block.claspLocket_frame _ _ _) rfl
        refine .step ?_ (Block.modLane_frame _ _ _) rfl
        exact .refl _ _

end Sys2Proof.Machine
end

