-- ==== Sys2Proof/Laws/FramesLaneEvents.lean ====
section
/-! SUPPORT. The fields each operation of Machine/LaneEvents.lean can change, one frame per operation. -/

-- theorem after theorem, which bounds the memory of the compile
set_option Elab.async false

namespace Sys2Proof.Machine

theorem Block.afterTurn_frame : ∀ (a0 : Params) (a1 : Block) (a2 : Nat) (a3 : Nat), Block.Frame 512 a1 (Block.afterTurn a0 a1 a2 a3) := by
  intro a0 a1 a2 a3
  unfold Block.afterTurn
  refine .ite ?_ ?_
  · refine .step ?_ (Block.sendSnaps_frame _ _ _) rfl
    exact .refl _ _
  · exact .refl _ _

theorem token_frame : ∀ (a0 : Params) (a1 : Nat) (a2 : Nat) (a3 : Block), Block.Frame 512 a3 (token a0 a1 a2 a3) := by
  intro a0 a1 a2 a3
  unfold token
  split
  · refine .step ?_ (Block.afterTurn_frame _ _ _ _) rfl
    refine .step ?_ (Block.modLane_frame _ _ _) rfl
    exact .refl _ _
  · exact .refl _ _

theorem Block.freezeBead_frame : ∀ (a0 : Params) (a1 : Block) (a2 : Nat), Block.Frame 524800 a1 (Block.freezeBead a0 a1 a2) := by
  intro a0 a1 a2
  unfold Block.freezeBead
  dsimp only
  refine .ite ?_ ?_
  · exact .refl _ _
  · refine .step ?_ (Block.modPbead_frame _ _ _) rfl
    refine .step ?_ (Block.sendDown_frame _ _ _ _) rfl
    exact .refl _ _

theorem Block.freezeLane_frame : ∀ (a0 : Params) (a1 : Block) (a2 : Nat), Block.Frame 524800 a1 (Block.freezeLane a0 a1 a2) := by
  intro a0 a1 a2
  unfold Block.freezeLane
  refine .ite ?_ ?_
  · refine .foldl ?_ _ ?_
    · intro b x
      refine .step ?_ (Block.freezeBead_frame _ _ _) rfl
      exact .refl _ _
    · exact .refl _ _
  · exact .refl _ _

theorem Block.turned_frame : ∀ (a0 : Params) (a1 : Block) (a2 : Nat) (a3 : Nat), Block.Frame 27004480 a1 (Block.turned a0 a1 a2 a3) := by
  intro a0 a1 a2 a3
  unfold Block.turned
  dsimp only
  refine .step ?_ (Block.resumeStep_frame _ _) rfl
  refine .ite ?_ ?_
  · refine .step ?_ (Block.enteredRun_frame _ _) rfl
    refine .step ?_ (Block.freezeLane_frame _ _ _) rfl
    refine .step ?_ (Block.modLane_frame _ _ _) rfl
    exact .refl _ _
  · refine .step ?_ (Block.modLane_frame _ _ _) rfl
    exact .refl _ _

theorem lnk_frame : ∀ (a0 : Params) (a1 : Nat) (a2 : Bool) (a3 : LnkRec) (a4 : Block), Block.Frame 60563396 a4 (lnk a0 a1 a2 a3 a4) := by
  intro a0 a1 a2 a3 a4
  unfold lnk
  dsimp only
  split
  · exact .refl _ _
  · refine .ite ?_ ?_
    · refine .step ?_ (Block.afterTurn_frame _ _ _ _) rfl
      refine .step ?_ (Block.modLane_frame _ _ _) rfl
      exact .refl _ _
    · refine .ite ?_ ?_
      · refine .step ?_ (Block.modLane_frame _ _ _) rfl
        exact .refl _ _
      · refine .ite ?_ ?_
        · refine .step ?_ (Block.laneFail_frame _ _ _) rfl
          refine .step ?_ (Block.modLane_frame _ _ _) rfl
          exact .refl _ _
        · refine .step ?_ (Block.modLane_frame _ _ _) rfl
          exact .refl _ _

theorem tokenAnswer_frame : ∀ (a0 : Params) (a1 : Nat) (a2 : Nat) (a3 : Block), Block.Frame 27004480 a3 (tokenAnswer a0 a1 a2 a3) := by
  intro a0 a1 a2 a3
  unfold tokenAnswer
  dsimp only
  split
  · refine .ite ?_ ?_
    · refine .step ?_ (Block.modLane_frame _ _ _) rfl
      exact .refl _ _
    · refine .step ?_ (Block.turned_frame _ _ _ _) rfl
      refine .step ?_ (Block.modLane_frame _ _ _) rfl
      exact .refl _ _
  · exact .refl _ _

theorem trainDoneFall_frame : ∀ (a0 : Params) (a1 : Nat) (a2 : Bool) (a3 : Block), Block.Frame 60571588 a3 (trainDoneFall a0 a1 a2 a3) := by
  intro a0 a1 a2 a3
  unfold trainDoneFall
  dsimp only
  refine .ite ?_ ?_
  · refine .ite ?_ ?_
    · exact .refl _ _
    · refine .ite ?_ ?_
      · refine .step ?_ (Block.modLane_frame _ _ _) rfl
        exact .refl _ _
      · refine .foldl ?_ _ ?_
        · intro b x
          refine .step ?_ (Block.fenceSelf_frame _ _ _) rfl
          exact .refl _ _
        · refine .step ?_ (Block.modLane_frame _ _ _) rfl
          exact .refl _ _
  · refine .ite ?_ ?_
    · exact .refl _ _
    · refine .step ?_ (Block.laneFail_frame _ _ _) rfl
      refine .step ?_ (Block.modLane_frame _ _ _) rfl
      exact .refl _ _

theorem tokenRetry_frame : ∀ (a0 : Params) (a1 : Nat) (a2 : Block), Block.Frame 60563396 a2 (tokenRetry a0 a1 a2) := by
  intro a0 a1 a2
  unfold tokenRetry
  dsimp only
  split
  · exact .refl _ _
  · refine .ite ?_ ?_
    · exact .refl _ _
    · refine .ite ?_ ?_
      · refine .step ?_ (Block.laneFail_frame _ _ _) rfl
        exact .refl _ _
      · refine .ite ?_ ?_
        · exact .refl _ _
        · refine .step ?_ (Block.modLane_frame _ _ _) rfl
          exact .refl _ _

end Sys2Proof.Machine
end

