-- ==== Sys2Proof/Laws/FramesSettingFlow.lean ====
section
/-! SUPPORT. The fields each operation of Machine/SettingFlow.lean can change, one frame per operation. -/

-- theorem after theorem, which bounds the memory of the compile
set_option Elab.async false

namespace Sys2Proof.Machine

theorem Block.ignoreSet_frame : ∀ (a0 : Block), Block.Frame 128 a0 (Block.ignoreSet a0) := by
  intro a0
  unfold Block.ignoreSet
  dsimp only
  refine .step ?_ (.upd_loader  _ _) rfl
  exact .refl _ _

theorem Block.loadChan_frame : ∀ (a0 : Block) (a1 : Nat), Block.Frame 16384 a0 (Block.loadChan a0 a1) := by
  intro a0 a1
  unfold Block.loadChan
  split
  · refine .step ?_ (.upd_chans  _ _) rfl
    exact .refl _ _
  · refine .step ?_ (.upd_chans  _ _) rfl
    exact .refl _ _

theorem Block.rebucket_frame : ∀ (a0 : Setting) (a1 : Block) (a2 : Nat), Block.Frame 8192 a1 (Block.rebucket a0 a1 a2) := by
  intro a0 a1 a2
  unfold Block.rebucket
  dsimp only
  refine .ite ?_ ?_
  · exact .refl _ _
  · refine .step ?_ (Block.modBead_frame _ _ _) rfl
    exact .refl _ _

theorem Block.loadBead_frame : ∀ (a0 : Block) (a1 : Nat), Block.Frame 524288 a0 (Block.loadBead a0 a1) := by
  intro a0 a1
  unfold Block.loadBead
  refine .step ?_ (Block.modPbead_frame _ _ _) rfl
  exact .refl _ _

theorem Block.loadPart_frame : ∀ (a0 : Block) (a1 : Nat), Block.Frame 17301504 a0 (Block.loadPart a0 a1) := by
  intro a0 a1
  unfold Block.loadPart
  dsimp only
  refine .ite ?_ ?_
  · refine .step ?_ (Block.setPState_frame _ _ _) rfl
    refine .step ?_ (Block.modPart_frame _ _ _) rfl
    exact .refl _ _
  · refine .step ?_ (Block.modPart_frame _ _ _) rfl
    exact .refl _ _

theorem Block.unload_frame : ∀ (a0 : Params) (a1 : Block), Block.Frame 8938368 a1 (Block.unload a0 a1) := by
  intro a0 a1
  unfold Block.unload
  dsimp only
  refine .foldl ?_ _ ?_
  · intro b x
    refine .step ?_ (Block.modLane_frame _ _ _) rfl
    exact .refl _ _
  · refine .foldl ?_ _ ?_
    · intro b x
      refine .step ?_ (Block.forgetBead_frame _ _ _) rfl
      exact .refl _ _
    · refine .step ?_ (.upd_loader_setting_parts_trace  _ _ _ _ _) rfl
      exact .refl _ _

theorem Block.patchPart_frame : ∀ (a0 : Block) (a1 : Nat), Block.Frame 17301504 a0 (Block.patchPart a0 a1) := by
  intro a0 a1
  unfold Block.patchPart
  refine .ite ?_ ?_
  · exact .refl _ _
  · refine .step ?_ (Block.setPState_frame _ _ _) rfl
    exact .refl _ _

theorem settingActivate_frame : ∀ (a0 : Params) (a1 : Block), Block.Frame 27017344 a1 (settingActivate a0 a1) := by
  intro a0 a1
  unfold settingActivate
  dsimp only
  refine .ite ?_ ?_
  · exact .refl _ _
  · refine .step ?_ (Block.txStart_frame _) rfl
    refine .step ?_ (.upd_link  _ _) rfl
    refine .step ?_ (Block.raise_frame _ _) rfl
    refine .step ?_ (Block.loadTrace_frame _ _) rfl
    refine .step ?_ (Block.loadEvents_frame _ _) rfl
    refine .foldl ?_ _ ?_
    · intro b x
      refine .step ?_ (Block.loadChan_frame _ _) rfl
      exact .refl _ _
    · refine .foldl ?_ _ ?_
      · intro b x
        refine .step ?_ (Block.loadBead_frame _ _) rfl
        exact .refl _ _
      · refine .foldl ?_ _ ?_
        · intro b x
          refine .step ?_ (Block.loadPart_frame _ _) rfl
          exact .refl _ _
        · refine .step ?_ (Block.loaderLocket_frame _) rfl
          refine .step ?_ (.upd_loader  _ _) rfl
          exact .refl _ _

theorem Block.startLoad_frame : ∀ (a0 : Block), Block.Frame 8913600 a0 (Block.startLoad a0) := by
  intro a0
  unfold Block.startLoad
  dsimp only
  refine .step ?_ (Block.startLanes_frame _) rfl
  refine .step ?_ (.upd_mp_loader_parts_trace  _ _ _ _ _) rfl
  exact .refl _ _

theorem setCtl_frame : ∀ (a0 : Bool) (a1 : Bool) (a2 : Block), Block.Frame 8913600 a2 (setCtl a0 a1 a2) := by
  intro a0 a1 a2
  unfold setCtl
  dsimp only
  refine .ite ?_ ?_
  · refine .ite ?_ ?_
    · refine .ite ?_ ?_
      · refine .step ?_ (Block.startLoad_frame _) rfl
        exact .refl _ _
      · refine .step ?_ (Block.ignoreSet_frame _) rfl
        exact .refl _ _
    · exact .refl _ _
  · refine .ite ?_ ?_
    · refine .step ?_ (Block.loaderFail_frame _ _) rfl
      refine .ite ?_ ?_
      · refine .ite ?_ ?_
        · refine .step ?_ (Block.startLoad_frame _) rfl
          exact .refl _ _
        · refine .step ?_ (Block.ignoreSet_frame _) rfl
          exact .refl _ _
      · exact .refl _ _
    · refine .step ?_ (Block.ignoreSet_frame _) rfl
      refine .ite ?_ ?_
      · refine .ite ?_ ?_
        · refine .step ?_ (Block.startLoad_frame _) rfl
          exact .refl _ _
        · refine .step ?_ (Block.ignoreSet_frame _) rfl
          exact .refl _ _
      · exact .refl _ _

theorem settingLoadFail_frame : ∀ (a0 : Params) (a1 : Block), Block.Frame 26764160 a1 (settingLoadFail a0 a1) := by
  intro a0 a1
  unfold settingLoadFail
  dsimp only
  refine .ite ?_ ?_
  · exact .refl _ _
  · refine .step ?_ (Block.loaderEvent_frame _) rfl
    refine .step ?_ (.upd_loader  _ _) rfl
    refine .step ?_ (Block.unload_frame _ _) rfl
    exact .refl _ _

theorem Block.takeSet_frame : ∀ (a0 : Params) (a1 : Nat) (a2 : SecRec) (a3 : Bool) (a4 : Block), Block.Frame 24576 a4 (Block.takeSet a0 a1 a2 a3 a4).2 := by
  intro a0 a1 a2 a3 a4
  unfold Block.takeSet
  split
  · dsimp only
    refine .step ?_ (Block.modBead_frame _ _ _) rfl
    exact .refl _ _
  · split
    · dsimp only
      refine .step ?_ (Block.commitBead_frame _ _ _) rfl
      exact .refl _ _
    · split
      · dsimp only
        exact .refl _ _
      · split
        · dsimp only
          refine .step ?_ (Block.modBead_frame _ _ _) rfl
          exact .refl _ _
        · dsimp only
          exact .refl _ _

theorem Block.returnDone_frame : ∀ (a0 : Params) (a1 : Block) (a2 : Nat), Block.Frame 34079232 a1 (Block.returnDone a0 a1 a2) := by
  intro a0 a1 a2
  unfold Block.returnDone
  dsimp only
  refine .ite ?_ ?_
  · refine .step ?_ (Block.freezeBead_frame _ _ _) rfl
    refine .step ?_ (Block.modLane_frame _ _ _) rfl
    refine .step ?_ (Block.modDom_frame _ _ _) rfl
    exact .refl _ _
  · refine .step ?_ (Block.modLane_frame _ _ _) rfl
    refine .step ?_ (Block.modDom_frame _ _ _) rfl
    exact .refl _ _

theorem set_frame : ∀ (a0 : Params) (a1 : Nat) (a2 : SecRec) (a3 : Bool) (a4 : Block), Block.Frame 25088 a4 (Machine.set a0 a1 a2 a3 a4) := by
  intro a0 a1 a2 a3 a4
  unfold Sys2Proof.Machine.set
  dsimp only
  refine .onLane rfl ?_ ?_
  · intro b
    refine .ite ?_ ?_
    · exact .refl _ _
    · refine .step ?_ (Block.sendUp_frame _ _ _ _) rfl
      refine .step ?_ (Block.takeSet_frame _ _ _ _ _) rfl
      exact .refl _ _
  · exact .refl _ _

theorem settingLoadCheck_frame : ∀ (a0 : Params) (a1 : Keys) (a2 : MemView) (a3 : Block), Block.Frame 9438144 a3 (settingLoadCheck a0 a1 a2 a3) := by
  intro a0 a1 a2 a3
  unfold settingLoadCheck
  dsimp only
  refine .ite ?_ ?_
  · exact .refl _ _
  · refine .step ?_ (Block.loaderStep_frame _ _) rfl
    refine .step ?_ (Block.takeCheck_frame _ _ _ _ _) rfl
    refine .step ?_ (Block.imageErrors_frame _ _ _) rfl
    exact .refl _ _

theorem Block.returnSetr_frame : ∀ (a0 : Params) (a1 : Block) (a2 : Nat) (a3 : Status), Block.Frame 43786116 a1 (Block.returnSetr a0 a1 a2 a3) := by
  intro a0 a1 a2 a3
  unfold Block.returnSetr
  dsimp only
  refine .ite ?_ ?_
  · refine .step ?_ (Block.fenceBead_frame _ _ _ _) rfl
    refine .step ?_ (Block.modDom_frame _ _ _) rfl
    exact .refl _ _
  · refine .ite ?_ ?_
    · refine .step ?_ (Block.returnDone_frame _ _ _) rfl
      refine .step ?_ (.upd_loader  _ _) rfl
      exact .refl _ _
    · refine .step ?_ (.upd_loader  _ _) rfl
      exact .refl _ _

theorem Block.startPatch_frame : ∀ (a0 : Params) (a1 : Keys) (a2 : MemView) (a3 : Nat) (a4 : Nat) (a5 : Block), Block.Frame 9438144 a5 (Block.startPatch a0 a1 a2 a3 a4 a5) := by
  intro a0 a1 a2 a3 a4 a5
  unfold Block.startPatch
  dsimp only
  refine .step ?_ (Block.loaderStep_frame _ _) rfl
  refine .step ?_ (Block.takeCheck_frame _ _ _ _ _) rfl
  refine .step ?_ (.upd_loader  _ _) rfl
  refine .step ?_ (Block.imageErrors_frame _ _ _) rfl
  refine .step ?_ (.upd_loader  _ _) rfl
  exact .refl _ _

theorem Block.endPatchNode_frame : ∀ (a0 : Params) (a1 : MemView) (a2 : Option (Nat × Nat)) (a3 : Status) (a4 : Block), Block.Frame 11803204 a4 (Block.endPatchNode a0 a1 a2 a3 a4) := by
  intro a0 a1 a2 a3 a4
  unfold Block.endPatchNode
  split
  · refine .ite ?_ ?_
    · refine .step ?_ (Block.claspLeave_frame _ _ _ _ _ _ _) rfl
      exact .refl _ _
    · exact .refl _ _
  · exact .refl _ _

theorem setr_frame : ∀ (a0 : Params) (a1 : Nat) (a2 : Status) (a3 : Block), Block.Frame 43786116 a3 (setr a0 a1 a2 a3) := by
  intro a0 a1 a2 a3
  unfold setr
  dsimp only
  refine .onUp rfl ?_ ?_
  · intro b
    refine .ite ?_ ?_
    · refine .step ?_ (Block.returnSetr_frame _ _ _ _) rfl
      exact .refl _ _
    · split
      · exact .refl _ _
      · refine .step ?_ (Block.loaderStep_frame _ _) rfl
        refine .ite ?_ ?_
        · refine .step ?_ (.upd_loader  _ _) rfl
          exact .refl _ _
        · refine .step ?_ (Block.loaderFail_frame _ _) rfl
          refine .step ?_ (.upd_loader  _ _) rfl
          exact .refl _ _
  · exact .refl _ _

theorem patchCommit_frame : ∀ (a0 : Params) (a1 : MemView) (a2 : Block), Block.Frame 29129668 a2 (patchCommit a0 a1 a2) := by
  intro a0 a1 a2
  unfold patchCommit
  dsimp only
  refine .ite ?_ ?_
  · exact .refl _ _
  · refine .step ?_ (Block.endPatchNode_frame _ _ _ _ _) rfl
    refine .step ?_ (Block.raise_frame _ _) rfl
    refine .foldl ?_ _ ?_
    · intro b x
      refine .step ?_ (Block.patchPart_frame _ _) rfl
      exact .refl _ _
    · refine .foldl ?_ _ ?_
      · intro b x
        refine .step ?_ (Block.rebucket_frame _ _ _) rfl
        exact .refl _ _
      · refine .foldl ?_ _ ?_
        · intro b x
          refine .step ?_ (Block.applyReady_frame _ _ _) rfl
          exact .refl _ _
        · refine .step ?_ (Block.loaderLocket_frame _) rfl
          refine .step ?_ (.upd_loader_setting  _ _ _) rfl
          exact .refl _ _

theorem patchFail_frame : ∀ (a0 : Params) (a1 : MemView) (a2 : Block), Block.Frame 28588740 a2 (patchFail a0 a1 a2) := by
  intro a0 a1 a2
  unfold patchFail
  dsimp only
  refine .ite ?_ ?_
  · exact .refl _ _
  · refine .step ?_ (Block.endPatchNode_frame _ _ _ _ _) rfl
    refine .step ?_ (Block.loaderEvent_frame _) rfl
    refine .step ?_ (.upd_loader  _ _) rfl
    refine .foldl ?_ _ ?_
    · intro b x
      refine .step ?_ (Block.modBead_frame _ _ _) rfl
      exact .refl _ _
    · exact .refl _ _

theorem settingPatch_frame : ∀ (a0 : Params) (a1 : Keys) (a2 : Nat) (a3 : Nat) (a4 : MemView) (a5 : Block), Block.Frame 29105092 a5 (settingPatch a0 a1 a2 a3 a4 a5) := by
  intro a0 a1 a2 a3 a4 a5
  unfold settingPatch
  dsimp only
  refine .ite ?_ ?_
  · exact .refl _ _
  · refine .tryAct rfl ?_ ?_
    · intro b
      refine .step ?_ (Block.startPatch_frame _ _ _ _ _ _) rfl
      exact .refl _ _
    · exact .refl _ _

end Sys2Proof.Machine
end

