-- ==== Sys2Proof/Laws/FramesPower.lean ====
section
/-! SUPPORT. The fields each operation of Machine/Power.lean can change, one frame per operation. -/

-- theorem after theorem, which bounds the memory of the compile
set_option Elab.async false

namespace Sys2Proof.Machine

theorem Block.eccLog_frame : ∀ (a0 : Block) (a1 : Nat) (a2 : Nat) (a3 : Nat), Block.Frame 33554432 a0 (Block.eccLog a0 a1 a2 a3) := by
  intro a0 a1 a2 a3
  unfold Block.eccLog
  dsimp only
  refine .step ?_ (.upd_power  _ _) rfl
  exact .refl _ _

theorem eccClear_frame : ∀ (a0 : Block), Block.Frame 33554432 a0 (eccClear a0) := by
  intro a0
  unfold eccClear
  dsimp only
  refine .step ?_ (.upd_power  _ _) rfl
  exact .refl _ _

theorem domainAckLow_frame : ∀ (a0 : Nat) (a1 : Block), Block.Frame 33554432 a1 (domainAckLow a0 a1) := by
  intro a0 a1
  unfold domainAckLow
  refine .ite ?_ ?_
  · refine .step ?_ (Block.modDom_frame _ _ _) rfl
    exact .refl _ _
  · exact .refl _ _

theorem Block.seqEcc_frame : ∀ (a0 : Block) (a1 : Nat), Block.Frame 65536 a0 (Block.seqEcc a0 a1) := by
  intro a0 a1
  unfold Block.seqEcc
  refine .ite ?_ ?_
  · exact .refl _ _
  · refine .step ?_ (Block.modSeq_frame _ _ _) rfl
    exact .refl _ _

theorem domWrite_frame : ∀ (a0 : Params) (a1 : Nat) (a2 : Nat) (a3 : Block), Block.Frame 33554432 a3 (domWrite a0 a1 a2 a3) := by
  intro a0 a1 a2 a3
  unfold domWrite
  refine .ite ?_ ?_
  · exact .refl _ _
  · refine .ite ?_ ?_
    · refine .step ?_ (Block.modDom_frame _ _ _) rfl
      exact .refl _ _
    · refine .ite ?_ ?_
      · refine .step ?_ (Block.modDom_frame _ _ _) rfl
        exact .refl _ _
      · refine .step ?_ (Block.modDom_frame _ _ _) rfl
        exact .refl _ _

theorem Block.compEcc_frame : ∀ (a0 : Block) (a1 : Nat) (a2 : Nat), Block.Frame 131072 a0 (Block.compEcc a0 a1 a2) := by
  intro a0 a1 a2
  unfold Block.compEcc
  refine .step ?_ (Block.modCq_frame _ _ _) rfl
  exact .refl _ _

theorem Block.locketEcc_frame : ∀ (a0 : Block) (a1 : Nat) (a2 : Nat) (a3 : Nat), Block.Frame 16785408 a0 (Block.locketEcc a0 a1 a2 a3) := by
  intro a0 a1 a2 a3
  unfold Block.locketEcc
  dsimp only
  refine .ite ?_ ?_
  · refine .step ?_ (Block.modBead_frame _ _ _) rfl
    exact .refl _ _
  · refine .step ?_ (.upd_lkt  _ _) rfl
    exact .refl _ _

theorem holdExpiry_frame : ∀ (a0 : Block), Block.Frame 42991616 a0 (holdExpiry a0) := by
  intro a0
  unfold holdExpiry
  dsimp only
  refine .ite ?_ ?_
  · refine .step ?_ (Block.raise_frame _ _) rfl
    refine .step ?_ (.upd_power  _ _) rfl
    exact .refl _ _
  · exact .refl _ _

theorem Block.beadLost_frame : ∀ (a0 : Block) (a1 : Nat), Block.Frame 57344 a0 (Block.beadLost a0 a1) := by
  intro a0 a1
  unfold Block.beadLost
  dsimp only
  refine .ite ?_ ?_
  · refine .step ?_ (Block.modBead_frame _ _ _) rfl
    exact .refl _ _
  · refine .step ?_ (.upd_chans_saffron  _ _ _) rfl
    exact .refl _ _

theorem Block.saffronFresh_frame : ∀ (a0 : Block) (a1 : Nat), Block.Frame 49152 a0 (Block.saffronFresh a0 a1) := by
  intro a0 a1
  unfold Block.saffronFresh
  dsimp only
  refine .ite ?_ ?_
  · refine .step ?_ (Block.loadChan_frame _ _) rfl
    refine .step ?_ (Block.modSaf_frame _ _ _) rfl
    exact .refl _ _
  · refine .step ?_ (.upd_chans  _ _) rfl
    refine .step ?_ (Block.modSaf_frame _ _ _) rfl
    exact .refl _ _

theorem Block.coreFresh_frame : ∀ (a0 : Params) (a1 : Block) (a2 : Nat), Block.Frame 17310208 a1 (Block.coreFresh a0 a1 a2) := by
  intro a0 a1 a2
  unfold Block.coreFresh
  dsimp only
  refine .ite ?_ ?_
  · refine .step ?_ (Block.modLane_frame _ _ _) rfl
    refine .step ?_ (Block.modPbead_frame _ _ _) rfl
    refine .step ?_ (.upd_lkt  _ _) rfl
    refine .step ?_ (Block.modBead_frame _ _ _) rfl
    exact .refl _ _
  · refine .step ?_ (Block.modPbead_frame _ _ _) rfl
    refine .step ?_ (.upd_lkt  _ _) rfl
    refine .step ?_ (Block.modBead_frame _ _ _) rfl
    exact .refl _ _

theorem eccCorrectable_frame : ∀ (a0 : Block), Block.Frame 42991616 a0 (eccCorrectable a0) := by
  intro a0
  unfold eccCorrectable
  dsimp only
  refine .ite ?_ ?_
  · refine .step ?_ (Block.raise_frame _ _) rfl
    refine .step ?_ (.upd_power  _ _) rfl
    exact .refl _ _
  · refine .step ?_ (.upd_power  _ _) rfl
    exact .refl _ _

theorem Block.wordEcc_frame : ∀ (a0 : Block) (a1 : Nat) (a2 : Nat) (a3 : Nat), Block.Frame 16384 a0 (Block.wordEcc a0 a1 a2 a3) := by
  intro a0 a1 a2 a3
  unfold Block.wordEcc
  refine .step ?_ (Block.modRx_frame _ _ _ _) rfl
  exact .refl _ _

theorem Block.domFresh_frame : ∀ (a0 : Params) (a1 : Block) (a2 : Nat), Block.Frame 28176896 a1 (Block.domFresh a0 a1 a2) := by
  intro a0 a1 a2
  unfold Block.domFresh
  dsimp only
  split
  · refine .step ?_ (.upd_fences  _ _) rfl
    exact .refl _ _
  · refine .step ?_ (.upd_seq  _ _) rfl
    exact .refl _ _
  · refine .step ?_ (.upd_experts  _ _) rfl
    exact .refl _ _
  · refine .step ?_ (.upd_trace  _ _) rfl
    exact .refl _ _
  · refine .step ?_ (.upd_link  _ _) rfl
    exact .refl _ _
  · refine .foldl ?_ _ ?_
    · intro b x
      refine .step ?_ (Block.modLane_frame _ _ _) rfl
      exact .refl _ _
    · exact .refl _ _
  · exact .refl _ _
  · exact .refl _ _
  · refine .ite ?_ ?_
    · refine .step ?_ (Block.coreFresh_frame _ _ _) rfl
      exact .refl _ _
    · refine .step ?_ (Block.saffronFresh_frame _ _) rfl
      exact .refl _ _

theorem domainAckHigh_frame : ∀ (a0 : Params) (a1 : Nat) (a2 : Block), Block.Frame 61731328 a2 (domainAckHigh a0 a1 a2) := by
  intro a0 a1 a2
  unfold domainAckHigh
  dsimp only
  refine .ite ?_ ?_
  · exact .refl _ _
  · refine .ite ?_ ?_
    · refine .step ?_ (Block.modDom_frame _ _ _) rfl
      refine .step ?_ (Block.domFresh_frame _ _ _) rfl
      exact .refl _ _
    · refine .ite ?_ ?_
      · refine .step ?_ (Block.flushPoisons_frame _) rfl
        refine .step ?_ (Block.modDom_frame _ _ _) rfl
        refine .step ?_ (Block.domFresh_frame _ _ _) rfl
        exact .refl _ _
      · refine .step ?_ (Block.modDom_frame _ _ _) rfl
        refine .step ?_ (Block.domFresh_frame _ _ _) rfl
        exact .refl _ _

theorem Block.thawBead_frame : ∀ (a0 : Params) (a1 : Block) (a2 : Nat), Block.Frame 524800 a1 (Block.thawBead a0 a1 a2) := by
  intro a0 a1 a2
  unfold Block.thawBead
  dsimp only
  refine .ite ?_ ?_
  · exact .refl _ _
  · refine .step ?_ (Block.modPbead_frame _ _ _) rfl
    refine .ite ?_ ?_
    · refine .step ?_ (Block.sendDown_frame _ _ _ _) rfl
      exact .refl _ _
    · exact .refl _ _

theorem Block.fenceEcc_frame : ∀ (a0 : Block) (a1 : Nat), Block.Frame 9705472 a0 (Block.fenceEcc a0 a1) := by
  intro a0 a1
  unfold Block.fenceEcc
  dsimp only
  refine .step ?_ (Block.traceFence_frame _ _ _ _) rfl
  refine .step ?_ (Block.modFence_frame _ _ _) rfl
  refine .foldl ?_ _ ?_
  · intro b x
    refine .step ?_ (Block.giveTurn_frame _ _ _ _) rfl
    exact .refl _ _
  · refine .foldl ?_ _ ?_
    · intro b x
      refine .step ?_ (Block.giveOutcome_frame _ _ _ _) rfl
      exact .refl _ _
    · refine .step ?_ (.upd_fences  _ _) rfl
      exact .refl _ _

theorem beadDomainReturn_frame : ∀ (a0 : Params) (a1 : Nat) (a2 : Block), Block.Frame 640 a2 (beadDomainReturn a0 a1 a2) := by
  intro a0 a1 a2
  unfold beadDomainReturn
  dsimp only
  refine .ite ?_ ?_
  · exact .refl _ _
  · refine .step ?_ (.upd_loader  _ _) rfl
    refine .foldl ?_ _ ?_
    · intro b x
      refine .step ?_ (Block.sendSection_frame _ _ _ _) rfl
      exact .refl _ _
    · exact .refl _ _

theorem Block.saffronEcc_frame : ∀ (a0 : Block) (a1 : Nat), Block.Frame 32768 a0 (Block.saffronEcc a0 a1) := by
  intro a0 a1
  unfold Block.saffronEcc
  refine .ite ?_ ?_
  · refine .step ?_ (Block.progFail_frame _ _ _ _ _) rfl
    exact .refl _ _
  · exact .refl _ _

theorem Block.startFreeze_frame : ∀ (a0 : Params) (a1 : Block), Block.Frame 43516416 a1 (Block.startFreeze a0 a1) := by
  intro a0 a1
  unfold Block.startFreeze
  dsimp only
  refine .foldl ?_ _ ?_
  · intro b x
    refine .step ?_ (Block.freezeBead_frame _ _ _) rfl
    exact .refl _ _
  · refine .step ?_ (Block.raise_frame _ _) rfl
    refine .step ?_ (.upd_power  _ _) rfl
    exact .refl _ _

theorem Block.lanesLost_frame : ∀ (a0 : Params) (a1 : Block), Block.Frame 9705988 a1 (Block.lanesLost a0 a1) := by
  intro a0 a1
  unfold Block.lanesLost
  dsimp only
  refine .foldl ?_ _ ?_
  · intro b x
    refine .step ?_ (Block.abandon_frame _ _ _ _ _) rfl
    exact .refl _ _
  · refine .foldl ?_ _ ?_
    · intro b x
      refine .step ?_ (Block.modLane_frame _ _ _) rfl
      exact .refl _ _
    · exact .refl _ _

theorem Block.edgeEcc_frame : ∀ (a0 : Params) (a1 : MemView) (a2 : Block) (a3 : Nat) (a4 : Nat), Block.Frame 9706052 a2 (Block.edgeEcc a0 a1 a2 a3 a4) := by
  intro a0 a1 a2 a3 a4
  unfold Block.edgeEcc
  dsimp only
  refine .ite ?_ ?_
  · exact .refl _ _
  · refine .ite ?_ ?_
    · refine .step ?_ (Block.abandon_frame _ _ _ _ _) rfl
      exact .refl _ _
    · refine .ite ?_ ?_
      · refine .step ?_ (Block.listErrors_frame _ _ _ _) rfl
        exact .refl _ _
      · refine .step ?_ (Block.abandon_frame _ _ _ _ _) rfl
        refine .step ?_ (Block.listErrors_frame _ _ _ _) rfl
        exact .refl _ _

theorem Block.winEcc_frame : ∀ (a0 : Block) (a1 : Nat) (a2 : Nat), Block.Frame 8192 a0 (Block.winEcc a0 a1 a2) := by
  intro a0 a1 a2
  unfold Block.winEcc
  dsimp only
  refine .ite ?_ ?_
  · exact .refl _ _
  · split
    · refine .step ?_ (Block.modWin_frame _ _ _ _) rfl
      exact .refl _ _
    · refine .step ?_ (Block.modWin_frame _ _ _ _) rfl
      exact .refl _ _
    · refine .step ?_ (Block.modTile_frame _ _ _ _) rfl
      refine .step ?_ (Block.modWin_frame _ _ _ _) rfl
      exact .refl _ _
    · refine .step ?_ (Block.winEnds_frame _ _ _ _ _) rfl
      exact .refl _ _

theorem Block.succEcc_frame : ∀ (a0 : Params) (a1 : Block) (a2 : Nat) (a3 : Nat), Block.Frame 9705988 a1 (Block.succEcc a0 a1 a2 a3) := by
  intro a0 a1 a2 a3
  unfold Block.succEcc
  dsimp only
  refine .ite ?_ ?_
  · refine .step ?_ (Block.abandon_frame _ _ _ _ _) rfl
    exact .refl _ _
  · exact .refl _ _

theorem Block.linkLost_frame : ∀ (a0 : Params) (a1 : Block), Block.Frame 9837060 a1 (Block.linkLost a0 a1) := by
  intro a0 a1
  unfold Block.linkLost
  dsimp only
  refine .step ?_ (.upd_link  _ _) rfl
  refine .foldl ?_ _ ?_
  · intro b x
    split
    · refine .ite ?_ ?_
      · refine .step ?_ (Block.abandon_frame _ _ _ _ _) rfl
        exact .refl _ _
      · exact .refl _ _
    · refine .step ?_ (Block.modCq_frame _ _ _) rfl
      exact .refl _ _
    · exact .refl _ _
  · exact .refl _ _

theorem supplyRise_frame : ∀ (a0 : Params) (a1 : Block), Block.Frame 43516416 a1 (supplyRise a0 a1) := by
  intro a0 a1
  unfold supplyRise
  dsimp only
  refine .ite ?_ ?_
  · exact .refl _ _
  · refine .ite ?_ ?_
    · refine .step ?_ (Block.startFreeze_frame _ _) rfl
      refine .step ?_ (.upd_power  _ _) rfl
      exact .refl _ _
    · refine .step ?_ (.upd_power  _ _) rfl
      exact .refl _ _

theorem Block.endFreeze_frame : ∀ (a0 : Params) (a1 : Block), Block.Frame 43516416 a1 (Block.endFreeze a0 a1) := by
  intro a0 a1
  unfold Block.endFreeze
  dsimp only
  refine .ite ?_ ?_
  · refine .step ?_ (Block.startFreeze_frame _ _) rfl
    refine .step ?_ (Block.raise_frame _ _) rfl
    refine .step ?_ (.upd_power  _ _) rfl
    refine .foldl ?_ _ ?_
    · intro b x
      refine .step ?_ (Block.thawBead_frame _ _ _) rfl
      exact .refl _ _
    · exact .refl _ _
  · refine .step ?_ (Block.raise_frame _ _) rfl
    refine .step ?_ (.upd_power  _ _) rfl
    refine .foldl ?_ _ ?_
    · intro b x
      refine .step ?_ (Block.thawBead_frame _ _ _) rfl
      exact .refl _ _
    · exact .refl _ _

theorem coldRelease_frame : ∀ (a0 : Params) (a1 : Block), Block.Frame 43516438 a1 (coldRelease a0 a1) := by
  intro a0 a1
  unfold coldRelease
  dsimp only
  refine .ite ?_ ?_
  · exact .refl _ _
  · refine .ite ?_ ?_
    · refine .step ?_ (Block.startFreeze_frame _ _) rfl
      refine .step ?_ (.upd_inReset_prefetch  _ _ _) rfl
      refine .step ?_ (Block.drawWords_frame _ _) rfl
      exact .refl _ _
    · refine .step ?_ (.upd_inReset_prefetch  _ _ _) rfl
      refine .step ?_ (Block.drawWords_frame _ _) rfl
      exact .refl _ _

theorem supplyFall_frame : ∀ (a0 : Params) (a1 : Block), Block.Frame 43516416 a1 (supplyFall a0 a1) := by
  intro a0 a1
  unfold supplyFall
  dsimp only
  refine .ite ?_ ?_
  · exact .refl _ _
  · refine .ite ?_ ?_
    · refine .ite ?_ ?_
      · refine .step ?_ (Block.endFreeze_frame _ _) rfl
        refine .step ?_ (.upd_power  _ _) rfl
        exact .refl _ _
      · refine .step ?_ (.upd_power  _ _) rfl
        exact .refl _ _
    · refine .step ?_ (.upd_power  _ _) rfl
      exact .refl _ _

theorem supplyFrozen_frame : ∀ (a0 : Params) (a1 : Block), Block.Frame 43516416 a1 (supplyFrozen a0 a1) := by
  intro a0 a1
  unfold supplyFrozen
  dsimp only
  refine .ite ?_ ?_
  · exact .refl _ _
  · split
    · refine .step ?_ (.upd_power  _ _) rfl
      exact .refl _ _
    · refine .step ?_ (Block.endFreeze_frame _ _) rfl
      exact .refl _ _
    · exact .refl _ _

theorem Block.nodeEcc_frame : ∀ (a0 : Params) (a1 : MemView) (a2 : Block) (a3 : Nat) (a4 : Nat), Block.Frame 11803204 a2 (Block.nodeEcc a0 a1 a2 a3 a4) := by
  intro a0 a1 a2 a3 a4
  unfold Block.nodeEcc
  dsimp only
  refine .ite ?_ ?_
  · exact .refl _ _
  · refine .step ?_ (Block.claspLeave_frame _ _ _ _ _ _ _) rfl
    refine .step ?_ (Block.modSub_frame _ _ _) rfl
    exact .refl _ _

theorem Block.cacheLost_frame : ∀ (a0 : Params) (a1 : MemView) (a2 : Block) (a3 : Nat), Block.Frame 11803204 a2 (Block.cacheLost a0 a1 a2 a3) := by
  intro a0 a1 a2 a3
  unfold Block.cacheLost
  dsimp only
  refine .foldl ?_ _ ?_
  · intro b x
    refine .step ?_ (Block.nodeEcc_frame _ _ _ _ _) rfl
    exact .refl _ _
  · refine .foldl ?_ _ ?_
    · intro b x
      refine .step ?_ (Block.edgeEcc_frame _ _ _ _ _) rfl
      exact .refl _ _
    · exact .refl _ _

theorem Block.eccOutcome_frame : ∀ (a0 : Params) (a1 : MemView) (a2 : Block) (a3 : Nat) (a4 : Nat) (a5 : EccHeld), Block.Frame 28834372 a2 (Block.eccOutcome a0 a1 a2 a3 a4 a5) := by
  intro a0 a1 a2 a3 a4 a5
  unfold Block.eccOutcome
  split
  · refine .step ?_ (Block.nodeEcc_frame _ _ _ _ _) rfl
    exact .refl _ _
  · refine .step ?_ (Block.edgeEcc_frame _ _ _ _ _) rfl
    exact .refl _ _
  · refine .step ?_ (Block.fenceEcc_frame _ _) rfl
    exact .refl _ _
  · refine .step ?_ (Block.seqEcc_frame _ _) rfl
    exact .refl _ _
  · refine .step ?_ (Block.compEcc_frame _ _ _) rfl
    exact .refl _ _
  · refine .step ?_ (Block.abandon_frame _ _ _ _ _) rfl
    exact .refl _ _
  · refine .step ?_ (Block.winEcc_frame _ _ _) rfl
    exact .refl _ _
  · refine .step ?_ (Block.winEcc_frame _ _ _) rfl
    exact .refl _ _
  · refine .step ?_ (Block.succEcc_frame _ _ _ _) rfl
    exact .refl _ _
  · refine .step ?_ (Block.wordEcc_frame _ _ _ _) rfl
    exact .refl _ _
  · refine .step ?_ (Block.saffronEcc_frame _ _) rfl
    exact .refl _ _
  · refine .step ?_ (Block.locketEcc_frame _ _ _ _) rfl
    exact .refl _ _
  · exact .refl _ _

theorem Block.claspLost_frame : ∀ (a0 : Params) (a1 : MemView) (a2 : Block) (a3 : Nat), Block.Frame 11999812 a2 (Block.claspLost a0 a1 a2 a3) := by
  intro a0 a1 a2 a3
  unfold Block.claspLost
  split
  · refine .foldl ?_ _ ?_
    · intro b x
      refine .step ?_ (Block.cacheLost_frame _ _ _ _) rfl
      exact .refl _ _
    · exact .refl _ _
  · refine .foldl ?_ _ ?_
    · intro b x
      refine .step ?_ (Block.fenceEcc_frame _ _) rfl
      exact .refl _ _
    · exact .refl _ _
  · refine .foldl ?_ _ ?_
    · intro b x
      refine .step ?_ (Block.seqEcc_frame _ _) rfl
      exact .refl _ _
    · exact .refl _ _
  · refine .foldl ?_ _ ?_
    · intro b x
      refine .step ?_ (Block.abandon_frame _ _ _ _ _) rfl
      exact .refl _ _
    · exact .refl _ _
  · refine .step ?_ (Block.linkLost_frame _ _) rfl
    exact .refl _ _
  · refine .step ?_ (Block.lanesLost_frame _ _) rfl
    exact .refl _ _
  · exact .refl _ _

theorem eccUncorrectable_frame : ∀ (a0 : Params) (a1 : Nat) (a2 : Nat) (a3 : Nat) (a4 : EccHeld) (a5 : MemView) (a6 : Block), Block.Frame 62388804 a6 (eccUncorrectable a0 a1 a2 a3 a4 a5 a6) := by
  intro a0 a1 a2 a3 a4 a5 a6
  unfold eccUncorrectable
  dsimp only
  refine .step ?_ (Block.eccOutcome_frame _ _ _ _ _ _) rfl
  refine .ite ?_ ?_
  · refine .step ?_ (Block.raise_frame _ _) rfl
    refine .step ?_ (Block.eccLog_frame _ _ _ _) rfl
    refine .step ?_ (.upd_power  _ _) rfl
    exact .refl _ _
  · refine .step ?_ (Block.sendUp_frame _ _ _ _) rfl
    refine .step ?_ (Block.beadLocket_frame _ _ _ _ _ _) rfl
    refine .step ?_ (Block.eccLog_frame _ _ _ _) rfl
    refine .step ?_ (.upd_power  _ _) rfl
    exact .refl _ _

theorem domainLoss_frame : ∀ (a0 : Params) (a1 : Nat) (a2 : MemView) (a3 : Block), Block.Frame 46137284 a3 (domainLoss a0 a1 a2 a3) := by
  intro a0 a1 a2 a3
  unfold domainLoss
  dsimp only
  refine .ite ?_ ?_
  · exact .refl _ _
  · refine .ite ?_ ?_
    · refine .step ?_ (Block.claspLost_frame _ _ _ _) rfl
      refine .step ?_ (Block.modDom_frame _ _ _) rfl
      exact .refl _ _
    · refine .ite ?_ ?_
      · refine .step ?_ (Block.beadLost_frame _ _) rfl
        refine .step ?_ (Block.modDom_frame _ _ _) rfl
        exact .refl _ _
      · refine .step ?_ (Block.raise_frame _ _) rfl
        refine .step ?_ (Block.eccLog_frame _ _ _ _) rfl
        refine .step ?_ (Block.beadLost_frame _ _) rfl
        refine .step ?_ (Block.fenceBead_frame _ _ _ _) rfl
        refine .step ?_ (Block.modDom_frame _ _ _) rfl
        exact .refl _ _

end Sys2Proof.Machine
end

