-- ==== Sys2Proof/Laws/FramesMemoryPort.lean ====
section
/-! SUPPORT. The fields each operation of Machine/MemoryPort.lean can change, one frame per operation. -/

-- theorem after theorem, which bounds the memory of the compile
set_option Elab.async false

namespace Sys2Proof.Machine

theorem Block.writeReturns_frame : ∀ (a0 : Params) (a1 : BitVec 2) (a2 : WPurpose) (a3 : Block), Block.Frame 27237952 a3 (Block.writeReturns a0 a1 a2 a3) := by
  intro a0 a1 a2 a3
  unfold Block.writeReturns
  dsimp only
  split
  · refine .ite ?_ ?_
    · refine .step ?_ (Block.headError_frame _ _) rfl
      exact .refl _ _
    · exact .refl _ _
  · refine .step ?_ (Block.cqRecordAck_frame _ _ _) rfl
    exact .refl _ _
  · refine .step ?_ (Block.cqTailAck_frame _ _ _) rfl
    exact .refl _ _
  · refine .step ?_ (Block.cqEnableTail_frame _ _ _) rfl
    exact .refl _ _
  · refine .ite ?_ ?_
    · refine .step ?_ (Block.messageError_frame _ _) rfl
      exact .refl _ _
    · exact .refl _ _
  · refine .ite ?_ ?_
    · refine .step ?_ (Block.saffronWriteError_frame _ _ _) rfl
      exact .refl _ _
    · exact .refl _ _
  · refine .step ?_ (Block.spawnParamAck_frame _ _) rfl
    exact .refl _ _
  · refine .ite ?_ ?_
    · refine .step ?_ (Block.linkError_frame _ _ _) rfl
      exact .refl _ _
    · exact .refl _ _
  · refine .step ?_ (Block.traceAck_frame _ _) rfl
    exact .refl _ _
  · refine .step ?_ (Block.sendPieces_frame _ _ _) rfl
    exact .refl _ _
  · exact .refl _ _
  · exact .refl _ _
  · exact .refl _ _
  · exact .refl _ _
  · exact .refl _ _
  · refine .step ?_ (Block.spillAcked_frame _) rfl
    exact .refl _ _
  · exact .refl _ _
  · exact .refl _ _

theorem memoryWrite_frame : ∀ (a0 : Params) (a1 : Nat) (a2 : Nat) (a3 : BitVec 2) (a4 : Block), Block.Frame 27237952 a4 (memoryWrite a0 a1 a2 a3 a4) := by
  intro a0 a1 a2 a3 a4
  unfold memoryWrite
  split
  · exact .refl _ _
  · refine .step ?_ (Block.writeReturns_frame _ _ _ _) rfl
    refine .step ?_ (Block.answerWrite_frame _ _ _) rfl
    exact .refl _ _

theorem Block.readReturns_frame : ∀ (a0 : Params) (a1 : MemView) (a2 : List (BitVec 2)) (a3 : List Word) (a4 : RPurpose) (a5 : Block), Block.Frame 28720708 a5 (Block.readReturns a0 a1 a2 a3 a4 a5) := by
  intro a0 a1 a2 a3 a4 a5
  unfold Block.readReturns
  dsimp only
  split
  · refine .step ?_ (Block.tailReturn_frame _ _ _ _) rfl
    exact .refl _ _
  · refine .step ?_ (Block.descsReturn_frame _ _ _ _ _ _) rfl
    exact .refl _ _
  · refine .step ?_ (Block.nodeRead_frame _ _ _ _ _ _ _ _ _) rfl
    exact .refl _ _
  · refine .step ?_ (Block.nodeRead_frame _ _ _ _ _ _ _ _ _) rfl
    exact .refl _ _
  · refine .step ?_ (Block.indirectReturn_frame _ _ _ _ _ _ _) rfl
    exact .refl _ _
  · refine .step ?_ (Block.arrivalResult_frame _ _ _ _ _ _ _) rfl
    exact .refl _ _
  · refine .step ?_ (Block.cqHeadReturn_frame _ _ _ _) rfl
    exact .refl _ _
  · refine .step ?_ (Block.cqEnableHead_frame _ _ _ _) rfl
    exact .refl _ _
  · refine .step ?_ (Block.entryBack_frame _ _ _ _ _ _) rfl
    exact .refl _ _
  · refine .step ?_ (Block.swept_frame _ _) rfl
    exact .refl _ _
  · exact .refl _ _

theorem memoryRead_frame : ∀ (a0 : Params) (a1 : Nat) (a2 : Nat) (a3 : List (BitVec 2)) (a4 : List Word) (a5 : MemView) (a6 : Block), Block.Frame 28720708 a6 (memoryRead a0 a1 a2 a3 a4 a5 a6) := by
  intro a0 a1 a2 a3 a4 a5 a6
  unfold memoryRead
  split
  · exact .refl _ _
  · refine .step ?_ (Block.readReturns_frame _ _ _ _ _ _) rfl
    refine .step ?_ (Block.answerBeats_frame _ _ _) rfl
    exact .refl _ _

end Sys2Proof.Machine
end

