-- ==== Sys2Proof/Laws/FramesRegisters.lean ====
section
/-! SUPPORT. The fields each operation of Machine/Registers.lean can change, one frame per operation. -/

-- theorem after theorem, which bounds the memory of the compile
set_option Elab.async false

namespace Sys2Proof.Machine

theorem Block.pgWrite_frame : ∀ (a0 : Block) (a1 : Machine.Graph → Machine.Graph), Block.Frame 2048 a0 (Block.pgWrite a0 a1) := by
  intro a0 a1
  unfold Block.pgWrite
  refine .ite ?_ ?_
  · refine .step ?_ (.upd_graph  _ _) rfl
    exact .refl _ _
  · exact .refl _ _

theorem Block.Frame.settingWrite {t : Nat} {a b : Block} {f : Block → Block}
    (hf : ∀ b, Block.Frame t b (f b)) (h : Block.Frame t a b) : Block.Frame t a (b.settingWrite f) := by
  unfold Block.settingWrite
  split
  · exact h.step (hf _) (by simp)
  · exact h

theorem Block.cqRegWrite_frame : ∀ (a0 : Block) (a1 : Nat) (a2 : CQueue → CQueue), Block.Frame 131072 a0 (Block.cqRegWrite a0 a1 a2) := by
  intro a0 a1 a2
  unfold Block.cqRegWrite
  refine .ite ?_ ?_
  · refine .step ?_ (Block.modCq_frame _ _ _) rfl
    exact .refl _ _
  · refine .step ?_ (Block.modCq_frame _ _ _) rfl
    exact .refl _ _

theorem Block.expWrite_frame : ∀ (a0 : Block) (a1 : Experts → Experts), Block.Frame 2097152 a0 (Block.expWrite a0 a1) := by
  intro a0 a1
  unfold Block.expWrite
  refine .ite ?_ ?_
  · exact .refl _ _
  · refine .step ?_ (.upd_experts  _ _) rfl
    exact .refl _ _

theorem Block.queueWrite_frame : ∀ (a0 : Block) (a1 : Nat) (a2 : Queue → Queue), Block.Frame 1024 a0 (Block.queueWrite a0 a1 a2) := by
  intro a0 a1 a2
  unfold Block.queueWrite
  refine .ite ?_ ?_
  · refine .step ?_ (Block.modQueue_frame _ _ _) rfl
    exact .refl _ _
  · refine .step ?_ (Block.rejQueue_frame _ _) rfl
    exact .refl _ _

theorem writeEvents_frame : ∀ (a0 : Params) (a1 : Reg) (a2 : Word) (a3 : Block), Block.Frame 9437184 a3 (writeEvents a0 a1 a2 a3) := by
  intro a0 a1 a2 a3
  unfold writeEvents
  dsimp only
  split
  · refine .step ?_ (srcCfgWrite_frame _ _ _ _) rfl
    exact .refl _ _
  · refine .step ?_ (pendWrite_frame _ _ _) rfl
    exact .refl _ _
  · refine .step ?_ (maskWrite_frame _ _ _) rfl
    exact .refl _ _
  · refine .settingWrite ?_ ?_
    · intro b
      refine .step ?_ (Block.modEvGroup_frame _ _ _) rfl
      exact .refl _ _
    · exact .refl _ _
  · refine .step ?_ (swiWrite_frame _ _) rfl
    exact .refl _ _
  · refine .step ?_ (pclrWrite_frame _ _) rfl
    exact .refl _ _
  · refine .step ?_ (.upd_evc  _ _) rfl
    exact .refl _ _
  · refine .step ?_ (complete_frame _ _ _) rfl
    exact .refl _ _
  · refine .settingWrite ?_ ?_
    · intro b
      refine .step ?_ (Block.modEvTarget_frame _ _ _) rfl
      exact .refl _ _
    · exact .refl _ _
  · refine .step ?_ (Block.modEvTarget_frame _ _ _) rfl
    exact .refl _ _
  · refine .settingWrite ?_ ?_
    · intro b
      refine .step ?_ (Block.modEvTarget_frame _ _ _) rfl
      exact .refl _ _
    · exact .refl _ _
  · refine .settingWrite ?_ ?_
    · intro b
      refine .step ?_ (Block.modEvTarget_frame _ _ _) rfl
      exact .refl _ _
    · exact .refl _ _
  · exact .refl _ _

theorem writeBead_frame : ∀ (a0 : Params) (a1 : Reg) (a2 : Word) (a3 : Block), Block.Frame 16802816 a3 (writeBead a0 a1 a2 a3) := by
  intro a0 a1 a2 a3
  unfold writeBead
  split
  · refine .ite ?_ ?_
    · refine .step ?_ (Block.modBead_frame _ _ _) rfl
      exact .refl _ _
    · exact .refl _ _
  · refine .step ?_ (Block.modRx_frame _ _ _ _) rfl
    exact .refl _ _
  · refine .ite ?_ ?_
    · refine .step ?_ (chnDrop_frame _ _ _ _) rfl
      exact .refl _ _
    · exact .refl _ _
  · refine .step ?_ (txHeader_frame _ _ _ _ _) rfl
    exact .refl _ _
  · refine .step ?_ (txData_frame _ _ _ _) rfl
    exact .refl _ _
  · refine .step ?_ (Block.modTx_frame _ _ _ _) rfl
    exact .refl _ _
  · exact .refl _ _

theorem writeLinks_frame : ∀ (a0 : Params) (a1 : Reg) (a2 : Word) (a3 : Block), Block.Frame 460864 a3 (writeLinks a0 a1 a2 a3) := by
  intro a0 a1 a2 a3
  unfold writeLinks
  dsimp only
  split
  · refine .step ?_ (poolConfigWrite_frame _ _ _) rfl
    exact .refl _ _
  · refine .step ?_ (poolConfigWrite_frame _ _ _) rfl
    exact .refl _ _
  · refine .step ?_ (.upd_seq  _ _) rfl
    exact .refl _ _
  · refine .step ?_ (sqtWrite_frame _ _) rfl
    exact .refl _ _
  · refine .step ?_ (.upd_seq  _ _) rfl
    exact .refl _ _
  · refine .step ?_ (Block.modSeqCtx_frame _ _ _) rfl
    exact .refl _ _
  · refine .step ?_ (Block.cqRegWrite_frame _ _ _) rfl
    exact .refl _ _
  · refine .step ?_ (Block.cqRegWrite_frame _ _ _) rfl
    exact .refl _ _
  · refine .step ?_ (cqCfgWrite_frame _ _ _) rfl
    exact .refl _ _
  · refine .step ?_ (cqCommand_frame _ _ _) rfl
    exact .refl _ _
  · refine .step ?_ (selfWrite_frame _ _) rfl
    exact .refl _ _
  · refine .ite ?_ ?_
    · refine .step ?_ (linkClear_frame _) rfl
      exact .refl _ _
    · exact .refl _ _
  · refine .step ?_ (peerEntryWrite_frame _ _ _ _) rfl
    exact .refl _ _
  · exact .refl _ _

theorem writeDebug_frame : ∀ (a0 : Params) (a1 : Reg) (a2 : Word) (a3 : Block), Block.Frame 60563396 a3 (writeDebug a0 a1 a2 a3) := by
  intro a0 a1 a2 a3
  unfold writeDebug
  dsimp only
  split
  · refine .step ?_ (.upd_trace  _ _) rfl
    exact .refl _ _
  · refine .step ?_ (traceHeadWrite_frame _ _) rfl
    exact .refl _ _
  · refine .step ?_ (traceWrite_frame _ _) rfl
    exact .refl _ _
  · refine .settingWrite ?_ ?_
    · intro b
      refine .step ?_ (.upd_trace  _ _) rfl
      exact .refl _ _
    · exact .refl _ _
  · refine .step ?_ (.upd_trace  _ _) rfl
    exact .refl _ _
  · refine .step ?_ (.upd_trace  _ _) rfl
    exact .refl _ _
  · refine .step ?_ (.upd_lkt  _ _) rfl
    exact .refl _ _
  · refine .step ?_ (stopWrite_frame _ _ _ _) rfl
    exact .refl _ _
  · refine .step ?_ (.upd_lkt  _ _) rfl
    exact .refl _ _
  · refine .step ?_ (.upd_lkt  _ _) rfl
    exact .refl _ _
  · refine .step ?_ (domWrite_frame _ _ _ _) rfl
    exact .refl _ _
  · refine .step ?_ (.upd_power  _ _) rfl
    exact .refl _ _
  · refine .step ?_ (.upd_power  _ _) rfl
    exact .refl _ _
  · refine .step ?_ (.upd_power  _ _) rfl
    refine .ite ?_ ?_
    · refine .step ?_ (eccClear_frame _) rfl
      exact .refl _ _
    · exact .refl _ _
  · refine .ite ?_ ?_
    · refine .step ?_ (Block.fenceBead_frame _ _ _ _) rfl
      exact .refl _ _
    · exact .refl _ _
  · exact .refl _ _

theorem writeQueues_frame : ∀ (a0 : Params) (a1 : Reg) (a2 : Word) (a3 : Block), Block.Frame 11812420 a3 (writeQueues a0 a1 a2 a3) := by
  intro a0 a1 a2 a3
  unfold writeQueues
  dsimp only
  split
  · refine .step ?_ (Block.queueWrite_frame _ _ _) rfl
    exact .refl _ _
  · refine .step ?_ (Block.queueWrite_frame _ _ _) rfl
    exact .refl _ _
  · refine .step ?_ (Block.queueWrite_frame _ _ _) rfl
    exact .refl _ _
  · refine .step ?_ (Block.queueWrite_frame _ _ _) rfl
    exact .refl _ _
  · refine .step ?_ (queueCommand_frame _ _ _ _) rfl
    exact .refl _ _
  · refine .step ?_ (Block.modHws_frame _ _ _) rfl
    exact .refl _ _
  · refine .ite ?_ ?_
    · refine .step ?_ (unbindWrite_frame _ _) rfl
      exact .refl _ _
    · exact .refl _ _
  · refine .step ?_ (.upd_front  _ _) rfl
    exact .refl _ _
  · refine .step ?_ (.upd_front  _ _) rfl
    exact .refl _ _
  · refine .step ?_ (popWrite_frame _ _ _) rfl
    exact .refl _ _
  · refine .step ?_ (doorbellWrite_frame _ _ _ _) rfl
    exact .refl _ _
  · exact .refl _ _

theorem writeClasp_frame : ∀ (a0 : Params) (a1 : Reg) (a2 : Word) (a3 : Block), Block.Frame 33373924 a3 (writeClasp a0 a1 a2 a3) := by
  intro a0 a1 a2 a3
  unfold writeClasp
  dsimp only
  split
  · refine .step ?_ (.upd_mp  _ _) rfl
    exact .refl _ _
  · refine .step ?_ (.upd_tpStatus  _ _) rfl
    exact .refl _ _
  · refine .step ?_ (Block.pgWrite_frame _ _) rfl
    exact .refl _ _
  · refine .step ?_ (Block.pgWrite_frame _ _) rfl
    exact .refl _ _
  · refine .step ?_ (pgCommand_frame _ _) rfl
    exact .refl _ _
  · refine .step ?_ (partWrite_frame _ _ _ _) rfl
    exact .refl _ _
  · refine .step ?_ (beadWrite_frame _ _ _ _) rfl
    exact .refl _ _
  · refine .step ?_ (.upd_parts  _ _) rfl
    exact .refl _ _
  · refine .step ?_ (ctxCmdWrite_frame _ _ _) rfl
    exact .refl _ _
  · refine .step ?_ (.upd_parts  _ _) rfl
    exact .refl _ _
  · refine .step ?_ (Block.expWrite_frame _ _) rfl
    exact .refl _ _
  · refine .step ?_ (expCfgWrite_frame _ _) rfl
    exact .refl _ _
  · refine .step ?_ (Block.expWrite_frame _ _) rfl
    exact .refl _ _
  · refine .step ?_ (Block.expWrite_frame _ _) rfl
    exact .refl _ _
  · refine .step ?_ (fncWrite_frame _ _) rfl
    exact .refl _ _
  · refine .step ?_ (setCtl_frame _ _ _) rfl
    exact .refl _ _
  · refine .step ?_ (.upd_loader  _ _) rfl
    exact .refl _ _
  · refine .step ?_ (.upd_loader  _ _) rfl
    exact .refl _ _
  · refine .step ?_ (.upd_loader  _ _) rfl
    exact .refl _ _
  · refine .step ?_ (.upd_audit  _ _) rfl
    exact .refl _ _
  · refine .step ?_ (audRegionWrite_frame _ _ _) rfl
    exact .refl _ _
  · refine .step ?_ (audRegionWrite_frame _ _ _) rfl
    exact .refl _ _
  · exact .refl _ _

theorem writeBlock_frame : ∀ (a0 : Params) (a1 : Reg) (a2 : Word) (a3 : Block), Block.Frame 67076068 a3 (writeBlock a0 a1 a2 a3) := by
  intro a0 a1 a2 a3
  unfold writeBlock
  split
  · refine .step ?_ (writeQueues_frame _ _ _ _) rfl
    exact .refl _ _
  · refine .step ?_ (writeQueues_frame _ _ _ _) rfl
    exact .refl _ _
  · refine .step ?_ (writeQueues_frame _ _ _ _) rfl
    exact .refl _ _
  · refine .step ?_ (writeQueues_frame _ _ _ _) rfl
    exact .refl _ _
  · refine .step ?_ (writeQueues_frame _ _ _ _) rfl
    exact .refl _ _
  · refine .step ?_ (writeQueues_frame _ _ _ _) rfl
    exact .refl _ _
  · refine .step ?_ (writeQueues_frame _ _ _ _) rfl
    exact .refl _ _
  · refine .step ?_ (writeQueues_frame _ _ _ _) rfl
    exact .refl _ _
  · refine .step ?_ (writeQueues_frame _ _ _ _) rfl
    exact .refl _ _
  · refine .step ?_ (writeQueues_frame _ _ _ _) rfl
    exact .refl _ _
  · refine .step ?_ (writeQueues_frame _ _ _ _) rfl
    exact .refl _ _
  · refine .step ?_ (writeLinks_frame _ _ _ _) rfl
    exact .refl _ _
  · refine .step ?_ (writeLinks_frame _ _ _ _) rfl
    exact .refl _ _
  · refine .step ?_ (writeLinks_frame _ _ _ _) rfl
    exact .refl _ _
  · refine .step ?_ (writeLinks_frame _ _ _ _) rfl
    exact .refl _ _
  · refine .step ?_ (writeLinks_frame _ _ _ _) rfl
    exact .refl _ _
  · refine .step ?_ (writeLinks_frame _ _ _ _) rfl
    exact .refl _ _
  · refine .step ?_ (writeLinks_frame _ _ _ _) rfl
    exact .refl _ _
  · refine .step ?_ (writeLinks_frame _ _ _ _) rfl
    exact .refl _ _
  · refine .step ?_ (writeLinks_frame _ _ _ _) rfl
    exact .refl _ _
  · refine .step ?_ (writeLinks_frame _ _ _ _) rfl
    exact .refl _ _
  · refine .step ?_ (writeLinks_frame _ _ _ _) rfl
    exact .refl _ _
  · refine .step ?_ (writeLinks_frame _ _ _ _) rfl
    exact .refl _ _
  · refine .step ?_ (writeLinks_frame _ _ _ _) rfl
    exact .refl _ _
  · refine .step ?_ (writeEvents_frame _ _ _ _) rfl
    exact .refl _ _
  · refine .step ?_ (writeEvents_frame _ _ _ _) rfl
    exact .refl _ _
  · refine .step ?_ (writeEvents_frame _ _ _ _) rfl
    exact .refl _ _
  · refine .step ?_ (writeEvents_frame _ _ _ _) rfl
    exact .refl _ _
  · refine .step ?_ (writeEvents_frame _ _ _ _) rfl
    exact .refl _ _
  · refine .step ?_ (writeEvents_frame _ _ _ _) rfl
    exact .refl _ _
  · refine .step ?_ (writeEvents_frame _ _ _ _) rfl
    exact .refl _ _
  · refine .step ?_ (writeEvents_frame _ _ _ _) rfl
    exact .refl _ _
  · refine .step ?_ (writeEvents_frame _ _ _ _) rfl
    exact .refl _ _
  · refine .step ?_ (writeEvents_frame _ _ _ _) rfl
    exact .refl _ _
  · refine .step ?_ (writeEvents_frame _ _ _ _) rfl
    exact .refl _ _
  · refine .step ?_ (writeEvents_frame _ _ _ _) rfl
    exact .refl _ _
  · refine .step ?_ (writeDebug_frame _ _ _ _) rfl
    exact .refl _ _
  · refine .step ?_ (writeDebug_frame _ _ _ _) rfl
    exact .refl _ _
  · refine .step ?_ (writeDebug_frame _ _ _ _) rfl
    exact .refl _ _
  · refine .step ?_ (writeDebug_frame _ _ _ _) rfl
    exact .refl _ _
  · refine .step ?_ (writeDebug_frame _ _ _ _) rfl
    exact .refl _ _
  · refine .step ?_ (writeDebug_frame _ _ _ _) rfl
    exact .refl _ _
  · refine .step ?_ (writeDebug_frame _ _ _ _) rfl
    exact .refl _ _
  · refine .step ?_ (writeDebug_frame _ _ _ _) rfl
    exact .refl _ _
  · refine .step ?_ (writeDebug_frame _ _ _ _) rfl
    exact .refl _ _
  · refine .step ?_ (writeDebug_frame _ _ _ _) rfl
    exact .refl _ _
  · refine .step ?_ (writeDebug_frame _ _ _ _) rfl
    exact .refl _ _
  · refine .step ?_ (writeDebug_frame _ _ _ _) rfl
    exact .refl _ _
  · refine .step ?_ (writeDebug_frame _ _ _ _) rfl
    exact .refl _ _
  · refine .step ?_ (writeDebug_frame _ _ _ _) rfl
    exact .refl _ _
  · refine .step ?_ (writeDebug_frame _ _ _ _) rfl
    exact .refl _ _
  · refine .step ?_ (writeBead_frame _ _ _ _) rfl
    exact .refl _ _
  · refine .step ?_ (writeBead_frame _ _ _ _) rfl
    exact .refl _ _
  · refine .step ?_ (writeBead_frame _ _ _ _) rfl
    exact .refl _ _
  · refine .step ?_ (writeBead_frame _ _ _ _) rfl
    exact .refl _ _
  · refine .step ?_ (writeBead_frame _ _ _ _) rfl
    exact .refl _ _
  · refine .step ?_ (writeBead_frame _ _ _ _) rfl
    exact .refl _ _
  · refine .step ?_ (writeClasp_frame _ _ _ _) rfl
    exact .refl _ _

end Sys2Proof.Machine
end

