-- ==== Sys2Proof/Laws/Entries.lean ====
section
/-! SUPPORT. The entries of the block's tables under the shared operations: an operation that does not touch a
table leaves its entries alone. -/

-- theorem after theorem, which bounds the memory of the compile
set_option Elab.async false

namespace Sys2Proof.Machine

theorem Block.win_modBead (b : Block) (n k w : Nat) (f : Bead → Bead) :
    (b.modBead n f).win k w = if k = n then tget {} (f (b.bead n)).win w else b.win k w := by
  simp only [Block.win, Block.bead, Block.modBead, tget_tmod]
  by_cases h : k = n
  · subst h; simp
  · simp [h, Ne.symm h]
theorem Block.slot_modBead (b : Block) (n k w : Nat) (f : Bead → Bead) :
    (b.modBead n f).slot k w = if k = n then tget {} (f (b.bead n)).slots w else b.slot k w := by
  simp only [Block.slot, Block.bead, Block.modBead, tget_tmod]
  by_cases h : k = n
  · subst h; simp
  · simp [h, Ne.symm h]
theorem Block.bead_modWin (b : Block) (n k w : Nat) (f : WinEntry → WinEntry) :
    (b.modWin n w f).bead k = if k = n then { b.bead n with win := tmod {} (b.bead n).win w f } else b.bead k := by
  simp only [Block.modWin, Block.bead, Block.modBead, tget_tmod]
  by_cases h : k = n
  · subst h; simp
  · simp [h, Ne.symm h]
theorem Block.bead_modSlot (b : Block) (n k w : Nat) (f : Slot → Slot) :
    (b.modSlot n w f).bead k = if k = n then { b.bead n with slots := tmod {} (b.bead n).slots w f } else b.bead k := by
  simp only [Block.modSlot, Block.bead, Block.modBead, tget_tmod]
  by_cases h : k = n
  · subst h; simp
  · simp [h, Ne.symm h]
theorem Block.node_modSub (b : Block) (n k i : Nat) (f : Sub → Sub) :
    (b.modSub n f).node k i = if k = n then tget {} (f (b.sub n)).nodes i else b.node k i := by
  simp only [Block.node, Block.sub, Block.modSub, tget_tmod]
  by_cases h : k = n
  · subst h; simp
  · simp [h, Ne.symm h]
theorem Block.rx_modChan (b : Block) (n k q : Nat) (f : Chan → Chan) :
    (b.modChan n f).rx k q = if k = n then tget {} (f (b.chan n)).rx q else b.rx k q := by
  simp only [Block.rx, Block.chan, Block.modChan, tget_tmod]
  by_cases h : k = n
  · subst h; simp
  · simp [h, Ne.symm h]
theorem Block.tx_modChan (b : Block) (n k q : Nat) (f : Chan → Chan) :
    (b.modChan n f).tx k q = if k = n then tget {} (f (b.chan n)).tx q else b.tx k q := by
  simp only [Block.tx, Block.chan, Block.modChan, tget_tmod]
  by_cases h : k = n
  · subst h; simp
  · simp [h, Ne.symm h]
@[simp] theorem Block.modTile_win (b : Block) (n i k w : Nat) (f : Tile → Tile) : (b.modTile n i f).win k w = b.win k w := by
  simp only [Block.modTile, Block.win_modBead]; split <;> simp_all [Block.win]
@[simp] theorem Block.modTile_slot (b : Block) (n i k w : Nat) (f : Tile → Tile) : (b.modTile n i f).slot k w = b.slot k w := by
  simp only [Block.modTile, Block.slot_modBead]; split <;> simp_all [Block.slot]

@[simp] theorem Block.queue_pendSource (b : Block) (n : Nat) (i : Nat) : (b.pendSource n).queue i = b.queue i := by
  simp only [Block.queue, Block.pendSource_front]
@[simp] theorem Block.hws_pendSource (b : Block) (n : Nat) (i : Nat) : (b.pendSource n).hws i = b.hws i := by
  simp only [Block.hws, Block.pendSource_front]
@[simp] theorem Block.sub_pendSource (b : Block) (n : Nat) (i : Nat) : (b.pendSource n).sub i = b.sub i := by
  simp only [Block.sub, Block.pendSource_graph]
@[simp] theorem Block.node_pendSource (b : Block) (n : Nat) (i j : Nat) : (b.pendSource n).node i j = b.node i j := by
  simp only [Block.node, Block.sub, Block.pendSource_graph]
@[simp] theorem Block.cwin_pendSource (b : Block) (n : Nat) (i j : Nat) : (b.pendSource n).cwin i j = b.cwin i j := by
  simp only [Block.cwin, Block.pendSource_graph]
@[simp] theorem Block.fence_pendSource (b : Block) (n : Nat) (i : Nat) : (b.pendSource n).fence i = b.fence i := by
  simp only [Block.fence, Block.pendSource_fences]
@[simp] theorem Block.bead_pendSource (b : Block) (n : Nat) (i : Nat) : (b.pendSource n).bead i = b.bead i := by
  simp only [Block.bead, Block.pendSource_beads]
@[simp] theorem Block.win_pendSource (b : Block) (n : Nat) (i j : Nat) : (b.pendSource n).win i j = b.win i j := by
  simp only [Block.win, Block.bead, Block.pendSource_beads]
@[simp] theorem Block.slot_pendSource (b : Block) (n : Nat) (i j : Nat) : (b.pendSource n).slot i j = b.slot i j := by
  simp only [Block.slot, Block.bead, Block.pendSource_beads]
@[simp] theorem Block.chan_pendSource (b : Block) (n : Nat) (i : Nat) : (b.pendSource n).chan i = b.chan i := by
  simp only [Block.chan, Block.pendSource_chans]
@[simp] theorem Block.rx_pendSource (b : Block) (n : Nat) (i j : Nat) : (b.pendSource n).rx i j = b.rx i j := by
  simp only [Block.rx, Block.chan, Block.pendSource_chans]
@[simp] theorem Block.tx_pendSource (b : Block) (n : Nat) (i j : Nat) : (b.pendSource n).tx i j = b.tx i j := by
  simp only [Block.tx, Block.chan, Block.pendSource_chans]
@[simp] theorem Block.saf_pendSource (b : Block) (n : Nat) (i : Nat) : (b.pendSource n).saf i = b.saf i := by
  simp only [Block.saf, Block.pendSource_saffron]
@[simp] theorem Block.seqEntry_pendSource (b : Block) (n : Nat) (i : Nat) : (b.pendSource n).seqEntry i = b.seqEntry i := by
  simp only [Block.seqEntry, Block.pendSource_seq]
@[simp] theorem Block.seqCtx_pendSource (b : Block) (n : Nat) (i : Nat) : (b.pendSource n).seqCtx i = b.seqCtx i := by
  simp only [Block.seqCtx, Block.pendSource_seq]
@[simp] theorem Block.cq_pendSource (b : Block) (n : Nat) (i : Nat) : (b.pendSource n).cq i = b.cq i := by
  simp only [Block.cq, Block.pendSource_cqs]
@[simp] theorem Block.peer_pendSource (b : Block) (n : Nat) (i : Nat) : (b.pendSource n).peer i = b.peer i := by
  simp only [Block.peer, Block.pendSource_link]
@[simp] theorem Block.part_pendSource (b : Block) (n : Nat) (i : Nat) : (b.pendSource n).part i = b.part i := by
  simp only [Block.part, Block.pendSource_parts]
@[simp] theorem Block.ctx_pendSource (b : Block) (n : Nat) (i : Nat) : (b.pendSource n).ctx i = b.ctx i := by
  simp only [Block.ctx, Block.pendSource_parts]
@[simp] theorem Block.pbead_pendSource (b : Block) (n : Nat) (i : Nat) : (b.pendSource n).pbead i = b.pbead i := by
  simp only [Block.pbead, Block.pendSource_parts]
@[simp] theorem Block.lane_pendSource (b : Block) (n : Nat) (i : Nat) : (b.pendSource n).lane i = b.lane i := by
  simp only [Block.lane, Block.pendSource_lanes]
@[simp] theorem Block.evSrc_pendSource (b : Block) (n : Nat) (i : Nat) : (b.pendSource n).evSrc i = b.evSrc i := by
  unfold Block.pendSource; split <;> rfl
@[simp] theorem Block.evGroup_pendSource (b : Block) (n : Nat) (i : Nat) : (b.pendSource n).evGroup i = b.evGroup i := by
  unfold Block.pendSource; split <;> rfl
@[simp] theorem Block.evTarget_pendSource (b : Block) (n : Nat) (i : Nat) : (b.pendSource n).evTarget i = b.evTarget i := by
  unfold Block.pendSource; split <;> rfl
@[simp] theorem Block.dom_pendSource (b : Block) (n : Nat) (i : Nat) : (b.pendSource n).dom i = b.dom i := by
  simp only [Block.dom, Block.pendSource_power]
@[simp] theorem Block.queue_traceEvent (b : Block) (c u a : Nat) (ws : List Word) (i : Nat) : (b.traceEvent c u a ws).queue i = b.queue i := by
  simp only [Block.queue, Block.traceEvent_front]
@[simp] theorem Block.hws_traceEvent (b : Block) (c u a : Nat) (ws : List Word) (i : Nat) : (b.traceEvent c u a ws).hws i = b.hws i := by
  simp only [Block.hws, Block.traceEvent_front]
@[simp] theorem Block.sub_traceEvent (b : Block) (c u a : Nat) (ws : List Word) (i : Nat) : (b.traceEvent c u a ws).sub i = b.sub i := by
  simp only [Block.sub, Block.traceEvent_graph]
@[simp] theorem Block.node_traceEvent (b : Block) (c u a : Nat) (ws : List Word) (i j : Nat) : (b.traceEvent c u a ws).node i j = b.node i j := by
  simp only [Block.node, Block.sub, Block.traceEvent_graph]
@[simp] theorem Block.cwin_traceEvent (b : Block) (c u a : Nat) (ws : List Word) (i j : Nat) : (b.traceEvent c u a ws).cwin i j = b.cwin i j := by
  simp only [Block.cwin, Block.traceEvent_graph]
@[simp] theorem Block.fence_traceEvent (b : Block) (c u a : Nat) (ws : List Word) (i : Nat) : (b.traceEvent c u a ws).fence i = b.fence i := by
  simp only [Block.fence, Block.traceEvent_fences]
@[simp] theorem Block.bead_traceEvent (b : Block) (c u a : Nat) (ws : List Word) (i : Nat) : (b.traceEvent c u a ws).bead i = b.bead i := by
  simp only [Block.bead, Block.traceEvent_beads]
@[simp] theorem Block.win_traceEvent (b : Block) (c u a : Nat) (ws : List Word) (i j : Nat) : (b.traceEvent c u a ws).win i j = b.win i j := by
  simp only [Block.win, Block.bead, Block.traceEvent_beads]
@[simp] theorem Block.slot_traceEvent (b : Block) (c u a : Nat) (ws : List Word) (i j : Nat) : (b.traceEvent c u a ws).slot i j = b.slot i j := by
  simp only [Block.slot, Block.bead, Block.traceEvent_beads]
@[simp] theorem Block.chan_traceEvent (b : Block) (c u a : Nat) (ws : List Word) (i : Nat) : (b.traceEvent c u a ws).chan i = b.chan i := by
  simp only [Block.chan, Block.traceEvent_chans]
@[simp] theorem Block.rx_traceEvent (b : Block) (c u a : Nat) (ws : List Word) (i j : Nat) : (b.traceEvent c u a ws).rx i j = b.rx i j := by
  simp only [Block.rx, Block.chan, Block.traceEvent_chans]
@[simp] theorem Block.tx_traceEvent (b : Block) (c u a : Nat) (ws : List Word) (i j : Nat) : (b.traceEvent c u a ws).tx i j = b.tx i j := by
  simp only [Block.tx, Block.chan, Block.traceEvent_chans]
@[simp] theorem Block.saf_traceEvent (b : Block) (c u a : Nat) (ws : List Word) (i : Nat) : (b.traceEvent c u a ws).saf i = b.saf i := by
  simp only [Block.saf, Block.traceEvent_saffron]
@[simp] theorem Block.seqEntry_traceEvent (b : Block) (c u a : Nat) (ws : List Word) (i : Nat) : (b.traceEvent c u a ws).seqEntry i = b.seqEntry i := by
  simp only [Block.seqEntry, Block.traceEvent_seq]
@[simp] theorem Block.seqCtx_traceEvent (b : Block) (c u a : Nat) (ws : List Word) (i : Nat) : (b.traceEvent c u a ws).seqCtx i = b.seqCtx i := by
  simp only [Block.seqCtx, Block.traceEvent_seq]
@[simp] theorem Block.cq_traceEvent (b : Block) (c u a : Nat) (ws : List Word) (i : Nat) : (b.traceEvent c u a ws).cq i = b.cq i := by
  simp only [Block.cq, Block.traceEvent_cqs]
@[simp] theorem Block.peer_traceEvent (b : Block) (c u a : Nat) (ws : List Word) (i : Nat) : (b.traceEvent c u a ws).peer i = b.peer i := by
  simp only [Block.peer, Block.traceEvent_link]
@[simp] theorem Block.part_traceEvent (b : Block) (c u a : Nat) (ws : List Word) (i : Nat) : (b.traceEvent c u a ws).part i = b.part i := by
  simp only [Block.part, Block.traceEvent_parts]
@[simp] theorem Block.ctx_traceEvent (b : Block) (c u a : Nat) (ws : List Word) (i : Nat) : (b.traceEvent c u a ws).ctx i = b.ctx i := by
  simp only [Block.ctx, Block.traceEvent_parts]
@[simp] theorem Block.pbead_traceEvent (b : Block) (c u a : Nat) (ws : List Word) (i : Nat) : (b.traceEvent c u a ws).pbead i = b.pbead i := by
  simp only [Block.pbead, Block.traceEvent_parts]
@[simp] theorem Block.lane_traceEvent (b : Block) (c u a : Nat) (ws : List Word) (i : Nat) : (b.traceEvent c u a ws).lane i = b.lane i := by
  simp only [Block.lane, Block.traceEvent_lanes]
@[simp] theorem Block.evSrc_traceEvent (b : Block) (c u a : Nat) (ws : List Word) (i : Nat) : (b.traceEvent c u a ws).evSrc i = b.evSrc i := by
  unfold Block.traceEvent; repeat' split
  all_goals first | rfl | exact Block.evSrc_pendSource _ _ _
@[simp] theorem Block.evGroup_traceEvent (b : Block) (c u a : Nat) (ws : List Word) (i : Nat) : (b.traceEvent c u a ws).evGroup i = b.evGroup i := by
  unfold Block.traceEvent; repeat' split
  all_goals first | rfl | exact Block.evGroup_pendSource _ _ _
@[simp] theorem Block.evTarget_traceEvent (b : Block) (c u a : Nat) (ws : List Word) (i : Nat) : (b.traceEvent c u a ws).evTarget i = b.evTarget i := by
  unfold Block.traceEvent; repeat' split
  all_goals first | rfl | exact Block.evTarget_pendSource _ _ _
@[simp] theorem Block.dom_traceEvent (b : Block) (c u a : Nat) (ws : List Word) (i : Nat) : (b.traceEvent c u a ws).dom i = b.dom i := by
  simp only [Block.dom, Block.traceEvent_power]
@[simp] theorem Block.queue_raise (b : Block) (n : Nat) (i : Nat) : (b.raise n).queue i = b.queue i := by
  simp only [Block.queue, Block.raise_front]
@[simp] theorem Block.hws_raise (b : Block) (n : Nat) (i : Nat) : (b.raise n).hws i = b.hws i := by
  simp only [Block.hws, Block.raise_front]
@[simp] theorem Block.sub_raise (b : Block) (n : Nat) (i : Nat) : (b.raise n).sub i = b.sub i := by
  simp only [Block.sub, Block.raise_graph]
@[simp] theorem Block.node_raise (b : Block) (n : Nat) (i j : Nat) : (b.raise n).node i j = b.node i j := by
  simp only [Block.node, Block.sub, Block.raise_graph]
@[simp] theorem Block.cwin_raise (b : Block) (n : Nat) (i j : Nat) : (b.raise n).cwin i j = b.cwin i j := by
  simp only [Block.cwin, Block.raise_graph]
@[simp] theorem Block.fence_raise (b : Block) (n : Nat) (i : Nat) : (b.raise n).fence i = b.fence i := by
  simp only [Block.fence, Block.raise_fences]
@[simp] theorem Block.bead_raise (b : Block) (n : Nat) (i : Nat) : (b.raise n).bead i = b.bead i := by
  simp only [Block.bead, Block.raise_beads]
@[simp] theorem Block.win_raise (b : Block) (n : Nat) (i j : Nat) : (b.raise n).win i j = b.win i j := by
  simp only [Block.win, Block.bead, Block.raise_beads]
@[simp] theorem Block.slot_raise (b : Block) (n : Nat) (i j : Nat) : (b.raise n).slot i j = b.slot i j := by
  simp only [Block.slot, Block.bead, Block.raise_beads]
@[simp] theorem Block.chan_raise (b : Block) (n : Nat) (i : Nat) : (b.raise n).chan i = b.chan i := by
  simp only [Block.chan, Block.raise_chans]
@[simp] theorem Block.rx_raise (b : Block) (n : Nat) (i j : Nat) : (b.raise n).rx i j = b.rx i j := by
  simp only [Block.rx, Block.chan, Block.raise_chans]
@[simp] theorem Block.tx_raise (b : Block) (n : Nat) (i j : Nat) : (b.raise n).tx i j = b.tx i j := by
  simp only [Block.tx, Block.chan, Block.raise_chans]
@[simp] theorem Block.saf_raise (b : Block) (n : Nat) (i : Nat) : (b.raise n).saf i = b.saf i := by
  simp only [Block.saf, Block.raise_saffron]
@[simp] theorem Block.seqEntry_raise (b : Block) (n : Nat) (i : Nat) : (b.raise n).seqEntry i = b.seqEntry i := by
  simp only [Block.seqEntry, Block.raise_seq]
@[simp] theorem Block.seqCtx_raise (b : Block) (n : Nat) (i : Nat) : (b.raise n).seqCtx i = b.seqCtx i := by
  simp only [Block.seqCtx, Block.raise_seq]
@[simp] theorem Block.cq_raise (b : Block) (n : Nat) (i : Nat) : (b.raise n).cq i = b.cq i := by
  simp only [Block.cq, Block.raise_cqs]
@[simp] theorem Block.peer_raise (b : Block) (n : Nat) (i : Nat) : (b.raise n).peer i = b.peer i := by
  simp only [Block.peer, Block.raise_link]
@[simp] theorem Block.part_raise (b : Block) (n : Nat) (i : Nat) : (b.raise n).part i = b.part i := by
  simp only [Block.part, Block.raise_parts]
@[simp] theorem Block.ctx_raise (b : Block) (n : Nat) (i : Nat) : (b.raise n).ctx i = b.ctx i := by
  simp only [Block.ctx, Block.raise_parts]
@[simp] theorem Block.pbead_raise (b : Block) (n : Nat) (i : Nat) : (b.raise n).pbead i = b.pbead i := by
  simp only [Block.pbead, Block.raise_parts]
@[simp] theorem Block.lane_raise (b : Block) (n : Nat) (i : Nat) : (b.raise n).lane i = b.lane i := by
  simp only [Block.lane, Block.raise_lanes]
@[simp] theorem Block.evSrc_raise (b : Block) (n : Nat) (i : Nat) : (b.raise n).evSrc i = b.evSrc i := by
  unfold Block.raise; dsimp only; split <;> simp
@[simp] theorem Block.evGroup_raise (b : Block) (n : Nat) (i : Nat) : (b.raise n).evGroup i = b.evGroup i := by
  unfold Block.raise; dsimp only; split <;> simp
@[simp] theorem Block.evTarget_raise (b : Block) (n : Nat) (i : Nat) : (b.raise n).evTarget i = b.evTarget i := by
  unfold Block.raise; dsimp only; split <;> simp
@[simp] theorem Block.dom_raise (b : Block) (n : Nat) (i : Nat) : (b.raise n).dom i = b.dom i := by
  simp only [Block.dom, Block.raise_power]
@[simp] theorem Block.queue_locket (b : Block) (u r c a : Nat) (i : Nat) : (b.locket u r c a).queue i = b.queue i := by
  simp only [Block.queue, Block.locket_front]
@[simp] theorem Block.hws_locket (b : Block) (u r c a : Nat) (i : Nat) : (b.locket u r c a).hws i = b.hws i := by
  simp only [Block.hws, Block.locket_front]
@[simp] theorem Block.sub_locket (b : Block) (u r c a : Nat) (i : Nat) : (b.locket u r c a).sub i = b.sub i := by
  simp only [Block.sub, Block.locket_graph]
@[simp] theorem Block.node_locket (b : Block) (u r c a : Nat) (i j : Nat) : (b.locket u r c a).node i j = b.node i j := by
  simp only [Block.node, Block.sub, Block.locket_graph]
@[simp] theorem Block.cwin_locket (b : Block) (u r c a : Nat) (i j : Nat) : (b.locket u r c a).cwin i j = b.cwin i j := by
  simp only [Block.cwin, Block.locket_graph]
@[simp] theorem Block.fence_locket (b : Block) (u r c a : Nat) (i : Nat) : (b.locket u r c a).fence i = b.fence i := by
  simp only [Block.fence, Block.locket_fences]
@[simp] theorem Block.bead_locket (b : Block) (u r c a : Nat) (i : Nat) : (b.locket u r c a).bead i = b.bead i := by
  simp only [Block.bead, Block.locket_beads]
@[simp] theorem Block.win_locket (b : Block) (u r c a : Nat) (i j : Nat) : (b.locket u r c a).win i j = b.win i j := by
  simp only [Block.win, Block.bead, Block.locket_beads]
@[simp] theorem Block.slot_locket (b : Block) (u r c a : Nat) (i j : Nat) : (b.locket u r c a).slot i j = b.slot i j := by
  simp only [Block.slot, Block.bead, Block.locket_beads]
@[simp] theorem Block.chan_locket (b : Block) (u r c a : Nat) (i : Nat) : (b.locket u r c a).chan i = b.chan i := by
  simp only [Block.chan, Block.locket_chans]
@[simp] theorem Block.rx_locket (b : Block) (u r c a : Nat) (i j : Nat) : (b.locket u r c a).rx i j = b.rx i j := by
  simp only [Block.rx, Block.chan, Block.locket_chans]
@[simp] theorem Block.tx_locket (b : Block) (u r c a : Nat) (i j : Nat) : (b.locket u r c a).tx i j = b.tx i j := by
  simp only [Block.tx, Block.chan, Block.locket_chans]
@[simp] theorem Block.saf_locket (b : Block) (u r c a : Nat) (i : Nat) : (b.locket u r c a).saf i = b.saf i := by
  simp only [Block.saf, Block.locket_saffron]
@[simp] theorem Block.seqEntry_locket (b : Block) (u r c a : Nat) (i : Nat) : (b.locket u r c a).seqEntry i = b.seqEntry i := by
  simp only [Block.seqEntry, Block.locket_seq]
@[simp] theorem Block.seqCtx_locket (b : Block) (u r c a : Nat) (i : Nat) : (b.locket u r c a).seqCtx i = b.seqCtx i := by
  simp only [Block.seqCtx, Block.locket_seq]
@[simp] theorem Block.cq_locket (b : Block) (u r c a : Nat) (i : Nat) : (b.locket u r c a).cq i = b.cq i := by
  simp only [Block.cq, Block.locket_cqs]
@[simp] theorem Block.peer_locket (b : Block) (u r c a : Nat) (i : Nat) : (b.locket u r c a).peer i = b.peer i := by
  simp only [Block.peer, Block.locket_link]
@[simp] theorem Block.part_locket (b : Block) (u r c a : Nat) (i : Nat) : (b.locket u r c a).part i = b.part i := by
  simp only [Block.part, Block.locket_parts]
@[simp] theorem Block.ctx_locket (b : Block) (u r c a : Nat) (i : Nat) : (b.locket u r c a).ctx i = b.ctx i := by
  simp only [Block.ctx, Block.locket_parts]
@[simp] theorem Block.pbead_locket (b : Block) (u r c a : Nat) (i : Nat) : (b.locket u r c a).pbead i = b.pbead i := by
  simp only [Block.pbead, Block.locket_parts]
@[simp] theorem Block.lane_locket (b : Block) (u r c a : Nat) (i : Nat) : (b.locket u r c a).lane i = b.lane i := by
  simp only [Block.lane, Block.locket_lanes]
@[simp] theorem Block.evSrc_locket (b : Block) (u r c a : Nat) (i : Nat) : (b.locket u r c a).evSrc i = b.evSrc i := by
  simp only [Block.evSrc, Block.locket_evc]
@[simp] theorem Block.evGroup_locket (b : Block) (u r c a : Nat) (i : Nat) : (b.locket u r c a).evGroup i = b.evGroup i := by
  simp only [Block.evGroup, Block.locket_evc]
@[simp] theorem Block.evTarget_locket (b : Block) (u r c a : Nat) (i : Nat) : (b.locket u r c a).evTarget i = b.evTarget i := by
  simp only [Block.evTarget, Block.locket_evc]
@[simp] theorem Block.dom_locket (b : Block) (u r c a : Nat) (i : Nat) : (b.locket u r c a).dom i = b.dom i := by
  simp only [Block.dom, Block.locket_power]
@[simp] theorem Block.queue_claspLocket (b : Block) (c a : Nat) (i : Nat) : (b.claspLocket c a).queue i = b.queue i := by
  simp only [Block.queue, Block.claspLocket_front]
@[simp] theorem Block.hws_claspLocket (b : Block) (c a : Nat) (i : Nat) : (b.claspLocket c a).hws i = b.hws i := by
  simp only [Block.hws, Block.claspLocket_front]
@[simp] theorem Block.sub_claspLocket (b : Block) (c a : Nat) (i : Nat) : (b.claspLocket c a).sub i = b.sub i := by
  simp only [Block.sub, Block.claspLocket_graph]
@[simp] theorem Block.node_claspLocket (b : Block) (c a : Nat) (i j : Nat) : (b.claspLocket c a).node i j = b.node i j := by
  simp only [Block.node, Block.sub, Block.claspLocket_graph]
@[simp] theorem Block.cwin_claspLocket (b : Block) (c a : Nat) (i j : Nat) : (b.claspLocket c a).cwin i j = b.cwin i j := by
  simp only [Block.cwin, Block.claspLocket_graph]
@[simp] theorem Block.fence_claspLocket (b : Block) (c a : Nat) (i : Nat) : (b.claspLocket c a).fence i = b.fence i := by
  simp only [Block.fence, Block.claspLocket_fences]
@[simp] theorem Block.bead_claspLocket (b : Block) (c a : Nat) (i : Nat) : (b.claspLocket c a).bead i = b.bead i := by
  simp only [Block.bead, Block.claspLocket_beads]
@[simp] theorem Block.win_claspLocket (b : Block) (c a : Nat) (i j : Nat) : (b.claspLocket c a).win i j = b.win i j := by
  simp only [Block.win, Block.bead, Block.claspLocket_beads]
@[simp] theorem Block.slot_claspLocket (b : Block) (c a : Nat) (i j : Nat) : (b.claspLocket c a).slot i j = b.slot i j := by
  simp only [Block.slot, Block.bead, Block.claspLocket_beads]
@[simp] theorem Block.chan_claspLocket (b : Block) (c a : Nat) (i : Nat) : (b.claspLocket c a).chan i = b.chan i := by
  simp only [Block.chan, Block.claspLocket_chans]
@[simp] theorem Block.rx_claspLocket (b : Block) (c a : Nat) (i j : Nat) : (b.claspLocket c a).rx i j = b.rx i j := by
  simp only [Block.rx, Block.chan, Block.claspLocket_chans]
@[simp] theorem Block.tx_claspLocket (b : Block) (c a : Nat) (i j : Nat) : (b.claspLocket c a).tx i j = b.tx i j := by
  simp only [Block.tx, Block.chan, Block.claspLocket_chans]
@[simp] theorem Block.saf_claspLocket (b : Block) (c a : Nat) (i : Nat) : (b.claspLocket c a).saf i = b.saf i := by
  simp only [Block.saf, Block.claspLocket_saffron]
@[simp] theorem Block.seqEntry_claspLocket (b : Block) (c a : Nat) (i : Nat) : (b.claspLocket c a).seqEntry i = b.seqEntry i := by
  simp only [Block.seqEntry, Block.claspLocket_seq]
@[simp] theorem Block.seqCtx_claspLocket (b : Block) (c a : Nat) (i : Nat) : (b.claspLocket c a).seqCtx i = b.seqCtx i := by
  simp only [Block.seqCtx, Block.claspLocket_seq]
@[simp] theorem Block.cq_claspLocket (b : Block) (c a : Nat) (i : Nat) : (b.claspLocket c a).cq i = b.cq i := by
  simp only [Block.cq, Block.claspLocket_cqs]
@[simp] theorem Block.peer_claspLocket (b : Block) (c a : Nat) (i : Nat) : (b.claspLocket c a).peer i = b.peer i := by
  simp only [Block.peer, Block.claspLocket_link]
@[simp] theorem Block.part_claspLocket (b : Block) (c a : Nat) (i : Nat) : (b.claspLocket c a).part i = b.part i := by
  simp only [Block.part, Block.claspLocket_parts]
@[simp] theorem Block.ctx_claspLocket (b : Block) (c a : Nat) (i : Nat) : (b.claspLocket c a).ctx i = b.ctx i := by
  simp only [Block.ctx, Block.claspLocket_parts]
@[simp] theorem Block.pbead_claspLocket (b : Block) (c a : Nat) (i : Nat) : (b.claspLocket c a).pbead i = b.pbead i := by
  simp only [Block.pbead, Block.claspLocket_parts]
@[simp] theorem Block.lane_claspLocket (b : Block) (c a : Nat) (i : Nat) : (b.claspLocket c a).lane i = b.lane i := by
  simp only [Block.lane, Block.claspLocket_lanes]
@[simp] theorem Block.evSrc_claspLocket (b : Block) (c a : Nat) (i : Nat) : (b.claspLocket c a).evSrc i = b.evSrc i := by
  simp only [Block.evSrc, Block.claspLocket_evc]
@[simp] theorem Block.evGroup_claspLocket (b : Block) (c a : Nat) (i : Nat) : (b.claspLocket c a).evGroup i = b.evGroup i := by
  simp only [Block.evGroup, Block.claspLocket_evc]
@[simp] theorem Block.evTarget_claspLocket (b : Block) (c a : Nat) (i : Nat) : (b.claspLocket c a).evTarget i = b.evTarget i := by
  simp only [Block.evTarget, Block.claspLocket_evc]
@[simp] theorem Block.dom_claspLocket (b : Block) (c a : Nat) (i : Nat) : (b.claspLocket c a).dom i = b.dom i := by
  simp only [Block.dom, Block.claspLocket_power]
@[simp] theorem Block.queue_ask (b : Block) (q c a l : Nat) (w : RPurpose) (i : Nat) : (b.ask q c a l w).queue i = b.queue i := by
  simp only [Block.queue, Block.ask_front]
@[simp] theorem Block.hws_ask (b : Block) (q c a l : Nat) (w : RPurpose) (i : Nat) : (b.ask q c a l w).hws i = b.hws i := by
  simp only [Block.hws, Block.ask_front]
@[simp] theorem Block.sub_ask (b : Block) (q c a l : Nat) (w : RPurpose) (i : Nat) : (b.ask q c a l w).sub i = b.sub i := by
  simp only [Block.sub, Block.ask_graph]
@[simp] theorem Block.node_ask (b : Block) (q c a l : Nat) (w : RPurpose) (i j : Nat) : (b.ask q c a l w).node i j = b.node i j := by
  simp only [Block.node, Block.sub, Block.ask_graph]
@[simp] theorem Block.cwin_ask (b : Block) (q c a l : Nat) (w : RPurpose) (i j : Nat) : (b.ask q c a l w).cwin i j = b.cwin i j := by
  simp only [Block.cwin, Block.ask_graph]
@[simp] theorem Block.fence_ask (b : Block) (q c a l : Nat) (w : RPurpose) (i : Nat) : (b.ask q c a l w).fence i = b.fence i := by
  simp only [Block.fence, Block.ask_fences]
@[simp] theorem Block.bead_ask (b : Block) (q c a l : Nat) (w : RPurpose) (i : Nat) : (b.ask q c a l w).bead i = b.bead i := by
  simp only [Block.bead, Block.ask_beads]
@[simp] theorem Block.win_ask (b : Block) (q c a l : Nat) (w : RPurpose) (i j : Nat) : (b.ask q c a l w).win i j = b.win i j := by
  simp only [Block.win, Block.bead, Block.ask_beads]
@[simp] theorem Block.slot_ask (b : Block) (q c a l : Nat) (w : RPurpose) (i j : Nat) : (b.ask q c a l w).slot i j = b.slot i j := by
  simp only [Block.slot, Block.bead, Block.ask_beads]
@[simp] theorem Block.chan_ask (b : Block) (q c a l : Nat) (w : RPurpose) (i : Nat) : (b.ask q c a l w).chan i = b.chan i := by
  simp only [Block.chan, Block.ask_chans]
@[simp] theorem Block.rx_ask (b : Block) (q c a l : Nat) (w : RPurpose) (i j : Nat) : (b.ask q c a l w).rx i j = b.rx i j := by
  simp only [Block.rx, Block.chan, Block.ask_chans]
@[simp] theorem Block.tx_ask (b : Block) (q c a l : Nat) (w : RPurpose) (i j : Nat) : (b.ask q c a l w).tx i j = b.tx i j := by
  simp only [Block.tx, Block.chan, Block.ask_chans]
@[simp] theorem Block.saf_ask (b : Block) (q c a l : Nat) (w : RPurpose) (i : Nat) : (b.ask q c a l w).saf i = b.saf i := by
  simp only [Block.saf, Block.ask_saffron]
@[simp] theorem Block.seqEntry_ask (b : Block) (q c a l : Nat) (w : RPurpose) (i : Nat) : (b.ask q c a l w).seqEntry i = b.seqEntry i := by
  simp only [Block.seqEntry, Block.ask_seq]
@[simp] theorem Block.seqCtx_ask (b : Block) (q c a l : Nat) (w : RPurpose) (i : Nat) : (b.ask q c a l w).seqCtx i = b.seqCtx i := by
  simp only [Block.seqCtx, Block.ask_seq]
@[simp] theorem Block.cq_ask (b : Block) (q c a l : Nat) (w : RPurpose) (i : Nat) : (b.ask q c a l w).cq i = b.cq i := by
  simp only [Block.cq, Block.ask_cqs]
@[simp] theorem Block.peer_ask (b : Block) (q c a l : Nat) (w : RPurpose) (i : Nat) : (b.ask q c a l w).peer i = b.peer i := by
  simp only [Block.peer, Block.ask_link]
@[simp] theorem Block.part_ask (b : Block) (q c a l : Nat) (w : RPurpose) (i : Nat) : (b.ask q c a l w).part i = b.part i := by
  simp only [Block.part, Block.ask_parts]
@[simp] theorem Block.ctx_ask (b : Block) (q c a l : Nat) (w : RPurpose) (i : Nat) : (b.ask q c a l w).ctx i = b.ctx i := by
  simp only [Block.ctx, Block.ask_parts]
@[simp] theorem Block.pbead_ask (b : Block) (q c a l : Nat) (w : RPurpose) (i : Nat) : (b.ask q c a l w).pbead i = b.pbead i := by
  simp only [Block.pbead, Block.ask_parts]
@[simp] theorem Block.lane_ask (b : Block) (q c a l : Nat) (w : RPurpose) (i : Nat) : (b.ask q c a l w).lane i = b.lane i := by
  simp only [Block.lane, Block.ask_lanes]
@[simp] theorem Block.evSrc_ask (b : Block) (q c a l : Nat) (w : RPurpose) (i : Nat) : (b.ask q c a l w).evSrc i = b.evSrc i := by
  simp only [Block.evSrc, Block.ask_evc]
@[simp] theorem Block.evGroup_ask (b : Block) (q c a l : Nat) (w : RPurpose) (i : Nat) : (b.ask q c a l w).evGroup i = b.evGroup i := by
  simp only [Block.evGroup, Block.ask_evc]
@[simp] theorem Block.evTarget_ask (b : Block) (q c a l : Nat) (w : RPurpose) (i : Nat) : (b.ask q c a l w).evTarget i = b.evTarget i := by
  simp only [Block.evTarget, Block.ask_evc]
@[simp] theorem Block.dom_ask (b : Block) (q c a l : Nat) (w : RPurpose) (i : Nat) : (b.ask q c a l w).dom i = b.dom i := by
  simp only [Block.dom, Block.ask_power]
@[simp] theorem Block.queue_put (b : Block) (q c a : Nat) (x : List Byte) (w : WPurpose) (i : Nat) : (b.put q c a x w).queue i = b.queue i := by
  simp only [Block.queue, Block.put_front]
@[simp] theorem Block.hws_put (b : Block) (q c a : Nat) (x : List Byte) (w : WPurpose) (i : Nat) : (b.put q c a x w).hws i = b.hws i := by
  simp only [Block.hws, Block.put_front]
@[simp] theorem Block.sub_put (b : Block) (q c a : Nat) (x : List Byte) (w : WPurpose) (i : Nat) : (b.put q c a x w).sub i = b.sub i := by
  simp only [Block.sub, Block.put_graph]
@[simp] theorem Block.node_put (b : Block) (q c a : Nat) (x : List Byte) (w : WPurpose) (i j : Nat) : (b.put q c a x w).node i j = b.node i j := by
  simp only [Block.node, Block.sub, Block.put_graph]
@[simp] theorem Block.cwin_put (b : Block) (q c a : Nat) (x : List Byte) (w : WPurpose) (i j : Nat) : (b.put q c a x w).cwin i j = b.cwin i j := by
  simp only [Block.cwin, Block.put_graph]
@[simp] theorem Block.fence_put (b : Block) (q c a : Nat) (x : List Byte) (w : WPurpose) (i : Nat) : (b.put q c a x w).fence i = b.fence i := by
  simp only [Block.fence, Block.put_fences]
@[simp] theorem Block.bead_put (b : Block) (q c a : Nat) (x : List Byte) (w : WPurpose) (i : Nat) : (b.put q c a x w).bead i = b.bead i := by
  simp only [Block.bead, Block.put_beads]
@[simp] theorem Block.win_put (b : Block) (q c a : Nat) (x : List Byte) (w : WPurpose) (i j : Nat) : (b.put q c a x w).win i j = b.win i j := by
  simp only [Block.win, Block.bead, Block.put_beads]
@[simp] theorem Block.slot_put (b : Block) (q c a : Nat) (x : List Byte) (w : WPurpose) (i j : Nat) : (b.put q c a x w).slot i j = b.slot i j := by
  simp only [Block.slot, Block.bead, Block.put_beads]
@[simp] theorem Block.chan_put (b : Block) (q c a : Nat) (x : List Byte) (w : WPurpose) (i : Nat) : (b.put q c a x w).chan i = b.chan i := by
  simp only [Block.chan, Block.put_chans]
@[simp] theorem Block.rx_put (b : Block) (q c a : Nat) (x : List Byte) (w : WPurpose) (i j : Nat) : (b.put q c a x w).rx i j = b.rx i j := by
  simp only [Block.rx, Block.chan, Block.put_chans]
@[simp] theorem Block.tx_put (b : Block) (q c a : Nat) (x : List Byte) (w : WPurpose) (i j : Nat) : (b.put q c a x w).tx i j = b.tx i j := by
  simp only [Block.tx, Block.chan, Block.put_chans]
@[simp] theorem Block.saf_put (b : Block) (q c a : Nat) (x : List Byte) (w : WPurpose) (i : Nat) : (b.put q c a x w).saf i = b.saf i := by
  simp only [Block.saf, Block.put_saffron]
@[simp] theorem Block.seqEntry_put (b : Block) (q c a : Nat) (x : List Byte) (w : WPurpose) (i : Nat) : (b.put q c a x w).seqEntry i = b.seqEntry i := by
  simp only [Block.seqEntry, Block.put_seq]
@[simp] theorem Block.seqCtx_put (b : Block) (q c a : Nat) (x : List Byte) (w : WPurpose) (i : Nat) : (b.put q c a x w).seqCtx i = b.seqCtx i := by
  simp only [Block.seqCtx, Block.put_seq]
@[simp] theorem Block.cq_put (b : Block) (q c a : Nat) (x : List Byte) (w : WPurpose) (i : Nat) : (b.put q c a x w).cq i = b.cq i := by
  simp only [Block.cq, Block.put_cqs]
@[simp] theorem Block.peer_put (b : Block) (q c a : Nat) (x : List Byte) (w : WPurpose) (i : Nat) : (b.put q c a x w).peer i = b.peer i := by
  simp only [Block.peer, Block.put_link]
@[simp] theorem Block.part_put (b : Block) (q c a : Nat) (x : List Byte) (w : WPurpose) (i : Nat) : (b.put q c a x w).part i = b.part i := by
  simp only [Block.part, Block.put_parts]
@[simp] theorem Block.ctx_put (b : Block) (q c a : Nat) (x : List Byte) (w : WPurpose) (i : Nat) : (b.put q c a x w).ctx i = b.ctx i := by
  simp only [Block.ctx, Block.put_parts]
@[simp] theorem Block.pbead_put (b : Block) (q c a : Nat) (x : List Byte) (w : WPurpose) (i : Nat) : (b.put q c a x w).pbead i = b.pbead i := by
  simp only [Block.pbead, Block.put_parts]
@[simp] theorem Block.lane_put (b : Block) (q c a : Nat) (x : List Byte) (w : WPurpose) (i : Nat) : (b.put q c a x w).lane i = b.lane i := by
  simp only [Block.lane, Block.put_lanes]
@[simp] theorem Block.evSrc_put (b : Block) (q c a : Nat) (x : List Byte) (w : WPurpose) (i : Nat) : (b.put q c a x w).evSrc i = b.evSrc i := by
  simp only [Block.evSrc, Block.put_evc]
@[simp] theorem Block.evGroup_put (b : Block) (q c a : Nat) (x : List Byte) (w : WPurpose) (i : Nat) : (b.put q c a x w).evGroup i = b.evGroup i := by
  simp only [Block.evGroup, Block.put_evc]
@[simp] theorem Block.evTarget_put (b : Block) (q c a : Nat) (x : List Byte) (w : WPurpose) (i : Nat) : (b.put q c a x w).evTarget i = b.evTarget i := by
  simp only [Block.evTarget, Block.put_evc]
@[simp] theorem Block.dom_put (b : Block) (q c a : Nat) (x : List Byte) (w : WPurpose) (i : Nat) : (b.put q c a x w).dom i = b.dom i := by
  simp only [Block.dom, Block.put_power]
@[simp] theorem Block.queue_progress (b : Block) (k u : Nat) (i : Nat) : (b.progress k u).queue i = b.queue i := by
  rfl
@[simp] theorem Block.hws_progress (b : Block) (k u : Nat) (i : Nat) : (b.progress k u).hws i = b.hws i := by
  rfl
@[simp] theorem Block.sub_progress (b : Block) (k u : Nat) (i : Nat) : (b.progress k u).sub i = b.sub i := by
  simp only [Block.sub, Block.progress_graph]
@[simp] theorem Block.node_progress (b : Block) (k u : Nat) (i j : Nat) : (b.progress k u).node i j = b.node i j := by
  simp only [Block.node, Block.sub, Block.progress_graph]
@[simp] theorem Block.cwin_progress (b : Block) (k u : Nat) (i j : Nat) : (b.progress k u).cwin i j = b.cwin i j := by
  simp only [Block.cwin, Block.progress_graph]
@[simp] theorem Block.fence_progress (b : Block) (k u : Nat) (i : Nat) : (b.progress k u).fence i = b.fence i := by
  simp only [Block.fence, Block.progress_fences]
@[simp] theorem Block.bead_progress (b : Block) (k u : Nat) (i : Nat) : (b.progress k u).bead i = b.bead i := by
  simp only [Block.bead, Block.progress_beads]
@[simp] theorem Block.win_progress (b : Block) (k u : Nat) (i j : Nat) : (b.progress k u).win i j = b.win i j := by
  simp only [Block.win, Block.bead, Block.progress_beads]
@[simp] theorem Block.slot_progress (b : Block) (k u : Nat) (i j : Nat) : (b.progress k u).slot i j = b.slot i j := by
  simp only [Block.slot, Block.bead, Block.progress_beads]
@[simp] theorem Block.chan_progress (b : Block) (k u : Nat) (i : Nat) : (b.progress k u).chan i = b.chan i := by
  simp only [Block.chan, Block.progress_chans]
@[simp] theorem Block.rx_progress (b : Block) (k u : Nat) (i j : Nat) : (b.progress k u).rx i j = b.rx i j := by
  simp only [Block.rx, Block.chan, Block.progress_chans]
@[simp] theorem Block.tx_progress (b : Block) (k u : Nat) (i j : Nat) : (b.progress k u).tx i j = b.tx i j := by
  simp only [Block.tx, Block.chan, Block.progress_chans]
@[simp] theorem Block.saf_progress (b : Block) (k u : Nat) (i : Nat) : (b.progress k u).saf i = b.saf i := by
  simp only [Block.saf, Block.progress_saffron]
@[simp] theorem Block.seqEntry_progress (b : Block) (k u : Nat) (i : Nat) : (b.progress k u).seqEntry i = b.seqEntry i := by
  simp only [Block.seqEntry, Block.progress_seq]
@[simp] theorem Block.seqCtx_progress (b : Block) (k u : Nat) (i : Nat) : (b.progress k u).seqCtx i = b.seqCtx i := by
  simp only [Block.seqCtx, Block.progress_seq]
@[simp] theorem Block.cq_progress (b : Block) (k u : Nat) (i : Nat) : (b.progress k u).cq i = b.cq i := by
  simp only [Block.cq, Block.progress_cqs]
@[simp] theorem Block.peer_progress (b : Block) (k u : Nat) (i : Nat) : (b.progress k u).peer i = b.peer i := by
  simp only [Block.peer, Block.progress_link]
@[simp] theorem Block.part_progress (b : Block) (k u : Nat) (i : Nat) : (b.progress k u).part i = b.part i := by
  simp only [Block.part, Block.progress_parts]
@[simp] theorem Block.ctx_progress (b : Block) (k u : Nat) (i : Nat) : (b.progress k u).ctx i = b.ctx i := by
  simp only [Block.ctx, Block.progress_parts]
@[simp] theorem Block.pbead_progress (b : Block) (k u : Nat) (i : Nat) : (b.progress k u).pbead i = b.pbead i := by
  simp only [Block.pbead, Block.progress_parts]
@[simp] theorem Block.lane_progress (b : Block) (k u : Nat) (i : Nat) : (b.progress k u).lane i = b.lane i := by
  simp only [Block.lane, Block.progress_lanes]
@[simp] theorem Block.evSrc_progress (b : Block) (k u : Nat) (i : Nat) : (b.progress k u).evSrc i = b.evSrc i := by
  simp only [Block.evSrc, Block.progress_evc]
@[simp] theorem Block.evGroup_progress (b : Block) (k u : Nat) (i : Nat) : (b.progress k u).evGroup i = b.evGroup i := by
  simp only [Block.evGroup, Block.progress_evc]
@[simp] theorem Block.evTarget_progress (b : Block) (k u : Nat) (i : Nat) : (b.progress k u).evTarget i = b.evTarget i := by
  simp only [Block.evTarget, Block.progress_evc]
@[simp] theorem Block.dom_progress (b : Block) (k u : Nat) (i : Nat) : (b.progress k u).dom i = b.dom i := by
  simp only [Block.dom, Block.progress_power]
@[simp] theorem Block.queue_sendDown (p : Params) (b : Block) (n : Nat) (r : Rec) (i : Nat) : (b.sendDown p n r).queue i = b.queue i := by
  simp only [Block.queue, Block.sendDown_front]
@[simp] theorem Block.hws_sendDown (p : Params) (b : Block) (n : Nat) (r : Rec) (i : Nat) : (b.sendDown p n r).hws i = b.hws i := by
  simp only [Block.hws, Block.sendDown_front]
@[simp] theorem Block.sub_sendDown (p : Params) (b : Block) (n : Nat) (r : Rec) (i : Nat) : (b.sendDown p n r).sub i = b.sub i := by
  simp only [Block.sub, Block.sendDown_graph]
@[simp] theorem Block.node_sendDown (p : Params) (b : Block) (n : Nat) (r : Rec) (i j : Nat) : (b.sendDown p n r).node i j = b.node i j := by
  simp only [Block.node, Block.sub, Block.sendDown_graph]
@[simp] theorem Block.cwin_sendDown (p : Params) (b : Block) (n : Nat) (r : Rec) (i j : Nat) : (b.sendDown p n r).cwin i j = b.cwin i j := by
  simp only [Block.cwin, Block.sendDown_graph]
@[simp] theorem Block.fence_sendDown (p : Params) (b : Block) (n : Nat) (r : Rec) (i : Nat) : (b.sendDown p n r).fence i = b.fence i := by
  simp only [Block.fence, Block.sendDown_fences]
@[simp] theorem Block.bead_sendDown (p : Params) (b : Block) (n : Nat) (r : Rec) (i : Nat) : (b.sendDown p n r).bead i = b.bead i := by
  simp only [Block.bead, Block.sendDown_beads]
@[simp] theorem Block.win_sendDown (p : Params) (b : Block) (n : Nat) (r : Rec) (i j : Nat) : (b.sendDown p n r).win i j = b.win i j := by
  simp only [Block.win, Block.bead, Block.sendDown_beads]
@[simp] theorem Block.slot_sendDown (p : Params) (b : Block) (n : Nat) (r : Rec) (i j : Nat) : (b.sendDown p n r).slot i j = b.slot i j := by
  simp only [Block.slot, Block.bead, Block.sendDown_beads]
@[simp] theorem Block.chan_sendDown (p : Params) (b : Block) (n : Nat) (r : Rec) (i : Nat) : (b.sendDown p n r).chan i = b.chan i := by
  simp only [Block.chan, Block.sendDown_chans]
@[simp] theorem Block.rx_sendDown (p : Params) (b : Block) (n : Nat) (r : Rec) (i j : Nat) : (b.sendDown p n r).rx i j = b.rx i j := by
  simp only [Block.rx, Block.chan, Block.sendDown_chans]
@[simp] theorem Block.tx_sendDown (p : Params) (b : Block) (n : Nat) (r : Rec) (i j : Nat) : (b.sendDown p n r).tx i j = b.tx i j := by
  simp only [Block.tx, Block.chan, Block.sendDown_chans]
@[simp] theorem Block.saf_sendDown (p : Params) (b : Block) (n : Nat) (r : Rec) (i : Nat) : (b.sendDown p n r).saf i = b.saf i := by
  simp only [Block.saf, Block.sendDown_saffron]
@[simp] theorem Block.seqEntry_sendDown (p : Params) (b : Block) (n : Nat) (r : Rec) (i : Nat) : (b.sendDown p n r).seqEntry i = b.seqEntry i := by
  simp only [Block.seqEntry, Block.sendDown_seq]
@[simp] theorem Block.seqCtx_sendDown (p : Params) (b : Block) (n : Nat) (r : Rec) (i : Nat) : (b.sendDown p n r).seqCtx i = b.seqCtx i := by
  simp only [Block.seqCtx, Block.sendDown_seq]
@[simp] theorem Block.cq_sendDown (p : Params) (b : Block) (n : Nat) (r : Rec) (i : Nat) : (b.sendDown p n r).cq i = b.cq i := by
  simp only [Block.cq, Block.sendDown_cqs]
@[simp] theorem Block.peer_sendDown (p : Params) (b : Block) (n : Nat) (r : Rec) (i : Nat) : (b.sendDown p n r).peer i = b.peer i := by
  simp only [Block.peer, Block.sendDown_link]
@[simp] theorem Block.part_sendDown (p : Params) (b : Block) (n : Nat) (r : Rec) (i : Nat) : (b.sendDown p n r).part i = b.part i := by
  simp only [Block.part, Block.sendDown_parts]
@[simp] theorem Block.ctx_sendDown (p : Params) (b : Block) (n : Nat) (r : Rec) (i : Nat) : (b.sendDown p n r).ctx i = b.ctx i := by
  simp only [Block.ctx, Block.sendDown_parts]
@[simp] theorem Block.pbead_sendDown (p : Params) (b : Block) (n : Nat) (r : Rec) (i : Nat) : (b.sendDown p n r).pbead i = b.pbead i := by
  simp only [Block.pbead, Block.sendDown_parts]
@[simp] theorem Block.evSrc_sendDown (p : Params) (b : Block) (n : Nat) (r : Rec) (i : Nat) : (b.sendDown p n r).evSrc i = b.evSrc i := by
  simp only [Block.evSrc, Block.sendDown_evc]
@[simp] theorem Block.evGroup_sendDown (p : Params) (b : Block) (n : Nat) (r : Rec) (i : Nat) : (b.sendDown p n r).evGroup i = b.evGroup i := by
  simp only [Block.evGroup, Block.sendDown_evc]
@[simp] theorem Block.evTarget_sendDown (p : Params) (b : Block) (n : Nat) (r : Rec) (i : Nat) : (b.sendDown p n r).evTarget i = b.evTarget i := by
  simp only [Block.evTarget, Block.sendDown_evc]
@[simp] theorem Block.dom_sendDown (p : Params) (b : Block) (n : Nat) (r : Rec) (i : Nat) : (b.sendDown p n r).dom i = b.dom i := by
  simp only [Block.dom, Block.sendDown_power]
@[simp] theorem Block.queue_sendUp (p : Params) (b : Block) (n : Nat) (r : Rec) (i : Nat) : (b.sendUp p n r).queue i = b.queue i := by
  simp only [Block.queue, Block.sendUp_front]
@[simp] theorem Block.hws_sendUp (p : Params) (b : Block) (n : Nat) (r : Rec) (i : Nat) : (b.sendUp p n r).hws i = b.hws i := by
  simp only [Block.hws, Block.sendUp_front]
@[simp] theorem Block.sub_sendUp (p : Params) (b : Block) (n : Nat) (r : Rec) (i : Nat) : (b.sendUp p n r).sub i = b.sub i := by
  simp only [Block.sub, Block.sendUp_graph]
@[simp] theorem Block.node_sendUp (p : Params) (b : Block) (n : Nat) (r : Rec) (i j : Nat) : (b.sendUp p n r).node i j = b.node i j := by
  simp only [Block.node, Block.sub, Block.sendUp_graph]
@[simp] theorem Block.cwin_sendUp (p : Params) (b : Block) (n : Nat) (r : Rec) (i j : Nat) : (b.sendUp p n r).cwin i j = b.cwin i j := by
  simp only [Block.cwin, Block.sendUp_graph]
@[simp] theorem Block.fence_sendUp (p : Params) (b : Block) (n : Nat) (r : Rec) (i : Nat) : (b.sendUp p n r).fence i = b.fence i := by
  simp only [Block.fence, Block.sendUp_fences]
@[simp] theorem Block.bead_sendUp (p : Params) (b : Block) (n : Nat) (r : Rec) (i : Nat) : (b.sendUp p n r).bead i = b.bead i := by
  simp only [Block.bead, Block.sendUp_beads]
@[simp] theorem Block.win_sendUp (p : Params) (b : Block) (n : Nat) (r : Rec) (i j : Nat) : (b.sendUp p n r).win i j = b.win i j := by
  simp only [Block.win, Block.bead, Block.sendUp_beads]
@[simp] theorem Block.slot_sendUp (p : Params) (b : Block) (n : Nat) (r : Rec) (i j : Nat) : (b.sendUp p n r).slot i j = b.slot i j := by
  simp only [Block.slot, Block.bead, Block.sendUp_beads]
@[simp] theorem Block.chan_sendUp (p : Params) (b : Block) (n : Nat) (r : Rec) (i : Nat) : (b.sendUp p n r).chan i = b.chan i := by
  simp only [Block.chan, Block.sendUp_chans]
@[simp] theorem Block.rx_sendUp (p : Params) (b : Block) (n : Nat) (r : Rec) (i j : Nat) : (b.sendUp p n r).rx i j = b.rx i j := by
  simp only [Block.rx, Block.chan, Block.sendUp_chans]
@[simp] theorem Block.tx_sendUp (p : Params) (b : Block) (n : Nat) (r : Rec) (i j : Nat) : (b.sendUp p n r).tx i j = b.tx i j := by
  simp only [Block.tx, Block.chan, Block.sendUp_chans]
@[simp] theorem Block.saf_sendUp (p : Params) (b : Block) (n : Nat) (r : Rec) (i : Nat) : (b.sendUp p n r).saf i = b.saf i := by
  simp only [Block.saf, Block.sendUp_saffron]
@[simp] theorem Block.seqEntry_sendUp (p : Params) (b : Block) (n : Nat) (r : Rec) (i : Nat) : (b.sendUp p n r).seqEntry i = b.seqEntry i := by
  simp only [Block.seqEntry, Block.sendUp_seq]
@[simp] theorem Block.seqCtx_sendUp (p : Params) (b : Block) (n : Nat) (r : Rec) (i : Nat) : (b.sendUp p n r).seqCtx i = b.seqCtx i := by
  simp only [Block.seqCtx, Block.sendUp_seq]
@[simp] theorem Block.cq_sendUp (p : Params) (b : Block) (n : Nat) (r : Rec) (i : Nat) : (b.sendUp p n r).cq i = b.cq i := by
  simp only [Block.cq, Block.sendUp_cqs]
@[simp] theorem Block.peer_sendUp (p : Params) (b : Block) (n : Nat) (r : Rec) (i : Nat) : (b.sendUp p n r).peer i = b.peer i := by
  simp only [Block.peer, Block.sendUp_link]
@[simp] theorem Block.part_sendUp (p : Params) (b : Block) (n : Nat) (r : Rec) (i : Nat) : (b.sendUp p n r).part i = b.part i := by
  simp only [Block.part, Block.sendUp_parts]
@[simp] theorem Block.ctx_sendUp (p : Params) (b : Block) (n : Nat) (r : Rec) (i : Nat) : (b.sendUp p n r).ctx i = b.ctx i := by
  simp only [Block.ctx, Block.sendUp_parts]
@[simp] theorem Block.pbead_sendUp (p : Params) (b : Block) (n : Nat) (r : Rec) (i : Nat) : (b.sendUp p n r).pbead i = b.pbead i := by
  simp only [Block.pbead, Block.sendUp_parts]
@[simp] theorem Block.evSrc_sendUp (p : Params) (b : Block) (n : Nat) (r : Rec) (i : Nat) : (b.sendUp p n r).evSrc i = b.evSrc i := by
  simp only [Block.evSrc, Block.sendUp_evc]
@[simp] theorem Block.evGroup_sendUp (p : Params) (b : Block) (n : Nat) (r : Rec) (i : Nat) : (b.sendUp p n r).evGroup i = b.evGroup i := by
  simp only [Block.evGroup, Block.sendUp_evc]
@[simp] theorem Block.evTarget_sendUp (p : Params) (b : Block) (n : Nat) (r : Rec) (i : Nat) : (b.sendUp p n r).evTarget i = b.evTarget i := by
  simp only [Block.evTarget, Block.sendUp_evc]
@[simp] theorem Block.dom_sendUp (p : Params) (b : Block) (n : Nat) (r : Rec) (i : Nat) : (b.sendUp p n r).dom i = b.dom i := by
  simp only [Block.dom, Block.sendUp_power]
@[simp] theorem Block.queue_beadLocket (p : Params) (b : Block) (n r c a : Nat) (i : Nat) : (b.beadLocket p n r c a).queue i = b.queue i := by
  simp only [Block.queue, Block.beadLocket_front]
@[simp] theorem Block.hws_beadLocket (p : Params) (b : Block) (n r c a : Nat) (i : Nat) : (b.beadLocket p n r c a).hws i = b.hws i := by
  simp only [Block.hws, Block.beadLocket_front]
@[simp] theorem Block.sub_beadLocket (p : Params) (b : Block) (n r c a : Nat) (i : Nat) : (b.beadLocket p n r c a).sub i = b.sub i := by
  simp only [Block.sub, Block.beadLocket_graph]
@[simp] theorem Block.node_beadLocket (p : Params) (b : Block) (n r c a : Nat) (i j : Nat) : (b.beadLocket p n r c a).node i j = b.node i j := by
  simp only [Block.node, Block.sub, Block.beadLocket_graph]
@[simp] theorem Block.cwin_beadLocket (p : Params) (b : Block) (n r c a : Nat) (i j : Nat) : (b.beadLocket p n r c a).cwin i j = b.cwin i j := by
  simp only [Block.cwin, Block.beadLocket_graph]
@[simp] theorem Block.fence_beadLocket (p : Params) (b : Block) (n r c a : Nat) (i : Nat) : (b.beadLocket p n r c a).fence i = b.fence i := by
  simp only [Block.fence, Block.beadLocket_fences]
@[simp] theorem Block.bead_beadLocket (p : Params) (b : Block) (n r c a : Nat) (i : Nat) : (b.beadLocket p n r c a).bead i = b.bead i := by
  simp only [Block.bead, Block.beadLocket_beads]
@[simp] theorem Block.win_beadLocket (p : Params) (b : Block) (n r c a : Nat) (i j : Nat) : (b.beadLocket p n r c a).win i j = b.win i j := by
  simp only [Block.win, Block.bead, Block.beadLocket_beads]
@[simp] theorem Block.slot_beadLocket (p : Params) (b : Block) (n r c a : Nat) (i j : Nat) : (b.beadLocket p n r c a).slot i j = b.slot i j := by
  simp only [Block.slot, Block.bead, Block.beadLocket_beads]
@[simp] theorem Block.chan_beadLocket (p : Params) (b : Block) (n r c a : Nat) (i : Nat) : (b.beadLocket p n r c a).chan i = b.chan i := by
  simp only [Block.chan, Block.beadLocket_chans]
@[simp] theorem Block.rx_beadLocket (p : Params) (b : Block) (n r c a : Nat) (i j : Nat) : (b.beadLocket p n r c a).rx i j = b.rx i j := by
  simp only [Block.rx, Block.chan, Block.beadLocket_chans]
@[simp] theorem Block.tx_beadLocket (p : Params) (b : Block) (n r c a : Nat) (i j : Nat) : (b.beadLocket p n r c a).tx i j = b.tx i j := by
  simp only [Block.tx, Block.chan, Block.beadLocket_chans]
@[simp] theorem Block.saf_beadLocket (p : Params) (b : Block) (n r c a : Nat) (i : Nat) : (b.beadLocket p n r c a).saf i = b.saf i := by
  simp only [Block.saf, Block.beadLocket_saffron]
@[simp] theorem Block.seqEntry_beadLocket (p : Params) (b : Block) (n r c a : Nat) (i : Nat) : (b.beadLocket p n r c a).seqEntry i = b.seqEntry i := by
  simp only [Block.seqEntry, Block.beadLocket_seq]
@[simp] theorem Block.seqCtx_beadLocket (p : Params) (b : Block) (n r c a : Nat) (i : Nat) : (b.beadLocket p n r c a).seqCtx i = b.seqCtx i := by
  simp only [Block.seqCtx, Block.beadLocket_seq]
@[simp] theorem Block.cq_beadLocket (p : Params) (b : Block) (n r c a : Nat) (i : Nat) : (b.beadLocket p n r c a).cq i = b.cq i := by
  simp only [Block.cq, Block.beadLocket_cqs]
@[simp] theorem Block.peer_beadLocket (p : Params) (b : Block) (n r c a : Nat) (i : Nat) : (b.beadLocket p n r c a).peer i = b.peer i := by
  simp only [Block.peer, Block.beadLocket_link]
@[simp] theorem Block.part_beadLocket (p : Params) (b : Block) (n r c a : Nat) (i : Nat) : (b.beadLocket p n r c a).part i = b.part i := by
  simp only [Block.part, Block.beadLocket_parts]
@[simp] theorem Block.ctx_beadLocket (p : Params) (b : Block) (n r c a : Nat) (i : Nat) : (b.beadLocket p n r c a).ctx i = b.ctx i := by
  simp only [Block.ctx, Block.beadLocket_parts]
@[simp] theorem Block.pbead_beadLocket (p : Params) (b : Block) (n r c a : Nat) (i : Nat) : (b.beadLocket p n r c a).pbead i = b.pbead i := by
  simp only [Block.pbead, Block.beadLocket_parts]
@[simp] theorem Block.lane_beadLocket (p : Params) (b : Block) (n r c a : Nat) (i : Nat) : (b.beadLocket p n r c a).lane i = b.lane i := by
  simp only [Block.lane, Block.beadLocket_lanes]
@[simp] theorem Block.evSrc_beadLocket (p : Params) (b : Block) (n r c a : Nat) (i : Nat) : (b.beadLocket p n r c a).evSrc i = b.evSrc i := by
  simp only [Block.evSrc, Block.beadLocket_evc]
@[simp] theorem Block.evGroup_beadLocket (p : Params) (b : Block) (n r c a : Nat) (i : Nat) : (b.beadLocket p n r c a).evGroup i = b.evGroup i := by
  simp only [Block.evGroup, Block.beadLocket_evc]
@[simp] theorem Block.evTarget_beadLocket (p : Params) (b : Block) (n r c a : Nat) (i : Nat) : (b.beadLocket p n r c a).evTarget i = b.evTarget i := by
  simp only [Block.evTarget, Block.beadLocket_evc]
@[simp] theorem Block.dom_beadLocket (p : Params) (b : Block) (n r c a : Nat) (i : Nat) : (b.beadLocket p n r c a).dom i = b.dom i := by
  simp only [Block.dom, Block.beadLocket_power]
@[simp] theorem Block.queue_beadTrace (p : Params) (b : Block) (n c u a : Nat) (ws : List Word) (i : Nat) : (b.beadTrace p n c u a ws).queue i = b.queue i := by
  simp only [Block.queue, Block.beadTrace_front]
@[simp] theorem Block.hws_beadTrace (p : Params) (b : Block) (n c u a : Nat) (ws : List Word) (i : Nat) : (b.beadTrace p n c u a ws).hws i = b.hws i := by
  simp only [Block.hws, Block.beadTrace_front]
@[simp] theorem Block.sub_beadTrace (p : Params) (b : Block) (n c u a : Nat) (ws : List Word) (i : Nat) : (b.beadTrace p n c u a ws).sub i = b.sub i := by
  simp only [Block.sub, Block.beadTrace_graph]
@[simp] theorem Block.node_beadTrace (p : Params) (b : Block) (n c u a : Nat) (ws : List Word) (i j : Nat) : (b.beadTrace p n c u a ws).node i j = b.node i j := by
  simp only [Block.node, Block.sub, Block.beadTrace_graph]
@[simp] theorem Block.cwin_beadTrace (p : Params) (b : Block) (n c u a : Nat) (ws : List Word) (i j : Nat) : (b.beadTrace p n c u a ws).cwin i j = b.cwin i j := by
  simp only [Block.cwin, Block.beadTrace_graph]
@[simp] theorem Block.fence_beadTrace (p : Params) (b : Block) (n c u a : Nat) (ws : List Word) (i : Nat) : (b.beadTrace p n c u a ws).fence i = b.fence i := by
  simp only [Block.fence, Block.beadTrace_fences]
@[simp] theorem Block.win_beadTrace (p : Params) (b : Block) (n c u a : Nat) (ws : List Word) (i j : Nat) : (b.beadTrace p n c u a ws).win i j = b.win i j := by
  simp only [Block.beadTrace, Block.win_modBead]; split <;> simp_all [Block.win]
@[simp] theorem Block.slot_beadTrace (p : Params) (b : Block) (n c u a : Nat) (ws : List Word) (i j : Nat) : (b.beadTrace p n c u a ws).slot i j = b.slot i j := by
  simp only [Block.beadTrace, Block.slot_modBead]; split <;> simp_all [Block.slot]
@[simp] theorem Block.chan_beadTrace (p : Params) (b : Block) (n c u a : Nat) (ws : List Word) (i : Nat) : (b.beadTrace p n c u a ws).chan i = b.chan i := by
  simp only [Block.chan, Block.beadTrace_chans]
@[simp] theorem Block.rx_beadTrace (p : Params) (b : Block) (n c u a : Nat) (ws : List Word) (i j : Nat) : (b.beadTrace p n c u a ws).rx i j = b.rx i j := by
  simp only [Block.rx, Block.chan, Block.beadTrace_chans]
@[simp] theorem Block.tx_beadTrace (p : Params) (b : Block) (n c u a : Nat) (ws : List Word) (i j : Nat) : (b.beadTrace p n c u a ws).tx i j = b.tx i j := by
  simp only [Block.tx, Block.chan, Block.beadTrace_chans]
@[simp] theorem Block.saf_beadTrace (p : Params) (b : Block) (n c u a : Nat) (ws : List Word) (i : Nat) : (b.beadTrace p n c u a ws).saf i = b.saf i := by
  simp only [Block.saf, Block.beadTrace_saffron]
@[simp] theorem Block.seqEntry_beadTrace (p : Params) (b : Block) (n c u a : Nat) (ws : List Word) (i : Nat) : (b.beadTrace p n c u a ws).seqEntry i = b.seqEntry i := by
  simp only [Block.seqEntry, Block.beadTrace_seq]
@[simp] theorem Block.seqCtx_beadTrace (p : Params) (b : Block) (n c u a : Nat) (ws : List Word) (i : Nat) : (b.beadTrace p n c u a ws).seqCtx i = b.seqCtx i := by
  simp only [Block.seqCtx, Block.beadTrace_seq]
@[simp] theorem Block.cq_beadTrace (p : Params) (b : Block) (n c u a : Nat) (ws : List Word) (i : Nat) : (b.beadTrace p n c u a ws).cq i = b.cq i := by
  simp only [Block.cq, Block.beadTrace_cqs]
@[simp] theorem Block.peer_beadTrace (p : Params) (b : Block) (n c u a : Nat) (ws : List Word) (i : Nat) : (b.beadTrace p n c u a ws).peer i = b.peer i := by
  simp only [Block.peer, Block.beadTrace_link]
@[simp] theorem Block.part_beadTrace (p : Params) (b : Block) (n c u a : Nat) (ws : List Word) (i : Nat) : (b.beadTrace p n c u a ws).part i = b.part i := by
  simp only [Block.part, Block.beadTrace_parts]
@[simp] theorem Block.ctx_beadTrace (p : Params) (b : Block) (n c u a : Nat) (ws : List Word) (i : Nat) : (b.beadTrace p n c u a ws).ctx i = b.ctx i := by
  simp only [Block.ctx, Block.beadTrace_parts]
@[simp] theorem Block.pbead_beadTrace (p : Params) (b : Block) (n c u a : Nat) (ws : List Word) (i : Nat) : (b.beadTrace p n c u a ws).pbead i = b.pbead i := by
  simp only [Block.pbead, Block.beadTrace_parts]
@[simp] theorem Block.lane_beadTrace (p : Params) (b : Block) (n c u a : Nat) (ws : List Word) (i : Nat) : (b.beadTrace p n c u a ws).lane i = b.lane i := by
  simp only [Block.lane, Block.beadTrace_lanes]
@[simp] theorem Block.evSrc_beadTrace (p : Params) (b : Block) (n c u a : Nat) (ws : List Word) (i : Nat) : (b.beadTrace p n c u a ws).evSrc i = b.evSrc i := by
  simp only [Block.evSrc, Block.beadTrace_evc]
@[simp] theorem Block.evGroup_beadTrace (p : Params) (b : Block) (n c u a : Nat) (ws : List Word) (i : Nat) : (b.beadTrace p n c u a ws).evGroup i = b.evGroup i := by
  simp only [Block.evGroup, Block.beadTrace_evc]
@[simp] theorem Block.evTarget_beadTrace (p : Params) (b : Block) (n c u a : Nat) (ws : List Word) (i : Nat) : (b.beadTrace p n c u a ws).evTarget i = b.evTarget i := by
  simp only [Block.evTarget, Block.beadTrace_evc]
@[simp] theorem Block.dom_beadTrace (p : Params) (b : Block) (n c u a : Nat) (ws : List Word) (i : Nat) : (b.beadTrace p n c u a ws).dom i = b.dom i := by
  simp only [Block.dom, Block.beadTrace_power]

end Sys2Proof.Machine
end

