-- ==== Sys2Proof/WellFormed.lean ====
section
/-! DEFINITION. The bounds that the operands of a command keep: numbers of units that the table's
operands name. -/

namespace Sys2Proof

/-- Number of units of each kind in the largest block (R521). -/
def Limits.beads : Nat := 48
/-- R521. -/
def Limits.slots : Nat := 64
/-- R521, with 255 for the local lane. -/
def Limits.lane (n : Nat) : Bool := n < 24 || n == 255
/-- R521. -/
def Limits.queues : Nat := 4096

/-- A memory view lists each address once, at multiples of 8. -/
def MemView.wellFormed (m : MemView) : Bool :=
  m.words.all (fun p => p.1 % 8 == 0) && decide ((m.words.map (·.1)).Nodup)

/-- A packet consists of whole transfers of four words, 1 to 8 of them (R375). -/
def Packet.wellFormed (p : Packet) : Bool := p.words.length % 4 == 0 && 4 ≤ p.words.length

/-- Node operands: a submission number and a node index. -/
def segIndex (seg index : Nat) : Bool := seg < 65536 && index < 0xFFFFFFFF

/-- The operands of a command stand within the limits of R521 and of the ports' widths. -/
def Instr.wellFormed : Instr → Bool
  | .memoryReadResponse port _ codes data m =>
      (port < 48 || port == 63) && codes.length ≤ 4 && data.length ≤ 32 && m.wellFormed
  | .memoryWriteAck port _ _ => port < 48 || port == 63
  | .dispatchTransfer b s | .engineCompletion b s _ _ _ | .counterBeat b s _ _
  | .slotResetRequest b s | .slotResetAck b s _ => b < Limits.beads && s < Limits.slots
  | .packetReceived p | .completion p | .hello p | .signal p => p.wellFormed
  | .externalEventLevel n => n < 256
  | .beadSegmentUpdate b _ _ _ | .snap b _ _ | .set b _ _ _ _ _ | .setr b _ | .evt b _
  | .dec b _ _ _ | .fence b _ _ _ | .node b _ _ _ _ _ _ | .ret b _ _ _ _ | .ctr b _ _
  | .ctlHalt b _ | .ctlResume b | .ctlClear b _ | .ctlFenceOff b => b < Limits.beads
  | .cpl b _ _ _ m | .spawn b _ _ _ _ _ m => b < Limits.beads && m.wellFormed
  | .lnk l _ _ | .lnkAckTimer l _ | .nakRepeatTimer l _ | .laneTrainDoneFall l _
  | .trainDoneRise l _ | .recordCrcError l _ => Limits.lane l
  | .tokenClasp l p | .token l p | .tokenAnswer l p => Limits.lane l && p.toNat < 3
  | .tokenRetryTimer l | .timeEchoRequest l | .timeEchoAnswer l _ | .time l _ | .timePeriodic l =>
      Limits.lane l
  | .chn _ b _ _ total flits => b < Limits.beads && flits.length ≤ 64 && total.toNat ≤ 64 &&
      (total.toNat == 0 || flits.length ≤ total.toNat)
  | .credit _ b _ w => b < Limits.beads && 1 ≤ w.toNat && w.toNat ≤ 64
  | .settingLoadCheck m | .planVersion m | .patchCommit m | .patchFail m => m.wellFormed
  | .settingPatch s i m | .nodeForward s i m | .waitAct s i m | .arrivalRead s i _ _ m
  | .signalAct s i m | .fencePoison s i m | .joinContribution s i m | .stepBuild s i m
  | .stepRetire s i m | .remoteSignalAct s i m | .partitionCtl s i m | .contextReg s i m
  | .traceCtl s i m => segIndex s i && m.wellFormed
  | .pagerRefill s i x => segIndex s i && x.view.wellFormed
  | .arrivalRereadTimer s i => segIndex s i
  | .submissionComplete s m | .auditDigest s m => s < 65536 && m.wellFormed
  | .qEnable _ q | .qDisable _ q | .qForce _ q | .queueDisabled q | .queueForceDone q => q < Limits.queues
  | .qCmdInvalid _ q op => q < Limits.queues && (op.toNat == 0 || 3 < op.toNat)
  | .checkPass q m | .submissionPlace q _ m => q < Limits.queues && m.wellFormed
  | .rcbError q _ code => q < Limits.queues && code.toNat != 0
  | .tailReadReturn s _ _ | .idleTest s | .slotRelease s | .unbind _ s => s < 64
  | .descriptorArrival s codes data => s < 64 && codes.length ≤ 4 && data.length ≤ 32
  | .stallReport k u => u < (if k = 0 then 4096 else if k = 2 then 48 else 6144)
  | .windowEdgesApply b _ | .bankDecrement b _ | .nopRetire b _ | .issueSelect b
  | .tileListRetire b _ | .indirectReadReturn b _ _ _ _ | .breakpointHold b _ | .stopReportSend b
  | .stopReport b | .latchSetClose b _ | .chnMessageSend b | .creditReturn b _ | .beadDisabled b
  | .beadDomainReturn b | .expansionRetire b => b < Limits.beads
  | .fncCmdInvalid _ _ _ => true
  | .expandStart b _ m => b < Limits.beads && m.wellFormed
  | .programStart b m | .routingStage b m | .createNodes b m
  | .sLd b _ m | .sSld b _ m => b < Limits.beads && m.wellFormed
  | .sAnd b _ | .sOr b _ | .sXor b _ | .sNot b _ | .sShl b _ | .sShr b _ | .sSar b _ | .sAdd b _
  | .sAddsu b _ | .sAddss b _ | .sSub b _ | .sSubsu b _ | .sSubss b _ | .sMin b _ | .sMax b _
  | .sCmp b _ | .sSel b _ | .sMop b _ | .sOkey b _ | .sIota b _ | .sFill b _ | .sRmin b _
  | .sRmax b _ | .sRsum b _ | .sTopk b _ | .sPsum b _ | .sSt b _ | .sScat b _ | .sCand b _
  | .sSmovi b _ | .sSaddi b _ | .sSadd b _ | .sSshri b _ | .sLoop b _ | .sBz b _ | .sEnd b _ =>
      b < Limits.beads
  | .completionDelivery c | .cqHeadReread c | .cqEnable _ c | .cqDisable _ c | .cqResume _ c
  | .cqCfgWrite _ c _ | .fallbackSend c => c < 4096
  | .cqCmdInvalid _ c op => c < 4096 && (op.toNat == 0 || 3 < op.toNat)
  | .helloRetryTimer p | .peerEntryWrite _ p _ => p < 1024
  | .chnTxHdr _ b p _ | .chnTxData _ b p _ | .chnPop _ b p | .drop _ b p => b < Limits.beads && p < 128
  | .switchRequest _ m | .switchBoundary _ m
  | .switchSaveDone _ m | .switchRestoreDone _ m => m.wellFormed
  | .partCmdInvalid _ _ op => op.toNat == 0 || 4 < op.toNat
  | .beadEnable _ b | .beadDisable _ b | .bdErrClr _ b => b < Limits.beads
  | .beadForce _ b => b < Limits.beads
  | .fenceBead _ b m => b < Limits.beads && m.wellFormed
  | .beadCmdInvalid _ b _ => b < Limits.beads
  | .evcTgtClaim _ t | .evcTgtComplete _ t _ | .messageWrite t | .rearmTimer t => t < 64
  | .traceCmdInvalid _ op => !(op.toNat ∈ [1, 2, 3, 5])
  | .domainOn _ d | .domainOff _ d | .domainAckHigh d | .domainAckLow d => d < 104
  | .domCmdInvalid _ op _ => op.toNat == 0 || op.toNat == 3
  | .domainLoss d m => d < 104 && m.wellFormed
  | .eccCorrectable u _ _ => u < 48 || u == 63
  | .eccUncorrectable u _ _ _ m => (u < 48 || u == 63) && m.wellFormed
  | .segmentCapture b => b.all (· < Limits.beads)
  | .coldResetAssert | .coldResetRelease | .storageInitDone | .tapReset | .registerWrite _ _ _ _
  | .splitReadLowerHalf _ _ | .splitWriteLowerHalf _ _ _ | .splitWriteUpperHalf _ _ _ | .linkUpRise _
  | .linkUpFall _ | .packetTransmitted | .claspSegmentUpdate _ _ _ | .setStart _ | .setAbort _
  | .settingActivate | .settingLoadFail | .doorbellWrite _ _ _ _ | .slotMapperBind | .pop _ | .clrLost _
  | .regulatorRefill | .pagerFull | .sweep _ | .sweepComplete | .clrErr _ | .fncAlloc _ _ _ | .fncFree _ _
  | .fncClear _ _ | .fncClrCount _ | .expCfgWrite _ _ | .join _ _ _ _ | .cancel _ _ | .sqtCmdInvalid _ _
  | .sqtCommandApply | .poolConfigWrite _ _ _ | .selfWrite _ _ | .clr _ | .partEnable _ _
  | .partDisable _ _ | .partForce _ _ | .partYield _ _ | .partitionDisabled _ | .partitionForceDone _
  | .ctxRegister _ _ _ | .ctxRelease _ _ | .ctxReset _ _ | .ctxAck _ _ | .ctxCmdInvalid _ _
  | .quantumExpiry _ | .idleHint _ | .hintTransfer _ | .eventRaise _ | .evcSwi _ _ | .evcPclr _ _
  | .evcSync _ | .evcPendWrite _ _ _ | .evcMaskWrite _ _ _ | .evcSrcCfgWrite _ _ _ | .holdoffExpiry _
  | .audRegionWrite _ _ _ | .traceEvent | .traceStart _ | .traceStop _ | .traceTrigger _ | .traceClrLost _
  | .traceHeadWrite _ _ | .stopComplete | .halt _ _ | .resume _ | .lktCmdInvalid _ _ | .freezeComplete
  | .supplyWarnRise | .supplyFrozen | .supplyWarnFall | .holdExpiry | .scrub | .eccClr _
  | .unreachableRead _ _ _ => true

end Sys2Proof
end

