-- ==== Sys2Proof/Tests/Slice0.lean ====
section
/-! SUPPORT. Tests: a command that is not well formed for each check, the worked examples of the spec, and for
each statement with hypotheses a theorem `witness_<statement>`: concrete states and operands that meet the
hypotheses together. A comment in a witness gives the number of the clause whose hypotheses follow it
(conjuncts counted from 1, nested ones after a dot). -/

namespace Sys2Proof.Tests

open Sys2Proof.Machine

-- theorem after theorem, which bounds the memory of the compile
set_option Elab.async false

/-! ## Small states and the lemmas of the witnesses -/

theorem saffronAt_of {b : Block} {n w : Nat}
    (h : b.current n = some w ∧ (∀ t ∈ (b.saf n).tiles, t.2.length ≤ 1024) ∧ ∀ t ∈ (b.saf n).masks, t.2.length ≤ 1024) :
    SaffronAt b n w := by
  have aux : ∀ {α : Type} [DecidableEq α] (l : Tab (List α)) (k : Nat), (∀ t ∈ l, t.2.length ≤ 1024) → (tget [] l k).length ≤ 1024 := by
    intro α _ l k hl
    induction l with
    | nil => simp [tget]
    | cons x xs ih =>
      have hx := hl x (by simp)
      have ih := ih fun t ht => hl t (by simp [ht])
      simp only [tget]
      split <;> first | exact hx | exact ih
  exact ⟨h.1, fun t => ⟨aux _ t h.2.1, aux _ t h.2.2⟩⟩
theorem hasInstr_of {b : Block} {n pc : Nat}
    (h : (b.saf n).instr < 16777216 ∧ ((b.saf n).exp.bind fun x => x.prog[pc]?).any (fun w => knownOp (w.toNat / 2 ^ 24)) = true) :
    HasInstr b n pc := by
  refine ⟨h.1, ?_⟩
  have h2 := h.2
  cases he : (b.saf n).exp with
  | none => simp [he] at h2
  | some x =>
    cases hw : x.prog[pc]? with
    | none => simp [he, hw] at h2
    | some w => exact ⟨x, w, rfl, hw, by simpa [he, hw] using h2⟩
theorem key_of_used {b : Block} {n v : Nat} (h : (b.win n v).used = true) : v ∈ (b.bead n).win.map Prod.fst := by
  have aux : ∀ l : Tab WinEntry, (tget {} l v).used = true → v ∈ l.map Prod.fst := by
    intro l
    induction l with
    | nil => intro h; simp [tget] at h
    | cons x xs ih =>
      intro h
      simp only [tget] at h
      split at h
      · rename_i hx; simp_all
      · exact List.mem_cons_of_mem _ (ih h)
  exact aux _ h
theorem forall_used {b : Block} {n : Nat} {P : Nat → Prop}
    (h : ∀ v ∈ (b.bead n).win.map Prod.fst, (b.win n v).used = true → P v) : ∀ v, (b.win n v).used = true → P v :=
  fun v hu => h v (key_of_used hu) hu
theorem forall_selectable {p : Params} {b : Block} {n w : Nat} {P : Nat → Prop}
    (h : ∀ v ∈ (b.bead n).win.map Prod.fst, v ≠ w → b.selectable p n v = true → P v) :
    ∀ v, v ≠ w → b.selectable p n v = true → P v := by
  intro v hv hs
  refine h v (key_of_used ?_) hv hs
  unfold Block.selectable at hs
  simp only [Bool.and_eq_true] at hs
  simp_all
theorem forall_shape {x : Word} {P : Nat × Nat × Nat → Prop} (h : ∀ sh ∈ (shapeOf x).toList, P sh) :
    ∀ sh, shapeOf x = some sh → P sh := by
  intro sh hs
  exact h sh (by simp [hs])
theorem edgesReach_of {p : Params} {b : Block} {m : MemView} {g i : Nat}
    (h : (b.claspList p m g i).1 = Status.ok ∧ (b.node g i).spilled = false ∧ b.pagerIdle p (b.claspEdges p m g i).length
      ∧ (b.sub g).live = true ∧ (b.sub g).abandoned = none ∧ i ∉ b.claspEdges p m g i
      ∧ (b.node g i).parent.all (fun e => decide (e ≠ i ∧ e ∉ b.claspEdges p m g i)) = true
      ∧ ∀ j, j ∈ b.claspEdges p m g i → let n := (b.listed p m g i).node g j
        n.used = true ∧ n.spilled = false ∧ j ∉ (b.sub g).gone
          ∧ ((n.state = .forwarded ∧ n.bead ≠ none) ∨ (b.claspEdges p m g i).count j ≤ n.count)) :
    EdgesReach p b m g i := by
  obtain ⟨h1, h2, h3, h4, h5, h6, h7, h8⟩ := h
  refine ⟨h1, h2, h3, h4, h5, h6, ?_, h8⟩
  intro e he
  simpa [he] using h7
theorem key_of {α : Type} {d : α} {q : α → Bool} (hd : q d = false) (l : Tab α) (v : Nat) (h : q (tget d l v) = true) :
    v ∈ l.map Prod.fst := by
  induction l with
  | nil => rw [tget, hd] at h; cases h
  | cons x xs ih =>
    simp only [tget] at h
    split at h
    · rename_i hx; simp_all
    · exact List.mem_cons_of_mem _ (ih h)
theorem forall_enabled {b : Block} {n i : Nat} {P : Nat → Prop}
    (h : ∀ j ∈ (b.bead n).slots.map Prod.fst, j ≠ i → (b.slot n j).cfg.enabled = true → P j) :
    ∀ j, j ≠ i → (b.slot n j).cfg.enabled = true → P j :=
  fun j hj he => h j (key_of (q := fun x : Slot => x.cfg.enabled) rfl _ _ he) hj he
theorem no_peer {b : Block} {P : Nat → Prop} (h : ∀ e ∈ b.link.peers.map Prod.fst, ¬ ((b.peer e).valid = true ∧ P e)) :
    ¬ ∃ e, (b.peer e).valid = true ∧ P e :=
  fun ⟨e, he⟩ => h e (key_of (q := fun x : Peer => x.valid) rfl _ _ he.1) he
theorem forall_mem2 {α β : Type} {l : List α} {m : List β} {P : α → β → Prop}
    (h : ∀ x ∈ l, ∀ y ∈ m, P x y) : ∀ x y, x ∈ l → y ∈ m → P x y := fun x y hx hy => h x hx y hy
theorem turns_distinct {l : List Turn} (h : ∀ t ∈ l, ∀ u ∈ l, t.by' = u.by' → t = u) :
    ∀ (t u : Turn) (g j : Nat), t ∈ l → u ∈ l → t.by' = .node g j → u.by' = .node g j → t = u :=
  fun t u _ _ ht hu h1 h2 => h t ht u hu (h1.trans h2.symm)
theorem forall_at {α : Type} {l : List α} {P : Nat → α → Prop} (h : ∀ x ∈ l.zipIdx, P x.2 x.1) :
    ∀ k c, l[k]? = some c → P k c :=
  fun k c hk => h (c, k) (List.mk_mem_zipIdx_iff_getElem?.2 hk)
theorem forall_word {a : Nat} {d : BitVec 32} {P : Nat → Prop} (h : ∀ j < 32, d.getLsbD j = true → P (32 * a + j)) :
    ∀ k, k / 32 = a → d.getLsbD (k % 32) = true → P k := by
  intro k ha hd
  have hk := h (k % 32) (Nat.mod_lt _ (by decide)) hd
  rwa [← ha, Nat.div_add_mod] at hk
theorem forall_word_lt {n a : Nat} {d : BitVec 32} {P : Nat → Prop}
    (h : ∀ j < 32, 32 * a + j < n → d.getLsbD j = true → P (32 * a + j)) :
    ∀ k < n, k / 32 = a → d.getLsbD (k % 32) = true → P k := by
  intro k hn ha hd
  have hk := h (k % 32) (Nat.mod_lt _ (by decide))
  rw [← ha, Nat.div_add_mod] at hk
  exact hk hn hd
theorem chosen_of {b : Block} {q : Nat} {o : Option Nat} {c : Nat}
    (h : (c ∈ b.runnables q ∧ (b.ctx c).state = .swapped) ∧ ∀ d ∈ b.runnables q, (b.ctx d).state = .swapped → d ≠ c →
      ((b.partSec q).express = true ∧ b.urgentWork c = true ∧ b.urgentWork d = false)
      ∨ (((b.partSec q).express = true → b.urgentWork d = b.urgentWork c) ∧ ctxDistance o c < ctxDistance o d)) :
    Chosen b q o c := ⟨h.1, fun d hd => h.2 d hd.1 hd.2⟩
/-- The state after `i`. -/
def after (i : Instr) (s : State) : State := match exec i s with | .next t => t | _ => s
def S0 : State := State.reset
def A0 : Acc := { priv := true, src := 0 }
def A1 : Acc := { priv := true, src := 15 }
def aU : Acc := { priv := false, src := 15 }
def S1 : State := { S0 with tp := { S0.tp with ready := true } }
/-- `S1` with another block. -/
def sb (f : Block → Block) : State := { S1 with blk := f S1.blk }
/-- A Setting in force over sixteen Beads, on lanes that run. -/
def bRun : Block :=
  { loader := { state := .active }
    setting := { beads := (List.range 16).map fun n => { beatPs := 1000, die := n / 2, lane := n / 2, active := true }
                 parts := [(0, { enabled := true, beadMask := 0xFFFF })]
                 affinity := [0xFFFF] }
    lanes := (List.range 8).map fun l =>
      (l, { started := true, clasp := { trained := true, phase := 0 }, bead := { trained := true, phase := 0 }, latKnown := true, timeSent := true, beatPs := 1000 })
    parts := { parts := [(0, { state := .enabled, resident := some 5 })], ctxs := [(5, { state := .resident })], beads := (List.range 16).map fun n => (n, { state := .enabled }) } }
def S2 : State := { S1 with blk := bRun }
def sr (f : Block → Block) : State := { S2 with blk := f bRun }
def ad (r : Reg) (k : Nat := 0) : BitVec 26 := BitVec.ofNat 26 (r.offset + k)
/-- Submission `g` of context 5, partition 0. -/
def subB (b : Block) (g : Nat) (f : Sub → Sub) : Block :=
  b.modSub g fun x => f { x with live := true, ctx := 5, kernel := true, nnodes := 4, started := true }
/-- A segment of one NOP at 0x10000. -/
def nopSeg : MemView := { words := [(0x10000, 0x100014753), (0x10040, 1)] }
def nopDesc : List Word := [0x101, 0x10000, 0, 0, 0, 0, 0, 0]
def fNop : Fetched := { ringIdx := 7, desc := nopDesc, code := 0, tFetch := 1 }
/-- Queue 4095, of context 5. -/
def qB (f : Queue → Queue) : State := sr fun b => b.modQueue 4095 fun x => f { x with ring := 0x100006, cfg := 0x50000 }
/-- Submission 65535 with node 2 of kind `k`, READY, its record at 0x10100. -/
def nd (k : Nat) (f : Node → Node) : State := sr fun b => subB b 65535 fun x => { x with
  desc := nopDesc, nodes := [(2, f { used := true, kind := k, state := .ready, resolved := true, record := 0x10100 })] }
def ondB (s : State) (f : Block → Block) : State := { s with blk := f s.blk }
/-- An EXPAND of submission 9 that is issued on Bead 15, its arguments at 0x30000, its program at 0x31000. -/
def exB (f : WinEntry → WinEntry) : Block := ((subB bRun 9 fun x => { x with desc := nopDesc }).modWin 15 4095 fun e =>
    f { e with used := true, gen := 7, seg := 9, kind := 2, state := .issued, index := 3
               record := [2, 0, 0x31000, 0x30000, 1, 4, 0, 0] }).modSaf 15 fun u => { u with busy := true, win := 4095 }
def exS (x : Expansion) : State := { S2 with blk := (exB id).modSaf 15 fun u => { u with exp := some x } }
/-- A Saffron program `p` that runs on Bead 15 at PC 0. -/
def saf (p : List (BitVec 32)) (f : Saffron → Saffron) : State := { S2 with blk := (exB id).modSaf 15 fun u => f { u with exp := some { prog := p, stage := .running, argsAddr := 0x30000, progAddr := 0x31000 } } }
def lkB (st : PeerState) (s : State) : State := ondB s fun b => { b with link := { b.link with en := true, opened := true, up := -1, peers := [(1023, { valid := true, accept := true, peer := 0xAA000, state := st, link := 7, rev := 1 })] } }

/-- `s` with the message `r` on the wire of the lane of Bead `n`. -/
def onUp (n : Nat) (r : Rec) (s : State) : State := ondB s fun b => b.modLane (s.params.laneOf n) fun l => { l with bead := { l.bead with wire := r.flat } }
def onDn (n : Nat) (r : Rec) (s : State) : State := ondB s fun b => b.modLane (s.params.laneOf n) fun l => { l with clasp := { l.clasp with wire := r.flat } }
/-- The block once the message has been received. -/
def rU (n : Nat) (r : Rec) (s : State) : Block := (s.blk.received s.params n true r).getD {}
def rD (n : Nat) (r : Rec) (s : State) : Block := (s.blk.received s.params n false r).getD {}
def cmp1 (q : Nat) : Comp := { seg := some 77, queue := q, ringIdx := 3, status := 0, failIndex := 0xFFFFFFFF, desc := List.replicate 8 0, tFetch := 1, tDone := 2, nreleased := 0, nretired := 1, bytes := List.replicate 20 0, audit := false, digest := 0, ctx := 77, doneV := false, save := false }
def lkF (s : State) : State := ondB s fun b => { b with link := { b.link with txq := List.replicate 64 ⟨[1, 2], 7, 1023, .poison⟩ } }
def lkS (s : State) : State := ondB s fun b => { b with link := { b.link with sending := some (⟨[1, 2], 7, 1023, .poison⟩, 7) } }

/-- The block once the next `fl` of a message to queue 127 of Bead 15 have reached it. -/
def rC (n total : Nat) (fl : List Word) (s : State) : Block :=
  match (s.blk.lane (s.params.laneOf n)).takePart (s.params.laneOf n) false (total != 0) (chnHeader s.params n 127 total) fl with
  | some x => s.blk.modLane (s.params.laneOf n) fun _ => x
  | none => {}
/-- `s` with a message of the flits `fs` to queue 127 of Bead `n` on the wire, of which `done` have been taken already. -/
def onC (n : Nat) (fs : List Word) (s : State) : State := onDn n (chnRec s.params n 127 0 fs) s
def onC1 (n : Nat) (fs : List Word) (k : Nat) (s : State) : State := { s with blk := rC n fs.length (fs.take k) (onC n fs s) }

/-! ## Commands that are not well formed: one for each check -/

theorem test_wf_port : (Instr.memoryWriteAck 62 0 0).wellFormed = false := by decide
theorem test_wf_codes : (Instr.memoryReadResponse 0 0 [0, 0, 0, 0, 0] [] {}).wellFormed = false := by decide
theorem test_wf_data : (Instr.memoryReadResponse 0 0 [] (List.replicate 33 0) {}).wellFormed = false := by decide
theorem test_wf_view_twice : (Instr.planVersion { words := [(8, 1), (8, 2)] }).wellFormed = false := by decide
theorem test_wf_view_address : (Instr.planVersion { words := [(9, 1)] }).wellFormed = false := by decide
theorem test_wf_slot : (Instr.dispatchTransfer 0 64).wellFormed = false := by decide
theorem test_wf_bead : (Instr.beadEnable A0 48).wellFormed = false := by decide
theorem test_wf_packet : (Instr.packetReceived { words := [1, 2, 3], lastBytes := 32, link := 0 }).wellFormed = false := by decide
theorem test_wf_external : (Instr.externalEventLevel 256).wellFormed = false := by decide
theorem test_wf_lane : (Instr.timePeriodic 24).wellFormed = false := by decide
theorem test_wf_lane_local : (Instr.timePeriodic 255).wellFormed = true := by decide
theorem test_wf_phase : (Instr.tokenClasp 0 3).wellFormed = false := by decide
theorem test_wf_flits : (Instr.chn true 0 0 0 1 [1, 2]).wellFormed = false := by decide
theorem test_wf_credit : (Instr.credit true 0 0 65).wellFormed = false := by decide
theorem test_wf_segment : (Instr.waitAct 65536 0 {}).wellFormed = false := by decide
theorem test_wf_index : (Instr.waitAct 0 0xFFFFFFFF {}).wellFormed = false := by decide
theorem test_wf_queue : (Instr.qEnable A0 4096).wellFormed = false := by decide
theorem test_wf_queue_op : (Instr.qCmdInvalid A0 0 1).wellFormed = false := by decide
theorem test_wf_rcb_code : (Instr.rcbError 0 true 0).wellFormed = false := by decide
theorem test_wf_hw_slot : (Instr.slotRelease 64).wellFormed = false := by decide
theorem test_wf_stall : (Instr.stallReport 2 48).wellFormed = false := by decide
theorem test_wf_cq_op : (Instr.cqCmdInvalid A0 0 3).wellFormed = false := by decide
theorem test_wf_peer : (Instr.helloRetryTimer 1024).wellFormed = false := by decide
theorem test_wf_chn_queue : (Instr.chnPop A0 0 128).wellFormed = false := by decide
theorem test_wf_part_op : (Instr.partCmdInvalid A0 0 4).wellFormed = false := by decide
theorem test_wf_target : (Instr.rearmTimer 64).wellFormed = false := by decide
theorem test_wf_trace_op : (Instr.traceCmdInvalid A0 5).wellFormed = false := by decide
theorem test_wf_domain : (Instr.domainLoss 104 {}).wellFormed = false := by decide
theorem test_wf_dom_op : (Instr.domCmdInvalid A0 3 0).wellFormed = true := by decide
theorem test_wf_dom_op_known : (Instr.domCmdInvalid A0 1 0).wellFormed = false := by decide
theorem test_wf_ecc_unit : (Instr.eccCorrectable 62 0 0).wellFormed = false := by decide
theorem test_wf_capture : (Instr.segmentCapture (some 48)).wellFormed = false := by decide

/-! ## The worked examples of the spec -/

/-- spec/05, "identifying the sixteen-Bead instance". -/
theorem test_identification : S1.regRead .setId = 0x57310D0A01010200 ∧ S1.regRead .setIfrev = 0x1010101210111010
    ∧ S1.regRead .setFmtrev = 0x101 ∧ S1.regRead .setParam = 0x0000001840880010 ∧ S1.regRead .setFeature = 0x27
    ∧ S1.regRead (.setBeadParam 15) = 0x07800028 ∧ S1.regRead (.setBeadParam 16) = 0 := by decide +kernel

/-- spec/03, "aligning time on a 36 ns PHY": R = 321 beats. -/
theorem test_time_echo : (timeHeader true, timeHeader false) = (0x6800000000000000, 0x6000000000000000)
    ∧ ((after (.timeEchoAnswer 7 321)
        (sr fun b => b.modLane 7 fun l => { l with
          latKnown := false, echoOut := true, bead := { l.bead with wire := [{ bits := header 6 [] }] } })).blk.lane 7).lat = 144 := by
  decide +kernel
theorem test_lane_registers :
    (sr fun b => b.modLane 7 fun l => { l with lat := 144, beatPs := 250 }).regRead (.flStatus 7) = 0x10090000
    ∧ (sr fun b => b.modLane 7 fun l => { l with lat := 144, beatPs := 250 }).regRead (.flCfg 7) = 0xFA := by
  decide +kernel

/-- spec/04, "a rank violation in the sixteen-Bead instance". -/
theorem test_rank_violation :
    let s := sb fun b => { b with loader := { b.loader with
      code := 0x15, cause := 0xB, errSection := 26, errBead := 0xFF, errOffset := 0x16F0, percent := 36, position := 5824 } }
    s.regRead .setStatus = 0x00150B00 ∧ s.regRead .setErr = 0x001AFF00000016F0
      ∧ s.regRead .setProgress = 0x00000024000016C0 := by decide +kernel

/-- spec/06, "one doorbell write for three queues", steps 4 and 5. -/
def bell : State := after (.doorbellWrite A0 2 2 0x43) (sr fun b =>
  ((b.modQueue 64 fun q => { q with state := .active, bound := some 5, cfg := 2 * 2 ^ 40 }).modQueue 65 fun q =>
    { q with state := .idle, cfg := 2 * 2 ^ 40 }).modQueue 70 fun q => { q with state := .idle, cfg := 3 * 2 ^ 40 })
theorem test_doorbell : (bell.blk.queue 64).pend = true ∧ (bell.blk.queue 65).pend = true ∧ (bell.blk.queue 65).state = .wait
    ∧ (bell.blk.queue 70).pend = false ∧ bell.regRead .hwsDbrej = 0x80200046 := by decide +kernel
theorem test_queue_registers :
    let s := sr fun b => b.modQueue 64 fun q =>
      { q with state := .idle, inflight := 4, head := 42, tailSeen := 42, fetched := 42, done := 38 }
    s.regRead (.qStatus 64) = 0x20000004 ∧ s.regRead (.qHead 64) = 0x2A ∧ s.regRead (.qTailSeen 64) = 0x2A
      ∧ s.regRead (.qProg 64) = 0x0000002A00000026 := by decide +kernel

/-- spec/07, "three queues joined through fences". -/
def seg7 : MemView := { words := [(0x8000100000, 0x0000000600014753), (0x8000100008, 0x0000000300000003),
  (0x8000100040, 3), (0x8000100048, 0x100000000), (0x8000100050, 0x30101),
  (0x80001000C0, 0x0202000200020000), (0x80001000C8, 0x0000000200000001), (0x80001000D0, 0x08001000)] }
theorem test_node_record : (nodeOfRecord { desc := [0x0001010400020101, 0x8000100000, 0x2A41, 0x11, 0, 0, 0, 0] } seg7 0x80001000C0).kind = 0
    ∧ recFence seg7 0x8000100040 = 0x30101#32 ∧ recNsucc seg7 0x80001000C0 = 2 ∧ recClass seg7 0x80001000C0 = 2
    ∧ descDoneFence [0x0001010400020101, 0x8000100000, 0x2A41, 0x11, 0, 0, 0, 0] = 0x10104#32 := by decide +kernel

/-- spec/08, "three queues that wait on one another": the CLEAR of fence A, and its entry before. -/
def poisoned : State := sr fun b => b.modFence 0x201 fun f =>
  { f with state := .poisoned, owner := 5, gen := 0x8006, pgen := 0x8007, pstatus := Status.fenceCycle }
theorem test_fence_clear : poisoned.regRead (.fncEntry 0x201) = 0x80144C0080078006
    ∧ (after (.fncClear A0 0x201) poisoned).regRead (.fncEntry 0x201) = 0x4014000000000006 := by decide +kernel

/-- spec/09, "deterministic expert placement under a regulator": the refill at 5,000,064 ns. -/
def refilled (l : Int) : State := sr fun b => b.modBead 4 fun d => { d with buckets := [⟨2, 40000, 8388608000, l * 1000⟩] }
theorem test_regulator : (refilled (-4192768)).regRead (.bdReg 4 0) = 0x8800FFFFFFC00600
    ∧ (sr fun b => b.modSlot 4 37 fun x => { x with cfg := { x.cfg with enabled := true, cls := 2, part := 1 }, held := [⟨0x13, none⟩] }).regRead (.bdSlot 4 37) = 0x4A01001300000000 := by decide +kernel

/-- spec/10, "six tokens through a 96-expert layer": the routing of its tokens under spill and under strict. -/
def tables (strict : Bool) : RouteTables := {
  insts := (List.range 96).map fun e =>
    if e = 17 then [⟨0, 17, 0xC31⟩, ⟨9, 96, 0xC31⟩] else [⟨0, e, 0xC31⟩],
  limits := (List.range 96).map fun e => if e = 17 then 4 else 2,
  peers := [0xC31], room := 6, strict := strict }
def cands : List (List (Elt × Elt)) := [[(0, 17), (0, 40)], [(0, 40), (0, 17)], [(0, 40), (0, 63)], [(0, 5), (0, 40)], [(0, 17), (0, 5)], [(0, 17), (0, 63)]]
def routed (strict : Bool) : RouteState :=
  routeAll { tokrec := 0x1000, nexp := 96, ntok := 6, send := 0x8000, sendStride := 0x1000 } (tables strict) 0 cands {}
theorem test_routing_spill : (routed false).total = 10 ∧ (routed false).trunc = true
    ∧ (routed false).out.lookup 0x1020 = some [0xFFFFFFFF00110028, 0xFFFFFFFFFFFFFFFF, 2, 0xFFFFFFFFFFFF6028]
    ∧ (routed false).out.lookup 0x1040 = some [0xFFFFFFFFFFFF003F, 0xFFFFFFFFFFFFFFFF, 0x11, 0xFFFFFFFFFFFFFF3F]
    ∧ (tget [] (routed false).sends 0).length = 6 := by decide +kernel
theorem test_routing_strict : (routed true).total = 9
    ∧ (routed true).out.lookup 0x1040 = some [0xFFFFFFFFFFFFFFFF, 0xFFFFFFFFFFFFFFFF, 0x10, 0xFFFFFFFFFFFFFFFF]
    ∧ (tget [] (routed true).sends 0).length = 5 := by decide +kernel
theorem test_routing_outputs : locWord (localCounts (tables false) (routed false).used 0xC31) 96 = 0x8009001100000002
    ∧ (expertRecord (tget 0 (routed false).used 17), expertRecord (tget 0 (routed false).used 0)) = (4, 0x100000000)
    ∧ sendHeader 6 0xC31 = [0xC3100000006, 0, 0, 0]
    ∧ sendEntry 1 (2 ^ 40 + 2 ^ 96) = [0x200000001, 0, 0x10000000000, 0x100000000] := by decide +kernel

/-- spec/11, "the routing pass of the 96-expert layer": SMOVI builds the shape of S6. -/
def smovi (part : BitVec 32) (s6 : Word) : State := { S2 with blk := (exB id).modSaf 15 fun u => { u with
  exp := some { prog := [0x40600000 + part * 0x10000 + (if part = 0 then 0xC0 else 0x2020), 0x4F000000], stage := .running, argsAddr := 0, progAddr := 0 }, scalars := [(6, s6)] } }
theorem test_smovi_clears : ((after (.sSmovi 15 ⟨6, 0, 0xC0⟩) (smovi 0 0xFFFFFFFFFFFFFFFF)).blk.saf 15).scalar 6 = 0xC0 := by
  decide +kernel
theorem test_smovi_keeps : ((after (.sSmovi 15 ⟨6, 2, 0x2020⟩) (smovi 2 0xC0)).blk.saf 15).scalar 6 = 0x2020000000C0 := by
  decide +kernel

/-- spec/12, "a 300-sequence step at exhaustion". -/
theorem test_sequence_registers :
    let s := sr fun b => { b with seq := { b.seq with
      seqs := [(299, { state := .parked, ctx := 7, prio := 2, seqId := 0xA513, pend := 1 })]
      ctxs := [(7, { limit := 20000, used := 19997 })] } }
    s.regRead (.seqId 299) = 0x800702000000A513 ∧ s.regRead (.seqTail 299) = 0x0001000000000000
      ∧ s.regRead (.seqPages 299) = 0 ∧ s.regRead (.sqtCtxPages 7) = 0x00004E2000004E1D := by decide +kernel

/-- spec/13, "a signal that overtakes its data". -/
theorem test_signal_packet : signalPacket 0x12 0xC32 0xC31 0x40210#32 0 false 6291456
    = [0x01112000C3200C31, 0x40210, 0x600000, 0] := by decide +kernel
theorem test_peer_register : (sr fun b => b.modPeer 0 fun _ =>
    { valid := true, accept := true, state := .up, rev := 0x12, link := 3, peer := 0xC32 }).regRead (.lnkPeer 0)
    = 0xD01200030000 * 0x10000 + 0xC32 := by decide +kernel
theorem test_completion_record : (({
      seg := none, queue := 20, ringIdx := 0x41, status := 0, failIndex := 0, desc := List.replicate 8 0,
      tFetch := 0, tDone := 0, nreleased := 0, nretired := 0, bytes := [], audit := false, digest := 0, ctx := 3, doneV := false,
      save := false } : Comp).record 0x57).take 2 = [0x1020000140000000, 0x4100000057] := by decide +kernel
theorem test_pad : padWord 1 = 0xF010000000000000 := by decide
theorem test_cq_register : (sr fun b => b.modCq 12 fun c => { c with state := .active, cseq := 0x58 }).regRead (.cqStatus 12)
    = 0x2000000000000058 := by decide +kernel

/-- spec/14, "a wrapped message read under cut-through". -/
theorem test_channel_records : (chnRec S2.params 0 12 5 (List.replicate 10 0)).header = 0x5060A48000000000
    ∧ (chnRec S2.params 5 12 0 (List.replicate 10 0)).header = 0x5460048000000000
    ∧ (creditRec S2.params 5 12 3).header = 0x4460300000000000
    ∧ (creditRec S2.params 0 0 3).header = 0x4000300000000000 := by decide +kernel
def rxq (rp wp vp : Nat) (w : ChnWord) : State := sr fun b => b.modChan 5 fun c => { c with
  rx := [(12, { routeV := true, words := [(0, w)], rp := rp, wp := wp, vp := vp })] }
def lastWord : ChnWord := { quarters := [0x9020004000, 0x1700001000, 0, 0], last := true, mwords := 3, vb := 16 }
theorem test_pop_last : (after (.chnPop A0 5 12) (rxq 64 65 65 lastWord)).regRead (.chnRtag 5 12) = 0x40000310
    ∧ (after (.chnPop A0 5 12) (rxq 64 65 65 lastWord)).regRead (.chnRd 5 12 1) = 0x1700001000 := by decide +kernel
theorem test_pop_underrun : (after (.chnPop A0 5 12) (rxq 65 65 65 lastWord)).regRead (.chnCount 5 12) = 0xA0004100 := by
  decide +kernel

/-- spec/15, "a quantum switch in partition 1". -/
theorem test_partition_registers :
    let s := sr fun b => { b with
      setting := { b.setting with parts := [(1, { enabled := true, quantumUs := 5000 })] }
      parts := { b.parts with
        parts := [(1, { state := .enabled, reason := 1, resident := some 6, percent := 100, count := 37, position := 81920 })]
        ctxs := [(5, { state := .swapped, part := 1, atSp := true, recV := true, liveCount := 6, saveCost := 49152 })]
        ctxSel := 5 } }.modQueue 64 fun q => { q with cfg := 2 ^ 56, state := .idle, inflight := 1 }
    s.regRead (.partStatus 1) = 0x20801A0000001388 ∧ s.regRead (.partSwitch 1) = 0x6400250000014000
      ∧ s.regRead .ctxReg = 0x238006000000C000 := by decide +kernel

/-- spec/16, "nesting and hold-off on one control core", steps 3 and 7. -/
def nest (f : Evc → Evc) : State := sr fun b => { b with evc := f { b.evc with
  srcs := [(64, { target := 3, prio := 20 }), (515, { target := 3, prio := 6, group := 10 }), (1100, { target := 3, prio := 6, group := 10 })]
  groups := [(10, { holdoffNs := 2000 })] } }
theorem test_claim_lower_of_tie : (nest fun e => { e with pend := 1 <<< 515 ||| 1 <<< 1100 }).blk.winner 3 = 515 := by decide +kernel
theorem test_event_registers : (nest fun e => { e with srcs := [(515, { target := 3, prio := 6, group := 10, automask := false })] }).regRead (.evcSrcCfg 515)
    = 0x28306 := by decide +kernel

/-- spec/17, "auditing the three-queue submission". -/
theorem test_key_record : (keyRecord 0x80000321 { bRun with audit := { bRun.audit with prof := 0x0000000100020004 } }).take 3
    = [0x000201010D0A5731, 0x0000000200040321, 1] := by decide +kernel

/-- spec/18, "the ring at the moment of interest". -/
theorem test_trace_words : (({ count := 2, first := 1000040, last := 1000090 } : Loss).words).take 3
      = [0x05FF000000000002, 0xF4268, 0xF429A]
    ∧ (triggerWords 1 12 1000200).take 2 = [0x08FF000000000C01, 0xF4308] := by decide +kernel
theorem test_trace_registers :
    let s := sr fun b => { b with trace := { b.trace with state := .triggered, head := 64, trigPos := 195, tail := 258, lost := 2 } }
    s.regRead .trcStatus = 0x80000000 ∧ s.regRead .trcHead = 0x40 ∧ s.regRead .trcPos = 0x000000C300000102
      ∧ s.regRead .trcLost = 2 := by decide +kernel

/-- spec/19, "a brown-out ridden out". -/
theorem test_warn_registers :
    let s := sr fun b => { b with power := { b.power with episodes := 3, durUs := 310, holdUs := 500, t0 := 2000000000 }
                                  lkt := { b.lkt with epoch := 5 } }
    s.regRead .pwrWarn = 0x0000000300000136 ∧ s.regRead .pwrWarnCfg = 0x1F4 ∧ s.regRead .pwrWarnT0 = 0x77359400
      ∧ s.regRead .lktStop = 5 := by decide +kernel

/-! ## Witnesses -/

/-- A state with a capture, a staged half and a key, and a command in its queue. -/
def front : State := { S2 with
  pending := [.scrub]
  tp := { S1.tp with captures := [(15, some { offset := 0x40, upper := 9 })], staged := [(0x40, some 5)] }
  keys := { hash := [(3, 7)], cfg := 0x1F, audPart := 0x8000FFFF } }
theorem witness_FrontInvariantIsKept : FrontInv front ∧ step front = .next (after .scrub { front with pending := [] }) := by
  refine ⟨?_, rfl⟩
  unfold FrontInv
  decide +kernel
theorem witness_FrontChangesOnlyByItsCommands : exec .scrub front = .next (after .scrub front)
    ∧ debugCommand .scrub = false ∧ offsetWrite .scrub = false ∧ Instr.access .scrub = none := ⟨rfl, rfl, rfl, rfl⟩
def sizedState : State := { S2 with pending := [.scrub] }
theorem witness_SaffronTilesKeepTheirSize : (∀ n, (sizedState.blk.saf n).sized) ∧ ∃ t, step sizedState = .next t :=
  ⟨fun _ _ => ⟨Nat.zero_le _, Nat.zero_le _⟩, _, rfl⟩
theorem witness_OnlyTheLossOfCoreStops : ∀ m, Instr.domainLoss 1 m ≠ .domainLoss 0 m := by
  intro m h; cases h


namespace Access
def sLock : State := { S1 with keys := { cfg := 0x10, audPart := 0x80000000 } }
def sCut : State := sb fun b => { b with lkt := { b.lkt with sel := 0x500 } }.modLane 2 fun l => { l with failed := true }
def sOff : State := sb fun b => b.modDom 38 fun d => { d with state := .off }
def sTapR : State := { S1 with tap := { S1.tap with ready := some 7, beadReady := [(3, some 9)] } }
def sTapW : State := { S1 with tap := { S1.tap with waiting := some (Reg.lktEntry 0).offset } }
theorem witness_LocksHoldUntilColdReset :
    exec (.registerWrite A0 (ad Reg.keyCfg) false 0) sLock
        = .next (after (.registerWrite A0 (ad Reg.keyCfg) false 0) sLock)
    ∧ Instr.registerWrite A0 (ad Reg.keyCfg) false (0 : Word) ≠ Instr.coldResetAssert
    ∧ sLock.keys.locked = true
    ∧ sLock.keys.audLocked = true := by
  refine ⟨?_, ?_, ?_, ?_⟩ <;>
    first | decide +kernel | rfl
theorem witness_EveryAcceptedAccessIsAnswered :
    (Instr.setStart A0).access = some A0
    ∧ S1.tp.ready = true
    ∧ (Instr.setStart A0).access = some A0
    ∧ S0.tp.ready = false
    ∧ (Instr.registerWrite A0 (67108863 : BitVec 26) false (0 : Word)).access = some A0
    ∧ S1.tp.ready = true := by decide +kernel
theorem witness_AccessesAreFoundAndJudged :
    -- 1.1
    Reg.mapped S1.params (Reg.cqRing 4095) = true
    ∧ (Reg.cqRing 4095).is64 = true
    -- 2.1
    ∧ S1.tp.ready = true
    ∧ decodeReg S1.params (BitVec.toNat (67108863 : BitVec 26)) false = none
    -- 2.2
    ∧ S1.tp.ready = true
    ∧ decodeReg S1.params (ad Reg.setId).toNat false = some (Reg.setId, false)
    ∧ (A0.priv = true ∨ Reg.userOpen false Reg.setId = true)
    ∧ (A0.priv = true ∨ Reg.userOpen true Reg.setId = true)
    ∧ Performs S1 A0 Reg.setId false
    ∧ Performs S1 A0 Reg.setId true
    ∧ false = false
    -- 2.2
    ∧ S1.tp.ready = true
    ∧ decodeReg S1.params (ad (Reg.cqCmd 4)).toNat false = some (Reg.cqCmd 4, false)
    ∧ aU.priv = false
    ∧ Reg.userOpen false (Reg.cqCmd 4) = false
    ∧ aU.priv = false
    ∧ Reg.userOpen true (Reg.cqCmd 4) = false
    -- 2.2
    ∧ sCut.tp.ready = true
    ∧ decodeReg sCut.params (ad (Reg.lktEntry 0)).toNat true = some (Reg.lktEntry 0, false)
    ∧ (A0.priv = true ∨ Reg.userOpen false (Reg.lktEntry 0) = true)
    ∧ Block.reachable sCut.params sCut.blk (Reg.lktEntry 0) false = false
    ∧ Performs sCut A0 (Reg.lktEntry 0) true
    ∧ false = false
    ∧ (true = true ∨ (Reg.lktEntry 0).is64 = false)
    -- 2.2
    ∧ sCut.tp.ready = true
    ∧ decodeReg sCut.params (ad (Reg.chnRd 5 0 0) 4).toNat false = some (Reg.chnRd 5 0 0, true)
    ∧ (A0.priv = true ∨ Reg.userOpen true (Reg.chnRd 5 0 0) = true)
    ∧ Block.reachable sCut.params sCut.blk (Reg.chnRd 5 0 0) true = false := by
  refine ⟨?_, ?_, ?_, ?_, ?_, ?_, ?_, ?_, ?_, ?_, ?_, ?_, ?_, ?_, ?_, ?_, ?_, ?_, ?_, ?_, ?_, ?_, ?_, ?_, ?_,
    ?_, ?_, ?_⟩ <;>
    first | decide +kernel | (unfold Performs; decide +kernel)
theorem witness_SplitAccessesAreWhole :
    -- 1
    decodeReg S1.params (ad (Reg.qRing 4095)).toNat false = some (Reg.qRing 4095, false)
    ∧ decodeReg S1.params (ad (Reg.qRing 4095) 4).toNat false = some (Reg.qRing 4095, true)
    ∧ (Reg.qRing 4095).is64 = true
    ∧ Performs S1 A0 (Reg.qRing 4095) false
    ∧ (∀ (c : Capture), tget none S1.tp.captures A0.src.toNat = some c → c.offset ≠ (Reg.qRing 4095).offset)
    ∧ (∀ (t : Nat), Reg.qRing 4095 ≠ Reg.tgtClaim t)
    ∧ (∀ (n q : Nat), Reg.qRing 4095 ≠ Reg.chnRd n q 0)
    -- 1.1.5
    ∧ decodeReg S1.params (ad (Reg.qRing 4095)).toNat false = some (Reg.qRing 4095, false)
    ∧ decodeReg S1.params (ad (Reg.qRing 4095) 4).toNat false = some (Reg.qRing 4095, true)
    ∧ (Reg.qRing 4095).is64 = true
    ∧ Performs S1 A0 (Reg.qRing 4095) false
    ∧ A0.src = A0.src
    ∧ Performs { after (.splitReadLowerHalf A0 (ad (Reg.qRing 4095))) S1 with blk := S1.blk } A0 (Reg.qRing 4095) false
    -- 2
    ∧ decodeReg S1.params (ad (Reg.qRing 4095)).toNat false = some (Reg.qRing 4095, false)
    ∧ decodeReg S1.params (ad (Reg.qRing 4095) 4).toNat false = some (Reg.qRing 4095, true)
    ∧ decodeReg S1.params (ad (Reg.qRing 4095)).toNat true = some (Reg.qRing 4095, false)
    ∧ Performs S1 A0 (Reg.qRing 4095) true
    ∧ Performs S1 A0 (Reg.qRing 4095) true
    -- 3
    ∧ decodeReg S1.params (ad Reg.imgAddr).toNat true = some (Reg.imgAddr, false)
    ∧ (true = true ∨ Reg.imgAddr.is64 = false)
    ∧ Performs S1 A0 Reg.imgAddr true
    ∧ S1.blk.loader.inForce = false
    ∧ Reg.imgAddr.rwBits ||| Reg.imgAddr.settingBits ||| Reg.imgAddr.w1cBits ≠ (0 : Word)
    ∧ Reg.imgAddr ≠ Reg.lktSel
    ∧ Reg.imgAddr ≠ Reg.trcProgSel
    -- 3
    ∧ decodeReg S2.params (ad (Reg.tgtThresh 3)).toNat false = some (Reg.tgtThresh 3, false)
    ∧ (false = true ∨ (Reg.tgtThresh 3).is64 = false)
    ∧ Performs S2 A0 (Reg.tgtThresh 3) true
    ∧ S2.blk.loader.inForce = true
    -- 3
    ∧ decodeReg S1.params (ad Reg.lktBeads).toNat true = some (Reg.lktBeads, false)
    ∧ (true = true ∨ Reg.lktBeads.is64 = false)
    ∧ Performs S1 A0 Reg.lktBeads true
    ∧ Reg.lktBeads.readOnly = true
    -- 3
    ∧ decodeReg S1.params (ad Reg.setCtl).toNat false = some (Reg.setCtl, false)
    ∧ (false = true ∨ Reg.setCtl.is64 = false)
    ∧ Performs S1 A0 Reg.setCtl true
    ∧ Reg.setCtl.writeOnly = true := by
  refine ⟨?_, ?_, ?_, ?_, ?_, ?_, ?_, ?_, ?_, ?_, ?_, ?_, ?_, ?_, ?_, ?_, ?_, ?_, ?_, ?_, ?_, ?_, ?_, ?_, ?_,
    ?_, ?_, ?_, ?_, ?_, ?_, ?_, ?_, ?_, ?_, ?_, ?_⟩ <;>
    (first
      | decide +kernel
      | (intros; exact Reg.noConfusion)
      | (intros; simp; done)
      | (unfold Performs; decide +kernel))
theorem witness_SegmentsReadTheirSources :
    -- 4
    inIdent (BitVec.toNat (12288 : BitVec 26)) = false
    ∧ inLkt (BitVec.toNat (12288 : BitVec 26)) = false
    -- 4
    ∧ (inIdent (ad Reg.setId).toNat = true ∨ inLkt (ad Reg.setId).toNat = true)
    ∧ S1.tckRead (ad Reg.setId).toNat = true
    -- 4
    ∧ inLkt (ad (Reg.lktEntry 0)).toNat = true
    ∧ S1.tckRead (ad (Reg.lktEntry 0)).toNat = false
    -- 5
    ∧ 15 < S1.params.nBeads
    ∧ (S1.blk.dom (8 + 2 * 15)).state ≠ DState.off
    -- 5
    ∧ 15 < sOff.params.nBeads
    ∧ (sOff.blk.dom (8 + 2 * 15)).state = DState.off
    -- 6
    ∧ sOff.params.nBeads ≤ 16
    -- 7
    ∧ S1.tap.waiting = none
    ∧ S1.tap.ready = none
    -- 7.1
    ∧ sTapR.tap.waiting = none
    ∧ sTapR.tap.ready = some (7 : Word)
    -- 8
    ∧ sTapW.tap.waiting = some (Reg.lktEntry 0).offset
    ∧ sTapW.tap.ready = none
    -- 9.1
    ∧ tget none sTapR.tap.beadReady 3 = some (9 : Word)
    -- 9
    ∧ tget none sTapR.tap.beadReady 4 = none := by
  refine ⟨?_, ?_, ?_, ?_, ?_, ?_, ?_, ?_, ?_, ?_, ?_, ?_, ?_, ?_, ?_, ?_, ?_, ?_, ?_⟩ <;>
    first | decide +kernel
end Access

namespace Events
def pE : Params := { Params.sixteenBead with extEvents := 256 }
def s0 : State := { S2 with params := pE }
def ev (f : Evc → Evc) : State := sr fun b => { b with evc := f b.evc }
def e1 : State := ev fun e => { e with groups := [(127, { holdoffNs := 5, ends := some 0 })] }
def e2 : State := ev fun e => { e with
  pend := 0x80, srcs := [(7, { target := 3, prio := 5, automask := true, group := 127 })], groups := [(127, { holdoffNs := 5 })],
  targets := [(3, { msg := true, msgAddr := 0x1000, msgData := 9 })] }
def e3 : State := ev fun e => { e with targets := [(3, { rearm := 2, armed := false })] }
def e5 : State := sr fun b => { b with
  evc := { b.evc with pend := 1 <<< 831, srcs := [(831, { target := 3, prio := 5 })], targets := [(3, { msg := true, msgAddr := 0x1000, msgData := 9 })] }
  mp := { b.mp with writes := [{ port := 15, id := 4, cls := 3, addr := 0x1000, bytes := [], purpose := .headOf 4095 }] }
  front := { b.front with queues := [(4095, { state := .halted })] } }
def e4 : State := ev fun e => { e with active := 0x80, srcs := [(7, { target := 3, prio := 5, owner := 3, aprio := 5 })] }
def rq : RReq := { port := 15, id := 255, cls := 0, addr := 0x1000, len := 256, purpose := .nodeRecord 15 4095 3 (some (9, 0)) }
def rq2 : RReq := { port := 15, id := 7, cls := 0, addr := 0x1000, len := 256, purpose := .scrap }
def m1 : State := sr fun b => { b with mp := { b.mp with reads := [rq], heldReads := [rq2] } }.modWin 15 4095 fun e =>
  { e with used := true, gen := 3, recordDue := true }
def wq : WReq := { port := 63, id := 255, cls := 0, addr := 0x1008, bytes := [1,2,3,4], purpose := .table }
def m2 : State := sr fun b => { b with mp := { b.mp with writes := [wq] } }
def dsp : Dispatch := { win := 5, tile := none, words := [] }
def g1 : State := sr fun b => b.modSlot 15 39 fun x => { x with presented := some dsp }
def g2 : State := sr fun b => (b.modSlot 15 39 fun x => { x with held := [⟨5, none⟩] }).modWin 15 5 fun e => { e with used := true, state := .issued, seg := 9 }
def g1s : State := ondB g1 fun b => b.modBead 15 fun d => { d with mode := .stopping }
def g3 : State := sr fun b => b.modSlot 15 39 fun x => { x with beats := [(some 9, 2)] }
def g2t : State := ondB g2 fun b => (b.modSlot 15 39 fun x => { x with held := [⟨5, some 65535⟩] }).modBead 15 fun d => { d with tiles := [(2, { used := true, win := 5, next := 65535 })] }
def g4t : State := ondB g2t fun b => b.modSlot 15 39 fun x => { x with resetDue := true }
def g4p : State := ondB g1 fun b => (b.modSlot 15 39 fun x => { x with resetDue := true }).modWin 15 5 fun e => { e with used := true, state := .issued, seg := 9 }
def g4f : State := ondB g4p fun b => { b with parts := { b.parts with beads := b.parts.beads.map fun x => if x.1 = 15 then (15, { x.2 with state := .forcing }) else x } }
def g4u : State := ondB g4p fun b => (b.modSlot 15 39 fun x => { x with presented := some { dsp with tile := some 65535 } }).modBead 15 fun d => { d with tiles := [(2, { used := true, win := 5, next := 65536 })] }
def g4 : State := sr fun b => (b.modSlot 15 39 fun x => { x with held := [⟨5, none⟩], resetDue := true }).modWin 15 5 fun e => { e with used := true, state := .issued, seg := 9 }
def g5 : State := sr fun b => b.modSlot 15 39 fun x => { x with resetReq := true }
def g6 : State := sr fun b => b.modSlot 15 39 fun x => { x with resetWait := true }
theorem witness_EventSourcesAreRaisedAndDelivered :
    -- 1.1
    internalSource (BitVec.toNat (7 : BitVec 11)) = true
    -- 1.2
    ∧ s0.blk.inReset = false
    ∧ 255 < s0.params.extEvents
    ∧ s0.params.extEvents < 2048
    -- 1.3
    ∧ Performs S2 A0 Reg.evcSwi true
    ∧ BitVec.toNat (2047 : BitVec 32) % 2048 ≠ 0
    -- 1.4
    ∧ Performs S2 A0 Reg.evcSwi true
    ∧ BitVec.toNat (2048 : BitVec 32) % 2048 = 0
    -- 2.1
    ∧ Performs S2 A0 (Reg.evcPend (BitVec.toNat (31 : BitVec 5))) true
    -- 2.2
    ∧ Performs S2 A0 (Reg.evcMask (BitVec.toNat (0 : BitVec 5))) true
    -- 2.3
    ∧ Performs S2 A0 Reg.evcPclr true
    ∧ BitVec.toNat (2047 : BitVec 32) % 2048 ≠ 0
    -- 2.4
    ∧ Performs S2 A0 (Reg.evcSrcCfg (BitVec.toNat (0 : BitVec 11))) true
    ∧ ((0 : BitVec 11) = (0 : BitVec 11) ∨ BitVec.extractLsb' 0 5 (164614 : BitVec 32) ≠ (0 : BitVec 5)
        ∧ S2.params.evTargets ≤ (BitVec.extractLsb' 8 6 (164614 : BitVec 32)).toNat)
    -- 2.4
    ∧ Performs S2 A0 (Reg.evcSrcCfg (BitVec.toNat (2047 : BitVec 11))) true
    ∧ (2047 : BitVec 11) ≠ (0 : BitVec 11)
    ∧ (BitVec.extractLsb' 0 5 (16941830 : BitVec 32)
        = (0 : BitVec 5) ∨ (BitVec.extractLsb' 8 6 (16941830 : BitVec 32)).toNat < S2.params.evTargets)
    -- 3
    ∧ (e1.blk.evGroup (BitVec.toNat (127 : BitVec 7))).ends = some 0
    ∧ 0 ≤ e1.blk.now
    -- 4
    ∧ (e2.blk.evTarget 3).msg = true
    ∧ (e2.blk.evTarget 3).armed = true
    ∧ e2.blk.winner 3 ≠ 0
    ∧ e2.blk.reportDue (e2.blk.winner 3) = false
    ∧ (e2.blk.mp.freeWrite 63).isSome = true
    -- 6
    ∧ (e3.blk.evTarget 3).rearm = 1 + 1
    -- 7
    ∧ Performs S2 A0 Reg.evcSync false
    -- 5
    ∧ e5.blk.reportDue (e5.blk.winner 3) = true := by
  refine ⟨?_, ?_, ?_, ?_, ?_, ?_, ?_, ?_, ?_, ?_, ?_, ?_, ?_, ?_, ?_, ?_, ?_, ?_, ?_, ?_, ?_, ?_, ?_, ?_, ?_,
    ?_, ?_⟩ <;>
    first | decide +kernel | (unfold Performs; decide +kernel)
theorem witness_WinnerIsTheGreatestEligible :
    Tab.wf { : EvSrc } e2.blk.evc.srcs = true
    ∧ e2.blk.winner 3 ≠ 0
    ∧ Tab.wf { : EvSrc } e2.blk.evc.srcs = true
    ∧ e2.blk.winner 4 = 0 := by decide +kernel
theorem witness_ClaimAndComplete :
    -- 1
    Performs e2 A0 (Reg.tgtClaim 4) false
    ∧ e2.blk.winner 4 = 0
    -- 2
    ∧ Performs e2 A0 (Reg.tgtClaim 3) false
    ∧ e2.blk.winner 3 = 7
    ∧ 7 ≠ 0
    ∧ 7 < 2048
    ∧ 7 < 2048
    -- 3
    ∧ Performs e4 A0 (Reg.tgtComplete 3) true
    ∧ e4.blk.evc.isActive (BitVec.toNat (2055 : BitVec 32) % 2048) = true
    ∧ (e4.blk.evSrc (BitVec.toNat (2055 : BitVec 32) % 2048)).owner = 3
    -- 4
    ∧ Performs e4 A0 (Reg.tgtComplete 4) true
    ∧ (e4.blk.evc.isActive (BitVec.toNat (7 : BitVec 32) % 2048)
        = false ∨ (e4.blk.evSrc (BitVec.toNat (7 : BitVec 32) % 2048)).owner ≠ 4) := by
  refine ⟨?_, ?_, ?_, ?_, ?_, ?_, ?_, ?_, ?_, ?_, ?_, ?_⟩ <;>
    first | decide +kernel | (unfold Performs; decide +kernel)
def martr_1 : MemView := {}
def martr_2 : MemView := {}
theorem witness_MemoryAnswersReachTheirRequests :
    -- 1
    List.find? (fun x => x.port == 15 && x.id == BitVec.toNat (255 : BitVec 8)) m1.blk.mp.reads = some rq
    ∧ rq.purpose = RPurpose.nodeRecord 15 4095 3 (some (9, 0))
    ∧ ([(0 : BitVec 2), (0 : BitVec 2), (0 : BitVec 2), (0 : BitVec 2)].all fun x => x == BitVec.ofNat 2 0)
        = true
    ∧ (m1.blk.win 15 4095).used = true
    ∧ (m1.blk.win 15 4095).gen = 3
    ∧ (m1.blk.win 15 4095).state = WinState.window
    -- 2
    ∧ List.find? (fun x => x.port == 15 && x.id == BitVec.toNat (254 : BitVec 8)) m1.blk.mp.reads = none
    -- 3
    ∧ List.find? (fun x => x.port == 63 && x.id == BitVec.toNat (255 : BitVec 8)) m2.blk.mp.writes = some wq
    ∧ wq.purpose ∈ [WPurpose.dump, WPurpose.table, WPurpose.scrap]
    ∧ m2.blk.mp.heldWrites = []
    -- 4
    ∧ List.find? (fun x => x.port == 63 && x.id == BitVec.toNat (255 : BitVec 8)) m2.blk.mp.writes = some wq
    ∧ wq.purpose ∈ [WPurpose.dump, WPurpose.table, WPurpose.scrap]
    ∧ (3 : BitVec 2) ≠ (0 : BitVec 2)
    ∧ m2.blk.mp.heldWrites = []
    ∧ m2.blk.mp.errInfo.getLsbD 31 = false := by decide +kernel
theorem witness_EngineTasksRunAndReset :
    -- 1.1
    (g1.blk.slot 15 39).presented = some dsp
    ∧ (g1.blk.bead 15).mode = StopMode.run
    ∧ (g1.blk.bead 15).fencedOff = false
    -- 1.2
    ∧ ((g1s.blk.bead 15).mode ≠ StopMode.run ∨ (g1s.blk.bead 15).fencedOff = true)
    -- 1.3
    ∧ g2.blk.inReset = false
    ∧ (g2.blk.slot 15 39).resetReq = false
    ∧ (g2.blk.bead 15).fencedOff = false
    ∧ (g2.blk.slot 15 39).held = [{ win := 5, tile := none : HeldTask }]
    ∧ { win := 5, tile := none : HeldTask }.win = BitVec.toNat (5 : BitVec 12)
    ∧ { win := 5, tile := none : HeldTask }.tile = none
    -- 1.4
    ∧ g2.blk.inReset = false
    ∧ (g2.blk.slot 15 39).resetReq = false
    ∧ (g2.blk.bead 15).fencedOff = false
    ∧ Option.map (fun h => h.win) (g2.blk.slot 15 39).held.head? ≠ some (BitVec.toNat (6 : BitVec 12))
    -- 1.5
    ∧ (g3.blk.slot 15 39).beats = [(some 9, 2)]
    ∧ (g3.blk.slot 15 39).resetReq = false
    ∧ BitVec.toNat (19 : BitVec 5) < 20
    -- 1.3
    ∧ g2t.blk.inReset = false
    ∧ (g2t.blk.slot 15 39).resetReq = false
    ∧ (g2t.blk.bead 15).fencedOff = false
    ∧ (g2t.blk.slot 15 39).held = [{ win := 5, tile := some 65535 : HeldTask }]
    ∧ { win := 5, tile := some 65535 : HeldTask }.win = BitVec.toNat (5 : BitVec 12)
    ∧ { win := 5, tile := some 65535 : HeldTask }.tile ≠ none
    ∧ (g2t.blk.bead 15).tileOf { win := 5, tile := some 65535 : HeldTask }.win
        = some ((((g2t.blk.bead 15).tileOf { win := 5, tile := some 65535 : HeldTask }.win).get (by decide +kernel)).1, (((g2t.blk.bead 15).tileOf { win := 5, tile := some 65535 : HeldTask }.win).get (by decide +kernel)).2)
    -- 2.4
    ∧ (g4t.blk.slot 15 39).resetDue = true
    ∧ (g4t.blk.slot 15 39).resetReq = false
    ∧ (g4t.blk.slot 15 39).resetWait = false
    ∧ (g4t.blk.slot 15 39).held = [{ win := 5, tile := some 65535 : HeldTask }]
    ∧ { win := 5, tile := some 65535 : HeldTask }.tile ≠ none
    ∧ (g4t.blk.slot 15 39).presented = none
    ∧ (g4t.blk.bead 15).tileOf { win := 5, tile := some 65535 : HeldTask }.win
        = some ((((g4t.blk.bead 15).tileOf { win := 5, tile := some 65535 : HeldTask }.win).get (by decide +kernel)).1, (((g4t.blk.bead 15).tileOf { win := 5, tile := some 65535 : HeldTask }.win).get (by decide +kernel)).2)
    -- 2.5
    ∧ (g4p.blk.slot 15 39).resetDue = true
    ∧ (g4p.blk.slot 15 39).resetReq = false
    ∧ (g4p.blk.slot 15 39).resetWait = false
    ∧ (g4p.blk.slot 15 39).presented = some dsp
    ∧ (g4p.blk.slot 15 39).held = []
    ∧ (g4p.blk.bead 15).tileOf dsp.win = none
    ∧ ((g4p.blk.win 15 dsp.win).fenced = false ∧ ¬((g4p.blk.pbead 15).state
        = BState.forcing ∨ (g4p.blk.slot 15 39).resetBy
        = some (g4p.blk.sub (g4p.blk.win 15 dsp.win).seg).queue ∧ (g4p.blk.win 15 dsp.win).piece = false))
    -- 2.5
    ∧ (g4f.blk.slot 15 39).resetDue = true
    ∧ (g4f.blk.slot 15 39).resetReq = false
    ∧ (g4f.blk.slot 15 39).resetWait = false
    ∧ (g4f.blk.slot 15 39).presented = some dsp
    ∧ (g4f.blk.slot 15 39).held = []
    ∧ (g4f.blk.bead 15).tileOf dsp.win = none
    ∧ ((g4f.blk.win 15 dsp.win).fenced = true ∨ (g4f.blk.pbead 15).state
        = BState.forcing ∨ (g4f.blk.slot 15 39).resetBy
        = some (g4f.blk.sub (g4f.blk.win 15 dsp.win).seg).queue ∧ (g4f.blk.win 15 dsp.win).piece = false)
    -- 2.5
    ∧ (g4u.blk.slot 15 39).resetDue = true
    ∧ (g4u.blk.slot 15 39).resetReq = false
    ∧ (g4u.blk.slot 15 39).resetWait = false
    ∧ (g4u.blk.slot 15 39).presented
        = some (let __src := dsp; { win := __src.win, tile := some 65535, words := __src.words, charges := __src.charges : Dispatch })
    ∧ (g4u.blk.slot 15 39).held = []
    ∧ (g4u.blk.bead 15).tileOf (let __src := dsp; { win := __src.win, tile := some 65535, words := __src.words, charges := __src.charges : Dispatch }).win = some ((((g4u.blk.bead 15).tileOf (let __src := dsp; { win := __src.win, tile := some 65535, words := __src.words, charges := __src.charges : Dispatch }).win).get (by decide +kernel)).1, (((g4u.blk.bead 15).tileOf (let __src := dsp; { win := __src.win, tile := some 65535, words := __src.words, charges := __src.charges : Dispatch }).win).get (by decide +kernel)).2)
    ∧ tget { : Tile } (g4u.blk.bead 15).tiles (((g4u.blk.bead 15).tileOf (let __src := dsp; { win := __src.win, tile := some 65535, words := __src.words, charges := __src.charges : Dispatch }).win).get (by decide +kernel)).1 = (((g4u.blk.bead 15).tileOf (let __src := dsp; { win := __src.win, tile := some 65535, words := __src.words, charges := __src.charges : Dispatch }).win).get (by decide +kernel)).2
    ∧ (let __src := dsp; { win := __src.win, tile := some 65535, words := __src.words, charges := __src.charges : Dispatch }).tile.isSome = true
    -- 2.3
    ∧ (g4.blk.slot 15 39).resetDue = true
    ∧ (g4.blk.slot 15 39).resetReq = false
    ∧ (g4.blk.slot 15 39).resetWait = false
    ∧ (g4.blk.slot 15 39).held = [{ win := 5, tile := none : HeldTask }]
    ∧ { win := 5, tile := none : HeldTask }.tile = none
    ∧ (g4.blk.slot 15 39).presented = none
    -- 3
    ∧ (g5.blk.slot 15 39).resetReq = true
    -- 4
    ∧ (g6.blk.slot 15 39).resetWait = true := by
  refine ⟨?_, ?_, ?_, ?_, ?_, ?_, ?_, ?_, ?_, ?_, ?_, ?_, ?_, ?_, ?_, ?_, ?_, ?_, ?_, ?_, ?_, ?_, ?_, ?_, ?_,
    ?_, ?_, ?_, ?_, ?_, ?_, ?_, ?_, ?_, ?_, ?_, ?_, ?_, ?_, ?_, ?_, ?_, ?_, ?_, ?_, ?_, ?_, ?_, ?_, ?_, ?_,
    ?_, ?_, ?_, ?_, ?_, ?_, ?_, ?_, ?_, ?_⟩ <;>
    first | decide +kernel
end Events

namespace Lanes
def ln (f : Lane → Lane) : State := sr fun b => b.modLane 7 f
def lw (up : Bool) (w : Word) (f : Lane → Lane) : State := ln fun l => let l := f l; if up then { l with bead := { l.bead with wire := [{ bits := w }] } } else { l with clasp := { l.clasp with wire := [{ bits := w }] } }
def xl (s : State) (up : Bool) (r : LnkRec) : Lane := ((s.blk.lane 7).takeLnk 7 up r).getD {}
def xt (s : State) (up : Bool) (ph : Nat) : Lane := ((s.blk.lane 7).takeLink 7 up (tokenHeader ph)).getD {}
def xm (s : State) (up : Bool) (r : Rec) : Lane := ((s.blk.lane 7).take 7 up [r]).getD {}
def busyEnd (e : LaneEnd) : LaneEnd := { e with replay := [{ bits := 1 }, { bits := 2, cont := true }], txSeq := 1, credits := 60, queue := [{ bits := 0x5000000000000000 }] }
def r0 : LnkRec := { ack := 0, nak := false, replay := false, seq := 0, crd := 64 }
def r1 : LnkRec := { ack := 255, nak := true, replay := false, seq := 0, crd := 64 }
def r2 : LnkRec := { ack := 0, nak := false, replay := true, seq := 250, crd := 0 }
def l1 : State := lw true (lnkHeader r0) fun l => { l with clasp := busyEnd l.clasp }
def l2 : State := lw true (lnkHeader r1) fun l => { l with clasp := { busyEnd l.clasp with queue := [], nakRun := 6, nakSeq := 255 } }
def l2d : State := lw false (lnkHeader r1) fun l => { l with bead := { busyEnd l.bead with queue := [], nakRun := 9, nakSeq := 255 } }
def l2u : State := lw true (lnkHeader r1) fun l => { l with clasp := { busyEnd l.clasp with trained := false, queue := [], nakRun := 2, nakSeq := 254 } }
def l3 : State := lw true (lnkHeader r1) fun l => { l with clasp := { busyEnd l.clasp with nakRun := 7, nakSeq := 255 } }
def l4 : State := lw true (lnkHeader r1) fun l => { l with failed := true }
def l5 (d : Bool) (k : Nat) : State := lw true (lnkHeader r2) fun l => { l with clasp := { busyEnd l.clasp with discarding := d, rxNext := k } }
def l6 (up : Bool) (d : Bool) (tr : Bool) : State := ln fun l => { l with
  bead := { l.bead with wire := (cplRec S2.params 15 3 4 5).flat, discarding := d, rxUnacked := 2, rxFreed := 130, trained := tr }
  clasp := { l.clasp with wire := (cplRec S2.params 15 3 4 5).flat, discarding := d, rxUnacked := 2, rxFreed := 130, trained := tr } }
def l7 : State := ln fun l => { l with clasp := { l.clasp with trained := false, queue := [{ bits := 0x5000000000000000 }] }, bead := { l.bead with trained := false, queue := [{ bits := 0xF000000000000000 }] } }
def p1 : State := ln fun l => { l with want := some 2, bead := { l.bead with wire := (evtRec S2.params 15 189).flat }, clasp := { l.clasp with rxUnacked := 2, rxFreed := 130 } }
def p4 : State := lw false (tokenHeader 0) id
def p5 (k : Nat) : State := lw false (tokenHeader k) fun l => { l with bead := { l.bead with queue := [{ bits := 0xF000000000000000 }] } }
def p6 : State := lw false (tokenHeader 2) fun l => { l with bead := busyEnd l.bead }
def p8 : State := lw true (tokenHeader 2) id
def p9 : State := lw true (tokenHeader 2) fun l => { l with want := some 2, clasp := { l.clasp with turn := some 2, queue := [{ bits := 0x5000000000000000 }] } }
def p10 (k : Bool) : State := lw true (tokenHeader 0) fun l => { l with want := some 0, latKnown := k, timeSent := false, clasp := { l.clasp with turn := some 0, phase := 1 } }
def p10l : State := sr fun b => b.modLane 255 fun l => { l with started := true, want := some 0, clasp := { l.clasp with turn := some 0, phase := 1 }, bead := { l.bead with wire := [{ bits := tokenHeader 0 }] } }
def mw (up : Bool) (r : Rec) (f : Lane → Lane) : State := ln fun l => let l := f l; if up then { l with bead := { l.bead with wire := r.flat } } else { l with clasp := { l.clasp with wire := r.flat } }
def rq0 : Rec := { header := timeHeader true }
def ra0 : Rec := { header := header 6 [] }
def rt0 (t : Word) : Rec := { header := timeHeader false, raws := [t] }
def t1 : State := mw true ra0 fun l => { l with latKnown := false, echoOut := true, timeSent := false }
def t1b : State := mw true ra0 fun l => { l with latKnown := true, echoOut := true, timeSent := true }
def t2 : State := mw true ra0 fun l => { l with latKnown := false, echoOut := true, echoNak := true }
def t3 : State := ondB (mw false (rt0 0x1234) id) fun b => { b with now := 100000 }
def xT (s : State) (t : Word) : Lane := ((s.blk.lane 7).take 7 false [{ header := timeHeader false, raws := [t] }]).getD {}
def d1 : State := sr fun b => {b with loader := {b.loader with state := .loading}}
def d2 : State := sr fun b => {b with loader := {b.loader with state := .loading, phase := .turning}, setting := {b.setting with parts := [(3,{enabled := true})]}}
def sec3 : SecRec := { type := 3, scope := 15, version := 1, bytes := List.replicate 64 7 }
def sec5 : SecRec := { type := 5, scope := 3, version := 1, bytes := List.replicate 64 9 }
def sec6 : SecRec := { type := 6, scope := 255, version := 1, bytes := List.replicate 64 9 }
def sec9 : SecRec := { type := 9, scope := 255, version := 1, bytes := List.replicate 64 3 }
def held (s : State) : State := ondB s fun b => b.modBead 15 fun d => { d with staged := [sec3, sec5], ready := [sec9, sec5], sections := [sec5], det := true }
def d4 : State := sr fun b => subB b 65535 fun x => { x with nodes := [(0, {used := true, kind := 7, state := .ready, resolved := true, record := 0x1000})] }
def mPatch : MemView := { words := [(0x1020, 1),(0x1000, 1),(0x1008,1), (0x1010,1)] }
def ws (r : SecRec) (f : Bead → Bead) (s : State) : State := ondB (held s) fun b => (b.modBead 15 f).modLane 7 fun l => { l with clasp := { l.clasp with wire := ((sectionMessages S2.params 15 r).flatMap Rec.flat) } }
def xs (r : SecRec) (s : State) : Lane := ((s.blk.lane 7).take 7 false (sectionMessages S2.params 15 r)).getD {}
def sNew : SecRec := { type := 3, scope := 15, version := 2, bytes := List.replicate 64 5 }
def sPt : State := sr fun b => {b with loader := {b.loader with state := .patching}}
def s7 : SecRec := { type := 7, scope := 15, version := 2, bytes := List.replicate 64 5 }
theorem witness_LaneFlowControl :
    -- 1
    Lane.takeLnk 7 true r0 (S2.blk.lane 7) = none
    -- 2
    ∧ Lane.takeLnk 7 true r0 (l1.blk.lane 7) = some (xl l1 true r0)
    ∧ (true = true → (xl l1 true r0).failed = false)
    ∧ (true = false → (xl l1 true r0).bead.turn = none)
    ∧ r0.nak = false
    ∧ r0.replay = false
    -- 3
    ∧ Lane.takeLnk 7 true r1 (l2.blk.lane 7) = some (xl l2 true r1)
    ∧ (true = true → (xl l2 true r1).failed = false)
    ∧ (true = false → (xl l2 true r1).bead.turn = none)
    ∧ (Lane.receiver true (xl l2 true r1)).queue = []
    ∧ r1.nak = true
    ∧ r1.replay = false
    ∧ (true = true → (if (Lane.receiver true (xl l2 true r1)).nakRun ≠ 0
        ∧ (Lane.receiver true (xl l2 true r1)).nakSeq
        = r1.ack.toNat then (Lane.receiver true (xl l2 true r1)).nakRun + 1 else 1) < 8)
    ∧ Lane.may (!true) 7 (xl l2 true r1) = true
    ∧ true = true
    -- 3
    ∧ Lane.takeLnk 7 false r1 (l2d.blk.lane 7) = some (xl l2d false r1)
    ∧ (false = true → (xl l2d false r1).failed = false)
    ∧ (false = false → (xl l2d false r1).bead.turn = none)
    ∧ (Lane.receiver false (xl l2d false r1)).queue = []
    ∧ r1.nak = true
    ∧ r1.replay = false
    ∧ (false = true → (if (Lane.receiver false (xl l2d false r1)).nakRun ≠ 0
        ∧ (Lane.receiver false (xl l2d false r1)).nakSeq
        = r1.ack.toNat then (Lane.receiver false (xl l2d false r1)).nakRun + 1 else 1) < 8)
    ∧ false = false
    -- 3
    ∧ Lane.takeLnk 7 true r1 (l2u.blk.lane 7) = some (xl l2u true r1)
    ∧ (true = true → (xl l2u true r1).failed = false)
    ∧ (true = false → (xl l2u true r1).bead.turn = none)
    ∧ (Lane.receiver true (xl l2u true r1)).queue = []
    ∧ r1.nak = true
    ∧ r1.replay = false
    ∧ (true = true → (if (Lane.receiver true (xl l2u true r1)).nakRun ≠ 0
        ∧ (Lane.receiver true (xl l2u true r1)).nakSeq
        = r1.ack.toNat then (Lane.receiver true (xl l2u true r1)).nakRun + 1 else 1) < 8)
    ∧ Lane.may (!true) 7 (xl l2u true r1) = false
    -- 4
    ∧ Lane.takeLnk 7 true r1 (l3.blk.lane 7) = some (xl l3 true r1)
    ∧ (xl l3 true r1).failed = false
    ∧ 7 ≠ 255
    ∧ l3.blk.inReset = false
    ∧ r1.nak = true
    ∧ 7 ≤ (xl l3 true r1).clasp.nakRun
    ∧ (xl l3 true r1).clasp.nakSeq = r1.ack.toNat
    -- 5
    ∧ Lane.takeLnk 7 true r1 (l4.blk.lane 7) = some (xl l4 true r1)
    ∧ (xl l4 true r1).failed = true
    -- 6
    ∧ Lane.takeLnk 7 true r2 ((l5 true 250).blk.lane 7) = some (xl (l5 true 250) true r2)
    ∧ (true = true → (xl (l5 true 250) true r2).failed = false)
    ∧ (true = false → (xl (l5 true 250) true r2).bead.turn = none)
    ∧ r2.nak = false
    ∧ r2.replay = true
    ∧ (Lane.receiver true (xl (l5 true 250) true r2)).discarding = true
    ∧ r2.seq.toNat = (Lane.receiver true (xl (l5 true 250) true r2)).rxNext
    ∧ (Lane.receiver true (xl (l5 true 250) true r2)).discarding = true
    -- 6
    ∧ Lane.takeLnk 7 true r2 ((l5 true 3).blk.lane 7) = some (xl (l5 true 3) true r2)
    ∧ (true = true → (xl (l5 true 3) true r2).failed = false)
    ∧ (true = false → (xl (l5 true 3) true r2).bead.turn = none)
    ∧ r2.nak = false
    ∧ r2.replay = true
    ∧ (Lane.receiver true (xl (l5 true 3) true r2)).discarding = true
    ∧ r2.seq.toNat ≠ (Lane.receiver true (xl (l5 true 3) true r2)).rxNext
    -- 6
    ∧ Lane.takeLnk 7 true r2 ((l5 false 3).blk.lane 7) = some (xl (l5 false 3) true r2)
    ∧ (true = true → (xl (l5 false 3) true r2).failed = false)
    ∧ (true = false → (xl (l5 false 3) true r2).bead.turn = none)
    ∧ r2.nak = false
    ∧ r2.replay = true
    ∧ (Lane.receiver true (xl (l5 false 3) true r2)).discarding = false
    -- 7
    ∧ 7 ≠ 255
    ∧ badRecord true [(262143 : BitVec 18), (0 : BitVec 18), (0 : BitVec 18), (0 : BitVec 18)] = true
    ∧ (Lane.receiver true (Lane.dropWire true (Lane.arrive 7 true (fun x => true) 0 ((l6 true false true).blk.lane 7)))).discarding = false
    ∧ Lane.may (!true) 7 (Lane.dropWire true (Lane.arrive 7 true (fun x => true) 0 ((l6 true false true).blk.lane 7))) = true
    ∧ true = true
    ∧ (Lane.receiver true (Lane.dropWire true (Lane.arrive 7 true (fun x => true) 0 ((l6 true false true).blk.lane 7)))).discarding = false
    -- 7
    ∧ 7 ≠ 255
    ∧ badRecord false [(262143 : BitVec 18), (0 : BitVec 18), (0 : BitVec 18), (0 : BitVec 18)] = true
    ∧ (Lane.receiver false (Lane.dropWire false (Lane.arrive 7 false (fun x => true) 1 ((l6 true false true).blk.lane 7)))).discarding = true
    -- 7
    ∧ 7 ≠ 255
    ∧ badRecord true [(262143 : BitVec 18), (0 : BitVec 18), (0 : BitVec 18), (0 : BitVec 18)] = true
    ∧ (Lane.receiver true (Lane.dropWire true (Lane.arrive 7 true (fun x => true) 0 ((l6 true false false).blk.lane 7)))).discarding = false
    ∧ Lane.may (!true) 7 (Lane.dropWire true (Lane.arrive 7 true (fun x => true) 0 ((l6 true false false).blk.lane 7))) = false
    -- 8
    ∧ (255 = 255 ∨ badRecord true [] = false)
    -- 9
    ∧ (Lane.sender true ((l6 true true true).blk.lane 7)).discarding = true
    ∧ Lane.may true 7 ((l6 true true true).blk.lane 7) = true
    -- 9
    ∧ (Lane.sender false ((l6 true true true).blk.lane 7)).discarding = true
    ∧ Lane.may false 7 ((l6 true true true).blk.lane 7) = true
    ∧ false = false
    -- 9
    ∧ ((Lane.sender true ((l6 true true false).blk.lane 7)).discarding
        = false ∨ Lane.may true 7 ((l6 true true false).blk.lane 7) = false)
    -- 10
    ∧ (Lane.sender true ((l6 true true true).blk.lane 7)).rxUnacked ≠ 0
    ∧ Lane.may true 7 ((l6 true true true).blk.lane 7) = true
    -- 10
    ∧ ((Lane.sender false (S2.blk.lane 7)).rxUnacked = 0 ∨ Lane.may false 7 (S2.blk.lane 7) = false)
    -- 12
    ∧ (S2.blk.lane 7).clasp.trained = true
    ∧ 7 ≠ 255
    ∧ (S2.blk.lane 7).failed = false
    ∧ S2.blk.inReset = false
    -- 13
    ∧ (S2.blk.lane 7).bead.trained = true
    ∧ S2.blk.inReset = false
    -- 14
    ∧ (Lane.sender true (l7.blk.lane 7)).trained = false := by
  refine ⟨?_, ?_, ?_, ?_, ?_, ?_, ?_, ?_, ?_, ?_, ?_, ?_, ?_, ?_, ?_, ?_, ?_, ?_, ?_, ?_, ?_, ?_, ?_, ?_, ?_,
    ?_, ?_, ?_, ?_, ?_, ?_, ?_, ?_, ?_, ?_, ?_, ?_, ?_, ?_, ?_, ?_, ?_, ?_, ?_, ?_, ?_, ?_, ?_, ?_, ?_, ?_,
    ?_, ?_, ?_, ?_, ?_, ?_, ?_, ?_, ?_, ?_, ?_, ?_, ?_, ?_, ?_, ?_, ?_, ?_, ?_, ?_, ?_, ?_, ?_, ?_, ?_, ?_,
    ?_, ?_, ?_, ?_, ?_, ?_, ?_, ?_, ?_, ?_, ?_, ?_, ?_, ?_⟩ <;>
    first | decide +kernel
def lpt_11 : State := ln fun l => { l with clasp := { l.clasp with turn := some 0, tokens := 15 } }
def lpt_12 : State := ln fun l => { l with clasp := { l.clasp with turn := some 0, tokens := 16 } }
theorem witness_LanePhaseTurns :
    -- 1
    (p1.blk.lane 7).want = some (BitVec.toNat (2 : BitVec 2))
    ∧ Lane.claspMay 7 (p1.blk.lane 7) = true
    ∧ (p1.blk.lane 7).clasp.replay = []
    -- 2
    ∧ ((l1.blk.lane 7).want ≠ some (BitVec.toNat (2 : BitVec 2)) ∨ Lane.claspMay 7 (l1.blk.lane 7)
        = false ∨ (l1.blk.lane 7).clasp.replay ≠ [])
    -- 3
    ∧ Lane.takeLink 7 false (tokenHeader (BitVec.toNat (0 : BitVec 2))) (S2.blk.lane 7) = none
    -- 4
    ∧ Lane.takeLink 7 false (tokenHeader (BitVec.toNat (0 : BitVec 2))) (p4.blk.lane 7) = some (xt p4 false 0)
    ∧ (xt p4 false 0).bead.phase = BitVec.toNat (0 : BitVec 2)
    -- 5
    ∧ Lane.takeLink 7 false (tokenHeader (BitVec.toNat (1 : BitVec 2))) ((p5 1).blk.lane 7)
        = some (xt (p5 1) false 1)
    ∧ (xt (p5 1) false 1).bead.phase ≠ BitVec.toNat (1 : BitVec 2)
    ∧ (xt (p5 1) false 1).bead.replay = []
    ∧ Lane.beadMay 7 (xt (p5 1) false 1) = true
    ∧ (1 : BitVec 2) ≠ (2 : BitVec 2)
    -- 5
    ∧ Lane.takeLink 7 false (tokenHeader (BitVec.toNat (2 : BitVec 2))) ((p5 2).blk.lane 7)
        = some (xt (p5 2) false 2)
    ∧ (xt (p5 2) false 2).bead.phase ≠ BitVec.toNat (2 : BitVec 2)
    ∧ (xt (p5 2) false 2).bead.replay = []
    ∧ Lane.beadMay 7 (xt (p5 2) false 2) = true
    ∧ (2 : BitVec 2) = (2 : BitVec 2)
    ∧ ((p5 2).params.laneBeads 7).getLast?.isSome = true
    -- 6
    ∧ Lane.takeLink 7 false (tokenHeader (BitVec.toNat (2 : BitVec 2))) (p6.blk.lane 7) = some (xt p6 false 2)
    ∧ (xt p6 false 2).bead.phase ≠ BitVec.toNat (2 : BitVec 2)
    ∧ ((xt p6 false 2).bead.replay ≠ [] ∨ Lane.beadMay 7 (xt p6 false 2) = false)
    -- 7
    ∧ Lane.takeLink 7 true (tokenHeader (BitVec.toNat (0 : BitVec 2))) (S2.blk.lane 7) = none
    -- 8
    ∧ Lane.takeLink 7 true (tokenHeader (BitVec.toNat (2 : BitVec 2))) (p8.blk.lane 7) = some (xt p8 true 2)
    ∧ ((xt p8 true 2).failed = true ∨ (xt p8 true 2).clasp.turn ≠ some (BitVec.toNat (2 : BitVec 2)))
    -- 9
    ∧ Lane.takeLink 7 true (tokenHeader (BitVec.toNat (2 : BitVec 2))) (p9.blk.lane 7) = some (xt p9 true 2)
    ∧ (xt p9 true 2).failed = false
    ∧ (xt p9 true 2).clasp.turn = some (BitVec.toNat (2 : BitVec 2))
    ∧ (2 : BitVec 2) ≠ (0 : BitVec 2)
    ∧ p9.blk.lkt.resuming = false
    -- 10
    ∧ Lane.takeLink 7 true (tokenHeader 0) ((p10 true).blk.lane 7) = some (xt (p10 true) true 0)
    ∧ (xt (p10 true) true 0).failed = false
    ∧ (xt (p10 true) true 0).clasp.turn = some 0
    ∧ (p10 true).blk.lkt.resuming = false
    ∧ (p10 true).blk.power.freezes = false
    ∧ 7 ≠ 255
    ∧ (xt (p10 true) true 0).latKnown = true
    ∧ 7 ≠ 255
    -- 10
    ∧ Lane.takeLink 7 true (tokenHeader 0) ((p10 false).blk.lane 7) = some (xt (p10 false) true 0)
    ∧ (xt (p10 false) true 0).failed = false
    ∧ (xt (p10 false) true 0).clasp.turn = some 0
    ∧ (p10 false).blk.lkt.resuming = false
    ∧ (p10 false).blk.power.freezes = false
    ∧ 7 ≠ 255
    ∧ (xt (p10 false) true 0).latKnown = false
    -- 10
    ∧ Lane.takeLink 255 true (tokenHeader 0) (p10l.blk.lane 255)
        = some ((Lane.takeLink 255 true (tokenHeader 0) (p10l.blk.lane 255)).getD { : Lane })
    ∧ ((Lane.takeLink 255 true (tokenHeader 0) (p10l.blk.lane 255)).getD { : Lane }).failed = false
    ∧ ((Lane.takeLink 255 true (tokenHeader 0) (p10l.blk.lane 255)).getD { : Lane }).clasp.turn = some 0
    ∧ p10l.blk.lkt.resuming = false
    ∧ p10l.blk.power.freezes = false
    ∧ 255 = 255
    -- 11
    ∧ (lpt_11.blk.lane 7).clasp.turn = some 0
    ∧ (lpt_11.blk.lane 7).failed = false
    ∧ (lpt_11.blk.lane 7).clasp.tokens < 16
    ∧ (lpt_11.blk.lane 7).started = true
    ∧ LaneEnd.wired false 7 (lpt_11.blk.lane 7).clasp = true
    -- 12
    ∧ (lpt_12.blk.lane 7).clasp.turn = some 0
    ∧ (lpt_12.blk.lane 7).failed = false
    ∧ 16 ≤ (lpt_12.blk.lane 7).clasp.tokens
    ∧ 7 ≠ 255
    ∧ lpt_12.blk.inReset = false
    -- 13
    ∧ ((S2.blk.lane 7).clasp.turn = none ∨ (S2.blk.lane 7).failed = true) := by
  refine ⟨?_, ?_, ?_, ?_, ?_, ?_, ?_, ?_, ?_, ?_, ?_, ?_, ?_, ?_, ?_, ?_, ?_, ?_, ?_, ?_, ?_, ?_, ?_, ?_, ?_,
    ?_, ?_, ?_, ?_, ?_, ?_, ?_, ?_, ?_, ?_, ?_, ?_, ?_, ?_, ?_, ?_, ?_, ?_, ?_, ?_, ?_, ?_, ?_, ?_, ?_, ?_,
    ?_, ?_, ?_, ?_, ?_, ?_, ?_, ?_, ?_, ?_⟩ <;>
    first | decide +kernel
theorem witness_GlobalTimeOnTheLanes :
    -- 1
    Lane.take 7 false [{ header := timeHeader true : Rec }] (S2.blk.lane 7) = none
    ∧ Lane.take 7 true [{ header := header 6 [] : Rec }] (S2.blk.lane 7) = none
    ∧ Lane.take 7 false [{ header := timeHeader false, raws := [(5 : Word)] : Rec }] (S2.blk.lane 7) = none
    -- 2
    ∧ Lane.take 7 false [{ header := timeHeader true : Rec }] ((mw false rq0 id).blk.lane 7)
        = some (xm (mw false rq0 id) false rq0)
    -- 3
    ∧ Lane.take 7 true [{ header := header 6 [] : Rec }] (t1.blk.lane 7) = some (xm t1 true ra0)
    ∧ (xm t1 true ra0).echoOut = true
    ∧ (xm t1 true ra0).echoNak = false
    ∧ 8191 < 8192
    ∧ (xm t1 true ra0).timeSent = false
    -- 3
    ∧ Lane.take 7 true [{ header := header 6 [] : Rec }] (t1b.blk.lane 7) = some (xm t1b true ra0)
    ∧ (xm t1b true ra0).echoOut = true
    ∧ (xm t1b true ra0).echoNak = false
    ∧ 8191 < 8192
    ∧ (xm t1b true ra0).timeSent = true
    -- 4
    ∧ Lane.take 7 true [{ header := header 6 [] : Rec }] (t2.blk.lane 7) = some (xm t2 true ra0)
    ∧ (xm t2 true ra0).echoOut = true
    ∧ (xm t2 true ra0).echoNak = true
    -- 5
    ∧ Lane.take 7 true [{ header := header 6 [] : Rec }] ((mw true ra0 id).blk.lane 7)
        = some (xm (mw true ra0 id) true ra0)
    ∧ (xm (mw true ra0 id) true ra0).echoOut = false
    -- 6
    ∧ 7 ≠ 255
    ∧ Lane.take 7 false [{ header := timeHeader false, raws := [(4660 : Word)] : Rec }] (t3.blk.lane 7)
        = some (xT t3 (4660 : Word))
    -- 7
    ∧ 7 ≠ 255
    ∧ (S2.blk.lane 7).clasp.phase = 0
    ∧ (S2.blk.lane 7).latKnown = true
    ∧ (S2.blk.lane 7).failed = false
    ∧ (S2.blk.lane 7).clasp.turn = none
    ∧ LaneEnd.room false 7 (S2.blk.lane 7).clasp = true
    -- 8
    ∧ (255 = 255 ∨ (S2.blk.lane 255).clasp.phase ≠ 0 ∨ (S2.blk.lane 255).latKnown
        = false ∨ (S2.blk.lane 255).failed
        = true ∨ (S2.blk.lane 255).clasp.turn ≠ none ∨ LaneEnd.room false 255 (S2.blk.lane 255).clasp = false) := by
  refine ⟨?_, ?_, ?_, ?_, ?_, ?_, ?_, ?_, ?_, ?_, ?_, ?_, ?_, ?_, ?_, ?_, ?_, ?_, ?_, ?_, ?_, ?_, ?_, ?_, ?_,
    ?_, ?_, ?_⟩ <;>
    first | decide +kernel
def lsaa_3 : State := sr fun b => {b with loader := {b.loader with state := .patching}}
def lsaa_3r2 : State := sr fun b => {b with loader := {b.loader with state := .loading, failing := some (Status.aborted, 0x15)}}
theorem witness_LoadsStartAndAbort :
    -- 1
    Performs S1 A0 Reg.setCtl true
    ∧ S1.blk.loader.state = SetState.empty
    -- 2
    ∧ Performs S2 A0 Reg.setCtl true
    ∧ S2.blk.loader.state ≠ SetState.empty
    -- 3
    ∧ Performs lsaa_3 A0 Reg.setCtl true
    ∧ (lsaa_3.blk.loader.state = SetState.loading ∨ lsaa_3.blk.loader.state = SetState.patching)
    ∧ lsaa_3.blk.loader.committed = false
    ∧ lsaa_3.blk.loader.failing = none
    -- 3
    ∧ Performs lsaa_3r2 A0 Reg.setCtl true
    ∧ (lsaa_3r2.blk.loader.state = SetState.loading ∨ lsaa_3r2.blk.loader.state = SetState.patching)
    ∧ lsaa_3r2.blk.loader.committed = false
    ∧ lsaa_3r2.blk.loader.failing ≠ none
    -- 4
    ∧ Performs S2 A0 Reg.setCtl true
    ∧ (S2.blk.loader.state ≠ SetState.loading
        ∧ S2.blk.loader.state ≠ SetState.patching ∨ S2.blk.loader.committed = true) := by
  refine ⟨?_, ?_, ?_, ?_, ?_, ?_, ?_, ?_, ?_, ?_, ?_, ?_, ?_, ?_⟩ <;>
    first | decide +kernel | (unfold Performs; decide +kernel)
def lape_1 : MemView := {}
def lape_3 : State := held (sr fun b => {b with loader := {b.loader with state := .loading, failing := some (Status.aborted, 0x15)}})
def lape_5a : State := held (sr fun b => {b with loader := {b.loader with state := .patching, phase := .commits, nextDigest := 5, targets := [15, 2]}})
def lape_5b : MemView := {}
def lape_6a : State := held (sr fun b => {b with loader := {b.loader with state := .patching, phase := .failed, failing := some (Status.aborted, 0x15), targets := [15, 2]}})
def lape_6b : MemView := {}
def lape_7_2r3a : State := ws sNew (fun d => { d with fencedOff := true }) S2
def lape_7_2r3b : Lane := xs sNew (ws sNew (fun d => { d with fencedOff := true }) S2)
def lape_7_2r6 : State := ws commitRec (fun d => { d with staged := [sec6, sec9] }) S2
def lape_7_2r7 : State := ws commitRec (fun d => { d with staged := [] }) S2
theorem witness_LoadsAndPatchesEnd :
    -- 1
    d1.blk.loader.state = SetState.loading
    ∧ d1.blk.loader.phase = LoadPhase.idle
    ∧ d1.blk.loader.failing = none
    ∧ (checkLoad d1.params d1.keys (fun n => (d1.blk.lane n).failed) lape_1 d1.blk.loader.capAddr d1.blk.loader.capLen).fail.isSome = true
    ∧ (checkLoad d1.params d1.keys (fun n => (d1.blk.lane n).failed) lape_1 d1.blk.loader.capAddr d1.blk.loader.capLen).fail ≠ none
    -- 2
    ∧ d2.blk.loader.phase = LoadPhase.turning
    ∧ (∀ l ∈ Block.runLanes d2.params d2.blk, (d2.blk.lane l).running l = true)
    -- 3
    ∧ lape_3.blk.loader.state = SetState.loading
    ∧ lape_3.blk.loader.failing = some (Status.aborted, 21)
    ∧ lape_3.blk.loader.awaited = []
    -- 4
    ∧ d4.blk.loader.state = SetState.active
    ∧ (d4.blk.node 65535 0).kind = 7
    ∧ privOp mPatch (d4.blk.node 65535 0).record = 1
    ∧ d4.blk.gate 65535 0 = Gate.act
    ∧ (d4.blk.node 65535 0).resolved = true
    -- 5
    ∧ lape_5a.blk.loader.state = SetState.patching
    ∧ lape_5a.blk.loader.phase = LoadPhase.commits
    ∧ lape_5a.blk.loader.awaited = []
    -- 6
    ∧ lape_6a.blk.loader.state = SetState.patching
    ∧ lape_6a.blk.loader.failing = some (Status.aborted, 21)
    ∧ lape_6a.blk.loader.awaited = []
    -- 7.1
    ∧ Lane.take (S2.params.laneOf 15) false (sectionMessages S2.params 15 { type := BitVec.toNat (3 : BitVec 8), scope := BitVec.toNat (15 : BitVec 8), version := BitVec.toNat (2 : BitVec 16), bytes := List.replicate 64 (5 : Byte) : SecRec }) (S2.blk.lane (S2.params.laneOf 15)) = none
    -- 7.2
    ∧ Lane.take ((ws sNew id S2).params.laneOf 15) false (sectionMessages (ws sNew id S2).params 15 { type := BitVec.toNat (3 : BitVec 8), scope := BitVec.toNat (15 : BitVec 8), version := BitVec.toNat (2 : BitVec 16), bytes := List.replicate 64 (5 : Byte) : SecRec }) ((ws sNew id S2).blk.lane ((ws sNew id S2).params.laneOf 15)) = some (xs sNew (ws sNew id S2))
    ∧ ((ws sNew id S2).blk.bead 15).fencedOff = false
    ∧ (3 : BitVec 8) ≠ (0 : BitVec 8)
    ∧ (3 : BitVec 8) ≠ (255 : BitVec 8)
    ∧ (3 : BitVec 8) ∈ [(3 : BitVec 8), (5 : BitVec 8), (6 : BitVec 8), (9 : BitVec 8)]
    ∧ false = false
    -- 7.2
    ∧ Lane.take ((ws sNew id S2).params.laneOf 15) false (sectionMessages (ws sNew id S2).params 15 { type := BitVec.toNat (3 : BitVec 8), scope := BitVec.toNat (15 : BitVec 8), version := BitVec.toNat (2 : BitVec 16), bytes := List.replicate 64 (5 : Byte) : SecRec }) ((ws sNew id S2).blk.lane ((ws sNew id S2).params.laneOf 15)) = some (xs sNew (ws sNew id S2))
    ∧ ((ws sNew id S2).blk.bead 15).fencedOff = false
    ∧ (3 : BitVec 8) ≠ (0 : BitVec 8)
    ∧ (3 : BitVec 8) ≠ (255 : BitVec 8)
    ∧ true = true
    -- 7.2
    ∧ Lane.take (lape_7_2r3a.params.laneOf 15) false (sectionMessages lape_7_2r3a.params 15 { type := BitVec.toNat (3 : BitVec 8), scope := BitVec.toNat (15 : BitVec 8), version := BitVec.toNat (2 : BitVec 16), bytes := List.replicate 64 (5 : Byte) : SecRec }) (lape_7_2r3a.blk.lane (lape_7_2r3a.params.laneOf 15)) = some lape_7_2r3b
    ∧ (lape_7_2r3a.blk.bead 15).fencedOff = true
    -- 7.2
    ∧ Lane.take ((ws startRec id S2).params.laneOf 15) false (sectionMessages (ws startRec id S2).params 15 { type := BitVec.toNat (0 : BitVec 8), scope := BitVec.toNat (0 : BitVec 8), version := BitVec.toNat (0 : BitVec 16), bytes := [] : SecRec }) ((ws startRec id S2).blk.lane ((ws startRec id S2).params.laneOf 15)) = some (xs startRec (ws startRec id S2))
    ∧ ((ws startRec id S2).blk.bead 15).fencedOff = false
    ∧ (0 : BitVec 8) = (0 : BitVec 8)
    -- 7.2
    ∧ Lane.take ((ws commitRec id S2).params.laneOf 15) false (sectionMessages (ws commitRec id S2).params 15 { type := BitVec.toNat (255 : BitVec 8), scope := BitVec.toNat (0 : BitVec 8), version := BitVec.toNat (0 : BitVec 16), bytes := [] : SecRec }) ((ws commitRec id S2).blk.lane ((ws commitRec id S2).params.laneOf 15)) = some (xs commitRec (ws commitRec id S2))
    ∧ ((ws commitRec id S2).blk.bead 15).fencedOff = false
    ∧ (255 : BitVec 8) = (255 : BitVec 8)
    ∧ (255 : BitVec 8) = (255 : BitVec 8)
    ∧ ((ws commitRec id S2).blk.loader.state ≠ SetState.patching ∨ tget 0 (ws commitRec id S2).blk.loader.returns 15 ≠ 0)
    ∧ List.filter (fun x => x.type == 3) ((ws commitRec id S2).blk.bead 15).staged
        = [(List.filter (fun x => x.type == 3) ((ws commitRec id S2).blk.bead 15).staged).head (by decide +kernel)]
    ∧ List.filter (fun x => x.type == 5) ((ws commitRec id S2).blk.bead 15).staged
        = [(List.filter (fun x => x.type == 5) ((ws commitRec id S2).blk.bead 15).staged).head (by decide +kernel)]
    -- 7.2
    ∧ Lane.take (lape_7_2r6.params.laneOf 15) false (sectionMessages lape_7_2r6.params 15 { type := BitVec.toNat (255 : BitVec 8), scope := BitVec.toNat (0 : BitVec 8), version := BitVec.toNat (0 : BitVec 16), bytes := [] : SecRec }) (lape_7_2r6.blk.lane (lape_7_2r6.params.laneOf 15)) = some (xs commitRec (ws commitRec id S2))
    ∧ (lape_7_2r6.blk.bead 15).fencedOff = false
    ∧ (255 : BitVec 8) = (255 : BitVec 8)
    ∧ (lape_7_2r6.blk.loader.state ≠ SetState.patching ∨ tget 0 lape_7_2r6.blk.loader.returns 15 ≠ 0)
    ∧ List.filter (fun x => x.type == 6) (lape_7_2r6.blk.bead 15).staged
        = [(List.filter (fun x => x.type == 6) (lape_7_2r6.blk.bead 15).staged).head (by decide +kernel)]
    ∧ List.filter (fun x => x.type == 9) (lape_7_2r6.blk.bead 15).staged
        = [(List.filter (fun x => x.type == 9) (lape_7_2r6.blk.bead 15).staged).head (by decide +kernel)]
    -- 7.2
    ∧ Lane.take (lape_7_2r7.params.laneOf 15) false (sectionMessages lape_7_2r7.params 15 { type := BitVec.toNat (255 : BitVec 8), scope := BitVec.toNat (0 : BitVec 8), version := BitVec.toNat (0 : BitVec 16), bytes := [] : SecRec }) (lape_7_2r7.blk.lane (lape_7_2r7.params.laneOf 15)) = some (xs commitRec (ws commitRec id S2))
    ∧ (lape_7_2r7.blk.bead 15).fencedOff = false
    ∧ (255 : BitVec 8) = (255 : BitVec 8)
    ∧ (lape_7_2r7.blk.loader.state ≠ SetState.patching ∨ tget 0 lape_7_2r7.blk.loader.returns 15 ≠ 0)
    ∧ (lape_7_2r7.blk.bead 15).staged = []
    -- 7.2
    ∧ Lane.take ((ws commitRec id sPt).params.laneOf 15) false (sectionMessages (ws commitRec id sPt).params 15 { type := BitVec.toNat (255 : BitVec 8), scope := BitVec.toNat (0 : BitVec 8), version := BitVec.toNat (0 : BitVec 16), bytes := [] : SecRec }) ((ws commitRec id sPt).blk.lane ((ws commitRec id sPt).params.laneOf 15)) = some (xs commitRec (ws commitRec id sPt))
    ∧ ((ws commitRec id sPt).blk.bead 15).fencedOff = false
    ∧ (255 : BitVec 8) = (255 : BitVec 8)
    ∧ (ws commitRec id sPt).blk.loader.state = SetState.patching
    ∧ tget 0 (ws commitRec id sPt).blk.loader.returns 15 = 0
    -- 7.2
    ∧ Lane.take ((ws s7 id S2).params.laneOf 15) false (sectionMessages (ws s7 id S2).params 15 { type := BitVec.toNat (7 : BitVec 8), scope := BitVec.toNat (15 : BitVec 8), version := BitVec.toNat (2 : BitVec 16), bytes := List.replicate 64 (5 : Byte) : SecRec }) ((ws s7 id S2).blk.lane ((ws s7 id S2).params.laneOf 15)) = some (xs s7 (ws s7 id S2))
    ∧ ((ws s7 id S2).blk.bead 15).fencedOff = false
    ∧ (7 : BitVec 8) ∉ [(0 : BitVec 8), (3 : BitVec 8), (5 : BitVec 8), (6 : BitVec 8), (9 : BitVec 8), (255 : BitVec 8)]
    ∧ false = false := by
  refine ⟨?_, ?_, ?_, ?_, ?_, ?_, ?_, ?_, ?_, ?_, ?_, ?_, ?_, ?_, ?_, ?_, ?_, ?_, ?_, ?_, ?_, ?_, ?_, ?_, ?_,
    ?_, ?_, ?_, ?_, ?_, ?_, ?_, ?_, ?_, ?_, ?_, ?_, ?_, ?_, ?_, ?_, ?_, ?_, ?_, ?_, ?_, ?_, ?_, ?_, ?_, ?_,
    ?_, ?_, ?_, ?_, ?_, ?_, ?_, ?_, ?_, ?_, ?_, ?_, ?_, ?_⟩ <;>
    first | decide +kernel
end Lanes

namespace Queues
def q1 : State := { qB id with blk := { (qB id).blk.modCq 0 fun c => { c with state := .active } with now := 3 } }
def q5 : State := qB fun x => { x with state := .active, bound := some 63, inflight := 0 }
def q5b : State := { q5 with blk := q5.blk.modHws 63 fun h => { h with queue := some 4095, requested := 1 } }
def q7 : State := sr fun b => b.modQueue 4064 fun x => { x with state := .idle }
def q8 : State := qB fun x => { x with state := .wait, pend := true }
def q9 : State := sr fun b => ({ b with mp := { b.mp with reads := [⟨63, 9, 0, 0x2000, 4, .tail 63⟩] } }.modHws 63 fun h =>
  { h with queue := some 4095, tailDue := true }).modQueue 4095 fun x => { x with ring := 0x100006, cfg := 0x50000, state := .active, bound := some 63, head := 0xFFFFFFFF }
def tr : RReq := ⟨63, 9, 0, 0x2000, 4, .tail 63⟩
def dr : RReq := ⟨63, 9, 0, 0x2000, 256, .descs 63 0xFFFFFFFF 4⟩
def q10 : State := sr fun b => ({ b with mp := { b.mp with reads := [dr] } }.modHws 63 fun h =>
  { h with queue := some 4095, requested := 4, tail := 3 }).modQueue 4095 fun x => { x with ring := 0x100006, cfg := 0x50000, state := .active, bound := some 63, head := 0xFFFFFFFF }
def q10r : State := ondB q10 fun b => b.modHws 63 fun h => { h with releasing := true }
def q11 (p : Bool) : State := sr fun b => (b.modHws 63 fun h =>
  { h with queue := some 4095, tail := 0xFFFFFFFF }).modQueue 4095 fun x => { x with ring := 0x100006, cfg := 0x50000, state := .active, bound := some 63, head := 0xFFFFFFFF, pend := p }
def q12 : State := sr fun b => (b.modHws 63 fun h =>
  { h with queue := some 4095, tail := 0xFFFFFFFF, releasing := true }).modQueue 4095 fun x => { x with ring := 0x100006, cfg := 0x50000, state := .active, bound := some 63, head := 0xFFFFFFFE }
def q9a : State := sr fun b => ({ b with mp := { b.mp with reads := [tr] } }.modHws 63 fun h =>
  { h with queue := some 4095, tailDue := true }).modQueue 4095 fun x => { x with ring := 0x100006, cfg := 0x50000, state := .active, bound := some 63, head := 0xFFFFFFFF, inflight := 65530 }
def hw : WReq := ⟨63, 9, 2, 0x2020, [0,0,0,0], .headOf 4095⟩
def q13 : State := { q12 with blk := { q12.blk with mp := { q12.blk.mp with writes := [hw] } } }
def z1 : State := qB fun x => { x with state := .wait, inflight := 1 }
def z2 (f : Front → Front) : State := { z1 with blk := { z1.blk with now := 1000000, front := f { z1.blk.front with window := [(0, 900)], busy := [(4095, some 0)] } } }
def c1 : State := qB fun x => { x with state := .active, inflight := 1, waiting := [fNop] }
def wSeg : WReq := ⟨63, 9, 2, 0x10040, [0,0,0,0], .routing 3⟩
def c2 : State := qB fun x => { x with state := .active, inflight := 1, waiting := [{ fNop with passed := true }] }
def mCyc : MemView := { words := [(0x10000, 0x200014753), (0x10040, 3), (0x10050, 0x0001FFFF), (0x10080, 4), (0x10090, 0x0001FFFF)] }
def c3 : State := { c2 with blk := c2.blk.modFence 65535 fun f => { f with state := .active } }
def fAud : Fetched := { fNop with desc := [0x10101, 0x10000, 0, 0, 0, 0, 0, 0], passed := true }
def c4 : State := qB fun x => { x with state := .active, inflight := 1, waiting := [fAud] }
def fVer : Fetched := { fNop with desc := [0x101, 0x10000, 0, 5, 0, 0, 0, 0], passed := true }
def c5 : State := qB fun x => { x with state := .active, inflight := 1, waiting := [fVer] }
def qcoac_8 : State := qB fun x => { x with state := .stopping }
def qcoac_9 : State := qB fun x => { x with state := .forcing }
theorem witness_QueueCommandsOpenAndClose :
    -- 1
    Performs q1 A0 (Reg.qCmd 4095) true
    ∧ q1.blk.enableOk 4095 = true
    -- 2
    ∧ Performs S2 A0 (Reg.qCmd 4095) true
    ∧ S2.blk.enableOk 4095 = false
    -- 3
    ∧ Performs S2 A0 (Reg.qCmd 4095) true
    ∧ (4 : BitVec 3) ≠ (1 : BitVec 3)
    ∧ (4 : BitVec 3) ≠ (2 : BitVec 3)
    ∧ (4 : BitVec 3) ≠ (3 : BitVec 3)
    -- 4
    ∧ Performs S2 A0 (Reg.qCmd 4095) true
    ∧ ((S2.blk.queue 4095).state = QState.disabled ∨ (S2.blk.queue 4095).state
        = QState.stopping ∨ (S2.blk.queue 4095).state = QState.forcing)
    -- 5
    ∧ Performs q5 A0 (Reg.qCmd 4095) true
    ∧ ((q5.blk.queue 4095).state = QState.idle ∨ (q5.blk.queue 4095).state
        = QState.wait ∨ (q5.blk.queue 4095).state = QState.active ∨ (q5.blk.queue 4095).state = QState.halted)
    -- 6
    ∧ Performs S2 A0 (Reg.qCmd 4095) true
    ∧ ((S2.blk.queue 4095).state = QState.disabled ∨ (S2.blk.queue 4095).state = QState.forcing)
    -- 7
    ∧ Performs q5b A0 (Reg.qCmd 4095) true
    ∧ (q5b.blk.queue 4095).state ≠ QState.disabled
    ∧ (q5b.blk.queue 4095).state ≠ QState.forcing
    ∧ (q5b.blk.queue 4095).bound.isSome = true
    ∧ (q5b.blk.hws ((q5b.blk.queue 4095).bound.get (by decide +kernel))).queue = some 4095
    -- 8
    ∧ (qcoac_8.blk.queue 4095).state = QState.stopping
    ∧ (qcoac_8.blk.queue 4095).inflight = 0
    ∧ (qcoac_8.blk.queue 4095).bound = none
    ∧ 4095 < 4096
    -- 9
    ∧ (qcoac_9.blk.queue 4095).state = QState.forcing
    ∧ (qcoac_9.blk.queue 4095).inflight = 0
    ∧ (qcoac_9.blk.queue 4095).resets = []
    ∧ 4095 < 4096 := by
  refine ⟨?_, ?_, ?_, ?_, ?_, ?_, ?_, ?_, ?_, ?_, ?_, ?_, ?_, ?_, ?_, ?_, ?_, ?_, ?_, ?_, ?_, ?_, ?_, ?_, ?_,
    ?_, ?_⟩ <;>
    first | decide +kernel | (unfold Performs; decide +kernel)
def qarbaf_1_4r2 : State := {q7 with blk := {q7.blk with front := {q7.blk.front with dbRej := 0x80000001}}}
def qarbaf_7r2 : State := ondB q9a fun b => b.modHws 63 fun x => { x with releasing := true }
theorem witness_QueuesAreRungBoundAndFetched :
    -- 1
    Performs S2 A0 (Reg.dbWord (BitVec.toNat (0 : BitVec 8)) (BitVec.toNat (127 : BitVec 7))) true
    -- 1
    ∧ Performs q7 A0 (Reg.dbWord (BitVec.toNat (0 : BitVec 8)) (BitVec.toNat (127 : BitVec 7))) true
    ∧ (∀ (k : Nat), k / 32 = BitVec.toNat (127 : BitVec 7) → BitVec.getLsbD (1 : BitVec 32) (k % 32) = true
        → q7.blk.rings (BitVec.toNat (0 : BitVec 8)) k = true)
    -- 1.4
    ∧ Performs q7 A0 (Reg.dbWord (BitVec.toNat (1 : BitVec 8)) (BitVec.toNat (127 : BitVec 7))) true
    ∧ (4064 / 32 : Nat) = BitVec.toNat (127 : BitVec 7)
    ∧ BitVec.getLsbD (3 : BitVec 32) (4064 % 32) = true
    ∧ q7.blk.rings (BitVec.toNat (1 : BitVec 8)) 4064 = false
    ∧ (∀ k < 4064, k / 32 = BitVec.toNat (127 : BitVec 7) → BitVec.getLsbD (3 : BitVec 32) (k % 32) = true
        → q7.blk.rings (BitVec.toNat (1 : BitVec 8)) k = true)
    ∧ q7.blk.front.dbRej.toNat < 2 ^ 31
    -- 1.4
    ∧ Performs qarbaf_1_4r2 A0 (Reg.dbWord (BitVec.toNat (0 : BitVec 8)) (BitVec.toNat (127 : BitVec 7))) true
    ∧ (4065 / 32 : Nat) = BitVec.toNat (127 : BitVec 7)
    ∧ BitVec.getLsbD (3 : BitVec 32) (4065 % 32) = true
    ∧ qarbaf_1_4r2.blk.rings (BitVec.toNat (0 : BitVec 8)) 4065 = false
    ∧ (∀ k < 4065, k / 32 = BitVec.toNat (127 : BitVec 7) → BitVec.getLsbD (3 : BitVec 32) (k % 32) = true
        → qarbaf_1_4r2.blk.rings (BitVec.toNat (0 : BitVec 8)) k = true)
    ∧ 2 ^ 31 ≤ qarbaf_1_4r2.blk.front.dbRej.toNat
    -- 2
    ∧ q8.blk.halted = false
    ∧ 4095 ∈ q8.blk.wanting
    ∧ q8.blk.eligibleSlot 4095 = some 0
    ∧ (∀ k ∈ q8.blk.wanting, (q8.blk.eligibleSlot k).isSome = true → k ≠ 4095
        → (q8.blk.queue k).prio < (q8.blk.queue 4095).prio ∨ (q8.blk.queue k).prio
        = (q8.blk.queue 4095).prio ∧ q8.blk.mapDistance 4095 < q8.blk.mapDistance k)
    -- 3
    ∧ q9.blk.mp.readFor (RPurpose.tail 63) = some tr
    ∧ (q9.blk.hws 63).queue = some 4095
    ∧ (q9.blk.hws 63).tailDue = true
    ∧ (q9.blk.queue 4095).bound = some 63
    ∧ 4095 < 4096
    ∧ (2 : BitVec 2) ≠ (0 : BitVec 2)
    -- 3
    ∧ q9.blk.mp.readFor (RPurpose.tail 63) = some tr
    ∧ (q9.blk.hws 63).queue = some 4095
    ∧ (q9.blk.hws 63).tailDue = true
    ∧ (q9.blk.queue 4095).bound = some 63
    ∧ 4095 < 4096
    ∧ (0 : BitVec 2) = (0 : BitVec 2)
    ∧ (0 : BitVec 2) = (0 : BitVec 2)
    ∧ ((63 : BitVec 32) - (q9.blk.queue 4095).head).toNat ≤ 2 ^ (q9.blk.queue 4095).log2sz
    -- 3
    ∧ q9.blk.mp.readFor (RPurpose.tail 63) = some tr
    ∧ (q9.blk.hws 63).queue = some 4095
    ∧ (q9.blk.hws 63).tailDue = true
    ∧ (q9.blk.queue 4095).bound = some 63
    ∧ 4095 < 4096
    ∧ (0 : BitVec 2) = (0 : BitVec 2)
    ∧ 2 ^ (q9.blk.queue 4095).log2sz < ((64 : BitVec 32) - (q9.blk.queue 4095).head).toNat
    -- 4
    ∧ q10.blk.mp.slotRead 63 = some dr
    ∧ dr.purpose = RPurpose.descs 63 (q10.blk.queue 4095).head.toNat 4
    ∧ 4 ≤ 4
    ∧ (q10.blk.hws 63).queue = some 4095
    ∧ (q10.blk.hws 63).early = []
    ∧ (q10.blk.queue 4095).state = QState.active
    ∧ (q10.blk.hws 63).tailDue = false
    ∧ (q10.blk.queue 4095).head ≠ (q10.blk.hws 63).tail
    -- 4
    ∧ q10r.blk.mp.slotRead 63 = some dr
    ∧ dr.purpose = RPurpose.descs 63 (q10r.blk.queue 4095).head.toNat 4
    ∧ 4 ≤ 4
    ∧ (q10r.blk.hws 63).queue = some 4095
    ∧ (q10r.blk.hws 63).early = []
    ∧ (q10r.blk.queue 4095).state = QState.active
    ∧ (q10r.blk.hws 63).tailDue = false
    ∧ (q10r.blk.queue 4095).head ≠ (q10r.blk.hws 63).tail
    ∧ q10r.blk.releaseApplies 63 4095 = true
    -- 5
    ∧ ((q11 true).blk.hws 63).queue = some 4095
    ∧ ((q11 true).blk.queue 4095).state = QState.active
    ∧ (q11 true).blk.slotIdle 63 = true
    ∧ ((q11 true).blk.queue 4095).head = ((q11 true).blk.hws 63).tail
    ∧ ((q11 true).blk.hws 63).going = false
    ∧ (q11 true).blk.halted = false
    ∧ ((q11 true).blk.queue 4095).pend = true
    -- 5
    ∧ ((q11 false).blk.hws 63).queue = some 4095
    ∧ ((q11 false).blk.queue 4095).state = QState.active
    ∧ (q11 false).blk.slotIdle 63 = true
    ∧ ((q11 false).blk.queue 4095).head = ((q11 false).blk.hws 63).tail
    ∧ ((q11 false).blk.hws 63).going = false
    ∧ (q11 false).blk.halted = false
    ∧ ((q11 false).blk.queue 4095).pend = false
    -- 6
    ∧ (q12.blk.hws 63).queue = some 4095
    ∧ (q12.blk.queue 4095).state = QState.active
    ∧ q12.blk.slotIdle 63 = true
    ∧ ((q12.blk.hws 63).going = true ∨ (q12.blk.queue 4095).head ≠ (q12.blk.hws 63).tail
        ∧ q12.blk.releaseApplies 63 4095 = true)
    -- 7
    ∧ q9a.blk.mp.readFor (RPurpose.tail 63) = some tr
    ∧ (q9a.blk.hws 63).queue = some 4095
    ∧ (q9a.blk.hws 63).tailDue = true
    ∧ (q9a.blk.queue 4095).bound = some 63
    ∧ (q9a.blk.queue 4095).state = QState.active
    ∧ q9a.blk.halted = false
    ∧ (q9a.blk.hws 63).going = false
    ∧ q9a.blk.mp.slotReads 63 = 0
    ∧ (q9a.blk.hws 63).requested = 0
    ∧ (q9a.blk.hws 63).early = []
    ∧ (63 : BitVec 32) ≠ (q9a.blk.queue 4095).head
    ∧ ((63 : BitVec 32) - (q9a.blk.queue 4095).head).toNat ≤ 2 ^ (q9a.blk.queue 4095).log2sz
    ∧ q9a.blk.releaseApplies 63 4095 = false
    ∧ q9a.blk.queueOutgoing (q9a.blk.queue 4095) = false
    -- 7
    ∧ qarbaf_7r2.blk.mp.readFor (RPurpose.tail 63) = some tr
    ∧ (qarbaf_7r2.blk.hws 63).queue = some 4095
    ∧ (qarbaf_7r2.blk.hws 63).tailDue = true
    ∧ (qarbaf_7r2.blk.queue 4095).bound = some 63
    ∧ (qarbaf_7r2.blk.queue 4095).state = QState.active
    ∧ qarbaf_7r2.blk.halted = false
    ∧ (qarbaf_7r2.blk.hws 63).going = false
    ∧ qarbaf_7r2.blk.mp.slotReads 63 = 0
    ∧ (qarbaf_7r2.blk.hws 63).requested = 0
    ∧ (qarbaf_7r2.blk.hws 63).early = []
    ∧ (63 : BitVec 32) ≠ (qarbaf_7r2.blk.queue 4095).head
    ∧ ((63 : BitVec 32) - (qarbaf_7r2.blk.queue 4095).head).toNat ≤ 2 ^ (qarbaf_7r2.blk.queue 4095).log2sz
    ∧ qarbaf_7r2.blk.releaseApplies 63 4095 = true
    -- 8
    ∧ Performs q12 A0 (Reg.hwsCmd 63) true
    -- 9
    ∧ (3 : BitVec 2) ≠ (0 : BitVec 2)
    ∧ 4095 < 4096
    ∧ List.find? (fun x => x.purpose == WPurpose.headOf 4095) q13.blk.mp.writes = some hw := by
  refine ⟨?_, ?_, ?_, ?_, ?_, ?_, ?_, ?_, ?_, ?_, ?_, ?_, ?_, ?_, ?_, ?_, ?_, ?_, ?_, ?_, ?_, ?_, ?_, ?_, ?_,
    ?_, ?_, ?_, ?_, ?_, ?_, ?_, ?_, ?_, ?_, ?_, ?_, ?_, ?_, ?_, ?_, ?_, ?_, ?_, ?_, ?_, ?_, ?_, ?_, ?_, ?_,
    ?_, ?_, ?_, ?_, ?_, ?_, ?_, ?_, ?_, ?_, ?_, ?_, ?_, ?_, ?_, ?_, ?_, ?_, ?_, ?_, ?_, ?_, ?_, ?_, ?_, ?_,
    ?_, ?_, ?_, ?_, ?_, ?_, ?_, ?_, ?_, ?_, ?_, ?_, ?_, ?_, ?_, ?_, ?_, ?_, ?_, ?_, ?_, ?_, ?_, ?_, ?_, ?_,
    ?_, ?_, ?_⟩ <;>
    (first
      | exact forall_word_lt (by decide +kernel)
      | decide +kernel
      | (intro k _ h; exact absurd h (by simp; omega))
      | exact forall_word (by decide +kernel)
      | (unfold Performs; decide +kernel))
def sar_1r2 : State := z2 fun f => { f with stalls := List.replicate 32 ⟨0,1,2⟩ }
theorem witness_StallsAreReported :
    -- 1
    tget (0 : BitVec 32) (z2 id).blk.front.window (BitVec.toNat (0 : BitVec 2)) ≠ (0 : BitVec 32)
    ∧ tget (0, false) (z2 id).blk.front.moved (stallUnit (BitVec.toNat (0 : BitVec 2)) 4095) = (0, false)
    ∧ (z2 id).blk.unitBusy (BitVec.toNat (0 : BitVec 2)) 4095 = true
    ∧ (z2 id).blk.unitStopped (BitVec.toNat (0 : BitVec 2)) 4095 = false
    ∧ max 0 ((tget none (z2 id).blk.front.busy (stallUnit (BitVec.toNat (0 : BitVec 2)) 4095)).getD (z2 id).blk.now) + 1000 * (tget (0 : BitVec 32) (z2 id).blk.front.window (BitVec.toNat (0 : BitVec 2))).toNat + (z2 id).blk.stoppedTime (BitVec.toNat (0 : BitVec 2)) 4095 (max 0 ((tget none (z2 id).blk.front.busy (stallUnit (BitVec.toNat (0 : BitVec 2)) 4095)).getD (z2 id).blk.now)) ≤ (z2 id).blk.now
    ∧ (z2 id).blk.front.stalls.length < 32
    -- 1
    ∧ tget (0 : BitVec 32) sar_1r2.blk.front.window (BitVec.toNat (0 : BitVec 2)) ≠ (0 : BitVec 32)
    ∧ tget (0, false) sar_1r2.blk.front.moved (stallUnit (BitVec.toNat (0 : BitVec 2)) 4095) = (0, false)
    ∧ sar_1r2.blk.unitBusy (BitVec.toNat (0 : BitVec 2)) 4095 = true
    ∧ sar_1r2.blk.unitStopped (BitVec.toNat (0 : BitVec 2)) 4095 = false
    ∧ max 0 ((tget none sar_1r2.blk.front.busy (stallUnit (BitVec.toNat (0 : BitVec 2)) 4095)).getD sar_1r2.blk.now) + 1000 * (tget (0 : BitVec 32) sar_1r2.blk.front.window (BitVec.toNat (0 : BitVec 2))).toNat + sar_1r2.blk.stoppedTime (BitVec.toNat (0 : BitVec 2)) 4095 (max 0 ((tget none sar_1r2.blk.front.busy (stallUnit (BitVec.toNat (0 : BitVec 2)) 4095)).getD sar_1r2.blk.now)) ≤ sar_1r2.blk.now
    ∧ 32 ≤ sar_1r2.blk.front.stalls.length
    -- 2
    ∧ Performs S2 A0 Reg.prgPop true := by
  refine ⟨?_, ?_, ?_, ?_, ?_, ?_, ?_, ?_, ?_, ?_, ?_, ?_, ?_⟩ <;>
    first | decide +kernel | (unfold Performs; decide +kernel)
def sacap_1 : State := ondB c1 fun b => { b with mp := { b.mp with writes := [wSeg] } }
def sacap_2r2 : MemView := {}
def sacap_2r3a : State := ondB c1 fun b => b.modCq 0 fun x => { x with held := List.replicate 1024 (cmp1 3) }
def sacap_2r3b : MemView := {}
def sacap_3 : Fetched := { fNop with passed := true }
def sacap_3_1 : Fetched := { fNop with passed := true }
def sacap_3_4 : State := ondB c4 fun b => { b with audit := { b.audit with size := 1, base := 0x200000 } }
def sacap_3_3 : State := ondB c5 fun b => { b with experts := { b.experts with enable := true }, setting := { b.setting with experts := some ⟨4, 4, 1⟩ } }
theorem witness_SubmissionsAreCheckedAndPlaced :
    -- 1
    (sacap_1.blk.queue 4095).waiting = [fNop]
    ∧ sacap_1.blk.segDirty nopSeg fNop = true
    -- 2
    ∧ (c1.blk.queue 4095).waiting = [fNop]
    ∧ fNop.passed = false
    ∧ c1.blk.halted = false
    ∧ c1.blk.segDirty nopSeg fNop = false
    ∧ mergeStatus fNop.abort (checkPassStatus c1.params c1.blk (c1.blk.queue 4095).checkFor nopSeg fNop.code fNop.desc) = Status.ok
    -- 2
    ∧ (c1.blk.queue 4095).waiting = [fNop]
    ∧ fNop.passed = false
    ∧ c1.blk.halted = false
    ∧ c1.blk.segDirty sacap_2r2 fNop = false
    ∧ mergeStatus fNop.abort (checkPassStatus c1.params c1.blk (c1.blk.queue 4095).checkFor sacap_2r2 fNop.code fNop.desc) ≠ Status.ok
    ∧ mergeStatus fNop.abort (checkPassStatus c1.params c1.blk (c1.blk.queue 4095).checkFor sacap_2r2 fNop.code fNop.desc) ≠ Status.ok
    ∧ c1.blk.canReport 4095 = true
    -- 2
    ∧ (sacap_2r3a.blk.queue 4095).waiting = [fNop]
    ∧ fNop.passed = false
    ∧ sacap_2r3a.blk.halted = false
    ∧ sacap_2r3a.blk.segDirty sacap_2r3b fNop = false
    ∧ mergeStatus fNop.abort (checkPassStatus sacap_2r3a.params sacap_2r3a.blk (sacap_2r3a.blk.queue 4095).checkFor sacap_2r3b fNop.code fNop.desc) ≠ Status.ok
    ∧ sacap_2r3a.blk.canReport 4095 = false
    -- 3
    ∧ (c2.blk.queue 4095).waiting = [sacap_3]
    ∧ sacap_3.passed = true
    ∧ Block.placeReady c2.params c2.blk (c2.blk.queue 4095).part (BitVec.toNat (65535 : BitVec 16)) = true
    ∧ c2.blk.placeDomains (descAudit sacap_3.desc) = []
    ∧ c2.blk.closesCycle (segWaits c2.blk nopSeg (descSeg sacap_3.desc) (readHdr nopSeg (descSeg sacap_3.desc)).nnodes) (segSignals nopSeg (descSeg sacap_3.desc) (readHdr nopSeg (descSeg sacap_3.desc)).nnodes sacap_3.desc) ≠ some true
    ∧ c2.blk.closesCycle (segWaits c2.blk nopSeg (descSeg sacap_3.desc) (readHdr nopSeg (descSeg sacap_3.desc)).nnodes) (segSignals nopSeg (descSeg sacap_3.desc) (readHdr nopSeg (descSeg sacap_3.desc)).nnodes sacap_3.desc) ≠ some true
    ∧ descAudit sacap_3.desc = false
    ∧ c2.blk.closesCycle (segWaits c2.blk nopSeg (descSeg sacap_3.desc) (readHdr nopSeg (descSeg sacap_3.desc)).nnodes) (segSignals nopSeg (descSeg sacap_3.desc) (readHdr nopSeg (descSeg sacap_3.desc)).nnodes sacap_3.desc) ≠ some true
    ∧ Block.pagerIdle c2.params c2.blk (readHdr nopSeg (descSeg sacap_3.desc)).nnodes
    ∧ (descAudit sacap_3.desc = true → c2.blk.audit.size ≠ (0 : BitVec 32)
        ∧ c2.blk.auditUsed < c2.blk.auditSlots)
    ∧ c2.blk.versionOf (bits (descW sacap_3.desc 3) 31 0) ≤ c2.blk.experts.version
    -- 3.1
    ∧ (c3.blk.queue 4095).waiting = [sacap_3_1]
    ∧ sacap_3_1.passed = true
    ∧ Block.placeReady c3.params c3.blk (c3.blk.queue 4095).part (BitVec.toNat (65535 : BitVec 16)) = true
    ∧ c3.blk.placeDomains (descAudit sacap_3_1.desc) = []
    ∧ c3.blk.closesCycle (segWaits c3.blk mCyc (descSeg sacap_3_1.desc) (readHdr mCyc (descSeg sacap_3_1.desc)).nnodes) (segSignals mCyc (descSeg sacap_3_1.desc) (readHdr mCyc (descSeg sacap_3_1.desc)).nnodes sacap_3_1.desc) = some true
    ∧ c3.blk.canReport 4095 = true
    -- 3.2
    ∧ (c4.blk.queue 4095).waiting = [fAud]
    ∧ fAud.passed = true
    ∧ Block.placeReady c4.params c4.blk (c4.blk.queue 4095).part (BitVec.toNat (65535 : BitVec 16)) = true
    ∧ c4.blk.placeDomains (descAudit fAud.desc) = []
    ∧ c4.blk.closesCycle (segWaits c4.blk nopSeg (descSeg fAud.desc) (readHdr nopSeg (descSeg fAud.desc)).nnodes) (segSignals nopSeg (descSeg fAud.desc) (readHdr nopSeg (descSeg fAud.desc)).nnodes fAud.desc) ≠ some true
    ∧ descAudit fAud.desc = true
    ∧ c4.blk.audit.size = (0 : BitVec 32)
    ∧ c4.blk.canReport 4095 = true
    -- 3.4
    ∧ (sacap_3_4.blk.queue 4095).waiting = [fAud]
    ∧ fAud.passed = true
    ∧ Block.placeReady sacap_3_4.params sacap_3_4.blk (sacap_3_4.blk.queue 4095).part (BitVec.toNat (65535 : BitVec 16)) = true
    ∧ sacap_3_4.blk.placeDomains (descAudit fAud.desc) = []
    ∧ sacap_3_4.blk.closesCycle (segWaits sacap_3_4.blk nopSeg (descSeg fAud.desc) (readHdr nopSeg (descSeg fAud.desc)).nnodes) (segSignals nopSeg (descSeg fAud.desc) (readHdr nopSeg (descSeg fAud.desc)).nnodes fAud.desc) ≠ some true
    ∧ Block.pagerIdle sacap_3_4.params sacap_3_4.blk (readHdr nopSeg (descSeg fAud.desc)).nnodes
    ∧ (descAudit fAud.desc = true → sacap_3_4.blk.audit.size ≠ (0 : BitVec 32)
        ∧ sacap_3_4.blk.auditUsed < sacap_3_4.blk.auditSlots)
    ∧ sacap_3_4.blk.versionOf (bits (descW fAud.desc 3) 31 0) ≤ sacap_3_4.blk.experts.version
    -- 3.3
    ∧ (sacap_3_3.blk.queue 4095).waiting = [fVer]
    ∧ fVer.passed = true
    ∧ Block.placeReady sacap_3_3.params sacap_3_3.blk (sacap_3_3.blk.queue 4095).part (BitVec.toNat (65535 : BitVec 16)) = true
    ∧ sacap_3_3.blk.placeDomains (descAudit fVer.desc) = []
    ∧ sacap_3_3.blk.closesCycle (segWaits sacap_3_3.blk nopSeg (descSeg fVer.desc) (readHdr nopSeg (descSeg fVer.desc)).nnodes) (segSignals nopSeg (descSeg fVer.desc) (readHdr nopSeg (descSeg fVer.desc)).nnodes fVer.desc) ≠ some true
    ∧ descAudit fVer.desc = false
    ∧ sacap_3_3.blk.experts.version < sacap_3_3.blk.versionOf (bits (descW fVer.desc 3) 31 0)
    ∧ sacap_3_3.blk.experts.held = false := by
  refine ⟨?_, ?_, ?_, ?_, ?_, ?_, ?_, ?_, ?_, ?_, ?_, ?_, ?_, ?_, ?_, ?_, ?_, ?_, ?_, ?_, ?_, ?_, ?_, ?_, ?_,
    ?_, ?_, ?_, ?_, ?_, ?_, ?_, ?_, ?_, ?_, ?_, ?_, ?_, ?_, ?_, ?_, ?_, ?_, ?_, ?_, ?_, ?_, ?_, ?_, ?_, ?_,
    ?_, ?_, ?_, ?_, ?_, ?_, ?_, ?_, ?_, ?_⟩ <;>
    first | decide +kernel | (unfold Block.pagerIdle; decide +kernel)
end Queues

namespace Nodes
def n1 : State := nd 0 fun n => { n with bead := some 15 }
def mL (l : List Nat) (n : Nat) : MemView := { words := [(0x100C8, BitVec.ofNat 64 (n * 2 ^ 32)), (0x10140, BitVec.ofNat 64 ((l[0]?).getD 0 + 2 ^ 32 * (l[1]?).getD 0))] }
def n1a : State := ondB n1 fun b => (b.modSub 65535 fun x => { x with nblk := 1 }).modNode 65535 3 fun _ => { used := true, kind := 1, state := .pending, bead := some 15, count := 1, pstatus := 0 }
def n2 : State := nd 0 fun n => { n with bead := some 15, pstatus := Status.poisoned }
def n3 : State := nd 3 id
def mW : MemView := { words := [(0x10100, 3), (0x10110, 0x1FFFF), (0x10118, 0x2000)] }
def mWA : MemView := { words := [(0x10100, 3), (0x10110, 0x10001FFFF), (0x10118, 0x2000)] }
def n4 : State := nd 3 fun n => { n with outcome := some Status.poisoned }
def n5 : State := nd 3 fun n => { n with outcome := some Status.ok }
def rA : RReq := ⟨63, 9, 4, 0x2000, 8, .arrival 65535 2⟩
def n6 : State := ondB (nd 3 fun n => { n with outcome := some Status.ok, state := .acting, busy := true, arrival := 0x2000, quantity := some 0x7FFFFFFFFFFF }) fun b => { b with mp := { b.mp with reads := [rA] } }
def n7 : State := nd 3 fun n => { n with outcome := some Status.ok, state := .acting, interval := 4096, arrival := 0x2000 }
def mS : MemView := { words := [(0x10100, 4), (0x10110, 0x1FFFF)] }
def wt0 : Wait := { fence := 65535, gen := 1, seg := 65535, index := 3 }
def fn (ws : List Wait) (ts : List Turn) : State := ondB (nd 4 id) fun b => let c := (((b.modFence 65535 fun f => { f with state := .active, owner := 5 }).modNode 65535 3 fun n => { n with used := true, kind := 3, state := .acting }).modNode 65535 1 fun n => { n with used := true, kind := 4, state := .acting }).modNode 65535 0 fun n => { n with used := true, kind := 3, state := .acting }
  { c with fences := { c.fences with waits := ws, turns := ts } }
def n8 : State := fn [wt0, ⟨65535, 2, 65535, 0⟩] [⟨65535, 1, .node 65535 1⟩]
def n8t : State := fn [wt0, ⟨65535, 2, 65535, 0⟩] [⟨65535, 2, .node 65535 1⟩]
def n9 : State := ondB (nd 4 id) fun b => (b.modFence 65535 fun f => { f with state := .active, owner := 5, gen := -1 })
def mP : MemView := { words := [(0x10100, 7), (0x10110, 4), (0x10118, 0x100001FFFF)] }
def n10 : State := ondB (nd 7 id) fun b => let c := ((b.modFence 65535 fun f => { f with state := .active, owner := 5 }).modNode 65535 3 fun n => { n with used := true, kind := 3, state := .acting }).modNode 65535 1 fun n => { n with used := true, kind := 4, state := .acting }
  { c with fences := { c.fences with waits := [wt0, ⟨65535, 2, 65535, 0⟩], turns := [⟨65535, 2, .node 65535 1⟩] } }
def mR2 : MemView := { words := [(0x10100, 4), (0x10110, 0x010AA0000001FFFF), (0x10118, 0xFFFFFFFFFFFF)] }
def n12 : State := nd 4 fun n => { n with remote := some 0xAA000 }
def n13 : State := nd 4 fun n => { n with remote := some 0xAA000, peer := some 0xAA000, outcome := some Status.ok, state := .acting }
def u1 (f : Sub → Sub) : State := sr fun b => (subB b 65535 fun x => f { x with done := 4, known := 4, ended := [0, 1, 2, 3], desc := nopDesc }).modQueue 0 fun q => q
def um : State := ondB (u1 id) fun b => { (subB b 9 fun x => { x with done := 4, known := 4, ended := [0, 1, 2, 3], desc := nopDesc }) with graph := { (subB b 9 fun x => { x with done := 4, known := 4, ended := [0, 1, 2, 3], desc := nopDesc }).graph with met := [9, 65535] } }
def mErr : MemView := { nopSeg with errs := [⟨0x10000, 64, 2, 9⟩] }
def u3 (n : Node) : State := sr fun b => subB b 65535 fun x => { x with known := 4, desc := nopDesc, contribs := [(1, { used := true, retired := true, status := Status.poisoned })], nodes := [(2, n)] }
def mE : MemView := { words := [(0x10080, 2), (0x100A0, 0x200000000)] }
def mEJ : MemView := { words := [(0x10080, 2), (0x100A0, 0x200000000), (0x100C0, 0x20001)] }
def pr1 : RReq := ⟨63, 9, 1, 0x200000, 64, .refill 65535 2⟩
def pr2 : RReq := ⟨63, 10, 1, 0x200040, 64, .refill 65535 2⟩
def ps (k : Bool) : State := ondB (nd 0 fun n => { n with bead := some 15, spilled := true, slots := [0], state := if k then .ready else .pending }) fun b => { b with mp := { b.mp with reads := [pr1] }, graph := { b.graph with pgSize := 1, pgBase := 0x200000 } }
def pf : State := { S2 with params := { S2.params with nodeCache := 0 } }
def sw (k : Nat) (st : List Nat) : State := ondB S2 fun b => { b with mp := { b.mp with reads := [⟨63, 9, 1, 0x200000, 64, .sweep k⟩] }, graph := { b.graph with pgSize := 1, pgBase := 0x200000, sweepBusy := true, sweepPos := k, staleSlots := st } }
def fp : State := sr fun b => b.modFence 65535 fun f => { f with state := .poisoned, gen := 7 }
def rnafor_1_1 : MemView := {}
def rnafor_2a : State := ondB n1 fun b => b.modLane 7 fun l => { l with failed := true }
def rnafor_2b : MemView := {}
def rnafor_3 : MemView := {}
theorem witness_ReadyNodesAreForwardedOrReleased :
    -- 1.1
    (n1.blk.sub 65535).live = true
    ∧ (n1.blk.sub 65535).abandoned = none
    ∧ (n1.blk.node 65535 2).used = true
    ∧ (n1.blk.node 65535 2).state = NodeState.ready
    ∧ (n1.blk.node 65535 2).releaseWith = none
    ∧ (n1.blk.node 65535 2).bead = some 15
    ∧ Block.laneOpen n1.params n1.blk 15 = true
    ∧ Block.roomDown n1.params n1.blk 15 = true
    ∧ n1.blk.readyAhead 65535 2 15 = false
    ∧ (n1.blk.node 65535 2).spilled = false
    ∧ n1.blk.freeWin 15 = some 0
    ∧ (readSuccs n1.blk rnafor_1_1 65535 2).status = Status.ok
    ∧ n1.blk.pgEntries + (readSuccs n1.blk rnafor_1_1 65535 2).entries.length ≤ n1.params.nodeCache
    ∧ (readSuccs n1.blk rnafor_1_1 65535 2).entries.length ≤ 4096
    ∧ (∀ j ∈ (readSuccs n1.blk rnafor_1_1 65535 2).entries, j ≠ 2 ∧ (n1.blk.node 65535 j).used = true
        ∧ (n1.blk.node 65535 j).spilled = false
        ∧ ((fun j => have n := n1.blk.node 65535 j; beadKind n.kind && n.bead == some 15 && n.state == NodeState.forwarded) j = true → (n1.blk.node 65535 j).win ≠ 0) ∧ (beadKind (n1.blk.node 65535 j).kind = true → (n1.blk.node 65535 j).bead = some 15 → (n1.blk.node 65535 j).state ≠ NodeState.pending))
    -- 1.2
    ∧ (n1a.blk.sub 65535).live = true
    ∧ (n1a.blk.sub 65535).abandoned = none
    ∧ (n1a.blk.node 65535 2).used = true
    ∧ (n1a.blk.node 65535 2).state = NodeState.ready
    ∧ (n1a.blk.node 65535 2).releaseWith = none
    ∧ (n1a.blk.node 65535 2).bead = some 15
    ∧ Block.laneOpen n1a.params n1a.blk 15 = true
    ∧ Block.roomDown n1a.params n1a.blk 15 = true
    ∧ n1a.blk.readyAhead 65535 2 15 = false
    ∧ (n1a.blk.node 65535 2).spilled = false
    ∧ n1a.blk.freeWin 15 = some 0
    ∧ (readSuccs n1a.blk (mL [3] 1) 65535 2).status = Status.ok
    ∧ (readSuccs n1a.blk (mL [3] 1) 65535 2).entries = [3]
    ∧ 3 ≠ 2
    ∧ (readSuccs n1a.blk (mL [3] 1) 65535 3).status = Status.ok
    ∧ (readSuccs n1a.blk (mL [3] 1) 65535 3).entries = []
    ∧ (n1a.blk.node 65535 3).used = true
    ∧ (n1a.blk.node 65535 3).spilled = false
    ∧ (n1a.blk.node 65535 3).state = NodeState.pending
    ∧ beadKind (n1a.blk.node 65535 3).kind = true
    ∧ (n1a.blk.node 65535 3).bead = some 15
    ∧ 1026 ≤ n1a.blk.freeWins 15
    ∧ (n1a.blk.takeWin 15 0 65535 2 0).freeWin 15 = some 1
    ∧ 1 ≠ 0
    ∧ n1a.blk.pgEntries ≤ n1a.params.nodeCache
    -- 2
    ∧ (rnafor_2a.blk.node 65535 2).releaseWith = none
    ∧ (rnafor_2a.blk.node 65535 2).bead = some 15
    ∧ (rnafor_2a.blk.node 65535 2).spilled = false
    ∧ (Block.laneOpen rnafor_2a.params rnafor_2a.blk 15
        = false ∨ Block.roomDown rnafor_2a.params rnafor_2a.blk 15 = false ∨ rnafor_2a.blk.freeWin 15
        = none ∨ rnafor_2a.blk.readyAhead 65535 2 15 = true)
    -- 3
    ∧ (n2.blk.sub 65535).live = true
    ∧ (n2.blk.sub 65535).abandoned = none
    ∧ (n2.blk.node 65535 2).used = true
    ∧ (n2.blk.node 65535 2).state = NodeState.ready
    ∧ (n2.blk.node 65535 2).releaseWith = some Status.poisoned
    ∧ Status.poisoned ≠ Status.aborted
    ∧ (n2.blk.node 65535 2).kind ≠ 2
    ∧ (n2.blk.node 65535 2).kind ≠ 4
    ∧ EdgesReach n2.params n2.blk rnafor_3 65535 2 := by
  refine ⟨?_, ?_, ?_, ?_, ?_, ?_, ?_, ?_, ?_, ?_, ?_, ?_, ?_, ?_, ?_, ?_, ?_, ?_, ?_, ?_, ?_, ?_, ?_, ?_, ?_,
    ?_, ?_, ?_, ?_, ?_, ?_, ?_, ?_, ?_, ?_, ?_, ?_, ?_, ?_, ?_, ?_, ?_, ?_, ?_, ?_, ?_, ?_, ?_, ?_, ?_, ?_,
    ?_, ?_⟩ <;>
    first | decide +kernel | exact edgesReach_of (by unfold Block.pagerIdle; decide +kernel)
theorem witness_WaitNodesAct :
    -- 1
    (n3.blk.node 65535 2).kind = 3
    ∧ n3.blk.gate 65535 2 = Gate.act
    ∧ EdgesReach n3.params n3.blk mW 65535 2
    ∧ (n3.blk.node 65535 2).outcome = none
    ∧ (∀ w ∈ n3.blk.fences.waits, ¬(w.seg = 65535 ∧ w.index = 2))
    ∧ (n3.blk.fence (handleIndex (recFence mW (n3.blk.node 65535 2).record))).ended (handleGen (recFence mW (n3.blk.node 65535 2).record)) = false
    -- 2
    ∧ (n4.blk.node 65535 2).kind = 3
    ∧ n4.blk.gate 65535 2 = Gate.act
    ∧ EdgesReach n4.params n4.blk mW 65535 2
    ∧ (n4.blk.node 65535 2).outcome = some Status.poisoned
    ∧ isFailure Status.poisoned = true
    ∧ Status.poisoned ≠ Status.aborted
    -- 3
    ∧ (n5.blk.node 65535 2).kind = 3
    ∧ n5.blk.gate 65535 2 = Gate.act
    ∧ EdgesReach n5.params n5.blk mW 65535 2
    ∧ (n5.blk.node 65535 2).outcome = some Status.ok
    ∧ isFailure Status.ok = false
    ∧ (n5.blk.node 65535 2).busy = false
    ∧ (n5.blk.node 65535 2).interval = 0
    ∧ bits (recW mW (n5.blk.node 65535 2).record 2) 32 32 = 0
    -- 3
    ∧ (n5.blk.node 65535 2).kind = 3
    ∧ n5.blk.gate 65535 2 = Gate.act
    ∧ EdgesReach n5.params n5.blk mWA 65535 2
    ∧ (n5.blk.node 65535 2).outcome = some Status.ok
    ∧ isFailure Status.ok = false
    ∧ (n5.blk.node 65535 2).busy = false
    ∧ (n5.blk.node 65535 2).interval = 0
    ∧ bits (recW mWA (n5.blk.node 65535 2).record 2) 32 32 = 1
    -- 4
    ∧ n6.blk.mp.readFor (RPurpose.arrival 65535 2) = some rA
    ∧ n6.blk.acting 65535 2 3 = true
    ∧ EdgesReach n6.params n6.blk mWA 65535 2
    ∧ (3 : BitVec 2) ≠ (0 : BitVec 2)
    -- 4
    ∧ n6.blk.mp.readFor (RPurpose.arrival 65535 2) = some rA
    ∧ n6.blk.acting 65535 2 3 = true
    ∧ EdgesReach n6.params n6.blk mWA 65535 2
    ∧ (0 : BitVec 2) = (0 : BitVec 2)
    ∧ arrived (fld (18446603336221196287 : Word) 47 0) ((n6.blk.node 65535 2).quantity.getD 0) = true
    ∧ (0 : BitVec 2) = (0 : BitVec 2)
    -- 4
    ∧ n6.blk.mp.readFor (RPurpose.arrival 65535 2) = some rA
    ∧ n6.blk.acting 65535 2 3 = true
    ∧ EdgesReach n6.params n6.blk mWA 65535 2
    ∧ (0 : BitVec 2) = (0 : BitVec 2)
    ∧ arrived (fld (140737488355326 : Word) 47 0) ((n6.blk.node 65535 2).quantity.getD 0) = false
    -- 5
    ∧ n7.blk.acting 65535 2 3 = true
    ∧ (n7.blk.node 65535 2).busy = false
    ∧ (n7.blk.node 65535 2).interval ≠ 0
    ∧ n7.blk.claspHeld (n7.blk.sub 65535).part = false := by
  refine ⟨?_, ?_, ?_, ?_, ?_, ?_, ?_, ?_, ?_, ?_, ?_, ?_, ?_, ?_, ?_, ?_, ?_, ?_, ?_, ?_, ?_, ?_, ?_, ?_, ?_,
    ?_, ?_, ?_, ?_, ?_, ?_, ?_, ?_, ?_, ?_, ?_, ?_, ?_, ?_, ?_, ?_, ?_, ?_, ?_, ?_, ?_, ?_⟩ <;>
    first | decide +kernel | exact edgesReach_of (by unfold Block.pagerIdle; decide +kernel)
theorem witness_SignalsAndPoisonsAct :
    -- 1.1.1
    (n8.blk.node 65535 2).kind = 4
    ∧ n8.blk.gate 65535 2 = Gate.act
    ∧ EdgesReach n8.params n8.blk mS 65535 2
    ∧ bits (recW mS (n8.blk.node 65535 2).record 2) 56 56 = 0
    ∧ handleOk (n8.blk.fence (handleIndex (recFence mS (n8.blk.node 65535 2).record))) (handleGen (recFence mS (n8.blk.node 65535 2).record)) true (n8.blk.sub 65535).kernel (n8.blk.sub 65535).ctx = true
    ∧ (n8.blk.fence (handleIndex (recFence mS (n8.blk.node 65535 2).record))).ended (handleGen (recFence mS (n8.blk.node 65535 2).record)) = false
    ∧ (n8.blk.fence (handleIndex (recFence mS (n8.blk.node 65535 2).record))).gen + (1 : BitVec 16)
        = handleGen (recFence mS (n8.blk.node 65535 2).record)
    ∧ (∀ t ∈ n8.blk.fences.turns, t.fence = handleIndex (recFence mS (n8.blk.node 65535 2).record)
        → t.gen ≠ handleGen (recFence mS (n8.blk.node 65535 2).record) + (1 : BitVec 16))
    -- 1.1.1.8
    ∧ (n8.blk.node 65535 2).kind = 4
    ∧ n8.blk.gate 65535 2 = Gate.act
    ∧ EdgesReach n8.params n8.blk mS 65535 2
    ∧ bits (recW mS (n8.blk.node 65535 2).record 2) 56 56 = 0
    ∧ handleOk (n8.blk.fence (handleIndex (recFence mS (n8.blk.node 65535 2).record))) (handleGen (recFence mS (n8.blk.node 65535 2).record)) true (n8.blk.sub 65535).kernel (n8.blk.sub 65535).ctx = true
    ∧ (n8.blk.fence (handleIndex (recFence mS (n8.blk.node 65535 2).record))).ended (handleGen (recFence mS (n8.blk.node 65535 2).record)) = false
    ∧ (n8.blk.fence (handleIndex (recFence mS (n8.blk.node 65535 2).record))).gen + (1 : BitVec 16)
        = handleGen (recFence mS (n8.blk.node 65535 2).record)
    ∧ (∀ t ∈ n8.blk.fences.turns, t.fence = handleIndex (recFence mS (n8.blk.node 65535 2).record)
        → t.gen ≠ handleGen (recFence mS (n8.blk.node 65535 2).record) + (1 : BitVec 16))
    ∧ { fence := 65535, gen := (1 : BitVec 16), by' := TurnBy.node 65535 1 : Turn } ∈ n8.blk.fences.turns
    ∧ { fence := 65535, gen := (1 : BitVec 16), by' := TurnBy.node 65535 1 : Turn }.fence
        = handleIndex (recFence mS (n8.blk.node 65535 2).record)
    ∧ { fence := 65535, gen := (1 : BitVec 16), by' := TurnBy.node 65535 1 : Turn }.gen
        = handleGen (recFence mS (n8.blk.node 65535 2).record)
    ∧ { fence := 65535, gen := (1 : BitVec 16), by' := TurnBy.node 65535 1 : Turn }.by' = TurnBy.node 65535 1
    -- 1.1.2
    ∧ (n8t.blk.node 65535 2).kind = 4
    ∧ n8t.blk.gate 65535 2 = Gate.act
    ∧ EdgesReach n8t.params n8t.blk mS 65535 2
    ∧ bits (recW mS (n8t.blk.node 65535 2).record 2) 56 56 = 0
    ∧ handleOk (n8t.blk.fence (handleIndex (recFence mS (n8t.blk.node 65535 2).record))) (handleGen (recFence mS (n8t.blk.node 65535 2).record)) true (n8t.blk.sub 65535).kernel (n8t.blk.sub 65535).ctx = true
    ∧ (n8t.blk.fence (handleIndex (recFence mS (n8t.blk.node 65535 2).record))).state = FState.active
    ∧ (n8t.blk.fence (handleIndex (recFence mS (n8t.blk.node 65535 2).record))).gen + (1 : BitVec 16)
        = handleGen (recFence mS (n8t.blk.node 65535 2).record)
    ∧ { fence := 65535, gen := (2 : BitVec 16), by' := TurnBy.node 65535 1 : Turn } ∈ n8t.blk.fences.turns
    ∧ List.count { fence := 65535, gen := (2 : BitVec 16), by' := TurnBy.node 65535 1 : Turn } n8t.blk.fences.turns = 1
    ∧ { fence := 65535, gen := (2 : BitVec 16), by' := TurnBy.node 65535 1 : Turn }.fence
        = handleIndex (recFence mS (n8t.blk.node 65535 2).record)
    ∧ { fence := 65535, gen := (2 : BitVec 16), by' := TurnBy.node 65535 1 : Turn }.gen
        = handleGen (recFence mS (n8t.blk.node 65535 2).record) + (1 : BitVec 16)
    ∧ (∀ u ∈ n8t.blk.fences.turns, u.fence = handleIndex (recFence mS (n8t.blk.node 65535 2).record)
        → u ≠ { fence := 65535, gen := (2 : BitVec 16), by' := TurnBy.node 65535 1 : Turn }
        → u.gen ≠ handleGen (recFence mS (n8t.blk.node 65535 2).record)
        ∧ u.gen ≠ handleGen (recFence mS (n8t.blk.node 65535 2).record) + (1 : BitVec 16)
        ∧ u.gen ≠ handleGen (recFence mS (n8t.blk.node 65535 2).record) + (2 : BitVec 16))
    ∧ (∀ w ∈ n8t.blk.fences.waits, w.fence = handleIndex (recFence mS (n8t.blk.node 65535 2).record)
        → { fence := 65535, gen := (2 : BitVec 16), by' := TurnBy.node 65535 1 : Turn }.by' ≠ TurnBy.node w.seg w.index)
    ∧ { fence := 65535, gen := (2 : BitVec 16), by' := TurnBy.node 65535 1 : Turn }.by' ≠ TurnBy.node 65535 2
    -- 1.1.2.5
    ∧ (n8t.blk.node 65535 2).kind = 4
    ∧ n8t.blk.gate 65535 2 = Gate.act
    ∧ EdgesReach n8t.params n8t.blk mS 65535 2
    ∧ bits (recW mS (n8t.blk.node 65535 2).record 2) 56 56 = 0
    ∧ handleOk (n8t.blk.fence (handleIndex (recFence mS (n8t.blk.node 65535 2).record))) (handleGen (recFence mS (n8t.blk.node 65535 2).record)) true (n8t.blk.sub 65535).kernel (n8t.blk.sub 65535).ctx = true
    ∧ (n8t.blk.fence (handleIndex (recFence mS (n8t.blk.node 65535 2).record))).state = FState.active
    ∧ (n8t.blk.fence (handleIndex (recFence mS (n8t.blk.node 65535 2).record))).gen + (1 : BitVec 16)
        = handleGen (recFence mS (n8t.blk.node 65535 2).record)
    ∧ { fence := 65535, gen := (2 : BitVec 16), by' := TurnBy.node 65535 1 : Turn } ∈ n8t.blk.fences.turns
    ∧ List.count { fence := 65535, gen := (2 : BitVec 16), by' := TurnBy.node 65535 1 : Turn } n8t.blk.fences.turns = 1
    ∧ { fence := 65535, gen := (2 : BitVec 16), by' := TurnBy.node 65535 1 : Turn }.fence
        = handleIndex (recFence mS (n8t.blk.node 65535 2).record)
    ∧ { fence := 65535, gen := (2 : BitVec 16), by' := TurnBy.node 65535 1 : Turn }.gen
        = handleGen (recFence mS (n8t.blk.node 65535 2).record) + (1 : BitVec 16)
    ∧ (∀ u ∈ n8t.blk.fences.turns, u.fence = handleIndex (recFence mS (n8t.blk.node 65535 2).record)
        → u ≠ { fence := 65535, gen := (2 : BitVec 16), by' := TurnBy.node 65535 1 : Turn }
        → u.gen ≠ handleGen (recFence mS (n8t.blk.node 65535 2).record)
        ∧ u.gen ≠ handleGen (recFence mS (n8t.blk.node 65535 2).record) + (1 : BitVec 16)
        ∧ u.gen ≠ handleGen (recFence mS (n8t.blk.node 65535 2).record) + (2 : BitVec 16))
    ∧ (∀ w ∈ n8t.blk.fences.waits, w.fence = handleIndex (recFence mS (n8t.blk.node 65535 2).record)
        → { fence := 65535, gen := (2 : BitVec 16), by' := TurnBy.node 65535 1 : Turn }.by' ≠ TurnBy.node w.seg w.index)
    ∧ { fence := 65535, gen := (2 : BitVec 16), by' := TurnBy.node 65535 1 : Turn }.by' ≠ TurnBy.node 65535 2
    ∧ { fence := 65535, gen := (2 : BitVec 16), by' := TurnBy.node 65535 1 : Turn }.by' = TurnBy.node 65535 1
    -- 1.1.3
    ∧ (n9.blk.node 65535 2).kind = 4
    ∧ n9.blk.gate 65535 2 = Gate.act
    ∧ EdgesReach n9.params n9.blk mS 65535 2
    ∧ bits (recW mS (n9.blk.node 65535 2).record 2) 56 56 = 0
    ∧ handleOk (n9.blk.fence (handleIndex (recFence mS (n9.blk.node 65535 2).record))) (handleGen (recFence mS (n9.blk.node 65535 2).record)) true (n9.blk.sub 65535).kernel (n9.blk.sub 65535).ctx = true
    ∧ (n9.blk.fence (handleIndex (recFence mS (n9.blk.node 65535 2).record))).ended (handleGen (recFence mS (n9.blk.node 65535 2).record)) = false
    ∧ (n9.blk.fence (handleIndex (recFence mS (n9.blk.node 65535 2).record))).gen + (1 : BitVec 16) ≠ handleGen (recFence mS (n9.blk.node 65535 2).record)
    -- 1.1.4
    ∧ ((nd 4 id).blk.node 65535 2).kind = 4
    ∧ (nd 4 id).blk.gate 65535 2 = Gate.act
    ∧ EdgesReach (nd 4 id).params (nd 4 id).blk mS 65535 2
    ∧ bits (recW mS ((nd 4 id).blk.node 65535 2).record 2) 56 56 = 0
    ∧ (handleOk ((nd 4 id).blk.fence (handleIndex (recFence mS ((nd 4 id).blk.node 65535 2).record))) (handleGen (recFence mS ((nd 4 id).blk.node 65535 2).record)) true ((nd 4 id).blk.sub 65535).kernel ((nd 4 id).blk.sub 65535).ctx = false ∨ ((nd 4 id).blk.fence (handleIndex (recFence mS ((nd 4 id).blk.node 65535 2).record))).ended (handleGen (recFence mS ((nd 4 id).blk.node 65535 2).record)) = true)
    -- 1.2.1
    ∧ (n10.blk.node 65535 2).kind = 7
    ∧ privOp mP (n10.blk.node 65535 2).record = 4
    ∧ n10.blk.gate 65535 2 = Gate.act
    ∧ EdgesReach n10.params n10.blk mP 65535 2
    ∧ handleOk (n10.blk.fence (bits (recW mP (n10.blk.node 65535 2).record 3) 15 0)) (BitVec.ofNat 16 (bits (recW mP (n10.blk.node 65535 2).record 3) 31 16)) true (n10.blk.sub 65535).kernel (n10.blk.sub 65535).ctx = true
    ∧ (n10.blk.fence (bits (recW mP (n10.blk.node 65535 2).record 3) 15 0)).ended (BitVec.ofNat 16 (bits (recW mP (n10.blk.node 65535 2).record 3) 31 16)) = false
    ∧ (n10.blk.fence (bits (recW mP (n10.blk.node 65535 2).record 3) 15 0)).state = FState.active
    ∧ (∀ (w x : Wait), w ∈ n10.blk.fences.waits → x ∈ n10.blk.fences.waits → w.seg = x.seg → w.index
        = x.index → w = x)
    ∧ (∀ (w : Wait) (t : Turn), w ∈ n10.blk.fences.waits → t ∈ n10.blk.fences.turns
        → t.by' ≠ TurnBy.node w.seg w.index)
    ∧ (∀ (t u : Turn) (g j : Nat), t ∈ n10.blk.fences.turns → u ∈ n10.blk.fences.turns → t.by'
        = TurnBy.node g j → u.by' = TurnBy.node g j → t = u)
    -- 1.2.1.8
    ∧ (n10.blk.node 65535 2).kind = 7
    ∧ privOp mP (n10.blk.node 65535 2).record = 4
    ∧ n10.blk.gate 65535 2 = Gate.act
    ∧ EdgesReach n10.params n10.blk mP 65535 2
    ∧ handleOk (n10.blk.fence (bits (recW mP (n10.blk.node 65535 2).record 3) 15 0)) (BitVec.ofNat 16 (bits (recW mP (n10.blk.node 65535 2).record 3) 31 16)) true (n10.blk.sub 65535).kernel (n10.blk.sub 65535).ctx = true
    ∧ (n10.blk.fence (bits (recW mP (n10.blk.node 65535 2).record 3) 15 0)).ended (BitVec.ofNat 16 (bits (recW mP (n10.blk.node 65535 2).record 3) 31 16)) = false
    ∧ (n10.blk.fence (bits (recW mP (n10.blk.node 65535 2).record 3) 15 0)).state = FState.active
    ∧ (∀ (w x : Wait), w ∈ n10.blk.fences.waits → x ∈ n10.blk.fences.waits → w.seg = x.seg → w.index
        = x.index → w = x)
    ∧ (∀ (w : Wait) (t : Turn), w ∈ n10.blk.fences.waits → t ∈ n10.blk.fences.turns
        → t.by' ≠ TurnBy.node w.seg w.index)
    ∧ (∀ (t u : Turn) (g j : Nat), t ∈ n10.blk.fences.turns → u ∈ n10.blk.fences.turns → t.by'
        = TurnBy.node g j → u.by' = TurnBy.node g j → t = u)
    ∧ { fence := 65535, gen := (2 : BitVec 16), by' := TurnBy.node 65535 1 : Turn } ∈ n10.blk.fences.turns
    ∧ { fence := 65535, gen := (2 : BitVec 16), by' := TurnBy.node 65535 1 : Turn }.fence
        = bits (recW mP (n10.blk.node 65535 2).record 3) 15 0
    ∧ (have __src := n10.blk.fence (bits (recW mP (n10.blk.node 65535 2).record 3) 15 0); { state := FState.poisoned, gen := __src.gen, owner := __src.owner, pstatus := BitVec.ofNat 8 (bits (recW mP (n10.blk.node 65535 2).record 3) 39 32), pgen := BitVec.ofNat 16 (bits (recW mP (n10.blk.node 65535 2).record 3) 31 16), quantity := __src.quantity, unit := __src.unit : Fence }).ended { fence := 65535, gen := (2 : BitVec 16), by' := TurnBy.node 65535 1 : Turn }.gen = true
    ∧ { fence := 65535, gen := (2 : BitVec 16), by' := TurnBy.node 65535 1 : Turn }.by' = TurnBy.node 65535 1
    -- 1.2.2
    ∧ ((nd 7 id).blk.node 65535 2).kind = 7
    ∧ privOp mP ((nd 7 id).blk.node 65535 2).record = 4
    ∧ (nd 7 id).blk.gate 65535 2 = Gate.act
    ∧ EdgesReach (nd 7 id).params (nd 7 id).blk mP 65535 2
    ∧ (handleOk ((nd 7 id).blk.fence (bits (recW mP ((nd 7 id).blk.node 65535 2).record 3) 15 0)) (BitVec.ofNat 16 (bits (recW mP ((nd 7 id).blk.node 65535 2).record 3) 31 16)) true ((nd 7 id).blk.sub 65535).kernel ((nd 7 id).blk.sub 65535).ctx = false ∨ ((nd 7 id).blk.fence (bits (recW mP ((nd 7 id).blk.node 65535 2).record 3) 15 0)).ended (BitVec.ofNat 16 (bits (recW mP ((nd 7 id).blk.node 65535 2).record 3) 31 16)) = true)
    -- 2.1
    ∧ (n12.blk.node 65535 2).kind = 4
    ∧ n12.blk.gate 65535 2 = Gate.act
    ∧ EdgesReach n12.params n12.blk mR2 65535 2
    ∧ bits (recW mR2 (n12.blk.node 65535 2).record 2) 56 56 = 1
    ∧ (n12.blk.node 65535 2).remote = some (bits (recW mR2 (n12.blk.node 65535 2).record 2) 51 32)
    ∧ (n12.blk.peerFor (bits (recW mR2 (n12.blk.node 65535 2).record 2) 51 32) = none ∨ n12.blk.link.en
        = false ∨ ∀ e ∈ n12.blk.entriesFor (bits (recW mR2 (n12.blk.node 65535 2).record 2) 51 32), (tget { : Peer } n12.blk.link.peers e).state = PeerState.incompat)
    ∧ Tab.wf { : Peer } n12.blk.link.peers = true
    ∧ (n12.blk.peerFor (bits (recW mR2 (n12.blk.node 65535 2).record 2) 51 32) = none ∨ n12.blk.link.en = false)
    -- 2.2
    ∧ ((lkF (lkB PeerState.up n12)).blk.node 65535 2).kind = 4
    ∧ (lkF (lkB PeerState.up n12)).blk.gate 65535 2 = Gate.act
    ∧ EdgesReach (lkF (lkB PeerState.up n12)).params (lkF (lkB PeerState.up n12)).blk mR2 65535 2
    ∧ bits (recW mR2 ((lkF (lkB PeerState.up n12)).blk.node 65535 2).record 2) 56 56 = 1
    ∧ ((lkF (lkB PeerState.up n12)).blk.node 65535 2).remote
        = some (bits (recW mR2 ((lkF (lkB PeerState.up n12)).blk.node 65535 2).record 2) 51 32)
    ∧ (lkF (lkB PeerState.up n12)).blk.peerFor (bits (recW mR2 ((lkF (lkB PeerState.up n12)).blk.node 65535 2).record 2) 51 32) = some 1023
    ∧ (lkF (lkB PeerState.up n12)).blk.link.en = true
    ∧ (lkF (lkB PeerState.up n12)).blk.onlyIncompat (bits (recW mR2 ((lkF (lkB PeerState.up n12)).blk.node 65535 2).record 2) 51 32) = false
    ∧ (((lkF (lkB PeerState.up n12)).blk.peer 1023).state ≠ PeerState.up ∨ (lkF (lkB PeerState.up n12)).blk.txRoom = false)
    -- 2.3
    ∧ ((lkB PeerState.up n12).blk.node 65535 2).kind = 4
    ∧ (lkB PeerState.up n12).blk.gate 65535 2 = Gate.act
    ∧ EdgesReach (lkB PeerState.up n12).params (lkB PeerState.up n12).blk mR2 65535 2
    ∧ bits (recW mR2 ((lkB PeerState.up n12).blk.node 65535 2).record 2) 56 56 = 1
    ∧ ((lkB PeerState.up n12).blk.node 65535 2).remote
        = some (bits (recW mR2 ((lkB PeerState.up n12).blk.node 65535 2).record 2) 51 32)
    ∧ (lkB PeerState.up n12).blk.peerFor (bits (recW mR2 ((lkB PeerState.up n12).blk.node 65535 2).record 2) 51 32) = some 1023
    ∧ (lkB PeerState.up n12).blk.link.en = true
    ∧ ((lkB PeerState.up n12).blk.peer 1023).state = PeerState.up
    ∧ (lkB PeerState.up n12).blk.link.txq.length < 64
    ∧ ((lkB PeerState.up n12).blk.dom 6).state = DState.on
    -- 2.3
    ∧ ((lkS (lkB PeerState.up n12)).blk.node 65535 2).kind = 4
    ∧ (lkS (lkB PeerState.up n12)).blk.gate 65535 2 = Gate.act
    ∧ EdgesReach (lkS (lkB PeerState.up n12)).params (lkS (lkB PeerState.up n12)).blk mR2 65535 2
    ∧ bits (recW mR2 ((lkS (lkB PeerState.up n12)).blk.node 65535 2).record 2) 56 56 = 1
    ∧ ((lkS (lkB PeerState.up n12)).blk.node 65535 2).remote
        = some (bits (recW mR2 ((lkS (lkB PeerState.up n12)).blk.node 65535 2).record 2) 51 32)
    ∧ (lkS (lkB PeerState.up n12)).blk.peerFor (bits (recW mR2 ((lkS (lkB PeerState.up n12)).blk.node 65535 2).record 2) 51 32) = some 1023
    ∧ (lkS (lkB PeerState.up n12)).blk.link.en = true
    ∧ ((lkS (lkB PeerState.up n12)).blk.peer 1023).state = PeerState.up
    ∧ (lkS (lkB PeerState.up n12)).blk.link.txq.length < 64
    ∧ ((lkS (lkB PeerState.up n12)).blk.dom 6).state = DState.on
    ∧ (lkS (lkB PeerState.up n12)).blk.link.sending ≠ none
    -- 3
    ∧ (lkB PeerState.up n13).blk.acting 65535 2 4 = true
    ∧ EdgesReach (lkB PeerState.up n13).params (lkB PeerState.up n13).blk mR2 65535 2
    ∧ bits (recW mR2 ((lkB PeerState.up n13).blk.node 65535 2).record 2) 56 56 = 1
    ∧ ((lkB PeerState.up n13).blk.node 65535 2).outcome = some Status.ok := by
  refine ⟨?_, ?_, ?_, ?_, ?_, ?_, ?_, ?_, ?_, ?_, ?_, ?_, ?_, ?_, ?_, ?_, ?_, ?_, ?_, ?_, ?_, ?_, ?_, ?_, ?_,
    ?_, ?_, ?_, ?_, ?_, ?_, ?_, ?_, ?_, ?_, ?_, ?_, ?_, ?_, ?_, ?_, ?_, ?_, ?_, ?_, ?_, ?_, ?_, ?_, ?_, ?_,
    ?_, ?_, ?_, ?_, ?_, ?_, ?_, ?_, ?_, ?_, ?_, ?_, ?_, ?_, ?_, ?_, ?_, ?_, ?_, ?_, ?_, ?_, ?_, ?_, ?_, ?_,
    ?_, ?_, ?_, ?_, ?_, ?_, ?_, ?_, ?_, ?_, ?_, ?_, ?_, ?_, ?_, ?_, ?_, ?_, ?_, ?_, ?_, ?_, ?_, ?_, ?_, ?_,
    ?_, ?_, ?_, ?_, ?_, ?_, ?_, ?_, ?_, ?_, ?_, ?_, ?_, ?_, ?_, ?_, ?_, ?_, ?_, ?_, ?_, ?_, ?_, ?_, ?_, ?_,
    ?_, ?_, ?_⟩ <;>
    (first
      | decide +kernel
      | exact edgesReach_of (by unfold Block.pagerIdle; decide +kernel)
      | exact forall_mem2 (by decide +kernel)
      | exact turns_distinct (by decide +kernel))
def se_1_1 : MemView := {}
def se_1_2 : MemView := {}
def se_1_3 : State := u1 fun x => { x with audited := true, ended := [] }
def se_1_3r2 : State := u1 fun x => { x with audited := true, ended := [] }
def se_1_3r3 : State := u1 fun x => { x with audited := true, pd := some 3 }
def se_1_3r4 : State := u1 fun x => { x with audited := true, pd := some 3, ended := [] }
def se_1_4 : State := u3 { used := true, kind := 1, count := 1 }
def se_1_4r2 : State := u3 { used := true, kind := 0, state := .forwarded, bead := some 15, win := 4095, gen := 7 }
def se_1_4r3 : State := u3 { used := true, kind := 1, count := 1, spilled := true }
def se_1_4r4 : State := u3 {}
def se_1_4r5 : State := { u3 {} with params := { S2.params with nodeCache := 0 } }
theorem witness_SubmissionsEnd :
    -- 1.1
    (u1 id).blk.quiet 65535 = true
    ∧ (u1 id).blk.holdRoom = true
    ∧ (((u1 id).blk.sub 65535).audited = true → ((u1 id).blk.sub 65535).digest ≠ none)
    ∧ ((u1 id).blk.sub 65535).abandoned = none
    ∧ ((u1 id).blk.graph.met.contains 65535
        = false ∨ (u1 id).blk.metFirst ((u1 id).blk.queue ((u1 id).blk.sub 65535).queue).cq = some 65535)
    ∧ Block.pagerIdle (u1 id).params (u1 id).blk 0
    -- 1.2
    ∧ um.blk.graph.met.contains 65535 = true
    ∧ um.blk.metFirst (um.blk.queue (um.blk.sub 65535).queue).cq = some 9
    ∧ 9 ≠ 65535
    -- 1.3
    ∧ (se_1_3.blk.sub 65535).live = true
    ∧ (se_1_3.blk.sub 65535).complete = false
    ∧ (se_1_3.blk.sub 65535).audited = true
    ∧ (se_1_3.blk.sub 65535).digest = none
    ∧ (se_1_3.blk.sub 65535).pd = none
    ∧ nopSeg.status Status.format (descSeg (se_1_3.blk.sub 65535).desc) (se_1_3.blk.sub 65535).size = Status.ok
    ∧ se_1_3.blk.quiet 65535 = false
    ∧ (se_1_3.blk.sub 65535).pd = none
    -- 1.3
    ∧ (se_1_3r2.blk.sub 65535).live = true
    ∧ (se_1_3r2.blk.sub 65535).complete = false
    ∧ (se_1_3r2.blk.sub 65535).audited = true
    ∧ (se_1_3r2.blk.sub 65535).digest = none
    ∧ (se_1_3r2.blk.sub 65535).pd = none
    ∧ mErr.status Status.format (descSeg (se_1_3r2.blk.sub 65535).desc) (se_1_3r2.blk.sub 65535).size ≠ Status.ok
    ∧ se_1_3r2.blk.quiet 65535 = false
    -- 1.3
    ∧ (se_1_3r3.blk.sub 65535).live = true
    ∧ (se_1_3r3.blk.sub 65535).complete = false
    ∧ (se_1_3r3.blk.sub 65535).audited = true
    ∧ (se_1_3r3.blk.sub 65535).digest = none
    ∧ (se_1_3r3.blk.sub 65535).pd ≠ none
    ∧ se_1_3r3.blk.quiet 65535 = true
    ∧ (se_1_3r3.blk.sub 65535).pd ≠ none
    -- 1.3
    ∧ (se_1_3r4.blk.sub 65535).live = true
    ∧ (se_1_3r4.blk.sub 65535).complete = false
    ∧ (se_1_3r4.blk.sub 65535).audited = true
    ∧ (se_1_3r4.blk.sub 65535).digest = none
    ∧ (se_1_3r4.blk.sub 65535).pd ≠ none
    ∧ se_1_3r4.blk.quiet 65535 = false
    -- 1.4
    ∧ (se_1_4.blk.sub 65535).live = true
    ∧ tget { : Contribution } (se_1_4.blk.sub 65535).contribs 1
        = { used := true, retired := true, status := Status.poisoned : Contribution }
    ∧ { used := true, retired := true, status := Status.poisoned : Contribution }.used = true
    ∧ { used := true, retired := true, status := Status.poisoned : Contribution }.retired = true
    ∧ { used := true, retired := true, status := Status.poisoned : Contribution }.left = 0
    ∧ bits (recW mE ((se_1_4.blk.sub 65535).record 1) 4) 63 32 = 2
    ∧ (se_1_4.blk.sub 65535).abandoned = none
    ∧ se_1_4.blk.over 65535 = false
    ∧ 2 ∉ (se_1_4.blk.sub 65535).gone
    ∧ se_1_4.blk.graph.router = []
    ∧ se_1_4.blk.graph.full = false
    ∧ se_1_4.blk.pgCached ≤ se_1_4.params.nodeCache
    ∧ (se_1_4.blk.node 65535 2).used = true
    ∧ (se_1_4.blk.node 65535 2).spilled = false
    ∧ ¬(se_1_4.blk.node 65535 2).windowed
    ∧ (se_1_4.blk.node 65535 2).count ≠ 0
    ∧ (se_1_4.blk.node 65535 2).used = true
    ∧ (se_1_4.blk.node 65535 2).spilled = false
    ∧ (se_1_4.blk.node 65535 2).used = true
    -- 1.4
    ∧ (se_1_4r2.blk.sub 65535).live = true
    ∧ tget { : Contribution } (se_1_4r2.blk.sub 65535).contribs 1
        = { used := true, retired := true, status := Status.poisoned : Contribution }
    ∧ { used := true, retired := true, status := Status.poisoned : Contribution }.used = true
    ∧ { used := true, retired := true, status := Status.poisoned : Contribution }.retired = true
    ∧ { used := true, retired := true, status := Status.poisoned : Contribution }.left = 0
    ∧ bits (recW mE ((se_1_4r2.blk.sub 65535).record 1) 4) 63 32 = 2
    ∧ (se_1_4r2.blk.sub 65535).abandoned = none
    ∧ se_1_4r2.blk.over 65535 = false
    ∧ 2 ∉ (se_1_4r2.blk.sub 65535).gone
    ∧ se_1_4r2.blk.graph.router = []
    ∧ se_1_4r2.blk.graph.full = false
    ∧ se_1_4r2.blk.pgCached ≤ se_1_4r2.params.nodeCache
    ∧ (se_1_4r2.blk.node 65535 2).used = true
    ∧ (se_1_4r2.blk.node 65535 2).spilled = false
    ∧ (se_1_4r2.blk.node 65535 2).windowed
    -- 1.4
    ∧ (se_1_4r3.blk.sub 65535).live = true
    ∧ tget { : Contribution } (se_1_4r3.blk.sub 65535).contribs 1
        = { used := true, retired := true, status := Status.poisoned : Contribution }
    ∧ { used := true, retired := true, status := Status.poisoned : Contribution }.used = true
    ∧ { used := true, retired := true, status := Status.poisoned : Contribution }.retired = true
    ∧ { used := true, retired := true, status := Status.poisoned : Contribution }.left = 0
    ∧ bits (recW mE ((se_1_4r3.blk.sub 65535).record 1) 4) 63 32 = 2
    ∧ (se_1_4r3.blk.sub 65535).abandoned = none
    ∧ se_1_4r3.blk.over 65535 = false
    ∧ 2 ∉ (se_1_4r3.blk.sub 65535).gone
    ∧ se_1_4r3.blk.graph.router = []
    ∧ se_1_4r3.blk.graph.full = false
    ∧ se_1_4r3.blk.pgCached ≤ se_1_4r3.params.nodeCache
    ∧ (se_1_4r3.blk.node 65535 2).used = true
    ∧ (se_1_4r3.blk.node 65535 2).spilled = true
    -- 1.4
    ∧ (se_1_4r4.blk.sub 65535).live = true
    ∧ tget { : Contribution } (se_1_4r4.blk.sub 65535).contribs 1
        = { used := true, retired := true, status := Status.poisoned : Contribution }
    ∧ { used := true, retired := true, status := Status.poisoned : Contribution }.used = true
    ∧ { used := true, retired := true, status := Status.poisoned : Contribution }.retired = true
    ∧ { used := true, retired := true, status := Status.poisoned : Contribution }.left = 0
    ∧ bits (recW mEJ ((se_1_4r4.blk.sub 65535).record 1) 4) 63 32 = 2
    ∧ (se_1_4r4.blk.sub 65535).abandoned = none
    ∧ se_1_4r4.blk.over 65535 = false
    ∧ 2 ∉ (se_1_4r4.blk.sub 65535).gone
    ∧ se_1_4r4.blk.graph.router = []
    ∧ se_1_4r4.blk.graph.full = false
    ∧ se_1_4r4.blk.pgCached ≤ se_1_4r4.params.nodeCache
    ∧ (se_1_4r4.blk.node 65535 2).used = false
    ∧ (se_1_4r4.blk.node 65535 2).used = false
    ∧ Block.pgFull se_1_4r4.params se_1_4r4.blk = false
    ∧ se_1_4r4.blk.pgEntries + 1 ≤ se_1_4r4.params.nodeCache
    ∧ (nodeOfRecord (se_1_4r4.blk.sub 65535) mEJ ((se_1_4r4.blk.sub 65535).record 2)).count ≠ 0
    -- 1.4
    ∧ (se_1_4r5.blk.sub 65535).live = true
    ∧ tget { : Contribution } (se_1_4r5.blk.sub 65535).contribs 1
        = { used := true, retired := true, status := Status.poisoned : Contribution }
    ∧ { used := true, retired := true, status := Status.poisoned : Contribution }.used = true
    ∧ { used := true, retired := true, status := Status.poisoned : Contribution }.retired = true
    ∧ { used := true, retired := true, status := Status.poisoned : Contribution }.left = 0
    ∧ bits (recW mEJ ((se_1_4r5.blk.sub 65535).record 1) 4) 63 32 = 2
    ∧ (se_1_4r5.blk.sub 65535).abandoned = none
    ∧ se_1_4r5.blk.over 65535 = false
    ∧ 2 ∉ (se_1_4r5.blk.sub 65535).gone
    ∧ se_1_4r5.blk.graph.router = []
    ∧ se_1_4r5.blk.graph.full = false
    ∧ se_1_4r5.blk.pgCached ≤ se_1_4r5.params.nodeCache
    ∧ (se_1_4r5.blk.node 65535 2).used = false
    ∧ Block.pgFull se_1_4r5.params se_1_4r5.blk = true
    -- 2
    ∧ (Performs S2 A0 (if true = true then Reg.audSize else Reg.audBase) true) := by
  refine ⟨?_, ?_, ?_, ?_, ?_, ?_, ?_, ?_, ?_, ?_, ?_, ?_, ?_, ?_, ?_, ?_, ?_, ?_, ?_, ?_, ?_, ?_, ?_, ?_, ?_,
    ?_, ?_, ?_, ?_, ?_, ?_, ?_, ?_, ?_, ?_, ?_, ?_, ?_, ?_, ?_, ?_, ?_, ?_, ?_, ?_, ?_, ?_, ?_, ?_, ?_, ?_,
    ?_, ?_, ?_, ?_, ?_, ?_, ?_, ?_, ?_, ?_, ?_, ?_, ?_, ?_, ?_, ?_, ?_, ?_, ?_, ?_, ?_, ?_, ?_, ?_, ?_, ?_,
    ?_, ?_, ?_, ?_, ?_, ?_, ?_, ?_, ?_, ?_, ?_, ?_, ?_, ?_, ?_, ?_, ?_, ?_, ?_, ?_, ?_, ?_, ?_, ?_, ?_, ?_,
    ?_, ?_, ?_, ?_, ?_, ?_, ?_, ?_, ?_, ?_, ?_, ?_, ?_, ?_⟩ <;>
    (first
      | decide +kernel
      | (simp only [Node.windowed]; decide +kernel)
      | (unfold Performs; decide +kernel)
      | (unfold Block.pagerIdle; decide +kernel))
def tpke_1 : MemView := {}
def tpke_2 : MemView := {}
def tpke_2r2 : MemView := {}
def tpke_2r3a : State := ondB (ps false) fun b => { b with mp := { b.mp with reads := [pr1, pr2] } }
def tpke_2r3b : MemView := {}
def tpke_3a : State := ondB (ps true) fun b => { b with mp := {} }
def tpke_3b : MemView := {}
def tpke_5 : State := ondB S2 fun b => { b with graph := { b.graph with full := true } }
def tpke_6r2 : State := ondB S2 fun b => { b with graph := { b.graph with pgSize := 1, pgBase := 0x200000 } }
def tpke_6r3 : State := ondB S2 fun b => { b with graph := { b.graph with sweepBusy := true } }
def tpke_7 : MemView := {}
def tpke_7r2 : MemView := {}
def tpke_8 : State := sr fun b => { b with graph := { b.graph with sweepBusy := true, advNew := [(3, 8192)] } }
theorem witness_ThePagerKeepsEntries :
    -- 1
    S2.blk.mp.readFor (RPurpose.refill 0 0) = none
    -- 2
    ∧ (ps true).blk.mp.readFor (RPurpose.refill 65535 2) = some pr1
    ∧ ((ps true).blk.node 65535 2).used = true
    ∧ ((ps true).blk.node 65535 2).spilled = true
    ∧ Block.pagerIdle (ps true).params (ps true).blk 0
    ∧ (0 : BitVec 2) = (0 : BitVec 2)
    ∧ ((((have __src := (ps true).blk.mp; { reads := (ps true).blk.mp.reads.erase pr1, writes := __src.writes, heldReads := __src.heldReads, heldWrites := __src.heldWrites, opened := __src.opened, errAddr := __src.errAddr, errInfo := __src.errInfo : Mp }).promoteRead pr1.port).reads ++ ((have __src := (ps true).blk.mp; { reads := (ps true).blk.mp.reads.erase pr1, writes := __src.writes, heldReads := __src.heldReads, heldWrites := __src.heldWrites, opened := __src.opened, errAddr := __src.errAddr, errInfo := __src.errInfo : Mp }).promoteRead pr1.port).heldReads).any fun x => x.purpose == RPurpose.refill 65535 2) = false
    -- 2
    ∧ (ps true).blk.mp.readFor (RPurpose.refill 65535 2) = some pr1
    ∧ ((ps true).blk.node 65535 2).used = true
    ∧ ((ps true).blk.node 65535 2).spilled = true
    ∧ Block.pagerIdle (ps true).params (ps true).blk 0
    ∧ (2 : BitVec 2) ≠ (0 : BitVec 2)
    -- 2
    ∧ tpke_2r3a.blk.mp.readFor (RPurpose.refill 65535 2) = some pr1
    ∧ (tpke_2r3a.blk.node 65535 2).used = true
    ∧ (tpke_2r3a.blk.node 65535 2).spilled = true
    ∧ Block.pagerIdle tpke_2r3a.params tpke_2r3a.blk 0
    ∧ ((((have __src := tpke_2r3a.blk.mp; { reads := tpke_2r3a.blk.mp.reads.erase pr1, writes := __src.writes, heldReads := __src.heldReads, heldWrites := __src.heldWrites, opened := __src.opened, errAddr := __src.errAddr, errInfo := __src.errInfo : Mp }).promoteRead pr1.port).reads ++ ((have __src := tpke_2r3a.blk.mp; { reads := tpke_2r3a.blk.mp.reads.erase pr1, writes := __src.writes, heldReads := __src.heldReads, heldWrites := __src.heldWrites, opened := __src.opened, errAddr := __src.errAddr, errInfo := __src.errInfo : Mp }).promoteRead pr1.port).heldReads).any fun x => x.purpose == RPurpose.refill 65535 2) = true
    -- 3
    ∧ (tpke_3a.blk.sub 65535).live = true
    ∧ (tpke_3a.blk.sub 65535).abandoned = none
    ∧ (tpke_3a.blk.node 65535 2).used = true
    ∧ (tpke_3a.blk.node 65535 2).state = NodeState.ready
    ∧ (tpke_3a.blk.node 65535 2).spilled = true
    -- 4
    ∧ Block.pgCapacity pf.params pf.blk ≤ pf.blk.pgEntries
    ∧ pf.blk.graph.full = false
    -- 5
    ∧ tpke_5.blk.pgEntries < Block.pgCapacity tpke_5.params tpke_5.blk
    -- 6
    ∧ Performs S2 A0 Reg.pgCmd true
    ∧ S2.blk.graph.sweepBusy = false
    ∧ S2.blk.graph.pgSize = (0 : BitVec 32)
    ∧ S2.blk.graph.sweepBusy = false
    -- 6
    ∧ Performs tpke_6r2 A0 Reg.pgCmd true
    ∧ tpke_6r2.blk.graph.sweepBusy = false
    ∧ tpke_6r2.blk.graph.pgSize ≠ (0 : BitVec 32)
    -- 6
    ∧ Performs tpke_6r3 A0 Reg.pgCmd true
    ∧ tpke_6r3.blk.graph.sweepBusy = true
    -- 7
    ∧ List.find? (fun r => r.port == 63 && r.id == BitVec.toNat (9 : BitVec 8)) (sw 0 [0, 3]).blk.mp.reads
        = some { port := 63, id := 9, cls := 1, addr := 2097152, len := 64, purpose := RPurpose.sweep 0 : RReq }
    ∧ { port := 63, id := 9, cls := 1, addr := 2097152, len := 64, purpose := RPurpose.sweep 0 : RReq }.purpose = RPurpose.sweep 0
    ∧ (sw 0 [0, 3]).blk.graph.sweepBusy = true
    ∧ (sw 0 [0, 3]).blk.graph.sweepPos = 0
    ∧ 0 < (sw 0 [0, 3]).blk.pgUnits
    ∧ 0 + 1 < (sw 0 [0, 3]).blk.pgUnits
    ∧ ((sw 0 [0, 3]).blk.graph.staleSlots.any fun x => x / 2 == 0) = true
    -- 7
    ∧ List.find? (fun r => r.port == 63 && r.id == BitVec.toNat (9 : BitVec 8)) (sw 16383 []).blk.mp.reads
        = some { port := 63, id := 9, cls := 1, addr := 2097152, len := 64, purpose := RPurpose.sweep 16383 : RReq }
    ∧ { port := 63, id := 9, cls := 1, addr := 2097152, len := 64, purpose := RPurpose.sweep 16383 : RReq }.purpose = RPurpose.sweep 16383
    ∧ (sw 16383 []).blk.graph.sweepBusy = true
    ∧ (sw 16383 []).blk.graph.sweepPos = 16383
    ∧ 16383 < (sw 16383 []).blk.pgUnits
    ∧ ((sw 16383 []).blk.graph.staleSlots.any fun x => x / 2 == 16383) = false
    -- 8
    ∧ tpke_8.blk.graph.sweepBusy = true
    ∧ tpke_8.blk.pgUnits ≤ tpke_8.blk.graph.sweepPos
    ∧ (tpke_8.blk.mp.writesFor fun x => x == WPurpose.sweep) = false
    -- 9
    ∧ ((sw 0 [0, 3]).blk.graph.sweepPos < (sw 0 [0, 3]).blk.pgUnits ∨ ((sw 0 [0, 3]).blk.mp.writesFor fun x => x == WPurpose.sweep) = true)
    -- 10
    ∧ Performs S2 A0 Reg.pgCmd true := by
  refine ⟨?_, ?_, ?_, ?_, ?_, ?_, ?_, ?_, ?_, ?_, ?_, ?_, ?_, ?_, ?_, ?_, ?_, ?_, ?_, ?_, ?_, ?_, ?_, ?_, ?_,
    ?_, ?_, ?_, ?_, ?_, ?_, ?_, ?_, ?_, ?_, ?_, ?_, ?_, ?_, ?_, ?_, ?_, ?_, ?_, ?_, ?_, ?_, ?_, ?_, ?_, ?_,
    ?_⟩ <;>
    first | decide +kernel | (unfold Performs; decide +kernel) | (unfold Block.pagerIdle; decide +kernel)
theorem witness_FenceCommands :
    -- 1
    Performs S2 A0 Reg.fncCmd true
    ∧ (S2.blk.fence (-1 : BitVec 16).toNat).state = FState.free
    ∧ (S2.blk.ctx (BitVec.toNat (5 : BitVec 10))).state ≠ CState.free
    -- 1
    ∧ Performs S2 A0 Reg.fncCmd true
    ∧ ((S2.blk.fence (-1 : BitVec 16).toNat).state ≠ FState.free ∨ (S2.blk.ctx (BitVec.toNat (6 : BitVec 10))).state = CState.free)
    -- 2
    ∧ Performs fp A0 Reg.fncCmd true
    ∧ (fp.blk.fence (-1 : BitVec 16).toNat).state ≠ FState.free
    ∧ fp.blk.fences.waiters (-1 : BitVec 16).toNat = 0
    -- 2
    ∧ Performs S2 A0 Reg.fncCmd true
    ∧ ((S2.blk.fence (-1 : BitVec 16).toNat).state
        = FState.free ∨ S2.blk.fences.waiters (-1 : BitVec 16).toNat ≠ 0)
    -- 3
    ∧ Performs fp A0 Reg.fncCmd true
    ∧ (fp.blk.fence (-1 : BitVec 16).toNat).state = FState.poisoned
    ∧ fp.blk.fences.waiters (-1 : BitVec 16).toNat = 0
    -- 3
    ∧ Performs S2 A0 Reg.fncCmd true
    ∧ ((S2.blk.fence (-1 : BitVec 16).toNat).state ≠ FState.poisoned ∨ S2.blk.fences.waiters (-1 : BitVec 16).toNat ≠ 0)
    -- 4
    ∧ Performs S2 A0 Reg.fncCmd true
    -- 5
    ∧ Performs S2 A0 Reg.fncCmd true
    ∧ ((5 : BitVec 4) = (0 : BitVec 4) ∨ 5 ≤ BitVec.toNat (5 : BitVec 4)) := by
  refine ⟨?_, ?_, ?_, ?_, ?_, ?_, ?_, ?_, ?_, ?_, ?_, ?_, ?_, ?_, ?_, ?_, ?_, ?_⟩ <;>
    first | decide +kernel | (unfold Performs; decide +kernel)
end Nodes

namespace Records
def NR (w0 w1 w2 w3 : Word) : Rec := nodeRec S2.params 15 4095 7 [w0, w1, w2, w3]
def DR (g k : Nat) : Rec := decRec S2.params 15 4095 g k
def FR (g : Nat) (st : Status) : Rec := fenceRec S2.params 15 4095 g st
def CR (g : Nat) (st : Status) : Rec := cplRec S2.params 15 4095 g st
def wn (f : WinEntry → WinEntry) : State := sr fun b => (subB b 9 id).modWin 15 4095 fun e => f { e with used := true, gen := 7, seg := 9, record := List.replicate 8 0, param := List.replicate 8 0 }
def ir : RReq := ⟨15, 3, 0, 0x100, 8, .indirect 15 4095 7 5⟩
def wi (f : WinEntry → WinEntry) : State := ondB (wn f) fun b => { b with mp := { b.mp with reads := [ir] } }
def tl (k : Nat) : List Word := [0,0,0,0,0,0,BitVec.ofNat 64 (2^63 + k),0]
def wt5 : State := ondB (wn fun e => { e with state := .issued, param := tl 65536 }) fun b => b.modTile 15 3 fun _ =>
  { used := true, win := 4095, n := 65536, next := 65536, done := 65536, failed := Status.poisoned }
def full15 (s : State) : State := ondB s fun b => b.modLane 7 fun l => { l with bead := { l.bead with queue := List.replicate 16 { bits := 6 } } }
def w7 (es : List Nat) : State := ondB (wn fun e => { e with state := .leaving, released := true, final := Status.mismatch, edges := es }) fun b =>
  (List.range 40).foldl (fun b k => b.modWin 15 k fun e => { e with used := true, count := if k = 31 then 1 else 2, tolerant := k % 2 = 1 }) b
def w8 (bk : List (Nat × Nat × Status × Nat)) : State := ondB (w7 []) fun b => (b.modBead 15 fun d => { d with bank := bk })
def slotsB (b : Block) : Block := b.modSlot 15 39 fun x => { x with cfg := { enabled := true, cls := 0, part := 0 } }
def i1 (f : WinEntry → WinEntry) : State := ondB (wn fun e => f { e with state := .wready, order := 3 }) fun b => (slotsB b).modWin 15 7 fun e => { e with used := true, state := .wready, kind := 1, order := 1 }
def i1t (k : Nat) (f : Bead → Bead) : State := ondB (i1 fun e => { e with param := tl k }) fun b => b.modBead 15 f
def i1u (y : Tile) : State := i1t 65536 fun d => { d with tiles := [(3, y)] }
def ty1 : Tile := { used := true, win := 4095, n := 65536, next := 65535, done := 7 }
def w3 : State := wn fun e => { e with state := .wready, cls := 1 }
def rg (t : Nat) : State := sr fun b => { b.modBead 15 fun d => { d with buckets := [⟨0, 100, 5, 4⟩] } with now := t }
def cw (f : CWin → CWin) : State := ondB (nd 0 fun n => { n with state := .forwarded, win := 4095, gen := 7, bead := some 15 }) fun b => b.modCwin 15 4095 fun c => f { c with gen := 7 }
def cwh : State := cw fun c => { c with holder := some (65535, 2) }
def cps (s : State) : State := ondB s fun b => b.modNode 65535 2 fun n => { n with spilled := true, slots := [0] }
def cwx (f : Sub → Sub) : State := ondB cwh fun b => { ((b.modNode 65535 2 fun n => { n with kind := 2 }).modSub 65535 fun x => f { x with contribs := [(2, { used := true, left := 1 })] }) with
  setting := { b.setting with experts := some { nexperts := 4, interval := 10, replicaSlots := 0 } }, experts := { b.experts with enable := true, perStep := 3 } }
def mTr : MemView := { words := [(0x10118, 0x30000), (0x30000, 0x10000)] }
def rt : State := sr fun b => subB b 65535 fun x => { x with nreleased := 5, beads := [15] }
def ct : State := ondB rt fun b => { b with graph := { b.graph with ctrDue := [(15, (65535, 2))] } }
def ld (ph : LoadPhase) (st : SetState) : State := onUp 15 (setrRec S2.params 15 Status.ok) (sr fun b => { b with loader := { b.loader with state := st, phase := ph, targets := [14, 15], awaited := [(15, 3, 64)], next := b.setting } })
def ldf : State := onUp 15 (setrRec S2.params 15 Status.ecc) (sr fun b => { b with loader := { b.loader with state := .loading, phase := .sections, targets := [14, 15], awaited := [(14, 3, 64), (15, 3, 64)] } })
def fz : State := sr fun b => b.modLane 7 fun l => { l with clasp := { l.clasp with phase := 2 } }
def pf0 : State := { S2 with params := { S2.params with nodeCache := 0 }, blk := { bRun with graph := { full := true } } }
def pf1 : State := { pf0 with blk := { pf0.blk with graph := {} } }
def sp : State := ondB (nd 2 fun n => { n with state := .forwarded, win := 4095, gen := 7, bead := some 15 }) fun b => slotsB ({ b with setting := { b.setting with slotmap := [(15, (List.range 40).map fun i => { enabled := i == 39, cls := 0, part := 0 })] } }.modCwin 15 4095 fun c => { c with gen := 7, holder := some (65535, 2) })
def spw0 : Word := 0x0000000000000000 + 65535
def spw1 : Word := 0x0000000200000000
def spx (s : State) (w0 w2 w3 : Word) (i : Nat) : Node := s.blk.placed s.params (s.blk.sub 65535) { nodeOfEntry w0 w2 w3 with parent := some 2 } i ((tget none (s.blk.sub 65535).affs i).getD 0) (recBead {} (fld w2 55 0))
def sp1 : State := onUp 15 (spawnRec S2.params 15 4095 [spw0, spw1, 0x20000, 0]) sp
def sp2 : State := ondB sp1 fun b => b.modLane 7 fun l => { l with timeSent := false }
def nratb_2a : State := onDn 15 (NR 0x4000000000000001 1 2 3) (wn fun e => { e with forms := 1 })
def nratb_2b : Block := rD 15 (NR 0x4000000000000001 1 2 3) (onDn 15 (NR 0x4000000000000001 1 2 3) (wn fun e => { e with forms := 1 }))
def nratb_4a : State := onDn 15 (DR 7 4) (wn fun e => { e with count := 5 })
def nratb_4b : Block := rD 15 (DR 7 4) (onDn 15 (DR 7 4) (wn fun e => { e with count := 5 }))
def nratb_5a : State := onDn 15 (DR 7 5) (wn fun e => { e with count := 5 })
def nratb_5b : Block := rD 15 (DR 7 5) (onDn 15 (DR 7 5) (wn fun e => { e with count := 5 }))
def nratb_6a : State := onDn 15 (FR 7 0x10) (wn fun e => { e with count := 5 })
def nratb_6b : Block := rD 15 (FR 7 0x10) (onDn 15 (FR 7 0x10) (wn fun e => { e with count := 5 }))
def nratb_7a : State := onDn 15 (FR 7 Status.aborted) (wn fun e => { e with count := 5 })
def nratb_7b : Block := rD 15 (FR 7 Status.aborted) (onDn 15 (FR 7 Status.aborted) (wn fun e => { e with count := 5 }))
theorem witness_NodeRecordsAtTheBead :
    -- 1
    ActsAtBead (onDn 15 (NR (2251799814012931 : Word) (0 : Word) (65792 : Word) (65856 : Word)) S2).params (onDn 15 (NR (2251799814012931 : Word) (0 : Word) (65792 : Word) (65856 : Word)) S2).blk 15 (nodeRec (onDn 15 (NR (2251799814012931 : Word) (0 : Word) (65792 : Word) (65856 : Word)) S2).params 15 (-1 : BitVec 12).toNat (BitVec.toNat (7 : BitVec 16)) [(2251799814012931 : Word), (0 : Word), (65792 : Word), (65856 : Word)]) (rD 15 (NR (2251799814012931 : Word) (0 : Word) (65792 : Word) (65856 : Word)) (onDn 15 (NR (2251799814012931 : Word) (0 : Word) (65792 : Word) (65856 : Word)) S2))
    ∧ fld (2251799814012931 : Word) 63 62 = 0
    ∧ (fld (2251799814012931 : Word) 31 16 = 0 → fld (2251799814012931 : Word) 45 40
        = 0 ∨ fld (2251799814012931 : Word) 61 58 = 1 ∨ fld (65856 : Word) 55 0 ≠ 0)
    ∧ ((onDn 15 (NR (2251799814012931 : Word) (0 : Word) (65792 : Word) (65856 : Word)) S2).blk.bead 15).det = false
    -- 2
    ∧ ActsAtBead nratb_2a.params nratb_2a.blk 15 (nodeRec nratb_2a.params 15 (-1 : BitVec 12).toNat (BitVec.toNat (7 : BitVec 16)) [(4611686018427387905 : Word), (1 : Word), (2 : Word), (3 : Word)]) nratb_2b
    ∧ fld (4611686018427387905 : Word) 63 62 = 1
    ∧ (nratb_2a.blk.win 15 (-1 : BitVec 12).toNat).used = true
    ∧ (nratb_2a.blk.win 15 (-1 : BitVec 12).toNat).gen = BitVec.toNat (7 : BitVec 16)
    -- 3
    ∧ ActsAtBead (onDn 15 (DR 8 1) (wn id)).params (onDn 15 (DR 8 1) (wn id)).blk 15 (decRec (onDn 15 (DR 8 1) (wn id)).params 15 (-1 : BitVec 12).toNat (BitVec.toNat (8 : BitVec 16)) (BitVec.toNat (1 : BitVec 16))) (rD 15 (DR 8 1) (onDn 15 (DR 8 1) (wn id)))
    ∧ (((onDn 15 (DR 8 1) (wn id)).blk.win 15 (-1 : BitVec 12).toNat).used
        = false ∨ ((onDn 15 (DR 8 1) (wn id)).blk.win 15 (-1 : BitVec 12).toNat).gen ≠ BitVec.toNat (8 : BitVec 16))
    -- 4
    ∧ ActsAtBead nratb_4a.params nratb_4a.blk 15 (decRec nratb_4a.params 15 (-1 : BitVec 12).toNat (BitVec.toNat (7 : BitVec 16)) (BitVec.toNat (4 : BitVec 16))) nratb_4b
    ∧ (nratb_4a.blk.win 15 (-1 : BitVec 12).toNat).used = true
    ∧ (nratb_4a.blk.win 15 (-1 : BitVec 12).toNat).gen = BitVec.toNat (7 : BitVec 16)
    ∧ (nratb_4a.blk.win 15 (-1 : BitVec 12).toNat).state ≠ WinState.leaving
    ∧ (4 : BitVec 16) ≠ (0 : BitVec 16)
    ∧ BitVec.toNat (4 : BitVec 16) < (nratb_4a.blk.win 15 (-1 : BitVec 12).toNat).count
    -- 5
    ∧ ActsAtBead nratb_5a.params nratb_5a.blk 15 (decRec nratb_5a.params 15 (-1 : BitVec 12).toNat (BitVec.toNat (7 : BitVec 16)) (BitVec.toNat (5 : BitVec 16))) nratb_5b
    ∧ (nratb_5a.blk.win 15 (-1 : BitVec 12).toNat).used = true
    ∧ (nratb_5a.blk.win 15 (-1 : BitVec 12).toNat).gen = BitVec.toNat (7 : BitVec 16)
    ∧ (nratb_5a.blk.win 15 (-1 : BitVec 12).toNat).state ≠ WinState.leaving
    ∧ (5 : BitVec 16) ≠ (0 : BitVec 16)
    ∧ BitVec.toNat (5 : BitVec 16) = (nratb_5a.blk.win 15 (-1 : BitVec 12).toNat).count
    ∧ isFailure (nratb_5a.blk.win 15 (-1 : BitVec 12).toNat).pstatus = false
    ∧ (nratb_5a.blk.win 15 (-1 : BitVec 12).toNat).indirect = 0
    -- 6
    ∧ ActsAtBead nratb_6a.params nratb_6a.blk 15 (fenceRec nratb_6a.params 15 (-1 : BitVec 12).toNat (BitVec.toNat (7 : BitVec 16)) (16 : Status)) nratb_6b
    ∧ (nratb_6a.blk.win 15 (-1 : BitVec 12).toNat).used = true
    ∧ (nratb_6a.blk.win 15 (-1 : BitVec 12).toNat).gen = BitVec.toNat (7 : BitVec 16)
    ∧ (nratb_6a.blk.win 15 (-1 : BitVec 12).toNat).state ≠ WinState.leaving
    ∧ (16 : Status) ≠ Status.aborted
    -- 7
    ∧ ActsAtBead nratb_7a.params nratb_7a.blk 15 (fenceRec nratb_7a.params 15 (-1 : BitVec 12).toNat (BitVec.toNat (7 : BitVec 16)) Status.aborted) nratb_7b
    ∧ (nratb_7a.blk.win 15 (-1 : BitVec 12).toNat).used = true
    ∧ (nratb_7a.blk.win 15 (-1 : BitVec 12).toNat).gen = BitVec.toNat (7 : BitVec 16)
    ∧ ((nratb_7a.blk.win 15 (-1 : BitVec 12).toNat).state
        = WinState.window ∨ (nratb_7a.blk.win 15 (-1 : BitVec 12).toNat).state = WinState.wready)
    ∧ (nratb_7a.blk.bead 15).tileOf (-1 : BitVec 12).toNat = none
    ∧ (nratb_7a.blk.win 15 (-1 : BitVec 12).toNat).eccBad = false := by
  refine ⟨?_, ?_, ?_, ?_, ?_, ?_, ?_, ?_, ?_, ?_, ?_, ?_, ?_, ?_, ?_, ?_, ?_, ?_, ?_, ?_, ?_, ?_, ?_, ?_, ?_,
    ?_, ?_, ?_, ?_, ?_, ?_, ?_, ?_, ?_, ?_⟩ <;>
    first | decide +kernel | (unfold ActsAtBead; decide +kernel)
def nltw_1 : State := wn fun e => { e with kind := 1, state := .wready }
def nltw_2 : State := wi fun e => { e with indirectDue := [5], indirect := 0x20 }
def nltw_3 : State := wi fun e => { e with indirectDue := [5], indirect := 0x20, indirectAsked := true, state := .wready }
def nltw_4 : State := wn fun e => { e with state := .wready, param := tl 0 }
def nltw_6 : State := wn fun e => { e with state := .leaving, released := true, final := Status.mismatch }
def nltw_6r2 : State := full15 (wn fun e => { e with state := .leaving, released := true, final := Status.mismatch })
theorem witness_NodesLeaveTheirWindow :
    -- 1
    (nltw_1.blk.win 15 (-1 : BitVec 12).toNat).used = true
    ∧ (nltw_1.blk.win 15 (-1 : BitVec 12).toNat).kind = 1
    ∧ (nltw_1.blk.win 15 (-1 : BitVec 12).toNat).state = WinState.wready
    ∧ (nltw_1.blk.win 15 (-1 : BitVec 12).toNat).broken = false
    ∧ (nltw_1.blk.bead 15).fencedOff = false
    ∧ (nltw_1.blk.bead 15).tileOf (-1 : BitVec 12).toNat = none
    ∧ (nltw_1.blk.win 15 (-1 : BitVec 12).toNat).eccBad = false
    -- 2
    ∧ List.find? (fun x => x.purpose == RPurpose.indirect 15 (-1 : BitVec 12).toNat (nltw_2.blk.win 15 (-1 : BitVec 12).toNat).gen 5) nltw_2.blk.mp.reads = some ir
    ∧ (nltw_2.blk.win 15 (-1 : BitVec 12).toNat).used = true
    ∧ 5 ∈ (nltw_2.blk.win 15 (-1 : BitVec 12).toNat).indirectDue
    ∧ (nltw_2.blk.win 15 (-1 : BitVec 12).toNat).indirectAsked = false
    -- 3
    ∧ List.find? (fun x => x.purpose == RPurpose.indirect 15 (-1 : BitVec 12).toNat (nltw_3.blk.win 15 (-1 : BitVec 12).toNat).gen 5) nltw_3.blk.mp.reads = some ir
    ∧ (nltw_3.blk.win 15 (-1 : BitVec 12).toNat).used = true
    ∧ (nltw_3.blk.win 15 (-1 : BitVec 12).toNat).indirectDue = [5]
    ∧ 5 < 6
    ∧ (1 : BitVec 2) ≠ (0 : BitVec 2)
    ∧ (nltw_3.blk.win 15 (-1 : BitVec 12).toNat).indirectAsked = true
    ∧ (nltw_3.blk.win 15 (-1 : BitVec 12).toNat).state = WinState.wready
    ∧ (nltw_3.blk.win 15 (-1 : BitVec 12).toNat).indirectFail = []
    ∧ (nltw_3.blk.bead 15).tileOf (-1 : BitVec 12).toNat = none
    ∧ (nltw_3.blk.win 15 (-1 : BitVec 12).toNat).eccBad = false
    -- 4
    ∧ (nltw_4.blk.win 15 (-1 : BitVec 12).toNat).used = true
    ∧ (nltw_4.blk.bead 15).fencedOff = false
    ∧ (nltw_4.blk.win 15 (-1 : BitVec 12).toNat).state = WinState.wready
    ∧ (nltw_4.blk.win 15 (-1 : BitVec 12).toNat).tiles = some 0
    ∧ (nltw_4.blk.bead 15).tileOf (-1 : BitVec 12).toNat = none
    ∧ (nltw_4.blk.win 15 (-1 : BitVec 12).toNat).readsDone = true
    ∧ (nltw_4.blk.win 15 (-1 : BitVec 12).toNat).broken = false
    ∧ (nltw_4.blk.win 15 (-1 : BitVec 12).toNat).eccBad = false
    -- 5
    ∧ (wt5.blk.win 15 (-1 : BitVec 12).toNat).used = true
    ∧ (wt5.blk.bead 15).fencedOff = false
    ∧ ((wt5.blk.win 15 (-1 : BitVec 12).toNat).state
        = WinState.wready ∨ (wt5.blk.win 15 (-1 : BitVec 12).toNat).state = WinState.issued)
    ∧ (wt5.blk.win 15 (-1 : BitVec 12).toNat).tiles = some 65536
    ∧ (wt5.blk.bead 15).tileOf (-1 : BitVec 12).toNat
        = some (3, { used := true, win := 4095, n := 65536, next := 65536, done := 65536, failed := Status.poisoned : Tile })
    ∧ { used := true, win := 4095, n := 65536, next := 65536, done := 65536, failed := Status.poisoned : Tile }.back = []
    ∧ { used := true, win := 4095, n := 65536, next := 65536, done := 65536, failed := Status.poisoned : Tile }.next = 65536
    ∧ { used := true, win := 4095, n := 65536, next := 65536, done := 65536, failed := Status.poisoned : Tile }.done = 65536
    ∧ (wt5.blk.bead 15).presents (-1 : BitVec 12).toNat = false
    ∧ (wt5.blk.win 15 (-1 : BitVec 12).toNat).eccBad = false
    -- 6
    ∧ (nltw_6.blk.win 15 (-1 : BitVec 12).toNat).used = true
    ∧ (nltw_6.blk.win 15 (-1 : BitVec 12).toNat).state = WinState.leaving
    ∧ (nltw_6.blk.win 15 (-1 : BitVec 12).toNat).forms = 0
    ∧ (nltw_6.blk.bead 15).bank = []
    ∧ Block.roomUp nltw_6.params nltw_6.blk 15 = true
    ∧ (-1 : BitVec 12).toNat ∉ (nltw_6.blk.win 15 (-1 : BitVec 12).toNat).edges
    ∧ (∀ x ∈ (nltw_6.blk.win 15 (-1 : BitVec 12).toNat).edges, nltw_6.blk.lowers 15 x)
    -- 6
    ∧ (nltw_6r2.blk.win 15 (-1 : BitVec 12).toNat).used = true
    ∧ (nltw_6r2.blk.win 15 (-1 : BitVec 12).toNat).state = WinState.leaving
    ∧ (nltw_6r2.blk.win 15 (-1 : BitVec 12).toNat).forms = 0
    ∧ (nltw_6r2.blk.bead 15).bank = []
    ∧ Block.roomUp nltw_6r2.params nltw_6r2.blk 15 = false
    -- 6
    ∧ ((w7 [3, 31, 35, 3, 30]).blk.win 15 (-1 : BitVec 12).toNat).used = true
    ∧ ((w7 [3, 31, 35, 3, 30]).blk.win 15 (-1 : BitVec 12).toNat).state = WinState.leaving
    ∧ ((w7 [3, 31, 35, 3, 30]).blk.win 15 (-1 : BitVec 12).toNat).forms = 0
    ∧ ((w7 [3, 31, 35, 3, 30]).blk.bead 15).bank = []
    ∧ Block.roomUp (w7 [3, 31, 35, 3, 30]).params (w7 [3, 31, 35, 3, 30]).blk 15 = true
    ∧ (-1 : BitVec 12).toNat ∉ ((w7 [3, 31, 35, 3, 30]).blk.win 15 (-1 : BitVec 12).toNat).edges
    ∧ (∀ x ∈ ((w7 [3, 31, 35, 3, 30]).blk.win 15 (-1 : BitVec 12).toNat).edges, (w7 [3, 31, 35, 3, 30]).blk.lowers 15 x)
    -- 7
    ∧ List.find? (fun t => t.2.1 % 32 == BitVec.toNat (3 : BitVec 5)) ((w8 [(4095, 3, Status.poisoned, 5)]).blk.bead 15).bank = some (4095, 3, Status.poisoned, 5)
    ∧ (∀ t ∈ ((w8 [(4095, 3, Status.poisoned, 5)]).blk.bead 15).bank.erase (4095, 3, Status.poisoned, 5), t.1 ≠ 4095)
    ∧ ((∀ t ∈ ((w8 [(4095, 3, Status.poisoned, 5)]).blk.bead 15).bank.erase (4095, 3, Status.poisoned, 5), t.1 ≠ 4095) → Block.roomUp (w8 [(4095, 3, Status.poisoned, 5)]).params (w8 [(4095, 3, Status.poisoned, 5)]).blk 15 = true)
    ∧ 3 ≠ 4095
    ∧ (w8 [(4095, 3, Status.poisoned, 5)]).blk.lowers 15 3
    ∧ (∀ t ∈ ((w8 [(4095, 3, Status.poisoned, 5)]).blk.bead 15).bank.erase (4095, 3, Status.poisoned, 5), t.1 ≠ 4095)
    -- 7
    ∧ List.find? (fun t => t.2.1 % 32 == BitVec.toNat (3 : BitVec 5)) ((full15 (w8 [(4095, 3, Status.poisoned, 5)])).blk.bead 15).bank = some (4095, 3, Status.poisoned, 5)
    ∧ (∀ t ∈ ((full15 (w8 [(4095, 3, Status.poisoned, 5)])).blk.bead 15).bank.erase (4095, 3, Status.poisoned, 5), t.1 ≠ 4095)
    ∧ Block.roomUp (full15 (w8 [(4095, 3, Status.poisoned, 5)])).params (full15 (w8 [(4095, 3, Status.poisoned, 5)])).blk 15 = false
    -- 7
    ∧ List.find? (fun t => t.2.1 % 32 == (-1 : BitVec 5).toNat) ((w8 [(4095, 31, Status.ok, 5), (4095, 3, Status.poisoned, 6)]).blk.bead 15).bank = some (4095, 31, Status.ok, 5)
    ∧ ((∀ t ∈ ((w8 [(4095, 31, Status.ok, 5), (4095, 3, Status.poisoned, 6)]).blk.bead 15).bank.erase (4095, 31, Status.ok, 5), t.1 ≠ 4095) → Block.roomUp (w8 [(4095, 31, Status.ok, 5), (4095, 3, Status.poisoned, 6)]).params (w8 [(4095, 31, Status.ok, 5), (4095, 3, Status.poisoned, 6)]).blk 15 = true)
    ∧ 31 ≠ 4095
    ∧ (w8 [(4095, 31, Status.ok, 5), (4095, 3, Status.poisoned, 6)]).blk.lowers 15 31
    ∧ (¬∀ t ∈ ((w8 [(4095, 31, Status.ok, 5), (4095, 3, Status.poisoned, 6)]).blk.bead 15).bank.erase (4095, 31, Status.ok, 5), t.1 ≠ 4095) := by
  refine ⟨?_, ?_, ?_, ?_, ?_, ?_, ?_, ?_, ?_, ?_, ?_, ?_, ?_, ?_, ?_, ?_, ?_, ?_, ?_, ?_, ?_, ?_, ?_, ?_, ?_,
    ?_, ?_, ?_, ?_, ?_, ?_, ?_, ?_, ?_, ?_, ?_, ?_, ?_, ?_, ?_, ?_, ?_, ?_, ?_, ?_, ?_, ?_, ?_, ?_, ?_, ?_,
    ?_, ?_, ?_, ?_, ?_, ?_, ?_, ?_, ?_, ?_, ?_, ?_, ?_, ?_, ?_, ?_, ?_, ?_, ?_, ?_, ?_⟩ <;>
    first | decide +kernel | (simp only [Block.lowers]; decide +kernel)
def tenii_1 : State := sr fun b => b.modBead 15 fun d => { d with fencedOff := true }
def tenii_2_2 : State := i1 (fun e => { e with kind := 2 })
def tenii_4r2 : State := ondB (rg 64) fun b => { b with refilled := 64 }
theorem witness_TheEarliestNodeIsIssued :
    -- 1
    (tenii_1.blk.bead 15).fencedOff = true
    -- 2.1
    ∧ ((i1 id).blk.bead 15).fencedOff = false
    ∧ ((i1 id).blk.bead 15).mode = StopMode.run
    ∧ ((i1 id).blk.dom (9 + 2 * 15)).state = DState.on
    ∧ Tab.wf { : WinEntry } ((i1 id).blk.bead 15).win = true
    ∧ (∀ (v : Nat), ((i1 id).blk.win 15 v).used = true → ((i1 id).blk.win 15 v).engine = true
        → ((i1 id).blk.win 15 v).state = WinState.window ∨ ((i1 id).blk.win 15 v).state = WinState.wready
        → Block.slotLost (i1 id).params (i1 id).blk 15 v = false)
    ∧ Block.selectable (i1 id).params (regulatorRefill (i1 id).blk) 15 4095 = true
    ∧ (∀ (v : Nat), v ≠ 4095 → Block.selectable (i1 id).params (regulatorRefill (i1 id).blk) 15 v = true
        → (i1 id).blk.winUrgent 15 4095 = true ∧ (i1 id).blk.winUrgent 15 v
        = false ∨ (i1 id).blk.winUrgent 15 4095 = (i1 id).blk.winUrgent 15 v
        ∧ ((i1 id).blk.win 15 4095).order < ((i1 id).blk.win 15 v).order)
    ∧ ((i1 id).blk.win 15 4095).kind ≠ 2
    ∧ Block.chooseSlot (i1 id).params (i1 id).blk 15 4095 = some 39
    ∧ ((i1 id).blk.win 15 4095).tiles = none
    ∧ (∀ (j : Nat), j ≠ 39 → ((i1 id).blk.slot 15 j).cfg.enabled = true → (i1 id).blk.canTake 15 j = false)
    ∧ (∀ (j : Nat), j ≠ 39 → ((i1 id).blk.slot 15 j).cfg.enabled = true → (i1 id).blk.canTake 15 j = false)
    ∧ (∀ (j : Nat), j ≠ 39 → ((i1 id).blk.slot 15 j).cfg.enabled = true → (i1 id).blk.canTake 15 j = false)
    ∧ ((i1 id).blk.win 15 4095).piece = false
    -- 2.1
    ∧ ((i1t 1 id).blk.bead 15).fencedOff = false
    ∧ ((i1t 1 id).blk.bead 15).mode = StopMode.run
    ∧ ((i1t 1 id).blk.dom (9 + 2 * 15)).state = DState.on
    ∧ Tab.wf { : WinEntry } ((i1t 1 id).blk.bead 15).win = true
    ∧ (∀ (v : Nat), ((i1t 1 id).blk.win 15 v).used = true → ((i1t 1 id).blk.win 15 v).engine = true
        → ((i1t 1 id).blk.win 15 v).state = WinState.window ∨ ((i1t 1 id).blk.win 15 v).state
        = WinState.wready → Block.slotLost (i1t 1 id).params (i1t 1 id).blk 15 v = false)
    ∧ Block.selectable (i1t 1 id).params (regulatorRefill (i1t 1 id).blk) 15 4095 = true
    ∧ (∀ (v : Nat), v ≠ 4095 → Block.selectable (i1t 1 id).params (regulatorRefill (i1t 1 id).blk) 15 v
        = true → (i1t 1 id).blk.winUrgent 15 4095 = true ∧ (i1t 1 id).blk.winUrgent 15 v
        = false ∨ (i1t 1 id).blk.winUrgent 15 4095 = (i1t 1 id).blk.winUrgent 15 v
        ∧ ((i1t 1 id).blk.win 15 4095).order < ((i1t 1 id).blk.win 15 v).order)
    ∧ ((i1t 1 id).blk.win 15 4095).kind ≠ 2
    ∧ Block.chooseSlot (i1t 1 id).params (i1t 1 id).blk 15 4095 = some 39
    ∧ (∀ (j : Nat), j ≠ 39 → ((i1t 1 id).blk.slot 15 j).cfg.enabled = true → (i1t 1 id).blk.canTake 15 j
        = false)
    ∧ ((i1t 1 id).blk.win 15 4095).tiles.isSome = true
    ∧ ((i1t 1 id).blk.bead 15).tileOf 4095 = none
    ∧ Tab.wf { : Tile } ((i1t 1 id).blk.bead 15).tiles = true
    -- 2.1.5
    ∧ ((i1t 1 id).blk.bead 15).fencedOff = false
    ∧ ((i1t 1 id).blk.bead 15).mode = StopMode.run
    ∧ ((i1t 1 id).blk.dom (9 + 2 * 15)).state = DState.on
    ∧ Tab.wf { : WinEntry } ((i1t 1 id).blk.bead 15).win = true
    ∧ (∀ (v : Nat), ((i1t 1 id).blk.win 15 v).used = true → ((i1t 1 id).blk.win 15 v).engine = true
        → ((i1t 1 id).blk.win 15 v).state = WinState.window ∨ ((i1t 1 id).blk.win 15 v).state
        = WinState.wready → Block.slotLost (i1t 1 id).params (i1t 1 id).blk 15 v = false)
    ∧ Block.selectable (i1t 1 id).params (regulatorRefill (i1t 1 id).blk) 15 4095 = true
    ∧ (∀ (v : Nat), v ≠ 4095 → Block.selectable (i1t 1 id).params (regulatorRefill (i1t 1 id).blk) 15 v
        = true → (i1t 1 id).blk.winUrgent 15 4095 = true ∧ (i1t 1 id).blk.winUrgent 15 v
        = false ∨ (i1t 1 id).blk.winUrgent 15 4095 = (i1t 1 id).blk.winUrgent 15 v
        ∧ ((i1t 1 id).blk.win 15 4095).order < ((i1t 1 id).blk.win 15 v).order)
    ∧ ((i1t 1 id).blk.win 15 4095).kind ≠ 2
    ∧ Block.chooseSlot (i1t 1 id).params (i1t 1 id).blk 15 4095 = some 39
    ∧ (∀ (j : Nat), j ≠ 39 → ((i1t 1 id).blk.slot 15 j).cfg.enabled = true → (i1t 1 id).blk.canTake 15 j
        = false)
    ∧ ((i1t 1 id).blk.win 15 4095).tiles = some 1
    ∧ ((i1t 1 id).blk.bead 15).tileOf 4095 = none
    ∧ Tab.wf { : Tile } ((i1t 1 id).blk.bead 15).tiles = true
    -- 2.1.6
    ∧ ((i1u ty1).blk.bead 15).fencedOff = false
    ∧ ((i1u ty1).blk.bead 15).mode = StopMode.run
    ∧ ((i1u ty1).blk.dom (9 + 2 * 15)).state = DState.on
    ∧ Tab.wf { : WinEntry } ((i1u ty1).blk.bead 15).win = true
    ∧ (∀ (v : Nat), ((i1u ty1).blk.win 15 v).used = true → ((i1u ty1).blk.win 15 v).engine = true
        → ((i1u ty1).blk.win 15 v).state = WinState.window ∨ ((i1u ty1).blk.win 15 v).state
        = WinState.wready → Block.slotLost (i1u ty1).params (i1u ty1).blk 15 v = false)
    ∧ Block.selectable (i1u ty1).params (regulatorRefill (i1u ty1).blk) 15 4095 = true
    ∧ (∀ (v : Nat), v ≠ 4095 → Block.selectable (i1u ty1).params (regulatorRefill (i1u ty1).blk) 15 v
        = true → (i1u ty1).blk.winUrgent 15 4095 = true ∧ (i1u ty1).blk.winUrgent 15 v
        = false ∨ (i1u ty1).blk.winUrgent 15 4095 = (i1u ty1).blk.winUrgent 15 v
        ∧ ((i1u ty1).blk.win 15 4095).order < ((i1u ty1).blk.win 15 v).order)
    ∧ ((i1u ty1).blk.win 15 4095).kind ≠ 2
    ∧ Block.chooseSlot (i1u ty1).params (i1u ty1).blk 15 4095 = some 39
    ∧ (∀ (j : Nat), j ≠ 39 → ((i1u ty1).blk.slot 15 j).cfg.enabled = true → (i1u ty1).blk.canTake 15 j = false)
    ∧ ((i1u ty1).blk.win 15 4095).tiles = some 65536
    ∧ ((i1u ty1).blk.bead 15).tileOf 4095 = some (3, ty1)
    ∧ Tab.wf { : Tile } ((i1u ty1).blk.bead 15).tiles = true
    -- 2.2
    ∧ (tenii_2_2.blk.bead 15).fencedOff = false
    ∧ (tenii_2_2.blk.bead 15).mode = StopMode.run
    ∧ (tenii_2_2.blk.dom (9 + 2 * 15)).state = DState.on
    ∧ Tab.wf { : WinEntry } (tenii_2_2.blk.bead 15).win = true
    ∧ (∀ (v : Nat), (tenii_2_2.blk.win 15 v).used = true → (tenii_2_2.blk.win 15 v).engine = true
        → (tenii_2_2.blk.win 15 v).state = WinState.window ∨ (tenii_2_2.blk.win 15 v).state
        = WinState.wready → Block.slotLost tenii_2_2.params tenii_2_2.blk 15 v = false)
    ∧ Block.selectable tenii_2_2.params (regulatorRefill tenii_2_2.blk) 15 4095 = true
    ∧ (∀ (v : Nat), v ≠ 4095 → Block.selectable tenii_2_2.params (regulatorRefill tenii_2_2.blk) 15 v
        = true → tenii_2_2.blk.winUrgent 15 4095 = true ∧ tenii_2_2.blk.winUrgent 15 v
        = false ∨ tenii_2_2.blk.winUrgent 15 4095 = tenii_2_2.blk.winUrgent 15 v
        ∧ (tenii_2_2.blk.win 15 4095).order < (tenii_2_2.blk.win 15 v).order)
    ∧ (tenii_2_2.blk.win 15 4095).kind = 2
    ∧ (tenii_2_2.blk.win 15 4095).piece = false
    -- 3
    ∧ (w3.blk.bead 15).fencedOff = false
    ∧ (w3.blk.win 15 4095).used = true
    ∧ (w3.blk.win 15 4095).engine = true
    ∧ ((w3.blk.win 15 4095).state = WinState.window ∨ (w3.blk.win 15 4095).state = WinState.wready)
    ∧ Block.slotLost w3.params w3.blk 15 4095 = true
    ∧ (w3.blk.bead 15).tileOf 4095 = none
    ∧ Tab.wf { : WinEntry } (w3.blk.bead 15).win = true
    -- 4
    ∧ (rg 64).blk.now / 64 - (rg 64).blk.refilled / 64 ≠ 0
    ∧ Tab.wf { : Bead } (rg 64).blk.beads = true
    -- 4
    ∧ tenii_4r2.blk.now / 64 - tenii_4r2.blk.refilled / 64 = 0 := by
  refine ⟨?_, ?_, ?_, ?_, ?_, ?_, ?_, ?_, ?_, ?_, ?_, ?_, ?_, ?_, ?_, ?_, ?_, ?_, ?_, ?_, ?_, ?_, ?_, ?_, ?_,
    ?_, ?_, ?_, ?_, ?_, ?_, ?_, ?_, ?_, ?_, ?_, ?_, ?_, ?_, ?_, ?_, ?_, ?_, ?_, ?_, ?_, ?_, ?_, ?_, ?_, ?_,
    ?_, ?_, ?_, ?_, ?_, ?_, ?_, ?_, ?_, ?_, ?_, ?_, ?_, ?_, ?_, ?_, ?_, ?_, ?_, ?_, ?_, ?_⟩ <;>
    (first
      | decide +kernel
      | exact forall_used (by decide +kernel)
      | exact forall_selectable (by decide +kernel)
      | exact forall_enabled (by decide +kernel))
def ratc_1_1 : MemView := {}
def ratc_1_2a : State := onUp 15 (CR 7 0x10) (cw fun c => { c with piece := some (0, 3) })
def ratc_1_2b : MemView := {}
def ratc_1_2c : Block := rU 15 (CR 7 0x10) (onUp 15 (CR 7 0x10) (cw fun c => { c with piece := some (0, 3) }))
def ratc_1_3 : MemView := {}
def ratc_1_4_1 : MemView := {}
def ratc_1_4_2r2a : State := onUp 15 (CR 7 0x0) (cwx fun x => { x with tracked := [2] })
def ratc_1_4_2r2b : Block := rU 15 (CR 7 0x0) (onUp 15 (CR 7 0x0) (cwx fun x => { x with tracked := [2] }))
def ratc_6a : State := onUp 15 (evtRec S2.params 15 12) (sr fun b => b.modPbead 15 fun x => { x with stop := 1 })
def ratc_6b : Block := rU 15 (evtRec S2.params 15 12) (onUp 15 (evtRec S2.params 15 12) (sr fun b => b.modPbead 15 fun x => { x with stop := 1 }))
def ratc_7a : State := onUp 15 (setrRec S2.params 15 Status.ok) (sr fun b => { b with loader := { b.loader with awaited := [(15, 3, 64), (14, 3, 64)] } })
def ratc_7b : Block := rU 15 (setrRec S2.params 15 Status.ok) (onUp 15 (setrRec S2.params 15 Status.ok) (sr fun b => { b with loader := { b.loader with awaited := [(15, 3, 64), (14, 3, 64)] } }))
def ratc_12_3 : MemView := {}
def ratc_13 : MemView := {}
def ratc_13r2 : MemView := {}
theorem witness_RecordsAtTheClasp :
    -- 1.1
    ActsAtClasp (onUp 15 (CR 7 (0 : Status)) S2).params (onUp 15 (CR 7 (0 : Status)) S2).blk 15 (cplRec (onUp 15 (CR 7 (0 : Status)) S2).params 15 (-1 : BitVec 12).toNat (BitVec.toNat (7 : BitVec 16)) (0 : Status)) (rU 15 (CR 7 (0 : Status)) (onUp 15 (CR 7 (0 : Status)) S2))
    ∧ ((onUp 15 (CR 7 (0 : Status)) S2).blk.cwin 15 (-1 : BitVec 12).toNat).gen ≠ BitVec.toNat (7 : BitVec 16)
    -- 1.2
    ∧ ActsAtClasp ratc_1_2a.params ratc_1_2a.blk 15 (cplRec ratc_1_2a.params 15 (-1 : BitVec 12).toNat (BitVec.toNat (7 : BitVec 16)) (16 : Status)) ratc_1_2c
    ∧ (ratc_1_2a.blk.cwin 15 (-1 : BitVec 12).toNat).gen = BitVec.toNat (7 : BitVec 16)
    ∧ (ratc_1_2a.blk.cwin 15 (-1 : BitVec 12).toNat).holder = none
    ∧ (ratc_1_2a.blk.cwin 15 (-1 : BitVec 12).toNat).piece = some (0, 3)
    -- 1.3
    ∧ ((cps cwh).blk.cwin 15 (-1 : BitVec 12).toNat).gen = BitVec.toNat (7 : BitVec 16)
    ∧ ((cps cwh).blk.cwin 15 (-1 : BitVec 12).toNat).holder = some (65535, 2)
    ∧ ((cps cwh).blk.node 65535 2).spilled = true
    -- 1.4.1
    ∧ ActsAtClasp (onUp 15 (CR 7 (16 : Status)) cwh).params (onUp 15 (CR 7 (16 : Status)) cwh).blk 15 (cplRec (onUp 15 (CR 7 (16 : Status)) cwh).params 15 (-1 : BitVec 12).toNat (BitVec.toNat (7 : BitVec 16)) (16 : Status)) (rU 15 (CR 7 (16 : Status)) (onUp 15 (CR 7 (16 : Status)) cwh))
    ∧ ((onUp 15 (CR 7 (16 : Status)) cwh).blk.cwin 15 (-1 : BitVec 12).toNat).gen = BitVec.toNat (7 : BitVec 16)
    ∧ ((onUp 15 (CR 7 (16 : Status)) cwh).blk.cwin 15 (-1 : BitVec 12).toNat).holder = some (65535, 2)
    ∧ (16 : Status) ≠ Status.aborted
    ∧ ((onUp 15 (CR 7 (16 : Status)) cwh).blk.node 65535 2).resolved = true
    ∧ EdgesReach (onUp 15 (CR 7 (16 : Status)) cwh).params (rU 15 (CR 7 (16 : Status)) (onUp 15 (CR 7 (16 : Status)) cwh)) ratc_1_4_1 65535 2
    ∧ ((onUp 15 (CR 7 (16 : Status)) cwh).blk.node 65535 2).kind ≠ 2
    ∧ (((onUp 15 (CR 7 (16 : Status)) cwh).blk.sub 65535).audited = true ∧ (16 : Status) = Status.ok
        ∧ ((onUp 15 (CR 7 (16 : Status)) cwh).blk.node 65535 2).kind = 0
        ∧ ((onUp 15 (CR 7 (16 : Status)) cwh).blk.node 65535 2).cls = 2
        → ratc_1_4_1.status Status.format ((onUp 15 (CR 7 (16 : Status)) cwh).blk.node 65535 2).param 64
        = Status.ok)
    ∧ (((onUp 15 (CR 7 (16 : Status)) cwh).blk.sub 65535).audited = true ∧ (16 : Status) = Status.ok
        ∧ ((onUp 15 (CR 7 (16 : Status)) cwh).blk.node 65535 2).kind = 0
        ∧ ((onUp 15 (CR 7 (16 : Status)) cwh).blk.node 65535 2).cls = 2
        → (∀ t ∈ reportedDigests ratc_1_4_1 ((onUp 15 (CR 7 (16 : Status)) cwh).blk.node 65535 2).param, ratc_1_4_1.status Status.indirectFault t.2.2 32 = Status.ok) ∧ ((onUp 15 (CR 7 (16 : Status)) cwh).blk.sub 65535).audit.length + (reportedDigests ratc_1_4_1 ((onUp 15 (CR 7 (16 : Status)) cwh).blk.node 65535 2).param).length ≤ 4096)
    ∧ (¬(((onUp 15 (CR 7 (16 : Status)) cwh).blk.sub 65535).audited = true ∧ (16 : Status) = Status.ok
        ∧ ((onUp 15 (CR 7 (16 : Status)) cwh).blk.node 65535 2).kind = 0
        ∧ ((onUp 15 (CR 7 (16 : Status)) cwh).blk.node 65535 2).cls = 2))
    -- 1.4.2
    ∧ ActsAtClasp (onUp 15 (CR 7 (16 : Status)) (cwx id)).params (onUp 15 (CR 7 (16 : Status)) (cwx id)).blk 15 (cplRec (onUp 15 (CR 7 (16 : Status)) (cwx id)).params 15 (-1 : BitVec 12).toNat (BitVec.toNat (7 : BitVec 16)) (16 : Status)) (rU 15 (CR 7 (16 : Status)) (onUp 15 (CR 7 (16 : Status)) (cwx id)))
    ∧ ((onUp 15 (CR 7 (16 : Status)) (cwx id)).blk.cwin 15 (-1 : BitVec 12).toNat).gen
        = BitVec.toNat (7 : BitVec 16)
    ∧ ((onUp 15 (CR 7 (16 : Status)) (cwx id)).blk.cwin 15 (-1 : BitVec 12).toNat).holder = some (65535, 2)
    ∧ (16 : Status) ≠ Status.aborted
    ∧ ((onUp 15 (CR 7 (16 : Status)) (cwx id)).blk.node 65535 2).resolved = true
    ∧ EdgesReach (onUp 15 (CR 7 (16 : Status)) (cwx id)).params (rU 15 (CR 7 (16 : Status)) (onUp 15 (CR 7 (16 : Status)) (cwx id))) mTr 65535 2
    ∧ ((onUp 15 (CR 7 (16 : Status)) (cwx id)).blk.node 65535 2).kind = 2
    ∧ (2 ∉ ((onUp 15 (CR 7 (16 : Status)) (cwx id)).blk.sub 65535).tracked
        ∧ bits (BitVec.toNat (mTr.word (bits (recW mTr ((onUp 15 (CR 7 (16 : Status)) (cwx id)).blk.node 65535 2).record 3) 55 0))) 16 16 = 1)
    -- 1.4.2
    ∧ ActsAtClasp ratc_1_4_2r2a.params ratc_1_4_2r2a.blk 15 (cplRec ratc_1_4_2r2a.params 15 (-1 : BitVec 12).toNat (BitVec.toNat (7 : BitVec 16)) (0 : Status)) ratc_1_4_2r2b
    ∧ (ratc_1_4_2r2a.blk.cwin 15 (-1 : BitVec 12).toNat).gen = BitVec.toNat (7 : BitVec 16)
    ∧ (ratc_1_4_2r2a.blk.cwin 15 (-1 : BitVec 12).toNat).holder = some (65535, 2)
    ∧ (0 : Status) ≠ Status.aborted
    ∧ (ratc_1_4_2r2a.blk.node 65535 2).resolved = true
    ∧ EdgesReach ratc_1_4_2r2a.params ratc_1_4_2r2b mTr 65535 2
    ∧ (ratc_1_4_2r2a.blk.node 65535 2).kind = 2
    ∧ (¬(2 ∉ (ratc_1_4_2r2a.blk.sub 65535).tracked
        ∧ bits (BitVec.toNat (mTr.word (bits (recW mTr (ratc_1_4_2r2a.blk.node 65535 2).record 3) 55 0))) 16 16 = 1))
    -- 2
    ∧ ActsAtClasp (onUp 15 (retRec S2.params 15 65535 3 true 20) rt).params (onUp 15 (retRec S2.params 15 65535 3 true 20) rt).blk 15 (retRec (onUp 15 (retRec S2.params 15 65535 3 true 20) rt).params 15 (-1 : BitVec 16).toNat (BitVec.toNat (3 : BitVec 16)) true (BitVec.toNat (20 : BitVec 5))) (rU 15 (retRec S2.params 15 65535 3 true 20) (onUp 15 (retRec S2.params 15 65535 3 true 20) rt))
    ∧ ((onUp 15 (retRec S2.params 15 65535 3 true 20) rt).blk.sub (-1 : BitVec 16).toNat).live = true
    ∧ true = true
    ∧ ((onUp 15 (retRec S2.params 15 65535 3 true 20) rt).blk.sub (-1 : BitVec 16).toNat).onBead 15 = false
    ∧ true = true
    ∧ (20 : BitVec 5) ≠ (0 : BitVec 5)
    -- 3
    ∧ ActsAtClasp (onUp 15 (ctrRec S2.params 15 19 (2 ^ 48 - 1)) ct).params (onUp 15 (ctrRec S2.params 15 19 (2 ^ 48 - 1)) ct).blk 15 (ctrRec (onUp 15 (ctrRec S2.params 15 19 (2 ^ 48 - 1)) ct).params 15 (BitVec.toNat (19 : BitVec 5)) (-1 : BitVec 48).toNat) (rU 15 (ctrRec S2.params 15 19 (2 ^ 48 - 1)) (onUp 15 (ctrRec S2.params 15 19 (2 ^ 48 - 1)) ct))
    ∧ tget (0, 0) (onUp 15 (ctrRec S2.params 15 19 (2 ^ 48 - 1)) ct).blk.graph.ctrDue 15 = (65535, 2)
    ∧ 2 ≠ 0
    ∧ ((onUp 15 (ctrRec S2.params 15 19 (2 ^ 48 - 1)) ct).blk.sub 65535).live = true
    ∧ BitVec.toNat (19 : BitVec 5) < 20
    -- 4.2
    ∧ ActsAtClasp (onUp 15 (evtRec S2.params 15 2047) S2).params (onUp 15 (evtRec S2.params 15 2047) S2).blk 15 (evtRec (onUp 15 (evtRec S2.params 15 2047) S2).params 15 (BitVec.toNat (2047 : BitVec 11))) (rU 15 (evtRec S2.params 15 2047) (onUp 15 (evtRec S2.params 15 2047) S2))
    ∧ BitVec.toNat (2047 : BitVec 11) ≠ 5
    ∧ BitVec.toNat (2047 : BitVec 11) ≠ 12
    ∧ internalSource (BitVec.toNat (2047 : BitVec 11)) = false
    -- 4.1
    ∧ ActsAtClasp (onUp 15 (evtRec S2.params 15 65) S2).params (onUp 15 (evtRec S2.params 15 65) S2).blk 15 (evtRec (onUp 15 (evtRec S2.params 15 65) S2).params 15 (BitVec.toNat (65 : BitVec 11))) (rU 15 (evtRec S2.params 15 65) (onUp 15 (evtRec S2.params 15 65) S2))
    ∧ BitVec.toNat (65 : BitVec 11) ≠ 5
    ∧ BitVec.toNat (65 : BitVec 11) ≠ 12
    ∧ internalSource (BitVec.toNat (65 : BitVec 11)) = true
    -- 5
    ∧ ActsAtClasp (onUp 15 (evtRec S2.params 15 5) S2).params (onUp 15 (evtRec S2.params 15 5) S2).blk 15 (evtRec (onUp 15 (evtRec S2.params 15 5) S2).params 15 5) (rU 15 (evtRec S2.params 15 5) (onUp 15 (evtRec S2.params 15 5) S2))
    -- 6
    ∧ ActsAtClasp ratc_6a.params ratc_6a.blk 15 (evtRec ratc_6a.params 15 12) ratc_6b
    ∧ (ratc_6a.blk.pbead 15).stop = 1
    ∧ (ratc_6a.blk.pbead 15).frozen = false
    -- 7
    ∧ ActsAtClasp ratc_7a.params ratc_7a.blk 15 (setrRec ratc_7a.params 15 Status.ok) ratc_7b
    ∧ tget 0 ratc_7a.blk.loader.returns 15 = 0
    ∧ ratc_7a.blk.loader.awaited = [(15, 3, 64), (14, 3, 64)]
    ∧ [(14, 3, 64)] ≠ []
    -- 8
    ∧ Status.ecc ≠ Status.ok
    ∧ ActsAtClasp ldf.params ldf.blk 15 (setrRec ldf.params 15 Status.ecc) (rU 15 (setrRec S2.params 15 Status.ecc) ldf)
    ∧ tget 0 ldf.blk.loader.returns 15 = 0
    ∧ List.find? (fun t => t.1 == 15) ldf.blk.loader.awaited = some (15, 3, 64)
    ∧ ldf.blk.loader.runs = true
    ∧ ldf.blk.loader.failing = none
    -- 9
    ∧ ActsAtClasp (ld LoadPhase.sections SetState.loading).params (ld LoadPhase.sections SetState.loading).blk 15 (setrRec (ld LoadPhase.sections SetState.loading).params 15 Status.ok) (rU 15 (setrRec S2.params 15 Status.ok) (ld LoadPhase.sections SetState.loading))
    ∧ tget 0 (ld LoadPhase.sections SetState.loading).blk.loader.returns 15 = 0
    ∧ (ld LoadPhase.sections SetState.loading).blk.loader.awaited = [(15, 3, 64)]
    ∧ (ld LoadPhase.sections SetState.loading).blk.loader.phase = LoadPhase.sections
    ∧ (List.filter (fun k => ((ld LoadPhase.sections SetState.loading).blk.pbead k).state != BState.fenced) (ld LoadPhase.sections SetState.loading).blk.loader.targets ≠ [] ∨ (ld LoadPhase.sections SetState.loading).blk.loader.state ≠ SetState.loading)
    -- 9
    ∧ ActsAtClasp (ld LoadPhase.commits SetState.patching).params (ld LoadPhase.commits SetState.patching).blk 15 (setrRec (ld LoadPhase.commits SetState.patching).params 15 Status.ok) (rU 15 (setrRec S2.params 15 Status.ok) (ld LoadPhase.commits SetState.patching))
    ∧ tget 0 (ld LoadPhase.commits SetState.patching).blk.loader.returns 15 = 0
    ∧ (ld LoadPhase.commits SetState.patching).blk.loader.awaited = [(15, 3, 64)]
    ∧ (ld LoadPhase.commits SetState.patching).blk.loader.phase = LoadPhase.commits
    ∧ (ld LoadPhase.commits SetState.patching).blk.loader.state ≠ SetState.loading
    ∧ (ld LoadPhase.commits SetState.patching).blk.loader.phase = LoadPhase.commits
    -- 9
    ∧ ActsAtClasp (ld LoadPhase.commits SetState.loading).params (ld LoadPhase.commits SetState.loading).blk 15 (setrRec (ld LoadPhase.commits SetState.loading).params 15 Status.ok) (rU 15 (setrRec S2.params 15 Status.ok) (ld LoadPhase.commits SetState.loading))
    ∧ tget 0 (ld LoadPhase.commits SetState.loading).blk.loader.returns 15 = 0
    ∧ (ld LoadPhase.commits SetState.loading).blk.loader.awaited = [(15, 3, 64)]
    ∧ (ld LoadPhase.commits SetState.loading).blk.loader.phase = LoadPhase.commits
    ∧ (ld LoadPhase.commits SetState.loading).blk.loader.state = SetState.loading
    -- 10
    ∧ Block.received (onUp 15 (snapRec S2.params 15 255 []) fz).params (onUp 15 (snapRec S2.params 15 255 []) fz).blk 15 true (snapRec (onUp 15 (snapRec S2.params 15 255 []) fz).params 15 255 []) = some (rU 15 (snapRec S2.params 15 255 []) (onUp 15 (snapRec S2.params 15 255 []) fz))
    ∧ ((onUp 15 (snapRec S2.params 15 255 []) fz).blk.lane ((onUp 15 (snapRec S2.params 15 255 []) fz).params.laneOf 15)).clasp.phase = 2
    -- 11
    ∧ ActsAtClasp (onUp 15 (snapRec S2.params 15 192 [(5 : Word)]) fz).params (onUp 15 (snapRec S2.params 15 192 [(5 : Word)]) fz).blk 15 (snapRec (onUp 15 (snapRec S2.params 15 192 [(5 : Word)]) fz).params 15 (BitVec.toNat (192 : BitVec 8)) [(5 : Word)]) (rU 15 (snapRec S2.params 15 192 [(5 : Word)]) (onUp 15 (snapRec S2.params 15 192 [(5 : Word)]) fz))
    ∧ ((onUp 15 (snapRec S2.params 15 192 [(5 : Word)]) fz).blk.lane ((onUp 15 (snapRec S2.params 15 192 [(5 : Word)]) fz).params.laneOf 15)).clasp.phase = 2
    ∧ BitVec.toNat (192 : BitVec 8) ≤ 192
    ∧ ((onUp 15 (snapRec S2.params 15 192 [(5 : Word)]) fz).blk.pbead 15).snapSrc ≠ BitVec.toNat (192 : BitVec 8)
    -- 12.3
    ∧ Block.pgFull (onUp 15 (spawnRec S2.params 15 0 [(0 : Word), (0 : Word), (0 : Word), (0 : Word)]) pf1).params (onUp 15 (spawnRec S2.params 15 0 [(0 : Word), (0 : Word), (0 : Word), (0 : Word)]) pf1).blk = true
    ∧ ActsAtClasp (onUp 15 (spawnRec S2.params 15 0 [(0 : Word), (0 : Word), (0 : Word), (0 : Word)]) pf1).params (onUp 15 (spawnRec S2.params 15 0 [(0 : Word), (0 : Word), (0 : Word), (0 : Word)]) pf1).blk 15 (spawnRec (onUp 15 (spawnRec S2.params 15 0 [(0 : Word), (0 : Word), (0 : Word), (0 : Word)]) pf1).params 15 (BitVec.toNat (0 : BitVec 12)) [(0 : Word), (0 : Word), (0 : Word), (0 : Word)]) (rU 15 (spawnRec S2.params 15 0 [(0 : Word), (0 : Word), (0 : Word), (0 : Word)]) (onUp 15 (spawnRec S2.params 15 0 [(0 : Word), (0 : Word), (0 : Word), (0 : Word)]) pf1))
    ∧ (onUp 15 (spawnRec S2.params 15 0 [(0 : Word), (0 : Word), (0 : Word), (0 : Word)]) pf1).blk.graph.full = false
    -- 13
    ∧ ActsAtClasp sp1.params sp1.blk 15 (spawnRec sp1.params 15 (-1 : BitVec 12).toNat [spw0, spw1, (131072 : Word), (0 : Word)]) (rU 15 (spawnRec S2.params 15 4095 [spw0, spw1, (131072 : Word), (0 : Word)]) sp1)
    ∧ Block.pgFull sp1.params sp1.blk = false
    ∧ Block.pagerIdle sp1.params sp1.blk 1
    ∧ (sp1.blk.cwin 15 (-1 : BitVec 12).toNat).holder = some (65535, 2)
    ∧ (sp1.blk.sub 65535).live = true
    ∧ (sp1.blk.sub 65535).abandoned = none
    ∧ fld spw0 15 0 = 65535
    ∧ fld spw1 31 16 = tget 0 sp1.blk.graph.sgen 65535
    ∧ 6 = (sp1.blk.sub 65535).nnodes + 65536 * expandsBelow ratc_13 (sp1.blk.sub 65535) 2 + fld spw1 63 32
    ∧ spx sp1 spw0 (131072 : Word) (0 : Word) 6
        = Block.placed sp1.params sp1.blk (sp1.blk.sub 65535) (have __src := nodeOfEntry spw0 (131072 : Word) (0 : Word); { used := __src.used, state := __src.state, kind := __src.kind, tolerant := __src.tolerant, brk := __src.brk, brkPassed := __src.brkPassed, brkHeld := __src.brkHeld, tgtV := __src.tgtV, cls := __src.cls, slot := __src.slot, indirect := __src.indirect, pstatus := __src.pstatus, count := __src.count, record := __src.record, param := __src.param, bead := __src.bead, win := __src.win, gen := __src.gen, depth := __src.depth, edges := __src.edges, resolved := __src.resolved, wedges := __src.wedges, parent := some 2, noPlace := __src.noPlace, outcome := __src.outcome, quantity := __src.quantity, interval := __src.interval, busy := __src.busy, handle := __src.handle, remote := __src.remote, peer := __src.peer, arrival := __src.arrival, spilled := __src.spilled, slots := __src.slots, seen := __src.seen, order := __src.order, own := __src.own, left := __src.left, built := __src.built, wl := __src.wl : Node }) 6 ((tget none (sp1.blk.sub 65535).affs 6).getD (bits (recW ratc_13 (fld (131072 : Word) 55 0) 0) 43 32)) (recBead ratc_13 (fld (131072 : Word) 55 0))
    ∧ (spx sp1 spw0 (131072 : Word) (0 : Word) 6).noPlace = false
    ∧ (spx sp1 spw0 (131072 : Word) (0 : Word) 6).bead = some 15
    ∧ Block.laneOpen sp1.params (rU 15 (spawnRec S2.params 15 4095 [spw0, spw1, (131072 : Word), (0 : Word)]) sp1) 15 = true
    ∧ Block.roomDown sp1.params (rU 15 (spawnRec S2.params 15 4095 [spw0, spw1, (131072 : Word), (0 : Word)]) sp1) 15 = true
    ∧ sp1.blk.freeWin 15 = some 0
    ∧ (sp1.blk.modNode 65535 6 fun x => { : Node }).readyFor 15 = false
    -- 13
    ∧ ActsAtClasp sp2.params sp2.blk 15 (spawnRec sp2.params 15 (-1 : BitVec 12).toNat [spw0, spw1, (131072 : Word), (0 : Word)]) (rU 15 (spawnRec S2.params 15 4095 [spw0, spw1, (131072 : Word), (0 : Word)]) sp2)
    ∧ Block.pgFull sp2.params sp2.blk = false
    ∧ Block.pagerIdle sp2.params sp2.blk 1
    ∧ (sp2.blk.cwin 15 (-1 : BitVec 12).toNat).holder = some (65535, 2)
    ∧ (sp2.blk.sub 65535).live = true
    ∧ (sp2.blk.sub 65535).abandoned = none
    ∧ fld spw0 15 0 = 65535
    ∧ fld spw1 31 16 = tget 0 sp2.blk.graph.sgen 65535
    ∧ 6 = (sp2.blk.sub 65535).nnodes + 65536 * expandsBelow ratc_13r2 (sp2.blk.sub 65535) 2 + fld spw1 63 32
    ∧ spx sp2 spw0 (131072 : Word) (0 : Word) 6
        = Block.placed sp2.params sp2.blk (sp2.blk.sub 65535) (have __src := nodeOfEntry spw0 (131072 : Word) (0 : Word); { used := __src.used, state := __src.state, kind := __src.kind, tolerant := __src.tolerant, brk := __src.brk, brkPassed := __src.brkPassed, brkHeld := __src.brkHeld, tgtV := __src.tgtV, cls := __src.cls, slot := __src.slot, indirect := __src.indirect, pstatus := __src.pstatus, count := __src.count, record := __src.record, param := __src.param, bead := __src.bead, win := __src.win, gen := __src.gen, depth := __src.depth, edges := __src.edges, resolved := __src.resolved, wedges := __src.wedges, parent := some 2, noPlace := __src.noPlace, outcome := __src.outcome, quantity := __src.quantity, interval := __src.interval, busy := __src.busy, handle := __src.handle, remote := __src.remote, peer := __src.peer, arrival := __src.arrival, spilled := __src.spilled, slots := __src.slots, seen := __src.seen, order := __src.order, own := __src.own, left := __src.left, built := __src.built, wl := __src.wl : Node }) 6 ((tget none (sp2.blk.sub 65535).affs 6).getD (bits (recW ratc_13r2 (fld (131072 : Word) 55 0) 0) 43 32)) (recBead ratc_13r2 (fld (131072 : Word) 55 0))
    ∧ (spx sp2 spw0 (131072 : Word) (0 : Word) 6).noPlace = false
    ∧ (spx sp2 spw0 (131072 : Word) (0 : Word) 6).bead = some 15
    ∧ (Block.laneOpen sp2.params (rU 15 (spawnRec S2.params 15 4095 [spw0, spw1, (131072 : Word), (0 : Word)]) sp2) 15 = false ∨ Block.roomDown sp2.params (rU 15 (spawnRec S2.params 15 4095 [spw0, spw1, (131072 : Word), (0 : Word)]) sp2) 15 = false) := by
  refine ⟨?_, ?_, ?_, ?_, ?_, ?_, ?_, ?_, ?_, ?_, ?_, ?_, ?_, ?_, ?_, ?_, ?_, ?_, ?_, ?_, ?_, ?_, ?_, ?_, ?_,
    ?_, ?_, ?_, ?_, ?_, ?_, ?_, ?_, ?_, ?_, ?_, ?_, ?_, ?_, ?_, ?_, ?_, ?_, ?_, ?_, ?_, ?_, ?_, ?_, ?_, ?_,
    ?_, ?_, ?_, ?_, ?_, ?_, ?_, ?_, ?_, ?_, ?_, ?_, ?_, ?_, ?_, ?_, ?_, ?_, ?_, ?_, ?_, ?_, ?_, ?_, ?_, ?_,
    ?_, ?_, ?_, ?_, ?_, ?_, ?_, ?_, ?_, ?_, ?_, ?_, ?_, ?_, ?_, ?_, ?_, ?_, ?_, ?_, ?_, ?_, ?_, ?_, ?_, ?_,
    ?_, ?_, ?_, ?_, ?_, ?_, ?_, ?_, ?_, ?_, ?_, ?_, ?_, ?_, ?_, ?_, ?_, ?_, ?_⟩ <;>
    (first
      | decide +kernel
      | exact edgesReach_of (by unfold Block.pagerIdle; decide +kernel)
      | (unfold ActsAtClasp; decide +kernel)
      | (unfold Block.pagerIdle; decide +kernel))
end Records

namespace Expansions
def x0 : State := { S2 with blk := exB id }
def mA (mode : Nat) (more : List (Nat × Word)) (e : List MemErr) : MemView := { words := [(0x30000, BitVec.ofNat 64 mode)] ++ more, errs := e }
def x0w : State := ondB x0 fun b => { b with mp := { b.mp with writes := [⟨15, 1, 2, 0x30040, List.replicate 64 0, .table⟩] } }
def xp : Expansion := { stage := .program, argsAddr := 0x30000, progAddr := 0x31000, maxCreate := 65536 }
def xpS : State := exS xp
def mG : MemView := { words := [(0x31000, 0x0000000100014653), (0x31040, 0x4F000000)] }
def xa : ArgBlock := { mode := 1, k := 1, ntok := 2, nexp := 1, npeer := 1, cap := 0x40000, tokrec := 0x41000, exprec := 0x42000, locnt := 0x43000, peers := 0x44000, send := 0x45000, sendStride := 64 }
def xr (stride : Nat) : Expansion := { stage := .routing, arg := { xa with sendStride := stride }, maxCreate := 65536, cands := [[(0x3F80, 0)], [(0x3F80, 0)]] }
def mT (peer : Word) : MemView := { words := [(0, 0x8000000000000000 + peer), (0x40000, 10), (0x44000, peer)] }
def xt (stride : Nat) : Expansion := { xr stride with tables := some ((exS (xr stride)).blk.routeTables 15 (xr stride).arg (mT 0)) }
def rt0 (stride : Nat) : RouteTables := (exS (xr stride)).blk.routeTables 15 (xr stride).arg (mT 0)
def rtP (stride : Nat) : RouteTables := (exS (xr stride)).blk.routeTables 15 (xr stride).arg (mT 5)
def cr : Creation := { tsel := 0, p0 := 5, whole := false, ord := 0, tileV := false, n := 0, aff := none }
def xc (ack : Bool) : Expansion := { stage := .creating, prepared := true, acked := ack, creations := [cr], params := [(0, [1, 2, 3, 4, 5, 6, 7, 8])], arg := { xa with paramOut := 0x50000 }, tmpl := 1, maxCreate := 1 }
def mTask : MemView := { words := [(0x10080, 0x0000000000000400), (0x10098, 0), (0x10140, 9)] }
def mNop : MemView := { words := [(0x10080, 0x0000000000000401)] }
def xq (m : Nat) : Expansion := { xc false with prepared := false, params := [], ntmpl := 1, nlist := if m = 0 then 2 else 0, creations := if m = 0 then [] else [cr], arg := { xa with paramOut := 0x50000, mode := m, track := true, loadSrc := m == 3, loadAddr := 0x60000, nexp := 2, clist := 0x70000 } }
def mQ : MemView := { mTask with words := mTask.words ++ [(0x60000, 0x0000000700000005), (0x70000, 0), (0x70008, 0), (0x70010, 0), (0x70018, 0)] }
def mB : MemView := { mTask with words := mTask.words ++ [(0x70010, -1), (0x70018, -1)] }
def full15 (s : State) : State := ondB s fun b => b.modLane 7 fun l => { l with bead := { l.bead with queue := List.replicate 16 { bits := 6 } } }
def mW : MemView := { mQ with words := mQ.words ++ [(0x10178, 1)] }
def xe : Expansion := { stage := .retiring, arg := { xa with track := true }, created := 3, trunc := true, counts := [(0, 7)] }
def xe2 : Expansion := { stage := .retiring, arg := xa, fail := some Status.format }
def ex0 : ExpertsSec := { nexperts := 2, replicaSlots := 1, interval := 10 }
def pl (f : Experts → Experts) : State := sr fun b => { b with setting := { b.setting with experts := some ex0 }, experts := f b.experts }
def plw (f : Experts → Experts) : State := ondB (pl fun x => f { x with enable := true, perStep := 3 }) fun b => b.modQueue 5 fun q => { q with waiting := [{ fNop with passed := true, desc := nopDesc.set 3 20 }] }
def es_2_1 : MemView := {}
def es_2_2 : MemView := { errs := [{ base := 0x31000, len := 8, code := 1 }] }
theorem witness_ExpansionsStart :
    -- 1
    (x0.blk.saf 15).busy = true
    ∧ (x0.blk.saf 15).win = (-1 : BitVec 12).toNat
    ∧ (x0.blk.saf 15).exp = none
    ∧ (x0.blk.win 15 (-1 : BitVec 12).toNat).used = true
    ∧ (x0.blk.win 15 (-1 : BitVec 12).toNat).kind = 2
    ∧ (x0.blk.win 15 (-1 : BitVec 12).toNat).state = WinState.issued
    ∧ (∀ t ∈ ((x0.blk.expansionOf 15 (-1 : BitVec 12).toNat (mA 0 [] [{ base := 196608, len := 8, code := (1 : BitVec 2) : MemErr }])).argsAddr, 128) :: x0.blk.tmplAreas 15 (x0.blk.expansionOf 15 (-1 : BitVec 12).toNat (mA 0 [] [{ base := 196608, len := 8, code := (1 : BitVec 2) : MemErr }])), x0.blk.mp.pendingWrite t.1 t.2 = false)
    ∧ MemView_areas (mA 0 [] [{ base := 196608, len := 8, code := (1 : BitVec 2) : MemErr }]) [((x0.blk.expansionOf 15 (-1 : BitVec 12).toNat (mA 0 [] [{ base := 196608, len := 8, code := (1 : BitVec 2) : MemErr }])).argsAddr, 128)] ≠ Status.ok
    -- 1
    ∧ (x0.blk.saf 15).busy = true
    ∧ (x0.blk.saf 15).win = (-1 : BitVec 12).toNat
    ∧ (x0.blk.saf 15).exp = none
    ∧ (x0.blk.win 15 (-1 : BitVec 12).toNat).used = true
    ∧ (x0.blk.win 15 (-1 : BitVec 12).toNat).kind = 2
    ∧ (x0.blk.win 15 (-1 : BitVec 12).toNat).state = WinState.issued
    ∧ (∀ t ∈ ((x0.blk.expansionOf 15 (-1 : BitVec 12).toNat (mA 4 [] [])).argsAddr, 128) :: x0.blk.tmplAreas 15 (x0.blk.expansionOf 15 (-1 : BitVec 12).toNat (mA 4 [] [])), x0.blk.mp.pendingWrite t.1 t.2 = false)
    ∧ MemView_areas (mA 4 [] []) [((x0.blk.expansionOf 15 (-1 : BitVec 12).toNat (mA 4 [] [])).argsAddr, 128)] = Status.ok
    ∧ x0.blk.blockOk 15 (x0.blk.expansionOf 15 (-1 : BitVec 12).toNat (mA 4 [] [])) (mA 4 [] []) = false
    ∧ MemView_areas (mA 4 [] []) [((x0.blk.expansionOf 15 (-1 : BitVec 12).toNat (mA 4 [] [])).argsAddr, 128)] = Status.ok
    -- 1
    ∧ (x0.blk.saf 15).busy = true
    ∧ (x0.blk.saf 15).win = (-1 : BitVec 12).toNat
    ∧ (x0.blk.saf 15).exp = none
    ∧ (x0.blk.win 15 (-1 : BitVec 12).toNat).used = true
    ∧ (x0.blk.win 15 (-1 : BitVec 12).toNat).kind = 2
    ∧ (x0.blk.win 15 (-1 : BitVec 12).toNat).state = WinState.issued
    ∧ (∀ t ∈ ((x0.blk.expansionOf 15 (-1 : BitVec 12).toNat (mA 0 [] [])).argsAddr, 128) :: x0.blk.tmplAreas 15 (x0.blk.expansionOf 15 (-1 : BitVec 12).toNat (mA 0 [] [])), x0.blk.mp.pendingWrite t.1 t.2 = false)
    ∧ MemView_areas (mA 0 [] []) [((x0.blk.expansionOf 15 (-1 : BitVec 12).toNat (mA 0 [] [])).argsAddr, 128)] = Status.ok
    ∧ x0.blk.blockOk 15 (x0.blk.expansionOf 15 (-1 : BitVec 12).toNat (mA 0 [] [])) (mA 0 [] []) = true
    ∧ MemView_areas (mA 0 [] []) (x0.blk.tmplAreas 15 (x0.blk.expansionOf 15 (-1 : BitVec 12).toNat (mA 0 [] []))) = Status.ok
    ∧ MemView_areas (mA 0 [] []) (x0.blk.tmplAreas 15 (x0.blk.expansionOf 15 (-1 : BitVec 12).toNat (mA 0 [] []))) = Status.ok
    ∧ x0.blk.argsOk 15 (x0.blk.expansionOf 15 (-1 : BitVec 12).toNat (mA 0 [] [])) (mA 0 [] []) = true
    ∧ (x0.blk.expansionOf 15 (-1 : BitVec 12).toNat (mA 0 [] [])).arg.mode ≠ 3
    ∧ MemView_areas (mA 0 [] []) (x0.blk.tmplAreas 15 (x0.blk.expansionOf 15 (-1 : BitVec 12).toNat (mA 0 [] []))) = Status.ok
    ∧ x0.blk.argsOk 15 (x0.blk.expansionOf 15 (-1 : BitVec 12).toNat (mA 0 [] [])) (mA 0 [] []) = true
    -- 1
    ∧ (x0.blk.saf 15).busy = true
    ∧ (x0.blk.saf 15).win = (-1 : BitVec 12).toNat
    ∧ (x0.blk.saf 15).exp = none
    ∧ (x0.blk.win 15 (-1 : BitVec 12).toNat).used = true
    ∧ (x0.blk.win 15 (-1 : BitVec 12).toNat).kind = 2
    ∧ (x0.blk.win 15 (-1 : BitVec 12).toNat).state = WinState.issued
    ∧ (∀ t ∈ ((x0.blk.expansionOf 15 (-1 : BitVec 12).toNat (mA 3 [(196656, (204800 : Word)), (204800, (9223372036854775815 : Word))] [])).argsAddr, 128) :: x0.blk.tmplAreas 15 (x0.blk.expansionOf 15 (-1 : BitVec 12).toNat (mA 3 [(196656, (204800 : Word)), (204800, (9223372036854775815 : Word))] [])), x0.blk.mp.pendingWrite t.1 t.2 = false)
    ∧ MemView_areas (mA 3 [(196656, (204800 : Word)), (204800, (9223372036854775815 : Word))] []) [((x0.blk.expansionOf 15 (-1 : BitVec 12).toNat (mA 3 [(196656, (204800 : Word)), (204800, (9223372036854775815 : Word))] [])).argsAddr, 128)] = Status.ok
    ∧ x0.blk.blockOk 15 (x0.blk.expansionOf 15 (-1 : BitVec 12).toNat (mA 3 [(196656, (204800 : Word)), (204800, (9223372036854775815 : Word))] [])) (mA 3 [(196656, (204800 : Word)), (204800, (9223372036854775815 : Word))] []) = true
    ∧ MemView_areas (mA 3 [(196656, (204800 : Word)), (204800, (9223372036854775815 : Word))] []) (x0.blk.tmplAreas 15 (x0.blk.expansionOf 15 (-1 : BitVec 12).toNat (mA 3 [(196656, (204800 : Word)), (204800, (9223372036854775815 : Word))] []))) = Status.ok
    ∧ x0.blk.argsOk 15 (x0.blk.expansionOf 15 (-1 : BitVec 12).toNat (mA 3 [(196656, (204800 : Word)), (204800, (9223372036854775815 : Word))] [])) (mA 3 [(196656, (204800 : Word)), (204800, (9223372036854775815 : Word))] []) = true
    ∧ (x0.blk.expansionOf 15 (-1 : BitVec 12).toNat (mA 3 [(196656, (204800 : Word)), (204800, (9223372036854775815 : Word))] [])).arg.mode = 3
    ∧ MemView_areas (mA 3 [(196656, (204800 : Word)), (204800, (9223372036854775815 : Word))] []) [((x0.blk.expansionOf 15 (-1 : BitVec 12).toNat (mA 3 [(196656, (204800 : Word)), (204800, (9223372036854775815 : Word))] [])).arg.locnt, 1024)] = Status.ok
    ∧ (List.map (fun x => x.count) (readLocnt (mA 3 [(196656, (204800 : Word)), (204800, (9223372036854775815 : Word))] []) (x0.blk.expansionOf 15 (-1 : BitVec 12).toNat (mA 3 [(196656, (204800 : Word)), (204800, (9223372036854775815 : Word))] [])).arg.locnt)).sum < 2 ^ 32
    ∧ (∀ c ∈ List.take (x0.blk.expansionOf 15 (-1 : BitVec 12).toNat (mA 3 [(196656, (204800 : Word)), (204800, (9223372036854775815 : Word))] [])).maxCreate ((x0.blk.expansionOf 15 (-1 : BitVec 12).toNat (mA 3 [(196656, (204800 : Word)), (204800, (9223372036854775815 : Word))] [])).arg.creations (x0.blk.expansionOf 15 (-1 : BitVec 12).toNat (mA 3 [(196656, (204800 : Word)), (204800, (9223372036854775815 : Word))] [])).ntmpl (List.map (fun x => x.count) (readLocnt (mA 3 [(196656, (204800 : Word)), (204800, (9223372036854775815 : Word))] []) (x0.blk.expansionOf 15 (-1 : BitVec 12).toNat (mA 3 [(196656, (204800 : Word)), (204800, (9223372036854775815 : Word))] [])).arg.locnt)).sum (readLocnt (mA 3 [(196656, (204800 : Word)), (204800, (9223372036854775815 : Word))] []) (x0.blk.expansionOf 15 (-1 : BitVec 12).toNat (mA 3 [(196656, (204800 : Word)), (204800, (9223372036854775815 : Word))] [])).arg.locnt) [] fun i => BitVec.toNat (freeCreation (x0.blk.sub (x0.blk.win 15 (-1 : BitVec 12).toNat).seg).desc (x0.blk.win 15 (-1 : BitVec 12).toNat).index i)), x0.blk.affOk 15 (x0.blk.expansionOf 15 (-1 : BitVec 12).toNat (mA 3 [(196656, (204800 : Word)), (204800, (9223372036854775815 : Word))] [])) (mA 3 [(196656, (204800 : Word)), (204800, (9223372036854775815 : Word))] []) c = true)
    ∧ (∀ (k : Nat) (c : Creation), (List.take (x0.blk.expansionOf 15 (-1 : BitVec 12).toNat (mA 3 [(196656, (204800 : Word)), (204800, (9223372036854775815 : Word))] [])).maxCreate ((x0.blk.expansionOf 15 (-1 : BitVec 12).toNat (mA 3 [(196656, (204800 : Word)), (204800, (9223372036854775815 : Word))] [])).arg.creations (x0.blk.expansionOf 15 (-1 : BitVec 12).toNat (mA 3 [(196656, (204800 : Word)), (204800, (9223372036854775815 : Word))] [])).ntmpl (List.map (fun x => x.count) (readLocnt (mA 3 [(196656, (204800 : Word)), (204800, (9223372036854775815 : Word))] []) (x0.blk.expansionOf 15 (-1 : BitVec 12).toNat (mA 3 [(196656, (204800 : Word)), (204800, (9223372036854775815 : Word))] [])).arg.locnt)).sum (readLocnt (mA 3 [(196656, (204800 : Word)), (204800, (9223372036854775815 : Word))] []) (x0.blk.expansionOf 15 (-1 : BitVec 12).toNat (mA 3 [(196656, (204800 : Word)), (204800, (9223372036854775815 : Word))] [])).arg.locnt) [] fun i => BitVec.toNat (freeCreation (x0.blk.sub (x0.blk.win 15 (-1 : BitVec 12).toNat).seg).desc (x0.blk.win 15 (-1 : BitVec 12).toNat).index i)))[k]? = some c → x0.blk.blockFits 15 (x0.blk.expansionOf 15 (-1 : BitVec 12).toNat (mA 3 [(196656, (204800 : Word)), (204800, (9223372036854775815 : Word))] [])) (mA 3 [(196656, (204800 : Word)), (204800, (9223372036854775815 : Word))] []) k c = true)
    -- 1
    ∧ (x0.blk.saf 15).busy = true
    ∧ (x0.blk.saf 15).win = (-1 : BitVec 12).toNat
    ∧ (x0.blk.saf 15).exp = none
    ∧ (x0.blk.win 15 (-1 : BitVec 12).toNat).used = true
    ∧ (x0.blk.win 15 (-1 : BitVec 12).toNat).kind = 2
    ∧ (x0.blk.win 15 (-1 : BitVec 12).toNat).state = WinState.issued
    ∧ (∀ t ∈ ((x0.blk.expansionOf 15 (-1 : BitVec 12).toNat (mA 0 [] [{ base := 65664, len := 8, code := (1 : BitVec 2) : MemErr }])).argsAddr, 128) :: x0.blk.tmplAreas 15 (x0.blk.expansionOf 15 (-1 : BitVec 12).toNat (mA 0 [] [{ base := 65664, len := 8, code := (1 : BitVec 2) : MemErr }])), x0.blk.mp.pendingWrite t.1 t.2 = false)
    ∧ MemView_areas (mA 0 [] [{ base := 65664, len := 8, code := (1 : BitVec 2) : MemErr }]) [((x0.blk.expansionOf 15 (-1 : BitVec 12).toNat (mA 0 [] [{ base := 65664, len := 8, code := (1 : BitVec 2) : MemErr }])).argsAddr, 128)] = Status.ok
    ∧ x0.blk.blockOk 15 (x0.blk.expansionOf 15 (-1 : BitVec 12).toNat (mA 0 [] [{ base := 65664, len := 8, code := (1 : BitVec 2) : MemErr }])) (mA 0 [] [{ base := 65664, len := 8, code := (1 : BitVec 2) : MemErr }]) = true
    ∧ MemView_areas (mA 0 [] [{ base := 65664, len := 8, code := (1 : BitVec 2) : MemErr }]) (x0.blk.tmplAreas 15 (x0.blk.expansionOf 15 (-1 : BitVec 12).toNat (mA 0 [] [{ base := 65664, len := 8, code := (1 : BitVec 2) : MemErr }]))) ≠ Status.ok
    -- 1
    ∧ (x0.blk.saf 15).busy = true
    ∧ (x0.blk.saf 15).win = (-1 : BitVec 12).toNat
    ∧ (x0.blk.saf 15).exp = none
    ∧ (x0.blk.win 15 (-1 : BitVec 12).toNat).used = true
    ∧ (x0.blk.win 15 (-1 : BitVec 12).toNat).kind = 2
    ∧ (x0.blk.win 15 (-1 : BitVec 12).toNat).state = WinState.issued
    ∧ (∀ t ∈ ((x0.blk.expansionOf 15 (-1 : BitVec 12).toNat (mA 0 [(65664, (72057594037927936 : Word))] [])).argsAddr, 128) :: x0.blk.tmplAreas 15 (x0.blk.expansionOf 15 (-1 : BitVec 12).toNat (mA 0 [(65664, (72057594037927936 : Word))] [])), x0.blk.mp.pendingWrite t.1 t.2 = false)
    ∧ MemView_areas (mA 0 [(65664, (72057594037927936 : Word))] []) [((x0.blk.expansionOf 15 (-1 : BitVec 12).toNat (mA 0 [(65664, (72057594037927936 : Word))] [])).argsAddr, 128)] = Status.ok
    ∧ x0.blk.blockOk 15 (x0.blk.expansionOf 15 (-1 : BitVec 12).toNat (mA 0 [(65664, (72057594037927936 : Word))] [])) (mA 0 [(65664, (72057594037927936 : Word))] []) = true
    ∧ MemView_areas (mA 0 [(65664, (72057594037927936 : Word))] []) (x0.blk.tmplAreas 15 (x0.blk.expansionOf 15 (-1 : BitVec 12).toNat (mA 0 [(65664, (72057594037927936 : Word))] []))) = Status.ok
    ∧ x0.blk.argsOk 15 (x0.blk.expansionOf 15 (-1 : BitVec 12).toNat (mA 0 [(65664, (72057594037927936 : Word))] [])) (mA 0 [(65664, (72057594037927936 : Word))] []) = false
    -- 1
    ∧ (x0w.blk.saf 15).busy = true
    ∧ (x0w.blk.saf 15).win = (-1 : BitVec 12).toNat
    ∧ (x0w.blk.saf 15).exp = none
    ∧ (x0w.blk.win 15 (-1 : BitVec 12).toNat).used = true
    ∧ (x0w.blk.win 15 (-1 : BitVec 12).toNat).kind = 2
    ∧ (x0w.blk.win 15 (-1 : BitVec 12).toNat).state = WinState.issued
    ∧ (¬∀ t ∈ ((x0w.blk.expansionOf 15 (-1 : BitVec 12).toNat (mA 0 [] [])).argsAddr, 128) :: x0w.blk.tmplAreas 15 (x0w.blk.expansionOf 15 (-1 : BitVec 12).toNat (mA 0 [] [])), x0w.blk.mp.pendingWrite t.1 t.2 = false)
    -- 2.1
    ∧ (xpS.blk.saf 15).exp = some xp
    ∧ xp.stage = ExpStage.program
    ∧ xpS.blk.mp.pendingWrite xp.progAddr (64 + 4 * bits (BitVec.toNat (es_2_1.word xp.progAddr)) 47 32) = false
    ∧ es_2_1.status Status.indirectFault xp.progAddr 64 = Status.ok
    ∧ programHeader es_2_1 xp.progAddr = Except.error (1, Status.format)
    -- 2.2
    ∧ (xpS.blk.saf 15).exp = some xp
    ∧ xp.stage = ExpStage.program
    ∧ xpS.blk.mp.pendingWrite xp.progAddr (64 + 4 * bits (BitVec.toNat (es_2_2.word xp.progAddr)) 47 32) = false
    ∧ es_2_2.status Status.indirectFault xp.progAddr 64 ≠ Status.ok
    -- 2.3
    ∧ (xpS.blk.saf 15).exp = some xp
    ∧ xp.stage = ExpStage.program
    ∧ xpS.blk.mp.pendingWrite xp.progAddr (64 + 4 * bits (BitVec.toNat (mG.word xp.progAddr)) 47 32) = false
    ∧ mG.status Status.indirectFault xp.progAddr 64 = Status.ok
    ∧ programHeader mG xp.progAddr = Except.ok 1
    ∧ mG.status Status.indirectFault (xp.progAddr + 64) (4 * 1) = Status.ok
    ∧ (programWords mG xp.progAddr 1)[0]? = some (1325400064 : BitVec 32)
    ∧ knownOp (BitVec.toNat (1325400064 : BitVec 32) / 2 ^ 24) = true
    -- 2.3.3
    ∧ (xpS.blk.saf 15).exp = some xp
    ∧ xp.stage = ExpStage.program
    ∧ xpS.blk.mp.pendingWrite xp.progAddr (64 + 4 * bits (BitVec.toNat (mG.word xp.progAddr)) 47 32) = false
    ∧ mG.status Status.indirectFault xp.progAddr 64 = Status.ok
    ∧ programHeader mG xp.progAddr = Except.ok 1
    ∧ mG.status Status.indirectFault (xp.progAddr + 64) (4 * 1) = Status.ok
    ∧ (programWords mG xp.progAddr 1)[0]? = some (1325400064 : BitVec 32)
    ∧ knownOp (BitVec.toNat (1325400064 : BitVec 32) / 2 ^ 24) = true
    ∧ [xp.argsAddr, xp.arg.scores, xp.arg.ntok, xp.arg.nexp, xp.arg.k, xp.arg.clist, xp.maxCreate, 0][6]?
        = some 65536 := by
  refine ⟨?_, ?_, ?_, ?_, ?_, ?_, ?_, ?_, ?_, ?_, ?_, ?_, ?_, ?_, ?_, ?_, ?_, ?_, ?_, ?_, ?_, ?_, ?_, ?_, ?_,
    ?_, ?_, ?_, ?_, ?_, ?_, ?_, ?_, ?_, ?_, ?_, ?_, ?_, ?_, ?_, ?_, ?_, ?_, ?_, ?_, ?_, ?_, ?_, ?_, ?_, ?_,
    ?_, ?_, ?_, ?_, ?_, ?_, ?_, ?_, ?_, ?_, ?_, ?_, ?_, ?_, ?_, ?_, ?_, ?_, ?_, ?_, ?_, ?_, ?_, ?_, ?_, ?_,
    ?_, ?_, ?_, ?_, ?_, ?_, ?_, ?_, ?_, ?_, ?_, ?_, ?_, ?_, ?_, ?_, ?_, ?_, ?_, ?_, ?_, ?_, ?_, ?_, ?_, ?_⟩ <;>
    first | decide +kernel | rfl | exact forall_at (by decide +kernel)
def ecar_1a : State := ondB (exS (xr 128)) fun b => { b with mp := { writes := [⟨15, 1, 2, 0x40000, List.replicate 64 0, .table⟩] } }
def ecar_1b : MemView := {}
def ecar_1r2 : MemView := {}
def ecar_1r4 : MemView := { mT 0 with errs := [{ base := 0x40000, len := 8, code := 1 }] }
theorem witness_ExpansionsCreateAndRetire :
    -- 1
    (ecar_1a.blk.saf 15).exp = some (xr 128)
    ∧ (xr 128).mayRoute = true
    ∧ (xr 128).tables = none
    ∧ (∃ a ∈ ecar_1a.blk.routeAreas 15 (xr 128).arg, ecar_1a.blk.mp.pendingWrite a.1 a.2 = true)
    ∧ (xr 128).tables = none
    -- 1
    ∧ ((exS (xr 128)).blk.saf 15).exp = some (xr 128)
    ∧ (xr 128).mayRoute = true
    ∧ (xr 128).tables = none
    ∧ (∀ a ∈ (exS (xr 128)).blk.routeAreas 15 (xr 128).arg, (exS (xr 128)).blk.mp.pendingWrite a.1 a.2 = false)
    ∧ MemView_areas ecar_1r2 ((exS (xr 128)).blk.routeAreas 15 (xr 128).arg) = Status.ok
    ∧ ((exS (xr 128)).blk.routeTables 15 (xr 128).arg ecar_1r2).ok (exS (xr 128)).blk.link.self = false
    ∧ MemView_areas ecar_1r2 ((exS (xr 128)).blk.routeAreas 15 (xr 128).arg) = Status.ok
    -- 1
    ∧ ((exS (xr 64)).blk.saf 15).exp = some (xr 64)
    ∧ (xr 64).mayRoute = true
    ∧ (xr 64).tables = none
    ∧ (∀ a ∈ (exS (xr 64)).blk.routeAreas 15 (xr 64).arg, (exS (xr 64)).blk.mp.pendingWrite a.1 a.2 = false)
    ∧ MemView_areas (mT (0 : Word)) ((exS (xr 64)).blk.routeAreas 15 (xr 64).arg) = Status.ok
    ∧ ((exS (xr 64)).blk.routeTables 15 (xr 64).arg (mT (0 : Word))).ok (exS (xr 64)).blk.link.self = true
    -- 1
    ∧ ((exS (xr 64)).blk.saf 15).exp = some (xr 64)
    ∧ (xr 64).mayRoute = true
    ∧ (xr 64).tables = none
    ∧ (∀ a ∈ (exS (xr 64)).blk.routeAreas 15 (xr 64).arg, (exS (xr 64)).blk.mp.pendingWrite a.1 a.2 = false)
    ∧ MemView_areas ecar_1r4 ((exS (xr 64)).blk.routeAreas 15 (xr 64).arg) ≠ Status.ok
    -- 2
    ∧ ((exS (xt 128)).blk.saf 15).exp = some (xt 128)
    ∧ (xt 128).mayRoute = true
    ∧ (xt 128).tables = some (rt0 128)
    ∧ (routeAll (xt 128).arg (rt0 128) (xt 128).routed (xt 128).cands (xt 128).route).full = false
    ∧ (routeAll (xt 128).arg (rt0 128) (xt 128).routed (xt 128).cands (xt 128).route).full = false
    ∧ (xt 128).stage = ExpStage.routing
    ∧ (∀ c ∈ List.take (xt 128).maxCreate ((xt 128).arg.creations (xt 128).ntmpl (routeAll (xt 128).arg (rt0 128) (xt 128).routed (xt 128).cands (xt 128).route).total (localCounts (rt0 128) (routeAll (xt 128).arg (rt0 128) (xt 128).routed (xt 128).cands (xt 128).route).used (exS (xt 128)).blk.link.self) (List.map (fun q => (tget [] (routeAll (xt 128).arg (rt0 128) (xt 128).routed (xt 128).cands (xt 128).route).sends q).length) (List.range (rt0 128).peers.length)) fun i => BitVec.toNat (freeCreation ((exS (xt 128)).blk.sub ((exS (xt 128)).blk.expNode 15).1).desc ((exS (xt 128)).blk.expNode 15).2 i)), (exS (xt 128)).blk.affOk 15 (xt 128) (mT (0 : Word)) c = true)
    ∧ (∀ (k : Nat) (c : Creation), (List.take (xt 128).maxCreate ((xt 128).arg.creations (xt 128).ntmpl (routeAll (xt 128).arg (rt0 128) (xt 128).routed (xt 128).cands (xt 128).route).total (localCounts (rt0 128) (routeAll (xt 128).arg (rt0 128) (xt 128).routed (xt 128).cands (xt 128).route).used (exS (xt 128)).blk.link.self) (List.map (fun q => (tget [] (routeAll (xt 128).arg (rt0 128) (xt 128).routed (xt 128).cands (xt 128).route).sends q).length) (List.range (rt0 128).peers.length)) fun i => BitVec.toNat (freeCreation ((exS (xt 128)).blk.sub ((exS (xt 128)).blk.expNode 15).1).desc ((exS (xt 128)).blk.expNode 15).2 i)))[k]? = some c → (exS (xt 128)).blk.blockFits 15 (xt 128) (mT (0 : Word)) k c = true)
    -- 2
    ∧ ((exS (let __src := xt 128; { arg := __src.arg, stage := ExpStage.running, fail := __src.fail, progAddr := __src.progAddr, argsAddr := __src.argsAddr, tmpl := __src.tmpl, join := __src.join, maxCreate := __src.maxCreate, below := __src.below, ntmpl := __src.ntmpl, prog := __src.prog, cands := __src.cands, tables := __src.tables, routed := __src.routed, route := __src.route, nlist := __src.nlist, listRead := __src.listRead, prepared := __src.prepared, params := __src.params, trunc := __src.trunc, creations := __src.creations, created := __src.created, acked := __src.acked, counts := __src.counts : Expansion })).blk.saf 15).exp = some (let __src := xt 128; { arg := __src.arg, stage := ExpStage.running, fail := __src.fail, progAddr := __src.progAddr, argsAddr := __src.argsAddr, tmpl := __src.tmpl, join := __src.join, maxCreate := __src.maxCreate, below := __src.below, ntmpl := __src.ntmpl, prog := __src.prog, cands := __src.cands, tables := __src.tables, routed := __src.routed, route := __src.route, nlist := __src.nlist, listRead := __src.listRead, prepared := __src.prepared, params := __src.params, trunc := __src.trunc, creations := __src.creations, created := __src.created, acked := __src.acked, counts := __src.counts : Expansion })
    ∧ (let __src := xt 128; { arg := __src.arg, stage := ExpStage.running, fail := __src.fail, progAddr := __src.progAddr, argsAddr := __src.argsAddr, tmpl := __src.tmpl, join := __src.join, maxCreate := __src.maxCreate, below := __src.below, ntmpl := __src.ntmpl, prog := __src.prog, cands := __src.cands, tables := __src.tables, routed := __src.routed, route := __src.route, nlist := __src.nlist, listRead := __src.listRead, prepared := __src.prepared, params := __src.params, trunc := __src.trunc, creations := __src.creations, created := __src.created, acked := __src.acked, counts := __src.counts : Expansion }).mayRoute = true
    ∧ (let __src := xt 128; { arg := __src.arg, stage := ExpStage.running, fail := __src.fail, progAddr := __src.progAddr, argsAddr := __src.argsAddr, tmpl := __src.tmpl, join := __src.join, maxCreate := __src.maxCreate, below := __src.below, ntmpl := __src.ntmpl, prog := __src.prog, cands := __src.cands, tables := __src.tables, routed := __src.routed, route := __src.route, nlist := __src.nlist, listRead := __src.listRead, prepared := __src.prepared, params := __src.params, trunc := __src.trunc, creations := __src.creations, created := __src.created, acked := __src.acked, counts := __src.counts : Expansion }).tables = some (rt0 128)
    ∧ (routeAll (let __src := xt 128; { arg := __src.arg, stage := ExpStage.running, fail := __src.fail, progAddr := __src.progAddr, argsAddr := __src.argsAddr, tmpl := __src.tmpl, join := __src.join, maxCreate := __src.maxCreate, below := __src.below, ntmpl := __src.ntmpl, prog := __src.prog, cands := __src.cands, tables := __src.tables, routed := __src.routed, route := __src.route, nlist := __src.nlist, listRead := __src.listRead, prepared := __src.prepared, params := __src.params, trunc := __src.trunc, creations := __src.creations, created := __src.created, acked := __src.acked, counts := __src.counts : Expansion }).arg (rt0 128) (let __src := xt 128; { arg := __src.arg, stage := ExpStage.running, fail := __src.fail, progAddr := __src.progAddr, argsAddr := __src.argsAddr, tmpl := __src.tmpl, join := __src.join, maxCreate := __src.maxCreate, below := __src.below, ntmpl := __src.ntmpl, prog := __src.prog, cands := __src.cands, tables := __src.tables, routed := __src.routed, route := __src.route, nlist := __src.nlist, listRead := __src.listRead, prepared := __src.prepared, params := __src.params, trunc := __src.trunc, creations := __src.creations, created := __src.created, acked := __src.acked, counts := __src.counts : Expansion }).routed (let __src := xt 128; { arg := __src.arg, stage := ExpStage.running, fail := __src.fail, progAddr := __src.progAddr, argsAddr := __src.argsAddr, tmpl := __src.tmpl, join := __src.join, maxCreate := __src.maxCreate, below := __src.below, ntmpl := __src.ntmpl, prog := __src.prog, cands := __src.cands, tables := __src.tables, routed := __src.routed, route := __src.route, nlist := __src.nlist, listRead := __src.listRead, prepared := __src.prepared, params := __src.params, trunc := __src.trunc, creations := __src.creations, created := __src.created, acked := __src.acked, counts := __src.counts : Expansion }).cands (let __src := xt 128; { arg := __src.arg, stage := ExpStage.running, fail := __src.fail, progAddr := __src.progAddr, argsAddr := __src.argsAddr, tmpl := __src.tmpl, join := __src.join, maxCreate := __src.maxCreate, below := __src.below, ntmpl := __src.ntmpl, prog := __src.prog, cands := __src.cands, tables := __src.tables, routed := __src.routed, route := __src.route, nlist := __src.nlist, listRead := __src.listRead, prepared := __src.prepared, params := __src.params, trunc := __src.trunc, creations := __src.creations, created := __src.created, acked := __src.acked, counts := __src.counts : Expansion }).route).full = false
    ∧ (let __src := xt 128; { arg := __src.arg, stage := ExpStage.running, fail := __src.fail, progAddr := __src.progAddr, argsAddr := __src.argsAddr, tmpl := __src.tmpl, join := __src.join, maxCreate := __src.maxCreate, below := __src.below, ntmpl := __src.ntmpl, prog := __src.prog, cands := __src.cands, tables := __src.tables, routed := __src.routed, route := __src.route, nlist := __src.nlist, listRead := __src.listRead, prepared := __src.prepared, params := __src.params, trunc := __src.trunc, creations := __src.creations, created := __src.created, acked := __src.acked, counts := __src.counts : Expansion }).stage = ExpStage.running
    -- 2
    ∧ ((exS (let __src := xt 64; { arg := __src.arg, stage := __src.stage, fail := __src.fail, progAddr := __src.progAddr, argsAddr := __src.argsAddr, tmpl := __src.tmpl, join := __src.join, maxCreate := __src.maxCreate, below := __src.below, ntmpl := __src.ntmpl, prog := __src.prog, cands := __src.cands, tables := some (rtP 64), routed := __src.routed, route := __src.route, nlist := __src.nlist, listRead := __src.listRead, prepared := __src.prepared, params := __src.params, trunc := __src.trunc, creations := __src.creations, created := __src.created, acked := __src.acked, counts := __src.counts : Expansion })).blk.saf 15).exp = some (let __src := xt 64; { arg := __src.arg, stage := __src.stage, fail := __src.fail, progAddr := __src.progAddr, argsAddr := __src.argsAddr, tmpl := __src.tmpl, join := __src.join, maxCreate := __src.maxCreate, below := __src.below, ntmpl := __src.ntmpl, prog := __src.prog, cands := __src.cands, tables := some (rtP 64), routed := __src.routed, route := __src.route, nlist := __src.nlist, listRead := __src.listRead, prepared := __src.prepared, params := __src.params, trunc := __src.trunc, creations := __src.creations, created := __src.created, acked := __src.acked, counts := __src.counts : Expansion })
    ∧ (let __src := xt 64; { arg := __src.arg, stage := __src.stage, fail := __src.fail, progAddr := __src.progAddr, argsAddr := __src.argsAddr, tmpl := __src.tmpl, join := __src.join, maxCreate := __src.maxCreate, below := __src.below, ntmpl := __src.ntmpl, prog := __src.prog, cands := __src.cands, tables := some (rtP 64), routed := __src.routed, route := __src.route, nlist := __src.nlist, listRead := __src.listRead, prepared := __src.prepared, params := __src.params, trunc := __src.trunc, creations := __src.creations, created := __src.created, acked := __src.acked, counts := __src.counts : Expansion }).mayRoute = true
    ∧ (let __src := xt 64; { arg := __src.arg, stage := __src.stage, fail := __src.fail, progAddr := __src.progAddr, argsAddr := __src.argsAddr, tmpl := __src.tmpl, join := __src.join, maxCreate := __src.maxCreate, below := __src.below, ntmpl := __src.ntmpl, prog := __src.prog, cands := __src.cands, tables := some (rtP 64), routed := __src.routed, route := __src.route, nlist := __src.nlist, listRead := __src.listRead, prepared := __src.prepared, params := __src.params, trunc := __src.trunc, creations := __src.creations, created := __src.created, acked := __src.acked, counts := __src.counts : Expansion }).tables = some (rtP 64)
    ∧ (routeAll (let __src := xt 64; { arg := __src.arg, stage := __src.stage, fail := __src.fail, progAddr := __src.progAddr, argsAddr := __src.argsAddr, tmpl := __src.tmpl, join := __src.join, maxCreate := __src.maxCreate, below := __src.below, ntmpl := __src.ntmpl, prog := __src.prog, cands := __src.cands, tables := some (rtP 64), routed := __src.routed, route := __src.route, nlist := __src.nlist, listRead := __src.listRead, prepared := __src.prepared, params := __src.params, trunc := __src.trunc, creations := __src.creations, created := __src.created, acked := __src.acked, counts := __src.counts : Expansion }).arg (rtP 64) (let __src := xt 64; { arg := __src.arg, stage := __src.stage, fail := __src.fail, progAddr := __src.progAddr, argsAddr := __src.argsAddr, tmpl := __src.tmpl, join := __src.join, maxCreate := __src.maxCreate, below := __src.below, ntmpl := __src.ntmpl, prog := __src.prog, cands := __src.cands, tables := some (rtP 64), routed := __src.routed, route := __src.route, nlist := __src.nlist, listRead := __src.listRead, prepared := __src.prepared, params := __src.params, trunc := __src.trunc, creations := __src.creations, created := __src.created, acked := __src.acked, counts := __src.counts : Expansion }).routed (let __src := xt 64; { arg := __src.arg, stage := __src.stage, fail := __src.fail, progAddr := __src.progAddr, argsAddr := __src.argsAddr, tmpl := __src.tmpl, join := __src.join, maxCreate := __src.maxCreate, below := __src.below, ntmpl := __src.ntmpl, prog := __src.prog, cands := __src.cands, tables := some (rtP 64), routed := __src.routed, route := __src.route, nlist := __src.nlist, listRead := __src.listRead, prepared := __src.prepared, params := __src.params, trunc := __src.trunc, creations := __src.creations, created := __src.created, acked := __src.acked, counts := __src.counts : Expansion }).cands (let __src := xt 64; { arg := __src.arg, stage := __src.stage, fail := __src.fail, progAddr := __src.progAddr, argsAddr := __src.argsAddr, tmpl := __src.tmpl, join := __src.join, maxCreate := __src.maxCreate, below := __src.below, ntmpl := __src.ntmpl, prog := __src.prog, cands := __src.cands, tables := some (rtP 64), routed := __src.routed, route := __src.route, nlist := __src.nlist, listRead := __src.listRead, prepared := __src.prepared, params := __src.params, trunc := __src.trunc, creations := __src.creations, created := __src.created, acked := __src.acked, counts := __src.counts : Expansion }).route).full = true
    -- 3
    ∧ ((exS (xq 1)).blk.saf 15).exp = some (xq 1)
    ∧ (xq 1).stage = ExpStage.creating
    ∧ (xq 1).prepared = false
    ∧ ((exS (xq 1)).blk.mp.writesFor fun w => w == WPurpose.routing 15 || w == WPurpose.spawnParam 15) = false
    ∧ (∀ (t d : Nat), (exS (xq 1)).blk.tmplParam 15 (xq 1) mQ t = some d
        → (exS (xq 1)).blk.mp.pendingWrite d 64 = false)
    ∧ (∀ a ∈ (xq 1).listArea ++ (xq 1).loadArea, (exS (xq 1)).blk.mp.pendingWrite a.1 a.2 = false)
    ∧ mQ.errs = []
    ∧ (xq 1).arg.mode ≠ 0
    ∧ (xq 1).arg.mode ≠ 0
    ∧ ((fun cs => ∀ c ∈ cs, ∀ (d : Nat), (exS (xq 1)).blk.tmplParam 15 (xq 1) mQ c.tsel = some d
        → reservedZero (mQ.wordsAt d 8) = true) (xq 1).creations)
    ∧ (xq 1).arg.track = true
    ∧ ((xq 1).arg.track = false ∨ (xq 1).arg.loadSrc = false)
    -- 3
    ∧ ((exS (xq 3)).blk.saf 15).exp = some (xq 3)
    ∧ (xq 3).stage = ExpStage.creating
    ∧ (xq 3).prepared = false
    ∧ ((exS (xq 3)).blk.mp.writesFor fun w => w == WPurpose.routing 15 || w == WPurpose.spawnParam 15) = false
    ∧ (∀ (t d : Nat), (exS (xq 3)).blk.tmplParam 15 (xq 3) mQ t = some d
        → (exS (xq 3)).blk.mp.pendingWrite d 64 = false)
    ∧ (∀ a ∈ (xq 3).listArea ++ (xq 3).loadArea, (exS (xq 3)).blk.mp.pendingWrite a.1 a.2 = false)
    ∧ mQ.errs = []
    ∧ (xq 3).arg.mode ≠ 0
    ∧ ((fun cs => ∀ c ∈ cs, ∀ (d : Nat), (exS (xq 3)).blk.tmplParam 15 (xq 3) mQ c.tsel = some d
        → reservedZero (mQ.wordsAt d 8) = true) (xq 3).creations)
    ∧ (xq 3).arg.track = true
    ∧ (xq 3).arg.loadSrc = true
    -- 3
    ∧ ((exS (xq 0)).blk.saf 15).exp = some (xq 0)
    ∧ (xq 0).stage = ExpStage.creating
    ∧ (xq 0).prepared = false
    ∧ ((exS (xq 0)).blk.mp.writesFor fun w => w == WPurpose.routing 15 || w == WPurpose.spawnParam 15) = false
    ∧ (∀ (t d : Nat), (exS (xq 0)).blk.tmplParam 15 (xq 0) mQ t = some d
        → (exS (xq 0)).blk.mp.pendingWrite d 64 = false)
    ∧ (∀ a ∈ (xq 0).listArea ++ (xq 0).loadArea, (exS (xq 0)).blk.mp.pendingWrite a.1 a.2 = false)
    ∧ mQ.errs = []
    ∧ (xq 0).arg.mode = 0
    ∧ (xq 0).listRead = false
    ∧ areasOk (xq 0).listArea = true
    ∧ (∀ i < (xq 0).nlist, creationOk mQ ((xq 0).arg.clist + 16 * i) (xq 0).ntmpl (recKind mQ ((exS (xq 0)).blk.tmplAddr 15 (xq 0) (readCreation mQ ((xq 0).arg.clist + 16 * i) 0).tsel) == 0) = true)
    ∧ (∀ c ∈ List.take (xq 0).maxCreate (List.map (fun i => readCreation mQ ((xq 0).arg.clist + 16 * i) i) (List.range (xq 0).nlist)), (exS (xq 0)).blk.affOk 15 (xq 0) mQ c = true)
    ∧ (∀ (k : Nat) (c : Creation), (List.take (xq 0).maxCreate (List.map (fun i => readCreation mQ ((xq 0).arg.clist + 16 * i) i) (List.range (xq 0).nlist)))[k]? = some c → (exS (xq 0)).blk.blockFits 15 (xq 0) mQ k c = true)
    ∧ ((fun cs => ∀ c ∈ cs, ∀ (d : Nat), (exS (xq 0)).blk.tmplParam 15 (xq 0) mQ c.tsel = some d
        → reservedZero (mQ.wordsAt d 8)
        = true) (List.take (xq 0).maxCreate (List.map (fun i => readCreation mQ ((xq 0).arg.clist + 16 * i) i) (List.range (xq 0).nlist))))
    ∧ (xq 0).arg.mode = 0
    ∧ (xq 0).listRead = false
    ∧ areasOk (xq 0).listArea = true
    -- 3
    ∧ ((exS (xq 0)).blk.saf 15).exp = some (xq 0)
    ∧ (xq 0).stage = ExpStage.creating
    ∧ (xq 0).prepared = false
    ∧ ((exS (xq 0)).blk.mp.writesFor fun w => w == WPurpose.routing 15 || w == WPurpose.spawnParam 15) = false
    ∧ (∀ (t d : Nat), (exS (xq 0)).blk.tmplParam 15 (xq 0) mB t = some d
        → (exS (xq 0)).blk.mp.pendingWrite d 64 = false)
    ∧ (∀ a ∈ (xq 0).listArea ++ (xq 0).loadArea, (exS (xq 0)).blk.mp.pendingWrite a.1 a.2 = false)
    ∧ mB.errs = []
    ∧ (xq 0).arg.mode = 0
    ∧ (xq 0).listRead = false
    ∧ areasOk (xq 0).listArea = true
    ∧ (∃ i < (xq 0).nlist, creationOk mB ((xq 0).arg.clist + 16 * i) (xq 0).ntmpl (recKind mB ((exS (xq 0)).blk.tmplAddr 15 (xq 0) (readCreation mB ((xq 0).arg.clist + 16 * i) 0).tsel) == 0) = false)
    -- 4
    ∧ ((exS (xc false)).blk.saf 15).exp = some (xc false)
    ∧ (xc false).stage = ExpStage.creating
    ∧ ((exS (xc false)).blk.mp.writesFor fun w => w == WPurpose.routing 15 || w == WPurpose.spawnParam 15)
        = false
    ∧ (xc false).prepared = true
    ∧ (xc false).creations[(xc false).created]? = some cr
    ∧ (xc false).acked = false
    ∧ (exS (xc false)).blk.tmplParam 15 (xc false) mTask cr.tsel
        = some (((exS (xc false)).blk.tmplParam 15 (xc false) mTask cr.tsel).get (by decide +kernel))
    ∧ (xc false).acked = false
    -- 4
    ∧ ((exS (xc true)).blk.saf 15).exp = some (xc true)
    ∧ (xc true).stage = ExpStage.creating
    ∧ ((exS (xc true)).blk.mp.writesFor fun w => w == WPurpose.routing 15 || w == WPurpose.spawnParam 15)
        = false
    ∧ (xc true).prepared = true
    ∧ (xc true).creations[(xc true).created]? = some cr
    ∧ (xc true).acked = true
    ∧ (exS (xc true)).blk.tmplParam 15 (xc true) mTask cr.tsel
        = some (((exS (xc true)).blk.tmplParam 15 (xc true) mTask cr.tsel).get (by decide +kernel))
    ∧ Block.roomUp (exS (xc true)).params (exS (xc true)).blk 15 = true
    -- 4
    ∧ ((exS (xc false)).blk.saf 15).exp = some (xc false)
    ∧ (xc false).stage = ExpStage.creating
    ∧ ((exS (xc false)).blk.mp.writesFor fun w => w == WPurpose.routing 15 || w == WPurpose.spawnParam 15)
        = false
    ∧ (xc false).prepared = true
    ∧ (xc false).creations[(xc false).created]? = some cr
    ∧ (xc false).acked = false
    ∧ (exS (xc false)).blk.tmplParam 15 (xc false) mNop cr.tsel = none
    ∧ Block.roomUp (exS (xc false)).params (exS (xc false)).blk 15 = true
    -- 4
    ∧ ((full15 (exS (xc true))).blk.saf 15).exp = some (xc true)
    ∧ (xc true).stage = ExpStage.creating
    ∧ ((full15 (exS (xc true))).blk.mp.writesFor fun w => w == WPurpose.routing 15 || w == WPurpose.spawnParam 15) = false
    ∧ (xc true).prepared = true
    ∧ (xc true).creations[(xc true).created]? = some cr
    ∧ Block.roomUp (full15 (exS (xc true))).params (full15 (exS (xc true))).blk 15 = false
    ∧ ((xc true).acked = true ∨ (full15 (exS (xc true))).blk.tmplParam 15 (xc true) mTask cr.tsel = none)
    -- 3
    ∧ ((exS (xq 1)).blk.saf 15).exp = some (xq 1)
    ∧ (xq 1).stage = ExpStage.creating
    ∧ (xq 1).prepared = false
    ∧ ((exS (xq 1)).blk.mp.writesFor fun w => w == WPurpose.routing 15 || w == WPurpose.spawnParam 15) = false
    ∧ (∀ (t d : Nat), (exS (xq 1)).blk.tmplParam 15 (xq 1) mW t = some d
        → (exS (xq 1)).blk.mp.pendingWrite d 64 = false)
    ∧ (∀ a ∈ (xq 1).listArea ++ (xq 1).loadArea, (exS (xq 1)).blk.mp.pendingWrite a.1 a.2 = false)
    ∧ mW.errs = []
    ∧ (xq 1).arg.mode ≠ 0
    ∧ (¬(fun cs => ∀ c ∈ cs, ∀ (d : Nat), (exS (xq 1)).blk.tmplParam 15 (xq 1) mW c.tsel = some d
        → reservedZero (mW.wordsAt d 8) = true) (xq 1).creations)
    -- 5
    ∧ ((exS xe).blk.saf 15).exp = some xe
    ∧ xe.stage = ExpStage.retiring
    ∧ ((exS xe).blk.mp.writesFor fun w => w == WPurpose.routing 15 || w == WPurpose.spawnParam 15) = false
    ∧ (exS xe).blk.mp.programWrites 15 = false
    ∧ ((exS xe).blk.bead 15).tileOf ((exS xe).blk.saf 15).win = none
    ∧ ((exS xe).blk.win 15 ((exS xe).blk.saf 15).win).eccBad = false
    ∧ (isFailure xe.final = false ∧ xe.arg.track = true
        ∧ ((exS xe).blk.sub ((exS xe).blk.expNode 15).1).live = true)
    -- 5
    ∧ ((exS xe2).blk.saf 15).exp = some xe2
    ∧ xe2.stage = ExpStage.retiring
    ∧ ((exS xe2).blk.mp.writesFor fun w => w == WPurpose.routing 15 || w == WPurpose.spawnParam 15) = false
    ∧ (exS xe2).blk.mp.programWrites 15 = false
    ∧ ((exS xe2).blk.bead 15).tileOf ((exS xe2).blk.saf 15).win = none
    ∧ ((exS xe2).blk.win 15 ((exS xe2).blk.saf 15).win).eccBad = false
    ∧ (¬(isFailure xe2.final = false ∧ xe2.arg.track = true
        ∧ ((exS xe2).blk.sub ((exS xe2).blk.expNode 15).1).live = true)) := by
  refine ⟨?_, ?_, ?_, ?_, ?_, ?_, ?_, ?_, ?_, ?_, ?_, ?_, ?_, ?_, ?_, ?_, ?_, ?_, ?_, ?_, ?_, ?_, ?_, ?_, ?_,
    ?_, ?_, ?_, ?_, ?_, ?_, ?_, ?_, ?_, ?_, ?_, ?_, ?_, ?_, ?_, ?_, ?_, ?_, ?_, ?_, ?_, ?_, ?_, ?_, ?_, ?_,
    ?_, ?_, ?_, ?_, ?_, ?_, ?_, ?_, ?_, ?_, ?_, ?_, ?_, ?_, ?_, ?_, ?_, ?_, ?_, ?_, ?_, ?_, ?_, ?_, ?_, ?_,
    ?_, ?_, ?_, ?_, ?_, ?_, ?_, ?_, ?_, ?_, ?_, ?_, ?_, ?_, ?_, ?_, ?_, ?_, ?_, ?_, ?_, ?_, ?_, ?_, ?_, ?_,
    ?_, ?_, ?_, ?_, ?_, ?_, ?_, ?_, ?_, ?_, ?_, ?_, ?_, ?_, ?_, ?_, ?_, ?_, ?_, ?_, ?_, ?_, ?_, ?_, ?_, ?_,
    ?_, ?_, ?_, ?_, ?_, ?_, ?_, ?_, ?_, ?_, ?_, ?_, ?_, ?_, ?_, ?_⟩ <;>
    first | decide +kernel | (intro t d _; rfl) | exact forall_at (by decide +kernel)
def tpp_1_1a : State := pl fun x => { x with planning := true, enable := true, version := 4, got := [(1, 5)], acc := [(4096, 4)] }
def tpp_1_1b : MemView := {}
def tpp_1_2 : MemView := {}
def tpp_1_2r2a : State := plw fun x => { x with got := [(0, 30)] }
def tpp_1_2r2b : MemView := {}
def tpp_2a : State := ondB (pl fun x => { x with enable := true, version := 3 }) fun b => subB b 9 fun x => { x with version := 2, table := 5 }
def tpp_2b : MemView := {}
def tpp_2c : Nat × Machine.Sub := (9, (subB bRun 9 fun x => { x with version := 2, table := 5 }).sub 9)
def tpp_3 : State := pl fun x => { x with enable := true }
def tpp_3r2 : State := pl fun x => { x with enable := true, held := true }
def tpp_3r4 : State := pl fun x => { x with got := [(1, 5)], acc := [(4096, 4)], late := 5 }
def tpp_3r5 : State := ondB (pl id) fun b => b.modDom 4 fun d => { d with state := .off }
theorem witness_ThePlannerPublishes :
    -- 1.1
    tpp_1_1a.blk.setting.experts = some ex0
    ∧ tpp_1_1a.blk.experts.planning = true
    ∧ (tpp_1_1a.blk.mp.writesFor fun x => x == WPurpose.table) = false
    -- 1.2
    ∧ (plw id).blk.setting.experts = some ex0
    ∧ (plw id).blk.experts.planning = false
    ∧ (plw id).blk.experts.enable = true
    ∧ (plw id).blk.experts.version + 1 ∈ (plw id).blk.waitingVersions
    ∧ (∀ t ∈ (plw id).blk.graph.subs, t.2.live = true → ¬(3 ≤ (plw id).blk.experts.version + 1
        ∧ t.2.version = (plw id).blk.experts.version - 1)
        ∧ t.2.table ≠ (plw id).blk.experts.baseAddr + tableOffset ((plw id).blk.experts.version + 1))
    ∧ (plw id).blk.intervalDone ((plw id).blk.experts.version + 1) = false
    -- 1.2
    ∧ tpp_1_2r2a.blk.setting.experts = some ex0
    ∧ tpp_1_2r2a.blk.experts.planning = false
    ∧ tpp_1_2r2a.blk.experts.enable = true
    ∧ tpp_1_2r2a.blk.experts.version + 1 ∈ tpp_1_2r2a.blk.waitingVersions
    ∧ (∀ t ∈ tpp_1_2r2a.blk.graph.subs, t.2.live = true → ¬(3 ≤ tpp_1_2r2a.blk.experts.version + 1
        ∧ t.2.version = tpp_1_2r2a.blk.experts.version - 1)
        ∧ t.2.table ≠ tpp_1_2r2a.blk.experts.baseAddr + tableOffset (tpp_1_2r2a.blk.experts.version + 1))
    ∧ tpp_1_2r2a.blk.intervalDone (tpp_1_2r2a.blk.experts.version + 1) = true
    ∧ tpp_1_2r2a.blk.mp.pendingWrite tpp_1_2r2a.blk.experts.baseAddr (64 * ex0.nexperts) = false
    ∧ (∀ i < ex0.nexperts, tpp_1_2r2b.status Status.format (tpp_1_2r2a.blk.experts.baseAddr + 64 * i) 8
        = Status.ok)
    ∧ tpp_1_2r2b.errs = []
    -- 2
    ∧ tpp_2a.blk.experts.planning = false
    ∧ tpp_2c ∈ tpp_2a.blk.graph.subs
    ∧ tpp_2c.2.live = true
    ∧ (3 ≤ tpp_2a.blk.experts.version + 1 ∧ tpp_2c.2.version
        = tpp_2a.blk.experts.version - 1 ∨ tpp_2c.2.table
        = tpp_2a.blk.experts.baseAddr + tableOffset (tpp_2a.blk.experts.version + 1))
    -- 3
    ∧ Performs tpp_3 A0 Reg.expCfg true
    ∧ tpp_3.blk.experts.enable = true
    ∧ (-1 : BitVec 32).getLsbD 0 = true
    ∧ tpp_3.blk.experts.enable = true
    -- 3
    ∧ Performs tpp_3r2 A0 Reg.expCfg true
    ∧ tpp_3r2.blk.experts.enable = true
    ∧ (-2 : BitVec 32).getLsbD 0 = false
    -- 3
    ∧ Performs (pl id) A0 Reg.expCfg true
    ∧ (pl id).blk.experts.enable = false
    ∧ (-2 : BitVec 32).getLsbD 0 = false
    ∧ (pl id).blk.experts.enable = false
    ∧ (pl id).blk.experts.enable = false
    -- 3
    ∧ Performs tpp_3r4 A0 Reg.expCfg true
    ∧ tpp_3r4.blk.experts.enable = false
    ∧ (-1 : BitVec 32).getLsbD 0 = true
    ∧ tpp_3r4.blk.experts.enable = false
    ∧ (-1 : BitVec 32).getLsbD 0 = true
    ∧ (tpp_3r4.blk.dom 4).state = DState.on
    -- 3
    ∧ Performs tpp_3r5 A0 Reg.expCfg true
    ∧ tpp_3r5.blk.experts.enable = false
    ∧ (-1 : BitVec 32).getLsbD 0 = true
    ∧ (tpp_3r5.blk.dom 4).state ≠ DState.on := by
  refine ⟨?_, ?_, ?_, ?_, ?_, ?_, ?_, ?_, ?_, ?_, ?_, ?_, ?_, ?_, ?_, ?_, ?_, ?_, ?_, ?_, ?_, ?_, ?_, ?_, ?_,
    ?_, ?_, ?_, ?_, ?_, ?_, ?_, ?_, ?_, ?_, ?_, ?_, ?_, ?_, ?_, ?_, ?_, ?_, ?_⟩ <;>
    first | decide +kernel | (unfold Performs; decide +kernel)
end Expansions

namespace SaffronCore
def fT (d a b : BitVec 4) (c : BitVec 4 := 0) (msel : BitVec 2 := 0) (mu : Bool := false) (mod : BitVec 5 := 0) : TFmt := ⟨d, a, b, c, msel, mu, mod⟩
def wT (op : Nat) (f : TFmt) : BitVec 32 := BitVec.ofNat 32 (op * 2^24 + f.enc)
def endW : BitVec 32 := 0x4F000000
def tilesAB (u : Saffron) : Saffron := { u with
  tiles := [(0, (List.range 1024).map fun k => BitVec.ofNat 16 (k * 77)), (15, (List.range 1024).map fun k => BitVec.ofNat 16 (65535 - k * 131))]
  masks := [(2, (List.range 1024).map fun k => k % 3 == 0), (3, (List.range 1000).map fun k => k % 5 == 0)] }
def sT (op : Nat) (f : TFmt) : State := saf [wT op f, endW] tilesAB
def fu : TFmt := fT 1 0 15 0 2 true
def sBud : State := ondB (sT 1 fu) fun b => b.modSaf 15 fun u => { u with instr := 16777216 }
theorem witness_ElementAndMaskOperations :
    -- 1.1
    SaffronAt (sT 1 fu).blk 15 (1 * 2 ^ 24 + fu.enc)
    ∧ (fun f => f.c == (0 : BitVec 4) && f.mod == (0 : BitVec 5)) fu = true
    ∧ HasInstr (sT 1 fu).blk 15 (((sT 1 fu).blk.saf 15).pc + 1)
    ∧ (fun f => f.c == (0 : BitVec 4) && f.mod == (0 : BitVec 5)) fu = true
    -- 1.1
    ∧ SaffronAt (sT 1 (fT (1 : BitVec 4) (2 : BitVec 4) (3 : BitVec 4) (1 : BitVec 4))).blk 15 (1 * 2 ^ 24 + (fT (1 : BitVec 4) (2 : BitVec 4) (3 : BitVec 4) (1 : BitVec 4)).enc)
    ∧ (fun f => f.c == (0 : BitVec 4) && f.mod == (0 : BitVec 5)) (fT (1 : BitVec 4) (2 : BitVec 4) (3 : BitVec 4) (1 : BitVec 4)) = false
    -- 1.2
    ∧ SaffronAt (sT 2 fu).blk 15 (2 * 2 ^ 24 + fu.enc)
    ∧ (fun f => f.c == (0 : BitVec 4) && f.mod == (0 : BitVec 5)) fu = true
    ∧ HasInstr (sT 2 fu).blk 15 (((sT 2 fu).blk.saf 15).pc + 1)
    ∧ (fun f => f.c == (0 : BitVec 4) && f.mod == (0 : BitVec 5)) fu = true
    -- 1.2
    ∧ SaffronAt (sT 2 (fT (1 : BitVec 4) (2 : BitVec 4) (3 : BitVec 4) (1 : BitVec 4))).blk 15 (2 * 2 ^ 24 + (fT (1 : BitVec 4) (2 : BitVec 4) (3 : BitVec 4) (1 : BitVec 4)).enc)
    ∧ (fun f => f.c == (0 : BitVec 4) && f.mod == (0 : BitVec 5)) (fT (1 : BitVec 4) (2 : BitVec 4) (3 : BitVec 4) (1 : BitVec 4)) = false
    -- 1.3
    ∧ SaffronAt (sT 3 fu).blk 15 (3 * 2 ^ 24 + fu.enc)
    ∧ (fun f => f.c == (0 : BitVec 4) && f.mod == (0 : BitVec 5)) fu = true
    ∧ HasInstr (sT 3 fu).blk 15 (((sT 3 fu).blk.saf 15).pc + 1)
    ∧ (fun f => f.c == (0 : BitVec 4) && f.mod == (0 : BitVec 5)) fu = true
    -- 1.3
    ∧ SaffronAt (sT 3 (fT (1 : BitVec 4) (2 : BitVec 4) (3 : BitVec 4) (1 : BitVec 4))).blk 15 (3 * 2 ^ 24 + (fT (1 : BitVec 4) (2 : BitVec 4) (3 : BitVec 4) (1 : BitVec 4)).enc)
    ∧ (fun f => f.c == (0 : BitVec 4) && f.mod == (0 : BitVec 5)) (fT (1 : BitVec 4) (2 : BitVec 4) (3 : BitVec 4) (1 : BitVec 4)) = false
    -- 1.4
    ∧ SaffronAt (sT 4 (fT (1 : BitVec 4) (15 : BitVec 4) (0 : BitVec 4) (0 : BitVec 4) (2 : BitVec 2) true)).blk 15 (4 * 2 ^ 24 + (fT (1 : BitVec 4) (15 : BitVec 4) (0 : BitVec 4) (0 : BitVec 4) (2 : BitVec 2) true).enc)
    ∧ (fun f => (fun f => f.b == (0 : BitVec 4) && f.c == (0 : BitVec 4)) f && f.mod == (0 : BitVec 5)) (fT (1 : BitVec 4) (15 : BitVec 4) (0 : BitVec 4) (0 : BitVec 4) (2 : BitVec 2) true) = true
    ∧ HasInstr (sT 4 (fT (1 : BitVec 4) (15 : BitVec 4) (0 : BitVec 4) (0 : BitVec 4) (2 : BitVec 2) true)).blk 15 (((sT 4 (fT (1 : BitVec 4) (15 : BitVec 4) (0 : BitVec 4) (0 : BitVec 4) (2 : BitVec 2) true)).blk.saf 15).pc + 1)
    ∧ (fun f => (fun f => f.b == (0 : BitVec 4) && f.c == (0 : BitVec 4)) f && f.mod == (0 : BitVec 5)) (fT (1 : BitVec 4) (15 : BitVec 4) (0 : BitVec 4) (0 : BitVec 4) (2 : BitVec 2) true) = true
    -- 1.4
    ∧ SaffronAt (sT 4 (fT (1 : BitVec 4) (2 : BitVec 4) (3 : BitVec 4) (1 : BitVec 4))).blk 15 (4 * 2 ^ 24 + (fT (1 : BitVec 4) (2 : BitVec 4) (3 : BitVec 4) (1 : BitVec 4)).enc)
    ∧ (fun f => (fun f => f.b == (0 : BitVec 4) && f.c == (0 : BitVec 4)) f && f.mod == (0 : BitVec 5)) (fT (1 : BitVec 4) (2 : BitVec 4) (3 : BitVec 4) (1 : BitVec 4)) = false
    -- 1.5
    ∧ SaffronAt (sT 5 (fT (1 : BitVec 4) (15 : BitVec 4) (0 : BitVec 4) (0 : BitVec 4) (2 : BitVec 2) true (5 : BitVec 5))).blk 15 (5 * 2 ^ 24 + (fT (1 : BitVec 4) (15 : BitVec 4) (0 : BitVec 4) (0 : BitVec 4) (2 : BitVec 2) true (5 : BitVec 5)).enc)
    ∧ (fun f => f.b == (0 : BitVec 4) && f.c == (0 : BitVec 4)) (fT (1 : BitVec 4) (15 : BitVec 4) (0 : BitVec 4) (0 : BitVec 4) (2 : BitVec 2) true (5 : BitVec 5)) = true
    ∧ HasInstr (sT 5 (fT (1 : BitVec 4) (15 : BitVec 4) (0 : BitVec 4) (0 : BitVec 4) (2 : BitVec 2) true (5 : BitVec 5))).blk 15 (((sT 5 (fT (1 : BitVec 4) (15 : BitVec 4) (0 : BitVec 4) (0 : BitVec 4) (2 : BitVec 2) true (5 : BitVec 5))).blk.saf 15).pc + 1)
    ∧ (fun f => f.b == (0 : BitVec 4) && f.c == (0 : BitVec 4)) (fT (1 : BitVec 4) (15 : BitVec 4) (0 : BitVec 4) (0 : BitVec 4) (2 : BitVec 2) true (5 : BitVec 5)) = true
    -- 1.5
    ∧ SaffronAt (sT 5 (fT (1 : BitVec 4) (2 : BitVec 4) (3 : BitVec 4) (1 : BitVec 4))).blk 15 (5 * 2 ^ 24 + (fT (1 : BitVec 4) (2 : BitVec 4) (3 : BitVec 4) (1 : BitVec 4)).enc)
    ∧ (fun f => f.b == (0 : BitVec 4) && f.c == (0 : BitVec 4)) (fT (1 : BitVec 4) (2 : BitVec 4) (3 : BitVec 4) (1 : BitVec 4)) = false
    -- 1.6
    ∧ SaffronAt (sT 6 (fT (1 : BitVec 4) (15 : BitVec 4) (0 : BitVec 4) (0 : BitVec 4) (2 : BitVec 2) true (5 : BitVec 5))).blk 15 (6 * 2 ^ 24 + (fT (1 : BitVec 4) (15 : BitVec 4) (0 : BitVec 4) (0 : BitVec 4) (2 : BitVec 2) true (5 : BitVec 5)).enc)
    ∧ (fun f => f.b == (0 : BitVec 4) && f.c == (0 : BitVec 4)) (fT (1 : BitVec 4) (15 : BitVec 4) (0 : BitVec 4) (0 : BitVec 4) (2 : BitVec 2) true (5 : BitVec 5)) = true
    ∧ HasInstr (sT 6 (fT (1 : BitVec 4) (15 : BitVec 4) (0 : BitVec 4) (0 : BitVec 4) (2 : BitVec 2) true (5 : BitVec 5))).blk 15 (((sT 6 (fT (1 : BitVec 4) (15 : BitVec 4) (0 : BitVec 4) (0 : BitVec 4) (2 : BitVec 2) true (5 : BitVec 5))).blk.saf 15).pc + 1)
    ∧ (fun f => f.b == (0 : BitVec 4) && f.c == (0 : BitVec 4)) (fT (1 : BitVec 4) (15 : BitVec 4) (0 : BitVec 4) (0 : BitVec 4) (2 : BitVec 2) true (5 : BitVec 5)) = true
    -- 1.6
    ∧ SaffronAt (sT 6 (fT (1 : BitVec 4) (2 : BitVec 4) (3 : BitVec 4) (1 : BitVec 4))).blk 15 (6 * 2 ^ 24 + (fT (1 : BitVec 4) (2 : BitVec 4) (3 : BitVec 4) (1 : BitVec 4)).enc)
    ∧ (fun f => f.b == (0 : BitVec 4) && f.c == (0 : BitVec 4)) (fT (1 : BitVec 4) (2 : BitVec 4) (3 : BitVec 4) (1 : BitVec 4)) = false
    -- 1.7
    ∧ SaffronAt (sT 7 (fT (1 : BitVec 4) (15 : BitVec 4) (0 : BitVec 4) (0 : BitVec 4) (2 : BitVec 2) true (5 : BitVec 5))).blk 15 (7 * 2 ^ 24 + (fT (1 : BitVec 4) (15 : BitVec 4) (0 : BitVec 4) (0 : BitVec 4) (2 : BitVec 2) true (5 : BitVec 5)).enc)
    ∧ (fun f => f.b == (0 : BitVec 4) && f.c == (0 : BitVec 4)) (fT (1 : BitVec 4) (15 : BitVec 4) (0 : BitVec 4) (0 : BitVec 4) (2 : BitVec 2) true (5 : BitVec 5)) = true
    ∧ HasInstr (sT 7 (fT (1 : BitVec 4) (15 : BitVec 4) (0 : BitVec 4) (0 : BitVec 4) (2 : BitVec 2) true (5 : BitVec 5))).blk 15 (((sT 7 (fT (1 : BitVec 4) (15 : BitVec 4) (0 : BitVec 4) (0 : BitVec 4) (2 : BitVec 2) true (5 : BitVec 5))).blk.saf 15).pc + 1)
    ∧ (fun f => f.b == (0 : BitVec 4) && f.c == (0 : BitVec 4)) (fT (1 : BitVec 4) (15 : BitVec 4) (0 : BitVec 4) (0 : BitVec 4) (2 : BitVec 2) true (5 : BitVec 5)) = true
    -- 1.7
    ∧ SaffronAt (sT 7 (fT (1 : BitVec 4) (2 : BitVec 4) (3 : BitVec 4) (1 : BitVec 4))).blk 15 (7 * 2 ^ 24 + (fT (1 : BitVec 4) (2 : BitVec 4) (3 : BitVec 4) (1 : BitVec 4)).enc)
    ∧ (fun f => f.b == (0 : BitVec 4) && f.c == (0 : BitVec 4)) (fT (1 : BitVec 4) (2 : BitVec 4) (3 : BitVec 4) (1 : BitVec 4)) = false
    -- 1.8
    ∧ SaffronAt (sT 8 fu).blk 15 (8 * 2 ^ 24 + fu.enc)
    ∧ (fun f => f.c == (0 : BitVec 4) && f.mod == (0 : BitVec 5)) fu = true
    ∧ HasInstr (sT 8 fu).blk 15 (((sT 8 fu).blk.saf 15).pc + 1)
    ∧ (fun f => f.c == (0 : BitVec 4) && f.mod == (0 : BitVec 5)) fu = true
    -- 1.8
    ∧ SaffronAt (sT 8 (fT (1 : BitVec 4) (2 : BitVec 4) (3 : BitVec 4) (1 : BitVec 4))).blk 15 (8 * 2 ^ 24 + (fT (1 : BitVec 4) (2 : BitVec 4) (3 : BitVec 4) (1 : BitVec 4)).enc)
    ∧ (fun f => f.c == (0 : BitVec 4) && f.mod == (0 : BitVec 5)) (fT (1 : BitVec 4) (2 : BitVec 4) (3 : BitVec 4) (1 : BitVec 4)) = false
    -- 1.9
    ∧ SaffronAt (sT 9 fu).blk 15 (9 * 2 ^ 24 + fu.enc)
    ∧ (fun f => f.c == (0 : BitVec 4) && f.mod == (0 : BitVec 5)) fu = true
    ∧ HasInstr (sT 9 fu).blk 15 (((sT 9 fu).blk.saf 15).pc + 1)
    ∧ (fun f => f.c == (0 : BitVec 4) && f.mod == (0 : BitVec 5)) fu = true
    -- 1.9
    ∧ SaffronAt (sT 9 (fT (1 : BitVec 4) (2 : BitVec 4) (3 : BitVec 4) (1 : BitVec 4))).blk 15 (9 * 2 ^ 24 + (fT (1 : BitVec 4) (2 : BitVec 4) (3 : BitVec 4) (1 : BitVec 4)).enc)
    ∧ (fun f => f.c == (0 : BitVec 4) && f.mod == (0 : BitVec 5)) (fT (1 : BitVec 4) (2 : BitVec 4) (3 : BitVec 4) (1 : BitVec 4)) = false
    -- 1.10
    ∧ SaffronAt (sT 10 fu).blk 15 (10 * 2 ^ 24 + fu.enc)
    ∧ (fun f => f.c == (0 : BitVec 4) && f.mod == (0 : BitVec 5)) fu = true
    ∧ HasInstr (sT 10 fu).blk 15 (((sT 10 fu).blk.saf 15).pc + 1)
    ∧ (fun f => f.c == (0 : BitVec 4) && f.mod == (0 : BitVec 5)) fu = true
    -- 1.10
    ∧ SaffronAt (sT 10 (fT (1 : BitVec 4) (2 : BitVec 4) (3 : BitVec 4) (1 : BitVec 4))).blk 15 (10 * 2 ^ 24 + (fT (1 : BitVec 4) (2 : BitVec 4) (3 : BitVec 4) (1 : BitVec 4)).enc)
    ∧ (fun f => f.c == (0 : BitVec 4) && f.mod == (0 : BitVec 5)) (fT (1 : BitVec 4) (2 : BitVec 4) (3 : BitVec 4) (1 : BitVec 4)) = false
    -- 1.11
    ∧ SaffronAt (sT 11 fu).blk 15 (11 * 2 ^ 24 + fu.enc)
    ∧ (fun f => f.c == (0 : BitVec 4) && f.mod == (0 : BitVec 5)) fu = true
    ∧ HasInstr (sT 11 fu).blk 15 (((sT 11 fu).blk.saf 15).pc + 1)
    ∧ (fun f => f.c == (0 : BitVec 4) && f.mod == (0 : BitVec 5)) fu = true
    -- 1.11
    ∧ SaffronAt (sT 11 (fT (1 : BitVec 4) (2 : BitVec 4) (3 : BitVec 4) (1 : BitVec 4))).blk 15 (11 * 2 ^ 24 + (fT (1 : BitVec 4) (2 : BitVec 4) (3 : BitVec 4) (1 : BitVec 4)).enc)
    ∧ (fun f => f.c == (0 : BitVec 4) && f.mod == (0 : BitVec 5)) (fT (1 : BitVec 4) (2 : BitVec 4) (3 : BitVec 4) (1 : BitVec 4)) = false
    -- 1.12
    ∧ SaffronAt (sT 12 fu).blk 15 (12 * 2 ^ 24 + fu.enc)
    ∧ (fun f => f.c == (0 : BitVec 4) && f.mod == (0 : BitVec 5)) fu = true
    ∧ HasInstr (sT 12 fu).blk 15 (((sT 12 fu).blk.saf 15).pc + 1)
    ∧ (fun f => f.c == (0 : BitVec 4) && f.mod == (0 : BitVec 5)) fu = true
    -- 1.12
    ∧ SaffronAt (sT 12 (fT (1 : BitVec 4) (2 : BitVec 4) (3 : BitVec 4) (1 : BitVec 4))).blk 15 (12 * 2 ^ 24 + (fT (1 : BitVec 4) (2 : BitVec 4) (3 : BitVec 4) (1 : BitVec 4)).enc)
    ∧ (fun f => f.c == (0 : BitVec 4) && f.mod == (0 : BitVec 5)) (fT (1 : BitVec 4) (2 : BitVec 4) (3 : BitVec 4) (1 : BitVec 4)) = false
    -- 1.13
    ∧ SaffronAt (sT 13 fu).blk 15 (13 * 2 ^ 24 + fu.enc)
    ∧ (fun f => f.c == (0 : BitVec 4) && f.mod == (0 : BitVec 5)) fu = true
    ∧ HasInstr (sT 13 fu).blk 15 (((sT 13 fu).blk.saf 15).pc + 1)
    ∧ (fun f => f.c == (0 : BitVec 4) && f.mod == (0 : BitVec 5)) fu = true
    -- 1.13
    ∧ SaffronAt (sT 13 (fT (1 : BitVec 4) (2 : BitVec 4) (3 : BitVec 4) (1 : BitVec 4))).blk 15 (13 * 2 ^ 24 + (fT (1 : BitVec 4) (2 : BitVec 4) (3 : BitVec 4) (1 : BitVec 4)).enc)
    ∧ (fun f => f.c == (0 : BitVec 4) && f.mod == (0 : BitVec 5)) (fT (1 : BitVec 4) (2 : BitVec 4) (3 : BitVec 4) (1 : BitVec 4)) = false
    -- 1.14
    ∧ SaffronAt (sT 14 fu).blk 15 (14 * 2 ^ 24 + fu.enc)
    ∧ (fun f => f.c == (0 : BitVec 4) && decide (f.mod.toNat < 2)) fu = true
    ∧ HasInstr (sT 14 fu).blk 15 (((sT 14 fu).blk.saf 15).pc + 1)
    ∧ (fun f => f.c == (0 : BitVec 4) && decide (f.mod.toNat < 2)) fu = true
    -- 1.14
    ∧ SaffronAt (sT 14 (fT (1 : BitVec 4) (2 : BitVec 4) (3 : BitVec 4) (1 : BitVec 4))).blk 15 (14 * 2 ^ 24 + (fT (1 : BitVec 4) (2 : BitVec 4) (3 : BitVec 4) (1 : BitVec 4)).enc)
    ∧ (fun f => f.c == (0 : BitVec 4) && decide (f.mod.toNat < 2)) (fT (1 : BitVec 4) (2 : BitVec 4) (3 : BitVec 4) (1 : BitVec 4)) = false
    -- 1.15
    ∧ SaffronAt (sT 15 fu).blk 15 (15 * 2 ^ 24 + fu.enc)
    ∧ (fun f => f.c == (0 : BitVec 4) && decide (f.mod.toNat < 2)) fu = true
    ∧ HasInstr (sT 15 fu).blk 15 (((sT 15 fu).blk.saf 15).pc + 1)
    ∧ (fun f => f.c == (0 : BitVec 4) && decide (f.mod.toNat < 2)) fu = true
    -- 1.15
    ∧ SaffronAt (sT 15 (fT (1 : BitVec 4) (2 : BitVec 4) (3 : BitVec 4) (1 : BitVec 4))).blk 15 (15 * 2 ^ 24 + (fT (1 : BitVec 4) (2 : BitVec 4) (3 : BitVec 4) (1 : BitVec 4)).enc)
    ∧ (fun f => f.c == (0 : BitVec 4) && decide (f.mod.toNat < 2)) (fT (1 : BitVec 4) (2 : BitVec 4) (3 : BitVec 4) (1 : BitVec 4)) = false
    -- 1.16
    ∧ SaffronAt (sT 20 (fT (1 : BitVec 4) (15 : BitVec 4) (0 : BitVec 4) (0 : BitVec 4) (2 : BitVec 2) true (1 : BitVec 5))).blk 15 (20 * 2 ^ 24 + (fT (1 : BitVec 4) (15 : BitVec 4) (0 : BitVec 4) (0 : BitVec 4) (2 : BitVec 2) true (1 : BitVec 5)).enc)
    ∧ (fun f => (fun f => f.b == (0 : BitVec 4) && f.c == (0 : BitVec 4)) f && decide (f.mod.toNat < 2)) (fT (1 : BitVec 4) (15 : BitVec 4) (0 : BitVec 4) (0 : BitVec 4) (2 : BitVec 2) true (1 : BitVec 5)) = true
    ∧ HasInstr (sT 20 (fT (1 : BitVec 4) (15 : BitVec 4) (0 : BitVec 4) (0 : BitVec 4) (2 : BitVec 2) true (1 : BitVec 5))).blk 15 (((sT 20 (fT (1 : BitVec 4) (15 : BitVec 4) (0 : BitVec 4) (0 : BitVec 4) (2 : BitVec 2) true (1 : BitVec 5))).blk.saf 15).pc + 1)
    ∧ (fun f => (fun f => f.b == (0 : BitVec 4) && f.c == (0 : BitVec 4)) f && decide (f.mod.toNat < 2)) (fT (1 : BitVec 4) (15 : BitVec 4) (0 : BitVec 4) (0 : BitVec 4) (2 : BitVec 2) true (1 : BitVec 5)) = true
    -- 1.16
    ∧ SaffronAt (sT 20 (fT (1 : BitVec 4) (2 : BitVec 4) (3 : BitVec 4) (1 : BitVec 4))).blk 15 (20 * 2 ^ 24 + (fT (1 : BitVec 4) (2 : BitVec 4) (3 : BitVec 4) (1 : BitVec 4)).enc)
    ∧ (fun f => (fun f => f.b == (0 : BitVec 4) && f.c == (0 : BitVec 4)) f && decide (f.mod.toNat < 2)) (fT (1 : BitVec 4) (2 : BitVec 4) (3 : BitVec 4) (1 : BitVec 4)) = false
    -- 1.1
    ∧ SaffronAt sBud.blk 15 (1 * 2 ^ 24 + fu.enc)
    ∧ (fun f => f.c == (0 : BitVec 4) && f.mod == (0 : BitVec 5)) fu = true
    ∧ (sBud.blk.saf 15).instr = 16777216
    -- 2
    ∧ SaffronAt (sT 16 (fT (3 : BitVec 4) (0 : BitVec 4) (15 : BitVec 4) (0 : BitVec 4) (2 : BitVec 2) true)).blk 15 (16 * 2 ^ 24 + (fT (3 : BitVec 4) (0 : BitVec 4) (15 : BitVec 4) (0 : BitVec 4) (2 : BitVec 2) true).enc)
    ∧ ((fT (3 : BitVec 4) (0 : BitVec 4) (15 : BitVec 4) (0 : BitVec 4) (2 : BitVec 2) true).c
        = (0 : BitVec 4)
        ∧ (fT (3 : BitVec 4) (0 : BitVec 4) (15 : BitVec 4) (0 : BitVec 4) (2 : BitVec 2) true).d.toNat < 4
        ∧ (fT (3 : BitVec 4) (0 : BitVec 4) (15 : BitVec 4) (0 : BitVec 4) (2 : BitVec 2) true).mod.toNat < 6)
    ∧ HasInstr (sT 16 (fT (3 : BitVec 4) (0 : BitVec 4) (15 : BitVec 4) (0 : BitVec 4) (2 : BitVec 2) true)).blk 15 (((sT 16 (fT (3 : BitVec 4) (0 : BitVec 4) (15 : BitVec 4) (0 : BitVec 4) (2 : BitVec 2) true)).blk.saf 15).pc + 1)
    -- 2
    ∧ SaffronAt (sT 16 (fT (3 : BitVec 4) (0 : BitVec 4) (15 : BitVec 4) (0 : BitVec 4) (2 : BitVec 2) true (6 : BitVec 5))).blk 15 (16 * 2 ^ 24 + (fT (3 : BitVec 4) (0 : BitVec 4) (15 : BitVec 4) (0 : BitVec 4) (2 : BitVec 2) true (6 : BitVec 5)).enc)
    ∧ (¬((fT (3 : BitVec 4) (0 : BitVec 4) (15 : BitVec 4) (0 : BitVec 4) (2 : BitVec 2) true (6 : BitVec 5)).c = (0 : BitVec 4) ∧ (fT (3 : BitVec 4) (0 : BitVec 4) (15 : BitVec 4) (0 : BitVec 4) (2 : BitVec 2) true (6 : BitVec 5)).d.toNat < 4 ∧ (fT (3 : BitVec 4) (0 : BitVec 4) (15 : BitVec 4) (0 : BitVec 4) (2 : BitVec 2) true (6 : BitVec 5)).mod.toNat < 6))
    -- 3
    ∧ SaffronAt (sT 17 (fT (15 : BitVec 4) (0 : BitVec 4) (15 : BitVec 4) (0 : BitVec 4) (3 : BitVec 2))).blk 15 (17 * 2 ^ 24 + (fT (15 : BitVec 4) (0 : BitVec 4) (15 : BitVec 4) (0 : BitVec 4) (3 : BitVec 2)).enc)
    ∧ ((fT (15 : BitVec 4) (0 : BitVec 4) (15 : BitVec 4) (0 : BitVec 4) (3 : BitVec 2)).c = (0 : BitVec 4)
        ∧ (fT (15 : BitVec 4) (0 : BitVec 4) (15 : BitVec 4) (0 : BitVec 4) (3 : BitVec 2)).mod
        = (0 : BitVec 5)
        ∧ (fT (15 : BitVec 4) (0 : BitVec 4) (15 : BitVec 4) (0 : BitVec 4) (3 : BitVec 2)).mu = false)
    ∧ HasInstr (sT 17 (fT (15 : BitVec 4) (0 : BitVec 4) (15 : BitVec 4) (0 : BitVec 4) (3 : BitVec 2))).blk 15 (((sT 17 (fT (15 : BitVec 4) (0 : BitVec 4) (15 : BitVec 4) (0 : BitVec 4) (3 : BitVec 2))).blk.saf 15).pc + 1)
    -- 3
    ∧ SaffronAt (sT 17 (fT (15 : BitVec 4) (0 : BitVec 4) (15 : BitVec 4) (0 : BitVec 4) (3 : BitVec 2) true)).blk 15 (17 * 2 ^ 24 + (fT (15 : BitVec 4) (0 : BitVec 4) (15 : BitVec 4) (0 : BitVec 4) (3 : BitVec 2) true).enc)
    ∧ (¬((fT (15 : BitVec 4) (0 : BitVec 4) (15 : BitVec 4) (0 : BitVec 4) (3 : BitVec 2) true).c
        = (0 : BitVec 4)
        ∧ (fT (15 : BitVec 4) (0 : BitVec 4) (15 : BitVec 4) (0 : BitVec 4) (3 : BitVec 2) true).mod
        = (0 : BitVec 5)
        ∧ (fT (15 : BitVec 4) (0 : BitVec 4) (15 : BitVec 4) (0 : BitVec 4) (3 : BitVec 2) true).mu = false))
    -- 4
    ∧ SaffronAt (sT 18 (fT (3 : BitVec 4) (2 : BitVec 4) (3 : BitVec 4))).blk 15 (18 * 2 ^ 24 + (fT (3 : BitVec 4) (2 : BitVec 4) (3 : BitVec 4)).enc)
    ∧ ((fT (3 : BitVec 4) (2 : BitVec 4) (3 : BitVec 4)).c = (0 : BitVec 4)
        ∧ (fT (3 : BitVec 4) (2 : BitVec 4) (3 : BitVec 4)).mod.toNat < 4
        ∧ (fT (3 : BitVec 4) (2 : BitVec 4) (3 : BitVec 4)).d.toNat < 4
        ∧ (fT (3 : BitVec 4) (2 : BitVec 4) (3 : BitVec 4)).a.toNat < 4
        ∧ ((fT (3 : BitVec 4) (2 : BitVec 4) (3 : BitVec 4)).b.toNat < 4 ∨ (fT (3 : BitVec 4) (2 : BitVec 4) (3 : BitVec 4)).mod = (3 : BitVec 5)) ∧ (fT (3 : BitVec 4) (2 : BitVec 4) (3 : BitVec 4)).msel = (0 : BitVec 2) ∧ (fT (3 : BitVec 4) (2 : BitVec 4) (3 : BitVec 4)).mu = false)
    ∧ HasInstr (sT 18 (fT (3 : BitVec 4) (2 : BitVec 4) (3 : BitVec 4))).blk 15 (((sT 18 (fT (3 : BitVec 4) (2 : BitVec 4) (3 : BitVec 4))).blk.saf 15).pc + 1)
    -- 4
    ∧ SaffronAt (sT 18 (fT (3 : BitVec 4) (2 : BitVec 4) (3 : BitVec 4) (0 : BitVec 4) (0 : BitVec 2) false (4 : BitVec 5))).blk 15 (18 * 2 ^ 24 + (fT (3 : BitVec 4) (2 : BitVec 4) (3 : BitVec 4) (0 : BitVec 4) (0 : BitVec 2) false (4 : BitVec 5)).enc)
    ∧ (¬((fT (3 : BitVec 4) (2 : BitVec 4) (3 : BitVec 4) (0 : BitVec 4) (0 : BitVec 2) false (4 : BitVec 5)).c = (0 : BitVec 4) ∧ (fT (3 : BitVec 4) (2 : BitVec 4) (3 : BitVec 4) (0 : BitVec 4) (0 : BitVec 2) false (4 : BitVec 5)).mod.toNat < 4 ∧ (fT (3 : BitVec 4) (2 : BitVec 4) (3 : BitVec 4) (0 : BitVec 4) (0 : BitVec 2) false (4 : BitVec 5)).d.toNat < 4 ∧ (fT (3 : BitVec 4) (2 : BitVec 4) (3 : BitVec 4) (0 : BitVec 4) (0 : BitVec 2) false (4 : BitVec 5)).a.toNat < 4 ∧ ((fT (3 : BitVec 4) (2 : BitVec 4) (3 : BitVec 4) (0 : BitVec 4) (0 : BitVec 2) false (4 : BitVec 5)).b.toNat < 4 ∨ (fT (3 : BitVec 4) (2 : BitVec 4) (3 : BitVec 4) (0 : BitVec 4) (0 : BitVec 2) false (4 : BitVec 5)).mod = (3 : BitVec 5)) ∧ (fT (3 : BitVec 4) (2 : BitVec 4) (3 : BitVec 4) (0 : BitVec 4) (0 : BitVec 2) false (4 : BitVec 5)).msel = (0 : BitVec 2) ∧ (fT (3 : BitVec 4) (2 : BitVec 4) (3 : BitVec 4) (0 : BitVec 4) (0 : BitVec 2) false (4 : BitVec 5)).mu = false)) := by
  refine ⟨?_, ?_, ?_, ?_, ?_, ?_, ?_, ?_, ?_, ?_, ?_, ?_, ?_, ?_, ?_, ?_, ?_, ?_, ?_, ?_, ?_, ?_, ?_, ?_, ?_,
    ?_, ?_, ?_, ?_, ?_, ?_, ?_, ?_, ?_, ?_, ?_, ?_, ?_, ?_, ?_, ?_, ?_, ?_, ?_, ?_, ?_, ?_, ?_, ?_, ?_, ?_,
    ?_, ?_, ?_, ?_, ?_, ?_, ?_, ?_, ?_, ?_, ?_, ?_, ?_, ?_, ?_, ?_, ?_, ?_, ?_, ?_, ?_, ?_, ?_, ?_, ?_, ?_,
    ?_, ?_, ?_, ?_, ?_, ?_, ?_, ?_, ?_, ?_, ?_, ?_, ?_, ?_, ?_, ?_, ?_, ?_, ?_, ?_, ?_, ?_, ?_, ?_, ?_, ?_,
    ?_, ?_, ?_, ?_, ?_, ?_, ?_, ?_, ?_, ?_, ?_⟩ <;>
    (first
      | decide +kernel
      | exact hasInstr_of (by decide +kernel)
      | exact saffronAt_of (by decide +kernel))
end SaffronCore

namespace SaffronData
def fT (d a b : BitVec 4) (c : BitVec 4 := 0) (msel : BitVec 2 := 0) (mu : Bool := false) (mod : BitVec 5 := 0) : TFmt := ⟨d, a, b, c, msel, mu, mod⟩
def wT (op : Nat) (f : TFmt) : BitVec 32 := BitVec.ofNat 32 (op * 2^24 + f.enc)
def endW : BitVec 32 := 0x4F000000
def tilesAB (u : Saffron) : Saffron := { u with
  tiles := [(0, (List.range 1024).map fun k => BitVec.ofNat 16 (k * 77)), (15, (List.range 1024).map fun k => BitVec.ofNat 16 (65535 - k * 131))]
  masks := [(2, (List.range 1024).map fun k => k % 3 == 0), (3, (List.range 1000).map fun k => k % 5 == 0)] }
def sT (op : Nat) (f : TFmt) : State := saf [wT op f, endW] tilesAB
def fI (d a : BitVec 4) (imm : BitVec 16) : IFmt := ⟨d, a, imm⟩
def wI (op : Nat) (f : IFmt) : BitVec 32 := BitVec.ofNat 32 (op * 2^24 + f.enc)
def sI (op : Nat) (f : IFmt) : State := saf [wI op f, endW] tilesAB
def sIs (op : Nat) (f : IFmt) (sc : Tab Word) : State := saf [wI op f, endW] fun u => { tilesAB u with scalars := sc }
def ss (op : Nat) (f : TFmt) (sc : Tab Word) : State := saf [wT op f, endW] fun u => { tilesAB u with scalars := sc }
def sB (f : IFmt) (sc : Tab Word) : State := saf [wI 0x49 f, endW, endW] fun u => { u with scalars := sc }
theorem witness_ElementAndMaskOperations' :
    -- 5
    SaffronAt (sI 21 (fI (15 : BitVec 4) (0 : BitVec 4) (65530 : BitVec 16))).blk 15 (21 * 2 ^ 24 + (fI (15 : BitVec 4) (0 : BitVec 4) (65530 : BitVec 16)).enc)
    ∧ (fI (15 : BitVec 4) (0 : BitVec 4) (65530 : BitVec 16)).a = (0 : BitVec 4)
    ∧ HasInstr (sI 21 (fI (15 : BitVec 4) (0 : BitVec 4) (65530 : BitVec 16))).blk 15 (((sI 21 (fI (15 : BitVec 4) (0 : BitVec 4) (65530 : BitVec 16))).blk.saf 15).pc + 1)
    -- 5
    ∧ SaffronAt (sI 21 (fI (15 : BitVec 4) (1 : BitVec 4) (65530 : BitVec 16))).blk 15 (21 * 2 ^ 24 + (fI (15 : BitVec 4) (1 : BitVec 4) (65530 : BitVec 16)).enc)
    ∧ (fI (15 : BitVec 4) (1 : BitVec 4) (65530 : BitVec 16)).a ≠ (0 : BitVec 4)
    -- 6
    ∧ SaffronAt (sI 22 (fI (15 : BitVec 4) (0 : BitVec 4) (65530 : BitVec 16))).blk 15 (22 * 2 ^ 24 + (fI (15 : BitVec 4) (0 : BitVec 4) (65530 : BitVec 16)).enc)
    ∧ (fI (15 : BitVec 4) (0 : BitVec 4) (65530 : BitVec 16)).a = (0 : BitVec 4)
    ∧ HasInstr (sI 22 (fI (15 : BitVec 4) (0 : BitVec 4) (65530 : BitVec 16))).blk 15 (((sI 22 (fI (15 : BitVec 4) (0 : BitVec 4) (65530 : BitVec 16))).blk.saf 15).pc + 1)
    -- 6
    ∧ SaffronAt (sI 22 (fI (15 : BitVec 4) (1 : BitVec 4) (65530 : BitVec 16))).blk 15 (22 * 2 ^ 24 + (fI (15 : BitVec 4) (1 : BitVec 4) (65530 : BitVec 16)).enc)
    ∧ (fI (15 : BitVec 4) (1 : BitVec 4) (65530 : BitVec 16)).a ≠ (0 : BitVec 4) := by
  refine ⟨?_, ?_, ?_, ?_, ?_, ?_, ?_, ?_, ?_, ?_⟩ <;>
    (first
      | decide +kernel
      | exact hasInstr_of (by decide +kernel)
      | exact saffronAt_of (by decide +kernel))
theorem witness_RowOperations :
    -- 1
    (SaffronAt (sT 32 (fT (1 : BitVec 4) (0 : BitVec 4) (0 : BitVec 4) (0 : BitVec 4) (2 : BitVec 2) true)).blk 15 ((if true = true then 32 else 33) * 2 ^ 24 + (fT (1 : BitVec 4) (0 : BitVec 4) (0 : BitVec 4) (0 : BitVec 4) (2 : BitVec 2) true).enc))
    ∧ ((fT (1 : BitVec 4) (0 : BitVec 4) (0 : BitVec 4) (0 : BitVec 4) (2 : BitVec 2) true).b
        = (0 : BitVec 4)
        ∧ (fT (1 : BitVec 4) (0 : BitVec 4) (0 : BitVec 4) (0 : BitVec 4) (2 : BitVec 2) true).c
        = (0 : BitVec 4)
        ∧ (fT (1 : BitVec 4) (0 : BitVec 4) (0 : BitVec 4) (0 : BitVec 4) (2 : BitVec 2) true).mod.toNat < 2)
    ∧ HasInstr (sT 32 (fT (1 : BitVec 4) (0 : BitVec 4) (0 : BitVec 4) (0 : BitVec 4) (2 : BitVec 2) true)).blk 15 (((sT 32 (fT (1 : BitVec 4) (0 : BitVec 4) (0 : BitVec 4) (0 : BitVec 4) (2 : BitVec 2) true)).blk.saf 15).pc + 1)
    -- 1
    ∧ (SaffronAt (sT 32 (fT (1 : BitVec 4) (15 : BitVec 4) (0 : BitVec 4) (0 : BitVec 4) (3 : BitVec 2) false (2 : BitVec 5))).blk 15 ((if true = true then 32 else 33) * 2 ^ 24 + (fT (1 : BitVec 4) (15 : BitVec 4) (0 : BitVec 4) (0 : BitVec 4) (3 : BitVec 2) false (2 : BitVec 5)).enc))
    ∧ (¬((fT (1 : BitVec 4) (15 : BitVec 4) (0 : BitVec 4) (0 : BitVec 4) (3 : BitVec 2) false (2 : BitVec 5)).b = (0 : BitVec 4) ∧ (fT (1 : BitVec 4) (15 : BitVec 4) (0 : BitVec 4) (0 : BitVec 4) (3 : BitVec 2) false (2 : BitVec 5)).c = (0 : BitVec 4) ∧ (fT (1 : BitVec 4) (15 : BitVec 4) (0 : BitVec 4) (0 : BitVec 4) (3 : BitVec 2) false (2 : BitVec 5)).mod.toNat < 2))
    -- 2
    ∧ SaffronAt (sT 34 (fT (1 : BitVec 4) (0 : BitVec 4) (0 : BitVec 4) (0 : BitVec 4) (2 : BitVec 2) true)).blk 15 (34 * 2 ^ 24 + (fT (1 : BitVec 4) (0 : BitVec 4) (0 : BitVec 4) (0 : BitVec 4) (2 : BitVec 2) true).enc)
    ∧ ((fT (1 : BitVec 4) (0 : BitVec 4) (0 : BitVec 4) (0 : BitVec 4) (2 : BitVec 2) true).b
        = (0 : BitVec 4)
        ∧ (fT (1 : BitVec 4) (0 : BitVec 4) (0 : BitVec 4) (0 : BitVec 4) (2 : BitVec 2) true).c
        = (0 : BitVec 4)
        ∧ (fT (1 : BitVec 4) (0 : BitVec 4) (0 : BitVec 4) (0 : BitVec 4) (2 : BitVec 2) true).mod
        = (0 : BitVec 5))
    ∧ HasInstr (sT 34 (fT (1 : BitVec 4) (0 : BitVec 4) (0 : BitVec 4) (0 : BitVec 4) (2 : BitVec 2) true)).blk 15 (((sT 34 (fT (1 : BitVec 4) (0 : BitVec 4) (0 : BitVec 4) (0 : BitVec 4) (2 : BitVec 2) true)).blk.saf 15).pc + 1)
    -- 2
    ∧ SaffronAt (sT 34 (fT (1 : BitVec 4) (15 : BitVec 4) (0 : BitVec 4) (0 : BitVec 4) (0 : BitVec 2) false (1 : BitVec 5))).blk 15 (34 * 2 ^ 24 + (fT (1 : BitVec 4) (15 : BitVec 4) (0 : BitVec 4) (0 : BitVec 4) (0 : BitVec 2) false (1 : BitVec 5)).enc)
    ∧ (¬((fT (1 : BitVec 4) (15 : BitVec 4) (0 : BitVec 4) (0 : BitVec 4) (0 : BitVec 2) false (1 : BitVec 5)).b = (0 : BitVec 4) ∧ (fT (1 : BitVec 4) (15 : BitVec 4) (0 : BitVec 4) (0 : BitVec 4) (0 : BitVec 2) false (1 : BitVec 5)).c = (0 : BitVec 4) ∧ (fT (1 : BitVec 4) (15 : BitVec 4) (0 : BitVec 4) (0 : BitVec 4) (0 : BitVec 2) false (1 : BitVec 5)).mod = (0 : BitVec 5)))
    -- 3
    ∧ SaffronAt (sT 36 (fT (1 : BitVec 4) (0 : BitVec 4) (0 : BitVec 4) (0 : BitVec 4) (2 : BitVec 2) true)).blk 15 (36 * 2 ^ 24 + (fT (1 : BitVec 4) (0 : BitVec 4) (0 : BitVec 4) (0 : BitVec 4) (2 : BitVec 2) true).enc)
    ∧ (fT (1 : BitVec 4) (0 : BitVec 4) (0 : BitVec 4) (0 : BitVec 4) (2 : BitVec 2) true).b = (0 : BitVec 4)
    ∧ (fT (1 : BitVec 4) (0 : BitVec 4) (0 : BitVec 4) (0 : BitVec 4) (2 : BitVec 2) true).mod = (0 : BitVec 5)
    ∧ (fT (1 : BitVec 4) (0 : BitVec 4) (0 : BitVec 4) (0 : BitVec 4) (2 : BitVec 2) true).c = (0 : BitVec 4)
    ∧ HasInstr (sT 36 (fT (1 : BitVec 4) (0 : BitVec 4) (0 : BitVec 4) (0 : BitVec 4) (2 : BitVec 2) true)).blk 15 (((sT 36 (fT (1 : BitVec 4) (0 : BitVec 4) (0 : BitVec 4) (0 : BitVec 4) (2 : BitVec 2) true)).blk.saf 15).pc + 1)
    ∧ (fT (1 : BitVec 4) (0 : BitVec 4) (0 : BitVec 4) (0 : BitVec 4) (2 : BitVec 2) true).b = (0 : BitVec 4)
    -- 3
    ∧ SaffronAt (sT 36 (fT (1 : BitVec 4) (15 : BitVec 4) (0 : BitVec 4) (7 : BitVec 4) (0 : BitVec 2) false (1 : BitVec 5))).blk 15 (36 * 2 ^ 24 + (fT (1 : BitVec 4) (15 : BitVec 4) (0 : BitVec 4) (7 : BitVec 4) (0 : BitVec 2) false (1 : BitVec 5)).enc)
    ∧ (fT (1 : BitVec 4) (15 : BitVec 4) (0 : BitVec 4) (7 : BitVec 4) (0 : BitVec 2) false (1 : BitVec 5)).b = (0 : BitVec 4)
    ∧ (fT (1 : BitVec 4) (15 : BitVec 4) (0 : BitVec 4) (7 : BitVec 4) (0 : BitVec 2) false (1 : BitVec 5)).mod = (1 : BitVec 5)
    ∧ (fT (1 : BitVec 4) (15 : BitVec 4) (0 : BitVec 4) (7 : BitVec 4) (0 : BitVec 2) false (1 : BitVec 5)).c.toNat < 8
    ∧ HasInstr (sT 36 (fT (1 : BitVec 4) (15 : BitVec 4) (0 : BitVec 4) (7 : BitVec 4) (0 : BitVec 2) false (1 : BitVec 5))).blk 15 (((sT 36 (fT (1 : BitVec 4) (15 : BitVec 4) (0 : BitVec 4) (7 : BitVec 4) (0 : BitVec 2) false (1 : BitVec 5))).blk.saf 15).pc + 1)
    -- 3
    ∧ SaffronAt (sT 36 (fT (1 : BitVec 4) (7 : BitVec 4) (0 : BitVec 4) (8 : BitVec 4) (0 : BitVec 2) false (1 : BitVec 5))).blk 15 (36 * 2 ^ 24 + (fT (1 : BitVec 4) (7 : BitVec 4) (0 : BitVec 4) (8 : BitVec 4) (0 : BitVec 2) false (1 : BitVec 5)).enc)
    ∧ ((fT (1 : BitVec 4) (7 : BitVec 4) (0 : BitVec 4) (8 : BitVec 4) (0 : BitVec 2) false (1 : BitVec 5)).b ≠ (0 : BitVec 4) ∨ 2 ≤ (fT (1 : BitVec 4) (7 : BitVec 4) (0 : BitVec 4) (8 : BitVec 4) (0 : BitVec 2) false (1 : BitVec 5)).mod.toNat ∨ (fT (1 : BitVec 4) (7 : BitVec 4) (0 : BitVec 4) (8 : BitVec 4) (0 : BitVec 2) false (1 : BitVec 5)).mod = (0 : BitVec 5) ∧ (fT (1 : BitVec 4) (7 : BitVec 4) (0 : BitVec 4) (8 : BitVec 4) (0 : BitVec 2) false (1 : BitVec 5)).c ≠ (0 : BitVec 4) ∨ (fT (1 : BitVec 4) (7 : BitVec 4) (0 : BitVec 4) (8 : BitVec 4) (0 : BitVec 2) false (1 : BitVec 5)).mod = (1 : BitVec 5) ∧ 8 ≤ (fT (1 : BitVec 4) (7 : BitVec 4) (0 : BitVec 4) (8 : BitVec 4) (0 : BitVec 2) false (1 : BitVec 5)).c.toNat)
    -- 4
    ∧ SaffronAt (sT 35 (fT (2 : BitVec 4) (15 : BitVec 4) (0 : BitVec 4) (1 : BitVec 4) (2 : BitVec 2) true (7 : BitVec 5))).blk 15 (35 * 2 ^ 24 + (fT (2 : BitVec 4) (15 : BitVec 4) (0 : BitVec 4) (1 : BitVec 4) (2 : BitVec 2) true (7 : BitVec 5)).enc)
    ∧ ((fT (2 : BitVec 4) (15 : BitVec 4) (0 : BitVec 4) (1 : BitVec 4) (2 : BitVec 2) true (7 : BitVec 5)).d.toNat % 2 = 0 ∧ (fT (2 : BitVec 4) (15 : BitVec 4) (0 : BitVec 4) (1 : BitVec 4) (2 : BitVec 2) true (7 : BitVec 5)).a.toNat ≠ (fT (2 : BitVec 4) (15 : BitVec 4) (0 : BitVec 4) (1 : BitVec 4) (2 : BitVec 2) true (7 : BitVec 5)).d.toNat ∧ (fT (2 : BitVec 4) (15 : BitVec 4) (0 : BitVec 4) (1 : BitVec 4) (2 : BitVec 2) true (7 : BitVec 5)).a.toNat ≠ (fT (2 : BitVec 4) (15 : BitVec 4) (0 : BitVec 4) (1 : BitVec 4) (2 : BitVec 2) true (7 : BitVec 5)).d.toNat + 1 ∧ (fT (2 : BitVec 4) (15 : BitVec 4) (0 : BitVec 4) (1 : BitVec 4) (2 : BitVec 2) true (7 : BitVec 5)).b.toNat ≠ (fT (2 : BitVec 4) (15 : BitVec 4) (0 : BitVec 4) (1 : BitVec 4) (2 : BitVec 2) true (7 : BitVec 5)).d.toNat ∧ (fT (2 : BitVec 4) (15 : BitVec 4) (0 : BitVec 4) (1 : BitVec 4) (2 : BitVec 2) true (7 : BitVec 5)).b.toNat ≠ (fT (2 : BitVec 4) (15 : BitVec 4) (0 : BitVec 4) (1 : BitVec 4) (2 : BitVec 2) true (7 : BitVec 5)).d.toNat + 1 ∧ (fT (2 : BitVec 4) (15 : BitVec 4) (0 : BitVec 4) (1 : BitVec 4) (2 : BitVec 2) true (7 : BitVec 5)).c.toNat < 2)
    ∧ HasInstr (sT 35 (fT (2 : BitVec 4) (15 : BitVec 4) (0 : BitVec 4) (1 : BitVec 4) (2 : BitVec 2) true (7 : BitVec 5))).blk 15 (((sT 35 (fT (2 : BitVec 4) (15 : BitVec 4) (0 : BitVec 4) (1 : BitVec 4) (2 : BitVec 2) true (7 : BitVec 5))).blk.saf 15).pc + 1)
    -- 4
    ∧ SaffronAt (sT 35 (fT (1 : BitVec 4) (15 : BitVec 4) (0 : BitVec 4))).blk 15 (35 * 2 ^ 24 + (fT (1 : BitVec 4) (15 : BitVec 4) (0 : BitVec 4)).enc)
    ∧ (¬((fT (1 : BitVec 4) (15 : BitVec 4) (0 : BitVec 4)).d.toNat % 2 = 0
        ∧ (fT (1 : BitVec 4) (15 : BitVec 4) (0 : BitVec 4)).a.toNat ≠ (fT (1 : BitVec 4) (15 : BitVec 4) (0 : BitVec 4)).d.toNat ∧ (fT (1 : BitVec 4) (15 : BitVec 4) (0 : BitVec 4)).a.toNat ≠ (fT (1 : BitVec 4) (15 : BitVec 4) (0 : BitVec 4)).d.toNat + 1 ∧ (fT (1 : BitVec 4) (15 : BitVec 4) (0 : BitVec 4)).b.toNat ≠ (fT (1 : BitVec 4) (15 : BitVec 4) (0 : BitVec 4)).d.toNat ∧ (fT (1 : BitVec 4) (15 : BitVec 4) (0 : BitVec 4)).b.toNat ≠ (fT (1 : BitVec 4) (15 : BitVec 4) (0 : BitVec 4)).d.toNat + 1 ∧ (fT (1 : BitVec 4) (15 : BitVec 4) (0 : BitVec 4)).c.toNat < 2)) := by
  refine ⟨?_, ?_, ?_, ?_, ?_, ?_, ?_, ?_, ?_, ?_, ?_, ?_, ?_, ?_, ?_, ?_, ?_, ?_, ?_, ?_, ?_, ?_, ?_, ?_, ?_,
    ?_, ?_, ?_⟩ <;>
    (first
      | decide +kernel
      | exact hasInstr_of (by decide +kernel)
      | exact saffronAt_of (by decide +kernel))
theorem witness_ScalarsCandidatesAndTheEnd :
    -- 1.1
    SaffronAt (sIs 64 (fI (7 : BitVec 4) (0 : BitVec 4) (65535 : BitVec 16)) [(0, (1234605616436508552 : Word)), (7, (18446744073709551615 : Word))]).blk 15 (64 * 2 ^ 24 + (fI (7 : BitVec 4) (0 : BitVec 4) (65535 : BitVec 16)).enc)
    ∧ ((fI (7 : BitVec 4) (0 : BitVec 4) (65535 : BitVec 16)).d.toNat < 8
        ∧ (fI (7 : BitVec 4) (0 : BitVec 4) (65535 : BitVec 16)).a.toNat < 4)
    ∧ HasInstr (sIs 64 (fI (7 : BitVec 4) (0 : BitVec 4) (65535 : BitVec 16)) [(0, (1234605616436508552 : Word)), (7, (18446744073709551615 : Word))]).blk 15 (((sIs 64 (fI (7 : BitVec 4) (0 : BitVec 4) (65535 : BitVec 16)) [(0, (1234605616436508552 : Word)), (7, (18446744073709551615 : Word))]).blk.saf 15).pc + 1)
    ∧ (fI (7 : BitVec 4) (0 : BitVec 4) (65535 : BitVec 16)).a = (0 : BitVec 4)
    -- 1.1
    ∧ SaffronAt (sIs 64 (fI (7 : BitVec 4) (3 : BitVec 4) (1 : BitVec 16)) [(0, (1234605616436508552 : Word)), (7, (18446744073709551615 : Word))]).blk 15 (64 * 2 ^ 24 + (fI (7 : BitVec 4) (3 : BitVec 4) (1 : BitVec 16)).enc)
    ∧ ((fI (7 : BitVec 4) (3 : BitVec 4) (1 : BitVec 16)).d.toNat < 8
        ∧ (fI (7 : BitVec 4) (3 : BitVec 4) (1 : BitVec 16)).a.toNat < 4)
    ∧ HasInstr (sIs 64 (fI (7 : BitVec 4) (3 : BitVec 4) (1 : BitVec 16)) [(0, (1234605616436508552 : Word)), (7, (18446744073709551615 : Word))]).blk 15 (((sIs 64 (fI (7 : BitVec 4) (3 : BitVec 4) (1 : BitVec 16)) [(0, (1234605616436508552 : Word)), (7, (18446744073709551615 : Word))]).blk.saf 15).pc + 1)
    ∧ (fI (7 : BitVec 4) (3 : BitVec 4) (1 : BitVec 16)).a ≠ (0 : BitVec 4)
    -- 1.1
    ∧ SaffronAt (sIs 64 (fI (8 : BitVec 4) (3 : BitVec 4) (1 : BitVec 16)) [(0, (1234605616436508552 : Word)), (7, (18446744073709551615 : Word))]).blk 15 (64 * 2 ^ 24 + (fI (8 : BitVec 4) (3 : BitVec 4) (1 : BitVec 16)).enc)
    ∧ (¬((fI (8 : BitVec 4) (3 : BitVec 4) (1 : BitVec 16)).d.toNat < 8
        ∧ (fI (8 : BitVec 4) (3 : BitVec 4) (1 : BitVec 16)).a.toNat < 4))
    -- 1.2
    ∧ SaffronAt (sIs 65 (fI (7 : BitVec 4) (0 : BitVec 4) (65535 : BitVec 16)) [(0, (1234605616436508552 : Word)), (7, (18446744073709551615 : Word))]).blk 15 (65 * 2 ^ 24 + (fI (7 : BitVec 4) (0 : BitVec 4) (65535 : BitVec 16)).enc)
    ∧ ((fI (7 : BitVec 4) (0 : BitVec 4) (65535 : BitVec 16)).d.toNat < 8
        ∧ (fI (7 : BitVec 4) (0 : BitVec 4) (65535 : BitVec 16)).a.toNat < 8)
    ∧ HasInstr (sIs 65 (fI (7 : BitVec 4) (0 : BitVec 4) (65535 : BitVec 16)) [(0, (1234605616436508552 : Word)), (7, (18446744073709551615 : Word))]).blk 15 (((sIs 65 (fI (7 : BitVec 4) (0 : BitVec 4) (65535 : BitVec 16)) [(0, (1234605616436508552 : Word)), (7, (18446744073709551615 : Word))]).blk.saf 15).pc + 1)
    -- 1.2
    ∧ SaffronAt (sIs 65 (fI (8 : BitVec 4) (3 : BitVec 4) (1 : BitVec 16)) [(0, (1234605616436508552 : Word)), (7, (18446744073709551615 : Word))]).blk 15 (65 * 2 ^ 24 + (fI (8 : BitVec 4) (3 : BitVec 4) (1 : BitVec 16)).enc)
    ∧ (¬((fI (8 : BitVec 4) (3 : BitVec 4) (1 : BitVec 16)).d.toNat < 8
        ∧ (fI (8 : BitVec 4) (3 : BitVec 4) (1 : BitVec 16)).a.toNat < 8))
    -- 1.3
    ∧ SaffronAt (ss 66 (fT (7 : BitVec 4) (7 : BitVec 4) (0 : BitVec 4)) [(0, (1234605616436508552 : Word)), (7, (18446744073709551615 : Word))]).blk 15 (66 * 2 ^ 24 + (fT (7 : BitVec 4) (7 : BitVec 4) (0 : BitVec 4)).enc)
    ∧ ((fT (7 : BitVec 4) (7 : BitVec 4) (0 : BitVec 4)).d.toNat < 8
        ∧ (fT (7 : BitVec 4) (7 : BitVec 4) (0 : BitVec 4)).a.toNat < 8
        ∧ (fT (7 : BitVec 4) (7 : BitVec 4) (0 : BitVec 4)).b.toNat < 8
        ∧ (fT (7 : BitVec 4) (7 : BitVec 4) (0 : BitVec 4)).c = (0 : BitVec 4)
        ∧ (fT (7 : BitVec 4) (7 : BitVec 4) (0 : BitVec 4)).mod = (0 : BitVec 5)
        ∧ (fT (7 : BitVec 4) (7 : BitVec 4) (0 : BitVec 4)).msel = (0 : BitVec 2)
        ∧ (fT (7 : BitVec 4) (7 : BitVec 4) (0 : BitVec 4)).mu = false)
    ∧ HasInstr (ss 66 (fT (7 : BitVec 4) (7 : BitVec 4) (0 : BitVec 4)) [(0, (1234605616436508552 : Word)), (7, (18446744073709551615 : Word))]).blk 15 (((ss 66 (fT (7 : BitVec 4) (7 : BitVec 4) (0 : BitVec 4)) [(0, (1234605616436508552 : Word)), (7, (18446744073709551615 : Word))]).blk.saf 15).pc + 1)
    -- 1.3
    ∧ SaffronAt (ss 66 (fT (7 : BitVec 4) (8 : BitVec 4) (0 : BitVec 4)) [(0, (1234605616436508552 : Word)), (7, (18446744073709551615 : Word))]).blk 15 (66 * 2 ^ 24 + (fT (7 : BitVec 4) (8 : BitVec 4) (0 : BitVec 4)).enc)
    ∧ (¬((fT (7 : BitVec 4) (8 : BitVec 4) (0 : BitVec 4)).d.toNat < 8
        ∧ (fT (7 : BitVec 4) (8 : BitVec 4) (0 : BitVec 4)).a.toNat < 8
        ∧ (fT (7 : BitVec 4) (8 : BitVec 4) (0 : BitVec 4)).b.toNat < 8
        ∧ (fT (7 : BitVec 4) (8 : BitVec 4) (0 : BitVec 4)).c = (0 : BitVec 4)
        ∧ (fT (7 : BitVec 4) (8 : BitVec 4) (0 : BitVec 4)).mod = (0 : BitVec 5)
        ∧ (fT (7 : BitVec 4) (8 : BitVec 4) (0 : BitVec 4)).msel = (0 : BitVec 2)
        ∧ (fT (7 : BitVec 4) (8 : BitVec 4) (0 : BitVec 4)).mu = false))
    -- 1.4
    ∧ SaffronAt (sIs 68 (fI (7 : BitVec 4) (0 : BitVec 4) (65 : BitVec 16)) [(0, (1234605616436508552 : Word)), (7, (18446744073709551615 : Word))]).blk 15 (68 * 2 ^ 24 + (fI (7 : BitVec 4) (0 : BitVec 4) (65 : BitVec 16)).enc)
    ∧ ((fI (7 : BitVec 4) (0 : BitVec 4) (65 : BitVec 16)).d.toNat < 8
        ∧ (fI (7 : BitVec 4) (0 : BitVec 4) (65 : BitVec 16)).a.toNat < 8)
    ∧ HasInstr (sIs 68 (fI (7 : BitVec 4) (0 : BitVec 4) (65 : BitVec 16)) [(0, (1234605616436508552 : Word)), (7, (18446744073709551615 : Word))]).blk 15 (((sIs 68 (fI (7 : BitVec 4) (0 : BitVec 4) (65 : BitVec 16)) [(0, (1234605616436508552 : Word)), (7, (18446744073709551615 : Word))]).blk.saf 15).pc + 1)
    -- 1.4
    ∧ SaffronAt (sIs 68 (fI (0 : BitVec 4) (8 : BitVec 4) (1 : BitVec 16)) [(0, (1234605616436508552 : Word)), (7, (18446744073709551615 : Word))]).blk 15 (68 * 2 ^ 24 + (fI (0 : BitVec 4) (8 : BitVec 4) (1 : BitVec 16)).enc)
    ∧ (¬((fI (0 : BitVec 4) (8 : BitVec 4) (1 : BitVec 16)).d.toNat < 8
        ∧ (fI (0 : BitVec 4) (8 : BitVec 4) (1 : BitVec 16)).a.toNat < 8))
    -- 1.5
    ∧ SaffronAt (sIs 72 (fI (7 : BitVec 4) (0 : BitVec 4) (0 : BitVec 16)) [(0, (1234605616436508552 : Word)), (7, (18446744073709551615 : Word))]).blk 15 (72 * 2 ^ 24 + (fI (7 : BitVec 4) (0 : BitVec 4) (0 : BitVec 16)).enc)
    ∧ ((fI (7 : BitVec 4) (0 : BitVec 4) (0 : BitVec 16)).d.toNat < 8
        ∧ (fI (7 : BitVec 4) (0 : BitVec 4) (0 : BitVec 16)).a = (0 : BitVec 4))
    ∧ (fI (7 : BitVec 4) (0 : BitVec 4) (0 : BitVec 16)).imm.toNat ≤ ((sIs 72 (fI (7 : BitVec 4) (0 : BitVec 4) (0 : BitVec 16)) [(0, (1234605616436508552 : Word)), (7, (18446744073709551615 : Word))]).blk.saf 15).pc
    ∧ (HasInstr (sIs 72 (fI (7 : BitVec 4) (0 : BitVec 4) (0 : BitVec 16)) [(0, (1234605616436508552 : Word)), (7, (18446744073709551615 : Word))]).blk 15 (if ((sIs 72 (fI (7 : BitVec 4) (0 : BitVec 4) (0 : BitVec 16)) [(0, (1234605616436508552 : Word)), (7, (18446744073709551615 : Word))]).blk.saf 15).scalar (fI (7 : BitVec 4) (0 : BitVec 4) (0 : BitVec 16)).d.toNat = (1 : Word) then ((sIs 72 (fI (7 : BitVec 4) (0 : BitVec 4) (0 : BitVec 16)) [(0, (1234605616436508552 : Word)), (7, (18446744073709551615 : Word))]).blk.saf 15).pc + 1 else (fI (7 : BitVec 4) (0 : BitVec 4) (0 : BitVec 16)).imm.toNat))
    ∧ ((fI (7 : BitVec 4) (0 : BitVec 4) (0 : BitVec 16)).d.toNat < 8
        ∧ (fI (7 : BitVec 4) (0 : BitVec 4) (0 : BitVec 16)).a = (0 : BitVec 4))
    ∧ ((sIs 72 (fI (7 : BitVec 4) (0 : BitVec 4) (0 : BitVec 16)) [(0, (1234605616436508552 : Word)), (7, (18446744073709551615 : Word))]).blk.saf 15).instr < 16777216
    -- 1.5
    ∧ SaffronAt (sIs 72 (fI (6 : BitVec 4) (0 : BitVec 4) (1 : BitVec 16)) [(6, (1 : Word))]).blk 15 (72 * 2 ^ 24 + (fI (6 : BitVec 4) (0 : BitVec 4) (1 : BitVec 16)).enc)
    ∧ ((fI (6 : BitVec 4) (0 : BitVec 4) (1 : BitVec 16)).d.toNat < 8
        ∧ (fI (6 : BitVec 4) (0 : BitVec 4) (1 : BitVec 16)).a = (0 : BitVec 4))
    ∧ ((sIs 72 (fI (6 : BitVec 4) (0 : BitVec 4) (1 : BitVec 16)) [(6, (1 : Word))]).blk.saf 15).instr < 16777216
    ∧ ((sIs 72 (fI (6 : BitVec 4) (0 : BitVec 4) (1 : BitVec 16)) [(6, (1 : Word))]).blk.saf 15).pc < (fI (6 : BitVec 4) (0 : BitVec 4) (1 : BitVec 16)).imm.toNat
    -- 1.5
    ∧ SaffronAt (sIs 72 (fI (8 : BitVec 4) (0 : BitVec 4) (1 : BitVec 16)) [(6, (1 : Word))]).blk 15 (72 * 2 ^ 24 + (fI (8 : BitVec 4) (0 : BitVec 4) (1 : BitVec 16)).enc)
    ∧ (¬((fI (8 : BitVec 4) (0 : BitVec 4) (1 : BitVec 16)).d.toNat < 8
        ∧ (fI (8 : BitVec 4) (0 : BitVec 4) (1 : BitVec 16)).a = (0 : BitVec 4)))
    -- 1.6
    ∧ SaffronAt (sB (fI (7 : BitVec 4) (0 : BitVec 4) (2 : BitVec 16)) []).blk 15 (73 * 2 ^ 24 + (fI (7 : BitVec 4) (0 : BitVec 4) (2 : BitVec 16)).enc)
    ∧ ((fI (7 : BitVec 4) (0 : BitVec 4) (2 : BitVec 16)).d.toNat < 8
        ∧ (fI (7 : BitVec 4) (0 : BitVec 4) (2 : BitVec 16)).a = (0 : BitVec 4))
    ∧ ((sB (fI (7 : BitVec 4) (0 : BitVec 4) (2 : BitVec 16)) []).blk.saf 15).pc < (fI (7 : BitVec 4) (0 : BitVec 4) (2 : BitVec 16)).imm.toNat
    ∧ (∃ x, ((sB (fI (7 : BitVec 4) (0 : BitVec 4) (2 : BitVec 16)) []).blk.saf 15).exp = some x
        ∧ (fI (7 : BitVec 4) (0 : BitVec 4) (2 : BitVec 16)).imm.toNat < x.prog.length)
    ∧ (HasInstr (sB (fI (7 : BitVec 4) (0 : BitVec 4) (2 : BitVec 16)) []).blk 15 (if ((sB (fI (7 : BitVec 4) (0 : BitVec 4) (2 : BitVec 16)) []).blk.saf 15).scalar (fI (7 : BitVec 4) (0 : BitVec 4) (2 : BitVec 16)).d.toNat = (0 : Word) then (fI (7 : BitVec 4) (0 : BitVec 4) (2 : BitVec 16)).imm.toNat else ((sB (fI (7 : BitVec 4) (0 : BitVec 4) (2 : BitVec 16)) []).blk.saf 15).pc + 1))
    ∧ ((fI (7 : BitVec 4) (0 : BitVec 4) (2 : BitVec 16)).d.toNat < 8
        ∧ (fI (7 : BitVec 4) (0 : BitVec 4) (2 : BitVec 16)).a = (0 : BitVec 4))
    ∧ ((sB (fI (7 : BitVec 4) (0 : BitVec 4) (2 : BitVec 16)) []).blk.saf 15).instr < 16777216
    -- 1.6
    ∧ SaffronAt (sB (fI (7 : BitVec 4) (0 : BitVec 4) (3 : BitVec 16)) []).blk 15 (73 * 2 ^ 24 + (fI (7 : BitVec 4) (0 : BitVec 4) (3 : BitVec 16)).enc)
    ∧ ((fI (7 : BitVec 4) (0 : BitVec 4) (3 : BitVec 16)).d.toNat < 8
        ∧ (fI (7 : BitVec 4) (0 : BitVec 4) (3 : BitVec 16)).a = (0 : BitVec 4))
    ∧ ((sB (fI (7 : BitVec 4) (0 : BitVec 4) (3 : BitVec 16)) []).blk.saf 15).instr < 16777216
    ∧ ((fI (7 : BitVec 4) (0 : BitVec 4) (3 : BitVec 16)).imm.toNat ≤ ((sB (fI (7 : BitVec 4) (0 : BitVec 4) (3 : BitVec 16)) []).blk.saf 15).pc ∨ ∃ x, ((sB (fI (7 : BitVec 4) (0 : BitVec 4) (3 : BitVec 16)) []).blk.saf 15).exp = some x ∧ x.prog.length ≤ (fI (7 : BitVec 4) (0 : BitVec 4) (3 : BitVec 16)).imm.toNat)
    -- 1.6
    ∧ SaffronAt (sB (fI (7 : BitVec 4) (1 : BitVec 4) (2 : BitVec 16)) []).blk 15 (73 * 2 ^ 24 + (fI (7 : BitVec 4) (1 : BitVec 4) (2 : BitVec 16)).enc)
    ∧ (¬((fI (7 : BitVec 4) (1 : BitVec 4) (2 : BitVec 16)).d.toNat < 8
        ∧ (fI (7 : BitVec 4) (1 : BitVec 4) (2 : BitVec 16)).a = (0 : BitVec 4))) := by
  refine ⟨?_, ?_, ?_, ?_, ?_, ?_, ?_, ?_, ?_, ?_, ?_, ?_, ?_, ?_, ?_, ?_, ?_, ?_, ?_, ?_, ?_, ?_, ?_, ?_, ?_,
    ?_, ?_, ?_, ?_, ?_, ?_, ?_, ?_, ?_, ?_, ?_, ?_, ?_, ?_, ?_, ?_, ?_, ?_, ?_, ?_, ?_, ?_, ?_, ?_, ?_⟩ <;>
    (first
      | decide +kernel
      | exact hasInstr_of (by decide +kernel)
      | exact saffronAt_of (by decide +kernel))
end SaffronData

namespace SaffronMore
def fT (d a b : BitVec 4) (c : BitVec 4 := 0) (msel : BitVec 2 := 0) (mu : Bool := false) (mod : BitVec 5 := 0) : TFmt := ⟨d, a, b, c, msel, mu, mod⟩
def wT (op : Nat) (f : TFmt) : BitVec 32 := BitVec.ofNat 32 (op * 2^24 + f.enc)
def endW : BitVec 32 := 0x4F000000
def xC (mode ntok k : Nat) (w : BitVec 32) : Expansion := { prog := [w, endW], stage := .running, argsAddr := 0x30000, progAddr := 0x31000, arg := { mode := mode, k := k, ntok := ntok, nexp := 4096 } }
def fC : TFmt := fT 0 4 5
def sC (mode ntok k : Nat) (f : Saffron → Saffron) (f' : TFmt := fC) (op : Nat := 0x33) : State := ondB (exS (xC mode ntok k (wT op f'))) fun b => b.modSaf 15 fun u => f { u with
  tiles := [(4, (List.range 1024).map fun j => BitVec.ofNat 16 (1000 - j)), (5, (List.range 1024).map fun j => BitVec.ofNat 16 (j % 32))] }
def fE : TFmt := fT 7 0 0
def sE (mode ntok : Nat) (f : Saffron → Saffron) (g : TFmt := fE) : State := sC mode ntok 1 f g 0x4F
def sEw : State := ondB (sE 2 5 id) fun b => b.put 15 4 0x1000 [1,2] (.saffron 15 3)
def fE2 : TFmt := fT 8 0 0
def scate_4 : State := sE 0 0 (fun u => { u with scalars := [(7, -1)] })
def scate_4r2 : State := sE 2 5 (fun u => { u with curtok := 5 })
def scate_4r3 : State := sE 2 5 (fun u => { u with curtok := 4 })
theorem witness_ScalarsCandidatesAndTheEnd' :
    -- 2
    SaffronAt (sC 0 5 2 id).blk 15 (51 * 2 ^ 24 + fC.enc)
    ∧ ((sC 0 5 2 id).blk.saf 15).exp = some (xC 0 5 2 (wT 51 fC))
    ∧ (fC.d = (0 : BitVec 4) ∧ fC.c = (0 : BitVec 4) ∧ fC.mod = (0 : BitVec 5) ∧ fC.msel = (0 : BitVec 2)
        ∧ fC.mu = false)
    ∧ ((sC 0 5 2 id).blk.saf 15).instr < 16777216
    ∧ (¬(((xC 0 5 2 (wT 51 fC)).arg.mode = 1 ∨ (xC 0 5 2 (wT 51 fC)).arg.mode = 2)
        ∧ ((sC 0 5 2 id).blk.saf 15).curtok < (xC 0 5 2 (wT 51 fC)).arg.ntok))
    ∧ (fC.d = (0 : BitVec 4) ∧ fC.c = (0 : BitVec 4) ∧ fC.mod = (0 : BitVec 5) ∧ fC.msel = (0 : BitVec 2)
        ∧ fC.mu = false)
    ∧ (fC.d = (0 : BitVec 4) ∧ fC.c = (0 : BitVec 4) ∧ fC.mod = (0 : BitVec 5) ∧ fC.msel = (0 : BitVec 2)
        ∧ fC.mu = false)
    ∧ (fC.d = (0 : BitVec 4) ∧ fC.c = (0 : BitVec 4) ∧ fC.mod = (0 : BitVec 5) ∧ fC.msel = (0 : BitVec 2)
        ∧ fC.mu = false)
    -- 2
    ∧ SaffronAt (sC 1 33 8 id).blk 15 (51 * 2 ^ 24 + fC.enc)
    ∧ ((sC 1 33 8 id).blk.saf 15).exp = some (xC 1 33 8 (wT 51 fC))
    ∧ (fC.d = (0 : BitVec 4) ∧ fC.c = (0 : BitVec 4) ∧ fC.mod = (0 : BitVec 5) ∧ fC.msel = (0 : BitVec 2)
        ∧ fC.mu = false)
    ∧ ((xC 1 33 8 (wT 51 fC)).arg.mode = 1 ∨ (xC 1 33 8 (wT 51 fC)).arg.mode = 2)
    ∧ ((sC 1 33 8 id).blk.saf 15).curtok < (xC 1 33 8 (wT 51 fC)).arg.ntok
    ∧ ((sC 1 33 8 id).blk.saf 15).instr < 16777216
    ∧ (fC.d = (0 : BitVec 4) ∧ fC.c = (0 : BitVec 4) ∧ fC.mod = (0 : BitVec 5) ∧ fC.msel = (0 : BitVec 2)
        ∧ fC.mu = false)
    ∧ ((xC 1 33 8 (wT 51 fC)).arg.mode = 1 ∨ (xC 1 33 8 (wT 51 fC)).arg.mode = 2)
    ∧ ((sC 1 33 8 id).blk.saf 15).curtok < (xC 1 33 8 (wT 51 fC)).arg.ntok
    ∧ HasInstr (sC 1 33 8 id).blk 15 (((sC 1 33 8 id).blk.saf 15).pc + 1)
    ∧ (fC.d = (0 : BitVec 4) ∧ fC.c = (0 : BitVec 4) ∧ fC.mod = (0 : BitVec 5) ∧ fC.msel = (0 : BitVec 2)
        ∧ fC.mu = false)
    ∧ ((xC 1 33 8 (wT 51 fC)).arg.mode = 1 ∨ (xC 1 33 8 (wT 51 fC)).arg.mode = 2)
    ∧ ((sC 1 33 8 id).blk.saf 15).curtok < (xC 1 33 8 (wT 51 fC)).arg.ntok
    ∧ ((sC 1 33 8 id).blk.saf 15).instr < 16777216
    -- 2
    ∧ SaffronAt (sC 2 33 8 id (fT (1 : BitVec 4) (4 : BitVec 4) (5 : BitVec 4))).blk 15 (51 * 2 ^ 24 + (fT (1 : BitVec 4) (4 : BitVec 4) (5 : BitVec 4)).enc)
    ∧ ((sC 2 33 8 id (fT (1 : BitVec 4) (4 : BitVec 4) (5 : BitVec 4))).blk.saf 15).exp
        = some (xC 2 33 8 (wT 51 (fT (1 : BitVec 4) (4 : BitVec 4) (5 : BitVec 4))))
    ∧ (¬((fT (1 : BitVec 4) (4 : BitVec 4) (5 : BitVec 4)).d = (0 : BitVec 4)
        ∧ (fT (1 : BitVec 4) (4 : BitVec 4) (5 : BitVec 4)).c = (0 : BitVec 4)
        ∧ (fT (1 : BitVec 4) (4 : BitVec 4) (5 : BitVec 4)).mod = (0 : BitVec 5)
        ∧ (fT (1 : BitVec 4) (4 : BitVec 4) (5 : BitVec 4)).msel = (0 : BitVec 2)
        ∧ (fT (1 : BitVec 4) (4 : BitVec 4) (5 : BitVec 4)).mu = false))
    -- 4
    ∧ SaffronAt scate_4.blk 15 (79 * 2 ^ 24 + fE.enc)
    ∧ (scate_4.blk.saf 15).exp = some (xC 0 0 1 (wT 79 fE))
    ∧ ((fE.d.toNat < 8 ∨ (xC 0 0 1 (wT 79 fE)).arg.mode ≠ 0) ∧ fE.a = (0 : BitVec 4) ∧ fE.b
        = (0 : BitVec 4) ∧ fE.c = (0 : BitVec 4) ∧ fE.mod = (0 : BitVec 5) ∧ fE.msel = (0 : BitVec 2)
        ∧ fE.mu = false)
    ∧ (scate_4.blk.saf 15).instr < 16777216
    ∧ ((fE.d.toNat < 8 ∨ (xC 0 0 1 (wT 79 fE)).arg.mode ≠ 0) ∧ fE.a = (0 : BitVec 4) ∧ fE.b
        = (0 : BitVec 4) ∧ fE.c = (0 : BitVec 4) ∧ fE.mod = (0 : BitVec 5) ∧ fE.msel = (0 : BitVec 2)
        ∧ fE.mu = false)
    ∧ (scate_4.blk.saf 15).instr < 16777216
    ∧ scate_4.blk.mp.programWrites 15 = false
    ∧ (xC 0 0 1 (wT 79 fE)).arg.mode = 0
    ∧ ((fE.d.toNat < 8 ∨ (xC 0 0 1 (wT 79 fE)).arg.mode ≠ 0) ∧ fE.a = (0 : BitVec 4) ∧ fE.b
        = (0 : BitVec 4) ∧ fE.c = (0 : BitVec 4) ∧ fE.mod = (0 : BitVec 5) ∧ fE.msel = (0 : BitVec 2)
        ∧ fE.mu = false)
    ∧ (scate_4.blk.saf 15).instr < 16777216
    ∧ scate_4.blk.mp.programWrites 15 = false
    ∧ ((fE.d.toNat < 8 ∨ (xC 0 0 1 (wT 79 fE)).arg.mode ≠ 0) ∧ fE.a = (0 : BitVec 4) ∧ fE.b
        = (0 : BitVec 4) ∧ fE.c = (0 : BitVec 4) ∧ fE.mod = (0 : BitVec 5) ∧ fE.msel = (0 : BitVec 2)
        ∧ fE.mu = false)
    ∧ (scate_4.blk.saf 15).instr < 16777216
    ∧ scate_4.blk.mp.programWrites 15 = false
    -- 4
    ∧ SaffronAt scate_4r2.blk 15 (79 * 2 ^ 24 + fE.enc)
    ∧ (scate_4r2.blk.saf 15).exp = some (xC 2 5 1 (wT 79 fE))
    ∧ ((fE.d.toNat < 8 ∨ (xC 2 5 1 (wT 79 fE)).arg.mode ≠ 0) ∧ fE.a = (0 : BitVec 4) ∧ fE.b
        = (0 : BitVec 4) ∧ fE.c = (0 : BitVec 4) ∧ fE.mod = (0 : BitVec 5) ∧ fE.msel = (0 : BitVec 2)
        ∧ fE.mu = false)
    ∧ (scate_4r2.blk.saf 15).instr < 16777216
    ∧ scate_4r2.blk.mp.programWrites 15 = false
    ∧ (xC 2 5 1 (wT 79 fE)).arg.mode ≠ 0
    ∧ (xC 2 5 1 (wT 79 fE)).arg.ntok ≤ (scate_4r2.blk.saf 15).curtok
    ∧ ((fE.d.toNat < 8 ∨ (xC 2 5 1 (wT 79 fE)).arg.mode ≠ 0) ∧ fE.a = (0 : BitVec 4) ∧ fE.b
        = (0 : BitVec 4) ∧ fE.c = (0 : BitVec 4) ∧ fE.mod = (0 : BitVec 5) ∧ fE.msel = (0 : BitVec 2)
        ∧ fE.mu = false)
    ∧ (scate_4r2.blk.saf 15).instr < 16777216
    ∧ scate_4r2.blk.mp.programWrites 15 = false
    ∧ (xC 2 5 1 (wT 79 fE)).arg.mode ≠ 0
    -- 4
    ∧ SaffronAt scate_4r3.blk 15 (79 * 2 ^ 24 + fE.enc)
    ∧ (scate_4r3.blk.saf 15).exp = some (xC 2 5 1 (wT 79 fE))
    ∧ ((fE.d.toNat < 8 ∨ (xC 2 5 1 (wT 79 fE)).arg.mode ≠ 0) ∧ fE.a = (0 : BitVec 4) ∧ fE.b
        = (0 : BitVec 4) ∧ fE.c = (0 : BitVec 4) ∧ fE.mod = (0 : BitVec 5) ∧ fE.msel = (0 : BitVec 2)
        ∧ fE.mu = false)
    ∧ (scate_4r3.blk.saf 15).instr < 16777216
    ∧ scate_4r3.blk.mp.programWrites 15 = false
    ∧ (xC 2 5 1 (wT 79 fE)).arg.mode ≠ 0
    ∧ (scate_4r3.blk.saf 15).curtok < (xC 2 5 1 (wT 79 fE)).arg.ntok
    -- 4
    ∧ SaffronAt sEw.blk 15 (79 * 2 ^ 24 + fE.enc)
    ∧ (sEw.blk.saf 15).exp = some (xC 2 5 1 (wT 79 fE))
    ∧ ((fE.d.toNat < 8 ∨ (xC 2 5 1 (wT 79 fE)).arg.mode ≠ 0) ∧ fE.a = (0 : BitVec 4) ∧ fE.b
        = (0 : BitVec 4) ∧ fE.c = (0 : BitVec 4) ∧ fE.mod = (0 : BitVec 5) ∧ fE.msel = (0 : BitVec 2)
        ∧ fE.mu = false)
    ∧ (sEw.blk.saf 15).instr < 16777216
    ∧ sEw.blk.mp.programWrites 15 = true
    -- 4
    ∧ SaffronAt (sE 0 0 id fE2).blk 15 (79 * 2 ^ 24 + fE2.enc)
    ∧ ((sE 0 0 id fE2).blk.saf 15).exp = some (xC 0 0 1 (wT 79 fE2))
    ∧ (¬((fE2.d.toNat < 8 ∨ (xC 0 0 1 (wT 79 fE2)).arg.mode ≠ 0) ∧ fE2.a = (0 : BitVec 4) ∧ fE2.b
        = (0 : BitVec 4) ∧ fE2.c = (0 : BitVec 4) ∧ fE2.mod = (0 : BitVec 5) ∧ fE2.msel = (0 : BitVec 2)
        ∧ fE2.mu = false)) := by
  refine ⟨?_, ?_, ?_, ?_, ?_, ?_, ?_, ?_, ?_, ?_, ?_, ?_, ?_, ?_, ?_, ?_, ?_, ?_, ?_, ?_, ?_, ?_, ?_, ?_, ?_,
    ?_, ?_, ?_, ?_, ?_, ?_, ?_, ?_, ?_, ?_, ?_, ?_, ?_, ?_, ?_, ?_, ?_, ?_, ?_, ?_, ?_, ?_, ?_, ?_, ?_, ?_,
    ?_, ?_, ?_, ?_, ?_, ?_, ?_, ?_, ?_, ?_, ?_, ?_, ?_, ?_⟩ <;>
    (first
      | decide +kernel
      | exact hasInstr_of (by decide +kernel)
      | exact saffronAt_of (by decide +kernel))
end SaffronMore

namespace SaffronMemory
def fT (d a b : BitVec 4) (c : BitVec 4 := 0) (msel : BitVec 2 := 0) (mu : Bool := false) (mod : BitVec 5 := 0) : TFmt := ⟨d, a, b, c, msel, mu, mod⟩
def wT (op : Nat) (f : TFmt) : BitVec 32 := BitVec.ofNat 32 (op * 2^24 + f.enc)
def endW : BitVec 32 := 0x4F000000
def tilesAB (u : Saffron) : Saffron := { u with
  tiles := [(0, (List.range 1024).map fun k => BitVec.ofNat 16 (k * 77)), (15, (List.range 1024).map fun k => BitVec.ofNat 16 (65535 - k * 131))]
  masks := [(2, (List.range 1024).map fun k => k % 3 == 0), (3, (List.range 1000).map fun k => k % 5 == 0)] }
def fI (d a : BitVec 4) (imm : BitVec 16) : IFmt := ⟨d, a, imm⟩
def wI (op : Nat) (f : IFmt) : BitVec 32 := BitVec.ofNat 32 (op * 2^24 + f.enc)
def ss (op : Nat) (f : TFmt) (sc : Tab Word) : State := saf [wT op f, endW] fun u => { tilesAB u with scalars := sc }
def shp : Word := 0x0000202000000040
def shp2 : Word := 0x0000030500000006
def fL : TFmt := fT 2 1 2 0 3 true
def mL : MemView := { words := (List.range 300).map fun k => (0x60000 + 8 * k, BitVec.ofNat 64 (k * 0x0123456789ABCDEF)) }
def sIs (op : Nat) (f : IFmt) (sc : Tab Word) : State := saf [wI op f, endW] fun u => { tilesAB u with scalars := sc }
def fS : TFmt := fT 0 15 2 1 2 true
def sS : State := ss 0x31 fS [(1, 0x60000), (2, shp2)]
def fX (mod : BitVec 5) : TFmt := fT 7 0 15 1 2 false mod
def mo_1_1r2 : MemView := { mL with errs := [{ base := 0x60010, len := 4, code := 2 }] }
theorem witness_MemoryOperations :
    -- 1.1
    SaffronAt (ss 48 fL [(1, (393216 : Word)), (2, shp)]).blk 15 (48 * 2 ^ 24 + fL.enc)
    ∧ (fL.a.toNat < 8 ∧ fL.b.toNat < 8 ∧ fL.c = (0 : BitVec 4) ∧ fL.mod = (0 : BitVec 5))
    ∧ ((ss 48 fL [(1, (393216 : Word)), (2, shp)]).blk.saf 15).instr < 16777216
    ∧ shapeOf (((ss 48 fL [(1, (393216 : Word)), (2, shp)]).blk.saf 15).scalar fL.b.toNat) = some (32, 32, 64)
    ∧ BitVec.toNat (((ss 48 fL [(1, (393216 : Word)), (2, shp)]).blk.saf 15).scalar fL.a.toNat) % 2 = 0
    ∧ areasOk (rowAreas (BitVec.toNat (((ss 48 fL [(1, (393216 : Word)), (2, shp)]).blk.saf 15).scalar fL.a.toNat)) (32, 32, 64)) = true
    ∧ (∀ t ∈ rowAreas (BitVec.toNat (((ss 48 fL [(1, (393216 : Word)), (2, shp)]).blk.saf 15).scalar fL.a.toNat)) (32, 32, 64), (ss 48 fL [(1, (393216 : Word)), (2, shp)]).blk.mp.pendingWrite t.1 t.2 = false)
    ∧ MemView_areas mL (rowAreas (BitVec.toNat (((ss 48 fL [(1, (393216 : Word)), (2, shp)]).blk.saf 15).scalar fL.a.toNat)) (32, 32, 64)) = Status.ok
    ∧ HasInstr (ss 48 fL [(1, (393216 : Word)), (2, shp)]).blk 15 (((ss 48 fL [(1, (393216 : Word)), (2, shp)]).blk.saf 15).pc + 1)
    ∧ fL.mu = true
    -- 1.1
    ∧ SaffronAt (ss 48 fL [(1, (393216 : Word)), (2, shp2)]).blk 15 (48 * 2 ^ 24 + fL.enc)
    ∧ (fL.a.toNat < 8 ∧ fL.b.toNat < 8 ∧ fL.c = (0 : BitVec 4) ∧ fL.mod = (0 : BitVec 5))
    ∧ ((ss 48 fL [(1, (393216 : Word)), (2, shp2)]).blk.saf 15).instr < 16777216
    ∧ shapeOf (((ss 48 fL [(1, (393216 : Word)), (2, shp2)]).blk.saf 15).scalar fL.b.toNat) = some (5, 3, 6)
    ∧ BitVec.toNat (((ss 48 fL [(1, (393216 : Word)), (2, shp2)]).blk.saf 15).scalar fL.a.toNat) % 2 = 0
    ∧ areasOk (rowAreas (BitVec.toNat (((ss 48 fL [(1, (393216 : Word)), (2, shp2)]).blk.saf 15).scalar fL.a.toNat)) (5, 3, 6)) = true
    ∧ (∀ t ∈ rowAreas (BitVec.toNat (((ss 48 fL [(1, (393216 : Word)), (2, shp2)]).blk.saf 15).scalar fL.a.toNat)) (5, 3, 6), (ss 48 fL [(1, (393216 : Word)), (2, shp2)]).blk.mp.pendingWrite t.1 t.2 = false)
    ∧ MemView_areas mo_1_1r2 (rowAreas (BitVec.toNat (((ss 48 fL [(1, (393216 : Word)), (2, shp2)]).blk.saf 15).scalar fL.a.toNat)) (5, 3, 6)) ≠ Status.ok
    -- 1.2
    ∧ SaffronAt (ss 48 fL [(1, (393217 : Word)), (2, shp2)]).blk 15 (48 * 2 ^ 24 + fL.enc)
    ∧ (fL.a.toNat < 8 ∧ fL.b.toNat < 8 ∧ fL.c = (0 : BitVec 4) ∧ fL.mod = (0 : BitVec 5))
    ∧ ((ss 48 fL [(1, (393217 : Word)), (2, shp2)]).blk.saf 15).instr < 16777216
    ∧ (∀ (sh : Nat × Nat × Nat), shapeOf (((ss 48 fL [(1, (393217 : Word)), (2, shp2)]).blk.saf 15).scalar fL.b.toNat) = some sh → BitVec.toNat (((ss 48 fL [(1, (393217 : Word)), (2, shp2)]).blk.saf 15).scalar fL.a.toNat) % 2 = 1 ∨ areasOk (rowAreas (BitVec.toNat (((ss 48 fL [(1, (393217 : Word)), (2, shp2)]).blk.saf 15).scalar fL.a.toNat)) sh) = false)
    -- 1.3
    ∧ SaffronAt (ss 48 (fT (2 : BitVec 4) (8 : BitVec 4) (2 : BitVec 4)) [(1, (393216 : Word)), (2, (0 : Word))]).blk 15 (48 * 2 ^ 24 + (fT (2 : BitVec 4) (8 : BitVec 4) (2 : BitVec 4)).enc)
    ∧ (¬((fT (2 : BitVec 4) (8 : BitVec 4) (2 : BitVec 4)).a.toNat < 8
        ∧ (fT (2 : BitVec 4) (8 : BitVec 4) (2 : BitVec 4)).b.toNat < 8
        ∧ (fT (2 : BitVec 4) (8 : BitVec 4) (2 : BitVec 4)).c = (0 : BitVec 4)
        ∧ (fT (2 : BitVec 4) (8 : BitVec 4) (2 : BitVec 4)).mod = (0 : BitVec 5)))
    -- 2
    ∧ SaffronAt (sIs 67 (fI (7 : BitVec 4) (1 : BitVec 4) (65528 : BitVec 16)) [(1, (393232 : Word))]).blk 15 (67 * 2 ^ 24 + (fI (7 : BitVec 4) (1 : BitVec 4) (65528 : BitVec 16)).enc)
    ∧ ((fI (7 : BitVec 4) (1 : BitVec 4) (65528 : BitVec 16)).d.toNat < 8
        ∧ (fI (7 : BitVec 4) (1 : BitVec 4) (65528 : BitVec 16)).a.toNat < 8)
    ∧ HasInstr (sIs 67 (fI (7 : BitVec 4) (1 : BitVec 4) (65528 : BitVec 16)) [(1, (393232 : Word))]).blk 15 (((sIs 67 (fI (7 : BitVec 4) (1 : BitVec 4) (65528 : BitVec 16)) [(1, (393232 : Word))]).blk.saf 15).pc + 1)
    ∧ BitVec.toNat (((sIs 67 (fI (7 : BitVec 4) (1 : BitVec 4) (65528 : BitVec 16)) [(1, (393232 : Word))]).blk.saf 15).scalar (fI (7 : BitVec 4) (1 : BitVec 4) (65528 : BitVec 16)).a.toNat + BitVec.signExtend 64 (fI (7 : BitVec 4) (1 : BitVec 4) (65528 : BitVec 16)).imm) % 8 = 0
    ∧ BitVec.toNat (((sIs 67 (fI (7 : BitVec 4) (1 : BitVec 4) (65528 : BitVec 16)) [(1, (393232 : Word))]).blk.saf 15).scalar (fI (7 : BitVec 4) (1 : BitVec 4) (65528 : BitVec 16)).a.toNat + BitVec.signExtend 64 (fI (7 : BitVec 4) (1 : BitVec 4) (65528 : BitVec 16)).imm) + 8 ≤ 2 ^ 56
    ∧ (sIs 67 (fI (7 : BitVec 4) (1 : BitVec 4) (65528 : BitVec 16)) [(1, (393232 : Word))]).blk.mp.pendingWrite (BitVec.toNat (((sIs 67 (fI (7 : BitVec 4) (1 : BitVec 4) (65528 : BitVec 16)) [(1, (393232 : Word))]).blk.saf 15).scalar (fI (7 : BitVec 4) (1 : BitVec 4) (65528 : BitVec 16)).a.toNat + BitVec.signExtend 64 (fI (7 : BitVec 4) (1 : BitVec 4) (65528 : BitVec 16)).imm)) 8 = false
    ∧ mL.status Status.indirectFault (BitVec.toNat (((sIs 67 (fI (7 : BitVec 4) (1 : BitVec 4) (65528 : BitVec 16)) [(1, (393232 : Word))]).blk.saf 15).scalar (fI (7 : BitVec 4) (1 : BitVec 4) (65528 : BitVec 16)).a.toNat + BitVec.signExtend 64 (fI (7 : BitVec 4) (1 : BitVec 4) (65528 : BitVec 16)).imm)) 8 = Status.ok
    ∧ ((fI (7 : BitVec 4) (1 : BitVec 4) (65528 : BitVec 16)).d.toNat < 8
        ∧ (fI (7 : BitVec 4) (1 : BitVec 4) (65528 : BitVec 16)).a.toNat < 8)
    ∧ ((sIs 67 (fI (7 : BitVec 4) (1 : BitVec 4) (65528 : BitVec 16)) [(1, (393232 : Word))]).blk.saf 15).instr < 16777216
    -- 2
    ∧ SaffronAt (sIs 67 (fI (7 : BitVec 4) (1 : BitVec 4) (4 : BitVec 16)) [(1, (393232 : Word))]).blk 15 (67 * 2 ^ 24 + (fI (7 : BitVec 4) (1 : BitVec 4) (4 : BitVec 16)).enc)
    ∧ ((fI (7 : BitVec 4) (1 : BitVec 4) (4 : BitVec 16)).d.toNat < 8
        ∧ (fI (7 : BitVec 4) (1 : BitVec 4) (4 : BitVec 16)).a.toNat < 8)
    ∧ ((sIs 67 (fI (7 : BitVec 4) (1 : BitVec 4) (4 : BitVec 16)) [(1, (393232 : Word))]).blk.saf 15).instr < 16777216
    ∧ (BitVec.toNat (((sIs 67 (fI (7 : BitVec 4) (1 : BitVec 4) (4 : BitVec 16)) [(1, (393232 : Word))]).blk.saf 15).scalar (fI (7 : BitVec 4) (1 : BitVec 4) (4 : BitVec 16)).a.toNat + BitVec.signExtend 64 (fI (7 : BitVec 4) (1 : BitVec 4) (4 : BitVec 16)).imm) % 8 ≠ 0 ∨ 2 ^ 56 < BitVec.toNat (((sIs 67 (fI (7 : BitVec 4) (1 : BitVec 4) (4 : BitVec 16)) [(1, (393232 : Word))]).blk.saf 15).scalar (fI (7 : BitVec 4) (1 : BitVec 4) (4 : BitVec 16)).a.toNat + BitVec.signExtend 64 (fI (7 : BitVec 4) (1 : BitVec 4) (4 : BitVec 16)).imm) + 8)
    -- 2
    ∧ SaffronAt (sIs 67 (fI (8 : BitVec 4) (1 : BitVec 4) (65528 : BitVec 16)) []).blk 15 (67 * 2 ^ 24 + (fI (8 : BitVec 4) (1 : BitVec 4) (65528 : BitVec 16)).enc)
    ∧ (¬((fI (8 : BitVec 4) (1 : BitVec 4) (65528 : BitVec 16)).d.toNat < 8
        ∧ (fI (8 : BitVec 4) (1 : BitVec 4) (65528 : BitVec 16)).a.toNat < 8))
    -- 3.1.1
    ∧ SaffronAt sS.blk 15 (49 * 2 ^ 24 + fS.enc)
    ∧ (fS.d = (0 : BitVec 4) ∧ fS.b.toNat < 8 ∧ fS.c.toNat < 8 ∧ fS.mod = (0 : BitVec 5))
    ∧ HasInstr sS.blk 15 ((sS.blk.saf 15).pc + 1)
    ∧ shapeOf ((sS.blk.saf 15).scalar fS.b.toNat) = some (5, 3, 6)
    ∧ areasOk (rowAreas (BitVec.toNat ((sS.blk.saf 15).scalar fS.c.toNat)) (5, 3, 6)) = true
    -- 3.2
    ∧ SaffronAt (ss 49 fS [(1, (393216 : Word))]).blk 15 (49 * 2 ^ 24 + fS.enc)
    ∧ (fS.d = (0 : BitVec 4) ∧ fS.b.toNat < 8 ∧ fS.c.toNat < 8 ∧ fS.mod = (0 : BitVec 5))
    ∧ ((ss 49 fS [(1, (393216 : Word))]).blk.saf 15).instr < 16777216
    ∧ (∀ (sh : Nat × Nat × Nat), shapeOf (((ss 49 fS [(1, (393216 : Word))]).blk.saf 15).scalar fS.b.toNat)
        = some sh → areasOk (rowAreas (BitVec.toNat (((ss 49 fS [(1, (393216 : Word))]).blk.saf 15).scalar fS.c.toNat)) sh) = false)
    -- 3.3
    ∧ SaffronAt (ss 49 (fT (1 : BitVec 4) (1 : BitVec 4) (1 : BitVec 4)) [(1, (393216 : Word))]).blk 15 (49 * 2 ^ 24 + (fT (1 : BitVec 4) (1 : BitVec 4) (1 : BitVec 4)).enc)
    ∧ (¬((fT (1 : BitVec 4) (1 : BitVec 4) (1 : BitVec 4)).d = (0 : BitVec 4)
        ∧ (fT (1 : BitVec 4) (1 : BitVec 4) (1 : BitVec 4)).b.toNat < 8
        ∧ (fT (1 : BitVec 4) (1 : BitVec 4) (1 : BitVec 4)).c.toNat < 8
        ∧ (fT (1 : BitVec 4) (1 : BitVec 4) (1 : BitVec 4)).mod = (0 : BitVec 5)))
    -- 4
    ∧ SaffronAt (ss 50 (fX (0 : BitVec 5)) [(7, (393224 : Word))]).blk 15 (50 * 2 ^ 24 + (fX (0 : BitVec 5)).enc)
    ∧ ((fX (0 : BitVec 5)).d.toNat < 8 ∧ (fX (0 : BitVec 5)).mu = false
        ∧ (fX (0 : BitVec 5)).mod.toNat < 16 ∧ ((fX (0 : BitVec 5)).mod.getLsbD 0
        = true ∨ (fX (0 : BitVec 5)).mod = (0 : BitVec 5)))
    ∧ HasInstr (ss 50 (fX (0 : BitVec 5)) [(7, (393224 : Word))]).blk 15 (((ss 50 (fX (0 : BitVec 5)) [(7, (393224 : Word))]).blk.saf 15).pc + 1)
    ∧ ((BitVec.toNat (((ss 50 (fX (0 : BitVec 5)) [(7, (393224 : Word))]).blk.saf 15).scalar (fX (0 : BitVec 5)).d.toNat) % if (fX (0 : BitVec 5)).mod.getLsbD 0 = true then 16 else 8) = 0)
    ∧ ((fX (0 : BitVec 5)).d.toNat < 8 ∧ (fX (0 : BitVec 5)).mu = false
        ∧ (fX (0 : BitVec 5)).mod.toNat < 16 ∧ ((fX (0 : BitVec 5)).mod.getLsbD 0
        = true ∨ (fX (0 : BitVec 5)).mod = (0 : BitVec 5)))
    ∧ ((ss 50 (fX (0 : BitVec 5)) [(7, (393224 : Word))]).blk.saf 15).instr < 16777216
    -- 4
    ∧ SaffronAt (ss 50 (fX (2 : BitVec 5)) [(7, (393224 : Word))]).blk 15 (50 * 2 ^ 24 + (fX (2 : BitVec 5)).enc)
    ∧ (¬((fX (2 : BitVec 5)).d.toNat < 8 ∧ (fX (2 : BitVec 5)).mu = false
        ∧ (fX (2 : BitVec 5)).mod.toNat < 16 ∧ ((fX (2 : BitVec 5)).mod.getLsbD 0
        = true ∨ (fX (2 : BitVec 5)).mod = (0 : BitVec 5)))) := by
  refine ⟨?_, ?_, ?_, ?_, ?_, ?_, ?_, ?_, ?_, ?_, ?_, ?_, ?_, ?_, ?_, ?_, ?_, ?_, ?_, ?_, ?_, ?_, ?_, ?_, ?_,
    ?_, ?_, ?_, ?_, ?_, ?_, ?_, ?_, ?_, ?_, ?_, ?_, ?_, ?_, ?_, ?_, ?_, ?_, ?_, ?_, ?_, ?_, ?_, ?_, ?_, ?_,
    ?_, ?_, ?_, ?_, ?_, ?_, ?_⟩ <;>
    (first
      | decide +kernel
      | exact forall_shape (by decide +kernel)
      | exact hasInstr_of (by decide +kernel)
      | exact saffronAt_of (by decide +kernel))
end SaffronMemory

namespace Sequences
def sqq (f : SeqTable → SeqTable) : State := sr fun b => { b with seq := f b.seq }
def c16 : List SeqCmd := List.replicate 16 (.cancel 0 0)
def qj (l : Nat) (f : SeqTable → SeqTable) : State := sqq fun x => f { x with cmds := [.join 1023 255 l 77, .cancel 1 2] }
def qc (st : SeqState) (c : Nat) : State := sqq fun x => { x with cmds := [.cancel 3 16383], seqs := [(16383, { state := st, ctx := c, len := 9 })] }
def stp (f : Node → Node) (g : SeqTable → SeqTable) : State := ondB (nd 5 f) fun b => { b with seq := g b.seq }
def mSt (cap : Nat) : MemView := { words := [(0x10100, 5), (0x10110, 0x60000), (0x10118, BitVec.ofNat 64 (cap + 3 * 2^32)), (0x10140, 0x0002000000000400)] }
def stO (f : SeqTable → SeqTable) (hwm : Nat) (fr : List Nat) : State := stp id fun q => f { q with size := 8, log2tpp := 1, defTok := 9, hwm := hwm, freeChain := fr, seqs := [(1, { state := .running, ctx := 5, ord := 1, len := 5, pages := [0, 2, 3], lpV := true, lastPos := 0 })], ctxs := [(5, { limit := 100, used := 4, lastWl := 0x90000 })] }
def mS2 (e : List MemErr) : MemView := { words := [(0x10100, 5), (0x10110, 0x60000), (0x10118, BitVec.ofNat 64 (5 + 4 * 2^32)), (0x10140, 0x0002000000000400), (0x10158, 0x100000000), (0x10188, 11), (0x10190, 12), (0x10198, 13), (0x101A0, 14), (0x90000 + 64 + 24, 3)], errs := e }
def stR (l : Tab Sys2Proof.Machine.Seq) : State := stO (fun q => { q with seqs := l }) 6 []
def sq2 : Tab Sys2Proof.Machine.Seq := [(2, { state := .parked, ctx := 5, ord := 2, len := 3 })]
def stNode (k : Nat) : State := ondB (stp (fun n => { n with state := .acting, built := some (Status.ok, k) }) id) id
def stF (f : Node → Node) : State := stp (fun n => f { n with state := .acting, own := some Status.parked, left := 0, wl := some (0x60000, 5) }) id
def stW (hwm : Nat) (fr : List Nat) : State := stp id fun q => { q with size := 8, log2tpp := 1, defTok := 9, hwm := hwm, freeChain := fr, seqs := [(1, { state := .running, ctx := 5, ord := 1, len := 5, pages := [0, 2, 3], lpV := true, lastPos := 0 }), (2, { state := .parked, ctx := 5, ord := 2, len := 3 }), (3, { state := .leaving, ctx := 5, ord := 3, pages := [1] }), (4, { state := .joining, ctx := 5, ord := 4, len := 2, prio := 9 }), (9, { state := .running, ctx := 6, pages := [5] })], ctxs := [(5, { limit := 100, used := 4, lastWl := 0x90000 })] }
def stK : State := ondB (stW 8 [4]) fun b => { b with seq := { b.seq with base := 0x70000 } }
def stK1 : State := ondB stK fun b => { b with seq := { b.seq with seqs := b.seq.seqs.take 1 } }
def st2 : State := ondB (stW 8 [4]) fun b => subB b 9 fun x => { x with desc := nopDesc, nodes := [(2, { used := true, kind := 5, state := .acting, own := some Status.ok, record := 0x10100 })] }
def stQ : State := ondB (stp id id) fun b => { b with seq := { b.seq with cmds := c16 } }
def cmpX : Comp := { seg := none, queue := 4095, ringIdx := 7, status := 0, failIndex := 0xFFFFFFFF, desc := nopDesc, tFetch := 1, tDone := 2, nreleased := 0, nretired := 1, bytes := List.replicate 20 0, audit := false, digest := 0, ctx := 5, doneV := false, save := false }
def cqS (f : CQueue → CQueue) : State := sr fun b => b.modCq 4095 fun c => f { c with ring := 0x200006, ccb := 0x300000, state := .active, held := [cmpX] }
def cmpF : Comp := { cmpX with foreign := some (0x1020000140000000 :: List.replicate 15 0) }
def fbS : State := ondB (lkB .up (cqS fun c => { c with state := .fallback, cfg := BitVec.ofNat 32 (1023 * 2^19), reason := 1 })) id
def txs : State := ondB (lkB .up S2) fun b => { b with link := { b.link with txq := [⟨[1,2,3,4], 7, 1023, .poison⟩], hellos := [⟨[1,2,3,4], 7, 1023, .hello⟩, ⟨[1,2,3,4], 6, 1023, .hello⟩] } }
def hp (ack : Bool) : Packet := { words := [packetWord0 3 1 0x10 0 0xAA000, packW [(0x12, 8, 0), (0x10, 8, 8), (b2n ack, 1, 16)], 0, 0], lastBytes := 31, link := 7 }
def hp2 : Packet := { words := [packetWord0 3 1 0x10 0 0xAA000, packW [(0x20, 8, 0), (0x13, 8, 8)], 0, 0], lastBytes := 31, link := 7 }
def pw : State := ondB (lkB .down (sr fun b => subB b 65535 fun x => { x with desc := nopDesc, nodes := [(2, { used := true, kind := 4, state := .acting, peer := some 0xAA000 }), (3, { used := true, kind := 4, state := .acting, peer := some 0xAA000, busy := true }), (1, { used := true, kind := 1 })] })) id
def hpb : Packet := { hp2 with lastBytes := 30 }
def sg (h : Nat) (src : Nat) : Packet := { words := [packetWord0 1 1 0x12 0 src, packW [(h, 32, 0), (1, 1, 40)], 0xFFFFFFFFFFFF, 0], lastBytes := 31, link := 7 }
def fnS : State := ondB (lkB .up S2) fun b => let b := (subB b 65535 fun x => { x with nodes := [(3, { used := true, kind := 3, state := .acting })] }).modFence 65535 fun f => { f with state := .active, owner := 5 }
  { b with fences := { b.fences with waits := [{ fence := 65535, gen := 1, seg := 65535, index := 3 }] } }
def cpk : Packet := { words := [packetWord0 2 5 0x12 0 0xAA000, packW [(4095, 12, 0)], 0, 0, 0x1020000140000000] ++ List.replicate 15 0, lastBytes := 31, link := 7 }
def txp : TxPacket := ⟨signalPacket 0x12 0xAA000 0 0 0 false 5, 7, 1023, .signalNode 65535 0 2⟩
def tx2 : State := ondB (lkB .up (nd 4 fun n => { n with state := .acting, busy := true })) fun b => { b with link := { b.link with txq := [txp] } }
def tx2o : State := ondB tx2 fun b => { b with graph := { b.graph with sgen := [(65535, 1)] } }
def txq4 : TxPacket := ⟨signalPacket 0x12 0xAA000 0 0 0 false 6, 7, 1023, .poison⟩
def txq5 : TxPacket := ⟨signalPacket 0x12 0xAA000 0 0 0 false 7, 7, 1023, .completion 4095⟩
def fbY : State := ondB fbS fun b => { (b.modCq 4095 fun c => { c with stage := .sending, held := [cmp1 4095] }) with link := { b.link with txq := [txq5, txp] } }
def sjbar_1_1r2 : State := sqq fun x => { x with cmds := c16 }
def sjbar_1_2 : State := sqq fun x => { x with seqs := [(0, { state := .parked })], arg := -1 }
def sjbar_1_3 : State := sqq fun x => { x with arg := BitVec.ofNat 64 (5 * 2^32), seqs := [(5, { state := .running, ctx := 1023 })] }
def sjbar_1_4r2 : State := sqq fun x => { x with cmds := c16 }
def sjbar_1_7 : Block := (qj 5 fun x => { x with seqs := [(0, { state := .parked }), (2, {state := .running})] }).blk
def sjbar_1_9 : State := sqq fun x => { x with hwm := 4, freeChain := [1], fault := some 5 }
def sjbar_1_9r2 : State := sqq fun x => { x with hwm := 4, freeChain := [1], fault := some 5 }
theorem witness_SequencesJoinBuildAndRetire :
    -- 1.1
    Performs (sqq id) A0 Reg.sqtCmd true
    ∧ (sqq id).blk.seq.cmds.length < 16
    ∧ (sqq id).blk.seq.cmds.length < 16
    -- 1.1
    ∧ Performs sjbar_1_1r2 A0 Reg.sqtCmd true
    ∧ 16 ≤ sjbar_1_1r2.blk.seq.cmds.length
    -- 1.2
    ∧ Performs sjbar_1_2 A0 Reg.sqtCmd true
    ∧ sjbar_1_2.blk.seq.cmds = []
    ∧ sjbar_1_2.blk.building = false
    ∧ sjbar_1_2.blk.buildLine = []
    ∧ sjbar_1_2.blk.seq.freeEntry = some 1
    ∧ (4 : BitVec 24) ≠ (0 : BitVec 24)
    ∧ (sjbar_1_2.blk.seqCtx (-1 : BitVec 10).toNat).nextOrd ≠ 4294967295
    -- 1.3
    ∧ Performs sjbar_1_3 A0 Reg.sqtCmd true
    ∧ sjbar_1_3.blk.seq.cmds = []
    ∧ sjbar_1_3.blk.building = false
    ∧ sjbar_1_3.blk.buildLine = []
    ∧ (sjbar_1_3.blk.seqEntry (fld sjbar_1_3.blk.seq.arg 45 32)).ctx = (-1 : BitVec 10).toNat
    ∧ (sjbar_1_3.blk.seqEntry (fld sjbar_1_3.blk.seq.arg 45 32)).state ≠ SeqState.free
    -- 1.4
    ∧ Performs (sqq id) A0 Reg.sqtCmd true
    ∧ fld (3458764513820540928 : Word) 63 60 ≠ 1
    ∧ fld (3458764513820540928 : Word) 63 60 ≠ 2
    -- 1.4
    ∧ Performs sjbar_1_4r2 A0 Reg.sqtCmd true
    ∧ 16 ≤ sjbar_1_4r2.blk.seq.cmds.length
    ∧ fld (3458764513820540927 : Word) 63 60 = 2
    -- 1.4
    ∧ Performs (sqq id) A0 Reg.sqtCmd true
    ∧ fld (2305843009213693951 : Word) 63 60 = 1
    ∧ (sqq id).blk.seq.cmds.length < 16
    -- 1.4
    ∧ Performs (sqq id) A0 Reg.sqtCmd true
    ∧ fld (3458764513820540927 : Word) 63 60 = 2
    ∧ (sqq id).blk.seq.cmds.length < 16
    -- 1.5
    ∧ ((sqq id).blk.building = true ∨ ((sqq id).blk.buildLine.any fun e => e.2.2 == 0)
        = true ∨ (sqq id).blk.seq.cmds = [])
    -- 1.6.1
    ∧ (qj 5 id).blk.building = false
    ∧ ((qj 5 id).blk.buildLine.any fun e => e.2.2 == 0) = false
    ∧ (qj 5 id).blk.seq.cmds = [SeqCmd.join 1023 255 5 77, SeqCmd.cancel 1 2]
    ∧ (qj 5 id).blk.seq.freeEntry = some 0
    ∧ 5 ≠ 0
    ∧ ((qj 5 id).blk.seqCtx 1023).nextOrd ≠ 4294967295
    -- 1.6.2
    ∧ (qj 0 id).blk.building = false
    ∧ ((qj 0 id).blk.buildLine.any fun e => e.2.2 == 0) = false
    ∧ (qj 0 id).blk.seq.cmds = [SeqCmd.join 1023 255 0 77, SeqCmd.cancel 1 2]
    ∧ ((qj 0 id).blk.seq.freeEntry = none ∨ 0 = 0 ∨ ((qj 0 id).blk.seqCtx 1023).nextOrd = 4294967295)
    -- 1.7
    ∧ Tab.wf { : Machine.Seq } sjbar_1_7.seq.seqs = true
    ∧ sjbar_1_7.seq.freeEntry = some 1
    -- 1.8
    ∧ (qc SeqState.running 3).blk.building = false
    ∧ ((qc SeqState.running 3).blk.buildLine.any fun e => e.2.2 == 0) = false
    ∧ (qc SeqState.running 3).blk.seq.cmds = [SeqCmd.cancel 3 16383]
    ∧ ((qc SeqState.running 3).blk.seqEntry 16383).ctx = 3
    ∧ ((qc SeqState.running 3).blk.seqEntry 16383).state ≠ SeqState.free
    -- 1.8
    ∧ (qc SeqState.joining 4).blk.building = false
    ∧ ((qc SeqState.joining 4).blk.buildLine.any fun e => e.2.2 == 0) = false
    ∧ (qc SeqState.joining 4).blk.seq.cmds = [SeqCmd.cancel 3 16383]
    ∧ (((qc SeqState.joining 4).blk.seqEntry 16383).ctx ≠ 3 ∨ ((qc SeqState.joining 4).blk.seqEntry 16383).state = SeqState.free)
    -- 1.9
    ∧ (Performs sjbar_1_9 A0 (if true = true then Reg.poolCfg else Reg.poolBase) true)
    ∧ sjbar_1_9.blk.seq.busy = false
    ∧ true = true
    -- 1.9
    ∧ (Performs sjbar_1_9r2 A0 (if false = true then Reg.poolCfg else Reg.poolBase) true)
    ∧ sjbar_1_9r2.blk.seq.busy = false
    ∧ false = false
    -- 1.9
    ∧ (Performs (qc SeqState.joining 4) A0 (if false = true then Reg.poolCfg else Reg.poolBase) true)
    ∧ (qc SeqState.joining 4).blk.seq.busy = true
    -- 2
    ∧ ((stO id 6 []).blk.node 65535 2).kind = 5
    ∧ (stO id 6 []).blk.gate 65535 2 = Gate.act
    ∧ ((stO id 6 []).blk.dom 3).state = DState.on
    ∧ (stO id 6 []).blk.stepActs ((stO id 6 []).blk.sub 65535).ctx = false
    ∧ (stO id 6 []).blk.stepStands 65535 2 = false
    ∧ (stO id 6 []).blk.building = false
    ∧ ((stO id 6 []).blk.buildLine = [] ∧ (stO id 6 []).blk.seq.cmds
        = [] ∨ (stO id 6 []).blk.buildLine.head? = some (65535, 2, 0))
    ∧ (stO id 6 []).blk.stepDirty (mS2 []) 65535 2 = false
    ∧ EdgesReach (stO id 6 []).params (stO id 6 []).blk (mS2 []) 65535 2
    ∧ stepRangeBad (mS2 []) ((stO id 6 []).blk.sub 65535) 2 = false
    ∧ ((stO id 6 []).blk.buildRun (mS2 []) 65535 2 (readStep (mS2 []) ((stO id 6 []).blk.node 65535 2).record)).blocked (stO id 6 []).blk.seq.fault = none
    ∧ ((stO id 6 []).blk.buildRun (mS2 []) 65535 2 (readStep (mS2 []) ((stO id 6 []).blk.node 65535 2).record)).fail = none
    ∧ (((stO id 6 []).blk.buildRun (mS2 []) 65535 2 (readStep (mS2 []) ((stO id 6 []).blk.node 65535 2).record)).tasks = [] ∨ (mS2 []).status Status.format (((stO id 6 []).blk.sub 65535).param (bits (recW (mS2 []) (((stO id 6 []).blk.sub 65535).record (readStep (mS2 []) ((stO id 6 []).blk.node 65535 2).record).tmpl) 3) 63 32)) 64 = Status.ok ∧ reservedZero ((mS2 []).wordsAt (((stO id 6 []).blk.sub 65535).param (bits (recW (mS2 []) (((stO id 6 []).blk.sub 65535).record (readStep (mS2 []) ((stO id 6 []).blk.node 65535 2).record).tmpl) 3) 63 32)) 8) = true)
    ∧ stepRangeBad (mS2 []) ((stO id 6 []).blk.sub 65535) 2 = false
    ∧ ((stO id 6 []).blk.buildRun (mS2 []) 65535 2 (readStep (mS2 []) ((stO id 6 []).blk.node 65535 2).record)).blocked (stO id 6 []).blk.seq.fault = none
    ∧ ((stO id 6 []).blk.buildRun (mS2 []) 65535 2 (readStep (mS2 []) ((stO id 6 []).blk.node 65535 2).record)).fail = none
    -- 2
    ∧ ((stR sq2).blk.node 65535 2).kind = 5
    ∧ (stR sq2).blk.gate 65535 2 = Gate.act
    ∧ ((stR sq2).blk.dom 3).state = DState.on
    ∧ (stR sq2).blk.stepActs ((stR sq2).blk.sub 65535).ctx = false
    ∧ (stR sq2).blk.stepStands 65535 2 = false
    ∧ (stR sq2).blk.building = false
    ∧ ((stR sq2).blk.buildLine = [] ∧ (stR sq2).blk.seq.cmds = [] ∨ (stR sq2).blk.buildLine.head?
        = some (65535, 2, 0))
    ∧ (stR sq2).blk.stepDirty (mS2 []) 65535 2 = false
    ∧ EdgesReach (stR sq2).params (stR sq2).blk (mS2 []) 65535 2
    ∧ stepRangeBad (mS2 []) ((stR sq2).blk.sub 65535) 2 = false
    ∧ ((stR sq2).blk.buildRun (mS2 []) 65535 2 (readStep (mS2 []) ((stR sq2).blk.node 65535 2).record)).blocked (stR sq2).blk.seq.fault = none
    ∧ ((stR sq2).blk.buildRun (mS2 []) 65535 2 (readStep (mS2 []) ((stR sq2).blk.node 65535 2).record)).fail = none
    ∧ ((stR sq2).blk.buildRun (mS2 []) 65535 2 (readStep (mS2 []) ((stR sq2).blk.node 65535 2).record)).tasks ≠ []
    -- 2
    ∧ ((stR sq2).blk.node 65535 2).kind = 5
    ∧ (stR sq2).blk.gate 65535 2 = Gate.act
    ∧ ((stR sq2).blk.dom 3).state = DState.on
    ∧ (stR sq2).blk.stepActs ((stR sq2).blk.sub 65535).ctx = false
    ∧ (stR sq2).blk.stepStands 65535 2 = false
    ∧ (stR sq2).blk.building = false
    ∧ ((stR sq2).blk.buildLine = [] ∧ (stR sq2).blk.seq.cmds = [] ∨ (stR sq2).blk.buildLine.head?
        = some (65535, 2, 0))
    ∧ (stR sq2).blk.stepDirty (mS2 [{ base := 65920, len := 8, code := (1 : BitVec 2) : MemErr }]) 65535 2
        = false
    ∧ EdgesReach (stR sq2).params (stR sq2).blk (mS2 [{ base := 65920, len := 8, code := (1 : BitVec 2) : MemErr }]) 65535 2
    ∧ stepRangeBad (mS2 [{ base := 65920, len := 8, code := (1 : BitVec 2) : MemErr }]) ((stR sq2).blk.sub 65535) 2 = false
    ∧ ((stR sq2).blk.buildRun (mS2 [{ base := 65920, len := 8, code := (1 : BitVec 2) : MemErr }]) 65535 2 (readStep (mS2 [{ base := 65920, len := 8, code := (1 : BitVec 2) : MemErr }]) ((stR sq2).blk.node 65535 2).record)).blocked (stR sq2).blk.seq.fault = none
    ∧ ((stR sq2).blk.buildRun (mS2 [{ base := 65920, len := 8, code := (1 : BitVec 2) : MemErr }]) 65535 2 (readStep (mS2 [{ base := 65920, len := 8, code := (1 : BitVec 2) : MemErr }]) ((stR sq2).blk.node 65535 2).record)).fail = none
    ∧ ((stR sq2).blk.buildRun (mS2 [{ base := 65920, len := 8, code := (1 : BitVec 2) : MemErr }]) 65535 2 (readStep (mS2 [{ base := 65920, len := 8, code := (1 : BitVec 2) : MemErr }]) ((stR sq2).blk.node 65535 2).record)).tasks ≠ []
    ∧ ((if (mS2 [{ base := 65920, len := 8, code := (1 : BitVec 2) : MemErr }]).status Status.format (((stR sq2).blk.sub 65535).param (bits (recW (mS2 [{ base := 65920, len := 8, code := (1 : BitVec 2) : MemErr }]) (((stR sq2).blk.sub 65535).record (readStep (mS2 [{ base := 65920, len := 8, code := (1 : BitVec 2) : MemErr }]) ((stR sq2).blk.node 65535 2).record).tmpl) 3) 63 32)) 64 ≠ Status.ok then (mS2 [{ base := 65920, len := 8, code := (1 : BitVec 2) : MemErr }]).status Status.format (((stR sq2).blk.sub 65535).param (bits (recW (mS2 [{ base := 65920, len := 8, code := (1 : BitVec 2) : MemErr }]) (((stR sq2).blk.sub 65535).record (readStep (mS2 [{ base := 65920, len := 8, code := (1 : BitVec 2) : MemErr }]) ((stR sq2).blk.node 65535 2).record).tmpl) 3) 63 32)) 64 else if reservedZero ((mS2 [{ base := 65920, len := 8, code := (1 : BitVec 2) : MemErr }]).wordsAt (((stR sq2).blk.sub 65535).param (bits (recW (mS2 [{ base := 65920, len := 8, code := (1 : BitVec 2) : MemErr }]) (((stR sq2).blk.sub 65535).record (readStep (mS2 [{ base := 65920, len := 8, code := (1 : BitVec 2) : MemErr }]) ((stR sq2).blk.node 65535 2).record).tmpl) 3) 63 32)) 8) = true then Status.ok else Status.format) ≠ Status.ok)
    -- 5
    ∧ ((stNode 2).blk.node 65535 2).kind = 5
    ∧ (stNode 2).blk.acting 65535 2 5 = true
    ∧ ((stNode 2).blk.node 65535 2).built = some (Status.ok, 2)
    ∧ ((stNode 2).blk.mp.writesFor fun w => w == WPurpose.workList 65535 2 || w == WPurpose.linkArray 65535 2) = false
    ∧ Block.pgFull (stNode 2).params (stNode 2).blk = false
    ∧ 2 ≤ stepIndex (mSt 5) ((stNode 2).blk.sub 65535) 2
    ∧ 2 < stepIndex (mSt 5) ((stNode 2).blk.sub 65535) 2 + 1 - 2
    -- 2
    ∧ (stK1.blk.node 65535 2).kind = 5
    ∧ stK1.blk.gate 65535 2 = Gate.act
    ∧ (stK1.blk.dom 3).state = DState.on
    ∧ stK1.blk.stepActs (stK1.blk.sub 65535).ctx = false
    ∧ stK1.blk.stepStands 65535 2 = false
    ∧ stK1.blk.building = false
    ∧ (stK1.blk.buildLine = [] ∧ stK1.blk.seq.cmds = [] ∨ stK1.blk.buildLine.head? = some (65535, 2, 0))
    ∧ stK1.blk.stepDirty (mS2 [{ base := 458752, len := 64, code := (1 : BitVec 2) : MemErr }]) 65535 2 = false
    ∧ EdgesReach stK1.params stK1.blk (mS2 [{ base := 458752, len := 64, code := (1 : BitVec 2) : MemErr }]) 65535 2
    ∧ (stK1.blk.buildRun (mS2 [{ base := 458752, len := 64, code := (1 : BitVec 2) : MemErr }]) 65535 2 (readStep (mS2 [{ base := 458752, len := 64, code := (1 : BitVec 2) : MemErr }]) (stK1.blk.node 65535 2).record)).fail.isSome = true
    ∧ stepRangeBad (mS2 [{ base := 458752, len := 64, code := (1 : BitVec 2) : MemErr }]) (stK1.blk.sub 65535) 2 = false
    ∧ (stK1.blk.buildRun (mS2 [{ base := 458752, len := 64, code := (1 : BitVec 2) : MemErr }]) 65535 2 (readStep (mS2 [{ base := 458752, len := 64, code := (1 : BitVec 2) : MemErr }]) (stK1.blk.node 65535 2).record)).blocked stK1.blk.seq.fault = none
    ∧ ((stK1.blk.buildRun (mS2 [{ base := 458752, len := 64, code := (1 : BitVec 2) : MemErr }]) 65535 2 (readStep (mS2 [{ base := 458752, len := 64, code := (1 : BitVec 2) : MemErr }]) (stK1.blk.node 65535 2).record)).tasks = [] ∨ (mS2 [{ base := 458752, len := 64, code := (1 : BitVec 2) : MemErr }]).status Status.format ((stK1.blk.sub 65535).param (bits (recW (mS2 [{ base := 458752, len := 64, code := (1 : BitVec 2) : MemErr }]) ((stK1.blk.sub 65535).record (readStep (mS2 [{ base := 458752, len := 64, code := (1 : BitVec 2) : MemErr }]) (stK1.blk.node 65535 2).record).tmpl) 3) 63 32)) 64 = Status.ok ∧ reservedZero ((mS2 [{ base := 458752, len := 64, code := (1 : BitVec 2) : MemErr }]).wordsAt ((stK1.blk.sub 65535).param (bits (recW (mS2 [{ base := 458752, len := 64, code := (1 : BitVec 2) : MemErr }]) ((stK1.blk.sub 65535).record (readStep (mS2 [{ base := 458752, len := 64, code := (1 : BitVec 2) : MemErr }]) (stK1.blk.node 65535 2).record).tmpl) 3) 63 32)) 8) = true)
    -- 2
    ∧ ((stW 6 []).blk.node 65535 2).kind = 5
    ∧ (stW 6 []).blk.gate 65535 2 = Gate.act
    ∧ ((stW 6 []).blk.dom 3).state = DState.on
    ∧ (stW 6 []).blk.stepActs ((stW 6 []).blk.sub 65535).ctx = false
    ∧ (stW 6 []).blk.stepStands 65535 2 = false
    ∧ (stW 6 []).blk.building = false
    ∧ ((stW 6 []).blk.buildLine = [] ∧ (stW 6 []).blk.seq.cmds = [] ∨ (stW 6 []).blk.buildLine.head?
        = some (65535, 2, 0))
    ∧ (stW 6 []).blk.stepDirty (mS2 [{ base := 589912, len := 8, code := (2 : BitVec 2) : MemErr }]) 65535 2 = false
    ∧ EdgesReach (stW 6 []).params (stW 6 []).blk (mS2 [{ base := 589912, len := 8, code := (2 : BitVec 2) : MemErr }]) 65535 2
    ∧ ((stW 6 []).blk.buildRun (mS2 [{ base := 589912, len := 8, code := (2 : BitVec 2) : MemErr }]) 65535 2 (readStep (mS2 [{ base := 589912, len := 8, code := (2 : BitVec 2) : MemErr }]) ((stW 6 []).blk.node 65535 2).record)).blocked (stW 6 []).blk.seq.fault = some ((((stW 6 []).blk.buildRun (mS2 [{ base := 589912, len := 8, code := (2 : BitVec 2) : MemErr }]) 65535 2 (readStep (mS2 [{ base := 589912, len := 8, code := (2 : BitVec 2) : MemErr }]) ((stW 6 []).blk.node 65535 2).record)).blocked (stW 6 []).blk.seq.fault).get (by decide +kernel))
    ∧ stepRangeBad (mS2 [{ base := 589912, len := 8, code := (2 : BitVec 2) : MemErr }]) ((stW 6 []).blk.sub 65535) 2 = false
    -- 4
    ∧ st2.blk.gate 65535 2 = Gate.act
    ∧ (st2.blk.dom 3).state = DState.on
    ∧ (st2.blk.stepActs (st2.blk.sub 65535).ctx = true ∨ st2.blk.stepStands 65535 2 = true)
    -- 3
    ∧ (stQ.blk.node 65535 2).kind = 5
    ∧ stQ.blk.gate 65535 2 = Gate.act
    ∧ (stQ.blk.dom 3).state = DState.on
    ∧ stQ.blk.stepActs (stQ.blk.sub 65535).ctx = false
    ∧ stQ.blk.stepStands 65535 2 = false
    ∧ (stQ.blk.building = true ∨ (∃ e, stQ.blk.buildLine.head? = some e
        ∧ e ≠ (65535, 2, 0)) ∨ stQ.blk.buildLine = [] ∧ stQ.blk.seq.cmds ≠ [])
    -- 6
    ∧ (stF id).blk.acting 65535 2 5 = true
    ∧ ((stF id).blk.node 65535 2).own = some Status.parked
    ∧ ((stF id).blk.node 65535 2).left = 0
    ∧ EdgesReach (stF id).params (stF id).blk (mSt 5) 65535 2
    ∧ ((if isFailure Status.parked
        = true then Status.parked else if isFailure (((stF id).blk.node 65535 2).outcome.getD (0 : Status))
        = true then ((stF id).blk.node 65535 2).outcome.getD (0 : Status) else Status.parked) ≠ Status.aborted)
    ∧ ((stF id).blk.node 65535 2).wl.isSome = true := by
  refine ⟨?_, ?_, ?_, ?_, ?_, ?_, ?_, ?_, ?_, ?_, ?_, ?_, ?_, ?_, ?_, ?_, ?_, ?_, ?_, ?_, ?_, ?_, ?_, ?_, ?_,
    ?_, ?_, ?_, ?_, ?_, ?_, ?_, ?_, ?_, ?_, ?_, ?_, ?_, ?_, ?_, ?_, ?_, ?_, ?_, ?_, ?_, ?_, ?_, ?_, ?_, ?_,
    ?_, ?_, ?_, ?_, ?_, ?_, ?_, ?_, ?_, ?_, ?_, ?_, ?_, ?_, ?_, ?_, ?_, ?_, ?_, ?_, ?_, ?_, ?_, ?_, ?_, ?_,
    ?_, ?_, ?_, ?_, ?_, ?_, ?_, ?_, ?_, ?_, ?_, ?_, ?_, ?_, ?_, ?_, ?_, ?_, ?_, ?_, ?_, ?_, ?_, ?_, ?_, ?_,
    ?_, ?_, ?_, ?_, ?_, ?_, ?_, ?_, ?_, ?_, ?_, ?_, ?_, ?_, ?_, ?_, ?_, ?_, ?_, ?_, ?_, ?_, ?_, ?_, ?_, ?_,
    ?_, ?_, ?_, ?_, ?_, ?_, ?_, ?_, ?_, ?_, ?_, ?_, ?_, ?_, ?_, ?_, ?_, ?_, ?_, ?_⟩ <;>
    (first
      | decide +kernel
      | exact .inr (.inr (by decide +kernel))
      | exact ⟨1023, by decide +kernel⟩
      | exact edgesReach_of (by unfold Block.pagerIdle; decide +kernel)
      | (unfold Performs; decide +kernel))
def catq_1_1 : State := cqS fun c => { c with cfg := 0x20000000 }
def catq_1_1r2 : State := cqS fun c => { c with head := 0, tail := 65 }
def catq_1_1r3 : State := cqS fun c => { c with tail := 63, head := 60 }
def catq_1_1r4 : State := cqS fun c => { c with tail := 64 }
def catq_1_1r5 : State := cqS fun c => { c with tail := 64, freshHead := true }
def catq_1_1r6 : State := cqS fun c => { c with cfg := 0x60000000, held := [cmpX, cmpF, cmpF] }
def catq_1_1r7 : State := cqS fun c => { c with tail := 64, freshHead := true, held := [cmpX, cmpF, cmpF] }
def catq_1_1r8 : State := cqS fun c => { c with tail := 64, freshHead := true, held := [cmpF, cmpX] }
def catq_1_2 : State := cqS fun c => { c with resuming := true }
def catq_1_3 : State := cqS fun c => { c with state := .wait }
def catq_1_4 : State := cqS fun c => { c with state := .wait, cfg := 0x20000000 }
def catq_2r2 : State := cqS fun c => { c with held := [], state := .disabled }
def catq_2r3 : State := cqS fun c => { c with state := .fault, err := 2 }
def catq_2_7 : State := cqS fun c => { c with state := .fallback }
def catq_3 : State := cqS fun c => { c with held := [], state := .disabled }
theorem witness_CompletionsAndTheirQueues :
    -- 1.1
    (catq_1_1.blk.cq 4095).held = [cmpX]
    ∧ (catq_1_1.blk.cq 4095).stage = CqStage.idle
    ∧ (catq_1_1.blk.cq 4095).state = CqState.active
    ∧ (catq_1_1.blk.cq 4095).resuming = false
    ∧ ((catq_1_1.blk.cq 4095).hostDown = true ∨ (catq_1_1.blk.cq 4095).headBad = true)
    ∧ 4095 < 4096
    ∧ (catq_1_1.blk.cq 4095).fbEn = false
    ∧ (List.filter (fun y => y.foreign.isSome) (catq_1_1.blk.cq 4095).held).length = 0
    -- 1.1
    ∧ (catq_1_1r2.blk.cq 4095).held = [cmpX]
    ∧ (catq_1_1r2.blk.cq 4095).stage = CqStage.idle
    ∧ (catq_1_1r2.blk.cq 4095).state = CqState.active
    ∧ (catq_1_1r2.blk.cq 4095).resuming = false
    ∧ (catq_1_1r2.blk.cq 4095).hostDown = false
    ∧ (catq_1_1r2.blk.cq 4095).hostDown = false
    ∧ (catq_1_1r2.blk.cq 4095).hostDown = false
    ∧ (catq_1_1r2.blk.cq 4095).hostDown = false
    -- 1.1
    ∧ (catq_1_1r3.blk.cq 4095).held = [cmpX]
    ∧ (catq_1_1r3.blk.cq 4095).stage = CqStage.idle
    ∧ (catq_1_1r3.blk.cq 4095).state = CqState.active
    ∧ (catq_1_1r3.blk.cq 4095).resuming = false
    ∧ (catq_1_1r3.blk.cq 4095).hostDown = false
    ∧ (catq_1_1r3.blk.cq 4095).headBad = false
    ∧ (catq_1_1r3.blk.cq 4095).fits cmpX.units = true
    ∧ (catq_1_1r3.blk.cq 4095).hostDown = false
    ∧ (catq_1_1r3.blk.cq 4095).headBad = false
    ∧ (catq_1_1r3.blk.cq 4095).hostDown = false
    ∧ (catq_1_1r3.blk.cq 4095).headBad = false
    ∧ (catq_1_1r3.blk.cq 4095).hostDown = false
    ∧ (catq_1_1r3.blk.cq 4095).headBad = false
    -- 1.1
    ∧ (catq_1_1r4.blk.cq 4095).held = [cmpX]
    ∧ (catq_1_1r4.blk.cq 4095).stage = CqStage.idle
    ∧ (catq_1_1r4.blk.cq 4095).state = CqState.active
    ∧ (catq_1_1r4.blk.cq 4095).resuming = false
    ∧ (catq_1_1r4.blk.cq 4095).hostDown = false
    ∧ (catq_1_1r4.blk.cq 4095).headBad = false
    ∧ (catq_1_1r4.blk.cq 4095).fits cmpX.units = false
    ∧ (catq_1_1r4.blk.cq 4095).freshHead = false
    ∧ (catq_1_1r4.blk.cq 4095).hostDown = false
    ∧ (catq_1_1r4.blk.cq 4095).headBad = false
    ∧ (catq_1_1r4.blk.cq 4095).fits cmpX.units = false
    ∧ (catq_1_1r4.blk.cq 4095).hostDown = false
    ∧ (catq_1_1r4.blk.cq 4095).headBad = false
    ∧ (catq_1_1r4.blk.cq 4095).fits cmpX.units = false
    -- 1.1
    ∧ (catq_1_1r5.blk.cq 4095).held = [cmpX]
    ∧ (catq_1_1r5.blk.cq 4095).stage = CqStage.idle
    ∧ (catq_1_1r5.blk.cq 4095).state = CqState.active
    ∧ (catq_1_1r5.blk.cq 4095).resuming = false
    ∧ (catq_1_1r5.blk.cq 4095).hostDown = false
    ∧ (catq_1_1r5.blk.cq 4095).headBad = false
    ∧ (catq_1_1r5.blk.cq 4095).fits cmpX.units = false
    ∧ (catq_1_1r5.blk.cq 4095).freshHead = true
    ∧ cmpX.foreign = none
    ∧ (List.filter (fun y => y.foreign.isSome) (catq_1_1r5.blk.cq 4095).held).length = 0
    ∧ (catq_1_1r5.blk.cq 4095).hostDown = false
    ∧ (catq_1_1r5.blk.cq 4095).headBad = false
    ∧ (catq_1_1r5.blk.cq 4095).fits cmpX.units = false
    ∧ (catq_1_1r5.blk.cq 4095).freshHead = true
    -- 1.1
    ∧ (catq_1_1r6.blk.cq 4095).held = [cmpX, cmpF, cmpF]
    ∧ (catq_1_1r6.blk.cq 4095).stage = CqStage.idle
    ∧ (catq_1_1r6.blk.cq 4095).state = CqState.active
    ∧ (catq_1_1r6.blk.cq 4095).resuming = false
    ∧ ((catq_1_1r6.blk.cq 4095).hostDown = true ∨ (catq_1_1r6.blk.cq 4095).headBad = true)
    ∧ 4095 < 4096
    ∧ 0 < (List.filter (fun y => y.foreign.isSome) (catq_1_1r6.blk.cq 4095).held).length
    -- 1.1
    ∧ (catq_1_1r7.blk.cq 4095).held = [cmpX, cmpF, cmpF]
    ∧ (catq_1_1r7.blk.cq 4095).stage = CqStage.idle
    ∧ (catq_1_1r7.blk.cq 4095).state = CqState.active
    ∧ (catq_1_1r7.blk.cq 4095).resuming = false
    ∧ (catq_1_1r7.blk.cq 4095).hostDown = false
    ∧ (catq_1_1r7.blk.cq 4095).headBad = false
    ∧ (catq_1_1r7.blk.cq 4095).fits cmpX.units = false
    ∧ (catq_1_1r7.blk.cq 4095).freshHead = true
    ∧ cmpX.foreign = none
    ∧ 0 < (List.filter (fun y => y.foreign.isSome) (catq_1_1r7.blk.cq 4095).held).length
    -- 1.1
    ∧ (catq_1_1r8.blk.cq 4095).held = [cmpF, cmpX]
    ∧ (catq_1_1r8.blk.cq 4095).stage = CqStage.idle
    ∧ (catq_1_1r8.blk.cq 4095).state = CqState.active
    ∧ (catq_1_1r8.blk.cq 4095).resuming = false
    ∧ (catq_1_1r8.blk.cq 4095).hostDown = false
    ∧ (catq_1_1r8.blk.cq 4095).headBad = false
    ∧ (catq_1_1r8.blk.cq 4095).fits cmpF.units = false
    ∧ (catq_1_1r8.blk.cq 4095).freshHead = true
    ∧ cmpF.foreign ≠ none
    -- 1.2
    ∧ ((catq_1_2.blk.cq 4095).held
        = [] ∨ (catq_1_2.blk.cq 4095).stage ≠ CqStage.idle ∨ (catq_1_2.blk.cq 4095).resuming = true)
    -- 1.3
    ∧ (catq_1_3.blk.cq 4095).state = CqState.wait
    ∧ (catq_1_3.blk.cq 4095).stage = CqStage.idle
    ∧ (catq_1_3.blk.cq 4095).hostDown = false
    -- 1.4
    ∧ (catq_1_4.blk.cq 4095).state = CqState.wait
    ∧ (catq_1_4.blk.cq 4095).stage = CqStage.idle
    ∧ (catq_1_4.blk.cq 4095).hostDown = true
    -- 1.5
    ∧ (fbS.blk.cq 4095).held = [cmpX]
    ∧ (fbS.blk.cq 4095).stage = CqStage.idle
    ∧ (fbS.blk.cq 4095).state = CqState.fallback
    ∧ cmpX.foreign = none
    ∧ fbS.blk.link.en = true
    ∧ (fbS.blk.peer (fbS.blk.cq 4095).fbPeer).valid = true
    ∧ (fbS.blk.peer (fbS.blk.cq 4095).fbPeer).state = PeerState.up
    ∧ fbS.blk.peerFor (fbS.blk.peer (fbS.blk.cq 4095).fbPeer).peer = some 1023
    ∧ (fbS.blk.peer 1023).state = PeerState.up
    ∧ fbS.blk.link.txq.length < 64
    ∧ (fbS.blk.dom 6).state = DState.on
    -- 1.5
    ∧ ((lkS fbS).blk.cq 4095).held = [cmpX]
    ∧ ((lkS fbS).blk.cq 4095).stage = CqStage.idle
    ∧ ((lkS fbS).blk.cq 4095).state = CqState.fallback
    ∧ cmpX.foreign = none
    ∧ (lkS fbS).blk.link.en = true
    ∧ ((lkS fbS).blk.peer ((lkS fbS).blk.cq 4095).fbPeer).valid = true
    ∧ ((lkS fbS).blk.peer ((lkS fbS).blk.cq 4095).fbPeer).state = PeerState.up
    ∧ (lkS fbS).blk.peerFor ((lkS fbS).blk.peer ((lkS fbS).blk.cq 4095).fbPeer).peer = some 1023
    ∧ ((lkS fbS).blk.peer 1023).state = PeerState.up
    ∧ (lkS fbS).blk.link.txq.length < 64
    ∧ ((lkS fbS).blk.dom 6).state = DState.on
    ∧ (lkS fbS).blk.link.sending ≠ none
    -- 2
    ∧ Performs (cqS id) A0 (Reg.cqCmd 4095) true
    ∧ (¬(((cqS id).blk.loader.state = SetState.active ∨ (cqS id).blk.loader.state = SetState.patching)
        ∧ ((cqS id).blk.cq 4095).state = CqState.disabled ∧ 6 ≤ ((cqS id).blk.cq 4095).log2sz
        ∧ ((cqS id).blk.cq 4095).log2sz ≤ 20 ∧ ((cqS id).blk.cq 4095).stage ≠ CqStage.enabling))
    ∧ (¬(((cqS id).blk.cq 4095).stage ≠ CqStage.enabling ∧ ((cqS id).blk.cq 4095).held = []
        ∧ ∀ t ∈ (cqS id).blk.front.queues, t.2.cq ≠ 4095 ∨ t.2.state = QState.disabled))
    ∧ (¬((((cqS id).blk.cq 4095).state = CqState.fallback ∨ ((cqS id).blk.cq 4095).state = CqState.fault)
        ∧ ((cqS id).blk.cq 4095).hostDown = false))
    -- 2
    ∧ Performs catq_2r2 A0 (Reg.cqCmd 4095) true
    ∧ ((catq_2r2.blk.loader.state = SetState.active ∨ catq_2r2.blk.loader.state = SetState.patching)
        ∧ (catq_2r2.blk.cq 4095).state = CqState.disabled ∧ 6 ≤ (catq_2r2.blk.cq 4095).log2sz
        ∧ (catq_2r2.blk.cq 4095).log2sz ≤ 20 ∧ (catq_2r2.blk.cq 4095).stage ≠ CqStage.enabling)
    ∧ ((catq_2r2.blk.cq 4095).stage ≠ CqStage.enabling ∧ (catq_2r2.blk.cq 4095).held = []
        ∧ ∀ t ∈ catq_2r2.blk.front.queues, t.2.cq ≠ 4095 ∨ t.2.state = QState.disabled)
    -- 2
    ∧ Performs catq_2r3 A0 (Reg.cqCmd 4095) true
    ∧ (((catq_2r3.blk.cq 4095).state = CqState.fallback ∨ (catq_2r3.blk.cq 4095).state = CqState.fault)
        ∧ (catq_2r3.blk.cq 4095).hostDown = false)
    -- 2.7
    ∧ Performs catq_2_7 A0 (Reg.cqCmd 4095) true
    ∧ (0 : BitVec 3) ≠ (1 : BitVec 3)
    ∧ (0 : BitVec 3) ≠ (2 : BitVec 3)
    ∧ (0 : BitVec 3) ≠ (3 : BitVec 3)
    -- 3
    ∧ Performs catq_3 A0 (Reg.cqCfg 4095) true
    ∧ ((catq_3.blk.cq 4095).state = CqState.disabled ∧ (catq_3.blk.cq 4095).stage ≠ CqStage.enabling)
    -- 3.2
    ∧ Performs (cqS id) A0 (Reg.cqCfg 4095) true
    ∧ (¬(((cqS id).blk.cq 4095).state = CqState.disabled ∧ ((cqS id).blk.cq 4095).stage ≠ CqStage.enabling)) := by
  refine ⟨?_, ?_, ?_, ?_, ?_, ?_, ?_, ?_, ?_, ?_, ?_, ?_, ?_, ?_, ?_, ?_, ?_, ?_, ?_, ?_, ?_, ?_, ?_, ?_, ?_,
    ?_, ?_, ?_, ?_, ?_, ?_, ?_, ?_, ?_, ?_, ?_, ?_, ?_, ?_, ?_, ?_, ?_, ?_, ?_, ?_, ?_, ?_, ?_, ?_, ?_, ?_,
    ?_, ?_, ?_, ?_, ?_, ?_, ?_, ?_, ?_, ?_, ?_, ?_, ?_, ?_, ?_, ?_, ?_, ?_, ?_, ?_, ?_, ?_, ?_, ?_, ?_, ?_,
    ?_, ?_, ?_, ?_, ?_, ?_, ?_, ?_, ?_, ?_, ?_, ?_, ?_, ?_, ?_, ?_, ?_, ?_, ?_, ?_, ?_, ?_, ?_, ?_, ?_, ?_,
    ?_, ?_, ?_, ?_, ?_, ?_, ?_, ?_, ?_, ?_, ?_, ?_, ?_, ?_, ?_, ?_, ?_, ?_, ?_, ?_, ?_, ?_, ?_, ?_, ?_, ?_,
    ?_⟩ <;>
    first | decide +kernel | (unfold Performs; decide +kernel)
def psh_1 : State := ondB (lkB .down S2) fun b => { b with link := { b.link with up := 0 } }
def psh_1r2 : State := lkS (ondB (lkB .down S2) fun b => { b with link := { b.link with up := 0 } })
theorem witness_PeersSayHello :
    -- 1
    psh_1.blk.link.up.getLsbD (BitVec.toNat (7 : BitVec 4)) = false
    ∧ BitVec.toNat (7 : BitVec 4) < psh_1.params.links
    ∧ Tab.wf { : Peer } psh_1.blk.link.peers = true
    -- 1
    ∧ psh_1r2.blk.link.up.getLsbD (BitVec.toNat (7 : BitVec 4)) = false
    ∧ BitVec.toNat (7 : BitVec 4) < psh_1r2.params.links
    ∧ Tab.wf { : Peer } psh_1r2.blk.link.peers = true
    ∧ psh_1r2.blk.link.sending ≠ none
    -- 2
    ∧ txs.blk.link.up.getLsbD (BitVec.toNat (7 : BitVec 4)) = true
    ∧ Tab.wf { : Peer } txs.blk.link.peers = true
    ∧ (∀ (t : TxPacket × Nat), txs.blk.link.sending = some t → t.2 ≠ BitVec.toNat (7 : BitVec 4))
    -- 3
    ∧ ((lkB PeerState.helloSent S2).blk.peer 1023).valid = true
    ∧ ((lkB PeerState.helloSent S2).blk.peer 1023).state = PeerState.helloSent
    ∧ (lkB PeerState.helloSent S2).blk.link.en = true
    ∧ (lkB PeerState.helloSent S2).blk.linkIsUp ((lkB PeerState.helloSent S2).blk.peer 1023).link = true
    -- 3
    ∧ ((lkS (lkB PeerState.helloSent S2)).blk.peer 1023).valid = true
    ∧ ((lkS (lkB PeerState.helloSent S2)).blk.peer 1023).state = PeerState.helloSent
    ∧ (lkS (lkB PeerState.helloSent S2)).blk.link.en = true
    ∧ (lkS (lkB PeerState.helloSent S2)).blk.linkIsUp ((lkS (lkB PeerState.helloSent S2)).blk.peer 1023).link = true
    ∧ (lkS (lkB PeerState.helloSent S2)).blk.link.sending ≠ none
    -- 4
    ∧ (Instr.hello (hp false) = Instr.hello (hp false) ∨ Instr.hello (hp false)
        = Instr.packetReceived (hp false))
    ∧ (hp false).type = 3
    ∧ Packet.valid (lkB PeerState.helloSent S2).params (lkB PeerState.helloSent S2).blk.link.self (hp false) = true
    ∧ (lkB PeerState.helloSent S2).blk.halted = false
    ∧ (lkB PeerState.helloSent S2).blk.remoteTurns < 256
    ∧ (lkB PeerState.helloSent S2).blk.link.en = true
    ∧ ((lkB PeerState.helloSent S2).blk.dom 6).state = DState.on
    ∧ (lkB PeerState.helloSent S2).blk.link.poisons = []
    ∧ Tab.wf { : Peer } (lkB PeerState.helloSent S2).blk.link.peers = true
    -- 6
    ∧ Performs (lkB PeerState.up S2) A0 (Reg.lnkPeer 1023) true
    ∧ (((lkB PeerState.up S2).blk.peer 1023).valid = false ∨ bit (-1 : Word) 63 = true)
    -- 5
    ∧ Performs pw A0 (Reg.lnkPeer 1023) true
    ∧ (pw.blk.peer 1023).valid = true
    ∧ bit (4611686018427387909 : Word) 63 = false
    ∧ pw.blk.link.poisons = [] := by
  refine ⟨?_, ?_, ?_, ?_, ?_, ?_, ?_, ?_, ?_, ?_, ?_, ?_, ?_, ?_, ?_, ?_, ?_, ?_, ?_, ?_, ?_, ?_, ?_, ?_, ?_,
    ?_, ?_, ?_, ?_, ?_, ?_, ?_, ?_, ?_⟩ <;>
    first | decide +kernel | (unfold Performs; decide +kernel)
def pte_3 : State := lkB .up (cqS id) |> fun s => ondB s fun b => { b with link := { b.link with fbCq := 4095 } }
def pte_5r4 : State := ondB tx2 fun b => { b with link := { b.link with txq := [txq4, txp] } }
def pte_5r5 : State := ondB fbS fun b => (b.modCq 4095 fun c => { c with stage := .sending, cfg := c.cfg ||| 0x80000000 }) |> fun b => { b with link := { b.link with txq := [txq5, txp] } }
def pte_6r3 : State := ondB txs fun b => b.modDom 6 fun d => { d with state := .off }
theorem witness_PacketsTakeEffect :
    -- 1
    (Instr.packetReceived hp2 = Instr.packetReceived hp2 ∨ Instr.packetReceived hp2 = Instr.signal hp2
        ∧ hp2.type = 1 ∨ Instr.packetReceived hp2 = Instr.completion hp2 ∧ hp2.type
        = 2 ∨ Instr.packetReceived hp2 = Instr.hello hp2 ∧ hp2.type = 3)
    ∧ S2.blk.link.en = false
    ∧ S2.blk.halted = false
    ∧ S2.blk.remoteTurns < 256
    -- 1
    ∧ (Instr.packetReceived hpb = Instr.packetReceived hpb ∨ Instr.packetReceived hpb = Instr.signal hpb
        ∧ hpb.type = 1 ∨ Instr.packetReceived hpb = Instr.completion hpb ∧ hpb.type
        = 2 ∨ Instr.packetReceived hpb = Instr.hello hpb ∧ hpb.type = 3)
    ∧ (lkB PeerState.up S2).blk.halted = false
    ∧ (lkB PeerState.up S2).blk.remoteTurns < 256
    ∧ (lkB PeerState.up S2).blk.link.en = true
    ∧ ((lkB PeerState.up S2).blk.dom 6).state = DState.on
    ∧ Packet.valid (lkB PeerState.up S2).params (lkB PeerState.up S2).blk.link.self hpb = false
    -- 2
    ∧ (Instr.signal (sg 131071 3) = Instr.signal (sg 131071 3) ∨ Instr.signal (sg 131071 3)
        = Instr.packetReceived (sg 131071 3))
    ∧ (sg 131071 3).type = 1
    ∧ Packet.valid (lkB PeerState.up S2).params (lkB PeerState.up S2).blk.link.self (sg 131071 3) = true
    ∧ (lkB PeerState.up S2).blk.halted = false
    ∧ (lkB PeerState.up S2).blk.remoteTurns < 256
    ∧ (lkB PeerState.up S2).blk.link.en = true
    ∧ ((lkB PeerState.up S2).blk.dom 6).state = DState.on
    ∧ Tab.wf { : Peer } (lkB PeerState.up S2).blk.link.peers = true
    ∧ (¬∃ e, ((lkB PeerState.up S2).blk.peer e).valid = true ∧ ((lkB PeerState.up S2).blk.peer e).peer
        = (sg 131071 3).src ∧ ((lkB PeerState.up S2).blk.peer e).accept = true)
    -- 2
    ∧ (Instr.signal (sg 131071 696320) = Instr.signal (sg 131071 696320) ∨ Instr.signal (sg 131071 696320)
        = Instr.packetReceived (sg 131071 696320))
    ∧ (sg 131071 696320).type = 1
    ∧ Packet.valid fnS.params fnS.blk.link.self (sg 131071 696320) = true
    ∧ fnS.blk.halted = false
    ∧ fnS.blk.remoteTurns < 256
    ∧ fnS.blk.link.en = true
    ∧ (fnS.blk.dom 6).state = DState.on
    ∧ Tab.wf { : Peer } fnS.blk.link.peers = true
    ∧ (∃ e, (fnS.blk.peer e).valid = true ∧ (fnS.blk.peer e).peer = (sg 131071 696320).src
        ∧ (fnS.blk.peer e).accept = true)
    ∧ fld ((sg 131071 696320).w 1) 39 32 = 0
    ∧ handleOk (fnS.blk.fence (handleIndex (BitVec.ofNat 32 (fld ((sg 131071 696320).w 1) 31 0)))) (handleGen (BitVec.ofNat 32 (fld ((sg 131071 696320).w 1) 31 0))) true true 0 = true
    ∧ (fnS.blk.fence (handleIndex (BitVec.ofNat 32 (fld ((sg 131071 696320).w 1) 31 0)))).ended (handleGen (BitVec.ofNat 32 (fld ((sg 131071 696320).w 1) 31 0))) = false
    ∧ (fnS.blk.fence (handleIndex (BitVec.ofNat 32 (fld ((sg 131071 696320).w 1) 31 0)))).gen + (1 : BitVec 16) = handleGen (BitVec.ofNat 32 (fld ((sg 131071 696320).w 1) 31 0))
    ∧ (∀ t ∈ fnS.blk.fences.turns, t.fence ≠ handleIndex (BitVec.ofNat 32 (fld ((sg 131071 696320).w 1) 31 0)))
    ∧ (∃ e, (fnS.blk.peer e).valid = true ∧ (fnS.blk.peer e).peer = (sg 131071 696320).src
        ∧ (fnS.blk.peer e).accept = true)
    ∧ fld ((sg 131071 696320).w 1) 39 32 = 0
    -- 2
    ∧ (Instr.packetReceived (sg 131071 696320)
        = Instr.signal (sg 131071 696320) ∨ Instr.packetReceived (sg 131071 696320)
        = Instr.packetReceived (sg 131071 696320))
    ∧ (sg 131071 696320).type = 1
    ∧ Packet.valid (lkB PeerState.up S2).params (lkB PeerState.up S2).blk.link.self (sg 131071 696320) = true
    ∧ (lkB PeerState.up S2).blk.halted = false
    ∧ (lkB PeerState.up S2).blk.remoteTurns < 256
    ∧ (lkB PeerState.up S2).blk.link.en = true
    ∧ ((lkB PeerState.up S2).blk.dom 6).state = DState.on
    ∧ Tab.wf { : Peer } (lkB PeerState.up S2).blk.link.peers = true
    ∧ (∃ e, ((lkB PeerState.up S2).blk.peer e).valid = true ∧ ((lkB PeerState.up S2).blk.peer e).peer
        = (sg 131071 696320).src ∧ ((lkB PeerState.up S2).blk.peer e).accept = true)
    ∧ fld ((sg 131071 696320).w 1) 39 32 = 0
    ∧ (handleOk ((lkB PeerState.up S2).blk.fence (handleIndex (BitVec.ofNat 32 (fld ((sg 131071 696320).w 1) 31 0)))) (handleGen (BitVec.ofNat 32 (fld ((sg 131071 696320).w 1) 31 0))) true true 0 = false ∨ ((lkB PeerState.up S2).blk.fence (handleIndex (BitVec.ofNat 32 (fld ((sg 131071 696320).w 1) 31 0)))).ended (handleGen (BitVec.ofNat 32 (fld ((sg 131071 696320).w 1) 31 0))) = true)
    -- 3
    ∧ (Instr.completion cpk = Instr.completion cpk ∨ Instr.completion cpk = Instr.packetReceived cpk)
    ∧ cpk.type = 2
    ∧ Packet.valid pte_3.params pte_3.blk.link.self cpk = true
    ∧ pte_3.blk.halted = false
    ∧ pte_3.blk.remoteTurns < 256
    ∧ pte_3.blk.link.en = true
    ∧ (pte_3.blk.dom 6).state = DState.on
    ∧ (pte_3.blk.cq pte_3.blk.link.fbCq).state = CqState.active
    -- 3
    ∧ (Instr.packetReceived cpk = Instr.completion cpk ∨ Instr.packetReceived cpk = Instr.packetReceived cpk)
    ∧ cpk.type = 2
    ∧ Packet.valid (lkB PeerState.up S2).params (lkB PeerState.up S2).blk.link.self cpk = true
    ∧ (lkB PeerState.up S2).blk.halted = false
    ∧ (lkB PeerState.up S2).blk.remoteTurns < 256
    ∧ (lkB PeerState.up S2).blk.link.en = true
    ∧ ((lkB PeerState.up S2).blk.dom 6).state = DState.on
    ∧ ((lkB PeerState.up S2).blk.cq (lkB PeerState.up S2).blk.link.fbCq).state ≠ CqState.active
    -- 4
    ∧ S2.blk.link.sending = none
    ∧ S2.blk.nextPacket = none
    -- 5
    ∧ (txs.blk.link.sending
        = some ({ words := [(1 : Word), (2 : Word), (3 : Word), (4 : Word)], link := 7, peer := 1023, by' := TxBy.hello : TxPacket }, 7) ∨ txs.blk.link.sending = none ∧ txs.blk.nextPacket = some { words := [(1 : Word), (2 : Word), (3 : Word), (4 : Word)], link := 7, peer := 1023, by' := TxBy.hello : TxPacket })
    ∧ txs.blk.link.poisons = []
    ∧ { words := [(1 : Word), (2 : Word), (3 : Word), (4 : Word)], link := 7, peer := 1023, by' := TxBy.hello : TxPacket }.by' = TxBy.hello
    -- 5
    ∧ (tx2.blk.link.sending = some (txp, 7) ∨ tx2.blk.link.sending = none ∧ tx2.blk.nextPacket = some txp)
    ∧ tx2.blk.link.poisons = []
    ∧ txp.by' = TxBy.signalNode 65535 0 2
    ∧ tx2.blk.txEntry txp = some ((tx2.blk.txEntry txp).get (by decide +kernel))
    ∧ tget 0 tx2.blk.graph.sgen 65535 = 0
    ∧ txp.by' = TxBy.signalNode 65535 0 2
    -- 5
    ∧ (tx2o.blk.link.sending = some (txp, 7) ∨ tx2o.blk.link.sending = none ∧ tx2o.blk.nextPacket = some txp)
    ∧ tx2o.blk.link.poisons = []
    ∧ txp.by' = TxBy.signalNode 65535 0 2
    ∧ tget 0 tx2o.blk.graph.sgen 65535 ≠ 0
    -- 5
    ∧ (pte_5r4.blk.link.sending = some (txq4, 7) ∨ pte_5r4.blk.link.sending = none ∧ pte_5r4.blk.nextPacket
        = some txq4)
    ∧ pte_5r4.blk.link.poisons = []
    ∧ txq4.by' = TxBy.poison
    ∧ pte_5r4.blk.txEntry txq4 = some ((pte_5r4.blk.txEntry txq4).get (by decide +kernel))
    -- 5
    ∧ (pte_5r5.blk.link.sending = some (txq5, 7) ∨ pte_5r5.blk.link.sending = none ∧ pte_5r5.blk.nextPacket
        = some txq5)
    ∧ pte_5r5.blk.link.poisons = []
    ∧ txq5.by' = TxBy.completion 4095
    ∧ (pte_5r5.blk.cq 4095).stage = CqStage.sending
    ∧ (pte_5r5.blk.cq 4095).held
        = (pte_5r5.blk.cq 4095).held.head (by decide +kernel) :: (pte_5r5.blk.cq 4095).held.tail
    ∧ (pte_5r5.blk.cq 4095).ien = true
    -- 5
    ∧ (fbY.blk.link.sending = some (txq5, 7) ∨ fbY.blk.link.sending = none ∧ fbY.blk.nextPacket = some txq5)
    ∧ fbY.blk.link.poisons = []
    ∧ txq5.by' = TxBy.completion 4095
    ∧ (fbY.blk.cq 4095).stage = CqStage.sending
    ∧ (fbY.blk.cq 4095).held = (fbY.blk.cq 4095).held.head (by decide +kernel) :: (fbY.blk.cq 4095).held.tail
    ∧ ((fbY.blk.cq 4095).held.head (by decide +kernel)).seg.isSome = true
    ∧ ((fbY.blk.cq 4095).held.head (by decide +kernel)).foreign = none
    -- 6
    ∧ Performs txs A0 Reg.lnkSelf true
    ∧ ((txs.blk.dom 6).state = DState.on ∨ bit (-1 : Word) 63 = false)
    -- 6
    ∧ Performs txs A0 Reg.lnkSelf true
    ∧ ((txs.blk.dom 6).state = DState.on ∨ bit (5 : Word) 63 = false)
    ∧ bit (5 : Word) 63 = false
    -- 6
    ∧ Performs pte_6r3 A0 Reg.lnkSelf true
    ∧ (pte_6r3.blk.dom 6).state ≠ DState.on
    ∧ bit (-1 : Word) 63 = true
    -- 7
    ∧ Performs S2 A0 Reg.lnkTxstat true := by
  refine ⟨?_, ?_, ?_, ?_, ?_, ?_, ?_, ?_, ?_, ?_, ?_, ?_, ?_, ?_, ?_, ?_, ?_, ?_, ?_, ?_, ?_, ?_, ?_, ?_, ?_,
    ?_, ?_, ?_, ?_, ?_, ?_, ?_, ?_, ?_, ?_, ?_, ?_, ?_, ?_, ?_, ?_, ?_, ?_, ?_, ?_, ?_, ?_, ?_, ?_, ?_, ?_,
    ?_, ?_, ?_, ?_, ?_, ?_, ?_, ?_, ?_, ?_, ?_, ?_, ?_, ?_, ?_, ?_, ?_, ?_, ?_, ?_, ?_, ?_, ?_, ?_, ?_, ?_,
    ?_, ?_, ?_, ?_, ?_, ?_, ?_, ?_, ?_, ?_, ?_, ?_, ?_, ?_, ?_, ?_, ?_, ?_, ?_, ?_, ?_, ?_, ?_, ?_, ?_, ?_⟩ <;>
    (first
      | decide +kernel
      | exact ⟨1023, by decide +kernel⟩
      | exact no_peer (by decide +kernel)
      | (unfold Performs; decide +kernel))
end Sequences

namespace Channels
def tx (f : TxPort → TxPort) : State := sr fun b => b.modTx 15 127 fun t => f { t with routeV := true, dbead := 3, dqueue := 9, credit := 16 }
def rx (f : RxQueue → RxQueue) : State := sr fun b => b.modRx 15 127 fun t => f { t with routeV := true, sbead := 3, sport := 9 }
def f64 : List Word := List.replicate 64 7
def rxH (s : State) : State := onC 15 f64 s
def rxF (f : RxQueue → RxQueue) : State := onC1 15 f64 1 (rx f)
def wd : ChnWord := { quarters := [1,2,3,4], first := true, last := true, vb := 32, mwords := 1 }
def rxw : State := rx fun q => { q with words := [(63, wd)], rp := 127, wp := 0, vp := 0 }
def stg (f : Chan → Chan) (d : Nat) : State := ondB (tx fun t => { t with dbead := d }) fun b => b.modChan 15 fun c => f { c with staging := [⟨127, [77]⟩, ⟨3, [1]⟩] }
def full15 (s : State) : State := ondB s fun b => b.modLane 7 fun l => { l with bead := { l.bead with queue := List.replicate 16 { bits := 6 } } }
def full3 (s : State) : State := ondB s fun b => b.modLane 1 fun l => { l with clasp := { l.clasp with queue := List.replicate 32 { bits := 6 } } }
def mc3 : State := onUp 15 (chnRec S2.params 15 127 3 [1, 2]) S2
def mf3 : State := full3 mc3
def rt1 : Route := { srcEp := 0, dstEp := 1, queue := 127, thresh := 0, srcBead := 3, dstBead := 15, port := 9 }
def rts : State := sr fun b => { b with setting := { b.setting with chan := some { routes := [rt1] } } }
def rts1 : State := onUp 15 (creditRec S2.params 15 127 64) rts
def rtf : State := full3 rts1
def mc8 : State := onDn 15 (ctlRec S2.params 15 3 3) (ondB rxw fun b => (b.modTx 15 3 fun t => { t with opened := true }).modPbead 15 fun x => { x with clears := [5, 9] })
def pt (f : Part → Part) : State := sr fun b => let b := (b.modPart 15 fun x => f { x with resident := some 9 }).modCtx 9 fun c => { c with state := .resident, part := 15 }
  { b with setting := { b.setting with parts := [(0, { enabled := true, beadMask := 0xFFFF }), (15, { enabled := true, beadMask := 0xFF })] } }
def pte : State := ondB (pt fun x => { x with state := .enabled }) fun b => (b.modQueue 5 fun q => { q with state := .wait, cfg := 0x0F00000000090000 }).modSub 3 fun x => { x with live := true, queue := 5, ctx := 9, part := 15, nodes := [(0, { used := true, kind := 1 })], nnodes := 1, known := 1 }
def pc (s : State) : State := ondB s fun b => subB b 65535 fun x => { x with
  desc := nopDesc, nodes := [(2, { used := true, kind := 7, state := .ready, resolved := true, record := 0x10100 })] }
def mPC (op : Nat) : MemView := { words := [(0x10100, 7), (0x10110, 2), (0x10118, BitVec.ofNat 64 (15 + op * 256))] }
def cx (f : Ctx → Ctx) : State := sr fun b => { b.modCtx 1023 fun c => f c with parts := { (b.modCtx 1023 fun c => f c).parts with ctxArg := 0x70000 } }
def cxs : State := ondB (cx fun c => { c with state := .swapped, recV := true }) fun b => { (b.modFence 5 fun f => { f with state := .active, owner := -1 }) with seq := { b.seq with seqs := [(4, { state := .running, ctx := 1023 }), (5, { state := .running, ctx := 3 })], ctxs := [(1023, { nextOrd := 5, used := 7 })] } }
def mCR (reg : Nat) (c : Nat) : MemView := { words := [(0x10100, 7), (0x10110, 3), (0x10118, BitVec.ofNat 64 (c + reg * 65536)), (0x10120, if reg = 1 then 0x80000 else 0)] }
def cpoas_1r2 : State := tx fun t => { t with credit := 15 }
def cpoas_2 : State := tx fun t => { t with opened := true, left := 2 }
def cpoas_2r2 : State := tx fun t => { t with opened := true, left := 1, flits := [5] }
theorem witness_ChannelPortsOpenAndStage :
    -- 1
    Performs (tx id) A0 (Reg.chnTxHdr 15 127) true
    ∧ (((tx id).blk.tx 15 127).routeV = true ∧ ((tx id).blk.tx 15 127).opened = false
        ∧ 1 ≤ BitVec.toNat (64 : BitVec 7) ∧ BitVec.toNat (64 : BitVec 7) ≤ 64)
    ∧ (BitVec.toNat (64 : BitVec 7) + 3) / 4 ≤ ((tx id).blk.tx 15 127).credit
    ∧ Block.stagingUsed (tx id).params (tx id).blk 15 + (BitVec.toNat (64 : BitVec 7) + 3) / 4 ≤ 64
    ∧ (((tx id).blk.dom (9 + 2 * 15)).state = DState.on
        ∧ ((tx id).blk.dom (9 + 2 * ((tx id).blk.tx 15 127).dbead)).state = DState.on)
    ∧ (((tx id).blk.tx 15 127).routeV = true ∧ ((tx id).blk.tx 15 127).opened = false
        ∧ 1 ≤ BitVec.toNat (64 : BitVec 7) ∧ BitVec.toNat (64 : BitVec 7) ≤ 64)
    -- 1
    ∧ Performs cpoas_1r2 A0 (Reg.chnTxHdr 15 127) true
    ∧ ((cpoas_1r2.blk.tx 15 127).routeV = true ∧ (cpoas_1r2.blk.tx 15 127).opened = false
        ∧ 1 ≤ BitVec.toNat (64 : BitVec 7) ∧ BitVec.toNat (64 : BitVec 7) ≤ 64)
    ∧ (¬((BitVec.toNat (64 : BitVec 7) + 3) / 4 ≤ (cpoas_1r2.blk.tx 15 127).credit
        ∧ Block.stagingUsed cpoas_1r2.params cpoas_1r2.blk 15 + (BitVec.toNat (64 : BitVec 7) + 3) / 4 ≤ 64
        ∧ (cpoas_1r2.blk.dom (9 + 2 * 15)).state = DState.on
        ∧ (cpoas_1r2.blk.dom (9 + 2 * (cpoas_1r2.blk.tx 15 127).dbead)).state = DState.on))
    -- 1
    ∧ Performs (tx id) A0 (Reg.chnTxHdr 15 127) true
    ∧ (¬(((tx id).blk.tx 15 127).routeV = true ∧ ((tx id).blk.tx 15 127).opened = false
        ∧ 1 ≤ BitVec.toNat (65 : BitVec 7) ∧ BitVec.toNat (65 : BitVec 7) ≤ 64))
    -- 2
    ∧ Performs cpoas_2 A0 (Reg.chnTxData 15 127) true
    ∧ (cpoas_2.blk.tx 15 127).opened = true
    ∧ (cpoas_2.blk.tx 15 127).left ≠ 1
    ∧ (cpoas_2.blk.tx 15 127).opened = true
    -- 2
    ∧ Performs cpoas_2r2 A0 (Reg.chnTxData 15 127) true
    ∧ (cpoas_2r2.blk.tx 15 127).opened = true
    ∧ (cpoas_2r2.blk.tx 15 127).left = 1
    -- 2
    ∧ Performs (tx id) A0 (Reg.chnTxData 15 127) true
    ∧ ((tx id).blk.tx 15 127).opened = false := by
  refine ⟨?_, ?_, ?_, ?_, ?_, ?_, ?_, ?_, ?_, ?_, ?_, ?_, ?_, ?_, ?_, ?_, ?_, ?_, ?_, ?_⟩ <;>
    first | decide +kernel | (unfold Performs; decide +kernel)
def rqsap_2a : State := rxF fun q => { q with openF := 2, got := 1, part := [7], wp := 127, vp := 127, rp := 127, mstart := 127 }
def rqsap_2b : Block := rC 15 0 [7] (rxF fun q => { q with openF := 2, got := 1, part := [7], wp := 127, vp := 127, rp := 127, mstart := 127 })
def rqsap_2r2a : State := rxF fun q => { q with openF := 64, got := 1, part := [7], drain := true }
def rqsap_2r2b : Block := rC 15 0 [7] (rxF fun q => { q with openF := 64, got := 1, part := [7], drain := true })
def rqsap_2r3a : State := rxF fun q => { q with openF := 64, got := 3, part := [7, 7, 7], drain := true, capOpen := true }
def rqsap_2r3b : Block := rC 15 0 [7] (rxF fun q => { q with openF := 64, got := 3, part := [7, 7, 7], drain := true, capOpen := true })
def rqsap_2r4a : State := rxF fun q => { q with discard := 9 }
def rqsap_2r4b : Block := rC 15 0 [7] (rxF fun q => { q with discard := 9 })
theorem witness_ReceiveQueuesStoreAndPop :
    -- 1
    FlitsReach (rxH (rx id)).params (rxH (rx id)).blk 15 (BitVec.toNat (127 : BitVec 7)) (BitVec.toNat (64 : BitVec 7)) [] (rC 15 64 [] (rxH (rx id)))
    ∧ (64 : BitVec 7) ≠ (0 : BitVec 7)
    ∧ ((rxH (rx id)).blk.rx 15 (BitVec.toNat (127 : BitVec 7))).openF = 0
    ∧ ((rxH (rx id)).blk.rx 15 (BitVec.toNat (127 : BitVec 7))).discard = 0
    -- 2
    ∧ FlitsReach rqsap_2a.params rqsap_2a.blk 15 (BitVec.toNat (127 : BitVec 7)) 0 [(7 : Word)] rqsap_2b
    ∧ (rqsap_2a.blk.rx 15 (BitVec.toNat (127 : BitVec 7))).discard = 0
    ∧ (rqsap_2a.blk.rx 15 (BitVec.toNat (127 : BitVec 7))).discard = 0
    ∧ (rqsap_2a.blk.rx 15 (BitVec.toNat (127 : BitVec 7))).openF ≠ 0
    ∧ (rqsap_2a.blk.rx 15 (BitVec.toNat (127 : BitVec 7))).part.length < 3
    ∧ (rqsap_2a.blk.rx 15 (BitVec.toNat (127 : BitVec 7))).discard = 0
    ∧ (rqsap_2a.blk.rx 15 (BitVec.toNat (127 : BitVec 7))).openF ≠ 0
    ∧ ((rqsap_2a.blk.rx 15 (BitVec.toNat (127 : BitVec 7))).part.length
        = 3 ∨ (rqsap_2a.blk.rx 15 (BitVec.toNat (127 : BitVec 7))).got + 1
        = (rqsap_2a.blk.rx 15 (BitVec.toNat (127 : BitVec 7))).openF)
    ∧ (rqsap_2a.blk.rx 15 (BitVec.toNat (127 : BitVec 7))).discard = 0
    ∧ (rqsap_2a.blk.rx 15 (BitVec.toNat (127 : BitVec 7))).openF ≠ 0
    ∧ ((rqsap_2a.blk.rx 15 (BitVec.toNat (127 : BitVec 7))).part.length
        = 3 ∨ (rqsap_2a.blk.rx 15 (BitVec.toNat (127 : BitVec 7))).got + 1
        = (rqsap_2a.blk.rx 15 (BitVec.toNat (127 : BitVec 7))).openF)
    ∧ (rqsap_2a.blk.rx 15 (BitVec.toNat (127 : BitVec 7))).drain = false
    -- 2
    ∧ FlitsReach rqsap_2r2a.params rqsap_2r2a.blk 15 (BitVec.toNat (127 : BitVec 7)) 0 [(7 : Word)] rqsap_2r2b
    ∧ (rqsap_2r2a.blk.rx 15 (BitVec.toNat (127 : BitVec 7))).discard = 0
    ∧ (rqsap_2r2a.blk.rx 15 (BitVec.toNat (127 : BitVec 7))).openF ≠ 0
    ∧ (rqsap_2r2a.blk.rx 15 (BitVec.toNat (127 : BitVec 7))).part.length < 3
    ∧ (rqsap_2r2a.blk.rx 15 (BitVec.toNat (127 : BitVec 7))).got + 1 ≠ (rqsap_2r2a.blk.rx 15 (BitVec.toNat (127 : BitVec 7))).openF
    -- 2
    ∧ FlitsReach rqsap_2r3a.params rqsap_2r3a.blk 15 (BitVec.toNat (127 : BitVec 7)) 0 [(7 : Word)] rqsap_2r3b
    ∧ (rqsap_2r3a.blk.rx 15 (BitVec.toNat (127 : BitVec 7))).discard = 0
    ∧ (rqsap_2r3a.blk.rx 15 (BitVec.toNat (127 : BitVec 7))).openF ≠ 0
    ∧ ((rqsap_2r3a.blk.rx 15 (BitVec.toNat (127 : BitVec 7))).part.length
        = 3 ∨ (rqsap_2r3a.blk.rx 15 (BitVec.toNat (127 : BitVec 7))).got + 1
        = (rqsap_2r3a.blk.rx 15 (BitVec.toNat (127 : BitVec 7))).openF)
    ∧ (rqsap_2r3a.blk.rx 15 (BitVec.toNat (127 : BitVec 7))).drain = true
    -- 2
    ∧ FlitsReach rqsap_2r4a.params rqsap_2r4a.blk 15 (BitVec.toNat (127 : BitVec 7)) 0 [(7 : Word)] rqsap_2r4b
    ∧ (rqsap_2r4a.blk.rx 15 (BitVec.toNat (127 : BitVec 7))).discard ≠ 0
    -- 2
    ∧ FlitsReach (rxF id).params (rxF id).blk 15 (BitVec.toNat (127 : BitVec 7)) 0 [(7 : Word)] (rC 15 0 [(7 : Word)] (rxF id))
    ∧ ((rxF id).blk.rx 15 (BitVec.toNat (127 : BitVec 7))).discard = 0
    ∧ ((rxF id).blk.rx 15 (BitVec.toNat (127 : BitVec 7))).openF = 0
    -- 3
    ∧ Performs rxw A0 (Reg.chnRd 15 127 0) false
    ∧ (rxw.blk.rx 15 127).count ≠ 0
    ∧ ((rxw.blk.rx 15 127).word (rxw.blk.rx 15 127).rp).bad = false
    -- 4
    ∧ Performs (rx id) A0 (Reg.chnRd 15 127 0) false
    ∧ ((rx id).blk.rx 15 127).count = 0
    -- 5
    ∧ Performs (rx id) A0 (Reg.chnCmd 15 127) true
    ∧ (¬(((rx id).blk.rx 15 127).everCaptured = true ∧ ((rx id).blk.rx 15 127).captured.last = false))
    ∧ ((rx id).blk.rx 15 127).stored = 0
    ∧ ((rx id).blk.rx 15 127).openF = 0
    -- 5
    ∧ Performs rxw A0 (Reg.chnCmd 15 127) true
    ∧ ((rxw.blk.rx 15 127).everCaptured = true ∧ (rxw.blk.rx 15 127).captured.last
        = false ∨ (rxw.blk.rx 15 127).stored ≠ 0 ∨ (rxw.blk.rx 15 127).openF ≠ 0) := by
  refine ⟨?_, ?_, ?_, ?_, ?_, ?_, ?_, ?_, ?_, ?_, ?_, ?_, ?_, ?_, ?_, ?_, ?_, ?_, ?_, ?_, ?_, ?_, ?_, ?_, ?_,
    ?_, ?_, ?_, ?_, ?_, ?_, ?_, ?_, ?_, ?_, ?_, ?_, ?_, ?_, ?_, ?_, ?_⟩ <;>
    first | decide +kernel | (unfold Performs; decide +kernel) | (unfold FlitsReach; decide +kernel)
def mact_6 : State := full15 (rx fun q => { q with unreturned := 3 })
def mact_6r2 : State := rx fun q => { q with unreturned := 3 }
def mact_7 : State := rx fun q => { q with unreturned := 3, sbead := 15 }
theorem witness_MessagesAndCreditsTravel :
    -- 1
    ((stg id 3).blk.chan 15).staging
        = [{ port := 127, flits := [(77 : Word)] : Staged }, { port := 3, flits := [(1 : Word)] : Staged }]
    ∧ ((stg id 3).blk.tx 15 { port := 127, flits := [(77 : Word)] : Staged }.port).dbead ≠ 15
    ∧ Block.roomUp (stg id 3).params (stg id 3).blk 15 = true
    ∧ (stg id 3).params.beadOnLane 15 < 4
    -- 1
    ∧ ((full15 (stg id 3)).blk.chan 15).staging
        = [{ port := 127, flits := [(77 : Word)] : Staged }, { port := 3, flits := [(1 : Word)] : Staged }]
    ∧ ((full15 (stg id 3)).blk.tx 15 { port := 127, flits := [(77 : Word)] : Staged }.port).dbead ≠ 15
    ∧ Block.roomUp (full15 (stg id 3)).params (full15 (stg id 3)).blk 15 = false
    -- 2
    ∧ ((stg id 15).blk.chan 15).staging
        = [{ port := 127, flits := [(77 : Word)] : Staged }, { port := 3, flits := [(1 : Word)] : Staged }]
    ∧ ((stg id 15).blk.tx 15 { port := 127, flits := [(77 : Word)] : Staged }.port).dbead = 15
    ∧ { port := 127, flits := [(77 : Word)] : Staged }.flits.length = 1
    ∧ ((stg id 15).blk.rx 15 ((stg id 15).blk.tx 15 { port := 127, flits := [(77 : Word)] : Staged }.port).dqueue).openF = 0
    ∧ ((stg id 15).blk.rx 15 ((stg id 15).blk.tx 15 { port := 127, flits := [(77 : Word)] : Staged }.port).dqueue).discard = 0
    ∧ ((stg id 15).blk.rx 15 ((stg id 15).blk.tx 15 { port := 127, flits := [(77 : Word)] : Staged }.port).dqueue).stored < 64
    ∧ ((stg id 15).blk.rx 15 ((stg id 15).blk.tx 15 { port := 127, flits := [(77 : Word)] : Staged }.port).dqueue).drain = false
    -- 3
    ∧ ActsAtClasp mc3.params mc3.blk 15 (chnRec mc3.params 15 (BitVec.toNat (127 : BitVec 7)) (BitVec.toNat (3 : BitVec 6)) [(1 : Word), (2 : Word)]) (rU 15 (chnRec S2.params 15 127 3 [(1 : Word), (2 : Word)]) mc3)
    ∧ (mc3.blk.pbead (BitVec.toNat (3 : BitVec 6))).state ≠ BState.fenced
    ∧ ((rU 15 (chnRec S2.params 15 127 3 [(1 : Word), (2 : Word)]) mc3).lane (mc3.params.laneOf (BitVec.toNat (3 : BitVec 6)))).failed = false
    ∧ Block.roomDown mc3.params mc3.blk (BitVec.toNat (3 : BitVec 6)) = true
    -- 3
    ∧ ActsAtClasp mf3.params mf3.blk 15 (chnRec mf3.params 15 (BitVec.toNat (127 : BitVec 7)) (BitVec.toNat (3 : BitVec 6)) [(1 : Word), (2 : Word)]) (rU 15 (chnRec S2.params 15 127 3 [(1 : Word), (2 : Word)]) mf3)
    ∧ (mf3.blk.pbead (BitVec.toNat (3 : BitVec 6))).state ≠ BState.fenced
    ∧ ((rU 15 (chnRec S2.params 15 127 3 [(1 : Word), (2 : Word)]) mf3).lane (mf3.params.laneOf (BitVec.toNat (3 : BitVec 6)))).failed = false
    ∧ Block.roomDown mf3.params mf3.blk (BitVec.toNat (3 : BitVec 6)) = false
    -- 4
    ∧ ActsAtClasp rts1.params rts1.blk 15 (creditRec rts1.params 15 (BitVec.toNat (127 : BitVec 7)) (BitVec.toNat (64 : BitVec 7))) (rU 15 (creditRec S2.params 15 127 64) rts1)
    ∧ rts1.blk.setting.routeTo 15 (BitVec.toNat (127 : BitVec 7)) = some rt1
    ∧ Block.roomDown rts1.params rts1.blk rt1.srcBead = true
    -- 4
    ∧ ActsAtClasp rtf.params rtf.blk 15 (creditRec rtf.params 15 (BitVec.toNat (127 : BitVec 7)) (BitVec.toNat (64 : BitVec 7))) (rU 15 (creditRec S2.params 15 127 64) rtf)
    ∧ rtf.blk.setting.routeTo 15 (BitVec.toNat (127 : BitVec 7)) = some rt1
    ∧ Block.roomDown rtf.params rtf.blk rt1.srcBead = false
    -- 6
    ∧ (mact_6.blk.rx 15 127).unreturned ≠ 0
    ∧ (mact_6.blk.rx 15 127).routeV = true
    ∧ (mact_6.blk.rx 15 127).sbead ≠ 15
    ∧ Block.roomUp mact_6.params mact_6.blk 15 = false
    -- 5
    ∧ ActsAtBead (onDn 15 (creditRec S2.params 15 127 64) (tx id)).params (onDn 15 (creditRec S2.params 15 127 64) (tx id)).blk 15 (creditRec (onDn 15 (creditRec S2.params 15 127 64) (tx id)).params 15 (BitVec.toNat (127 : BitVec 7)) (BitVec.toNat (64 : BitVec 7))) (rD 15 (creditRec S2.params 15 127 64) (onDn 15 (creditRec S2.params 15 127 64) (tx id)))
    -- 6
    ∧ (mact_6r2.blk.rx 15 127).unreturned ≠ 0
    ∧ (mact_6r2.blk.rx 15 127).routeV = true
    ∧ (mact_6r2.blk.rx 15 127).sbead ≠ 15
    ∧ Block.roomUp mact_6r2.params mact_6r2.blk 15 = true
    -- 7
    ∧ (mact_7.blk.rx 15 127).unreturned ≠ 0
    ∧ (mact_7.blk.rx 15 127).routeV = true
    ∧ (mact_7.blk.rx 15 127).sbead = 15
    -- 8
    ∧ ActsAtBead mc8.params mc8.blk 15 (ctlRec mc8.params 15 3 (BitVec.toNat (3 : BitVec 4))) (rD 15 (ctlRec S2.params 15 3 3) mc8) := by
  refine ⟨?_, ?_, ?_, ?_, ?_, ?_, ?_, ?_, ?_, ?_, ?_, ?_, ?_, ?_, ?_, ?_, ?_, ?_, ?_, ?_, ?_, ?_, ?_, ?_, ?_,
    ?_, ?_, ?_, ?_, ?_, ?_, ?_, ?_, ?_, ?_, ?_, ?_, ?_, ?_, ?_, ?_⟩ <;>
    first | decide +kernel | (unfold ActsAtBead; decide +kernel) | (unfold ActsAtClasp; decide +kernel)
def pcte_1r3 : State := ondB pte fun b => { b with lkt := { b.lkt with state := .stopping, pmask := -1 } }
def pcte_3 : State := pt fun x => { x with state := .stopping }
def pcte_4 : State := pt fun x => { x with state := .forcing }
theorem witness_PartitionCommandsTakeEffect :
    -- 1
    Performs (pt id) A0 (Reg.partCmd (BitVec.toNat (15 : BitVec 4))) true
    ∧ ((pt id).blk.part (BitVec.toNat (15 : BitVec 4))).state = PState.disabled
    ∧ ((pt id).blk.partSec (BitVec.toNat (15 : BitVec 4))).enabled = true
    ∧ BitVec.toNat (15 : BitVec 4) ∉ (pt id).blk.loader.touched
    ∧ ((pt id).blk.part (BitVec.toNat (15 : BitVec 4))).state ≠ PState.enabled
    ∧ ((pt id).blk.part (BitVec.toNat (15 : BitVec 4))).state ≠ PState.enabled
    ∧ ((pt id).blk.part (BitVec.toNat (15 : BitVec 4))).state ≠ PState.stopping
    ∧ (((pt id).blk.part (BitVec.toNat (15 : BitVec 4))).state ≠ PState.enabled ∨ ((pt id).blk.part (BitVec.toNat (15 : BitVec 4))).settled = false ∨ ((pt id).blk.part (BitVec.toNat (15 : BitVec 4))).resident = none)
    -- 1
    ∧ Performs pte A0 (Reg.partCmd (BitVec.toNat (15 : BitVec 4))) true
    ∧ (¬((pte.blk.part (BitVec.toNat (15 : BitVec 4))).state = PState.disabled
        ∧ (pte.blk.partSec (BitVec.toNat (15 : BitVec 4))).enabled = true
        ∧ BitVec.toNat (15 : BitVec 4) ∉ pte.blk.loader.touched))
    ∧ (pte.blk.part (BitVec.toNat (15 : BitVec 4))).state = PState.enabled
    ∧ ((pte.blk.part (BitVec.toNat (15 : BitVec 4))).state
        = PState.enabled ∨ (pte.blk.part (BitVec.toNat (15 : BitVec 4))).state = PState.stopping)
    ∧ (pte.blk.part (BitVec.toNat (15 : BitVec 4))).state = PState.enabled
    ∧ (pte.blk.part (BitVec.toNat (15 : BitVec 4))).settled = true
    ∧ (pte.blk.part (BitVec.toNat (15 : BitVec 4))).resident.isSome = true
    ∧ pte.blk.switchHeld (BitVec.toNat (15 : BitVec 4)) = false
    -- 1
    ∧ Performs pcte_1r3 A0 (Reg.partCmd (BitVec.toNat (15 : BitVec 4))) true
    ∧ (pcte_1r3.blk.part (BitVec.toNat (15 : BitVec 4))).state = PState.enabled
    ∧ (pcte_1r3.blk.part (BitVec.toNat (15 : BitVec 4))).settled = true
    ∧ (pcte_1r3.blk.part (BitVec.toNat (15 : BitVec 4))).resident.isSome = true
    ∧ pcte_1r3.blk.switchHeld (BitVec.toNat (15 : BitVec 4)) = true
    -- 2
    ∧ ((pc pte).blk.node 65535 2).kind = 7
    ∧ privOp (mPC 1) ((pc pte).blk.node 65535 2).record = 2
    ∧ (pc pte).blk.gate 65535 2 = Gate.act
    ∧ EdgesReach (pc pte).params (pc pte).blk (mPC 1) 65535 2
    ∧ (pc pte).blk.partAccepts (bits (recW (mPC 1) ((pc pte).blk.node 65535 2).record 3) 3 0) (bits (recW (mPC 1) ((pc pte).blk.node 65535 2).record 3) 11 8) = false
    -- 2
    ∧ ((pc (pt id)).blk.node 65535 2).kind = 7
    ∧ privOp (mPC 1) ((pc (pt id)).blk.node 65535 2).record = 2
    ∧ (pc (pt id)).blk.gate 65535 2 = Gate.act
    ∧ EdgesReach (pc (pt id)).params (pc (pt id)).blk (mPC 1) 65535 2
    ∧ (pc (pt id)).blk.partAccepts (bits (recW (mPC 1) ((pc (pt id)).blk.node 65535 2).record 3) 3 0) (bits (recW (mPC 1) ((pc (pt id)).blk.node 65535 2).record 3) 11 8) = true
    ∧ bits (recW (mPC 1) ((pc (pt id)).blk.node 65535 2).record 3) 11 8 ≠ 3
    ∧ bits (recW (mPC 1) ((pc (pt id)).blk.node 65535 2).record 3) 11 8 = 1
    ∧ (pc (pt id)).blk.partAccepts (bits (recW (mPC 1) ((pc (pt id)).blk.node 65535 2).record 3) 3 0) (bits (recW (mPC 1) ((pc (pt id)).blk.node 65535 2).record 3) 11 8) = true
    -- 2
    ∧ ((pc pte).blk.node 65535 2).kind = 7
    ∧ privOp (mPC 2) ((pc pte).blk.node 65535 2).record = 2
    ∧ (pc pte).blk.gate 65535 2 = Gate.act
    ∧ EdgesReach (pc pte).params (pc pte).blk (mPC 2) 65535 2
    ∧ (pc pte).blk.partAccepts (bits (recW (mPC 2) ((pc pte).blk.node 65535 2).record 3) 3 0) (bits (recW (mPC 2) ((pc pte).blk.node 65535 2).record 3) 11 8) = true
    ∧ bits (recW (mPC 2) ((pc pte).blk.node 65535 2).record 3) 11 8 ≠ 3
    ∧ bits (recW (mPC 2) ((pc pte).blk.node 65535 2).record 3) 11 8 = 2
    -- 2
    ∧ ((pc pte).blk.node 65535 2).kind = 7
    ∧ privOp (mPC 3) ((pc pte).blk.node 65535 2).record = 2
    ∧ (pc pte).blk.gate 65535 2 = Gate.act
    ∧ EdgesReach (pc pte).params (pc pte).blk (mPC 3) 65535 2
    ∧ (pc pte).blk.partAccepts (bits (recW (mPC 3) ((pc pte).blk.node 65535 2).record 3) 3 0) (bits (recW (mPC 3) ((pc pte).blk.node 65535 2).record 3) 11 8) = true
    ∧ bits (recW (mPC 3) ((pc pte).blk.node 65535 2).record 3) 11 8 = 3
    -- 2
    ∧ ((pc pte).blk.node 65535 2).kind = 7
    ∧ privOp (mPC 4) ((pc pte).blk.node 65535 2).record = 2
    ∧ (pc pte).blk.gate 65535 2 = Gate.act
    ∧ EdgesReach (pc pte).params (pc pte).blk (mPC 4) 65535 2
    ∧ (pc pte).blk.partAccepts (bits (recW (mPC 4) ((pc pte).blk.node 65535 2).record 3) 3 0) (bits (recW (mPC 4) ((pc pte).blk.node 65535 2).record 3) 11 8) = true
    ∧ bits (recW (mPC 4) ((pc pte).blk.node 65535 2).record 3) 11 8 ≠ 3
    ∧ bits (recW (mPC 4) ((pc pte).blk.node 65535 2).record 3) 11 8 = 4
    ∧ (pc pte).blk.switchHeld (bits (recW (mPC 4) ((pc pte).blk.node 65535 2).record 3) 3 0) = false
    -- 3
    ∧ (pcte_3.blk.part (BitVec.toNat (15 : BitVec 4))).state = PState.stopping
    ∧ (pcte_3.blk.part (BitVec.toNat (15 : BitVec 4))).settled = true
    ∧ pcte_3.blk.partInFlight (BitVec.toNat (15 : BitVec 4)) = false
    ∧ pcte_3.blk.partQueues (BitVec.toNat (15 : BitVec 4)) = []
    -- 4
    ∧ (pcte_4.blk.part (BitVec.toNat (15 : BitVec 4))).state = PState.forcing
    ∧ (pcte_4.blk.part (BitVec.toNat (15 : BitVec 4))).resets = []
    ∧ pcte_4.blk.partQueues (BitVec.toNat (15 : BitVec 4)) = [] := by
  refine ⟨?_, ?_, ?_, ?_, ?_, ?_, ?_, ?_, ?_, ?_, ?_, ?_, ?_, ?_, ?_, ?_, ?_, ?_, ?_, ?_, ?_, ?_, ?_, ?_, ?_,
    ?_, ?_, ?_, ?_, ?_, ?_, ?_, ?_, ?_, ?_, ?_, ?_, ?_, ?_, ?_, ?_, ?_, ?_, ?_, ?_, ?_, ?_, ?_, ?_, ?_, ?_,
    ?_, ?_, ?_, ?_, ?_, ?_, ?_, ?_, ?_, ?_, ?_⟩ <;>
    (first
      | decide +kernel
      | exact edgesReach_of (by unfold Block.pagerIdle; decide +kernel)
      | (unfold Performs; decide +kernel))
theorem witness_ContextCommandsTakeEffect :
    -- 1
    Performs (cx id) A0 Reg.ctxCmd true
    ∧ (cx id).blk.registerOk (-1 : BitVec 10).toNat (BitVec.toNat (0 : BitVec 4)) (BitVec.toNat (cx id).blk.parts.ctxArg) = true
    ∧ (cx id).blk.releaseOk (-1 : BitVec 10).toNat = false
    ∧ ((cx id).blk.ctx (-1 : BitVec 10).toNat).state ≠ CState.swapped
    ∧ ((cx id).blk.ctx (-1 : BitVec 10).toNat).state = CState.free
    -- 1
    ∧ Performs (cx id) A0 Reg.ctxCmd true
    ∧ (cx id).blk.registerOk (-1 : BitVec 10).toNat (BitVec.toNat (1 : BitVec 4)) (BitVec.toNat (cx id).blk.parts.ctxArg) = false
    -- 1
    ∧ Performs cxs A0 Reg.ctxCmd true
    ∧ (cxs.blk.ctx (-1 : BitVec 10).toNat).state ≠ CState.free
    -- 1.3
    ∧ Performs cxs A0 Reg.ctxCmd true
    ∧ (Instr.ctxRelease A0 (-1 : BitVec 10) = Instr.ctxRelease A0 (-1 : BitVec 10) ∧ CState.free
        = CState.free ∧ cxs.blk.releaseOk (-1 : BitVec 10).toNat
        = true ∨ Instr.ctxRelease A0 (-1 : BitVec 10) = Instr.ctxReset A0 (-1 : BitVec 10) ∧ CState.free
        = CState.swapped ∧ (cxs.blk.ctx (-1 : BitVec 10).toNat).state = CState.swapped)
    ∧ Tab.wf { : Fence } cxs.blk.fences.table = true
    ∧ Tab.wf { : Machine.Seq } cxs.blk.seq.seqs = true
    -- 1.8
    ∧ Performs cxs A0 Reg.ctxCmd true
    ∧ (BitVec.getLsbD (3758096384 : BitVec 32) 29 = true ↔ BitVec.getLsbD (3758096384 : BitVec 32) 31
        = true ∨ BitVec.getLsbD (3758096384 : BitVec 32) 30 = true)
    -- 2
    ∧ ((pc (cx id)).blk.node 65535 2).kind = 7
    ∧ privOp (mCR 1 1023) ((pc (cx id)).blk.node 65535 2).record = 3
    ∧ (pc (cx id)).blk.gate 65535 2 = Gate.act
    ∧ EdgesReach (pc (cx id)).params (pc (cx id)).blk (mCR 1 1023) 65535 2
    ∧ bits (recW (mCR 1 1023) ((pc (cx id)).blk.node 65535 2).record 3) 16 16 = 1
    ∧ (pc (cx id)).blk.registerOk (bits (recW (mCR 1 1023) ((pc (cx id)).blk.node 65535 2).record 3) 9 0) (bits (recW (mCR 1 1023) ((pc (cx id)).blk.node 65535 2).record 3) 15 12) (recW (mCR 1 1023) ((pc (cx id)).blk.node 65535 2).record 4) = true
    -- 2
    ∧ ((pc cxs).blk.node 65535 2).kind = 7
    ∧ privOp (mCR 1 1023) ((pc cxs).blk.node 65535 2).record = 3
    ∧ (pc cxs).blk.gate 65535 2 = Gate.act
    ∧ EdgesReach (pc cxs).params (pc cxs).blk (mCR 1 1023) 65535 2
    ∧ (bits (recW (mCR 1 1023) ((pc cxs).blk.node 65535 2).record 3) 16 16 = 1
        ∧ (pc cxs).blk.registerOk (bits (recW (mCR 1 1023) ((pc cxs).blk.node 65535 2).record 3) 9 0) (bits (recW (mCR 1 1023) ((pc cxs).blk.node 65535 2).record 3) 15 12) (recW (mCR 1 1023) ((pc cxs).blk.node 65535 2).record 4) = false ∨ bits (recW (mCR 1 1023) ((pc cxs).blk.node 65535 2).record 3) 16 16 = 0 ∧ (pc cxs).blk.releaseOk (bits (recW (mCR 1 1023) ((pc cxs).blk.node 65535 2).record 3) 9 0) = false)
    -- 2
    ∧ ((pc cxs).blk.node 65535 2).kind = 7
    ∧ privOp (mCR 0 1023) ((pc cxs).blk.node 65535 2).record = 3
    ∧ (pc cxs).blk.gate 65535 2 = Gate.act
    ∧ EdgesReach (pc cxs).params (pc cxs).blk (mCR 0 1023) 65535 2
    ∧ bits (recW (mCR 0 1023) ((pc cxs).blk.node 65535 2).record 3) 16 16 = 0
    ∧ (pc cxs).blk.releaseOk (bits (recW (mCR 0 1023) ((pc cxs).blk.node 65535 2).record 3) 9 0) = true
    ∧ (pc cxs).blk.ctxSubs (bits (recW (mCR 0 1023) ((pc cxs).blk.node 65535 2).record 3) 9 0) = [] := by
  refine ⟨?_, ?_, ?_, ?_, ?_, ?_, ?_, ?_, ?_, ?_, ?_, ?_, ?_, ?_, ?_, ?_, ?_, ?_, ?_, ?_, ?_, ?_, ?_, ?_, ?_,
    ?_, ?_, ?_, ?_, ?_, ?_, ?_, ?_⟩ <;>
    (first
      | decide +kernel
      | exact edgesReach_of (by unfold Block.pagerIdle; decide +kernel)
      | (unfold Performs; decide +kernel))
end Channels

namespace Switches
def pt (f : Part → Part) : State := sr fun b => let b := (b.modPart 15 fun x => f { x with resident := some 9 }).modCtx 9 fun c => { c with state := .resident, part := 15 }
  { b with setting := { b.setting with parts := [(0, { enabled := true, beadMask := 0xFFFF }), (15, { enabled := true, beadMask := 0xFF })] } }
def pte : State := ondB (pt fun x => { x with state := .enabled }) fun b => (b.modQueue 5 fun q => { q with state := .wait, cfg := 0x0F00000000090000 }).modSub 3 fun x => { x with live := true, queue := 5, ctx := 9, part := 15, nodes := [(0, { used := true, kind := 1 })], nnodes := 1, known := 1 }
def pc (s : State) : State := ondB s fun b => subB b 65535 fun x => { x with
  desc := nopDesc, nodes := [(2, { used := true, kind := 7, state := .ready, resolved := true, record := 0x10100 })] }
def sw (f : Part → Part) : State := ondB (pt fun x => f { x with state := .enabled }) fun b =>
  (b.modCtx 10 fun c => { c with state := .swapped, part := 15, atSp := true }).modQueue 6 fun q => { q with state := .wait, cfg := 0x0F000000000A0000 }
def swq : State := ondB (sw id) fun b => { b with setting := { b.setting with parts := [(15, { enabled := true, quantumUs := 5 })] }, now := 5000 }
def swp (f : Part → Part) : State := ondB (sw fun x => f { x with phase := .pending, outgoing := some 9 }) fun b => b.modCtx 9 fun c => { c with state := .outgoing, atSp := true }
def swn : State := ondB (swp id) fun b => b.modQueue 6 fun q => { q with state := .idle }
def swe : State := ondB (swp id) fun b => { b with setting := { b.setting with parts := [(15, { enabled := true, express := true, beadMask := 0x8001 })] } }
def swsv (f : Part → Part) : State := ondB (sw fun x => f { x with phase := .saving, outgoing := some 9, incoming := some 10 }) fun b => b.modCtx 9 fun c => { c with state := .saving }
def swr (f : Part → Part) : State := ondB (sw fun x => f { x with phase := .restoring, incoming := some 10, resident := none }) fun b => b.modCtx 10 fun c => { c with state := .restoring }
def pc0 : Piece := { ctx := 9, num := 0, bead := 15, addr := 0x40000, area := 0x40000, len := 64, restore := false }
def pc1 : Piece := { ctx := 10, num := 65535, bead := 14, addr := 0x50040, area := 0x50000, len := 64, restore := true }
def swpc (k : Nat) (f : Part → Part) : State := swsv fun x => f { x with waiting := [k], pieces := [pc0, pc1] }
def swpd : State := ondB (swpc 0 id) fun b => b.modPbead 15 fun x => { x with state := .fenced }
def swpf : State := ondB (swpc 0 id) fun b => b.modLane 7 fun l => { l with failed := true }
def swi (f : Part → Part) : State := pt fun x => f { x with state := .enabled, idlePeriods := [5, 7] }
def swj : State := ondB (pte) fun b => { b.modPart 15 fun x => { x with idle := true, idleSince := 100, phase := .idle, idlePeriods := List.replicate 8 3 } with now := 250 }
def bd (f : PBead → PBead) : State := sr fun b => b.modPbead 15 f
def bdf (s : State) : State := ondB s fun b => ((subB b 9 fun x => { x with nodes := [(1, { used := true, kind := 0, bead := some 15, state := .ready })], beads := [15] }).modSlot 15 39 fun x => { x with held := [⟨5, none⟩] }).modCwin 15 3 fun c => { c with piece := some (0, 0) }
def bdg : State := ondB (bdf S2) fun b => { b with graph := { b.graph with subs := [] } }
def tr (f : Trace → Trace) : State := sr fun b => { b with now := 77, trace := f { b.trace with state := .armed, addr := 0x100000, nu := 1024, post := 64, mask := -1 } }
def tev : TraceEv := { cls := 3, words := [0x0100000000000000 + 0x0300000000000000 * 0, 77, 1, 2] }
def te (f : Trace → Trace) : State := tr fun t => f { t with queue := [tev, tev] }
def tevL : TraceEv := { tev with words := tev.words.set 0 0x0300000000000000 ++ [5, 6, 7, 8] }
def teL : State := tr fun t => { t with queue := [tevL, tev], tail := 958, head := 0 }
def td (f : Trace → Trace) : State := tr fun t => f { t with trigDue := some (1, 3, 77), state := .triggered, fired := true }
def tc (s : State) : State := pc s
def mTC (op : Nat) : MemView := { words := [(0x10100, 7), (0x10110, 5), (0x10118, BitVec.ofNat 64 op), (0x10120, if op = 4 then -1 else 0)] }
def srth_1 : MemView := {}
def srth_2a : State := sw fun x => { x with resident := none }
def srth_2b : MemView := {}
def srth_3_3 : MemView := {}
def srth_3_2 : MemView := {}
def srth_3_3r2 : MemView := {}
def srth_4 : MemView := {}
def srth_4r2a : State := swsv fun x => { x with waiting := [3] }
def srth_4r2b : MemView := {}
def srth_4r3a : State := swsv fun x => { x with pieceFail := some 0x16 }
def srth_4r3b : MemView := {}
def srth_6a : State := swr fun x => { x with count := 65535 }
def srth_6b : MemView := {}
def srth_6r2a : State := swr fun x => { x with pieceFail := some 0x16 }
def srth_6r2b : MemView := {}
def srth_5a : MemView := {}
def srth_5b : Instr := .switchBoundary 15 {}
def srth_5r2a : MemView := {}
def srth_5r2b : Instr := .switchBoundary 15 {}
def srth_5r3a : MemView := {}
def srth_5r3b : Instr := .switchBoundary 15 {}
theorem witness_SwitchesRunTheirHalves :
    -- 1
    swq.blk.switchOpen (BitVec.toNat (15 : BitVec 4)) = true
    ∧ (swq.blk.part (BitVec.toNat (15 : BitVec 4))).resident = some 9
    ∧ (Instr.quantumExpiry (15 : BitVec 4) = Instr.quantumExpiry (15 : BitVec 4) ∧ 1 = 1
        ∧ (swq.blk.partSec (BitVec.toNat (15 : BitVec 4))).quantumUs ≠ 0
        ∧ (swq.blk.part (BitVec.toNat (15 : BitVec 4))).since + 1000 * (swq.blk.partSec (BitVec.toNat (15 : BitVec 4))).quantumUs ≤ swq.blk.now ∧ swq.blk.runnables (BitVec.toNat (15 : BitVec 4)) ≠ [] ∨ Instr.quantumExpiry (15 : BitVec 4) = Instr.switchRequest (15 : BitVec 4) srth_1 ∧ swq.blk.switchReason (BitVec.toNat (15 : BitVec 4)) = some 1 ∧ 1 ≠ 6)
    -- 2
    ∧ srth_2a.blk.switchOpen (BitVec.toNat (15 : BitVec 4)) = true
    ∧ (srth_2a.blk.part (BitVec.toNat (15 : BitVec 4))).resident = none
    ∧ Chosen srth_2a.blk (BitVec.toNat (15 : BitVec 4)) none 10
    -- 3.3
    ∧ ((swp id).blk.part (BitVec.toNat (15 : BitVec 4))).phase = Phase.pending
    ∧ ((swp id).blk.part (BitVec.toNat (15 : BitVec 4))).outgoing = some 9
    ∧ (swp id).blk.boundary (BitVec.toNat (15 : BitVec 4)) 9 = true
    ∧ Chosen (swp id).blk (BitVec.toNat (15 : BitVec 4)) (some 9) 10
    ∧ 10 ≠ 9
    ∧ ((swp id).blk.partSec (BitVec.toNat (15 : BitVec 4))).express = false
    ∧ ((swp id).blk.ctx 9).recV = false
    ∧ ((swp id).blk.ctx 10).recV = false
    -- 3.2
    ∧ (swn.blk.part (BitVec.toNat (15 : BitVec 4))).phase = Phase.pending
    ∧ (swn.blk.part (BitVec.toNat (15 : BitVec 4))).outgoing = some 9
    ∧ swn.blk.boundary (BitVec.toNat (15 : BitVec 4)) 9 = true
    ∧ (∀ c ∈ swn.blk.runnables (BitVec.toNat (15 : BitVec 4)), (swn.blk.ctx c).state ≠ CState.swapped)
    -- 3.3
    ∧ (swe.blk.part (BitVec.toNat (15 : BitVec 4))).phase = Phase.pending
    ∧ (swe.blk.part (BitVec.toNat (15 : BitVec 4))).outgoing = some 9
    ∧ swe.blk.boundary (BitVec.toNat (15 : BitVec 4)) 9 = true
    ∧ Chosen swe.blk (BitVec.toNat (15 : BitVec 4)) (some 9) 10
    ∧ 10 ≠ 9
    ∧ (swe.blk.partSec (BitVec.toNat (15 : BitVec 4))).express = true
    -- 4
    ∧ ((swsv id).blk.part (BitVec.toNat (15 : BitVec 4))).phase = Phase.saving
    ∧ ((swsv id).blk.part (BitVec.toNat (15 : BitVec 4))).outgoing = some 9
    ∧ ((swsv id).blk.part (BitVec.toNat (15 : BitVec 4))).incoming = some 10
    ∧ 10 ≠ 9
    ∧ ((swsv id).blk.part (BitVec.toNat (15 : BitVec 4))).waiting = []
    ∧ ((swsv id).blk.ctx 10).state = CState.swapped
    ∧ ((swsv id).blk.ctx 10).part = BitVec.toNat (15 : BitVec 4)
    ∧ ((swsv id).blk.ctx 10).cause = (0 : Status)
    ∧ ((swsv id).blk.ctx 10).recV = false
    ∧ ((swsv id).blk.part (BitVec.toNat (15 : BitVec 4))).pieceFail = none
    ∧ (((swsv id).blk.part (BitVec.toNat (15 : BitVec 4))).pieceFail = none ∨ (swsv id).blk.ctxSubs 9 = [])
    ∧ ((swsv id).blk.part (BitVec.toNat (15 : BitVec 4))).pieceFail = none
    -- 4
    ∧ (srth_4r2a.blk.part (BitVec.toNat (15 : BitVec 4))).phase = Phase.saving
    ∧ (srth_4r2a.blk.part (BitVec.toNat (15 : BitVec 4))).outgoing = some 9
    ∧ (srth_4r2a.blk.part (BitVec.toNat (15 : BitVec 4))).incoming = some 10
    ∧ 10 ≠ 9
    ∧ (srth_4r2a.blk.part (BitVec.toNat (15 : BitVec 4))).waiting ≠ []
    -- 4
    ∧ (srth_4r3a.blk.part (BitVec.toNat (15 : BitVec 4))).phase = Phase.saving
    ∧ (srth_4r3a.blk.part (BitVec.toNat (15 : BitVec 4))).outgoing = some 9
    ∧ (srth_4r3a.blk.part (BitVec.toNat (15 : BitVec 4))).incoming = some 10
    ∧ 10 ≠ 9
    ∧ (srth_4r3a.blk.part (BitVec.toNat (15 : BitVec 4))).waiting = []
    ∧ (srth_4r3a.blk.ctx 10).state = CState.swapped
    ∧ (srth_4r3a.blk.ctx 10).part = BitVec.toNat (15 : BitVec 4)
    ∧ (srth_4r3a.blk.ctx 10).cause = (0 : Status)
    ∧ (srth_4r3a.blk.part (BitVec.toNat (15 : BitVec 4))).pieceFail.isSome = true
    -- 6
    ∧ (srth_6a.blk.part (BitVec.toNat (15 : BitVec 4))).phase = Phase.restoring
    ∧ (srth_6a.blk.part (BitVec.toNat (15 : BitVec 4))).incoming = some 10
    ∧ (srth_6a.blk.part (BitVec.toNat (15 : BitVec 4))).waiting = []
    ∧ (srth_6a.blk.part (BitVec.toNat (15 : BitVec 4))).pieceFail = none
    -- 6
    ∧ (srth_6r2a.blk.part (BitVec.toNat (15 : BitVec 4))).phase = Phase.restoring
    ∧ (srth_6r2a.blk.part (BitVec.toNat (15 : BitVec 4))).incoming = some 10
    ∧ (srth_6r2a.blk.part (BitVec.toNat (15 : BitVec 4))).waiting = []
    ∧ (srth_6r2a.blk.part (BitVec.toNat (15 : BitVec 4))).pieceFail.isSome = true
    ∧ (srth_6r2a.blk.part (BitVec.toNat (15 : BitVec 4))).pieceFail.get (by decide +kernel) ≠ (0 : Status)
    -- 5
    ∧ (srth_5b = Instr.switchBoundary (15 : BitVec 4) srth_5a
        ∧ ((swpc 0 id).blk.part (BitVec.toNat (15 : BitVec 4))).phase = Phase.saving ∨ srth_5b
        = Instr.switchSaveDone (15 : BitVec 4) srth_5a
        ∧ ((swpc 0 id).blk.part (BitVec.toNat (15 : BitVec 4))).phase = Phase.restoring)
    ∧ ((swpc 0 id).blk.mp.writesFor fun x => x == WPurpose.savePiece (BitVec.toNat (15 : BitVec 4))) = false
    ∧ ((swpc 0 id).blk.part (BitVec.toNat (15 : BitVec 4))).waiting = [0]
    ∧ ((swpc 0 id).blk.part (BitVec.toNat (15 : BitVec 4))).pieces[0]? = some pc0
    ∧ pc0.sent = false
    ∧ ((swpc 0 id).blk.pbead pc0.bead).state ≠ BState.disabled
    ∧ ((swpc 0 id).blk.pbead pc0.bead).state ≠ BState.fenced
    ∧ ((swpc 0 id).blk.pbead pc0.bead).state ≠ BState.disabled
    ∧ ((swpc 0 id).blk.pbead pc0.bead).state ≠ BState.fenced
    ∧ (Block.laneOpen (swpc 0 id).params (swpc 0 id).blk pc0.bead = true
        ∧ Block.roomDown (swpc 0 id).params (swpc 0 id).blk pc0.bead = true)
    ∧ (swpc 0 id).blk.freeWin pc0.bead = some (((swpc 0 id).blk.freeWin pc0.bead).get (by decide +kernel))
    -- 5
    ∧ (srth_5r2b = Instr.switchBoundary (15 : BitVec 4) srth_5r2a
        ∧ (swpd.blk.part (BitVec.toNat (15 : BitVec 4))).phase = Phase.saving ∨ srth_5r2b
        = Instr.switchSaveDone (15 : BitVec 4) srth_5r2a
        ∧ (swpd.blk.part (BitVec.toNat (15 : BitVec 4))).phase = Phase.restoring)
    ∧ (swpd.blk.mp.writesFor fun x => x == WPurpose.savePiece (BitVec.toNat (15 : BitVec 4))) = false
    ∧ (swpd.blk.part (BitVec.toNat (15 : BitVec 4))).waiting = [0]
    ∧ (swpd.blk.part (BitVec.toNat (15 : BitVec 4))).pieces[0]? = some pc0
    ∧ pc0.sent = false
    ∧ ((swpd.blk.pbead pc0.bead).state = BState.disabled ∨ (swpd.blk.pbead pc0.bead).state = BState.fenced)
    -- 5
    ∧ (srth_5r3b = Instr.switchBoundary (15 : BitVec 4) srth_5r3a
        ∧ (swpf.blk.part (BitVec.toNat (15 : BitVec 4))).phase = Phase.saving ∨ srth_5r3b
        = Instr.switchSaveDone (15 : BitVec 4) srth_5r3a
        ∧ (swpf.blk.part (BitVec.toNat (15 : BitVec 4))).phase = Phase.restoring)
    ∧ (swpf.blk.mp.writesFor fun x => x == WPurpose.savePiece (BitVec.toNat (15 : BitVec 4))) = false
    ∧ (swpf.blk.part (BitVec.toNat (15 : BitVec 4))).waiting = [0]
    ∧ (swpf.blk.part (BitVec.toNat (15 : BitVec 4))).pieces[0]? = some pc0
    ∧ pc0.sent = false
    ∧ (swpf.blk.pbead pc0.bead).state ≠ BState.disabled
    ∧ (swpf.blk.pbead pc0.bead).state ≠ BState.fenced
    ∧ (¬(Block.laneOpen swpf.params swpf.blk pc0.bead = true ∧ Block.roomDown swpf.params swpf.blk pc0.bead
        = true) ∨ swpf.blk.freeWin pc0.bead = none)
    -- 7
    ∧ ((swi id).blk.part (BitVec.toNat (15 : BitVec 4))).idle = false
    ∧ (swi id).blk.partIdle (BitVec.toNat (15 : BitVec 4)) = true
    ∧ ((swi id).blk.part (BitVec.toNat (15 : BitVec 4))).idlePeriods.sum / ((swi id).blk.part (BitVec.toNat (15 : BitVec 4))).idlePeriods.length < 2 ^ 40
    -- 8
    ∧ (swj.blk.part (BitVec.toNat (15 : BitVec 4))).idle = true
    ∧ swj.blk.partIdle (BitVec.toNat (15 : BitVec 4)) = false := by
  refine ⟨?_, ?_, ?_, ?_, ?_, ?_, ?_, ?_, ?_, ?_, ?_, ?_, ?_, ?_, ?_, ?_, ?_, ?_, ?_, ?_, ?_, ?_, ?_, ?_, ?_,
    ?_, ?_, ?_, ?_, ?_, ?_, ?_, ?_, ?_, ?_, ?_, ?_, ?_, ?_, ?_, ?_, ?_, ?_, ?_, ?_, ?_, ?_, ?_, ?_, ?_, ?_,
    ?_, ?_, ?_, ?_, ?_, ?_, ?_, ?_, ?_, ?_, ?_, ?_, ?_, ?_, ?_, ?_, ?_, ?_, ?_, ?_, ?_, ?_, ?_, ?_, ?_, ?_,
    ?_, ?_, ?_, ?_, ?_, ?_, ?_, ?_, ?_, ?_, ?_, ?_⟩ <;>
    first | decide +kernel | exact chosen_of (by decide +kernel)
def bcte_1r3 : State := bd fun x => { x with state := .disabled }
def bcte_2 : State := bd fun x => { x with state := .stopping }
def bcte_3a : State := bd fun x => { x with fence := 1 }
def bcte_3b : MemView := {}
def bcte_3r2 : MemView := {}
theorem witness_BeadCommandsTakeEffect :
    -- 1.7
    Performs S2 A0 (Reg.partBead 15) true
    ∧ 15 < S2.params.nBeads
    ∧ ((0 : BitVec 3) = (0 : BitVec 3) ∨ 4 ≤ BitVec.toNat (0 : BitVec 3))
    -- 1
    ∧ Performs (bdf S2) A0 (Reg.partBead 15) true
    ∧ 15 < (bdf S2).params.nBeads
    ∧ ((bdf S2).blk.pbead 15).state ≠ BState.disabled
    ∧ ((bdf S2).blk.pbead 15).state = BState.enabled
    ∧ (((bdf S2).blk.pbead 15).state = BState.enabled ∨ ((bdf S2).blk.pbead 15).state = BState.stopping)
    -- 1
    ∧ Performs bdg A0 (Reg.partBead 15) true
    ∧ 15 < bdg.params.nBeads
    ∧ ((bdg.blk.pbead 15).state = BState.enabled ∨ (bdg.blk.pbead 15).state = BState.stopping)
    ∧ bdg.blk.graph.subs = []
    -- 1
    ∧ Performs bcte_1r3 A0 (Reg.partBead 15) true
    ∧ 15 < bcte_1r3.params.nBeads
    ∧ (bcte_1r3.blk.pbead 15).state = BState.disabled
    ∧ (bcte_1r3.blk.pbead 15).state ≠ BState.enabled
    ∧ (bcte_1r3.blk.pbead 15).state ≠ BState.enabled
    ∧ (bcte_1r3.blk.pbead 15).state ≠ BState.stopping
    -- 2
    ∧ bcte_2.blk.beadHolds 15 = false
    ∧ ((bcte_2.blk.pbead 15).state = BState.stopping ∨ (bcte_2.blk.pbead 15).state = BState.forcing
        ∧ (bcte_2.blk.pbead 15).resets = [])
    -- 3
    ∧ Performs bcte_3a A0 (Reg.pwrFence 15) true
    ∧ (bcte_3a.blk.pbead 15).fence ≠ 0
    -- 3
    ∧ Performs (bdf S2) A0 (Reg.pwrFence 15) true
    ∧ ((bdf S2).blk.pbead 15).fence = 0
    -- 4
    ∧ Performs S2 A0 (Reg.bdErr 15) true := by
  refine ⟨?_, ?_, ?_, ?_, ?_, ?_, ?_, ?_, ?_, ?_, ?_, ?_, ?_, ?_, ?_, ?_, ?_, ?_, ?_, ?_, ?_, ?_, ?_, ?_, ?_⟩ <;>
    first | decide +kernel | (unfold Performs; decide +kernel)
def ttwkir_1r2 : State := te fun t => { t with tail := 1024, head := 0 }
def ttwkir_1r3 : State := te fun t => { t with tail := 1023, head := 0, loss := some ⟨3, 1, 2⟩ }
def ttwkir_1r4 : State := te fun t => { t with loss := some ⟨3, 1, 2⟩ }
def ttwkir_1r5 : State := tr fun t => { t with queue := [tevL, tev], tail := 1021, head := 1000 }
def ttwkir_2 : State := tr fun t => { t with loss := some ⟨3, 1, 2⟩ }
def ttwkir_2r2 : State := tr fun t => { t with loss := some ⟨3, 1, 2⟩, tail := 1023 }
def ttwkir_6 : State := tr fun t => { t with tail := 1024, head := 0, loss := some ⟨3, 1, 2⟩ }
def ttwkir_6r2 : State := tr fun t => { t with tail := 1024, head := 0, loss := some ⟨3, 1, 2⟩ }
def ttwkir_3r2 : State := td fun t => { t with unacked := [⟨0, 2, 2, false⟩] }
def ttwkir_3r3 : State := td fun t => { t with tail := 1024 }
def ttwkir_4r2 : State := tr fun t => { t with state := .stopped }
def ttwkir_4r3 : State := tr fun t => { t with unacked := [⟨0, 2, 2, false⟩] }
def ttwkir_4_9 : State := tr fun t => { t with state := .triggered }
def ttwkir_6r3 : State := tr fun t => { t with tail := 5, head := 2 }
theorem witness_TheTraceWriterKeepsItsRing :
    -- 1
    (te id).blk.trace.trigDue = none
    ∧ (te id).blk.trace.queue = [tev, tev]
    ∧ (te id).blk.trace.loss = none
    ∧ ((if (te id).blk.trace.state = TrState.armed ∧ bit (te id).blk.trace.trig tev.cls
        = true then { state := TrState.triggered, addr := (te id).blk.trace.addr, nu := (te id).blk.trace.nu, post := (te id).blk.trace.post, rej := (te id).blk.trace.rej, head := (te id).blk.trace.head, tail := (te id).blk.trace.tail, unacked := (te id).blk.trace.unacked, trigPos := (te id).blk.trace.trigPos, fired := true, trigDue := (te id).blk.trace.trigDue, lost := (te id).blk.trace.lost, loss := (te id).blk.trace.loss, mask := (te id).blk.trace.mask, trig := (te id).blk.trace.trig, progSel := (te id).blk.trace.progSel, queue := (te id).blk.trace.queue : Trace } else (te id).blk.trace).fits (recUnits tev.words) = true)
    ∧ (te id).blk.trace.pad (recUnits tev.words) = 0
    ∧ (te id).blk.trace.loss = none
    ∧ ((if (te id).blk.trace.state = TrState.armed ∧ bit (te id).blk.trace.trig tev.cls
        = true then { state := TrState.triggered, addr := (te id).blk.trace.addr, nu := (te id).blk.trace.nu, post := (te id).blk.trace.post, rej := (te id).blk.trace.rej, head := (te id).blk.trace.head, tail := (te id).blk.trace.tail, unacked := (te id).blk.trace.unacked, trigPos := (te id).blk.trace.trigPos, fired := true, trigDue := (te id).blk.trace.trigDue, lost := (te id).blk.trace.lost, loss := (te id).blk.trace.loss, mask := (te id).blk.trace.mask, trig := (te id).blk.trace.trig, progSel := (te id).blk.trace.progSel, queue := (te id).blk.trace.queue : Trace } else (te id).blk.trace).fits (recUnits tev.words) = true)
    ∧ (¬((te id).blk.trace.state = TrState.armed ∧ bit (te id).blk.trace.trig tev.cls = true))
    ∧ (¬((te id).blk.trace.state = TrState.armed ∧ bit (te id).blk.trace.trig tev.cls = true))
    -- 1
    ∧ ttwkir_1r2.blk.trace.trigDue = none
    ∧ ttwkir_1r2.blk.trace.queue = [tev, tev]
    ∧ (¬(ttwkir_1r2.blk.trace.state = TrState.armed ∧ bit ttwkir_1r2.blk.trace.trig tev.cls = true))
    ∧ ttwkir_1r2.blk.trace.fits (recUnits tev.words) = false
    ∧ (¬(ttwkir_1r2.blk.trace.state = TrState.armed ∧ bit ttwkir_1r2.blk.trace.trig tev.cls = true))
    ∧ ttwkir_1r2.blk.trace.fits (recUnits tev.words) = false
    ∧ ttwkir_1r2.blk.trace.fits 2 = false
    ∧ ttwkir_1r2.blk.trace.loss = none
    -- 1
    ∧ ttwkir_1r3.blk.trace.trigDue = none
    ∧ ttwkir_1r3.blk.trace.queue = [tev, tev]
    ∧ ttwkir_1r3.blk.trace.loss.isSome = true
    ∧ (¬(ttwkir_1r3.blk.trace.state = TrState.armed ∧ bit ttwkir_1r3.blk.trace.trig tev.cls = true))
    ∧ ttwkir_1r3.blk.trace.fits 2 = false
    ∧ ttwkir_1r3.blk.trace.loss.isSome = true
    ∧ (¬(ttwkir_1r3.blk.trace.state = TrState.armed ∧ bit ttwkir_1r3.blk.trace.trig tev.cls = true))
    -- 1
    ∧ ttwkir_1r4.blk.trace.trigDue = none
    ∧ ttwkir_1r4.blk.trace.queue = [tev, tev]
    ∧ ttwkir_1r4.blk.trace.loss.isSome = true
    ∧ (¬(ttwkir_1r4.blk.trace.state = TrState.armed ∧ bit ttwkir_1r4.blk.trace.trig tev.cls = true))
    ∧ ttwkir_1r4.blk.trace.fits 2 = true
    ∧ ttwkir_1r4.blk.trace.pad 2 = 0
    -- 1
    ∧ ttwkir_1r5.blk.trace.trigDue = none
    ∧ ttwkir_1r5.blk.trace.queue = [tevL, tev]
    ∧ ttwkir_1r5.blk.trace.loss = none
    ∧ ((if ttwkir_1r5.blk.trace.state = TrState.armed ∧ bit ttwkir_1r5.blk.trace.trig tevL.cls
        = true then { state := TrState.triggered, addr := ttwkir_1r5.blk.trace.addr, nu := ttwkir_1r5.blk.trace.nu, post := ttwkir_1r5.blk.trace.post, rej := ttwkir_1r5.blk.trace.rej, head := ttwkir_1r5.blk.trace.head, tail := ttwkir_1r5.blk.trace.tail, unacked := ttwkir_1r5.blk.trace.unacked, trigPos := ttwkir_1r5.blk.trace.trigPos, fired := true, trigDue := ttwkir_1r5.blk.trace.trigDue, lost := ttwkir_1r5.blk.trace.lost, loss := ttwkir_1r5.blk.trace.loss, mask := ttwkir_1r5.blk.trace.mask, trig := ttwkir_1r5.blk.trace.trig, progSel := ttwkir_1r5.blk.trace.progSel, queue := ttwkir_1r5.blk.trace.queue : Trace } else ttwkir_1r5.blk.trace).fits (recUnits tevL.words) = true)
    ∧ ttwkir_1r5.blk.trace.pad (recUnits tevL.words) ≠ 0
    -- 1
    ∧ teL.blk.trace.trigDue = none
    ∧ teL.blk.trace.queue = [tevL, tev]
    ∧ (¬(teL.blk.trace.state = TrState.armed ∧ bit teL.blk.trace.trig tevL.cls = true))
    ∧ teL.blk.trace.fits (recUnits tevL.words) = false
    ∧ teL.blk.trace.fits 2 = true
    ∧ teL.blk.trace.pad 2 = 0
    ∧ teL.blk.trace.loss = none
    -- 2
    ∧ (ttwkir_2.blk.trace.queue = [] ∨ ttwkir_2.blk.trace.trigDue.isSome = true)
    ∧ ttwkir_2.blk.trace.trigDue = none
    ∧ ttwkir_2.blk.trace.loss.isSome = true
    ∧ ttwkir_2.blk.trace.fits 2 = true
    ∧ ttwkir_2.blk.trace.pad 2 = 0
    -- 2
    ∧ (ttwkir_2r2.blk.trace.queue = [] ∨ ttwkir_2r2.blk.trace.trigDue.isSome = true)
    ∧ ttwkir_2r2.blk.trace.trigDue = none
    ∧ (ttwkir_2r2.blk.trace.loss = none ∨ ttwkir_2r2.blk.trace.fits 2 = false)
    -- 6
    ∧ Performs ttwkir_6 A0 Reg.trcHead true
    ∧ (BitVec.toNat (1 : BitVec 32) < 2 * ttwkir_6.blk.trace.nu
        ∧ ttwkir_6.blk.trace.between ttwkir_6.blk.trace.tail (BitVec.toNat (1 : BitVec 32)) ≤ ttwkir_6.blk.trace.nu)
    ∧ (ttwkir_6.blk.trace.loss
        = none ∨ { state := ttwkir_6.blk.trace.state, addr := ttwkir_6.blk.trace.addr, nu := ttwkir_6.blk.trace.nu, post := ttwkir_6.blk.trace.post, rej := ttwkir_6.blk.trace.rej, head := BitVec.toNat (1 : BitVec 32), tail := ttwkir_6.blk.trace.tail, unacked := ttwkir_6.blk.trace.unacked, trigPos := ttwkir_6.blk.trace.trigPos, fired := ttwkir_6.blk.trace.fired, trigDue := ttwkir_6.blk.trace.trigDue, lost := ttwkir_6.blk.trace.lost, loss := ttwkir_6.blk.trace.loss, mask := ttwkir_6.blk.trace.mask, trig := ttwkir_6.blk.trace.trig, progSel := ttwkir_6.blk.trace.progSel, queue := ttwkir_6.blk.trace.queue : Trace }.fits 2 = false)
    ∧ ttwkir_6.blk.trace.loss.isSome = true
    ∧ (BitVec.toNat (1 : BitVec 32) < 2 * ttwkir_6.blk.trace.nu
        ∧ ttwkir_6.blk.trace.between ttwkir_6.blk.trace.tail (BitVec.toNat (1 : BitVec 32)) ≤ ttwkir_6.blk.trace.nu)
    -- 6
    ∧ Performs ttwkir_6r2 A0 Reg.trcHead true
    ∧ ttwkir_6r2.blk.trace.loss.isSome = true
    ∧ (BitVec.toNat (66 : BitVec 32) < 2 * ttwkir_6r2.blk.trace.nu
        ∧ ttwkir_6r2.blk.trace.between ttwkir_6r2.blk.trace.tail (BitVec.toNat (66 : BitVec 32)) ≤ ttwkir_6r2.blk.trace.nu)
    ∧ { state := ttwkir_6r2.blk.trace.state, addr := ttwkir_6r2.blk.trace.addr, nu := ttwkir_6r2.blk.trace.nu, post := ttwkir_6r2.blk.trace.post, rej := ttwkir_6r2.blk.trace.rej, head := BitVec.toNat (66 : BitVec 32), tail := ttwkir_6r2.blk.trace.tail, unacked := ttwkir_6r2.blk.trace.unacked, trigPos := ttwkir_6r2.blk.trace.trigPos, fired := ttwkir_6r2.blk.trace.fired, trigDue := ttwkir_6r2.blk.trace.trigDue, lost := ttwkir_6r2.blk.trace.lost, loss := ttwkir_6r2.blk.trace.loss, mask := ttwkir_6r2.blk.trace.mask, trig := ttwkir_6r2.blk.trace.trig, progSel := ttwkir_6r2.blk.trace.progSel, queue := ttwkir_6r2.blk.trace.queue : Trace }.fits 2 = true
    ∧ ttwkir_6r2.blk.trace.pad 2 = 0
    -- 3
    ∧ (td id).blk.trace.trigDue = some (1, 3, (77 : Word))
    ∧ (td id).blk.trace.loss = none
    ∧ (td id).blk.trace.unacked = []
    ∧ (td id).blk.trace.fits 1 = true
    ∧ (td id).blk.trace.unacked = []
    -- 3
    ∧ ttwkir_3r2.blk.trace.trigDue = some (1, 3, (77 : Word))
    ∧ ttwkir_3r2.blk.trace.loss = none
    ∧ ttwkir_3r2.blk.trace.unacked ≠ []
    -- 3
    ∧ ttwkir_3r3.blk.trace.trigDue = some (1, 3, (77 : Word))
    ∧ ttwkir_3r3.blk.trace.loss = none
    ∧ ttwkir_3r3.blk.trace.unacked = []
    ∧ ttwkir_3r3.blk.trace.fits 1 = false
    ∧ ttwkir_3r3.blk.trace.queue.length < 64
    -- 4
    ∧ Performs (tr id) A0 Reg.trcCmd true
    ∧ (tr id).blk.trace.state ≠ TrState.stopped
    ∧ ((tr id).blk.trace.state = TrState.armed ∨ (tr id).blk.trace.state = TrState.triggered)
    ∧ (tr id).blk.trace.state = TrState.armed
    ∧ (tr id).blk.trace.loss = none
    ∧ (tr id).blk.trace.state = TrState.armed
    ∧ (tr id).blk.trace.loss = none
    ∧ (tr id).blk.trace.unacked = []
    ∧ { state := (tr id).blk.trace.state, addr := (tr id).blk.trace.addr, nu := (tr id).blk.trace.nu, post := (tr id).blk.trace.post, rej := (tr id).blk.trace.rej, head := (tr id).blk.trace.head, tail := (tr id).blk.trace.tail, unacked := (tr id).blk.trace.unacked, trigPos := (tr id).blk.trace.trigPos, fired := true, trigDue := (tr id).blk.trace.trigDue, lost := (tr id).blk.trace.lost, loss := (tr id).blk.trace.loss, mask := (tr id).blk.trace.mask, trig := (tr id).blk.trace.trig, progSel := (tr id).blk.trace.progSel, queue := (tr id).blk.trace.queue : Trace }.fits 1 = true
    -- 4
    ∧ Performs ttwkir_4r2 A0 Reg.trcCmd true
    ∧ ttwkir_4r2.blk.trace.state = TrState.stopped
    ∧ ttwkir_4r2.blk.trace.state ≠ TrState.armed
    ∧ ttwkir_4r2.blk.trace.state ≠ TrState.triggered
    ∧ ttwkir_4r2.blk.trace.state ≠ TrState.armed
    -- 4
    ∧ Performs ttwkir_4r3 A0 Reg.trcCmd true
    ∧ ttwkir_4r3.blk.trace.state = TrState.armed
    ∧ ttwkir_4r3.blk.trace.loss = none
    ∧ ttwkir_4r3.blk.trace.unacked ≠ []
    -- 4.9
    ∧ Performs ttwkir_4_9 A0 Reg.trcCmd true
    ∧ ((7 : BitVec 3) = (0 : BitVec 3) ∨ (7 : BitVec 3) = (4 : BitVec 3) ∨ (7 : BitVec 3)
        = (6 : BitVec 3) ∨ (7 : BitVec 3) = (7 : BitVec 3))
    -- 5
    ∧ ((tc (tr id)).blk.node 65535 2).kind = 7
    ∧ privOp (mTC 4) ((tc (tr id)).blk.node 65535 2).record = 5
    ∧ (tc (tr id)).blk.gate 65535 2 = Gate.act
    ∧ EdgesReach (tc (tr id)).params (tc (tr id)).blk (mTC 4) 65535 2
    ∧ bits (recW (mTC 4) ((tc (tr id)).blk.node 65535 2).record 3) 7 0 = 4
    -- 5
    ∧ ((tc (tr id)).blk.node 65535 2).kind = 7
    ∧ privOp (mTC 3) ((tc (tr id)).blk.node 65535 2).record = 5
    ∧ (tc (tr id)).blk.gate 65535 2 = Gate.act
    ∧ EdgesReach (tc (tr id)).params (tc (tr id)).blk (mTC 3) 65535 2
    ∧ bits (recW (mTC 3) ((tc (tr id)).blk.node 65535 2).record 3) 7 0 = 3
    ∧ (tc (tr id)).blk.trace.accepts (bits (recW (mTC 3) ((tc (tr id)).blk.node 65535 2).record 3) 7 0) = true
    ∧ bits (recW (mTC 3) ((tc (tr id)).blk.node 65535 2).record 3) 7 0 ≠ 4
    -- 5
    ∧ ((tc (tr id)).blk.node 65535 2).kind = 7
    ∧ privOp (mTC 2) ((tc (tr id)).blk.node 65535 2).record = 5
    ∧ (tc (tr id)).blk.gate 65535 2 = Gate.act
    ∧ EdgesReach (tc (tr id)).params (tc (tr id)).blk (mTC 2) 65535 2
    ∧ (bits (recW (mTC 2) ((tc (tr id)).blk.node 65535 2).record 3) 7 0
        = 1 ∨ bits (recW (mTC 2) ((tc (tr id)).blk.node 65535 2).record 3) 7 0 = 2)
    ∧ (tc (tr id)).blk.trace.accepts (bits (recW (mTC 2) ((tc (tr id)).blk.node 65535 2).record 3) 7 0) = true
    -- 5
    ∧ ((tc (tr id)).blk.node 65535 2).kind = 7
    ∧ privOp (mTC 1) ((tc (tr id)).blk.node 65535 2).record = 5
    ∧ (tc (tr id)).blk.gate 65535 2 = Gate.act
    ∧ EdgesReach (tc (tr id)).params (tc (tr id)).blk (mTC 1) 65535 2
    ∧ bits (recW (mTC 1) ((tc (tr id)).blk.node 65535 2).record 3) 7 0 ≠ 4
    ∧ (tc (tr id)).blk.trace.accepts (bits (recW (mTC 1) ((tc (tr id)).blk.node 65535 2).record 3) 7 0) = false
    -- 6
    ∧ Performs ttwkir_6r3 A0 Reg.trcHead true
    ∧ (¬(BitVec.toNat (6 : BitVec 32) < 2 * ttwkir_6r3.blk.trace.nu
        ∧ ttwkir_6r3.blk.trace.between ttwkir_6r3.blk.trace.tail (BitVec.toNat (6 : BitVec 32)) ≤ ttwkir_6r3.blk.trace.nu)) := by
  refine ⟨?_, ?_, ?_, ?_, ?_, ?_, ?_, ?_, ?_, ?_, ?_, ?_, ?_, ?_, ?_, ?_, ?_, ?_, ?_, ?_, ?_, ?_, ?_, ?_, ?_,
    ?_, ?_, ?_, ?_, ?_, ?_, ?_, ?_, ?_, ?_, ?_, ?_, ?_, ?_, ?_, ?_, ?_, ?_, ?_, ?_, ?_, ?_, ?_, ?_, ?_, ?_,
    ?_, ?_, ?_, ?_, ?_, ?_, ?_, ?_, ?_, ?_, ?_, ?_, ?_, ?_, ?_, ?_, ?_, ?_, ?_, ?_, ?_, ?_, ?_, ?_, ?_, ?_,
    ?_, ?_, ?_, ?_, ?_, ?_, ?_, ?_, ?_, ?_, ?_, ?_, ?_, ?_, ?_, ?_, ?_, ?_, ?_, ?_, ?_, ?_, ?_, ?_, ?_, ?_,
    ?_, ?_, ?_, ?_, ?_, ?_, ?_, ?_, ?_, ?_, ?_, ?_, ?_, ?_, ?_, ?_⟩ <;>
    (first
      | decide +kernel
      | exact edgesReach_of (by unfold Block.pagerIdle; decide +kernel)
      | (unfold Performs; decide +kernel))
end Switches

namespace Stops
def dbg (f : Debug → Debug) : State := sr fun b => { b with lkt := f b.lkt, now := 5000 }
def stp : State := ondB (dbg fun l => { l with state := .stopped, kind := 2, pmask := -1, epoch := 7, breakV := true }) fun b => (b.modPbead 3 fun x => { x with stop := 2 }).modPart 0 fun x => { x with paused := some 100 }
def stf : State := ondB stp fun b => { b.modLane 7 fun l => { l with clasp := { l.clasp with phase := 2 } } with lkt := { b.lkt with state := .frozen } }
def sti (fr rd : Bool) : State := ondB (dbg fun l => { l with state := .stopping, kind := 2, pmask := -1, freeze := fr, resumeDue := rd }) fun b => (List.range 16).foldl (fun b n => b.modPbead n fun x => { x with stop := 2 }) b
def frz : State := ondB (dbg fun l => { l with state := .stopped, kind := 2, pmask := -1, freeze := true }) fun b => (List.range 8).foldl (fun b n => b.modLane n fun l => { l with snapDone := true, clasp := { l.clasp with phase := 2 } }) b
def bd (f : Bead → Bead) : State := sr fun b => b.modBead 15 f
def wn (f : WinEntry → WinEntry) : State := sr fun b => (subB b 9 id).modWin 15 4095 fun e => f { e with used := true, gen := 7, seg := 9, record := List.replicate 8 0, param := List.replicate 8 0 }
def lt : Latch := { seg := 9, sgen := 3, sums := [(0, 5), (19, 7)] }
def full15 (s : State) : State := ondB s fun b => b.modLane 7 fun l => { l with bead := { l.bead with queue := List.replicate 16 { bits := 6 } } }
def dm (f : Domain → Domain) (d : Nat) : State := sr fun b => b.modDom d f
def goff (d : Nat) : State := dm (fun x => { x with state := .goingOff, req := false, offcnt := 65535 }) d
def gon (d : Nat) : State := ondB (dm (fun x => { x with state := .goingOn, waiting := true }) d) fun b => { b with fences := { b.fences with cmdIndex := 7 }, seq := { b.seq with hwm := 3 }, trace := { b.trace with nu := 7 }, link := { b.link with txq := [⟨[1], 0, 0, .poison⟩], cut := 3 }, saffron := [(15, { pc := 7 })], beads := [(15, { epoch := 7 })] }
def bup : State := dm (fun x => { x with state := .goingOn, up := true }) 38
def ls : State := ondB S2 fun b => { (subB (b.modFence 5 fun f => { f with state := .active, gen := 3 }) 9 fun x => { x with audited := true, nodes := [(1, { used := true, kind := 0, bead := some 15 })] }) with saffron := [(15, { pc := 7 })], beads := [(15, { epoch := 7 })], chans := [(15, { staging := [⟨1, []⟩] })] }
def pw (f : Power → Power) : State := ondB S2 fun b => { b with now := 1005000, power := f b.power }
def hold (s : State) (rep : Bool) : State := ondB s fun b => (b.modPbead 3 fun x => { x with frozen := true, reported := rep }).modPbead 4 fun x => { x with frozen := true, reported := rep, stop := 2 }
def ecB (x : Nat) : State := ondB ls fun b => b.modSub 9 fun s => { s with desc := nopDesc, nodes := [(x, { used := true, kind := 0, resolved := true, record := 0x10080, edges := [3], state := .pending })] }
def mE (w : Word) : MemView := { words := [(0x10080, w), (0x10140, 0x0000000000000000)] }
def mE2 : MemView := { words := [(0x10088, 0x100000000)], errs := [{ base := 0x10000, len := 0x2000, code := 1 }] }
def ecX : State := exS { stage := .running }
def shae_1r2 : State := dbg fun l => { l with state := .stopping }
theorem witness_StopsHoldAndEnd :
    -- 1
    Performs (dbg id) A0 Reg.lktCmd true
    ∧ (dbg id).blk.lkt.state = StopState.run
    ∧ (dbg id).blk.setting.activeBeads.Nodup
    ∧ (dbg id).blk.lkt.state = StopState.run
    ∧ (dbg id).blk.setting.activeBeads.Nodup
    ∧ (dbg id).blk.lkt.state = StopState.run
    -- 1
    ∧ Performs shae_1r2 A0 Reg.lktCmd true
    ∧ shae_1r2.blk.lkt.state ≠ StopState.run
    ∧ shae_1r2.blk.lkt.state ≠ StopState.run
    ∧ shae_1r2.blk.lkt.state = StopState.stopping
    -- 1
    ∧ Performs stp A0 Reg.lktCmd true
    ∧ (stp.blk.lkt.state = StopState.stopped ∨ stp.blk.lkt.state = StopState.frozen)
    ∧ (∀ t ∈ stp.blk.lanes, t.2.frozen = false)
    ∧ (stp.blk.lkt.state = StopState.stopped ∨ stp.blk.lkt.state = StopState.frozen)
    ∧ Tab.wf { : Lane } stp.blk.lanes = true
    -- 1
    ∧ Performs stf A0 Reg.lktCmd true
    ∧ (stf.blk.lkt.state = StopState.stopped ∨ stf.blk.lkt.state = StopState.frozen)
    ∧ Tab.wf { : Lane } stf.blk.lanes = true
    ∧ (∃ t ∈ stf.blk.lanes, t.2.frozen = true)
    -- 2
    ∧ (sti false false).blk.lkt.state = StopState.stopping
    ∧ (sti false false).blk.stopDone = true
    ∧ (sti false false).blk.lkt.resumeDue = false
    ∧ (sti false false).blk.lkt.freeze = false
    -- 2
    ∧ (sti true false).blk.lkt.state = StopState.stopping
    ∧ (sti true false).blk.stopDone = true
    ∧ (sti true false).blk.lkt.resumeDue = false
    ∧ (sti true false).blk.lkt.freeze = true
    -- 3
    ∧ (sti true true).blk.lkt.state = StopState.stopping
    ∧ (sti true true).blk.stopDone = true
    ∧ (sti true true).blk.lkt.resumeDue = true
    ∧ (∀ t ∈ (sti true true).blk.lanes, t.2.frozen = false)
    -- 4
    ∧ (S2.blk.lkt.state ≠ StopState.stopping ∨ S2.blk.stopDone = false)
    -- 5
    ∧ (frz.blk.lkt.state = StopState.stopped ∧ frz.blk.lkt.freeze = true
        ∧ (∀ l ∈ Block.activeLanes frz.params frz.blk, (frz.blk.lane l).clasp.phase = 2
        ∧ (frz.blk.lane l).snapDone = true) ∧ (frz.blk.mp.writesFor fun x => x == WPurpose.dump) = false)
    -- 5
    ∧ (¬(S2.blk.lkt.state = StopState.stopped ∧ S2.blk.lkt.freeze = true
        ∧ (∀ l ∈ Block.activeLanes S2.params S2.blk, (S2.blk.lane l).clasp.phase = 2
        ∧ (S2.blk.lane l).snapDone = true) ∧ (S2.blk.mp.writesFor fun x => x == WPurpose.dump) = false)) := by
  refine ⟨?_, ?_, ?_, ?_, ?_, ?_, ?_, ?_, ?_, ?_, ?_, ?_, ?_, ?_, ?_, ?_, ?_, ?_, ?_, ?_, ?_, ?_, ?_, ?_, ?_,
    ?_, ?_, ?_, ?_, ?_, ?_, ?_, ?_, ?_⟩ <;>
    first | decide +kernel | (unfold Performs; decide +kernel)
def bsar_2a : State := onDn 15 (ctlRec S2.params 15 2 0) (wn fun e => { e with brk := true, brkHeld := true, brkReported := true, state := .wready })
def bsar_2b : Block := rD 15 (ctlRec S2.params 15 2 0) (onDn 15 (ctlRec S2.params 15 2 0) (wn fun e => { e with brk := true, brkHeld := true, brkReported := true, state := .wready }))
def bsar_3a : State := onDn 15 (ctlRec S2.params 15 4 0) (ondB (wn id) fun b => b.modSlot 15 39 fun x => { x with held := [⟨5, none⟩] })
def bsar_3b : Block := rD 15 (ctlRec S2.params 15 4 0) (onDn 15 (ctlRec S2.params 15 4 0) (ondB (wn id) fun b => b.modSlot 15 39 fun x => { x with held := [⟨5, none⟩] }))
def bsar_4 : State := wn fun e => { e with brk := true, state := .wready }
def bsar_5 : State := ondB (wn fun e => { e with brk := true, brkHeld := true, state := .wready }) fun b => b.modBead 15 fun d => { d with mode := .stopping }
def bsar_7_1 : State := bd fun d => { d with latches := [lt], retCount := [(9, 4)] }
def bsar_7_2 : State := bd fun d => { d with overflow := [9, 8], retCount := [(9, 4)] }
def bsar_6 : State := full15 (bd fun d => { d with overflow := [9, 8], retCount := [(9, 4)] })
theorem witness_BeadsStopAndReport :
    -- 1
    ActsAtBead (onDn 15 (ctlRec S2.params 15 1 4294967295) S2).params (onDn 15 (ctlRec S2.params 15 1 4294967295) S2).blk 15 (ctlRec (onDn 15 (ctlRec S2.params 15 1 4294967295) S2).params 15 1 (-1 : BitVec 32).toNat) (rD 15 (ctlRec S2.params 15 1 4294967295) (onDn 15 (ctlRec S2.params 15 1 4294967295) S2))
    -- 2
    ∧ ActsAtBead bsar_2a.params bsar_2a.blk 15 (ctlRec bsar_2a.params 15 2 0) bsar_2b
    -- 3
    ∧ ActsAtBead bsar_3a.params bsar_3a.blk 15 (ctlRec bsar_3a.params 15 4 0) bsar_3b
    -- 4
    ∧ (bsar_4.blk.win 15 (-1 : BitVec 12).toNat).used = true
    ∧ (bsar_4.blk.win 15 (-1 : BitVec 12).toNat).state = WinState.wready
    ∧ (bsar_4.blk.win 15 (-1 : BitVec 12).toNat).broken = true
    ∧ (bsar_4.blk.win 15 (-1 : BitVec 12).toNat).brkHeld = false
    ∧ (bsar_4.blk.bead 15).fencedOff = false
    -- 5
    ∧ (bsar_5.blk.bead 15).mode = StopMode.stopping
    ∧ (bsar_5.blk.bead 15).fencedOff = false
    ∧ bsar_5.blk.beadQuiet 15 = true
    ∧ (bsar_5.blk.bead 15).drained = true
    ∧ Block.roomUp bsar_5.params bsar_5.blk 15 = true
    -- 7.1
    ∧ (bsar_7_1.blk.bead 15).latchDone 9 = true
    ∧ (bsar_7_1.blk.bead 15).fencedOff = false
    ∧ Block.roomUp bsar_7_1.params bsar_7_1.blk 15 = true
    ∧ List.find? (fun x => x.seg == 9) (bsar_7_1.blk.bead 15).latches = some lt
    -- 7.2
    ∧ (bsar_7_2.blk.bead 15).latchDone 9 = true
    ∧ (bsar_7_2.blk.bead 15).fencedOff = false
    ∧ Block.roomUp bsar_7_2.params bsar_7_2.blk 15 = true
    ∧ List.find? (fun x => x.seg == 9) (bsar_7_2.blk.bead 15).latches = none
    ∧ (bsar_7_2.blk.bead 15).overflow.contains 9 = true
    -- 6
    ∧ Block.roomUp bsar_6.params bsar_6.blk 15 = false := by
  refine ⟨?_, ?_, ?_, ?_, ?_, ?_, ?_, ?_, ?_, ?_, ?_, ?_, ?_, ?_, ?_, ?_, ?_, ?_, ?_, ?_, ?_, ?_, ?_⟩ <;>
    first | decide +kernel | (unfold ActsAtBead; decide +kernel)
def dsar_1r2 : State := dm (fun d => { d with state := .off, req := false }) 39
def dsar_1r3 : State := dm (fun d => { d with state := .off, req := false }) 38
def dsar_6 : MemView := {}
def dsar_6r2 : MemView := {}
def dsar_6r3 : MemView := {}
def dsar_6r4 : MemView := {}
def dsar_6r5 : MemView := {}
def dsar_6r6 : MemView := {}
def dsar_6r7 : MemView := {}
def dsar_6r8 : MemView := {}
def dsar_6r9 : MemView := {}
def dsar_6r10a : State := ondB ls fun b => b.modPbead 15 fun x => { x with fence := 2, state := .fenced }
def dsar_6r10b : MemView := {}
theorem witness_DomainsSwitchAndReturn :
    -- 1
    Performs S2 A0 Reg.pwrDomCmd true
    ∧ domains S2.params ≤ 40
    -- 1
    ∧ Performs dsar_1r2 A0 Reg.pwrDomCmd true
    ∧ 39 < domains dsar_1r2.params
    ∧ dsar_1r2.blk.onOk 39 = true
    ∧ 39 < domains dsar_1r2.params
    ∧ 39 < domains dsar_1r2.params
    ∧ 39 < domains dsar_1r2.params
    ∧ ((dsar_1r2.blk.dom 39).state ≠ DState.on ∨ Block.offOk dsar_1r2.params dsar_1r2.blk 39 = false)
    -- 1
    ∧ Performs dsar_1r3 A0 Reg.pwrDomCmd true
    ∧ 39 < domains dsar_1r3.params
    ∧ dsar_1r3.blk.onOk 39 = false
    ∧ 39 < domains dsar_1r3.params
    ∧ (dsar_1r3.blk.dom 39).state = DState.on
    ∧ Block.offOk dsar_1r3.params dsar_1r3.blk 39 = true
    -- 1.6
    ∧ Performs S2 A0 Reg.pwrDomCmd true
    ∧ ((3 : BitVec 2) = (0 : BitVec 2) ∨ (3 : BitVec 2) = (3 : BitVec 2))
    -- 2
    ∧ ((goff 3).blk.dom 3).state = DState.goingOff
    -- 2
    ∧ (S2.blk.dom 3).state ≠ DState.goingOff
    -- 3
    ∧ ((gon 1).blk.dom 1).state = DState.goingOn
    ∧ ((gon 1).blk.dom 1).up = false
    ∧ 1 ≠ 2
    ∧ 1 ≠ 3
    ∧ 1 ≠ 5
    ∧ 1 ≠ 6
    -- 3
    ∧ ((gon 2).blk.dom 2).state = DState.goingOn
    ∧ ((gon 2).blk.dom 2).up = false
    ∧ 2 = 2
    -- 3
    ∧ ((gon 3).blk.dom 3).state = DState.goingOn
    ∧ ((gon 3).blk.dom 3).up = false
    ∧ 3 = 3
    -- 3
    ∧ ((gon 5).blk.dom 5).state = DState.goingOn
    ∧ ((gon 5).blk.dom 5).up = false
    ∧ 5 = 5
    -- 3
    ∧ ((gon 6).blk.dom 6).state = DState.goingOn
    ∧ ((gon 6).blk.dom 6).up = false
    ∧ 6 = 6
    ∧ (gon 6).blk.link.poisons = []
    -- 3
    ∧ ((S2.blk.dom 3).state ≠ DState.goingOn ∨ (S2.blk.dom 3).up = true)
    -- 4
    ∧ (bup.blk.dom (8 + 2 * 15)).up = true
    ∧ tget 0 bup.blk.loader.returns 15 = 0
    -- 5
    ∧ ((S2.blk.dom (8 + 2 * 15)).up = false ∨ tget 0 S2.blk.loader.returns 15 ≠ 0)
    -- 6
    ∧ 40 ≠ 0
    ∧ (domains S2.params ≤ 40 ∨ (S2.blk.dom 40).state ≠ DState.on ∧ (S2.blk.dom 40).up = false)
    ∧ 8 ≤ 40
    -- 6
    ∧ 4 ≠ 0
    ∧ 4 < 8
    -- 6
    ∧ 1 ≠ 0
    ∧ 1 < 8
    ∧ (ls.blk.dom 1).state = DState.on
    -- 6
    ∧ 2 ≠ 0
    ∧ 2 < 8
    ∧ (ls.blk.dom 2).state = DState.on
    ∧ 2 = 2
    ∧ Tab.wf { : Fence } ls.blk.fences.table = true
    -- 6
    ∧ 4 ≠ 0
    ∧ 4 < 8
    ∧ (ls.blk.dom 4).state = DState.on
    ∧ 4 = 4
    -- 6
    ∧ 6 ≠ 0
    ∧ 6 < 8
    ∧ (ls.blk.dom 6).state = DState.on
    ∧ 6 = 6
    -- 6
    ∧ 7 ≠ 0
    ∧ 7 < 8
    ∧ (ls.blk.dom 7).state = DState.on
    ∧ 7 = 7
    -- 6
    ∧ 38 ≠ 0
    ∧ 8 ≤ 38
    ∧ 38 < domains ls.params
    ∧ (ls.blk.dom 38).state = DState.on
    ∧ 38 % 2 = 0
    ∧ (ls.blk.pbead ((38 - 8) / 2)).fence = 0
    ∧ bit ls.blk.power.eccLog 63 = false
    -- 6
    ∧ 39 ≠ 0
    ∧ 8 ≤ 39
    ∧ 39 < domains ls.params
    ∧ (ls.blk.dom 39).state = DState.on
    ∧ 39 % 2 = 1
    -- 6
    ∧ 38 ≠ 0
    ∧ 8 ≤ 38
    ∧ 38 < domains dsar_6r10a.params
    ∧ (dsar_6r10a.blk.dom 38).state = DState.on
    ∧ (dsar_6r10a.blk.pbead ((38 - 8) / 2)).fence ≠ 0 := by
  refine ⟨?_, ?_, ?_, ?_, ?_, ?_, ?_, ?_, ?_, ?_, ?_, ?_, ?_, ?_, ?_, ?_, ?_, ?_, ?_, ?_, ?_, ?_, ?_, ?_, ?_,
    ?_, ?_, ?_, ?_, ?_, ?_, ?_, ?_, ?_, ?_, ?_, ?_, ?_, ?_, ?_, ?_, ?_, ?_, ?_, ?_, ?_, ?_, ?_, ?_, ?_, ?_,
    ?_, ?_, ?_, ?_, ?_, ?_, ?_, ?_, ?_, ?_, ?_, ?_, ?_, ?_, ?_, ?_, ?_, ?_, ?_, ?_, ?_, ?_, ?_, ?_, ?_, ?_,
    ?_, ?_, ?_, ?_, ?_, ?_, ?_⟩ <;>
    first | decide +kernel | (unfold Performs; decide +kernel)
def swar_1_1 : State := pw fun p => { p with warnIn := true }
def swar_1_2 : State := pw fun p => { p with warn := .frozen }
def swar_1_5 : State := hold (pw fun p => { p with warn := .freezing }) true
def swar_1_7 : State := pw fun p => { p with warnIn := true }
def swar_1_8 : State := hold (pw fun p => { p with warnIn := true, warn := .freezing, t0 := 5000 }) false
def swar_1_9 : State := hold (pw fun p => { p with warnIn := true, warn := .frozen, t0 := 5000 }) true
def swar_1_10 : State := hold (pw fun p => { p with warn := .resuming, t0 := 5000, warnIn := true }) true
def swar_1_11 : State := pw fun p => { p with warn := .freezing, t0 := 5000, warnIn := true }
def swar_1_11r2 : State := pw fun p => { p with warn := .freezing, t0 := 5001, warnIn := true }
def swar_2 : State := ondB S2 fun b => { b with inReset := true }
theorem witness_SupplyWarningsAndRelease :
    -- 1.1
    swar_1_1.blk.power.warnIn = true
    -- 1.2
    ∧ swar_1_2.blk.power.warnIn = false
    ∧ (swar_1_2.blk.inReset = true ∨ swar_1_2.blk.power.warn ≠ WState.normal)
    -- 1.3
    ∧ (pw id).blk.power.warnIn = false
    ∧ (pw id).blk.inReset = false
    ∧ (pw id).blk.power.warn = WState.normal
    -- 1.4
    ∧ ((pw id).blk.allReported = false ∨ (pw id).blk.power.warn = WState.normal ∨ (pw id).blk.power.warn
        = WState.frozen)
    -- 1.5
    ∧ swar_1_5.blk.allReported = true
    ∧ swar_1_5.blk.power.warn = WState.freezing
    -- 1.6
    ∧ (pw id).blk.power.warnIn = false
    -- 1.7
    ∧ swar_1_7.blk.power.warnIn = true
    ∧ swar_1_7.blk.power.freezes = false
    -- 1.8
    ∧ swar_1_8.blk.power.warnIn = true
    ∧ swar_1_8.blk.power.freezes = true
    ∧ swar_1_8.blk.allReported = false
    -- 1.9
    ∧ swar_1_9.blk.allReported = true
    ∧ (Instr.supplyWarnFall = Instr.supplyWarnFall ∧ swar_1_9.blk.power.warnIn = true
        ∧ swar_1_9.blk.power.freezes = true ∨ Instr.supplyWarnFall = Instr.supplyFrozen
        ∧ swar_1_9.blk.power.warnIn = false ∧ swar_1_9.blk.power.warn = WState.resuming)
    -- 1.10
    ∧ swar_1_10.blk.allReported = true
    ∧ swar_1_10.blk.power.warn = WState.resuming
    ∧ swar_1_10.blk.power.warnIn = true
    -- 1.11
    ∧ (swar_1_11.blk.power.freezes = true ∧ swar_1_11.blk.power.warnIn = true ∧ swar_1_11.blk.power.expired
        = false ∧ swar_1_11.blk.power.t0 + swar_1_11.blk.power.holdUs.toNat * 1000 ≤ swar_1_11.blk.now)
    -- 1.11
    ∧ (¬(swar_1_11r2.blk.power.freezes = true ∧ swar_1_11r2.blk.power.warnIn = true
        ∧ swar_1_11r2.blk.power.expired = false
        ∧ swar_1_11r2.blk.power.t0 + swar_1_11r2.blk.power.holdUs.toNat * 1000 ≤ swar_1_11r2.blk.now))
    -- 2
    ∧ swar_2.blk.inReset = true
    ∧ swar_2.blk.power.warnIn = false
    -- 3
    ∧ S0.blk.inReset = false := by
  refine ⟨?_, ?_, ?_, ?_, ?_, ?_, ?_, ?_, ?_, ?_, ?_, ?_, ?_, ?_, ?_, ?_, ?_, ?_, ?_, ?_, ?_, ?_, ?_, ?_, ?_⟩ <;>
    first | decide +kernel
def aetto_1r2 : State := pw fun p => { p with corrEv := false }
def aetto_2 : MemView := {}
def aetto_2r2 : MemView := {}
def aetto_2r3a : State := pw fun p => { p with eccLog := 0x8000000000000007 }
def aetto_2r3b : MemView := {}
def aetto_3 : MemView := {}
def aetto_2r4 : MemView := {}
theorem witness_ArrayErrorsTakeTheirOutcome :
    -- 1
    S2.blk.inReset = false
    ∧ S2.blk.power.corrEv = true
    -- 1
    ∧ aetto_1r2.blk.inReset = false
    ∧ aetto_1r2.blk.power.corrEv = false
    -- 2
    ∧ S2.blk.inReset = false
    ∧ 63 < 64
    ∧ bit S2.blk.power.eccLog 63 = false
    ∧ 63 = 63
    ∧ EccHeld.none = EccHeld.none
    ∧ (1 : BitVec 8) ≠ (20 : BitVec 8)
    -- 2
    ∧ S2.blk.inReset = false
    ∧ 15 < 64
    ∧ EccHeld.none = EccHeld.none
    ∧ (19 : BitVec 8) ≠ (20 : BitVec 8)
    ∧ 15 ≠ 63
    -- 2
    ∧ aetto_2r3a.blk.inReset = false
    ∧ 15 < 64
    ∧ bit aetto_2r3a.blk.power.eccLog 63 = true
    -- 3
    ∧ ls.blk.inReset = false
    ∧ (ls.blk.sub 9).live = true
    ∧ (ls.blk.sub 9).abandoned = none
    ∧ (ls.blk.node 9 1).used = true
    ∧ (ls.blk.node 9 1).state ≠ NodeState.forwarded
    ∧ (ls.blk.node 9 1).spilled = false
    -- 4
    ∧ (ecB 1).blk.inReset = false
    ∧ ((ecB 1).blk.sub 9).live = true
    ∧ ((ecB 1).blk.sub 9).abandoned = none
    ∧ (ecB 1).blk.over 9 = false
    ∧ ((ecB 1).blk.node 9 1).used = true
    ∧ ((ecB 1).blk.node 9 1).resolved = true
    ∧ ((ecB 1).blk.node 9 1).spilled = false
    ∧ 1 < ((ecB 1).blk.sub 9).nnodes
    ∧ (readSuccs (ecB 1).blk (mE (0 : Word)) 9 1).status = Status.ok
    ∧ 1 < ((ecB 1).blk.sub 9).nnodes
    -- 4
    ∧ (ecB 1).blk.inReset = false
    ∧ ((ecB 1).blk.sub 9).live = true
    ∧ ((ecB 1).blk.sub 9).abandoned = none
    ∧ (ecB 1).blk.over 9 = false
    ∧ ((ecB 1).blk.node 9 1).used = true
    ∧ ((ecB 1).blk.node 9 1).resolved = true
    ∧ ((ecB 1).blk.node 9 1).spilled = false
    ∧ 1 < ((ecB 1).blk.sub 9).nnodes
    ∧ (readSuccs (ecB 1).blk mE2 9 1).status ≠ Status.ok
    -- 4
    ∧ (ecB 7).blk.inReset = false
    ∧ ((ecB 7).blk.sub 9).live = true
    ∧ ((ecB 7).blk.sub 9).abandoned = none
    ∧ (ecB 7).blk.over 9 = false
    ∧ ((ecB 7).blk.node 9 7).used = true
    ∧ ((ecB 7).blk.node 9 7).resolved = true
    ∧ ((ecB 7).blk.node 9 7).spilled = false
    ∧ ((ecB 7).blk.sub 9).nnodes ≤ 7
    -- 6
    ∧ Performs ls A0 Reg.pwrEccCtl true
    -- 2
    ∧ ecX.blk.inReset = false
    ∧ 15 < 64
    ∧ (ecX.blk.saf 15).exp.isSome = true
    ∧ (20 : BitVec 8) = (20 : BitVec 8) := by
  refine ⟨?_, ?_, ?_, ?_, ?_, ?_, ?_, ?_, ?_, ?_, ?_, ?_, ?_, ?_, ?_, ?_, ?_, ?_, ?_, ?_, ?_, ?_, ?_, ?_, ?_,
    ?_, ?_, ?_, ?_, ?_, ?_, ?_, ?_, ?_, ?_, ?_, ?_, ?_, ?_, ?_, ?_, ?_, ?_, ?_, ?_, ?_, ?_, ?_, ?_, ?_, ?_,
    ?_, ?_, ?_, ?_, ?_⟩ <;>
    first | decide +kernel | (unfold Performs; decide +kernel)
end Stops

/-! ## A STEP past the range of the created indices -/

def big : State := ondB (nd 5 id) fun b => b.modSub 65535 fun x => { x with nnodes := 0xFFFFFFFE }
def mBig : MemView := { words := [(0x10100, 5), (0x10110, 0x60000), (0x10118, 0x0000000300000005)] }
theorem witness_SequencesJoinBuildAndRetire_range :
    (big.blk.node 65535 2).kind = 5
    ∧ big.blk.gate 65535 2 = .act
    ∧ (big.blk.dom 3).state = .on
    ∧ big.blk.stepActs (big.blk.sub 65535).ctx = false
    ∧ big.blk.stepStands 65535 2 = false
    ∧ big.blk.building = false
    ∧ (big.blk.buildLine = [] ∧ big.blk.seq.cmds = [] ∨ big.blk.buildLine.head? = some (65535, 2, 0))
    ∧ big.blk.stepDirty mBig 65535 2 = false
    ∧ EdgesReach big.params big.blk mBig 65535 2
    ∧ stepRangeBad mBig (big.blk.sub 65535) 2 = true := by
  refine ⟨?_, ?_, ?_, ?_, ?_, ?_, ?_, ?_, edgesReach_of (by unfold Block.pagerIdle; decide +kernel), ?_⟩
  case refine_9 =>
    have h : (big.blk.sub 65535).nnodes = 0xFFFFFFFE := by decide +kernel
    simp only [stepRangeBad, decide_eq_true_eq, h]
    omega
  all_goals decide +kernel


end Sys2Proof.Tests
end

section
/-! SUPPORT. The registers before the block: each part that the invariant of the front speaks of, and what every
access and every command keeps of it (R10, R42, R112, R456). -/

namespace Sys2Proof.Machine

/-! ### The three parts of the invariant -/

/-- The locked registers' part of `FrontInv`: reserved bits zero (R10), the key words in canonical form. -/
def Keys.Ok (k : Keys) : Prop :=
  k.cfg &&& ~~~keyCfgMask = 0 ∧ k.audPart &&& ~~~audPartMask = 0 ∧ Tab.wf 0 k.hash = true

/-- The target port's part of `FrontInv`: canonical tables, and captures of the sixteen initiators alone (R42). -/
def Tp.Ok (t : Tp) : Prop :=
  Tab.wf none t.captures = true ∧ Tab.wf none t.staged = true
    ∧ t.captures.all (fun c => decide (c.1 < 16)) = true

/-- The debug port's part of `FrontInv`: the Bead segments' tables in canonical form. -/
def Tap.Ok (t : Tap) : Prop :=
  Tab.wf none t.beadReady = true ∧ Tab.wf 0 t.beadData = true ∧ Tab.wf {} t.beadSegs = true

/-- The invariant is the conjunction of its parts. -/
theorem frontInv_iff (s : State) : FrontInv s ↔ s.keys.Ok ∧ s.tp.Ok ∧ s.tap.Ok := by
  unfold FrontInv Keys.Ok Tp.Ok Tap.Ok
  constructor
  · rintro ⟨hcfg, haud, hhash, hcap, hst, hready, hdata, hsegs, hsrc⟩
    exact ⟨⟨hcfg, haud, hhash⟩, ⟨hcap, hst, hsrc⟩, hready, hdata, hsegs⟩
  · rintro ⟨⟨hcfg, haud, hhash⟩, ⟨hcap, hst, hsrc⟩, hready, hdata, hsegs⟩
    exact ⟨hcfg, haud, hhash, hcap, hst, hready, hdata, hsegs, hsrc⟩

/-- At reset no table of the front has an entry. -/
theorem Keys.ok_default : Keys.Ok {} := ⟨rfl, rfl, rfl⟩
theorem Tp.ok_default : Tp.Ok {} := ⟨rfl, rfl, rfl⟩
theorem Tap.ok_default : Tap.Ok {} := ⟨rfl, rfl, rfl⟩

/-! ### The target port's operations -/

section
variable {s : State}

theorem FrontInv.respond (hs : FrontInv s) (e : TpErr) (d : Word) : FrontInv (s.respond e d) := hs

theorem FrontInv.noRegister (hs : FrontInv s) : FrontInv s.noRegister := by
  unfold State.noRegister
  split
  · exact hs.respond _ _
  · exact hs

/-- A staged half that enters or leaves keeps the table canonical. -/
theorem FrontInv.stage (hs : FrontInv s) (k : Nat) (v : Option (BitVec 32)) :
    FrontInv { s with tp := { s.tp with staged := tset none s.tp.staged k v } } := by
  rw [frontInv_iff] at hs ⊢
  obtain ⟨hkeys, ⟨hcap, hst, hsrc⟩, htap⟩ := hs
  exact ⟨hkeys, ⟨hcap, wf_tset _ _ _ hst, hsrc⟩, htap⟩

theorem FrontInv.unstage (hs : FrontInv s) (r : Reg) : FrontInv (s.unstage r) := hs.stage _ _

/-- R42: a capture enters at the number of its initiator, which has four bits. -/
theorem FrontInv.capture (hs : FrontInv s) (a : Acc) (r : Reg) (w : Word) : FrontInv (s.capture a r w) := by
  rw [frontInv_iff] at hs ⊢
  obtain ⟨hkeys, ⟨hcap, hst, hsrc⟩, htap⟩ := hs
  exact ⟨hkeys, ⟨wf_tset _ _ _ hcap, hst, tset_all _ _ _ _ hsrc (by simpa using a.src.isLt)⟩, htap⟩

/-- R10: what a write leaves of a register under a lock has its reserved bits zero. -/
theorem Keys.Ok.write {k : Keys} (h : k.Ok) (r : Reg) (d : Word) : (k.write r d).Ok := by
  have masked (x m : BitVec 32) : x &&& m &&& ~~~m = 0 := by simp [BitVec.and_assoc]
  obtain ⟨hcfg, haud, hhash⟩ := h
  unfold Keys.write
  split
  · split
    · exact ⟨hcfg, haud, hhash⟩
    · exact ⟨hcfg, haud, wf_tset _ _ _ hhash⟩
  · split
    · exact ⟨hcfg, haud, hhash⟩
    · exact ⟨masked _ _, haud, hhash⟩
  · split
    · exact ⟨hcfg, haud, hhash⟩
    · exact ⟨hcfg, masked _ _, hhash⟩
  · exact ⟨hcfg, haud, hhash⟩

theorem FrontInv.regWrite (hs : FrontInv s) (r : Reg) (d : Word) : FrontInv (s.regWrite r d) := by
  rw [frontInv_iff] at hs ⊢
  obtain ⟨hkeys, htp, htap⟩ := hs
  exact ⟨hkeys.write r d, htp, htap⟩

/-- A read that acts, acts on the block alone. -/
theorem FrontInv.readEffect (hs : FrontInv s) (r : Reg) : FrontInv (s.readEffect r).1 := by
  unfold State.readEffect
  split <;> exact hs

/-! ### Accesses -/

/-- Every outcome of an access keeps the invariant, if what it performs does. -/
theorem FrontInv.access (hs : FrontInv s) (a : Acc) (r : Reg) (w : Bool) (f : State → State × Word)
    (hf : FrontInv (f s).1) : FrontInv (s.access a r w f) := by
  obtain h | h | h | ⟨u, h⟩ | h := access_cases s a r w f <;> rw [h]
  · exact hs
  · exact hs.respond _ _
  · exact hs.respond _ _
  · exact hs
  · exact hf.respond _ _

theorem FrontInv.command (hs : FrontInv s) (a : Acc) (r : Reg) (f : Params → Block → Block) :
    FrontInv (s.command a r f) :=
  hs.access a r true _ (hs.unstage r)

theorem FrontInv.readReg (hs : FrontInv s) (a : Acc) (r : Reg) (size64 upper : Bool) :
    FrontInv (s.readReg a r size64 upper) := by
  refine hs.access a r false _ ?_
  dsimp only
  split
  · exact hs
  · split
    · exact (hs.readEffect r).capture a r _
    · exact hs.readEffect r

theorem FrontInv.writeReg (hs : FrontInv s) (a : Acc) (r : Reg) (size64 upper : Bool) (d : Word) :
    FrontInv (s.writeReg a r size64 upper d) := by
  refine hs.access a r true _ ?_
  dsimp only
  split
  · exact (hs.unstage r).regWrite r _
  · split
    · exact hs.stage _ _
    · exact (hs.unstage r).regWrite r _

theorem FrontInv.readAt (hs : FrontInv s) (a : Acc) (off : Nat) (size64 : Bool) :
    FrontInv (s.readAt a off size64) := by
  unfold State.readAt
  split
  · exact hs.noRegister
  · exact hs.readReg a _ _ _

theorem FrontInv.writeAt (hs : FrontInv s) (a : Acc) (off : Nat) (size64 : Bool) (d : Word) :
    FrontInv (s.writeAt a off size64 d) := by
  unfold State.writeAt
  split
  · exact hs.noRegister
  · exact hs.writeReg a _ _ _ _

/-! ### The debug port and the inputs -/

theorem FrontInv.input (hs : FrontInv s) (f : Block → Block) : FrontInv (s.input f) := by
  unfold State.input
  split <;> exact hs

/-- A change of the debug port alone, which keeps its tables canonical. -/
theorem FrontInv.withTap (hs : FrontInv s) {t : Tap} (ht : s.tap.Ok → t.Ok) : FrontInv { s with tap := t } := by
  rw [frontInv_iff] at hs ⊢
  obtain ⟨hkeys, htp, htap⟩ := hs
  exact ⟨hkeys, htp, ht htap⟩

theorem FrontInv.settle (hs : FrontInv s) : FrontInv s.settle := by
  unfold State.settle
  split
  · exact hs
  · dsimp only
    split <;> exact hs

theorem FrontInv.claspUpdate (hs : FrontInv s) (off : Nat) (write : Bool) (d : Word) :
    FrontInv (s.claspUpdate off write d) := by
  unfold State.claspUpdate
  split
  · split <;> exact hs
  · split
    · exact hs
    · split
      · exact hs
      · exact FrontInv.settle hs

theorem FrontInv.beadShift (hs : FrontInv s) (n : Nat) (g : BeadSegment) : FrontInv (s.beadShift n g) := by
  unfold State.beadShift
  split
  · exact hs
  · exact hs.withTap fun ⟨hready, hdata, hsegs⟩ => ⟨hready, hdata, wf_tset _ _ _ hsegs⟩

theorem FrontInv.beadUpdate (hs : FrontInv s) (n ring entry word : Nat) :
    FrontInv (s.beadUpdate n ring entry word) := by
  have ready (v : Option Word) : s.tap.Ok → Tap.Ok { s.tap with beadReady := tset none s.tap.beadReady n v } :=
    fun ⟨hready, hdata, hsegs⟩ => ⟨wf_tset _ _ _ hready, hdata, hsegs⟩
  unfold State.beadUpdate
  split
  · exact hs
  · split
    · exact hs.withTap (ready _)
    · exact hs.withTap (ready _)

theorem FrontInv.claspCapture (hs : FrontInv s) : FrontInv s.claspCapture := by
  have hsettle := hs.settle
  unfold State.claspCapture
  dsimp only
  split <;> exact hsettle

theorem FrontInv.beadCapture (hs : FrontInv s) (n : Nat) : FrontInv (s.beadCapture n) := by
  unfold State.beadCapture
  split
  · exact hs.withTap fun ⟨hready, hdata, hsegs⟩ => ⟨wf_tset _ _ _ hready, wf_tset _ _ _ hdata, hsegs⟩
  · exact hs

/-! ### Commands -/

/-- The outcome of a command, where it answers the state `u`. -/
theorem FrontInv.next {t u : State} (hu : FrontInv u)
    (h : (.next u : Host.Outcome State Fault Refusal) = .next t) : FrontInv t := by
  cases h
  exact hu

/-- A command of the block leaves what stands before the block as it was. -/
theorem FrontInv.nextBlock {t : State} {b : Block} (hs : FrontInv s)
    (h : (.next { s with blk := b } : Host.Outcome State Fault Refusal) = .next t) : FrontInv t :=
  FrontInv.next (u := { s with blk := b }) hs h

/-- R70 to R75: cold reset empties the front but for the debug port (R64). -/
theorem FrontInv.coldReset (hs : FrontInv s) (b : Block) :
    FrontInv { s with tp := {}, keys := {}, blk := b } := by
  rw [frontInv_iff] at hs ⊢
  exact ⟨Keys.ok_default, Tp.ok_default, hs.2.2⟩

/-- Every command keeps the invariant: by what stands before the block that it can reach. -/
theorem FrontInv.exec {c : Instr} {t : State} (hs : FrontInv s) (h : exec c s = .next t) : FrontInv t := by
  cases c with
  | coldResetAssert => exact (hs.coldReset _).next h
  | storageInitDone =>
    refine FrontInv.next ?_ h
    split <;> exact hs
  | tapReset => exact (hs.withTap fun _ => Tap.ok_default).next h
  | claspSegmentUpdate => exact (FrontInv.claspUpdate (s := s.claspShift _ _ _) hs _ _ _).next h
  | beadSegmentUpdate => exact ((hs.beadShift _ _).beadUpdate _ _ _ _).next h
  | segmentCapture bead =>
    cases bead with
    | none => exact hs.claspCapture.next h
    | some n => exact (hs.beadCapture n).next h
  | registerWrite | splitWriteLowerHalf | splitWriteUpperHalf => exact (hs.writeAt _ _ _ _).next h
  | splitReadLowerHalf | unreachableRead => exact (hs.readAt _ _ _).next h
  | chnPop | evcTgtClaim | evcSync => exact (hs.access _ _ _ _ hs).next h
  | setStart | setAbort | qEnable | qDisable | qForce | qCmdInvalid | doorbellWrite | unbind | pop | clrLost
  | sweep | clrErr | fncAlloc | fncFree | fncClear | fncClrCount | fncCmdInvalid | expCfgWrite | join | cancel
  | sqtCmdInvalid | poolConfigWrite | cqEnable | cqDisable | cqResume | cqCmdInvalid | cqCfgWrite
  | peerEntryWrite | selfWrite | clr | chnTxHdr | chnTxData | drop | partEnable | partDisable | partForce
  | partYield | partCmdInvalid | ctxRegister | ctxRelease | ctxReset | ctxAck | ctxCmdInvalid | beadEnable
  | beadDisable | beadForce | beadCmdInvalid | evcTgtComplete | evcSwi | evcPclr | evcPendWrite | evcMaskWrite
  | evcSrcCfgWrite | audRegionWrite | traceStart | traceStop | traceTrigger | traceClrLost | traceCmdInvalid
  | traceHeadWrite | halt | resume | lktCmdInvalid | domainOn | domainOff | domCmdInvalid | eccClr | fenceBead
  | bdErrClr => exact (hs.command _ _ _).next h
  | engineCompletion | externalEventLevel | eccCorrectable | eccUncorrectable => exact (hs.input _).next h
  | scrub => exact hs.next h
  | domainLoss d m =>
    change (if d = 0 then Host.Outcome.fault Fault.coreDomainLost else if domains s.params ≤ d then .next s
      else .next { s with blk := _ }) = .next t at h
    split at h
    · cases h
    · split at h
      · exact hs.next h
      · exact hs.nextBlock h
  | _ => exact hs.nextBlock h

/-- Every step keeps the invariant: the command at the front of the queue does, and a tick moves the block alone. -/
theorem FrontInv.step {t : State} (hs : FrontInv s) (h : step s = .next t) : FrontInv t := by
  unfold Machine.step at h
  split at h
  · exact FrontInv.next (u := s.tick) hs h
  · next c rest _ => exact FrontInv.exec (s := { s with pending := rest }) hs h

end

/-- Settles O3: at reset every table of the front is empty and every register under a lock is zero. -/
theorem frontInvariantAtReset : Obligations.FrontInvariantAtReset :=
  (frontInv_iff _).2 ⟨Keys.ok_default, Tp.ok_default, Tap.ok_default⟩

/-- Settles O4, by what each command can reach of the registers before the block. -/
theorem frontInvariantIsKept : Obligations.FrontInvariantIsKept :=
  fun _ _ hs h => hs.step h

end Sys2Proof.Machine
end

section
/-! SUPPORT. Raising a source (R438, R439), the bits of a source vector (R451) and the fields of a written word; the
Event Controller's commands by these. -/

namespace Sys2Proof.Machine

/-! ### Bits of a source vector -/

/-- A number whose one bit is `s`, as a source vector. -/
theorem getLsbD_oneBit (s k : Nat) (hk : k < 2048) : (BitVec.ofNat 2048 (2 ^ s)).getLsbD k = decide (s = k) := by
  rw [BitVec.getLsbD_ofNat, Nat.testBit_two_pow, decide_eq_true hk, Bool.true_and]

theorem getLsbD_clearBit (v : BitVec 2048) (s k : Nat) (hk : k < 2048) :
    (clearBit v s).getLsbD k = if k = s then false else v.getLsbD k := by
  rw [clearBit, BitVec.getLsbD_and, BitVec.getLsbD_not, getLsbD_oneBit s k hk]
  by_cases h : k = s
  · simp [h]
  · simp [h, hk, Ne.symm h]

/-- A number whose digits at base 2^64 are `hi`, `x` and, below place `w`, `lo`: bit `k`. -/
theorem testBit_digits (hi x lo w k : Nat) (hx : x < 2 ^ 64) (hlo : lo < 2 ^ (64 * w)) :
    (2 ^ (64 * w) * (2 ^ 64 * hi + x) + lo).testBit k =
      if k < 64 * w then lo.testBit k
      else if k < 64 * w + 64 then x.testBit (k - 64 * w) else hi.testBit (k - 64 * w - 64) := by
  rw [Nat.testBit_two_pow_mul_add _ hlo]
  split
  · rfl
  · have hplace : k - 64 * w < 64 ↔ k < 64 * w + 64 := by omega
    simp only [Nat.testBit_two_pow_mul_add _ hx, hplace]

/-- One digit taken off at its place and another put there. -/
theorem replace_digit (p a y x lo : Nat) : p * (a + y) + lo - y * p + x * p = p * (a + x) + lo := by
  have hcomm := Nat.mul_comm y p
  have hcomm' := Nat.mul_comm x p
  rw [Nat.mul_add, Nat.mul_add]
  omega

/-- R451: a write of word `w` of a source vector sets its 64 bits and no other. -/
theorem getLsbD_setSrcWord (v : BitVec 2048) (w : Nat) (x : Word) (k : Nat) (hk : k < 2048) :
    (setSrcWord v w x).getLsbD k = if k / 64 = w then x.getLsbD (k % 64) else v.getLsbD k := by
  have hword : (srcWord v w).toNat = v.toNat / 2 ^ (64 * w) % 2 ^ 64 := by simp [srcWord]
  have hlo : v.toNat % 2 ^ (64 * w) < 2 ^ (64 * w) := Nat.mod_lt _ (Nat.two_pow_pos _)
  have hv : v.toNat = 2 ^ (64 * w) * (2 ^ 64 * (v.toNat / 2 ^ (64 * w) / 2 ^ 64) + v.toNat / 2 ^ (64 * w) % 2 ^ 64)
      + v.toNat % 2 ^ (64 * w) := by rw [Nat.div_add_mod, Nat.div_add_mod]
  have hset : v.toNat - (srcWord v w).toNat * 2 ^ (64 * w) + x.toNat * 2 ^ (64 * w)
      = 2 ^ (64 * w) * (2 ^ 64 * (v.toNat / 2 ^ (64 * w) / 2 ^ 64) + x.toNat) + v.toNat % 2 ^ (64 * w) := by
    have := replace_digit (2 ^ (64 * w)) (2 ^ 64 * (v.toNat / 2 ^ (64 * w) / 2 ^ 64))
      (v.toNat / 2 ^ (64 * w) % 2 ^ 64) x.toNat (v.toNat % 2 ^ (64 * w))
    rwa [← hv, ← hword] at this
  rw [setSrcWord, hset, BitVec.getLsbD_ofNat, testBit_digits _ _ _ _ _ x.isLt hlo]
  by_cases hlow : k < 64 * w
  · have : k / 64 ≠ w := by omega
    simp [hlow, this, hk, Nat.testBit_mod_two_pow, BitVec.getLsbD]
  · by_cases hmid : k < 64 * w + 64
    · have hw : k / 64 = w := by omega
      have hm : k - 64 * w = k % 64 := by omega
      simp [hlow, hmid, hw, hm, hk, BitVec.getLsbD]
    · have : k / 64 ≠ w := by omega
      have hk' : k - 64 * w - 64 + 64 + 64 * w = k := by omega
      simp only [hlow, hmid, this, hk, if_false, decide_true, Bool.true_and, Nat.testBit_div_two_pow, hk',
        BitVec.getLsbD]

/-! ### Raising -/

/-- `b'` is `b` but for pending bits and the trace writer. -/
def PendsAndTraces (b b' : Block) : Prop :=
  ∃ v t, b' = { b with evc := { b.evc with pend := v }, trace := t }

theorem PendsAndTraces.trans {a b c : Block} (h : PendsAndTraces a b) (g : PendsAndTraces b c) :
    PendsAndTraces a c := by
  obtain ⟨v, t, rfl⟩ := h
  obtain ⟨v', t', rfl⟩ := g
  exact ⟨v', t', rfl⟩

theorem PendsAndTraces.eq {b b' : Block} (h : PendsAndTraces b b') :
    b' = { b with evc := { b.evc with pend := b'.evc.pend }, trace := b'.trace } := by
  obtain ⟨v, t, rfl⟩ := h
  rfl

theorem pendsAndTraces_pendSource (b : Block) (n : Nat) : PendsAndTraces b (b.pendSource n) := by
  unfold Block.pendSource
  split
  · exact ⟨_, _, rfl⟩
  · exact ⟨_, _, rfl⟩

theorem pendsAndTraces_traceEvent (b : Block) (cls units arg : Nat) (ws : List Word) :
    PendsAndTraces b (b.traceEvent cls units arg ws) := by
  unfold Block.traceEvent
  split
  · exact ⟨_, _, rfl⟩
  · dsimp only
    split
    · exact ⟨_, _, rfl⟩
    · exact .trans ⟨b.evc.pend, _, rfl⟩ (pendsAndTraces_pendSource _ _)

theorem pendsAndTraces_raise (b : Block) (n : Nat) : PendsAndTraces b (b.raise n) := by
  unfold Block.raise
  dsimp only
  split
  · exact (pendsAndTraces_pendSource b n).trans (pendsAndTraces_traceEvent _ _ _ _ _)
  · exact pendsAndTraces_pendSource b n

/-- The pending bits after one source was set: that source, unless it is 0 (R438), and no other. -/
theorem pends_pendSource (b : Block) {n : Nat} (hn : n ≠ 0) (hn' : n < 2048) (k : Nat) :
    (b.pendSource n).evc.pends k = (b.evc.pends k || decide (n = k)) := by
  simp only [Block.pendSource, hn, if_false, Evc.pends, BitVec.getLsbD_or]
  by_cases hk : k < 2048
  · rw [getLsbD_oneBit n k hk]
  · have : n ≠ k := by omega
    rw [BitVec.getLsbD_of_ge (BitVec.ofNat 2048 (2 ^ n)) k (by omega), decide_eq_false this]

/-- R472, R476: a trace event that finds the queue full makes source 11 pending; it moves no other pending bit. -/
theorem pends_traceEvent (b : Block) (cls units arg : Nat) (ws : List Word) (k : Nat) :
    (b.traceEvent cls units arg ws).evc.pends k = b.evc.pends k
      ∨ k = 11 ∧ (b.traceEvent cls units arg ws).evc.pends k = true := by
  unfold Block.traceEvent
  split
  · exact .inl rfl
  · dsimp only
    split
    · exact .inl rfl
    · rw [pends_pendSource _ (by decide) (by decide)]
      by_cases hk : 11 = k
      · exact .inr ⟨hk.symm, by simp [hk]⟩
      · exact .inl (by simp [hk])

/-- R439: raising a source other than 0 has the effect that the statements name. -/
theorem raised_raise (b : Block) {n : Nat} (hn : n ≠ 0) (hn' : n < 2048) : Raised b (b.raise n) n := by
  have hpend := pends_pendSource b hn hn'
  have hraise (k : Nat) : (b.raise n).evc.pends k = (b.evc.pends k || decide (n = k))
      ∨ k = 11 ∧ (b.raise n).evc.pends k = true := by
    rw [← hpend k]
    unfold Block.raise
    dsimp only
    split
    · exact pends_traceEvent _ _ _ _ _ k
    · exact .inl rfl
  refine ⟨?_, fun k hkn hk11 => ?_, (pendsAndTraces_raise b n).eq⟩
  · obtain h | ⟨-, h⟩ := hraise n
    · simpa using h
    · exact h
  · obtain h | ⟨h, -⟩ := hraise k
    · simpa [Ne.symm hkn] using h
    · exact absurd h hk11

/-! ### Fields of a written word -/

theorem bits_toNat {w : Nat} (d : BitVec w) (hi lo : Nat) :
    bits d.toNat hi lo = (d.extractLsb' lo (hi + 1 - lo)).toNat := by
  simp [bits, BitVec.extractLsb'_toNat, Nat.shiftRight_eq_div_pow]

theorem ofNat_bits {w : Nat} (d : BitVec w) (hi lo : Nat) :
    BitVec.ofNat (hi + 1 - lo) (bits d.toNat hi lo) = d.extractLsb' lo (hi + 1 - lo) := by
  rw [bits_toNat, BitVec.ofNat_toNat, BitVec.setWidth_eq]

theorem bits_one {w : Nat} (d : BitVec w) (i : Nat) : (bits d.toNat i i == 1) = d.getLsbD i := by
  simp [bits, BitVec.getLsbD, Nat.testBit_eq_decide_div_mod_eq, BEq.beq]

/-- A field is zero as a number when it is zero as a vector. -/
theorem bits_eq_zero {w : Nat} (d : BitVec w) (hi lo : Nat) :
    bits d.toNat hi lo = 0 ↔ d.extractLsb' lo (hi + 1 - lo) = 0 := by
  rw [bits_toNat, ← BitVec.toNat_inj]; rfl

/-! ### The Event Controller's commands -/

/-- R438: source 0 is no unit's. -/
theorem ne_zero_of_internalSource {n : Nat} (h : internalSource n = true) : n ≠ 0 := by
  rintro rfl
  exact absurd h (by decide)

/-- R441, R453: what a write of EVC_SRC_CFG is refused for. -/
theorem srcCfgWrite_refused {p : Params} {src : BitVec 11} {d : BitVec 32} (b : Block)
    (h : src = 0 ∨ (d.extractLsb' 0 5 ≠ 0 ∧ p.evTargets ≤ (d.extractLsb' 8 6).toNat)) :
    srcCfgWrite p src.toNat d.toNat b = b.rejEvc := by
  refine if_pos (h.imp (fun h => by simp [h]) fun ⟨hprio, htgt⟩ => ⟨?_, ?_⟩)
  · exact fun hz => hprio ((bits_eq_zero d 4 0).1 hz)
  · rwa [bits_toNat d 13 8]

/-- R9, R453: what a write of EVC_SRC_CFG that is accepted leaves of the source. -/
theorem srcCfgWrite_accepted {p : Params} {src : BitVec 11} {d : BitVec 32} (b : Block) (hsrc : src ≠ 0)
    (h : d.extractLsb' 0 5 = 0 ∨ (d.extractLsb' 8 6).toNat < p.evTargets) :
    srcCfgWrite p src.toNat d.toNat b = b.modEvSrc src.toNat fun x =>
      if b.loader.inForce = true then
        { x with automask := d.getLsbD 24, group := d.extractLsb' 14 7, target := d.extractLsb' 8 6,
                 prio := d.extractLsb' 0 5 }
      else { x with automask := d.getLsbD 24 } := by
  have hpass : ¬ (src.toNat = 0 ∨ (bits d.toNat 4 0 ≠ 0 ∧ p.evTargets ≤ bits d.toNat 13 8)) := by
    rintro (hz | ⟨hprio, htgt⟩)
    · exact hsrc (BitVec.eq_of_toNat_eq hz)
    · rw [bits_toNat d 13 8] at htgt
      exact h.elim (fun hz => hprio ((bits_eq_zero d 4 0).2 hz)) fun hlt => absurd hlt (Nat.not_lt.2 htgt)
  have hgroup : BitVec.ofNat 7 (bits d.toNat 20 14) = d.extractLsb' 14 7 := ofNat_bits d 20 14
  have htarget : BitVec.ofNat 6 (bits d.toNat 13 8) = d.extractLsb' 8 6 := ofNat_bits d 13 8
  have hprio : BitVec.ofNat 5 (bits d.toNat 4 0) = d.extractLsb' 0 5 := ofNat_bits d 4 0
  rw [srcCfgWrite, if_neg hpass, hgroup, htarget, hprio, bits_one]
  cases b.loader.inForce <;> rfl

/-- R446: the message write of an armed message target, once it may go. -/
theorem messageWrite_sent {b : Block} {t : Nat} (hmsg : (b.evTarget t).msg = true)
    (harmed : (b.evTarget t).armed = true) (hwin : b.winner t ≠ 0)
    (hdue : b.reportDue (b.winner t) = false) (hfree : (b.mp.freeWrite 63).isSome = true) :
    messageWrite t b = (b.put 63 2 (b.evTarget t).msgAddr.toNat (leBytes 4 (b.evTarget t).msgData.toNat)
      (.message t)).modEvTarget t fun x => { x with armed := false } := by
  simp [messageWrite, hmsg, harmed, hwin, hdue, hfree]

/-- R49: it waits for the write that its event reports. -/
theorem messageWrite_waits {b : Block} {t : Nat} (hdue : b.reportDue (b.winner t) = true) : messageWrite t b = b := by
  simp [messageWrite, hdue]

/-- R444: a hold-off whose time has come ends. -/
theorem holdoffExpiry_due {b : Block} {g e : Nat} (hends : (b.evGroup g).ends = some e) (hnow : e ≤ b.now) :
    holdoffExpiry g b = b.modEvGroup g fun x => { x with ends := none } := by
  simp [holdoffExpiry, hends, hnow]

/-- Two changes of a target that leave the same entry are one. -/
theorem modEvTarget_congr {b : Block} {t : Nat} {f g : EvTarget → EvTarget}
    (h : f (b.evTarget t) = g (b.evTarget t)) : b.modEvTarget t f = b.modEvTarget t g := by
  unfold Block.evTarget at h
  simp only [Block.modEvTarget, tmod, h]

/-- R446: a target with re-armings to come is armed again, and one of them is used. -/
theorem rearmTimer_due {b : Block} {t k : Nat} (h : (b.evTarget t).rearm = k + 1) :
    rearmTimer t b = b.modEvTarget t fun x => { x with armed := true, rearm := k } := by
  rw [rearmTimer, if_neg (by omega)]
  exact modEvTarget_congr (by simp [h])

/-- A command of the block, by what its operation leaves of the block. -/
theorem next_block {s : State} {b b' : Block} (h : b = b') :
    (.next { s with blk := b } : Host.Outcome State Fault Refusal) = .next { s with blk := b' } := by rw [h]

/-- A command of one register that is performed. -/
theorem next_command {s : State} {a : Acc} {r : Reg} (h : Performs s a r true) (f : Params → Block → Block)
    {b : Block} (hb : f s.params s.blk = b) :
    (.next (s.command a r f) : Host.Outcome State Fault Refusal) = .next (s.wrote r b) := by
  rw [command_perform h, hb]

/-- Settles O12: each command's effect is that of its operation on the block, by the lemmas above. -/
theorem eventSourcesAreRaisedAndDelivered : Obligations.EventSourcesAreRaisedAndDelivered := by
  refine ⟨⟨?raise, ?level, ?swi, ?swiZero⟩, ⟨?pend, ?mask, ?pclr, ?cfg⟩, ?holdoff, ?message, ?waits, ?rearm, ?sync⟩
  case raise =>
    intro s src hsrc
    exact ⟨_, next_block (if_pos hsrc), raised_raise _ (ne_zero_of_internalSource hsrc) src.isLt⟩
  case level =>
    intro s n hreset hn hext
    refine ⟨s.blk.raise (2048 - s.params.extEvents + n), ?_, raised_raise _ (by omega) (by omega)⟩
    change Host.Outcome.next (s.input (externalLevel s.params n)) = _
    rw [input_run hreset, externalLevel, if_pos hn]
  case swi =>
    intro s a d hp hd
    exact ⟨_, next_command hp _ (if_neg hd), raised_raise _ hd (Nat.mod_lt _ (by decide))⟩
  case swiZero =>
    intro s a d hp hd
    exact next_command hp _ (if_pos hd)
  case pend =>
    intro s a w d hp
    refine ⟨_, next_command hp _ rfl, fun k hk => ?_⟩
    rw [getLsbD_clearBit _ _ _ hk, getLsbD_setSrcWord _ _ _ _ hk]
    rfl
  case mask =>
    intro s a w d hp
    exact ⟨_, next_command hp _ rfl, fun k hk => getLsbD_setSrcWord _ _ _ _ hk⟩
  case pclr =>
    intro s a d hp hd
    exact ⟨_, next_command hp _ (if_neg hd), fun k hk => getLsbD_clearBit _ _ _ hk⟩
  case cfg =>
    intro s a src d hp
    exact ⟨fun h => next_command hp _ (srcCfgWrite_refused _ h),
      fun hsrc h => next_command hp _ (srcCfgWrite_accepted _ hsrc h)⟩
  case holdoff =>
    intro s g e hends hnow
    exact next_block (holdoffExpiry_due hends hnow)
  case message =>
    intro s t hmsg harmed hwin hdue hfree
    exact next_block (messageWrite_sent hmsg harmed hwin hdue hfree)
  case waits =>
    intro s t hdue
    exact next_block (messageWrite_waits hdue)
  case rearm =>
    intro s t k h
    exact next_block (rearmTimer_due h)
  case sync =>
    intro s a hp
    change Host.Outcome.next (s.access a .evcSync false fun s => (s, 0)) = _
    rw [access_perform hp]

end Sys2Proof.Machine
end

section
/-! SUPPORT. The stall monitor (R172, R173): when a report is due, and what it does. -/

namespace Sys2Proof.Machine

/-- R172: from when on the window of a unit runs: its counter's last move, or since when it is busy. -/
def Block.stallSince (b : Block) (kind unit last : Nat) : Nat :=
  max last ((tget none b.front.busy (stallUnit kind unit)).getD b.now)

/-- R172, R173: the conditions under which the monitor reports a unit. -/
structure StallDue (b : Block) (kind unit last : Nat) : Prop where
  window : tget 0 b.front.window kind ≠ 0
  moved : tget (0, false) b.front.moved (stallUnit kind unit) = (last, false)
  busy : b.unitBusy kind unit = true
  runs : b.unitStopped kind unit = false
  elapsed : b.stallSince kind unit last + 1000 * (tget 0 b.front.window kind).toNat
    + b.stoppedTime kind unit (b.stallSince kind unit last) ≤ b.now

/-- The monitor once it has noted that a unit's stall is reported (R173: once). -/
def Front.noted (f : Front) (kind unit last : Nat) : Front :=
  { f with moved := tset (0, false) f.moved (stallUnit kind unit) (last, true) }

/-- The monitor with a report behind the others. -/
def Front.reported (f : Front) (kind unit last : Nat) : Front :=
  { f.noted kind unit last with
    stalls := f.stalls ++ [{ kind := kind, unit := unit, sinceUs := last / 1000 }] }

/-- What a due report does: it enters the FIFO and raises source 3, or is counted as lost. -/
theorem stallReport_due {b : Block} {kind unit last : Nat} (h : StallDue b kind unit last) :
    stallReport kind unit b =
      if b.front.stalls.length < 32 then
        (Block.traceEvent { b with front := b.front.reported kind unit last } 10 1
          (pack [(unit, 13, 0), (kind, 2, 16)]) []).raise 3
      else { b with front := { b.front.noted kind unit last with lost := satAdd 16 b.front.lost 1 } } := by
  obtain ⟨hwindow, hmoved, hbusy, hruns, helapsed⟩ := h
  have hus : (tget 0 b.front.window kind).toNat ≠ 0 := fun hz => hwindow (BitVec.eq_of_toNat_eq hz)
  unfold Block.stallSince at helapsed
  have hnow := Nat.not_lt.2 helapsed
  simp only [stallReport, hmoved, hbusy, hruns, hus, hnow, decide_false, Bool.not_true, Bool.or_false,
    Bool.false_eq_true, if_false]
  rfl

/-- The report's trace event and source 3 leave the monitor as the report left it. -/
theorem reported_raise (b : Block) (f : Front) (arg : Nat) :
    ∃ b', (Block.traceEvent { b with front := f } 10 1 arg []).raise 3 = b'
      ∧ b' = { b with front := f, evc := { b.evc with pend := b'.evc.pend }, trace := b'.trace }
      ∧ b'.evc.pends 3 = true := by
  have hpt := (pendsAndTraces_traceEvent { b with front := f } 10 1 arg []).trans (pendsAndTraces_raise _ 3)
  exact ⟨_, rfl, hpt.eq, (raised_raise _ (by decide) (by decide)).1⟩

/-- Settles O24: a due report by whether the FIFO has room, and the two writes of CLS_PRG_POP. -/
theorem stallsAreReported : Obligations.StallsAreReported := by
  refine ⟨?report, ?pop, ?clear⟩
  case report =>
    intro s k u last hwindow hmoved since hbusy hruns helapsed
    have hdue := stallReport_due ⟨hwindow, hmoved, hbusy, hruns, helapsed⟩
    have hnoted (j : Nat) : tget (0, false) (s.blk.front.noted k.toNat u last).moved j =
        if j = stallUnit k.toNat u then (last, true) else tget (0, false) s.blk.front.moved j := by
      rw [Front.noted, tget_tset]
      exact ite_congr (propext eq_comm) (fun _ => rfl) fun _ => rfl
    refine ⟨stallReport k.toNat u s.blk, rfl, ?_⟩
    rw [hdue]
    split
    · next hroom =>
      obtain ⟨b', he, hb, hpend⟩ := reported_raise s.blk (s.blk.front.reported k.toNat u last)
        (pack [(u, 13, 0), (k.toNat, 2, 16)])
      rw [he]
      have hfront : b'.front = s.blk.front.reported k.toNat u last := by rw [hb]
      refine ⟨fun _ => ⟨?_, ?_, hpend⟩, fun hfull => by omega, fun j => ?_, ?_⟩
      · rw [hfront]; rfl
      · rw [hfront]; rfl
      · rw [hfront]; exact hnoted j
      · rw [hfront]; exact hb
    · next hfull =>
      exact ⟨fun hroom => absurd hroom hfull, fun _ => ⟨rfl, rfl, rfl, rfl⟩, hnoted, rfl⟩
  case pop =>
    intro s a hp
    exact next_command hp _ rfl
  case clear =>
    intro s a hp
    exact next_command hp _ rfl

end Sys2Proof.Machine
end

section
/-! SUPPORT. A whole write of a register (R10), and the state that refutes the statement on split accesses. -/

namespace Sys2Proof.Machine

/-- R10, R526: a performed 64-bit write of a register writes it whole and discards a half staged for it (R43). -/
theorem exec_registerWrite_whole {s : State} {a : Acc} {addr : BitVec 26} {r : Reg} (d : Word)
    (hdec : decodeReg s.params addr.toNat true = some (r, false)) (hp : Performs s a r true) :
    exec (.registerWrite a addr true d) s = .next (((s.unstage r).regWrite r d).respond .ok 0) := by
  change Host.Outcome.next (s.writeAt a addr.toNat true d) = _
  rw [State.writeAt, hdec]
  dsimp only
  rw [State.writeReg, access_perform hp]
  simp

/-- R9: what SET_IMG_ADDR reads. -/
theorem regRead_imgAddr (s : State) : s.regRead .imgAddr = s.blk.loader.imgAddr := by
  simp [State.regRead, Block.readPorts, Block.readParts, Block.readQueues, Block.readLinks, Block.readEvents,
    Block.readDebug, State.readSetting, Block.readBead]

/-- R10: a write of SET_IMG_ADDR leaves its reserved bits zero, whatever they were. -/
theorem regRead_regWrite_imgAddr (s : State) (d : Word) :
    (s.regWrite .imgAddr d).regRead .imgAddr = d &&& Reg.imgAddr.rwBits :=
  regRead_imgAddr _

/-- A block that takes accesses and has bit 0 of SET_IMG_ADDR, a reserved bit, set. No write of the register leaves it
so (`regRead_regWrite_imgAddr`), but the statement speaks of every state. -/
def reservedBitSet : State :=
  { State.reset with tp := { ready := true }, blk := { loader := { imgAddr := 1 } } }

theorem performs_reservedBitSet : Performs reservedBitSet { priv := true, src := 0 } .imgAddr true :=
  ⟨rfl, rfl, .inl rfl, rfl⟩

/-- Refutes O9: its last clause has a write move no bit outside the register's access types, in every state. A write of
0 to SET_IMG_ADDR clears the reserved bit 0 that `reservedBitSet` holds. -/
theorem not_splitAccessesAreWhole : ¬ Obligations.SplitAccessesAreWhole := by
  rintro ⟨-, -, hbits⟩
  have hdec : decodeReg reservedBitSet.params (0x3001000 : BitVec 26).toNat true = some (.imgAddr, false) := by decide
  obtain ⟨t, ht, -, -, -, -, -, -, hrest⟩ :=
    hbits reservedBitSet _ _ true 0 .imgAddr hdec (.inl rfl) performs_reservedBitSet
  rw [exec_registerWrite_whole 0 hdec performs_reservedBitSet] at ht
  obtain rfl := Host.Outcome.next.inj ht
  have hother := hrest (by decide) (by decide) (by decide)
  have hafter : State.regRead (((reservedBitSet.unstage .imgAddr).regWrite .imgAddr 0).respond .ok 0) .imgAddr = 0 :=
    (regRead_regWrite_imgAddr _ 0).trans (BitVec.zero_and)
  rw [hafter, regRead_imgAddr] at hother
  exact absurd hother (by decide)

end Sys2Proof.Machine
end

section
/-! SUPPORT. A node that leaves its window (R34, R206, R215, R223, R271): its final status, the decrements of its window
edges by the banks of counters, and its CPL. -/

namespace Sys2Proof.Machine

/-! ### Changes of a Bead -/

/-- Two changes of a window entry that leave the same entry are one. -/
theorem modWin_congr {b : Block} {n w : Nat} {f g : WinEntry → WinEntry} (h : f (b.win n w) = g (b.win n w)) :
    b.modWin n w f = b.modWin n w g := by
  unfold Block.win Block.bead at h
  simp only [Block.modWin, Block.modBead, tmod, h]

/-- The side condition of `Block.win_modWin`, from its mirror image in the statements. -/
theorem otherEntry {n w m v : Nat} (h : ¬ (m = n ∧ v = w)) : ¬ (n = m ∧ w = v) :=
  fun he => h ⟨he.1.symm, he.2.symm⟩

/-- A change of a Bead that leaves its window alone changes no entry. -/
theorem win_modBead (b : Block) (n : Nat) (f : Bead → Bead) (m v : Nat)
    (hf : ∀ d, (f d).win = d.win := by exact fun _ => rfl) : (b.modBead n f).win m v = b.win m v := by
  simp only [Block.win, Block.bead_modBead]
  split <;> simp [hf]

@[simp] theorem win_modTile (b : Block) (n i : Nat) (f : Tile → Tile) (m v : Nat) :
    (b.modTile n i f).win m v = b.win m v :=
  win_modBead b n _ m v

/-- From `b` to `b'` nothing but the Beads has moved, and Bead `n` still has its waiting decrements (R34) and the
retirements that it has not announced (R82). -/
structure KeepsBank (n : Nat) (b b' : Block) : Prop where
  bank : (b'.bead n).bank = (b.bead n).bank
  retCount : (b'.bead n).retCount = (b.bead n).retCount
  only : b' = { b with beads := b'.beads }

theorem KeepsBank.trans {n : Nat} {a b c : Block} (h : KeepsBank n a b) (g : KeepsBank n b c) : KeepsBank n a c where
  bank := g.bank.trans h.bank
  retCount := g.retCount.trans h.retCount
  only := by rw [g.only, h.only]

theorem keepsBank_modBead (b : Block) (n : Nat) (f : Bead → Bead)
    (hbank : ∀ d, (f d).bank = d.bank := by exact fun _ => rfl)
    (hret : ∀ d, (f d).retCount = d.retCount := by exact fun _ => rfl) : KeepsBank n b (b.modBead n f) where
  bank := by simp [hbank]
  retCount := by simp [hret]
  only := rfl

theorem keepsBank_modWin (b : Block) (n w : Nat) (f : WinEntry → WinEntry) : KeepsBank n b (b.modWin n w f) :=
  keepsBank_modBead b n _

/-! ### The final status of a node -/

/-- The entry of a node whose final status is known: `st`, unless its row met an uncorrectable error (R513). -/
def WinEntry.ended (e : WinEntry) (st : Status) (released : Bool) : WinEntry :=
  { e with state := .leaving, final := if e.eccBad then Status.ecc else st, released := released }

theorem WinEntry.ended_eq {e : WinEntry} (st : Status) (released : Bool) (h : e.eccBad = false) :
    e.ended st released = { e with state := .leaving, final := st, released := released } := by
  simp [WinEntry.ended, h]

/-- The end of a node without a tile counter. -/
theorem winEnds_noTile {b : Block} {n w : Nat} (st : Status) (released : Bool) (h : (b.bead n).tileOf w = none) :
    b.winEnds n w st released = b.modWin n w (·.ended st released) := by
  rw [Block.winEnds, h]
  rfl

/-- R269: the end of a tile list frees its tile counter. -/
theorem winEnds_tile {b : Block} {n w i : Nat} {t : Tile} (st : Status) (released : Bool)
    (h : (b.bead n).tileOf w = some (i, t)) :
    b.winEnds n w st released = (b.modTile n i fun _ => {}).modWin n w (·.ended st released) := by
  rw [Block.winEnds, h]
  rfl

theorem win_winEnds (b : Block) (n w : Nat) (st : Status) (released : Bool) (m v : Nat) :
    (b.winEnds n w st released).win m v = if n = m ∧ w = v then (b.win m v).ended st released else b.win m v := by
  rcases htile : (b.bead n).tileOf w with _ | ⟨i, t⟩
  · rw [winEnds_noTile st released htile, Block.win_modWin]
  · rw [winEnds_tile st released htile, Block.win_modWin, win_modTile]

theorem keepsBank_winEnds (b : Block) (n w : Nat) (st : Status) (released : Bool) :
    KeepsBank n b (b.winEnds n w st released) := by
  rcases htile : (b.bead n).tileOf w with _ | ⟨i, t⟩
  · rw [winEnds_noTile st released htile]
    exact keepsBank_modWin b n w _
  · rw [winEnds_tile st released htile]
    exact (keepsBank_modBead b n _).trans (keepsBank_modWin _ n w _)

theorem orderNext_winEnds (b : Block) (n w : Nat) (st : Status) (released : Bool) :
    ((b.winEnds n w st released).bead n).orderNext = (b.bead n).orderNext := by
  rcases htile : (b.bead n).tileOf w with _ | ⟨i, t⟩
  · simp [winEnds_noTile st released htile, Block.modWin]
  · simp [winEnds_tile st released htile, Block.modWin, Block.modTile]

/-! ### Indirect words (R203, R206) -/

/-- The port's answer to a read moves the port, and with an error the pending bits and the trace writer. -/
theorem answerRead_only (b : Block) (r : RReq) (code : BitVec 2) :
    let b' := b.answerRead r code
    b' = { b with mp := b'.mp, evc := { b.evc with pend := b'.evc.pend }, trace := b'.trace } := by
  unfold Block.answerRead Block.mpError
  dsimp only
  split
  · rfl
  · split
    · exact (pendsAndTraces_raise _ 1).eq.trans (by simp)
    · exact (pendsAndTraces_raise _ 1).eq.trans (by simp)

theorem win_answerRead (b : Block) (r : RReq) (code : BitVec 2) (m v : Nat) :
    (b.answerRead r code).win m v = b.win m v := by
  rw [answerRead_only]
  rfl

/-- The window entry once its indirect word `k` has returned. -/
def WinEntry.indirectBack (e : WinEntry) (k : Nat) (st : Status) (d : Word) : WinEntry :=
  if st = Status.ok then { e with indirectDue := e.indirectDue.erase k, param := e.param.set k d }
  else { e with indirectDue := e.indirectDue.erase k, indirectFail := e.indirectFail ++ [(k, st)] }

/-- R203: the return of a word that is due, by its two parts: the port's answer and the entry. -/
theorem indirectReadReturn_due {b : Block} {n w k : Nat} {r : RReq} (code : BitVec 2) (d : Word)
    (hread : b.mp.readFor (.indirect n w (b.win n w).gen k) = some r) (hused : (b.win n w).used = true)
    (hdue : k ∈ (b.win n w).indirectDue) :
    indirectReadReturn n w k code d b = ((b.answerRead r code).modWin n w
      (·.indirectBack k (codeStatus Status.indirectFault code) d)).indirectEnds n w := by
  simp only [indirectReadReturn, hread]
  rw [Block.indirectReturn]
  dsimp only
  rw [win_answerRead, if_neg (by simp [hused, hdue])]
  rfl

/-- R206: while not all the words have been asked for, none ends the node. -/
theorem indirectEnds_notAsked {b : Block} {n w : Nat} (h : (b.win n w).indirectAsked = false) :
    b.indirectEnds n w = b := by
  simp [Block.indirectEnds, h]

/-- R206: all the words have returned, and one has failed. -/
theorem indirectEnds_failed {b : Block} {n w k : Nat} {st : Status} (hstate : (b.win n w).state = .wready)
    (hasked : (b.win n w).indirectAsked = true) (hdue : (b.win n w).indirectDue = [])
    (hfail : (b.win n w).indirectFail = [(k, st)]) (hk : k < 6) :
    b.indirectEnds n w = b.winEnds n w (firstFailure (b.win n w).pstatus st) true := by
  have hfind : (List.range 6).find? (fun j => k == j) = some k := by
    have : ∀ k, k < 6 → (List.range 6).find? (fun j => k == j) = some k := by decide
    exact this k hk
  simp [Block.indirectEnds, hstate, hasked, hdue, hfail, hfind]

/-- R206: the last word that is due returns, and it alone has failed. -/
theorem indirectReadReturn_fails {b : Block} {n w k : Nat} {r : RReq} {code : BitVec 2} {st : Status} (d : Word)
    (hread : b.mp.readFor (.indirect n w (b.win n w).gen k) = some r) (hused : (b.win n w).used = true)
    (hdue : (b.win n w).indirectDue = [k]) (hk : k < 6) (hcode : codeStatus Status.indirectFault code = st)
    (hst : st ≠ Status.ok) (hasked : (b.win n w).indirectAsked = true) (hstate : (b.win n w).state = .wready)
    (hfail : (b.win n w).indirectFail = []) :
    indirectReadReturn n w k code d b = ((b.answerRead r code).modWin n w (·.indirectBack k st d)).winEnds n w
      (firstFailure (b.win n w).pstatus st) true := by
  have hback : ((b.answerRead r code).modWin n w (·.indirectBack k st d)).win n w
      = { b.win n w with indirectDue := [], indirectFail := [(k, st)] } := by
    rw [Block.win_modWin_self, win_answerRead, WinEntry.indirectBack, if_neg hst, hdue, hfail]
    simp
  rw [indirectReadReturn_due code d hread hused (hdue ▸ .head _), hcode,
    indirectEnds_failed (by rw [hback]; exact hstate) (by rw [hback]; exact hasked) (by rw [hback]) (by rw [hback]) hk,
    hback]

/-! ### One decrement in a window (R215, R228, R230) -/

/-- Whether a decrement finds a counter is a matter of the entry alone. -/
theorem Block.lowers_congr {b c : Block} {n x : Nat} (h : b.win n x = c.win n x) : b.lowers n x ↔ c.lowers n x := by
  unfold Block.lowers
  rw [h]

/-- One decrement with `st`, whose place among the ready nodes is `o`, has lowered the node at entry `x` of Bead `n`. -/
structure LowersOne (n x : Nat) (st : Status) (o : Nat) (b b' : Block) : Prop extends KeepsBank n b b' where
  self : b'.win n x = (b.win n x).lowered st o
  others : ∀ m v, ¬ (m = n ∧ v = x) → b'.win m v = b.win m v
  order_ge : (b.bead n).orderNext ≤ (b'.bead n).orderNext
  order_le : (b'.bead n).orderNext ≤ max (b.bead n).orderNext (o + 1)

/-- The entry after a decrement with `st`, before it is seen whether the counter has reached zero. -/
def WinEntry.less (e : WinEntry) (st : Status) : WinEntry :=
  { e with pstatus := if e.pstatus = 0 then poisonOf st else e.pstatus, count := e.count - 1 }

/-- R230: the poison that the node has taken releases it once its counter has reached zero. -/
def WinEntry.fails (e : WinEntry) : Bool :=
  isFailure e.pstatus && (!e.tolerant || e.pstatus = Status.aborted)

theorem WinEntry.lowered_more {e : WinEntry} (st : Status) (o : Nat) (h : e.count ≠ 1) : e.lowered st o = e.less st :=
  if_pos h

theorem WinEntry.lowered_last {e : WinEntry} (st : Status) (o : Nat) (h : e.count = 1) :
    e.lowered st o =
      if (e.less st).fails then (e.less st).ended (e.less st).pstatus true
      else { e.less st with state := .wready, order := o } := by
  rw [WinEntry.lowered, if_neg (fun hne => hne h)]
  have hfails : (e.less st).fails = true ↔ isFailure (e.less st).pstatus = true
      ∧ ((e.less st).tolerant = false ∨ (e.less st).pstatus = Status.aborted) := by
    rw [WinEntry.fails, Bool.and_eq_true, Bool.or_eq_true, Bool.not_eq_true', decide_eq_true_iff]
  exact ite_congr (propext hfails.symm) (fun _ => by simp [WinEntry.ended, WinEntry.less, h])
    fun _ => by simp [WinEntry.less, h]

/-- What `winDec` does with one decrement that finds a counter. -/
theorem winDec_one (p : Params) {b : Block} {n x : Nat} (seg : Nat) (st : Status) (o : Nat) (h : b.lowers n x) :
    b.winDec p n x 1 seg st o =
      if 1 = (b.win n x).count then (b.modWin n x (·.less st)).winReady n x o else b.modWin n x (·.less st) := by
  obtain ⟨hused, hstate, hcount, -⟩ := h
  rw [Block.winDec]
  dsimp only
  rw [if_neg (by simp [hused, hstate]), Nat.min_eq_left hcount, if_neg Nat.one_ne_zero]
  rfl

/-- R203: a node that names no indirect words asks for none. -/
theorem startIndirect_none {b : Block} {n w : Nat} (h : (b.win n w).indirect = 0) : b.startIndirect n w = b := by
  simp [Block.startIndirect, h]

/-- R215, R230: the counter of a node that reads no indirect words has reached zero. -/
theorem winReady_noIndirect {b : Block} {n w : Nat} (o : Nat) (h : (b.win n w).indirect = 0) :
    b.winReady n w o =
      if (b.win n w).fails then b.winEnds n w (b.win n w).pstatus true
      else (b.modBead n fun d => { d with orderNext := max d.orderNext (o + 1) }).modWin n w fun e =>
        { e with state := .wready, order := o } := by
  refine ite_congr rfl (fun _ => rfl) fun _ => startIndirect_none ?_
  rw [Block.win_modWin_self]
  exact (congrArg WinEntry.indirect (win_modBead b n _ n w)).trans h

/-- R215, R228, R230: a decrement that finds a counter has the effect that the statements name. -/
theorem lowersOne_winDec (p : Params) {b : Block} {n x : Nat} (seg : Nat) (st : Status) (o : Nat) (h : b.lowers n x) :
    LowersOne n x st o b (b.winDec p n x 1 seg st o) := by
  have hless : (b.modWin n x (·.less st)).win n x = (b.win n x).less st := Block.win_modWin_self b n x _
  have hkeep := keepsBank_modWin b n x (·.less st)
  have horder : ((b.modWin n x (·.less st)).bead n).orderNext = (b.bead n).orderNext := by simp [Block.modWin]
  have hothers (m v : Nat) (hmv : ¬ (m = n ∧ v = x)) : (b.modWin n x (·.less st)).win m v = b.win m v := by
    rw [Block.win_modWin, if_neg (otherEntry hmv)]
  rw [winDec_one p seg st o h]
  obtain ⟨-, -, -, hindirect⟩ := h
  split
  · next hone =>
    rw [winReady_noIndirect o (by rw [hless]; exact hindirect hone.symm), hless]
    have hlast := WinEntry.lowered_last st o hone.symm
    split
    · next hfail =>
      refine ⟨hkeep.trans (keepsBank_winEnds _ n x _ true), ?_, fun m v hmv => ?_, ?_, ?_⟩
      · rw [win_winEnds, if_pos ⟨rfl, rfl⟩, hless, hlast, if_pos hfail]
      · rw [win_winEnds, if_neg (otherEntry hmv), hothers m v hmv]
      · exact Nat.le_of_eq ((orderNext_winEnds _ n x _ true).trans horder).symm
      · rw [orderNext_winEnds, horder]; exact Nat.le_max_left _ _
    · next hfail =>
      have hplace := win_modBead (b.modWin n x (·.less st)) n fun d => { d with orderNext := max d.orderNext (o + 1) }
      have hnext : ((((b.modWin n x (·.less st)).modBead n fun d =>
          { d with orderNext := max d.orderNext (o + 1) }).modWin n x fun e =>
            { e with state := .wready, order := o }).bead n).orderNext = max (b.bead n).orderNext (o + 1) := by
        simp [Block.modWin]
      refine ⟨hkeep.trans ((keepsBank_modBead _ n _).trans (keepsBank_modWin _ n x _)), ?_,
        fun m v hmv => ?_, ?_, ?_⟩
      · rw [Block.win_modWin_self, hplace, hless, hlast, if_neg hfail]
      · rw [Block.win_modWin, if_neg (otherEntry hmv), hplace, hothers m v hmv]
      · rw [hnext]; exact Nat.le_max_left _ _
      · exact Nat.le_of_eq hnext
  · next hmore =>
    refine ⟨hkeep, ?self, hothers, Nat.le_of_eq horder.symm, ?order⟩
    case self => rw [hless, WinEntry.lowered_more st o (Ne.symm hmore)]
    case order => rw [horder]; exact Nat.le_max_left _ _

/-- A decrement of another entry leaves a node that can be lowered so. -/
theorem LowersOne.lowers {n x y o : Nat} {st : Status} {b b' : Block} (h : LowersOne n x st o b b') (hne : y ≠ x)
    (hy : b.lowers n y) : b'.lowers n y :=
  (Block.lowers_congr (h.others n y (fun h => hne h.2))).2 hy

/-! ### The banks of counters (R34)

`waiting used o xs` are the window edges of `xs` that wait for their bank, each with its place, counted from `o`; `used`
lists the banks that have taken one. -/

/-- R34: an edge waits where its bank has taken one, or 16 banks have. -/
def waiting : List Nat → Nat → List Nat → List (Nat × Nat)
  | _, _, [] => []
  | used, o, x :: xs =>
      if 16 ≤ used.length ∨ x % 32 ∈ used then (x, o) :: waiting used (o + 1) xs
      else waiting (x % 32 :: used) (o + 1) xs

/-- An edge that waits has the place of its position in the list. -/
theorem getElem?_of_mem_waiting {used xs : List Nat} {o x a : Nat} (h : (x, a) ∈ waiting used o xs) :
    o ≤ a ∧ xs[a - o]? = some x := by
  induction xs generalizing used o with
  | nil => simp [waiting] at h
  | cons y xs ih =>
    have hlater (used : List Nat) (h : (x, a) ∈ waiting used (o + 1) xs) : o ≤ a ∧ (y :: xs)[a - o]? = some x := by
      obtain ⟨hle, hget⟩ := ih h
      have : a - o = a - (o + 1) + 1 := by omega
      exact ⟨by omega, by rw [this, List.getElem?_cons_succ]; exact hget⟩
    rw [waiting] at h
    split at h
    · rcases List.mem_cons.1 h with h | h
      · obtain ⟨rfl, rfl⟩ := Prod.mk.inj h
        simp
      · exact hlater _ h
    · exact hlater _ h

/-- The edges that wait stand in the order of their places. -/
theorem pairwise_waiting (used : List Nat) (o : Nat) (xs : List Nat) :
    (waiting used o xs).Pairwise fun t u => t.2 < u.2 := by
  induction xs generalizing used o with
  | nil => exact .nil
  | cons x xs ih =>
    rw [waiting]
    split
    · exact .cons (fun t ht => (getElem?_of_mem_waiting ht).1) (ih _ _)
    · exact ih _ _

/-- An edge whose bank has taken one waits. -/
theorem mem_waiting_of_used {used xs : List Nat} {o x i : Nat} (hused : x % 32 ∈ used) (h : xs[i]? = some x) :
    (x, o + i) ∈ waiting used o xs := by
  induction xs generalizing used o i with
  | nil => simp at h
  | cons y xs ih =>
    rw [waiting]
    cases i with
    | zero =>
      obtain rfl : y = x := by simpa using h
      simp [hused]
    | succ i =>
      rw [← Nat.add_assoc, Nat.add_right_comm]
      split
      · exact .tail _ (ih hused h)
      · exact ih (.tail _ hused) h

/-- The edges that do not wait are as many as the banks not yet `used` that the edges name, 16 banks at most. -/
theorem length_waiting (used : List Nat) (o : Nat) (xs : List Nat) (hused : used.length ≤ 16) :
    (waiting used o xs).length
        + min 16 (used.length + ((xs.map (· % 32)).filter (· ∉ used)).eraseDups.length)
      = used.length + xs.length := by
  induction xs generalizing used o with
  | nil => simp [waiting, hused]
  | cons x xs ih =>
    rw [waiting]
    split
    · next hwait =>
      have := ih used (o + 1) hused
      rcases hwait with hfull | hmem
      · simp only [List.length_cons]
        omega
      · simp only [List.map_cons, List.filter_cons, hmem, not_true, decide_false, Bool.false_eq_true, if_false,
          List.length_cons]
        omega
    · next htake =>
      obtain ⟨hroom, hnew⟩ := not_or.1 htake
      have := ih (x % 32 :: used) (o + 1) (by simp only [List.length_cons]; omega)
      have hfilter : (xs.map (· % 32)).filter (· ∉ x % 32 :: used)
          = ((xs.map (· % 32)).filter (· ∉ used)).filter (!· == x % 32) := by
        rw [List.filter_filter]
        exact List.filter_congr fun k _ => Bool.eq_iff_iff.2 (by simp [and_comm])
      rw [hfilter] at this
      simp only [List.map_cons, List.filter_cons, hnew, not_false_iff, decide_true, if_true, List.eraseDups_cons,
        List.length_cons] at this ⊢
      omega

/-- An edge finds its bank taken where it has taken an edge or 16 have, if what waits already waits for such a bank. -/
theorem bankTaken_iff {used : List Nat} {bank : List (Nat × Nat × Status × Nat)} {x : Nat}
    (hbank : ∀ t, t ∈ bank → 16 ≤ used.length ∨ t.2.1 % 32 ∈ used) :
    (16 ≤ used.length || used.contains (x % 32) || bank.any fun t => t.2.1 % 32 == x % 32) = true
      ↔ 16 ≤ used.length ∨ x % 32 ∈ used := by
  simp only [Bool.or_eq_true, decide_eq_true_eq, List.contains_iff_mem, List.any_eq_true, beq_iff_eq]
  constructor
  · rintro ((h | h) | ⟨t, ht, he⟩)
    · exact .inl h
    · exact .inr h
    · exact he ▸ hbank t ht
  · exact .inl

/-- R34, R228: what the first round of the banks does with the edges `xs` of the node at entry `w` of Bead `n`. -/
structure BanksApplied (n w : Nat) (st : Status) (used : List Nat) (o : Nat) (xs : List Nat) (b b' : Block) : Prop where
  bank : (b'.bead n).bank = (b.bead n).bank ++ (waiting used o xs).map fun t => (w, t.1, st, t.2)
  taken : ∀ i x, xs[i]? = some x → (x, o + i) ∉ waiting used o xs → b'.win n x = (b.win n x).lowered st (o + i)
  others : ∀ m v, (m = n → ∀ i, xs[i]? = some v → (v, o + i) ∈ waiting used o xs) → b'.win m v = b.win m v
  order : (b'.bead n).orderNext = max (b.bead n).orderNext (o + xs.length)
  retCount : (b'.bead n).retCount = (b.bead n).retCount
  only : b' = { b with beads := b'.beads }

/-- The decrement of edge `x` joins those that wait. -/
def Block.queueEdge (n w x : Nat) (st : Status) (o : Nat) (b : Block) : Block :=
  b.modBead n fun d => { d with bank := d.bank ++ [(w, x, st, o)] }

theorem win_queueEdge (n w x : Nat) (st : Status) (o : Nat) (b : Block) (m v : Nat) :
    (b.queueEdge n w x st o).win m v = b.win m v :=
  win_modBead b n _ m v

theorem bead_queueEdge (n w x : Nat) (st : Status) (o : Nat) (b : Block) :
    (b.queueEdge n w x st o).bead n = { b.bead n with bank := (b.bead n).bank ++ [(w, x, st, o)] } :=
  Block.bead_modBead_self b n _

/-- R34: a round whose first edge waits. -/
theorem BanksApplied.ofWait {n w o x : Nat} {st : Status} {used xs : List Nat} {b c : Block}
    (hwait : 16 ≤ used.length ∨ x % 32 ∈ used)
    (h : BanksApplied n w st used (o + 1) xs (b.queueEdge n w x st o) c) :
    BanksApplied n w st used o (x :: xs) b c := by
  have hadd : waiting used o (x :: xs) = (x, o) :: waiting used (o + 1) xs := by rw [waiting, if_pos hwait]
  refine ⟨?bank, fun i y hget hnot => ?taken, fun m v hv => ?others, ?order, ?retCount, ?only⟩
  case bank => simp [h.bank, hadd, bead_queueEdge]
  case taken =>
    rw [hadd] at hnot
    cases i with
    | zero =>
      obtain rfl : x = y := by simpa using hget
      simp at hnot
    | succ i =>
      rw [← Nat.add_assoc, Nat.add_right_comm] at hnot ⊢
      rw [h.taken i y hget fun hm => hnot (.tail _ hm), win_queueEdge]
  case others =>
    rw [h.others m v fun hm i hget => ?_, win_queueEdge]
    have hlater := hv hm (i + 1) hget
    rw [hadd] at hlater
    rcases List.mem_cons.1 hlater with he | hmem
    · have := (Prod.mk.inj he).2
      omega
    · rwa [← Nat.add_assoc, Nat.add_right_comm] at hmem
  case order =>
    rw [h.order, bead_queueEdge, List.length_cons]
    dsimp only
    omega
  case retCount => rw [h.retCount, bead_queueEdge]
  case only => rw [h.only]; rfl

/-- R34: a round whose first edge is applied. A later edge of the same bank, so one to the same node, waits. -/
theorem BanksApplied.ofTake {n w o x : Nat} {st : Status} {used xs : List Nat} {a b c : Block}
    (htake : ¬ (16 ≤ used.length ∨ x % 32 ∈ used)) (hx : LowersOne n x st o b a)
    (h : BanksApplied n w st (x % 32 :: used) (o + 1) xs a c) : BanksApplied n w st used o (x :: xs) b c := by
  have hadd : waiting used o (x :: xs) = waiting (x % 32 :: used) (o + 1) xs := by rw [waiting, if_neg htake]
  have hsame (i : Nat) (hget : xs[i]? = some x) : (x, o + 1 + i) ∈ waiting (x % 32 :: used) (o + 1) xs :=
    mem_waiting_of_used (.head _) hget
  refine ⟨?bank, fun i y hget hnot => ?taken, fun m v hv => ?others, ?order, ?retCount, ?only⟩
  case bank => rw [h.bank, hadd, hx.bank]
  case taken =>
    rw [hadd] at hnot
    cases i with
    | zero =>
      obtain rfl : x = y := by simpa using hget
      rw [h.others n x fun _ => hsame]
      exact hx.self
    | succ i =>
      rw [← Nat.add_assoc, Nat.add_right_comm] at hnot ⊢
      have hget : xs[i]? = some y := hget
      rw [h.taken i y hget hnot, hx.others n y]
      rintro ⟨-, rfl⟩
      exact hnot (hsame i hget)
  case others =>
    rw [hadd] at hv
    rw [h.others m v fun hm i hget => ?_, hx.others m v ?_]
    · rintro ⟨rfl, rfl⟩
      have := (getElem?_of_mem_waiting (hv rfl 0 rfl)).1
      omega
    · have hlater := hv hm (i + 1) hget
      rwa [← Nat.add_assoc, Nat.add_right_comm] at hlater
  case order =>
    have hge := hx.order_ge
    have hle := hx.order_le
    rw [h.order, List.length_cons]
    omega
  case retCount => rw [h.retCount, hx.retCount]
  case only => rw [h.only, hx.only]

/-- R34: the round, where each edge whose bank is free can be lowered, and what waits in a bank waits for one that has
taken an edge, or for the 16. -/
theorem banksApplied (p : Params) (n w seg : Nat) (st : Status) (used : List Nat) (o : Nat) (xs : List Nat) (b : Block)
    (hbank : ∀ t, t ∈ (b.bead n).bank → 16 ≤ used.length ∨ t.2.1 % 32 ∈ used)
    (hlow : ∀ x, x ∈ xs → x % 32 ∉ used → b.lowers n x) :
    BanksApplied n w st used o xs b (b.applyBanks p n w seg st used o xs) := by
  induction xs generalizing used o b with
  | nil => exact ⟨by simp [Block.applyBanks, waiting], by simp, fun m v _ => win_modBead b n _ m v,
      by simp [Block.applyBanks], by simp [Block.applyBanks], rfl⟩
  | cons x xs ih =>
    rw [Block.applyBanks]
    simp only [bankTaken_iff hbank]
    split
    · next hwait =>
      refine .ofWait hwait (ih used (o + 1) _ (fun t ht => ?stillWaits) fun y hy hfree => ?canLower)
      case stillWaits =>
        rw [bead_queueEdge] at ht
        rcases List.mem_append.1 ht with ht | ht
        · exact hbank t ht
        · rw [List.mem_singleton.1 ht]
          exact hwait
      case canLower =>
        exact (Block.lowers_congr (win_queueEdge n w x st o b n y)).2 (hlow y (.tail _ hy) hfree)
    · next htake =>
      obtain ⟨hroom, hfree⟩ := not_or.1 htake
      have hx := lowersOne_winDec p seg st o (hlow x (.head _) hfree)
      refine .ofTake htake hx (ih (x % 32 :: used) (o + 1) _ (fun t ht => ?stillWaits) fun y hy hn => ?canLower)
      case stillWaits =>
        rw [hx.bank] at ht
        exact .inr (.tail _ ((hbank t ht).resolve_left hroom))
      case canLower =>
        exact hx.lowers (fun he => hn (he ▸ .head _)) (hlow y (.tail _ hy) fun hm => hn (.tail _ hm))

/-! ### The CPL (R82, R223) -/

/-- What a node's leaving needs to know of the block before it is its entry, the retirements that its Bead has not
announced, and what lies outside the Beads. -/
theorem Leaves.of_before {p : Params} {a b c : Block} {n w : Nat} (h : Leaves p b c n w) (hwin : b.win n w = a.win n w)
    (hret : (b.bead n).retCount = (a.bead n).retCount) (hrest : b = { a with beads := b.beads }) :
    Leaves p a c n w := by
  unfold Leaves at *
  rw [hwin, hret] at h
  obtain ⟨hentry, hlanes, hcount, hretired⟩ := h
  rw [hrest] at hlanes hretired
  refine ⟨hentry, hlanes.trans ?_, hcount, hretired⟩
  split <;> rfl

/-- A message up looks at nothing of the block but the lanes and the time. -/
theorem lanes_sendUp_congr (p : Params) (n : Nat) (r : Rec) {b c : Block} (hlanes : b.lanes = c.lanes)
    (hnow : b.now = c.now) : (b.sendUp p n r).lanes = (c.sendUp p n r).lanes := by
  simp only [Block.sendUp, Block.modLane, hlanes, hnow]

/-- R223: the CPL is sent and the entry is free; a node that has retired is counted as progress (R172). -/
def Block.cplOut (p : Params) (n w : Nat) (b : Block) : Block :=
  let e := b.win n w
  let c := ((b.modWin n w fun _ => {}).sendUp p n (cplRec p n w e.gen e.final)).beadLocket p n 64 0x11
    (pack [(w, 12, 0), (e.final.toNat, 8, 12)])
  if e.released then c
  else { c.progress 2 n with front := { (c.progress 2 n).front with
    retired := tmod 0 c.front.retired n fun k => wrapAdd 32 k 1 } }

theorem beads_cplOut (p : Params) (n w : Nat) (b : Block) :
    (b.cplOut p n w).beads = (b.modWin n w fun _ => {}).beads := by
  unfold Block.cplOut
  dsimp only
  split <;> rfl

theorem win_cplOut (p : Params) (n w : Nat) (b : Block) (m v : Nat) :
    (b.cplOut p n w).win m v = if n = m ∧ w = v then {} else b.win m v := by
  rw [← Block.win_modWin b n w m v fun _ => {}, Block.win, Block.bead, beads_cplOut]
  rfl

theorem bead_cplOut (p : Params) (n w : Nat) (b : Block) :
    (b.cplOut p n w).bead n = { b.bead n with win := tmod {} (b.bead n).win w fun _ => {} } := by
  rw [Block.bead, beads_cplOut]
  exact Block.bead_modBead_self b n _

theorem lanes_cplOut (p : Params) (n w : Nat) (b : Block) :
    (b.cplOut p n w).lanes = (b.sendUp p n (cplRec p n w (b.win n w).gen (b.win n w).final)).lanes := by
  unfold Block.cplOut
  dsimp only
  split <;> rfl

theorem now_cplOut (p : Params) (n w : Nat) (b : Block) : (b.cplOut p n w).now = b.now := by
  unfold Block.cplOut
  dsimp only
  split <;> rfl

theorem retired_cplOut (p : Params) (n w : Nat) (b : Block) :
    tget 0 (b.cplOut p n w).front.retired n =
      if (b.win n w).released = false then wrapAdd 32 (tget 0 b.front.retired n) 1 else tget 0 b.front.retired n := by
  unfold Block.cplOut
  dsimp only
  cases (b.win n w).released
  · exact tget_tmod_self b.front.retired n fun k => wrapAdd 32 k 1
  · rfl

/-- R82: one more retirement of submission `seg` waits to be announced; the 65,535th sends a RET. -/
def Block.retCounted (p : Params) (n seg : Nat) (b : Block) : Block :=
  let k := tget 0 (b.bead n).retCount seg + 1
  (if k = 65535 then b.sendUp p n (retRec p n seg k false 0) else b).modBead n fun d =>
    { d with retCount := tset 0 d.retCount seg (if k = 65535 then 0 else k) }

theorem retCounted_eq (p : Params) (n seg : Nat) (b : Block) :
    let k := tget 0 (b.bead n).retCount seg + 1
    b.retCounted p n seg =
      if k = 65535 then
        (b.sendUp p n (retRec p n seg k false 0)).modBead n fun d => { d with retCount := tset 0 d.retCount seg 0 }
      else b.modBead n fun d => { d with retCount := tset 0 d.retCount seg k } := by
  unfold Block.retCounted
  dsimp only
  split <;> rfl

theorem bead_retCounted (p : Params) (n seg : Nat) (b : Block) :
    let k := tget 0 (b.bead n).retCount seg + 1
    (b.retCounted p n seg).bead n =
      { b.bead n with retCount := tset 0 (b.bead n).retCount seg (if k = 65535 then 0 else k) } := by
  unfold Block.retCounted
  dsimp only
  rw [Block.bead_modBead_self]
  split <;> rfl

theorem win_retCounted (p : Params) (n seg : Nat) (b : Block) (m v : Nat) :
    (b.retCounted p n seg).win m v = b.win m v := by
  unfold Block.retCounted
  dsimp only
  split
  · exact win_modBead _ n _ m v
  · exact win_modBead _ n _ m v

/-- R82, R223: `sendCpl` by its parts. -/
theorem sendCpl_eq (p : Params) (n w : Nat) (b : Block) :
    b.sendCpl p n w =
      if (b.win n w).released = false ∧ (b.win n w).piece = false then
        (b.cplOut p n w).retCounted p n (b.win n w).seg
      else b.cplOut p n w := by
  unfold Block.sendCpl Block.cplOut
  dsimp only
  cases (b.win n w).released
  · cases (b.win n w).piece
    · exact (retCounted_eq p n _ _).symm
    · rfl
  · rfl

/-- R82, R223: `sendCpl` lets the node leave, and moves no other entry, no bank and no order of issue. -/
theorem leaves_sendCpl (p : Params) (n w : Nat) (b : Block) :
    Leaves p b (b.sendCpl p n w) n w
      ∧ (∀ m v, ¬ (m = n ∧ v = w) → (b.sendCpl p n w).win m v = b.win m v)
      ∧ ((b.sendCpl p n w).bead n).bank = (b.bead n).bank
      ∧ ((b.sendCpl p n w).bead n).orderNext = (b.bead n).orderNext := by
  rw [sendCpl_eq]
  split
  · next hcounts =>
    have hbead := bead_retCounted p n (b.win n w).seg (b.cplOut p n w)
    rw [bead_cplOut] at hbead
    refine ⟨⟨?entry, ?lanes, fun g => ?count, ?retired⟩, fun m v hmv => ?others, ?bank, ?order⟩
    case entry => rw [win_retCounted, win_cplOut, if_pos ⟨rfl, rfl⟩]
    case lanes =>
      simp only [Block.retCounted, bead_cplOut, hcounts, and_self, true_and, Block.modBead_lanes]
      split
      · exact lanes_sendUp_congr p n _ (lanes_cplOut p n w b) (now_cplOut p n w b)
      · exact lanes_cplOut p n w b
    case count =>
      rw [hbead, tget_tset]
      simp only [hcounts, and_self, true_and, eq_comm (a := g)]
    case retired =>
      rw [← retired_cplOut p n w b]
      unfold Block.retCounted
      dsimp only
      split <;> rfl
    case others => rw [win_retCounted, win_cplOut, if_neg (otherEntry hmv)]
    case bank => rw [hbead]
    case order => rw [hbead]
  · next hcounts =>
    refine ⟨⟨?entry, ?lanes, fun g => ?count, retired_cplOut p n w b⟩, fun m v hmv => ?others, ?bank, ?order⟩
    case entry => rw [win_cplOut, if_pos ⟨rfl, rfl⟩]
    case lanes => rw [lanes_cplOut, if_neg (fun h => hcounts h.1)]
    case count => rw [bead_cplOut, if_neg (fun h => hcounts h.1)]
    case others => rw [win_cplOut, if_neg (otherEntry hmv)]
    case bank => rw [bead_cplOut]
    case order => rw [bead_cplOut]

theorem sendCpl_only (p : Params) (n w : Nat) (b : Block) :
    b.sendCpl p n w = { b with
      front := (b.sendCpl p n w).front, lanes := (b.sendCpl p n w).lanes, beads := (b.sendCpl p n w).beads
      lkt := (b.sendCpl p n w).lkt } :=
  (Block.sendCpl_frame p n w b).eq

/-- R223: the node at entry `w` of Bead `n` leaves once none of its decrements waits. -/
def Block.leaveOnceDone (p : Params) (n w : Nat) (b : Block) : Block :=
  if (b.bead n).bank.any fun t => t.1 == w then b else b.sendCpl p n w

/-- R223: the end of a node's turn, after its decrements have made `c` of `b` at the Beads alone: with none waiting the
node leaves, else it stays; nothing else moves. -/
structure TurnEnds (p : Params) (n w : Nat) (b c d : Block) : Prop where
  bank : (d.bead n).bank = (c.bead n).bank
  order : (d.bead n).orderNext = (c.bead n).orderNext
  others : ∀ m v, ¬ (m = n ∧ v = w) → d.win m v = c.win m v
  leaves : (∀ t, t ∈ (c.bead n).bank → t.1 ≠ w) → Leaves p b d n w
  stays : (¬ ∀ t, t ∈ (c.bead n).bank → t.1 ≠ w) → d.win n w = b.win n w ∧ d.lanes = b.lanes
  only : d = { b with front := d.front, lanes := d.lanes, beads := d.beads, lkt := d.lkt }

theorem turnEnds_leaveOnceDone (p : Params) {n w : Nat} {b c : Block} (hwin : c.win n w = b.win n w)
    (hret : (c.bead n).retCount = (b.bead n).retCount) (hrest : c = { b with beads := c.beads }) :
    TurnEnds p n w b c (c.leaveOnceDone p n w) := by
  have hany : ((c.bead n).bank.any fun t => t.1 == w) = true ↔ ¬ ∀ t, t ∈ (c.bead n).bank → t.1 ≠ w := by simp
  unfold Block.leaveOnceDone
  split
  · next hwaits =>
    exact ⟨rfl, rfl, fun _ _ _ => rfl, fun hnone => absurd hnone (hany.1 hwaits), fun _ => ⟨hwin, by rw [hrest]⟩,
      by rw [hrest]⟩
  · next hdone =>
    obtain ⟨hleaves, hothers, hbank, horder⟩ := leaves_sendCpl p n w c
    refine ⟨hbank, horder, hothers, fun _ => hleaves.of_before hwin hret hrest,
      fun hwaits => absurd (hany.2 hwaits) hdone, (sendCpl_only p n w c).trans ?_⟩
    rw [hrest]

/-! ### The commands -/

/-- R66. -/
theorem windowEdgesApply_full (p : Params) {n w : Nat} {b : Block} (hroom : b.roomUp p n = false) :
    windowEdgesApply p n w b = b := by
  simp [windowEdgesApply, hroom]

/-- R34, R223: the turn of a node that is leaving, none of whose decrements waits. -/
theorem windowEdgesApply_turn (p : Params) {n w : Nat} {b : Block} (hused : (b.win n w).used = true)
    (hstate : (b.win n w).state = .leaving) (hforms : (b.win n w).forms = 0) (hbank : (b.bead n).bank = [])
    (hroom : b.roomUp p n = true) (hself : w ∉ (b.win n w).edges) (hlow : ∀ x, x ∈ (b.win n w).edges → b.lowers n x) :
    ∃ c, BanksApplied n w (b.win n w).final [] (b.bead n).orderNext (b.win n w).edges b c
      ∧ TurnEnds p n w b c (windowEdgesApply p n w b) := by
  have h := banksApplied p n w (b.win n w).seg (b.win n w).final [] (b.bead n).orderNext (b.win n w).edges b
    (by simp [hbank]) fun x hx _ => hlow x hx
  refine ⟨_, h, ?_⟩
  have hwin := h.others n w fun _ i hget => absurd (List.mem_of_getElem? hget) hself
  have hturn := turnEnds_leaveOnceDone p hwin h.retCount h.only
  rw [windowEdgesApply]
  dsimp only
  rw [if_neg (by simp [hused, hstate, hforms, hbank, hroom])]
  exact hturn

/-- R34, R66: the bank takes the oldest decrement that waits for it, a node's last only if the crossing has room. -/
theorem bankDecrement_found (p : Params) {n k w x o : Nat} {st : Status} {b : Block}
    (h : (b.bead n).bank.find? (fun t => t.2.1 % 32 == k) = some (w, x, st, o)) :
    bankDecrement p n k b =
      if (∀ t, t ∈ (b.bead n).bank.erase (w, x, st, o) → t.1 ≠ w) ∧ b.roomUp p n = false then b
      else ((b.modBead n fun d => { d with bank := d.bank.erase (w, x, st, o) }).winDec p n x 1 (b.win n w).seg st
        o).leaveOnceDone p n w := by
  rw [bankDecrement, h]
  exact ite_congr (by simp) (fun _ => rfl) fun _ => rfl

/-- R34: a decrement that waited in its bank is taken, and its node has its turn. -/
theorem bankDecrement_turn (p : Params) {n k w x o : Nat} {st : Status} {b : Block}
    (hfind : (b.bead n).bank.find? (fun t => t.2.1 % 32 == k) = some (w, x, st, o))
    (hroom : (∀ t, t ∈ (b.bead n).bank.erase (w, x, st, o) → t.1 ≠ w) → b.roomUp p n = true) (hne : x ≠ w)
    (hlow : b.lowers n x) :
    ∃ c, LowersOne n x st o (b.modBead n fun d => { d with bank := d.bank.erase (w, x, st, o) }) c
      ∧ TurnEnds p n w b c (bankDecrement p n k b) := by
  have hwin := win_modBead b n fun d => { d with bank := d.bank.erase (w, x, st, o) }
  have h := lowersOne_winDec p (b.win n w).seg st o
    (b := b.modBead n fun d => { d with bank := d.bank.erase (w, x, st, o) }) ((Block.lowers_congr (hwin n x)).2 hlow)
  refine ⟨_, h, ?_⟩
  rw [bankDecrement_found p hfind, if_neg (fun hwait => by simp [hroom hwait.1] at hwait)]
  refine turnEnds_leaveOnceDone p ?_ ?_ ?_
  · rw [h.others n w (fun h => hne h.2.symm), hwin]
  · rw [h.retCount, Block.bead_modBead_self]
  · rw [h.only]; rfl

/-- Settles O33: each command by its own lemma; a node's turn by what the banks do in their first round, or with one
decrement that has waited. -/
theorem nodesLeaveTheirWindow : Obligations.NodesLeaveTheirWindow := by
  refine ⟨?nop, ?indirect, ?indirectFails, ?emptyList, ?list, ?edges, ?bank⟩
  case nop =>
    intro s n w hused hkind hstate hbrk hfenced htile hecc
    refine next_block ?_
    simp only [nopRetire, hused, hkind, hstate, hbrk, hfenced]
    exact (winEnds_noTile _ _ htile).trans (modWin_congr (WinEntry.ended_eq _ _ hecc))
  case indirect =>
    intro s n w k d r hread hused hdue hasked
    refine ⟨(s.blk.answerRead r 0).modWin n w.toNat (·.indirectBack k Status.ok d), next_block ?_, ?_,
      fun m v hmv => ?_, rfl⟩
    · refine (indirectReadReturn_due 0 d hread hused hdue).trans (indirectEnds_notAsked ?_)
      rw [Block.win_modWin_self]
      exact hasked
    · exact Block.win_modWin_self _ _ _ _
    · rw [Block.win_modWin, if_neg (otherEntry hmv), win_answerRead]
  case indirectFails =>
    intro s n w k code d r hread hused hdue hk hcode hasked hstate hfail _ hecc
    have hst : codeStatus Status.indirectFault code = if code = 1 then Status.ecc else Status.indirectFault :=
      if_neg hcode
    have hok : (if code = 1 then Status.ecc else Status.indirectFault) ≠ Status.ok := by split <;> decide
    generalize (if code = 1 then Status.ecc else Status.indirectFault) = st at hst hok ⊢
    refine ⟨_, next_block (indirectReadReturn_fails d hread hused hdue hk hst hok hasked hstate hfail), ?_⟩
    have hkept : ((s.blk.win n w.toNat).indirectBack k st d).eccBad = false := by
      rw [WinEntry.indirectBack, if_neg hok]
      exact hecc
    have hended := win_winEnds ((s.blk.answerRead r code).modWin n w.toNat (·.indirectBack k st d)) n w.toNat
      (firstFailure (s.blk.win n w.toNat).pstatus st) true n w.toNat
    rw [if_pos ⟨rfl, rfl⟩, Block.win_modWin_self, win_answerRead, WinEntry.ended_eq _ _ hkept] at hended
    refine ⟨by rw [hended], by rw [hended], by rw [hended], ?_⟩
    rw [(keepsBank_winEnds _ n w.toNat _ true).only, answerRead_only s.blk r code]
    rfl
  case emptyList =>
    intro s n w hused hfenced hstate htiles htile hdone hbrk hecc
    refine next_block ?_
    simp only [tileListRetire, hused, hfenced, hstate, htiles, htile, hdone, hbrk]
    exact (winEnds_noTile _ _ htile).trans (modWin_congr (WinEntry.ended_eq _ _ hecc))
  case list =>
    intro s n w k i t hused hfenced hstate htiles htile hback hnext hdone hpres hecc
    have hover : (s.blk.bead n).listOver w.toNat (s.blk.win n w.toNat) = true := by
      simp [Bead.listOver, htiles, htile, hback, hnext, hdone, hpres]
    have hruns : ((s.blk.win n w.toNat).state != .wready && (s.blk.win n w.toNat).state != .issued) = false := by
      rcases hstate with hstate | hstate <;> simp [hstate]
    refine next_block ?_
    simp only [tileListRetire, hused, hfenced, hruns, htiles, htile, hover]
    refine (winEnds_tile _ _ htile).trans (modWin_congr (WinEntry.ended_eq _ _ ?_))
    rw [win_modTile]
    exact hecc
  case edges =>
    intro s n w hused hstate hforms hbank e o
    refine ⟨fun hfull => next_block (windowEdgesApply_full _ hfull), fun hroom hself hlow => ?_⟩
    obtain ⟨c, h, hd⟩ := windowEdgesApply_turn s.params hused hstate hforms hbank hroom hself hlow
    refine ⟨windowEdgesApply s.params n w.toNat s.blk, rfl, ?_⟩
    generalize windowEdgesApply s.params n w.toNat s.blk = d at hd
    have hdbank : (d.bead n).bank = (waiting [] o e.edges).map fun t => (w.toNat, t.1, e.final, t.2) := by
      rw [hd.bank, h.bank, hbank, List.nil_append]
    have hmem (y a : Nat) (hy : (y, a) ∈ waiting [] o e.edges) : (w.toNat, y, e.final, a) ∈ (d.bead n).bank :=
      hdbank ▸ List.mem_map_of_mem (f := fun t => (w.toNat, t.1, e.final, t.2)) hy
    have hofMem (t) (ht : t ∈ (d.bead n).bank) : (t.2.1, t.2.2.2) ∈ waiting [] o e.edges ∧ t.1 = w.toNat
        ∧ t.2.2.1 = e.final := by
      obtain ⟨u, hu, rfl⟩ := List.mem_map.1 (hdbank ▸ ht)
      exact ⟨hu, rfl, rfl⟩
    refine ⟨fun t ht => ?elements, ?inOrder, ?howMany, fun i x hget hnot => ?taken, fun m v hmv hwait => ?others,
      ?order, fun hnone => ?leaves, fun hsome => ?stays, hd.only⟩
    case elements =>
      obtain ⟨hwait, hnode, hfinal⟩ := hofMem t ht
      exact ⟨hnode, hfinal, getElem?_of_mem_waiting hwait⟩
    case inOrder => rw [hdbank, List.pairwise_map]; exact pairwise_waiting _ _ _
    case howMany =>
      have hlen := length_waiting [] o e.edges (by simp)
      have hall : (e.edges.map (· % 32)).filter (· ∉ []) = e.edges.map (· % 32) :=
        List.filter_eq_self.2 fun _ _ => decide_eq_true List.not_mem_nil
      rw [hall, List.length_nil, Nat.zero_add, Nat.zero_add] at hlen
      rw [hdbank, List.length_map]
      omega
    case taken =>
      have hne : x ≠ w.toNat := fun he => hself (he ▸ List.mem_of_getElem? hget)
      rw [hd.others n x (fun h => hne h.2)]
      exact h.taken i x hget fun hw => hnot _ (hmem _ _ hw) rfl
    case others =>
      rw [hd.others m v hmv]
      refine h.others m v fun hm i hget => ?_
      obtain ⟨t, ht, hplace⟩ := hwait hm i hget
      obtain ⟨hw, -, -⟩ := hofMem t ht
      have hedge := (getElem?_of_mem_waiting hw).2
      rw [hplace, Nat.add_sub_cancel_left, hget] at hedge
      rwa [← Option.some.inj hedge, hplace] at hw
    case order => rw [hd.order, h.order]; exact Nat.max_eq_right (Nat.le_add_right _ _)
    case leaves => exact hd.leaves (by simp [← hd.bank, hnone])
    case stays =>
      obtain ⟨t, ht⟩ := List.exists_mem_of_ne_nil _ hsome
      exact hd.stays fun hall => hall t (hd.bank ▸ ht) (hofMem t ht).2.1
  case bank =>
    intro s n k w x o st hfind rest last
    refine ⟨fun hlast hfull => next_block ((bankDecrement_found _ hfind).trans (if_pos ⟨hlast, hfull⟩)),
      fun hroom hne hlow => ?_⟩
    obtain ⟨c, h, hd⟩ := bankDecrement_turn s.params hfind hroom hne hlow
    have hwin := win_modBead s.blk n fun d => { d with bank := d.bank.erase (w, x, st, o) }
    have hrest : (c.bead n).bank = rest := by rw [h.bank, Block.bead_modBead_self]
    refine ⟨bankDecrement s.params n k.toNat s.blk, rfl, hd.bank.trans hrest, ?lowered, fun m v hmv => ?others,
      fun hlast => hd.leaves (by rwa [hrest]), fun hmore => hd.stays (by rwa [hrest]), hd.only⟩
    case lowered => rw [hd.others n x (fun h => hne h.2), h.self, hwin]
    case others => rw [hd.others m v (fun h => hmv ⟨h.1, .inl h.2⟩), h.others m v (fun h => hmv ⟨h.1, .inr h.2⟩), hwin]

end Sys2Proof.Machine
end

section
/-! SUPPORT. The registers under a lock (R112, R456): what a write makes of them, and that no command but cold reset
changes them in any other way. -/

namespace Sys2Proof.Machine

/-- What a lock guards of the registers `k` stands in `k'` as it stood (R112, R456). -/
def Keys.Guarded (k k' : Keys) : Prop :=
  (k.locked = true → k'.hash = k.hash ∧ k'.cfg = k.cfg) ∧ (k.audLocked = true → k'.audPart = k.audPart)

theorem Keys.Guarded.refl (k : Keys) : k.Guarded k := ⟨fun _ => ⟨rfl, rfl⟩, fun _ => rfl⟩

theorem Keys.Guarded.of_eq {k k' : Keys} (h : k' = k) : k.Guarded k' := h ▸ .refl k

/-- Each LOCK is a bit of a register that it guards, so it stays set. -/
theorem Keys.Guarded.locked {k k' : Keys} (h : k.Guarded k') (hk : k.locked = true) : k'.locked = true := by
  rwa [Keys.locked, (h.1 hk).2]

theorem Keys.Guarded.audLocked {k k' : Keys} (h : k.Guarded k') (hk : k.audLocked = true) : k'.audLocked = true := by
  rwa [Keys.audLocked, h.2 hk]

/-- A write moves one register, and that only where its lock is open. -/
theorem Keys.guarded_write (k : Keys) (r : Reg) (d : Word) : k.Guarded (k.write r d) := by
  unfold Keys.write
  split
  · split
    · exact .refl k
    · next hopen => exact ⟨fun h => absurd h hopen, fun _ => rfl⟩
  · split
    · exact .refl k
    · next hopen => exact ⟨fun h => absurd h hopen, fun _ => rfl⟩
  · split
    · exact .refl k
    · next hopen => exact ⟨fun _ => ⟨rfl, rfl⟩, fun h => absurd h hopen⟩
  · exact .refl k

/-! ### Accesses -/

/-- The registers under a lock after an access: as they stood, or as what it performs left them. -/
theorem access_keys (s : State) (a : Acc) (r : Reg) (w : Bool) (f : State → State × Word) :
    (s.access a r w f).keys = s.keys ∨ (s.access a r w f).keys = (f s).1.keys := by
  obtain h | h | h | ⟨u, h⟩ | h := access_cases s a r w f <;> rw [h]
  · exact .inl rfl
  · exact .inl rfl
  · exact .inl rfl
  · exact .inl rfl
  · exact .inr rfl

/-- An access whose performance leaves these registers alone. -/
theorem access_keys_of_eq {s : State} (a : Acc) (r : Reg) (w : Bool) {f : State → State × Word}
    (hf : (f s).1.keys = s.keys) : (s.access a r w f).keys = s.keys :=
  (access_keys s a r w f).elim id (·.trans hf)

theorem command_keys (s : State) (a : Acc) (r : Reg) (f : Params → Block → Block) :
    (s.command a r f).keys = s.keys :=
  access_keys_of_eq a r true rfl

theorem noRegister_keys (s : State) : s.noRegister.keys = s.keys := by
  unfold State.noRegister
  split <;> rfl

theorem readEffect_keys (s : State) (r : Reg) : (s.readEffect r).1.keys = s.keys := by
  unfold State.readEffect
  split <;> rfl

theorem readAt_keys (s : State) (a : Acc) (off : Nat) (size64 : Bool) : (s.readAt a off size64).keys = s.keys := by
  unfold State.readAt
  split
  · exact noRegister_keys s
  · next r upper _ =>
    refine access_keys_of_eq a r false ?_
    dsimp only
    split
    · rfl
    · split <;> exact readEffect_keys s r

/-- A write by offset can reach a register under a lock, and then does what `Keys.write` says. -/
theorem writeAt_keys_guarded (s : State) (a : Acc) (off : Nat) (size64 : Bool) (d : Word) :
    s.keys.Guarded (s.writeAt a off size64 d).keys := by
  unfold State.writeAt
  split
  · exact .of_eq (noRegister_keys s)
  · next r upper _ =>
    obtain h | h := access_keys s a r true _
    · exact .of_eq h
    · rw [State.writeReg, h]
      split
      · exact s.keys.guarded_write r _
      · split
        · exact .refl _
        · exact s.keys.guarded_write r _

/-! ### The debug port and the inputs -/

theorem input_keys (s : State) (f : Block → Block) : (s.input f).keys = s.keys := by
  unfold State.input
  split <;> rfl

theorem settle_keys (s : State) : s.settle.keys = s.keys := by
  unfold State.settle
  split
  · rfl
  · dsimp only
    split <;> rfl

theorem claspUpdate_keys (s : State) (off : Nat) (write : Bool) (d : Word) :
    (s.claspUpdate off write d).keys = s.keys := by
  unfold State.claspUpdate
  split
  · split <;> rfl
  · split
    · rfl
    · split
      · rfl
      · exact settle_keys _

theorem claspCapture_keys (s : State) : s.claspCapture.keys = s.keys := by
  unfold State.claspCapture
  dsimp only
  split <;> exact settle_keys s

theorem beadShift_keys (s : State) (n : Nat) (g : BeadSegment) : (s.beadShift n g).keys = s.keys := by
  unfold State.beadShift
  split <;> rfl

theorem beadUpdate_keys (s : State) (n ring entry word : Nat) : (s.beadUpdate n ring entry word).keys = s.keys := by
  unfold State.beadUpdate
  split
  · rfl
  · split <;> rfl

theorem beadCapture_keys (s : State) (n : Nat) : (s.beadCapture n).keys = s.keys := by
  unfold State.beadCapture
  split <;> rfl

/-! ### Commands -/

/-- What the outcome of a command keeps under a lock, where it answers the state `u`. -/
theorem Keys.Guarded.next {k : Keys} {t u : State} (hu : k.Guarded u.keys)
    (h : (.next u : Host.Outcome State Fault Refusal) = .next t) : k.Guarded t.keys := by
  cases h
  exact hu

/-- A command that changes the block alone, changes no register under a lock. -/
theorem Keys.Guarded.nextBlock {s t : State} {b : Block}
    (h : (.next { s with blk := b } : Host.Outcome State Fault Refusal) = .next t) : s.keys.Guarded t.keys :=
  Keys.Guarded.next (u := { s with blk := b }) (.refl _) h

/-- No command but cold reset changes what a lock guards: the writes by offset keep to the locks, and the others reach
none of these registers. -/
theorem exec_keys_guarded {c : Instr} {s t : State} (h : exec c s = .next t) (hc : c ≠ .coldResetAssert) :
    s.keys.Guarded t.keys := by
  cases c with
  | coldResetAssert => exact absurd rfl hc
  | storageInitDone =>
    refine Keys.Guarded.next ?_ h
    split <;> exact .refl _
  | tapReset =>
    refine Keys.Guarded.next ?_ h
    exact .refl _
  | claspSegmentUpdate => exact Keys.Guarded.next (.of_eq (claspUpdate_keys (s.claspShift _ _ _) _ _ _)) h
  | beadSegmentUpdate =>
    exact Keys.Guarded.next (.of_eq ((beadUpdate_keys _ _ _ _ _).trans (beadShift_keys s _ _))) h
  | segmentCapture bead =>
    cases bead with
    | none => exact Keys.Guarded.next (.of_eq (claspCapture_keys s)) h
    | some n => exact Keys.Guarded.next (.of_eq (beadCapture_keys s n)) h
  | registerWrite | splitWriteLowerHalf | splitWriteUpperHalf =>
    exact Keys.Guarded.next (writeAt_keys_guarded s _ _ _ _) h
  | splitReadLowerHalf | unreachableRead => exact Keys.Guarded.next (.of_eq (readAt_keys s _ _ _)) h
  | chnPop | evcTgtClaim | evcSync => exact Keys.Guarded.next (.of_eq (access_keys_of_eq _ _ _ rfl)) h
  | setStart | setAbort | qEnable | qDisable | qForce | qCmdInvalid | doorbellWrite | unbind | pop | clrLost
  | sweep | clrErr | fncAlloc | fncFree | fncClear | fncClrCount | fncCmdInvalid | expCfgWrite | join | cancel
  | sqtCmdInvalid | poolConfigWrite | cqEnable | cqDisable | cqResume | cqCmdInvalid | cqCfgWrite
  | peerEntryWrite | selfWrite | clr | chnTxHdr | chnTxData | drop | partEnable | partDisable | partForce
  | partYield | partCmdInvalid | ctxRegister | ctxRelease | ctxReset | ctxAck | ctxCmdInvalid | beadEnable
  | beadDisable | beadForce | beadCmdInvalid | evcTgtComplete | evcSwi | evcPclr | evcPendWrite | evcMaskWrite
  | evcSrcCfgWrite | audRegionWrite | traceStart | traceStop | traceTrigger | traceClrLost | traceCmdInvalid
  | traceHeadWrite | halt | resume | lktCmdInvalid | domainOn | domainOff | domCmdInvalid | eccClr | fenceBead
  | bdErrClr => exact Keys.Guarded.next (.of_eq (command_keys s _ _ _)) h
  | engineCompletion | externalEventLevel | eccCorrectable | eccUncorrectable =>
    exact Keys.Guarded.next (.of_eq (input_keys s _)) h
  | scrub => exact Keys.Guarded.next (.refl _) h
  | domainLoss d m =>
    change (if d = 0 then Host.Outcome.fault Fault.coreDomainLost else if domains s.params ≤ d then .next s
      else .next { s with blk := _ }) = .next t at h
    split at h
    · cases h
    · split at h
      · exact Keys.Guarded.next (.refl _) h
      · exact Keys.Guarded.nextBlock h
  | _ => exact Keys.Guarded.nextBlock h

/-- Settles O6, by what a write makes of a register under a lock and by what every other command leaves alone. -/
theorem locksHoldUntilColdReset : Obligations.LocksHoldUntilColdReset := by
  intro c s t h hc
  have hk := exec_keys_guarded h hc
  refine ⟨fun hlock => ?_, fun hlock => ⟨hk.2 hlock, hk.audLocked hlock⟩⟩
  obtain ⟨hhash, hcfg⟩ := hk.1 hlock
  exact ⟨hhash, hcfg, hk.locked hlock⟩

end Sys2Proof.Machine
end

section
/-! SUPPORT. A refused PARTITION_CTL node, and the state that refutes the statement on the commands of a partition. -/

namespace Sys2Proof.Machine

/-- PARTITION_CTL leaves the block that `partitionCtl` gives. -/
theorem partitionCtl_of_exec {s : State} {g i : Nat} {m : MemView} {b : Block}
    (h : exec (.partitionCtl g i m) s = .next { s with blk := b }) : partitionCtl s.params g i m s.blk = b :=
  congrArg State.blk (Host.Outcome.next.inj h)

/-- Submission 0 of an enabled partition, whose PARTITION_CTL node 0 is READY. Its node 1 is UNTOUCHED (R215), and yet
the entry says that it stands in the pager region. The pager spills no entry that is not in use (`Block.spillVictim`),
but the statement speaks of every state. -/
def unusedSpilled : State :=
  { State.reset with blk :=
    { graph := { subs := [(0,
        { live := true, nnodes := 2, nblk := 1
          nodes := [(0, { used := true, kind := 7, state := .ready, record := 0x40 }),
                    (1, { spilled := true, slots := [0] })] })] }
      parts := { parts := [(0, { state := .enabled, resident := some 0 })], ctxs := [(0, { state := .resident })] } } }

/-- The segment of that submission: node 0 is a PARTITION_CTL with OP 0, which R405 does not accept, and its one
successor is node 1, a WAIT with NPRED 1. -/
def refusedSegment : MemView :=
  { words := [(0x40, 7), (0x48, 0x100000000), (0x50, 2), (0x80, 0x10003), (0xC0, 1)] }

/-- The one edge of node 0 reaches node 1: its entry is created when the list is read (R217), in the cache. -/
theorem edgesReach_unusedSpilled : EdgesReach unusedSpilled.params unusedSpilled.blk refusedSegment 0 0 := by
  have hedges : unusedSpilled.blk.claspEdges unusedSpilled.params refusedSegment 0 0 = [1] := by decide +kernel
  have hlist : (unusedSpilled.blk.claspList unusedSpilled.params refusedSegment 0 0).1 = Status.ok := by decide +kernel
  have hroom : unusedSpilled.blk.pgEntries + 1 ≤ unusedSpilled.params.nodeCache := by decide +kernel
  have hparent : (unusedSpilled.blk.node 0 0).parent = none := by decide
  have hsucc : ((unusedSpilled.blk.listed unusedSpilled.params refusedSegment 0 0).node 0 1).used = true
      ∧ ((unusedSpilled.blk.listed unusedSpilled.params refusedSegment 0 0).node 0 1).spilled = false
      ∧ ((unusedSpilled.blk.listed unusedSpilled.params refusedSegment 0 0).node 0 1).count = 1 := by decide +kernel
  obtain ⟨hused, hcached, hcount⟩ := hsucc
  unfold EdgesReach
  rw [hedges]
  refine ⟨hlist, rfl, ⟨rfl, rfl, hroom⟩, rfl, rfl, by decide, fun e he => ?_, fun j hj => ?_⟩
  · rw [hparent] at he
    cases he
  · obtain rfl := List.mem_singleton.1 hj
    exact ⟨hused, hcached, List.not_mem_nil, .inr (Nat.le_of_eq hcount.symm)⟩

/-- While node 0 reads its list, the pager is asked to refill the entry that node 1 only claims to have (R236). -/
theorem heldReads_partitionCtl_unusedSpilled :
    (partitionCtl unusedSpilled.params 0 0 refusedSegment unusedSpilled.blk).mp.heldReads =
      [{ port := 63, id := 0, cls := 1, addr := 0, len := 32, purpose := .refill 0 1 }] := by decide +kernel

/-- Refutes O51: of the memory ports, a refused PARTITION_CTL node may change the record of an error alone, in every
state. In `unusedSpilled` its list asks for the refill of an entry that is not in use. -/
theorem not_partitionCommandsTakeEffect : ¬ Obligations.PartitionCommandsTakeEffect := by
  rintro ⟨-, hnode, -, -⟩
  have hact : unusedSpilled.blk.gate 0 0 = .act := by decide +kernel
  obtain ⟨b, hexec, -, -, hframe⟩ :=
    (hnode unusedSpilled 0 0 refusedSegment rfl (by decide) hact edgesReach_unusedSpilled).1
      (by decide +kernel)
  have hnone : b.mp.heldReads = [] := congrArg (·.mp.heldReads) hframe
  rw [← partitionCtl_of_exec hexec, heldReads_partitionCtl_unusedSpilled] at hnone
  cases hnone

end Sys2Proof.Machine
end

section
/-! SUPPORT. An uncorrectable error of a Saffron unit's tiles or program (R336, R513), and the state that refutes the
statement on errors of the arrays. -/

namespace Sys2Proof.Machine

/-- R336, R17: a program that fails leaves its expansion with the failure that was detected first. -/
theorem exp_saf_progFail (b : Block) (n pc cause : Nat) (st : Status) :
    ((b.progFail n pc cause st).saf n).exp =
      (b.saf n).exp.map fun x => { x with fail := some (x.fail.getD st), stage := .retiring } := by
  simp only [Block.progFail, Block.expFail, Block.modExp, Block.saf_modSaf_self]
  congr 1
  funext x
  cases x.fail <;> rfl

/-- The outcome table of R513: a row of ARRAY 0x14 is the Saffron unit's, whatever it held. -/
theorem eccOutcome_saffron (p : Params) (m : MemView) (b : Block) (u : Nat) (h : EccHeld) :
    b.eccOutcome p m u 0x14 h = b.saffronEcc u := by
  cases h <;> rfl

/-- R513: to count, record and announce an error leaves the Saffron units alone; what the error makes of the unit is
its outcome. -/
theorem exp_saf_eccUncorrectable {b : Block} {u : Nat} (hbusy : (b.saf u).busy = true) (p : Params) (row : Nat)
    (h : EccHeld) (m : MemView) :
    ((eccUncorrectable p u 0x14 row h m b).saf u).exp =
      (b.saf u).exp.map fun x => { x with fail := some (x.fail.getD Status.ecc), stage := .retiring } := by
  have hlog : ∀ b' : Block, (b'.eccLog u 0x14 row).saf u = b'.saf u := fun _ => rfl
  have houtcome : ∀ b' : Block, b'.saf u = b.saf u → ((b'.eccOutcome p m u 0x14 h).saf u).exp =
      (b.saf u).exp.map fun x => { x with fail := some (x.fail.getD Status.ecc), stage := .retiring } := by
    intro b' hsaf
    rw [eccOutcome_saffron, Block.saffronEcc, hsaf, if_pos hbusy, exp_saf_progFail, hsaf]
  refine houtcome _ ?_
  split
  · rw [Block.saf_raise, hlog]
    rfl
  · rw [Block.saf_sendUp, Block.saf_beadLocket, hlog]
    rfl

/-- ECC_UNCORRECTABLE out of cold reset leaves the block that `eccUncorrectable` gives. -/
theorem eccUncorrectable_of_exec {s : State} {u : Nat} {a : BitVec 8} {r : BitVec 24} {h : EccHeld} {m : MemView}
    {b : Block} (hreset : s.blk.inReset = false)
    (hexec : exec (.eccUncorrectable u a r h m) s = .next { s with blk := b }) :
    eccUncorrectable s.params u a.toNat r.toNat h m s.blk = b := by
  change Host.Outcome.next (s.input _) = _ at hexec
  rw [input_run hreset] at hexec
  exact congrArg State.blk (Host.Outcome.next.inj hexec)

/-- An expansion whose program runs. -/
def runningExpansion : Expansion := { stage := .running }

/-- It runs on Bead 0. -/
def runningUnit : Block := { saffron := [(0, { busy := true, exp := some runningExpansion })] }

/-- Its program has failed with FORMAT (R334, R336), and EXPANSION_RETIRE (R292) is still to come. -/
def failedUnit : State := { State.reset with blk := runningUnit.progFail 0 0 4 Status.format }

/-- The expansion in `failedUnit`. -/
def failedExpansion : Expansion := { runningExpansion with fail := some Status.format, stage := .retiring }

theorem exp_saf_failedUnit : (failedUnit.blk.saf 0).exp = some failedExpansion := exp_saf_progFail _ _ _ _ _

/-- Refutes O60: its clause on array 0x14 gives every expansion in a unit ECC_UNCORRECTABLE as its failure. The one in
`failedUnit` has failed before with FORMAT, and the model keeps the failure that was detected first. -/
theorem not_arrayErrorsTakeTheirOutcome : ¬ Obligations.ArrayErrorsTakeTheirOutcome := by
  rintro ⟨-, huncorr, -⟩
  obtain ⟨b, hexec, -, -, -, -, -, -, -, -, -, -, hsaffron, -⟩ :=
    huncorr failedUnit 0 0x14 0 .none {} rfl (by decide)
  have hclaim : (b.saf 0).exp = some { failedExpansion with fail := some Status.ecc, stage := .retiring } :=
    congrArg Saffron.exp (hsaffron failedExpansion exp_saf_failedUnit rfl)
  have hmodel : (b.saf 0).exp = some failedExpansion := by
    rw [← eccUncorrectable_of_exec rfl hexec]
    exact (exp_saf_eccUncorrectable rfl _ _ _ _).trans (by rw [exp_saf_failedUnit]; rfl)
  have hfail : some Status.ecc = some Status.format :=
    congrArg Expansion.fail (Option.some.inj (hclaim.symm.trans hmodel))
  exact absurd hfail (by decide)

end Sys2Proof.Machine
end

section
/-! SUPPORT. The selections of one bc (R266) and the tile that a tile list dispatches (R270), and the state that refutes
the statement on selection. -/

namespace Sys2Proof.Machine

/-! ### The selections of one bc -/

/-- R275: before the next multiple of 64 ns no bucket gains. -/
theorem regulatorRefill_early {b : Block} (h : b.now / 64 = b.refilled / 64) : regulatorRefill b = b :=
  if_pos (by rw [h, Nat.sub_self])

/-- R518: where no node has lost its slots, none is released. -/
theorem releaseLost_none {p : Params} {b : Block} {n : Nat} (h : ∀ t ∈ (b.bead n).win, b.slotLost p n t.1 = false) :
    b.releaseLost p n = b := by
  unfold Block.releaseLost
  generalize hl : ((b.bead n).win.filter _).map _ = l
  have hkept : ∀ w ∈ l, b.slotLost p n w = false := by
    intro w hw
    obtain ⟨t, ht, rfl⟩ := List.mem_map.1 (hl ▸ hw)
    exact h t (List.mem_filter.1 ht).1
  clear hl
  induction l with
  | nil => rfl
  | cons w l ih =>
    rw [List.foldl_cons, if_pos (by simp [hkept w])]
    exact ih fun v hv => hkept v (.tail _ hv)

/-- R502: with its Saffron domain on, no EXPAND node waits for it. -/
theorem expandWaits_on {b : Block} {n : Nat} (h : (b.dom (9 + 2 * n)).state = .on) : b.expandWaits n = b := by
  simp [Block.expandWaits, h]

/-- R266: a Bead in RUN, none of whose buckets gains and none of whose nodes is released, selects twice. -/
theorem issueSelect_twice {p : Params} {b : Block} {n : Nat} (hopen : (b.bead n).fencedOff = false)
    (hrun : (b.bead n).mode = .run) (hon : (b.dom (9 + 2 * n)).state = .on) (hearly : b.now / 64 = b.refilled / 64)
    (hkept : ∀ t ∈ (b.bead n).win, b.slotLost p n t.1 = false) :
    issueSelect p n b = (b.select p n).select p n := by
  simp [issueSelect, hopen, hrun, regulatorRefill_early hearly, releaseLost_none hkept, expandWaits_on hon]

/-! ### One dispatch of a tile list -/

/-- The block in which the submission of the node at `w` has started. -/
def Block.starting (b : Block) (n w : Nat) : Block :=
  if (b.win n w).piece then b else b.modSub (b.win n w).seg fun s => { s with started := true }

@[simp] theorem Block.bead_starting (b : Block) (n w m : Nat) : (b.starting n w).bead m = b.bead m := by
  unfold Block.starting
  split <;> rfl

@[simp] theorem Block.win_starting (b : Block) (n w m v : Nat) : (b.starting n w).win m v = b.win m v := by
  rw [Block.win, Block.bead_starting, Block.win]

/-- R266: the selection of a TASK or COLL node presents its dispatch on the slot chosen. -/
theorem select_presents {p : Params} {b : Block} {n w i : Nat} (hsel : b.selection p n = some w)
    (hkind : (b.win n w).kind ≠ 2) (hslot : (b.starting n w).chooseSlot p n w = some i) :
    b.select p n = (b.starting n w).present n w i := by
  unfold Block.starting at hslot ⊢
  simp only [Block.select, hsel, if_neg hkind, hslot]

/-- R270: what a dispatch of a tile list leaves of the Bead's tile counters. -/
theorem tiles_present {b : Block} {n w i k : Nat} (htiles : (b.win n w).tiles = some k) :
    ((b.present n w i).bead n).tiles = ((b.fetchTile n w k).bead n).tiles := by
  simp only [Block.present, htiles, Block.modWin, Block.bead_modBead_self, Block.fetchTile, Bead.tileOf, Bead.freeTile,
    Block.modSlot, Block.modTile, Bead.charge]
  split
  · simp
  · split <;> simp

/-- R270: a tile list that has dispatched tiles, none of which has been withdrawn, increments NEXT. -/
theorem tile_fetchTile {b : Block} {n w k j : Nat} {t : Tile} (htile : (b.bead n).tileOf w = some (j, t))
    (hback : (tget {} (b.bead n).tiles j).back = []) :
    tget {} ((b.fetchTile n w k).bead n).tiles j =
      { tget {} (b.bead n).tiles j with next := (tget {} (b.bead n).tiles j).next + 1 } := by
  simp only [Block.fetchTile, htile, Block.modTile, Block.bead_modBead_self, tget_tmod_self, hback]

/-- R266, R270: the selection of such a tile list increments its NEXT. -/
theorem tile_select {p : Params} {b : Block} {n w i k j : Nat} {t : Tile} (hsel : b.selection p n = some w)
    (hkind : (b.win n w).kind ≠ 2) (htiles : (b.win n w).tiles = some k)
    (hslot : (b.starting n w).chooseSlot p n w = some i) (htile : (b.bead n).tileOf w = some (j, t))
    (hback : (tget {} (b.bead n).tiles j).back = []) :
    tget {} ((b.select p n).bead n).tiles j =
      { tget {} (b.bead n).tiles j with next := (tget {} (b.bead n).tiles j).next + 1 } := by
  have hfetched : tget {} (((b.starting n w).fetchTile n w k).bead n).tiles j = _ :=
    tile_fetchTile (by rwa [Block.bead_starting]) (by rwa [Block.bead_starting])
  rw [select_presents hsel hkind hslot, tiles_present (by rwa [Block.win_starting]), hfetched, Block.bead_starting]

/-! ### A tile list that has lost its second slot -/

/-- A tile list of two tiles whose fixed slots are 0 and 1 (R268, R270). -/
def twoTiles : WinEntry :=
  { used := true, state := .wready, param := [0, 0, 0, 0, 0, 0, 0x8000000000000002], fixed := [0, 1] }

/-- It stands in the window of Bead 0, which is deterministic. Slot 1 has been disabled since the node came, slot 0 has
not. -/
def secondSlotLost : State :=
  { State.reset with blk :=
    { graph := { subs := [(0, { live := true, nnodes := 1 })] }
      parts := { parts := [(0, { state := .enabled, resident := some 0 })], ctxs := [(0, { state := .resident })] }
      beads := [(0, { det := true, win := [(0, twoTiles)], slots := [(0, { cfg := { enabled := true } })] })] } }

/-- The block between the two selections of the bc: tile 0 has gone to slot 0. -/
def firstTileOut : Block := secondSlotLost.blk.select secondSlotLost.params 0

theorem win_secondSlotLost {v : Nat} (hv : v ≠ 0) : secondSlotLost.blk.win 0 v = {} :=
  if_neg (Ne.symm hv)

theorem slot_secondSlotLost {j : Nat} (hj : j ≠ 0) : secondSlotLost.blk.slot 0 j = {} :=
  if_neg (Ne.symm hj)

/-- R518: the node has not lost the slot of its next tile, so it stays. -/
theorem slotLost_secondSlotLost : secondSlotLost.blk.slotLost secondSlotLost.params 0 0 = false := by decide +kernel

/-- R266: it can be selected, for slot 0. -/
theorem selectable_secondSlotLost : secondSlotLost.blk.selectable secondSlotLost.params 0 0 = true
    ∧ secondSlotLost.blk.chooseSlot secondSlotLost.params 0 0 = some 0 := by decide +kernel

/-- No other node can be selected. -/
theorem not_selectable_secondSlotLost {v : Nat} (hv : v ≠ 0) :
    secondSlotLost.blk.selectable secondSlotLost.params 0 v ≠ true := by
  simp [Block.selectable, win_secondSlotLost hv]

/-- With tile 0 out the list has a tile counter and is selected again, and the fixed slot of tile 1 is taken as it
stands: slot 1, which no node may use (R518). -/
theorem selection_firstTileOut : firstTileOut.selection secondSlotLost.params 0 = some 0
    ∧ (firstTileOut.starting 0 0).chooseSlot secondSlotLost.params 0 0 = some 1
    ∧ (firstTileOut.win 0 0).kind ≠ 2 ∧ (firstTileOut.win 0 0).tiles = some 2
    ∧ (firstTileOut.bead 0).tiles = [(0, { used := true, win := 0, n := 2, next := 1 })] := by decide +kernel

/-- Both tiles go out in one bc. -/
theorem tile_issueSelect_secondSlotLost :
    tget {} ((issueSelect secondSlotLost.params 0 secondSlotLost.blk).bead 0).tiles 0 =
      { used := true, win := 0, n := 2, next := 2 } := by
  obtain ⟨hsel, hslot, hkind, htiles, hcounter⟩ := selection_firstTileOut
  have htile : (firstTileOut.bead 0).tileOf 0 = some (0, { used := true, win := 0, n := 2, next := 1 }) := by
    rw [Bead.tileOf, hcounter]
    rfl
  have htget : tget {} (firstTileOut.bead 0).tiles 0 = { used := true, win := 0, n := 2, next := 1 } := by
    rw [hcounter]
    rfl
  have hkept : ∀ t ∈ (secondSlotLost.blk.bead 0).win,
      secondSlotLost.blk.slotLost secondSlotLost.params 0 t.1 = false := by
    intro t ht
    obtain rfl := List.mem_singleton.1 ht
    exact slotLost_secondSlotLost
  rw [issueSelect_twice rfl rfl rfl rfl hkept]
  exact (tile_select hsel hkind htiles hslot htile (by rw [htget])).trans (by rw [htget])

/-- ISSUE_SELECT leaves the block that `issueSelect` gives. -/
theorem issueSelect_of_exec {s : State} {n : Nat} {b : Block}
    (h : exec (.issueSelect n) s = .next { s with blk := b }) : issueSelect s.params n s.blk = b :=
  congrArg State.blk (Host.Outcome.next.inj h)

/-- Refutes O34: where every other slot that is enabled is taken, a tile list is to dispatch one tile in a bc, so that
the counter it takes has NEXT 1. The list in `secondSlotLost` dispatches a second one, to the slot that it has lost: the
model looks for lost slots before the first selection alone (`Block.releaseLost`), and a fixed slot that can take a
dispatch is taken whether it is enabled or not (`Block.chooseSlot`). -/
theorem not_theEarliestNodeIsIssued : ¬ Obligations.TheEarliestNodeIsIssued := by
  rintro ⟨-, hselect, -⟩
  obtain ⟨hsel, hslot⟩ := selectable_secondSlotLost
  have hearly : regulatorRefill secondSlotLost.blk = secondSlotLost.blk := regulatorRefill_early rfl
  have hkept (v : Nat) (hused : (secondSlotLost.blk.win 0 v).used = true) :
      secondSlotLost.blk.slotLost secondSlotLost.params 0 v = false := by
    by_cases hv : v = 0
    · exact hv ▸ slotLost_secondSlotLost
    · rw [win_secondSlotLost hv] at hused
      cases hused
  obtain ⟨hdispatch, -⟩ := hselect secondSlotLost 0 0 rfl rfl rfl rfl (fun v hused _ _ => hkept v hused)
    (by rw [hearly]; exact hsel)
    (fun v hv hother => absurd (by rwa [hearly] at hother) (not_selectable_secondSlotLost hv))
  obtain ⟨b, hexec, -, -, -, hlist, -⟩ := hdispatch 0 (by decide) hslot
  have halone (j : Nat) (hj : j ≠ 0) (hcfg : (secondSlotLost.blk.slot 0 j).cfg.enabled = true) :
      secondSlotLost.blk.canTake 0 j = false := by
    rw [slot_secondSlotLost hj] at hcfg
    cases hcfg
  obtain ⟨j, hfree, htaken, -⟩ := hlist halone 2 (by decide +kernel) rfl rfl
  have hlowest : (secondSlotLost.blk.bead 0).freeTile = some 0 := by decide +kernel
  obtain rfl : 0 = j := Option.some.inj (hlowest.symm.trans hfree)
  rw [← issueSelect_of_exec hexec, tile_issueSelect_secondSlotLost] at htaken
  exact absurd (congrArg Tile.next htaken) (by decide)

end Sys2Proof.Machine
end

section
/-! SUPPORT. Reads that meet errors (R51) and reads that meet none, and how an expansion starts: its argument block, the
checks of R285, R286 and R289, the creations of mode 3, and the start of its program (R310, R311, R336). -/

namespace Sys2Proof.Machine

/-! ### Reads and their errors (R51, R525) -/

/-- From `b` to `b'` nothing but CLS_MP_ERR, the pending bits and the trace writer has moved: errors of reads have been
recorded. -/
def RecordsErrors (b b' : Block) : Prop :=
  ∃ m v t, b' = { b with mp := m, evc := { b.evc with pend := v }, trace := t }

theorem RecordsErrors.refl (b : Block) : RecordsErrors b b := ⟨_, _, _, rfl⟩

theorem RecordsErrors.trans {a b c : Block} (h : RecordsErrors a b) (g : RecordsErrors b c) : RecordsErrors a c := by
  obtain ⟨m, v, t, rfl⟩ := h
  obtain ⟨m', v', t', rfl⟩ := g
  exact ⟨m', v', t', rfl⟩

theorem RecordsErrors.foldl {α : Type} {f : Block → α → Block} (hf : ∀ b x, RecordsErrors b (f b x)) (l : List α)
    (b : Block) : RecordsErrors b (l.foldl f b) := by
  induction l generalizing b with
  | nil => exact .refl b
  | cons x l ih => exact (hf b x).trans (ih _)

theorem recordsErrors_mpError (b : Block) (port : Nat) (write : Bool) (cls addr : Nat) (code : BitVec 2) (id : Nat) :
    RecordsErrors b (b.mpError port write cls addr code id) := by
  have hraise (m : Mp) : RecordsErrors b (Block.raise { b with mp := m } 1) := by
    obtain ⟨v, t, h⟩ := pendsAndTraces_raise { b with mp := m } 1
    exact ⟨m, v, t, h⟩
  unfold Block.mpError
  dsimp only
  split
  · exact hraise _
  · exact hraise _

theorem recordsErrors_viewErrors (b : Block) (port cls : Nat) (m : MemView) (a k : Nat) :
    RecordsErrors b (b.viewErrors port cls m a k) :=
  .foldl (fun b _ => recordsErrors_mpError b _ _ _ _ _ _) _ b

theorem recordsErrors_foldl_viewErrors (b : Block) (port cls : Nat) (m : MemView) (l : List (Nat × Nat)) :
    RecordsErrors b (l.foldl (fun b t => b.viewErrors port cls m t.1 t.2) b) :=
  .foldl (fun b _ => recordsErrors_viewErrors b port cls m _ _) l b

theorem recordsErrors_areaErrors (b : Block) (n : Nat) (m : MemView) (l : List (Nat × Nat)) :
    RecordsErrors b (b.areaErrors n m l) :=
  recordsErrors_foldl_viewErrors b n 4 m l

theorem RecordsErrors.saf {b c : Block} (h : RecordsErrors b c) (n : Nat) : c.saf n = b.saf n := by
  obtain ⟨m, v, t, rfl⟩ := h
  rfl

/-- The lowest of several failures is a failure, or OK where there is none (R17). -/
theorem lowestStatus_ok_or_failure (l : List Status) :
    lowestStatus l = Status.ok ∨ isFailure (lowestStatus l) = true := by
  induction l with
  | nil => exact .inl rfl
  | cons s l ih =>
    simp only [lowestStatus]
    split
    · next hs =>
      right
      split
      · split
        · exact hs
        · assumption
      · exact hs
    · exact ih

theorem not_isFailure_of_lowestStatus_ok {l : List Status} (h : lowestStatus l = Status.ok) {s : Status}
    (hs : s ∈ l) : isFailure s = false := by
  induction l with
  | nil => cases hs
  | cons a l ih =>
    have hok : isFailure Status.ok = false := rfl
    simp only [lowestStatus] at h
    by_cases ha : isFailure a = true
    · rw [if_pos ha] at h
      split at h
      · split at h
        · exact absurd (h ▸ ha) (by simp [hok])
        · next hr _ => exact absurd (h ▸ hr) (by simp [hok])
      · exact absurd (h ▸ ha) (by simp [hok])
    · rw [if_neg ha] at h
      obtain rfl | hs := List.mem_cons.1 hs
      · simpa using ha
      · exact ih h hs

/-- R51: every code but OKAY is a failure, where the row's status for FAULT is one. -/
theorem isFailure_codeStatus {fault : Status} (hfault : isFailure fault = true) {c : BitVec 2} (hc : c ≠ 0#2) :
    isFailure (codeStatus fault c) = true := by
  unfold codeStatus
  rw [if_neg hc]
  split
  · rfl
  · exact hfault

/-- A read whose outcome is OK has met no error, so there is none to record. -/
theorem viewErrors_of_ok {fault : Status} (hfault : isFailure fault = true) {m : MemView} {a k : Nat}
    (h : m.status fault a k = Status.ok) (b : Block) (port cls : Nat) : b.viewErrors port cls m a k = b := by
  have hnone : (m.errs.filter fun e => e.base < a + k && a < e.base + e.len && e.code ≠ 0) = [] := by
    refine List.eq_nil_iff_forall_not_mem.2 fun e he => ?_
    have hcode : e.code ≠ 0 := by simpa using (Bool.and_eq_true_iff.1 (List.mem_filter.1 he).2).2
    have hmem : codeStatus fault e.code ∈ (m.codes a k).map (codeStatus fault) :=
      List.mem_map_of_mem (List.mem_map_of_mem he)
    have := not_isFailure_of_lowestStatus_ok h hmem
    rw [isFailure_codeStatus hfault hcode] at this
    cases this
  rw [Block.viewErrors, hnone]
  rfl

theorem status_ok_of_areas {m : MemView} {l : List (Nat × Nat)} (h : MemView_areas m l = Status.ok) {t : Nat × Nat}
    (ht : t ∈ l) : m.status Status.indirectFault t.1 t.2 = Status.ok := by
  have hnot := not_isFailure_of_lowestStatus_ok h (List.mem_map_of_mem ht)
  refine (lowestStatus_ok_or_failure _).resolve_right fun hfail => ?_
  rw [MemView.status, codesStatus, hfail] at hnot
  cases hnot

/-- Areas that have been read without an error leave the block as it was, whatever the class of the reads. -/
theorem foldl_viewErrors_of_ok {m : MemView} {l : List (Nat × Nat)} (h : MemView_areas m l = Status.ok) (b : Block)
    (port cls : Nat) : l.foldl (fun b t => b.viewErrors port cls m t.1 t.2) b = b := by
  have hfix : ∀ t ∈ l, b.viewErrors port cls m t.1 t.2 = b := fun t ht =>
    viewErrors_of_ok rfl (status_ok_of_areas h ht) b port cls
  clear h
  induction l with
  | nil => rfl
  | cons t l ih =>
    rw [List.foldl_cons, hfix t (.head _)]
    exact ih fun t ht => hfix t (.tail _ ht)

theorem areaErrors_of_ok {m : MemView} {l : List (Nat × Nat)} (h : MemView_areas m l = Status.ok) (b : Block) (n : Nat) :
    b.areaErrors n m l = b :=
  foldl_viewErrors_of_ok h b n 4

/-! ### What the checks of an expansion read -/

/-- What the checks of the expansion of Bead `n` look at in the block: the Setting, its submission and its node. -/
structure SameSource (n : Nat) (b c : Block) : Prop where
  setting : c.setting = b.setting
  graph : c.graph = b.graph
  node : c.expNode n = b.expNode n

section
variable {n : Nat} {b c : Block} (h : SameSource n b c)
include h

theorem SameSource.sub (seg : Nat) : c.sub seg = b.sub seg := by rw [Block.sub, Block.sub, h.graph]

theorem SameSource.tmplAddr (x : Expansion) : c.tmplAddr n x = b.tmplAddr n x := by
  funext t
  rw [Block.tmplAddr, Block.tmplAddr, h.node, h.sub]

theorem SameSource.tmplAreas (x : Expansion) : c.tmplAreas n x = b.tmplAreas n x := by
  rw [Block.tmplAreas, Block.tmplAreas, h.tmplAddr]

theorem SameSource.blockOk (x : Expansion) (m : MemView) : c.blockOk n x m = b.blockOk n x m := by
  rw [Block.blockOk, Block.blockOk, h.node, h.sub, h.setting]

theorem SameSource.argsOk (x : Expansion) (m : MemView) : c.argsOk n x m = b.argsOk n x m := by
  rw [Block.argsOk, Block.argsOk, h.tmplAddr]

theorem SameSource.affOk (x : Expansion) (m : MemView) (k : Creation) : c.affOk n x m k = b.affOk n x m k := by
  rw [Block.affOk, Block.affOk, h.tmplAddr, h.setting]

theorem SameSource.blockFits (x : Expansion) (m : MemView) (i : Nat) (k : Creation) :
    c.blockFits n x m i k = b.blockFits n x m i k := by
  rw [Block.blockFits, Block.blockFits, h.tmplAddr]

theorem SameSource.openValue : c.openValue n = b.openValue n := by
  funext i
  rw [Block.openValue, Block.openValue, h.node, h.sub]

end

theorem RecordsErrors.sameSource (n : Nat) {b c : Block} (h : RecordsErrors b c) : SameSource n b c := by
  obtain ⟨m, v, t, rfl⟩ := h
  exact ⟨rfl, rfl, rfl⟩

/-! ### The unit of an expansion that starts -/

/-- A Saffron unit that has taken expansion `x` from window entry `w`, with all its other registers at reset. -/
def Saffron.starting (w : Nat) (x : Expansion) : Saffron :=
  { busy := true, win := w, mode := x.arg.mode, exp := some x }

/-- From `b` to `b'` the unit of Bead `n` has taken expansion `x` from window entry `w`; no other unit has moved. -/
structure Starts (n w : Nat) (x : Expansion) (b b' : Block) : Prop where
  unit : b'.saf n = .starting w x
  others : ∀ k, k ≠ n → b'.saf k = b.saf k

theorem starts_modSaf (n w : Nat) (x : Expansion) {b c : Block} (h : c.saffron = b.saffron) :
    Starts n w x b (c.modSaf n fun _ => .starting w x) where
  unit := Block.saf_modSaf_self c n _
  others k hk := by rw [Block.saf_modSaf_ne c _ (Ne.symm hk), Block.saf, Block.saf, h]

theorem Starts.records {n w : Nat} {x : Expansion} {b c c' : Block} (h : Starts n w x b c) (g : RecordsErrors c c') :
    Starts n w x b c' := by
  obtain ⟨m, v, t, rfl⟩ := g
  exact ⟨h.unit, h.others⟩

theorem Starts.modExp {n w : Nat} {x : Expansion} {b c : Block} (h : Starts n w x b c) (f : Expansion → Expansion)
    (hf : (f x).arg = x.arg) : Starts n w (f x) b (c.modExp n f) where
  unit := by
    rw [Block.modExp, Block.saf_modSaf_self, h.unit, Saffron.starting, Saffron.starting, hf]
    rfl
  others k hk := by rw [Block.modExp, Block.saf_modSaf_ne c _ (Ne.symm hk), h.others k hk]

/-- R17: the failure of an expansion that had none. -/
theorem Starts.expFail {n w : Nat} {x : Expansion} {b c : Block} (h : Starts n w x b c) (st : Status)
    (hx : x.fail = none) : Starts n w { x with fail := some st, stage := .retiring } b (c.expFail n st) := by
  have := h.modExp (fun x => { x with
    fail := match x.fail with | some s => some s | none => some st, stage := .retiring }) rfl
  rwa [hx] at this

/-- From `b` to `b'` nothing but Beads and Saffron units has moved. -/
def MovesBeads (b b' : Block) : Prop := ∃ y z, b' = { b with beads := y, saffron := z }

theorem MovesBeads.eq {b b' : Block} (h : MovesBeads b b') :
    b' = { b with beads := b'.beads, saffron := b'.saffron } := by
  obtain ⟨y, z, rfl⟩ := h
  rfl

theorem MovesBeads.modSaf {b c : Block} (h : MovesBeads b c) (n : Nat) (f : Saffron → Saffron) :
    MovesBeads b (c.modSaf n f) := by
  obtain ⟨y, z, rfl⟩ := h
  exact ⟨y, _, rfl⟩

/-- From `b` to `b'` nothing but Beads and Saffron units has moved, and errors of reads have been recorded. -/
def MovesBeadsAndRecords (b b' : Block) : Prop := ∃ c, MovesBeads b c ∧ RecordsErrors c b'

theorem MovesBeadsAndRecords.eq {b b' : Block} (h : MovesBeadsAndRecords b b') :
    b' = { b with mp := b'.mp, beads := b'.beads, saffron := b'.saffron, evc := { b.evc with pend := b'.evc.pend }
                  trace := b'.trace } := by
  obtain ⟨_, ⟨y, z, rfl⟩, m, v, t, rfl⟩ := h
  rfl

theorem MovesBeadsAndRecords.modSaf {b c : Block} (h : MovesBeadsAndRecords b c) (n : Nat) (f : Saffron → Saffron) :
    MovesBeadsAndRecords b (c.modSaf n f) := by
  obtain ⟨d, hd, m, v, t, rfl⟩ := h
  exact ⟨d.modSaf n f, hd.modSaf n f, m, v, t, rfl⟩

/-! ### The checks of the argument block (R284 to R286, R289) -/

/-- R284: an expansion is to start on window entry `w` of Bead `n`. -/
structure StartDue (b : Block) (n w : Nat) : Prop where
  busy : (b.saf n).busy = true
  win : (b.saf n).win = w
  idle : (b.saf n).exp = none
  used : (b.win n w).used = true
  kind : (b.win n w).kind = 2
  issued : (b.win n w).state = .issued

/-- R48: no unacknowledged write of the block concerns the argument block or a template's record. -/
def Block.argsSettled (b : Block) (n : Nat) (x : Expansion) : Prop :=
  ∀ t, t ∈ (x.argsAddr, 128) :: b.tmplAreas n x → b.mp.pendingWrite t.1 t.2 = false

/-- The block once the argument block of expansion `x` has been read and the unit has taken it. -/
def Block.opened (p : Params) (n w : Nat) (x : Expansion) (m : MemView) (b : Block) : Block :=
  ((b.traceExpand p n w false 0).areaErrors n m [(x.argsAddr, 128)]).modSaf n fun _ => .starting w x

/-- The checks that follow the reading of the argument block, in their order. -/
def Block.startChecks (n : Nat) (x : Expansion) (m : MemView) (c : Block) : Block :=
  if MemView_areas m [(x.argsAddr, 128)] ≠ Status.ok then c.expFail n (MemView_areas m [(x.argsAddr, 128)])
  else if !c.blockOk n x m then c.expFail n Status.format
  else
    let d := (c.tmplAreas n x).foldl (fun b t => b.viewErrors n 0 m t.1 t.2) c
    if MemView_areas m (d.tmplAreas n x) ≠ Status.ok then d.expFail n (MemView_areas m (d.tmplAreas n x))
    else if !d.argsOk n x m then d.expFail n Status.format
    else if x.arg.mode = 3 then d.countsMode n x m
    else d.modExp n fun x => { x with stage := .program }

section
variable {b : Block} {n w : Nat}

/-- The check for unacknowledged writes, as the model computes it. -/
theorem argsSettled_iff {x : Expansion} : b.argsSettled n x ↔
    ¬ ((x.argsAddr, 128) :: b.tmplAreas n x).any (fun t => b.mp.pendingWrite t.1 t.2) = true := by
  simp only [Block.argsSettled, List.any_eq_true, not_exists, not_and, Bool.not_eq_true]

theorem expandStart_waits (p : Params) {m : MemView} (hw : ¬ b.argsSettled n (b.expansionOf n w m)) :
    expandStart p n w m b = b := by
  unfold expandStart
  dsimp only
  rw [if_pos (Classical.not_not.1 (mt argsSettled_iff.2 hw)), ite_self]

theorem expandStart_opened (p : Params) {m : MemView} {x : Expansion} (h : StartDue b n w)
    (hx : b.expansionOf n w m = x) (hs : b.argsSettled n x) :
    expandStart p n w m b = (b.opened p n w x m).startChecks n x m := by
  subst hx
  obtain ⟨hbusy, hwin, hidle, hused, hkind, hissued⟩ := h
  unfold expandStart
  dsimp only
  rw [if_neg (by simp [hbusy, hwin, hidle, hused, hkind, hissued]), if_neg (argsSettled_iff.1 hs)]
  rfl

end

section
variable {c : Block} {n : Nat} {x : Expansion} {m : MemView}

theorem startChecks_unread (h : MemView_areas m [(x.argsAddr, 128)] ≠ Status.ok) :
    c.startChecks n x m = c.expFail n (MemView_areas m [(x.argsAddr, 128)]) := by
  simp [Block.startChecks, h]

variable {b : Block} (hsame : SameSource n b c) (hread : MemView_areas m [(x.argsAddr, 128)] = Status.ok)
include hsame hread

theorem startChecks_forbidden (h : b.blockOk n x m = false) : c.startChecks n x m = c.expFail n Status.format := by
  simp [Block.startChecks, hread, hsame.blockOk, h]

variable (hblock : b.blockOk n x m = true)
include hblock

/-- The records of the templates cannot be read. The failure finds the errors recorded in a block `d`. -/
theorem startChecks_templateUnread (h : MemView_areas m (b.tmplAreas n x) ≠ Status.ok) :
    ∃ d, RecordsErrors c d ∧ c.startChecks n x m = d.expFail n (MemView_areas m (b.tmplAreas n x)) := by
  have hd := recordsErrors_foldl_viewErrors c n 0 m (b.tmplAreas n x)
  refine ⟨_, hd, ?_⟩
  simp [Block.startChecks, hread, hsame.blockOk, hblock, hsame.tmplAreas, (hd.sameSource n).tmplAreas, h]

variable (htmpl : MemView_areas m (b.tmplAreas n x) = Status.ok)
include htmpl

theorem startChecks_templateForbidden (h : b.argsOk n x m = false) :
    c.startChecks n x m = c.expFail n Status.format := by
  simp [Block.startChecks, hread, hsame.blockOk, hblock, hsame.tmplAreas, foldl_viewErrors_of_ok htmpl, htmpl,
    hsame.argsOk, h]

variable (hargs : b.argsOk n x m = true)
include hargs

theorem startChecks_program (h : x.arg.mode ≠ 3) :
    c.startChecks n x m = c.modExp n fun x => { x with stage := .program } := by
  simp [Block.startChecks, hread, hsame.blockOk, hblock, hsame.tmplAreas, foldl_viewErrors_of_ok htmpl, htmpl,
    hsame.argsOk, hargs, h]

theorem startChecks_counts (h : x.arg.mode = 3) : c.startChecks n x m = c.countsMode n x m := by
  simp [Block.startChecks, hread, hsame.blockOk, hblock, hsame.tmplAreas, foldl_viewErrors_of_ok htmpl, htmpl,
    hsame.argsOk, hargs, h]

end

/-! ### The creations of mode 3 (R287, R298) -/

theorem getElem?_of_mem_zip_range {α : Type} {l : List α} {e : Nat × α} (h : e ∈ List.zip (List.range l.length) l) :
    l[e.1]? = some e.2 := by
  obtain ⟨i, hi⟩ := List.mem_iff_getElem?.1 h
  obtain ⟨hrange, hl⟩ := List.getElem?_zip_eq_some.1 hi
  obtain ⟨_, he⟩ := List.getElem?_eq_some_iff.1 hrange
  rw [← he, List.getElem_range]
  exact hl

/-- R287, R528: creations that pass are kept up to MAX_CREATE. -/
theorem setCreations_accepted {b : Block} {n : Nat} {x : Expansion} {m : MemView} {cs : List Creation}
    (haff : ∀ c, c ∈ cs.take x.maxCreate → b.affOk n x m c = true)
    (hfits : ∀ k c, (cs.take x.maxCreate)[k]? = some c → b.blockFits n x m k c = true) :
    b.setCreations n x m cs = b.modExp n fun y => { y with
      creations := cs.take x.maxCreate, trunc := y.trunc || decide (y.maxCreate < cs.length), stage := .creating } := by
  unfold Block.setCreations
  dsimp only
  rw [if_pos]
  exact Bool.and_eq_true_iff.2 ⟨List.all_eq_true.2 haff,
    List.all_eq_true.2 fun e he => hfits _ _ (getElem?_of_mem_zip_range he)⟩

/-- The creations that the count vector gives, with what the rules leave undetermined taken from `drawn`. -/
def Expansion.countCreations (x : Expansion) (m : MemView) (drawn : Nat → Nat) : List Creation :=
  x.arg.creations x.ntmpl ((readLocnt m x.arg.locnt).map (·.count)).sum (readLocnt m x.arg.locnt) [] drawn

theorem countsMode_read {b : Block} {n : Nat} {x : Expansion} {m : MemView}
    (hread : MemView_areas m [(x.arg.locnt, 1024)] = Status.ok)
    (hsum : ((readLocnt m x.arg.locnt).map (·.count)).sum < 2 ^ 32) :
    b.countsMode n x m = b.setCreations n x m (x.countCreations m (b.openValue n)) := by
  unfold Block.countsMode
  dsimp only
  rw [areaErrors_of_ok hread, if_neg (fun hne => hne hread), if_pos hsum]
  rfl

/-! ### The block once the argument block has been read -/

section
variable (p : Params) {b : Block} {n w : Nat} (x : Expansion) (m : MemView)

theorem starts_opened : Starts n w x b (b.opened p n w x m) := by
  refine starts_modSaf n w x ?_
  obtain ⟨v, u, t, h⟩ := recordsErrors_areaErrors (b.traceExpand p n w false 0) n m [(x.argsAddr, 128)]
  rw [h]
  rfl

theorem opened_records : MovesBeadsAndRecords b (b.opened p n w x m) :=
  .modSaf ⟨_, ⟨_, b.saffron, rfl⟩, recordsErrors_areaErrors _ n m _⟩ n _

theorem opened_moves (hread : MemView_areas m [(x.argsAddr, 128)] = Status.ok) :
    MovesBeads b (b.opened p n w x m) := by
  rw [Block.opened, areaErrors_of_ok hread]
  exact .modSaf ⟨_, b.saffron, rfl⟩ n _

/-- The trace record of the start leaves the window alone. -/
theorem win_opened (k v : Nat) : (b.opened p n w x m).win k v = b.win k v := by
  have htrace : (b.traceExpand p n w false 0).win k v = b.win k v := win_modBead b n _ k v
  obtain ⟨mp, u, t, h⟩ := recordsErrors_areaErrors (b.traceExpand p n w false 0) n m [(x.argsAddr, 128)]
  rw [Block.opened, h]
  exact htrace

theorem sameSource_opened (hw : (b.saf n).win = w) : SameSource n b (b.opened p n w x m) := by
  have hnode : (b.opened p n w x m).expNode n = b.expNode n := by
    rw [Block.expNode, Block.expNode, (starts_opened p x m).unit, win_opened, hw]
    rfl
  obtain ⟨c, ⟨y, z, rfl⟩, v, u, t, h⟩ := opened_records p (b := b) (n := n) (w := w) x m
  exact ⟨by rw [h], by rw [h], hnode⟩

end

/-! ### The outcomes of EXPAND_START -/

/-- An expansion that starts has neither failed nor been cut. -/
theorem fail_trunc_expansionOf {b : Block} {n w : Nat} {m : MemView} {x : Expansion} (hx : b.expansionOf n w m = x) :
    x.fail = none ∧ x.trunc = false := by
  subst hx
  exact ⟨rfl, rfl⟩

section
variable (p : Params) {b : Block} {n w : Nat} {m : MemView} {x : Expansion} (hdue : StartDue b n w)
  (hx : b.expansionOf n w m = x) (hsettled : b.argsSettled n x)
include hdue hx hsettled

theorem expandStart_unread (h : MemView_areas m [(x.argsAddr, 128)] ≠ Status.ok) :
    Starts n w { x with fail := some (MemView_areas m [(x.argsAddr, 128)]), stage := .retiring } b
      (expandStart p n w m b) ∧ MovesBeadsAndRecords b (expandStart p n w m b) := by
  rw [expandStart_opened p hdue hx hsettled, startChecks_unread h]
  exact ⟨(starts_opened p x m).expFail _ (fail_trunc_expansionOf hx).1, (opened_records p x m).modSaf n _⟩

variable (hread : MemView_areas m [(x.argsAddr, 128)] = Status.ok)
include hread

theorem expandStart_forbidden (h : b.blockOk n x m = false) :
    Starts n w { x with fail := some Status.format, stage := .retiring } b (expandStart p n w m b)
      ∧ MovesBeads b (expandStart p n w m b) := by
  rw [expandStart_opened p hdue hx hsettled, startChecks_forbidden (sameSource_opened p x m hdue.win) hread h]
  exact ⟨(starts_opened p x m).expFail _ (fail_trunc_expansionOf hx).1, (opened_moves p x m hread).modSaf n _⟩

variable (hblock : b.blockOk n x m = true)
include hblock

theorem expandStart_templateUnread (h : MemView_areas m (b.tmplAreas n x) ≠ Status.ok) :
    Starts n w { x with fail := some (MemView_areas m (b.tmplAreas n x)), stage := .retiring } b
      (expandStart p n w m b) ∧ MovesBeadsAndRecords b (expandStart p n w m b) := by
  obtain ⟨d, hd, hchecks⟩ := startChecks_templateUnread (sameSource_opened p x m hdue.win) hread hblock h
  have hmoves : MovesBeadsAndRecords b d := ⟨_, opened_moves p x m hread, hd⟩
  rw [expandStart_opened p hdue hx hsettled, hchecks]
  exact ⟨((starts_opened p x m).records hd).expFail _ (fail_trunc_expansionOf hx).1, hmoves.modSaf n _⟩

variable (htmpl : MemView_areas m (b.tmplAreas n x) = Status.ok)
include htmpl

theorem expandStart_templateForbidden (h : b.argsOk n x m = false) :
    Starts n w { x with fail := some Status.format, stage := .retiring } b (expandStart p n w m b)
      ∧ MovesBeads b (expandStart p n w m b) := by
  rw [expandStart_opened p hdue hx hsettled,
    startChecks_templateForbidden (sameSource_opened p x m hdue.win) hread hblock htmpl h]
  exact ⟨(starts_opened p x m).expFail _ (fail_trunc_expansionOf hx).1, (opened_moves p x m hread).modSaf n _⟩

variable (hargs : b.argsOk n x m = true)
include hargs

theorem expandStart_program (h : x.arg.mode ≠ 3) :
    Starts n w { x with stage := .program } b (expandStart p n w m b) ∧ MovesBeads b (expandStart p n w m b) := by
  rw [expandStart_opened p hdue hx hsettled,
    startChecks_program (sameSource_opened p x m hdue.win) hread hblock htmpl hargs h]
  exact ⟨(starts_opened p x m).modExp (fun x => { x with stage := .program }) rfl,
    (opened_moves p x m hread).modSaf n _⟩

theorem expandStart_counts (h : x.arg.mode = 3) (hcounts : MemView_areas m [(x.arg.locnt, 1024)] = Status.ok)
    (hsum : ((readLocnt m x.arg.locnt).map (·.count)).sum < 2 ^ 32) {cs : List Creation}
    (hcs : x.countCreations m (b.openValue n) = cs)
    (haff : ∀ c, c ∈ cs.take x.maxCreate → b.affOk n x m c = true)
    (hfits : ∀ k c, (cs.take x.maxCreate)[k]? = some c → b.blockFits n x m k c = true) :
    Starts n w { x with
      creations := cs.take x.maxCreate, trunc := decide (x.maxCreate < cs.length), stage := .creating } b
      (expandStart p n w m b) ∧ MovesBeads b (expandStart p n w m b) := by
  have hsame := sameSource_opened p x m hdue.win
  have hstarts := (starts_opened p (b := b) (n := n) (w := w) x m).modExp (fun y => { y with
    creations := cs.take x.maxCreate, trunc := y.trunc || decide (y.maxCreate < cs.length), stage := .creating }) rfl
  rw [(fail_trunc_expansionOf hx).2] at hstarts
  rw [expandStart_opened p hdue hx hsettled, startChecks_counts hsame hread hblock htmpl hargs h,
    countsMode_read hcounts hsum, hsame.openValue, hcs,
    setCreations_accepted (by simpa only [hsame.affOk] using haff) (by simpa only [hsame.blockFits] using hfits)]
  exact ⟨hstarts, (opened_moves p x m hread).modSaf n _⟩

end

/-! ### The program (R310, R311, R336) -/

/-- R336: the registers of a unit whose program fails, and its expansion with the failure that was detected first. -/
theorem saf_progFail (b : Block) (n pc cause : Nat) (st : Status) :
    (b.progFail n pc cause st).saf n = { b.saf n with
      errV := true, errCause := cause, errPc := pc % 4096
      exp := (b.saf n).exp.map fun x => { x with fail := some (x.fail.getD st), stage := .retiring } } := by
  rw [← exp_saf_progFail b n pc cause st]
  simp only [Block.progFail, Block.expFail, Block.modExp, Block.saf_modSaf_self]

/-- R311: a scalar of a program that starts. -/
theorem tget_startScalars {x : Expansion} {i v : Nat}
    (h : [x.argsAddr, x.arg.scores, x.arg.ntok, x.arg.nexp, x.arg.k, x.arg.clist, x.maxCreate, 0][i]? = some v) :
    tget 0 (startScalars x) i = BitVec.ofNat 64 v := by
  obtain ⟨hi, rfl⟩ := List.getElem?_eq_some_iff.1 h
  match i, hi with
  | 0, _ | 1, _ | 2, _ | 3, _ | 4, _ | 5, _ | 6, _ | 7, _ =>
    simp [startScalars, List.range, List.range.loop, tget_tset, tget]
  | k + 8, hi => exact absurd hi (Nat.not_lt.2 (Nat.le_add_left 8 k))

/-- R313: a word that spells an operation does not fail as PC reaches it. -/
theorem meetInstr_known {b : Block} {n : Nat} {x : Expansion} {w : BitVec 32} (hexp : (b.saf n).exp = some x)
    (hw : x.prog[(b.saf n).pc]? = some w) (hop : knownOp (w.toNat / 2 ^ 24) = true) : b.meetInstr n = b := by
  simp only [Block.meetInstr, hexp, hw, hop, if_true]

section
variable {b : Block} {n : Nat} {m : MemView} {x : Expansion} (hexp : (b.saf n).exp = some x)
  (hstage : x.stage = .program)
  (hsettled : b.mp.pendingWrite x.progAddr (64 + 4 * bits (m.word x.progAddr).toNat 47 32) = false)
include hexp hstage hsettled

theorem programStart_unread (h : m.status Status.indirectFault x.progAddr 64 ≠ Status.ok) :
    programStart n m b = (b.viewErrors n 0 m x.progAddr 64).progFail n 0 9
      (m.status Status.indirectFault x.progAddr 64) := by
  simp [programStart, hexp, hstage, hsettled, h]

variable (hread : m.status Status.indirectFault x.progAddr 64 = Status.ok)
include hread

theorem programStart_badHeader {c : Nat} {st : Status} (h : programHeader m x.progAddr = .error (c, st)) :
    programStart n m b = b.progFail n 0 c st := by
  simp [programStart, hexp, hstage, hsettled, hread, viewErrors_of_ok rfl hread, h]

/-- The program runs: the word at instruction 0 spells an operation. -/
theorem programStart_runs {k : Nat} {w : BitVec 32} (h : programHeader m x.progAddr = .ok k)
    (hwords : m.status Status.indirectFault (x.progAddr + 0x40) (4 * k) = Status.ok)
    (hw : (programWords m x.progAddr k)[0]? = some w) (hop : knownOp (w.toNat / 2 ^ 24) = true) :
    programStart n m b = b.modSaf n fun u => { u with
      pc := 0, tiles := [], masks := [], scalars := startScalars x
      exp := some { x with prog := programWords m x.progAddr k, stage := .running } } := by
  simp only [programStart, hexp, hstage, hsettled, hread, viewErrors_of_ok rfl hread, h, hwords,
    viewErrors_of_ok rfl hwords, bne_self_eq_false, Bool.or_self, Bool.false_eq_true, ne_eq, not_true_eq_false,
    if_false]
  exact meetInstr_known (by rw [Block.saf_modSaf_self]) (by rw [Block.saf_modSaf_self]; exact hw) hop

end

/-- Settles O36: each outcome of EXPAND_START by the check that decides it, and each of PROGRAM_START. -/
theorem expansionsStart : Obligations.ExpansionsStart := by
  refine ⟨?start, ?program⟩
  case start =>
    intro s n w m hbusy hwin hidle hused hkind hissued x st free
    have hdue : StartDue s.blk n w.toNat := ⟨hbusy, hwin, hidle, hused, hkind, hissued⟩
    have hx : s.blk.expansionOf n w.toNat m = x := rfl
    refine ⟨fun hwaits => next_block (expandStart_waits _ hwaits), fun hfree =>
      ⟨fun hread => ?unread, fun hread hblock => ?forbidden, fun hread hblock => ⟨fun htmpl => ?templateUnread,
        fun htmpl hargs => ?templateForbidden, fun htmpl hargs hmode => ?toProgram, ?counts⟩⟩⟩
    case unread =>
      obtain ⟨hstarts, hmoves⟩ := expandStart_unread s.params hdue hx hfree hread
      exact ⟨_, rfl, hstarts.unit, hstarts.others, hmoves.eq⟩
    case forbidden =>
      obtain ⟨hstarts, hmoves⟩ := expandStart_forbidden s.params hdue hx hfree hread hblock
      exact ⟨_, rfl, hstarts.unit, hstarts.others, hmoves.eq⟩
    case templateUnread =>
      obtain ⟨hstarts, hmoves⟩ := expandStart_templateUnread s.params hdue hx hfree hread hblock htmpl
      exact ⟨_, rfl, hstarts.unit, hstarts.others, hmoves.eq⟩
    case templateForbidden =>
      obtain ⟨hstarts, hmoves⟩ := expandStart_templateForbidden s.params hdue hx hfree hread hblock htmpl hargs
      exact ⟨_, rfl, hstarts.unit, hstarts.others, hmoves.eq⟩
    case toProgram =>
      obtain ⟨hstarts, hmoves⟩ := expandStart_program s.params hdue hx hfree hread hblock htmpl hargs hmode
      exact ⟨_, rfl, hstarts.unit, hstarts.others, hmoves.eq⟩
    case counts =>
      intro htmpl hargs hmode hcounts locs total drawn cs hsum haff hfits
      have hcs : x.countCreations m (s.blk.openValue n) = cs := by
        have hopen : s.blk.openValue n = drawn := by
          funext i
          rw [Block.openValue, Block.expNode, hwin]
        rw [hopen]
        rfl
      obtain ⟨hstarts, hmoves⟩ := expandStart_counts s.params hdue hx hfree hread hblock htmpl hargs hmode hcounts hsum
        hcs haff hfits
      refine ⟨_, rfl, hstarts.unit.trans ?_, hstarts.others, hmoves.eq⟩
      rw [Saffron.starting, hmode]
  case program =>
    intro s n m x hexp hstage hsettled
    refine ⟨fun c st hread hhead => ?_, fun hread => ?_, fun k w hread hhead hwords hw hop => ?_⟩
    · have hunit := saf_progFail s.blk n 0 c st
      refine ⟨_, next_block (programStart_badHeader hexp hstage hsettled hread hhead), ?_, ?_, ?_, ?_, rfl⟩
      · rw [hunit]
      · rw [hunit]
      · rw [hunit]
      · rw [exp_saf_progFail, hexp]
        rfl
    · have hrecord := recordsErrors_viewErrors s.blk n 0 m x.progAddr 64
      have hunit := saf_progFail (s.blk.viewErrors n 0 m x.progAddr 64) n 0 9
        (m.status Status.indirectFault x.progAddr 64)
      refine ⟨_, next_block (programStart_unread hexp hstage hsettled hread), ?_, ?_, ?_, ?_, ?_⟩
      · rw [hunit]
      · rw [hunit]
      · rw [hunit]
      · rw [exp_saf_progFail, hrecord.saf, hexp]
        rfl
      · obtain ⟨mp, v, t, h⟩ := hrecord
        rw [h]
        rfl
    · refine ⟨_, next_block (programStart_runs hexp hstage hsettled hread hhead hwords hw hop), ?_,
        fun i v hv => ?_, rfl⟩
      · rw [Block.saf_modSaf_self]
      · rw [Block.saf_modSaf_self]
        exact tget_startScalars hv

end Sys2Proof.Machine
end

section
/-! SUPPORT. The planner of replicas (R303 to R307): its accumulators, the version it publishes and the table it
writes. -/

namespace Sys2Proof.Machine

/-! ### Accumulators (R303, R306) -/

/-- What a table holds at an index once entries have been dropped by their index. -/
theorem tget_filter {α : Type} (d : α) (keep : Nat → Bool) (t : Tab α) (i : Nat) :
    tget d (t.filter fun e => keep e.1) i = if keep i then tget d t i else d := by
  induction t with
  | nil => simp [tget]
  | cons e t ih =>
    obtain ⟨j, a⟩ := e
    by_cases hj : j = i
    · subst hj
      by_cases hk : keep j = true
      · simp [hk, tget]
      · simp [hk, ih]
    · by_cases hk : keep j = true
      · simp [hk, tget, hj, ih]
      · simp [hk, tget, hj, ih]

/-- Accumulator `a` holds nothing: no contribution and no load of any expert. -/
structure Experts.AccEmpty (x : Experts) (a : Nat) : Prop where
  got : tget 0 x.got a = 0
  acc : ∀ i, tget 0 x.acc (4096 * a + i % 4096) = 0

/-- The tracker with accumulator `a` cleared. -/
def Experts.withoutAcc (x : Experts) (a : Nat) : Experts :=
  { x with acc := x.acc.filter fun t => t.1 / 4096 != a, got := tset 0 x.got a 0 }

theorem tget_acc_withoutAcc (x : Experts) (a i : Nat) :
    tget 0 (x.withoutAcc a).acc i = if i / 4096 = a then 0 else tget 0 x.acc i := by
  refine (tget_filter 0 (fun j => j / 4096 != a) x.acc i).trans ?_
  by_cases h : i / 4096 = a <;> simp [h]

theorem accEmpty_withoutAcc (x : Experts) (a : Nat) : (x.withoutAcc a).AccEmpty a where
  got := tget_tset_self _ _ _
  acc i := by
    rw [tget_acc_withoutAcc, if_pos (by omega)]

/-- Clearing an accumulator fills no other. -/
theorem Experts.AccEmpty.withoutAcc {x : Experts} {k : Nat} (h : x.AccEmpty k) (a : Nat) :
    (x.withoutAcc a).AccEmpty k where
  got := by
    rw [Experts.withoutAcc, tget_tset, h.got, ite_self]
  acc i := by
    rw [tget_acc_withoutAcc, h.acc, ite_self]

/-- R306: an accumulator is cleared in the tracker, and by a write of the table region. -/
theorem clearAcc_eq (b : Block) (a : Nat) :
    ∃ mp, b.clearAcc a = { b with mp := mp, experts := b.experts.withoutAcc a } := by
  refine ⟨(b.clearAcc a).mp, ?_⟩
  unfold Block.clearAcc
  split
  · next e _ =>
    dsimp only
    split
    · rfl
    · rfl
  · rfl

/-- From `b` to `b'` accumulators, and nothing else of the tracker, have been cleared, and the port has taken writes. -/
def ClearsAccs (b b' : Block) : Prop :=
  ∃ mp acc got, b' = { b with mp := mp, experts := { b.experts with acc := acc, got := got } }

theorem ClearsAccs.trans {a b c : Block} (h : ClearsAccs a b) (g : ClearsAccs b c) : ClearsAccs a c := by
  obtain ⟨m, y, z, rfl⟩ := h
  obtain ⟨m', y', z', rfl⟩ := g
  exact ⟨m', y', z', rfl⟩

theorem clearsAccs_clearAcc (b : Block) (a : Nat) : ClearsAccs b (b.clearAcc a) := by
  obtain ⟨mp, h⟩ := clearAcc_eq b a
  exact ⟨mp, _, _, h⟩

theorem experts_clearAcc (b : Block) (a : Nat) : (b.clearAcc a).experts = b.experts.withoutAcc a := by
  obtain ⟨mp, h⟩ := clearAcc_eq b a
  rw [h]

theorem clearsAccs_foldl_clearAcc (l : List Nat) (b : Block) : ClearsAccs b (l.foldl Block.clearAcc b) := by
  induction l generalizing b with
  | nil => exact ⟨_, _, _, rfl⟩
  | cons a l ih => exact (clearsAccs_clearAcc b a).trans (ih _)

/-- R307: each accumulator of a list is empty once all of them have been cleared, and so is one that was. -/
theorem accEmpty_foldl_clearAcc (l : List Nat) (b : Block) {k : Nat} (h : k ∈ l ∨ b.experts.AccEmpty k) :
    (l.foldl Block.clearAcc b).experts.AccEmpty k := by
  induction l generalizing b with
  | nil => exact h.resolve_left List.not_mem_nil
  | cons a l ih =>
    refine ih _ ?_
    rw [experts_clearAcc]
    obtain hk | hk := h
    · obtain rfl | hk := List.mem_cons.1 hk
      · exact .inr (accEmpty_withoutAcc _ _)
      · exact .inl hk
    · exact .inr (hk.withoutAcc a)

/-! ### The version that is published (R304, R305) -/

/-- What the waiting submissions are bound to rests on the queues, the Setting, ENABLE and START. -/
theorem waitingVersions_congr {b c : Block} (hfront : c.front = b.front) (hsetting : c.setting = b.setting)
    (henable : c.experts.enable = b.experts.enable) (hstart : c.experts.start = b.experts.start) :
    c.waitingVersions = b.waitingVersions := by
  simp only [Block.waitingVersions, Block.versionOf, hfront, hsetting, henable, hstart]

/-- The tracker once version `v` is published. -/
def Block.published (b : Block) (v : Nat) (e : ExpertsSec) : Experts :=
  { b.experts.withoutAcc ((v - 1) % 3) with
    planning := false, version := v, planStep := (b.experts.start.toNat + (v + 2) * e.interval) % 2 ^ 32
    held := b.experts.held && b.waitingVersions.any fun u => v < u
    waitLoad := b.experts.waitLoad && b.waitingVersions.contains (v + 1) }

theorem publish_eq (b : Block) (v : Nat) (e : ExpertsSec) :
    ∃ mp, b.publish v e = { b with mp := mp, experts := b.published v e } := by
  obtain ⟨mp, h⟩ := clearAcc_eq b ((v - 1) % 3)
  have hwaiting : Block.waitingVersions { b with mp := mp, experts := { b.experts.withoutAcc ((v - 1) % 3) with
      planning := false, version := v, planStep := (b.experts.start.toNat + (v + 2) * e.interval) % 2 ^ 32 } }
      = b.waitingVersions := waitingVersions_congr rfl rfl rfl rfl
  refine ⟨mp, ?_⟩
  rw [Block.publish, h, Block.published, ← hwaiting]
  rfl

/-! ### The outcomes of PLAN_VERSION -/

/-- R305, R307, as the model computes it: no submission in flight stands in the way of version `v`. -/
theorem tableBound_eq_false_iff (b : Block) (v : Nat) : b.tableBound v = false ↔
    ∀ t, t ∈ b.graph.subs → t.2.live = true →
      ¬ (3 ≤ v ∧ t.2.version = v - 2) ∧ t.2.table ≠ b.experts.baseAddr + tableOffset v := by
  simp [Block.tableBound]

section
variable {b : Block} {e : ExpertsSec} (m : MemView)

theorem planVersion_bound (hplanning : b.experts.planning = false)
    (hbound : b.tableBound (b.experts.version + 1) = true) : planVersion m b = b := by
  rcases he : b.setting.experts with _ | e
  · simp [planVersion, he]
  · simp [planVersion, he, hplanning, hbound]

variable (he : b.setting.experts = some e)
include he

theorem planVersion_published (hplanning : b.experts.planning = true)
    (hwritten : b.mp.writesFor (· == .table) = false) :
    planVersion m b = b.publish (b.experts.version + 1) e := by
  simp [planVersion, he, hplanning, hwritten]

variable (hplanning : b.experts.planning = false) (henable : b.experts.enable = true)
  (hwaits : b.experts.version + 1 ∈ b.waitingVersions) (hfree : b.tableBound (b.experts.version + 1) = false)
include hplanning henable hwaits hfree

theorem planVersion_waitsForLoad (hdone : b.intervalDone (b.experts.version + 1) = false) :
    planVersion m b = { b with experts := { b.experts with waitLoad := true } } := by
  simp [planVersion, he, hplanning, henable, hwaits, hfree, hdone]

theorem planVersion_writes (hdone : b.intervalDone (b.experts.version + 1) = true)
    (hbase : b.mp.pendingWrite b.experts.baseAddr (64 * e.nexperts) = false) :
    planVersion m b = b.planWrite m (b.experts.version + 1) e := by
  simp [planVersion, he, hplanning, henable, hwaits, hfree, hdone, hbase]

end

/-- R305: of the base table's words only those of the experts that there are matter. -/
theorem planTable_congr {k slots : Nat} {load : Nat → Nat} {rpos : Tab Word} {base base' : Nat → Word}
    (h : ∀ i, i < k → base i = base' i) : planTable k slots load rpos base = planTable k slots load rpos base' := by
  unfold planTable
  exact List.map_congr_left fun i hi => by rw [h i (List.mem_range.1 hi)]

/-- The words of the table of version `v`, made from a base table that a view holds. -/
def Block.planWords (b : Block) (m : MemView) (v : Nat) (e : ExpertsSec) : List Word :=
  (planTable e.nexperts e.replicaSlots (fun i => tget 0 b.experts.acc (4096 * ((v - 1) % 3) + i)) b.experts.rpos
    fun i => m.word (b.experts.baseAddr + 64 * i)).flatten

/-- R305: a base table read without an error is taken as it stands, and the new table goes out. -/
theorem planWrite_read {b : Block} {m : MemView} (v : Nat) {e : ExpertsSec} (herrs : m.errs = [])
    (hread : ∀ i, i < e.nexperts → m.status Status.format (b.experts.baseAddr + 64 * i) 8 = Status.ok) :
    b.planWrite m v e = Block.put
      { b with free := b.free + e.nexperts, experts := { b.experts with planning := true, waitLoad := false } }
      63 2 (b.experts.baseAddr + tableOffset v) (wordsBytes (b.planWords m v e)) .table := by
  have hnone : b.viewErrors 63 4 m b.experts.baseAddr (64 * e.nexperts) = b := by
    rw [Block.viewErrors, herrs]
    rfl
  unfold Block.planWrite
  dsimp only
  rw [hnone, planTable_congr fun i hi => if_pos (hread i hi)]
  rfl

/-! ### CLS_EXP_CFG (R307) -/

/-- The block with the tracker switched on, and the contributions of a step as the write gives them. -/
def Block.trackerOn (b : Block) (d : BitVec 32) : Block :=
  { b with experts := { b.experts with perStep := (d.extractLsb' 1 16).toNat, enable := true } }

section
variable {b : Block} {d : BitVec 32}

theorem expCfgWrite_stays (henable : b.experts.enable = true) (hd : d.getLsbD 0 = true) : expCfgWrite d b = b := by
  unfold expCfgWrite
  dsimp only
  rw [if_pos henable, if_pos hd]

theorem expCfgWrite_stops (henable : b.experts.enable = true) (hd : d.getLsbD 0 = false) :
    expCfgWrite d b =
      { b with experts := { b.experts with enable := false, held := false, waitLoad := false, planning := false } } := by
  unfold expCfgWrite
  dsimp only
  rw [if_pos henable, if_neg (by rw [hd]; exact Bool.false_ne_true)]

variable (henable : b.experts.enable = false)
include henable

theorem expCfgWrite_off (hd : d.getLsbD 0 = false) : expCfgWrite d b =
    { b with experts := { b.experts with perStep := (d.extractLsb' 1 16).toNat, enable := false } } := by
  simp only [expCfgWrite, henable, hd, Bool.false_and, Bool.false_eq_true, Bool.not_false, if_true, if_false,
    bits_toNat]

theorem expCfgWrite_domainOff (hd : d.getLsbD 0 = true) (hdom : (b.dom 4).state ≠ .on) : expCfgWrite d b = b := by
  simp [expCfgWrite, henable, hd, hdom]

/-- R307: the tracker is switched on with its accumulators cleared, and counts versions from 0. -/
theorem expCfgWrite_starts (hd : d.getLsbD 0 = true) (hdom : (b.dom 4).state = .on) :
    ∃ c, ClearsAccs (b.trackerOn d) c ∧ (∀ k, k < 3 → c.experts.AccEmpty k)
      ∧ expCfgWrite d b = { c with experts := { c.experts with
          version := 0, late := 0
          planStep := (b.experts.start.toNat
            + 2 * (match b.setting.experts with | some e => e.interval | none => 0)) % 2 ^ 32 } } := by
  refine ⟨_, clearsAccs_foldl_clearAcc (List.range 3) _,
    fun k hk => accEmpty_foldl_clearAcc _ _ (.inl (List.mem_range.2 hk)), ?_⟩
  simp only [expCfgWrite, henable, hd, hdom, bne_self_eq_false, Bool.and_false, Bool.false_eq_true, Bool.not_true,
    if_false, bits_toNat]
  rfl

end

/-- Settles O38: PLAN_VERSION by what stands in the way of the next version, and the writes of CLS_EXP_CFG. -/
theorem thePlannerPublishes : Obligations.ThePlannerPublishes := by
  refine ⟨fun s m e he => ⟨?publishes, ?plans⟩, ?bound, ?cfg⟩
  case publishes =>
    intro hplanning hwritten
    obtain ⟨mp, hpublish⟩ := publish_eq s.blk (s.blk.experts.version + 1) e
    have hempty := accEmpty_withoutAcc s.blk.experts (s.blk.experts.version % 3)
    refine ⟨_, next_block ((planVersion_published m he hplanning hwritten).trans hpublish), rfl, rfl, rfl, ?_, ?_,
      hempty.got, hempty.acc, rfl⟩
    · simp [Block.published]
    · simp [Block.published]
  case plans =>
    intro hplanning henable hwaits hsubs
    have hfree : s.blk.tableBound (s.blk.experts.version + 1) = false := (tableBound_eq_false_iff _ _).2 hsubs
    refine ⟨fun hdone => next_block (planVersion_waitsForLoad m he hplanning henable hwaits hfree hdone), ?_⟩
    intro hdone hbase hread herrs
    have hplan := (planVersion_writes m he hplanning henable hwaits hfree hdone hbase).trans
      (planWrite_read _ herrs hread)
    exact ⟨_, next_block hplan, rfl, rfl, rfl⟩
  case bound =>
    intro s m t hplanning hmem hlive hbound
    refine next_block (planVersion_bound m hplanning (eq_true_of_ne_false fun hfree => ?_))
    obtain ⟨hversion, htable⟩ := (tableBound_eq_false_iff _ _).1 hfree t hmem hlive
    exact hbound.elim hversion htable
  case cfg =>
    intro s a d hp
    refine ⟨fun henable hd => next_command hp _ (expCfgWrite_stays henable hd),
      fun henable hd => next_command hp _ (expCfgWrite_stops henable hd),
      fun henable hd => next_command hp _ (expCfgWrite_off henable hd),
      fun henable hd hdom => next_command hp _ (expCfgWrite_domainOff henable hd hdom), fun henable hd hdom => ?_⟩
    obtain ⟨c, ⟨mp, acc, got, rfl⟩, hempty, hstart⟩ := expCfgWrite_starts henable hd hdom
    exact ⟨_, next_command hp _ hstart, rfl, rfl, rfl, rfl, rfl, fun k hk => (hempty k hk).got,
      fun k hk => (hempty k hk).acc, rfl⟩

end Sys2Proof.Machine
end

section
/-! SUPPORT. The size of the Saffron unit's tiles and masks (R308, R309): what each operation keeps of it. -/

namespace Sys2Proof.Machine

/-! ### Lists of elements -/

/-- R316: a merge is as long as its mask, where neither list is shorter. -/
theorem length_mergeMask {α : Type} : ∀ (ms : List Bool) (xs os : List α), ms.length ≤ xs.length → ms.length ≤ os.length →
    (mergeMask ms xs os).length = ms.length
  | [], _, _, _, _ => by simp [mergeMask]
  | _ :: ms, x :: xs, o :: os, hx, ho => by
    simp only [List.length_cons, Nat.add_le_add_iff_right] at hx ho
    simp [mergeMask, length_mergeMask ms xs os hx ho]

/-- R316: a merge is never longer than its mask. -/
theorem length_mergeMask_le {α : Type} (ms : List Bool) : ∀ xs os : List α, (mergeMask ms xs os).length ≤ ms.length := by
  induction ms with
  | nil => simp [mergeMask]
  | cons m ms ih =>
    rintro (_ | ⟨x, xs⟩) (_ | ⟨o, os⟩)
    · simp [mergeMask]
    · simp [mergeMask]
    · simp [mergeMask]
    · simpa [mergeMask] using ih xs os

/-- Rows that are never longer than 32, and no more than 32 of them, fill a tile at most. -/
theorem length_flatten_le {α : Type} {rows : List (List α)} (hrows : rows.length ≤ 32) (hrow : ∀ r, r ∈ rows → r.length ≤ 32) :
    rows.flatten.length ≤ 1024 := by
  rw [List.length_flatten]
  calc (rows.map List.length).sum ≤ (rows.map List.length).length • 32 :=
        List.sum_le_card_nsmul _ _ (by simpa using hrow)
    _ ≤ 1024 := by simp only [List.length_map, smul_eq_mul]; omega

@[simp] theorem length_rowsOf {α : Type} (l : List α) : (rowsOf l).length = 32 := by simp [rowsOf]

theorem length_le_of_mem_rowsOf {α : Type} {l r : List α} (h : r ∈ rowsOf l) : r.length ≤ 32 := by
  obtain ⟨k, -, rfl⟩ := List.mem_map.1 h
  simp

theorem length_padRow (x : Elt) {l : List Elt} (h : l.length ≤ 32) : (padRow x l).length = 32 := by
  simp only [padRow, List.length_append, List.length_replicate]
  omega

theorem length_rowExtreme (small signed : Bool) (ms : List Bool) (row : List Elt) :
    (rowExtreme small signed ms row).length = 32 := by
  unfold rowExtreme
  split
  · exact length_padRow 0 (by simp)
  · exact length_padRow 0 (by simp)

theorem length_topkRow (init : Bool) {k : Nat} (hk : k ≤ 32) (old new : List (Elt × Elt)) :
    (topkRow k init old new).length = 32 := by
  simp only [topkRow, List.length_append, List.length_replicate, List.length_take]
  omega

/-- R324: TOPK makes no more rows than it is given, and none longer than a row. -/
theorem topkRows_bounds {k : Nat} (init : Bool) (hk : k ≤ 32) :
    ∀ (ms : List (List Bool)) (as is ds es : List (List Elt)), (∀ d, d ∈ ds → d.length ≤ 32) →
      (topkRows k init ms as is ds es).length ≤ ms.length ∧ ∀ r, r ∈ topkRows k init ms as is ds es → r.length ≤ 32 := by
  intro ms
  induction ms with
  | nil => simp [topkRows]
  | cons m ms ih =>
    rintro (_ | ⟨a, as⟩) (_ | ⟨i, is⟩) (_ | ⟨d, ds⟩) (_ | ⟨e, es⟩) hds
    case cons.cons.cons.cons =>
      obtain ⟨hlen, hrows⟩ := ih as is ds es fun x hx => hds x (List.mem_cons_of_mem _ hx)
      refine ⟨by simpa [topkRows] using hlen, fun r hr => ?_⟩
      simp only [topkRows, List.mem_cons] at hr
      rcases hr with rfl | hr
      · split
        · have hd := hds d List.mem_cons_self
          simp only [List.length_zip]
          omega
        · exact (length_topkRow init hk _ _).le
      · exact hrows r hr
    all_goals simp [topkRows]

theorem length_prefixSums (acc : Nat) (l : List Elt) : (prefixSums acc l).1.length = l.length := by
  induction l generalizing acc with
  | nil => rfl
  | cons x xs ih => simp [prefixSums, ih]

/-! ### The registers of one unit -/

namespace Saffron
variable {u : Saffron}

theorem sized_empty : ({} : Saffron).sized := fun _ => ⟨by simp [tget], by simp [tget]⟩

/-- R308: a tile has 1,024 elements. -/
theorem sized.length_tile (h : u.sized) (t : Nat) : (u.tile t).length = 1024 := by
  have := (h t).1
  simp only [tile, tileSize, List.length_append, List.length_replicate]
  omega

/-- R309: a mask has 1,024 bits. -/
theorem sized.length_mask (h : u.sized) (k : Nat) : (u.mask k).length = 1024 := by
  have := (h k).2
  simp only [mask, tileSize, List.length_append, List.length_replicate]
  omega

theorem sized.length_chosen (h : u.sized) (f : TFmt) : (u.chosen f).length = 1024 := by
  unfold chosen
  split
  · exact h.length_mask _
  · exact List.length_replicate

theorem sized.setTile (h : u.sized) (t : Nat) {v : List Elt} (hv : v.length ≤ 1024) : (u.setTile t v).sized := by
  intro k
  refine ⟨?_, (h k).2⟩
  simp only [Saffron.setTile, tget_tset]
  split
  · exact hv
  · exact (h k).1

theorem sized.setMask (h : u.sized) (m : Nat) {v : List Bool} (hv : v.length ≤ 1024) : (u.setMask m v).sized := by
  intro k
  refine ⟨(h k).1, ?_⟩
  simp only [Saffron.setMask, tget_tset]
  split
  · exact hv
  · exact (h k).2

/-- R316: a write of tile D under the chosen mask. -/
theorem sized.writeD (h : u.sized) (f : TFmt) (v : List Elt) : (u.writeD f v).sized :=
  h.setTile _ ((length_mergeMask_le _ _ _).trans (h.length_chosen f).le)

end Saffron

/-! ### The units of the block -/

/-- No Saffron unit of the block lists more than 1,024 elements for a tile or a mask. -/
def Block.Sized (b : Block) : Prop := ∀ n, (b.saf n).sized

namespace Block.Sized
variable {b c : Block} (h : b.Sized)
include h

/-- An operation that leaves the units alone. -/
theorem frame {t : Nat} (g : Block.Frame t b c) (e : t.testBit 15 = false) : c.Sized := by
  have hsaf : b.saffron = c.saffron := g 15 e
  intro n
  unfold Block.saf
  rw [← hsaf]
  exact h n

omit h in
theorem ite {p : Prop} [Decidable p] (hb : b.Sized) (hc : c.Sized) : (if p then b else c).Sized := by
  split
  · exact hb
  · exact hc

/-- A change of one unit. -/
theorem modSaf (n : Nat) {f : Saffron → Saffron} (hf : (b.saf n).sized → (f (b.saf n)).sized) : (b.modSaf n f).Sized := by
  intro k
  rw [Block.saf_modSaf]
  split
  · next hk =>
    subst hk
    exact hf (h n)
  · exact h k

theorem modExp (n : Nat) (f : Expansion → Expansion) : (b.modExp n f).Sized := h.modSaf n fun hu => hu

theorem expFail (n : Nat) (st : Status) : (b.expFail n st).Sized := h.modExp n _

theorem progFail (n pc cause : Nat) (st : Status) : (b.progFail n pc cause st).Sized :=
  expFail (h.modSaf n (f := fun u => { u with errV := true, errCause := cause, errPc := pc % 4096 }) fun hu => hu) n st

theorem addBeats (n k : Nat) : (b.addBeats n k).Sized := h.modSaf n fun hu => hu

theorem meetInstr (n : Nat) : (b.meetInstr n).Sized := by
  unfold Block.meetInstr
  dsimp only
  split
  · exact h
  · split
    · exact h
    · split
      · exact h
      · exact h.progFail _ _ _ _

theorem advance (n alu next : Nat) : (b.advance n alu next).Sized := by
  have hcount := h.modSaf n (f := fun u => { u with instr := u.instr + 1, aluBc := u.aluBc + alu }) fun hu => hu
  unfold Block.advance
  exact ite (hcount.progFail _ _ _ _) (meetInstr (hcount.modSaf n fun hu => hu) n)

/-- R312, R313, R336: an instruction fails, or runs. -/
theorem instr (n word : Nat) (legal : Bool) {run : Block → Block} (hrun : (run b).Sized) : (b.instr n word legal run).Sized := by
  unfold Block.instr
  split
  · exact h
  · split
    · exact h.progFail _ _ _ _
    · split
      · exact h.progFail _ _ _ _
      · exact hrun

theorem instrAlu (n op alu : Nat) (f : TFmt) (legal : Bool) {run : Saffron → Saffron}
    (hrun : ∀ u : Saffron, u.sized → (run u).sized) : (b.instrAlu n op alu f legal run).Sized :=
  h.instr n _ legal (advance (h.modSaf n (hrun _)) n alu _)

theorem instrImm (n op alu : Nat) (f : IFmt) (legal : Bool) {run : Saffron → Saffron}
    (hrun : ∀ u : Saffron, u.sized → (run u).sized) : (b.instrImm n op alu f legal run).Sized :=
  h.instr n _ legal (advance (h.modSaf n (hrun _)) n alu _)

/-! ### Operations on elements, masks and rows -/

theorem elem2 (n op : Nat) (f : TFmt) (g : Elt → Elt → Elt) : (b.elem2 n op f g).Sized :=
  h.instrAlu n op 2 f _ fun _ hu => hu.writeD f _

theorem elemSat (n op : Nat) (f : TFmt) (lo hi : Int) (g : Elt → Elt → Int) : (b.elemSat n op f lo hi g).Sized :=
  h.instrAlu n op 2 f _ fun _ hu => hu.writeD f _

theorem elemShift (n op : Nat) (f : TFmt) (g : Elt → Nat → Elt) : (b.elemShift n op f g).Sized :=
  h.instrAlu n op 2 f _ fun _ hu => hu.writeD f _

theorem elemMinMax (n op : Nat) (f : TFmt) (small : Bool) : (b.elemMinMax n op f small).Sized :=
  h.instrAlu n op 2 f _ fun _ hu => hu.writeD f _

theorem elemNot (n : Nat) (f : TFmt) : (b.elemNot n f).Sized := h.instrAlu n _ 2 f _ fun _ hu => hu.writeD f _

theorem elemOkey (n : Nat) (f : TFmt) : (b.elemOkey n f).Sized := h.instrAlu n _ 2 f _ fun _ hu => hu.writeD f _

theorem elemCmp (n : Nat) (f : TFmt) : (b.elemCmp n f).Sized := by
  refine h.instrAlu n _ 2 f _ fun u hu => hu.setMask _ ?_
  rw [List.length_zipWith, hu.length_chosen]
  omega

theorem elemSel (n : Nat) (f : TFmt) : (b.elemSel n f).Sized :=
  h.instrAlu n _ 2 f _ fun _ hu => hu.setTile _ ((length_mergeMask_le _ _ _).trans (hu.length_mask _).le)

theorem maskOp (n : Nat) (f : TFmt) : (b.maskOp n f).Sized := by
  refine h.instrAlu n _ 1 f _ fun u hu => hu.setMask _ ?_
  split
  · simp [hu.length_mask]
  · simp [hu.length_mask]
  · simp [hu.length_mask]
  · simp [hu.length_mask]

theorem iota (n : Nat) (f : IFmt) : (b.iota n f).Sized :=
  h.instrImm n _ 2 f _ fun _ hu => hu.setTile _ (by simp [tileSize])

theorem fill (n : Nat) (f : IFmt) : (b.fill n f).Sized :=
  h.instrImm n _ 2 f _ fun _ hu => hu.setTile _ List.length_replicate.le

theorem rowMinMax (n op : Nat) (f : TFmt) (small : Bool) : (b.rowMinMax n op f small).Sized := by
  refine h.instrAlu n op 2 f _ fun u hu => hu.setTile _ (length_flatten_le (by simp) fun r hr => ?_)
  obtain ⟨k, hk, rfl⟩ := List.getElem_of_mem hr
  rw [List.getElem_zipWith]
  exact (length_rowExtreme _ _ _ _).le

theorem rowSums (n : Nat) (f : TFmt) : (b.rowSums n f).Sized := by
  refine h.instrAlu n _ 2 f _ fun u hu => hu.setTile _ (length_flatten_le (by simp) fun r hr => ?_)
  obtain ⟨k, -, rfl⟩ := List.mem_map.1 hr
  exact (length_padRow 0 (by simp)).le

theorem topk (n : Nat) (f : TFmt) : (b.topk n f).Sized := by
  refine h.instrAlu n _ 2 f _ fun u hu => ?_
  obtain ⟨hlen, hrows⟩ := topkRows_bounds (f.c == 1) (k := f.mod.toNat % 8 + 1) (by omega) (rowsOf (u.chosen f))
    (rowsOf (if f.mod.getLsbD 3 then (u.tile f.a.toNat).map (okey (f.mod.getLsbD 4)) else u.tile f.a.toNat))
    (rowsOf (u.tile f.b.toNat)) (rowsOf (u.tile f.d.toNat)) (rowsOf (u.tile (f.d.toNat + 1)))
    fun _ hd => length_le_of_mem_rowsOf hd
  have hall := length_flatten_le (hlen.trans (length_rowsOf _).le) hrows
  exact (hu.setTile f.d.toNat (by rwa [List.length_map])).setTile (f.d.toNat + 1) (by rwa [List.length_map])

theorem psum (n : Nat) (f : TFmt) : (b.psum n f).Sized := by
  refine h.instrAlu n _ 2 f _ fun u hu => ?_
  dsimp only
  split
  · refine hu.setTile _ ?_
    simp [length_prefixSums, hu.length_tile, hu.length_chosen]
  · refine hu.setTile _ (length_flatten_le (by simp) fun r hr => ?_)
    simp only [List.map_map, List.mem_map, Function.comp] at hr
    obtain ⟨l, hl, rfl⟩ := hr
    rw [length_prefixSums]
    exact length_le_of_mem_rowsOf hl

/-! ### Operations on scalars and memory -/

theorem movImm (n : Nat) (f : IFmt) : (b.movImm n f).Sized := h.instrImm n _ 0 f _ fun _ hu => hu
theorem addImm (n : Nat) (f : IFmt) : (b.addImm n f).Sized := h.instrImm n _ 0 f _ fun _ hu => hu
theorem shiftScalar (n : Nat) (f : IFmt) : (b.shiftScalar n f).Sized := h.instrImm n _ 0 f _ fun _ hu => hu
theorem addScalar (n : Nat) (f : TFmt) : (b.addScalar n f).Sized := h.instrAlu n _ 0 f _ fun _ hu => hu

theorem loopBack (n : Nat) (f : IFmt) : (b.loopBack n f).Sized := by
  refine h.instr n _ _ ?_
  dsimp only
  split
  · exact h.progFail _ _ _ _
  · exact advance (h.modSaf n fun hu => hu) _ _ _

theorem branchZero (n : Nat) (f : IFmt) : (b.branchZero n f).Sized :=
  h.instr n _ _ (ite (h.progFail _ _ _ _) (h.advance _ _ _))

theorem areaErrors (n : Nat) (m : MemView) (l : List (Nat × Nat)) : (b.areaErrors n m l).Sized :=
  h.frame (Block.areaErrors_frame b n m l) rfl

theorem scalarLoad (n : Nat) (f : IFmt) (m : MemView) : (b.scalarLoad n f m).Sized := by
  refine h.instr n _ _ ?_
  have hread : ∀ a, ((b.areaErrors n m a).addBeats n 1).Sized := fun a => addBeats (h.areaErrors n m a) n 1
  dsimp only
  split
  · exact h.progFail _ _ _ _
  · split
    · exact h
    · split
      · exact (hread _).progFail _ _ _ _
      · exact advance ((hread _).modSaf n fun hu => hu) _ _ _

theorem load (n : Nat) (f : TFmt) (m : MemView) : (b.load n f m).Sized := by
  refine h.instr n _ _ ?_
  have hread : ∀ a k, ((b.areaErrors n m a).addBeats n k).Sized := fun a k => addBeats (h.areaErrors n m a) n k
  dsimp only
  split
  · exact h.progFail _ _ _ _
  · split
    · exact h.progFail _ _ _ _
    · split
      · exact h
      · split
        · exact (hread _ _).progFail _ _ _ _
        · refine advance ((hread _ _).modSaf n fun hu => ?_) _ _ _
          split
          · exact (hu.setTile _ (by simp [tileSize])).setMask _ (by simp [tileSize])
          · exact hu.setTile _ (by simp [tileSize])

theorem put (port cls addr : Nat) (bytes : List Byte) (w : WPurpose) : (b.put port cls addr bytes w).Sized :=
  h.frame (Block.put_frame _ _ _ _ _ _) rfl

omit h in
/-- What every round of a fold keeps. -/
theorem foldl {α : Type} {f : Block → α → Block} (hf : ∀ (b : Block) x, b.Sized → (f b x).Sized) (l : List α) :
    ∀ {b : Block}, b.Sized → (l.foldl f b).Sized := by
  induction l with
  | nil => exact fun hb => hb
  | cons x l ih => exact fun hb => ih (hf _ x hb)

theorem store (n : Nat) (f : TFmt) : (b.store n f).Sized := by
  refine h.instr n _ _ ?_
  dsimp only
  split
  · exact h.progFail _ _ _ _
  · split
    · exact h.progFail _ _ _ _
    · exact advance (foldl (fun _ _ hb => hb.put _ _ _ _ _) _ (h.addBeats n _)) _ _ _

theorem setScalar (n i : Nat) (v : Word) : (b.modSaf n fun u => u.setScalar i v).Sized := h.modSaf n fun hu => hu

theorem scatter (n : Nat) (f : TFmt) : (b.scatter n f).Sized := by
  refine h.instr n _ _ (ite (h.progFail _ _ _ _) (advance (setScalar ?_ n _ _) _ _ _))
  exact ite h (addBeats (h.put _ _ _ _ _) _ _)

theorem cand (n : Nat) (f : TFmt) : (b.cand n f).Sized := by
  refine h.instr n _ _ ?_
  dsimp only
  split
  · exact h
  · split
    · exact h.progFail _ _ _ _
    · split
      · exact h.progFail _ _ _ _
      · split
        · exact h
        · exact advance (modSaf (h.modExp n _) n fun hu => hu) _ _ _

theorem endProgram (n : Nat) (f : TFmt) : (b.endProgram n f).Sized := by
  have hcount := h.modSaf n (f := fun u => { u with instr := u.instr + 1 }) fun hu => hu
  refine h.instr n _ _ ?_
  dsimp only
  split
  · exact h
  · split
    · exact h
    · split
      · exact h.progFail _ _ _ _
      · split
        · exact hcount.modExp n _
        · exact hcount.modExp n _

/-! ### Expansions -/

theorem select (p : Params) (n : Nat) : (b.select p n).Sized := by
  have hstart : ∀ seg, (b.modSub seg fun s => { s with started := true }).Sized :=
    fun seg => h.frame (Block.modSub_frame _ _ _) rfl
  unfold Block.select
  dsimp only
  split
  · exact h
  · next w _ =>
    have hsub : (if (b.win n w).piece then b else b.modSub (b.win n w).seg fun s => { s with started := true }).Sized := by
      split
      · exact h
      · exact hstart _
    split
    · exact (hsub.modSaf n (f := fun u => { u with busy := true, win := w }) fun hu => hu).frame
        (Block.modWin_frame _ _ _ _) rfl
    · split
      · exact hsub.frame (Block.present_frame _ _ _ _) rfl
      · exact hsub

theorem issueSelect (p : Params) (n : Nat) : (issueSelect p n b).Sized := by
  have hready : ((regulatorRefill b).releaseLost p n).Sized :=
    (h.frame (regulatorRefill_frame b) rfl).frame (Block.releaseLost_frame _ _ _) rfl
  unfold Machine.issueSelect
  dsimp only
  split
  · exact h
  · split
    · exact hready
    · exact select (select (hready.frame (Block.expandWaits_frame _ _) rfl) p n) p n

theorem setCreations (n : Nat) (x : Expansion) (m : MemView) (cs : List Creation) : (b.setCreations n x m cs).Sized := by
  unfold Block.setCreations
  dsimp only
  split
  · exact h.modExp n _
  · exact h.expFail n _

theorem viewErrors (port cls : Nat) (m : MemView) (a k : Nat) : (b.viewErrors port cls m a k).Sized :=
  h.frame (Block.viewErrors_frame _ _ _ _ _ _) rfl

theorem countsMode (n : Nat) (x : Expansion) (m : MemView) : (b.countsMode n x m).Sized := by
  have hread := h.areaErrors n m [(x.arg.locnt, 1024)]
  unfold Block.countsMode
  dsimp only
  split
  · exact hread.expFail n _
  · exact hread.setCreations n x m _

theorem expandStart (p : Params) (n w : Nat) (m : MemView) : (expandStart p n w m b).Sized := by
  have hread : ∀ a (x : Expansion), (((b.traceExpand p n w false 0).areaErrors n m a).modSaf n fun _ =>
      { busy := true, win := w, mode := x.arg.mode, exp := some x }).Sized :=
    fun a x => modSaf (areaErrors (h.frame (Block.traceExpand_frame _ _ _ _ _ _) rfl) n m a) n
      fun _ => Saffron.sized_empty
  have htmpls : ∀ (l : List (Nat × Nat)) {c : Block}, c.Sized →
      (l.foldl (fun b t => b.viewErrors n 0 m t.1 t.2) c).Sized :=
    fun l _ hc => foldl (fun _ _ hb => hb.viewErrors _ _ _ _ _) l hc
  unfold Machine.expandStart
  dsimp only
  split
  · exact h
  · split
    · exact h
    · split
      · exact (hread _ _).expFail n _
      · split
        · exact (hread _ _).expFail n _
        · split
          · exact (htmpls _ (hread _ _)).expFail n _
          · split
            · exact (htmpls _ (hread _ _)).expFail n _
            · split
              · exact (htmpls _ (hread _ _)).countsMode n _ m
              · exact (htmpls _ (hread _ _)).modExp n _

theorem programStart (n : Nat) (m : MemView) : (programStart n m b).Sized := by
  unfold Machine.programStart
  dsimp only
  split
  · exact h
  · next x _ =>
    have hhead := h.viewErrors n 0 m x.progAddr 64
    split
    · exact h
    · split
      · exact hhead.progFail _ _ _ _
      · split
        · exact hhead.progFail _ _ _ _
        · next k _ =>
          have hwords := hhead.viewErrors n 0 m (x.progAddr + 0x40) (4 * k)
          split
          · exact hwords.progFail _ _ _ _
          · exact meetInstr (hwords.modSaf n fun _ => Saffron.sized_empty) n

theorem routeWrites (n : Nat) (l : List (Nat × List Word)) : (b.routeWrites n l).Sized :=
  h.frame (Block.routeWrites_frame _ _ _) rfl

theorem readTables (n : Nat) (x : Expansion) (m : MemView) : (b.readTables n x m).Sized := by
  have hread := h.areaErrors n m (b.routeAreas n x.arg)
  unfold Block.readTables
  dsimp only
  split
  · exact hread.expFail n _
  · split
    · exact hread.expFail n _
    · exact hread.modExp n _

theorem routeTokens (n : Nat) (x : Expansion) (t : RouteTables) : (b.routeTokens n x t).Sized := by
  unfold Block.routeTokens
  dsimp only
  split
  · exact expFail (modExp (h.routeWrites n _) n _) n _
  · exact modExp (h.routeWrites n _) n _

theorem routeEnds (n : Nat) (x : Expansion) (t : RouteTables) (m : MemView) : (b.routeEnds n x t m).Sized :=
  setCreations (modExp (h.routeWrites n _) n _) n x m _

theorem routingStage (n : Nat) (m : MemView) : (routingStage n m b).Sized := by
  unfold Machine.routingStage
  dsimp only
  split
  · exact h
  · next x _ =>
    split
    · exact h
    · split
      · split
        · exact h
        · exact h.readTables n x m
      · next t _ =>
        have htokens := h.routeTokens n x t
        split
        · split
          · exact htokens.routeEnds n _ t m
          · exact htokens
        · exact htokens

theorem readList (n : Nat) (x : Expansion) (m : MemView) : (b.readList n x m).Sized := by
  have hread := h.areaErrors n m x.listArea
  unfold Block.readList
  dsimp only
  split
  · exact h.expFail n _
  · split
    · exact hread.expFail n _
    · split
      · exact hread.expFail n _
      · exact setCreations (hread.modExp n _) n x m _

theorem prepare (n : Nat) (x : Expansion) (m : MemView) : (b.prepare n x m).Sized := by
  have hread : ∀ (l k : List (Nat × Nat)), ((l.foldl (fun b t => b.viewErrors n 0 m t.1 t.2) b).areaErrors n m k).Sized :=
    fun l k => areaErrors (foldl (fun _ _ hb => hb.viewErrors _ _ _ _ _) l h) n m k
  unfold Block.prepare
  exact ite h (ite ((hread _ _).expFail n _) ((hread _ _).modExp n _))

theorem sendSpawn (p : Params) (n : Nat) (x : Expansion) (m : MemView) (k : Nat) (c : Creation) :
    (b.sendSpawn p n x m k c).Sized := by
  unfold Block.sendSpawn
  dsimp only
  refine modExp (frame ?_ (Block.sendUp_frame _ _ _ _) rfl) n _
  split
  · exact h.frame (Block.modSub_frame _ _ _) rfl
  · exact h

theorem createOne (p : Params) (n : Nat) (x : Expansion) (m : MemView) : (b.createOne p n x m).Sized := by
  unfold Block.createOne
  dsimp only
  split
  · exact h.modExp n _
  · split
    · split
      · exact h.sendSpawn p n x m _ _
      · exact h
    · exact h.put _ _ _ _ _

theorem createNodes (p : Params) (n : Nat) (m : MemView) : (createNodes p n m b).Sized := by
  unfold Machine.createNodes
  split
  · exact h
  · next x _ =>
    have hlist : (if x.arg.mode ≠ 0 || x.listRead || x.listArea.any fun t => b.mp.pendingWrite t.1 t.2 then b
        else b.readList n x m).Sized := by
      split
      · exact h
      · exact h.readList n x m
    split
    · exact h
    · split
      · dsimp only
        split
        · split
          · exact hlist.prepare n _ m
          · exact hlist
        · exact hlist
      · split
        · split
          · split
            · exact sendSpawn (h.modExp n _) p n x m _ _
            · exact h
          · exact h
        · exact h.createOne p n x m

theorem expansionRetire (p : Params) (n : Nat) : (expansionRetire p n b).Sized := by
  unfold Machine.expansionRetire
  dsimp only
  split
  · exact h
  · split
    · exact h
    · refine modSaf (frame (frame ?_ (Block.traceExpand_frame _ _ _ _ _ _) rfl) (Block.winEnds_frame _ _ _ _ _) rfl) n
        fun hu => hu
      split
      · exact (h.frame (Block.modSub_frame _ _ _) rfl).frame (Block.addLoad_frame _ _ _) rfl
      · exact h

/-! ### Domains and errors -/

theorem saffronFresh (n : Nat) : (b.saffronFresh n).Sized := by
  have hfresh := h.modSaf n (f := fun _ => {}) fun _ => Saffron.sized_empty
  unfold Block.saffronFresh
  dsimp only
  split
  · exact hfresh.frame (Block.loadChan_frame _ _) rfl
  · exact hfresh.frame (.upd_chans _ _) rfl

theorem domFresh (p : Params) (d : Nat) : (b.domFresh p d).Sized := by
  unfold Block.domFresh
  split
  · exact h.frame (.upd_fences _ _) rfl
  · exact h.frame (.upd_seq _ _) rfl
  · exact h.frame (.upd_experts _ _) rfl
  · exact h.frame (.upd_trace _ _) rfl
  · exact h.frame (.upd_link _ _) rfl
  · exact foldl (fun _ _ hb => hb.frame (Block.modLane_frame _ _ _) rfl) _ h
  · exact h
  · exact h
  · split
    · exact h.frame (Block.coreFresh_frame _ _ _) rfl
    · exact h.saffronFresh _

theorem domainAckHigh (p : Params) (d : Nat) : (domainAckHigh p d b).Sized := by
  have hfresh := h.domFresh p d
  have hdom : ∀ f, ((b.domFresh p d).modDom d f).Sized := fun f => hfresh.frame (Block.modDom_frame _ _ _) rfl
  unfold Machine.domainAckHigh
  dsimp only
  split
  · exact h
  · split
    · exact hdom _
    · split
      · exact (hdom _).frame (Block.flushPoisons_frame _) rfl
      · exact hdom _

theorem beadLost (d : Nat) : (b.beadLost d).Sized := by
  unfold Block.beadLost
  dsimp only
  split
  · exact h.frame (Block.modBead_frame _ _ _) rfl
  · exact (h.modSaf ((d - 8) / 2) (f := fun _ => {}) fun _ => Saffron.sized_empty).frame (.upd_chans _ _) rfl

theorem domainLoss (p : Params) (d : Nat) (m : MemView) : (domainLoss p d m b).Sized := by
  have hdom : ∀ f, (b.modDom d f).Sized := fun f => h.frame (Block.modDom_frame _ _ _) rfl
  unfold Machine.domainLoss
  dsimp only
  split
  · exact h
  · split
    · exact (hdom _).frame (Block.claspLost_frame _ _ _ _) rfl
    · split
      · exact (hdom _).beadLost d
      · exact ((beadLost ((hdom _).frame (Block.fenceBead_frame _ _ _ _) rfl) d).frame (Block.eccLog_frame _ _ _ _) rfl).frame
          (Block.raise_frame _ _) rfl

theorem saffronEcc (n : Nat) : (b.saffronEcc n).Sized := by
  unfold Block.saffronEcc
  split
  · exact h.progFail _ _ _ _
  · exact h

/-- R513: of the outcomes of an uncorrectable error only that of the Saffron unit's array touches it. -/
theorem eccOutcome (p : Params) (m : MemView) (n array : Nat) (held : EccHeld) : (b.eccOutcome p m n array held).Sized := by
  unfold Block.eccOutcome
  split
  · exact h.frame (Block.nodeEcc_frame _ _ _ _ _) rfl
  · exact h.frame (Block.edgeEcc_frame _ _ _ _ _) rfl
  · exact h.frame (Block.fenceEcc_frame _ _) rfl
  · exact h.frame (Block.seqEcc_frame _ _) rfl
  · exact h.frame (Block.compEcc_frame _ _ _) rfl
  · exact h.frame (Block.abandon_frame _ _ _ _ _) rfl
  · exact h.frame (Block.winEcc_frame _ _ _) rfl
  · exact h.frame (Block.winEcc_frame _ _ _) rfl
  · exact h.frame (Block.succEcc_frame _ _ _ _) rfl
  · exact h.frame (Block.wordEcc_frame _ _ _ _) rfl
  · exact h.saffronEcc n
  · exact h.frame (Block.locketEcc_frame _ _ _ _) rfl
  · exact h

theorem eccUncorrectable (p : Params) (n array row : Nat) (held : EccHeld) (m : MemView) :
    (eccUncorrectable p n array row held m b).Sized := by
  have hlog : (Block.eccLog { b with power := { b.power with uncorr := satAdd 32 b.power.uncorr 1 } } n array row).Sized :=
    (h.frame (.upd_power _ _) rfl).frame (Block.eccLog_frame _ _ _ _) rfl
  unfold Machine.eccUncorrectable
  dsimp only
  refine eccOutcome ?_ p m n array held
  split
  · exact hlog.frame (Block.raise_frame _ _) rfl
  · exact (hlog.frame (Block.beadLocket_frame _ _ _ _ _ _) rfl).frame (Block.sendUp_frame _ _ _ _) rfl

theorem saffronWriteError (n pc : Nat) : (b.saffronWriteError n pc).Sized := by
  unfold Block.saffronWriteError
  split
  · split
    · exact h.progFail _ _ _ _
    · exact h
  · exact h

/-- R51: of the acknowledges only those of the program's and the expansion's writes touch the unit. -/
theorem writeReturns (p : Params) (code : BitVec 2) (w : WPurpose) : (b.writeReturns p code w).Sized := by
  unfold Block.writeReturns
  dsimp only
  split
  · split
    · exact h.frame (Block.headError_frame _ _) rfl
    · exact h
  · exact h.frame (Block.cqRecordAck_frame _ _ _) rfl
  · exact h.frame (Block.cqTailAck_frame _ _ _) rfl
  · exact h.frame (Block.cqEnableTail_frame _ _ _) rfl
  · split
    · exact h.frame (Block.messageError_frame _ _) rfl
    · exact h
  · split
    · exact h.saffronWriteError _ _
    · exact h
  · exact h.modExp _ _
  · split
    · exact h.frame (Block.linkError_frame _ _ _) rfl
    · exact h
  · exact h.frame (Block.traceAck_frame _ _) rfl
  · exact h.frame (Block.sendPieces_frame _ _ _) rfl
  · exact h
  · exact h
  · exact h
  · exact h
  · exact h
  · exact h.frame (Block.spillAcked_frame _) rfl
  · exact h
  · exact h

theorem memoryWrite (p : Params) (port id : Nat) (code : BitVec 2) : (memoryWrite p port id code b).Sized := by
  unfold Machine.memoryWrite
  split
  · exact h
  · exact writeReturns (h.frame (Block.answerWrite_frame _ _ _) rfl) p code _

/-- A node of KIND PRIV acts by a function that leaves the units alone. -/
theorem privAct (p : Params) (m : MemView) (seg i op : Nat) {f : Nat → Block → Status × Block}
    (hf : ∀ k c, Block.Frame 29171268 c (f k c).2) : (b.privAct p m seg i op f).Sized :=
  h.frame (Block.Frame.privAct rfl hf (.refl _ b)) rfl

omit h in
theorem coldReset : (coldReset b).Sized := fun _ => Saffron.sized_empty

end Block.Sized

/-! ### Accesses -/

namespace State
variable {s t : State} (h : s.blk.Sized)
include h

theorem sized_access (a : Acc) (r : Reg) (w : Bool) (f : State → State × Word) (hf : (f s).1.blk.Sized) :
    (s.access a r w f).blk.Sized := by
  obtain heq | heq | heq | ⟨u, heq⟩ | heq := access_cases s a r w f <;> rw [heq]
  · exact h
  · exact h
  · exact h
  · exact h.frame (Block.recordUnreachable_frame _ _ _) rfl
  · exact hf

/-- A read that acts pops a receive queue, or claims a source. -/
theorem sized_readEffect (r : Reg) : (s.readEffect r).1.blk.Sized := by
  unfold State.readEffect
  split
  · exact h.frame (Block.claim_frame _ _) rfl
  · exact h.frame (chnPop_frame _ _ _ _) rfl
  · exact h

/-- R10: no register is one of a Saffron unit's tiles or masks. -/
theorem sized_regWrite (r : Reg) (d : Word) : (s.regWrite r d).blk.Sized := h.frame (writeBlock_frame _ _ _ _) rfl

theorem sized_noRegister : s.noRegister.blk.Sized := by
  unfold State.noRegister
  split <;> exact h

theorem sized_readAt (a : Acc) (off : Nat) (size64 : Bool) : (s.readAt a off size64).blk.Sized := by
  unfold State.readAt
  split
  · exact sized_noRegister h
  · next r upper _ =>
    refine sized_access h a r false _ ?_
    dsimp only
    split
    · exact h
    · split <;> exact sized_readEffect h r

theorem sized_writeAt (a : Acc) (off : Nat) (size64 : Bool) (d : Word) : (s.writeAt a off size64 d).blk.Sized := by
  unfold State.writeAt
  split
  · exact sized_noRegister h
  · next r upper _ =>
    refine sized_access h a r true _ ?_
    dsimp only
    split
    · exact sized_regWrite (s := s.unstage r) h r _
    · split
      · exact h
      · exact sized_regWrite (s := s.unstage r) h r _

theorem sized_input {f : Block → Block} (hf : (f s.blk).Sized) : (s.input f).blk.Sized := by
  unfold State.input
  split
  · exact h
  · exact hf

/-! ### The debug port draws values (log 54), and touches nothing else of the block -/

theorem sized_settle : s.settle.blk.Sized := by
  unfold State.settle
  split
  · exact h
  · dsimp only
    split <;> exact h

theorem sized_claspUpdate (off : Nat) (write : Bool) (d : Word) : (s.claspUpdate off write d).blk.Sized := by
  unfold State.claspUpdate
  split
  · split <;> exact h
  · split
    · exact h
    · split
      · exact h
      · exact sized_settle h

theorem sized_beadUpdate (n ring entry word : Nat) : (s.beadUpdate n ring entry word).blk.Sized := by
  unfold State.beadUpdate
  split
  · exact h
  · split <;> exact h

theorem sized_beadShift (n : Nat) (g : BeadSegment) : (s.beadShift n g).blk.Sized := by
  unfold State.beadShift
  split <;> exact h

theorem sized_claspCapture : s.claspCapture.blk.Sized := by
  have hsettle := sized_settle h
  unfold State.claspCapture
  dsimp only
  split <;> exact hsettle

theorem sized_beadCapture (n : Nat) : (s.beadCapture n).blk.Sized := by
  unfold State.beadCapture
  split <;> exact h

end State

/-! ### Commands -/

/-- The outcome of a command, where it answers the state `u`. -/
theorem Block.Sized.next {u t : State} (h : u.blk.Sized)
    (ht : (.next u : Host.Outcome State Fault Refusal) = .next t) : t.blk.Sized := by
  cases ht
  exact h

namespace Block.Sized
variable {s t : State} (h : s.blk.Sized)
include h

/-- A command of the block that does not touch the Saffron units. -/
theorem nextFrame {k : Nat} {b : Block} (g : Block.Frame k s.blk b) (e : k.testBit 15 = false)
    (ht : (.next { s with blk := b } : Host.Outcome State Fault Refusal) = .next t) : t.blk.Sized :=
  next (u := { s with blk := b }) (h.frame g e) ht

/-- A command of a register, whose effect does not touch the Saffron units. -/
theorem nextCommand {a : Acc} {r : Reg} {k : Nat} {f : Params → Block → Block} (g : ∀ p b, Block.Frame k b (f p b))
    (e : k.testBit 15 = false)
    (ht : (.next (s.command a r f) : Host.Outcome State Fault Refusal) = .next t) : t.blk.Sized :=
  (State.sized_access h a r true _ (h.frame (g s.params s.blk) e)).next ht

omit h in
/-- A command of the block. -/
theorem nextBlock {b : Block} (hb : b.Sized)
    (ht : (.next { s with blk := b } : Host.Outcome State Fault Refusal) = .next t) : t.blk.Sized :=
  next (u := { s with blk := b }) hb ht

end Block.Sized

/-- Every command keeps the sizes: by its frame, or as the operation of the Saffron unit that it is. -/
theorem Block.Sized.exec {c : Instr} {s t : State} (h : s.blk.Sized) (ht : exec c s = .next t) : t.blk.Sized := by
  cases c with
  | coldResetAssert => exact next (u := { s with tp := {}, keys := {}, blk := _ }) coldReset ht
  | storageInitDone =>
    refine next ?_ ht
    split <;> exact h
  | tapReset => exact next (u := { s with tap := {} }) h ht
  | scrub => exact h.next ht
  | registerWrite | splitWriteLowerHalf | splitWriteUpperHalf => exact (State.sized_writeAt h _ _ _ _).next ht
  | splitReadLowerHalf | unreachableRead => exact (State.sized_readAt h _ _ _).next ht
  | claspSegmentUpdate => exact (State.sized_claspUpdate (s := s.claspShift _ _ _) h _ _ _).next ht
  | beadSegmentUpdate => exact (State.sized_beadUpdate (State.sized_beadShift h _ _) _ _ _ _).next ht
  | segmentCapture bead =>
    cases bead with
    | none => exact (State.sized_claspCapture h).next ht
    | some n => exact (State.sized_beadCapture h n).next ht
  | chnPop => exact (State.sized_access h _ _ _ _ (h.frame (chnPop_frame _ _ _ _) rfl)).next ht
  | evcTgtClaim => exact (State.sized_access h _ _ _ _ (h.frame (Block.claim_frame _ _) rfl)).next ht
  | evcSync => exact (State.sized_access h _ _ _ _ h).next ht
  | engineCompletion => exact (State.sized_input h (h.frame (engineCompletion_frame _ _ _ _ _ _ _) rfl)).next ht
  | externalEventLevel => exact (State.sized_input h (h.frame (externalLevel_frame _ _ _) rfl)).next ht
  | eccCorrectable => exact (State.sized_input h (h.frame (eccCorrectable_frame _) rfl)).next ht
  | eccUncorrectable => exact (State.sized_input h (h.eccUncorrectable _ _ _ _ _ _)).next ht
  | domainLoss d m =>
    change (if d = 0 then Host.Outcome.fault Fault.coreDomainLost else if domains s.params ≤ d then .next s
      else .next { s with blk := Machine.domainLoss s.params d m s.blk }) = .next t at ht
    split at ht
    · cases ht
    · split at ht
      · exact h.next ht
      · exact nextBlock (h.domainLoss _ _ _) ht
  | domainAckHigh => exact nextBlock (h.domainAckHigh _ _) ht
  | memoryWriteAck => exact nextBlock (h.memoryWrite _ _ _ _) ht
  | fencePoison =>
    exact nextBlock (h.privAct _ _ _ _ _ fun _ c => (Block.Frame.refl _ c).step (fencePoisonOp_frame _ _ _ _ _) rfl) ht
  | contextReg =>
    exact nextBlock (h.privAct _ _ _ _ _ fun _ c => (Block.Frame.refl _ c).step (contextRegOp_frame _ _ _ _) rfl) ht
  | traceCtl =>
    exact nextBlock (h.privAct _ _ _ _ _ fun _ c => (Block.Frame.refl _ c).step (traceCtlOp_frame _ _ _) rfl) ht
  | issueSelect => exact nextBlock (h.issueSelect _ _) ht
  | expandStart => exact nextBlock (h.expandStart _ _ _ _) ht
  | programStart => exact nextBlock (h.programStart _ _) ht
  | routingStage => exact nextBlock (h.routingStage _ _) ht
  | createNodes => exact nextBlock (h.createNodes _ _ _) ht
  | expansionRetire => exact nextBlock (h.expansionRetire _ _) ht
  | sAnd | sOr | sXor | sAdd | sSub => exact nextBlock (h.elem2 _ _ _ _) ht
  | sAddsu | sAddss | sSubsu | sSubss => exact nextBlock (h.elemSat _ _ _ _ _ _) ht
  | sShl | sShr | sSar => exact nextBlock (h.elemShift _ _ _ _) ht
  | sMin | sMax => exact nextBlock (h.elemMinMax _ _ _ _) ht
  | sNot => exact nextBlock (h.elemNot _ _) ht
  | sCmp => exact nextBlock (h.elemCmp _ _) ht
  | sSel => exact nextBlock (h.elemSel _ _) ht
  | sMop => exact nextBlock (h.maskOp _ _) ht
  | sOkey => exact nextBlock (h.elemOkey _ _) ht
  | sIota => exact nextBlock (h.iota _ _) ht
  | sFill => exact nextBlock (h.fill _ _) ht
  | sRmin | sRmax => exact nextBlock (h.rowMinMax _ _ _ _) ht
  | sRsum => exact nextBlock (h.rowSums _ _) ht
  | sTopk => exact nextBlock (h.topk _ _) ht
  | sPsum => exact nextBlock (h.psum _ _) ht
  | sLd => exact nextBlock (h.load _ _ _) ht
  | sSt => exact nextBlock (h.store _ _) ht
  | sScat => exact nextBlock (h.scatter _ _) ht
  | sCand => exact nextBlock (h.cand _ _) ht
  | sSmovi => exact nextBlock (h.movImm _ _) ht
  | sSaddi => exact nextBlock (h.addImm _ _) ht
  | sSadd => exact nextBlock (h.addScalar _ _) ht
  | sSld => exact nextBlock (h.scalarLoad _ _ _) ht
  | sSshri => exact nextBlock (h.shiftScalar _ _) ht
  | sLoop => exact nextBlock (h.loopBack _ _) ht
  | sBz => exact nextBlock (h.branchZero _ _) ht
  | sEnd => exact nextBlock (h.endProgram _ _) ht
  | coldResetRelease => exact h.nextFrame (coldRelease_frame _ _) rfl ht
  | memoryReadResponse => exact h.nextFrame (memoryRead_frame _ _ _ _ _ _ _) rfl ht
  | dispatchTransfer => exact h.nextFrame (dispatchTransfer_frame _ _ _ _) rfl ht
  | counterBeat => exact h.nextFrame (counterBeat_frame _ _ _ _ _) rfl ht
  | slotResetRequest => exact h.nextFrame (slotResetRequest_frame _ _ _ _) rfl ht
  | slotResetAck => exact h.nextFrame (slotResetAck_frame _ _ _ _ _) rfl ht
  | linkUpRise => exact h.nextFrame (linkUpRise_frame _ _ _) rfl ht
  | linkUpFall => exact h.nextFrame (linkUpFall_frame _ _) rfl ht
  | packetReceived | completion | hello | signal => exact h.nextFrame (packetIn_frame _ _ _ _) rfl ht
  | packetTransmitted => exact h.nextFrame (packetTransmitted_frame _) rfl ht
  | lnk => exact h.nextFrame (lnk_frame _ _ _ _ _) rfl ht
  | lnkAckTimer => exact h.nextFrame (lnkAckTimer_frame _ _ _) rfl ht
  | nakRepeatTimer => exact h.nextFrame (nakRepeat_frame _ _ _) rfl ht
  | laneTrainDoneFall => exact h.nextFrame (trainDoneFall_frame _ _ _ _) rfl ht
  | tokenClasp => exact h.nextFrame (tokenClasp_frame _ _ _) rfl ht
  | token => exact h.nextFrame (token_frame _ _ _ _) rfl ht
  | tokenAnswer => exact h.nextFrame (tokenAnswer_frame _ _ _ _) rfl ht
  | tokenRetryTimer => exact h.nextFrame (tokenRetry_frame _ _ _) rfl ht
  | timeEchoRequest => exact h.nextFrame (timeEchoRequest_frame _ _) rfl ht
  | timeEchoAnswer => exact h.nextFrame (timeEchoAnswer_frame _ _ _) rfl ht
  | time => exact h.nextFrame (timeLoad_frame _ _ _) rfl ht
  | timePeriodic => exact h.nextFrame (timePeriodic_frame _ _) rfl ht
  | node => exact h.nextFrame (nodeArrive_frame _ _ _ _ _ _ _ _ _) rfl ht
  | dec => exact h.nextFrame (decArrive_frame _ _ _ _ _ _) rfl ht
  | fence => exact h.nextFrame (fenceArrive_frame _ _ _ _ _ _) rfl ht
  | cpl => exact h.nextFrame (cpl_frame _ _ _ _ _ _ _) rfl ht
  | ret => exact h.nextFrame (ret_frame _ _ _ _ _ _ _) rfl ht
  | ctr => exact h.nextFrame (ctr_frame _ _ _ _ _) rfl ht
  | spawn => exact h.nextFrame (spawn_frame _ _ _ _ _ _ _ _ _) rfl ht
  | evt | stopReport => exact h.nextFrame (evt_frame _ _ _ _) rfl ht
  | snap => exact h.nextFrame (snap_frame _ _ _ _ _) rfl ht
  | set => exact h.nextFrame (set_frame _ _ _ _ _) rfl ht
  | setr => exact h.nextFrame (setr_frame _ _ _ _) rfl ht
  | chn => exact h.nextFrame (chn_frame _ _ _ _ _ _ _ _) rfl ht
  | credit => exact h.nextFrame (credit_frame _ _ _ _ _ _) rfl ht
  | ctlHalt => exact h.nextFrame (ctlHalt_frame _ _ _ _) rfl ht
  | ctlResume => exact h.nextFrame (ctlResume_frame _ _ _) rfl ht
  | ctlClear => exact h.nextFrame (ctlClear_frame _ _ _ _) rfl ht
  | ctlFenceOff => exact h.nextFrame (ctlFenceOff_frame _ _ _) rfl ht
  | setStart | setAbort => exact h.nextCommand (fun _ _ => setCtl_frame _ _ _) rfl ht
  | settingLoadCheck => exact h.nextFrame (settingLoadCheck_frame _ _ _ _) rfl ht
  | settingActivate => exact h.nextFrame (settingActivate_frame _ _) rfl ht
  | settingLoadFail => exact h.nextFrame (settingLoadFail_frame _ _) rfl ht
  | settingPatch => exact h.nextFrame (settingPatch_frame _ _ _ _ _ _) rfl ht
  | patchCommit => exact h.nextFrame (patchCommit_frame _ _ _) rfl ht
  | patchFail => exact h.nextFrame (patchFail_frame _ _ _) rfl ht
  | qEnable => exact h.nextCommand (fun _ _ => qEnable_frame _ _) rfl ht
  | qDisable => exact h.nextCommand (fun _ _ => qDisable_frame _ _) rfl ht
  | qForce => exact h.nextCommand (fun _ _ => qForce_frame _ _ _) rfl ht
  | qCmdInvalid => exact h.nextCommand (fun _ _ => queueCommand_frame _ _ _ _) rfl ht
  | queueDisabled => exact h.nextFrame (queueDisabled_frame _ _) rfl ht
  | queueForceDone => exact h.nextFrame (queueForceDone_frame _ _) rfl ht
  | doorbellWrite => exact h.nextCommand (fun _ _ => doorbellWrite_frame _ _ _ _) rfl ht
  | slotMapperBind => exact h.nextFrame (slotMapperBind_frame _) rfl ht
  | tailReadReturn => exact h.nextFrame (tailReadReturn_frame _ _ _ _) rfl ht
  | descriptorArrival => exact h.nextFrame (descriptorArrival_frame _ _ _ _) rfl ht
  | idleTest => exact h.nextFrame (idleTest_frame _ _) rfl ht
  | slotRelease => exact h.nextFrame (slotRelease_frame _ _) rfl ht
  | unbind => exact h.nextCommand (fun _ _ => unbindWrite_frame _ _) rfl ht
  | rcbError => exact h.nextFrame (rcbError_frame _ _ _ _) rfl ht
  | stallReport => exact h.nextFrame (stallReport_frame _ _ _) rfl ht
  | pop | clrLost => exact h.nextCommand (fun _ _ => popWrite_frame _ _ _) rfl ht
  | checkPass => exact h.nextFrame (checkPass_frame _ _ _ _) rfl ht
  | submissionPlace => exact h.nextFrame (submissionPlace_frame _ _ _ _ _ _) rfl ht
  | nodeForward => exact h.nextFrame (nodeForward_frame _ _ _ _ _) rfl ht
  | windowEdgesApply => exact h.nextFrame (windowEdgesApply_frame _ _ _ _) rfl ht
  | bankDecrement => exact h.nextFrame (bankDecrement_frame _ _ _ _) rfl ht
  | nopRetire => exact h.nextFrame (nopRetire_frame _ _ _) rfl ht
  | indirectReadReturn => exact h.nextFrame (indirectReadReturn_frame _ _ _ _ _ _) rfl ht
  | tileListRetire => exact h.nextFrame (tileListRetire_frame _ _ _) rfl ht
  | regulatorRefill => exact h.nextFrame (regulatorRefill_frame _) rfl ht
  | waitAct => exact h.nextFrame (waitAct_frame _ _ _ _ _) rfl ht
  | arrivalRead => exact h.nextFrame (arrivalRead_frame _ _ _ _ _ _ _) rfl ht
  | arrivalRereadTimer => exact h.nextFrame (arrivalReread_frame _ _ _ _) rfl ht
  | signalAct => exact h.nextFrame (signalAct_frame _ _ _ _ _) rfl ht
  | submissionComplete => exact h.nextFrame (submissionComplete_frame _ _ _ _) rfl ht
  | pagerRefill => exact h.nextFrame (pagerRefill_frame _ _ _ _ _ _) rfl ht
  | pagerFull => exact h.nextFrame (pagerFull_frame _ _) rfl ht
  | sweep => exact h.nextCommand (fun _ _ => sweepStart_frame _) rfl ht
  | sweepComplete => exact h.nextFrame (sweepComplete_frame _) rfl ht
  | clrErr => exact h.nextCommand (fun _ _ => pgClearErr_frame _) rfl ht
  | fncAlloc => exact h.nextCommand (fun _ _ => fncAlloc_frame _ _ _) rfl ht
  | fncFree => exact h.nextCommand (fun _ _ => fncFree_frame _ _) rfl ht
  | fncClear => exact h.nextCommand (fun _ _ => fncClear_frame _ _) rfl ht
  | fncClrCount => exact h.nextCommand (fun _ _ => fncClrCount_frame _) rfl ht
  | fncCmdInvalid => exact h.nextCommand (fun _ _ => fncWrite_frame _ _) rfl ht
  | joinContribution => exact h.nextFrame (joinContribution_frame _ _ _ _ _) rfl ht
  | planVersion => exact h.nextFrame (planVersion_frame _ _) rfl ht
  | expCfgWrite => exact h.nextCommand (fun _ _ => expCfgWrite_frame _ _) rfl ht
  | join | cancel | sqtCmdInvalid => exact h.nextCommand (fun _ _ => sqtWrite_frame _ _) rfl ht
  | sqtCommandApply => exact h.nextFrame (sqtApply_frame _) rfl ht
  | poolConfigWrite => exact h.nextCommand (fun _ _ => poolConfigWrite_frame _ _ _) rfl ht
  | stepBuild => exact h.nextFrame (stepBuild_frame _ _ _ _ _) rfl ht
  | stepRetire => exact h.nextFrame (stepRetire_frame _ _ _ _ _) rfl ht
  | completionDelivery => exact h.nextFrame (completionDelivery_frame _ _) rfl ht
  | cqHeadReread => exact h.nextFrame (cqHeadReread_frame _ _) rfl ht
  | cqEnable => exact h.nextCommand (fun _ _ => cqEnable_frame _ _) rfl ht
  | cqDisable => exact h.nextCommand (fun _ _ => cqDisable_frame _ _) rfl ht
  | cqResume => exact h.nextCommand (fun _ _ => cqResume_frame _ _) rfl ht
  | cqCmdInvalid => exact h.nextCommand (fun _ _ => cqCommand_frame _ _ _) rfl ht
  | cqCfgWrite => exact h.nextCommand (fun _ _ => cqCfgWrite_frame _ _ _) rfl ht
  | fallbackSend => exact h.nextFrame (fallbackSend_frame _ _) rfl ht
  | helloRetryTimer => exact h.nextFrame (helloRetry_frame _ _ _) rfl ht
  | remoteSignalAct => exact h.nextFrame (remoteSignalAct_frame _ _ _ _ _) rfl ht
  | peerEntryWrite => exact h.nextCommand (fun _ _ => peerEntryWrite_frame _ _ _ _) rfl ht
  | selfWrite => exact h.nextCommand (fun _ _ => selfWrite_frame _ _) rfl ht
  | clr => exact h.nextCommand (fun _ _ => linkClear_frame _) rfl ht
  | chnTxHdr => exact h.nextCommand (fun _ _ => txHeader_frame _ _ _ _ _) rfl ht
  | chnTxData => exact h.nextCommand (fun _ _ => txData_frame _ _ _ _) rfl ht
  | chnMessageSend => exact h.nextFrame (chnMessageSend_frame _ _ _) rfl ht
  | drop => exact h.nextCommand (fun _ _ => chnDrop_frame _ _ _ _) rfl ht
  | creditReturn => exact h.nextFrame (creditReturn_frame _ _ _ _) rfl ht
  | partEnable | partDisable | partForce | partYield | partCmdInvalid =>
    exact h.nextCommand (fun _ _ => partWrite_frame _ _ _ _) rfl ht
  | partitionCtl => exact h.nextFrame (partitionCtl_frame _ _ _ _ _) rfl ht
  | partitionDisabled => exact h.nextFrame (partitionDisabled_frame _ _) rfl ht
  | partitionForceDone => exact h.nextFrame (partitionForceDone_frame _ _) rfl ht
  | ctxRegister | ctxRelease | ctxReset | ctxAck => exact h.nextCommand (fun _ _ => ctxWrite_frame _ _ _ _ _ _) rfl ht
  | ctxCmdInvalid => exact h.nextCommand (fun _ _ => ctxCmdWrite_frame _ _ _) rfl ht
  | quantumExpiry => exact h.nextFrame (quantumExpiry_frame _ _) rfl ht
  | switchRequest => exact h.nextFrame (switchRequest_frame _ _ _) rfl ht
  | switchBoundary => exact h.nextFrame (switchBoundary_frame _ _ _ _) rfl ht
  | switchSaveDone => exact h.nextFrame (switchSaveDone_frame _ _ _ _) rfl ht
  | switchRestoreDone => exact h.nextFrame (switchRestoreDone_frame _ _ _ _) rfl ht
  | idleHint => exact h.nextFrame (idleHint_frame _ _) rfl ht
  | hintTransfer => exact h.nextFrame (hintTransfer_frame _ _) rfl ht
  | beadEnable | beadDisable | beadForce | beadCmdInvalid =>
    exact h.nextCommand (fun _ _ => beadWrite_frame _ _ _ _) rfl ht
  | beadDisabled => exact h.nextFrame (beadDisabled_frame _ _) rfl ht
  | eventRaise => exact h.nextFrame (eventRaise_frame _ _) rfl ht
  | evcTgtComplete => exact h.nextCommand (fun _ _ => complete_frame _ _ _) rfl ht
  | evcSwi => exact h.nextCommand (fun _ _ => swiWrite_frame _ _) rfl ht
  | evcPclr => exact h.nextCommand (fun _ _ => pclrWrite_frame _ _) rfl ht
  | evcPendWrite => exact h.nextCommand (fun _ _ => pendWrite_frame _ _ _) rfl ht
  | evcMaskWrite => exact h.nextCommand (fun _ _ => maskWrite_frame _ _ _) rfl ht
  | evcSrcCfgWrite => exact h.nextCommand (fun _ _ => srcCfgWrite_frame _ _ _ _) rfl ht
  | holdoffExpiry => exact h.nextFrame (holdoffExpiry_frame _ _) rfl ht
  | messageWrite => exact h.nextFrame (messageWrite_frame _ _) rfl ht
  | rearmTimer => exact h.nextFrame (rearmTimer_frame _ _) rfl ht
  | auditDigest => exact h.nextFrame (auditDigest_frame _ _ _) rfl ht
  | audRegionWrite => exact h.nextCommand (fun _ _ => audRegionWrite_frame _ _ _) rfl ht
  | traceEvent => exact h.nextFrame (Machine.traceEvent_frame _) rfl ht
  | traceStart | traceStop | traceTrigger | traceClrLost | traceCmdInvalid =>
    exact h.nextCommand (fun _ _ => traceWrite_frame _ _) rfl ht
  | traceHeadWrite => exact h.nextCommand (fun _ _ => traceHeadWrite_frame _ _) rfl ht
  | latchSetClose => exact h.nextFrame (latchSetClose_frame _ _ _ _) rfl ht
  | breakpointHold => exact h.nextFrame (breakpointHold_frame _ _ _ _) rfl ht
  | stopReportSend => exact h.nextFrame (stopReportSend_frame _ _ _) rfl ht
  | stopComplete => exact h.nextFrame (stopComplete_frame _ _) rfl ht
  | halt | resume | lktCmdInvalid => exact h.nextCommand (fun _ _ => stopWrite_frame _ _ _ _) rfl ht
  | freezeComplete => exact h.nextFrame (freezeComplete_frame _ _) rfl ht
  | domainOn | domainOff | domCmdInvalid => exact h.nextCommand (fun _ _ => domWrite_frame _ _ _ _) rfl ht
  | domainAckLow => exact h.nextFrame (domainAckLow_frame _ _) rfl ht
  | beadDomainReturn => exact h.nextFrame (beadDomainReturn_frame _ _ _) rfl ht
  | supplyWarnRise => exact h.nextFrame (supplyRise_frame _ _) rfl ht
  | supplyFrozen => exact h.nextFrame (supplyFrozen_frame _ _) rfl ht
  | supplyWarnFall => exact h.nextFrame (supplyFall_frame _ _) rfl ht
  | holdExpiry => exact h.nextFrame (holdExpiry_frame _) rfl ht
  | eccClr => exact h.nextCommand (fun _ _ => eccClear_frame _) rfl ht
  | fenceBead => exact h.nextCommand (fun _ _ => Block.fenceBead_frame _ _ _ _) rfl ht
  | bdErrClr => exact h.nextCommand (fun _ _ => Block.modBead_frame _ _ _) rfl ht
  | trainDoneRise => exact h.nextFrame (trainDoneRise_frame _ _ _) rfl ht
  | recordCrcError => exact h.nextFrame (recordCrcError_frame _ _ _ _ _) rfl ht

/-- Settles O39, by what each command does to the Saffron units; a tick leaves them alone. -/
theorem saffronTilesKeepTheirSize : Obligations.SaffronTilesKeepTheirSize := by
  intro s t h hstep
  unfold step at hstep
  split at hstep
  · exact Block.Sized.next (u := s.tick) h hstep
  · next c rest _ => exact Block.Sized.exec (s := { s with pending := rest }) h hstep

end Sys2Proof.Machine
end

section
/-! SUPPORT. How an instruction of the Saffron unit runs or fails (R312, R313, R334, R336), and what its operations
on elements and masks leave (R316 to R320). -/

namespace Sys2Proof.Machine

/-! ### A change of one unit -/

/-- `c` is `b` with the Saffron unit of Bead `n` as `u`. -/
def Block.UnitTo (b : Block) (n : Nat) (u : Saffron) (c : Block) : Prop :=
  c.saf n = u ∧ (∀ k, k ≠ n → c.saf k = b.saf k) ∧ c = { b with saffron := c.saffron }

theorem Block.UnitTo.refl (b : Block) (n : Nat) : b.UnitTo n (b.saf n) b := ⟨rfl, fun _ _ => rfl, rfl⟩

namespace Block.UnitTo
variable {b c : Block} {n : Nat} {u : Saffron} (h : b.UnitTo n u c)
include h

theorem modSaf (f : Saffron → Saffron) : b.UnitTo n (f u) (c.modSaf n f) := by
  obtain ⟨hself, hother, hrest⟩ := h
  refine ⟨by rw [saf_modSaf_self, hself], fun k hk => by rw [saf_modSaf_ne _ _ (Ne.symm hk), hother k hk], ?_⟩
  rw [hrest]
  rfl

/-- R336: a program that fails, where nothing has failed before. -/
theorem progFail (pc cause : Nat) (st : Status) {x : Expansion} (hx : u.exp = some x) (hfail : x.fail = none) :
    b.UnitTo n { u with
      errV := true, errCause := cause, errPc := pc % 4096, exp := some { x with fail := some st, stage := .retiring } }
      (c.progFail n pc cause st) := by
  have hset : b.UnitTo n _ (c.progFail n pc cause st) := (h.modSaf fun u =>
      { u with errV := true, errCause := cause, errPc := pc % 4096 }).modSaf fun u =>
    { u with exp := u.exp.map fun x =>
        { x with fail := match x.fail with | some s => some s | none => some st, stage := .retiring } }
  simpa only [hx, hfail, Option.map_some] using hset

/-- R334: PC moves to an instruction that the program has. -/
theorem advance (alu next : Nat) {x : Expansion} {w : BitVec 32} (hx : u.exp = some x) (hw : x.prog[next]? = some w)
    (hop : knownOp (w.toNat / 2 ^ 24) = true) : b.UnitTo n (u.stepped alu next) (c.advance n alu next) := by
  have hlen : ¬ x.prog.length ≤ next := by
    have := (List.getElem?_eq_some_iff.1 hw).1
    omega
  have hmoved := (h.modSaf fun u => { u with instr := u.instr + 1, aluBc := u.aluBc + alu }).modSaf fun u =>
    { u with pc := next }
  have hself := hmoved.1
  rw [← h.1] at hx
  simp only [Block.advance, hx, if_neg hlen]
  rw [Block.meetInstr]
  simp only [hself, ← h.1, hx, hw, hop, if_true]
  rw [h.1]
  exact hmoved

end Block.UnitTo

/-- A command that leaves one unit changed has run. -/
theorem ran_of {s : State} {i : Instr} {n : Nat} {u : Saffron} {b : Block} (h : exec i s = .next { s with blk := b })
    (hb : s.blk.UnitTo n u b) : Ran s i n u := ⟨b, h, hb⟩

/-! ### Instructions -/

/-- A word stands at PC while an expansion runs that has not failed. -/
theorem exp_of_current {b : Block} {n w : Nat} (h : b.current n = some w) :
    ∃ x, (b.saf n).exp = some x ∧ x.fail = none := by
  unfold Block.current at h
  dsimp only at h
  split at h
  · cases h
  · next x hx =>
    split at h
    · next hrun =>
      simp only [Bool.and_eq_true, Option.isNone_iff_eq_none] at hrun
      exact ⟨x, hx, hrun.2⟩
    · cases h

section
variable {s : State} {i : Instr} {n word : Nat} {legal : Bool} {run : Block → Block}

/-- R336: the program fails in the instruction at PC. -/
theorem failed_of (cause : Nat) (st : Status) (hcur : s.blk.current n = some word)
    (h : exec i s = .next { s with blk := s.blk.progFail n (s.blk.saf n).pc cause st }) : Failed s i n cause st := by
  obtain ⟨x, hx, hfail⟩ := exp_of_current hcur
  exact ⟨_, x, hx, ran_of h ((Block.UnitTo.refl s.blk n).progFail _ cause st hx hfail), rfl⟩

variable (h : exec i s = .next { s with blk := s.blk.instr n word legal run }) (hcur : s.blk.current n = some word)
include h hcur

/-- R313: an encoding that is not legal fails with cause 3. -/
theorem failed_illegal (hlegal : legal = false) : Failed s i n 3 Status.format := by
  refine failed_of 3 Status.format hcur (h.trans ?_)
  simp [Block.instr, hcur, hlegal]

/-- R312: the instruction after the last that the budget allows fails with cause 8. -/
theorem failed_budget (hlegal : legal = true) (hbudget : (s.blk.saf n).instr = 16777216) :
    Failed s i n 8 Status.capacity := by
  refine failed_of 8 Status.capacity hcur (h.trans ?_)
  simp [Block.instr, hcur, hlegal, hbudget, instrBudget]

/-- R312: a legal instruction within the budget runs. -/
theorem exec_runs (hlegal : legal = true) (hbudget : (s.blk.saf n).instr < 16777216) :
    exec i s = .next { s with blk := run s.blk } := by
  have : ¬ 16777216 ≤ (s.blk.saf n).instr := by omega
  rw [h]
  simp [Block.instr, hcur, hlegal, instrBudget, this]

/-- R336: a legal instruction within the budget that fails its program. -/
theorem failed_running (cause : Nat) (st : Status) (hlegal : legal = true) (hbudget : (s.blk.saf n).instr < 16777216)
    (hrun : run s.blk = s.blk.progFail n (s.blk.saf n).pc cause st) : Failed s i n cause st :=
  failed_of cause st hcur ((exec_runs h hcur hlegal hbudget).trans (by rw [hrun]))

end

section
variable {s : State} {i : Instr} {n word alu : Nat} {legal : Bool} {run : Saffron → Saffron}
  (h : exec i s = .next { s with blk := s.blk.instr n word legal fun b => (b.modSaf n run).advance n alu ((b.saf n).pc + 1) })
  (hcur : s.blk.current n = some word)
include h hcur

/-- An instruction that changes registers of the unit alone runs, and PC moves on. -/
theorem ran_alu (hlegal : legal = true) (hnext : HasInstr s.blk n ((s.blk.saf n).pc + 1))
    (hexp : (run (s.blk.saf n)).exp = (s.blk.saf n).exp) :
    Ran s i n ((run (s.blk.saf n)).stepped alu ((s.blk.saf n).pc + 1)) := by
  obtain ⟨hbudget, x, w, hx, hw, hop⟩ := hnext
  exact ran_of (exec_runs h hcur hlegal hbudget)
    (((Block.UnitTo.refl s.blk n).modSaf run).advance alu _ (hexp.trans hx) hw hop)

/-- The outcomes of such an instruction: where its encoding is legal it runs, with the result `Q`; where it is not it
fails. -/
theorem alu_outcomes {P : Prop} {Q : Saffron → Prop} (hlegal : legal = true ↔ P)
    (hexp : (run (s.blk.saf n)).exp = (s.blk.saf n).exp)
    (hQ : P → Q ((run (s.blk.saf n)).stepped alu ((s.blk.saf n).pc + 1))) :
    (P → HasInstr s.blk n ((s.blk.saf n).pc + 1) → ∃ v, Ran s i n v ∧ Q v) ∧ (¬ P → Failed s i n 3 Status.format) :=
  ⟨fun hp hnext => ⟨_, ran_alu h hcur (hlegal.2 hp) hnext hexp, hQ hp⟩,
    fun hp => failed_illegal h hcur (Bool.eq_false_iff.2 fun hl => hp (hlegal.1 hl))⟩

end

/-! ### Tiles and masks by their elements -/

/-- R316: an element of a merge. -/
theorem getElem?_mergeMask {α : Type} : ∀ (ms : List Bool) (xs os : List α) (k : Nat) {m : Bool} {x o : α},
    ms[k]? = some m → xs[k]? = some x → os[k]? = some o → (mergeMask ms xs os)[k]? = some (if m then x else o)
  | _ :: _, _ :: _, _ :: _, 0, _, _, _, hm, hx, ho => by
    simp only [List.getElem?_cons_zero, Option.some.injEq] at hm hx ho
    subst hm hx ho
    rfl
  | _ :: ms, _ :: xs, _ :: os, k + 1, _, _, _, hm, hx, ho => by
    simp only [List.getElem?_cons_succ] at hm hx ho
    exact getElem?_mergeMask ms xs os k hm hx ho

theorem getElem?_eq_some_getD {α : Type} {l : List α} {k : Nat} (d : α) (h : k < l.length) :
    l[k]? = some ((l[k]?).getD d) := by
  simp [h]

namespace Saffron
variable {u : Saffron}

/-- What a write of a tile leaves of each element, where the rest of the tile is zero. -/
@[simp] theorem elt_setTile (u : Saffron) (t k : Nat) (v : List Elt) : (u.setTile t v).elt t k = (v[k]?).getD 0 := by
  simp only [elt, tile, setTile, tget_tset_self]
  rcases Nat.lt_or_ge k v.length with hk | hk
  · rw [List.getElem?_append_left hk]
  · rw [List.getElem?_append_right hk, List.getElem?_eq_none hk, List.getElem?_replicate]
    split <;> rfl

theorem tile_setTile_ne (u : Saffron) {t k : Nat} (v : List Elt) (h : k ≠ t) : (u.setTile t v).tile k = u.tile k := by
  simp only [tile, setTile, tget_tset_ne _ _ (Ne.symm h)]

/-- What a write of a mask leaves of each bit, where the rest of the mask is zero. -/
@[simp] theorem bitAt_setMask (u : Saffron) (m k : Nat) (v : List Bool) :
    (u.setMask m v).bitAt m k = (v[k]?).getD false := by
  simp only [bitAt, mask, setMask, tget_tset_self]
  rcases Nat.lt_or_ge k v.length with hk | hk
  · rw [List.getElem?_append_left hk]
  · rw [List.getElem?_append_right hk, List.getElem?_eq_none hk, List.getElem?_replicate]
    split <;> rfl

theorem mask_setMask_ne (u : Saffron) {m k : Nat} (v : List Bool) (h : k ≠ m) : (u.setMask m v).mask k = u.mask k := by
  simp only [mask, setMask, tget_tset_ne _ _ (Ne.symm h)]

variable (hu : u.sized) {k : Nat} (hk : k < 1024)
include hu hk

theorem tile_get (t : Nat) : (u.tile t)[k]? = some (u.elt t k) :=
  getElem?_eq_some_getD 0 (by rwa [hu.length_tile])

theorem mask_get (m : Nat) : (u.mask m)[k]? = some (u.bitAt m k) :=
  getElem?_eq_some_getD false (by rwa [hu.length_mask])

theorem chosen_get (f : TFmt) : (u.chosen f)[k]? = some (u.takes f k) := by
  unfold chosen takes
  split
  · next hmu => simp [hmu, mask_get hu hk]
  · next hmu =>
    rw [List.getElem?_replicate, if_pos (show k < tileSize from hk)]
    simp [hmu]

/-- R316: the elements of D that MU and MSEL take are written. -/
theorem elt_writeD (f : TFmt) {v : List Elt} {x : Elt} (hv : v[k]? = some x) :
    (u.writeD f v).elt f.d.toNat k = if u.takes f k then x else u.elt f.d.toNat k := by
  rw [writeD, elt_setTile, getElem?_mergeMask _ _ _ k (chosen_get hu hk f) hv (tile_get hu hk _)]
  rfl

end Saffron

/-- A flag is raised by the elements that are taken (R317, R320). -/
theorem anyChosen_iff {u : Saffron} (hu : u.sized) (f : TFmt) (flags : List Bool) (flag : Nat → Bool)
    (hlen : flags.length = 1024) (hflags : ∀ k, k < 1024 → flags[k]? = some (flag k)) :
    anyChosen (u.chosen f) flags = true ↔ ∃ k, k < 1024 ∧ u.takes f k = true ∧ flag k = true := by
  have hzip : ∀ k, k < 1024 → (List.zipWith (· && ·) (u.chosen f) flags)[k]? = some (u.takes f k && flag k) := by
    intro k hk
    rw [List.getElem?_zipWith, Saffron.chosen_get hu hk, hflags k hk]
  have hl : (List.zipWith (· && ·) (u.chosen f) flags).length = 1024 := by
    rw [List.length_zipWith, hu.length_chosen, hlen]
    rfl
  rw [anyChosen, List.any_eq_true]
  constructor
  · rintro ⟨x, hx, hid⟩
    obtain ⟨k, hk, rfl⟩ := List.getElem_of_mem hx
    have := hzip k (by omega)
    rw [List.getElem?_eq_getElem hk, Option.some.injEq] at this
    rw [id, this, Bool.and_eq_true] at hid
    exact ⟨k, by omega, hid⟩
  · rintro ⟨k, hk, htakes, hflag⟩
    exact ⟨_, List.mem_of_getElem? (hzip k hk), by simp [htakes, hflag]⟩

/-! ### Operations on elements -/

/-- What an operation on elements makes of the unit: it writes the elements of D, SAT and NAN. -/
def Saffron.elementRun (f : TFmt) (v : Saffron → List Elt) (sat nan : Saffron → Bool) (u : Saffron) : Saffron :=
  { u.writeD f (v u) with sat := sat u, nan := nan u }

/-- The flag `flag` holds of an element that the operation takes. -/
def Saffron.anyTaken (u : Saffron) (f : TFmt) (flag : TFmt → Elt → Elt → Bool) : Prop :=
  ∃ k, k < 1024 ∧ u.takes f k = true ∧ flag f (u.elt f.a.toNat k) (u.elt f.b.toNat k) = true

section
variable {i : Nat → TFmt → Instr} {op : Nat} {legal : TFmt → Bool} {g : TFmt → Elt → Elt → Elt}

/-- R312, R313, R316: an operation on elements, by what it makes of each element and when it raises SAT and NAN. -/
theorem elementwise_of {sat nan : TFmt → Elt → Elt → Bool} (v : TFmt → Saffron → List Elt) (fsat fnan : TFmt → Saffron → Bool)
    (hexec : ∀ (s : State) (n : Nat) (f : TFmt), exec (i n f) s =
      .next { s with blk := s.blk.instrAlu n op 2 f (legal f) (Saffron.elementRun f (v f) (fsat f) (fnan f)) })
    (hv : ∀ (f : TFmt) (u : Saffron), u.sized → ∀ k, k < 1024 →
      (v f u)[k]? = some (g f (u.elt f.a.toNat k) (u.elt f.b.toNat k)))
    (hsat : ∀ (f : TFmt) (u : Saffron), u.sized → (fsat f u = true ↔ (u.sat = true ∨ u.anyTaken f sat)))
    (hnan : ∀ (f : TFmt) (u : Saffron), u.sized → (fnan f u = true ↔ (u.nan = true ∨ u.anyTaken f nan))) :
    Elementwise i op legal g sat nan := by
  rintro s n f ⟨hcur, hu⟩
  refine ⟨fun hlegal hnext => ?_, fun hlegal => failed_illegal (hexec s n f) hcur hlegal,
    fun hlegal hbudget => failed_budget (hexec s n f) hcur hlegal hbudget⟩
  exact ⟨_, ran_alu (hexec s n f) hcur hlegal hnext rfl, fun k hk => Saffron.elt_writeD hu hk f (hv f _ hu k hk),
    fun t ht => Saffron.tile_setTile_ne _ _ ht, hsat f _ hu, hnan f _ hu, rfl⟩

/-- A flag that no element raises. -/
theorem never_raised (u : Saffron) (f : TFmt) (p : Prop) : p ↔ (p ∨ u.anyTaken f fun _ _ _ => false) := by
  simp [Saffron.anyTaken]

/-- An operation on elements that raises no flag. -/
theorem elementwise_plain (v : TFmt → Saffron → List Elt)
    (hexec : ∀ (s : State) (n : Nat) (f : TFmt), exec (i n f) s =
      .next { s with blk := s.blk.instrAlu n op 2 f (legal f) fun u => u.writeD f (v f u) })
    (hv : ∀ (f : TFmt) (u : Saffron), u.sized → ∀ k, k < 1024 →
      (v f u)[k]? = some (g f (u.elt f.a.toNat k) (u.elt f.b.toNat k))) :
    Elementwise i op legal g (fun _ _ _ => false) (fun _ _ _ => false) :=
  elementwise_of v (fun _ u => u.sat) (fun _ u => u.nan) hexec hv (fun f u _ => never_raised u f _)
    (fun f u _ => never_raised u f _)

/-- The meaning of an operation may be said in other words. -/
theorem Elementwise.congr {g' : TFmt → Elt → Elt → Elt} {sat sat' nan nan' : TFmt → Elt → Elt → Bool}
    (h : Elementwise i op legal g sat nan) (hg : ∀ f x y, g f x y = g' f x y) (hsat : ∀ f x y, sat f x y = sat' f x y)
    (hnan : ∀ f x y, nan f x y = nan' f x y) : Elementwise i op legal g' sat' nan' := by
  have hg' : g = g' := funext fun f => funext fun x => funext (hg f x)
  have hs : sat = sat' := funext fun f => funext fun x => funext (hsat f x)
  have hn : nan = nan' := funext fun f => funext fun x => funext (hnan f x)
  exact hg' ▸ hs ▸ hn ▸ h

end

/-- An element of an operation on two tiles. -/
theorem zipTiles_get {α : Type} {u : Saffron} (hu : u.sized) (g : Elt → Elt → α) (a b : Nat) {k : Nat} (hk : k < 1024) :
    (List.zipWith g (u.tile a) (u.tile b))[k]? = some (g (u.elt a k) (u.elt b k)) := by
  rw [List.getElem?_zipWith, Saffron.tile_get hu hk, Saffron.tile_get hu hk]

/-- An element of an operation on one tile. -/
theorem mapTile_get {α : Type} {u : Saffron} (hu : u.sized) (g : Elt → α) (a : Nat) {k : Nat} (hk : k < 1024) :
    ((u.tile a).map g)[k]? = some (g (u.elt a k)) := by
  rw [List.getElem?_map, Saffron.tile_get hu hk]
  rfl

/-- R313: the operations on A and B. -/
theorem elementwise_elem2 {i : Nat → TFmt → Instr} {op : Nat} (g : Elt → Elt → Elt)
    (hexec : ∀ (s : State) (n : Nat) (f : TFmt), exec (i n f) s = .next { s with blk := s.blk.elem2 n op f g }) :
    Elementwise i op (fun f => f.c == 0 && f.mod == 0) (fun _ => g) (fun _ _ _ => false) (fun _ _ _ => false) :=
  elementwise_plain (fun f u => List.zipWith g (u.tile f.a.toNat) (u.tile f.b.toNat)) hexec
    fun f _ hu _ hk => zipTiles_get hu g f.a.toNat f.b.toNat hk

/-- R318: the shifts of A by MOD. -/
theorem elementwise_elemShift {i : Nat → TFmt → Instr} {op : Nat} (g : Elt → Nat → Elt)
    (hexec : ∀ (s : State) (n : Nat) (f : TFmt), exec (i n f) s = .next { s with blk := s.blk.elemShift n op f g }) :
    Elementwise i op (fun f => f.b == 0 && f.c == 0) (fun f x _ => g x f.mod.toNat) (fun _ _ _ => false)
      (fun _ _ _ => false) :=
  elementwise_plain (fun f u => (u.tile f.a.toNat).map fun x => g x f.mod.toNat) hexec
    fun f _ hu _ hk => mapTile_get hu (fun x => g x f.mod.toNat) f.a.toNat hk

/-- The lesser (`small`) or the greater of two elements. -/
theorem elementwise_elemMinMax {i : Nat → TFmt → Instr} {op : Nat} (small : Bool)
    (hexec : ∀ (s : State) (n : Nat) (f : TFmt), exec (i n f) s = .next { s with blk := s.blk.elemMinMax n op f small }) :
    Elementwise i op (fun f => f.c == 0 && decide (f.mod.toNat < 2))
      (fun f x y => if eltLe (f.mod == 1) x y == small then x else y) (fun _ _ _ => false) (fun _ _ _ => false) :=
  elementwise_plain _ hexec fun f _ hu _ hk =>
    zipTiles_get hu (fun x y => if eltLe (f.mod == 1) x y == small then x else y) f.a.toNat f.b.toNat hk

/-- R317: a flag that an operation on A and B raises. -/
theorem zipFlag_iff {u : Saffron} (hu : u.sized) (f : TFmt) (flag : Elt → Elt → Bool) :
    anyChosen (u.chosen f) (List.zipWith flag (u.tile f.a.toNat) (u.tile f.b.toNat)) = true
      ↔ u.anyTaken f fun _ => flag :=
  anyChosen_iff hu f _ (fun k => flag (u.elt f.a.toNat k) (u.elt f.b.toNat k))
    (by rw [List.length_zipWith, hu.length_tile, hu.length_tile]; rfl)
    fun _ hk => zipTiles_get hu flag f.a.toNat f.b.toNat hk

/-- R317: the saturating operations: the exact result is kept between `lo` and `hi`. -/
theorem elementwise_elemSat {i : Nat → TFmt → Instr} {op : Nat} (lo hi : Int) (g : Elt → Elt → Int)
    (hexec : ∀ (s : State) (n : Nat) (f : TFmt), exec (i n f) s = .next { s with blk := s.blk.elemSat n op f lo hi g }) :
    Elementwise i op (fun f => f.c == 0 && f.mod == 0) (fun _ x y => BitVec.ofInt 16 (max lo (min hi (g x y))))
      (fun _ x y => decide (g x y < lo) || decide (hi < g x y)) (fun _ _ _ => false) := by
  refine elementwise_of (fun f u => (List.zipWith g (u.tile f.a.toNat) (u.tile f.b.toNat)).map fun x =>
      BitVec.ofInt 16 (max lo (min hi x)))
    (fun f u => u.sat || anyChosen (u.chosen f) ((List.zipWith g (u.tile f.a.toNat) (u.tile f.b.toNat)).map fun x =>
      decide (x < lo) || decide (hi < x)))
    (fun _ u => u.nan) hexec (fun f u hu k hk => ?_) (fun f u hu => ?_) (fun f u _ => never_raised u f _)
  · rw [List.map_zipWith, zipTiles_get hu _ _ _ hk]
  · rw [List.map_zipWith, Bool.or_eq_true, zipFlag_iff hu]

/-- R320: the order key, and NAN. -/
theorem elementwise_okey :
    Elementwise .sOkey 0x14 (fun f => f.b == 0 && f.c == 0 && decide (f.mod.toNat < 2)) (fun f x _ => okey (f.mod == 1) x)
      (fun _ _ _ => false) (fun f x _ => isNan (f.mod == 1) x) := by
  refine elementwise_of (fun f u => (u.tile f.a.toNat).map (okey (f.mod == 1))) (fun _ u => u.sat)
    (fun f u => u.nan || anyChosen (u.chosen f) ((u.tile f.a.toNat).map (isNan (f.mod == 1))))
    (fun _ _ _ => rfl) (fun f u hu k hk => mapTile_get hu (okey (f.mod == 1)) f.a.toNat hk)
    (fun f u _ => never_raised u f _) (fun f u hu => ?_)
  rw [Bool.or_eq_true, anyChosen_iff hu f _ (fun k => isNan (f.mod == 1) (u.elt f.a.toNat k))
    (by rw [List.length_map, hu.length_tile]) fun _ hk => mapTile_get hu _ _ hk]
  rfl

/-- R320: the order key of an element, as the spec's cases give it. -/
theorem okey_eq (bf : Bool) (x : Elt) : okey bf x = if isNan bf x = true then 0 else if x = 0x8000#16 then 0x8000#16
    else if x.getLsbD 15 = true then ~~~x else x ^^^ 0x8000#16 := by
  unfold okey
  by_cases hx : x = 0x8000#16
  · subst hx
    rfl
  · simp [hx]

/-- R317: the sums and differences of unsigned elements, kept between 0 and 0xFFFF. -/
theorem addsu_eq (x y : Elt) : BitVec.ofInt 16 (max 0 (min 0xFFFF ((x.toNat : Int) + y.toNat)))
    = BitVec.ofNat 16 (min (x.toNat + y.toNat) 65535) := by
  rw [← BitVec.ofInt_natCast]
  congr 1
  omega

theorem subsu_eq (x y : Elt) : BitVec.ofInt 16 (max 0 (min 0xFFFF ((x.toNat : Int) - y.toNat)))
    = BitVec.ofNat 16 (x.toNat - y.toNat) := by
  have hx := x.isLt
  rw [← BitVec.ofInt_natCast]
  congr 1
  omega

/-! ### Masks and whole tiles -/

/-- The codes of CMP's conditions (R319). -/
theorem cmpMod_cases : ∀ m : BitVec 5, m.toNat < 6 → m = 0 ∨ m = 1 ∨ m = 2 ∨ m = 3 ∨ m = 4 ∨ m = 5 := by decide

/-- R319: the condition of CMP, by its code. -/
theorem cmpHolds_iff {m : BitVec 5} (hm : m.toNat < 6) (x y : Elt) : cmpHolds m.toNat x y = true ↔
    ((m = 0 ∧ x = y) ∨ (m = 1 ∧ x ≠ y) ∨ (m = 2 ∧ x.toNat < y.toNat) ∨ (m = 3 ∧ x.toNat ≤ y.toNat)
      ∨ (m = 4 ∧ x.toInt < y.toInt) ∨ (m = 5 ∧ x.toInt ≤ y.toInt)) := by
  rcases cmpMod_cases m hm with rfl | rfl | rfl | rfl | rfl | rfl <;> simp [cmpHolds]

/-- The codes of MOP's operations (R319). -/
theorem mopMod_cases : ∀ m : BitVec 5, m.toNat < 4 → m = 0 ∨ m = 1 ∨ m = 2 ∨ m = 3 := by decide

/-- Settles O40: the operations by what they make of each element, mask bit or whole tile. -/
theorem elementAndMaskOperations : Obligations.ElementAndMaskOperations := by
  refine ⟨⟨elementwise_elem2 _ fun _ _ _ => rfl, elementwise_elem2 _ fun _ _ _ => rfl,
    elementwise_elem2 _ fun _ _ _ => rfl,
    elementwise_plain (fun f u => (u.tile f.a.toNat).map (~~~ ·)) (fun _ _ _ => rfl)
      fun f _ hu _ hk => mapTile_get hu (~~~ ·) f.a.toNat hk,
    elementwise_elemShift _ fun _ _ _ => rfl, elementwise_elemShift _ fun _ _ _ => rfl,
    elementwise_elemShift _ fun _ _ _ => rfl, elementwise_elem2 _ fun _ _ _ => rfl, ?addsu, ?addss,
    elementwise_elem2 _ fun _ _ _ => rfl, ?subsu, ?subss, ?min, ?max, ?okey⟩, ?cmp, ?sel, ?mop, ?iota, ?fill⟩
  case addsu =>
    refine (elementwise_elemSat 0 0xFFFF (fun x y => (x.toNat : Int) + y.toNat) fun _ _ _ => rfl).congr
      (fun _ => addsu_eq) (fun _ x y => ?_) fun _ _ _ => rfl
    rw [← Bool.decide_or, decide_eq_decide]
    omega
  case addss =>
    refine (elementwise_elemSat (-32768) 32767 (fun x y => x.toInt + y.toInt) fun _ _ _ => rfl).congr
      (fun _ _ _ => rfl) (fun _ _ _ => (Bool.decide_or _ _).symm) fun _ _ _ => rfl
  case subsu =>
    refine (elementwise_elemSat 0 0xFFFF (fun x y => (x.toNat : Int) - y.toNat) fun _ _ _ => rfl).congr
      (fun _ => subsu_eq) (fun _ x y => ?_) fun _ _ _ => rfl
    have := x.isLt
    rw [← Bool.decide_or, decide_eq_decide]
    omega
  case subss =>
    refine (elementwise_elemSat (-32768) 32767 (fun x y => x.toInt - y.toInt) fun _ _ _ => rfl).congr
      (fun _ _ _ => rfl) (fun _ _ _ => (Bool.decide_or _ _).symm) fun _ _ _ => rfl
  case min =>
    refine (elementwise_elemMinMax true fun _ _ _ => rfl).congr (fun f x y => ?_) (fun _ _ _ => rfl) fun _ _ _ => rfl
    by_cases hm : f.mod = 1#5 <;> simp [eltLe, hm]
  case max =>
    refine (elementwise_elemMinMax false fun _ _ _ => rfl).congr (fun f x y => ?_) (fun _ _ _ => rfl) fun _ _ _ => rfl
    by_cases hm : f.mod = 1#5
    · by_cases hle : x.toInt ≤ y.toInt <;> simp [eltLe, hm, hle]
    · by_cases hle : x.toNat ≤ y.toNat <;> simp [eltLe, hm, hle]
  case okey => exact elementwise_okey.congr (fun f x _ => okey_eq _ x) (fun _ _ _ => rfl) fun _ _ _ => rfl
  case cmp =>
    rintro s n f ⟨hcur, hu⟩
    refine alu_outcomes rfl hcur (by simp [and_assoc]) rfl fun ⟨_, _, hmod⟩ =>
      ⟨fun k hk => ?_, fun t ht => by exact Saffron.mask_setMask_ne _ _ ht, rfl⟩
    rw [← cmpHolds_iff hmod, ← Bool.and_eq_true]
    change (Saffron.setMask _ _ _).bitAt _ _ = true ↔ _
    rw [Saffron.bitAt_setMask, List.getElem?_zipWith, Saffron.chosen_get hu hk, zipTiles_get hu _ _ _ hk]
    rfl
  case sel =>
    rintro s n f ⟨hcur, hu⟩
    refine alu_outcomes rfl hcur (by simp [and_assoc]) rfl fun _ =>
      ⟨fun k hk => ?_, fun t ht => by exact Saffron.tile_setTile_ne _ _ ht, rfl⟩
    change (Saffron.setTile _ _ _).elt _ _ = _
    rw [Saffron.elt_setTile, getElem?_mergeMask _ _ _ k (Saffron.mask_get hu hk _) (Saffron.tile_get hu hk _)
      (Saffron.tile_get hu hk _)]
    rfl
  case mop =>
    rintro s n f ⟨hcur, hu⟩
    refine alu_outcomes rfl hcur (by simp [and_assoc, TFmt.noMask]) rfl fun ⟨_, hmod, _, _, hb, _⟩ =>
      ⟨fun k hk => ?_, fun t ht => by exact Saffron.mask_setMask_ne _ _ ht, rfl⟩
    change (Saffron.setMask _ _ _).bitAt _ _ = _
    rw [Saffron.bitAt_setMask]
    have hx := Saffron.mask_get hu hk f.a.toNat
    have hy := Saffron.mask_get hu hk (f.b.toNat % 4)
    rcases mopMod_cases f.mod hmod with hm | hm | hm | hm
    case inr.inr.inr => simp [hm, hx]
    all_goals
      have hb4 : f.b.toNat % 4 = f.b.toNat := Nat.mod_eq_of_lt (hb.resolve_right (by simp [hm]))
      rw [hb4] at hy
      simp [hm, List.getElem?_zipWith, hx, hy, hb4]
  case iota =>
    rintro s n f ⟨hcur, hu⟩
    refine alu_outcomes rfl hcur (by simp) rfl fun _ =>
      ⟨fun k hk => ?_, fun t ht => by exact Saffron.tile_setTile_ne _ _ ht, rfl⟩
    change (Saffron.setTile _ _ _).elt _ _ = _
    simp [tileSize, hk]
  case fill =>
    rintro s n f ⟨hcur, hu⟩
    refine alu_outcomes rfl hcur (by simp) rfl fun _ =>
      ⟨fun k hk => ?_, fun t ht => by exact Saffron.tile_setTile_ne _ _ ht, rfl⟩
    change (Saffron.setTile _ _ _).elt _ _ = _
    rw [Saffron.elt_setTile, List.getElem?_replicate, if_pos (show k < tileSize from hk)]
    rfl

end Sys2Proof.Machine
end

section
/-! SUPPORT. The operations on rows of the Saffron unit (R321 to R325), row by row. -/

namespace Sys2Proof.Machine

/-! ### Rows -/

/-- The rows of a list that holds `g k` at place `k`. -/
theorem rowsOf_eq {α : Type} {l : List α} {g : Nat → α} (hl : ∀ k, k < 1024 → l[k]? = some (g k)) :
    rowsOf l = (List.range 32).map fun r => (List.range 32).map fun c => g (32 * r + c) := by
  refine List.map_congr_left fun r hr => List.ext_getElem? fun c => ?_
  have hr : r < 32 := List.mem_range.1 hr
  rw [List.getElem?_take, List.getElem?_map]
  split
  · next hc =>
    rw [List.getElem?_drop, hl _ (by omega), List.getElem?_range hc]
    rfl
  · next hc => rw [List.getElem?_eq_none (l := List.range 32) (by simpa using hc)]; rfl

/-- An element of rows that are whole. -/
theorem getElem?_flatten_rows {α : Type} {rows : List (List α)} (hrows : ∀ row, row ∈ rows → row.length = 32) {r c : Nat}
    {row : List α} (hrow : rows[r]? = some row) (hc : c < 32) : rows.flatten[32 * r + c]? = row[c]? := by
  induction rows generalizing r with
  | nil => simp at hrow
  | cons x xs ih =>
    have hx : x.length = 32 := hrows x List.mem_cons_self
    rw [List.flatten_cons]
    cases r with
    | zero =>
      rw [List.getElem?_cons_zero, Option.some.injEq] at hrow
      subst hrow
      rw [List.getElem?_append_left (by omega)]
      simp
    | succ r =>
      rw [List.getElem?_cons_succ] at hrow
      rw [List.getElem?_append_right (by omega), ← ih (fun y hy => hrows y (List.mem_cons_of_mem _ hy)) hrow]
      congr 1
      omega

/-- An element of a tile whose row `r` is `row r`. -/
theorem elt_rows {u : Saffron} (t : Nat) {row : Nat → List Elt} (hrow : ∀ r, r < 32 → (row r).length = 32) {r c : Nat}
    (hr : r < 32) (hc : c < 32) :
    (u.setTile t ((List.range 32).map row).flatten).elt t (32 * r + c) = ((row r)[c]?).getD 0 := by
  rw [Saffron.elt_setTile, getElem?_flatten_rows (row := row r) _ _ hc]
  · intro y hy
    obtain ⟨q, hq, rfl⟩ := List.mem_map.1 hy
    exact hrow q (List.mem_range.1 hq)
  · rw [List.getElem?_map, List.getElem?_range hr]
    rfl

/-- An element of a tile that is written from rows of entries. -/
theorem elt_mapRows {α : Type} {u : Saffron} (t : Nat) (g : α → Elt) {row : Nat → List α}
    (hrow : ∀ r, (row r).length = 32) {r c : Nat} (hr : r < 32) (hc : c < 32) :
    (u.setTile t (((List.range 32).map row).flatten.map g)).elt t (32 * r + c) = (((row r)[c]?).map g).getD 0 := by
  rw [List.map_flatten, List.map_map]
  refine (elt_rows t (fun q _ => (List.length_map g).trans (hrow q)) hr hc).trans ?_
  simp only [List.getElem?_map]

/-- The columns of row `r` that MU and MSEL take, in order. -/
def Saffron.takenCols (u : Saffron) (f : TFmt) (r : Nat) : List Nat :=
  (List.range 32).filter fun c => u.takes f (32 * r + c)

theorem Saffron.mem_takenCols {u : Saffron} {f : TFmt} {r c : Nat} :
    c ∈ u.takenCols f r ↔ c < 32 ∧ u.takes f (32 * r + c) = true := by simp [takenCols]

/-- R321: the elements of row `r` that are considered, with their columns. -/
theorem considered_eq {u : Saffron} (f : TFmt) (g : Nat → Elt) (r : Nat) :
    considered ((List.range 32).map fun c => u.takes f (32 * r + c)) ((List.range 32).map g)
      = (u.takenCols f r).map fun c => (g c, c) := by
  have hid : List.range 32 = (List.range 32).map id := (List.map_id _).symm
  unfold considered
  rw [show List.zip ((List.range 32).map g) (List.range 32) = (List.range 32).map fun c => (g c, c) by
      conv_lhs => rw [hid, List.map_map]
      exact List.zip_map' ..,
    List.zip_map', List.filter_map, List.map_map]
  rfl

/-! ### The extreme of a row (R321, R322) -/

theorem eltLe_antisymm {signed : Bool} {x y : Elt} (hxy : eltLe signed x y = true) (hyx : eltLe signed y x = true) :
    x = y := by
  cases signed
  · exact BitVec.eq_of_toNat_eq (Nat.le_antisymm (by simpa [eltLe] using hxy) (by simpa [eltLe] using hyx))
  · exact BitVec.eq_of_toInt_eq (Int.le_antisymm (by simpa [eltLe] using hxy) (by simpa [eltLe] using hyx))

/-- `x` is as extreme as `y`: the lesser for RMIN, the greater for RMAX. -/
def asExtreme (small signed : Bool) (x y : Elt) : Bool := if small then eltLe signed x y else eltLe signed y x

theorem asExtreme_antisymm {small signed : Bool} {x y : Elt} (hxy : asExtreme small signed x y = true)
    (hyx : asExtreme small signed y x = true) : x = y := by
  cases small
  · exact eltLe_antisymm hyx hxy
  · exact eltLe_antisymm hxy hyx

theorem extreme_cons (small signed : Bool) (x : Elt × Nat) (l : List (Elt × Nat)) : extreme small signed (x :: l) =
    match extreme small signed l with
    | none => some x
    | some y => if asExtreme small signed x.1 y.1 = true then some x else some y := by
  rw [extreme]
  cases extreme small signed l with
  | none => rfl
  | some y => cases small <;> rfl

theorem mem_of_extreme {small signed : Bool} : ∀ {l : List (Elt × Nat)} {y : Elt × Nat},
    extreme small signed l = some y → y ∈ l
  | [], _, h => by cases h
  | x :: l, y, h => by
    rw [extreme_cons] at h
    split at h
    · cases h
      exact List.mem_cons_self
    · next z hz =>
      split at h
      · cases h
        exact List.mem_cons_self
      · cases h
        exact List.mem_cons_of_mem _ (mem_of_extreme hz)

/-- R322: of the entries that hold the extreme, the first is taken. -/
theorem extreme_eq {small signed : Bool} {x : Elt × Nat} {post : List (Elt × Nat)} :
    ∀ {pre : List (Elt × Nat)}, (∀ y, y ∈ pre ++ x :: post → asExtreme small signed x.1 y.1 = true) →
      (∀ y, y ∈ pre → y.1 ≠ x.1) → extreme small signed (pre ++ x :: post) = some x
  | [], hall, _ => by
    rw [List.nil_append, extreme_cons]
    split
    · rfl
    · next y hy =>
      rw [if_pos (hall y (List.mem_cons_of_mem _ (mem_of_extreme hy)))]
  | y :: pre, hall, hne => by
    rw [List.cons_append, extreme_cons,
      extreme_eq (fun z hz => hall z (List.mem_cons_of_mem _ hz)) fun z hz => hne z (List.mem_cons_of_mem _ hz)]
    refine if_neg fun hle => hne y List.mem_cons_self (asExtreme_antisymm hle (hall y List.mem_cons_self))

/-- R321, R322: the extreme of a row is that of the lowest column that holds it. -/
theorem extreme_row {u : Saffron} {small signed : Bool} {f : TFmt} {g : Nat → Elt} {r c : Nat} (hc : c ∈ u.takenCols f r)
    (hbest : ∀ d, d ∈ u.takenCols f r → asExtreme small signed (g c) (g d) = true ∧ (d < c → g d ≠ g c)) :
    extreme small signed ((u.takenCols f r).map fun c => (g c, c)) = some (g c, c) := by
  have hsorted : (u.takenCols f r).Pairwise (· < ·) := List.pairwise_lt_range.filter _
  obtain ⟨pre, post, hsplit⟩ := List.append_of_mem hc
  rw [hsplit] at hbest hsorted ⊢
  rw [List.map_append, List.map_cons]
  refine extreme_eq (fun y hy => ?_) fun y hy => ?_
  · change y ∈ _ ++ ((c :: post).map fun c => (g c, c)) at hy
    rw [← List.map_append] at hy
    obtain ⟨d, hd, rfl⟩ := List.mem_map.1 hy
    exact (hbest d hd).1
  · obtain ⟨d, hd, rfl⟩ := List.mem_map.1 hy
    exact (hbest d (List.mem_append_left _ hd)).2 ((List.pairwise_append.1 hsorted).2.2 d hd c List.mem_cons_self)

/-- An element of a row that is padded. -/
theorem getElem?_padRow_two (x y : Elt) (c : Nat) (hc : c < 32) :
    (padRow 0 [x, y])[c]? = some (if c = 0 then x else if c = 1 then y else 0) := by
  rcases c with _ | _ | c
  · rfl
  · rfl
  · simp only [padRow, List.cons_append, List.nil_append, List.getElem?_cons_succ, List.getElem?_replicate,
      List.length_cons, List.length_nil]
    rw [if_pos (by omega)]
    simp

theorem getElem?_padRow_one (x : Elt) (c : Nat) (hc : c < 32) : (padRow 0 [x])[c]? = some (if c = 0 then x else 0) := by
  rcases c with _ | c
  · rfl
  · simp only [padRow, List.cons_append, List.nil_append, List.getElem?_cons_succ, List.getElem?_replicate,
      List.length_cons, List.length_nil]
    rw [if_pos (by omega)]
    simp

/-! ### Sums (R321 to R323) -/

/-- The sum of the numbers that a condition takes. -/
theorem foldl_filter_sum {α : Type} (l : List α) (p : α → Bool) (g : α → Nat) (k : Nat) :
    ((l.filter p).foldl (fun k x => k + g x) k) = k + (l.map fun x => if p x = true then g x else 0).sum := by
  induction l generalizing k with
  | nil => rfl
  | cons x l ih =>
    by_cases hx : p x = true
    · rw [List.filter_cons_of_pos hx, List.foldl_cons, ih]
      simp [hx, Nat.add_assoc]
    · rw [List.filter_cons_of_neg hx, ih]
      simp [hx]

/-- R321: the sum of row `r`. -/
theorem rowSum_eq {u : Saffron} (f : TFmt) (g : Nat → Elt) (r : Nat) :
    rowSum ((List.range 32).map fun c => u.takes f (32 * r + c)) ((List.range 32).map g)
      = ((List.range 32).map fun c => if u.takes f (32 * r + c) = true then (g c).toNat else 0).sum := by
  rw [rowSum, considered_eq, List.foldl_map, Saffron.takenCols, foldl_filter_sum, Nat.zero_add]

/-- R323: the sums so far, kept at 0xFFFF. -/
theorem getElem?_prefixSums : ∀ (l : List Elt) (acc j : Nat), acc ≤ 65535 → j < l.length →
    (prefixSums acc l).1[j]? = some (BitVec.ofNat 16 (min (acc + ((l.take (j + 1)).map BitVec.toNat).sum) 65535))
  | x :: xs, acc, 0, _, _ => by simp [prefixSums]
  | x :: xs, acc, j + 1, hacc, hj => by
    rw [prefixSums, List.getElem?_cons_succ,
      getElem?_prefixSums xs _ j (Nat.min_le_right _ _) (by simpa using hj)]
    simp only [List.take_succ_cons, List.map_cons, List.sum_cons]
    congr 2
    omega

theorem prefixSums_final (l : List Elt) : ∀ acc, acc ≤ 65535 →
    (prefixSums acc l).2.1 = min (acc + (l.map BitVec.toNat).sum) 65535 := by
  induction l with
  | nil => intro acc hacc; simpa [prefixSums] using hacc
  | cons x xs ih =>
    intro acc _
    rw [prefixSums, ih _ (Nat.min_le_right _ _), List.map_cons, List.sum_cons]
    omega

theorem prefixSums_sat (l : List Elt) : ∀ acc, acc ≤ 65535 →
    ((prefixSums acc l).2.2 = true ↔ 65535 < acc + (l.map BitVec.toNat).sum) := by
  induction l with
  | nil => intro acc hacc; simpa [prefixSums] using hacc
  | cons x xs ih =>
    intro acc _
    rw [prefixSums, Bool.or_eq_true, ih _ (Nat.min_le_right _ _), decide_eq_true_eq, List.map_cons, List.sum_cons]
    omega

/-! ### Ranks (R324, R325) -/

/-- R325: an entry ranks above another if it alone is filled, or if both are filled or neither is and its key is
greater, or its key is as great and its index lower. -/
theorem ranksAbove_iff (x y : Elt × Elt) : ranksAbove x y = true ↔
    (x.2.toNat ≠ 65535 ∧ y.2.toNat = 65535) ∨ ((x.2.toNat = 65535 ↔ y.2.toNat = 65535)
      ∧ (y.1.toNat < x.1.toNat ∨ (x.1.toNat = y.1.toNat ∧ x.2.toNat < y.2.toNat))) := by
  have hfill (v : Elt) : v = 0xFFFF#16 ↔ v.toNat = 65535 := BitVec.toNat_inj.symm
  have hkey : x.1 = y.1 ↔ x.1.toNat = y.1.toNat := BitVec.toNat_inj.symm
  unfold ranksAbove
  simp only [ne_eq, hfill]
  split
  · simp_all
  · split
    · simp_all
    · rw [Bool.or_eq_true, Bool.and_eq_true, decide_eq_true_eq, decide_eq_true_eq, beq_iff_eq, hkey]
      omega

theorem ranksAbove_asymm {x y : Elt × Elt} (h : ranksAbove x y = true) : ranksAbove y x = false := by
  rw [Bool.eq_false_iff, ne_eq, ranksAbove_iff]
  rw [ranksAbove_iff] at h
  omega

theorem ranksAbove_trans {x y z : Elt × Elt} (hxy : ranksAbove x y = true) (hyz : ranksAbove y z = true) :
    ranksAbove x z = true := by
  rw [ranksAbove_iff] at *
  omega

/-- No entry ranks above one that stands before it. -/
def Ranked (l : List (Elt × Elt)) : Prop := l.Pairwise fun x y => ranksAbove y x = false

theorem rankInsert_perm (x : Elt × Elt) (l : List (Elt × Elt)) : (rankInsert x l).Perm (x :: l) := by
  induction l with
  | nil => exact .refl _
  | cons y l ih =>
    unfold rankInsert
    split
    · exact .refl _
    · exact (ih.cons y).trans (.swap x y l)

theorem Ranked.insert (x : Elt × Elt) {l : List (Elt × Elt)} (h : Ranked l) : Ranked (rankInsert x l) := by
  induction l with
  | nil => exact List.pairwise_singleton _ _
  | cons y l ih =>
    obtain ⟨hy, hl⟩ := List.pairwise_cons.1 h
    unfold rankInsert
    split
    · next hxy =>
      refine List.pairwise_cons.2 ⟨fun z hz => ?_, h⟩
      rcases List.mem_cons.1 hz with rfl | hz
      · exact ranksAbove_asymm hxy
      · exact Bool.eq_false_iff.2 fun hzx => Bool.false_ne_true ((hy z hz).symm.trans (ranksAbove_trans hzx hxy))
    · next hxy =>
      refine List.pairwise_cons.2 ⟨fun z hz => ?_, ih hl⟩
      rcases List.mem_cons.1 ((rankInsert_perm x l).mem_iff.1 hz) with rfl | hz
      · exact Bool.eq_false_iff.2 hxy
      · exact hy z hz

/-- R325: the entries of a list in rank order. -/
def rankSort (l : List (Elt × Elt)) : List (Elt × Elt) := l.foldl (fun l x => rankInsert x l) []

theorem rankSort_spec (l : List (Elt × Elt)) : Ranked (rankSort l) ∧ (rankSort l).Perm l := by
  suffices h : ∀ acc, Ranked acc → Ranked (l.foldl (fun l x => rankInsert x l) acc)
      ∧ (l.foldl (fun l x => rankInsert x l) acc).Perm (l ++ acc) by
    simpa [rankSort] using h [] .nil
  induction l with
  | nil => exact fun acc hacc => ⟨hacc, .refl _⟩
  | cons x l ih =>
    intro acc hacc
    obtain ⟨hranked, hperm⟩ := ih _ (hacc.insert x)
    exact ⟨hranked, hperm.trans (((rankInsert_perm x acc).append_left l).trans List.perm_middle)⟩

theorem topkRow_eq (k : Nat) (init : Bool) (old new : List (Elt × Elt)) : topkRow k init old new =
    (rankSort (if init = true then new else old.take k ++ new)).take k
      ++ List.replicate (32 - ((rankSort (if init = true then new else old.take k ++ new)).take k).length) (0, 0xFFFF#16) := rfl

/-- R324, R325: the entries that a row of TOPK keeps, in rank order, and those that it drops. -/
theorem topkRow_spec (k : Nat) (init : Bool) (old new : List (Elt × Elt)) :
    let all := (if init = true then [] else old.take k) ++ new
    ∃ best rest : List (Elt × Elt), (best ++ rest).Perm all ∧ best.length = min k all.length
      ∧ best.Pairwise (fun x y => ranksAbove y x = false) ∧ (∀ x, x ∈ best → ∀ y, y ∈ rest → ranksAbove y x = false)
      ∧ (∀ (c : Nat) (x : Elt × Elt), best[c]? = some x → (topkRow k init old new)[c]? = some x)
      ∧ ∀ c : Nat, best.length ≤ c → c < 32 → (topkRow k init old new)[c]? = some (0, 0xFFFF#16) := by
  intro all
  have hall : (if init = true then new else old.take k ++ new) = all := by cases init <;> rfl
  obtain ⟨hranked, hperm⟩ := rankSort_spec all
  have hlen : ((rankSort all).take k).length = min k all.length := by rw [List.length_take, hperm.length_eq]
  rw [← List.take_append_drop k (rankSort all)] at hranked
  obtain ⟨hbest, -, hcross⟩ := List.pairwise_append.1 hranked
  refine ⟨(rankSort all).take k, (rankSort all).drop k, by rwa [List.take_append_drop], hlen, hbest, hcross,
    fun c x hx => ?_, fun c hc hc32 => ?_⟩
  · rw [topkRow_eq, hall, List.getElem?_append_left (List.getElem?_eq_some_iff.1 hx).1, hx]
  · rw [topkRow_eq, hall, List.getElem?_append_right hc, List.getElem?_replicate, if_pos (by omega)]

/-- TOPK row by row. -/
theorem topkRows_map (k : Nat) (init : Bool) (l : List Nat) (ms : Nat → List Bool) (as is ds es : Nat → List Elt) :
    topkRows k init (l.map ms) (l.map as) (l.map is) (l.map ds) (l.map es) = l.map fun r =>
      if (newCands (ms r) (as r) (is r)).isEmpty && !init then List.zip (ds r) (es r)
      else topkRow k init (List.zip (ds r) (es r)) (newCands (ms r) (as r) (is r)) := by
  induction l with
  | nil => rfl
  | cons r l ih => simp only [List.map_cons, topkRows, ih]

/-- The new candidates of row `r`. -/
theorem newCands_eq {u : Saffron} (f : TFmt) (g h : Nat → Elt) (r : Nat) :
    newCands ((List.range 32).map fun c => u.takes f (32 * r + c)) ((List.range 32).map g) ((List.range 32).map h)
      = (u.takenCols f r).map fun c => (g c, h c) := by
  rw [newCands, List.zip_map', List.zip_map', List.filter_map, List.map_map]
  rfl

/-! ### The operations -/

section
variable {u : Saffron} (hu : u.sized)
include hu

theorem rows_tile (t : Nat) :
    rowsOf (u.tile t) = (List.range 32).map fun r => (List.range 32).map fun c => u.elt t (32 * r + c) :=
  rowsOf_eq fun _ hk => Saffron.tile_get hu hk t

theorem rows_chosen (f : TFmt) :
    rowsOf (u.chosen f) = (List.range 32).map fun r => (List.range 32).map fun c => u.takes f (32 * r + c) :=
  rowsOf_eq fun _ hk => Saffron.chosen_get hu hk f

end

/-- R321, R322: a row of RMIN or RMAX of which no element is considered. -/
theorem rowExtreme_none {small signed : Bool} {ms : List Bool} {row : List Elt} (h : considered ms row = []) :
    rowExtreme small signed ms row = padRow 0 [if small = true then (if signed = true then 0x7FFF#16 else 0xFFFF#16)
      else (if signed = true then 0x8000#16 else 0), 0xFFFF#16] := by
  rw [rowExtreme, h]
  rfl

theorem rowExtreme_some {small signed : Bool} {ms : List Bool} {row : List Elt} {v : Elt} {c : Nat}
    (h : extreme small signed (considered ms row) = some (v, c)) :
    rowExtreme small signed ms row = padRow 0 [v, BitVec.ofNat 16 c] := by
  rw [rowExtreme, h]

/-- A row of elements, as RMIN, RMAX and RSUM consider it. -/
def Saffron.considers (u : Saffron) (f : TFmt) (r : Nat) : List (Elt × Nat) :=
  (u.takenCols f r).map fun c => (u.elt f.a.toNat (32 * r + c), c)

section
variable {u : Saffron} (hu : u.sized)
include hu

/-- R321: what an operation makes of each row, from the row of the mask and that of A. -/
theorem zipRows_eq {α : Type} (f : TFmt) (g : List Bool → List Elt → α) :
    List.zipWith g (rowsOf (u.chosen f)) (rowsOf (u.tile f.a.toNat)) = (List.range 32).map fun r =>
      g ((List.range 32).map fun c => u.takes f (32 * r + c)) ((List.range 32).map fun c => u.elt f.a.toNat (32 * r + c)) := by
  rw [rows_chosen hu, rows_tile hu, List.zipWith_map, List.zipWith_self]

/-- R321, R322: a row that RMIN or RMAX writes. -/
theorem elt_rowMinMax (f : TFmt) (small signed : Bool) {r c : Nat} (hr : r < 32) (hc : c < 32) :
    (u.setTile f.d.toNat (List.zipWith (rowExtreme small signed) (rowsOf (u.chosen f))
        (rowsOf (u.tile f.a.toNat))).flatten).elt f.d.toNat (32 * r + c) =
      let best := (extreme small signed (u.considers f r)).getD
        (if small = true then (if signed = true then 0x7FFF#16 else 0xFFFF#16) else if signed = true then 0x8000#16 else 0,
          65535)
      if c = 0 then best.1 else if c = 1 then BitVec.ofNat 16 best.2 else 0 := by
  rw [zipRows_eq hu, elt_rows _ (fun q _ => length_rowExtreme _ _ _ _) hr hc]
  rw [rowExtreme, considered_eq]
  change ((match extreme small signed (u.considers f r) with | some (v, c) => _ | none => _ : List Elt)[c]?).getD 0 = _
  cases extreme small signed (u.considers f r) with
  | none => rw [getElem?_padRow_two _ _ c hc]; rfl
  | some y => rw [getElem?_padRow_two _ _ c hc]; rfl

/-- R321: the sum that RSUM writes into the first column of a row. -/
theorem elt_rowSums (f : TFmt) {r c : Nat} (hr : r < 32) (hc : c < 32) :
    (u.setTile f.d.toNat ((List.zipWith rowSum (rowsOf (u.chosen f)) (rowsOf (u.tile f.a.toNat))).map fun k =>
        padRow 0 [BitVec.ofNat 16 (min k 0xFFFF)]).flatten).elt f.d.toNat (32 * r + c) =
      if c = 0 then BitVec.ofNat 16 (min ((List.range 32).map fun c =>
        if u.takes f (32 * r + c) = true then (u.elt f.a.toNat (32 * r + c)).toNat else 0).sum 65535) else 0 := by
  rw [zipRows_eq hu, List.map_map]
  refine (elt_rows f.d.toNat (fun q _ => length_padRow 0 (by simp)) hr hc).trans ?_
  simp only [rowSum_eq]
  rw [getElem?_padRow_one _ c hc]
  rfl

end

/-- The order of RMIN and RMAX, in the statement's words. -/
theorem asExtreme_iff (small : Bool) (m : BitVec 5) (x y : Elt) : asExtreme small (m == 1) x y = true ↔
    if small = true then (if m = 1 then x.toInt ≤ y.toInt else x.toNat ≤ y.toNat)
    else if m = 1 then y.toInt ≤ x.toInt else y.toNat ≤ x.toNat := by
  by_cases hm : m = 1#5 <;> cases small <;> simp [asExtreme, eltLe, hm]

theorem list_eq_map_range {α : Type} {l : List α} {m : Nat} {g : Nat → α} (hlen : l.length = m)
    (hl : ∀ k, k < m → l[k]? = some (g k)) : l = (List.range m).map g := by
  refine List.ext_getElem? fun k => ?_
  rcases Nat.lt_or_ge k m with hk | hk
  · rw [hl k hk, List.getElem?_map, List.getElem?_range hk]
    rfl
  · rw [List.getElem?_eq_none (by omega), List.getElem?_eq_none (by simpa using hk)]

/-! ### PSUM (R323) -/

/-- Element `k` of A, zero where MU and MSEL do not take it. -/
def Saffron.masked (u : Saffron) (f : TFmt) (k : Nat) : Elt := if u.takes f k = true then u.elt f.a.toNat k else 0

/-- The sum of the `m` elements of A from `lo` on that are taken. -/
def Saffron.maskedSum (u : Saffron) (f : TFmt) (lo m : Nat) : Nat :=
  ((List.range m).map fun j => (u.masked f (lo + j)).toNat).sum

/-- The elements of A that PSUM adds. -/
def Saffron.maskedTile (u : Saffron) (f : TFmt) : List Elt :=
  List.zipWith (fun m x => if m then x else (0 : Elt)) (u.chosen f) (u.tile f.a.toNat)

/-- PSUM row by row. -/
def Saffron.psumRows (u : Saffron) (f : TFmt) : Saffron :=
  let rs := (rowsOf (u.maskedTile f)).map (prefixSums 0)
  { u.setTile f.d.toNat (rs.map (·.1)).flatten with sat := u.sat || rs.any (·.2.2) }

/-- PSUM over the whole tile, from the sum in scalar C. -/
def Saffron.psumChain (u : Saffron) (f : TFmt) : Saffron :=
  let r := prefixSums (fld (u.scalar f.c.toNat) 15 0) (u.maskedTile f)
  { (u.setTile f.d.toNat r.1).setScalar f.c.toNat (BitVec.ofNat 64 r.2.1) with sat := u.sat || r.2.2 }

theorem psum_eq (b : Block) (n : Nat) (f : TFmt) : b.psum n f = b.instrAlu n 0x24 2 f
    (f.b == 0 && f.mod.toNat < 2 && (if f.mod == 1 then scalarOk f.c else f.c == 0))
    fun u => if f.mod == 1 then u.psumChain f else u.psumRows f := rfl

@[simp] theorem Saffron.scalar_setScalar_self (u : Saffron) (i : Nat) (v : Word) : (u.setScalar i v).scalar i = v :=
  tget_tset_self _ _ _

theorem Saffron.scalar_setScalar_ne (u : Saffron) {i k : Nat} (v : Word) (h : k ≠ i) :
    (u.setScalar i v).scalar k = u.scalar k := tget_tset_ne _ _ (Ne.symm h)

theorem sum_take_map (g : Nat → Elt) (m j : Nat) (hj : j ≤ m) :
    ((((List.range m).map g).take j).map BitVec.toNat).sum = ((List.range j).map fun i => (g i).toNat).sum := by
  rw [← List.map_take, List.take_range, Nat.min_eq_left hj, List.map_map]
  rfl

theorem fld_le (w : Word) : fld w 15 0 ≤ 65535 := by
  have : fld w 15 0 < 65536 := Nat.mod_lt _ (by norm_num)
  omega

section
variable {u : Saffron} (hu : u.sized)
include hu

theorem maskedTile_eq (f : TFmt) : u.maskedTile f = (List.range 1024).map (u.masked f) :=
  list_eq_map_range (by rw [Saffron.maskedTile, List.length_zipWith, hu.length_chosen, hu.length_tile]; rfl) fun k hk => by
    rw [Saffron.maskedTile, List.getElem?_zipWith, Saffron.chosen_get hu hk, Saffron.tile_get hu hk]
    rfl

theorem rows_maskedTile (f : TFmt) :
    rowsOf (u.maskedTile f) = (List.range 32).map fun r => (List.range 32).map fun c => u.masked f (32 * r + c) :=
  rowsOf_eq fun k hk => by
    rw [maskedTile_eq hu, List.getElem?_map, List.getElem?_range hk]
    rfl

theorem elt_psumRows (f : TFmt) {r c : Nat} (hr : r < 32) (hc : c < 32) :
    (u.psumRows f).elt f.d.toNat (32 * r + c) = BitVec.ofNat 16 (min (u.maskedSum f (32 * r) (c + 1)) 65535) := by
  change (u.setTile _ _).elt _ _ = _
  rw [rows_maskedTile hu, List.map_map, List.map_map]
  refine (elt_rows f.d.toNat (fun q _ => ?_) hr hc).trans ?_
  · simp [length_prefixSums]
  · simp only [Function.comp]
    rw [getElem?_prefixSums _ _ _ (by omega) (by simpa using hc), sum_take_map _ _ _ (by omega), Nat.zero_add]
    rfl

theorem sat_psumRows (f : TFmt) : (u.psumRows f).sat = true ↔
    (u.sat = true ∨ ∃ r, r < 32 ∧ 65535 < u.maskedSum f (32 * r) 32) := by
  change (_ || _) = true ↔ _
  rw [Bool.or_eq_true, rows_maskedTile hu, List.map_map, List.any_map, List.any_eq_true]
  simp only [Function.comp, prefixSums_sat _ 0 (by omega), List.mem_range, Nat.zero_add, List.map_map]
  rfl

theorem elt_psumChain (f : TFmt) {k : Nat} (hk : k < 1024) : (u.psumChain f).elt f.d.toNat k =
    BitVec.ofNat 16 (min (fld (u.scalar f.c.toNat) 15 0 + u.maskedSum f 0 (k + 1)) 65535) := by
  change (u.setTile _ _).elt _ _ = _
  rw [Saffron.elt_setTile, maskedTile_eq hu, getElem?_prefixSums _ _ _ (fld_le _) (by simpa using hk),
    sum_take_map _ _ _ (by omega)]
  simp [Saffron.maskedSum]

theorem scalar_psumChain (f : TFmt) : (u.psumChain f).scalar f.c.toNat =
    BitVec.ofNat 64 (min (fld (u.scalar f.c.toNat) 15 0 + u.maskedSum f 0 1024) 65535) := by
  change (Saffron.setScalar _ _ _).scalar _ = _
  rw [Saffron.scalar_setScalar_self, maskedTile_eq hu, prefixSums_final _ _ (fld_le _), List.map_map]
  simp only [Saffron.maskedSum, Nat.zero_add]
  rfl

theorem sat_psumChain (f : TFmt) : (u.psumChain f).sat = true ↔
    (u.sat = true ∨ 65535 < fld (u.scalar f.c.toNat) 15 0 + u.maskedSum f 0 1024) := by
  change (_ || _) = true ↔ _
  rw [Bool.or_eq_true, maskedTile_eq hu, prefixSums_sat _ _ (fld_le _), List.map_map]
  simp only [Saffron.maskedSum, Nat.zero_add]
  rfl

end

/-- The sum from element `lo` to element `hi`, in the statement's words. -/
theorem maskedSum_eq (u : Saffron) (f : TFmt) (lo m : Nat) : u.maskedSum f lo m = ((List.range m).map fun j =>
    if u.takes f (lo + j) = true then (u.elt f.a.toNat (lo + j)).toNat else 0).sum := by
  unfold Saffron.maskedSum Saffron.masked
  congr 1
  refine List.map_congr_left fun j _ => ?_
  split <;> rfl

/-! ### TOPK (R324, R325) -/

/-- The key of element `j` of A, the order key where KEYF = 1. -/
def Saffron.topKey (u : Saffron) (f : TFmt) (j : Nat) : Elt :=
  if f.mod.getLsbD 3 = true then okey (f.mod.getLsbD 4) (u.elt f.a.toNat j) else u.elt f.a.toNat j

/-- The new candidates of row `r`. -/
def Saffron.topNew (u : Saffron) (f : TFmt) (r : Nat) : List (Elt × Elt) :=
  (u.takenCols f r).map fun c => (u.topKey f (32 * r + c), u.elt f.b.toNat (32 * r + c))

/-- The entries that stand in row `r`. -/
def Saffron.topOld (u : Saffron) (f : TFmt) (r : Nat) : List (Elt × Elt) :=
  (List.range 32).map fun c => (u.elt f.d.toNat (32 * r + c), u.elt (f.d.toNat + 1) (32 * r + c))

/-- Row `r` after TOPK. -/
def Saffron.topRow (u : Saffron) (f : TFmt) (r : Nat) : List (Elt × Elt) :=
  if (u.topNew f r).isEmpty && !(f.c == 1) then u.topOld f r
  else topkRow (f.mod.toNat % 8 + 1) (f.c == 1) (u.topOld f r) (u.topNew f r)

/-- TOPK's result. -/
def Saffron.topked (u : Saffron) (f : TFmt) : Saffron :=
  { (u.setTile f.d.toNat (((List.range 32).map (u.topRow f)).flatten.map (·.1))).setTile (f.d.toNat + 1)
      (((List.range 32).map (u.topRow f)).flatten.map (·.2)) with
    nan := u.nan || (f.mod.getLsbD 3 && (u.tile f.a.toNat).any (isNan (f.mod.getLsbD 4))) }

theorem length_topRow (u : Saffron) (f : TFmt) (r : Nat) : (u.topRow f r).length = 32 := by
  unfold Saffron.topRow
  split
  · simp [Saffron.topOld]
  · exact length_topkRow _ (by omega) _ _

/-- The elements of row `r` after TOPK. -/
theorem elt_topked (u : Saffron) (f : TFmt) {r c : Nat} (hr : r < 32) (hc : c < 32) {x : Elt × Elt}
    (hx : (u.topRow f r)[c]? = some x) :
    (u.topked f).elt f.d.toNat (32 * r + c) = x.1 ∧ (u.topked f).elt (f.d.toNat + 1) (32 * r + c) = x.2 := by
  constructor
  · change (((Saffron.setTile _ _ _).tile _)[_]?).getD 0 = _
    rw [Saffron.tile_setTile_ne _ _ (by omega)]
    exact (elt_mapRows (u := u) _ _ (length_topRow u f) hr hc).trans (by rw [hx]; rfl)
  · exact (elt_mapRows _ _ (length_topRow u f) hr hc).trans (by rw [hx]; rfl)

/-- What TOPK makes of the unit. -/
theorem topk_run {u : Saffron} (hu : u.sized) (f : TFmt) :
    (let a := u.tile f.a.toNat
      let keys := if f.mod.getLsbD 3 then a.map (okey (f.mod.getLsbD 4)) else a
      let rows := topkRows (f.mod.toNat % 8 + 1) (f.c == 1) (rowsOf (u.chosen f)) (rowsOf keys)
        (rowsOf (u.tile f.b.toNat)) (rowsOf (u.tile f.d.toNat)) (rowsOf (u.tile (f.d.toNat + 1)))
      let u' := (u.setTile f.d.toNat (rows.flatten.map (·.1))).setTile (f.d.toNat + 1) (rows.flatten.map (·.2))
      { u' with nan := u.nan || (f.mod.getLsbD 3 && a.any (isNan (f.mod.getLsbD 4))) }) = u.topked f := by
  have hkeys : rowsOf (if f.mod.getLsbD 3 then (u.tile f.a.toNat).map (okey (f.mod.getLsbD 4)) else u.tile f.a.toNat)
      = (List.range 32).map fun r => (List.range 32).map fun c => u.topKey f (32 * r + c) := by
    refine rowsOf_eq fun k hk => ?_
    unfold Saffron.topKey
    split
    · exact mapTile_get hu _ _ hk
    · exact Saffron.tile_get hu hk _
  dsimp only
  rw [hkeys, rows_chosen hu, rows_tile hu, rows_tile hu, rows_tile hu, topkRows_map]
  simp only [newCands_eq, List.zip_map']
  rfl

/-- Settles O41: the operations on rows, each by what it makes of one row. -/
theorem rowOperations : Obligations.RowOperations := by
  refine ⟨?extreme, ?rsum, ?psum, ?topk⟩
  case extreme =>
    rintro s n f small ⟨hcur, hu⟩
    intro u i le best
    have hexec : exec i s =
        .next { s with blk := s.blk.rowMinMax n (if small = true then 0x20 else 0x21) f small } := by
      cases small <;> rfl
    have helt {r c : Nat} (hr : r < 32) (hc : c < 32) := elt_rowMinMax hu f small (f.mod == 1) hr hc
    refine alu_outcomes hexec hcur (by simp [and_assoc]) rfl fun _ =>
      ⟨fun r hr hnone => ?_, fun r c hr hc htakes hbest => ?_, fun r c hr h2 hc => ?_,
        fun t ht => by exact Saffron.tile_setTile_ne _ _ ht, rfl⟩
    · have hempty : u.considers f r = [] := by
        simpa [Saffron.considers, Saffron.takenCols] using hnone
      refine ⟨(helt hr (c := 0) (by omega)).trans ?_, (helt hr (c := 1) (by omega)).trans ?_⟩
      · rw [hempty]
        simp [extreme]
      · rw [hempty]
        rfl
    · have hrow : extreme small (f.mod == 1) (u.considers f r) = some (u.elt f.a.toNat (32 * r + c), c) :=
        extreme_row (Saffron.mem_takenCols.2 ⟨hc, htakes⟩) fun d hd => by
          obtain ⟨hd32, hdtakes⟩ := Saffron.mem_takenCols.1 hd
          exact ⟨(asExtreme_iff _ _ _ _).2 (hbest d hd32 hdtakes).1, (hbest d hd32 hdtakes).2⟩
      refine ⟨(helt hr (c := 0) (by omega)).trans ?_, (helt hr (c := 1) (by omega)).trans ?_⟩
      · rw [hrow]
        rfl
      · rw [hrow]
        rfl
    · exact (helt hr hc).trans (by rw [if_neg (by omega), if_neg (by omega)])
  case rsum =>
    rintro s n f ⟨hcur, hu⟩
    intro u sum
    have helt {r c : Nat} (hr : r < 32) (hc : c < 32) := elt_rowSums hu f hr hc
    refine alu_outcomes rfl hcur (by simp [and_assoc]) rfl fun _ =>
      ⟨fun r hr => by exact helt hr (c := 0) (by omega), fun r c hr h1 hc => by exact (helt hr hc).trans (if_neg (by omega)), ?_,
        fun t ht => by exact Saffron.tile_setTile_ne _ _ ht, rfl⟩
    change (_ || _) = true ↔ _
    rw [Bool.or_eq_true, zipRows_eq hu, List.any_map, List.any_eq_true]
    simp only [Function.comp, rowSum_eq, List.mem_range, decide_eq_true_eq]
    rfl
  case psum =>
    rintro s n f ⟨hcur, hu⟩
    intro u sum
    have hexec : exec (.sPsum n f) s = .next { s with blk := s.blk.psum n f } := rfl
    rw [psum_eq] at hexec
    have hsum (lo hi : Nat) : sum lo hi = u.maskedSum f lo (hi + 1 - lo) := (maskedSum_eq u f _ _).symm
    refine ⟨fun hb hmod hc hnext => ?_, fun hb hmod hc hnext => ?_, fun hbad => failed_illegal hexec hcur ?_⟩
    · have hran := ran_alu hexec hcur (by simp [hb, hmod, hc]) hnext (by simp [hmod]; rfl)
      rw [if_neg (by simp [hmod])] at hran
      refine ⟨_, hran, fun k hk => ?_, ?_, fun t ht => Saffron.tile_setTile_ne _ _ ht, rfl⟩
      · have helt := elt_psumRows hu f (r := k / 32) (c := k % 32) (by omega) (by omega)
        rw [Nat.div_add_mod] at helt
        rw [hsum, show k + 1 - k / 32 * 32 = k % 32 + 1 by omega, Nat.mul_comm (k / 32)]
        exact helt
      · simp only [hsum]
        have (r : Nat) : 32 * r + 31 + 1 - 32 * r = 32 := by omega
        simp only [this]
        exact sat_psumRows hu f
    · have hran := ran_alu hexec hcur (by simp [hb, hmod, scalarOk, hc]) hnext (by simp [hmod]; rfl)
      rw [if_pos (by simp [hmod])] at hran
      refine ⟨_, hran, fun k hk => ?_, ?_, ?_, fun t ht => Saffron.tile_setTile_ne _ _ ht,
        fun k hk => Saffron.scalar_setScalar_ne _ _ hk, rfl⟩
      · rw [hsum]
        exact elt_psumChain hu f hk
      · rw [hsum]
        exact scalar_psumChain hu f
      · rw [hsum]
        exact sat_psumChain hu f
    · refine Bool.eq_false_iff.2 fun hlegal => ?_
      simp only [Bool.and_eq_true, beq_iff_eq, decide_eq_true_eq] at hlegal
      obtain ⟨⟨hb, hmod⟩, hc⟩ := hlegal
      rcases hbad with hb' | hm | ⟨hm, hc'⟩ | ⟨hm, hc'⟩
      · exact hb' hb
      · omega
      · exact hc' (by simpa [hm] using hc)
      · simp [hm, scalarOk] at hc
        omega
  case topk =>
    rintro s n f ⟨hcur, hu⟩
    intro u d k key legal new old all
    have hold (r : Nat) : (u.topOld f r).take k = old r := by
      rw [Saffron.topOld, ← List.map_take, List.take_range, Nat.min_eq_left (by omega)]
    have helt {r c : Nat} (hr : r < 32) (hc : c < 32) {x : Elt × Elt} := elt_topked u f hr hc (x := x)
    refine alu_outcomes (Q := fun v => _) rfl hcur (by simp [legal, d, and_assoc]) rfl fun _ => ?_
    rw [topk_run hu]
    refine ⟨fun r hr hc0 hnew c hc => ?_, fun r hr hnew => ?_, ?_, fun t ht ht' => ?_, rfl⟩
    · refine helt hr hc (x := (u.elt d (32 * r + c), u.elt (d + 1) (32 * r + c))) ?_
      rw [Saffron.topRow, show u.topNew f r = [] from hnew]
      simp [hc0, Saffron.topOld, hc, d]
    · have hrow : u.topRow f r = topkRow k (f.c == 1) (u.topOld f r) (u.topNew f r) := by
        refine if_neg ?_
        rcases hnew with hc1 | hnew
        · simp [hc1]
        · simp [show u.topNew f r ≠ [] from hnew]
      obtain ⟨best, rest, hperm, hlen, hranked, hcross, hbest, hfill⟩ :=
        topkRow_spec k (f.c == 1) (u.topOld f r) (u.topNew f r)
      rw [hold, show ((if (f.c == 1) = true then [] else old r) ++ u.topNew f r) = all r by
        simp only [beq_iff_eq]; rfl] at hperm hlen
      rw [← hrow] at hbest hfill
      refine ⟨best, rest, hperm, hlen, hranked, hcross, fun c x hx => ?_, fun c hc hc32 => helt hr hc32 (hfill c hc hc32)⟩
      have hc : c < 32 := by
        have := (List.getElem?_eq_some_iff.1 hx).1
        omega
      exact helt hr hc (hbest c x hx)
    · change (_ || _) = true ↔ _
      rw [Bool.or_eq_true, Bool.and_eq_true, List.any_eq_true]
      refine or_congr .rfl (and_congr .rfl ⟨?_, ?_⟩)
      · rintro ⟨x, hx, hnan⟩
        obtain ⟨j, hj, rfl⟩ := List.getElem_of_mem hx
        have hj' : j < 1024 := hu.length_tile f.a.toNat ▸ hj
        have hget := Saffron.tile_get hu hj' f.a.toNat
        rw [List.getElem?_eq_getElem hj, Option.some.injEq] at hget
        exact ⟨j, hj', hget ▸ hnan⟩
      · rintro ⟨j, hj, hnan⟩
        exact ⟨_, List.mem_of_getElem? (Saffron.tile_get hu hj f.a.toNat), hnan⟩
    · exact (Saffron.tile_setTile_ne _ _ ht').trans (Saffron.tile_setTile_ne _ _ ht)

end Sys2Proof.Machine
end

section
/-! SUPPORT. The operations of the Saffron unit on memory (R326 to R330): what LD and SLD read, and the bytes and
records that ST and SCAT write. -/

namespace Sys2Proof.Machine

/-! ### Writes beside a change of the unit -/

/-- A write of memory and a change of a unit do not meet. -/
theorem foldl_put_modSaf {α : Type} (n port cls : Nat) (w : WPurpose) (addr : α → Nat) (bytes : α → List Byte)
    (f : Saffron → Saffron) (l : List α) (b : Block) :
    l.foldl (fun b t => b.put port cls (addr t) (bytes t) w) (b.modSaf n f)
      = (l.foldl (fun b t => b.put port cls (addr t) (bytes t) w) b).modSaf n f := by
  induction l generalizing b with
  | nil => rfl
  | cons t l ih => exact ih (b.put port cls (addr t) (bytes t) w)

/-- Writes of memory change its ports alone. -/
theorem foldl_put_eq {α : Type} (port cls : Nat) (w : WPurpose) (addr : α → Nat) (bytes : α → List Byte) (l : List α)
    (b : Block) : ∃ m, l.foldl (fun b t => b.put port cls (addr t) (bytes t) w) b = { b with mp := m } := by
  induction l generalizing b with
  | nil => exact ⟨_, rfl⟩
  | cons t l ih =>
    obtain ⟨m, hm⟩ := ih (b.put port cls (addr t) (bytes t) w)
    exact ⟨m, hm⟩

/-- A change of one unit after a change of the memory ports. -/
theorem Block.UnitTo.afterMp {b b' c : Block} {n : Nat} {u : Saffron} {m : Mp} (h : b'.UnitTo n u c)
    (hb : b' = { b with mp := m }) : c.mp = m ∧ c.saf n = u ∧ (∀ k, k ≠ n → c.saf k = b.saf k)
      ∧ c = { b with mp := c.mp, saffron := c.saffron } := by
  subst hb
  obtain ⟨hself, hother, hrest⟩ := h
  have hmp : c.mp = m := by rw [hrest]
  refine ⟨hmp, hself, hother, ?_⟩
  conv_lhs => rw [hrest]
  rw [hmp]

/-! ### LD and SLD (R326, R327, R330) -/

/-- Element `k` lies in the shape. -/
def inShape (sh : Nat × Nat × Nat) (k : Nat) : Bool := decide (k / 32 < sh.1 ∧ k % 32 < sh.2.1)

/-- The unit once LD has its elements. -/
def Saffron.loaded (u : Saffron) (f : TFmt) (m : MemView) (base : Nat) (sh : Nat × Nat × Nat) : Saffron :=
  let v := u.setTile f.d.toNat ((List.range 1024).map fun k =>
    if inShape sh k then BitVec.ofNat 16 (m.u16 (base + k / 32 * sh.2.2 + 2 * (k % 32))) else 0)
  if f.mu then v.setMask f.msel.toNat ((List.range 1024).map (inShape sh)) else v

theorem loaded_eq (u : Saffron) (f : TFmt) (m : MemView) (base : Nat) (sh : Nat × Nat × Nat) :
    u.loaded f m base sh = { u with tiles := (u.loaded f m base sh).tiles, masks := (u.loaded f m base sh).masks } := by
  unfold Saffron.loaded
  dsimp only
  split <;> rfl

section
variable (u : Saffron) (f : TFmt) (m : MemView) (base : Nat) (sh : Nat × Nat × Nat)

theorem tile_loaded (t : Nat) : (u.loaded f m base sh).tile t = (u.setTile f.d.toNat ((List.range 1024).map fun k =>
    if inShape sh k then BitVec.ofNat 16 (m.u16 (base + k / 32 * sh.2.2 + 2 * (k % 32))) else 0)).tile t := by
  unfold Saffron.loaded
  dsimp only
  split <;> rfl

theorem elt_loaded {k : Nat} (hk : k < 1024) : (u.loaded f m base sh).elt f.d.toNat k =
    if k / 32 < sh.1 ∧ k % 32 < sh.2.1 then BitVec.ofNat 16 (m.u16 (base + k / 32 * sh.2.2 + 2 * (k % 32))) else 0 := by
  rw [Saffron.elt, tile_loaded]
  refine (Saffron.elt_setTile _ _ _ _).trans ?_
  rw [List.getElem?_map, List.getElem?_range hk]
  simp [inShape]

theorem bitAt_loaded (hmu : f.mu = true) {k : Nat} (hk : k < 1024) :
    (u.loaded f m base sh).bitAt f.msel.toNat k = true ↔ (k / 32 < sh.1 ∧ k % 32 < sh.2.1) := by
  rw [Saffron.loaded, if_pos hmu, Saffron.bitAt_setMask, List.getElem?_map, List.getElem?_range hk]
  simp [inShape]

theorem mask_loaded {t : Nat} (ht : f.mu = false ∨ t ≠ f.msel.toNat) : (u.loaded f m base sh).mask t = u.mask t := by
  unfold Saffron.loaded
  dsimp only
  split
  · next hmu => exact Saffron.mask_setMask_ne _ _ (ht.resolve_left (by simp [hmu]))
  · rfl

end

/-- R336: a read that meets an error, where the program has not failed before: the error is recorded, and the program fails
with cause 9 and the read's status. -/
theorem readFails {b c : Block} {n : Nat} {x : Expansion} (herrors : RecordsErrors b c) (k pc : Nat) (st : Status)
    (hx : (b.saf n).exp = some x) (hfail : x.fail = none) :
    let c' := (c.addBeats n k).progFail n pc 9 st
    (c'.saf n).errV = true ∧ (c'.saf n).errCause = 9 ∧ (c'.saf n).errPc = pc % 4096
      ∧ (c'.saf n).exp = (b.saf n).exp.map (fun x => { x with fail := some st, stage := .retiring })
      ∧ (c'.saf n).tiles = (b.saf n).tiles
      ∧ c' = { b with mp := c'.mp, saffron := c'.saffron, evc := { b.evc with pend := c'.evc.pend }, trace := c'.trace } := by
  intro c'
  have hc : c.UnitTo n _ c' := ((Block.UnitTo.refl c n).modSaf fun u => { u with beats := u.beats + k }).progFail pc 9 st
    (x := x) (by simp [herrors.saf n, hx]) hfail
  generalize c' = d at hc
  rw [herrors.saf n] at hc
  obtain ⟨hself, -, hrest⟩ := hc
  obtain ⟨mp, v, t, rfl⟩ := herrors
  refine ⟨by rw [hself], by rw [hself], by rw [hself], by rw [hself, hx]; rfl, by rw [hself], ?_⟩
  rw [hrest]

/-- A store's element as its bytes, lowest first. -/
theorem getElem?_leBytes_two (x : Elt) (i : Nat) (hi : i < 2) : (leBytes 2 x.toNat)[i]? = some (x.extractLsb' (8 * i) 8) := by
  have h : i = 0 ∨ i = 1 := by omega
  rcases h with rfl | rfl
  · simp only [leBytes, List.getElem?_cons_zero, Option.some.injEq]
    exact BitVec.eq_of_toNat_eq (by simp [BitVec.extractLsb'])
  · simp only [leBytes, List.getElem?_cons_succ, List.getElem?_cons_zero, Option.some.injEq]
    exact BitVec.eq_of_toNat_eq (by simp [BitVec.extractLsb', Nat.shiftRight_eq_div_pow])

/-- Byte `x` stands at address `a` in a list of runs. -/
def inRuns (runs : List (Nat × List Byte)) (a : Nat) (x : Byte) : Prop :=
  ∃ t j, t ∈ runs ∧ t.1 + j = a ∧ t.2[j]? = some x

theorem inRuns_cons (t : Nat × List Byte) (runs : List (Nat × List Byte)) (a : Nat) (x : Byte) :
    inRuns (t :: runs) a x ↔ (∃ j, t.1 + j = a ∧ t.2[j]? = some x) ∨ inRuns runs a x := by
  simp only [inRuns, List.mem_cons]
  constructor
  · rintro ⟨y, j, rfl | hy, ha, hx⟩
    · exact .inl ⟨j, ha, hx⟩
    · exact .inr ⟨y, j, hy, ha, hx⟩
  · rintro (⟨j, ha, hx⟩ | ⟨y, j, hy, ha, hx⟩)
    · exact ⟨t, j, .inl rfl, ha, hx⟩
    · exact ⟨y, j, .inr hy, ha, hx⟩

/-- R328: a run that an element joins, or that stands after it, holds its two bytes and no other. -/
theorem inRuns_storeRuns_taken (a : Nat) (x : Elt) (l : List (Bool × Elt)) (b : Nat) (y : Byte) :
    inRuns (storeRuns a ((true, x) :: l)) b y ↔
      (∃ i, i < 2 ∧ b = a + i ∧ y = x.extractLsb' (8 * i) 8) ∨ inRuns (storeRuns (a + 2) l) b y := by
  have hlen : (leBytes 2 x.toNat).length = 2 := rfl
  have hown : (∃ j, a + j = b ∧ (leBytes 2 x.toNat)[j]? = some y) ↔
      ∃ i, i < 2 ∧ b = a + i ∧ y = x.extractLsb' (8 * i) 8 := by
    constructor
    · rintro ⟨j, rfl, hj⟩
      have hj2 : j < 2 := hlen ▸ (List.getElem?_eq_some_iff.1 hj).1
      rw [getElem?_leBytes_two x j hj2, Option.some.injEq] at hj
      exact ⟨j, hj2, rfl, hj.symm⟩
    · rintro ⟨i, hi, rfl, rfl⟩
      exact ⟨i, rfl, getElem?_leBytes_two x i hi⟩
  rw [← hown, storeRuns]
  split
  · next a' bs t hruns =>
    rw [hruns]
    split
    · next ha =>
      subst ha
      simp only [inRuns_cons, ← or_assoc]
      refine or_congr_left ?_
      constructor
      · rintro ⟨j, rfl, hj⟩
        rcases Nat.lt_or_ge j 2 with hj2 | hj2
        · rw [List.getElem?_append_left (by omega)] at hj
          exact .inl ⟨j, rfl, hj⟩
        · rw [List.getElem?_append_right (by omega)] at hj
          exact .inr ⟨j - 2, by omega, hj⟩
      · rintro (⟨j, rfl, hj⟩ | ⟨j, rfl, hj⟩)
        · refine ⟨j, rfl, ?_⟩
          rwa [List.getElem?_append_left (List.getElem?_eq_some_iff.1 hj).1]
        · refine ⟨2 + j, by omega, ?_⟩
          rwa [List.getElem?_append_right (by omega), hlen, Nat.add_sub_cancel_left]
    · simp only [inRuns_cons]
  · next hruns => rw [hruns, inRuns_cons]

/-- R328: the runs of a row hold the bytes of its elements that are taken, and no other byte. -/
theorem inRuns_storeRuns (l : List (Bool × Elt)) : ∀ (a b : Nat) (y : Byte), inRuns (storeRuns a l) b y ↔
    ∃ c i x, l[c]? = some (true, x) ∧ i < 2 ∧ b = a + 2 * c + i ∧ y = x.extractLsb' (8 * i) 8 := by
  induction l with
  | nil =>
    intro a b y
    simp [storeRuns, inRuns]
  | cons e l ih =>
    intro a b y
    obtain ⟨taken, x⟩ := e
    have hshift : (∃ c i z, l[c]? = some (true, z) ∧ i < 2 ∧ b = a + 2 + 2 * c + i ∧ y = z.extractLsb' (8 * i) 8) ↔
        ∃ c i z, ((taken, x) :: l)[c + 1]? = some (true, z) ∧ i < 2 ∧ b = a + 2 * (c + 1) + i
          ∧ y = z.extractLsb' (8 * i) 8 := by
      simp only [List.getElem?_cons_succ, show ∀ c, a + 2 + 2 * c = a + 2 * (c + 1) by intro c; omega]
    cases taken with
    | false =>
      rw [storeRuns, ih, hshift]
      constructor
      · rintro ⟨c, h⟩
        exact ⟨c + 1, h⟩
      · rintro ⟨_ | c, i, z, hz, h⟩
        · cases hz
        · exact ⟨c, i, z, hz, h⟩
    | true =>
      rw [inRuns_storeRuns_taken, ih, hshift]
      constructor
      · rintro (⟨i, hi, hb, hy⟩ | ⟨c, h⟩)
        · exact ⟨0, i, x, rfl, hi, by omega, hy⟩
        · exact ⟨c + 1, h⟩
      · rintro ⟨_ | c, i, z, hz, hi, hb, hy⟩
        · cases hz
          exact .inl ⟨i, hi, by omega, hy⟩
        · exact .inr ⟨c, i, z, hz, hi, hb, hy⟩

/-- R328: the runs that ST writes. -/
def Saffron.storeRuns (u : Saffron) (f : TFmt) (base : Nat) (sh : Nat × Nat × Nat) : List (Nat × List Byte) :=
  (List.range sh.1).flatMap fun r => Machine.storeRuns (base + r * sh.2.2)
    (((List.zip (u.chosen f) (u.tile f.a.toNat)).drop (32 * r)).take sh.2.1)

theorem shapeOf_le {w : Word} {sh : Nat × Nat × Nat} (h : shapeOf w = some sh) : sh.1 ≤ 32 ∧ sh.2.1 ≤ 32 := by
  unfold shapeOf at h
  dsimp only at h
  split at h
  · next hok =>
    cases h
    exact ⟨hok.2.2.2.1, hok.2.2.2.2.2.1⟩
  · cases h

/-- R328: ST writes the bytes of the elements of the shape that are taken, and no other byte. -/
theorem inRuns_store {u : Saffron} (hu : u.sized) (f : TFmt) (base : Nat) {sh : Nat × Nat × Nat} (h1 : sh.1 ≤ 32)
    (h2 : sh.2.1 ≤ 32) (b : Nat) (y : Byte) : inRuns (u.storeRuns f base sh) b y ↔ ∃ r c i, r < sh.1 ∧ c < sh.2.1 ∧ i < 2
      ∧ u.takes f (32 * r + c) = true ∧ b = base + r * sh.2.2 + 2 * c + i
      ∧ y = (u.elt f.a.toNat (32 * r + c)).extractLsb' (8 * i) 8 := by
  have hcell (r c : Nat) (hr : r < sh.1) : (((List.zip (u.chosen f) (u.tile f.a.toNat)).drop (32 * r)).take sh.2.1)[c]? =
      if c < sh.2.1 then some (u.takes f (32 * r + c), u.elt f.a.toNat (32 * r + c)) else none := by
    rw [List.getElem?_take]
    split
    · rw [List.getElem?_drop, List.zip, List.getElem?_zipWith, Saffron.chosen_get hu (by omega),
        Saffron.tile_get hu (by omega)]
    · rfl
  have hrow : inRuns (u.storeRuns f base sh) b y ↔ ∃ r, r < sh.1 ∧ inRuns (Machine.storeRuns (base + r * sh.2.2)
      (((List.zip (u.chosen f) (u.tile f.a.toNat)).drop (32 * r)).take sh.2.1)) b y := by
    simp only [inRuns, Saffron.storeRuns, List.mem_flatMap, List.mem_range]
    constructor
    · rintro ⟨t, j, ⟨r, hr, ht⟩, h⟩
      exact ⟨r, hr, t, j, ht, h⟩
    · rintro ⟨r, hr, t, j, ht, h⟩
      exact ⟨t, j, ⟨r, hr, ht⟩, h⟩
  rw [hrow]
  constructor
  · rintro ⟨r, hr, h⟩
    obtain ⟨c, i, x, hx, hi, hb, hy⟩ := (inRuns_storeRuns _ _ _ _).1 h
    rw [hcell r c hr] at hx
    split at hx
    · next hc =>
      simp only [Option.some.injEq, Prod.mk.injEq] at hx
      exact ⟨r, c, i, hr, hc, hi, hx.1, hb, hx.2 ▸ hy⟩
    · cases hx
  · rintro ⟨r, c, i, hr, hc, hi, htakes, hb, hy⟩
    exact ⟨r, hr, (inRuns_storeRuns _ _ _ _).2 ⟨c, i, _, by rw [hcell r c hr, if_pos hc, htakes], hi, hb, hy⟩⟩

/-! ### SCAT (R329) -/

/-- What is made of the chosen numbers below `m`, each with its place among them. -/
theorem zip_filter_flatMap {α : Type} (p : Nat → Bool) (g : Nat × Nat → List α) (m : Nat) :
    (List.zip (List.range ((List.range m).filter p).length) ((List.range m).filter p)).flatMap g
      = (List.range m).flatMap fun k => if p k = true then g (((List.range k).filter p).length, k) else [] := by
  induction m with
  | zero => rfl
  | succ m ih =>
    rw [List.range_succ, List.filter_append, List.flatMap_append, ← ih]
    by_cases hm : p m = true
    · rw [List.filter_cons_of_pos hm, List.filter_nil, List.length_append, List.length_singleton, List.range_succ,
        List.zip_append (by simp), List.flatMap_append]
      simp [hm]
    · rw [List.filter_cons_of_neg hm, List.filter_nil, List.append_nil]
      simp [hm]

/-- The words of the records of SCAT, element by element. -/
def Saffron.records (u : Saffron) (f : TFmt) : List Word :=
  (List.range 1024).flatMap fun k => if u.bitAt f.msel.toNat k = true then
    packW [((u.elt f.c.toNat k).toNat, 16, 48), (k, 16, 32), ((u.elt f.b.toNat k).toNat, 16, 16),
      ((u.elt f.a.toNat k).toNat, 16, 0)] :: (if f.mod.getLsbD 0 = true then [if f.mod.toNat / 2 % 8 = f.d.toNat then
        BitVec.ofNat 64 ((u.scalar f.d.toNat).toNat + 16 * ((List.range k).filter (u.bitAt f.msel.toNat)).length)
      else u.scalar (f.mod.toNat / 2 % 8)] else [])
  else []

/-- R329: the records of SCAT; where its base is also word 1 it stands behind the records before. -/
theorem scatWords_eq {u : Saffron} (hu : u.sized) (f : TFmt) : scatWords u f = u.records f := by
  have htile (t : Nat) : u.tile t = (List.range 1024).map (u.elt t) :=
    list_eq_map_range (hu.length_tile t) fun _ hk => Saffron.tile_get hu hk t
  have hmask : u.mask f.msel.toNat = (List.range 1024).map (u.bitAt f.msel.toNat) :=
    list_eq_map_range (hu.length_mask _) fun _ hk => Saffron.mask_get hu hk _
  have hid : List.range tileSize = (List.range 1024).map id := (List.map_id _).symm
  unfold scatWords
  dsimp only
  rw [hmask, htile, htile, htile, hid, List.zip_map', List.zip_map', List.zip_map', List.zip_map', List.filter_map,
    List.length_map, List.zip_map_right, List.flatMap_map]
  refine (zip_filter_flatMap (u.bitAt f.msel.toNat) _ 1024).trans (List.flatMap_congr fun k _ => ?_)
  by_cases hb : u.bitAt f.msel.toNat k = true
  · rw [if_pos hb, if_pos hb]
    refine congrArg (_ :: ·) ?_
    by_cases hlong : f.mod.getLsbD 0 = true
    · rw [if_pos hlong, if_pos hlong]
      refine congrArg (fun w => [w]) ?_
      by_cases hs : f.mod.toNat / 2 % 8 = f.d.toNat
      · rw [if_pos hs, if_pos hs, hs, BitVec.ofNat_add, BitVec.ofNat_toNat, BitVec.setWidth_eq]
        rfl
      · rw [if_neg hs, if_neg hs]
        exact BitVec.add_zero _
    · rw [if_neg hlong, if_neg hlong]
  · rw [if_neg hb, if_neg hb]

theorem length_wordsBytes (ws : List Word) : (wordsBytes ws).length = 8 * ws.length := by
  induction ws with
  | nil => rfl
  | cons w ws ih =>
    rw [wordsBytes, List.flatMap_cons, List.length_append, ← wordsBytes, ih, List.length_cons]
    simp [leBytes]
    omega

/-! ### The operations -/

/-- What LD does once it runs. -/
def Block.loadRun (n : Nat) (f : TFmt) (m : MemView) (b : Block) : Block :=
  let u := b.saf n
  let base := (u.scalar f.a.toNat).toNat
  match shapeOf (u.scalar f.b.toNat) with
  | none => b.progFail n u.pc 5 Status.format
  | some sh =>
      let areas := rowAreas base sh
      if base % 2 = 1 ∨ !areasOk areas then b.progFail n u.pc 5 Status.format
      else if areas.any fun t => b.mp.pendingWrite t.1 t.2 then b
      else
        let b := (b.areaErrors n m areas).addBeats n (beatsOf areas)
        let st := MemView_areas m areas
        if st ≠ Status.ok then b.progFail n u.pc 9 st
        else (b.modSaf n fun u => u.loaded f m base sh).advance n 0 (u.pc + 1)

theorem exec_sLd (s : State) (n : Nat) (f : TFmt) (m : MemView) : exec (.sLd n f m) s = .next { s with
    blk := s.blk.instr n (0x30 * 2 ^ 24 + f.enc) (scalarOk f.a && scalarOk f.b && f.c == 0 && f.mod == 0)
      (Block.loadRun n f m) } := rfl

section
variable {b : Block} {n : Nat} {f : TFmt} {m : MemView} {sh : Nat × Nat × Nat}

/-- R326: an operand that is not allowed fails with cause 5. -/
theorem loadRun_illegal (hbad : ∀ sh, shapeOf ((b.saf n).scalar f.b.toNat) = some sh →
    ((b.saf n).scalar f.a.toNat).toNat % 2 = 1 ∨ areasOk (rowAreas ((b.saf n).scalar f.a.toNat).toNat sh) = false) :
    Block.loadRun n f m b = b.progFail n (b.saf n).pc 5 Status.format := by
  unfold Block.loadRun
  dsimp only
  split
  · rfl
  · next sh hsh => exact if_pos ((hbad sh hsh).imp_right fun h => by rw [h]; rfl)

/-- LD once its operands are allowed and no write to its areas is on the way. -/
theorem loadRun_reads (hsh : shapeOf ((b.saf n).scalar f.b.toNat) = some sh)
    (hbase : ((b.saf n).scalar f.a.toNat).toNat % 2 = 0)
    (hareas : areasOk (rowAreas ((b.saf n).scalar f.a.toNat).toNat sh) = true)
    (hpend : ∀ t, t ∈ rowAreas ((b.saf n).scalar f.a.toNat).toNat sh → b.mp.pendingWrite t.1 t.2 = false) :
    let base := ((b.saf n).scalar f.a.toNat).toNat
    let areas := rowAreas base sh
    let c := (b.areaErrors n m areas).addBeats n (beatsOf areas)
    Block.loadRun n f m b = if MemView_areas m areas ≠ Status.ok then
      c.progFail n (b.saf n).pc 9 (MemView_areas m areas)
      else (c.modSaf n fun u => u.loaded f m base sh).advance n 0 ((b.saf n).pc + 1) := by
  intro base areas c
  have hany : ¬ (areas.any fun t => b.mp.pendingWrite t.1 t.2) = true := by
    rw [List.any_eq_true]
    rintro ⟨t, ht, hw⟩
    rw [hpend t ht] at hw
    cases hw
  unfold Block.loadRun
  dsimp only
  rw [hsh]
  dsimp only
  rw [if_neg (by simp [hbase, hareas]), if_neg hany]

end

/-- What SLD does once it runs. -/
def Block.scalarLoadRun (n : Nat) (f : IFmt) (m : MemView) (b : Block) : Block :=
  let u := b.saf n
  let a := (u.scalar f.a.toNat + f.imm.signExtend 64).toNat
  if a % 8 ≠ 0 ∨ 2 ^ 56 < a + 8 then b.progFail n u.pc 5 Status.format
  else if b.mp.pendingWrite a 8 then b
  else
    let b := (b.areaErrors n m [(a, 8)]).addBeats n 1
    let st := m.status Status.indirectFault a 8
    if st ≠ Status.ok then b.progFail n u.pc 9 st
    else (b.modSaf n fun u => u.setScalar f.d.toNat (m.word a)).advance n 0 (u.pc + 1)

theorem exec_sSld (s : State) (n : Nat) (f : IFmt) (m : MemView) : exec (.sSld n f m) s = .next { s with
    blk := s.blk.instr n (0x43 * 2 ^ 24 + f.enc) (scalarOk f.d && scalarOk f.a) (Block.scalarLoadRun n f m) } := rfl

theorem scalarLoadRun_ok {b : Block} {n : Nat} {f : IFmt} {m : MemView} {a : Nat}
    (ha : ((b.saf n).scalar f.a.toNat + f.imm.signExtend 64).toNat = a) (halign : a % 8 = 0) (hend : a + 8 ≤ 2 ^ 56)
    (hpend : b.mp.pendingWrite a 8 = false) (hst : m.status Status.indirectFault a 8 = Status.ok) :
    Block.scalarLoadRun n f m b = ((b.addBeats n 1).modSaf n fun u => u.setScalar f.d.toNat (m.word a)).advance n 0
      ((b.saf n).pc + 1) := by
  have herr : b.areaErrors n m [(a, 8)] = b := viewErrors_of_ok rfl hst b n 4
  unfold Block.scalarLoadRun
  dsimp only
  rw [ha, if_neg (by omega), if_neg (by simp [hpend]), if_neg (by simp [hst]), herr]

/-- What ST does once it runs. -/
def Block.storeRun (n : Nat) (f : TFmt) (b : Block) : Block :=
  let u := b.saf n
  let base := (u.scalar f.c.toNat).toNat
  match shapeOf (u.scalar f.b.toNat) with
  | none => b.progFail n u.pc 5 Status.format
  | some sh =>
      let areas := rowAreas base sh
      if !areasOk areas then b.progFail n u.pc 5 Status.format
      else
        ((u.storeRuns f base sh).foldl (fun b t => b.put n 4 t.1 t.2 (.saffron n u.pc)) (b.addBeats n (beatsOf areas))).advance
          n 0 (u.pc + 1)

theorem exec_sSt (s : State) (n : Nat) (f : TFmt) : exec (.sSt n f) s = .next { s with
    blk := s.blk.instr n (0x31 * 2 ^ 24 + f.enc) (f.d == 0 && scalarOk f.b && scalarOk f.c && f.mod == 0)
      (Block.storeRun n f) } := rfl

theorem storeRun_illegal {b : Block} {n : Nat} {f : TFmt} (hbad : ∀ sh, shapeOf ((b.saf n).scalar f.b.toNat) = some sh →
    areasOk (rowAreas ((b.saf n).scalar f.c.toNat).toNat sh) = false) :
    Block.storeRun n f b = b.progFail n (b.saf n).pc 5 Status.format := by
  unfold Block.storeRun
  dsimp only
  split
  · rfl
  · next sh hsh => exact if_pos (by rw [hbad sh hsh]; rfl)

theorem storeRun_ok {b : Block} {n : Nat} {f : TFmt} {sh : Nat × Nat × Nat}
    (hsh : shapeOf ((b.saf n).scalar f.b.toNat) = some sh)
    (hareas : areasOk (rowAreas ((b.saf n).scalar f.c.toNat).toNat sh) = true) :
    let base := ((b.saf n).scalar f.c.toNat).toNat
    Block.storeRun n f b = ((((b.saf n).storeRuns f base sh).foldl (fun c t => c.put n 4 t.1 t.2 (.saffron n (b.saf n).pc))
      b).addBeats n (beatsOf (rowAreas base sh))).advance n 0 ((b.saf n).pc + 1) := by
  intro base
  unfold Block.storeRun
  dsimp only
  rw [hsh]
  dsimp only
  rw [if_neg (by simp [hareas]), Block.addBeats, foldl_put_modSaf]
  rfl

/-- What SCAT does once it runs. -/
def Block.scatterRun (n : Nat) (f : TFmt) (b : Block) : Block :=
  let u := b.saf n
  let base := (u.scalar f.d.toNat).toNat
  let bs := wordsBytes (scatWords u f)
  if base % (if f.mod.getLsbD 0 then 16 else 8) ≠ 0 ∨ 2 ^ 56 < base + bs.length then b.progFail n u.pc 5 Status.format
  else
    let b := if bs.isEmpty then b
      else (b.put n 4 base bs (.saffron n u.pc)).addBeats n (beatsOf [(base, bs.length)])
    (b.modSaf n fun u => u.setScalar f.d.toNat (BitVec.ofNat 64 (base + bs.length))).advance n 0 (u.pc + 1)

theorem exec_sScat (s : State) (n : Nat) (f : TFmt) : exec (.sScat n f) s = .next { s with
    blk := s.blk.instr n (0x32 * 2 ^ 24 + f.enc)
      (scalarOk f.d && !f.mu && f.mod.toNat < 16 && (f.mod.getLsbD 0 || f.mod == 0)) (Block.scatterRun n f) } := rfl

theorem length_records (u : Saffron) (f : TFmt) : (wordsBytes (u.records f)).length = 8 * (u.records f).length :=
  length_wordsBytes _

theorem wordsBytes_isEmpty (ws : List Word) : (wordsBytes ws).isEmpty = decide (ws = []) := by
  cases ws with
  | nil => rfl
  | cons w ws => rfl

section
variable {b : Block} {n : Nat} {f : TFmt} (hu : (b.saf n).sized)
include hu

theorem scatterRun_illegal (hbad : ((b.saf n).scalar f.d.toNat).toNat % (if f.mod.getLsbD 0 = true then 16 else 8) ≠ 0
    ∨ 2 ^ 56 < ((b.saf n).scalar f.d.toNat).toNat + 8 * ((b.saf n).records f).length) :
    Block.scatterRun n f b = b.progFail n (b.saf n).pc 5 Status.format := by
  rw [← length_records] at hbad
  unfold Block.scatterRun
  dsimp only
  rw [scatWords_eq hu, if_pos hbad]

/-- SCAT once its base is allowed and its records end within the address space. -/
theorem scatterRun_ok (halign : ((b.saf n).scalar f.d.toNat).toNat % (if f.mod.getLsbD 0 = true then 16 else 8) = 0)
    (hend : ((b.saf n).scalar f.d.toNat).toNat + 8 * ((b.saf n).records f).length ≤ 2 ^ 56) :
    let base := ((b.saf n).scalar f.d.toNat).toNat
    let ws := (b.saf n).records f
    Block.scatterRun n f b = ((if ws = [] then b
      else (b.put n 4 base (wordsBytes ws) (.saffron n (b.saf n).pc)).addBeats n (beatsOf [(base, 8 * ws.length)])).modSaf n
        fun u => u.setScalar f.d.toNat (BitVec.ofNat 64 (base + 8 * ws.length))).advance n 0 ((b.saf n).pc + 1) := by
  intro base ws
  unfold Block.scatterRun
  dsimp only
  rw [scatWords_eq hu, length_records, if_neg (by omega), wordsBytes_isEmpty]
  simp only [decide_eq_true_eq]
  rfl

end

/-- What SCAT leaves, by what it leaves of the unit. -/
theorem scatter_result {b c : Block} {n d k : Nat} {v : Word} {m : Mp} {u : Saffron} (hmp : c.mp = m)
    (hself : c.saf n = ({ u with beats := k }.setScalar d v).stepped 0 (u.pc + 1)) (hother : ∀ k, k ≠ n → c.saf k = b.saf k)
    (hrest : c = { b with mp := c.mp, saffron := c.saffron }) :
    c.mp = m ∧ (c.saf n).scalar d = v ∧ (∀ k, k ≠ d → (c.saf n).scalar k = u.scalar k)
      ∧ c.saf n = { u.stepped 0 (u.pc + 1) with scalars := (c.saf n).scalars, beats := k }
      ∧ (∀ k, k ≠ n → c.saf k = b.saf k) ∧ c = { b with mp := c.mp, saffron := c.saffron } := by
  refine ⟨hmp, ?_, fun j hj => ?_, ?_, hother, hrest⟩
  · rw [hself]
    exact Saffron.scalar_setScalar_self _ _ _
  · rw [hself]
    exact Saffron.scalar_setScalar_ne _ _ hj
  · rw [hself]
    rfl

/-- What SCAT leaves where it writes the words `ws` at `base`. -/
theorem scatter_leaves {b : Block} {n pc : Nat} (d base : Nat) (ws : List Word) (w : WPurpose) {x : Expansion}
    {next : BitVec 32} (hpc : (b.saf n).pc = pc) (hx : (b.saf n).exp = some x) (hnext : x.prog[pc + 1]? = some next)
    (hop : knownOp (next.toNat / 2 ^ 24) = true) :
    let c := ((if ws = [] then b else (b.put n 4 base (wordsBytes ws) w).addBeats n (beatsOf [(base, 8 * ws.length)])).modSaf
      n fun u => u.setScalar d (BitVec.ofNat 64 (base + 8 * ws.length))).advance n 0 (pc + 1)
    c.mp = (if ws = [] then b.mp else (b.put n 4 base (wordsBytes ws) w).mp)
      ∧ (c.saf n).scalar d = BitVec.ofNat 64 (base + 8 * ws.length)
      ∧ (∀ k, k ≠ d → (c.saf n).scalar k = (b.saf n).scalar k)
      ∧ c.saf n = { (b.saf n).stepped 0 (pc + 1) with
          scalars := (c.saf n).scalars
          beats := if ws = [] then (b.saf n).beats else (b.saf n).beats + beatsOf [(base, 8 * ws.length)] }
      ∧ (∀ k, k ≠ n → c.saf k = b.saf k) ∧ c = { b with mp := c.mp, saffron := c.saffron } := by
  subst hpc
  intro c
  by_cases hws : ws = []
  · simp only [c, if_pos hws]
    obtain ⟨hmp, hself, hother, hrest⟩ := (((Block.UnitTo.refl b n).modSaf fun u =>
      u.setScalar d (BitVec.ofNat 64 (base + 8 * ws.length))).advance 0 _ (x := x) hx hnext hop).afterMp rfl
    exact scatter_result hmp hself hother hrest
  · simp only [c, if_neg hws]
    obtain ⟨hmp, hself, hother, hrest⟩ := ((((Block.UnitTo.refl (b.put n 4 base (wordsBytes ws) w) n).modSaf fun u =>
      { u with beats := u.beats + beatsOf [(base, 8 * ws.length)] }).modSaf fun u =>
      u.setScalar d (BitVec.ofNat 64 (base + 8 * ws.length))).advance 0 _ (x := x) hx hnext hop).afterMp (b := b) rfl
    exact scatter_result hmp hself hother hrest

/-- Settles O43, operation by operation: what each of them does once it runs, by the cases of R326, R329 and R330. -/
theorem memoryOperations : Obligations.MemoryOperations := by
  unfold Obligations.MemoryOperations
  refine ⟨?ld, ?sld, ?st, ?scat⟩
  case ld =>
    rintro s n f m ⟨hcur, hu⟩
    intro u base legal
    have hexec := exec_sLd s n f m
    have hlegal : (scalarOk f.a && scalarOk f.b && f.c == 0 && f.mod == 0) = true ↔ legal := by
      simp [legal, scalarOk, and_assoc]
    refine ⟨fun hl hbudget sh hsh hbase hareas hpend => ⟨fun hok hnext => ?_, fun hbad => ?_⟩,
      fun hl hbudget hbad => failed_running hexec hcur 5 _ (hlegal.2 hl) hbudget (loadRun_illegal hbad),
      fun hl => failed_illegal hexec hcur (Bool.eq_false_iff.2 fun h => hl (hlegal.1 h))⟩
    · have hrun := (exec_runs hexec hcur (hlegal.2 hl) hbudget).trans (by
        rw [loadRun_reads hsh hbase hareas hpend, if_neg (not_not.2 hok), Block.areaErrors, foldl_viewErrors_of_ok hok])
      obtain ⟨-, x, w, hx, hw, hop⟩ := hnext
      refine ⟨_, ran_of hrun ((((Block.UnitTo.refl s.blk n).modSaf fun u => { u with
        beats := u.beats + beatsOf (rowAreas base sh) }).modSaf fun u => u.loaded f m base sh).advance 0 _
          (by rw [loaded_eq]; exact hx) hw hop), ?_⟩
      refine ⟨fun k hk => elt_loaded _ f m base sh hk, fun t ht => ?_, fun hmu k hk => bitAt_loaded _ f m base sh hmu hk,
        fun t ht => mask_loaded _ f m base sh ht, ?_⟩
      · exact (tile_loaded _ f m base sh t).trans (Saffron.tile_setTile_ne _ _ ht)
      · conv_lhs => rw [loaded_eq]
        rfl
    · obtain ⟨x, hx, hfail⟩ := exp_of_current hcur
      have hrun := (exec_runs hexec hcur (hlegal.2 hl) hbudget).trans (by
        rw [loadRun_reads hsh hbase hareas hpend, if_pos hbad])
      exact ⟨_, hrun, readFails (recordsErrors_areaErrors s.blk n m _) _ _ _ hx hfail⟩
  case sld =>
    rintro s n f m ⟨hcur, hu⟩
    intro u a legal
    have hexec := exec_sSld s n f m
    have hlegal : (scalarOk f.d && scalarOk f.a) = true ↔ legal := by simp [legal, scalarOk]
    refine ⟨fun hl hnext halign hend hpend hst => ?_, fun hl hbudget hbad => ?_,
      fun hl => failed_illegal hexec hcur (Bool.eq_false_iff.2 fun h => hl (hlegal.1 h))⟩
    · obtain ⟨hbudget, x, w, hx, hw, hop⟩ := hnext
      have hrun := (exec_runs hexec hcur (hlegal.2 hl) hbudget).trans (by
        rw [scalarLoadRun_ok rfl halign hend hpend hst])
      exact ⟨_, ran_of hrun ((((Block.UnitTo.refl s.blk n).modSaf fun u => { u with beats := u.beats + 1 }).modSaf
        fun u => u.setScalar f.d.toNat (m.word a)).advance 0 _ hx hw hop),
        Saffron.scalar_setScalar_self _ _ _, fun k hk => Saffron.scalar_setScalar_ne _ _ hk, rfl⟩
    · exact failed_running hexec hcur 5 _ (hlegal.2 hl) hbudget (if_pos hbad)
  case st =>
    rintro s n f ⟨hcur, hu⟩
    intro u base legal
    have hexec := exec_sSt s n f
    have hlegal : (f.d == 0 && scalarOk f.b && scalarOk f.c && f.mod == 0) = true ↔ legal := by
      simp [legal, scalarOk, and_assoc]
    refine ⟨fun hl hnext sh hsh hareas => ?_,
      fun hl hbudget hbad => failed_running hexec hcur 5 _ (hlegal.2 hl) hbudget (storeRun_illegal hbad),
      fun hl => failed_illegal hexec hcur (Bool.eq_false_iff.2 fun h => hl (hlegal.1 h))⟩
    obtain ⟨hbudget, x, w, hx, hw, hop⟩ := hnext
    have hrun := (exec_runs hexec hcur (hlegal.2 hl) hbudget).trans (by rw [storeRun_ok hsh hareas])
    obtain ⟨h1, h2⟩ := shapeOf_le hsh
    obtain ⟨m, hm⟩ := foldl_put_eq n 4 (.saffron n u.pc) Prod.fst Prod.snd (u.storeRuns f base sh) s.blk
    generalize hF : (u.storeRuns f base sh).foldl (fun c t => c.put n 4 t.1 t.2 (.saffron n u.pc)) s.blk = F at hm
    have hsaf : F.saf n = u := by rw [hm]; rfl
    have hFmp : F.mp = m := by rw [hm]
    obtain ⟨hmp, hself, hother, hrest⟩ := (((hsaf ▸ Block.UnitTo.refl F n : F.UnitTo n u F).modSaf fun u => { u with
      beats := u.beats + beatsOf (rowAreas base sh) }).advance 0 (u.pc + 1) (x := x) hx hw hop).afterMp hm
    refine ⟨_, u.storeRuns f base sh, hrun.trans (by rw [← hF]; rfl), ?_, fun t j y ht hy => ?_,
      fun r c i hr hc hi htakes => ?_, hself, hother, hrest⟩
    · rw [hF, hFmp]
      exact hmp
    · exact (inRuns_store hu f base h1 h2 _ _).1 ⟨t, j, ht, rfl, hy⟩
    · exact (inRuns_store hu f base h1 h2 _ _).2 ⟨r, c, i, hr, hc, hi, htakes, rfl, rfl⟩
  case scat =>
    rintro s n f ⟨hcur, hu⟩
    intro u base long legal ws
    have hexec := exec_sScat s n f
    have hlegal : (scalarOk f.d && !f.mu && f.mod.toNat < 16 && (f.mod.getLsbD 0 || f.mod == 0)) = true ↔ legal := by
      simp [legal, long, scalarOk, and_assoc]
    refine ⟨fun hl hnext halign hend => ?_,
      fun hl hbudget hbad => failed_running hexec hcur 5 _ (hlegal.2 hl) hbudget (scatterRun_illegal hu hbad),
      fun hl => failed_illegal hexec hcur (Bool.eq_false_iff.2 fun h => hl (hlegal.1 h))⟩
    obtain ⟨hbudget, x, w, hx, hw, hop⟩ := hnext
    have hrun := (exec_runs hexec hcur (hlegal.2 hl) hbudget).trans (by rw [scatterRun_ok hu halign hend])
    exact ⟨_, hrun, scatter_leaves _ _ _ _ rfl hx hw hop⟩

end Sys2Proof.Machine
end

section
/-! SUPPORT. What a step does by the front of its queue (R172, R501), and the Event Controller's arbitration (R440,
R442). -/

namespace Sys2Proof.Machine

/-! ### Steps and commands -/

/-- What a fold of writes, one for each of the listed indices, leaves at an index. -/
theorem tget_foldl_tset {α : Type} [DecidableEq α] (d : α) (g : Nat → α) (l : List Nat) (t : Tab α) (k : Nat) :
    tget d (l.foldl (fun t i => tset d t i (g i)) t) k = if k ∈ l then g k else tget d t k := by
  induction l generalizing t with
  | nil => rfl
  | cons i l ih =>
    rw [List.foldl_cons, ih, tget_tset]
    by_cases hl : k ∈ l
    · simp [hl]
    · by_cases hi : k = i
      · simp [hi]
      · simp [hl, hi, Ne.symm hi]

/-- Settles O1: a step is the front command's, and a tick notes the busy units one by one. -/
theorem stepRunsTheFrontCommand : Obligations.StepRunsTheFrontCommand := by
  refine ⟨fun _ _ _ => rfl, fun s hs => ⟨_, ?_, fun k => tget_foldl_tset none
    (fun k => some ((tget none s.blk.front.busy k).getD s.blk.now)) s.blk.busyUnits [] k⟩⟩
  unfold step
  split
  · rfl
  · next c rest hp => cases hs.symm.trans hp

/-- R501: the loss of a domain other than 0 answers a next state. -/
theorem domainLoss_next {d : Nat} (hd : d ≠ 0) (m : MemView) (s : State) : ∃ t, execDomainLoss d m s = .next t := by
  rw [execDomainLoss, if_neg hd]
  split
  · exact ⟨_, rfl⟩
  · exact ⟨_, rfl⟩

/-- Settles O2, command by command: each answers a next state as it is defined, but the loss of a domain, which does so
where the domain is not 0. -/
theorem onlyTheLossOfCoreStops : Obligations.OnlyTheLossOfCoreStops := by
  intro c s
  refine ⟨fun hc => ?_, fun m => rfl⟩
  cases c with
  | domainLoss d m => exact domainLoss_next (fun hd => hc m (hd ▸ rfl)) m s
  | _ => exact ⟨_, rfl⟩

/-! ### Entries of a table in canonical form -/

/-- An entry that is not the reset entry is listed. -/
theorem mem_of_tget_ne {α : Type} {d : α} {t : Tab α} {i : Nat} (h : tget d t i ≠ d) : (i, tget d t i) ∈ t := by
  induction t with
  | nil => exact absurd rfl h
  | cons p t ih =>
    obtain ⟨j, a⟩ := p
    rw [tget] at h ⊢
    split at h
    · next hj =>
      rw [if_pos hj, hj]
      exact .head _
    · next hj =>
      rw [if_neg hj]
      exact .tail _ (ih h)

section
variable {α : Type} [DecidableEq α] {d : α}

theorem wf_cons {i : Nat} {a : α} {t : Tab α} (h : Tab.wf d ((i, a) :: t) = true) :
    a ≠ d ∧ (∀ p, p ∈ t → i < p.1) ∧ Tab.wf d t = true := by
  simp only [Tab.wf, Bool.and_eq_true, decide_eq_true_eq, List.all_eq_true] at h
  exact ⟨h.1.1, h.1.2, h.2⟩

/-- In canonical form a listed entry is the one that its index holds. -/
theorem tget_of_mem {t : Tab α} (h : Tab.wf d t = true) {p : Nat × α} (hp : p ∈ t) : tget d t p.1 = p.2 := by
  induction t with
  | nil => cases hp
  | cons q t ih =>
    obtain ⟨j, a⟩ := q
    obtain ⟨-, hlt, ht⟩ := wf_cons h
    rw [tget]
    obtain rfl | hp := List.mem_cons.1 hp
    · exact if_pos rfl
    · rw [if_neg (Nat.ne_of_lt (hlt p hp))]
      exact ih ht hp

/-- In canonical form the indices rise. -/
theorem pairwise_of_wf {t : Tab α} (h : Tab.wf d t = true) : (t.map (·.1)).Pairwise (· < ·) := by
  induction t with
  | nil => exact .nil
  | cons q t ih =>
    obtain ⟨-, hlt, ht⟩ := wf_cons h
    refine .cons (fun i hi => ?_) (ih ht)
    obtain ⟨p, hp, rfl⟩ := List.mem_map.1 hi
    exact hlt p hp

end

/-! ### The effective threshold (R440) -/

/-- The greatest of a number and of those of a list. -/
theorem foldl_max_spec {α : Type} (g : α → Nat) (l : List α) (m : Nat) :
    let r := l.foldl (fun m x => max m (g x)) m
    m ≤ r ∧ (∀ x, x ∈ l → g x ≤ r) ∧ (r = m ∨ ∃ x, x ∈ l ∧ r = g x) := by
  induction l generalizing m with
  | nil => exact ⟨Nat.le_refl m, fun _ hx => absurd hx (by simp), .inl rfl⟩
  | cons y l ih =>
    obtain ⟨hle, hall, hwit⟩ := ih (max m (g y))
    refine ⟨by simp only [List.foldl_cons]; omega, fun x hx => ?_, ?_⟩
    · obtain rfl | hx := List.mem_cons.1 hx
      · simp only [List.foldl_cons]
        omega
      · exact hall x hx
    · rcases hwit with hwit | ⟨x, hx, hwit⟩
      · rcases Nat.le_total m (g y) with hm | hm
        · exact .inr ⟨y, .head _, hwit.trans (Nat.max_eq_right hm)⟩
        · exact .inl (hwit.trans (Nat.max_eq_left hm))
      · exact .inr ⟨x, .tail _ hx, hwit⟩

section
variable {b : Block} (hwf : Tab.wf {} b.evc.srcs = true)
include hwf

theorem of_mem_owned {s t : Nat} (h : s ∈ b.evc.owned t) : b.evc.isActive s = true ∧ (b.evSrc s).owner = t := by
  obtain ⟨p, hp, rfl⟩ := List.mem_map.1 h
  obtain ⟨hp, hown⟩ := List.mem_filter.1 hp
  simp only [Bool.and_eq_true, beq_iff_eq] at hown
  exact ⟨hown.1, (congrArg EvSrc.owner (tget_of_mem hwf hp)).trans hown.2⟩

omit hwf in
/-- A source that is active at a target and not in its reset state is among those owned. -/
theorem mem_owned {s t : Nat} (hactive : b.evc.isActive s = true) (howner : (b.evSrc s).owner = t)
    (hne : b.evSrc s ≠ {}) : s ∈ b.evc.owned t :=
  List.mem_map.2 ⟨_, List.mem_filter.2 ⟨mem_of_tget_ne hne, by
    simp only [hactive, Bool.true_and, beq_iff_eq]
    exact howner⟩, rfl⟩

theorem eff_spec (t : Nat) : (b.evTarget t).thresh.toNat ≤ b.evc.eff t
    ∧ (∀ s, b.evc.isActive s = true → (b.evSrc s).owner = t → (b.evSrc s).aprio ≤ b.evc.eff t)
    ∧ (b.evc.eff t = (b.evTarget t).thresh.toNat
      ∨ ∃ s, b.evc.isActive s = true ∧ (b.evSrc s).owner = t ∧ b.evc.eff t = (b.evSrc s).aprio) := by
  obtain ⟨hle, hall, hwit⟩ := foldl_max_spec (fun s => (b.evSrc s).aprio) (b.evc.owned t) (b.evTarget t).thresh.toNat
  refine ⟨hle, fun s hactive howner => ?_, hwit.imp_right fun ⟨s, hs, h⟩ => ?_⟩
  · by_cases hne : b.evSrc s = {}
    · rw [hne]
      exact Nat.zero_le _
    · exact hall s (mem_owned hactive howner hne)
  · obtain ⟨hactive, howner⟩ := of_mem_owned hwf hs
    exact ⟨s, hactive, howner, h⟩

end

/-! ### Eligibility and the winner (R440) -/

theorem inHoldoff_eq_false {b : Block} {g : Nat} :
    b.inHoldoff g = false ↔ ∀ e, (b.evGroup g).ends = some e → e ≤ b.now := by
  unfold Block.inHoldoff
  split
  · next t ht => simp [ht]
  · next ht => simp [ht]

theorem eligible_iff (b : Block) (s t : Nat) : b.eligible s t = true ↔
    b.evc.pends s = true ∧ b.evc.masked s = false ∧ b.evc.isActive s = false ∧ (b.evSrc s).target.toNat = t
      ∧ b.evc.eff t < (b.evSrc s).prio.toNat
      ∧ ∀ e, (b.evGroup (b.evSrc s).group.toNat).ends = some e → e ≤ b.now := by
  rw [← inHoldoff_eq_false]
  simp [Block.eligible, and_assoc]

/-- A source in its reset state has priority 0, so it is not eligible. -/
theorem ne_reset_of_eligible {b : Block} {s t : Nat} (h : b.eligible s t = true) : b.evSrc s ≠ {} := by
  intro hne
  obtain ⟨-, -, -, -, hprio, -⟩ := (eligible_iff b s t).1 h
  rw [hne] at hprio
  exact Nat.not_lt_zero _ hprio

/-- Source `w` goes before source `s`: a greater priority, or the same and a number that is not greater. -/
def Block.precedes (b : Block) (w s : Nat) : Prop :=
  (b.evSrc s).prio.toNat < (b.evSrc w).prio.toNat ∨ ((b.evSrc s).prio.toNat = (b.evSrc w).prio.toNat ∧ w ≤ s)

/-- The best of rising source numbers, none of them 0, behind an earlier one or none. -/
theorem foldl_better_spec {b : Block} (l : List Nat) (w : Nat) (hnz : 0 ∉ l) (hlt : ∀ s, s ∈ l → w < s)
    (hrise : l.Pairwise (· < ·)) : let r := l.foldl b.better w
    (r = w ∨ r ∈ l) ∧ (w ≠ 0 → r ≠ 0 ∧ b.precedes r w) ∧ (∀ s, s ∈ l → r ≠ 0 ∧ b.precedes r s) := by
  induction l generalizing w with
  | nil => exact ⟨.inl rfl, fun hw => ⟨hw, .inr ⟨rfl, Nat.le_refl w⟩⟩, fun _ hs => absurd hs (by simp)⟩
  | cons x l ih =>
    have hx : x ≠ 0 := fun h => hnz (h ▸ .head _)
    have hl : 0 ∉ l := fun h => hnz (.tail _ h)
    have hwx : w < x := hlt x (.head _)
    obtain ⟨hfirst, hrise'⟩ := List.pairwise_cons.1 hrise
    have hbetter : b.better w x = x ∧ (w = 0 ∨ (b.evSrc w).prio.toNat < (b.evSrc x).prio.toNat)
        ∨ b.better w x = w ∧ w ≠ 0 ∧ ¬ (b.evSrc w).prio.toNat < (b.evSrc x).prio.toNat := by
      unfold Block.better
      split
      · next hw => exact .inl ⟨rfl, .inl hw⟩
      · next hw =>
        split
        · next hp => exact .inl ⟨rfl, .inr hp⟩
        · next hp => exact .inr ⟨rfl, hw, hp⟩
    rcases hbetter with ⟨heq, hp⟩ | ⟨heq, hw, hp⟩
    · obtain ⟨hmem, hown, hall⟩ := ih x hl (fun s hs => hfirst s hs) hrise'
      obtain ⟨hr, hrx⟩ := hown hx
      rw [List.foldl_cons, heq]
      refine ⟨hmem.elim (fun h => .inr (List.mem_cons.2 (.inl h))) fun h => .inr (.tail _ h), fun hw => ⟨hr, ?_⟩, fun s hs => ?_⟩
      · have := hp.resolve_left hw
        simp only [Block.precedes] at hrx ⊢
        omega
      · obtain rfl | hs := List.mem_cons.1 hs
        · exact ⟨hr, hrx⟩
        · exact hall s hs
    · obtain ⟨hmem, hown, hall⟩ := ih w hl (fun s hs => hlt s (.tail _ hs)) hrise'
      obtain ⟨hr, hrw⟩ := hown hw
      rw [List.foldl_cons, heq]
      refine ⟨hmem.imp_right (.tail _), fun _ => ⟨hr, hrw⟩, fun s hs => ?_⟩
      obtain rfl | hs := List.mem_cons.1 hs
      · refine ⟨hr, ?_⟩
        simp only [Block.precedes] at hrw ⊢
        omega
      · exact hall s hs

/-- Settles O13: eff and eligibility as R440 states them, and the winner as the best of the eligible sources that the
table lists; a source that it does not list has priority 0. -/
theorem winnerIsTheGreatestEligible : Obligations.WinnerIsTheGreatestEligible := by
  intro b t hwf
  have hmem (s : Nat) : s ∈ (b.evc.srcs.map (·.1)).filter (fun s => s != 0 && b.eligible s t) ↔
      s ≠ 0 ∧ b.eligible s t = true := by
    rw [List.mem_filter, Bool.and_eq_true, bne_iff_ne]
    exact and_iff_right_of_imp fun ⟨_, hel⟩ => List.mem_map.2 ⟨_, mem_of_tget_ne (ne_reset_of_eligible hel), rfl⟩
  obtain ⟨hfrom, -, hall⟩ := foldl_better_spec (b := b) _ 0 (fun h => ((hmem 0).1 h).1 rfl)
    (fun s hs => Nat.pos_of_ne_zero ((hmem s).1 hs).1) ((pairwise_of_wf hwf).filter _)
  refine ⟨eff_spec hwf t, fun s => eligible_iff b s t, fun hnone s hs => ?_, fun hsome => ⟨?_, fun s hs hel => ?_⟩⟩
  · exact Bool.eq_false_iff.2 fun hel => (hall s ((hmem s).2 ⟨hs, hel⟩)).1 hnone
  · exact ((hmem _).1 (hfrom.resolve_left hsome)).2
  · exact (hall s ((hmem s).2 ⟨hs, hel⟩)).2

/-! ### Claim and complete (R442) -/

theorem getLsbD_setBit (v : BitVec 2048) {s : Nat} (hs : s < 2048) (k : Nat) :
    (setBit v s).getLsbD k = if k = s then true else v.getLsbD k := by
  rw [setBit, BitVec.getLsbD_or]
  by_cases hk : k < 2048
  · rw [getLsbD_oneBit s k hk]
    by_cases h : k = s
    · simp [h]
    · simp [h, Ne.symm h]
  · rw [BitVec.getLsbD_of_ge (BitVec.ofNat 2048 (2 ^ s)) k (by omega), Bool.or_false, if_neg (by omega)]

theorem getLsbD_setBit_if (v : BitVec 2048) {s : Nat} (hs : s < 2048) (c : Bool) (k : Nat) :
    (if c = true then setBit v s else v).getLsbD k = if k = s ∧ c = true then true else v.getLsbD k := by
  cases c with
  | false => simp
  | true => simpa using getLsbD_setBit v hs k

/-- Settles O14, by what claim and complete change of the sources' bits, their entries, their groups and the target. -/
theorem claimAndComplete : Obligations.ClaimAndComplete := by
  refine ⟨fun s a t hp hw => ?_, fun s a t w hp hw hne => ?_, fun s a t d hp hactive howner => ?_,
    fun s a t d hp hnot => ?_⟩
  · change Host.Outcome.next (s.access a (.tgtClaim t) false _) = _
    rw [access_perform hp]
    simp [Block.claim, hw]
  · refine ⟨(s.blk.claim t).2, ?_, ?_⟩
    · change Host.Outcome.next (s.access a (.tgtClaim t) false _) = _
      rw [access_perform hp]
      simp [Block.claim, hw, hne]
    · subst hw
      rw [Block.claim]
      dsimp only
      rw [if_neg hne]
      refine ⟨rfl, fun k hk => getLsbD_clearBit _ _ _ hk, fun hw k => getLsbD_setBit _ hw k, fun hw k => ?_,
        fun k => ?_, fun g => ?_, fun k => ?_⟩
      · exact getLsbD_setBit_if _ hw _ k
      · simp only [Block.evSrc_modEvTarget, Block.startHoldoff, Block.evSrc_modEvGroup, Block.evSrc_modEvSrc,
          eq_comm (a := k)]
        split
        · next hk => rw [hk]; rfl
        · rfl
      · simp only [Block.evGroup_modEvTarget, Block.startHoldoff, Block.evGroup_modEvGroup, eq_comm (a := g)]
        rfl
      · simp only [Block.evTarget_modEvTarget, eq_comm (a := k)]
        rfl
  · refine ⟨_, next_command hp _ (if_neg ?_), rfl, fun k hk => getLsbD_clearBit _ _ _ hk, fun k => ?_, fun k => ?_⟩
    · have : d.toNat % 2048 ≤ 2047 := by omega
      simp [hactive, howner, this]
    · simp only [Block.evSrc_modEvTarget, Block.evSrc_modEvSrc, eq_comm (a := k)]
      rfl
    · simp only [Block.evTarget_modEvTarget, eq_comm (a := k)]
      rfl
  · refine next_command hp _ (if_pos (.inr (hnot.imp_left fun h => ?_)))
    simp [h]

end Sys2Proof.Machine
end

section
/-! SUPPORT. The debug port's segments (R481, R482): their fields, and the reads that cross to the Clasp. -/

namespace Sys2Proof.Machine

/-! ### Fields of the segments -/

theorem getLsbD_claspBits (t : Tap) (i : Nat) : t.claspBits.getLsbD i =
    if i < 64 then t.data.getLsbD i else if i = 64 then t.done else if i = 65 then t.go else if i = 66 then t.write
    else t.addr.getLsbD (i - 67) := by
  rw [Tap.claspBits]
  simp only [BitVec.getLsbD_append, BitVec.getLsbD_ofBool]
  by_cases hdata : i < 64
  · simp [hdata]
  by_cases hdone : i = 64
  · simp [hdone]
  by_cases hgo : i = 65
  · simp [hgo]
  by_cases hwrite : i = 66
  · simp [hwrite]
  · have hplace : i - 64 - 1 - 1 - 1 = i - 67 := by omega
    simp [hdata, hdone, hgo, hwrite, hplace, show ¬ i - 64 < 1 by omega, show ¬ i - 64 - 1 < 1 by omega,
      show ¬ i - 64 - 1 - 1 < 1 by omega]

theorem getLsbD_beadBits (t : Tap) (n i : Nat) : (t.beadBits n).getLsbD i =
    if i < 64 then (tget 0 t.beadData n).getLsbD i else if i = 64 then (tget {} t.beadSegs n).go
    else if i < 67 then (tget {} t.beadSegs n).word.getLsbD (i - 65)
    else if i < 75 then (tget {} t.beadSegs n).entry.getLsbD (i - 67)
    else (tget {} t.beadSegs n).ring.getLsbD (i - 75) := by
  rw [Tap.beadBits]
  simp only [BitVec.getLsbD_append, BitVec.getLsbD_ofBool]
  by_cases hdata : i < 64
  · simp [hdata]
  by_cases hgo : i = 64
  · simp [hgo]
  have hskip : ¬ i - 64 < 1 := by omega
  have hplace : i - 64 - 1 = i - 65 := by omega
  simp only [if_neg hdata, if_neg hgo, if_neg hskip, hplace]
  by_cases hword : i < 67
  · simp [hword, show i - 65 < 2 by omega]
  have hword' : ¬ i - 65 < 2 := by omega
  have hplace' : i - 65 - 2 = i - 67 := by omega
  simp only [if_neg hword, if_neg hword', hplace']
  by_cases hentry : i < 75
  · simp [hentry, show i - 67 < 8 by omega]
  · have hplace'' : i - 67 - 8 = i - 75 := by omega
    simp [hentry, show ¬ i - 67 < 8 by omega, hplace'']

/-! ### Reads of the Clasp's segment -/

/-- A debug read that waits either stays so or completes; of the block only a free value is drawn. -/
theorem settle_waiting {s : State} {o : Nat} (h : s.tap.waiting = some o) :
    s.settle = { s with blk := s.blk.draw.2 }
      ∨ s.settle = { s with
          blk := s.blk.draw.2, tap := { s.tap with waiting := none, ready := some (s.debugValue o) } } := by
  unfold State.settle
  rw [h]
  dsimp only
  split
  · exact .inr rfl
  · exact .inl rfl

theorem settle_idle {s : State} (h : s.tap.waiting = none) : s.settle = s := by
  unfold State.settle
  rw [h]

/-- Settles O11: the two segments field by field, and the cases of an update and of a capture. -/
theorem segmentsReadTheirSources : Obligations.SegmentsReadTheirSources := by
  refine ⟨fun s o d => ?_, getLsbD_claspBits, getLsbD_beadBits, fun s o d => ⟨fun hi hl => ?_, fun hin htck => ?_,
    fun hl htck => ?_⟩, fun s n r e w hn => ⟨fun hdom => ?_, fun hdom => ?_⟩, fun s n r e w hn => ?_,
    fun s hw => ⟨fun v hv => ?_, fun hr => ?_⟩, fun s o hw hr => ?_, fun s n => ⟨fun v hv => ?_, fun hnone => ?_⟩⟩
  · change Host.Outcome.next (State.claspUpdate _ _ true _) = _
    unfold State.claspUpdate
    rw [if_pos rfl]
    split
    · rfl
    · rfl
  · change Host.Outcome.next (State.claspUpdate _ _ false _) = _
    unfold State.claspUpdate
    rw [if_neg (by simp), if_pos (by simp [hi, hl])]
    rfl
  · change Host.Outcome.next (State.claspUpdate _ _ false _) = _
    have htck' : (s.claspShift o false d).tckRead o.toNat = true := htck
    unfold State.claspUpdate
    rw [if_neg (by simp), if_neg (by rcases hin with h | h <;> simp [h]), if_pos htck']
    rfl
  · have htck' : ¬ (s.claspShift o false d).tckRead o.toNat = true := fun h => by
      cases htck.symm.trans h
    have hrun : exec (.claspSegmentUpdate o false d) s = .next (State.settle { s with tap := { s.tap with
        addr := o, write := false, go := true, data := d, waiting := some o.toNat, ready := none } }) := by
      change Host.Outcome.next (State.claspUpdate _ _ false _) = _
      unfold State.claspUpdate
      rw [if_neg (by simp), if_neg (by simp [hl]), if_neg htck']
      rfl
    rcases settle_waiting (s := { s with tap := { s.tap with
        addr := o, write := false, go := true, data := d, waiting := some o.toNat, ready := none } }) rfl with h | h
    · exact ⟨_, hrun.trans (congrArg _ h), .inl ⟨rfl, rfl⟩, rfl⟩
    · exact ⟨_, hrun.trans (congrArg _ h), .inr ⟨rfl, rfl⟩, rfl⟩
  · have hrun : exec (.beadSegmentUpdate n r e w) s = .next { s with tap := { s.tap with
        beadSegs := tset {} s.tap.beadSegs n { ring := r, entry := e, word := w, go := true }
        beadReady := tset none s.tap.beadReady n (some (s.blk.beadSource n r.toNat e.toNat w.toNat)) } } := by
      change Host.Outcome.next (State.beadUpdate _ _ _ _ _) = _
      rw [State.beadUpdate, State.beadShift, if_neg (Nat.not_le.2 hn), if_neg (Nat.not_le.2 hn), if_neg hdom]
    refine ⟨_, hrun, fun hr he hw => ?_, fun hr => ?_, fun hout => ?_⟩
    · rw [Block.beadSource, if_pos hr, if_pos (by simp [he, hw])]
    · rw [Block.beadSource, if_neg (by omega), if_pos hr]
      cases (s.blk.bead n).trace[e.toNat]? with
      | none => rfl
      | some ws => rfl
    · rw [Block.beadSource]
      rcases hout with hr | ⟨hr, hew⟩
      · rw [if_neg (by omega), if_neg (by omega)]
      · rw [if_pos hr, if_neg (by simp; omega)]
  · refine ⟨s.blk.draw.1, ?_⟩
    change Host.Outcome.next (State.beadUpdate _ _ _ _ _) = _
    rw [State.beadUpdate, State.beadShift, if_neg (Nat.not_le.2 hn), if_neg (Nat.not_le.2 hn), if_pos hdom]
  · change Host.Outcome.next (State.beadUpdate _ _ _ _ _) = _
    rw [State.beadShift, if_pos hn, State.beadUpdate, if_pos hn]
  · change Host.Outcome.next s.claspCapture = _
    rw [State.claspCapture, settle_idle hw, hv]
  · change Host.Outcome.next s.claspCapture = _
    rw [State.claspCapture, settle_idle hw, hr, hw]
  · have hrun : exec (.segmentCapture none) s = .next s.claspCapture := rfl
    rcases settle_waiting hw with h | h
    · refine ⟨_, hrun, ?_⟩
      rw [State.claspCapture, h]
      simp only [hr, hw]
      simp
    · refine ⟨_, hrun, ?_⟩
      rw [State.claspCapture, h]
      exact ⟨.inr ⟨rfl, rfl, rfl⟩, by simp [hr]⟩
  · change Host.Outcome.next (s.beadCapture n) = _
    rw [State.beadCapture, hv]
  · change Host.Outcome.next (s.beadCapture n) = _
    rw [State.beadCapture, hnone]

end Sys2Proof.Machine
end

section
/-! SUPPORT. The operations of the Saffron unit on scalars, its branches, CAND and END (R314, R331 to R335). -/

namespace Sys2Proof.Machine

/-! ### Scalars (R314) -/

theorem getLsbD_sixteenOnes (m : Nat) : (0xFFFF#64).getLsbD m = decide (m < 16) := by
  have hones : 0xFFFF#64 = (BitVec.allOnes 16).setWidth 64 := rfl
  rw [hones, BitVec.getLsbD_setWidth, BitVec.getLsbD_allOnes]
  by_cases hm : m < 16
  · simp [hm, show m < 64 by omega]
  · simp [hm]

/-- R314: part `h` of a scalar is set, and no other. -/
theorem extractLsb'_setPart {h j : Nat} (h0 : h ≠ 0) (hh : h < 4) (hj : j < 4) (imm : BitVec 16) (old : Word) :
    (setPart h imm old).extractLsb' (16 * j) 16 = if j = h then imm else old.extractLsb' (16 * j) 16 := by
  refine BitVec.eq_of_getLsbD_eq fun i hi => ?_
  rw [setPart, if_neg h0]
  simp only [BitVec.getLsbD_extractLsb', BitVec.getLsbD_or, BitVec.getLsbD_and, BitVec.getLsbD_not,
    BitVec.getLsbD_shiftLeft, getLsbD_sixteenOnes, BitVec.getLsbD_setWidth, hi, show 16 * j + i < 64 by omega,
    decide_true, Bool.true_and]
  by_cases heq : j = h
  · subst heq
    simp [show ¬ 16 * j + i < 16 * j by omega, hi, show i < 64 by omega]
  · by_cases hlt : j < h
    · simp [heq, show 16 * j + i < 16 * h by omega, hi]
    · have hhigh : 16 ≤ 16 * j + i - 16 * h := by omega
      simp [heq, show ¬ 16 * j + i < 16 * h by omega, show ¬ 16 * j + i - 16 * h < 16 by omega, hi,
        BitVec.getLsbD_of_ge imm _ hhigh]

/-- What an operation that sets scalar `d` leaves. -/
theorem scalar_result (u : Saffron) (d : Nat) (x : Word) (alu pc : Nat) :
    let v := (u.setScalar d x).stepped alu pc
    v = { u.stepped alu pc with scalars := v.scalars } ∧ v.scalar d = x ∧ ∀ k, k ≠ d → v.scalar k = u.scalar k :=
  ⟨rfl, Saffron.scalar_setScalar_self u d x, fun _ hk => Saffron.scalar_setScalar_ne u x hk⟩

/-! ### Branches (R334) -/

/-- What LOOP does once it runs. -/
def Block.loopRun (n : Nat) (f : IFmt) (b : Block) : Block :=
  let u := b.saf n
  if u.pc < f.imm.toNat then b.progFail n u.pc 4 Status.format
  else
    let v := u.scalar f.d.toNat - 1
    (b.modSaf n fun u => u.setScalar f.d.toNat v).advance n 0 (if v = 0 then u.pc + 1 else f.imm.toNat)

theorem exec_sLoop (s : State) (n : Nat) (f : IFmt) : exec (.sLoop n f) s = .next { s with
    blk := s.blk.instr n (0x48 * 2 ^ 24 + f.enc) (scalarOk f.d && f.a == 0) (Block.loopRun n f) } := rfl

/-- What BZ does once it runs. -/
def Block.branchRun (n : Nat) (f : IFmt) (b : Block) : Block :=
  let u := b.saf n
  let ninstr := match u.exp with | some x => x.prog.length | none => 0
  if f.imm.toNat ≤ u.pc ∨ ninstr ≤ f.imm.toNat then b.progFail n u.pc 4 Status.format
  else b.advance n 0 (if u.scalar f.d.toNat = 0 then f.imm.toNat else u.pc + 1)

theorem exec_sBz (s : State) (n : Nat) (f : IFmt) : exec (.sBz n f) s = .next { s with
    blk := s.blk.instr n (0x49 * 2 ^ 24 + f.enc) (scalarOk f.d && f.a == 0) (Block.branchRun n f) } := rfl

theorem branchRun_of_exp {b : Block} {n : Nat} {f : IFmt} {x : Expansion} (hx : (b.saf n).exp = some x) :
    Block.branchRun n f b = if f.imm.toNat ≤ (b.saf n).pc ∨ x.prog.length ≤ f.imm.toNat then
        b.progFail n (b.saf n).pc 4 Status.format
      else b.advance n 0 (if (b.saf n).scalar f.d.toNat = 0 then f.imm.toNat else (b.saf n).pc + 1) := by
  unfold Block.branchRun
  dsimp only
  rw [hx]

theorem sub_one_eq_zero (w : Word) : w - 1 = 0 ↔ w = 1 := by
  rw [BitVec.sub_eq_iff_eq_add]
  exact Iff.of_eq (congrArg (w = ·) (BitVec.zero_add 1))

/-! ### Candidates (R332) -/

/-- R332: candidate `y` ranks before `z`. -/
def candAbove (y z : Elt × Elt) : Prop := z.1.toNat < y.1.toNat ∨ (z.1 = y.1 ∧ y.2.toNat < z.2.toNat)

theorem candAbove_trans {x y z : Elt × Elt} (hxy : candAbove x y) (hyz : candAbove y z) : candAbove x z := by
  rcases hxy with h | ⟨h, h'⟩
  · rcases hyz with g | ⟨g, g'⟩
    · exact .inl (by omega)
    · exact .inl (g ▸ h)
  · rcases hyz with g | ⟨g, g'⟩
    · exact .inl (h ▸ g)
    · exact .inr ⟨g.trans h, by omega⟩

theorem candsOk_cons (e : Nat) (x : Elt × Elt) (xs : List (Elt × Elt)) : candsOk e (x :: xs) = true ↔
    x.2.toNat < e ∧ x.2 ∉ xs.map (·.2) ∧ candsOk e xs = true ∧ ∀ y, y ∈ xs.head? → candAbove x y := by
  have hnot : xs.all (fun y => y.2 != x.2) = true ↔ x.2 ∉ xs.map (·.2) := by
    simp only [List.all_eq_true, bne_iff_ne, List.mem_map, not_exists, not_and]
  cases xs with
  | nil => simp [candsOk]
  | cons y ys =>
    have habove : (decide (y.1.toNat < x.1.toNat) || (x.1 == y.1 && decide (x.2.toNat < y.2.toNat))) = true ↔
        candAbove x y := by
      simp [candAbove, eq_comm (a := x.1)]
    rw [candsOk, Bool.and_eq_true, Bool.and_eq_true, Bool.and_eq_true, hnot, habove, decide_eq_true_eq, and_assoc,
      and_assoc]
    simp

/-- R332: a list of candidates that is in order names distinct experts, in descending rank. -/
theorem candsOk_iff (e : Nat) (l : List (Elt × Elt)) : candsOk e l = true ↔
    ((∀ y, y ∈ l → y.2.toNat < e) ∧ (l.map (·.2)).Nodup ∧ l.Pairwise candAbove) := by
  induction l with
  | nil => simp [candsOk]
  | cons x xs ih =>
    rw [candsOk_cons, ih, List.forall_mem_cons, List.map_cons, List.nodup_cons, List.pairwise_cons]
    have hhead (hpair : xs.Pairwise candAbove) : (∀ y, y ∈ xs.head? → candAbove x y) ↔ ∀ y, y ∈ xs → candAbove x y := by
      cases xs with
      | nil => simp
      | cons y ys =>
        constructor
        · intro h z hz
          obtain rfl | hz := List.mem_cons.1 hz
          · exact h z rfl
          · exact candAbove_trans (h y rfl) ((List.pairwise_cons.1 hpair).1 z hz)
        · rintro h z hz
          cases hz
          exact h y (.head _)
    constructor
    · rintro ⟨hlt, hnot, ⟨hall, hnodup, hpair⟩, habove⟩
      exact ⟨⟨hlt, hall⟩, ⟨hnot, hnodup⟩, (hhead hpair).1 habove, hpair⟩
    · rintro ⟨⟨hlt, hall⟩, ⟨hnot, hnodup⟩, habove, hpair⟩
      exact ⟨hlt, hnot, ⟨hall, hnodup, hpair⟩, (hhead hpair).2 habove⟩

/-! ### CAND and END (R331, R333, R335) -/

/-- R331: the candidates that CAND takes for `k` tokens. -/
def Saffron.newCands (u : Saffron) (f : TFmt) (k m : Nat) : List (List (Elt × Elt)) :=
  (List.range k).map fun r => (List.range (min 32 m)).map fun c =>
    (u.elt f.a.toNat (32 * r + c), u.elt f.b.toNat (32 * r + c))

theorem newCands_rows {u : Saffron} (hu : u.sized) (f : TFmt) {k : Nat} (hk : k ≤ 32) (m : Nat) :
    (((List.zip (rowsOf (u.tile f.a.toNat)) (rowsOf (u.tile f.b.toNat))).take k).map fun t => (List.zip t.1 t.2).take m)
      = u.newCands f k m := by
  rw [rows_tile hu, rows_tile hu, List.zip_map', ← List.map_take, List.take_range, Nat.min_eq_left hk, List.map_map]
  refine List.map_congr_left fun r _ => ?_
  rw [Function.comp_apply, List.zip_map', ← List.map_take, List.take_range, Nat.min_comm]

/-- What CAND does once it runs. -/
def Block.candRun (n : Nat) (f : TFmt) (b : Block) : Block :=
  let u := b.saf n
  match u.exp with
  | none => b
  | some x =>
      if (x.arg.mode ≠ 1 ∧ x.arg.mode ≠ 2) ∨ x.arg.ntok ≤ u.curtok then b.progFail n u.pc 7 Status.format
      else
        let k := min 32 (x.arg.ntok - u.curtok)
        let rows := List.zip (rowsOf (u.tile f.a.toNat)) (rowsOf (u.tile f.b.toNat))
        let new := (rows.take k).map fun t => (List.zip t.1 t.2).take x.arg.k
        if !new.all (candsOk x.arg.nexp) then b.progFail n u.pc 6 Status.format
        else if routeQueue < x.cands.length + k then b
        else
          let b := b.modExp n fun x => { x with cands := x.cands ++ new }
          (b.modSaf n fun u => { u with curtok := u.curtok + k }).advance n 0 (u.pc + 1)

theorem exec_sCand (s : State) (n : Nat) (f : TFmt) : exec (.sCand n f) s = .next { s with
    blk := s.blk.instr n (0x33 * 2 ^ 24 + f.enc) (f.d == 0 && f.c == 0 && f.mod == 0 && f.noMask)
      (Block.candRun n f) } := rfl

/-- R331: no tokens, or none left. -/
theorem candRun_no_tokens {b : Block} {n : Nat} {f : TFmt} {x : Expansion} (hx : (b.saf n).exp = some x)
    (h : ¬ ((x.arg.mode = 1 ∨ x.arg.mode = 2) ∧ (b.saf n).curtok < x.arg.ntok)) :
    Block.candRun n f b = b.progFail n (b.saf n).pc 7 Status.format := by
  unfold Block.candRun
  dsimp only
  rw [hx]
  exact if_pos (by omega)

/-- CAND where tokens are left. -/
theorem candRun_tokens {b : Block} {n : Nat} {f : TFmt} {x : Expansion} (hu : (b.saf n).sized)
    (hx : (b.saf n).exp = some x) (hmode : x.arg.mode = 1 ∨ x.arg.mode = 2) (hleft : (b.saf n).curtok < x.arg.ntok) :
    let k := min 32 (x.arg.ntok - (b.saf n).curtok)
    let new := (b.saf n).newCands f k x.arg.k
    Block.candRun n f b = if !new.all (candsOk x.arg.nexp) then b.progFail n (b.saf n).pc 6 Status.format
      else if routeQueue < x.cands.length + k then b
      else ((b.modExp n fun x => { x with cands := x.cands ++ new }).modSaf n fun u =>
        { u with curtok := u.curtok + k }).advance n 0 ((b.saf n).pc + 1) := by
  intro k new
  have hnew := newCands_rows hu f (Nat.min_le_left 32 (x.arg.ntok - (b.saf n).curtok)) x.arg.k
  unfold Block.candRun
  dsimp only
  rw [hx]
  dsimp only
  rw [if_neg (by omega), hnew]

/-- What END does once it runs. -/
def Block.endRun (n : Nat) (f : TFmt) (b : Block) : Block :=
  let u := b.saf n
  match u.exp with
  | none => b
  | some x =>
      if b.mp.programWrites n then b
      else if x.arg.mode ≠ 0 ∧ u.curtok < x.arg.ntok then b.progFail n u.pc 7 Status.format
      else
        let b := b.modSaf n fun u => { u with instr := u.instr + 1 }
        if x.arg.mode = 0 then
          b.modExp n fun x => { x with stage := .creating, nlist := fld (u.scalar f.d.toNat) 31 0 }
        else b.modExp n fun x => { x with stage := .routing }

theorem exec_sEnd (s : State) (n : Nat) (f : TFmt) : exec (.sEnd n f) s = .next { s with
    blk := s.blk.instr n (0x4F * 2 ^ 24 + f.enc)
      ((scalarOk f.d || s.blk.expMode n != 0) && f.a == 0 && f.b == 0 && f.c == 0 && f.mod == 0 && f.noMask)
      (Block.endRun n f) } := rfl

theorem endRun_of_exp {b : Block} {n : Nat} {f : TFmt} {x : Expansion} (hx : (b.saf n).exp = some x) :
    Block.endRun n f b = if b.mp.programWrites n then b
      else if x.arg.mode ≠ 0 ∧ (b.saf n).curtok < x.arg.ntok then b.progFail n (b.saf n).pc 7 Status.format
      else if x.arg.mode = 0 then (b.modSaf n fun u => { u with instr := u.instr + 1 }).modExp n
        fun x => { x with stage := .creating, nlist := fld ((b.saf n).scalar f.d.toNat) 31 0 }
      else (b.modSaf n fun u => { u with instr := u.instr + 1 }).modExp n fun x => { x with stage := .routing } := by
  unfold Block.endRun
  dsimp only
  rw [hx]

theorem Block.UnitTo.modExp {b c : Block} {n : Nat} {u : Saffron} (h : b.UnitTo n u c) (f : Expansion → Expansion)
    {x : Expansion} (hx : u.exp = some x) : b.UnitTo n { u with exp := some (f x) } (c.modExp n f) := by
  have hset : b.UnitTo n { u with exp := u.exp.map f } (c.modExp n f) := h.modSaf fun u => { u with exp := u.exp.map f }
  rw [hx] at hset
  exact hset

theorem noMask_iff (f : TFmt) : f.noMask = true ↔ f.msel = 0 ∧ f.mu = false := by
  simp [TFmt.noMask]

/-- The outcomes that R313 and R334 give a branch: it runs, its target is not allowed, or its encoding is not. -/
theorem illegal_of {s : State} {i : Instr} {n word : Nat} {legal : Bool} {run : Block → Block} {P : Prop}
    (h : exec i s = .next { s with blk := s.blk.instr n word legal run }) (hcur : s.blk.current n = some word)
    (hlegal : legal = true ↔ P) (hP : ¬ P) : Failed s i n 3 Status.format :=
  failed_illegal h hcur (Bool.eq_false_iff.2 fun hl => hP (hlegal.1 hl))

/-- Settles O42, operation by operation: those on scalars by the scalar they set, the others by what they do once they
run. -/
theorem scalarsCandidatesAndTheEnd : Obligations.ScalarsCandidatesAndTheEnd := by
  refine ⟨⟨?smovi, ?saddi, ?sadd, ?sshri, ?loop, ?bz⟩, ?cand, candsOk_iff, ?send⟩
  case smovi =>
    rintro s n f ⟨hcur, hu⟩
    intro u
    have houtcomes := alu_outcomes (i := .sSmovi n f) (s := s) (Q := fun v => ∃ x,
      v = { u.stepped 0 (u.pc + 1) with scalars := v.scalars } ∧ v.scalar f.d.toNat = x
      ∧ (f.a = 0 → x = f.imm.setWidth 64)
      ∧ (f.a ≠ 0 → ∀ j, j < 4 → x.extractLsb' (16 * j) 16 =
          if j = f.a.toNat then f.imm else (u.scalar f.d.toNat).extractLsb' (16 * j) 16)
      ∧ ∀ k, k ≠ f.d.toNat → v.scalar k = u.scalar k) (P := f.d.toNat < 8 ∧ f.a.toNat < 4) rfl hcur (by simp [scalarOk])
      rfl fun hl => ?_
    · refine ⟨fun hl hnext => ?_, houtcomes.2⟩
      obtain ⟨v, hran, x, h⟩ := houtcomes.1 hl hnext
      exact ⟨v, x, hran, h⟩
    · obtain ⟨hstep, hself, hother⟩ := scalar_result u f.d.toNat (setPart f.a.toNat f.imm (u.scalar f.d.toNat)) 0 (u.pc + 1)
      refine ⟨_, hstep, hself, fun ha => ?_, fun ha j hj => extractLsb'_setPart ?_ hl.2 hj _ _, hother⟩
      · rw [setPart, if_pos (by rw [ha]; rfl)]
      · exact fun h => ha (BitVec.eq_of_toNat_eq h)
  case saddi =>
    rintro s n f ⟨hcur, hu⟩
    intro u
    exact alu_outcomes (Q := fun v => _) rfl hcur (by simp [scalarOk]) rfl fun _ =>
      scalar_result u f.d.toNat (u.scalar f.a.toNat + f.imm.signExtend 64) 0 (u.pc + 1)
  case sadd =>
    rintro s n f ⟨hcur, hu⟩
    intro u legal
    exact alu_outcomes (Q := fun v => _) rfl hcur (by simp [legal, scalarOk, noMask_iff, and_assoc]) rfl fun _ =>
      scalar_result u f.d.toNat (u.scalar f.a.toNat + u.scalar f.b.toNat) 0 (u.pc + 1)
  case sshri =>
    rintro s n f ⟨hcur, hu⟩
    intro u
    refine alu_outcomes (Q := fun v => _) rfl hcur (by simp [scalarOk]) rfl fun _ => ?_
    obtain ⟨hstep, hself, hother⟩ := scalar_result u f.d.toNat (u.scalar f.a.toNat >>> (f.imm.toNat % 64)) 0 (u.pc + 1)
    refine ⟨hstep, ?_, hother⟩
    refine (congrArg BitVec.toNat hself).trans ?_
    rw [BitVec.toNat_ushiftRight, Nat.shiftRight_eq_div_pow]
  case loop =>
    rintro s n f ⟨hcur, hu⟩
    intro u next
    have hexec := exec_sLoop s n f
    have hlegal : (scalarOk f.d && f.a == 0) = true ↔ f.d.toNat < 8 ∧ f.a = 0 := by simp [scalarOk]
    refine ⟨fun hl himm hnext => ?_, fun hl hbudget himm => ?_, illegal_of hexec hcur hlegal⟩
    · obtain ⟨hbudget, x, w, hx, hw, hop⟩ := hnext
      have hrun := exec_runs hexec hcur (hlegal.2 hl) hbudget
      rw [Block.loopRun, if_neg (Nat.not_lt.2 himm)] at hrun
      dsimp only at hrun
      simp only [sub_one_eq_zero] at hrun
      exact ⟨_, ran_of hrun (((Block.UnitTo.refl s.blk n).modSaf fun u =>
        u.setScalar f.d.toNat ((s.blk.saf n).scalar f.d.toNat - 1)).advance 0 next hx hw hop), scalar_result u _ _ 0 next⟩
    · exact failed_running hexec hcur 4 _ (hlegal.2 hl) hbudget (if_pos himm)
  case bz =>
    rintro s n f ⟨hcur, hu⟩
    intro u next
    have hexec := exec_sBz s n f
    have hlegal : (scalarOk f.d && f.a == 0) = true ↔ f.d.toNat < 8 ∧ f.a = 0 := by simp [scalarOk]
    refine ⟨fun hl himm ⟨y, hy, hlen⟩ hnext => ?_, fun hl hbudget himm => ?_, illegal_of hexec hcur hlegal⟩
    · obtain ⟨hbudget, x, w, hx, hw, hop⟩ := hnext
      have hrun := exec_runs hexec hcur (hlegal.2 hl) hbudget
      rw [branchRun_of_exp hy, if_neg (not_or.2 ⟨Nat.not_le.2 himm, Nat.not_le.2 hlen⟩)] at hrun
      exact ran_of hrun ((Block.UnitTo.refl s.blk n).advance 0 next hx hw hop)
    · obtain ⟨x, hx, -⟩ := exp_of_current hcur
      refine failed_running hexec hcur 4 _ (hlegal.2 hl) hbudget ((branchRun_of_exp hx).trans (if_pos ?_))
      refine himm.imp_right fun ⟨y, hy, hlen⟩ => ?_
      cases hx.symm.trans hy
      exact hlen
  case cand =>
    rintro s n f x ⟨hcur, hu⟩ hx
    intro u legal k new fits
    have hexec := exec_sCand s n f
    have hlegal : (f.d == 0 && f.c == 0 && f.mod == 0 && f.noMask) = true ↔ legal := by
      simp [legal, noMask_iff, and_assoc]
    have hnew : u.newCands f k x.arg.k = new := rfl
    refine ⟨fun hl hbudget hnone => ?_, fun hl hmode hleft hbudget ⟨l, hmem, hbad⟩ => ?_,
      fun hl hmode hleft hnext hgood hfits => ?_, fun hl hmode hleft hbudget hgood hfits => ?_,
      illegal_of hexec hcur hlegal⟩
    · exact failed_running hexec hcur 7 _ (hlegal.2 hl) hbudget (candRun_no_tokens hx hnone)
    · refine failed_running hexec hcur 6 _ (hlegal.2 hl) hbudget ((candRun_tokens hu hx hmode hleft).trans (if_pos ?_))
      rw [Bool.not_eq_true', List.all_eq_false]
      exact ⟨l, hmem, by simp [hbad]⟩
    · obtain ⟨hbudget, y, w, hy, hw, hop⟩ := hnext
      cases hx.symm.trans hy
      have hrun := exec_runs hexec hcur (hlegal.2 hl) hbudget
      have hall : new.all (candsOk x.arg.nexp) = true := List.all_eq_true.2 hgood
      rw [candRun_tokens hu hx hmode hleft, if_neg (by rw [show _ = new from hnew, hall]; simp),
        if_neg (show ¬ routeQueue < x.cands.length + k from Nat.not_lt.2 hfits)] at hrun
      exact ran_of hrun ((((Block.UnitTo.refl s.blk n).modExp _ hx).modSaf fun u =>
        { u with curtok := u.curtok + k }).advance 0 (u.pc + 1) (x := { x with cands := x.cands ++ new }) rfl hw hop)
    · have hrun := exec_runs hexec hcur (hlegal.2 hl) hbudget
      have hall : new.all (candsOk x.arg.nexp) = true := List.all_eq_true.2 hgood
      rwa [candRun_tokens hu hx hmode hleft, if_neg (by rw [show _ = new from hnew, hall]; simp),
        if_pos (show routeQueue < x.cands.length + k from Nat.lt_of_not_le hfits)] at hrun
  case send =>
    rintro s n f x ⟨hcur, hu⟩ hx
    intro u legal
    have hexec := exec_sEnd s n f
    have hmode : s.blk.expMode n = x.arg.mode := by rw [Block.expMode, hx]
    have hlegal : ((scalarOk f.d || s.blk.expMode n != 0) && f.a == 0 && f.b == 0 && f.c == 0 && f.mod == 0 && f.noMask)
        = true ↔ legal := by
      simp [legal, scalarOk, noMask_iff, and_assoc, hmode]
    have hrun (hl : legal) (hbudget : u.instr < 16777216) := exec_runs hexec hcur (hlegal.2 hl) hbudget
    rw [endRun_of_exp hx] at hrun
    refine ⟨fun hl hbudget hw => ?_, fun hl hbudget hw hm => ?_, fun hl hbudget hw hm htok => ?_,
      fun hl hbudget hw hm htok => ?_, illegal_of hexec hcur hlegal⟩
    · exact (hrun hl hbudget).trans (by rw [if_pos hw])
    · refine ran_of ((hrun hl hbudget).trans (by rw [if_neg (by simp [hw]), if_neg (by simp [hm]), if_pos hm])) ?_
      exact ((Block.UnitTo.refl s.blk n).modSaf fun u => { u with instr := u.instr + 1 }).modExp _ hx
    · refine ran_of ((hrun hl hbudget).trans (by rw [if_neg (by simp [hw]), if_neg fun h => Nat.not_lt.2 htok h.2, if_neg hm])) ?_
      exact ((Block.UnitTo.refl s.blk n).modSaf fun u => { u with instr := u.instr + 1 }).modExp _ hx
    · refine failed_running hexec hcur 7 _ (hlegal.2 hl) hbudget ((endRun_of_exp hx).trans ?_)
      rw [if_neg (by simp [hw]), if_pos ⟨hm, htok⟩]

end Sys2Proof.Machine
end

section
/-! SUPPORT. The transmit ports of the message channels (R386, R387). -/

namespace Sys2Proof.Machine

/-- R386: what a write of CHN_TX_HDR finds wanting beside credit. -/
def Block.txBusy (p : Params) (b : Block) (n k w : Nat) : Bool :=
  decide (64 < b.stagingUsed p n + w) || (b.dom (9 + 2 * n)).state != .on
    || (b.dom (9 + 2 * (b.tx n k).dbead)).state != .on

theorem txBusy_eq_false (p : Params) (b : Block) (n k w : Nat) : b.txBusy p n k w = false ↔
    b.stagingUsed p n + w ≤ 64 ∧ (b.dom (9 + 2 * n)).state = .on
      ∧ (b.dom (9 + 2 * (b.tx n k).dbead)).state = .on := by
  simp [Block.txBusy, and_assoc]

/-- R386: FLITS, and the state of the port, let a message be opened. -/
def TxPort.opens (t : TxPort) (f : Nat) : Prop := t.routeV = true ∧ t.opened = false ∧ 1 ≤ f ∧ f ≤ 64

section
variable {p : Params} {b : Block} {n k f : Nat}

theorem txHeader_seqerr (h : ¬ (b.tx n k).opens f) : txHeader p n k f b = b.modTx n k fun t => { t with seqerr := true } := by
  refine if_pos ?_
  simp only [Bool.or_eq_true, Bool.not_eq_true', decide_eq_true_eq]
  by_contra hnot
  simp only [not_or, Bool.not_eq_false, Bool.not_eq_true, Nat.not_lt] at hnot
  obtain ⟨⟨⟨hroute, hopened⟩, hlo⟩, hhi⟩ := hnot
  exact h ⟨hroute, hopened, hlo, hhi⟩

/-- R386: a header that its port may open. -/
theorem txHeader_opens (h : (b.tx n k).opens f) : txHeader p n k f b =
    if (b.tx n k).credit < chnWords f ∨ b.txBusy p n k (chnWords f) = true then b.modTx n k fun t =>
      { t with
        refused := t.refused || decide ((b.tx n k).credit < chnWords f)
        cwait := t.cwait || decide ((b.tx n k).credit < chnWords f), busy := t.busy || b.txBusy p n k (chnWords f) }
    else b.modTx n k fun t =>
      { t with opened := true, left := f, credit := t.credit - chnWords f, cwait := false, flits := [] } := by
  obtain ⟨hroute, hopened, hlo, hhi⟩ := h
  refine if_neg ?_
  simp [hroute, hopened, Nat.one_le_iff_ne_zero.1 hlo, hhi]

end

/-- Settles O48, by the cases of R386 and R387. -/
theorem channelPortsOpenAndStage : Obligations.ChannelPortsOpenAndStage := by
  refine ⟨fun s a n k f hp => ?_, fun s a n k x hp => ?_⟩
  · intro t w ok room on
    have hok : t.opens f.toNat ↔ ok := .rfl
    have hbusy : s.blk.txBusy s.params n k w = false ↔ room ∧ on := txBusy_eq_false _ _ _ _ _
    refine ⟨fun h hcredit hroom hon => ?_, fun h hnot => ?_, fun h => ?_⟩
    · refine next_command hp _ ((txHeader_opens (hok.2 h)).trans (if_neg ?_))
      rintro (hshort | hb)
      · exact Nat.not_lt.2 hcredit hshort
      · cases hb.symm.trans (hbusy.2 ⟨hroom, hon⟩)
    · have hb : s.blk.txBusy s.params n k w = decide (¬ (room ∧ on)) := by
        rw [Bool.eq_iff_iff, decide_eq_true_eq, ← hbusy, Bool.not_eq_false]
      refine next_command hp _ ((txHeader_opens (hok.2 h)).trans ((if_pos ?_).trans (by rw [← hb]; rfl)))
      by_contra hgood
      rw [not_or, Nat.not_lt, Bool.not_eq_true] at hgood
      exact hnot ⟨hgood.1, hbusy.1 hgood.2⟩
    · exact next_command hp _ (txHeader_seqerr fun hopen => h (hok.1 hopen))
  · intro t
    refine ⟨fun hopened hleft => ?_, fun hopened hleft => ?_, fun hopened => ?_⟩
    · exact next_command hp _ ((if_neg (by simp [t, hopened])).trans (if_neg hleft))
    · exact next_command hp _ ((if_neg (by simp [t, hopened])).trans (if_pos hleft))
    · exact next_command hp _ (if_pos (by simp [t, hopened]))

end Sys2Proof.Machine
end

section
/-! SUPPORT. The receive queues of the message channels (R391, R393 to R396): a header, a flit, a pop and a drop, each as
a change of one queue. -/

namespace Sys2Proof.Machine

/-! ### A change of one receive queue -/

/-- In `c` receive queue `k` of Bead `n` is `x`, and every other is as in `b`. -/
def Block.RxTo (b : Block) (n k : Nat) (x : RxQueue) (c : Block) : Prop :=
  c.rx n k = x ∧ ∀ n' k', ¬ (n' = n ∧ k' = k) → c.rx n' k' = b.rx n' k'

theorem rx_of_chans {b c : Block} (h : c.chans = b.chans) (n k : Nat) : c.rx n k = b.rx n k := by
  simp only [Block.rx, Block.chan, h]

theorem Block.RxTo.of_chans {b c : Block} {n k : Nat} (h : c.chans = b.chans) : b.RxTo n k (b.rx n k) c :=
  ⟨rx_of_chans h n k, fun _ _ _ => rx_of_chans h _ _⟩

namespace Block.RxTo
variable {b c d : Block} {n k : Nat} {x : RxQueue} (h : b.RxTo n k x c)
include h

theorem keep (hd : d.chans = c.chans) : b.RxTo n k x d := by
  obtain ⟨hself, hother⟩ := h
  exact ⟨(rx_of_chans hd n k).trans hself, fun n' k' hne => (rx_of_chans hd n' k').trans (hother n' k' hne)⟩

theorem modRx (f : RxQueue → RxQueue) : b.RxTo n k (f x) (c.modRx n k f) := by
  obtain ⟨hself, hother⟩ := h
  refine ⟨by rw [rx_modRx_self, hself], fun n' k' hne => ?_⟩
  rw [rx_modRx, if_neg fun ⟨hn, hk⟩ => hne ⟨hn.symm, hk.symm⟩]
  exact hother n' k' hne

/-- A change of the queue after other changes of it. -/
theorem set (y : RxQueue) : b.RxTo n k y (c.modRx n k fun _ => y) := h.modRx fun _ => y

end Block.RxTo

@[simp] theorem chans_rxProgress (b : Block) (n k : Nat) : (b.rxProgress n k).chans = b.chans := rfl
@[simp] theorem chans_rxLocket (p : Params) (b : Block) (n k code : Nat) (wp : Bool) :
    (b.rxLocket p n k code wp).chans = b.chans := rfl

/-! ### Flits (R391, R393) -/

/-- One flit changes its queue as `RxQueue.flit` says. -/
theorem rxTo_rxFlit (p : Params) (n k : Nat) (b : Block) (x : Word) :
    b.RxTo n k ((b.rx n k).flit x).1 (b.rxFlit p n k x) := by
  have hset : b.RxTo n k ((b.rx n k).flit x).1 (b.modRx n k fun _ => ((b.rx n k).flit x).1) :=
    (Block.RxTo.of_chans rfl).set _
  unfold Block.rxFlit
  dsimp only
  split
  · refine Block.RxTo.keep ?_ (Block.beadLocket_chans _ _ _ _ _ _)
    split
    · exact hset.keep (chans_rxProgress _ _ _)
    · exact hset
  · split
    · exact hset.keep (chans_rxProgress _ _ _)
    · exact hset

/-- What the header leaves of a queue that no message is open in. -/
theorem rxArrive_header {p : Params} {b : Block} {n k f : Nat} (hf : f ≠ 0) (hopen : (b.rx n k).openF = 0)
    (hdiscard : (b.rx n k).discard = 0) : b.rxArrive p n k f [] =
      if ((b.rx n k).header f).discard ≠ 0 then (b.modRx n k (·.header f)).rxLocket p n k 0x23 true
      else b.modRx n k (·.header f) := by
  unfold Block.rxArrive
  dsimp only
  rw [if_neg (by simp [hopen, hdiscard]), if_neg hf, List.foldl_nil, Block.rx_modRx_self]
  simp only [ne_eq, hf, not_false_eq_true, true_and]

theorem chn_reaches {p : Params} {b b0 : Block} {n q d total : Nat} {flits : List Word}
    (h : FlitsReach p b n q total flits b0) : chn p false n q d total flits b = b0.rxArrive p n q total flits := by
  obtain ⟨htake, hopen⟩ := h
  obtain ⟨x, hx, rfl⟩ := Option.map_eq_some_iff.1 htake
  unfold chn
  rw [if_neg (by simp), hx]
  exact if_neg (by simpa using hopen)

theorem FlitsReach.onlyLanes {p : Params} {b b0 : Block} {n q total : Nat} {flits : List Word}
    (h : FlitsReach p b n q total flits b0) : ∃ l, b0 = { b with lanes := l } := by
  obtain ⟨x, -, rfl⟩ := Option.map_eq_some_iff.1 h.1
  exact ⟨_, rfl⟩

namespace RxQueue
variable {q : RxQueue} (x : Word)

theorem flit_discard (h : q.discard ≠ 0) : (q.flit x).1 = { q with discard := q.discard - 1 } := by
  rw [flit, if_pos h]

theorem flit_none (h : q.discard = 0) (hopen : q.openF = 0) : (q.flit x).1 = q := by
  rw [flit, if_neg (not_not.2 h), if_pos hopen]

variable (h : q.discard = 0) (hopen : q.openF ≠ 0)
include h hopen

theorem flit_part (hpart : q.part.length < 3) (hlast : q.got + 1 ≠ q.openF) :
    (q.flit x).1 = { q with part := q.part ++ [x], got := q.got + 1 } := by
  rw [flit, if_neg (not_not.2 h), if_neg hopen]
  dsimp only
  rw [if_pos]
  simp [hlast]
  omega

variable (hfull : q.part.length = 3 ∨ q.got + 1 = q.openF)
include hfull

theorem flit_full : (q.flit x).1 =
    if q.drain then { q with
      part := [], got := q.got + 1, unreturned := q.unreturned + 1, drain := !(q.got + 1 == q.openF)
      openF := if (q.got + 1 == q.openF) = true then 0 else q.openF, capOpen := q.capOpen && !(q.got + 1 == q.openF) }
    else { q with
      words := tset {} q.words (q.wp % 64) (q.full (q.part ++ [x]) (q.got + 1)), wp := (q.wp + 1) % 128, part := []
      got := q.got + 1
      vp := if ((q.got + 1 == q.openF) || (q.thresh != 0 && decide (q.thresh ≤ ptrDiff ((q.wp + 1) % 128) q.mstart))) = true
        then (q.wp + 1) % 128 else q.vp
      openF := if (q.got + 1 == q.openF) = true then 0 else q.openF
      capOpen := q.capOpen && !(q.got + 1 == q.openF) } := by
  rw [flit, if_neg (not_not.2 h), if_neg hopen]
  dsimp only
  rw [if_neg]
  · split
    · rfl
    · rfl
  · rcases hfull with hp | hl
    · simp [hp]
    · simp [hl]

end RxQueue

/-! ### Drops (R396) -/

/-- A word stands at a pointer and 64 places on. -/
theorem RxQueue.word_mod (q : RxQueue) (p : Nat) : q.word (p % 128) = q.word p := by
  unfold RxQueue.word
  congr 1
  omega

/-- The words from a pointer on that belong to the message there, up to its last, which the Bool tells. -/
theorem RxQueue.run_spec (q : RxQueue) (k : Nat) : ∀ (start : Bool) (p : Nat),
    let r := q.run start k p
    r.1 ≤ k
      ∧ (∀ j, j < r.1 → ((q.word (p + j)).first = true → j = 0 ∧ start = true)
          ∧ ((q.word (p + j)).last = true → j + 1 = r.1))
      ∧ (r.1 < k → r.2 = true ∨ ((q.word (p + r.1)).first = true ∧ ¬ (r.1 = 0 ∧ start = true)))
      ∧ (r.2 = true ↔ (r.1 ≠ 0 ∧ (q.word (p + (r.1 - 1))).last = true)) := by
  induction k with
  | zero => intro start p; simp [RxQueue.run]
  | succ k ih =>
    intro start p
    rw [RxQueue.run]
    dsimp only
    by_cases hfirst : ((q.word p).first && !start) = true
    · rw [if_pos hfirst]
      simp only [Bool.and_eq_true, Bool.not_eq_true'] at hfirst
      exact ⟨Nat.zero_le _, fun j hj => absurd hj (Nat.not_lt_zero j), fun _ => .inr ⟨hfirst.1, by simp [hfirst.2]⟩,
        by simp⟩
    rw [if_neg hfirst]
    have hstart (h : (q.word p).first = true) : start = true := by simpa [h] using hfirst
    by_cases hlast : (q.word p).last = true
    · rw [if_pos hlast]
      refine ⟨by omega, fun j hj => ?_, fun _ => .inl rfl, by simpa using hlast⟩
      obtain rfl : j = 0 := by omega
      exact ⟨fun h => ⟨rfl, hstart h⟩, fun _ => rfl⟩
    rw [if_neg hlast]
    obtain ⟨hle, hall, hstop, hmet⟩ := ih false ((p + 1) % 128)
    have hword (j : Nat) : q.word ((p + 1) % 128 + j) = q.word (p + (j + 1)) := by
      rw [← q.word_mod ((p + 1) % 128 + j), ← q.word_mod (p + (j + 1))]
      congr 1
      omega
    simp only [hword] at hall hstop hmet
    generalize q.run false k ((p + 1) % 128) = r at hle hall hstop hmet
    refine ⟨by omega, fun j hj => ?_, fun hlt => ?_, ?_⟩
    · cases j with
      | zero => exact ⟨fun h => ⟨rfl, hstart h⟩, fun h => absurd h hlast⟩
      | succ j =>
        obtain ⟨hf, hl⟩ := hall j (by omega)
        exact ⟨fun h => absurd (hf h).2 (by simp), fun h => by have := hl h; omega⟩
    · exact (hstop (by omega)).imp_right fun ⟨hf, _⟩ => ⟨hf, by omega⟩
    · rw [hmet, Nat.add_sub_cancel]
      by_cases hr : r.1 = 0
      · simp [hr, hlast]
      · rw [Nat.sub_add_cancel (Nat.pos_of_ne_zero hr)]
        simp [hr]

/-- What a drop makes of the queue: `m` words leave it. -/
def RxQueue.dropped (q : RxQueue) (m : Nat) (drain : Bool) : RxQueue := { q.release m with drain := drain }

/-- R396: the word read last is not its message's last. -/
def RxQueue.reading (q : RxQueue) : Bool := q.everCaptured && !q.captured.last

theorem RxQueue.drop_none {q : RxQueue} (hread : q.reading = false) (hstored : q.stored = 0) (hopen : q.openF = 0) :
    q.drop = none := by
  unfold RxQueue.drop
  rw [if_neg (by rw [show (q.everCaptured && !q.captured.last) = false from hread]; simp),
    if_neg (by simp [hstored, hopen])]

/-- R396: a drop frees the rest of the message at the read pointer. -/
def RxQueue.afterDrop (q : RxQueue) : RxQueue :=
  let r := q.run (!q.reading) q.stored q.rp
  q.dropped r.1 (q.drain || if q.reading then q.capOpen else q.openF != 0 && !r.2)

theorem RxQueue.drop_some {q : RxQueue} (h : q.reading = true ∨ q.stored ≠ 0 ∨ q.openF ≠ 0) :
    q.drop = some q.afterDrop := by
  unfold RxQueue.afterDrop
  unfold RxQueue.drop
  cases hread : q.reading with
  | true => exact if_pos hread
  | false =>
    rw [if_neg (by rw [show (q.everCaptured && !q.captured.last) = false from hread]; simp),
      if_pos (h.resolve_left (by simp [hread]))]
    rfl

/-- R396: the words that a drop frees. -/
theorem RxQueue.rest_run (q : RxQueue) (start : Bool) :
    q.Rest start (q.run start q.stored q.rp).1 := by
  obtain ⟨hle, hall, hstop, hmet⟩ := q.run_spec q.stored start q.rp
  refine ⟨hle, fun j hj => ?_, fun hlt => ?_⟩
  · rw [q.word_mod]
    exact hall j hj
  · rw [q.word_mod, q.word_mod]
    exact (hstop hlt).imp_left hmet.1

theorem Block.RxTo.base {a b c : Block} {n k : Nat} {x : RxQueue} (h : b.RxTo n k x c) (hb : b.chans = a.chans) :
    a.RxTo n k x c := by
  obtain ⟨hself, hother⟩ := h
  exact ⟨hself, fun n' k' hne => (hother n' k' hne).trans (rx_of_chans hb n' k')⟩

theorem rxTo_header {p : Params} {b : Block} {n k f : Nat} (hf : f ≠ 0) (hopen : (b.rx n k).openF = 0)
    (hdiscard : (b.rx n k).discard = 0) : b.RxTo n k ((b.rx n k).header f) (b.rxArrive p n k f [])
      ∧ b.rxArrive p n k f [] = { b with
        chans := (b.rxArrive p n k f []).chans, lkt := (b.rxArrive p n k f []).lkt } := by
  have hset : b.RxTo n k ((b.rx n k).header f) (b.modRx n k (·.header f)) := (Block.RxTo.of_chans rfl).modRx _
  rw [rxArrive_header hf hopen hdiscard]
  split
  · exact ⟨hset.keep (chans_rxLocket _ _ _ _ _ _), rfl⟩
  · exact ⟨hset, rfl⟩

/-- The word that the last flits of a message, or four of them, complete. -/
theorem quarters_full (q : RxQueue) (part : List Word) (x : Word) (got : Nat) :
    (q.full (part ++ [x]) got).quarters = part ++ [x] ++ List.replicate (3 - part.length) 0 := by
  rw [RxQueue.full, List.length_append, List.length_singleton]
  rw [show 4 - (part.length + 1) = 3 - part.length by omega]

theorem not_beq_eq_decide_ne (a b : Nat) : (!(a == b)) = decide (a ≠ b) := by
  by_cases h : a = b
  · simp [h]
  · simp [h]

/-- R391, R393: the cases of a flit. -/
theorem flit_cases (y : RxQueue) (x : Word) {z : RxQueue} (hz : z = (y.flit x).1) :
    (y.discard ≠ 0 → z = { y with discard := y.discard - 1 })
      ∧ (y.discard = 0 → y.openF = 0 → z = y)
      ∧ (y.discard = 0 → y.openF ≠ 0 → y.part.length < 3 → y.got + 1 ≠ y.openF →
          z = { y with part := y.part ++ [x], got := y.got + 1 })
      ∧ (y.discard = 0 → y.openF ≠ 0 → (y.part.length = 3 ∨ y.got + 1 = y.openF) → y.drain = true →
          z = { y with
            part := [], got := y.got + 1, unreturned := y.unreturned + 1, drain := decide (y.got + 1 ≠ y.openF)
            openF := if y.got + 1 = y.openF then 0 else y.openF
            capOpen := y.capOpen && decide (y.got + 1 ≠ y.openF) })
      ∧ (y.discard = 0 → y.openF ≠ 0 → (y.part.length = 3 ∨ y.got + 1 = y.openF) → y.drain = false →
          z = { y with
            part := [], got := y.got + 1, wp := (y.wp + 1) % 128, words := z.words
            vp := if y.got + 1 = y.openF ∨ (y.thresh ≠ 0 ∧ y.thresh ≤ ptrDiff ((y.wp + 1) % 128) y.mstart)
                  then (y.wp + 1) % 128 else y.vp
            openF := if y.got + 1 = y.openF then 0 else y.openF
            capOpen := y.capOpen && decide (y.got + 1 ≠ y.openF) }
          ∧ (z.word y.wp).quarters = y.part ++ [x] ++ List.replicate (3 - y.part.length) 0
          ∧ ((z.word y.wp).first = true ↔ y.wp = y.mstart)
          ∧ ((z.word y.wp).last = true ↔ y.got + 1 = y.openF)
          ∧ (z.word y.wp).vb = 8 * (y.part.length + 1)
          ∧ ∀ k, k % 64 ≠ y.wp % 64 → z.word k = y.word k) := by
  refine ⟨fun hd => hz.trans (RxQueue.flit_discard x hd), fun hd ho => hz.trans (RxQueue.flit_none x hd ho),
    fun hd ho hp hl => hz.trans (RxQueue.flit_part x hd ho hp hl), fun hd ho hfull hdrain => ?_,
    fun hd ho hfull hdrain => ?_⟩
  · rw [hz, RxQueue.flit_full x hd ho hfull, if_pos hdrain]
    simp only [beq_iff_eq, not_beq_eq_decide_ne]
  · have hflit := RxQueue.flit_full x hd ho hfull
    rw [if_neg (by simp [hdrain])] at hflit
    rw [hflit] at hz
    have hword : z.word y.wp = y.full (y.part ++ [x]) (y.got + 1) := by
      rw [hz]
      exact tget_tset_self _ _ _
    rw [hword]
    refine ⟨?_, quarters_full _ _ _ _, beq_iff_eq, beq_iff_eq, ?_, fun k hk => ?_⟩
    · rw [hz]
      simp only [beq_iff_eq, not_beq_eq_decide_ne, Bool.or_eq_true, Bool.and_eq_true, bne_iff_ne, decide_eq_true_eq]
    · rw [RxQueue.full, List.length_append, List.length_singleton]
    · rw [hz]
      exact tget_tset_ne _ _ (Ne.symm hk)

theorem rxArrive_flit (p : Params) (b : Block) (n k : Nat) (x : Word) :
    b.rxArrive p n k 0 [x] = b.rxFlit p n k x := by
  unfold Block.rxArrive
  dsimp only
  rw [if_neg (by simp), if_pos rfl, if_neg (by simp)]
  rfl

/-- Settles O49, by what a header, a flit, a pop and a drop make of the queue. -/
theorem receiveQueuesStoreAndPop : Obligations.ReceiveQueuesStoreAndPop := by
  refine ⟨fun s n q f b0 hreach hf hopen hdiscard => ?_, fun s n q x b0 hreach => ?_, fun s a n q hp hcount hbad => ?_,
    fun s a n q hp hcount => ?_, fun s a n q hp => ?_⟩
  · obtain ⟨l, rfl⟩ := hreach.onlyLanes
    have hf' : f.toNat ≠ 0 := fun h => hf (BitVec.eq_of_toNat_eq h)
    obtain ⟨⟨hself, hother⟩, honly⟩ :=
      rxTo_header (p := s.params) (b := { s.blk with lanes := l }) (k := q.toNat) (n := n) hf' hopen hdiscard
    exact ⟨_, next_block (chn_reaches hreach), hself, hother, honly⟩
  · intro y
    obtain ⟨l, rfl⟩ := hreach.onlyLanes
    obtain ⟨hself, hother⟩ := rxTo_rxFlit s.params n q.toNat { s.blk with lanes := l } x
    obtain ⟨hdiscard, hnone, hpart, hdrain, hstore⟩ := flit_cases y x hself
    exact ⟨_, next_block ((chn_reaches hreach).trans (rxArrive_flit _ _ _ _ _)), hdiscard, hnone, hpart, hdrain, hstore,
      hother, (Block.rxFlit_frame s.params n q.toNat { s.blk with lanes := l } x).eq⟩
  · have hpop : chnPop s.params n q s.blk = ((s.blk.modRx n q (·.pop)).rxProgress n q).rxLocket s.params n q 0x21 false :=
      if_neg hcount
    have hto : s.blk.RxTo n q (s.blk.rx n q).pop (chnPop s.params n q s.blk) := by
      rw [hpop]
      exact ((Block.RxTo.of_chans rfl).modRx _).keep rfl
    obtain ⟨hself, hother⟩ := hto
    have hcap : (s.blk.rx n q).pop.captured = (s.blk.rx n q).word (s.blk.rx n q).rp := if_neg (by simp [hbad])
    refine ⟨chnPop s.params n q s.blk, ?_, ?_, ?_, ?_, ?_, ?_, ?_, hother, (chnPop_frame _ _ _ _).eq⟩
    · change Host.Outcome.next (s.access a (.chnRd n q 0) false _) = _
      rw [access_perform hp]
      dsimp only
      rw [hself, RxQueue.quarter, hcap]
    · rw [hself, hcap]
    all_goals
      rw [hself]
      rfl
  · have hpop : chnPop s.params n q s.blk =
        (s.blk.modRx n q fun q => { q with underrun := true }).rxLocket s.params n q 0x22 true := if_pos hcount
    have hto : s.blk.RxTo n q { s.blk.rx n q with underrun := true } (chnPop s.params n q s.blk) := by
      rw [hpop]
      exact ((Block.RxTo.of_chans rfl).modRx fun q => { q with underrun := true }).keep rfl
    obtain ⟨hself, hother⟩ := hto
    refine ⟨chnPop s.params n q s.blk, ?_, hself, hother, ?_⟩
    · change Host.Outcome.next (s.access a (.chnRd n q 0) false _) = _
      rw [access_perform hp]
      dsimp only
      rw [hself]
      rfl
    · rw [hpop]
      rfl
  · intro y reading
    have hreading : y.reading = true ↔ reading := by simp [RxQueue.reading, reading]
    refine ⟨fun hnot hstored hopen => ?_, fun h => ?_⟩
    · refine next_command hp _ ?_
      have hread : y.reading = false := Bool.eq_false_iff.2 fun hr => hnot (hreading.1 hr)
      unfold chnDrop
      rw [show (s.blk.rx n q).drop = none from RxQueue.drop_none hread hstored hopen]
    · have hdrop := RxQueue.drop_some (q := y) (h.imp_left hreading.2)
      have hto : s.blk.RxTo n q y.afterDrop (chnDrop s.params n q s.blk) := by
        unfold chnDrop
        rw [show (s.blk.rx n q).drop = some y.afterDrop from hdrop]
        exact ((Block.RxTo.of_chans rfl).set _).keep rfl
      obtain ⟨hself, hother⟩ := hto
      have hstart : decide (¬ reading) = !y.reading := by
        rw [Bool.eq_iff_iff, decide_eq_true_eq, ← hreading, Bool.not_eq_true', Bool.not_eq_true]
      refine ⟨_, (y.run (!y.reading) y.stored y.rp).1, next_command hp _ rfl, by rw [hstart]; exact y.rest_run _, ?_,
        fun hr => ?_, fun hr => ?_, hother, (chnDrop_frame _ _ _ _).eq⟩
      · rw [hself]
        rfl
      · rw [hself, RxQueue.afterDrop, RxQueue.dropped, if_pos (hreading.2 hr), Bool.or_eq_true]
      · rw [hself, RxQueue.afterDrop, RxQueue.dropped, if_neg fun h => hr (hreading.1 h), Bool.or_eq_true, Bool.and_eq_true, bne_iff_ne,
          Bool.not_eq_true', ← Bool.not_eq_true]
        obtain ⟨-, -, -, hmet⟩ := y.run_spec y.stored (!y.reading) y.rp
        rw [hmet, y.word_mod]

end Sys2Proof.Machine
end

section
/-! SUPPORT. Messages and credits on their way (R388, R397, R398), and CTL CLEAR (R400, R426). -/

namespace Sys2Proof.Machine

/-- What a message received leaves of the block: its lane alone has moved. -/
theorem Block.received_onlyLanes {p : Params} {b b' : Block} {n : Nat} {up : Bool} {r : Rec}
    (h : b.received p n up r = some b') : ∃ l, b' = { b with lanes := l } := by
  obtain ⟨x, -, rfl⟩ := Block.received_eq h
  exact ⟨_, rfl⟩

/-! ### The staging store (R388) -/

/-- The words of the staging store at `pos` that records free when they leave. -/
def freedWords (pos : Nat) (l : List LaneRec) : Nat :=
  (l.map fun r => match r.frees with | some (k, w) => if k = pos then w else 0 | none => 0).sum

/-- R388: the last raw record of a CHN message frees the message's words. -/
theorem freedWords_rawRecs {h : Word} (htype : recType h = 5) (flits : Nat) : ∀ (raws : List Word) (m : Nat),
    freedWords (fld h 59 58) ((rawRecs h flits raws).drop m) = if m < raws.length then chnWords flits else 0
  | [], m => by simp [rawRecs, freedWords]
  | w :: ws, 0 => by
    have ih := freedWords_rawRecs htype flits ws 0
    rw [List.drop_zero] at ih
    rw [List.drop_zero, rawRecs, freedWords, List.map_cons, List.sum_cons, ← freedWords, ih]
    cases ws with
    | nil => simp [freedBy, htype]
    | cons v vs => simp [freedBy, htype]
  | w :: ws, m + 1 => by
    have ih := freedWords_rawRecs htype flits ws m
    rw [rawRecs, List.drop_succ_cons, ih]
    simp

theorem length_rawRecs (h : Word) (flits : Nat) (raws : List Word) : (rawRecs h flits raws).length = raws.length := by
  induction raws with
  | nil => rfl
  | cons w ws ih => rw [rawRecs, List.length_cons, ih, List.length_cons]

theorem packW_chn (pos queue dbead k : Nat) :
    (packW [(5, 4, 60), (pos, 2, 58), (queue, 7, 51), (dbead, 6, 45), (k, 6, 39)]).toNat =
      5 * 2 ^ 60 + pos % 4 * 2 ^ 58 + queue % 128 * 2 ^ 51 + dbead % 64 * 2 ^ 45 + k % 64 * 2 ^ 39 := by
  simp only [packW, pack, BitVec.toNat_ofNat]
  omega

theorem recType_chnRec (p : Params) (n queue dbead : Nat) (flits : List Word) :
    recType (chnRec p n queue dbead flits).header = 5 := by
  rw [recType, fld, bits]
  change (packW _).toNat / _ % _ = _
  rw [packW_chn]
  omega

theorem position_chnRec {p : Params} {n : Nat} (queue dbead : Nat) (flits : List Word) (hpos : p.beadOnLane n < 4) :
    fld (chnRec p n queue dbead flits).header 59 58 = p.beadOnLane n := by
  rw [fld, bits]
  change (packW _).toNat / _ % _ = _
  rw [packW_chn]
  omega

/-- The queue of an end after a message has entered it, but for the records that have been driven. -/
theorem queue_sendUp (l now : Nat) (x : Lane) (r : Rec) :
    ∃ k, (x.sendUp l now r).bead.queue = (x.bead.queue ++ r.flat).drop k := by
  unfold Lane.sendUp Lane.pumpBead LaneEnd.pump
  dsimp only
  split
  · exact ⟨0, rfl⟩
  · exact ⟨_, rfl⟩

/-- R66, R388: a CHN message that enters a crossing with room: the words of it that its writer still holds. -/
theorem staged_sendUp {p : Params} {n : Nat} {x : Lane} (hroom : x.bead.room true (p.laneOf n) = true)
    (hpos : p.beadOnLane n < 4) (now queue dbead : Nat) (flits : List Word) :
    let y := x.sendUp (p.laneOf n) now (chnRec p n queue dbead flits)
    y.bead.staged (p.laneOf n) (p.beadOnLane n) =
      if crossDepth true (p.laneOf n) < y.bead.queue.length then chnWords flits.length else 0 := by
  intro y
  obtain ⟨k, hk⟩ := queue_sendUp (p.laneOf n) now x (chnRec p n queue dbead flits)
  have hlt : x.bead.queue.length < crossDepth true (p.laneOf n) := of_decide_eq_true hroom
  have hflat : (chnRec p n queue dbead flits).flat = { bits := (chnRec p n queue dbead flits).header } ::
      rawRecs (chnRec p n queue dbead flits).header flits.length flits := rfl
  have hq : y.bead.queue = _ := hk
  have hheld : y.bead.held true (p.laneOf n) = (rawRecs (chnRec p n queue dbead flits).header flits.length flits).drop
      (k + crossDepth true (p.laneOf n) - x.bead.queue.length - 1) := by
    rw [LaneEnd.held, hq, List.drop_drop, List.drop_append, List.drop_eq_nil_of_le (by omega), List.nil_append, hflat]
    rw [show k + crossDepth true (p.laneOf n) - x.bead.queue.length
      = (k + crossDepth true (p.laneOf n) - x.bead.queue.length - 1) + 1 by omega, List.drop_succ_cons]
    rfl
  have hstaged : y.bead.staged (p.laneOf n) (p.beadOnLane n) =
      freedWords (p.beadOnLane n) (y.bead.held true (p.laneOf n)) := rfl
  have hlen : y.bead.queue.length = x.bead.queue.length + (1 + flits.length) - k := by
    rw [hq, List.length_drop, List.length_append, hflat, List.length_cons, length_rawRecs]
    omega
  rw [hstaged, hheld, ← position_chnRec queue dbead flits hpos, freedWords_rawRecs (recType_chnRec p n queue dbead flits),
    hlen]
  congr 1
  rw [eq_iff_iff]
  omega

/-- R66: while the crossing has room no writer is held. -/
theorem staged_of_room {e : LaneEnd} {l : Nat} (hroom : e.room true l = true) (pos : Nat) : e.staged l pos = 0 := by
  have hlt : e.queue.length < crossDepth true l := of_decide_eq_true hroom
  rw [LaneEnd.staged, LaneEnd.held, List.drop_eq_nil_of_le (Nat.le_of_lt hlt)]
  rfl

/-- R388: the staging words once the message that closed first has begun to leave up its lane. -/
theorem stagingUsed_send {p : Params} {b : Block} {n : Nat} {x : Staged} {r : List Staged}
    (hstaging : (b.chan n).staging = x :: r) (hroom : b.roomUp p n = true) (hpos : p.beadOnLane n < 4)
    (queue dbead : Nat) :
    let c := (b.modChan n fun c => { c with staging := r }).sendUp p n (chnRec p n queue dbead x.flits)
    c.stagingUsed p n = b.stagingUsed p n -
      (if crossDepth true (p.laneOf n) < (c.lane (p.laneOf n)).bead.queue.length then 0 else chnWords x.flits.length) := by
  intro c
  have hlane : c.lane (p.laneOf n) = (b.lane (p.laneOf n)).sendUp (p.laneOf n) b.now (chnRec p n queue dbead x.flits) :=
    Block.lane_modLane_self _ _ _
  have hchan : c.chan n = { b.chan n with staging := r } := Block.chan_modChan_self b n fun c => { c with staging := r }
  have hold := staged_of_room hroom (p.beadOnLane n)
  have hnew := staged_sendUp hroom hpos b.now queue dbead x.flits
  rw [Block.stagingUsed, Block.stagingUsed, hold, hlane, hnew, hchan, Chan.stagingUsed, Chan.stagingUsed, hstaging,
    List.map_cons, List.sum_cons]
  dsimp only
  by_cases hheld : crossDepth true (p.laneOf n) <
      ((b.lane (p.laneOf n)).sendUp (p.laneOf n) b.now (chnRec p n queue dbead x.flits)).bead.queue.length
  · rw [if_pos hheld, if_pos hheld]
    omega
  · rw [if_neg hheld, if_neg hheld]
    omega

/-! ### A message within its Bead (R388, R391) -/

theorem Block.RxTo.trans {a b c : Block} {n k : Nat} {x y : RxQueue} (h : a.RxTo n k x b) (g : b.RxTo n k y c) :
    a.RxTo n k y c := by
  obtain ⟨-, hother⟩ := h
  obtain ⟨hself, hother'⟩ := g
  exact ⟨hself, fun n' k' hne => (hother' n' k' hne).trans (hother n' k' hne)⟩

/-- The whole of a message of one flit reaches a queue that no message is open in. -/
theorem rxArrive_oneFlit {p : Params} {b : Block} {n k : Nat} (x : Word) (hopen : (b.rx n k).openF = 0)
    (hdiscard : (b.rx n k).discard = 0) (hroom : (b.rx n k).stored < 64) :
    b.rxArrive p n k 1 [x] = (b.modRx n k (·.header 1)).rxFlit p n k x := by
  have hheader : ((b.rx n k).header 1).discard = 0 := by
    rw [RxQueue.header, if_neg (by simp [chnWords]; omega)]
    exact hdiscard
  have hrx : ((b.modRx n k (·.header 1)).rx n k).discard = 0 := by rwa [Block.rx_modRx_self]
  unfold Block.rxArrive
  dsimp only
  rw [if_neg (by simp [hopen, hdiscard]), if_neg Nat.one_ne_zero, if_neg fun h => h.2 hrx]
  rfl

theorem staging_modRx (b : Block) (n k m : Nat) (f : RxQueue → RxQueue) :
    ((b.modRx n k f).chan m).staging = (b.chan m).staging := by
  rw [Block.modRx, Block.chan_modChan]
  split
  · rfl
  · rfl

theorem staging_rxFlit (p : Params) (n k m : Nat) (b : Block) (x : Word) :
    ((b.rxFlit p n k x).chan m).staging = (b.chan m).staging := by
  refine Eq.trans ?_ (staging_modRx b n k m fun _ => ((b.rx n k).flit x).1)
  unfold Block.rxFlit
  dsimp only
  split <;> split <;> rfl

/-- R391: the one flit of a message that has room is stored, padded with zeros. -/
theorem storesOneFlit {p : Params} {b : Block} {n k : Nat} (x : Word) (hopen : (b.rx n k).openF = 0)
    (hdiscard : (b.rx n k).discard = 0) (hroom : (b.rx n k).stored < 64) (hdrain : (b.rx n k).drain = false) :
    let c := b.rxArrive p n k 1 [x]
    ((c.rx n k).word (b.rx n k).wp).quarters = [x, 0, 0, 0] ∧ (c.rx n k).wp = ((b.rx n k).wp + 1) % 128
      ∧ (c.chan n).staging = (b.chan n).staging := by
  intro c
  have hheader : (b.rx n k).header 1 = { b.rx n k with openF := 1, got := 0, mstart := (b.rx n k).wp, part := [] } :=
    if_neg (by simp [chnWords]; omega)
  have hc : c = _ := rxArrive_oneFlit x hopen hdiscard hroom
  have hself := (rxTo_rxFlit p n k (b.modRx n k (·.header 1)) x).1
  rw [Block.rx_modRx_self, hheader, ← hc] at hself
  obtain ⟨-, -, -, -, hstore⟩ := flit_cases _ x hself
  obtain ⟨hq, hword, -⟩ := hstore hdiscard (by simp) (.inr rfl) hdrain
  refine ⟨hword, by rw [hq], ?_⟩
  rw [hc, staging_rxFlit, staging_modRx]

/-! ### Credits (R397, R398) -/

theorem tx_of_chans {b c : Block} (h : c.chans = b.chans) (n k : Nat) : c.tx n k = b.tx n k := by
  simp only [Block.tx, Block.chan, h]

theorem tx_addCredit (b : Block) (n k words : Nat) :
    ((b.addCredit n k words).tx n k).credit = min 64 ((b.tx n k).credit + words) := by
  unfold Block.addCredit
  dsimp only
  split
  · rw [Block.tx_modRx, Block.tx_modTx_self]
  · rw [Block.tx_modTx_self]

theorem rx_modTx (b : Block) (n k m q : Nat) (f : TxPort → TxPort) : (b.modTx n k f).rx m q = b.rx m q := by
  simp only [Block.rx, Block.modTx, Block.chan_modChan]
  split
  · rfl
  · rfl

theorem rx_addCredit (b : Block) (n k words m q : Nat) : (b.addCredit n k words).rx m q =
    if (m = n ∧ q = k) ∧ 64 < (b.tx n k).credit + words then { b.rx m q with overrun := true } else b.rx m q := by
  unfold Block.addCredit
  dsimp only
  by_cases hover : 64 < (b.tx n k).credit + words
  · rw [if_pos hover, Block.rx_modRx, rx_modTx]
    simp only [hover, and_true, eq_comm (a := n), eq_comm (a := k)]
  · rw [if_neg hover, rx_modTx, if_neg (fun h => hover h.2)]

theorem addCredit_only (b : Block) (n k words : Nat) : ∃ ch, b.addCredit n k words = { b with chans := ch } :=
  ⟨_, (Block.addCredit_frame b n k words).eq⟩

/-- R398: what a queue returns leaves it. -/
theorem creditReturn_returns {p : Params} {b : Block} {n k : Nat} (hunret : (b.rx n k).unreturned ≠ 0)
    (hroute : (b.rx n k).routeV = true) (hroom : (b.rx n k).sbead = n ∨ b.roomUp p n = true) :
    creditReturn p n k b =
      if (b.rx n k).sbead = n then ((b.modRx n k fun q => { q with unreturned := 0 }).rxProgress n k).addCredit n
        (b.rx n k).sport (b.rx n k).unreturned
      else ((b.modRx n k fun q => { q with unreturned := 0 }).rxProgress n k).sendUp p n
        (creditRec p n k (b.rx n k).unreturned) := by
  refine if_neg ?_
  rintro (h | h | ⟨hne, hfull⟩)
  · exact hunret h
  · simp [hroute] at h
  · rcases hroom with h | h
    · exact hne h
    · simp [h] at hfull

/-! ### CTL CLEAR (R400, R426) -/

theorem rx_clearRx (p : Params) (n : Nat) (b : Block) (k q : Nat) :
    (b.clearRx p n k).rx n q = if q = k then (b.rx n q).clear else b.rx n q := by
  change (b.modRx n k (·.clear)).rx n q = _
  rw [Block.rx_modRx]
  simp only [true_and, eq_comm (a := k)]

theorem rx_foldl_clearRx (p : Params) (n : Nat) (l : List Nat) (hl : l.Nodup) (b : Block) (q : Nat) :
    (l.foldl (Block.clearRx p n) b).rx n q = if q ∈ l then (b.rx n q).clear else b.rx n q := by
  induction l generalizing b with
  | nil => rfl
  | cons k l ih =>
    obtain ⟨hk, hl⟩ := List.nodup_cons.1 hl
    rw [List.foldl_cons, ih hl, rx_clearRx]
    by_cases hq : q = k
    · subst hq
      simp [hk]
    · simp [hq]

theorem rx_clearTx (n : Nat) (b : Block) (k m q : Nat) : (b.clearTx n k).rx m q = b.rx m q := by
  unfold Block.clearTx
  dsimp only
  rw [rx_modTx]
  simp only [Block.rx, Block.chan_modChan]
  split
  · rfl
  · rfl

theorem rx_foldl_clearTx (n : Nat) (l : List Nat) (b : Block) (m q : Nat) :
    (l.foldl (Block.clearTx n) b).rx m q = b.rx m q := by
  induction l generalizing b with
  | nil => rfl
  | cons k l ih => rw [List.foldl_cons, ih, rx_clearTx]

theorem opened_clearTx (n : Nat) (b : Block) (k q : Nat) : ((b.clearTx n k).tx n q).opened =
    if q = k then false else (b.tx n q).opened := by
  unfold Block.clearTx
  dsimp only
  rw [Block.tx_modTx]
  by_cases hq : q = k
  · rw [if_pos ⟨rfl, hq.symm⟩, if_pos hq]
  · rw [if_neg fun h => hq h.2.symm, if_neg hq, Block.tx, Block.chan_modChan_self]
    rfl

theorem opened_foldl_clearTx (n : Nat) (l : List Nat) (b : Block) (q : Nat)
    (h : q ∈ l ∨ (b.tx n q).opened = false) : ((l.foldl (Block.clearTx n) b).tx n q).opened = false := by
  induction l generalizing b with
  | nil => exact h.resolve_left (by simp)
  | cons k l ih =>
    refine ih _ ?_
    rw [opened_clearTx]
    by_cases hq : q = k
    · exact .inr (if_pos hq)
    · rw [if_neg hq]
      exact h.imp_left fun hmem => (List.mem_cons.1 hmem).resolve_left hq

/-- R400: what a clear leaves of each of a Bead's queues and ports. -/
theorem cleared {p : Params} {n q : Nat} (b : Block) (hq : q < (p.bead n).chnQueues) :
    (b.clearChannels p n).rx n q = (b.rx n q).clear ∧ ((b.clearChannels p n).tx n q).opened = false := by
  have hmem : q ∈ List.range (p.bead n).chnQueues := List.mem_range.2 hq
  refine ⟨?_, opened_foldl_clearTx n _ _ q (.inl hmem)⟩
  refine (rx_foldl_clearTx n _ _ n q).trans ?_
  rw [rx_foldl_clearRx p n _ List.nodup_range, if_pos hmem]

theorem clearChannels_only (p : Params) (b : Block) (n : Nat) :
    ∃ ch lk, b.clearChannels p n = { b with chans := ch, lkt := lk } :=
  ⟨_, _, (Block.clearChannels_frame p b n).eq⟩

/-- Settles O50: messages and credits by the crossing that they enter or by the queue or port that they reach, CTL CLEAR
by what it leaves of each queue and port. -/
theorem messagesAndCreditsTravel : Obligations.MessagesAndCreditsTravel := by
  refine ⟨?send, ?within, ?clasp, ?credit, ?port, ?returns, ?home, ?clear⟩
  case send =>
    intro s n x r hstaging hd
    have hrun : exec (.chnMessageSend n) s = .next { s with blk := if s.blk.roomUp s.params n then
        ((s.blk.modChan n fun c => { c with staging := r }).sendUp s.params n
          (chnRec s.params n (s.blk.tx n x.port).dqueue (s.blk.tx n x.port).dbead x.flits)) else s.blk } := by
      refine next_block ?_
      unfold chnMessageSend
      rw [hstaging]
      dsimp only
      rw [if_neg hd]
      cases s.blk.roomUp s.params n with
      | true => simp
      | false => simp [hd]
    refine ⟨fun hroom => ?_, fun hroom => ⟨_, ?_, rfl, fun hpos => stagingUsed_send hstaging hroom hpos _ _⟩⟩
    · rw [hrun, hroom]
      rfl
    · rw [hrun, hroom]
      rfl
  case within =>
    intro s n x r hstaging hd hlen hopen hdiscard hroom hdrain
    obtain ⟨f, hf⟩ := List.length_eq_one_iff.1 hlen
    have hrx (k : Nat) : (s.blk.modChan n fun c => { c with staging := r }).rx n k = s.blk.rx n k := by
      rw [Block.rx_modChan, if_pos rfl]
      rfl
    have hstores := storesOneFlit (p := s.params) (b := s.blk.modChan n fun c => { c with staging := r }) (n := n)
      (k := (s.blk.tx n x.port).dqueue) f (by rw [hrx]; exact hopen) (by rw [hrx]; exact hdiscard)
      (by rw [hrx]; exact hroom) (by rw [hrx]; exact hdrain)
    rw [hrx] at hstores
    obtain ⟨hword, hwp, hst⟩ := hstores
    refine ⟨_, next_block ?_, ?_, ?_, hwp⟩
    · unfold chnMessageSend
      rw [hstaging]
      dsimp only
      rw [if_neg (by simp [hd]), if_pos hd, hf]
      rfl
    · rw [hst, Block.chan_modChan_self]
    · rw [hword, hf]
      rfl
  case clasp =>
    intro s n q total d fs b0 hacts hstate hlane
    obtain ⟨l, rfl⟩ := Block.received_onlyLanes hacts.1
    refine ⟨fun hroom => next_block ?_, fun hroom => next_block ?_⟩
    · unfold chn
      rw [if_pos rfl, if_pos hroom, Block.onUp_acts _ hacts, Block.chnDown, if_neg]
      simp only [Bool.or_eq_true, beq_iff_eq, not_or, Bool.not_eq_true]
      exact ⟨hstate, hlane⟩
    · unfold chn
      rw [if_pos rfl, if_neg (by simp [hroom])]
  case credit =>
    intro s n q w r b0 hacts hroute
    obtain ⟨l, rfl⟩ := Block.received_onlyLanes hacts.1
    have hcreditRoom : s.blk.creditRoom s.params n q.toNat = s.blk.roomDown s.params r.srcBead := by
      rw [Block.creditRoom, hroute]
    refine ⟨fun hroom => next_block ?_, fun hroom => next_block ?_⟩
    · unfold Machine.credit
      rw [if_pos rfl, hcreditRoom, if_pos hroom, Block.onUp_acts _ hacts, hroute]
    · unfold Machine.credit
      rw [if_pos rfl, hcreditRoom, if_neg (by simp [hroom])]
  case port =>
    intro s n q w b0 hacts
    obtain ⟨l, rfl⟩ := Block.received_onlyLanes hacts.1
    refine ⟨_, next_block ((if_neg (by simp)).trans (Block.atBead_acts _ hacts)), tx_addCredit _ _ _ _, ?_, ?_⟩
    · rw [rx_addCredit]
      by_cases hover : 64 < (s.blk.tx n q.toNat).credit + w.toNat
      · rw [if_pos ⟨⟨rfl, rfl⟩, hover⟩]
        simp [hover]
      · rw [if_neg fun h => hover h.2]
        simp only [hover, false_or]
        rfl
    · obtain ⟨ch, hch⟩ := addCredit_only { s.blk with lanes := l } n q.toNat w.toNat
      rw [hch]
  case returns =>
    intro s n q hunret hroute hd
    refine ⟨fun hroom => next_block ?_, fun hroom => next_block ?_⟩
    · rw [creditReturn_returns hunret hroute (.inr hroom), if_neg hd]
      rfl
    · exact if_pos (.inr (.inr ⟨hd, by simp [hroom]⟩))
  case home =>
    intro s n q hunret hroute hd
    refine ⟨_, next_block ((creditReturn_returns hunret hroute (.inl hd)).trans (if_pos hd)), ?_, ?_, ?_⟩
    · rw [rx_addCredit]
      split
      · exact congrArg RxQueue.unreturned (Block.rx_modRx_self _ _ _ _)
      · exact congrArg RxQueue.unreturned (Block.rx_modRx_self _ _ _ _)
    · rw [tx_addCredit, tx_of_chans (chans_rxProgress _ _ _), Block.tx_modRx]
    · obtain ⟨ch, hch⟩ := addCredit_only ((s.blk.modRx n q fun q => { q with unreturned := 0 }).rxProgress n q) n
        (s.blk.rx n q).sport (s.blk.rx n q).unreturned
      rw [hch]
      rfl
  case clear =>
    intro s n part b0 hacts
    obtain ⟨l, rfl⟩ := Block.received_onlyLanes hacts.1
    obtain ⟨ch, lk, hclear⟩ := clearChannels_only s.params { s.blk with lanes := l } n
    have hcleared {q : Nat} (hq : q < (s.params.bead n).chnQueues) := cleared { s.blk with lanes := l } hq
    rw [hclear] at hcleared
    have hrun : exec (.ctlClear n part) s = .next { s with
        blk := (Block.clearTiles { s.blk with lanes := l, chans := ch, lkt := lk } n).beadLocket s.params n 64 0x14
          (pack [(part.toNat, 4, 0)]) } := by
      refine next_block ((Block.atBead_acts _ hacts).trans ?_)
      dsimp only
      rw [hclear]
    refine ⟨_, hrun, fun q hq => ?_, Block.pbead_modPbead_self _ n _, fun k hk => Block.pbead_modPbead_ne _ _ (Ne.symm hk), rfl⟩
    obtain ⟨hrx, htx⟩ := hcleared hq
    have hqueue : (Block.beadLocket s.params (Block.clearTiles { s.blk with lanes := l, chans := ch, lkt := lk } n) n 64 0x14
      (pack [(part.toNat, 4, 0)])).rx n q = (s.blk.rx n q).clear := hrx
    rw [hqueue]
    exact ⟨rfl, rfl, rfl, rfl, rfl, rfl, rfl, by simp [RxQueue.clear], htx⟩

end Sys2Proof.Machine
end

section
/-! SUPPORT. Stops (R490 to R496): what the halt wave, the end of a stop, the freeze and RESUME leave of the lanes, the
Beads, the partitions and the submissions. -/

namespace Sys2Proof.Machine

/-! ### Folds over the entries of a table -/

/-- A fold of a change that applies once to an entry, however often its index is met. The relation `I` holds throughout,
so that the change may depend on what stays. -/
theorem foldl_get {σ β : Type} {I : σ → Prop} {get : σ → Nat → β} {f : σ → Nat → σ} {g : Nat → β → β}
    (hI : ∀ s n, I s → I (f s n)) (hf : ∀ s n k, I s → get (f s n) k = if n = k then g k (get s k) else get s k)
    (hg : ∀ k x, g k (g k x) = g k x) (l : List Nat) (s : σ) (hs : I s) (k : Nat) :
    get (l.foldl f s) k = if k ∈ l then g k (get s k) else get s k := by
  induction l generalizing s with
  | nil => rfl
  | cons n l ih =>
    rw [List.foldl_cons, ih _ (hI s n hs), hf s n k hs]
    by_cases hnk : n = k
    · subst hnk
      simp [hg]
    · simp [hnk, Ne.symm hnk]

/-! ### Halting and resuming the Beads and the partitions -/

/-- From `b` to `b'` nothing but the lanes and the Clasp's record of the Beads has moved. -/
def Block.Halts (b b' : Block) : Prop := ∃ l bs, b' = { b with lanes := l, parts := { b.parts with beads := bs } }

theorem Block.Halts.refl (b : Block) : b.Halts b := ⟨_, _, rfl⟩

theorem Block.Halts.trans {a b c : Block} (h : a.Halts b) (g : b.Halts c) : a.Halts c := by
  obtain ⟨l, bs, rfl⟩ := h
  obtain ⟨l', bs', rfl⟩ := g
  exact ⟨l', bs', rfl⟩

theorem Block.Halts.foldl {α : Type} {f : Block → α → Block} (hf : ∀ (b : Block) x, b.Halts (f b x)) (l : List α) (b : Block) :
    b.Halts (l.foldl f b) := by
  induction l generalizing b with
  | nil => exact .refl b
  | cons x l ih => exact (hf b x).trans (ih _)

theorem halts_modPbead (b : Block) (n : Nat) (f : PBead → PBead) : b.Halts (b.modPbead n f) := ⟨_, _, rfl⟩

theorem halts_sendDown (p : Params) (b : Block) (n : Nat) (r : Rec) : b.Halts (b.sendDown p n r) := by
  unfold Block.sendDown
  split
  · exact .refl b
  · exact ⟨_, _, rfl⟩

theorem halts_haltBead (p : Params) (b : Block) (n : Nat) : b.Halts (b.haltBead p n) := by
  unfold Block.haltBead
  split
  · exact (halts_sendDown p b n _).trans (halts_modPbead _ n _)
  · exact .refl b

theorem halts_resumeBead (p : Params) (b : Block) (n : Nat) : b.Halts (b.resumeBead p n) := by
  unfold Block.resumeBead
  dsimp only
  split
  · exact .refl b
  · split
    · exact halts_modPbead b n _
    · exact (halts_sendDown p b n _).trans (halts_modPbead _ n _)

theorem onlyParts_foldl_pausePart (l : List Nat) (b : Block) :
    ∃ ps, l.foldl Block.pausePart b = { b with parts := { b.parts with parts := ps } } := by
  induction l generalizing b with
  | nil => exact ⟨_, rfl⟩
  | cons q l ih =>
    obtain ⟨ps, h⟩ := ih (b.pausePart q)
    exact ⟨ps, h⟩

/-- R490, R492: the record of a Bead that a CTL HALT goes to. -/
def PBead.halt (x : PBead) : PBead :=
  if x.stop = 0 ∧ x.state ≠ .fenced then { x with stop := if x.frozen = true ∧ x.reported = true then 2 else 1 } else x

theorem PBead.halt_halt (x : PBead) : x.halt.halt = x.halt := by
  unfold PBead.halt
  by_cases h : x.stop = 0 ∧ x.state ≠ .fenced
  · rw [if_pos h]
    refine if_neg fun hz => ?_
    have : (if x.frozen = true ∧ x.reported = true then 2 else 1) = 0 := hz.1
    split at this <;> omega
  · rw [if_neg h, if_neg h]

theorem pbead_haltBead (p : Params) (b : Block) (n k : Nat) :
    (b.haltBead p n).pbead k = if n = k then (b.pbead k).halt else b.pbead k := by
  unfold Block.haltBead PBead.halt
  by_cases hnk : n = k
  · subst hnk
    by_cases h : (b.pbead n).stop = 0 ∧ (b.pbead n).state ≠ .fenced
    · have hsame : (b.sendDown p n (ctlRec p n 1 b.lkt.epoch)).pbead n = b.pbead n := by simp [Block.pbead]
      rw [if_pos (by simpa using h), Block.pbead_modPbead_self, if_pos rfl, if_pos h, hsame]
      simp
    · rw [if_neg (by simpa using h), if_pos rfl, if_neg h]
  · rw [if_neg hnk]
    split
    · rw [Block.pbead_modPbead_ne _ _ hnk]
      simp [Block.pbead]
    · rfl

theorem pbead_foldl_haltBead (p : Params) (l : List Nat) (b : Block) (k : Nat) :
    (l.foldl (Block.haltBead p) b).pbead k = if k ∈ l then (b.pbead k).halt else b.pbead k :=
  foldl_get (I := fun _ => True) (get := Block.pbead) (g := fun _ => PBead.halt) (fun _ _ _ => trivial)
    (fun b n k _ => pbead_haltBead p b n k) (fun _ => PBead.halt_halt) l b trivial k

theorem part_foldl_pausePart (l : List Nat) (b : Block) (k : Nat) : (l.foldl Block.pausePart b).part k =
    if k ∈ l then { b.part k with paused := some ((b.part k).paused.getD b.now) } else b.part k := by
  refine foldl_get (I := fun c => c.now = b.now) (get := Block.part) (f := Block.pausePart)
    (g := fun _ x => { x with paused := some (x.paused.getD b.now) })
    (fun c n (h : c.now = b.now) => h) (fun c n k (h : c.now = b.now) => ?_) (fun _ _ => rfl) l b rfl k
  rw [Block.pausePart, Block.part_modPart, h]

/-- A message down moves the lanes of two blocks alike, where they agree on what it depends on. -/
theorem lanes_sendDown_congr {p : Params} {b c : Block} {n : Nat} (hlanes : b.lanes = c.lanes) (hnow : b.now = c.now)
    (hbead : (b.pbead n).state = (c.pbead n).state) (r : Rec) :
    (b.sendDown p n r).lanes = (c.sendDown p n r).lanes := by
  unfold Block.sendDown
  rw [hbead]
  split
  · exact hlanes
  · simp only [Block.modLane, hlanes, hnow]

/-- R492: the lanes after the halt wave are those after the CTL HALTs that it sends. -/
theorem lanes_foldl_haltBead {p : Params} {e : Nat} (b : Block) : ∀ (l : List Nat), l.Nodup → ∀ (c x : Block),
    c.lanes = x.lanes → c.now = x.now → c.lkt.epoch = e → x.parts = b.parts → (∀ n, n ∈ l → c.pbead n = b.pbead n) →
    (l.foldl (Block.haltBead p) c).lanes =
      (l.foldl (fun x n => if (b.pbead n).stop = 0 then x.sendDown p n (ctlRec p n 1 e) else x) x).lanes
  | [], _, _, _, hlanes, _, _, _, _ => hlanes
  | n :: l, hnodup, c, x, hlanes, hnow, hepoch, hparts, hbeads => by
    obtain ⟨hn, hnodup⟩ := List.nodup_cons.1 hnodup
    have hcn : c.pbead n = b.pbead n := hbeads n (.head _)
    have hxn : x.pbead n = b.pbead n := by rw [Block.pbead, hparts]; rfl
    have hkeep : ∀ k, k ∈ l → (c.haltBead p n).pbead k = b.pbead k := fun k hk => by
      rw [pbead_haltBead, if_neg (fun h : n = k => hn (h ▸ hk)), hbeads k (.tail _ hk)]
    obtain ⟨ls, bs, hhalts⟩ := halts_haltBead p c n
    rw [List.foldl_cons, List.foldl_cons]
    refine lanes_foldl_haltBead b l hnodup _ _ ?_ ?_ ?_ ?_ hkeep
    · by_cases hstop : (b.pbead n).stop = 0
      · rw [if_pos hstop]
        by_cases hfenced : (b.pbead n).state = .fenced
        · rw [Block.haltBead, if_neg (by rw [hcn]; simp [hfenced]), Block.sendDown, hxn, if_pos (by simp [hfenced]), hlanes]
        · rw [Block.haltBead, if_pos (by rw [hcn]; simp [hstop, hfenced]), hepoch]
          exact lanes_sendDown_congr hlanes hnow (by rw [hcn, hxn]) _
      · rw [if_neg hstop, Block.haltBead, if_neg (by rw [hcn]; simp [hstop]), hlanes]
    · rw [hhalts]
      split
      · simpa using hnow
      · exact hnow
    · rw [hhalts]
      exact hepoch
    · split
      · simpa using hparts
      · exact hparts

theorem pbead_resumeBead (p : Params) (b : Block) (n k : Nat) :
    (b.resumeBead p n).pbead k = if n = k then { b.pbead k with stop := 0 } else b.pbead k := by
  unfold Block.resumeBead
  dsimp only
  by_cases hstop : (b.pbead n).stop = 0
  · rw [if_pos hstop]
    split
    · next h => subst h; rw [← hstop]
    · rfl
  · rw [if_neg hstop, Block.pbead_modPbead]
    have hsame : (if ((b.pbead n).frozen || (b.pbead n).state == .fenced) = true then b
        else b.sendDown p n (ctlRec p n 2 0)).pbead k = b.pbead k := by
      split
      · rfl
      · simp [Block.pbead]
    rw [hsame]

theorem pbead_foldl_resumeBead (p : Params) (l : List Nat) (b : Block) (k : Nat) :
    (l.foldl (Block.resumeBead p) b).pbead k = if k ∈ l then { b.pbead k with stop := 0 } else b.pbead k :=
  foldl_get (I := fun _ => True) (get := Block.pbead) (g := fun _ x => { x with stop := 0 }) (fun _ _ _ => trivial)
    (fun b n k _ => pbead_resumeBead p b n k) (fun _ _ => rfl) l b trivial k

/-- R496: a partition whose quantum goes on at `now`. -/
def Part.unpause (now : Nat) (x : Machine.Part) : Machine.Part :=
  { x with
    paused := none
    since := match x.paused with
      | none => x.since
      | some t => x.since + (now - max t x.since) }

/-- From `b` to `b'` nothing but the partitions and the record of the stops has moved. -/
def Block.Unpauses (b b' : Block) : Prop :=
  ∃ ps st, b' = { b with parts := { b.parts with parts := ps }, lkt := { b.lkt with stops := st } }

theorem unpauses_unpausePart (b : Block) (q : Nat) : b.Unpauses (b.unpausePart q) := by
  unfold Block.unpausePart
  split
  · exact ⟨_, _, rfl⟩
  · exact ⟨_, _, rfl⟩

theorem unpauses_foldl (l : List Nat) (b : Block) : b.Unpauses (l.foldl Block.unpausePart b) := by
  induction l generalizing b with
  | nil => exact ⟨_, _, rfl⟩
  | cons q l ih =>
    rw [List.foldl_cons]
    obtain ⟨ps, st, h⟩ := unpauses_unpausePart b q
    obtain ⟨ps', st', h'⟩ := ih (b.unpausePart q)
    rw [h'] 
    rw [h]
    exact ⟨ps', st', rfl⟩

theorem part_unpausePart (b : Block) (q k : Nat) :
    (b.unpausePart q).part k = if q = k then (b.part k).unpause b.now else b.part k := by
  unfold Block.unpausePart
  split
  · next hnone =>
    split
    · next h => subst h; simp only [Part.unpause, hnone]; rw [← hnone]
    · rfl
  · next t hsome =>
    refine (Block.part_modPart b q k _).trans ?_
    split
    · next h => subst h; simp [Part.unpause, hsome]
    · rfl

theorem part_foldl_unpausePart (l : List Nat) (b : Block) (k : Nat) :
    (l.foldl Block.unpausePart b).part k = if k ∈ l then (b.part k).unpause b.now else b.part k := by
  refine foldl_get (I := fun c => c.now = b.now) (get := Block.part) (g := fun _ x => x.unpause b.now)
    (fun c n (h : c.now = b.now) => ?_) (fun c n k (h : c.now = b.now) => ?_) (fun _ x => ?_) l b rfl k
  · obtain ⟨ps, st, hu⟩ := unpauses_unpausePart c n
    rw [hu]
    exact h
  · rw [part_unpausePart, h]
  · simp [Part.unpause]

/-! ### The frozen lanes (R495, R496) -/

theorem Lane.frozen_unfreeze (x : Lane) : x.unfreeze.frozen = x.frozen := by
  unfold Lane.unfreeze
  split
  · rfl
  · split <;> rfl

theorem Lane.unfreeze_unfreeze (x : Lane) : x.unfreeze.unfreeze = x.unfreeze := by
  by_cases hf : x.frozen = true
  · have hu : x.unfreeze = { x with want := some 0 } := if_pos hf
    rw [Lane.unfreeze, Lane.frozen_unfreeze, if_pos hf, hu]
  · by_cases hw : x.want = some 2
    · have hu : x.unfreeze = { x with want := none } := (if_neg hf).trans (if_pos hw)
      rw [Lane.unfreeze, Lane.frozen_unfreeze, if_neg hf, hu]
      rfl
    · have hu : x.unfreeze = x := (if_neg hf).trans (if_neg hw)
      rw [hu, hu]

/-- The block whose lanes in FREEZE are to be turned back to RUN. -/
def Block.unfrozen (b : Block) : Block := (b.lanes.map (·.1)).foldl (fun b n => b.modLane n Lane.unfreeze) b

theorem onlyLanes_foldl_modLane (f : Lane → Lane) (l : List Nat) (b : Block) :
    ∃ ls, l.foldl (fun b n => b.modLane n f) b = { b with lanes := ls } := by
  induction l generalizing b with
  | nil => exact ⟨_, rfl⟩
  | cons n l ih =>
    obtain ⟨ls, h⟩ := ih (b.modLane n f)
    exact ⟨ls, h⟩

theorem lane_foldl_modLane {f : Lane → Lane} (hf : ∀ x, f (f x) = f x) (l : List Nat) (b : Block) (k : Nat) :
    (l.foldl (fun b n => b.modLane n f) b).lane k = if k ∈ l then f (b.lane k) else b.lane k :=
  foldl_get (I := fun _ => True) (get := Block.lane) (g := fun _ => f) (fun _ _ _ => trivial)
    (fun b n k _ => Block.lane_modLane b n k f) (fun _ => hf) l b trivial k

theorem lane_unfrozen (b : Block) (k : Nat) : b.unfrozen.lane k = (b.lane k).unfreeze := by
  rw [Block.unfrozen, lane_foldl_modLane Lane.unfreeze_unfreeze]
  split
  · rfl
  · next h =>
    have hreset : b.lane k = {} := by
      by_contra hne
      exact h (List.mem_map_of_mem (f := (·.1)) (mem_of_tget_ne hne))
    rw [hreset]
    rfl

theorem all_not_frozen_modLane {b : Block} (h : (b.lanes.all fun t => !t.2.frozen) = true) (n : Nat) :
    ((b.modLane n Lane.unfreeze).lanes.all fun t => !t.2.frozen) = true := by
  refine tset_all (fun t : Nat × Lane => !t.2.frozen) _ _ _ h ?_
  rw [Lane.frozen_unfreeze]
  by_cases hreset : tget {} b.lanes n = {}
  · rw [hreset]
    rfl
  · exact List.all_eq_true.1 h _ (mem_of_tget_ne hreset)

theorem any_frozen_unfrozen_eq_false {b : Block} (h : ∀ t, t ∈ b.lanes → t.2.frozen = false) :
    (b.unfrozen.lanes.any fun t => t.2.frozen) = false := by
  have hall : ∀ (l : List Nat) (c : Block), (c.lanes.all fun t => !t.2.frozen) = true →
      ((l.foldl (fun b n => b.modLane n Lane.unfreeze) c).lanes.all fun t => !t.2.frozen) = true := by
    intro l
    induction l with
    | nil => exact fun c hc => hc
    | cons n l ih => exact fun c hc => ih _ (all_not_frozen_modLane hc n)
  have hunfrozen := hall (b.lanes.map (·.1)) b (List.all_eq_true.2 fun t ht => by rw [h t ht]; rfl)
  refine List.any_eq_false.2 fun t ht => ?_
  simpa using List.all_eq_true.1 hunfrozen t ht

theorem any_frozen_unfrozen {b : Block} (hwf : Tab.wf {} b.lanes = true) (h : ∃ t, t ∈ b.lanes ∧ t.2.frozen = true) :
    (b.unfrozen.lanes.any fun t => t.2.frozen) = true := by
  obtain ⟨t, ht, hfrozen⟩ := h
  have hlane : b.lane t.1 = t.2 := tget_of_mem hwf ht
  have hfrozen' : (b.unfrozen.lane t.1).frozen = true := by rw [lane_unfrozen, Lane.frozen_unfreeze, hlane, hfrozen]
  refine List.any_eq_true.2 ⟨_, mem_of_tget_ne (d := ({} : Lane)) (i := t.1) fun hreset => ?_, hfrozen'⟩
  rw [Block.lane, hreset] at hfrozen'
  cases hfrozen'

/-! ### RESUME (R496) -/

theorem sub_resume (subs : Tab Sub) (g : Nat) :
    tget {} (subs.map fun t => (t.1, t.2.resume)) g = (tget {} subs g).resume := by
  induction subs with
  | nil => rfl
  | cons t subs ih =>
    obtain ⟨j, x⟩ := t
    simp only [List.map_cons, tget]
    split
    · rfl
    · exact ih

/-- What RESUME leaves of the block, once no lane stands in FREEZE. -/
structure Block.Resumed (p : Params) (c b : Block) : Prop where
  lkt : b.lkt = { c.lkt with
    state := .run, kind := 0, pmask := 0, breakV := false, freeze := false, resumeDue := false, resuming := false
    stops := b.lkt.stops, rings := b.lkt.rings }
  bead : ∀ n, b.pbead n = if n < p.nBeads then { c.pbead n with stop := 0 } else c.pbead n
  sub : ∀ g, b.sub g = (c.sub g).resume
  part : ∀ q, q < 16 → b.part q = (c.part q).unpause c.now
  pends : ∀ k, c.evc.pends k = true → b.evc.pends k = true
  only : b = { c with mp := b.mp, lanes := b.lanes, front := b.front, link := b.link, parts := b.parts,
                      graph := { c.graph with subs := b.graph.subs },
                      evc := { c.evc with pend := b.evc.pend }, trace := b.trace, lkt := b.lkt }

theorem onlyFetch_foldl_requestMore (l : List Nat) (b : Block) :
    ∃ m f, l.foldl Block.requestMore b = { b with mp := m, front := f } :=
  ⟨_, _, (Block.Frame.foldl (t := 1088) (fun b x => Block.requestMore_frame b x) l (.refl _ b)).eq⟩

/-- R496: the block whose submissions have passed their breakpoints. -/
def Block.resumeSubs (b : Block) : Block :=
  { b with graph := { b.graph with subs := b.graph.subs.map fun t => (t.1, t.2.resume) } }

/-- R496: no stop stands any more. -/
def Block.toRun (b : Block) : Block :=
  { b with lkt := { b.lkt with
      state := .run, kind := 0, pmask := 0, breakV := false, freeze := false, resumeDue := false, resuming := false } }

/-- R496, step 4: fetch and the link port go on. -/
def Block.fetchOn (b : Block) : Block := ((b.front.hws.map (·.1)).foldl Block.requestMore b).txStart

theorem resumeRest_eq (p : Params) (c : Block) : c.resumeRest p =
    let d := ((List.range 16).foldl Block.unpausePart
      ((List.range p.nBeads).foldl (Block.resumeBead p) c).resumeSubs).toRun
    ((d.claspLocket 0x36 (pack [(d.lkt.epoch, 32, 0)])).traceDebug 4).fetchOn := by
  unfold Block.resumeRest Block.fetchOn Block.toRun Block.resumeSubs
  rfl

theorem fetchOn_eq (b : Block) : ∃ m f ln, b.fetchOn = { b with mp := m, front := f, link := ln } := by
  obtain ⟨m, f, hfetch⟩ := onlyFetch_foldl_requestMore (b.front.hws.map (·.1)) b
  rw [Block.fetchOn, hfetch]
  exact ⟨m, f, _, (Block.txStart_frame _).eq⟩

/-- The event of a resumed block moves pending bits and the trace writer alone, and takes no bit back. -/
theorem traceDebug_eq (b : Block) (kind : Nat) : ∃ v t,
    b.traceDebug kind = { b with evc := { b.evc with pend := v }, trace := t }
      ∧ ∀ k, b.evc.pends k = true → v.getLsbD k = true := by
  have hpends (k : Nat) := pends_traceEvent b 11 1 (pack [(kind, 4, 0), (b.lkt.epoch, 32, 16)]) [] k
  obtain ⟨v, t, htrace⟩ := pendsAndTraces_traceEvent b 11 1 (pack [(kind, 4, 0), (b.lkt.epoch, 32, 16)]) []
  rw [htrace] at hpends
  refine ⟨v, t, htrace, fun k hk => ?_⟩
  obtain hsame | ⟨-, hset⟩ := hpends k
  · exact hsame.trans hk
  · exact hset

/-- R496, steps 2 to 4. -/
theorem resumed_resumeRest (p : Params) (c : Block) : c.Resumed p (c.resumeRest p) := by
  rw [resumeRest_eq]
  have hbeads := pbead_foldl_resumeBead p (List.range p.nBeads) c
  obtain ⟨l, bs, hhalts⟩ := Block.Halts.foldl (halts_resumeBead p) (List.range p.nBeads) c
  generalize (List.range p.nBeads).foldl (Block.resumeBead p) c = c1 at *
  have hparts := part_foldl_unpausePart (List.range 16) c1.resumeSubs
  obtain ⟨ps', st, hunpauses⟩ := unpauses_foldl (List.range 16) c1.resumeSubs
  generalize (List.range 16).foldl Block.unpausePart c1.resumeSubs = c2 at *
  dsimp only
  obtain ⟨v, t, htrace, hpends⟩ := traceDebug_eq (c2.toRun.claspLocket 0x36 (pack [(c2.toRun.lkt.epoch, 32, 0)])) 4
  rw [htrace]
  obtain ⟨m, f, ln, hfetch⟩ := fetchOn_eq { c2.toRun.claspLocket 0x36 (pack [(c2.toRun.lkt.epoch, 32, 0)]) with
    evc := { (c2.toRun.claspLocket 0x36 (pack [(c2.toRun.lkt.epoch, 32, 0)])).evc with pend := v }, trace := t }
  rw [hfetch]
  clear htrace hfetch
  subst hunpauses hhalts
  refine ⟨rfl, fun n => ?_, fun g => sub_resume _ g, fun q hq => ?_, hpends, rfl⟩
  · exact (hbeads n).trans (by simp only [List.mem_range])
  · refine (hparts q).trans ?_
    rw [if_pos (List.mem_range.2 hq)]
    rfl

/-- What RESUME leaves where lanes stand in FREEZE, and where none does. -/
theorem resume_frozen {p : Params} {c : Block} (h : (c.unfrozen.lanes.any fun t => t.2.frozen) = true) :
    c.resume p = { c.unfrozen with lkt := { c.unfrozen.lkt with resuming := true, freeze := false, resumeDue := false } } :=
  if_neg fun hgo => by rw [Bool.and_eq_true, Bool.not_eq_true'] at hgo; exact absurd (h.symm.trans hgo.2) (by decide)

theorem resume_unfrozen {p : Params} {c : Block} (h : (c.unfrozen.lanes.any fun t => t.2.frozen) = false) : c.resume p =
    { c.unfrozen with lkt := { c.unfrozen.lkt with resuming := true, freeze := false, resumeDue := false } }.resumeRest p :=
  if_pos (by rw [Bool.and_eq_true, Bool.not_eq_true']; exact ⟨rfl, h⟩)

/-- The lanes and what RESUME sets of the stop first do not count. -/
theorem Block.Resumed.of_unfrozen {p : Params} {c b : Block} {ls : Tab Lane} (h : Block.Resumed p { c with
    lanes := ls, lkt := { c.lkt with resuming := true, freeze := false, resumeDue := false } } b) : c.Resumed p b := by
  obtain ⟨hlkt, hbead, hsub, hpart, hpends, honly⟩ := h
  exact ⟨hlkt, hbead, hsub, hpart, hpends, honly⟩

/-- RESUME where no lane stands in FREEZE. -/
theorem resumed_resume {p : Params} {c : Block} (h : ∀ t, t ∈ c.lanes → t.2.frozen = false) :
    c.Resumed p (c.resume p) := by
  rw [resume_unfrozen (any_frozen_unfrozen_eq_false h)]
  obtain ⟨ls, hlanes⟩ := onlyLanes_foldl_modLane Lane.unfreeze (c.lanes.map (·.1)) c
  rw [Block.unfrozen, hlanes]
  exact .of_unfrozen (resumed_resumeRest p _)

/-! ### Commands -/

/-- R492: the block in a halt of the given epoch, before it pauses the partitions. -/
def Block.halting (c : Block) (f : Bool) : Block :=
  { c with lkt := { c.lkt with
      state := .stopping, kind := 2, epoch := wrapAdd 32 c.lkt.epoch 1, pmask := 0xFFFF#16, freeze := f } }

theorem haltWave_eq (p : Params) (c : Block) (f : Bool) : c.haltWave p f =
    let d := (List.range 16).foldl Block.pausePart (c.halting f)
    let d := d.claspLocket 0x35 (pack [(d.lkt.epoch, 32, 0)])
    d.setting.activeBeads.foldl (Block.haltBead p) d := by
  unfold Block.haltWave Block.halting
  dsimp only

/-- R492: what the halt wave leaves of the block. -/
structure Block.HaltWave (p : Params) (c : Block) (f : Bool) (b : Block) : Prop where
  lkt : b.lkt = { c.lkt with
    state := .stopping, kind := 2, epoch := wrapAdd 32 c.lkt.epoch 1, pmask := 0xFFFF#16, freeze := f
    rings := b.lkt.rings }
  bead : ∀ n, b.pbead n = if n ∈ c.setting.activeBeads then (c.pbead n).halt else c.pbead n
  part : ∀ q, b.part q = if q < 16 then { c.part q with paused := some ((c.part q).paused.getD c.now) } else c.part q
  lanes : c.setting.activeBeads.Nodup → b.lanes = (c.setting.activeBeads.foldl (fun x n =>
    if (c.pbead n).stop = 0 then x.sendDown p n (ctlRec p n 1 (wrapAdd 32 c.lkt.epoch 1)) else x) c).lanes
  only : b = { c with lanes := b.lanes, lkt := b.lkt
                      parts := { c.parts with parts := b.parts.parts, beads := b.parts.beads } }

theorem haltWave_spec (p : Params) (c : Block) (f : Bool) : Block.HaltWave p c f (c.haltWave p f) := by
  rw [haltWave_eq]
  have hpart := part_foldl_pausePart (List.range 16) (c.halting f)
  obtain ⟨ps, hparts⟩ := onlyParts_foldl_pausePart (List.range 16) (c.halting f)
  rw [hparts] at hpart ⊢
  dsimp only
  generalize hd : Block.claspLocket _ 0x35 _ = d
  have hbead := pbead_foldl_haltBead p d.setting.activeBeads d
  have hlanes := lanes_foldl_haltBead (p := p) (e := wrapAdd 32 c.lkt.epoch 1) c d.setting.activeBeads
  obtain ⟨ls, bs, hhalts⟩ := Block.Halts.foldl (halts_haltBead p) d.setting.activeBeads d
  have hwave := fun hnodup => hlanes hnodup d c (by rw [← hd]; rfl) (by rw [← hd]; rfl) (by rw [← hd]; rfl) rfl
    (fun n _ => by rw [← hd]; rfl)
  rw [hhalts] at hbead hwave ⊢
  subst hd
  refine ⟨rfl, hbead, fun q => (hpart q).trans ?_, hwave, rfl⟩
  simp only [List.mem_range]
  rfl

/-- An invalid LKT_CMD is neither HALT nor RESUME. -/
theorem bits_cmd_invalid {d : BitVec 32} (h : d.getLsbD 0 = d.getLsbD 1) : bits d.toNat 1 0 ≠ 1 ∧ bits d.toNat 1 0 ≠ 2 := by
  have hcmd : ∀ x : BitVec 2, x.getLsbD 0 = x.getLsbD 1 → x.toNat ≠ 1 ∧ x.toNat ≠ 2 := by decide
  rw [bits_toNat d 1 0]
  exact hcmd _ (by simpa using h)

theorem stopWrite_refused (p : Params) {op : Nat} (f : Bool) {c : Block}
    (hhalt : op = 1 → c.lkt.state ≠ .run) (hresume : op = 2 → c.lkt.state = .run) :
    stopWrite p op f c = c.rejStop := by
  unfold stopWrite
  split
  · next h => exact absurd h (hhalt rfl)
  · next h => exact absurd ((hresume rfl).symm.trans h) (by decide)
  · next h => exact absurd ((hresume rfl).symm.trans h) (by decide)
  · next h => exact absurd ((hresume rfl).symm.trans h) (by decide)
  · rfl

theorem stopWrite_resume (p : Params) (f : Bool) {c : Block} (h : c.lkt.state = .stopped ∨ c.lkt.state = .frozen) :
    stopWrite p 2 f c = c.resume p := by
  unfold stopWrite
  obtain h | h := h
  · rw [h]
    rfl
  · rw [h]
    rfl

/-! ### The end of a stop -/

theorem stopComplete_waits (p : Params) {c : Block} (h : c.lkt.state ≠ .stopping ∨ c.stopDone = false) :
    stopComplete p c = c := by
  refine if_pos ?_
  obtain h | h := h
  · simp [h]
  · simp [h]

/-- R490: the block whose stop is complete, with source 12 raised. -/
def Block.stopped (c : Block) : Block :=
  (Block.traceDebug { c with lkt := { c.lkt with state := .stopped } } c.lkt.kind).raise 12

theorem stopComplete_eq (p : Params) {c : Block} (hstate : c.lkt.state = .stopping) (hdone : c.stopDone = true) :
    stopComplete p c = if c.stopped.lkt.resumeDue = true then c.stopped.resume p
      else if c.stopped.lkt.freeze = true then (c.stopped.activeLanes p).foldl (fun b l => b.modLane l fun x =>
        { x with want := some 2, snapDone := false }) c.stopped
      else c.stopped :=
  if_neg (by simp [hstate, hdone])

/-- What a DEBUG event and source 12 leave of a block. -/
theorem traceDebug_raise (c : Block) (kind : Nat) : ∃ v t,
    (c.traceDebug kind).raise 12 = { c with evc := { c.evc with pend := v }, trace := t } ∧ v.getLsbD 12 = true := by
  obtain ⟨v, t, hdebug, -⟩ := traceDebug_eq c kind
  obtain ⟨v', t', hraise⟩ := pendsAndTraces_raise (c.traceDebug kind) 12
  have hpends := (raised_raise (c.traceDebug kind) (n := 12) (by decide) (by decide)).1
  rw [hraise] at hpends ⊢
  rw [hdebug]
  exact ⟨v', t', rfl, hpends⟩

theorem stopped_eq (c : Block) : ∃ v t, c.stopped =
    { c with lkt := { c.lkt with state := .stopped }, evc := { c.evc with pend := v }, trace := t } ∧ v.getLsbD 12 = true :=
  traceDebug_raise { c with lkt := { c.lkt with state := .stopped } } c.lkt.kind

/-- R495: the freeze is complete. -/
def Block.freezeDone (p : Params) (c : Block) : Prop :=
  c.lkt.state = .stopped ∧ c.lkt.freeze = true ∧ (∀ l, l ∈ c.activeLanes p →
    (c.lane l).clasp.phase = 2 ∧ (c.lane l).snapDone = true) ∧ c.mp.writesFor (· == .dump) = false

theorem freezeComplete_eq (p : Params) (c : Block) : (c.freezeDone p →
      freezeComplete p c = (Block.traceDebug { c with lkt := { c.lkt with state := .frozen } } 3).raise 12)
    ∧ (¬ c.freezeDone p → freezeComplete p c = c) := by
  have hdone : (c.lkt.state == .stopped && c.lkt.freeze
      && ((c.activeLanes p).all fun l => (c.lane l).clasp.phase == 2 && (c.lane l).snapDone)
      && !c.mp.writesFor (· == .dump)) = true ↔ c.freezeDone p := by
    simp [Block.freezeDone, and_assoc]
  exact ⟨fun h => if_pos (hdone.2 h), fun h => if_neg fun hgo => h (hdone.1 hgo)⟩

/-- Settles O56: the halt wave and RESUME go through the Beads and the partitions one by one, and each is met as often as
it likes; the end of a stop raises source 12, which RESUME does not take back. -/
theorem stopsHoldAndEnd : Obligations.StopsHoldAndEnd := by
  refine ⟨fun s a hp => ⟨fun f hrun => ?halt, fun f hrun => ?haltRefused, fun hstop => ?resumeWaits, fun hrun => ?resumeRefused,
    fun hstate hlanes => ?resume, fun hstate hwf hfrozen => ?unfreeze, fun d hd => ?invalid⟩,
    fun s hstate hdone hdue => ?stopped, fun s hstate hdone hdue hlanes => ?stoppedResume, fun s h => ?notStopped,
    fun s => ⟨fun h => ?frozen, fun h => ?notFrozen⟩⟩
  case halt =>
    obtain ⟨hlkt, hbead, hpart, hlanes, honly⟩ := haltWave_spec s.params s.blk f
    have hwave : stopWrite s.params 1 f s.blk = s.blk.haltWave s.params f := by
      simp only [stopWrite, hrun]
    refine ⟨_, next_command hp _ hwave, hlkt, fun n => (hbead n).trans ?_, hpart, hlanes, honly⟩
    unfold PBead.halt
    rw [← ite_and]
  case haltRefused => exact next_command hp _ (stopWrite_refused _ f (fun _ => hrun) fun h => absurd h (by decide))
  case resumeWaits => exact next_command hp _ (by simp only [stopWrite, hstop])
  case resumeRefused => exact next_command hp _ (stopWrite_refused _ false (fun h => absurd h (by decide)) fun _ => hrun)
  case resume =>
    obtain ⟨hlkt, hbead, hsub, hpart, -, honly⟩ := resumed_resume (p := s.params) hlanes
    exact ⟨_, next_command hp _ (stopWrite_resume _ false hstate), hlkt, hbead, hsub, hpart, honly⟩
  case unfreeze =>
    have hrun := (stopWrite_resume s.params false hstate).trans (resume_frozen (any_frozen_unfrozen hwf hfrozen))
    have hlane := lane_unfrozen s.blk
    obtain ⟨ls, hlanes⟩ := onlyLanes_foldl_modLane Lane.unfreeze (s.blk.lanes.map (·.1)) s.blk
    rw [Block.unfrozen, hlanes] at hrun hlane
    exact ⟨_, next_command hp _ hrun, rfl, hlane, rfl⟩
  case invalid =>
    obtain ⟨h1, h2⟩ := bits_cmd_invalid hd
    exact next_command hp _ (stopWrite_refused _ _ (fun h => absurd h h1) fun h => absurd h h2)
  case stopped =>
    obtain ⟨v, t, hb, hpends⟩ := stopped_eq s.blk
    have hrun := (stopComplete_eq s.params hstate hdone).trans (if_neg (by rw [hb]; simp [hdue]))
    by_cases hfreeze : s.blk.lkt.freeze = true
    · have hrun := hrun.trans (if_pos (by rw [hb]; exact hfreeze))
      have hlane := lane_foldl_modLane (f := fun x => { x with want := some 2, snapDone := false }) (fun _ => rfl)
        (s.blk.stopped.activeLanes s.params) s.blk.stopped
      obtain ⟨ls, hlanes⟩ := onlyLanes_foldl_modLane (fun x => { x with want := some 2, snapDone := false })
        (s.blk.stopped.activeLanes s.params) s.blk.stopped
      rw [hlanes] at hrun hlane
      rw [hb] at hrun hlane
      exact ⟨_, next_block hrun, rfl, hpends, fun h => absurd (hfreeze.symm.trans h) (by decide), fun _ => hlane, rfl⟩
    · have hrun := hrun.trans (if_neg (by rw [hb]; exact hfreeze))
      rw [hb] at hrun
      exact ⟨_, next_block hrun, rfl, hpends, fun _ => rfl, fun h => absurd h hfreeze, rfl⟩
  case stoppedResume =>
    obtain ⟨v, t, hb, hpends⟩ := stopped_eq s.blk
    have hrun := (stopComplete_eq s.params hstate hdone).trans (if_pos (by rw [hb]; exact hdue))
    obtain ⟨hlkt, -, -, -, hkept, -⟩ := resumed_resume (p := s.params) (c := s.blk.stopped) (by rw [hb]; exact hlanes)
    refine ⟨_, next_block hrun, ?_, ?_, hkept 12 (by rw [hb]; exact hpends)⟩
    · rw [hlkt]
    · rw [hlkt]
  case notStopped => exact next_block (stopComplete_waits _ h)
  case frozen =>
    obtain ⟨v, t, hb, hpends⟩ := traceDebug_raise { s.blk with lkt := { s.blk.lkt with state := .frozen } } 3
    exact ⟨_, next_block (((freezeComplete_eq s.params s.blk).1 h).trans hb), rfl, hpends, rfl⟩
  case notFrozen => exact next_block ((freezeComplete_eq s.params s.blk).2 h)

end Sys2Proof.Machine
end

section
/-! SUPPORT. The loss of the LINK domain (R501) and a received signal that waits its turn (R247, R378): the state that
refutes the statement on power domains. -/

namespace Sys2Proof.Machine

/-- The SIGNAL packet that node 0 of submission 0 has sent to peer 5. -/
def signalSent : TxPacket := { words := signalPacket 0x10 5 0 1 Status.ok false 0, link := 0, peer := 0, by' := .signalNode 0 0 0 }

/-- The transmit queue holds the packet of submission 0. Its node 1 is a SIGNAL of generation 1 of fence 0 that is not
READY yet, and a signal of generation 2 has been received and waits its turn behind it (R247). -/
def signalBehind : State :=
  { State.reset with blk :=
    { graph := { subs := [(0,
        { live := true, known := 2, acted := [0]
          nodes := [(0, { used := true, kind := 4, state := .acting, busy := true, handle := 1, remote := some 5 }),
                    (1, { used := true, kind := 4, count := 1, handle := 0x10000 })] })] }
      fences := { table := [(0, { state := .active })], turns := [{ fence := 0, gen := 2, by' := .remote 0 false }] }
      link := { txq := [signalSent] } } }

/-- DOMAIN_LOSS of a domain that the block has, other than CORE, leaves the block that `domainLoss` gives. -/
theorem domainLoss_of_exec {s : State} {d : Nat} {m : MemView} {b : Block} (hcore : d ≠ 0) (hd : d < domains s.params)
    (h : exec (.domainLoss d m) s = .next { s with blk := b }) : domainLoss s.params d m s.blk = b := by
  change execDomainLoss d m s = _ at h
  rw [execDomainLoss, if_neg hcore, if_neg (Nat.not_le.2 hd)] at h
  exact congrArg State.blk (Host.Outcome.next.inj h)

/-- The loss of LINK abandons the submission, which poisons generation 1 of the fence (R231). The signal behind it has its
turn no more: it is discarded, and STALE counts it (R378). -/
theorem stale_domainLoss_signalBehind : (domainLoss signalBehind.params 6 {} signalBehind.blk).link.stale = 1 := by
  decide +kernel

/-- Refutes O58: by its clause on the loss of LINK, the link port keeps everything but the transmit queue, the HELLOs, the
packet that it sends and the poisons that wait. The abandonment of a submission whose packet was lost can also discard a
received signal that waits its turn, as in `signalBehind`, and STALE of the link port counts that. -/
theorem not_domainsSwitchAndReturn : ¬ Obligations.DomainsSwitchAndReturn := by
  rintro ⟨-, -, -, -, -, hloss⟩
  obtain ⟨b, hexec, -, -, -, -, hlink, -⟩ := (hloss signalBehind 6 {} (by decide)).2.1 (by decide) rfl
  have hstale := stale_domainLoss_signalBehind
  rw [domainLoss_of_exec (by decide) (by decide) hexec, (hlink rfl).1] at hstale
  cases hstale

end Sys2Proof.Machine
end

section
/-! SUPPORT. A Bead in a stop and at its end (R484 to R491, R517): its mode, its window, its slots and its latch sets. -/

namespace Sys2Proof.Machine

/-! ### The entries of a Bead's window -/

/-- A change of every entry of a table that leaves the reset entry as it is. -/
theorem tget_map {α : Type} {d : α} {f : Nat × α → α} (hd : ∀ i, f (i, d) = d) (t : Tab α) (i : Nat) :
    tget d (t.map fun p => (p.1, f p)) i = f (i, tget d t i) := by
  induction t with
  | nil => exact (hd i).symm
  | cons p t ih =>
    obtain ⟨j, a⟩ := p
    simp only [List.map_cons, tget]
    split
    · next h => rw [h]
    · exact ih

/-- R491: the entries of a window at the stop report. -/
theorem tget_reported (win : Tab WinEntry) (w : Nat) :
    tget {} (win.map fun t => if t.2.state == .wready && t.2.broken then (t.1, { t.2 with brkReported := true }) else t) w
      = if (tget {} win w).state = .wready ∧ (tget {} win w).broken = true then { tget {} win w with brkReported := true }
        else tget {} win w := by
  have hmap : (win.map fun t => if t.2.state == .wready && t.2.broken then (t.1, { t.2 with brkReported := true }) else t)
      = win.map fun t : Nat × WinEntry => (t.1, if t.2.state == .wready && t.2.broken
        then { t.2 with brkReported := true } else t.2) :=
    List.map_congr_left fun t _ => by split <;> rfl
  rw [hmap, tget_map (f := fun t : Nat × WinEntry => if t.2.state == .wready && t.2.broken
    then { t.2 with brkReported := true } else t.2) (fun _ => rfl)]
  simp

/-- R488: the mode of a Bead that is to stop. -/
theorem toStopping_eq (m : StopMode) : (if (m == .run) = true then StopMode.stopping else m) =
    if m = .run then .stopping else m := by
  cases m <;> rfl

/-! ### Resets asked for (R517) -/

/-- The reset of the slot is asked for, or under way. -/
def Slot.inReset (x : Slot) : Bool := x.resetDue || x.resetReq || x.resetWait

theorem askReset_inReset {b : Block} {n i : Nat} (h : (b.slot n i).inReset = true) : b.askReset n i none = b := if_pos h

theorem askReset_not_inReset {b : Block} {n i : Nat} (h : ¬ (b.slot n i).inReset = true) :
    b.askReset n i none = b.modSlot n i fun s => { s with resetDue := true, resetBy := none } := if_neg h

theorem slot_askReset (b : Block) (n i k : Nat) : (b.askReset n i none).slot n k =
    if i = k then (if (b.slot n k).inReset = true then b.slot n k else { b.slot n k with resetDue := true, resetBy := none })
      else b.slot n k := by
  by_cases hslot : (b.slot n i).inReset = true
  · rw [askReset_inReset hslot]
    split
    · next h =>
      subst h
      rw [if_pos hslot]
    · rfl
  · rw [askReset_not_inReset hslot, Block.slot_modSlot]
    by_cases hik : i = k
    · subst hik
      rw [if_pos ⟨rfl, rfl⟩, if_pos rfl, if_neg hslot]
    · rw [if_neg hik, if_neg fun h => hik h.2]

theorem slot_foldl_askReset (n : Nat) (l : List Nat) (b : Block) (k : Nat) :
    (l.foldl (fun b i => b.askReset n i none) b).slot n k =
      if k ∈ l then (if (b.slot n k).inReset = true then b.slot n k else { b.slot n k with resetDue := true, resetBy := none })
      else b.slot n k := by
  refine foldl_get (I := fun _ => True) (get := fun b k => b.slot n k)
    (g := fun _ x => if x.inReset = true then x else { x with resetDue := true, resetBy := none }) (fun _ _ _ => trivial)
    (fun b i k _ => slot_askReset b n i k) (fun _ x => ?_) l b trivial k
  by_cases h : x.inReset = true
  · rw [if_pos h, if_pos h]
  · rw [if_neg h]
    exact if_pos rfl

/-- Resets that are asked for move the slots of their Bead alone. -/
theorem onlySlots_foldl_askReset (n : Nat) (l : List Nat) (b : Block) : ∃ bs,
    l.foldl (fun b i => b.askReset n i none) b = { b with beads := bs }
      ∧ (∃ sl, tget {} bs n = { b.bead n with slots := sl }) ∧ ∀ k, k ≠ n → tget {} bs k = b.bead k := by
  induction l generalizing b with
  | nil => exact ⟨b.beads, rfl, ⟨_, rfl⟩, fun _ _ => rfl⟩
  | cons i l ih =>
    obtain ⟨bs, hfold, ⟨sl, hbead⟩, hothers⟩ := ih (b.askReset n i none)
    rw [List.foldl_cons, hfold]
    by_cases h : (b.slot n i).inReset = true
    · rw [askReset_inReset h] at hbead hothers ⊢
      exact ⟨bs, rfl, ⟨sl, hbead⟩, hothers⟩
    · rw [askReset_not_inReset h] at hbead hothers ⊢
      refine ⟨bs, rfl, ⟨sl, ?_⟩, fun k hk => ?_⟩
      · rw [hbead, Block.bead_modSlot, if_pos rfl]
      · rw [hothers k hk, Block.bead_modSlot, if_neg hk]

/-! ### Records up (R484) -/

/-- Messages up move the lanes of two blocks alike, where they agree on lanes and time. -/
theorem lanes_foldl_sendUp_congr {α : Type} {p : Params} {n : Nat} (r : α → Rec) : ∀ (l : List α) {b c : Block},
    b.lanes = c.lanes → b.now = c.now →
      (l.foldl (fun x t => x.sendUp p n (r t)) b).lanes = (l.foldl (fun x t => x.sendUp p n (r t)) c).lanes
  | [], _, _, hlanes, _ => hlanes
  | t :: l, _, _, hlanes, hnow => lanes_foldl_sendUp_congr r l (lanes_sendUp_congr p n (r t) hlanes hnow) hnow

theorem onlyLanes_foldl_sendUp {α : Type} (p : Params) (n : Nat) (r : α → Rec) (l : List α) (b : Block) :
    ∃ ls, l.foldl (fun x t => x.sendUp p n (r t)) b = { b with lanes := ls } := by
  induction l generalizing b with
  | nil => exact ⟨_, rfl⟩
  | cons t l ih =>
    obtain ⟨ls, h⟩ := ih (b.sendUp p n (r t))
    exact ⟨ls, h⟩

/-- The block whose Bead `n` has cleared the count of submission `g`. -/
def Block.retCleared (b : Block) (n g : Nat) : Block :=
  b.modBead n fun d => { d with retCount := tset 0 d.retCount g 0 }

theorem tget_retCleared (b : Block) (n g k : Nat) : tget 0 ((b.retCleared n g).bead n).retCount k =
    if k = g then 0 else tget 0 (b.bead n).retCount k := by
  rw [Block.retCleared, Block.bead_modBead_self, tget_tset]
  simp only [eq_comm]

theorem latchSetClose_waits {p : Params} {n g : Nat} {b : Block} (h : b.roomUp p n = false) : latchSetClose p n g b = b :=
  if_pos (by simp [h])

/-- R484: what the close of a latch set does, where there is one. -/
theorem latchSetClose_latch {p : Params} {n g : Nat} {b : Block} {l : Latch} (hdone : (b.bead n).latchDone g = true)
    (hopen : (b.bead n).fencedOff = false) (hroom : b.roomUp p n = true)
    (hl : (b.bead n).latches.find? (fun x => x.seg == g) = some l) : latchSetClose p n g b =
      (l.sums.foldl (fun x t => x.sendUp p n (ctrRec p n t.1 t.2)) ((b.retCleared n g).sendUp p n
        (retRec p n g (tget 0 (b.bead n).retCount g) true l.sums.length))).modBead n fun d =>
          { d with
            latches := d.latches.filter (·.seg != g)
            lastSeg := l.seg, lastSgen := l.sgen, lastNctr := l.sums.length, lastSums := l.sums } := by
  unfold latchSetClose Block.retCleared
  dsimp only
  rw [if_neg (by simp [hdone, hopen, hroom]), hl]

/-- R485: what the close does where the submission had no latch set. -/
theorem latchSetClose_overflow {p : Params} {n g : Nat} {b : Block} (hdone : (b.bead n).latchDone g = true)
    (hopen : (b.bead n).fencedOff = false) (hroom : b.roomUp p n = true)
    (hl : (b.bead n).latches.find? (fun x => x.seg == g) = none) (hover : (b.bead n).overflow.contains g = true) :
    latchSetClose p n g b = ((b.retCleared n g).sendUp p n
      (retRec p n g (tget 0 (b.bead n).retCount g) true 0)).modBead n fun d =>
        { d with overflow := d.overflow.filter (· != g) } := by
  unfold latchSetClose Block.retCleared
  dsimp only
  rw [if_neg (by simp [hdone, hopen, hroom]), hl]
  exact if_pos hover

/-- Settles O57: what a Bead does in a stop moves its mode, its window, its slots or its latch sets, and its records go
up its lane. -/
theorem beadsStopAndReport : Obligations.BeadsStopAndReport := by
  refine ⟨fun s n e b0 hacts => ?halt, fun s n b0 hacts => ?resume, fun s n b0 hacts => ?fenceOff,
    fun s n w hused hstate hbroken hheld hopen => ?hold, fun s n hmode hopen hquiet hdrained hroom => ?report,
    fun s n g hroom => ⟨?reportWaits, ?closeWaits⟩,
    fun s n g hdone hopen hroom => ⟨fun l hl => ?latch, fun hl hover => ?overflow⟩⟩
  case halt =>
    have hrun := Block.atBead_acts (fun b => (b.modBead n fun d =>
      { d with epoch := e.toNat, mode := if d.mode == .run then .stopping else d.mode }).beadLocket s.params n 64 0x12
        (pack [(e.toNat, 32, 0)])) hacts
    obtain ⟨ls, rfl⟩ := Block.received_onlyLanes hacts.1
    refine ⟨_, next_block hrun, ?_, fun k hk => ?_, rfl⟩
    · rw [Block.bead_beadLocket, Block.bead_modBead_self, toStopping_eq]
      rfl
    · rw [Block.bead_beadLocket, Block.bead_modBead_ne _ _ (Ne.symm hk)]
      rfl
  case resume =>
    have hrun := Block.atBead_acts (fun b => (b.modBead n fun d =>
      { d with mode := .run, win := d.win.map fun t => (t.1, t.2.resume) }).beadLocket s.params n 64 0x13 0) hacts
    obtain ⟨ls, rfl⟩ := Block.received_onlyLanes hacts.1
    refine ⟨_, next_block hrun, ?_, fun w => ?_, fun k hk => ?_, rfl⟩
    · simp only [Block.bead_beadLocket, Block.bead_modBead_self]
      rfl
    · rw [Block.win_beadLocket, Block.win_modBead, if_pos rfl]
      exact tget_map (f := fun t : Nat × WinEntry => t.2.resume) (fun _ => rfl) _ w
    · rw [Block.bead_beadLocket, Block.bead_modBead_ne _ _ (Ne.symm hk)]
      rfl
  case fenceOff =>
    have hrun := Block.atBead_acts (fun b => b.fenceSelf s.params n) hacts
    obtain ⟨ls, rfl⟩ := Block.received_onlyLanes hacts.1
    obtain ⟨bs, hfold, ⟨sl, hbead⟩, hothers⟩ :=
      onlySlots_foldl_askReset n (s.blk.bead n).busySlots { s.blk with lanes := ls }
    have hslot := slot_foldl_askReset n (s.blk.bead n).busySlots { s.blk with lanes := ls }
    have hself : Block.fenceSelf s.params { s.blk with lanes := ls } n = ((Block.modBead { s.blk with
        lanes := ls, beads := bs } n fun d => { d with fencedOff := true }).beadLocket s.params n 64 0x15 0) := by
      rw [Block.fenceSelf]
      exact congrArg (fun b : Block => (b.modBead n fun d => { d with fencedOff := true }).beadLocket s.params n 64 0x15 0) hfold
    rw [hfold] at hslot
    have hslot' (i : Nat) : ((Block.modBead { s.blk with lanes := ls, beads := bs } n fun d =>
        { d with fencedOff := true }).beadLocket s.params n 64 0x15 0).slot n i =
        if i ∈ (s.blk.bead n).busySlots then (if (s.blk.slot n i).inReset = true then s.blk.slot n i
          else { s.blk.slot n i with resetDue := true, resetBy := none }) else s.blk.slot n i := by
      rw [Block.slot_beadLocket, Block.slot_modBead, if_pos rfl]
      exact hslot i
    refine ⟨_, next_block (hrun.trans hself), ?_, fun i hi => ?_, fun i hi => ?_, fun k hk => ?_, rfl⟩
    · simp only [Block.bead_beadLocket, Block.bead_modBead_self]
      change ({ tget {} bs n with fencedOff := true } : Bead) =
        { s.blk.bead n with fencedOff := true, slots := (tget {} bs n).slots }
      rw [hbead]
      rfl
    · rw [hslot' i, if_pos hi]
      by_cases hreset : (s.blk.slot n i).inReset = true
      · rw [if_pos hreset]
        simpa [Slot.inReset, or_assoc] using hreset
      · rw [if_neg hreset]
        exact .inl rfl
    · rw [hslot' i, if_neg hi]
    · rw [Block.bead_beadLocket, Block.bead_modBead_ne _ _ (Ne.symm hk)]
      exact hothers k hk
  case hold =>
    have hrun : breakpointHold s.params n w.toNat s.blk = ((s.blk.modWin n w.toNat fun e => { e with brkHeld := true }).modBead n
        fun d => { d with mode := if d.mode == .run then .stopping else d.mode }).beadLocket s.params n 64 0x16
          (pack [(w.toNat, 12, 0)]) := if_neg (by simp [hused, hstate, hbroken, hheld, hopen])
    refine ⟨_, next_block hrun, ?_, fun k v hkv => ?_, ?_, rfl⟩
    · rw [Block.win_beadLocket, Block.win_modBead, if_pos rfl]
      exact Block.win_modWin_self _ _ _ _
    · rw [Block.win_beadLocket, Block.win_modBead]
      have hkeep := Block.win_modWin s.blk n w.toNat k v fun e => { e with brkHeld := true }
      rw [if_neg fun h => hkv ⟨h.1.symm, h.2.symm⟩] at hkeep
      split
      · next h => rw [← hkeep, h]; rfl
      · exact hkeep
    · rw [Block.bead_beadLocket, Block.bead_modBead_self, toStopping_eq, Block.bead_modWin, if_pos rfl]
  case report =>
    have hrun : stopReportSend s.params n s.blk = ((s.blk.sendUp s.params n (evtRec s.params n 12)).modBead n fun d =>
        { d with
          mode := .stopped
          win := d.win.map fun t =>
            if t.2.state == .wready && t.2.broken then (t.1, { t.2 with brkReported := true }) else t }).beadLocket
        s.params n 64 0x17 0 := if_neg (by simp [hmode, hopen, hquiet, hdrained, hroom])
    refine ⟨_, next_block hrun, ?_, fun w => ?_, fun k hk => ?_, rfl⟩
    · simp only [Block.bead_beadLocket, Block.bead_modBead_self]
      rfl
    · rw [Block.win_beadLocket, Block.win_modBead, if_pos rfl]
      rw [tget_reported, Block.bead_sendUp]
      rfl
    · rw [Block.bead_beadLocket, Block.bead_modBead_ne _ _ (Ne.symm hk), Block.bead_sendUp]
  case reportWaits => exact next_block (if_pos (by simp [hroom]))
  case closeWaits => exact next_block (latchSetClose_waits hroom)
  case latch =>
    have hrun := latchSetClose_latch hdone hopen hroom hl
    have hlanes := lanes_foldl_sendUp_congr (p := s.params) (n := n) (fun t : Nat × Nat => ctrRec s.params n t.1 t.2) l.sums
      (b := (s.blk.retCleared n g).sendUp s.params n (retRec s.params n g (tget 0 (s.blk.bead n).retCount g) true l.sums.length))
      (c := s.blk.sendUp s.params n (retRec s.params n g (tget 0 (s.blk.bead n).retCount g) true l.sums.length)) rfl rfl
    obtain ⟨ls, honly⟩ : ∃ ls, _ = { s.blk.retCleared n g with lanes := ls } :=
      onlyLanes_foldl_sendUp s.params n (fun t : Nat × Nat => ctrRec s.params n t.1 t.2) l.sums
        ((s.blk.retCleared n g).sendUp s.params n
          (retRec s.params n g (tget 0 (s.blk.bead n).retCount g) true l.sums.length))
    rw [honly] at hrun hlanes
    have hbead : Block.bead { s.blk.retCleared n g with lanes := ls } n =
        { s.blk.bead n with retCount := tset 0 (s.blk.bead n).retCount g 0 } :=
      Block.bead_modBead_self s.blk n fun d => { d with retCount := tset 0 d.retCount g 0 }
    refine ⟨_, next_block hrun, ?_, fun k => ?_, fun k hk => ?_, hlanes, rfl⟩
    · rw [Block.bead_modBead_self, hbead]
    · rw [Block.bead_modBead_self]
      exact tget_retCleared s.blk n g k
    · rw [Block.bead_modBead_ne _ _ (Ne.symm hk)]
      exact Block.bead_modBead_ne s.blk (fun d => { d with retCount := tset 0 d.retCount g 0 }) (Ne.symm hk)
  case overflow =>
    refine ⟨_, next_block (latchSetClose_overflow hdone hopen hroom hl hover), ?_, ?_, rfl, rfl⟩
    · rw [Block.bead_modBead_self, Block.bead_sendUp, Block.retCleared, Block.bead_modBead_self]
    · rw [Block.bead_modBead_self, Block.bead_sendUp, Block.retCleared, Block.bead_modBead_self]

end Sys2Proof.Machine
end

section
/-! SUPPORT. Context switches (R419 to R432): the choice of the incoming context, and what each step of a switch leaves of
the partitions, the contexts and the Beads. -/

namespace Sys2Proof.Machine

/-! ### The incoming context (R420) -/

theorem foldl_nearerCtx_some (o : Option Nat) : ∀ (l : List Nat) (d : Nat),
    (∃ c, l.foldl (nearerCtx o) (some d) = some c ∧ (c = d ∨ c ∈ l))
  | [], d => ⟨d, rfl, .inl rfl⟩
  | x :: l, d => by
    rw [List.foldl_cons]
    have hstep : nearerCtx o (some d) x = some x ∨ nearerCtx o (some d) x = some d := by
      unfold nearerCtx
      dsimp only
      split
      · exact .inl rfl
      · exact .inr rfl
    obtain h | h := hstep
    · obtain ⟨c, hc, hmem⟩ := foldl_nearerCtx_some o l x
      exact ⟨c, by rw [h, hc], .inr (List.mem_cons.2 hmem)⟩
    · obtain ⟨c, hc, hmem⟩ := foldl_nearerCtx_some o l d
      exact ⟨c, by rw [h, hc], hmem.imp id (.tail _)⟩

theorem mem_of_foldl_nearerCtx {o : Option Nat} {l : List Nat} {c : Nat} (h : l.foldl (nearerCtx o) none = some c) :
    c ∈ l := by
  cases l with
  | nil => cases h
  | cons x l =>
    obtain ⟨d, hd, hmem⟩ := foldl_nearerCtx_some o l x
    obtain rfl : d = c := Option.some.inj (hd.symm.trans h)
    exact List.mem_cons.2 hmem

/-- The one that is nearer than all others is found, from wherever the search starts. -/
theorem foldl_nearerCtx_nearest {o : Option Nat} {c : Nat} : ∀ (l : List Nat) (x : Option Nat),
    (x = some c ∨ c ∈ l) → (∀ d, x = some d → d ≠ c → ctxDistance o c < ctxDistance o d) →
    (∀ d, d ∈ l → d ≠ c → ctxDistance o c < ctxDistance o d) → l.foldl (nearerCtx o) x = some c
  | [], x, hmem, _, _ => hmem.resolve_right List.not_mem_nil
  | y :: l, x, hmem, hx, hl => by
    rw [List.foldl_cons]
    have hrest := foldl_nearerCtx_nearest (o := o) (c := c) l (nearerCtx o x y)
    cases x with
    | none =>
      refine hrest ?_ (fun d hd hdc => ?_) fun d hd => hl d (.tail _ hd)
      · exact (List.mem_cons.1 (hmem.resolve_left nofun)).imp (fun h => by rw [h]; rfl) id
      · obtain rfl : y = d := Option.some.inj hd
        exact hl y (.head _) hdc
    | some d =>
      by_cases hnear : ctxDistance o y < ctxDistance o d
      · have hstep : nearerCtx o (some d) y = some y := if_pos hnear
        rw [hstep] at hrest ⊢
        refine hrest ?_ (fun e he hec => ?_) fun e he => hl e (.tail _ he)
        · obtain h | h := hmem
          · obtain rfl : d = c := Option.some.inj h
            by_cases hy : y = d
            · exact .inl (by rw [hy])
            · exact absurd hnear (Nat.lt_asymm (hl y (.head _) hy))
          · exact (List.mem_cons.1 h).imp (fun h => by rw [h]) id
        · obtain rfl : y = e := Option.some.inj he
          exact hl y (.head _) hec
      · have hstep : nearerCtx o (some d) y = some d := if_neg hnear
        rw [hstep] at hrest ⊢
        refine hrest ?_ hx fun e he => hl e (.tail _ he)
        obtain h | h := hmem
        · exact .inl h
        · obtain rfl | h := List.mem_cons.1 h
          · refine .inl (congrArg some (by_contra fun hd => hnear (hx d rfl hd)))
          · exact .inr h

theorem mem_runnables_of_chooseCtx {b : Block} {p c : Nat} (h : b.chooseCtx p = some c) :
    c ∈ b.runnables p ∧ (b.ctx c).state = .swapped := by
  have hmem := mem_of_foldl_nearerCtx h
  have hall : c ∈ (b.runnables p).filter fun c => (b.ctx c).state == .swapped := by
    split at hmem
    · split at hmem
      · exact hmem
      · exact List.mem_of_mem_filter hmem
    · split at hmem
      · exact hmem
      · cases hmem
  simpa using hall

theorem chooseCtx_of_chosen {b : Block} {p c : Nat} (h : Chosen b p (b.part p).outgoing c) : b.chooseCtx p = some c := by
  obtain ⟨⟨hrun, hswapped⟩, hnear⟩ := h
  have hmem (d : Nat) : d ∈ (b.runnables p).filter (fun c => (b.ctx c).state == .swapped) ↔
      d ∈ b.runnables p ∧ (b.ctx d).state = .swapped := by simp
  have hc := (hmem c).2 ⟨hrun, hswapped⟩
  unfold Block.chooseCtx
  dsimp only
  by_cases hexpress : (b.partSec p).express = true
  · rw [if_pos hexpress]
    by_cases hurgent : (((b.runnables p).filter fun c => (b.ctx c).state == .swapped).filter b.urgentWork).isEmpty = true
    · rw [if_pos hurgent]
      refine foldl_nearerCtx_nearest _ _ (.inr hc) nofun fun d hd hdc => ?_
      have hnone (e : Nat) (he : e ∈ (b.runnables p).filter fun c => (b.ctx c).state == .swapped) : ¬ b.urgentWork e = true :=
        fun hu => by rw [List.isEmpty_iff] at hurgent; exact List.not_mem_nil (hurgent ▸ List.mem_filter.2 ⟨he, hu⟩)
      exact ((hnear d ((hmem d).1 hd) hdc).resolve_left fun h => hnone c hc h.2.1).2
    · rw [if_neg hurgent]
      have hcu : b.urgentWork c = true := by
        obtain ⟨d, hd⟩ := List.exists_mem_of_ne_nil _ (fun h => hurgent (List.isEmpty_iff.2 h))
        obtain ⟨hd, hdu⟩ := List.mem_filter.1 hd
        by_cases hdc : d = c
        · exact hdc ▸ hdu
        · obtain ⟨-, hu, -⟩ | ⟨hsame, -⟩ := hnear d ((hmem d).1 hd) hdc
          · exact hu
          · exact (hsame hexpress).symm.trans hdu
      refine foldl_nearerCtx_nearest _ _ (.inr (List.mem_filter.2 ⟨hc, hcu⟩)) nofun fun d hd hdc => ?_
      obtain ⟨hd, hdu⟩ := List.mem_filter.1 hd
      exact ((hnear d ((hmem d).1 hd) hdc).resolve_left fun h => by rw [hdu] at h; exact absurd h.2.2 (by decide)).2
  · rw [if_neg hexpress]
    refine foldl_nearerCtx_nearest _ _ (.inr hc) nofun fun d hd hdc => ?_
    exact ((hnear d ((hmem d).1 hd) hdc).resolve_left fun h => hexpress h.1).2

theorem chooseCtx_none {b : Block} {p : Nat} (h : ∀ c, c ∈ b.runnables p → (b.ctx c).state ≠ .swapped) :
    b.chooseCtx p = none := by
  cases hc : b.chooseCtx p with
  | none => rfl
  | some c =>
    obtain ⟨hrun, hswapped⟩ := mem_runnables_of_chooseCtx hc
    exact absurd hswapped (h c hrun)

/-! ### What a switch moves -/

/-- What a switch moves of a block, but for pending bits and the trace writer; the partitions and the contexts as what
is read of them. -/
structure Switched where
  free : Nat
  mp : Mp
  lanes : Tab Lane
  beads : Tab PBead
  part : Nat → Part
  ctx : Nat → Ctx

/-- That of a block. -/
def Block.switched (b : Block) : Switched := ⟨b.free, b.mp, b.lanes, b.parts.beads, b.part, b.ctx⟩

@[simp] theorem Block.switched_part (b : Block) : b.switched.part = b.part := rfl
@[simp] theorem Block.switched_ctx (b : Block) : b.switched.ctx = b.ctx := rfl
@[simp] theorem Block.switched_mp (b : Block) : b.switched.mp = b.mp := rfl

/-- `c` is `b` with what a switch moves as `v`. -/
def Block.SwitchTo (b : Block) (v : Switched) (c : Block) : Prop :=
  ∃ ps cs pend t, c = { b with
      free := v.free, mp := v.mp, lanes := v.lanes
      parts := { b.parts with parts := ps, ctxs := cs, beads := v.beads }
      evc := { b.evc with pend := pend }, trace := t }
    ∧ (∀ k, tget {} ps k = v.part k) ∧ ∀ k, tget {} cs k = v.ctx k

/-- A context without a save record has no list to read. -/
theorem readLive_no_record {b : Block} {a : Nat} (h : (b.ctx a).recV = false) (m : MemView) (p : Nat) (restore : Bool) :
    b.readLive m p a restore = { fail := none, pieces := [], blk := b } := if_pos (by rw [h]; rfl)

namespace Block.SwitchTo

variable {b c : Block} {v : Switched}

theorem refl (b : Block) : b.SwitchTo b.switched b := ⟨_, _, _, _, rfl, fun _ => rfl, fun _ => rfl⟩

theorem part (h : b.SwitchTo v c) (k : Nat) : c.part k = v.part k := by
  obtain ⟨ps, cs, pend, t, rfl, hps, -⟩ := h
  exact hps k

theorem ctx (h : b.SwitchTo v c) (k : Nat) : c.ctx k = v.ctx k := by
  obtain ⟨ps, cs, pend, t, rfl, -, hcs⟩ := h
  exact hcs k

theorem setting (h : b.SwitchTo v c) : c.setting = b.setting := by
  obtain ⟨ps, cs, pend, t, rfl, -, -⟩ := h
  rfl

theorem modPart (h : b.SwitchTo v c) (p : Nat) (f : Machine.Part → Machine.Part) :
    b.SwitchTo { v with part := Function.update v.part p (f (v.part p)) } (c.modPart p f) := by
  obtain ⟨ps, cs, pend, t, rfl, hps, hcs⟩ := h
  refine ⟨_, _, _, _, rfl, fun k => ?_, hcs⟩
  change tget {} (tmod {} ps p f) k = Function.update v.part p (f (v.part p)) k
  rw [tget_tmod, Function.update_apply, hps]
  by_cases h : p = k
  · rw [if_pos h, if_pos h.symm, h]
  · rw [if_neg h, if_neg (Ne.symm h)]

theorem modCtx (h : b.SwitchTo v c) (a : Nat) (f : Ctx → Ctx) :
    b.SwitchTo { v with ctx := Function.update v.ctx a (f (v.ctx a)) } (c.modCtx a f) := by
  obtain ⟨ps, cs, pend, t, rfl, hps, hcs⟩ := h
  refine ⟨_, _, _, _, rfl, hps, fun k => ?_⟩
  change tget {} (tmod {} cs a f) k = Function.update v.ctx a (f (v.ctx a)) k
  rw [tget_tmod, Function.update_apply, hcs]
  by_cases h : a = k
  · rw [if_pos h, if_pos h.symm, h]
  · rw [if_neg h, if_neg (Ne.symm h)]

theorem pendsAndTraces {d : Block} (h : b.SwitchTo v c) (g : PendsAndTraces c d) : b.SwitchTo v d := by
  obtain ⟨ps, cs, pend, t, rfl, hps, hcs⟩ := h
  obtain ⟨pend', t', rfl⟩ := g
  exact ⟨ps, cs, pend', t', rfl, hps, hcs⟩

theorem setPhase (h : b.SwitchTo v c) (p : Nat) (ph : Phase) (x : Option Nat) :
    b.SwitchTo { v with part := Function.update v.part p { v.part p with phase := ph } } (c.setPhase p ph x) := by
  unfold Block.setPhase
  split
  · next hsame =>
    have hpart : { v.part p with phase := ph } = v.part p := by rw [← hsame, h.part]
    rw [hpart, Function.update_eq_self]
    exact h
  · exact (h.modPart p _).pendsAndTraces (pendsAndTraces_traceEvent _ _ _ _ _)

theorem recordsErrors {d : Block} (h : b.SwitchTo v c) (g : RecordsErrors c d) : ∃ m, b.SwitchTo { v with mp := m } d := by
  obtain ⟨ps, cs, pend, t, rfl, hps, hcs⟩ := h
  obtain ⟨m, pend', t', rfl⟩ := g
  exact ⟨m, ps, cs, pend', t', rfl, hps, hcs⟩

theorem writePieces (h : b.SwitchTo v c) (p : Nat) (restore : Bool) :
    ∃ m, b.SwitchTo { v with mp := m } (c.writePieces p restore) ∧ ((c.part p).pieces = [] → m = v.mp) := by
  by_cases hnone : (c.part p).pieces = []
  · refine ⟨v.mp, ?_, fun _ => rfl⟩
    have hsame : c.writePieces p restore = c := by
      unfold Block.writePieces
      rw [hnone]
      rfl
    rw [hsame]
    exact h
  · obtain ⟨ps, cs, pend, t, rfl, hps, hcs⟩ := h
    exact ⟨_, ⟨ps, cs, pend, t, (Block.writePieces_frame _ p restore).eq, hps, hcs⟩, fun h => absurd h hnone⟩

theorem readLive (h : b.SwitchTo v c) (m : MemView) (p a : Nat) (restore : Bool) : ∃ fr mp,
    b.SwitchTo { v with free := fr, mp := mp } (c.readLive m p a restore).blk
      ∧ ((v.ctx a).recV = false → mp = v.mp) := by
  rw [← h.ctx]
  by_cases hrec : (c.ctx a).recV = false
  · rw [readLive_no_record hrec]
    exact ⟨_, _, h, fun _ => rfl⟩
  · suffices hread : ∃ fr mp, b.SwitchTo { v with free := fr, mp := mp } (c.readLive m p a restore).blk by
      obtain ⟨fr, mp, hread⟩ := hread
      exact ⟨fr, mp, hread, fun h => absurd h hrec⟩
    unfold Block.readLive
    dsimp only
    split
    · exact ⟨_, _, h⟩
    · split
      · exact ⟨_, _, h⟩
      · obtain ⟨mp, hread⟩ := h.recordsErrors
          (recordsErrors_viewErrors c 63 4 m (c.ctx a).liveAddr (16 * (c.ctx a).liveCount))
        split
        · obtain ⟨ps, cs, pend, t, heq, hps, hcs⟩ := hread
          rw [heq]
          exact ⟨_, mp, ps, cs, pend, t, rfl, hps, hcs⟩
        · split
          · exact ⟨_, _, hread⟩
          · split
            · exact ⟨_, _, hread⟩
            · exact ⟨_, _, hread⟩

theorem halts {ls : Tab Lane} {bs : Tab PBead} (h : b.SwitchTo v c) :
    b.SwitchTo { v with lanes := ls, beads := bs } { c with lanes := ls, parts := { c.parts with beads := bs } } := by
  obtain ⟨ps, cs, pend, t, rfl, hps, hcs⟩ := h
  exact ⟨ps, cs, pend, t, rfl, hps, hcs⟩

/-- R422: the restore of `a` begins. -/
theorem startRestore (h : b.SwitchTo v c) (p a : Nat) : ∃ m, b.SwitchTo { v with
      mp := m
      part := Function.update v.part p { v.part p with
        incoming := some a, waiting := if (v.ctx a).recV = true then piecePlaces (v.part p).pieces true else []
        pieceFail := if (v.ctx a).recV = true then (v.part p).listFail else none, listFail := none, phase := .restoring }
      ctx := Function.update v.ctx a { v.ctx a with state := .restoring } } (c.startRestore p a)
    ∧ ((v.ctx a).recV = false ∨ (v.part p).pieces = [] → m = v.mp) := by
  have hctx := h.modCtx a fun x => { x with state := .restoring }
  have hrec : ((c.modCtx a fun x => { x with state := .restoring }).ctx a).recV = (v.ctx a).recV := by
    rw [hctx.ctx]
    simp
  have hpart := (hctx.modPart p fun x =>
    { x with
      incoming := some a
      waiting := if ((c.modCtx a fun x => { x with state := .restoring }).ctx a).recV then piecePlaces x.pieces true else []
      pieceFail := if ((c.modCtx a fun x => { x with state := .restoring }).ctx a).recV then x.listFail else none
      listFail := none }).setPhase p .restoring (some a)
  unfold Block.startRestore
  dsimp only
  have hrec' : ((((c.modCtx a fun x => { x with state := .restoring }).modPart p fun x =>
    { x with
      incoming := some a
      waiting := if ((c.modCtx a fun x => { x with state := .restoring }).ctx a).recV then piecePlaces x.pieces true else []
      pieceFail := if ((c.modCtx a fun x => { x with state := .restoring }).ctx a).recV then x.listFail else none
      listFail := none }).setPhase p .restoring (some a)).ctx a).recV = (v.ctx a).recV := by
    rw [hpart.ctx]
    simp
  simp only [hrec] at hpart hrec' ⊢
  simp only [Function.update_self, Function.update_idem] at hpart
  rw [hrec']
  cases hr : (v.ctx a).recV with
  | false =>
    rw [hr] at hpart
    exact ⟨_, hpart, fun _ => rfl⟩
  | true =>
    rw [hr] at hpart
    obtain ⟨m, hwrite, hnone⟩ := hpart.writePieces p true
    refine ⟨m, hwrite, fun hm => hnone ?_⟩
    rw [hpart.part]
    simpa using hm.resolve_left (by decide)

end Block.SwitchTo

/-! ### CTL CLEAR and the change of resident context (R426, R529) -/

theorem nodup_partBeads (b : Block) (p : Nat) : (b.partBeads p).Nodup :=
  (List.nodup_range.filter _).filter _

/-- CTL CLEAR to the Beads of a list. -/
def Block.clearAll (q : Params) (p : Nat) (out l : List Nat) (b : Block) : Block :=
  l.foldl (fun b n => (b.sendDown q n (ctlRec q n 3 p)).modPbead n fun x => { x with clears := x.clears ++ out }) b

theorem halts_clearAll (q : Params) (p : Nat) (out l : List Nat) (b : Block) : b.Halts (b.clearAll q p out l) :=
  .foldl (fun b n => (halts_sendDown q b n _).trans (halts_modPbead _ n _)) l b

theorem pbead_clearAll (q : Params) (p : Nat) (out : List Nat) : ∀ (l : List Nat) (b : Block), l.Nodup → ∀ k,
    (b.clearAll q p out l).pbead k =
      if k ∈ l then { b.pbead k with clears := (b.pbead k).clears ++ out } else b.pbead k
  | [], _, _, _ => rfl
  | n :: l, b, hnodup, k => by
    obtain ⟨hn, hnodup⟩ := List.nodup_cons.1 hnodup
    have hone (k : Nat) : ((b.sendDown q n (ctlRec q n 3 p)).modPbead n fun x => { x with clears := x.clears ++ out }).pbead k =
        if n = k then { b.pbead k with clears := (b.pbead k).clears ++ out } else b.pbead k := by
      rw [Block.pbead_modPbead]
      simp [Block.pbead]
    have hrest := pbead_clearAll q p out l ((b.sendDown q n (ctlRec q n 3 p)).modPbead n fun x =>
      { x with clears := x.clears ++ out }) hnodup k
    refine hrest.trans ?_
    rw [hone]
    by_cases hnk : n = k
    · subst hnk
      simp [hn]
    · simp [hnk, Ne.symm hnk]

theorem lanes_clearAll (q : Params) (p : Nat) (out : List Nat) : ∀ (l : List Nat) (b c : Block),
    b.lanes = c.lanes → b.now = c.now → (∀ n, (b.pbead n).state = (c.pbead n).state) →
    (b.clearAll q p out l).lanes = (l.foldl (fun x n => x.sendDown q n (ctlRec q n 3 p)) c).lanes
  | [], _, _, hlanes, _, _ => hlanes
  | n :: l, b, c, hlanes, hnow, hstate => by
    refine lanes_clearAll q p out l _ _ ?_ ?_ fun k => ?_
    · exact lanes_sendDown_congr hlanes hnow (hstate n) _
    · simpa using hnow
    · rw [Block.pbead_modPbead]
      have hk : ((b.sendDown q n (ctlRec q n 3 p)).pbead k).state = ((c.sendDown q n (ctlRec q n 3 p)).pbead k).state := by
        simpa [Block.pbead] using hstate k
      split
      · exact hk
      · exact hk

theorem clearBeads_eq (q : Params) (b : Block) (p : Nat) : b.clearBeads q p =
    let d := (b.modPart p fun x => { x with resident := none }).setPhase p .clearing
      ((b.modPart p fun x => { x with resident := none }).part p).outgoing
    d.clearAll q p (d.part p).outgoing.toList (d.partBeads p) := by
  unfold Block.clearBeads Block.clearAll
  rfl

/-- R422, R426: what CTL CLEAR to every Bead of the partition and the start of the restore of `a` leave. -/
theorem switchTo_clearRestore (q : Params) {b c : Block} {v : Switched} (h : b.SwitchTo v c) {p a o : Nat}
    (hout : (v.part p).outgoing = some o) : ∃ m ls bs, b.SwitchTo { v with
      mp := m, lanes := ls, beads := bs
      part := Function.update v.part p { v.part p with
        resident := none, incoming := some a
        waiting := if (v.ctx a).recV = true then piecePlaces (v.part p).pieces true else []
        pieceFail := if (v.ctx a).recV = true then (v.part p).listFail else none, listFail := none, phase := .restoring }
      ctx := Function.update v.ctx a { v.ctx a with state := .restoring } } ((c.clearBeads q p).startRestore p a)
    ∧ ((v.ctx a).recV = false ∨ (v.part p).pieces = [] → m = v.mp)
    ∧ ls = ((b.partBeads p).foldl (fun x n => x.sendDown q n (ctlRec q n 3 p)) c).lanes
    ∧ ∀ n, tget {} bs n = if n ∈ b.partBeads p then { c.pbead n with clears := (c.pbead n).clears ++ [o] } else c.pbead n := by
  rw [clearBeads_eq]
  dsimp only
  have hclear := (h.modPart p fun x => { x with resident := none }).setPhase p .clearing
    ((c.modPart p fun x => { x with resident := none }).part p).outgoing
  have hkept : ∀ d, d = (c.modPart p fun x => { x with resident := none }).setPhase p .clearing
      ((c.modPart p fun x => { x with resident := none }).part p).outgoing →
      d.lanes = c.lanes ∧ d.now = c.now ∧ d.parts.beads = c.parts.beads := by
    rintro d rfl
    unfold Block.setPhase
    split
    · exact ⟨rfl, rfl, rfl⟩
    · obtain ⟨pend, t, htrace⟩ := pendsAndTraces_traceEvent _ _ _ _ _
      rw [htrace]
      exact ⟨rfl, rfl, rfl⟩
  simp only [Function.update_self, Function.update_idem] at hclear
  generalize hd : (c.modPart p fun x => { x with resident := none }).setPhase p .clearing
    ((c.modPart p fun x => { x with resident := none }).part p).outgoing = d at hclear ⊢
  obtain ⟨hlanes, hnow, hbeads⟩ := hkept d hd.symm
  have hpbead (n : Nat) : d.pbead n = c.pbead n := by rw [Block.pbead, hbeads]; rfl
  have hpart : (d.part p).outgoing = some o := by
    rw [hclear.part]
    simpa using hout
  have hbeadsOf : d.partBeads p = b.partBeads p := by
    unfold Block.partBeads Block.partSec
    rw [hclear.setting]
  rw [hpart, hbeadsOf]
  have hclearAll := pbead_clearAll q p (some o).toList (b.partBeads p) d (nodup_partBeads b p)
  have hlanesAll := lanes_clearAll q p (some o).toList (b.partBeads p) d c hlanes hnow fun n => by rw [hpbead]
  obtain ⟨ls, bs, hhalts⟩ := halts_clearAll q p (some o).toList (b.partBeads p) d
  rw [hhalts] at hclearAll hlanesAll ⊢
  obtain ⟨m, hstart, hm⟩ := (hclear.halts (ls := ls) (bs := bs)).startRestore p a
  simp only [Function.update_self, Function.update_idem] at hstart hm
  exact ⟨m, ls, bs, hstart, hm, hlanesAll, fun n => by rw [← hpbead]; exact hclearAll n⟩

/-! ### The steps of a switch -/

theorem switchTo_requestSwitch (b : Block) {p c : Nat} (r : Nat) (hres : (b.part p).resident = some c) :
    b.SwitchTo { b.switched with
      part := Function.update b.part p { b.part p with reason := r, outgoing := some c, phase := .pending }
      ctx := Function.update b.ctx c { b.ctx c with state := .outgoing } } (b.requestSwitch p r) := by
  have h := (((Block.SwitchTo.refl b).modCtx c fun x => { x with state := .outgoing }).modPart p fun x =>
    { x with reason := r, outgoing := some c }).setPhase p .pending (some c)
  simp only [Function.update_self, Function.update_idem] at h
  have hrun : b.requestSwitch p r = ((b.modCtx c fun x => { x with state := .outgoing }).modPart p fun x =>
      { x with reason := r, outgoing := some c }).setPhase p .pending (some c) := by
    unfold Block.requestSwitch
    rw [hres]
  rw [hrun]
  exact h

theorem switchTo_becomeResident {b c : Block} {v : Switched} (h : b.SwitchTo v c) (p a : Nat) :
    b.SwitchTo { v with
      part := Function.update v.part p { v.part p with
        resident := some a, since := b.now, outgoing := none, incoming := none }
      ctx := Function.update v.ctx a { v.ctx a with state := .resident } } (c.becomeResident p a) := by
  have hnow : c.now = b.now := by
    obtain ⟨ps, cs, pend, t, rfl, -, -⟩ := h
    rfl
  have hall := (h.modCtx a fun x => { x with state := .resident }).modPart p fun x =>
    { x with resident := some a, since := b.now, outgoing := none, incoming := none }
  rw [← hnow] at hall
  rw [← hnow]
  exact hall

theorem switchTo_withdrawSwitch (b : Block) (p a : Nat) : b.SwitchTo { b.switched with
      part := Function.update b.part p { b.part p with
        phase := if (b.part p).idle = true then .idle else .run
        resident := some a, since := b.now, outgoing := none, incoming := none }
      ctx := Function.update b.ctx a { b.ctx a with state := .resident } } (b.withdrawSwitch p a) := by
  have h := (switchTo_becomeResident (.refl b) p a).setPhase p (if (b.part p).idle then .idle else .run) (some a)
  simp only [Function.update_self, Function.update_idem] at h
  exact h

/-- R422, R424: SAVING begins. -/
theorem switchTo_startSave (b : Block) (m : MemView) (p a c : Nat) : ∃ fr mp x, b.SwitchTo { b.switched with
      free := fr, mp := mp
      part := Function.update b.part p x
      ctx := Function.update b.ctx a { b.ctx a with state := .saving } } (b.startSave m p a c)
    ∧ x.phase = .saving ∧ x.outgoing = (b.part p).outgoing ∧ x.incoming = some c ∧ x.position = 0
    ∧ ((b.ctx a).recV = false → (b.ctx c).recV = false →
      x.pieces = [] ∧ x.waiting = [] ∧ x.percent = 100 ∧ mp = b.mp) := by
  have hsave := (Block.SwitchTo.refl b).modCtx a fun x => { x with state := .saving }
  obtain ⟨fr, mp, hra, hmpA⟩ := hsave.readLive m p a false
  obtain ⟨fr', mp', hrc, hmpC⟩ := hra.readLive m p c true
  have hall := ((hrc.modPart p fun x =>
    { x.begin (((b.modCtx a fun x => { x with state := .saving }).readLive m p a false).pieces
        ++ (((b.modCtx a fun x => { x with state := .saving }).readLive m p a false).blk.readLive m p c true).pieces) with
      incoming := some c
      waiting := piecePlaces (((b.modCtx a fun x => { x with state := .saving }).readLive m p a false).pieces
        ++ (((b.modCtx a fun x => { x with state := .saving }).readLive m p a false).blk.readLive m p c true).pieces) false
      pieceFail := ((b.modCtx a fun x => { x with state := .saving }).readLive m p a false).fail
      listFail := (((b.modCtx a fun x => { x with state := .saving }).readLive m p a false).blk.readLive m p c true).fail }).setPhase
    p .saving (some a))
  obtain ⟨mp'', hwrite, hmp⟩ := hall.writePieces p false
  simp only [Function.update_self, Function.update_idem] at hwrite
  refine ⟨fr', mp'', _, hwrite, rfl, rfl, rfl, rfl, fun ha hc => ?_⟩
  have hrecA : ((b.modCtx a fun x => { x with state := .saving }).ctx a).recV = false := by
    rw [hsave.ctx]
    simpa using ha
  have hrecC : ((b.modCtx a fun x => { x with state := .saving }).ctx c).recV = false := by
    rw [hsave.ctx]
    by_cases hca : c = a
    · subst hca
      simpa using ha
    · simpa [hca] using hc
  have hnoA := readLive_no_record hrecA m p false
  have hpieces : (((b.modCtx a fun x => { x with state := .saving }).readLive m p a false).pieces
      ++ (((b.modCtx a fun x => { x with state := .saving }).readLive m p a false).blk.readLive m p c true).pieces) = [] := by
    rw [hnoA]
    dsimp only
    rw [readLive_no_record hrecC]
    rfl
  simp only [hpieces] at hmp hall ⊢
  refine ⟨rfl, rfl, rfl, (hmp ?_).trans ((hmpC ?_).trans (hmpA ?_))⟩
  · rw [hall.part]
    simp only [Function.update_self]
    rfl
  · rw [← hsave.ctx]
    exact hrecC
  · rw [← hsave.ctx]
    exact hrecA


end Sys2Proof.Machine
end

section
/-! SUPPORT. The steps of a context switch (R419 to R432), each by what it moves. -/

namespace Sys2Proof.Machine

/-! ### A context reset (R412) -/

/-- R412: the context reset, but for the context's own entry. -/
def Block.resetWork (p : Params) (b : Block) (c : Nat) : Block :=
  (((b.ctxSubs c).foldl (fun b seg =>
    (b.modSub seg fun s => { s with noSave := true }).abandon p seg Status.ownerLost none) (b.resetFetched c)).poisonOwned
    c).clearSeqs c

theorem resetCtx_eq (p : Params) (b : Block) (c : Nat) (cause : Status) : b.resetCtx p c cause =
    (b.resetWork p c).modCtx c fun x => { x with state := .swapped, recV := false, atSp := true, cause := cause } := rfl

theorem resetWork_frame (p : Params) (b : Block) (c : Nat) : Block.Frame 11869764 b (b.resetWork p c) := by
  unfold Block.resetWork
  refine .step ?_ (Block.clearSeqs_frame _ _) rfl
  refine .step ?_ (Block.poisonOwned_frame _ _) rfl
  refine .foldl (fun b x => ?_) _ ?_
  · refine .step ?_ (Block.abandon_frame _ _ _ _ _) rfl
    exact .step (.refl _ _) (Block.modSub_frame _ _ _) rfl
  · exact .step (.refl _ _) (Block.resetFetched_frame _ _) rfl

/-- A reset moves no partition and no other context. -/
theorem parts_resetWork (p : Params) (b : Block) (c : Nat) : (b.resetWork p c).parts = b.parts :=
  (resetWork_frame p b c 19 rfl).symm

theorem setting_resetWork (p : Params) (b : Block) (c : Nat) : (b.resetWork p c).setting = b.setting :=
  (resetWork_frame p b c 8 rfl).symm

/-- With no submission in flight no record goes to a Bead. -/
theorem lanes_resetWork {p : Params} {b : Block} {c : Nat} (h : b.ctxSubs c = []) : (b.resetWork p c).lanes = b.lanes := by
  have hframe : Block.Frame 11869252 b (b.resetWork p c) := by
    unfold Block.resetWork
    rw [h]
    refine .step ?_ (Block.clearSeqs_frame _ _) rfl
    refine .step ?_ (Block.poisonOwned_frame _ _) rfl
    exact .step (.refl _ _) (Block.resetFetched_frame _ _) rfl
  exact (hframe 9 rfl).symm

section
variable (p : Params) (b : Block) (c : Nat) (st : Status)

theorem part_resetCtx (k : Nat) : (b.resetCtx p c st).part k = b.part k := by
  change tget {} (b.resetWork p c).parts.parts k = _
  rw [parts_resetWork]
  rfl

theorem pbead_resetCtx (n : Nat) : (b.resetCtx p c st).pbead n = b.pbead n := by
  change tget {} (b.resetWork p c).parts.beads n = _
  rw [parts_resetWork]
  rfl

theorem ctx_resetCtx (k : Nat) : (b.resetCtx p c st).ctx k = if c = k
    then { b.ctx k with state := .swapped, recV := false, atSp := true, cause := st } else b.ctx k := by
  have hctx : (b.resetWork p c).ctx k = b.ctx k := by rw [Block.ctx, parts_resetWork]; rfl
  rw [resetCtx_eq, Block.ctx_modCtx, hctx]

theorem setting_resetCtx : (b.resetCtx p c st).setting = b.setting := setting_resetWork p b c

theorem now_resetCtx : (b.resetCtx p c st).now = b.now := (resetWork_frame p b c 0 rfl).symm

end

/-! ### Requests (R419) -/

theorem runnables_modPart (b : Block) (p : Nat) (f : Machine.Part → Machine.Part)
    (hf : (f (b.part p)).resident = (b.part p).resident) : (b.modPart p f).runnables p = b.runnables p := by
  have hres : ((b.modPart p f).part p).resident = (b.part p).resident := by rw [Block.part_modPart_self, hf]
  have hone : (b.modPart p f).runnable p = b.runnable p := by
    funext c
    simp only [Block.runnable, hres]
    rfl
  rw [Block.runnables, hone]
  rfl

theorem chosen_modPart {b : Block} {p c : Nat} {o : Option Nat} (f : Machine.Part → Machine.Part)
    (hf : (f (b.part p)).resident = (b.part p).resident) (h : Chosen b p o c) : Chosen (b.modPart p f) p o c := by
  unfold Chosen at h ⊢
  rw [runnables_modPart b p f hf]
  exact h

theorem switchRequest_reason {b : Block} {p r : Nat} (m : MemView) (hopen : b.switchOpen p = true)
    (hr : b.switchReason p = some r) : switchRequest p m b = if r = 6 then b.emptySwitch m p else b.requestSwitch p r := by
  unfold switchRequest
  rw [if_neg (by simp [hopen]), hr]

/-- R419, EMPTY: a switch with no outgoing half. -/
theorem switchTo_emptySwitch {b : Block} (m : MemView) {p c : Nat} (h : Chosen b p none c) : ∃ fr mp x,
    b.SwitchTo { b.switched with
      free := fr, mp := mp
      part := Function.update b.part p x
      ctx := Function.update b.ctx c { b.ctx c with state := .restoring } } (b.emptySwitch m p)
    ∧ x.phase = .restoring ∧ x.reason = 6 ∧ x.incoming = some c ∧ x.outgoing = none ∧ x.position = 0 := by
  have hout := (Block.SwitchTo.refl b).modPart p fun x => { x with outgoing := none }
  have hchoose : (b.modPart p fun x => { x with outgoing := none }).chooseCtx p = some c := by
    refine chooseCtx_of_chosen ?_
    rw [hout.part]
    simpa using chosen_modPart (fun x => { x with outgoing := none }) rfl h
  have hlist : ∃ fr mp, b.SwitchTo { b.switched with
      free := fr, mp := mp, part := Function.update b.part p { b.part p with outgoing := none } }
      ((b.modPart p fun x => { x with outgoing := none }).incomingList m p c).blk := by
    unfold Block.incomingList
    split
    · exact ⟨_, _, hout⟩
    · obtain ⟨fr, mp, hread, -⟩ := hout.readLive m p c true
      exact ⟨fr, mp, hread⟩
  obtain ⟨fr, mp, hlist⟩ := hlist
  unfold Block.emptySwitch
  dsimp only
  rw [hchoose]
  dsimp only
  obtain ⟨mp', hstart, -⟩ := (hlist.modPart p fun x =>
    { x.begin ((b.modPart p fun x => { x with outgoing := none }).incomingList m p c).pieces with
      reason := 6, listFail := ((b.modPart p fun x => { x with outgoing := none }).incomingList m p c).fail }).startRestore p c
  simp only [Function.update_self, Function.update_idem] at hstart
  exact ⟨fr, mp', _, hstart, rfl, rfl, rfl, rfl, rfl⟩

/-! ### The halves of a switch (R420 to R426) -/

/-- CTL CLEARs move the lanes of two blocks alike, where they agree on what they depend on. -/
theorem lanes_foldl_clear_congr (q : Params) (p : Nat) (l : List Nat) {b c : Block} (hlanes : b.lanes = c.lanes)
    (hnow : b.now = c.now) (hstate : ∀ n, b.pbead n = c.pbead n) :
    (l.foldl (fun x n => x.sendDown q n (ctlRec q n 3 p)) b).lanes
      = (l.foldl (fun x n => x.sendDown q n (ctlRec q n 3 p)) c).lanes :=
  (lanes_clearAll q p [] l b b rfl rfl fun _ => rfl).symm.trans
    (lanes_clearAll q p [] l b c hlanes hnow fun n => by rw [hstate])

/-- R429: the switch of an express partition saves nothing. -/
theorem switchTo_expressBoundary (q : Params) (b : Block) {p a : Nat} (c : Nat) (hout : (b.part p).outgoing = some a) :
    ∃ mp ls bs x, b.SwitchTo { b.switched with
      mp := mp, lanes := ls, beads := bs
      part := Function.update b.part p x
      ctx := Function.update (Function.update b.ctx a { b.ctx a with state := .swapped }) c
        { (Function.update b.ctx a { b.ctx a with state := .swapped }) c with state := .restoring } }
      (b.expressBoundary q p a c)
    ∧ mp = b.mp ∧ x.phase = .restoring ∧ x.resident = none ∧ x.incoming = some c ∧ x.pieces = [] ∧ x.waiting = []
    ∧ ls = ((b.partBeads p).foldl (fun x n => x.sendDown q n (ctlRec q n 3 p)) b).lanes
    ∧ ∀ n, tget {} bs n = if n ∈ b.partBeads p then { b.pbead n with clears := (b.pbead n).clears ++ [a] } else b.pbead n := by
  have hbegin := ((Block.SwitchTo.refl b).modCtx a fun x => { x with state := .swapped }).modPart p fun x =>
    { x.begin [] with listFail := none }
  obtain ⟨mp, ls, bs, hrestore, hmp, hlanes, hbeads⟩ := switchTo_clearRestore q hbegin (p := p) (a := c) (o := a)
    (by simpa [Part.begin] using hout)
  simp only [Function.update_self, Function.update_idem] at hrestore hmp
  refine ⟨mp, ls, bs, _, hrestore, hmp (.inr rfl), rfl, rfl, rfl, rfl, ?_,
    hlanes.trans (lanes_foldl_clear_congr q p _ rfl rfl fun _ => rfl), hbeads⟩
  split
  · rfl
  · rfl

/-- R529: the change of resident context is written for every Bead of the partition. -/
theorem tellBeads_eq (q : Params) (b : Block) (p c : Nat) : ∃ bs,
    b.tellBeads q p c = { b with parts := { b.parts with beads := bs } }
    ∧ ∀ n, tget {} bs n = if n ∈ b.partBeads p
      then { b.pbead n with change := some (c, (b.lane (q.laneOf n)).queued) } else b.pbead n := by
  have honly : ∀ (l : List Nat) (d : Block), ∃ bs, l.foldl (fun b n => b.modPbead n fun x =>
      { x with change := some (c, (b.lane (q.laneOf n)).queued) }) d = { d with parts := { d.parts with beads := bs } } := by
    intro l
    induction l with
    | nil => exact fun d => ⟨_, rfl⟩
    | cons n l ih => exact fun d => ih _
  have hget := foldl_get (I := fun d : Block => d.lanes = b.lanes) (get := Block.pbead)
    (f := fun b n => b.modPbead n fun x => { x with change := some (c, (b.lane (q.laneOf n)).queued) })
    (g := fun n x => { x with change := some (c, (b.lane (q.laneOf n)).queued) }) (fun _ _ h => h)
    (fun d n k (h : d.lanes = b.lanes) => by
      have hlane : d.lane (q.laneOf n) = b.lane (q.laneOf n) := by rw [Block.lane, h]; rfl
      rw [Block.pbead_modPbead, hlane]
      by_cases hnk : n = k
      · subst hnk; rfl
      · rw [if_neg hnk, if_neg hnk]) (fun _ _ => rfl) (b.partBeads p) b rfl
  obtain ⟨bs, h⟩ := honly (b.partBeads p) b
  rw [h] at hget
  exact ⟨bs, h, hget⟩

/-- R422: the switch is complete. -/
theorem switchTo_endSwitch (q : Params) (b : Block) (p c : Nat) : ∃ bs, b.SwitchTo { b.switched with
      beads := bs
      part := Function.update b.part p { b.part p with
        phase := .run, resident := some c, since := b.now, outgoing := none, incoming := none, percent := 100
        count := wrapAdd 16 (b.part p).count 1, pieces := [] }
      ctx := Function.update b.ctx c { b.ctx c with state := .resident } } (b.endSwitch q p c)
    ∧ ∀ n, tget {} bs n = if n ∈ b.partBeads p
      then { b.pbead n with change := some (c, (b.lane (q.laneOf n)).queued) } else b.pbead n := by
  have hres := switchTo_becomeResident (.refl b) p c
  obtain ⟨bs, htell, hbeads⟩ := tellBeads_eq q (b.becomeResident p c) p c
  refine ⟨bs, ?_, hbeads⟩
  unfold Block.endSwitch
  dsimp only
  rw [htell]
  have hend := ((hres.halts (ls := b.lanes) (bs := bs)).modPart p fun x =>
    { x with percent := 100, count := wrapAdd 16 x.count 1, pieces := [] }).setPhase p .run (some c)
  simp only [Function.update_self, Function.update_idem] at hend
  exact hend

/-- R420: where the context `c` is not runnable, the one that is chosen anew is another. -/
theorem switchTo_chooseAgain (b : Block) {p c : Nat} (m : MemView) (hcause : (b.ctx c).cause ≠ 0) : ∃ v,
    b.SwitchTo v (b.chooseAgain p m) ∧ v.ctx c = b.ctx c ∧ (∀ k, k ≠ p → v.part k = b.part k)
      ∧ (v.part p).incoming ≠ some c := by
  unfold Block.chooseAgain
  cases hchoose : b.chooseCtx p with
  | none =>
    refine ⟨_, ((Block.SwitchTo.refl b).modPart p fun x =>
      { x with outgoing := none, incoming := none, pieces := [], waiting := [] }).setPhase p .run none, rfl,
      fun k hk => ?_, ?_⟩
    · simp [hk]
    · simp
  | some d =>
    have hd : d ≠ c := by
      rintro rfl
      obtain ⟨hrun, -⟩ := mem_runnables_of_chooseCtx hchoose
      have hrunnable : b.runnable p d = true := (List.mem_filter.1 hrun).2
      simp only [Block.runnable, Bool.and_eq_true, beq_iff_eq] at hrunnable
      exact hcause hrunnable.1.2
    have hlist : ∃ fr mp, b.SwitchTo { b.switched with free := fr, mp := mp } (b.incomingList m p d).blk := by
      unfold Block.incomingList
      split
      · exact ⟨_, _, .refl b⟩
      · obtain ⟨fr, mp, hread, -⟩ := (Block.SwitchTo.refl b).readLive m p d true
        exact ⟨fr, mp, hread⟩
    obtain ⟨fr, mp, hlist⟩ := hlist
    obtain ⟨mp', hstart, -⟩ := (hlist.modPart p fun x =>
      { x with pieces := (b.incomingList m p d).pieces, listFail := (b.incomingList m p d).fail }).startRestore p d
    refine ⟨_, hstart, ?_, fun k hk => ?_, ?_⟩
    · simp [Ne.symm hd]
    · simp [hk]
    · simpa using hd

/-! ### The steps as commands -/

theorem ctxs_clearBeads (q : Params) (b : Block) (p k : Nat) : (b.clearBeads q p).ctx k = b.ctx k := by
  have hclear := ((Block.SwitchTo.refl b).modPart p fun x => { x with resident := none }).setPhase p .clearing
    ((b.modPart p fun x => { x with resident := none }).part p).outgoing
  rw [clearBeads_eq]
  dsimp only
  obtain ⟨ls, bs, hhalts⟩ := halts_clearAll q p _ _ ((b.modPart p fun x => { x with resident := none }).setPhase p .clearing
    ((b.modPart p fun x => { x with resident := none }).part p).outgoing)
  rw [hhalts]
  exact hclear.ctx k

/-- R422: the block in which the outgoing context `a` has been saved, or has failed to be. -/
def Block.saved (q : Params) (b : Block) (p a : Nat) : Block :=
  match (b.part p).pieceFail with
  | some st => b.resetCtx q a st
  | none => b.modCtx a fun y => { y with state := .swapped }

/-- What the end of the outgoing half leaves as it was. -/
theorem saved_kept (q : Params) (b : Block) (p a : Nat) : (∀ k, (b.saved q p a).part k = b.part k)
    ∧ (∀ n, (b.saved q p a).pbead n = b.pbead n) ∧ (b.saved q p a).setting = b.setting
    ∧ (b.saved q p a).now = b.now ∧ ∀ k, k ≠ a → (b.saved q p a).ctx k = b.ctx k := by
  unfold Block.saved
  split
  · next st _ =>
    exact ⟨part_resetCtx q b a st, pbead_resetCtx q b a st, setting_resetCtx q b a st, now_resetCtx q b a st,
      fun k hk => by rw [ctx_resetCtx, if_neg (Ne.symm hk)]⟩
  · exact ⟨fun _ => rfl, fun _ => rfl, rfl, rfl, fun k hk => Block.ctx_modCtx_ne _ _ (Ne.symm hk)⟩

theorem saved_ok {b : Block} {p : Nat} (h : (b.part p).pieceFail = none) (q : Params) (a : Nat) :
    b.saved q p a = b.modCtx a fun y => { y with state := .swapped } := by
  rw [Block.saved, h]

theorem saved_failed {b : Block} {p : Nat} {st : Status} (h : (b.part p).pieceFail = some st) (q : Params) (a : Nat) :
    b.saved q p a = b.resetCtx q a st := by
  rw [Block.saved, h]

theorem lanes_saved {b : Block} {p a : Nat} (h : (b.part p).pieceFail = none ∨ b.ctxSubs a = []) (q : Params) :
    (b.saved q p a).lanes = b.lanes := by
  cases hfail : (b.part p).pieceFail with
  | none => rw [saved_ok hfail]; rfl
  | some st =>
    rw [saved_failed hfail]
    exact lanes_resetWork (h.resolve_left (by simp [hfail]))

theorem modPart_congr {b : Block} {p : Nat} {f g : Machine.Part → Machine.Part} (h : f (b.part p) = g (b.part p)) :
    b.modPart p f = b.modPart p g := by
  unfold Block.part at h
  simp only [Block.modPart, tmod, h]

theorem switchSaveDone_saved {q : Params} {b : Block} (m : MemView) {p a c : Nat} (hphase : (b.part p).phase = .saving)
    (hout : (b.part p).outgoing = some a) (hin : (b.part p).incoming = some c) (hnone : (b.part p).waiting = [])
    (hne : c ≠ a) (hctx : (b.ctx c).state = .swapped ∧ (b.ctx c).part = p ∧ (b.ctx c).cause = 0) :
    switchSaveDone q p m b = ((b.saved q p a).clearBeads q p).startRestore p c := by
  have hsame : ((b.saved q p a).clearBeads q p).ctx c = b.ctx c := by
    rw [ctxs_clearBeads, Block.saved]
    split
    · rw [ctx_resetCtx, if_neg (Ne.symm hne)]
    · exact Block.ctx_modCtx_ne _ _ (Ne.symm hne)
  unfold switchSaveDone
  dsimp only
  rw [hphase, hout, hin]
  dsimp only
  rw [if_neg (by simp [hnone])]
  change (if (((b.saved q p a).clearBeads q p).ctx c).state == .swapped && (((b.saved q p a).clearBeads q p).ctx c).part == p
    && (((b.saved q p a).clearBeads q p).ctx c).cause == 0 then _ else _) = _
  rw [hsame]
  exact if_pos (by simp [hctx])

theorem switchSaveDone_waits {q : Params} {b : Block} (m : MemView) {p a c : Nat} (hphase : (b.part p).phase = .saving)
    (hout : (b.part p).outgoing = some a) (hin : (b.part p).incoming = some c) (hwait : (b.part p).waiting ≠ []) :
    switchSaveDone q p m b = b := by
  unfold switchSaveDone
  dsimp only
  rw [hphase, hout, hin]
  exact if_pos (by simpa using hwait)

theorem switchBoundary_pending {q : Params} {b : Block} (m : MemView) {p a : Nat} (hphase : (b.part p).phase = .pending)
    (hout : (b.part p).outgoing = some a) : switchBoundary q p m b =
      if !b.boundary p a then b
      else match b.chooseCtx p with
      | none => b.withdrawSwitch p a
      | some c => if (b.partSec p).express then b.expressBoundary q p a c else b.startSave m p a c := by
  unfold switchBoundary
  rw [hphase, hout] <;> rfl

theorem switchRestoreDone_eq {q : Params} {b : Block} (m : MemView) {p c : Nat} (hphase : (b.part p).phase = .restoring)
    (hin : (b.part p).incoming = some c) (hnone : (b.part p).waiting = []) : switchRestoreDone q p m b =
      match (b.part p).pieceFail with
      | some st => (b.resetCtx q c st).chooseAgain p m
      | none => b.endSwitch q p c := by
  unfold switchRestoreDone
  dsimp only
  rw [hphase, hin]
  exact if_neg (by simp [hnone])

/-- What the sending of a piece moves. -/
theorem sendPiece_spec (q : Params) (b : Block) (p k a w : Nat) (x : Piece) :
    let g := wrapAdd 16 (b.cwin a w).gen 1
    let area := (b.ctx x.ctx).area
    (b.sendPiece q p k a w x).cwin a w = { b.cwin a w with gen := g, piece := some (p, k) }
    ∧ (∀ i v, ¬ (i = a ∧ v = w) → (b.sendPiece q p k a w x).cwin i v = b.cwin i v)
    ∧ (b.sendPiece q p k a w x).part p = { b.part p with pieces := (b.part p).pieces.set k { x with sent := true } }
    ∧ (∀ i, i ≠ p → (b.sendPiece q p k a w x).part i = b.part i)
    ∧ (b.sendPiece q p k a w x).lanes = (b.sendDown q a (nodeRec q a w g (nodeEntry 0 0xFFFFFFFF 0 5 0
      { used := true, kind := 0, cls := 2, record := area, param := area + 0x40 + 64 * x.num }))).lanes
    ∧ b.sendPiece q p k a w x = { b with
      lanes := (b.sendPiece q p k a w x).lanes, graph := { b.graph with cwin := (b.sendPiece q p k a w x).graph.cwin }
      parts := { b.parts with parts := (b.sendPiece q p k a w x).parts.parts } } := by
  have hcongr := lanes_sendDown_congr (p := q) (b := b.modCwin a w fun c =>
    { c with gen := wrapAdd 16 (b.cwin a w).gen 1, piece := some (p, k) }) (c := b) (n := a) rfl rfl rfl
    (nodeRec q a w (wrapAdd 16 (b.cwin a w).gen 1) (nodeEntry 0 0xFFFFFFFF 0 5 0
      { used := true, kind := 0, cls := 2, record := (b.ctx x.ctx).area
        param := (b.ctx x.ctx).area + 0x40 + 64 * x.num }))
  have hsend : ∃ ls, (b.modCwin a w fun c => { c with gen := wrapAdd 16 (b.cwin a w).gen 1, piece := some (p, k) }).sendDown q a
      (nodeRec q a w (wrapAdd 16 (b.cwin a w).gen 1) (nodeEntry 0 0xFFFFFFFF 0 5 0
        { used := true, kind := 0, cls := 2, record := (b.ctx x.ctx).area
          param := (b.ctx x.ctx).area + 0x40 + 64 * x.num })) = { (b.modCwin a w fun c =>
            { c with gen := wrapAdd 16 (b.cwin a w).gen 1, piece := some (p, k) }) with lanes := ls } := by
    unfold Block.sendDown
    split
    · exact ⟨_, rfl⟩
    · exact ⟨_, rfl⟩
  obtain ⟨ls, hls⟩ := hsend
  have hrun : b.sendPiece q p k a w x = Block.modPart { (b.modCwin a w fun c =>
      { c with gen := wrapAdd 16 (b.cwin a w).gen 1, piece := some (p, k) }) with lanes := ls } p fun y =>
        { y with pieces := y.pieces.set k { x with sent := true } } := by
    rw [← hls]
    rfl
  rw [hls] at hcongr
  dsimp only
  rw [hrun]
  refine ⟨?_, fun i v hiv => ?_, ?_, fun i hi => ?_, hcongr, rfl⟩
  · exact Block.cwin_modCwin_self b a w _
  · exact (Block.cwin_modCwin b a w i v _).trans (if_neg fun h => hiv ⟨h.1.symm, h.2.symm⟩)
  · exact Block.part_modPart_self _ _ _
  · exact Block.part_modPart_ne _ _ (Ne.symm hi)

/-- R422, R425: what becomes of a piece that is to be sent. -/
theorem tryPiece_eq (q : Params) (p : Nat) {b : Block} {k : Nat} {x : Piece} (hk : (b.part p).pieces[k]? = some x)
    (hsent : x.sent = false) : Block.tryPiece q p b k =
      if (b.pbead x.bead).state = .disabled ∨ (b.pbead x.bead).state = .fenced then b.failPiece p k
      else if !b.laneOpen q x.bead || !b.roomDown q x.bead then b
      else match b.freeWin x.bead with
      | none => b
      | some w => b.sendPiece q p k x.bead w x := by
  unfold Block.tryPiece
  rw [hk]
  exact if_neg (by simp [hsent])

/-- R422: one piece that is to be sent. -/
theorem sendPieces_one {k : Nat} {i : Instr} {s : State} {r : BitVec 4} {m : MemView}
    (hi : (i = .switchBoundary r m ∧ (s.blk.part r.toNat).phase = .saving)
      ∨ (i = .switchSaveDone r m ∧ (s.blk.part r.toNat).phase = .restoring))
    (hwrites : s.blk.mp.writesFor (· == .savePiece r.toNat) = false) (hwaiting : (s.blk.part r.toNat).waiting = [k]) :
    exec i s = .next { s with blk := Block.tryPiece s.params r.toNat s.blk k } := by
  have hsend (hphase : (s.blk.part r.toNat).phase = .saving ∨ (s.blk.part r.toNat).phase = .restoring) :
      s.blk.sendPieces s.params r.toNat = Block.tryPiece s.params r.toNat s.blk k := by
    unfold Block.sendPieces
    dsimp only
    rw [if_neg (by obtain h | h := hphase <;> simp [h, hwrites]), hwaiting]
    rfl
  obtain ⟨rfl, hphase⟩ | ⟨rfl, hphase⟩ := hi
  · refine next_block (Eq.trans ?_ (hsend (.inl hphase)))
    unfold switchBoundary
    rw [hphase]
  · refine next_block (Eq.trans ?_ (hsend (.inr hphase)))
    unfold switchSaveDone
    dsimp only
    rw [hphase]

theorem ctxs_setPhase (b : Block) (p : Nat) (ph : Phase) (x : Option Nat) :
    (b.setPhase p ph x).parts.ctxs = b.parts.ctxs := by
  unfold Block.setPhase
  split
  · rfl
  · obtain ⟨pend, t, htrace⟩ := pendsAndTraces_traceEvent _ _ _ _ _
    rw [htrace]
    rfl

theorem ctxs_idleHint (b : Block) (p : Nat) : (idleHint p b).parts.ctxs = b.parts.ctxs := by
  have hmean : (b.hintMean (b.part p)).2.parts = b.parts := by
    unfold Block.hintMean
    dsimp only
    generalize (if (b.part p).idlePeriods.isEmpty = true then 0
      else (b.part p).idlePeriods.sum / (b.part p).idlePeriods.length) = v
    split
    · rfl
    · rfl
  unfold idleHint
  dsimp only
  split
  · rfl
  · split
    · split
      · rw [ctxs_setPhase, ← hmean]
        rfl
      · rw [← hmean]
        rfl
    · split
      · rw [ctxs_setPhase]
        rfl
      · rfl

/-- R431: an idle period begins. -/
theorem switchTo_idleBegins {b : Block} {p : Nat} (hidle : (b.part p).idle = false) (hnow : b.partIdle p = true)
    (hmean : (b.part p).idlePeriods.sum / (b.part p).idlePeriods.length < 2 ^ 40) : b.SwitchTo { b.switched with
      part := Function.update b.part p { b.part p with
        idle := true, idleSince := b.now
        phase := if (b.part p).settled = true then .idle else (b.part p).phase
        hintWait := (b.part p).idlePeriods.sum / (b.part p).idlePeriods.length
        hintOut := some ((b.part p).idlePeriods.sum / (b.part p).idlePeriods.length) } } (idleHint p b) := by
  have hv : (if (b.part p).idlePeriods.isEmpty then 0 else (b.part p).idlePeriods.sum / (b.part p).idlePeriods.length) =
      (b.part p).idlePeriods.sum / (b.part p).idlePeriods.length := by
    cases (b.part p).idlePeriods with
    | nil => rfl
    | cons x l => rfl
  have hhint : b.hintMean (b.part p) = ((b.part p).idlePeriods.sum / (b.part p).idlePeriods.length, b) := by
    unfold Block.hintMean
    dsimp only
    rw [hv]
    exact if_pos hmean
  have hmod := (Block.SwitchTo.refl b).modPart p fun x =>
    { x with
      idle := true, idleSince := b.now
      hintWait := (b.part p).idlePeriods.sum / (b.part p).idlePeriods.length
      hintOut := some ((b.part p).idlePeriods.sum / (b.part p).idlePeriods.length) }
  have hrun : idleHint p b =
      let r := b.hintMean (b.part p)
      let d := r.2.modPart p fun x => { x with idle := true, idleSince := b.now, hintWait := r.1, hintOut := some r.1 }
      if (b.part p).settled then d.setPhase p .idle (d.part p).resident else d :=
    (if_neg (by rw [hnow, hidle]; decide)).trans (if_pos hnow)
  rw [hrun, hhint]
  dsimp only
  by_cases hsettled : (b.part p).settled = true
  · simp only [if_pos hsettled]
    have hphase := hmod.setPhase p .idle ((b.modPart p fun x =>
      { x with
        idle := true, idleSince := b.now
        hintWait := (b.part p).idlePeriods.sum / (b.part p).idlePeriods.length
        hintOut := some ((b.part p).idlePeriods.sum / (b.part p).idlePeriods.length) }).part p).resident
    simp only [Function.update_self, Function.update_idem] at hphase
    exact hphase
  · simp only [if_neg hsettled]
    exact hmod

/-- R431: an idle period ends. -/
theorem switchTo_idleEnds {b : Block} {p : Nat} (hidle : (b.part p).idle = true) (hnow : b.partIdle p = false) :
    b.SwitchTo { b.switched with
      part := Function.update b.part p { b.part p with
        idle := false
        idlePeriods := ((b.part p).idlePeriods ++ [b.now - (b.part p).idleSince]).drop
          (((b.part p).idlePeriods ++ [b.now - (b.part p).idleSince]).length - 8)
        hintWait := 0, hintOut := some 0
        phase := if (b.part p).phase = .idle then .run else (b.part p).phase } } (idleHint p b) := by
  have hmod := (Block.SwitchTo.refl b).modPart p fun x =>
    { x with
      idle := false
      idlePeriods := ((b.part p).idlePeriods ++ [b.now - (b.part p).idleSince]).drop
        (((b.part p).idlePeriods ++ [b.now - (b.part p).idleSince]).length - 8)
      hintWait := 0, hintOut := some 0 }
  have hrun : idleHint p b =
      let ps := (b.part p).idlePeriods ++ [b.now - (b.part p).idleSince]
      let d := b.modPart p fun x =>
        { x with idle := false, idlePeriods := ps.drop (ps.length - 8), hintWait := 0, hintOut := some 0 }
      if (d.part p).phase = Phase.idle then d.setPhase p .run (d.part p).resident else d :=
    (if_neg (by rw [hnow, hidle]; decide)).trans (if_neg (by rw [hnow]; decide))
  have hpart := hmod.part p
  simp only [Function.update_self] at hpart
  rw [hrun]
  dsimp only
  rw [hpart]
  by_cases hphase : (b.part p).phase = .idle
  · simp only [if_pos hphase]
    have hrun := (hmod.setPhase p .run (b.switched.part p).resident)
    simp only [Function.update_self, Function.update_idem] at hrun
    exact (if_pos hphase).symm ▸ hrun
  · simp only [if_neg hphase]
    exact (if_neg hphase).symm ▸ hmod

/-- Settles O53: each step of a switch by what it moves of the partitions, the contexts and the Beads. -/
theorem switchesRunTheirHalves : Obligations.SwitchesRunTheirHalves := by
  refine ⟨fun s q m i c r hopen hres hi => ?request, fun s q m c hopen hres hchosen => ?empty,
    fun s q m o hphase hout => ⟨fun hb => ?waits, fun hb hnone => ?withdrawn, fun hb c hchosen hne =>
      ⟨fun hexpress => ?save, fun hexpress => ?express⟩⟩,
    fun s q m o c hphase hout hin hne => ⟨fun hwait => ?saveWaits, fun hnone hstate hpart hcause => ?saveDone⟩,
    fun s q m i k x hi hwrites hwaiting hk hsent => ?piece,
    fun s q m c hphase hin hnone => ⟨fun hfail => ?restoreDone, fun st hfail hst => ?restoreFails⟩,
    fun s q hidle hnow hmean => ?idleBegins, fun s q hidle hnow => ?idleEnds, fun s q => rfl⟩
  case request =>
    have hrun : ∃ b, exec i s = .next { s with blk := b } ∧ b = s.blk.requestSwitch q.toNat r := by
      obtain ⟨rfl, rfl, hq, hdue, hrunnable⟩ | ⟨rfl, hr, hne⟩ := hi
      · exact ⟨_, next_block (if_pos (by simp [hopen, hres, hq, hdue, hrunnable])), rfl⟩
      · exact ⟨_, next_block ((switchRequest_reason m hopen hr).trans (if_neg hne)), rfl⟩
    obtain ⟨b, hexec, rfl⟩ := hrun
    obtain ⟨ps, cs, pend, t, hb, hps, hcs⟩ := switchTo_requestSwitch s.blk r hres
    rw [hb] at hexec
    refine ⟨_, hexec, (hps _).trans ?_, fun k hk => (hps k).trans ?_, (hcs c).trans ?_, fun k hk => (hcs k).trans ?_, rfl⟩
    · simp
    · simp [hk]
    · simp
    · simp [hk]
  case empty =>
    have hreason : s.blk.switchReason q.toNat = some 6 := by
      have hsome : s.blk.runnables q.toNat ≠ [] := fun h => List.not_mem_nil (h ▸ hchosen.1.1)
      unfold Block.switchReason
      dsimp only
      rw [hres]
      exact if_neg (by simpa using hsome)
    obtain ⟨fr, mp, x, ⟨ps, cs, pend, t, hb, hps, hcs⟩, hphase, hr, hin, hout, hpos⟩ := switchTo_emptySwitch m hchosen
    have hpart := hps q.toNat
    simp only [Function.update_self] at hpart
    refine ⟨_, next_block ((switchRequest_reason m hopen hreason).trans ((if_pos rfl).trans hb)),
      (congrArg Part.phase hpart).trans hphase, (congrArg Part.reason hpart).trans hr,
      (congrArg Part.incoming hpart).trans hin, (congrArg Part.outgoing hpart).trans hout,
      (congrArg Part.position hpart).trans hpos, fun k hk => (hps k).trans ?_, (hcs c).trans ?_,
      fun k hk => (hcs k).trans ?_, rfl⟩
    · simp [hk]
    · simp
    · simp [hk]
  case waits => exact next_block ((switchBoundary_pending m hphase hout).trans (if_pos (by simp [hb])))
  case withdrawn =>
    have hrun : switchBoundary s.params q.toNat m s.blk = s.blk.withdrawSwitch q.toNat o := by
      rw [switchBoundary_pending m hphase hout, if_neg (by simp [hb]), chooseCtx_none hnone]
    obtain ⟨ps, cs, pend, t, hb, hps, hcs⟩ := switchTo_withdrawSwitch s.blk q.toNat o
    refine ⟨_, next_block (hrun.trans hb), (hps _).trans ?_, fun k hk => (hps k).trans ?_, (hcs o).trans ?_,
      fun k hk => (hcs k).trans ?_, rfl⟩
    · simp
    · simp [hk]
    · simp
    · simp [hk]
  case save =>
    have hrun : switchBoundary s.params q.toNat m s.blk = s.blk.startSave m q.toNat o c := by
      rw [switchBoundary_pending m hphase hout, if_neg (by simp [hb]), chooseCtx_of_chosen (hout.symm ▸ hchosen)]
      exact if_neg (by simp [hexpress])
    obtain ⟨fr, mp, x, ⟨ps, cs, pend, t, hb, hps, hcs⟩, hx, hxout, hxin, hxpos, hnone⟩ :=
      switchTo_startSave s.blk m q.toNat o c
    have hpart := hps q.toNat
    simp only [Function.update_self] at hpart
    refine ⟨_, next_block (hrun.trans hb), (congrArg Part.phase hpart).trans hx,
      (congrArg Part.outgoing hpart).trans (hxout.trans hout), (congrArg Part.incoming hpart).trans hxin,
      (congrArg Part.position hpart).trans hxpos, fun k hk => (hps k).trans ?_, (hcs o).trans ?_,
      fun k hk => (hcs k).trans ?_, fun ho hc => ?_, rfl⟩
    · simp [hk]
    · simp
    · simp [hk]
    · obtain ⟨hpieces, hwaiting, hpercent, hmp⟩ := hnone ho hc
      exact ⟨(congrArg Part.pieces hpart).trans hpieces, (congrArg Part.waiting hpart).trans hwaiting,
        (congrArg Part.percent hpart).trans hpercent, hmp⟩
  case express =>
    have hrun : switchBoundary s.params q.toNat m s.blk = s.blk.expressBoundary s.params q.toNat o c := by
      rw [switchBoundary_pending m hphase hout, if_neg (by simp [hb]), chooseCtx_of_chosen (hout.symm ▸ hchosen)]
      exact if_pos hexpress
    obtain ⟨mp, ls, bs, x, ⟨ps, cs, pend, t, hb, hps, hcs⟩, rfl, hx, hxres, hxin, hxpieces, hxwaiting, hlanes, hbeads⟩ :=
      switchTo_expressBoundary s.params s.blk c hout
    have hpart := hps q.toNat
    simp only [Function.update_self] at hpart
    refine ⟨_, next_block (hrun.trans hb), (congrArg Part.phase hpart).trans hx,
      (congrArg Part.resident hpart).trans hxres, (congrArg Part.incoming hpart).trans hxin,
      (congrArg Part.pieces hpart).trans hxpieces, (congrArg Part.waiting hpart).trans hxwaiting,
      fun k hk => (hps k).trans ?_, (hcs o).trans ?_, (hcs c).trans ?_, fun k hko hkc => (hcs k).trans ?_, hlanes, hbeads, rfl⟩
    · simp [hk]
    · simp [Ne.symm hne]
    · simp [hne]
    · simp [hko, hkc]
  case saveWaits => exact next_block (switchSaveDone_waits m hphase hout hin hwait)
  case saveDone =>
    have hrun := switchSaveDone_saved (q := s.params) m hphase hout hin hnone hne ⟨hstate, hpart, hcause⟩
    obtain ⟨hparts, hpbeads, hsetting, hnow, hctxs⟩ := saved_kept s.params s.blk q.toNat o
    have hbeadsOf : (s.blk.saved s.params q.toNat o).partBeads q.toNat = s.blk.partBeads q.toNat := by
      unfold Block.partBeads Block.partSec
      rw [hsetting]
    obtain ⟨mp, ls, bs, ⟨ps, cs, pend, t, hb, hps, hcs⟩, hmp, hlanes, hbeads⟩ :=
      switchTo_clearRestore s.params (.refl (s.blk.saved s.params q.toNat o)) (p := q.toNat) (a := c) (o := o)
        (by simpa [hparts] using hout)
    rw [hbeadsOf] at hlanes hbeads
    simp only [Block.switched_part, Block.switched_ctx, Block.switched_mp, hparts, hctxs c hne] at hps hcs hmp
    have hpartq := hps q.toNat
    simp only [Function.update_self] at hpartq
    refine ⟨_, next_block (hrun.trans hb), congrArg Part.phase hpartq, congrArg Part.resident hpartq,
      congrArg Part.incoming hpartq, fun k hk => (hps k).trans ?_, (hcs c).trans ?_,
      fun k hko hkc => (hcs k).trans ?_, congrArg Part.waiting hpartq, fun hrec hfail => (hmp (.inl hrec)).trans ?_,
      fun hsafe => hlanes.trans (lanes_foldl_clear_congr s.params q.toNat _ (lanes_saved hsafe _) hnow hpbeads),
      fun n => ?_, fun hfail => ⟨(hcs o).trans ?_, ?_⟩, fun st hfail => (hcs o).trans ?_⟩
    · simp [hk, hparts]
    · simp
    · simp [hkc, hctxs k hko]
    · rw [saved_ok hfail]
      rfl
    · rw [← hpbeads]
      exact hbeads n
    · simp [Ne.symm hne, saved_ok hfail]
    · rw [saved_ok hfail]
      rfl
    · rw [Function.update_of_ne (Ne.symm hne), saved_failed hfail, ctx_resetCtx, if_pos rfl]
  case piece =>
    have hrun := sendPieces_one hi hwrites hwaiting
    have htry := tryPiece_eq s.params q.toNat hk hsent
    refine ⟨fun hst => hrun.trans (next_block (htry.trans ((if_pos hst).trans (modPart_congr ?_)))),
      fun hd hf hclosed => hrun.trans (next_block (htry.trans ((if_neg (not_or.2 ⟨hd, hf⟩)).trans ?_))),
      fun w hd hf hopen hw => ?_⟩
    · simp [hwaiting]
    · by_cases hopen : s.blk.laneOpen s.params x.bead = true ∧ s.blk.roomDown s.params x.bead = true
      · rw [if_neg (by simp [hopen]), hclosed.resolve_left (not_not.2 hopen)]
      · refine if_pos ?_
        cases hlane : s.blk.laneOpen s.params x.bead with
        | false => rfl
        | true => simpa [hlane] using hopen
    · have hsend : Block.tryPiece s.params q.toNat s.blk k = s.blk.sendPiece s.params q.toNat k x.bead w x := by
        rw [htry, if_neg (not_or.2 ⟨hd, hf⟩), if_neg (by simp [hopen]), hw]
      exact ⟨_, hrun.trans (next_block hsend), sendPiece_spec s.params s.blk q.toNat k x.bead w x⟩
  case restoreDone =>
    obtain ⟨bs, ⟨ps, cs, pend, t, hb, hps, hcs⟩, hbeads⟩ := switchTo_endSwitch s.params s.blk q.toNat c
    have hrun := (switchRestoreDone_eq (q := s.params) m hphase hin hnone)
    rw [hfail] at hrun
    refine ⟨_, next_block (hrun.trans hb), (hps _).trans ?_, fun k hk => (hps k).trans ?_, (hcs c).trans ?_,
      fun k hk => (hcs k).trans ?_, hbeads, rfl⟩
    · simp
    · simp [hk]
    · simp
    · simp [hk]
  case restoreFails =>
    have hctx := ctx_resetCtx s.params s.blk c st c
    rw [if_pos rfl] at hctx
    obtain ⟨v, hagain, hc, hothers, hin'⟩ := switchTo_chooseAgain (s.blk.resetCtx s.params c st) (p := q.toNat) (c := c) m
      (by rw [hctx]; exact hst)
    have hrun := (switchRestoreDone_eq (q := s.params) m hphase hin hnone)
    rw [hfail] at hrun
    refine ⟨_, next_block hrun, ?_, fun k hk => ?_, ?_⟩
    · rw [hagain.ctx, hc, hctx]
    · rw [hagain.part, hothers k hk, part_resetCtx]
    · rw [hagain.part]
      exact hin'
  case idleBegins =>
    have hctxs := ctxs_idleHint s.blk q.toNat
    obtain ⟨ps, cs, pend, t, hb, hps, hcs⟩ := switchTo_idleBegins hidle hnow hmean
    rw [hb] at hctxs
    obtain rfl : cs = s.blk.parts.ctxs := hctxs
    refine ⟨_, next_block hb, (hps _).trans ?_, fun k hk => (hps k).trans ?_, rfl⟩
    · simp
    · simp [hk]
  case idleEnds =>
    have hctxs := ctxs_idleHint s.blk q.toNat
    obtain ⟨ps, cs, pend, t, hb, hps, hcs⟩ := switchTo_idleEnds hidle hnow
    rw [hb] at hctxs
    obtain rfl : cs = s.blk.parts.ctxs := hctxs
    refine ⟨_, next_block hb, (hps _).trans ?_, fun k hk => (hps k).trans ?_, rfl⟩
    · simp
    · simp [hk]

end Sys2Proof.Machine
end

section
/-! SUPPORT. The fall of a link (R373, R376) and the queue of HELLO packets: the state that refutes the statement on
peers. -/

namespace Sys2Proof.Machine

/-- A packet to peer 5 that is no HELLO, and yet names link 1. -/
def strayPacket : TxPacket := { words := signalPacket 0x10 5 0 0 Status.aborted false 0, link := 1, peer := 0, by' := .poison }

/-- Links 0 and 1 are up, and peer 5 is UP on link 0. The packet stands among the HELLOs and is being sent on link 0. The
model puts HELLO packets alone into that queue (`Block.sendHello`), but the statement speaks of every state. -/
def strayInHellos : State :=
  { State.reset with blk :=
    { link := { en := true, opened := true, up := 3, peers := [(0, { valid := true, state := .up, peer := 5 })]
                hellos := [strayPacket], sending := some (strayPacket, 0) } } }

/-- LINK_UP_FALL leaves the block that `linkUpFall` gives. -/
theorem linkUpFall_of_exec {s : State} {l : BitVec 4} {b : Block} (h : exec (.linkUpFall l) s = .next { s with blk := b }) :
    linkUpFall l.toNat s.blk = b :=
  congrArg State.blk (Host.Outcome.next.inj h)

/-- The link port starts a HELLO on the link that the queue's entry names, which is up, and sends any other packet on the
link of its peer: the packet is started again on link 0, which has just fallen. -/
theorem sending_linkUpFall_strayInHellos : (linkUpFall 0 strayInHellos.blk).link.sending = some (strayPacket, 0) := by
  decide +kernel

/-- Refutes O46: by its clause on the fall of a link, no packet that was being sent on the link is still being sent on it.
In `strayInHellos` one is. -/
theorem not_peersSayHello : ¬ Obligations.PeersSayHello := by
  rintro ⟨-, hfall, -⟩
  obtain ⟨b, hexec, -, -, -, -, hsending, -⟩ := hfall strayInHellos 0 (by decide) (by decide)
  have hagain := sending_linkUpFall_strayInHellos
  rw [show linkUpFall 0 strayInHellos.blk = b from linkUpFall_of_exec hexec] at hagain
  exact (hsending _ hagain).elim (fun h => h rfl) fun h => h rfl

end Sys2Proof.Machine
end

section
/-! SUPPORT. A refused TRACE_CTL node, and the state that refutes the statement on the trace writer. -/

namespace Sys2Proof.Machine

/-- TRACE_CTL leaves the block that `traceCtlOp` gives as the operation of a PRIV node. -/
theorem traceCtl_of_exec {s : State} {g i : Nat} {m : MemView} {b : Block}
    (h : exec (.traceCtl g i m) s = .next { s with blk := b }) : s.blk.privAct s.params m g i 5 (traceCtlOp m) = b :=
  congrArg State.blk (Host.Outcome.next.inj h)

/-- A segment for the submission of `unusedSpilled`: node 0 is a TRACE_CTL with OP 0, which R474 accepts in no state,
and its one successor is node 1, a WAIT with NPRED 1. -/
def refusedTraceSegment : MemView :=
  { words := [(0x40, 7), (0x48, 0x100000000), (0x50, 5), (0x80, 0x10003), (0xC0, 1)] }

/-- The one edge of node 0 reaches node 1: its entry is created when the list is read (R217), in the cache. -/
theorem edgesReach_refusedTraceSegment :
    EdgesReach unusedSpilled.params unusedSpilled.blk refusedTraceSegment 0 0 := by
  have hedges : unusedSpilled.blk.claspEdges unusedSpilled.params refusedTraceSegment 0 0 = [1] := by decide +kernel
  have hlist : (unusedSpilled.blk.claspList unusedSpilled.params refusedTraceSegment 0 0).1 = Status.ok := by
    decide +kernel
  have hroom : unusedSpilled.blk.pgEntries + 1 ≤ unusedSpilled.params.nodeCache := by decide +kernel
  have hparent : (unusedSpilled.blk.node 0 0).parent = none := by decide
  have hsucc : ((unusedSpilled.blk.listed unusedSpilled.params refusedTraceSegment 0 0).node 0 1).used = true
      ∧ ((unusedSpilled.blk.listed unusedSpilled.params refusedTraceSegment 0 0).node 0 1).spilled = false
      ∧ ((unusedSpilled.blk.listed unusedSpilled.params refusedTraceSegment 0 0).node 0 1).count = 1 := by
    decide +kernel
  obtain ⟨hused, hcached, hcount⟩ := hsucc
  unfold EdgesReach
  rw [hedges]
  refine ⟨hlist, rfl, ⟨rfl, rfl, hroom⟩, rfl, rfl, by decide, fun e he => ?_, fun j hj => ?_⟩
  · rw [hparent] at he
    cases he
  · obtain rfl := List.mem_singleton.1 hj
    exact ⟨hused, hcached, List.not_mem_nil, .inr (Nat.le_of_eq hcount.symm)⟩

/-- While node 0 reads its list, the pager is asked to refill the entry that node 1 only claims to have (R236). -/
theorem heldReads_traceCtl_unusedSpilled :
    (unusedSpilled.blk.privAct unusedSpilled.params refusedTraceSegment 0 0 5 (traceCtlOp refusedTraceSegment)).mp.heldReads =
      [{ port := 63, id := 0, cls := 1, addr := 0, len := 32, purpose := .refill 0 1 }] := by decide +kernel

/-- Refutes O55: of the memory ports, a refused TRACE_CTL node may change the record of an error alone, in every
state. In `unusedSpilled` its list asks for the refill of an entry that is not in use, as a refused PARTITION_CTL
node's does. -/
theorem not_theTraceWriterKeepsItsRing : ¬ Obligations.TheTraceWriterKeepsItsRing := by
  rintro ⟨-, -, -, -, hnode, -⟩
  have hact : unusedSpilled.blk.gate 0 0 = .act := by decide +kernel
  obtain ⟨-, -, -, hrefused⟩ := hnode unusedSpilled 0 0 refusedTraceSegment rfl (by decide) hact
    edgesReach_refusedTraceSegment
  obtain ⟨b, hexec, -, -, -, hframe⟩ := hrefused (by decide) (by decide)
  have hnone : b.mp.heldReads = [] := congrArg (·.mp.heldReads) hframe
  rw [← traceCtl_of_exec hexec, heldReads_traceCtl_unusedSpilled] at hnone
  cases hnone

end Sys2Proof.Machine
end

section
/-! SUPPORT. The end of a STEP (R352), and the state that refutes the statement on the sequence table. -/

namespace Sys2Proof.Machine

/-- STEP_RETIRE leaves the block that `stepRetire` gives. -/
theorem stepRetire_of_exec {s : State} {g i : Nat} {m : MemView} {b : Block}
    (h : exec (.stepRetire g i m) s = .next { s with blk := b }) : stepRetire s.params g i m s.blk = b :=
  congrArg State.blk (Host.Outcome.next.inj h)

/-- The submission of `unusedSpilled`, with a STEP as its node 0: the build has created no task, so that the STEP
retires. Of node 1, which is not in use, the entry says all the same that it stands in the pager region. -/
def stepBeforeUnusedSpilled : State :=
  { unusedSpilled with blk := { unusedSpilled.blk with
      graph := { subs := [(0,
        { live := true, nnodes := 2, nblk := 1
          nodes := [(0, { used := true, kind := 5, state := .acting, record := 0x40, own := some Status.ok }),
                    (1, { spilled := true, slots := [0] })] })] } } }

/-- The segment of that submission: node 0 is a STEP, and its one successor is node 1, a WAIT with NPRED 1. -/
def stepSegment : MemView :=
  { words := [(0x40, 5), (0x48, 0x100000000), (0x80, 0x10003), (0xC0, 1)] }

/-- The one edge of node 0 reaches node 1: its entry is created when the list is read (R217), in the cache. -/
theorem edgesReach_stepBeforeUnusedSpilled :
    EdgesReach stepBeforeUnusedSpilled.params stepBeforeUnusedSpilled.blk stepSegment 0 0 := by
  have hedges : stepBeforeUnusedSpilled.blk.claspEdges stepBeforeUnusedSpilled.params stepSegment 0 0 = [1] := by
    decide +kernel
  have hlist : (stepBeforeUnusedSpilled.blk.claspList stepBeforeUnusedSpilled.params stepSegment 0 0).1 = Status.ok := by
    decide +kernel
  have hroom : stepBeforeUnusedSpilled.blk.pgEntries + 1 ≤ stepBeforeUnusedSpilled.params.nodeCache := by
    decide +kernel
  have hparent : (stepBeforeUnusedSpilled.blk.node 0 0).parent = none := by decide
  have hsucc :
      ((stepBeforeUnusedSpilled.blk.listed stepBeforeUnusedSpilled.params stepSegment 0 0).node 0 1).used = true
      ∧ ((stepBeforeUnusedSpilled.blk.listed stepBeforeUnusedSpilled.params stepSegment 0 0).node 0 1).spilled = false
      ∧ ((stepBeforeUnusedSpilled.blk.listed stepBeforeUnusedSpilled.params stepSegment 0 0).node 0 1).count = 1 := by
    decide +kernel
  obtain ⟨hused, hcached, hcount⟩ := hsucc
  unfold EdgesReach
  rw [hedges]
  refine ⟨hlist, rfl, ⟨rfl, rfl, hroom⟩, rfl, rfl, by decide, fun e he => ?_, fun j hj => ?_⟩
  · rw [hparent] at he
    cases he
  · obtain rfl := List.mem_singleton.1 hj
    exact ⟨hused, hcached, List.not_mem_nil, .inr (Nat.le_of_eq hcount.symm)⟩

/-- While the STEP reads its list, the pager is asked to refill the entry that node 1 only claims to have (R236). -/
theorem heldReads_stepRetire_stepBeforeUnusedSpilled :
    (stepRetire stepBeforeUnusedSpilled.params 0 0 stepSegment stepBeforeUnusedSpilled.blk).mp.heldReads =
      [{ port := 63, id := 0, cls := 1, addr := 0, len := 32, purpose := .refill 0 1 }] := by decide +kernel

/-- Refutes O44: of the memory ports, a STEP that retires may change the record of an error alone, in every state. In
`stepBeforeUnusedSpilled` its list asks for the refill of an entry that is not in use, as a refused PARTITION_CTL
node's does. -/
theorem not_sequencesJoinBuildAndRetire : ¬ Obligations.SequencesJoinBuildAndRetire := by
  rintro ⟨-, -, -, -, -, hretire⟩
  have hacting : stepBeforeUnusedSpilled.blk.acting 0 0 5 = true := by decide +kernel
  obtain ⟨b, hexec, -, -, -, hframe⟩ := hretire stepBeforeUnusedSpilled 0 0 stepSegment Status.ok hacting rfl rfl
    edgesReach_stepBeforeUnusedSpilled (by decide)
  have hnone : b.mp.heldReads = [] := congrArg (·.mp.heldReads) hframe
  rw [← stepRetire_of_exec hexec, heldReads_stepRetire_stepBeforeUnusedSpilled] at hnone
  cases hnone

end Sys2Proof.Machine
end

section
/-! SUPPORT. Completion queues: delivery (R358 to R360, R363, R364, R369), fall-back (R367) and the commands (R365,
R382). -/

namespace Sys2Proof.Machine

/-! ### One queue changes -/

/-- Of the completion queues, `b'` has changed queue `c` of `b` alone, into `x`. -/
def Block.CqTo (b b' : Block) (c : Nat) (x : CQueue) : Prop := b'.cq c = x ∧ ∀ j, j ≠ c → b'.cq j = b.cq j

theorem Block.cqTo_modCq (b : Block) (c : Nat) (f : CQueue → CQueue) : b.CqTo (b.modCq c f) c (f (b.cq c)) :=
  ⟨Block.cq_modCq_self b c f, fun _ hj => Block.cq_modCq_ne b f (Ne.symm hj)⟩

/-- The completion queues are read from their table alone. -/
theorem Block.cq_congr {b b' : Block} (h : b'.cqs = b.cqs) (j : Nat) : b'.cq j = b.cq j := by
  simp only [Block.cq, h]

/-! ### FOREIGN records are discarded (R369) -/

/-- Of `b`, queue `c` has become `x`, and `lost` FOREIGN records have been discarded, which FB_LOST counts and source 8
reports. -/
structure Discarded (b b' : Block) (c : Nat) (x : CQueue) (lost : Nat) : Prop where
  queues : b.CqTo b' c x
  counted : 0 < lost → b'.evc.pends 8 = true ∧ b'.link.fbLost = satAdd 16 b.link.fbLost lost
  kept : lost = 0 → b'.link = b.link
  frame : b' = { b with
    cqs := b'.cqs, link := { b.link with fbLost := b'.link.fbLost }
    evc := { b.evc with pend := b'.evc.pend }, trace := b'.trace }

theorem Discarded.modCq {b b' : Block} {c : Nat} {x : CQueue} {lost : Nat} (h : Discarded b b' c x lost)
    (f : CQueue → CQueue) : Discarded b (b'.modCq c f) c (f x) lost where
  queues := ⟨(Block.cq_modCq_self b' c f).trans (congrArg f h.queues.1),
    fun j hj => (Block.cq_modCq_ne b' f (Ne.symm hj)).trans (h.queues.2 j hj)⟩
  counted := h.counted
  kept := h.kept
  frame := by
    obtain ⟨-, -, -, hframe⟩ := h
    rw [hframe]
    rfl

/-- One discard: queue `c` changes by `f`, FB_LOST counts `k` records, and source 8 is raised. -/
theorem discarded_raise (b : Block) (c : Nat) (f : CQueue → CQueue) {k : Nat} (hk : k ≠ 0) :
    Discarded b (Block.raise { b.modCq c f with link := { b.link with fbLost := satAdd 16 b.link.fbLost k } } 8)
      c (f (b.cq c)) k := by
  obtain ⟨hpends, -, hframe⟩ := raised_raise
    { b.modCq c f with link := { b.link with fbLost := satAdd 16 b.link.fbLost k } } (n := 8) (by decide) (by decide)
  have hlink := congrArg Block.link hframe
  have hcqs := congrArg Block.cqs hframe
  have hcq := Block.cq_congr (b := b.modCq c f) hcqs
  obtain ⟨hself, hothers⟩ := Block.cqTo_modCq b c f
  refine ⟨⟨(hcq c).trans hself, fun j hj => (hcq j).trans (hothers j hj)⟩,
    fun _ => ⟨hpends, congrArg (·.fbLost) hlink⟩, fun h => absurd h hk, ?_⟩
  · rw [hlink, hcqs]
    exact hframe

/-- R369: a queue that leaves ACTIVE keeps its own records alone. -/
theorem discarded_dropForeigns (b : Block) (c : Nat) :
    Discarded b (b.dropForeigns c) c { b.cq c with held := (b.cq c).held.filter fun y => y.foreign.isNone }
      ((b.cq c).held.filter fun y => y.foreign.isSome).length := by
  by_cases hk : ((b.cq c).held.filter fun y => y.foreign.isSome).length = 0
  · have hrun : b.dropForeigns c = b := if_pos hk
    have hheld : ((b.cq c).held.filter fun y => y.foreign.isNone) = (b.cq c).held := by
      refine List.filter_eq_self.2 fun y hy => ?_
      have hown := List.filter_eq_nil_iff.1 (List.length_eq_zero_iff.1 hk) y hy
      simpa using hown
    rw [hrun, hk, hheld]
    exact ⟨⟨rfl, fun _ _ => rfl⟩, fun h => absurd h (Nat.lt_irrefl 0), fun _ => rfl, rfl⟩
  · have hrun : b.dropForeigns c = Block.raise { b.modCq c _ with
        link := { b.link with fbLost := satAdd 16 b.link.fbLost _ } } 8 := if_neg hk
    rw [hrun]
    exact discarded_raise b c _ hk

/-! ### The steps of delivery -/

/-- R363, R364: what becomes of a queue that is unreachable. -/
def CQueue.unreachable (x : CQueue) (err : Nat) : CQueue :=
  { x with
    stage := if x.stage = CqStage.sending then .sending else .idle, freshHead := false, resuming := false
    err := err, reason := 2, state := if x.fbEn then .fallback else .fault
    held := x.held.filter fun y => y.foreign.isNone }

/-- The FOREIGN records are discarded first; a queue without fall-back is then reported with source 896 + c / 64. -/
theorem cqUnreachable_eq (b : Block) (c err : Nat) :
    ∃ left, Discarded { b with mp := b.mp.scrapCq c } left c ((b.cq c).unreachable err)
        ((b.cq c).held.filter fun y => y.foreign.isSome).length
      ∧ b.cqUnreachable c err =
        if (b.cq c).fbEn then left else (left.raise (896 + c / 64)).claspLocket 0x33 (pack [(c, 12, 0)]) :=
  ⟨_, (discarded_dropForeigns { b with mp := b.mp.scrapCq c } c).modCq _, rfl⟩

theorem cqTo_cqUnreachable (b : Block) (c err : Nat) : b.CqTo (b.cqUnreachable c err) c ((b.cq c).unreachable err) := by
  obtain ⟨left, ⟨⟨hself, hothers⟩, -, -, -⟩, hrun⟩ := cqUnreachable_eq b c err
  rw [hrun]
  split
  · exact ⟨hself, hothers⟩
  · exact ⟨(Block.cq_raise _ _ _).trans hself, fun j hj => (Block.cq_raise _ _ _).trans (hothers j hj)⟩

/-- What an unreachable queue changes beside its own entry. -/
theorem cqUnreachable_spec (b : Block) {c : Nat} (err : Nat) (hc : c < 4096) :
    let lost := ((b.cq c).held.filter fun y => y.foreign.isSome).length
    let b' := b.cqUnreachable c err
    ((b.cq c).fbEn = false → b'.evc.pends (896 + c / 64) = true)
      ∧ (0 < lost → b'.evc.pends 8 = true ∧ b'.link.fbLost = satAdd 16 b.link.fbLost lost)
      ∧ (lost = 0 → b'.link = b.link)
      ∧ b' = { b with mp := b'.mp, cqs := b'.cqs, link := { b.link with fbLost := b'.link.fbLost }
                      evc := { b.evc with pend := b'.evc.pend }, trace := b'.trace, lkt := b'.lkt } := by
  intro lost b'
  obtain ⟨left, ⟨-, hcounted, hkept, hframe⟩, hrun⟩ := cqUnreachable_eq b c err
  change b' = _ at hrun
  clear_value b'
  by_cases hfb : (b.cq c).fbEn = true
  · obtain rfl : b' = left := hrun.trans (if_pos hfb)
    refine ⟨fun h => absurd (h.symm.trans hfb) (by decide), hcounted, hkept, ?_⟩
    rw [hframe]
  · obtain ⟨hpends, hothers8, hraised⟩ := raised_raise left (n := 896 + c / 64) (by omega) (by omega)
    have hlink := congrArg Block.link hraised
    rw [hrun, if_neg hfb]
    refine ⟨fun _ => hpends, fun h => ?_, fun h => hlink.trans (hkept h), ?_⟩
    · exact ⟨(hothers8 8 (by omega) (by decide)).trans (hcounted h).1, (congrArg (·.fbLost) hlink).trans (hcounted h).2⟩
    · generalize left.raise (896 + c / 64) = raised at *
      rw [hraised, hframe]
      rfl

/-- An idle queue that reads no HEAD for a RESUME keeps the rest of its entry. -/
theorem CQueue.unreachable_idle {x : CQueue} (hstage : x.stage = .idle) (hresuming : x.resuming = false) (err : Nat) :
    x.unreachable err = { x with
      stage := .idle, freshHead := false, reason := 2, err := err, held := x.held.filter fun y => y.foreign.isNone
      state := if x.fbEn = true then .fallback else .fault } := by
  unfold CQueue.unreachable
  rw [hstage, hresuming]
  rfl

theorem completionDelivery_active {b : Block} {c : Nat} {y : Comp} {r : List Comp} (hheld : (b.cq c).held = y :: r)
    (hstage : (b.cq c).stage = .idle) (hstate : (b.cq c).state = .active) (hresuming : (b.cq c).resuming = false) :
    completionDelivery c b = b.cqDeliver c y := by
  simp [completionDelivery, hheld, hstage, hstate, hresuming]

theorem completionDelivery_waits {b : Block} {c : Nat}
    (h : (b.cq c).held = [] ∨ (b.cq c).stage ≠ .idle ∨ (b.cq c).resuming = true) : completionDelivery c b = b := by
  unfold completionDelivery
  cases hheld : (b.cq c).held with
  | nil => simp only [hheld]
  | cons y r =>
    have hstands : ((b.cq c).stage != .idle || (b.cq c).resuming) = true := by
      simpa [hheld] using h
    simp only [hheld, hstands, if_true]

theorem cqDeliver_unreachable {b : Block} {c : Nat} (h : (b.cq c).hostDown = true ∨ (b.cq c).headBad = true) (y : Comp) :
    b.cqDeliver c y = b.cqUnreachable c (if (b.cq c).hostDown = true then 3 else 2) := by
  unfold Block.cqDeliver
  by_cases hdown : (b.cq c).hostDown = true
  · simp only [hdown, if_true]
  · simp only [hdown, h.resolve_left hdown, if_true, Bool.false_eq_true, if_false]

/-- R358, R360: the record, and the PAD before it, are written, and the queue waits for as many acknowledges. -/
theorem cqWrite_spec (b : Block) (c : Nat) (y : Comp) :
    let x := b.cq c
    let k := x.pad y.units
    let b' := b.cqWrite c y
    ∃ n, b.CqTo b' c { x with stage := .records (y.units + k) n }
      ∧ b'.mp = (Block.put (if k = 0 then b else b.put 63 2 (x.ringAddr + 64 * (x.tail % x.size))
            (wordsBytes (packW [(0xF, 4, 60), (k, 8, 52)] :: List.replicate (8 * k - 1) 0)) (.cqRecord c))
          63 2 (x.ringAddr + 64 * ((x.tail + k) % x.size)) (wordsBytes (y.record x.cseq)) (.cqRecord c)).mp
      ∧ b' = { b with mp := b'.mp, cqs := b'.cqs } := by
  intro x k b'
  obtain ⟨padded, hpadded, hmp⟩ : ∃ padded, padded = (if k = 0 then b else b.put 63 2
      (x.ringAddr + 64 * (x.tail % x.size))
      (wordsBytes (packW [(0xF, 4, 60), (k, 8, 52)] :: List.replicate (8 * k - 1) 0)) (.cqRecord c))
      ∧ padded = { b with mp := padded.mp } := by
    refine ⟨_, rfl, ?_⟩
    split
    · rfl
    · rfl
  obtain ⟨n, hn⟩ : ∃ n, b' = (padded.put 63 2 (x.ringAddr + 64 * ((x.tail + k) % x.size))
      (wordsBytes (y.record x.cseq)) (.cqRecord c)).modCq c fun x => { x with stage := .records (y.units + k) n } := by
    subst hpadded
    exact ⟨_, rfl⟩
  rw [← hpadded, hn]
  obtain ⟨hself, hothers⟩ := Block.cqTo_modCq (padded.put 63 2 (x.ringAddr + 64 * ((x.tail + k) % x.size))
    (wordsBytes (y.record x.cseq)) (.cqRecord c)) c fun x => { x with stage := .records (y.units + k) n }
  have hcq (j : Nat) : (padded.put 63 2 (x.ringAddr + 64 * ((x.tail + k) % x.size)) (wordsBytes (y.record x.cseq))
      (.cqRecord c)).cq j = b.cq j := Block.cq_congr (congrArg (·.cqs) hmp) j
  refine ⟨n, ⟨hself.trans (by rw [hcq]), fun j hj => (hothers j hj).trans (hcq j)⟩, rfl, ?_⟩
  rw [hmp]
  rfl

/-- R359: HEAD is read. -/
theorem cqReadHead_spec (b : Block) (c : Nat) :
    b.CqTo (b.cqReadHead c) c { b.cq c with stage := .headRead }
      ∧ (b.cqReadHead c).mp = b.mp.ask 63 2 (b.cq c).ccbAddr 4 (.cqHead c)
      ∧ b.cqReadHead c = { b with mp := (b.cqReadHead c).mp, cqs := (b.cqReadHead c).cqs } :=
  ⟨Block.cqTo_modCq (b.ask 63 2 (b.cq c).ccbAddr 4 (.cqHead c)) c _, rfl, rfl⟩

/-- R364: what becomes of a queue in which there is no room for its own record. -/
def CQueue.noRoom (x : CQueue) : CQueue :=
  { x with
    freshHead := false, reason := if x.fbEn then 1 else x.reason, state := if x.fbEn then .fallback else .wait
    interval := if x.fbEn then x.interval else if x.state = CqState.wait then min 4096 (2 * x.interval) else 64 }

theorem CQueue.noRoom_active {x : CQueue} (h : x.state = .active) :
    x.noRoom = if x.fbEn = true then { x with freshHead := false, reason := 1, state := .fallback }
      else { x with freshHead := false, state := .wait, interval := 64 } := by
  unfold CQueue.noRoom
  by_cases hfb : x.fbEn = true
  · simp only [if_pos hfb]
  · have hwait : x.state ≠ .wait := by rw [h]; decide
    simp only [if_neg hfb, if_neg hwait]

theorem cqNoRoom_own {b : Block} {c : Nat} {y : Comp} {r : List Comp} (hheld : (b.cq c).held = y :: r)
    (hstate : (b.cq c).state = .active) (hown : y.foreign = none) :
    let x := b.cq c
    let own := x.held.filter fun y => y.foreign.isNone
    Discarded b (b.cqNoRoom c) c
      (if x.fbEn = true then { x with freshHead := false, reason := 1, state := .fallback, held := own }
        else { x with freshHead := false, state := .wait, interval := 64, held := own })
      (x.held.filter fun y => y.foreign.isSome).length := by
  intro x own
  have hfirst : x.foreignFirst = false := by simp [CQueue.foreignFirst, x, hheld, hown]
  have hrun : b.cqNoRoom c = (b.dropForeigns c).modCq c CQueue.noRoom := if_neg (by rw [hfirst]; decide)
  have hactive := CQueue.noRoom_active (x := { x with held := own }) hstate
  rw [hrun]
  exact Eq.mp (congrArg (Discarded b _ c · _) hactive) ((discarded_dropForeigns b c).modCq CQueue.noRoom)

/-- R369: no room for a FOREIGN record: it alone is discarded. -/
theorem cqNoRoom_foreign {b : Block} {c : Nat} {y : Comp} {r : List Comp} (hheld : (b.cq c).held = y :: r)
    (hstage : (b.cq c).stage = .idle) (hforeign : y.foreign ≠ none) :
    Discarded b (b.cqNoRoom c) c { b.cq c with freshHead := false, held := r } 1 := by
  have hfirst : (b.cq c).foreignFirst = true := by
    simp [CQueue.foreignFirst, hheld, Option.isSome_iff_ne_none.2 hforeign]
  have hrun : b.cqNoRoom c = b.dropForeign c := if_pos hfirst
  have hspec := discarded_raise b c (fun x => { x with held := x.held.drop 1, stage := .idle, freshHead := false })
    (k := 1) (by decide)
  rw [hrun]
  refine Eq.mp (congrArg (Discarded b _ c · _) ?_) hspec
  simp only [hheld, ← hstage, List.drop_one, List.tail_cons]

/-! ### Fall-back (R367) -/

theorem txPut_link (b : Block) (x : TxPacket) :
    (b.txPut x).link = { b.link with sending := (b.txPut x).link.sending, txq := b.link.txq ++ [x] }
      ∧ (b.link.sending ≠ none → (b.txPut x).link.sending = b.link.sending)
      ∧ b.txPut x = { b with link := (b.txPut x).link } := by
  unfold Block.txPut Block.txStart
  cases hsending : b.link.sending with
  | none => exact ⟨rfl, fun h => absurd rfl h, rfl⟩
  | some t => exact ⟨rfl, fun _ => hsending, rfl⟩

/-- R367, R371: the record goes to the peer that FB_PEER names, on the peer's lowest-numbered VALID entry. -/
theorem fallbackSend_sends {b : Block} {c k : Nat} {y : Comp} {r : List Comp} (hheld : (b.cq c).held = y :: r)
    (hstage : (b.cq c).stage = .idle) (hstate : (b.cq c).state = .fallback) (hown : y.foreign = none)
    (hen : b.link.en = true) (hvalid : (b.peer (b.cq c).fbPeer).valid = true)
    (hup : (b.peer (b.cq c).fbPeer).state = .up) (hpeer : b.peerFor (b.peer (b.cq c).fbPeer).peer = some k)
    (hup' : (b.peer k).state = .up) (hroom : b.link.txq.length < 64) (hon : (b.dom 6).state = .on) :
    fallbackSend c b = (b.txPut {
      words := completionPacket (b.peer k).rev (b.peer k).peer b.link.self c (b.cq c).reason (y.record (b.cq c).cseq)
      link := (b.peer k).link, peer := k, by' := .completion c }).modCq c fun x => { x with stage := .sending } := by
  have hsend : b.txRoom = true := by simp [Block.txRoom, hroom, hon]
  simp [fallbackSend, hheld, hstage, hstate, hown, hen, hvalid, hup, hpeer, hup', hsend]

/-! ### Commands (R365, R382) -/

theorem cqEnable_spec (b : Block) (c : Nat) :
    let x := b.cq c
    let may := (b.loader.state = .active ∨ b.loader.state = .patching) ∧ x.state = .disabled ∧ 6 ≤ x.log2sz
      ∧ x.log2sz ≤ 20 ∧ x.stage ≠ .enabling
    (may → cqEnable c b =
        (b.ask 63 2 x.ccbAddr 4 (.cqEnableHead c)).modCq c fun x => { x with stage := .enabling, cmdRej := false })
      ∧ (¬ may → cqEnable c b = b.rejCq c) := by
  have hmay : ((b.loader.state == .active || b.loader.state == .patching) && (b.cq c).state == .disabled
      && decide (6 ≤ (b.cq c).log2sz) && decide ((b.cq c).log2sz ≤ 20) && (b.cq c).stage != .enabling) = true ↔
      (b.loader.state = .active ∨ b.loader.state = .patching) ∧ (b.cq c).state = .disabled ∧ 6 ≤ (b.cq c).log2sz
        ∧ (b.cq c).log2sz ≤ 20 ∧ (b.cq c).stage ≠ .enabling := by
    simp [and_assoc]
  exact ⟨fun h => if_pos (hmay.2 h), fun h => if_neg (mt hmay.1 h)⟩

theorem cqDisable_spec (b : Block) (c : Nat) :
    let x := b.cq c
    let idle := x.stage ≠ .enabling ∧ x.held = [] ∧ ∀ t, t ∈ b.front.queues → t.2.cq ≠ c ∨ t.2.state = .disabled
    (idle → cqDisable c b = Block.modCq { b with mp := b.mp.scrapCq c } c fun x =>
        { x with state := .disabled, stage := .idle, resuming := false, cmdRej := false })
      ∧ (¬ idle → cqDisable c b = b.rejCq c) := by
  have hidle : ((b.cq c).stage != .enabling && (b.cq c).held.isEmpty
      && b.front.queues.all (fun t => t.2.cq != c || t.2.state == .disabled)) = true ↔
      (b.cq c).stage ≠ .enabling ∧ (b.cq c).held = []
        ∧ ∀ t, t ∈ b.front.queues → t.2.cq ≠ c ∨ t.2.state = .disabled := by
    simp [and_assoc]
  exact ⟨fun h => if_pos (hidle.2 h), fun h => if_neg (mt hidle.1 h)⟩

theorem cqResume_spec (b : Block) (c : Nat) :
    let x := b.cq c
    let down := (x.state = .fallback ∨ x.state = .fault) ∧ x.hostDown = false
    (down → cqResume c b = (b.ask 63 2 x.ccbAddr 4 (.cqHead c)).modCq c fun x =>
        { x with state := .active, err := 0, cmdRej := false, resuming := true })
      ∧ (¬ down → cqResume c b = b.rejCq c) := by
  have hdown : (((b.cq c).state == .fallback || (b.cq c).state == .fault) && !(b.cq c).hostDown) = true ↔
      ((b.cq c).state = .fallback ∨ (b.cq c).state = .fault) ∧ (b.cq c).hostDown = false := by
    simp
  exact ⟨fun h => if_pos (hdown.2 h), fun h => if_neg (mt hdown.1 h)⟩

theorem cqCommand_invalid (b : Block) (c : Nat) {op : BitVec 3} (h1 : op ≠ 1) (h2 : op ≠ 2) (h3 : op ≠ 3) :
    cqCommand c op.toNat b = b.rejCq c := by
  unfold cqCommand
  split
  · exact absurd (BitVec.eq_of_toNat_eq ‹_›) h1
  · exact absurd (BitVec.eq_of_toNat_eq ‹_›) h2
  · exact absurd (BitVec.eq_of_toNat_eq ‹_›) h3
  · rfl

/-- R382: LNK_CQ_CFG as a write of `d` leaves it while its queue is guarded: HOST_DOWN (bit 29) alone is written. -/
def cfgWithHostDown (cfg d : BitVec 32) : BitVec 32 := (cfg &&& ~~~0x20000000#32) ||| ((d &&& cqCfgMask) &&& 0x20000000#32)

theorem getLsbD_cfgWithHostDown (cfg d : BitVec 32) {i : Nat} (hi : i < 32) :
    (cfgWithHostDown cfg d).getLsbD i = if i = 29 then d.getLsbD 29 else cfg.getLsbD i := by
  have hbit : (0x20000000#32).getLsbD i = decide (i = 29) := by
    interval_cases i <;> rfl
  have hmask : cqCfgMask.getLsbD 29 = true := by decide
  simp only [cfgWithHostDown, BitVec.getLsbD_or, BitVec.getLsbD_and, BitVec.getLsbD_not, hbit, hi, decide_true,
    Bool.true_and]
  by_cases h29 : i = 29
  · subst h29
    simp [hmask]
  · simp [h29]

theorem cqCfgWrite_spec (b : Block) (c : Nat) (d : BitVec 32) :
    let x := b.cq c
    let free := x.state = .disabled ∧ x.stage ≠ .enabling
    (free → cqCfgWrite c d b = b.modCq c fun x => { x with cfg := d &&& 0xFFF8FF00#32 })
      ∧ (¬ free → cqCfgWrite c d b = b.modCq c fun x =>
          { x with cfg := cfgWithHostDown (b.cq c).cfg d
                   cmdRej := x.cmdRej || decide (cfgWithHostDown (b.cq c).cfg d ≠ d &&& 0xFFF8FF00#32) }) := by
  have hguarded : (b.cq c).guarded = true ↔ ¬ ((b.cq c).state = .disabled ∧ (b.cq c).stage ≠ .enabling) := by
    simp [CQueue.guarded, imp_iff_not_or]
  refine ⟨fun h => if_neg fun hg => hguarded.1 hg h, fun h => (if_pos (hguarded.2 h)).trans ?_⟩
  have hrej (v w : BitVec 32) : (v != w) = decide (v ≠ w) := by
    rw [Bool.eq_iff_iff]
    simp
  exact congrArg (b.modCq c) (funext fun x =>
    congrArg (fun r => { x with cfg := cfgWithHostDown (b.cq c).cfg d, cmdRej := x.cmdRej || r }) (hrej _ _))

/-! ### The statement -/

/-- COMPLETION_DELIVERY in a queue in ACTIVE that waits for nothing. -/
theorem completionDelivery_runs {s : State} {c : Nat} {y : Comp} {r : List Comp} (hheld : (s.blk.cq c).held = y :: r)
    (hstage : (s.blk.cq c).stage = .idle) (hstate : (s.blk.cq c).state = .active)
    (hresuming : (s.blk.cq c).resuming = false) {b : Block} (h : s.blk.cqDeliver c y = b) :
    exec (.completionDelivery c) s = .next { s with blk := b } :=
  next_block ((completionDelivery_active hheld hstage hstate hresuming).trans h)

theorem cqDeliver_writes {b : Block} {c : Nat} {y : Comp} (hdown : (b.cq c).hostDown = false)
    (hbad : (b.cq c).headBad = false) (hfits : (b.cq c).fits y.units = true) : b.cqDeliver c y = b.cqWrite c y := by
  simp [Block.cqDeliver, hdown, hbad, hfits]

theorem cqDeliver_reads {b : Block} {c : Nat} {y : Comp} (hdown : (b.cq c).hostDown = false)
    (hbad : (b.cq c).headBad = false) (hfits : (b.cq c).fits y.units = false) (hfresh : (b.cq c).freshHead = false) :
    b.cqDeliver c y = b.cqReadHead c := by
  simp [Block.cqDeliver, hdown, hbad, hfits, hfresh]

theorem cqDeliver_noRoom {b : Block} {c : Nat} {y : Comp} (hdown : (b.cq c).hostDown = false)
    (hbad : (b.cq c).headBad = false) (hfits : (b.cq c).fits y.units = false) (hfresh : (b.cq c).freshHead = true) :
    b.cqDeliver c y = b.cqNoRoom c := by
  simp [Block.cqDeliver, hdown, hbad, hfits, hfresh]

theorem cqHeadReread_waits {b : Block} {c : Nat} (hstate : (b.cq c).state = .wait) (hstage : (b.cq c).stage = .idle) :
    cqHeadReread c b = if (b.cq c).hostDown then b.cqUnreachable c 3 else b.cqReadHead c :=
  if_pos (by rw [hstate, hstage]; rfl)

/-- Settles O45: each step of delivery, and each command, is one operation on its queue, and the discards are those of
R369. -/
theorem completionsAndTheirQueues : Obligations.CompletionsAndTheirQueues := by
  refine ⟨⟨?_, fun s c h => next_block (completionDelivery_waits h), ?_, ?_, ?_⟩, ?_, ?_⟩
  · intro s c y r hheld hstage hstate hresuming x k own lost
    have hruns {b : Block} := completionDelivery_runs (b := b) hheld hstage hstate hresuming
    refine ⟨fun h hc => ?_, fun hdown hbad hfits => ?_, fun hdown hbad hfits hfresh => ?_,
      fun hdown hbad hfits hfresh hown => ?_, fun hdown hbad hfits hfresh hforeign => ?_⟩
    · obtain ⟨hself, hothers⟩ := cqTo_cqUnreachable s.blk c (if (s.blk.cq c).hostDown = true then 3 else 2)
      exact ⟨_, hruns (cqDeliver_unreachable h y), hself.trans (CQueue.unreachable_idle hstage hresuming _), hothers,
        cqUnreachable_spec s.blk _ hc⟩
    · obtain ⟨n, ⟨hself, hothers⟩, hmp, hframe⟩ := cqWrite_spec s.blk c y
      exact ⟨_, n, hruns (cqDeliver_writes hdown hbad hfits), hself, hothers, hmp, hframe⟩
    · obtain ⟨⟨hself, hothers⟩, hmp, hframe⟩ := cqReadHead_spec s.blk c
      exact ⟨_, hruns (cqDeliver_reads hdown hbad hfits hfresh), hself, hothers, hmp, hframe⟩
    · obtain ⟨⟨hself, hothers⟩, hcounted, hkept, hframe⟩ := cqNoRoom_own hheld hstate hown
      exact ⟨_, hruns (cqDeliver_noRoom hdown hbad hfits hfresh), hself, hothers, hcounted, hkept, hframe⟩
    · obtain ⟨⟨hself, hothers⟩, hcounted, -, hframe⟩ := cqNoRoom_foreign hheld hstage hforeign
      obtain ⟨hpends, hlost⟩ := hcounted Nat.zero_lt_one
      exact ⟨_, hruns (cqDeliver_noRoom hdown hbad hfits hfresh), hself, hothers, hpends,
        hframe.trans (by rw [hlost])⟩
  · intro s c hstate hstage hdown
    obtain ⟨⟨hself, hothers⟩, hmp, hframe⟩ := cqReadHead_spec s.blk c
    exact ⟨_, next_block ((cqHeadReread_waits hstate hstage).trans (if_neg (by rw [hdown]; decide))), hself, hothers,
      hmp, hframe⟩
  · intro s c hstate hstage hdown
    obtain ⟨hself, hothers⟩ := cqTo_cqUnreachable s.blk c 3
    exact ⟨_, next_block ((cqHeadReread_waits hstate hstage).trans (if_pos hdown)), congrArg CQueue.state hself,
      congrArg CQueue.err hself, hothers⟩
  · intro s c k y r hheld hstage hstate hown hen hvalid hup hpeer hup' hroom hon
    obtain ⟨hlink, hsending, hframe⟩ := txPut_link s.blk {
      words := completionPacket (s.blk.peer k).rev (s.blk.peer k).peer s.blk.link.self c (s.blk.cq c).reason
        (y.record (s.blk.cq c).cseq)
      link := (s.blk.peer k).link, peer := k, by' := .completion c }
    have hsends := fallbackSend_sends hheld hstage hstate hown hen hvalid hup hpeer hup' hroom hon
    generalize s.blk.txPut _ = sent at *
    have hcq := Block.cq_congr (b := s.blk) (congrArg (·.cqs) hframe)
    obtain ⟨hself, hothers⟩ := Block.cqTo_modCq sent c fun x => { x with stage := .sending }
    exact ⟨_, next_block hsends, hsending, hlink, hself.trans (by rw [hcq]),
      fun j hj => (hothers j hj).trans (hcq j), by rw [hframe]; rfl⟩
  · intro s a c hp x rej may idle down
    obtain ⟨henable, henableRej⟩ := cqEnable_spec s.blk c
    obtain ⟨hdisable, hdisableRej⟩ := cqDisable_spec s.blk c
    obtain ⟨hresume, hresumeRej⟩ := cqResume_spec s.blk c
    refine ⟨fun h => ?_, fun h => next_command hp _ (henableRej h), fun h => ?_,
      fun h => next_command hp _ (hdisableRej h), fun h => ?_, fun h => next_command hp _ (hresumeRej h),
      fun op h1 h2 h3 => next_command hp _ (cqCommand_invalid s.blk c h1 h2 h3)⟩
    · obtain ⟨hself, hothers⟩ := Block.cqTo_modCq (s.blk.ask 63 2 x.ccbAddr 4 (.cqEnableHead c)) c _
      exact ⟨_, next_command hp _ (henable h), hself, hothers, rfl, rfl⟩
    · obtain ⟨hself, hothers⟩ := Block.cqTo_modCq { s.blk with mp := s.blk.mp.scrapCq c } c _
      exact ⟨_, next_command hp _ (hdisable h), hself, hothers, rfl⟩
    · obtain ⟨hself, hothers⟩ := Block.cqTo_modCq (s.blk.ask 63 2 x.ccbAddr 4 (.cqHead c)) c _
      exact ⟨_, next_command hp _ (hresume h), hself, hothers, rfl, rfl⟩
  · intro s a c d hp x free
    obtain ⟨hfree, hguarded⟩ := cqCfgWrite_spec s.blk c d
    exact ⟨fun h => next_command hp _ (hfree h), fun h => ⟨_, next_command hp _ (hguarded h),
      fun i hi => getLsbD_cfgWithHostDown _ d hi⟩⟩

end Sys2Proof.Machine
end

section
/-! SUPPORT. A refused CONTEXT_REG node, and the state that refutes the statement on the commands of a context. -/

namespace Sys2Proof.Machine

/-- CONTEXT_REG leaves the block that `contextRegOp` gives as the operation of a PRIV node. -/
theorem contextReg_of_exec {s : State} {g i : Nat} {m : MemView} {b : Block}
    (h : exec (.contextReg g i m) s = .next { s with blk := b }) :
    s.blk.privAct s.params m g i 3 (contextRegOp s.params m) = b :=
  congrArg State.blk (Host.Outcome.next.inj h)

/-- The submission of a CONTEXT_REG node 0 that is READY, and of a WAIT node 1 that is not. -/
def contextRegSub : Sub :=
  { live := true, nnodes := 2
    nodes := [(0, { used := true, kind := 7, state := .ready, record := 0x40 }),
              (1, { used := true, kind := 3, count := 1, record := 0x80 })] }

/-- Its context is resident in partition 0. The cache has the two entries that its nodes take, and a pager region stands
behind it. The table of submissions is not in canonical form: the entry of submission 1 stands before that of submission
0, so that a write of submission 0 leaves the older entry in the table. No operation of the model makes such a table
(`wf_tset`), but this part of the statement speaks of every state. -/
def unsortedSubs : State :=
  { State.reset with
    params := { State.reset.params with nodeCache := 2 }
    blk :=
      { graph := { subs := [(1, { live := true }), (0, contextRegSub)], pgSize := 1 }
        parts := { parts := [(0, { state := .enabled, resident := some 0 })], ctxs := [(0, { state := .resident })] } } }

/-- The segment: node 0 is a CONTEXT_REG with OP 0, a RELEASE of context 0, which is not SWAPPED; it has no successors. -/
def refusedContextSegment : MemView := { words := [(0x40, 7), (0x50, 3), (0x80, 0x10003)] }

theorem claspEdges_unsortedSubs :
    unsortedSubs.blk.claspEdges unsortedSubs.params refusedContextSegment 0 0 = [] := by decide +kernel

/-- Node 0 has no edge to reach, and the pager is idle. -/
theorem edgesReach_unsortedSubs : EdgesReach unsortedSubs.params unsortedSubs.blk refusedContextSegment 0 0 := by
  have hlist : (unsortedSubs.blk.claspList unsortedSubs.params refusedContextSegment 0 0).1 = Status.ok := by
    decide +kernel
  have hroom : unsortedSubs.blk.pgEntries + 0 ≤ unsortedSubs.params.nodeCache := by decide +kernel
  have hparent : (unsortedSubs.blk.node 0 0).parent = none := by decide
  unfold EdgesReach
  rw [claspEdges_unsortedSubs]
  refine ⟨hlist, rfl, ⟨rfl, rfl, hroom⟩, rfl, rfl, List.not_mem_nil, fun e he => ?_, fun j hj => ?_⟩
  · rw [hparent] at he
    cases he
  · cases hj

/-- The pager counts the older entry's nodes as well, finds more entries than the cache holds, and spills node 1. -/
theorem spilled_contextReg_unsortedSubs :
    ((unsortedSubs.blk.privAct unsortedSubs.params refusedContextSegment 0 0 3
      (contextRegOp unsortedSubs.params refusedContextSegment)).node 0 1).spilled = true := by decide +kernel

theorem spilled_listed_unsortedSubs :
    ((unsortedSubs.blk.listed unsortedSubs.params refusedContextSegment 0 0).node 0 1).spilled = false := by
  decide +kernel

/-- Refutes O52: the end of a refused CONTEXT_REG node leaves every node alone that is neither its parent nor a successor,
in every state. In `unsortedSubs` the pager spills such a node. -/
theorem not_contextCommandsTakeEffect : ¬ Obligations.ContextCommandsTakeEffect := by
  rintro ⟨-, hnode⟩
  have hact : unsortedSubs.blk.gate 0 0 = .act := by decide +kernel
  have hparent : (unsortedSubs.blk.node 0 0).parent = none := by decide
  obtain ⟨-, -, hrefused⟩ := hnode unsortedSubs 0 0 refusedContextSegment rfl (by decide) hact edgesReach_unsortedSubs
  obtain ⟨b, hexec, ⟨-, hothers, -⟩, -⟩ := hrefused (.inr ⟨by decide, by decide +kernel⟩)
  have hsame := hothers 1 (by decide) (by rw [hparent]; decide)
    (by rw [claspEdges_unsortedSubs]; exact List.not_mem_nil)
  have hspilled := spilled_contextReg_unsortedSubs
  rw [contextReg_of_exec hexec, hsame, spilled_listed_unsortedSubs] at hspilled
  exact absurd hspilled (by decide)

end Sys2Proof.Machine
end
